-- ==== Sys2Proof/Word.lean ====
section
/-!
DEFINITION. The word types of the Eloatis FC64 manual: bytes, 32-bit registers, 64-bit frame numbers and calendar
stamps, and the sparse tables that hold every numbered group of objects.
-/
namespace Sys2Proof

/-- One byte. -/
abbrev Byte := BitVec 8

/-- A 32-bit device register word (R151). -/
abbrev Reg := BitVec 32

/-- A 64-bit word: a frame number (R41), a calendar stamp (R13), a point value (R54). -/
abbrev W64 := BitVec 64

/-- A sparse table of numbered objects: keys strictly rising, no entry equal to the table's default. -/
abbrev Tbl (α : Type) := List (Nat × α)

end Sys2Proof
end

