-- ==== Sys2Proof/Inputs.lean ====
section
/-!
DEFINITION. The operands of the commands: what the pins, the converters, the wires and the host bring with an event.
-/
namespace Sys2Proof

/-- How far the scan of a task got: to its end; cut by the strobe before the image copy ended, or after a number of
positions of its range, empty ones included (R305, R311); abandoned after a number of positions, where it read a word
that fails, of an instance (R327). -/
inductive ScanCut where
  | whole
  | copy
  | entries (n : Nat)
  | failed (n iid : Nat)
  deriving DecidableEq, Repr

/-- Readings of the converters at a sample boundary (R33, R34, R240): VSA mV, VSB mV and mA of strands; a metering
sample in 2^-23 of full scale by channel; nA of current-loop channels. A converter that is not named reads what it read
before. -/
structure Readings where
  line : List (Nat × Int × Int × Int)
  meter : List (Nat × Int)
  cl : List (Nat × Int)
  deriving DecidableEq, Repr

/-- SAMPLE_BOUNDARY: the readings of the sample that ends; how far the phase that begins gets (`none`: to its end; else
the step of R642 and the items reached in it); the scans of phase B that do not end; the control cores stand still, so
that a phase F that begins does nothing; the commands, by channel and tag, in whose execution a control core failed
(R130). DEDUCED: log entry 18. DESIGN CHOICE: log entry 77. -/
structure SampleIn where
  reads : Readings
  reach : Option (Nat × Nat)
  cuts : List (Nat × ScanCut)
  stopped : Bool
  coreFail : List (Nat × Nat)
  deriving DecidableEq, Repr

/-- FRAME_START: the readings of sample 31; how far phase A gets; the slow conversions of the metering inputs
(differential µV, P mV and N mV by channel) (R376); the die temperature in °C (R633). -/
structure FrameIn where
  reads : Readings
  reach : Option (Nat × Nat)
  dc : List (Nat × Int × Int × Int)
  temp : Int
  deriving DecidableEq, Repr

/-- The phases of a frame (R22). -/
inductive Phase where
  | a | b | c | d | e | f
  deriving DecidableEq, Repr

/-- WINDOW_END_STROBE: the phase, and the cycles measured in it: in all, of a phase other than B (R52), by lane (R52, R330)
and by task (R308). -/
structure WindowIn where
  phase : Phase
  cycles : Nat
  lanes : List (Nat × Nat)
  tasks : List (Nat × Nat)
  deriving DecidableEq, Repr

/-- The cycles that FRAME_PEAK_k takes: for phase B those of the busiest lane (R52). -/
def WindowIn.peak (x : WindowIn) : Nat :=
  if x.phase = .b then (x.lanes.map (·.2)).foldl max 0 else x.cycles

/-! ### Ports and network time (06) -/

/-- A received pause frame: 802.3x with its quanta, or PFC with its class-enable vector and quanta by class (R211). -/
inductive PauseFrame where
  | pause (quanta : Nat)
  | pfc (classes : BitVec 8) (quanta : List Nat)
  deriving DecidableEq, Repr

/-- The head of a frame that a port receives (R203, R204): PCP and VID of its tag, its EtherType, its octets from the
destination address to the FCS, and whether the FCS is right. -/
structure FrameHead where
  tag : Option (BitVec 3 × BitVec 12)
  etherType : Nat
  len : Nat
  fcsOk : Bool
  deriving DecidableEq, Repr

/-- A request of a channel's host with an unsupported transport opcode, in its frame (R166, R203). -/
structure RequestIn where
  ch : Nat
  head : FrameHead
  deriving DecidableEq, Repr

/-- What WAKE_N does (R505, R508): it goes low, it has been low for 32 ms, it goes high. -/
inductive WakeChange where
  | falls
  | held
  | rises
  deriving DecidableEq, Repr

/-- A Sync with its Follow_Up (R223), each in its frame: times in ns, `rx` from sample 0 of this frame, `origin` since the
PTP epoch. -/
structure SyncIn where
  port : Nat
  head : FrameHead
  followHead : FrameHead
  domain : BitVec 8
  gm : BitVec 64
  syncSeq : BitVec 16
  followSeq : BitVec 16
  logInterval : Int
  rx : Int
  origin : Nat
  deriving DecidableEq, Repr

/-- An Announce in its frame (R222): the 802.1AS priority vector as one number, the better one smaller; the interval in ms. -/
structure AnnounceIn where
  port : Nat
  head : FrameHead
  domain : BitVec 8
  rank : Nat
  gm : BitVec 64
  utcOffset : BitVec 8
  utcValid : Bool
  interval : Nat
  deriving DecidableEq, Repr

/-- A peer delay message (R220): a request, or a response with its four times in ns. -/
inductive PdelayIn where
  /-- With the times at which it arrived and at which the answer to it leaves. -/
  | request (seq : BitVec 16) (t2 t3 : Int)
  | response (seq : BitVec 16) (t1 t2 t3 t4 : Int)
  deriving DecidableEq, Repr

/-- An address request (R204): ARP for an IPv4 address, or a neighbour solicitation for an IPv6 address, with the
sender's addresses. -/
inductive ArpIn where
  | arp (target sender : BitVec 32) (mac : BitVec 48)
  | neighbour (target sender : BitVec 128) (mac : BitVec 48)
  deriving DecidableEq, Repr

/-- The frame of an address request (R204). -/
structure ArpFrame where
  head : FrameHead
  ask : ArpIn
  deriving DecidableEq, Repr

/-- A frame that arrives at a port (R203). -/
structure RxFrame where
  port : Nat
  head : FrameHead
  deriving DecidableEq, Repr

/-! ### RDMA transport (05) -/

/-- The place of a packet in its message (R165). -/
inductive PktForm where
  | first | middle | last | only
  deriving DecidableEq, Repr

/-- A packet of a SEND (R165, R167, R204). -/
structure SendPkt where
  ipv6 : Bool
  dstIp : BitVec 128
  udpPort : Nat
  qpn : BitVec 24
  form : PktForm
  psn : BitVec 24
  data : List Byte
  deriving DecidableEq, Repr

/-- A NAK of the host (R174, R196, R197). -/
inductive NakKind where
  | remoteAccess
  | remoteOp
  | sequence
  | rnr
  deriving DecidableEq, Repr

/-! ### Strand lines (07, 08) -/

/-- A line symbol (R255). -/
inductive LineSym where
  | zero | one | v | w
  deriving DecidableEq, Repr

/-- A signal that the receiver of a strand meets (R234): which of its two levels the line has before it and in each half
bit period of it. -/
structure LineRx where
  before : Bool
  halves : List Bool
  deriving DecidableEq, Repr

/-! ### Handshake and recovery (18, 19) -/

/-- A handshake frame (R578): the riser port, the source MAC and the frame body. -/
structure HsIn where
  port : Nat
  head : FrameHead
  mac : BitVec 48
  body : List Byte
  deriving DecidableEq, Repr

/-- What the boot meets (R593, R595): WAKE_N low around the release of PORST_N, the step, 4 or 5, in which a flash error comes, and the first of the
first-start checks that fails. -/
structure BootIn where
  wakeLow : Bool
  flashErr : Option Nat
  startFail : Option Nat
  deriving DecidableEq, Repr

/-- A recovery datagram (R598): its MAC, IPv4 and UDP addresses and its body, and a flash error that its work meets. DESIGN CHOICE: log entry 77. -/
structure RecoveryIn where
  mac : BitVec 48
  ip : BitVec 32
  port : Nat
  dstMac : BitVec 48
  dstIp : BitVec 32
  dstPort : Nat
  body : List Byte
  flashErr : Bool
  deriving DecidableEq, Repr

/-- What a pass of the memory scrub found (R638): corrected errors; commands whose held state fails, by channel and tag
(R130); downlink buffers that fail, by strand and node (R283); uncorrectable errors in words to whose failure no rule
gives another effect than the count. Every other failing word has a command of its own. DEDUCED: log entry 79. -/
structure ScrubIn where
  corrected : Nat
  commands : List (Nat × Nat)
  downlinks : List (Nat × Nat)
  others : Nat
  deriving DecidableEq, Repr

/-! ### Safety island (13) -/

/-- Levels at the island's pins at a tick: SIN channels, SAFE_EN, SBF closed, SBI in mV. -/
structure TickIn where
  pinA : BitVec 8
  pinB : BitVec 8
  enA : Bool
  enB : Bool
  sbf : BitVec 4
  sbi : List Nat
  deriving DecidableEq, Repr

/-- A pin of the stop path (R445). -/
inductive SafePin where
  | sinA (k : Nat)
  | sinB (k : Nat)
  | enA
  | enB
  deriving DecidableEq, Repr

/-- What holds a fault that clears (R442, R450, R451). -/
inductive SafeUnit where
  | input (k : Nat)
  | output (j : Nat)
  | enable
  deriving DecidableEq, Repr

end Sys2Proof
end

