-- ==== Sys2Proof/Syntax.lean ====
section
/-!
DEFINITION. The commands of the block: one constructor for each row of the table of operations and events, in the
table's order, with the operands that the row's event carries (log entry 2).
-/
namespace Sys2Proof

/-- A command: a host operation that the module executes, or an event at a pin, a wire, a converter or a timer. -/
inductive Instr where
  /-- SAMPLE_BOUNDARY (R21, R33 to R35, R311, R333, R642): a new sample of the frame; the phase that begins with it does its work. -/
  | sampleBoundary (x : SampleIn)
  /-- FRAME_START (R26, R41, R642): sample 0 of a new frame: the counter, what ends with a frame, phase A. -/
  | frameStart (x : FrameIn)
  /-- WINDOW_END_STROBE (R24, R49, R50): the end of a phase window: the overrun and the cycles measured. -/
  | windowEndStrobe (x : WindowIn)
  /-- SILENCE_LATCH_CUT (R36, R525): two frames without a stroke set the silence latch. -/
  | silenceLatchCut
  /-- FAST_LOOP_OUTPUT_WRITE (R334, R355): cycle 1,250 of a sample; `n` fast loops have completed (`none`: all). -/
  | fastLoopOutputWrite (n : Option Nat)
  /-- PTP_ALIGN_EN_WRITE (R45): FRAME_CTRL.PTP_ALIGN_EN takes a value. -/
  | ptpAlignEnWrite (on : Bool)
  /-- TIMEBASE_MEASUREMENT (R45, R46): the offset measurement that waits drives the timebase. -/
  | timebaseMeasurement
  /-- TIMEBASE_MEASUREMENT_TIMEOUT (R45): 4 s without a measurement. -/
  | timebaseTimeout
  /-- COMMAND_ACCEPT (R100 to R112, R123, R126, R188): a packet of a SEND, in its frame, with its immediate data. -/
  | commandAccept (ch : Nat) (head : FrameHead) (p : SendPkt) (imm : Option Reg)
  /-- GROUP_ARRIVAL_TIMEOUT (R126): 16 frames since the first member of the open group. -/
  | groupArrivalTimeout (ch : Nat)
  /-- COMMAND_LIMIT (R129): 16 frames since the last wait of a command. -/
  | commandLimit (ch tag : Nat)
  /-- COMPLETION (R113, R185): the completion at the head of the transmit queue goes to the ring. -/
  | completion (ch : Nat)
  /-- NOP (R120): NOP, also an OPCODE that is not defined. -/
  | nop (ch tag : Nat)
  /-- POINT_READ (R138): read point records. -/
  | pointRead (ch tag : Nat)
  /-- POINT_WRITE (R150): write values, quality and detail of points. -/
  | pointWrite (ch tag : Nat)
  /-- POINT_CONFIG (R150): write attribute fields of points. -/
  | pointConfig (ch tag : Nat)
  /-- ALARM_ACK (R150): acknowledge alarm levels. -/
  | alarmAck (ch tag : Nat)
  /-- ALARM_DELAY_EXPIRY (R85): the delay of an alarm level ends. -/
  | alarmDelayExpiry (e l : Nat)
  /-- READ_ENTRY (R146): read entries of an object space. -/
  | readEntry (ch tag : Nat)
  /-- WRITE_ENTRY (R148): write entries of an object space. -/
  | writeEntry (ch tag : Nat)
  /-- READ_REG (R151): read device registers. -/
  | readReg (ch tag : Nat)
  /-- WRITE_REG (R151): write device registers. -/
  | writeReg (ch tag : Nat)
  /-- SHARE_MASK_WRITE (R77, R93): a word of a share-group mask. -/
  | shareMaskWrite (g : Nat) (hi : Bool) (v : Reg)
  /-- SUB_RANGE_WRITE (R87): the range of subscription entries of a partition. -/
  | subRangeWrite (p : Nat) (v : Reg)
  /-- SUB_ENABLE (R90): EN or POINT of a subscription entry. -/
  | subEnable (e : Nat) (img : BitVec 256)
  /-- BANK_EXCHANGE (R154, R318): arm or disarm a program exchange. -/
  | bankExchange (ch tag : Nat)
  /-- TASK_EN_WRITE (R315, R323): EN of a task. -/
  | taskEnWrite (t : Nat) (on : Bool)
  /-- LOOP_EN_WRITE (R348): EN of a loop. -/
  | loopEnWrite (j : Nat) (on : Bool)
  /-- LOOP_MODE_WRITE (R351): MODE of a loop. -/
  | loopModeWrite (j : Nat) (auto_ : Bool)
  /-- LOOP_FOLLOWING_ERROR (R354): the following-error timer of a loop reaches FE_TIME. -/
  | loopFollowingError (j : Nat)
  /-- STRAND_LINE_OFF (R155, R241): switch strands off. -/
  | strandLineOff (ch tag : Nat)
  /-- STRAND_LINE_ON (R155, R241): switch strands on. -/
  | strandLineOn (ch tag : Nat)
  /-- STRAND_LINE_RESET_LATCH (R155, R244): clear the latch-off. -/
  | strandLineResetLatch (ch tag : Nat)
  /-- HART_SEND (R156): place a HART request in a mailbox. -/
  | hartSend (ch tag : Nat)
  /-- TIME_SET_STEP (R157, R492): step the calendar. -/
  | timeSetStep (ch tag : Nat)
  /-- TIME_SET_SLEW (R157, R492): slew the calendar. -/
  | timeSetSlew (ch tag : Nat)
  /-- PAIR (R158, R520): PLY_CONTROL PAIR. -/
  | pair (ch tag : Nat)
  /-- UNPAIR (R158, R520): PLY_CONTROL UNPAIR. -/
  | unpair (ch tag : Nat)
  /-- YIELD (R158, R539): PLY_CONTROL YIELD. -/
  | yieldRole (ch tag : Nat)
  /-- RETRY (R158, R534): PLY_CONTROL RETRY. -/
  | retryCutover (ch tag : Nat)
  /-- UPDATE_BEGIN (R159, R591): open an update. -/
  | updateBegin (ch tag : Nat)
  /-- UPDATE_DATA (R159, R160): program container bytes. -/
  | updateData (ch tag : Nat)
  /-- UPDATE_END (R159, R591): verify the staged container. -/
  | updateEnd (ch tag : Nat)
  /-- UPDATE_ERASED (R591): the staging erase ends, without or with a flash error. -/
  | updateErased (ok : Bool)
  /-- UPDATE_VERIFIED (R591): verification of the staged container ends, with a flash error or without. -/
  | updateVerified (flashErr : Bool)
  /-- LIFECYCLE_SET (R161, R565, R566): request a lifecycle transition. -/
  | lifecycleSet (ch tag : Nat)
  /-- DEVICE_RESTART (R162): restart the module. -/
  | deviceRestart (ch tag : Nat)
  /-- CHANNEL_OPEN (R171, R173): OPEN written 1. -/
  | channelOpen (ch : Nat)
  /-- CHANNEL_CLOSE (R173): OPEN written 0. -/
  | channelClose (ch : Nat)
  /-- INVALID_REQUEST (R166): an unsupported transport opcode, in its frame. -/
  | invalidRequest (x : RequestIn)
  /-- HOST_ACK (R187, R196): an acknowledgement of the host. -/
  | hostAck (ch : Nat) (psn : BitVec 24)
  /-- HOST_NAK (R174, R196, R197): a NAK of the host. -/
  | hostNak (ch : Nat) (psn : BitVec 24) (kind : NakKind)
  /-- RETRANSMIT_TIMEOUT (R196): the acknowledgement timer expires. -/
  | retransmitTimeout (ch : Nat)
  /-- RNR_RETRY (R197): the wait of an RNR NAK ends. -/
  | rnrRetry (ch : Nat)
  /-- RECORD_TRANSMIT (R185, R195): a queued record goes to the ring. -/
  | recordTransmit (ch : Nat)
  /-- PRODUCER_PUBLISH (R187): the producer block is written. -/
  | producerPublish (ch : Nat)
  /-- LINK_UP (R230, R598): the link of a port comes up at a bit rate in Mbit/s. -/
  | linkUp (p mbit : Nat)
  /-- LINK_DOWN (R198, R230): the link of a port is lost. -/
  | linkDown (p : Nat)
  /-- PCS_SYNC_LOST (R230): loss of code-group synchronisation. -/
  | pcsSyncLost (p : Nat)
  /-- LINK_SEARCH_STEP (R606): 2 s of a link search. -/
  | linkSearchStep (p : Nat)
  /-- PORT_MODE_WRITE (R606): PORT_MODE written. -/
  | portModeWrite (p : Nat) (v : Reg)
  /-- ARP_REQUEST (R204): an address request. -/
  | arpRequest (p : Nat) (a : ArpFrame)
  /-- PAUSE_FRAME_RECEIVE (R211 to R213): a pause frame; ns from the sample start of its end and of the end of the frame being sent. -/
  | pauseFrameReceive (p : Nat) (f : PauseFrame) (ns hold : Nat)
  /-- PAUSE_TIMER_EXPIRY (R212): the pause timer of a class runs out. -/
  | pauseTimerExpiry (p c : Nat)
  /-- PAUSE_WATCHDOG (R217): received pause beyond LIMIT_MS. -/
  | pauseWatchdog (p : Nat)
  /-- PAUSE_RESUMED (R217): HOLDOFF_MS elapses. -/
  | pauseResumed (p : Nat)
  /-- RX_BUFFER_PAUSE (R215): the fill of the receive buffer in bytes. -/
  | rxBufferPause (p fill : Nat)
  /-- OWN_PAUSE_REPEAT (R215): 16,384 quanta after the last pause. -/
  | ownPauseRepeat (p : Nat)
  /-- RX_PAUSE_LIMIT (R216): 10 ms of own pause. -/
  | rxPauseLimit (p : Nat)
  /-- GATE_ENTRY_EXPIRY (R207): the interval of a gate entry ends. -/
  | gateEntryExpiry (p : Nat)
  /-- PTP_SYNC (R223): a Sync with its Follow_Up. -/
  | ptpSync (x : SyncIn)
  /-- PTP_ANNOUNCE (R222): an Announce. -/
  | ptpAnnounce (x : AnnounceIn)
  /-- ANNOUNCE_TIMEOUT (R222): three announce intervals pass. -/
  | announceTimeout (p : Nat)
  /-- PDELAY_REQ_SEND (R220): one second since the last Pdelay_Req. -/
  | pdelayReqSend (p : Nat)
  /-- PDELAY_MESSAGE (R220): a peer delay message. -/
  | pdelayMessage (p : Nat) (x : PdelayIn)
  /-- TIME_PPS_IN_EDGE (R224): a rising edge, ns from sample 0, after a high time in ns. -/
  | timePpsInEdge (ns high : Nat)
  /-- PPS_IN_FAULT (R224): an expected edge is missing. -/
  | ppsInFault
  /-- PPS_OUT_PULSE_END (R225): four samples of a pulse. -/
  | ppsOutPulseEnd
  /-- PHY_MDIO_CMD (R229): PHY_MDIO_CMD written. -/
  | phyMdioCmd (v : Reg)
  /-- MDIO_COMPLETE (R229): the MDIO operation ends, with the answer of a read. -/
  | mdioComplete (answer : Option (BitVec 16))
  /-- FAST_TRIP (R242): the instantaneous current of a strand. -/
  | fastTrip (k : Nat) (mA : Int)
  /-- LINE_OVERLOAD (R240): 100 frames of overload. -/
  | lineOverload (k : Nat)
  /-- LINE_BACKFEED (R240): two frames of reverse current. -/
  | lineBackfeed (k : Nat)
  /-- PRECHECK_PASSED (R241): the precheck has held. -/
  | precheckPassed (k : Nat)
  /-- INRUSH_END (R241): INRUSH_MS has elapsed. -/
  | inrushEnd (k : Nat)
  /-- RETRY_BACKOFF_END (R243): the back-off has elapsed. -/
  | retryBackoffEnd (k : Nat)
  /-- FAIL_CNT_CLEAR (R241): 10,000 frames in ON. -/
  | failCntClear (k : Nat)
  /-- STRAND_CYCLE_START (R264, R269): a strand cycle begins; transmit level in mV. -/
  | strandCycleStart (k level : Nat)
  /-- TRAILING_COPY_SEND (R269, R270): the trailing slot. -/
  | trailingCopySend (k level : Nat)
  /-- STRAND_REPLY_RECEIVE (R262, R268): a frame in the reply part: bit position, peak-to-peak level in mV, signal. -/
  | strandReplyReceive (k pos mv : Nat) (rx : LineRx)
  /-- REPLY_SLOT_MISS (R278): a reply slot ends without a valid reply. -/
  | replySlotMiss (k a : Nat)
  /-- TWIN_COPY_RECEIVE (R284): the copy of the twin: peak-to-peak level in mV, signal. -/
  | twinCopyReceive (k mv : Nat) (rx : LineRx)
  /-- NODE_EN_WRITE (R278): EN of a node table entry. -/
  | nodeEnWrite (k a : Nat) (on : Bool)
  /-- METER_ZERO_CROSSING (R372 to R375): a crossing of a phase of a set, in 1/65,536 sample. -/
  | meterZeroCrossing (x phase frac : Nat)
  /-- SENSOR_CONDITION (R393): a sensor condition is set or cleared. -/
  | sensorCondition (c : Nat)
  /-- METER_PERIODIC_SAVE (R396): the save every 1,000 frames. -/
  | meterPeriodicSave
  /-- ACC_PRESET (R387): a preset of accumulators. -/
  | accPreset (c : Nat) (mask : BitVec 7) (img : BitVec 1024)
  /-- PULSE_END (R401): WIDTH_MS frames of a pulse. -/
  | pulseEnd (k : Nat)
  /-- CL_CONDITION (R417): a channel condition is set or cleared. -/
  | clCondition (k : Nat)
  /-- HART_TRANSACTION_START (R423): the next transaction. -/
  | hartTransactionStart (k : Nat)
  /-- HART_REPLY (R424, R425): a valid reply: command, response code, device status, data. -/
  | hartReply (k cmd resp devst : Nat) (bytes : List Byte)
  /-- HART_NO_REPLY (R424, R425): no reply after the retries, or only a bad frame. -/
  | hartNoReply (k : Nat) (badFrame : Bool)
  /-- ISLAND_TICK (R434, R442 to R452): a tick with the levels at the pins. -/
  | islandTick (x : TickIn)
  /-- SAFETY_INPUT_FALL (R445): a falling level of the stop path. -/
  | safetyInputFall (p : SafePin)
  /-- DISCREPANCY_TIMEOUT (R442): the discrepancy time of an input is over. -/
  | discrepancyTimeout (k : Nat)
  /-- TEST_PULSE (R439): a test-pulse source goes low. -/
  | testPulse (srcB : Bool)
  /-- TEST_PULSE_CHECK (R440): 60 µs after the pulse tick: the levels of the inputs. -/
  | testPulseCheck (pinA pinB : BitVec 8)
  /-- SEAL_REREAD (R438): the seal pins under both pulls. -/
  | sealReread (up down : BitVec 8)
  /-- STP_OVERLOAD (R441): a test-pulse source cannot hold its level, or can again. -/
  | stpOverload (srcB on : Bool)
  /-- SWITCH_TEST_STEP (R452): a step of the switch test ends. -/
  | switchTestStep (j : Nat)
  /-- BRAKE_TIMEOUT (R451, R453): a time limit of an output expires. -/
  | brakeTimeout (j : Nat)
  /-- SAFETY_FAULT_CLEARED (R442, R450, R451): a fault clears after 1,000 ticks. -/
  | safetyFaultCleared (u : SafeUnit)
  /-- SAFE_VDD_CHANGE (R454, R617): SAFE_VDD in mV, and the seal pins. -/
  | safeVddChange (mV : Nat) (seals : BitVec 8)
  /-- ISLAND_SELF_TEST_END (R454): the self-test ends. -/
  | islandSelfTestEnd (passed : Bool)
  /-- ISLAND_OSC_FAULT (R434): the monitor oscillator sees ±10 %. -/
  | islandOscFault
  /-- ISLAND_LINK_LOST (R458): the snapshot is stale for 3 frames. -/
  | islandLinkLost
  /-- REC_MARK (R465): a host mark. -/
  | recMark (v : Reg)
  /-- SUPPLY_FAIL_WARNING (R560): SUPPLY_SENSE falls below its threshold. -/
  | supplyFailWarning
  /-- METER_SNAPSHOT (R396): the snapshot copy completes, so many µs after the warning. -/
  | meterSnapshot (us : Nat)
  /-- TAIL_SAVE_COMPLETE (R474): the tail copy completes. -/
  | tailSaveComplete
  /-- SUPPLY_CLEARED (R476, R560): the warning clears without a reset. -/
  | supplyCleared
  /-- VMAIN_FAIL (R483): VMAIN below 4.30 V. -/
  | vmainFail
  /-- VMAIN_RESTORE (R483): VMAIN above 4.45 V for 2 ms. -/
  | vmainRestore
  /-- RETENTION_LOSS (R486): VBKP below 1.50 V. -/
  | retentionLoss
  /-- RTC_COUNT (R489): one count of the calendar. -/
  | rtcCount
  /-- ALARM_FIRED (R499): a calendar alarm fires. -/
  | alarmFired (k : Nat)
  /-- ALARM_EN_WRITE (R499): the entry of a calendar alarm. -/
  | alarmEnWrite (k : Nat) (img : BitVec 256)
  /-- OSC_STOPPED (R491): the 32.768 kHz oscillator misses 4 cycles. -/
  | oscStopped
  /-- CAL_SLEW_DONE (R492): the slew offset is consumed. -/
  | calSlewDone
  /-- CAL_PTP_COMPARE (R495): the comparison with network time in ns since the PTP epoch. -/
  | calPtpCompare (ptpNs : Nat)
  /-- UTC_OFFSET_STEP (R497): the whole second after a change of UTC_OFFSET. -/
  | utcOffsetStep
  /-- TRIM_WINDOW_END (R502): a trim window ends. -/
  | trimWindowEnd
  /-- WAKE_PIN (R505, R508): WAKE_N changes, or has been low for 32 ms. -/
  | wakePin (x : WakeChange)
  /-- RL_ACK (R488): RL_ACK written 1. -/
  | rlAckWrite
  /-- SHUTDOWN (R506): SHUTDOWN written with its confirmation. -/
  | shutdownWrite (confirm : Reg)
  /-- PWR_HOLD_RELEASE (R506): 10 ms after the shutdown write. -/
  | pwrHoldRelease
  /-- SHUTDOWN_FAILED (R506): VMAIN stands 100 ms after PWR_HOLD fell. -/
  | shutdownFailed
  /-- PORST_ASSERT (R603): PORST_N low for a time in ns. -/
  | porstAssert (ns : Nat)
  /-- MAIN_RESET_RELEASE (R593, R604): the main domain leaves reset and boots. -/
  | mainResetRelease (x : BootIn)
  /-- RESET_OUT_RELEASE (R605): 10 ms after leaving reset. -/
  | resetOutRelease
  /-- THERMAL_RECOVER (R633): the junction falls below 135 °C. -/
  | thermalRecover (x : BootIn)
  /-- SCRUB_PASS (R638): the memory scrub completes a pass; what it found. -/
  | scrubPass (x : ScrubIn)
  /-- POINT_MEMORY (R94): uncorrectable error in VALUE or TSTAMP. -/
  | pointMemory (p : Nat)
  /-- POINT_QUARANTINED (R95): uncorrectable error in a configuration word of a point. -/
  | pointQuarantined (p : Nat)
  /-- ALARM_MEMORY (R97): uncorrectable error in an alarm entry. -/
  | alarmMemory (e : Nat)
  /-- SUB_MEMORY (R97): uncorrectable error in a subscription entry. -/
  | subMemory (e : Nat)
  /-- TASK_MEMORY (R327): uncorrectable error in a running task. -/
  | taskMemory (t pos iid : Nat)
  /-- BANK_MEMORY (R328): uncorrectable error in a bank entry. -/
  | bankMemory (n : Nat)
  /-- TASK_ENTRY_MEMORY (R329): uncorrectable error in a task entry. -/
  | taskEntryMemory (t : Nat)
  /-- LOOP_MEMORY (R356): uncorrectable error in a loop record. -/
  | loopMemory (j : Nat)
  /-- NODE_MEMORY (R283): uncorrectable error in a node table entry. -/
  | nodeMemory (k a : Nat)
  /-- ACC_MEMORY (R397): uncorrectable error in an accumulator. -/
  | accMemory (c : Nat)
  /-- CHANNEL_MEMORY (R405): uncorrectable error in a metering entry. -/
  | channelMemory (n : Nat)
  /-- CL_MEMORY (R428): uncorrectable error in a current-loop entry. -/
  | clMemory (k : Nat)
  /-- RECORD_MEMORY (R479): uncorrectable error in an entry of the recorder. -/
  | recordMemory (n : Nat)
  /-- RETAINED_MEMORY (R395, R479, R509): uncorrectable error in bytes of a retained entry. -/
  | retainedMemory (e : Nat) (mask : BitVec 32)
  /-- PLY_STATUS_RECEIVE (R514, R516, R520): a STATUS frame, received rx ns after sample 0. -/
  | plyStatusReceive (rx : Nat) (bytes : List Byte)
  /-- PLY_MIRROR_RECEIVE (R536): a ply frame. -/
  | plyMirrorReceive (bytes : List Byte)
  /-- PLY_CATCHUP_RECEIVE (R533): a ply frame. -/
  | plyCatchupReceive (bytes : List Byte)
  /-- PLY_NOTICE_RECEIVE (R515): a ply frame. -/
  | plyNoticeReceive (bytes : List Byte)
  /-- CATCHUP_SEND (R532): catch-up items go out. -/
  | catchupSend
  /-- CUTOVER_LOAD (R534): sample 2 of frame c + 1. -/
  | cutoverLoad
  /-- PLY_LINK_LOST (R517): no valid ply frame for LOSS_FR frames. -/
  | plyLinkLost
  /-- HB_LOST (R517): the heartbeat stands still. -/
  | hbLost
  /-- TWIN_LOST (R523): all evidence of the twin is gone. -/
  | twinLost
  /-- JOIN_STEP_TIMEOUT (R529): 1,000 frames in a join step. -/
  | joinStepTimeout
  /-- CATCHUP_RESTART (R534): 60,000 frames without a cutover. -/
  | catchupRestart
  /-- YIELD_SWAP (R539): sample 0 of the swap frame. -/
  | yieldSwap
  /-- YIELD_CANCELLED (R539): no YIELD_ACK in time. -/
  | yieldCancelled
  /-- SELF_YIELD (R540): YIELD_CYC cycles with the trailing copy only. -/
  | selfYield
  /-- DIGEST_RECOMPUTE (R530): the digest of a written area. -/
  | digestRecompute (a : Nat)
  /-- DIGEST_MISMATCH (R530): 1,000 frames of unequal digests. -/
  | digestMismatch
  /-- HEALTH (R542): HEALTH_FR frames. -/
  | health
  /-- HOST_HELLO (R578, R580): HOST_HELLO. -/
  | hostHello (f : HsIn)
  /-- HOST_FINISH (R578, R580): HOST_FINISH. -/
  | hostFinish (f : HsIn)
  /-- HANDSHAKE_TIMEOUT (R580): 1 s without HOST_FINISH. -/
  | handshakeTimeout
  /-- ENROLL (R577): ENROLL. -/
  | enroll (f : HsIn)
  /-- END (R582): END. -/
  | sessionEnd (f : HsIn)
  /-- SESSION_IDLE (R582): 10,000 frames without an authentic command. -/
  | sessionIdle
  /-- SESSION_CLOSE (R582): the end of phase E after the decision. -/
  | sessionClose
  /-- DEBUG_ATTACHED (R585): a debug session attaches. -/
  | debugAttached
  /-- ENTROPY_FAULT (R580): the entropy source fails its test. -/
  | entropyFault
  /-- RECOVERY_LINK_SEARCH (R598): 2 s without link in recovery mode. -/
  | recoveryLinkSearch
  /-- IDENT (R598 to R600): a recovery datagram: identity. -/
  | recoveryIdent (x : RecoveryIn)
  /-- BEGIN (R598 to R600): a recovery datagram: erase the staging slot. -/
  | recoveryBegin (x : RecoveryIn)
  /-- DATA (R598 to R600): a recovery datagram: program container bytes. -/
  | recoveryData (x : RecoveryIn)
  /-- RECOVERY_END (R598 to R600): a recovery datagram: check and install the container. -/
  | recoveryEnd (x : RecoveryIn)
  /-- BOOT (R598 to R600): a recovery datagram: restart through the normal boot. -/
  | recoveryBoot (x : RecoveryIn)
  /-- RECOVERY_ERASE_DONE (R600): the recovery erase completes. -/
  | recoveryEraseDone
  /-- RESTART_RESET (R162, R566): the reset that follows a restart command and its saves. -/
  | restartReset
  /-- HART_RETRY (R422): a request is sent again. -/
  | hartRetry (k : Nat)
  /-- HART_BURST_FRAME (R422): a burst-mode frame. -/
  | hartBurstFrame (k : Nat)
  /-- RX_FRAME_DROPPED (R203): a frame arrives that the port may drop. -/
  | rxFrameDropped (x : RxFrame)
  /-- PLY_HB_IN_CHANGE (R517): a change of PLY_HB_IN. -/
  | plyHbInChange
  /-- OWN_PAUSE_SUPPRESSION_END (R216): 100 ms of suppression end. -/
  | ownPauseSuppressionEnd (p : Nat)
  /-- MASK_WINDOW_END (R446): 80 µs after a test-pulse tick: the levels of the inputs. -/
  | maskWindowEnd (pinA pinB : BitVec 8)
  deriving DecidableEq, Repr

end Sys2Proof
end

