-- ==== Sys2Proof/Decode.lean ====
section
/-!
DEFINITION. The command that a word spells: the table of operations and events gives its rows no bits, so no word spells
one (DESIGN CHOICE: log entry 13).
-/
namespace Sys2Proof

/-- The command that the low `nbits` bits of `w` spell. -/
def decodeTableWord (_nbits _w : Nat) : Option Instr := none

end Sys2Proof
end

