-- ==== Sys2Proof/Machine/Bits.lean ====
section
/-!
DEFINITION. Bit fields, byte order (R10), saturating counters, sparse tables, CRC-16 and CRC-32: the small arithmetic
that every chapter of the manual uses.
-/
namespace Sys2Proof.Machine

/-- Field [lo + n - 1 : lo] of an image. -/
def fld {w : Nat} (x : BitVec w) (lo n : Nat) : BitVec n := x.extractLsb' lo n

/-- Bit `i` of an image. -/
def bit {w : Nat} (x : BitVec w) (i : Nat) : Bool := x.getLsbD i

/-- The image of width `w` that holds `v` at `lo` and 0 elsewhere. -/
def put {n : Nat} (w lo : Nat) (v : BitVec n) : BitVec w := v.setWidth w <<< lo

/-- The image of width `w` that holds the Boolean `b` at bit `i`. -/
def putB (w i : Nat) (b : Bool) : BitVec w := if b then 1#w <<< i else 0#w

/-- The mask of a list of fields (lowest bit, width). -/
def maskOf (w : Nat) (fs : List (Nat × Nat)) : BitVec w :=
  fs.foldl (fun m f => m ||| (((BitVec.allOnes f.2).setWidth w) <<< f.1)) 0#w

/-- `old` with the bits of `mask` taken from `new`. -/
def mergeBits {w : Nat} (mask old new : BitVec w) : BitVec w := (old &&& ~~~mask) ||| (new &&& mask)

/-- A Boolean as one bit. -/
def b1 (b : Bool) : BitVec 1 := if b then 1#1 else 0#1

/-- Add to a counter that saturates at all ones ("saturates at 16#FFFF_FFFF"). -/
def satAdd {w : Nat} (x : BitVec w) (n : Nat) : BitVec w :=
  if x.toNat + n < 2 ^ w then BitVec.ofNat w (x.toNat + n) else BitVec.allOnes w

/-- The larger of two register values, unsigned (peak registers). -/
def maxU {w : Nat} (x y : BitVec w) : BitVec w := if x.toNat < y.toNat then y else x
/-- The smaller of two unsigned numbers. -/
def minU {w : Nat} (x y : BitVec w) : BitVec w := if x.toNat < y.toNat then x else y

/-- A natural number saturated to `w` unsigned bits. -/
def satNat (w n : Nat) : BitVec w := if n < 2 ^ w then BitVec.ofNat w n else BitVec.allOnes w

/-- An integer saturated to `w` signed bits. -/
def satInt (w : Nat) (i : Int) : BitVec w :=
  if i < -(2 ^ (w - 1) : Int) then BitVec.ofInt w (-(2 ^ (w - 1) : Int))
  else if (2 ^ (w - 1) : Int) ≤ i then BitVec.ofInt w ((2 ^ (w - 1) : Int) - 1)
  else BitVec.ofInt w i

/-- An integer clamped to a range. -/
def clampInt (lo hi i : Int) : Int := if i < lo then lo else if hi < i then hi else i

/-- The `n` low bytes of a number, least significant first (R10). -/
def leBytes : Nat → Nat → List Byte
  | 0, _ => []
  | n + 1, x => BitVec.ofNat 8 x :: leBytes n (x / 256)

/-- The number that bytes spell, least significant first (R10). -/
def leNat : List Byte → Nat
  | [] => 0
  | b :: bs => b.toNat + 256 * leNat bs

/-- The `n` low bytes of a number, most significant first (the order of standard protocol headers, R10). -/
def beBytes (n x : Nat) : List Byte := (leBytes n x).reverse

/-- The number that bytes spell, most significant first. -/
def beNat (bs : List Byte) : Nat := leNat bs.reverse

/-- The image of width `w` that bytes spell, least significant first. -/
def leBits (w : Nat) (bs : List Byte) : BitVec w := BitVec.ofNat w (leNat bs)

/-- `n` bytes of a list from an offset, zero beyond its end. -/
def slice (bs : List Byte) (off n : Nat) : List Byte :=
  let r := (bs.drop off).take n
  r ++ List.replicate (n - r.length) 0#8

/-- Cut a list into pieces of `k` elements (`fuel` bounds their number). -/
def chunks {α : Type} (k : Nat) : Nat → List α → List (List α)
  | 0, _ => []
  | _ + 1, [] => []
  | fuel + 1, xs => xs.take k :: chunks k fuel (xs.drop k)

/-! ### Sparse tables -/

/-- The object at key `k`; an unlisted key holds the default. -/
def tget {α : Type} (d : α) : Tbl α → Nat → α
  | [], _ => d
  | (k', v) :: t, k => if k' = k then v else tget d t k

/-- The table without key `k`. -/
def terase {α : Type} : Tbl α → Nat → Tbl α
  | [], _ => []
  | (k', v) :: t, k => if k' = k then terase t k else (k', v) :: terase t k

/-- The table with `v` at key `k`, in key order. -/
def tput {α : Type} : Tbl α → Nat → α → Tbl α
  | [], k, v => [(k, v)]
  | (k', v') :: t, k, v =>
    if k < k' then (k, v) :: (k', v') :: t
    else if k' = k then (k, v) :: t
    else (k', v') :: tput t k v

/-- Write one object: writing the default removes the entry, so that equal tables are equal data. -/
def tset {α : Type} [DecidableEq α] (d : α) (t : Tbl α) (k : Nat) (v : α) : Tbl α :=
  if v = d then terase t k else tput t k v

/-- Change one object of a table. -/
def tmod {α : Type} [DecidableEq α] (d : α) (t : Tbl α) (k : Nat) (f : α → α) : Tbl α :=
  tset d t k (f (tget d t k))

/-- The keys of the listed objects, rising. -/
def tkeys {α : Type} (t : Tbl α) : List Nat := t.map (·.1)

/-- Keys strictly rising from `lo`, every value different from the default. -/
def tblWfFrom {α : Type} [DecidableEq α] (d : α) : Nat → Tbl α → Bool
  | _, [] => true
  | lo, (k, v) :: t => decide (lo ≤ k) && decide (v ≠ d) && tblWfFrom d (k + 1) t

/-- The canonical form of a table. -/
def tblWf {α : Type} [DecidableEq α] (d : α) (t : Tbl α) : Bool := tblWfFrom d 0 t

/-! ### Lists of numbers -/

/-- The keys of `ks` rotated so that the first key not below `next` comes first (round-robin service). -/
def rotateFrom (next : Nat) (ks : List Nat) : List Nat :=
  ks.filter (fun k => decide (next ≤ k)) ++ ks.filter (fun k => decide (k < next))

/-- The largest of a list of numbers, 0 when it is empty. -/
def maxList (xs : List Nat) : Nat := xs.foldl max 0

/-- Apply `f i` for each `i` of a list, in order. -/
def forEach {σ α : Type} (xs : List α) (f : α → σ → σ) (s : σ) : σ := xs.foldl (fun a x => f x a) s

/-! ### Cyclic redundancy codes -/

/-- One bit of a CRC register of width `w`, most significant bit first, polynomial `p`. -/
def crcBit (w p : Nat) (c : Nat) (b : Bool) : Nat :=
  let top := (c >>> (w - 1)) % 2 == 1
  let c' := (2 * c) % 2 ^ w
  if Bool.xor top b then c' ^^^ p else c'

/-- The bits of a byte, most significant first. -/
def msbBits (b : Byte) : List Bool := [7, 6, 5, 4, 3, 2, 1, 0].map (fun i => b.getLsbD i)

/-- The bits of a byte, least significant first. -/
def lsbBits (b : Byte) : List Bool := [0, 1, 2, 3, 4, 5, 6, 7].map (fun i => b.getLsbD i)

/-- Bits of `x` in reverse order over width `w`. -/
def reverseBits (w x : Nat) : Nat :=
  (List.range w).foldl (fun a i => 2 * a + (x >>> i) % 2) 0

/-- CRC-32 with polynomial 16#04C1_1DB7, reflected, initial value and final complement all ones (R394, R475, R514). -/
def crc32 (bs : List Byte) : BitVec 32 :=
  let c := bs.foldl (fun c b => (lsbBits b).foldl (fun c v => crcBit 32 0x04C11DB7 c v) c) 0xFFFFFFFF
  BitVec.ofNat 32 (reverseBits 32 c ^^^ 0xFFFFFFFF)

end Sys2Proof.Machine
end

