-- ==== Sys2Proof/Machine/Float32.lean ====
section
/-!
DEFINITION. IEEE 754 binary32 arithmetic on bit images, rounded to nearest with ties to even (R12, R89, R298): values
are decoded exactly, combined exactly and narrowed once.
-/
namespace Sys2Proof.Machine

/-- A decoded binary32 value; a finite one is (−1)^neg × m × 2^e. -/
inductive F32 where
  | nan
  | inf (neg : Bool)
  | fin (neg : Bool) (m : Nat) (e : Int)
  deriving DecidableEq, Repr

/-- The value that 32 bits spell. -/
def f32Decode (x : BitVec 32) : F32 :=
  let neg := x.getLsbD 31
  let ex := (fld x 23 8).toNat
  let fr := (fld x 0 23).toNat
  if ex = 255 then (if fr = 0 then .inf neg else .nan)
  else if ex = 0 then .fin neg fr (-149)
  else .fin neg (fr + 8388608) ((ex : Int) - 150)

/-- The NaN that an operation delivers. -/
def f32Nan : BitVec 32 := 0x7FC00000

/-- The infinity of a sign. -/
def f32Inf (neg : Bool) : BitVec 32 := putB 32 31 neg ||| 0x7F800000

/-- Round m × 2^e (plus less than one unit where `sticky`) to the nearest binary32, ties to even. -/
def f32Round (neg : Bool) (m : Nat) (e : Int) (sticky : Bool) : BitVec 32 :=
  if m = 0 then putB 32 31 neg
  else
    let q : Int := max (e + (Nat.log2 m : Int) - 23) (-149)
    let m' : Nat :=
      if q ≤ e then m <<< (e - q).toNat
      else
        let s := (q - e).toNat
        let t := m >>> s
        let r := m - (t <<< s)
        let half := 1 <<< (s - 1)
        let up := decide (half < r) || (decide (r = half) && (sticky || t % 2 == 1))
        if up then t + 1 else t
    let c : Nat × Int := if m' = 16777216 then (8388608, q + 1) else (m', q)
    if c.1 < 8388608 then putB 32 31 neg ||| BitVec.ofNat 32 c.1
    else if 255 ≤ c.2 + 150 then f32Inf neg
    else putB 32 31 neg ||| BitVec.ofNat 32 ((c.2 + 150).toNat * 8388608 + (c.1 - 8388608))

/-- Signed magnitude at exponent `e` of a finite value of exponent `e' ≥ e`. -/
def f32Scaled (neg : Bool) (m : Nat) (e' e : Int) : Int :=
  let v : Int := (m <<< (e' - e).toNat : Nat)
  if neg then -v else v

/-- Is the image a NaN (R58). -/
def f32IsNan (x : BitVec 32) : Bool := f32Decode x == .nan

/-- Sum. -/
def f32Add (x y : BitVec 32) : BitVec 32 :=
  match f32Decode x, f32Decode y with
  | .nan, _ => f32Nan
  | _, .nan => f32Nan
  | .inf a, .inf b => if a = b then f32Inf a else f32Nan
  | .inf a, .fin .. => f32Inf a
  | .fin .., .inf b => f32Inf b
  | .fin na ma ea, .fin nb mb eb =>
    let e := min ea eb
    let s := f32Scaled na ma ea e + f32Scaled nb mb eb e
    if s = 0 then putB 32 31 (na && nb) else f32Round (decide (s < 0)) s.natAbs e false

/-- Negation. -/
def f32Neg (x : BitVec 32) : BitVec 32 := x ^^^ 0x80000000

/-- Difference. -/
def f32Sub (x y : BitVec 32) : BitVec 32 := if f32IsNan y then f32Nan else f32Add x (f32Neg y)

/-- Magnitude. -/
def f32Abs (x : BitVec 32) : BitVec 32 := x &&& 0x7FFFFFFF

/-- Product. -/
def f32Mul (x y : BitVec 32) : BitVec 32 :=
  match f32Decode x, f32Decode y with
  | .nan, _ => f32Nan
  | _, .nan => f32Nan
  | .inf a, .inf b => f32Inf (Bool.xor a b)
  | .inf a, .fin b m _ => if m = 0 then f32Nan else f32Inf (Bool.xor a b)
  | .fin a m _, .inf b => if m = 0 then f32Nan else f32Inf (Bool.xor a b)
  | .fin a ma ea, .fin b mb eb => f32Round (Bool.xor a b) (ma * mb) (ea + eb) false

/-- Quotient. -/
def f32Div (x y : BitVec 32) : BitVec 32 :=
  match f32Decode x, f32Decode y with
  | .nan, _ => f32Nan
  | _, .nan => f32Nan
  | .inf _, .inf _ => f32Nan
  | .inf a, .fin b _ _ => f32Inf (Bool.xor a b)
  | .fin a _ _, .inf b => putB 32 31 (Bool.xor a b)
  | .fin a ma ea, .fin b mb eb =>
    if mb = 0 then (if ma = 0 then f32Nan else f32Inf (Bool.xor a b))
    else
      let n := ma <<< 60
      f32Round (Bool.xor a b) (n / mb) (ea - eb - 60) (n % mb != 0)

/-- Order of two values: `none` where one is a NaN; +0.0 equals −0.0. -/
def f32Cmp (x y : BitVec 32) : Option Ordering :=
  match f32Decode x, f32Decode y with
  | .nan, _ => none
  | _, .nan => none
  | .inf a, .inf b => some (if a = b then .eq else if a then .lt else .gt)
  | .inf a, .fin .. => some (if a then .lt else .gt)
  | .fin .., .inf b => some (if b then .gt else .lt)
  | .fin na ma ea, .fin nb mb eb =>
    let e := min ea eb
    some (compare (f32Scaled na ma ea e) (f32Scaled nb mb eb e))

/-- x < y. -/
def f32Lt (x y : BitVec 32) : Bool := f32Cmp x y == some .lt

/-- x ≤ y. -/
def f32Le (x y : BitVec 32) : Bool := f32Cmp x y == some .lt || f32Cmp x y == some .eq

/-- The integer converted to binary32. -/
def f32OfInt (i : Int) : BitVec 32 := f32Round (decide (i < 0)) i.natAbs 0 false

/-- A finite value rounded to the nearest integer, ties to even; `none` for an infinity or a NaN. -/
def f32ToInt (x : BitVec 32) : Option Int :=
  match f32Decode x with
  | .fin neg m e =>
    let n : Nat :=
      if 0 ≤ e then m <<< e.toNat
      else
        let s := (-e).toNat
        let t := m >>> s
        let r := m - (t <<< s)
        let half := 1 <<< (s - 1)
        if decide (half < r) || (decide (r = half) && t % 2 == 1) then t + 1 else t
    some (if neg then -(n : Int) else (n : Int))
  | _ => none

/-- The binary32 value nearest to the rational n / d with d > 0. -/
def f32OfRat (n : Int) (d : Nat) : BitVec 32 :=
  let k := n.natAbs <<< 80
  f32Round (decide (n < 0)) (k / d) (-80) (k % d != 0)

end Sys2Proof.Machine
end

