-- ==== Sys2Proof/Config.lean ====
section
/-!
DEFINITION. What an implementation fixes and the values that the manual leaves open. An opaque constant has no body:
nothing in Lean can evaluate it, and a statement that mentions it holds for every value.
-/
namespace Sys2Proof.Config

/-- A value that the manual leaves open after a step that goes on: one per use of the counter `fresh` (DESIGN CHOICE: log entry 8). -/
opaque freeNat : Nat → Nat

/-- A choice that the manual leaves open: one per use of the counter `fresh` (DESIGN CHOICE: log entry 8). -/
opaque freeBit : Nat → Bool

/-- Bytes from the entropy source (R580) and other open bytes (DESIGN CHOICE: log entry 8). -/
opaque freeByte : Nat → Byte

/-- Which of two zeros of different sign MIN, MAX and LIMIT deliver: true for the later operand (R298 states no order
of +0.0 and −0.0; DESIGN CHOICE: log entry 8). -/
opaque zeroTie : BitVec 32 → BitVec 32 → Bool

/-- DFILT where the sum of R340 falls outside 32 bits, a value that the manual does not state (DESIGN CHOICE: log entry 8). -/
opaque dfiltOut : Int → BitVec 32

/-- The word that a data entry carries for an output under FS_MASK, by the value its point holds: R279 gives VALUE to
the other outputs only (DESIGN CHOICE: log entry 8). -/
opaque maskedWord : BitVec 32 → BitVec 32

/-! The metering signal chain: the manual gives its stages, not every factor nor its rounding (R365 to R370, R377,
R388; DESIGN CHOICE: log entry 11). -/

/-- The factor of the first-order high-pass in 2^−32, within what its corner leaves open (R365). -/
opaque hpFactor : Int

/-- A value between samples, newest first: `n` / `d` samples before the newest (R365, R370, R377). -/
opaque interpolate : List Int → Nat → Nat → Int

/-- Correction of the leak, which is infinite at frequency 0, at the DC bin: real and imaginary part in 2^−30 (R388). -/
opaque leakDc : Int × Int

/-- Taper of the band-limited interpolation at a distance in 2^−28 sample, in 2^−30 (R388). -/
opaque taper : Nat → Nat

/-- The angle of the phasor 0 in 360° / 65,536 (R389). -/
opaque angleZero : Int

/-- The binary32 rendering of n / d, and of the square root of a quotient by 0 or below 0: the manual states none (R376). -/
opaque f32Near : Int → Nat → BitVec 32
opaque f32Sqrt : Int → Nat → BitVec 32

/-- The ringing of the second-order low-pass of a current-loop channel, in 2^−32: 0 for a maximally flat one (R412). -/
opaque clRing : Nat

/-- How far the drive of an output channel moves in a sample, from a level, for an error in nA: the manual gives the
regulator's aim, not its law (R413). -/
opaque clDrive : Nat → Nat → Nat

/-- Does a quotient that is not whole round up (DESIGN CHOICE: log entry 8). -/
opaque roundUp : Int → Nat → Bool

/-- What floating seal pins read as at a tick (R438; DESIGN CHOICE: log entry 8). -/
opaque sealRead : Nat → BitVec 8

/-! Secrets and keys that Mehrip programs and the manual does not print (R563, R564, R588; DESIGN CHOICE: log entry 4). -/

/-- The factory roots: 1 manufacture, 2 field, 3 return, as the container's ROOT numbers them. -/
opaque root : Nat → BitVec 256

/-- The public keys MFG_AUTH and RET_AUTH, X then Y. -/
opaque mfgAuth : List Byte
opaque retAuth : List Byte

/-- The image-signing public key of a root. -/
opaque imageKey : Nat → List Byte

/-- ROM_VERSION (R163). -/
opaque romVersion : BitVec 32

/-- The certificate of a root, written at module test (R576). -/
opaque certificate : Nat → List Byte

/-! The formats of retained data that a firmware knows beside its own: the manual prints none (R596; DESIGN CHOICE: log entry
124). Areas: 0 directory, 1 energy saves, 2 tail; the firmware's own format, then the one found. -/

/-- Does the firmware know an older format. -/
opaque knowsFormat : Nat → BitVec 16 → BitVec 16 → Bool

/-- The records of an energy save, and a record of the tail, in the own format from an older one. -/
opaque convertSave : BitVec 16 → BitVec 16 → List Byte → List Byte
opaque convertTail : BitVec 16 → BitVec 16 → List Byte → List Byte

end Sys2Proof.Config
end

