-- ==== Sys2Proof/Machine/StateBackup.lean ====
section
/-!
DEFINITION. The state of the backup domain (13), of the supplies and of the reset pins.
-/
namespace Sys2Proof.Machine

/-- States of a calendar alarm (R499). -/
inductive CalAlarmSt where
  | idle | armed | fired
  deriving DecidableEq, Repr

/-- Calendar alarm entry (R508). -/
structure CalAlarm where
  target : W64
  period : Reg
  fireCnt : Reg
  missed : BitVec 16
  st : CalAlarmSt
  late : Bool
  wakeEn : Bool
  en : Bool
  /-- Its firing has come and is not taken yet; true where it is late (DESIGN CHOICE: log entry 12). -/
  due : Option Bool
  deriving DecidableEq, Repr

/-- A calendar alarm after a retention loss (R508). -/
def CalAlarm.reset : CalAlarm := ⟨0, 0, 0, 0, .idle, false, false, false, none⟩

/-- A firing that waits for its report (R500). -/
structure AlarmReport where
  alarm : Nat
  at_ : W64
  late : Bool
  missed : Nat
  deriving DecidableEq, Repr

/-- A trim window in progress (R501). -/
structure TrimWin where
  /-- 1 PTP, 2 mains. -/
  src : Nat
  /-- RTC counts since the start, without slew and steps. -/
  counts : Nat
  /-- PTP: ms of network time so far; mains: crossings so far. -/
  ref : Nat
  /-- Mains: changes of tracking phase so far, and their correction in thirds of a period. -/
  changes : Nat
  thirds : Int
  /-- The window has reached its length. -/
  ended : Bool
  deriving DecidableEq, Repr

/-- An executed TIME_SET that waits for the next RTC count (R492): its channel, tag and SEQ. -/
structure TimeSetDue where
  ch : Nat
  tag : Nat
  seq : W64
  slew : Bool
  cal : W64
  /-- The command has ended with INTERNAL: whether it still takes effect is open (R130). -/
  ended : Bool
  deriving DecidableEq, Repr

/-- Where a shutdown stands (R506). -/
inductive ShutSt where
  | idle | wait | off
  deriving DecidableEq, Repr

/-- The backup domain. -/
structure Backup where
  /-- Calendar in counts of 1/32,768 s since 2000-01-01T00:00:00 (R489). -/
  cnt : Nat
  offCal : W64
  switchCnt : BitVec 16
  /-- Slew offset remaining, in RTC counts (R492), and RTC counts since its last correction. -/
  slewLeft : Int
  slewAcc : Nat
  slewing : Bool
  calSrc : Bool
  calSet : Bool
  oscStopped : Bool
  valid : Bool
  newLoss : Bool
  alarms : Tbl CalAlarm
  trimPpb : Int
  /-- Fractional accumulator of the trim, in 10^−9 counts. -/
  trimAcc : Int
  lastErr : Int
  lastMeas : W64
  rejectCnt : Reg
  srcUsed : BitVec 2
  win : Option TrimWin
  mainsEn : Bool
  ptpEn : Bool
  wakeCause : BitVec 8
  wakeAlarm : BitVec 3
  wakePinEn : Bool
  /-- Level of WAKE_N as its last event left it (R505). -/
  wakeN : Bool
  pwrHold : Bool
  shut : ShutSt
  /-- The next start-up's cause, once an event has set it (R507). -/
  nextCause : Option (BitVec 8)
  timeSet : List TimeSetDue
  /-- The step in seconds due at the next whole second, and the calendar count when it arose (R497). -/
  utcStep : Option (Int × Nat)
  /-- Second of network time of the last comparison (R495). -/
  lastCompare : Option Nat
  /-- An oscillator stop and alarm firings that wait for the next start-up (R491, R500). -/
  oscReport : Bool
  fired : List AlarmReport
  /-- DIE_TEMP.THERM_TRIP (R633). -/
  thermTrip : Bool
  /-- An uncorrectable error was found in save copy A or B, or in the tail (R395, R479). -/
  badA : Bool
  badB : Bool
  badTail : Bool
  /-- VBKP is fed from VMAIN; the interface lock-out holds (R483). -/
  onVmain : Bool
  lockout : Bool
  deriving DecidableEq, Repr

/-- The backup domain after a retention loss (R487, R508), on VBAT with the loss marked new (DESIGN CHOICE: log entry 5). -/
def Backup.reset : Backup where
  cnt := 0
  offCal := 0
  switchCnt := 0
  slewLeft := 0
  slewAcc := 0
  slewing := false
  calSrc := false
  calSet := false
  oscStopped := true
  valid := false
  newLoss := true
  alarms := []
  trimPpb := 0
  trimAcc := 0
  lastErr := 0
  lastMeas := 0
  rejectCnt := 0
  srcUsed := 0
  win := none
  mainsEn := false
  ptpEn := false
  wakeCause := 0
  wakeAlarm := 0
  wakePinEn := false
  wakeN := true
  pwrHold := true
  shut := .idle
  nextCause := some 0
  timeSet := []
  utcStep := none
  lastCompare := none
  oscReport := false
  fired := []
  thermTrip := false
  badA := false
  badB := false
  badTail := false
  onVmain := false
  lockout := true

/-- Why the main domain is to restart (R162, R566). -/
inductive RestartKind where
  | device (mode : Nat)
  | lifecycle
  deriving DecidableEq, Repr

/-- The main domain as a whole (R603, R593). -/
inductive MainSt where
  | reset | running | recovery
  deriving DecidableEq, Repr

/-- Supplies, reset pins and what is due at a restart. DEDUCED: log entry 52. -/
structure Power where
  main : MainSt
  /-- PORST_N is low. -/
  porst : Bool
  /-- The thermal trip holds the main domain in reset (R633). -/
  hot : Bool
  /-- RESET_OUT_N is low (R605). -/
  rstOut : Bool
  /-- SUPPLY_SENSE is below its threshold; the warning is in effect (R620). -/
  sense : Bool
  warn : Bool
  restart : Option RestartKind
  /-- Restart marker of DEVICE_RESTART MODE 1 (R593). -/
  marker : Bool
  deriving DecidableEq, Repr

/-- Before the first release of the main domain's reset (DESIGN CHOICE: log entry 1). -/
def Power.reset : Power where
  main := .reset
  porst := false
  hot := false
  rstOut := true
  sense := false
  warn := false
  restart := none
  marker := false

/-- DIE_TEMP beside THERM_TRIP (R633). -/
structure Thermal where
  hot : Bool
  peak : BitVec 10
  temp : BitVec 10
  deriving DecidableEq, Repr

end Sys2Proof.Machine
end

