-- ==== Sys2Proof/Machine/StateField.lean ====
section
/-!
DEFINITION. The state of the riser network unit (1), the strand lines and strand controllers (6).
-/
namespace Sys2Proof.Machine

/-! ### Riser ports (R201 to R230) -/

/-- The last Announce of a riser port (R222). -/
structure Master where
  /-- The 802.1AS priority vector as one number, the better one smaller. -/
  rank : Nat
  gm : W64
  utcOffset : BitVec 8
  utcValid : Bool
  /-- Announce interval in frames. -/
  interval : Nat
  /-- Frames since the Announce. -/
  age : Nat
  deriving DecidableEq, Repr

/-- One Ethernet port: 0 riser A, 1 riser B, 2 ply port (R226). -/
structure Port where
  cfg : Reg
  mode : Reg
  holdoff : Bool
  link : Bool
  sync : Bool
  speed : BitVec 2
  ip4 : Reg
  ip6 : Tbl Reg
  pauseCfg : Reg
  ptpLat : Reg
  pdelay : Reg
  pauseTimeCnt : Reg
  pauseRxCnt : Reg
  pauseTxCnt : Reg
  rxDropCnt : Reg
  /-- GATE_p_k (R227). -/
  gates : Tbl Reg
  /-- The gate list in force in this frame and its PORT_CFG (R210). -/
  liveGates : Tbl Reg
  liveCfg : Reg
  /-- Gate entry that holds now (R207). -/
  gateIdx : Nat
  /-- End of the pause timer of each held class, in 0.2 ns from the last sample boundary (R212). -/
  paused : Tbl Nat
  /-- Since when a class is held, in 0.2 ns from the last sample boundary (R212, R217). -/
  heldSince : Option Nat
  /-- Time held in this frame, in 0.2 ns (R217). -/
  heldNow : Nat
  /-- Time held per earlier frame of the last 1,000, newest first, as (LOGIC_TICK, time). -/
  heldPast : List (Nat × Nat)
  /-- Time held that PAUSE_TIME_CNT has not counted yet. -/
  heldRest : Nat
  /-- Samples left of the hold-off (R217). -/
  holdoffLeft : Nat
  /-- Receive buffer fill in bytes (R203). -/
  fill : Nat
  /-- The module holds the link partner by its own pause: samples since its start (R216). -/
  ownPause : Option Nat
  /-- Samples since the module last sent pause (R215). -/
  sincePause : Nat
  /-- Samples left in which the module sends no pause (R216). -/
  suppress : Nat
  /-- Link search: series position and frames in it, while the port searches (R606). -/
  search : Option (Nat × Nat)
  /-- Frames since the last Pdelay_Req (R220). -/
  pdelayAge : Nat
  pdelaySeq : BitVec 16
  master : Option Master
  deriving DecidableEq, Repr

/-- A port after reset (R226, R227). -/
def Port.reset : Port where
  cfg := put 32 2 3#3
  mode := put 32 2 1#1
  holdoff := false
  link := false
  sync := false
  speed := 0
  ip4 := 0
  ip6 := []
  pauseCfg := put 32 24 0x08#8 ||| put 32 12 200#12 ||| put 32 0 50#12
  ptpLat := 0
  pdelay := 0xFFFFFFFF
  pauseTimeCnt := 0
  pauseRxCnt := 0
  pauseTxCnt := 0
  rxDropCnt := 0
  gates := []
  liveGates := []
  liveCfg := put 32 2 3#3
  gateIdx := 0
  paused := []
  heldSince := none
  heldNow := 0
  heldPast := []
  heldRest := 0
  holdoffLeft := 0
  fill := 0
  ownPause := none
  sincePause := 0
  suppress := 0
  search := none
  pdelayAge := 0
  pdelaySeq := 0
  master := none

/-- A measurement handed to the timebase (R45, R223, R224). -/
structure Meas where
  /-- Sample 0 minus the nearest whole millisecond of network time, in nanoseconds. -/
  offset : Int
  /-- Network time of the sample 0 after the one measured, in milliseconds since the PTP epoch, where the source has an
  epoch (R46). -/
  target : Option W64
  /-- When the measurement was made, in frames begun since frame 0. -/
  taken : Nat
  deriving DecidableEq, Repr

/-- Network time (R220 to R225) and MDIO (R229). -/
structure NetTime where
  cfg : Reg
  utcOffset : BitVec 8
  utcValid : Bool
  slavePort : BitVec 2
  gmPresent : Bool
  gm : W64
  /-- Sync messages that the servo still discards (R222). -/
  discard : Nat
  ppsInOk : Bool
  /-- Nanoseconds since frame 0, on the module's count, of the last valid TIME_PPS_IN edge (R224). -/
  ppsLast : Option Nat
  /-- The edge due 1 s after it has neither come nor been missed (R224). -/
  ppsDue : Bool
  /-- The pin TIME_PPS_OUT is high, with the samples left (R225). -/
  ppsOut : Option Nat
  /-- Frame aligned by the last TIME_PPS_IN edge (R225). -/
  ppsFrame : Option W64
  /-- A valid measurement not yet taken by the timebase. -/
  meas : Option Meas
  /-- Network time in ms at sample 0 of a frame, and LOGIC_TICK of that frame (R225). -/
  lastNet : Option (Nat × Reg)
  /-- PHY_MDIO_CMD without BUSY (R228). -/
  mdio : Reg
  mdioBusy : Bool
  deriving DecidableEq, Repr

/-! ### Strand lines (R231 to R254) -/

/-- Line-power states (R241). -/
inductive LineSt where
  | off | precheck | inrush | on | retryWait | latched
  deriving DecidableEq, Repr

/-- Line power of one strand. -/
structure Line where
  cfg : Reg
  cfg2 : Reg
  st : LineSt
  failCnt : Nat
  /-- LINE_FAULT (R253). -/
  fault : BitVec 12
  sigOpen : Bool
  sigShort : Bool
  uv : Bool
  blocked : Bool
  iMa : BitVec 16
  vsa : BitVec 16
  vsb : BitVec 16
  ampl : BitVec 16
  peak : BitVec 16
  /-- STRAND_k_GATE. -/
  gate : Bool
  /-- Whole frames in the present state. -/
  frames : Nat
  /-- Complete frames of PRECHECK in which every sample held (R241). -/
  preRun : Nat
  /-- The present frame began in PRECHECK. -/
  preWhole : Bool
  /-- Some sample of PRECHECK in this frame failed a condition. -/
  preBad : Bool
  /-- Causes seen in this frame of PRECHECK: bits 0 supply missing, 1 foreign, 2 reversed. -/
  causes : BitVec 3
  /-- An overvoltage is pending (R241). -/
  ovPending : Bool
  /-- Codes already reported in this PRECHECK. -/
  reported : List Nat
  /-- Consecutive frames of overload and of back-feed (R240). -/
  overRun : Nat
  backRun : Nat
  /-- Frames left of RETRY_WAIT (R243). -/
  backoff : Nat
  /-- VSA stood above 60.0 V in the last sample (R240). -/
  ovSeen : Bool
  /-- The sums of VSA, VSB (mV) and current (mA) over the samples of this frame. -/
  sumA : Int
  sumB : Int
  sumI : Int
  /-- Transmit level: frames and sum of the present mean, runs of high, low and good means (R250). -/
  amplN : Nat
  amplSum : Nat
  highRun : Nat
  lowRun : Nat
  okRun : Nat
  deriving DecidableEq, Repr

/-- Line power after reset (R247, R253). -/
def Line.reset : Line where
  cfg := put 32 20 3000#12 ||| put 32 8 2000#12 ||| put 32 0 25#8
  cfg2 := put 32 16 20#8 ||| put 32 0 2800#12
  st := .off
  failCnt := 0
  fault := 0
  sigOpen := false
  sigShort := false
  uv := false
  blocked := false
  iMa := 0
  vsa := 0
  vsb := 0
  ampl := 0
  peak := 0
  gate := false
  frames := 0
  preRun := 0
  preWhole := false
  preBad := false
  causes := 0
  ovPending := false
  reported := []
  overRun := 0
  backRun := 0
  backoff := 0
  ovSeen := false
  sumA := 0
  sumB := 0
  sumI := 0
  amplN := 0
  amplSum := 0
  highRun := 0
  lowRun := 0
  okRun := 0

/-! ### Strand protocol (R255 to R291) -/

/-- What a reply slot gave, held for phase A (R280, R281). -/
inductive SlotResult where
  /-- A valid data reply of an ACTIVE node: its values and its STATUS. -/
  | data (values : List (BitVec 32)) (status : W64)
  /-- The STATUS of a valid data reply of a node in IDENTIFYING or MISMATCH (R282). -/
  | status (status : W64)
  | identityOk
  | mismatch
  | other
  | miss
  deriving DecidableEq, Repr

/-- A running strand cycle (R264 to R268). -/
structure Cycle where
  /-- Frame in which the cycle began and the calendar time of its sample 0. -/
  frame : W64
  cal : W64
  /-- The strand entry in force and the entries of the cycle's nodes, by address (R288). -/
  scfg : BitVec 512
  nodes : List (Nat × BitVec 256)
  /-- Frames left to the planned end (R265). -/
  left : Nat
  /-- MSEQ and body of the copy this module sent, once sent. -/
  sent : Option (BitVec 8 × List Byte)
  /-- Body of the valid twin copy heard (R284). -/
  heard : Option (List Byte)
  /-- Results of the reply slots by node address. -/
  results : List (Nat × SlotResult)
  /-- L_OK and T_OK of each valid reply of this cycle (R284). -/
  oks : List (Bool × Bool)
  /-- Frames begun when the cycle began, and the end of this module's copy in fabric cycles from sample 0 of the cycle
  (R245, R256). -/
  began : Nat
  txEnd : Nat
  /-- The cycle began with this module TRAILING, so that it carries the trailing copy (R524). -/
  trails : Bool
  deriving DecidableEq, Repr

/-- A node's downlink buffer: FS_MASK and output values (R279). -/
structure Downlink where
  fsMask : BitVec 32
  values : List (BitVec 32)
  deriving DecidableEq, Repr

/-- Strand configuration entry (R286) and the strand controller. -/
structure Strand where
  /-- RW fields at their places in the map of R286. -/
  cfg : BitVec 512
  configured : Bool
  twinDiffCnt : Reg
  twinMissCnt : Reg
  twinOkCnt : Reg
  rxAddrCnt : Reg
  rxMissCnt : Reg
  rxBadCnt : Reg
  dlSentCnt : Reg
  mseq : BitVec 8
  /-- Cycles without a valid twin copy in a row (R284). -/
  noTwinRun : Nat
  cycle : Option Cycle
  /-- The finished cycle whose results phase A has not committed. -/
  done : Option Cycle
  /-- Downlink buffers by node address. -/
  downlink : Tbl Downlink
  deriving DecidableEq, Repr

/-- The strand entry after reset (R286): ROUND_CYC 1, LOST_MISS 8, LATE_MISS 2. -/
def Strand.reset : Strand where
  cfg := put 512 32 1#10 ||| put 512 24 8#8 ||| put 512 16 2#8
  configured := false
  twinDiffCnt := 0
  twinMissCnt := 0
  twinOkCnt := 0
  rxAddrCnt := 0
  rxMissCnt := 0
  rxBadCnt := 0
  dlSentCnt := 0
  mseq := 0
  noTwinRun := 0
  cycle := none
  done := none
  downlink := []

/-- Node states (R278). -/
inductive NodeSt where
  | disabled | identifying | active | mismatch
  deriving DecidableEq, Repr

/-- Node table entry (R287). -/
structure Node where
  /-- RW fields at their places in the map of R287. -/
  cfg : BitVec 256
  serial : W64
  sat : BitVec 32
  nodeFw : BitVec 16
  miss : BitVec 8
  st : NodeSt
  lSeen : Bool
  tSeen : Bool
  /-- Status-3 mask (R282). -/
  fault3 : BitVec 32
  deriving DecidableEq, Repr

/-- The node table entry after reset (R287). -/
def Node.reset : Node where
  cfg := 0
  serial := 0
  sat := 0
  nodeFw := 0
  miss := 0
  st := .disabled
  lSeen := false
  tSeen := false
  fault3 := 0

end Sys2Proof.Machine
end

