-- ==== Sys2Proof/Machine/StateHost.lean ====
section
/-!
DEFINITION. The state of the host-facing subsystems: frame scheduler and timebase (4), point store (5), command
processor (3), transport (2), event recorder (12), fault registers and admission.
-/
namespace Sys2Proof.Machine

/-! ### Frame scheduler and timebase (R21, R41 to R52) -/

/-- Timebase states (R45). -/
inductive TbState where
  | free | acquiring | locked | holdover
  deriving DecidableEq, Repr

/-- Frame scheduler and timebase. -/
structure Timebase where
  /-- Frame counter (R41). -/
  frame : W64
  /-- Sample in progress, 0 to 31 (R21). -/
  sample : Nat
  /-- Calendar time of sample 0 of this frame (R313). -/
  cal0 : W64
  /-- FRAME_CTRL.STEP_EN. -/
  stepEn : Bool
  /-- FRAME_CTRL.PTP_ALIGN_EN. -/
  alignEn : Bool
  /-- FRAME_STATUS.PHASE_ONLY. -/
  phaseOnly : Bool
  /-- FRAME_STATUS.STEPPED. -/
  stepped : Bool
  /-- FRAME_STATUS.TB_STATE. -/
  tb : TbState
  /-- FRAME_OFFSET.OFFSET_NS. -/
  offsetNs : Reg
  /-- FRAME_CORR.CORR_PPB as a signed number. -/
  corrPpb : Int
  /-- FRAME_OVR.OVR. -/
  ovr : BitVec 6
  /-- FRAME_OVR_CNT_k. -/
  ovrCnt : Tbl Reg
  /-- FRAME_PEAK_k. -/
  peak : Tbl Reg
  /-- Frames since the last valid measurement (R45). -/
  sinceMeas : Nat
  /-- Consecutive measurements of at most 1 µs while ACQUIRING (R45). -/
  goodRun : Nat
  /-- Consecutive measurements above 10 µs while LOCKED (R45). -/
  badRun : Nat
  /-- Corrections in force at the last 16 measurements since the timebase left FREE, newest first (R45). -/
  corrHist : List Int
  /-- LOCKED has been entered since power-up (R46). -/
  lockedOnce : Bool
  /-- The frame number that the next frame receives, where an alignment step is due (R46). -/
  stepDue : Option W64
  /-- A 16#0115 has come, and no entry into LOCKED since (R643). -/
  acqAfterLoss : Bool
  /-- The phases whose work the window cut, with the work left (R49, R642). -/
  cut : List Phase
  /-- Frames begun since frame 0: an alignment step does not move it (DESIGN CHOICE: log entry 80). -/
  ran : Nat
  deriving DecidableEq, Repr

/-! ### Point store (R54 to R99) -/

/-- A point record (R54) with the store's own marks. -/
structure Point where
  alarmRef : BitVec 16
  changeCnt : BitVec 16
  detail : BitVec 8
  quality : BitVec 2
  owner : BitVec 6
  share : BitVec 3
  mirrored : Bool
  override : Bool
  subst : Bool
  ptype : BitVec 3
  shift : BitVec 5
  srcKind : BitVec 4
  srcIndex : BitVec 28
  tstamp : W64
  value : W64
  /-- A substitution is in force (R72); with SRC_KIND 0 the record does not show it. -/
  substForce : Bool
  /-- Quarantined after an error in a configuration word (R95). -/
  quarantined : Bool
  /-- A mirror entry for the point is due (R535). -/
  mirPending : Bool
  /-- The last update came from a mirror entry with PRODUCED = 1 (R536, R537). -/
  mirProduced : Bool
  deriving DecidableEq, Repr

/-- The point record after reset (R54): INITIAL with NO_VALUE. -/
def Point.reset : Point where
  alarmRef := 0
  changeCnt := 0
  detail := 1
  quality := 3
  owner := 0
  share := 0
  mirrored := false
  override := false
  subst := false
  ptype := 0
  shift := 0
  srcKind := 0
  srcIndex := 0
  tstamp := 0
  value := 0
  substForce := false
  quarantined := false
  mirPending := false
  mirProduced := false

/-- State of one alarm level (R85). -/
inductive LevelState where
  | normal
  | delaying (left : Nat)
  | active
  | clearWait
  deriving DecidableEq, Repr

/-- Alarm-limit entry (R82). Levels are numbered as the bits of ACTIVE: 0 LOLO, 1 LO, 2 HI, 3 HIHI. -/
structure Alarm where
  delayFr : BitVec 16
  levelEn : BitVec 4
  qEn : Bool
  latch : Bool
  copyP0 : Bool
  deadband : W64
  /-- LOLO_LIMIT, LO_LIMIT, HI_LIMIT, HIHI_LIMIT at keys 0 to 3. -/
  limits : Tbl W64
  levels : Tbl LevelState
  unacked : BitVec 4
  qActive : Bool
  qUnacked : Bool
  /-- Marked for notice (R85). -/
  marked : Bool
  /-- Transitions since the last record, saturating at 255 (R86). -/
  transitions : BitVec 8
  deriving DecidableEq, Repr

/-- The alarm-limit entry after reset (R82). -/
def Alarm.reset : Alarm where
  delayFr := 0
  levelEn := 0
  qEn := false
  latch := false
  copyP0 := false
  deadband := 0
  limits := []
  levels := []
  unacked := 0
  qActive := false
  qUnacked := false
  marked := false
  transitions := 0

/-- Subscription entry (R86); PARTITION is the range that holds it. -/
structure Sub where
  holdLeft : BitVec 16
  lastSent : W64
  minInterval : BitVec 16
  deadband : W64
  changes : BitVec 8
  en : Bool
  revoked : Bool
  pending : Bool
  onQuality : Bool
  onValue : Bool
  point : BitVec 17
  deriving DecidableEq, Repr

/-- The subscription entry after reset (R86). -/
def Sub.reset : Sub where
  holdLeft := 0
  lastSent := 0
  minInterval := 0
  deadband := 0
  changes := 0
  en := false
  revoked := false
  pending := false
  onQuality := false
  onValue := false
  point := 0

/-- The point store with its alarm and subscription tables. -/
structure PointStore where
  points : Tbl Point
  alarms : Tbl Alarm
  subs : Tbl Sub
  /-- SHARE_MASK_g as 64 bits, g = 1 to 7 (R77). -/
  shareMask : Tbl W64
  /-- SUB_RANGE_p (R86). -/
  subRange : Tbl Reg
  /-- NOTIFY_CTRL.NOTIFY_MAX. -/
  notifyMax : BitVec 13
  deferCnt : Reg
  eccCnt : Reg
  eccLast : Reg
  /-- Alarm entry at which the scan of R91 begins. -/
  alarmRR : Nat
  /-- Subscription entry at which the scan of R91 begins. -/
  subRR : Nat
  /-- The scan of this frame left due entries unserved (R92, R99). -/
  deferred : Bool
  deriving DecidableEq, Repr

/-! ### Command processor (R100 to R134) -/

/-- Where an accepted command stands. -/
inductive CmdStage where
  /-- Waits for its fence, its O wait, its barrier or its group, or for execution. -/
  | waiting
  /-- Passed check 17; applied in phase F (R122). -/
  | admitted
  /-- Its status is settled without its execution; it completes once the barriers before it have (R120, R126). -/
  | ended (status : Nat)
  /-- Execution ended; the reply writes wait for acknowledgement (R140). -/
  | replying
  /-- Its COMPLETION record waits in the transmit queue (R185). -/
  | finished
  deriving DecidableEq, Repr

/-- A command in flight (R107). -/
structure Cmd where
  ch : Nat
  hdr : BitVec 256
  payload : List Byte
  stage : CmdStage
  /-- Frame of acceptance (R126). -/
  arrived : W64
  /-- When its last wait before execution ended, in frames begun since frame 0 (R129). -/
  ready : Option Nat
  /-- What a READ_REG has returned, by register: its completion with OK takes it from the RC registers (R17, R152). -/
  taken : List Reg
  deriving DecidableEq, Repr

/-- The open atomic group of a channel (R123). -/
structure Group where
  id : BitVec 8
  size : Nat
  /-- SEQ of the member at position 0. -/
  firstSeq : W64
  tFlag : Bool
  notAfter : W64
  got : Nat
  /-- A member has failed a check of receipt: every other member completes with FENCE_ABORT (R125). -/
  aborted : Bool
  /-- When the first member arrived, in frames begun since frame 0 (R126). -/
  since : Nat
  deriving DecidableEq, Repr

/-- Command processor state outside the channels. -/
structure CmdState where
  /-- Commands in flight, in order of acceptance. -/
  slots : List Cmd
  /-- Admitted commands (channel, tag) in the order in which their decoding completed (R122). -/
  phaseF : List (Nat × Nat)
  /-- The phase F that runs: are the control cores stopped, and how many commands it reaches (R30, R49). -/
  running : Option (Bool × Option Nat)
  /-- Commands admitted while a phase F runs: they wait for the next one (R30). -/
  late : List (Nat × Nat)
  /-- Executed restart commands whose COMPLETION record is not yet written (R162). -/
  restarts : List Cmd
  /-- An admitted command that releases cost did not complete with OK: later ones are checked again (R551). -/
  recheck : Bool
  /-- CMD_POOL.PEAK. -/
  poolPeak : BitVec 8
  authCnt : Reg
  budgetCnt : Reg
  limitCnt : Reg
  /-- ADMIT_REFUSE (R554). -/
  admitRefuse : Reg
  admitRefuseCnt : Reg
  /-- A restart is due: no command is accepted (R162, R566). -/
  closing : Bool
  deriving DecidableEq, Repr

/-! ### Transport and attention rings (R165 to R200) -/

/-- Channel states (R173). -/
inductive ChState where
  | closed | opened | error
  deriving DecidableEq, Repr

/-- An attention record before it takes a slot (R175). -/
structure AttnRec where
  rtype : BitVec 8
  late : Bool
  calUnset : Bool
  frame : W64
  cal : W64
  body : BitVec 256
  deriving DecidableEq, Repr

/-- A finished command on its way to the ring (R179); the reply bytes are kept for REPLY_MAC. -/
structure Completion where
  tag : BitVec 8
  opcode : BitVec 8
  seq : W64
  status : BitVec 8
  failIndex : BitVec 32
  reply : List Byte
  frame : W64
  cal : W64
  calUnset : Bool
  /-- The command holds a slot that the record frees (R107). -/
  holdsSlot : Bool
  deriving DecidableEq, Repr

/-- An entry of a channel's transmit queue (R183). -/
inductive TxEntry where
  | completion (c : Completion)
  | record (r : AttnRec)
  deriving DecidableEq, Repr

/-- What a request of the module carries (R186, R187, R140). -/
inductive ReqKind where
  /-- Ring records up to, not including, this RING_SEQ. -/
  | records (upTo : BitVec 32)
  | publish (seq : BitVec 32)
  /-- The reply of a read, with the read's tag and SEQ. -/
  | reply (tag : Nat) (seq : W64)
  deriving DecidableEq, Repr

/-- An RDMA WRITE of the module that waits for acknowledgement (R196). -/
structure Req where
  psn : BitVec 24
  /-- PSN of the last packet of the message. -/
  lastPsn : BitVec 24
  kind : ReqKind
  addr : W64
  rkey : Reg
  data : List Byte
  imm : Option Reg
  deriving DecidableEq, Repr

/-- Drops since the last OVERFLOW record (R195). -/
structure Drops where
  firstFrame : W64
  lastFrame : W64
  total : BitVec 32
  cov : BitVec 16
  alarm : BitVec 16
  recd : BitVec 16
  event : BitVec 16
  time : BitVec 16
  queueFull : Bool
  ringFull : Bool
  /-- Calendar stamp of the last drop; it and `lastFrame` stamp the OVERFLOW record (R175). -/
  cal : W64
  calUnset : Bool
  /-- A drop came while the TIME record of a frame step waited, which goes first (R192). -/
  afterStep : Bool
  deriving DecidableEq, Repr

/-- No drops. -/
def Drops.none : Drops where
  firstFrame := 0
  lastFrame := 0
  total := 0
  cov := 0
  alarm := 0
  recd := 0
  event := 0
  time := 0
  queueFull := false
  ringFull := false
  cal := 0
  calUnset := false
  afterStep := false

/-- A channel: its descriptor block (R169) and its queue pair. -/
structure Channel where
  /-- RW fields of the descriptor block, each at its place in the map of R169, OPEN excluded. -/
  cfg : BitVec 1024
  st : ChState
  dropCnt : BitVec 32
  consSeq : BitVec 32
  pubSeq : BitVec 32
  nextSeq : BitVec 32
  openGen : BitVec 16
  errCode : BitVec 8
  /-- SEQ of the last packet that passed the authentication checks (R104). -/
  lastSeq : W64
  fenceFault : Bool
  /-- SEQ of the barrier that waited when a command was last refused on receipt: neither its OK nor that of an earlier
  barrier clears FENCE_FAULT (R119, R120). -/
  faultAfter : Option W64
  group : Option Group
  /-- Identifier and size of the last broken group, for its late members (R126). -/
  broken : Option (BitVec 8 × Nat)
  /-- Times RING_SEQ passed 0 since the channel opened (R177). -/
  epoch : Nat
  /-- PSN expected on the next SEND (R168). -/
  expPsn : BitVec 24
  /-- What the First and Middle packets of a SEND have brought (R165). -/
  rx : Option (List Byte)
  /-- PSN of the module's next request. -/
  nextPsn : BitVec 24
  unacked : List Req
  /-- Packets of the oldest request that the host has acknowledged (R165). -/
  ackedPkts : Nat
  /-- Retransmissions made of the oldest request (R196). -/
  retries : Nat
  /-- RNR retries made (R197). -/
  rnrTries : Nat
  /-- An RNR wait runs (R197). -/
  rnrWait : Bool
  /-- RING_SEQ before which every record is acknowledged (R187). -/
  ackedSeq : BitVec 32
  /-- Sample in which the channel last published, as 32 × frame + sample (R187). -/
  lastPub : Option Nat
  txq : List TxEntry
  /-- COMPLETION records that wait for a place in the transmit queue (R183; DEDUCED: log entry 84). -/
  backlog : List Completion
  drops : Drops
  /-- 16#0406 was reported for the present link loss (R198). -/
  linkWait : Bool
  deriving DecidableEq, Repr

/-- The descriptor block after reset (R169): PUB_IMM 1, RETRY_CNT 7, RNR_RETRY 7, ACK_TIMEOUT 10. -/
def Channel.reset : Channel where
  cfg := put 1024 27 1#1 ||| put 1024 18 7#3 ||| put 1024 15 7#3 ||| put 1024 10 10#5
  st := .closed
  dropCnt := 0
  consSeq := 0
  pubSeq := 0
  nextSeq := 0
  openGen := 0
  errCode := 0
  lastSeq := 0
  fenceFault := false
  faultAfter := none
  group := none
  broken := none
  epoch := 0
  expPsn := 0
  rx := none
  nextPsn := 0
  unacked := []
  ackedPkts := 0
  retries := 0
  rnrTries := 0
  rnrWait := false
  ackedSeq := 0
  lastPub := none
  txq := []
  backlog := []
  drops := Drops.none
  linkWait := false

/-- A held report of a rate-limited event (R640). -/
structure RateEntry where
  code : Nat
  scope : Nat
  /-- When the last report was made, in frames begun since frame 0. -/
  since : Nat
  /-- Occurrences (or the quantity the chapter names) held since. -/
  held : Nat
  /-- Some occurrence is held. -/
  any : Bool
  isFault : Bool
  obj : W64
  data : BitVec 128
  dests : List Nat
  deriving DecidableEq, Repr

/-- Transport state outside the channels. -/
structure Transport where
  chans : Tbl Channel
  /-- The module-wide event queue with the destination of each record (R183). -/
  evq : List (Nat × AttnRec)
  evqPeak : BitVec 13
  closedCnt : Reg
  consRejCnt : Reg
  /-- Rate-limited reports (R640). -/
  rates : List RateEntry
  /-- The channel at which the round-robin service of the transmit queues goes on (R185). -/
  turn : Nat
  deriving DecidableEq, Repr

/-! ### Event recorder (R463 to R482) -/

/-- A recorder record (R464) with the copy-out's marks. -/
structure Rec where
  cal : W64
  frame : BitVec 32
  object : BitVec 32
  seq : BitVec 32
  rep : BitVec 16
  code : BitVec 16
  lastDfr : BitVec 16
  snapEntry : BitVec 15
  snapLen : BitVec 5
  snapLost : Bool
  calUnset : Bool
  isFault : Bool
  subsystem : BitVec 4
  source : BitVec 2
  trigger : BitVec 4
  tail : Bool
  /-- A point-trigger record made with OWNER_COPY = 1 (R471). -/
  ownerCopy : Bool
  /-- REPEAT at the record's last ring copy, once copied (R471). -/
  copiedRep : Option (BitVec 16)
  /-- When the record was last copied to its rings, in frames begun since frame 0. -/
  copiedAt : Nat
  /-- When the first occurrence was captured, in frames begun since frame 0 (R470). -/
  firstAt : Nat
  deriving DecidableEq, Repr

/-- All fields of a record map at their reset value (R464). -/
def Rec.reset : Rec where
  cal := 0
  frame := 0
  object := 0
  seq := 0
  rep := 0
  code := 0
  lastDfr := 0
  snapEntry := 0
  snapLen := 0
  snapLost := false
  calUnset := false
  isFault := false
  subsystem := 0
  source := 0
  trigger := 0
  tail := false
  ownerCopy := false
  copiedRep := none
  copiedAt := 0
  firstAt := 0

/-- A capture of the newest records (R474): KIND, frame and calendar time, records in REC_SEQ order. -/
structure TailCap where
  kind : Nat
  frame : W64
  cal : W64
  recs : List Rec
  deriving DecidableEq, Repr

/-- What the recorder captures. -/
structure RecIn where
  source : BitVec 2
  trigger : BitVec 4
  code : Nat
  obj : Reg
  subsystem : Nat
  isFault : Bool
  ownerCopy : Bool
  words : List (BitVec 32)
  deriving DecidableEq, Repr

/-- The event recorder. -/
structure Recorder where
  /-- Records by store index, REC_SEQ mod 32,768 (R463). -/
  recs : Tbl Rec
  /-- Snapshot entries 0 to 32,767 (R469). -/
  snaps : Tbl (BitVec 256)
  /-- Records in the store, 0 to 32,768. -/
  stored : Nat
  /-- Next snapshot entry to allocate (R469). -/
  snapNext : Nat
  /-- REC_CFG (R480). -/
  cfg : Reg
  copyMax : BitVec 9
  /-- REC_NEXT. -/
  next : BitVec 32
  /-- REC_COPIED. -/
  copied : BitVec 32
  copyLost : Reg
  mergeCnt : Reg
  /-- REC_TAIL. -/
  tailInfo : Reg
  trigA : Tbl Reg
  trigB : Tbl Reg
  /-- VALUE, QUALITY and DETAIL at the previous evaluation of each trigger (R467). -/
  trigRef : Tbl (Option (W64 × BitVec 2 × BitVec 8))
  /-- The tail captured at a warning, until its copy is complete (R474). -/
  tail : Option TailCap
  /-- The triggers of the cycle that runs, which are recorded in their order at its end; none between cycles (R466). -/
  intake : Option (List RecIn)
  deriving DecidableEq, Repr

/-! ### Fault registers (R164, R643, R638) -/

/-- FAULT_SUM, FAULT_FIRST and the memory error counters. -/
structure FaultRegs where
  sum : Reg
  first : BitVec 16
  eccCorr : Reg
  eccUncorr : Reg
  scrubPass : Reg
  deriving DecidableEq, Repr

end Sys2Proof.Machine
end

