-- ==== Sys2Proof/Machine/StateIsland.lean ====
section
/-!
DEFINITION. The state of the safety island (11) and of the main domain's side of its diagnostics.
-/
namespace Sys2Proof.Machine

/-- Island states (R454). -/
inductive IslSt where
  | unpowered | init | ready | fault
  deriving DecidableEq, Repr

/-- Input states (R442). -/
inductive InSt where
  | closed | opened | discrepant | fault
  deriving DecidableEq, Repr

/-- Output states (R451); TESTING carries the step of R452. -/
inductive OutSt where
  | off | testing (step : Nat) | releasing | on | fault
  deriving DecidableEq, Repr

/-- One dual-channel input (R442, R456). -/
structure SafeIn where
  st : InSt
  /-- Discrepancy count c. -/
  c : Nat
  /-- FAULT: bit 3 CROSS_SHORT, 2 STUCK_B, 1 STUCK_A, 0 DISCREPANCY. -/
  fault : BitVec 4
  /-- Channels as last sampled: true for closed. -/
  chA : Bool
  chB : Bool
  lastDisc : BitVec 16
  discMax : BitVec 16
  changes : BitVec 16
  changeTick : Reg
  /-- Consecutive failures of R440 by kind: STUCK_A, CROSS_SHORT on source A, STUCK_B, CROSS_SHORT on source B. -/
  stuckARun : Nat
  crossARun : Nat
  stuckBRun : Nat
  crossBRun : Nat
  /-- Ticks for which both channels are open and SAFE_EN is low. -/
  clearRun : Nat
  deriving DecidableEq, Repr

/-- An input in INIT. -/
def SafeIn.reset : SafeIn where
  st := .opened
  c := 0
  fault := 0
  chA := false
  chB := false
  lastDisc := 0
  discMax := 0
  changes := 0
  changeTick := 0
  stuckARun := 0
  crossARun := 0
  stuckBRun := 0
  crossBRun := 0
  clearRun := 0

/-- One safe brake output (R451, R456). -/
structure SafeOut where
  st : OutSt
  /-- Ticks since the state or the test step was entered. -/
  ticks : Nat
  /-- FAULT: bit 3 COIL_CURRENT, 2 FEEDBACK, 1 SWITCH_LS, 0 SWITCH_HS. -/
  fault : BitVec 4
  /-- What the state logic drives; the pins follow it through the gates of R445. -/
  hs : Bool
  ls : Bool
  /-- SBF_k closed. -/
  sbf : Bool
  sbiMv : BitVec 16
  fbTicks : BitVec 16
  /-- The feedback response to the last release or stop is not seen yet. -/
  fbWait : Bool
  changes : BitVec 16
  changeTick : Reg
  /-- Ticks in ON with SBF_k closed, and with the coil current low. -/
  fbRun : Nat
  coilRun : Nat
  clearRun : Nat
  deriving DecidableEq, Repr

/-- An output in INIT. -/
def SafeOut.reset : SafeOut where
  st := .off
  ticks := 0
  fault := 0
  hs := false
  ls := false
  sbf := false
  sbiMv := 0
  fbTicks := 0
  fbWait := false
  changes := 0
  changeTick := 0
  fbRun := 0
  coilRun := 0
  clearRun := 0

/-- What each logic copy holds (R433): input states, output states, enable state. -/
structure IslCopy where
  ins : Tbl SafeIn
  outs : Tbl SafeOut
  /-- SAFE_EN_A and SAFE_EN_B as last sampled. -/
  enA : Bool
  enB : Bool
  /-- Both pins were sampled low at one tick since READY (R447). -/
  lowSeen : Bool
  enFault : Bool
  /-- Ticks of difference between the two pins, and ticks with both low. -/
  enDiff : Nat
  enClear : Nat
  /-- The SAFE_EN pulse of R449: ticks of the rises and of the first fall. -/
  riseA : Option Nat
  riseB : Option Nat
  fallA : Option Nat
  fallB : Option Nat
  deriving DecidableEq, Repr

/-- A copy in INIT. -/
def IslCopy.reset : IslCopy where
  ins := []
  outs := []
  enA := false
  enB := false
  lowSeen := false
  enFault := false
  enDiff := 0
  enClear := 0
  riseA := none
  riseB := none
  fallA := none
  fallB := none

/-- The safety island. -/
structure Island where
  st : IslSt
  /-- Ticks since power-up (R434). -/
  tick : Nat
  cause : BitVec 8
  sealVal : BitVec 8
  sealNow : BitVec 8
  sealFloat : BitVec 8
  copyA : IslCopy
  copyB : IslCopy
  /-- Present levels of SIN_k_A and SIN_k_B (bit k), and of the enable pins: true for high. -/
  pinA : BitVec 8
  pinB : BitVec 8
  pinEnA : Bool
  pinEnB : Bool
  /-- STP_A and STP_B high, and their overload flags (R441). -/
  stpA : Bool
  stpB : Bool
  ovlA : Bool
  ovlB : Bool
  /-- Mask windows (R439) and the pulse not yet checked. -/
  maskA : Bool
  maskB : Bool
  checkA : Bool
  checkB : Bool
  /-- Tick of the last pulse of each source. -/
  lastA : Option Nat
  lastB : Option Nat
  /-- SAFE_VDD in mV (R617). -/
  vdd : Nat
  /-- SAFE_OK_A and SAFE_OK_B. -/
  okA : Bool
  okB : Bool
  deriving DecidableEq, Repr

/-- The unpowered island (DESIGN CHOICE: log entry 6). -/
def Island.reset : Island where
  st := .unpowered
  tick := 0
  cause := 0
  sealVal := 0
  sealNow := 0
  sealFloat := 0
  copyA := IslCopy.reset
  copyB := IslCopy.reset
  pinA := 0
  pinB := 0
  pinEnA := false
  pinEnB := false
  stpA := false
  stpB := false
  ovlA := false
  ovlB := false
  maskA := false
  maskB := false
  checkA := false
  checkB := false
  lastA := none
  lastB := none
  vdd := 0
  okA := false
  okB := false

/-- The main domain's side: SAFE_MAP and the snapshot of the latest phase A (R456 to R459). -/
structure SafeDiag where
  en : Bool
  linkOk : Bool
  ptBase : BitVec 17
  /-- Entries 0 to 12 of space 16#60 as of the last snapshot. -/
  entries : Tbl (BitVec 512)
  /-- A snapshot was taken since reset. -/
  taken : Bool
  /-- Frames for which ISLAND_TICK has not changed. -/
  stale : Nat
  deriving DecidableEq, Repr

/-- After reset (R457). -/
def SafeDiag.reset : SafeDiag := ⟨false, false, 0, [], false, 0⟩

end Sys2Proof.Machine
end

