-- ==== Sys2Proof/Machine/StateLogic.lean ====
section
/-!
DEFINITION. The state of the logic sequencer (7).
-/
namespace Sys2Proof.Machine

/-- State record (R300). -/
structure SRec where
  stype : BitVec 6
  sdtype : BitVec 2
  outq : BitVec 2
  auxq : BitVec 2
  live : Bool
  detail : BitVec 8
  flags : BitVec 8
  s0 : BitVec 32
  aux : BitVec 32
  out : BitVec 32
  deriving DecidableEq, Repr

/-- The cleared state record (R300). -/
def SRec.reset : SRec where
  stype := 0
  sdtype := 0
  outq := 0
  auxq := 0
  live := false
  detail := 0
  flags := 0
  s0 := 0
  aux := 0
  out := 0

/-- Task states (R315). -/
inductive TaskSt where
  | disabled | running | faulted
  deriving DecidableEq, Repr

/-- One value of an output image (R313): point, value, quality, detail. -/
structure OutVal where
  point : Nat
  value : W64
  quality : BitVec 2
  detail : BitVec 8
  deriving DecidableEq, Repr

/-- How the scan of a released task ended in this frame, until phase D and the window-end strobe (R311, R315). -/
inductive ScanEnd where
  /-- The scan is complete; its output image waits for phase D. -/
  | done (image : List OutVal)
  /-- Abandoned before the entry at this position, or before the image copy ended. -/
  | overrun (pos : Option Nat)
  | skipped
  deriving DecidableEq, Repr

/-- What phase D does to the output points of a faulted task (R315, R316). -/
inductive TaskMark where
  | late | fault
  deriving DecidableEq, Repr

/-- Task entry (R308). -/
structure Task where
  /-- RW fields at their places in the map of R308, EN included. -/
  cfg : BitVec 512
  lastRel : W64
  scanCnt : BitVec 32
  faultCnt : BitVec 32
  peakCyc : BitVec 32
  cost : BitVec 32
  outPts : BitVec 18
  inPts : BitVec 18
  lastFault : BitVec 8
  consec : BitVec 4
  st : TaskSt
  pend : Bool
  actBank : Bool
  /-- COST and OUT_PTS of the armed program (R318). -/
  pendCost : Nat
  pendOut : Nat
  /-- End of this frame's scan, if the task was released. -/
  scan : Option ScanEnd
  /-- Calendar time of sample 0 of the release frame (R313). -/
  relCal : W64
  /-- Quality change due in phase D (R316). -/
  mark : Option TaskMark
  /-- The points that only the old program produced, for phase D of the exchange frame (R320). -/
  dropPts : List Nat
  /-- The instances that only the old program held, with DATA of 16#0705, from the exchange to the end of phase B (R319). -/
  gone : Option (List Nat × Nat)
  /-- The points claimed for the armed program: the old one does not produce them (R320). -/
  armPts : List Nat
  /-- The points of the output image at a fault that reset the range, for phase D (R316, R329). -/
  failPts : Option (List Nat)
  /-- Position and IID of a failing word that the scrub found, for phase D (R327). -/
  memDue : Option (Nat × Nat)
  deriving DecidableEq, Repr

/-- The task entry after reset (R308): CYCLE_FR 1, OVR_LIMIT 3. -/
def Task.reset : Task where
  cfg := put 512 152 1#16 ||| put 512 120 3#4
  lastRel := 0
  scanCnt := 0
  faultCnt := 0
  peakCyc := 0
  cost := 0
  outPts := 0
  inPts := 0
  lastFault := 0
  consec := 0
  st := .disabled
  pend := false
  actBank := false
  pendCost := 0
  pendOut := 0
  scan := none
  relCal := 0
  mark := none
  dropPts := []
  gone := none
  armPts := []
  failPts := none
  memDue := none

/-- The logic sequencer. -/
structure Logic where
  /-- Block instances by space 16#20 index, bank × 131,072 + position (R293). -/
  banks : Tbl (BitVec 128)
  /-- Bank entries marked under R328. -/
  marked : Tbl Bool
  states : Tbl SRec
  tasks : Tbl Task
  tick : BitVec 32
  stateSel : BitVec 17
  lanePeak : Tbl Reg
  deriving DecidableEq, Repr

end Sys2Proof.Machine
end

