-- ==== Sys2Proof/Machine/StateLoop.lean ====
section
/-!
DEFINITION. The state of the loop engine (8).
-/
namespace Sys2Proof.Machine

/-- Loop states (R348). -/
inductive LoopSt where
  | disabled | init | auto | manual | hold | faulted
  deriving DecidableEq, Repr

/-- A value that a loop reads, with its quality and detail. -/
structure LoopVal where
  v : BitVec 32
  q : BitVec 2
  d : BitVec 8
  deriving DecidableEq, Repr

/-- The inputs of a loop as latched in phase A, or at the sample boundary for a fast loop (R335, R343). -/
structure LoopSnap where
  pv : LoopVal
  sp : LoopVal
  ff : LoopVal
  trk : LoopVal
  trkv : LoopVal
  /-- Compliance-loss or node saturation flag (R343, SAT_KIND 1 and 2). -/
  sat : Bool
  deriving DecidableEq, Repr

/-- An INITIAL input. -/
def LoopVal.initial : LoopVal := ⟨0, 3, 1⟩

/-- Nothing latched. -/
def LoopSnap.none : LoopSnap :=
  ⟨LoopVal.initial, LoopVal.initial, LoopVal.initial, LoopVal.initial, LoopVal.initial, false⟩

/-- A loop's output on its way to its point (R333, R334, R345). -/
structure LoopOut where
  v : BitVec 32
  q : BitVec 2
  d : BitVec 8
  cal : W64
  deriving DecidableEq, Repr

/-- Loop record (R337). -/
structure Loop where
  /-- RW fields at their places in the map of R337. -/
  cfg : BitVec 1024
  integ : BitVec 64
  outLast : BitVec 32
  pvPrev : BitVec 32
  dfilt : BitVec 32
  spUsed : BitVec 32
  feTmr : BitVec 16
  skipConsec : BitVec 8
  st : LoopSt
  awHi : Bool
  awLo : Bool
  extSat : Bool
  feActive : Bool
  tracking : Bool
  lastFault : BitVec 8
  execCnt : BitVec 32
  /-- Last usable feedforward since INIT (R346). -/
  ffLast : BitVec 32
  /-- Executions in HOLD (R345). -/
  holdCnt : Nat
  /-- Back-calculate to OUT_LAST at the next AUTO execution (R351, R353). -/
  backCalc : Bool
  /-- Quality of the output last delivered, INITIAL before the first (R346). -/
  outQ : BitVec 2
  snap : LoopSnap
  out : Option LoopOut
  /-- The current-loop channel that the loop drove when its record failed: it stays at its failsafe (R356). -/
  lostCl : Option Nat
  deriving DecidableEq, Repr

/-- RW fields of the loop record after reset (R337): OUT_HI, OUT_LO, KF. -/
def loopCfgReset : BitVec 1024 :=
  put 1024 608 0x7FFFFFFF#32 ||| put 1024 576 0x80000000#32 ||| put 1024 432 65535#16

/-- The loop record after reset (R337). -/
def Loop.reset : Loop where
  cfg := loopCfgReset
  integ := 0
  outLast := 0
  pvPrev := 0
  dfilt := 0
  spUsed := 0
  feTmr := 0
  skipConsec := 0
  st := .disabled
  awHi := false
  awLo := false
  extSat := false
  feActive := false
  tracking := false
  lastFault := 0
  execCnt := 0
  ffLast := 0
  holdCnt := 0
  backCalc := false
  outQ := 3
  snap := LoopSnap.none
  out := none
  lostCl := none

/-- The loop engine. -/
structure LoopEngine where
  loops : Tbl Loop
  /-- LOOP_FIRST_FAULT (R359). -/
  firstFault : Reg
  skipCnt : Reg
  feCnt : Reg
  /-- The fast loops latched at a sample boundary and not yet written: calendar time of the boundary, and their slots
  (R334). -/
  fastDue : Option (W64 × List Nat)
  /-- First frame-rate slot that phase C of this frame did not execute (R355). -/
  cutAt : Option Nat
  deriving DecidableEq, Repr

end Sys2Proof.Machine
end

