-- ==== Sys2Proof/Machine/StateMeter.lean ====
section
/-!
DEFINITION. The state of the metering engine (9).
-/
namespace Sys2Proof.Machine

/-- What a channel's chain remembers, newest first: samples after the inversion (R365, stage 2), the last input and
output of the high-pass (stage 3) and of the integrator (stage 4, R369), and conditioned samples (R370, R377). -/
structure Chain where
  raw : List Int
  hpIn : Int
  hpOut : Int
  intIn : Int
  intOut : Int
  out : List Int
  deriving DecidableEq, Repr

/-- The chain of a channel that is enabled: y is 0 and x[−1] is 0 (R369). -/
def Chain.reset : Chain := ⟨[], 0, 0, 0, 0, []⟩

/-- A window: its conditioned samples in order, its length in 1/65,536 sample, NCYC, and whether the integrator's leak
is in them. -/
structure Window where
  samples : List Int
  len : Nat
  ncyc : Nat
  rogo : Bool
  deriving DecidableEq, Repr

/-- Running sums over a period or a window of a channel, samples being in 2^−32 of full scale (R377, R383). -/
structure Sums where
  n : Nat
  /-- Squares of the channel's own samples, and of its voltage channel's samples. -/
  ii : Int
  vv : Int
  /-- Products with the voltage and with the voltage a quarter period earlier. -/
  p : Int
  q : Int
  /-- Samples before the high-pass (quantity 13). -/
  dc : Int
  clipped : Bool
  /-- Actual sample lengths in 10^−9 of the nominal one, and the products weighted with them (R383). -/
  ts : Nat
  pt : Int
  qt : Int
  deriving DecidableEq, Repr

/-- No samples. -/
def Sums.zero : Sums := ⟨0, 0, 0, 0, 0, 0, false, 0, 0, 0⟩

/-- A quantity on its way to its point (R379): value, quality, detail, time. -/
structure Quant where
  v : BitVec 32
  q : BitVec 2
  d : BitVec 8
  cal : W64
  deriving DecidableEq, Repr

/-- Sensor conditions (R393). -/
inductive Sensor where
  | ok | openWire | short | leadFault | reversed
  deriving DecidableEq, Repr

/-- A metering channel: current 0 to 71, voltage 72 to 77 (R403). -/
structure MChan where
  /-- RW fields at their places in the map of R403. -/
  cfg : BitVec 512
  cond : Sensor
  /-- Rows of R393 that are set and not cleared; SSTATE is the first of them. -/
  held : List Sensor
  /-- The signal chain (R365), and the conditioned samples of the running window, newest first (R388). -/
  chain : Chain
  win : List Int
  per : Sums
  wnd : Sums
  /-- Sums of the last complete period (R372, R392). -/
  lastPer : Sums
  lastWnd : Sums
  /-- Length of the last complete period in 1/65,536 sample (R383). -/
  lastLen : Nat
  /-- A complete period, a complete window since EN (R381). -/
  perDone : Bool
  wndDone : Bool
  /-- The running period, the running window began after EN (R381). -/
  perOpen : Bool
  wndOpen : Bool
  /-- The power quantities have left INITIAL at a phase A commit (R384). -/
  left : Bool
  /-- Frames since EN was applied (R381). -/
  age : Nat
  windows : BitVec 32
  /-- Consecutive frames beyond and inside the limits of LEAD_FAULT and OPEN_WIRE (R393). -/
  leadRun : Nat
  leadClr : Nat
  openRun : Nat
  openClr : Nat
  /-- The N pin made the last LEAD_FAULT. -/
  leadN : Bool
  /-- DC differential of the present 1 s mean, its frames, and the last mean in mΩ (R394). -/
  rdcSum : Int
  rdcN : Nat
  rdcMean : Option Nat
  /-- Windows with and without reversal in a row (R393). -/
  revRun : Nat
  revClr : Nat
  /-- Cleared by an uncorrectable error (R405). -/
  memBad : Bool
  /-- 16#090F was reported for the present loss (R392). -/
  lost : Bool
  /-- Quantities due at the next phase A. -/
  due : Tbl (Option Quant)
  /-- A new set of harmonic entries is due at the next phase A: the window, the fundamental of the set's tracking phase,
  quality and detail (R389). -/
  harmDue : Option (Window × (Int × Int) × BitVec 2 × BitVec 8)
  deriving DecidableEq, Repr

/-- A metering channel after reset. -/
def MChan.reset : MChan where
  cfg := 0
  cond := .ok
  held := []
  chain := Chain.reset
  win := []
  per := Sums.zero
  wnd := Sums.zero
  lastPer := Sums.zero
  lastWnd := Sums.zero
  lastLen := 0
  perDone := false
  wndDone := false
  perOpen := false
  wndOpen := false
  left := false
  age := 0
  windows := 0
  leadRun := 0
  leadClr := 0
  openRun := 0
  openClr := 0
  leadN := false
  rdcSum := 0
  rdcN := 0
  rdcMean := none
  revRun := 0
  revClr := 0
  memBad := false
  lost := false
  due := []
  harmDue := none

/-- A voltage set (R372 to R375, R390, R391). -/
structure VSet where
  /-- Time of the last crossing in 1/65,536 sample since frame 0. -/
  lastCross : Option Nat
  /-- Lengths of the last periods between crossings, newest first, in 1/65,536 sample. -/
  periods : List Nat
  sync : Bool
  /-- Tracking phase at the last crossing. -/
  phase : Nat
  /-- Samples in the running period, periods and length of the running window. -/
  perN : Nat
  winPer : Nat
  winLen : Nat
  /-- The window ends at the next period boundary (R374). -/
  winCut : Bool
  /-- METER_FREQ_x. -/
  freq : Reg
  /-- SEQ_x, the candidate class and its windows in a row. -/
  seq : BitVec 2
  seqCand : BitVec 2
  seqRun : Nat
  neutralLost : Bool
  nRun : Nat
  nClr : Nat
  deriving DecidableEq, Repr

/-- A voltage set after reset. -/
def VSet.reset : VSet where
  lastCross := none
  periods := []
  sync := false
  phase := 1
  perN := 0
  winPer := 0
  winLen := 0
  winCut := false
  freq := 0
  seq := 0
  seqCand := 0
  seqRun := 0
  neutralLost := false
  nRun := 0
  nClr := 0

/-- Accumulator entry (R387). -/
structure Acc where
  startFrame : W64
  suspect : Bool
  memRestored : Bool
  preset : Bool
  restored : Bool
  lossHoldup : Bool
  lossUnsaved : Bool
  periods : BitVec 32
  /-- ACT_IMP 0 to APPARENT 6. -/
  acc : Tbl (BitVec 96)
  residue : Tbl (BitVec 32)
  /-- Accumulation has begun since EN (R384). -/
  begun : Bool
  deriving DecidableEq, Repr

/-- The accumulator entry when nothing is restored (R387). -/
def Acc.reset : Acc where
  startFrame := 0
  suspect := false
  memRestored := false
  preset := false
  restored := false
  lossHoldup := false
  lossUnsaved := false
  periods := 0
  acc := []
  residue := []
  begun := false

/-- A pulse output (R401). -/
structure Pulse where
  /-- RW fields at their places in the map of R403. -/
  cfg : BitVec 512
  backlog : BitVec 32
  accrual : Nat
  /-- Frames that the running pulse has lasted. -/
  active : Option Nat
  /-- Frames since the last pulse ended; `none`: no pulse yet. -/
  gap : Option Nat
  /-- Pin level. -/
  pin : Bool
  deriving DecidableEq, Repr

/-- A pulse output after reset: WIDTH_MS 50. -/
def Pulse.reset : Pulse where
  cfg := put 512 336 50#8
  backlog := 0
  accrual := 0
  active := none
  gap := none
  pin := false

/-- The harmonic entry after reset (R389). -/
def harmReset : BitVec 128 := put 128 40 1#8 ||| put 128 38 3#2

/-- RW fields of the engine entry after reset: VNOM 230 (R403). -/
def engineReset : BitVec 512 := put 512 464 230#16 ||| put 512 448 230#16

/-- The metering engine. -/
structure Meter where
  chans : Tbl MChan
  /-- Set A 0, set B 1. -/
  sets : Tbl VSet
  accs : Tbl Acc
  harm : Tbl (BitVec 128)
  pulses : Tbl Pulse
  /-- Entry 86 (R403), RW fields. -/
  engine : BitVec 512
  /-- METER_RESTORE and its companions (R407). -/
  restore : Reg
  restoreTime : W64
  restoreTag : Reg
  saveCnt : Reg
  snapUs : BitVec 16
  /-- SAVE_SEQ of the newest save and the copy that holds it, copy B true. -/
  saveSeq : W64
  newest : Option Bool
  /-- Frame of the last periodic save. -/
  savedAt : Option W64
  /-- The periodic save under way: the 8,064 record bytes, frame, time and SITE_TAG of the capture (R395, R396). -/
  saveDue : Option (List Byte × W64 × W64 × Reg)
  /-- The snapshot captured at the warning, whose copy is not complete yet: the 8,064 record bytes, time, frame, SITE_TAG. -/
  snapDue : Option (List Byte × W64 × W64 × Reg)
  deriving DecidableEq, Repr

end Sys2Proof.Machine
end

