-- ==== Sys2Proof/Machine/StateLoops420.lean ====
section
/-!
DEFINITION. The state of the current-loop unit (10).
-/
namespace Sys2Proof.Machine

/-- Channel conditions (R417), with the codes of COND. -/
inductive ClCond where
  | ok | openWire | short | reversed | compliance | readback
  deriving DecidableEq, Repr

/-- Mailbox states (R426). -/
inductive MbState where
  | empty | pending | busy | done | noReply | badFrame
  deriving DecidableEq, Repr

/-- A running HART transaction (R423): the mailbox request or a poll. -/
inductive HartTrans where
  | mailbox
  | poll (addr : Nat)
  deriving DecidableEq, Repr

/-- A HART request on the wire (R156, R422): preamble bytes, frame form, address (of a short frame the polling
address), command, data; in the output role the swing of the regulator's demand in µA that carries it. -/
structure HartFrame where
  preambles : Nat
  long : Bool
  addr : BitVec 40
  cmd : BitVec 8
  data : List Byte
  swing : Option Nat
  deriving DecidableEq, Repr

/-- A HART request under way in the output role (R422): the bits that are not out yet, the thirds of a sample that the
first of them has taken, and the phase of the tone in 1/480 turn. -/
structure HartTone where
  bits : List Bool
  third : Nat
  phase : Nat
  deriving DecidableEq, Repr

/-- Memory of the second-order low-pass (R412): the last two inputs and outputs in 2^−32 nA. -/
structure ClFilt where
  x1 : Int
  x2 : Int
  y1 : Int
  y2 : Int
  deriving DecidableEq, Repr

/-- Consecutive samples or frames for which the tests of R417 held. -/
structure ClRuns where
  revS : Nat
  openS : Nat
  openClrS : Nat
  compS : Nat
  compClrS : Nat
  revF : Nat
  revClrF : Nat
  openF : Nat
  openClrF : Nat
  shortF : Nat
  shortClrF : Nat
  rbF : Nat
  rbClrF : Nat
  deriving DecidableEq, Repr

/-- No run. -/
def ClRuns.zero : ClRuns := ⟨0, 0, 0, 0, 0, 0, 0, 0, 0, 0, 0, 0, 0⟩

/-- Current-loop channel (R426). -/
structure CLoop where
  /-- RW fields at their places in the map of R426. -/
  cfg : BitVec 2048
  mbData : List Byte
  mbCmd : BitVec 16
  mbLen : BitVec 8
  mbResp : BitVec 8
  mbDevst : BitVec 8
  mbState : MbState
  mbTrunc : Bool
  mbSeq : BitVec 16
  txCnt : BitVec 32
  errCnt : BitVec 32
  measNa : BitVec 32
  cond : ClCond
  clFlag : Bool
  clamped : Bool
  spAct : BitVec 32
  /-- A set-point has been in force since EN was applied (R415). -/
  spEver : Bool
  /-- LOOP_k_DRV is held at 0 V (R411, R417, R428). -/
  drvOff : Bool
  /-- The regulator's drive integrator, which is the level of DRV in 1/65,535 of its maximum (R413, R416). DESIGN CHOICE: log entry 102. -/
  drv : Nat
  /-- Conditions that are set and not cleared; COND is the first of them by the rows of R417. -/
  held : List ClCond
  /-- Memory of the low-pass of R412. -/
  filt : ClFilt
  /-- Last conversion in nA. -/
  conv : Int
  /-- Sum and number of the conversions of this frame, and whether the drive stood at its limit in one of them. -/
  sum : Int
  n : Nat
  atLim : Bool
  runs : ClRuns
  /-- A whole frame has been converted since EN (R421). -/
  ready : Bool
  /-- The request of HART_SEND: head and data (R156). -/
  req : List Byte
  trans : Option HartTrans
  /-- The tone that modulates the demand (R422). -/
  tone : Option HartTone
  /-- Retries made of the running request (R422). -/
  retries : Nat
  lastPoll : Nat
  /-- Consecutive missed polls per address (R425). -/
  missed : Tbl Nat
  memBad : Bool
  /-- HART points that wait for phase A: address, new value or none, quality, detail, TSTAMP (R425, R642). -/
  hartDue : List (Nat × Option W64 × BitVec 2 × BitVec 8 × W64)
  deriving DecidableEq, Repr

/-- A current-loop channel after reset (R426). -/
def CLoop.reset : CLoop where
  cfg := put 2048 240 20500#16 ||| put 2048 224 3800#16 ||| put 2048 208 3600#16 ||| put 2048 200 3#8 |||
    put 2048 195 5#5 ||| put 2048 193 2#2
  mbData := []
  mbCmd := 0
  mbLen := 0
  mbResp := 0
  mbDevst := 0
  mbState := .empty
  mbTrunc := false
  mbSeq := 0
  txCnt := 0
  errCnt := 0
  measNa := 0
  cond := .ok
  clFlag := false
  clamped := false
  spAct := 0
  spEver := false
  drvOff := true
  drv := 0
  held := []
  filt := ⟨0, 0, 0, 0⟩
  conv := 0
  sum := 0
  n := 0
  atLim := false
  runs := ClRuns.zero
  ready := false
  req := []
  trans := none
  tone := none
  retries := 0
  lastPoll := 63
  missed := []
  memBad := false
  hartDue := []

end Sys2Proof.Machine
end

