-- ==== Sys2Proof/Machine/StatePly.lean ====
section
/-!
DEFINITION. The state of the ply unit (15).
-/
namespace Sys2Proof.Machine

/-- Ply roles (R520). -/
inductive Role where
  | dead | solo | joining | trailing | leading
  deriving DecidableEq, Repr

/-- TWIN_STATE (R544). -/
inductive TwinSt where
  | none | joining | ok | lost
  deriving DecidableEq, Repr

/-- A catch-up item (R533): kind 0 STATE, 1 LOOP, 2 POINT; index; content. -/
structure CatchItem where
  kind : Nat
  index : Nat
  content : List Byte
  deriving DecidableEq, Repr

/-- The leader's sweep (R532, R534). -/
structure Sweep where
  /-- Items as last sent, by kind × 2^17 + index. -/
  sent : Tbl (Option (List Byte))
  /-- The next item of the first pass; `none`: the pass is complete. -/
  pos : Option Nat
  /-- Frames since the sweep began. -/
  age : Nat
  /-- The frozen cutover set, its frame and the items not yet sent. -/
  frozen : Option (W64 × List CatchItem)
  /-- The frame of a cutover whose outcome is still open. -/
  open_ : Option W64
  deriving DecidableEq, Repr

/-- The cutover set on its way into a joining module (R533, R534). -/
structure CutIn where
  frame : W64
  items : List CatchItem
  bad : Bool
  ended : Bool
  deriving DecidableEq, Repr

/-- Counts since the last health report (R542). -/
structure HealthCnt where
  noCopy : BitVec 16
  differ : BitVec 16
  onlyTwin : BitVec 16
  gaps : BitVec 16
  applied : BitVec 32
  deriving DecidableEq, Repr

/-- The ply unit. -/
structure Ply where
  role : Role
  pairId : Reg
  /-- RW fields of entry 0 (R544). -/
  healthFr : BitVec 16
  mirrorMax : BitVec 13
  lossFr : BitVec 6
  yieldCyc : BitVec 5
  twinSerial : W64
  twinFw : Reg
  catchupTries : Reg
  roleFrame : W64
  twinRole : BitVec 3
  twinState : TwinSt
  linkOk : Bool
  hbOk : Bool
  giveupSeen : Bool
  twinWarn : Bool
  joinStep : Nat
  /-- Since JOINING was entered the timebase has taken a measurement of the twin (R529). -/
  timed : Bool
  refuse : BitVec 8
  /-- Own digests by area, and the areas due for recomputation with the frames since the write (R530). -/
  digest : Tbl Reg
  digestDue : Tbl (Option Nat)
  twinDigest : Tbl Reg
  /-- Frames for which an area has been unequal, to 1,000; 1,001 once 16#0E14 is reported. -/
  neqRun : Tbl Nat
  mirrorTx : Reg
  mirrorRx : Reg
  mirrorRej : Reg
  gapCnt : Reg
  badCnt : Reg
  lostCnt : Reg
  roleCnt : Reg
  hbMiss : Reg
  /-- PLY_SEQ of the last frame received (R514); the frame and sample in which the last gap was shown (R534). -/
  rxSeq : Option Reg
  gapSeen : Option (W64 × Nat)
  /-- PLY_HB_OUT and PLY_HB_IN. -/
  hbOut : Bool
  hbIn : Bool
  /-- PLY_HB_IN changed in this frame; complete frames in a row with a change. -/
  hbNow : Bool
  hbRun : Nat
  /-- Frame boundaries since the last valid ply frame from the twin. -/
  linkAge : Option Nat
  /-- FRAME of the last STATUS and its receive time in ns from sample 0 (R527). -/
  statusPrev : Option (W64 × Nat)
  /-- From the last STATUS: the frame numbers agree (R529); the twin came to lead by R519 (R527). -/
  frameEq : Bool
  by519 : Bool
  /-- Both SOLO modules serve, and it is reported (R519). -/
  conflict : Bool
  /-- A valid copy of the twin's was heard in this frame on a strand in ON (R523). -/
  heardNow : Bool
  /-- Strands whose last complete cycle held a valid twin copy (R544). -/
  copyOk : Tbl Bool
  /-- Frames in a row in which no evidence of the twin stood, and complete cycles within them by strand (R523). -/
  lossRun : Nat
  lossCyc : Tbl Nat
  /-- LINE_STATE of the last STATUS. -/
  twinLineState : BitVec 48
  yieldAt : Option W64
  yieldAck : Bool
  /-- The pending yield was announced by the twin. -/
  yieldTwin : Bool
  /-- Frames in the present join step; reported. -/
  stepAge : Nat
  stepTold : Bool
  mismatchRun : Nat
  resweep : Bool
  sweep : Option Sweep
  cutIn : Option CutIn
  /-- Frame c of the last cutover set that was loaded or discarded (R534). -/
  cutDone : Option W64
  mirrorRR : Nat
  health : HealthCnt
  healthAge : Nat
  /-- Strand cycles in a row in which every reply carries L_OK = 0 and T_OK = 1, and the mirror condition (R540). -/
  selfRun : Tbl Nat
  suspectRun : Tbl Nat
  /-- Strands whose present run of that condition is reported by 16#0E0F (R540). -/
  suspectTold : Tbl Bool
  /-- The silence latch is set; frames since the last stroke (R36). -/
  latch : Bool
  sinceStroke : Nat
  /-- First frame in which the new trailing twin sends its copy (R534). -/
  firstCopy : Option W64
  deriving DecidableEq, Repr

/-- The ply unit before the first-start checks pass (R520, R544). -/
def Ply.reset : Ply where
  role := .solo
  pairId := 0
  healthFr := 1000
  mirrorMax := 1024
  lossFr := 8
  yieldCyc := 16
  twinSerial := 0
  twinFw := 0
  catchupTries := 0
  roleFrame := 0
  twinRole := 7
  twinState := .none
  linkOk := false
  hbOk := false
  giveupSeen := false
  twinWarn := false
  joinStep := 0
  timed := false
  refuse := 0
  digest := []
  digestDue := []
  twinDigest := []
  neqRun := []
  mirrorTx := 0
  mirrorRx := 0
  mirrorRej := 0
  gapCnt := 0
  badCnt := 0
  lostCnt := 0
  roleCnt := 0
  hbMiss := 0
  rxSeq := none
  gapSeen := none
  hbOut := false
  hbIn := false
  hbNow := false
  hbRun := 0
  linkAge := none
  statusPrev := none
  frameEq := false
  by519 := false
  conflict := false
  heardNow := false
  copyOk := []
  lossRun := 0
  lossCyc := []
  twinLineState := 0
  yieldAt := none
  yieldAck := false
  yieldTwin := false
  stepAge := 0
  stepTold := false
  mismatchRun := 0
  resweep := false
  sweep := none
  cutIn := none
  cutDone := none
  mirrorRR := 0
  health := ⟨0, 0, 0, 0, 0⟩
  healthAge := 0
  selfRun := []
  suspectRun := []
  suspectTold := []
  latch := false
  sinceStroke := 0
  firstCopy := none

end Sys2Proof.Machine
end

