-- ==== Sys2Proof/Machine/StateSec.lean ====
section
/-!
DEFINITION. The state of the security and lifecycle unit (14), of the fuses and the flash, of firmware update and of
recovery mode.
-/
namespace Sys2Proof.Machine

/-- One-way fuses that change after the factory (R564, R566, R590) and the identity (R163). -/
structure Fuses where
  /-- 0 BLANK, 1 MANUFACTURE, 2 DEPLOYED, 3 RETURNED, 4 SCRAPPED. -/
  lifecycle : Nat
  /-- Target of a partly blown lifecycle fuse word (R566). -/
  partly : Option Nat
  nonce : W64
  secFloor : Nat
  serial : W64
  variant : BitVec 8
  /-- Base MAC address (R226). -/
  mac : BitVec 48
  deriving DecidableEq, Repr

/-- Fuses as the model takes them (DESIGN CHOICE: log entry 4). -/
def Fuses.reset : Fuses := ⟨1, none, 0, 0, 0, 1, 0⟩

/-- What a firmware slot holds: the factory image (DESIGN CHOICE: log entry 7) or the bytes of a container. -/
inductive Image where
  | factory
  | bytes (b : List Byte)
  deriving DecidableEq, Repr

/-- The on-module flash (R587 to R592, R576, R577). -/
structure Flash where
  active : Image
  /-- Bytes programmed in the staging slot since the erase, by offset. -/
  staging : List (Nat × List Byte)
  /-- IMAGE_LEN of the staging slot. -/
  stagingLen : Nat
  /-- Copy marker. -/
  marker : Bool

  /-- Owner key slots, 64 bytes each; an empty slot is not listed. -/
  slots : Tbl (List Byte)
  enrollCnt : Reg
  /-- The first start in RETURNED was made (R567). -/
  returned : Bool
  /-- Codes and DATA of boot steps that no frame 0 has reported yet (R566, R602). -/
  noted : List (Nat × Nat)
  deriving DecidableEq, Repr

/-- Flash as the factory leaves it (DESIGN CHOICE: log entry 7). -/
def Flash.reset : Flash := ⟨.factory, [], 0, false, [], 0, false, []⟩

/-- Update states (R591). -/
inductive UpdSt where
  | idle | erasing | opened | verifying | staged | rejected
  deriving DecidableEq, Repr

/-- Update registers and boot results (R601). -/
structure Update where
  st : UpdSt
  reason : BitVec 8
  written : Reg
  stagedVersion : Reg
  migrated : BitVec 3
  recovered : Bool
  discarded : Bool
  installed : Bool
  deriving DecidableEq, Repr

/-- After reset (R601). -/
def Update.reset : Update := ⟨.idle, 0, 0, 0, 0, false, false, false⟩

/-- A handshake that waits for HOST_FINISH (R580). -/
structure Handshake where
  hsId : Reg
  slot : Nat
  /-- Transcript hash T and the shared secret in the KDF input latch. -/
  t : List Byte
  z : List Byte
  mac : BitVec 48
  port : Nat
  /-- Frames since HOST_HELLO, and the sample in which it came. -/
  age : Nat
  sample : Nat
  deriving DecidableEq, Repr

/-- A session end that has been decided (R582): its reason, and its frame in frames begun since frame 0. -/
structure Ending where
  reason : Nat
  ran : Nat
  deriving DecidableEq, Repr

/-- The security unit. -/
structure Sec where
  sessionCnt : Reg
  failCnt : Reg
  hsId : Reg
  lastReason : BitVec 8
  sessionSlot : BitVec 4
  /-- KEY_KIND and the working-key register (R571, R572). -/
  keyKind : Nat
  key : BitVec 256
  entropyFail : Bool
  debug : Bool
  session : Bool
  hs : Option Handshake
  /-- Frames since a command last passed checks 2 and 3 (R582). -/
  idle : Nat
  /-- Frames since a BAD_SIG, and the sample in which it was answered (R581). -/
  badSig : Option (Nat × Nat)
  ending : Option Ending
  deriving DecidableEq, Repr

/-- After reset (R585). -/
def Sec.reset : Sec := ⟨0, 0, 0, 0, 0, 0, 0, false, false, false, none, 0, none, none⟩

/-- Recovery mode (R598 to R600). -/
structure Recovery where
  /-- Entry cause of IDENT. -/
  cause : Nat
  linkUp : Bool
  /-- Position in the link search: 1000BASE-X, SGMII. -/
  sgmii : Bool
  /-- IMAGE_LEN of the last BEGIN. -/
  len : Option Nat
  erasing : Bool
  /-- SEQ and reply of the last request. -/
  last : Option (BitVec 16 × List Byte)
  deriving DecidableEq, Repr

/-- Recovery mode before any request. -/
def Recovery.start (cause : Nat) : Recovery := ⟨cause, false, false, none, false, none⟩

end Sys2Proof.Machine
end

