-- ==== Sys2Proof/Machine/StateDev.lean ====
section
/-!
DEFINITION. The module without the safety island, the retained SRAM and the command queue: every subsystem of the main
domain, the backup domain, the fuses and the flash.
-/
namespace Sys2Proof.Machine

/-- What a step hands to the pins and to the queues of the ports (DESIGN CHOICE: log entry 10). -/
inductive OutMsg where
  /-- An RDMA request of the module on a channel (R165). -/
  | rdma (ch : Nat) (r : Req)
  /-- The packets of a request from number `skip` on, the ones before it being acknowledged (R165). -/
  | rdmaPart (ch : Nat) (r : Req) (skip : Nat)
  /-- Acknowledgement, or NAK with its code, of a SEND (R165, R166, R168). -/
  | ack (ch : Nat) (psn : BitVec 24)
  | nak (ch : Nat) (psn : BitVec 24) (code : Nat)
  /-- An Ethernet frame on a port: destination, EtherType and body (R205). -/
  | eth (port : Nat) (dst : BitVec 48) (etherType : Nat) (body : List Byte)
  /-- A Pdelay_Req, or the answer to one, with its sequence number and, corrected, t2 and t3 (R220). -/
  | pdelayReq (port : Nat) (seq : BitVec 16)
  | pdelayResp (port : Nat) (seq : BitVec 16) (t2 t3 : Int)
  /-- A pause or PFC frame: the class mask and the time in quanta (R215). -/
  | pause (port : Nat) (classes : BitVec 8) (quanta : Nat)
  /-- A ply frame body (R514). -/
  | ply (body : List Byte)
  /-- A strand copy, symbol by symbol (R255, R256). -/
  | strand (k : Nat) (symbols : List LineSym)
  /-- The transmitter of a strand is disabled before the copy under way has ended (R245). -/
  | strandCut (k : Nat)
  /-- A HART request (R422). -/
  | hart (ch : Nat) (f : HartFrame)
  /-- A recovery reply datagram: destination MAC, IPv4 address and port, source IPv4 address, body (R598). -/
  | udp (mac : BitVec 48) (ip : BitVec 32) (port : Nat) (src : BitVec 32) (body : List Byte)
  /-- An MDIO operation (R229). -/
  | mdio (cmd : Reg)
  deriving DecidableEq, Repr

/-! ### Frames of the ports (R165, R167, R205 to R214) -/

/-- What a RoCE v2 packet of the module does (R165). -/
inductive RoceOp where
  /-- RDMA WRITE, with address, key and length in its First or Only packet and immediate data in its Last or Only one. -/
  | write (form : PktForm) (reth : Option (W64 × Reg × Nat)) (imm : Option Reg)
  | ack
  | nak (code : Nat)
  deriving DecidableEq, Repr

/-- A RoCE v2 packet of the module (R165, R167). -/
structure RocePkt where
  ipv6 : Bool
  srcIp : BitVec 128
  dstIp : BitVec 128
  dscp : BitVec 6
  ecn : BitVec 2
  srcPort : Nat
  dstPort : Nat
  /-- The host's queue pair. -/
  qpn : BitVec 24
  psn : BitVec 24
  op : RoceOp
  data : List Byte
  deriving DecidableEq, Repr

/-- What an Ethernet frame of a port carries. -/
inductive EthBody where
  | bytes (etherType : Nat) (payload : List Byte)
  | roce (p : RocePkt)
  | pdelayReq (seq : BitVec 16)
  | pdelayResp (seq : BitVec 16) (t2 : Int)
  | pdelayFollowUp (seq : BitVec 16) (t3 : Int)
  | pause (classes : BitVec 8) (quanta : Nat)
  deriving DecidableEq, Repr

/-- An Ethernet frame of a port: addresses, PCP and VID of its tag, and what it carries (R205, R206). -/
structure EthFrame where
  dst : BitVec 48
  src : BitVec 48
  tag : Option (BitVec 3 × BitVec 12)
  body : EthBody
  deriving DecidableEq, Repr

/-- A frame in an egress queue: its traffic class, its octets from the destination address to the FCS, and, of a packet of
a channel, the channel and the PSN of a request (R205). -/
structure EgItem where
  cls : Nat
  frame : EthFrame
  len : Nat
  chan : Option Nat
  psn : Option (BitVec 24)
  deriving DecidableEq, Repr

/-- The egress side of a port. -/
structure Egress where
  /-- The eight egress queues in one list: of one class, the older frame stands first. -/
  queue : List EgItem
  /-- The moment up to which the port has been served, and the end of the frame that it sends, in tenths of timebase
  cycles from the last sample boundary. -/
  now : Nat
  busy : Nat
  /-- PLY_SEQ of the last ply frame that started, and the ns from sample 0 to the start of the last STATUS (R514, R516). -/
  plySeq : Reg
  statusDelay : Option Nat
  deriving DecidableEq, Repr

/-- The egress side after reset. -/
def Egress.reset : Egress := ⟨[], 0, 0, 0, none⟩

/-- What the converters read last (DESIGN CHOICE: log entry 10): strands, metering samples, slow conversions, current loops. -/
structure Levels where
  line : Tbl (Int × Int × Int)
  meter : Tbl Int
  dc : Tbl (Int × Int × Int)
  cl : Tbl Int
  deriving DecidableEq, Repr

/-- The module. -/
structure Dev where
  tb : Timebase
  ps : PointStore
  cp : CmdState
  tr : Transport
  ports : Tbl Port
  net : NetTime
  lines : Tbl Line
  strands : Tbl Strand
  nodes : Tbl Node
  lg : Logic
  lp : LoopEngine
  mt : Meter
  cl : Tbl CLoop
  diag : SafeDiag
  rcd : Recorder
  flt : FaultRegs
  ply : Ply
  sec : Sec
  upd : Update
  rcv : Option Recovery
  /-- Entry cause of the recovery mode that preceded this start (R600). -/
  rcvPast : Option Nat
  th : Thermal
  bk : Backup
  fuses : Fuses
  flash : Flash
  pwr : Power
  /-- What the converters read last (DESIGN CHOICE: log entry 10). -/
  inp : Levels
  /-- Uses made of the free values of Config (DESIGN CHOICE: log entry 8). -/
  fresh : Nat
  /-- What the last command handed to the pins and ports (DESIGN CHOICE: log entry 10). -/
  out : List OutMsg
  /-- The egress queues of the ports (R207 to R214). -/
  eg : Tbl Egress
  /-- The frames that a port began to send in the last command, with the port (R208, R214; DESIGN CHOICE: log entry 10). -/
  wire : List (Nat × EthFrame)
  /-- Bytes of the retained SRAM that the running command writes, in order; empty between commands (DESIGN CHOICE: log entry 10). -/
  wr : List (Nat × Byte)
  deriving DecidableEq, Repr

/-- Frame scheduler and timebase after reset (R41, R52). -/
def Timebase.reset : Timebase where
  frame := 0
  sample := 0
  cal0 := 0
  stepEn := true
  alignEn := false
  phaseOnly := false
  stepped := false
  tb := .free
  offsetNs := 0
  corrPpb := 0
  ovr := 0
  ovrCnt := []
  peak := []
  sinceMeas := 0
  goodRun := 0
  badRun := 0
  corrHist := []
  lockedOnce := false
  stepDue := none
  acqAfterLoss := false
  cut := []
  ran := 0

/-- Point store after reset (R54 to R98). -/
def PointStore.reset : PointStore where
  points := []
  alarms := []
  subs := []
  shareMask := []
  subRange := []
  notifyMax := 1024
  deferCnt := 0
  eccCnt := 0
  eccLast := 0
  alarmRR := 0
  subRR := 0
  deferred := false

/-- Command processor after reset (R133, R554). -/
def CmdState.reset : CmdState where
  slots := []
  phaseF := []
  running := none
  late := []
  restarts := []
  recheck := false
  poolPeak := 0
  authCnt := 0
  budgetCnt := 0
  limitCnt := 0
  admitRefuse := 0
  admitRefuseCnt := 0
  closing := false

/-- Transport after reset (R199). -/
def Transport.reset : Transport where
  chans := []
  evq := []
  evqPeak := 0
  closedCnt := 0
  consRejCnt := 0
  rates := []
  turn := 0

/-- Network time after reset (R226): PTP_PORT_MASK 2#11. -/
def NetTime.reset : NetTime where
  cfg := 0x30
  utcOffset := 0
  utcValid := false
  slavePort := 0
  gmPresent := false
  gm := 0
  discard := 0
  ppsInOk := false
  ppsLast := none
  ppsDue := false
  ppsOut := none
  ppsFrame := none
  meas := none
  lastNet := none
  mdio := 0
  mdioBusy := false

/-- Logic sequencer after reset (R330). -/
def Logic.reset : Logic where
  banks := []
  marked := []
  states := []
  tasks := []
  tick := 0
  stateSel := 0
  lanePeak := []

/-- Loop engine after reset (R359). -/
def LoopEngine.reset : LoopEngine := ⟨[], 0, 0, 0, none, none⟩

/-- Metering engine after reset (R403, R407). -/
def Meter.reset : Meter where
  chans := []
  sets := []
  accs := []
  harm := []
  pulses := []
  engine := engineReset
  restore := 0
  restoreTime := 0
  restoreTag := 0
  saveCnt := 0
  snapUs := 0
  saveSeq := 0
  newest := none
  savedAt := none
  saveDue := none
  snapDue := none

/-- Recorder after reset (R480). -/
def Recorder.reset : Recorder where
  recs := []
  snaps := []
  stored := 0
  snapNext := 0
  cfg := 0x0001FFFF
  copyMax := 64
  next := 0
  copied := 0
  copyLost := 0
  mergeCnt := 0
  tailInfo := 0
  trigA := []
  trigB := []
  trigRef := []
  tail := none
  intake := none

/-- Fault registers after reset (R643). -/
def FaultRegs.reset : FaultRegs := ⟨0, 0, 0, 0, 0⟩

/-- The module before its main domain first leaves reset (DESIGN CHOICE: log entry 1). -/
def Dev.reset : Dev where
  tb := Timebase.reset
  ps := PointStore.reset
  cp := CmdState.reset
  tr := Transport.reset
  ports := []
  net := NetTime.reset
  lines := []
  strands := []
  nodes := []
  lg := Logic.reset
  lp := LoopEngine.reset
  mt := Meter.reset
  cl := []
  diag := SafeDiag.reset
  rcd := Recorder.reset
  flt := FaultRegs.reset
  ply := Ply.reset
  sec := Sec.reset
  upd := Update.reset
  rcv := none
  rcvPast := none
  th := ⟨false, 0, 0⟩
  bk := Backup.reset
  fuses := Fuses.reset
  flash := Flash.reset
  pwr := Power.reset
  inp := ⟨[], [], [], []⟩
  fresh := 0
  out := []
  eg := []
  wire := []
  wr := []

/-- The main domain in reset (R603, R607): what survives is the backup domain, the fuses, the flash, the supplies and
the model's own counter. -/
def Dev.inReset (d : Dev) : Dev :=
  { Dev.reset with
      bk := { d.bk with timeSet := [], utcStep := none, lastCompare := none, win := none }
      fuses := d.fuses
      flash := d.flash
      rcvPast := d.rcvPast
      inp := d.inp
      out := d.out
      wire := d.wire
      wr := d.wr
      fresh := d.fresh
      pwr := { Power.reset with
        porst := d.pwr.porst
        hot := d.pwr.hot
        sense := d.pwr.sense
        marker := d.pwr.marker } }

end Sys2Proof.Machine
end

