-- ==== Sys2Proof/Machine/Ops.lean ====
section
/-!
DEFINITION. The shared operations: free values, the calendar stamp, updates of numbered objects, the recorder's capture
of an event, the attention record of an event, and the rate-limited report.
-/
namespace Sys2Proof.Machine

/-! ### The formats of retained data (R587, R596) -/

/-- The format that an image writes: of the directory (0), the energy saves (1), the tail (2). -/
def Image.format (area : Nat) : Image → BitVec 16
  | .factory => 1
  | .bytes b => leBits 16 (slice b (36 + 2 * area) 2)

/-- The format that the running firmware writes. -/
def Dev.format (d : Dev) (area : Nat) : BitVec 16 := d.flash.active.format area

/-- Can a firmware of one format read another one: its own, or an older one that it knows (R596). DESIGN CHOICE: log entry 124. -/
def formatKnown (area : Nat) (own old : BitVec 16) : Bool := old == own || (decide (old < own) && Config.knowsFormat area own old)

/-! ### Free values (DESIGN CHOICE: log entry 8) -/

/-- Use one free choice. -/
def freeBit (d : Dev) : Bool × Dev := (Config.freeBit d.fresh, { d with fresh := d.fresh + 1 })

/-- Use one free number. -/
def freeNat (d : Dev) : Nat × Dev := (Config.freeNat d.fresh, { d with fresh := d.fresh + 1 })

/-- Use `n` free bytes. -/
def freeBytes (n : Nat) (d : Dev) : List Byte × Dev :=
  ((List.range n).map (fun i => Config.freeByte (d.fresh + i)), { d with fresh := d.fresh + n })

/-- A mean whose quotient is open to rounding: floor, or one more where it is not whole (DESIGN CHOICE: log entry 8). -/
def meanOpen (sum : Int) (n : Nat) (d : Dev) : Int × Dev :=
  if n = 0 then (0, d)
  else if sum % n = 0 then (sum / n, d)
  else
    let r := freeBit d
    (sum / n + (if r.1 then 1 else 0), r.2)

/-- Does a finite binary32 image equal n / d. -/
def f32IsRatio (x : BitVec 32) (n : Int) (d : Nat) : Bool :=
  match f32Decode x with
  | .fin neg m e =>
    let v := (m : Int) * (d : Int) * (if neg then -1 else 1)
    if 0 ≤ e then v * 2 ^ e.toNat == n else v == n * 2 ^ (-e).toNat
  | _ => false

/-- n / d as binary32: exact where a binary32 value is, else a rendering that the manual leaves open (DESIGN CHOICE: log entry 8). -/
def f32Ratio (n : Int) (d : Nat) : BitVec 32 :=
  let x := f32OfRat n d
  if f32IsRatio x n d then x else Config.f32Near n d

/-! ### Numbered objects -/

def Dev.point (d : Dev) (p : Nat) : Point := tget Point.reset d.ps.points p
def Dev.setPoint (d : Dev) (p : Nat) (x : Point) : Dev :=
  { d with ps := { d.ps with points := tset Point.reset d.ps.points p x } }
def Dev.alarm (d : Dev) (e : Nat) : Alarm := tget Alarm.reset d.ps.alarms e
def Dev.setAlarm (d : Dev) (e : Nat) (x : Alarm) : Dev :=
  { d with ps := { d.ps with alarms := tset Alarm.reset d.ps.alarms e x } }
def Dev.sub (d : Dev) (e : Nat) : Sub := tget Sub.reset d.ps.subs e
def Dev.setSub (d : Dev) (e : Nat) (x : Sub) : Dev :=
  { d with ps := { d.ps with subs := tset Sub.reset d.ps.subs e x } }
def Dev.chan (d : Dev) (c : Nat) : Channel := tget Channel.reset d.tr.chans c
def Dev.setChan (d : Dev) (c : Nat) (x : Channel) : Dev :=
  { d with tr := { d.tr with chans := tset Channel.reset d.tr.chans c x } }
def Dev.modChan (d : Dev) (c : Nat) (f : Channel → Channel) : Dev := d.setChan c (f (d.chan c))
def Dev.port (d : Dev) (p : Nat) : Port := tget Port.reset d.ports p
def Dev.setPort (d : Dev) (p : Nat) (x : Port) : Dev := { d with ports := tset Port.reset d.ports p x }
def Dev.modPort (d : Dev) (p : Nat) (f : Port → Port) : Dev := d.setPort p (f (d.port p))
def Dev.line (d : Dev) (k : Nat) : Line := tget Line.reset d.lines k
def Dev.setLine (d : Dev) (k : Nat) (x : Line) : Dev := { d with lines := tset Line.reset d.lines k x }
def Dev.modLine (d : Dev) (k : Nat) (f : Line → Line) : Dev := d.setLine k (f (d.line k))
def Dev.strand (d : Dev) (k : Nat) : Strand := tget Strand.reset d.strands k
def Dev.setStrand (d : Dev) (k : Nat) (x : Strand) : Dev := { d with strands := tset Strand.reset d.strands k x }
def Dev.modStrand (d : Dev) (k : Nat) (f : Strand → Strand) : Dev := d.setStrand k (f (d.strand k))
def Dev.node (d : Dev) (e : Nat) : Node := tget Node.reset d.nodes e
def Dev.setNode (d : Dev) (e : Nat) (x : Node) : Dev := { d with nodes := tset Node.reset d.nodes e x }
def Dev.task (d : Dev) (t : Nat) : Task := tget Task.reset d.lg.tasks t
def Dev.setTask (d : Dev) (t : Nat) (x : Task) : Dev :=
  { d with lg := { d.lg with tasks := tset Task.reset d.lg.tasks t x } }
def Dev.modTask (d : Dev) (t : Nat) (f : Task → Task) : Dev := d.setTask t (f (d.task t))
def Dev.srec (d : Dev) (i : Nat) : SRec := tget SRec.reset d.lg.states i
def Dev.setSrec (d : Dev) (i : Nat) (x : SRec) : Dev :=
  { d with lg := { d.lg with states := tset SRec.reset d.lg.states i x } }
def Dev.loop (d : Dev) (l : Nat) : Loop := tget Loop.reset d.lp.loops l
def Dev.setLoop (d : Dev) (l : Nat) (x : Loop) : Dev :=
  { d with lp := { d.lp with loops := tset Loop.reset d.lp.loops l x } }
def Dev.modLoop (d : Dev) (l : Nat) (f : Loop → Loop) : Dev := d.setLoop l (f (d.loop l))
def Dev.mchan (d : Dev) (c : Nat) : MChan := tget MChan.reset d.mt.chans c
def Dev.setMchan (d : Dev) (c : Nat) (x : MChan) : Dev :=
  { d with mt := { d.mt with chans := tset MChan.reset d.mt.chans c x } }
def Dev.acc (d : Dev) (c : Nat) : Acc := tget Acc.reset d.mt.accs c
def Dev.setAcc (d : Dev) (c : Nat) (x : Acc) : Dev :=
  { d with mt := { d.mt with accs := tset Acc.reset d.mt.accs c x } }
def Dev.vset (d : Dev) (x : Nat) : VSet := tget VSet.reset d.mt.sets x
def Dev.setVset (d : Dev) (x : Nat) (v : VSet) : Dev :=
  { d with mt := { d.mt with sets := tset VSet.reset d.mt.sets x v } }
def Dev.pulse (d : Dev) (k : Nat) : Pulse := tget Pulse.reset d.mt.pulses k
def Dev.setPulse (d : Dev) (k : Nat) (x : Pulse) : Dev :=
  { d with mt := { d.mt with pulses := tset Pulse.reset d.mt.pulses k x } }
def Dev.cloop (d : Dev) (k : Nat) : CLoop := tget CLoop.reset d.cl k
def Dev.setCloop (d : Dev) (k : Nat) (x : CLoop) : Dev := { d with cl := tset CLoop.reset d.cl k x }
def Dev.modCloop (d : Dev) (k : Nat) (f : CLoop → CLoop) : Dev := d.setCloop k (f (d.cloop k))

/-- Change the ply unit. -/
def Dev.modPly (d : Dev) (f : Ply → Ply) : Dev := { d with ply := f d.ply }

/-- A write to a digest area was applied, or what the area covers has changed (R530). DEDUCED: log entry 64. -/
def digestMark (areas : List Nat) (d : Dev) : Dev :=
  d.modPly (fun p => { p with digestDue := areas.foldl (fun t a =>
    if (tget none t a).isSome then t else tset none t a (some 0)) p.digestDue })

/-- Hand a message to the pins and ports (DESIGN CHOICE: log entry 10). -/
def Dev.emit (d : Dev) (m : OutMsg) : Dev := { d with out := d.out ++ [m] }

/-- Frames begun since the stamp `a` was taken; an alignment step of the counter adds none (R46; DESIGN CHOICE: log entry 80). -/
def framesSince (a : Nat) (d : Dev) : Nat := d.tb.ran - a

/-! ### Calendar stamps (R13, R489, R490) -/

/-- The time stamp of a calendar count of 1/32,768 s: seconds [63:32], fraction [31:17]. -/
def calOf (cnt : Nat) : W64 := BitVec.ofNat 64 ((cnt / 32768 % 4294967296) * 4294967296 + cnt % 32768 * 131072)

/-- The present calendar time stamp. -/
def Dev.cal (d : Dev) : W64 := calOf d.bk.cnt

/-- The count of a time stamp in an era. -/
def cntOf (era : Nat) (t : W64) : Nat :=
  (era * 4294967296 + t.toNat / 4294967296) * 32768 + t.toNat % 4294967296 / 131072

/-! ### Events (R178, R181, R182) -/

/-- An event that a subsystem reports. -/
structure Event where
  code : Nat
  obj : W64
  data : BitVec 128
  count : Nat
  isFault : Bool
  /-- Rings; TIME records go to every OPEN channel instead. -/
  dests : List Nat
  late : Bool
  /-- OLD_FRAME, NEW_FRAME of a frame step, and OLD_CAL of a calendar step (R182). -/
  step : Option (W64 × W64)
  oldCal : Option W64
  deriving DecidableEq, Repr

/-- An event to channels 0 and 64 (R178). -/
def ev (code : Nat) (isFault : Bool) (obj : Nat) (data : Nat) : Event :=
  ⟨code, BitVec.ofNat 64 obj, BitVec.ofNat 128 data, 1, isFault, [0, 64], false, none, none⟩

/-- The subsystem that reports a code (R50, R99, R134, R200, R230 and the other event tables). -/
def subsystemOf (code : Nat) : Nat :=
  match code / 256 with
  | 1 => 4
  | 2 => 5
  | 4 => 2
  | 5 => 1
  | 14 => 15
  | 15 => 14
  | n => n

/-- Is a code reported as a TIME record (R178, R494). -/
def isTimeCode (code : Nat) : Bool :=
  decide (0x0110 ≤ code ∧ code ≤ 0x0115) || decide (0x0D01 ≤ code ∧ code ≤ 0x0D03)

/-- Record type of an event code (R178). -/
def recordType (code : Nat) : BitVec 8 :=
  if isTimeCode code then 0x0A
  else match code / 256 with
    | 14 => 0x06
    | 9 => 0x07
    | 11 => 0x09
    | _ => 0x05

/-- The 32-byte body of an event (R181, R182). -/
def eventBody (d : Dev) (e : Event) : BitVec 256 :=
  if isTimeCode e.code then
    let fr := e.step.getD (d.tb.frame, d.tb.frame)
    put 256 192 fr.1 ||| put 256 128 fr.2 ||| put 256 64 (e.oldCal.getD d.cal) ||| put 256 32 d.tb.offsetNs |||
      put 256 0 (BitVec.ofNat 16 e.code)
  else
    put 256 128 e.data ||| put 256 64 e.obj ||| put 256 32 (satNat 32 e.count) ||| putB 256 20 e.isFault |||
      put 256 16 (BitVec.ofNat 4 (subsystemOf e.code)) ||| put 256 0 (BitVec.ofNat 16 e.code)

/-- An attention record captured now (R175). -/
def attnNow (d : Dev) (rtype : BitVec 8) (late : Bool) (body : BitVec 256) : AttnRec :=
  ⟨rtype, late, !d.bk.calSet, d.tb.frame, d.cal, body⟩

/-- Every OPEN channel, ascending. -/
def Dev.openChans (d : Dev) : List Nat := (d.tr.chans.filter (fun c => c.2.st == .opened)).map (·.1)

/-! ### The recorder (R463 to R470) -/

/-- Record at a store index. -/
def Recorder.at_ (r : Recorder) (i : Nat) : Rec := tget Rec.reset r.recs i

/-- Store index of the newest record. -/
def Recorder.newest (r : Recorder) : Nat := (r.next - 1).toNat % 32768

/-- Snapshot entries that a record owns (R469). -/
def Rec.snapEntries (x : Rec) : List Nat :=
  (List.range ((x.snapLen.toNat + 7) / 8)).map (fun i => (x.snapEntry.toNat + i) % 32768)

/-- Reclaim one snapshot entry (R469). -/
def Recorder.reclaim (r : Recorder) (e : Nat) : Recorder :=
  match r.recs.find? (fun x => x.2.snapEntries.contains e) with
  | none => r
  | some (i, x) => { r with recs := tset Rec.reset r.recs i { x with snapLen := 0, snapLost := true } }

/-- Eight words as one snapshot entry. -/
def snapImage (ws : List (BitVec 32)) : BitVec 256 := BitVec.ofNat 256 (leNat (ws.flatMap (fun w => leBytes 4 w.toNat)))

/-- Write the words of a snapshot into newly allocated entries. -/
def Recorder.putSnap (r : Recorder) (ws : List (BitVec 32)) : Recorder :=
  (chunks 8 2 ws).foldl (fun r c =>
    let r := r.reclaim r.snapNext
    { r with snaps := tset 0 r.snaps r.snapNext (snapImage c), snapNext := (r.snapNext + 1) % 32768 }) r

/-- May an occurrence merge into the newest record (R470). -/
def Recorder.merges (r : Recorder) (x : RecIn) : Bool :=
  let n := r.at_ r.newest
  decide (r.stored ≠ 0) && n.source == x.source && n.code == BitVec.ofNat 16 x.code && n.object == x.obj &&
    n.trigger == x.trigger && x.source != 2 && decide (n.rep.toNat < 65535)

/-- Record one occurrence: the device after it, and whether a record not yet copied was overwritten (R472). -/
def captureNow (x : RecIn) (d : Dev) : Dev × Bool :=
  let r := d.rcd
  if r.merges x then
    let n := r.at_ r.newest
    let n' := { n with rep := n.rep + 1, lastDfr := satNat 16 (d.tb.ran - n.firstAt) }
    ({ d with rcd := { r with recs := tset Rec.reset r.recs r.newest n', mergeCnt := satAdd r.mergeCnt 1 } }, false)
  else
    let i := r.next.toNat % 32768
    let full := decide (r.stored = 32768)
    let lost := full && r.copied == r.next - 32768
    let entry := r.snapNext
    let r := r.putSnap x.words
    let n : Rec := { Rec.reset with
      cal := d.cal
      frame := BitVec.ofNat 32 d.tb.frame.toNat
      object := x.obj
      seq := r.next
      code := BitVec.ofNat 16 x.code
      snapEntry := BitVec.ofNat 15 (if x.words.isEmpty then 0 else entry)
      snapLen := BitVec.ofNat 5 x.words.length
      calUnset := !d.bk.calSet
      isFault := x.isFault
      subsystem := BitVec.ofNat 4 x.subsystem
      source := x.source
      trigger := x.trigger
      ownerCopy := x.ownerCopy
      firstAt := d.tb.ran }
    ({ d with rcd := { r with
        recs := tset Rec.reset r.recs i n
        stored := if full then 32768 else r.stored + 1
        next := r.next + 1
        copied := if lost then r.copied + 1 else r.copied
        copyLost := if lost then satAdd r.copyLost 1 else r.copyLost } }, lost)

/-- Capture one occurrence: now, or at the end of the cycle that runs (R465, R466). -/
def capture (x : RecIn) (d : Dev) : Dev × Bool :=
  match d.rcd.intake with
  | none => captureNow x d
  | some xs => ({ d with rcd := { d.rcd with intake := some (xs ++ [x]) } }, false)

/-- Does REC_CFG select an event (R465). -/
def recSelects (d : Dev) (e : Event) : Bool :=
  let n := subsystemOf e.code
  n == 11 || n == 14 || n == 12 || (bit d.rcd.cfg n && (e.isFault || !bit d.rcd.cfg 16))

/-- The snapshot words of an event record (R468). -/
def eventWords (d : Dev) (e : Event) : List (BitVec 32) :=
  if bit d.rcd.cfg 0 then
    [fld e.data 0 32, fld e.data 32 32, fld e.data 64 32, fld e.data 96 32, fld e.obj 0 32, fld e.obj 32 32, satNat 32 e.count]
  else []

/-! ### Queues (R183, R195) -/

/-- Kind of a record for the OVERFLOW counts (R195). -/
def Drops.note (x : Drops) (d : Dev) (step : Bool) (rtype : BitVec 8) (ring : Bool) : Drops :=
  { x with
    firstFrame := if x.total = 0 then d.tb.frame else x.firstFrame
    lastFrame := d.tb.frame
    cal := d.cal
    calUnset := !d.bk.calSet
    afterStep := x.afterStep || step
    total := satAdd x.total 1
    cov := if rtype = 0x02 then satAdd x.cov 1 else x.cov
    alarm := if rtype = 0x03 then satAdd x.alarm 1 else x.alarm
    recd := if rtype = 0x04 then satAdd x.recd 1 else x.recd
    event := if rtype = 0x05 ∨ rtype = 0x06 ∨ rtype = 0x07 ∨ rtype = 0x09 then satAdd x.event 1 else x.event
    time := if rtype = 0x0A then satAdd x.time 1 else x.time
    queueFull := x.queueFull || !ring
    ringFull := x.ringFull || ring }

/-- Is a record the TIME record of a frame step (R182). -/
def AttnRec.isStep (r : AttnRec) : Bool := r.rtype == 0x0A && fld r.body 0 16 == 0x0113#16

/-- Does the TIME record of a frame step wait in a transmit queue. -/
def Channel.hasStep (c : Channel) : Bool := c.txq.any (fun e => match e with
  | .record r => r.isStep
  | _ => false)

/-- Count a drop for an OPEN channel, for its OVERFLOW record (R195). -/
def countDrop (ch : Nat) (rtype : BitVec 8) (ring : Bool) (d : Dev) : Dev :=
  d.modChan ch (fun c => { c with
    dropCnt := c.dropCnt + 1
    drops := c.drops.note d c.hasStep rtype ring })

/-- Records other than COMPLETION in a transmit queue, with the COMPLETION records beyond their 32 reserved places
(R183). DEDUCED: log entry 84. -/
def Channel.queued (c : Channel) : Nat :=
  let n := (c.txq.filter (fun e => match e with | .record _ => true | _ => false)).length
  n + (c.txq.length - n - 32)

/-- Put one record into the event queue: the device after it, and whether it was dropped (R178, R183). -/
def enqueue (ch : Nat) (r : AttnRec) (d : Dev) : Dev × Bool :=
  if (d.chan ch).st ≠ .opened then ({ d with tr := { d.tr with closedCnt := satAdd d.tr.closedCnt 1 } }, false)
  else if d.tr.evq.length < 4096 then
    let q := d.tr.evq ++ [(ch, r)]
    ({ d with tr := { d.tr with evq := q, evqPeak := maxU d.tr.evqPeak (BitVec.ofNat 13 q.length) } }, false)
  else (countDrop ch r.rtype false d, true)

/-! ### Reports (R50, R164, R178, R465, R640) -/

/-- One occurrence of a rate-limited event: the event, its scope and the quantity it counts (R640). -/
structure Limited where
  e : Event
  scope : Nat
  qty : Nat
  deriving DecidableEq, Repr

/-- The 16#0404 of a channel (R195, R200). -/
def ev0404 (ch : Nat) : Limited := ⟨ev 0x0404 true ch 0, ch, 1⟩

/-- Channels 0 and 64, and the channel concerned while it is OPEN (R200). -/
def transDests (d : Dev) (ch : Nat) : List Nat :=
  if ch ≠ 0 ∧ ch ≠ 64 ∧ (d.chan ch).st = .opened then [0, 64, ch] else [0, 64]

/-- The rings of an event that is reported now (R178): those of 16#0404 depend on the channel's state then (R200). -/
def Event.ringsNow (e : Event) (d : Dev) : List Nat :=
  if isTimeCode e.code then d.openChans else if e.code = 0x0404 then transDests d e.obj.toNat else e.dests

/-- The 16#0C06 (R472). -/
def ev0C06 : Limited := ⟨ev 0x0C06 true 0 0, 0, 1⟩

/-- Fault registers of a reported event (R164, R643). -/
def noteFault (e : Event) (d : Dev) : Dev :=
  if e.isFault then
    { d with flt := { d.flt with
        sum := d.flt.sum ||| putB 32 (subsystemOf e.code) true
        first := if d.flt.first = 0 then BitVec.ofNat 16 e.code else d.flt.first } }
  else d

/-- Report an event without what the report itself makes rate-limited: the device, and those occurrences. -/
def reportRaw (e : Event) (d : Dev) : Dev × List Limited :=
  let d := noteFault e d
  let c := if recSelects d e then
      capture ⟨0, 0, e.code, fld e.obj 0 32, subsystemOf e.code, e.isFault, false, eventWords d e⟩ d
    else (d, false)
  let d := c.1
  let rec_ := attnNow d (recordType e.code) e.late (eventBody d e)
  (e.ringsNow d).foldl (fun a ch =>
    let r := enqueue ch rec_ a.1
    (r.1, if r.2 then a.2 ++ [ev0404 ch] else a.2)) (d, if c.2 then [ev0C06] else [])

/-- The rate entry of a code and scope, if its 1,000 frames still run. -/
def rateFind (x : Limited) (d : Dev) : Option RateEntry :=
  d.tr.rates.find? (fun r => decide (r.code = x.e.code ∧ r.scope = x.scope))

/-- Hold an occurrence (R640). DEDUCED: log entry 32. -/
def rateHold (x : Limited) (d : Dev) : Dev :=
  { d with tr := { d.tr with rates := d.tr.rates.map (fun r =>
      if r.code = x.e.code ∧ r.scope = x.scope then
        { r with held := r.held + x.qty, any := true, isFault := x.e.isFault, obj := x.e.obj, data := x.e.data, dests := x.e.dests }
      else r) } }

/-- Begin the 1,000 frames after a report. DEDUCED: log entry 32. -/
def rateStart (x : Limited) (d : Dev) : Dev :=
  { d with tr := { d.tr with rates := d.tr.rates ++
      [⟨x.e.code, x.scope, d.tb.ran, 0, false, x.e.isFault, x.e.obj, x.e.data, x.e.dests⟩] } }

/-- Report one rate-limited occurrence; the reports that this makes follow within the fuel. -/
def limitedFuel : Nat → Limited → Dev → Dev
  | 0, x, d => match rateFind x d with
    | some _ => rateHold x d
    | none => d
  | n + 1, x, d =>
    match rateFind x d with
    | some _ => rateHold x d
    | none =>
      let r := reportRaw { x.e with count := x.qty } (rateStart x d)
      r.2.foldl (fun d y => limitedFuel n y d) r.1

/-- Report an event (R178, R465, R643). -/
def report (e : Event) (d : Dev) : Dev :=
  let r := reportRaw e d
  r.2.foldl (fun d y => limitedFuel 80 y d) r.1

/-- Report an event at most once per 1,000 frames and scope (R640). DEDUCED: log entry 32. -/
def reportLimited (scope qty : Nat) (e : Event) (d : Dev) : Dev := limitedFuel 80 ⟨e, scope, qty⟩ d

/-- Capture an occurrence, with the report of an overwritten record (R472). -/
def captureRep (x : RecIn) (d : Dev) : Dev :=
  let r := capture x d
  if r.2 then limitedFuel 80 ev0C06 r.1 else r.1

/-- Place of a trigger among those of one cycle: ascending SUBSYSTEM, CODE, OBJECT (R466). -/
def RecIn.rank (x : RecIn) : Nat := (x.subsystem * 2 ^ 16 + x.code % 2 ^ 16) * 2 ^ 32 + x.obj.toNat

/-- Put a trigger into a list in the order of R466, ahead of those of its own rank. -/
def RecIn.into (x : RecIn) : List RecIn → List RecIn
  | [] => [x]
  | y :: ys => if x.rank ≤ y.rank then x :: y :: ys else y :: x.into ys

/-- The end of a cycle: its triggers are recorded in their order (R466). -/
def recordCycle (d : Dev) : Dev :=
  ((d.rcd.intake.getD []).foldr RecIn.into []).foldl (fun d x => captureRep x d)
    { d with rcd := { d.rcd with intake := none } }

/-- What happens in one cycle: the triggers that it makes are recorded in the order of R466. DEDUCED: log entry 108. -/
def oneCycle (f : Dev → Dev) (d : Dev) : Dev :=
  if d.rcd.intake.isSome then f d else recordCycle (f { d with rcd := { d.rcd with intake := some [] } })

/-- Place of an event among those of one cycle: ascending SUBSYSTEM, CODE, OBJECT (R466). -/
def Event.rank (e : Event) : Nat := (subsystemOf e.code * 2 ^ 16 + e.code % 2 ^ 16) * 2 ^ 64 + e.obj.toNat

/-- Put an event into a list in the order of R466, ahead of those of its own rank. -/
def Event.into (e : Event) : List Event → List Event
  | [] => [e]
  | x :: xs => if e.rank ≤ x.rank then e :: x :: xs else x :: e.into xs

/-- Report the events of one cycle in the order in which the recorder takes them (R466). DEDUCED: log entry 108. -/
def reportAll (es : List Event) (d : Dev) : Dev := (es.foldr Event.into []).foldl (fun d e => report e d) d

/-- A record that finds its queue full: count it and report 16#0404 (R195). DEDUCED: log entry 25. -/
def dropRecord (ch : Nat) (rtype : BitVec 8) (ring : Bool) (d : Dev) : Dev :=
  limitedFuel 80 (ev0404 ch) (countDrop ch rtype ring d)

/-- Close the rate windows that end with this frame, and report what they held (R640). -/
def sweepRates (d : Dev) : Dev :=
  let ended := d.tr.rates.filter (fun r => decide (1000 ≤ framesSince r.since d))
  let d := { d with tr := { d.tr with rates := d.tr.rates.filter (fun r => decide (framesSince r.since d < 1000)) } }
  ended.foldl (fun d r =>
    if r.any then
      let e : Event := ⟨r.code, r.obj, r.data, 1, r.isFault, r.dests, false, none, none⟩
      limitedFuel 80 ⟨e, r.scope, r.held⟩ d
    else d) d

/-- Count memory errors (R638). -/
def countUncorr (d : Dev) : Dev := { d with flt := { d.flt with eccUncorr := satAdd d.flt.eccUncorr 1 } }

end Sys2Proof.Machine
end

