-- ==== Sys2Proof/Machine/Points.lean ====
section
/-!
DEFINITION. The point store (R54 to R99): the record, canonical forms, updates by producers and the host, ownership,
alarm limits, subscriptions and the notification scan.
-/
namespace Sys2Proof.Machine

/-! ### The record -/

/-- The 32-byte point record (R54). -/
def Point.image (x : Point) : BitVec 256 :=
  put 256 208 x.alarmRef ||| put 256 192 x.changeCnt ||| put 256 184 x.detail ||| put 256 182 x.quality |||
  put 256 176 x.owner ||| put 256 173 x.share ||| putB 256 172 x.mirrored ||| putB 256 171 x.override |||
  putB 256 170 x.subst ||| put 256 167 x.ptype ||| put 256 162 x.shift ||| put 256 156 x.srcKind |||
  put 256 128 x.srcIndex ||| put 256 64 x.tstamp ||| put 256 0 x.value

/-- Is a point's attribute word part of digest area 5 (R530). -/
def Point.digested (x : Point) : Bool := x.mirrored || decide (1 ≤ x.srcKind.toNat ∧ x.srcKind.toNat ≤ 3)

/-- The canonical form of a value under a type (R57). -/
def canonical (ptype : Nat) (v : W64) : W64 :=
  match ptype with
  | 0 => 0
  | 1 => if v = 0 then 0 else 1
  | 2 | 5 => (fld v 0 32).signExtend 64
  | 3 | 4 => (fld v 0 32).setWidth 64
  | 6 => v
  | _ => (fld v 0 16).setWidth 64

/-! ### Numbers in the form of a type (R83, R89) -/

/-- The integer that a value spells: signed, or unsigned for UINT32. -/
def valInt (ptype : Nat) (v : W64) : Int :=
  match ptype with
  | 2 | 5 => (fld v 0 32).toInt
  | 3 => ((fld v 0 32).toNat : Int)
  | _ => v.toInt

/-- Range of an integer type. -/
def typeRange (ptype : Nat) : Int × Int :=
  match ptype with
  | 2 | 5 => (-2147483648, 2147483647)
  | 3 => (0, 4294967295)
  | _ => (-9223372036854775808, 9223372036854775807)

/-- Level numbers as the bits of ACTIVE: 0 LOLO, 1 LO, 2 HI, 3 HIHI. -/
def levelHigh (l : Nat) : Bool := decide (2 ≤ l)

/-- Limit ± DEADBAND with saturation, the high levels subtracting (R83); in binary32 the result is rounded to the nearest,
ties to even, and one beyond the largest finite value is infinity (DESIGN CHOICE: log entry 92). -/
def leaveLimit (ptype l : Nat) (limit db : W64) : W64 :=
  if ptype = 4 then
    let a := fld limit 0 32
    let b := fld db 0 32
    (if levelHigh l then f32Sub a b else f32Add a b).setWidth 64
  else
    let r := typeRange ptype
    let x := if levelHigh l then valInt ptype limit - valInt ptype db else valInt ptype limit + valInt ptype db
    BitVec.ofInt 64 (clampInt r.1 r.2 x)

/-- a < b in the form of a numeric type. -/
def valLt (ptype : Nat) (a b : W64) : Bool :=
  if ptype = 4 then f32Lt (fld a 0 32) (fld b 0 32) else decide (valInt ptype a < valInt ptype b)

/-- a ≤ b in the form of a numeric type. -/
def valLe (ptype : Nat) (a b : W64) : Bool :=
  if ptype = 4 then f32Le (fld a 0 32) (fld b 0 32) else decide (valInt ptype a ≤ valInt ptype b)

/-- Is the entry condition of a level true (R83). -/
def levelEnter (ptype l : Nat) (a : Alarm) (v : W64) : Bool :=
  let lim := tget 0 a.limits l
  match ptype with
  | 0 => false
  | 1 => if l = 2 then v == 1 else if l = 1 then v == 0 else false
  | 7 => fld v 0 16 == fld lim 0 16
  | _ => if levelHigh l then valLe ptype lim v else valLe ptype v lim

/-- Is the leave condition of a level true (R83). -/
def levelLeave (ptype l : Nat) (a : Alarm) (v : W64) : Bool :=
  let lim := tget 0 a.limits l
  match ptype with
  | 0 => false
  | 1 => if l = 2 then v != 1 else if l = 1 then v != 0 else false
  | 7 => fld v 0 16 != fld lim 0 16
  | _ => if levelHigh l then valLt ptype v (leaveLimit ptype l lim a.deadband)
         else valLt ptype (leaveLimit ptype l lim a.deadband) v

/-! ### Alarm levels (R84, R85) -/

/-- State of a level. -/
def Alarm.level (a : Alarm) (l : Nat) : LevelState := tget .normal a.levels l

/-- Is a level active: its ACTIVE bit. -/
def LevelState.isActive : LevelState → Bool
  | .active => true
  | .clearWait => true
  | _ => false

/-- The ACTIVE field (R82). -/
def Alarm.active (a : Alarm) : BitVec 4 :=
  [0, 1, 2, 3].foldl (fun x l => x ||| putB 4 l (a.level l).isActive) 0

/-- Move a level, its UNACKED bit set or cleared, the entry marked for notice (R85). -/
def Alarm.move (a : Alarm) (l : Nat) (s : LevelState) (unack : Bool) (counts : Bool) : Alarm :=
  { a with
    levels := tset .normal a.levels l s
    unacked := mergeBits (putB 4 l true) a.unacked (putB 4 l unack)
    marked := true
    transitions := if counts then satAdd a.transitions 1 else a.transitions }

/-- One level at a change of its point (R85). A level whose LEVEL_EN bit has been cleared stays active until its leave
condition is true; a delay that runs goes on until the point's next change (DESIGN CHOICE: log entry 93). -/
def levelStep (ptype l : Nat) (v : W64) (a : Alarm) : Alarm :=
  let enter := bit a.levelEn l && levelEnter ptype l a v
  let leave := levelLeave ptype l a v
  match a.level l with
  | .normal =>
    if enter then
      if a.delayFr = 0 then a.move l .active true true
      else { a with levels := tset .normal a.levels l (.delaying a.delayFr.toNat) }
    else a
  | .delaying _ => if enter then a else { a with levels := tset .normal a.levels l .normal }
  | .active =>
    if leave then
      if a.latch && bit a.unacked l then { a with levels := tset .normal a.levels l .clearWait }
      else a.move l .normal true true
    else a
  | .clearWait => if enter then { a with levels := tset .normal a.levels l .active } else a

/-- The quality alarm at a change of its point (R84); where Q_EN is set while QUALITY is BAD already, it enters at the
point's next change (DESIGN CHOICE: log entry 93). -/
def qualityAlarm (q : BitVec 2) (a : Alarm) : Alarm :=
  if q = 2 then
    if a.qEn && !a.qActive then
      { a with qActive := true, qUnacked := true, marked := true, transitions := satAdd a.transitions 1 }
    else a
  else if a.qActive then { a with qActive := false, marked := true, transitions := satAdd a.transitions 1 }
  else a

/-- Evaluate an alarm entry at a change of its point (R84). -/
def alarmEval (x : Point) (a : Alarm) : Alarm :=
  let a := qualityAlarm x.quality a
  if x.quality = 2 ∨ x.quality = 3 then a
  else [0, 1, 2, 3].foldl (fun a l => levelStep x.ptype.toNat l x.value a) a

/-- Acknowledge levels by mask, and the quality alarm (R85). A set UNACKED bit of a level in NORMAL or DELAYING, for which
the table has no row, is cleared too and the entry marked (DESIGN CHOICE: log entry 93). -/
def alarmAckBits (mask : BitVec 4) (q : Bool) (a : Alarm) : Alarm :=
  let a := [0, 1, 2, 3].foldl (fun a l =>
    if bit mask l && bit a.unacked l then
      match a.level l with
      | .clearWait => a.move l .normal false true
      | s => a.move l s false false
    else a) a
  if q && a.qUnacked then { a with qUnacked := false, marked := true } else a

/-- One frame of a level's delay count (R85); while the point's QUALITY is BAD or INITIAL no level enters, and the count
waits at 0 (R84). DEDUCED: log entry 112. -/
def delayStep (q : BitVec 2) (l : Nat) (a : Alarm) : Alarm :=
  match a.level l with
  | .delaying n =>
    if n ≤ 1 ∧ q ≠ 2 ∧ q ≠ 3 then a.move l .active true true
    else { a with levels := tset .normal a.levels l (.delaying (n - 1)) }
  | _ => a

/-- The delay sweep of one entry (R85). -/
def alarmSweep (q : BitVec 2) (a : Alarm) : Alarm := [0, 1, 2, 3].foldl (fun a l => delayStep q l a) a

/-- The point that names an alarm entry (R82: at most one). -/
def Dev.alarmPoint (d : Dev) (e : Nat) : Option Nat :=
  (d.ps.points.find? (fun x => x.2.alarmRef.toNat == e + 1)).map (·.1)

/-- QUALITY of the point that names an alarm entry. -/
def Dev.alarmQuality (d : Dev) (e : Nat) : BitVec 2 := match d.alarmPoint e with
  | some p => (d.point p).quality
  | none => 0

/-! ### Subscriptions (R86 to R93) -/

/-- The mask of a share group (R77). -/
def Dev.shareMask (d : Dev) (g : Nat) : W64 := if g = 0 ∨ 7 < g then 0 else tget 0 d.ps.shareMask g

/-- May a partition read a point (R66). -/
def canRead (part : Nat) (x : Point) (mask : W64) : Bool :=
  part == 0 || x.owner.toNat == part || (x.share != 0 && bit mask part)

/-- May a partition read point p (R66). -/
def Dev.canRead (d : Dev) (part p : Nat) : Bool :=
  Sys2Proof.Machine.canRead part (d.point p) (d.shareMask (d.point p).share.toNat)

/-- BASE and COUNT of SUB_RANGE_p (R86). -/
def Dev.subRange (d : Dev) (p : Nat) : Nat × Nat :=
  let r := tget 0 d.ps.subRange p
  ((fld r 0 14).toNat, (fld r 16 15).toNat)

/-- The partition whose range holds an entry (R86). -/
def Dev.subHolder (d : Dev) (e : Nat) : Option Nat :=
  (d.ps.subRange.find? (fun x => decide ((fld x.2 0 14).toNat ≤ e ∧ e < (fld x.2 0 14).toNat + (fld x.2 16 15).toNat))).map (·.1)

/-- Does a change of value qualify (R89); under TYPE 0, which has no form for a deadband, every one does. DEDUCED: log
entry 94. -/
def valueQualifies (ptype : Nat) (v last db : W64) : Bool :=
  match ptype with
  | 0 | 1 | 7 => true
  | 4 =>
    let b := fld db 0 32
    if f32Lt 0 b then f32Le b (f32Abs (f32Sub (fld v 0 32) (fld last 0 32))) else true
  | t => decide (max (valInt t db) 0 ≤ (valInt t v - valInt t last).natAbs)

/-- Note one change of a point in one entry (R89). -/
def subNote (p : Nat) (old new : Point) (s : Sub) : Sub :=
  if s.en && !s.revoked && s.point.toNat == p then
    let q := s.onQuality && (new.quality != old.quality || new.detail != old.detail)
    let v := s.onValue && new.value != old.value && valueQualifies new.ptype.toNat new.value s.lastSent s.deadband
    if q || v then { s with pending := true, changes := satAdd s.changes 1 } else s
  else s

/-- Alarms, subscriptions and mirroring act on a change of a point (R84, R89, R535). -/
def pointChanged (p : Nat) (old : Point) (d : Dev) : Dev :=
  let x := d.point p
  let d := if x.alarmRef = 0 then d
    else d.setAlarm (x.alarmRef.toNat - 1) (alarmEval x (d.alarm (x.alarmRef.toNat - 1)))
  let keys := (d.ps.subs.filter (fun s => s.2.en && s.2.point.toNat == p)).map (·.1)
  keys.foldl (fun d e => d.setSub e (subNote p old x (d.sub e))) d

/-- Store a record whose value, quality or detail may differ from the one before it (R55). -/
def storePoint (p : Nat) (x : Point) (cal : W64) (d : Dev) : Dev :=
  let old := d.point p
  if x.value = old.value ∧ x.quality = old.quality ∧ x.detail = old.detail then d.setPoint p x
  else pointChanged p old (d.setPoint p { x with
    changeCnt := old.changeCnt + 1, tstamp := cal, mirPending := x.mirPending || x.mirrored })

/-- A producer's update (R57, R58, R72, R95). -/
def produce (p : Nat) (v : W64) (q : BitVec 2) (det : BitVec 8) (cal : W64) (d : Dev) : Dev :=
  let x := d.point p
  if x.subst || x.quarantined then d
  else if x.ptype = 4 ∧ f32IsNan (fld v 0 32) then storePoint p { x with quality := 2, detail := 0x0F } cal d
  else storePoint p { x with value := canonical x.ptype.toNat v, quality := q, detail := det } cal d

/-- A producer's change of quality alone: the value is held (R98). -/
def produceQ (p : Nat) (q : BitVec 2) (det : BitVec 8) (cal : W64) (d : Dev) : Dev :=
  let x := d.point p
  if x.subst || x.quarantined then d else storePoint p { x with quality := q, detail := det } cal d

/-- Does the source word of a point name a producer (R62). -/
def Dev.produces (d : Dev) (kind index p : Nat) : Bool :=
  (d.point p).srcKind == BitVec.ofNat 4 kind && (d.point p).srcIndex == BitVec.ofNat 28 index

/-- An update by the producer with this source word: a point whose source word names no such producer, since a quarantine
removed it, takes nothing (R65, R95). -/
def produceAs (kind index p : Nat) (v : W64) (q : BitVec 2) (det : BitVec 8) (cal : W64) (d : Dev) : Dev :=
  if d.produces kind index p then produce p v q det cal d else d

/-- A change of quality alone by the producer with this source word (R65, R95, R98). -/
def produceQAs (kind index p : Nat) (q : BitVec 2) (det : BitVec 8) (cal : W64) (d : Dev) : Dev :=
  if d.produces kind index p then produceQ p q det cal d else d

/-- Set the source word of a point that a configuration now produces (R59, R63). A substitution in force is shown by SUBST
from then on, and its value and quality stay (R72). DEDUCED: log entry 82. -/
def claimPoint (kind index p : Nat) (d : Dev) : Dev :=
  let x := d.point p
  let y := { x with srcKind := BitVec.ofNat 4 kind, srcIndex := BitVec.ofNat 28 index, subst := x.substForce }
  storePoint p (if x.substForce then y else { y with quality := 3, detail := 1 }) d.cal d

/-- Remove the producer of a point (R64). -/
def releasePoint (p : Nat) (d : Dev) : Dev :=
  let x := d.point p
  if x.quarantined then d
  else storePoint p { x with
    srcKind := 0, srcIndex := 0, subst := false, substForce := false, quality := 3, detail := 1 } d.cal d

/-- Remove the producer with this source word from a point that still names it (R64). -/
def releaseAs (kind index p : Nat) (d : Dev) : Dev := if d.produces kind index p then releasePoint p d else d

/-- May a configuration produce a point (R63): configured and without a producer. -/
def Dev.canProduce (d : Dev) (p : Nat) : Bool :=
  let x := d.point p
  decide (p < 131072) && x.srcKind == 0 && x.ptype != 0 && !x.quarantined

/-! ### Host access (R69 to R74) -/

/-- One element of a POINT_WRITE (R150). -/
structure PointElem where
  value : W64
  quality : BitVec 2
  detail : BitVec 8
  deriving DecidableEq, Repr

/-- Status of one element of a POINT_WRITE, 0 where it may be applied (R58, R61, R69, R70, R639). `denied` and `state` are the
status codes of R132. -/
def pointWriteCheck (denied state : Nat) (part p : Nat) (e : PointElem) (d : Dev) : Nat :=
  let x := d.point p
  let own := x.owner.toNat == part
  if !d.canRead part p then denied
  else if x.srcKind = 0 then
    if part = 0 then
      if x.owner ≠ 0 ∧ !x.override then denied
      else if e.quality = 3 ∨ (x.ptype = 4 ∧ f32IsNan (fld e.value 0 32)) ∨ x.ptype = 0 then state else 0
    else if !own then denied
    else if e.quality = 3 ∨ (x.ptype = 4 ∧ f32IsNan (fld e.value 0 32)) ∨ x.ptype = 0 then state else 0
  else if part ≠ 0 ∧ !own then denied
  else if !(part == 0 && x.override) then state
  else if e.quality = 3 ∨ (x.ptype = 4 ∧ f32IsNan (fld e.value 0 32)) ∨ x.ptype = 0 then state else 0

/-- Apply one element of a POINT_WRITE (R65, R72). -/
def pointWriteOne (part p : Nat) (e : PointElem) (d : Dev) : Dev :=
  let x := d.point p
  let v := canonical x.ptype.toNat e.value
  if part = 0 ∧ (x.srcKind ≠ 0 ∨ x.owner ≠ 0) then
    storePoint p { x with
      value := v, quality := 1, detail := 0x10, subst := x.subst || x.srcKind != 0, substForce := true,
      mirProduced := false } d.cal d
  else storePoint p { x with
      value := v, quality := e.quality, detail := e.detail, substForce := false, mirProduced := false } d.cal d

/-- One element of a POINT_CONFIG (R150): the mask of the fields it sets, and the fields. -/
structure ConfigElem where
  mask : BitVec 8
  alarmRef : BitVec 16
  owner : BitVec 6
  share : BitVec 3
  mirrored : Bool
  override : Bool
  ptype : BitVec 3
  shift : BitVec 5
  deriving DecidableEq, Repr

/-- The record's configuration fields after an element: bits 0 ALARM_REF, 1 OWNER, 2 SHARE, 3 MIRRORED,
4 OWNER_OVERRIDE, 5 TYPE, 6 SHIFT (R150). -/
def ConfigElem.fields (e : ConfigElem) (x : Point) : Point :=
  { x with
    alarmRef := if bit e.mask 0 then e.alarmRef else x.alarmRef
    owner := if bit e.mask 1 then e.owner else x.owner
    share := if bit e.mask 2 then e.share else x.share
    mirrored := if bit e.mask 3 then e.mirrored else x.mirrored
    override := if bit e.mask 4 then e.override else x.override
    ptype := if bit e.mask 5 then e.ptype else x.ptype
    shift := if bit e.mask 6 then e.shift else x.shift }

/-- Apply one element of a POINT_CONFIG (R73, R74, R76, R77, R95); 16#0208 and 16#0209 go to the owner that the element
leaves (DESIGN CHOICE: log entry 91). DEDUCED: log entry 36. -/
def pointConfigOne (p : Nat) (e : ConfigElem) (d : Dev) : Dev :=
  let x := d.point p
  let y := e.fields x
  let wiped := decide (y.ptype ≠ x.ptype ∨ y.shift ≠ x.shift) || (x.quarantined && bit e.mask 5)
  let y := if wiped then { y with value := 0, quality := 3, detail := 1 } else y
  let y := if bit e.mask 5 then { y with quarantined := false } else y
  let ends := x.override && !y.override && (x.subst || x.substForce)
  let y := if ends then { y with subst := false, substForce := false, quality := 3, detail := 1 } else y
  let d := storePoint p y d.cal d
  if x.override ≠ y.override then
    let code := if y.override then 0x0208 else 0x0209
    let o := y.owner.toNat
    report { ev code false p 0 with dests := if o = 0 then [0] else [0, o] } d
  else d

/-- Revoke and restore subscriptions after a configuration write (R93). DEDUCED: log entry 48. -/
def rightsChanged (d : Dev) : Dev :=
  let keys := (d.ps.subs.filter (fun s => s.2.en)).map (·.1)
  keys.foldl (fun d e =>
    let s := d.sub e
    let h := d.subHolder e
    let ok := match h with
      | some part => d.canRead part s.point.toNat
      | none => false
    if !ok && !s.revoked then
      report { ev 0x0206 false e s.point.toNat with dests := match h with
        | some part => if part = 0 then [0] else [0, part]
        | none => [0] } (d.setSub e { s with revoked := true, pending := false })
    else if ok && s.revoked then d.setSub e { s with revoked := false, pending := true }
    else d) d

/-- Apply a write of a subscription entry's RW fields (R90, R93). -/
def subWrite (e : Nat) (n : Sub) (d : Dev) : Dev :=
  let s := d.sub e
  let w := { s with
    minInterval := n.minInterval, deadband := n.deadband, en := n.en, onQuality := n.onQuality, onValue := n.onValue,
    point := n.point }
  if !n.en then d.setSub e { w with pending := false, revoked := false, changes := 0 }
  else if !s.en || n.point != s.point then
    d.setSub e { w with pending := true, revoked := false, changes := 0, holdLeft := 0 }
  else d.setSub e w

/-! ### Notification scan (R91, R92) -/

/-- The channels of an alarm entry's records (R86). -/
def alarmDests (a : Alarm) (x : Point) (mask : W64) : List Nat :=
  let shared := if x.share = 0 then [] else (List.range 64).filter (fun p => bit mask p)
  ((if a.copyP0 then [0] else []) ++ [x.owner.toNat] ++ shared).dedup

/-- ALARM body (R180). -/
def alarmBody (e p : Nat) (a : Alarm) (x : Point) : BitVec 256 :=
  put 256 192 x.value ||| put 256 128 x.tstamp ||| put 256 111 (BitVec.ofNat 17 p) ||| put 256 97 (BitVec.ofNat 14 e) |||
  put 256 89 a.transitions ||| put 256 85 a.active ||| put 256 81 a.unacked ||| putB 256 80 a.qActive |||
  putB 256 79 a.qUnacked ||| put 256 77 x.quality ||| put 256 69 x.detail

/-- COV body (R180). -/
def covBody (e : Nat) (s : Sub) (x : Point) : BitVec 256 :=
  put 256 192 x.value ||| put 256 128 x.tstamp ||| put 256 112 x.changeCnt ||| put 256 104 s.changes |||
  put 256 96 x.detail ||| put 256 94 x.quality ||| put 256 91 x.ptype ||| put 256 86 x.shift |||
  put 256 64 s.point ||| put 256 0 (BitVec.ofNat 14 e)

/-- Put a record into the event queue for a channel, counting a drop (R183, R195). -/
def deliver (ch : Nat) (r : AttnRec) (d : Dev) : Dev :=
  let x := enqueue ch r d
  if x.2 then limitedFuel 80 (ev0404 ch) x.1 else x.1

/-- Emit a marked alarm entry (R86, R91). Its transitions are the moves of a level into ACTIVE from NORMAL or DELAYING and
into NORMAL from ACTIVE or CLEAR_WAIT, and those of the quality alarm; an entry that no point names is unmarked without a
record (DESIGN CHOICE: log entry 95). -/
def emitAlarm (e : Nat) (d : Dev) : Dev :=
  let a := d.alarm e
  let d1 := { d.setAlarm e { a with marked := false, transitions := 0 } with
    ps := { (d.setAlarm e { a with marked := false, transitions := 0 }).ps with alarmRR := e + 1 } }
  match d.alarmPoint e with
  | none => d1
  | some p =>
    let x := d.point p
    let r := attnNow d 0x03 false (alarmBody e p a x)
    (alarmDests a x (d.shareMask x.share.toNat)).foldl (fun d ch => deliver ch r d) d1

/-- Emit a pending subscription entry (R91). -/
def emitSub (e : Nat) (d : Dev) : Dev :=
  let s := d.sub e
  let x := d.point s.point.toNat
  let r := attnNow d 0x02 false (covBody e s x)
  let d1 := d.setSub e { s with lastSent := x.value, pending := false, changes := 0, holdLeft := s.minInterval }
  let d1 := { d1 with ps := { d1.ps with subRR := e + 1 } }
  deliver ((d.subHolder e).getD 0) r d1

/-- Marked alarm entries in service order. -/
def Dev.alarmsDue (d : Dev) : List Nat :=
  rotateFrom d.ps.alarmRR ((d.ps.alarms.filter (fun a => a.2.marked)).map (·.1))

/-- Due subscription entries in service order. -/
def Dev.subsDue (d : Dev) : List Nat :=
  rotateFrom d.ps.subRR ((d.ps.subs.filter (fun s => s.2.pending && s.2.holdLeft == 0)).map (·.1))

/-- The scan ends: entries that are still due stay unserved in this frame (R92). DEDUCED: log entry 23. -/
def scanEnd (d : Dev) : Dev := { d with ps := { d.ps with deferred := !(d.alarmsDue.isEmpty && d.subsDue.isEmpty) } }

/-- The frame ends with due entries that its scan left unserved (R92, R99). DEDUCED: log entry 23. -/
def noteDeferred (d : Dev) : Dev :=
  if d.ps.deferred then
    reportLimited 0 1 (ev 0x0205 true 0 0)
      { d with ps := { d.ps with deferred := false, deferCnt := satAdd d.ps.deferCnt 1 } }
  else d

/-- HOLD_LEFT of every entry decrements once per frame (R91). -/
def holdStep (d : Dev) : Dev :=
  ((d.ps.subs.filter (fun s => s.2.holdLeft != 0)).map (·.1)).foldl (fun d e =>
    let s := d.sub e
    d.setSub e { s with holdLeft := s.holdLeft - 1 }) d

/-! ### Memory errors (R94 to R98) -/

/-- Count a failing item (R98, R638). -/
def pointEcc (table index : Nat) (d : Dev) : Dev :=
  countUncorr { d with ps := { d.ps with
    eccCnt := satAdd d.ps.eccCnt 1
    eccLast := put 32 30 (BitVec.ofNat 2 table) ||| put 32 0 (BitVec.ofNat 17 index) } }

/-- Channel 0 and another channel, once each. -/
def dests0 (p : Nat) : List Nat := if p = 0 then [0] else [0, p]

/-- Uncorrectable error in VALUE or TSTAMP (R94). -/
def pointMemory (p : Nat) (d : Dev) : Dev :=
  let x := d.point p
  let d1 := report { ev 0x0201 true p 0 with dests := dests0 x.owner.toNat } (pointEcc 0 p d)
  storePoint p { x with value := 0, quality := 2, detail := 0x0C, tstamp := d.cal } d.cal d1

/-- Uncorrectable error in a configuration word (R95). CHANGE_CNT and TSTAMP stay at the reset column's 0, subscriptions
lose the rights that OWNER and SHARE gave and are revoked, and no 16#0209 goes beside 16#0202 (DESIGN CHOICE: log entry 96). -/
def pointQuarantine (p : Nat) (d : Dev) : Dev :=
  let d1 := report { ev 0x0202 true p 0 with dests := [0] } (pointEcc 0 p d)
  let old := d.point p
  let x := { Point.reset with quality := 2, detail := 0x0C, quarantined := true }
  let d2 := digestMark [5] (d1.setPoint p x)
  let d3 := if old.value = x.value ∧ old.quality = x.quality ∧ old.detail = x.detail then d2 else pointChanged p old d2
  rightsChanged d3

/-- Uncorrectable error in an alarm entry (R97). -/
def alarmMemory (e : Nat) (d : Dev) : Dev :=
  report (ev 0x0203 true e 0) ((pointEcc 1 e d).setAlarm e { d.alarm e with levelEn := 0, qEn := false, levels := [] })

/-- Uncorrectable error in a subscription entry (R97); without EN it is not pending (R91). DEDUCED: log entry 49. -/
def subMemory (e : Nat) (d : Dev) : Dev :=
  let s := d.sub e
  let d1 := (pointEcc 2 e d).setSub e { s with en := false, pending := false }
  report { ev 0x0204 true e 0 with dests := match d.subHolder e with
    | some part => dests0 part
    | none => [0] } d1

end Sys2Proof.Machine
end

