-- ==== Sys2Proof/Machine/Island.lean ====
section
/-!
DEFINITION. The safety island (R432 to R455): its pins, its 10 kHz tick, test pulses, seals and states; and the main
domain's side of it, the snapshot of phase A (R456 to R459).
-/
namespace Sys2Proof.Machine

/-! ### Seals (R438) -/

/-- N of the discrepancy time, in ticks (R442, R444). -/
def Island.discTicks (x : Island) : Nat :=
  match (fld x.sealVal 0 2).toNat with
  | 0 => 500
  | 1 => 1000
  | 2 => 2000
  | _ => 5000

def Island.manual (x : Island) : Bool := bit x.sealVal 2
def Island.pulsesOn (x : Island) : Bool := bit x.sealVal 3
def Island.switchTest (x : Island) : Bool := bit x.sealVal 6
def Island.coilCheck (x : Island) : Bool := bit x.sealVal 7

/-- A reserved seal code. DEDUCED: log entry 69. -/
def sealReserved (v : BitVec 8) : Bool := fld v 4 2 == 3#2 || (bit v 6 && !bit v 7)

/-- The inputs that stop an output. -/
def Island.mapped (x : Island) (j : Nat) : List Nat :=
  match (fld x.sealVal 4 2).toNat with
  | 1 => [2 * j, 2 * j + 1]
  | 2 => if j < 2 then [0, 1, 2, 3] else [4, 5, 6, 7]
  | _ => [0, 1, 2, 3, 4, 5, 6, 7]

/-! ### Pins and the stop path (R439, R441, R445, R446) -/

/-- Level of a channel of an input, with an overloaded source reading open (R441). -/
def Island.level (x : Island) (chB : Bool) (k : Nat) : Bool :=
  if chB then bit x.pinB k && !x.ovlB else bit x.pinA k && !x.ovlA

/-- Does the combinational gate let a side of an output close its switch (R445, R446). -/
def Island.gate (x : Island) (chB : Bool) (j : Nat) : Bool :=
  (x.mapped j).all (fun k => x.level chB k || (if chB then x.maskB else x.maskA)) &&
    (x.manual || (if chB then x.pinEnB else x.pinEnA))

def IslCopy.inp (c : IslCopy) (k : Nat) : SafeIn := tget SafeIn.reset c.ins k
def IslCopy.setInp (c : IslCopy) (k : Nat) (v : SafeIn) : IslCopy := { c with ins := tset SafeIn.reset c.ins k v }
def IslCopy.outp (c : IslCopy) (j : Nat) : SafeOut := tget SafeOut.reset c.outs j
def IslCopy.setOutp (c : IslCopy) (j : Nat) (v : SafeOut) : IslCopy := { c with outs := tset SafeOut.reset c.outs j v }

/-- The SBO pins: copy A drives the high side, copy B the low side, each through its gate (R433, R445, R454). -/
def Island.hsPin (x : Island) (j : Nat) : Bool := x.st == .ready && (x.copyA.outp j).hs && x.gate false j
def Island.lsPin (x : Island) (j : Nat) : Bool := x.st == .ready && (x.copyB.outp j).ls && x.gate true j

/-! ### Faults and states (R454, R455) -/

/-- Change each logic copy. -/
def Island.both (x : Island) (f : IslCopy → IslCopy) : Island := { x with copyA := f x.copyA, copyB := f x.copyB }

/-- An input enters a state at a tick (R456). -/
def SafeIn.enter (v : SafeIn) (tick : Nat) (st : InSt) : SafeIn :=
  if v.st = st then v
  else { v with st := st, clearRun := 0, changes := v.changes + 1, changeTick := BitVec.ofNat 32 tick }

/-- An output enters a state with its switches. -/
def SafeOut.enter (v : SafeOut) (tick : Nat) (st : OutSt) (hs ls : Bool) : SafeOut :=
  { v with
    st := st, ticks := 0, hs := hs, ls := ls, fbRun := 0, coilRun := 0, clearRun := 0
    changes := v.changes + 1, changeTick := BitVec.ofNat 32 tick }

/-- An output latches fault bits: both switches off. -/
def SafeOut.trip (v : SafeOut) (tick : Nat) (bits : BitVec 4) : SafeOut :=
  { v.enter tick .fault false false with fault := v.fault ||| bits, fbWait := false }

/-- An output goes OFF; the feedback response of the stop is then awaited (R453, R456). -/
def SafeOut.stop (v : SafeOut) (tick : Nat) : SafeOut := { v.enter tick .off false false with fbWait := true }

/-- A demand with its switches closed opens them (R451). -/
def SafeOut.demand (v : SafeOut) (tick : Nat) : SafeOut :=
  match v.st with
  | .testing _ | .releasing | .on => v.stop tick
  | _ => v

/-- Is no input, output or enable fault latched in a copy (R455). -/
def IslCopy.healthy (c : IslCopy) : Bool :=
  !c.enFault && c.ins.all (fun v => v.2.fault == 0) && c.outs.all (fun v => v.2.fault == 0)

/-- Drive the SAFE_OK pins from the two copies (R455). -/
def Island.driveOk (x : Island) : Island :=
  { x with okA := x.st == .ready && x.copyA.healthy, okB := x.st == .ready && x.copyB.healthy }

/-- An island fault: all SBO and SAFE_OK low, the cause held until power is lost (R454). -/
def Island.trip (x : Island) (cause : BitVec 8) : Island :=
  let x := { x with st := .fault, cause := cause, okA := false, okB := false }
  x.both (fun c => [0, 1, 2, 3].foldl (fun c j => c.setOutp j ((c.outp j).demand x.tick)) c)

/-! ### Transitions that fall due at a tick -/

/-- The discrepancy count has reached N with the channels unequal (R442). -/
def discDue (n : Nat) (v : SafeIn) : Bool := v.st == .discrepant && decide (n ≤ v.c)

/-- Latch DISCREPANCY where it is due. -/
def discLatch (n tick k : Nat) (c : IslCopy) : IslCopy :=
  let v := c.inp k
  if discDue n v then c.setInp k { v.enter tick .fault with fault := v.fault ||| 1#4 } else c

/-- I_ON and I_OFF in mV (R451). -/
def iOn : Nat := 100
def iOff : Nat := 20

/-- Time limits of an output that have expired: the fault bits to latch, 0 for none (R451). -/
def brakeDue (coil : Bool) (v : SafeOut) : BitVec 4 :=
  match v.st with
  | .off =>
    (if v.ticks = 3000 ∧ v.sbf = false then 4#4 else 0) |||
      (if coil = true ∧ v.ticks = 500 ∧ iOff ≤ v.sbiMv.toNat then 8#4 else 0)
  | .releasing =>
    if v.ticks < 3000 then 0
    else (if v.sbf then 4#4 else 0) ||| (if coil = true ∧ v.sbiMv.toNat < iOn then 8#4 else 0)
  | .on => if 10 ≤ v.fbRun then 4#4 else if coil = true ∧ 10 ≤ v.coilRun then 8#4 else 0
  | _ => 0

/-- Latch the faults of expired limits. -/
def brakeLatch (coil : Bool) (tick j : Nat) (c : IslCopy) : IslCopy :=
  let v := c.outp j
  if brakeDue coil v = 0 then c else c.setOutp j (v.trip tick (brakeDue coil v))

/-- A step of the switch test has run its 20 ticks: judge it (R452). -/
def testStep (tick j : Nat) (c : IslCopy) : IslCopy :=
  let v := c.outp j
  match v.st with
  | .testing s =>
    if v.ticks < 20 then c
    else match s with
      | 1 =>
        if v.coilRun ≠ 0 then c.setOutp j (v.trip tick 2#4)
        else c.setOutp j { v with st := .testing 2, ticks := 0, hs := false, ls := true, coilRun := 0 }
      | 2 =>
        if v.coilRun ≠ 0 then c.setOutp j (v.trip tick 1#4)
        else c.setOutp j { v with st := .testing 3, ticks := 0, hs := false, ls := false, coilRun := 0 }
      | _ =>
        if v.sbf then c.setOutp j { v.enter tick .releasing true true with fbWait := true }
        else c.setOutp j (v.trip tick 4#4)
  | _ => c

/-- What a fault-clearing step names. -/
def clearInput (tick k : Nat) (c : IslCopy) : IslCopy :=
  let v := c.inp k
  if v.st = .fault ∧ 1000 ≤ v.clearRun then
    c.setInp k { v.enter tick .opened with
      fault := 0, stuckARun := 0, crossARun := 0, stuckBRun := 0, crossBRun := 0 }
  else c

/-- Clear an output fault after its 1,000 ticks (R451). -/
def clearOutput (tick j : Nat) (c : IslCopy) : IslCopy :=
  let v := c.outp j
  if v.st = .fault ∧ 1000 ≤ v.clearRun then c.setOutp j { v.enter tick .off false false with fault := 0 } else c

/-- Clear the enable fault after its 1,000 ticks (R450). -/
def clearEnable (c : IslCopy) : IslCopy :=
  if c.enFault = true ∧ 1000 ≤ c.enClear then { c with enFault := false, enDiff := 0 } else c

/-- Take every transition that is due (DESIGN CHOICE: log entry 12). -/
def settleCopy (n tick : Nat) (coil : Bool) (c : IslCopy) : IslCopy :=
  let c := (List.range 8).foldl (fun c k => clearInput tick k (discLatch n tick k c)) c
  let c := (List.range 4).foldl (fun c j => clearOutput tick j (testStep tick j (brakeLatch coil tick j c))) c
  clearEnable c

/-! ### The tick (R434, R442 to R453) -/

/-- Sample one input (R442). DEDUCED: log entry 68. -/
def inputTick (n tick k : Nat) (a b enLow : Bool) (c : IslCopy) : IslCopy :=
  let v := { c.inp k with chA := a, chB := b }
  let v := match v.st with
    | .fault => { v with clearRun := if !a && !b && enLow then v.clearRun + 1 else 0 }
    | .discrepant =>
      if a = b then
        let v := { v with lastDisc := satNat 16 v.c, discMax := maxU v.discMax (satNat 16 v.c) }
        { v.enter tick (if a then .closed else .opened) with c := 0 }
      else { v with c := min n (v.c + 1) }
    | _ =>
      if a = b then v.enter tick (if a then .closed else .opened)
      else { v.enter tick .discrepant with c := 1 }
  c.setInp k v

/-- Sample the enable pair (R447, R449, R450): the copy, and whether a valid restart pulse ends at this tick. -/
def enableTick (n tick : Nat) (a b : Bool) (c : IslCopy) : IslCopy × Bool :=
  let low := !a && !b
  let riseA := if a && !c.enA then some tick else c.riseA
  let riseB := if b && !c.enB then some tick else c.riseB
  let fallA := if a then none else if c.enA then some tick else c.fallA
  let fallB := if b then none else if c.enB then some tick else c.fallB
  let ends := low && (c.enA || c.enB)
  let near (x y : Nat) : Bool := decide (x ≤ y + n ∧ y ≤ x + n)
  let valid := match riseA, riseB, fallA, fallB with
    | some ra, some rb, some fa, some fb =>
      near ra rb && near fa fb && decide (max ra rb + 1000 ≤ min fa fb ∧ min fa fb ≤ max ra rb + 30000)
    | _, _, _, _ => false
  let diff := if a = b then 0 else min n (c.enDiff + 1)
  ({ c with
      enA := a, enB := b
      lowSeen := c.lowSeen || low
      enFault := c.enFault || decide (n ≤ diff)
      enDiff := diff
      enClear := if low then c.enClear + 1 else 0
      riseA := if low then none else riseA, riseB := if low then none else riseB
      fallA := if low then none else fallA, fallB := if low then none else fallB },
    ends && valid)

/-- The restart condition of an output apart from READY (R447). -/
def restartOk (mapped : List Nat) (j : Nat) (c : IslCopy) : Bool :=
  mapped.all (fun k => (c.inp k).st == .closed && (c.inp k).fault == 0) && (c.outp j).fault == 0 && !c.enFault && c.lowSeen

/-- Is there a demand on an output (R451). -/
def demandOn (mapped : List Nat) (ready auto_ : Bool) (c : IslCopy) : Bool :=
  !ready || mapped.any (fun k => (c.inp k).st != .closed) || (auto_ && !(c.enA && c.enB)) || c.enFault

/-- Sample the feedback and the coil current of an output and count its runs. -/
def SafeOut.sample (v : SafeOut) (sbf : Bool) (mv : Nat) : SafeOut :=
  let v := { v with sbf := sbf, sbiMv := satNat 16 mv, ticks := v.ticks + 1 }
  let seen := v.fbWait && ((v.st == .off && sbf) || (v.st == .releasing && !sbf))
  { v with
    fbTicks := if seen then satNat 16 v.ticks else v.fbTicks
    fbWait := v.fbWait && !seen
    fbRun := if v.st = .on ∧ sbf = true then v.fbRun + 1 else 0
    coilRun := match v.st with
      | .on => if mv < iOn then v.coilRun + 1 else 0
      | .testing _ => if iOff ≤ mv then v.coilRun + 1 else v.coilRun
      | _ => 0 }

/-- The condition of a latched output fault still stands (R451). DEDUCED: log entry 68. DEDUCED: log entry 69. -/
def faultStands (v : SafeOut) : Bool :=
  (bit v.fault 2 && !v.sbf) || (fld v.fault 0 2 != 0#2 && decide (iOff ≤ v.sbiMv.toNat)) ||
    (bit v.fault 3 && decide (iOff ≤ v.sbiMv.toNat))

/-- One tick of an output; a restart is listed before the limits of OFF (R448, R449, R451). DEDUCED: log entry 68. -/
def outputTick (x : Island) (j : Nat) (pulse sbf : Bool) (mv : Nat) (c : IslCopy) : IslCopy :=
  let v := (c.outp j).sample sbf mv
  let mapped := x.mapped j
  let ready := x.st == .ready
  let dem := demandOn mapped ready (!x.manual) c
  let restart := ready && restartOk mapped j c && (if x.manual then pulse else c.enA && c.enB)
  let v := match v.st with
    | .off =>
      if restart && sbf then
        if x.switchTest then v.enter x.tick (.testing 1) true false
        else { v.enter x.tick .releasing true true with fbWait := true }
      else v
    | .releasing =>
      if dem then v.demand x.tick
      else if !sbf && (!x.coilCheck || decide (iOn ≤ mv)) && decide (v.ticks ≤ 3000) then v.enter x.tick .on true true
      else v
    | .fault =>
      let quiet := !faultStands v && mapped.all (fun k => (c.inp k).st == .closed) && !c.enA && !c.enB
      { v with clearRun := if quiet then v.clearRun + 1 else 0 }
    | _ => if dem then v.demand x.tick else v
  c.setOutp j v

/-- One tick of a logic copy. -/
def copyTick (x : Island) (i : TickIn) (c : IslCopy) : IslCopy :=
  let n := x.discTicks
  let e := enableTick n x.tick x.pinEnA x.pinEnB c
  let c := e.1
  let low := !x.pinEnA && !x.pinEnB
  let c := (List.range 8).foldl (fun c k => inputTick n x.tick k (x.level false k) (x.level true k) low c) c
  (List.range 4).foldl (fun c j => outputTick x j e.2 (bit i.sbf j) (i.sbi.getD j 0) c) c

/-- One tick of a logic copy in INIT: the pins are sampled, no state moves (R442, R454, R456). DEDUCED: log entry 69. -/
def initTick (x : Island) (i : TickIn) (c : IslCopy) : IslCopy :=
  let c := (List.range 8).foldl (fun c k =>
    c.setInp k { c.inp k with chA := x.level false k, chB := x.level true k }) c
  (List.range 4).foldl (fun c j =>
    c.setOutp j { c.outp j with sbf := bit i.sbf j, sbiMv := satNat 16 (i.sbi.getD j 0) }) c

/-- The levels at the pins at a tick; the test pulses and their windows are over (R434, R439). -/
def Island.latch (i : TickIn) (x : Island) : Island :=
  { x with
    tick := x.tick + 1
    pinA := i.pinA, pinB := i.pinB, pinEnA := i.enA, pinEnB := i.enB
    stpA := true, stpB := true, maskA := false, maskB := false, checkA := false, checkB := false }

/-- The island tick: pending transitions, the levels at the pins, the two copies and their comparison (R433, R434). -/
def islandTick (i : TickIn) (x : Island) : Island :=
  if x.st = .unpowered then x
  else
    let x := if x.st = .init ∧ 500 ≤ x.tick then x.trip 7 else x
    if x.st = .init then
      let x := x.latch i
      x.both (initTick x i)
    else
      let x := (x.both (settleCopy x.discTicks x.tick x.coilCheck)).latch i
      let x := x.both (copyTick x i)
      (if x.st = .ready ∧ x.copyA ≠ x.copyB then x.trip 6 else x).driveOk

/-- A falling level at a pin of the stop path (R445, R446). -/
def inputFall (p : SafePin) (x : Island) : Island :=
  match p with
  | .sinA k => { x with pinA := x.pinA &&& ~~~(putB 8 k true) }
  | .sinB k => { x with pinB := x.pinB &&& ~~~(putB 8 k true) }
  | .enA => { x with pinEnA := false }
  | .enB => { x with pinEnB := false }

/-- The discrepancy count of an input reaches N (R442). -/
def discrepancyTimeout (k : Nat) (x : Island) : Island :=
  (x.both (discLatch x.discTicks x.tick k)).driveOk

/-! ### Test pulses (R439, R440) -/

/-- Is a pulse of the source due after this tick: STP_A every 100 ticks, STP_B 50 ticks later, in every state of a
powered island (R439). -/
def Island.pulseDue (x : Island) (srcB : Bool) : Bool :=
  x.pulsesOn && x.st != .unpowered &&
    if srcB then
      match x.lastA with
      | none => false
      | some t => (x.tick - t) % 100 == 50 && x.lastB != some x.tick
    else
      match x.lastA with
      | none => true
      | some t => decide (t < x.tick) && (x.tick - t) % 100 == 0

/-- A test pulse starts: the source goes low and its mask window opens (R439). -/
def testPulse (srcB : Bool) (x : Island) : Island :=
  if !x.pulseDue srcB then x
  else if srcB then { x with stpB := false, maskB := true, checkB := true, lastB := some x.tick }
  else { x with stpA := false, maskA := true, checkA := true, lastA := some x.tick }

/-- The check of one input 60 µs after the tick: the failures of the channel under test, of the other one, and the
latch at the second in a row (R440). -/
def pulseCheck (srcB : Bool) (own other wasOther : Bool) (tick k : Nat) (c : IslCopy) : IslCopy :=
  let v := c.inp k
  let stuck := own
  let cross := !other && wasOther
  let v := if srcB then
      { v with
        stuckBRun := if stuck then v.stuckBRun + 1 else 0
        crossBRun := if cross then v.crossBRun + 1 else 0 }
    else
      { v with
        stuckARun := if stuck then v.stuckARun + 1 else 0
        crossARun := if cross then v.crossARun + 1 else 0 }
  let bits : BitVec 4 :=
    (if 2 ≤ v.stuckARun then 2#4 else 0) ||| (if 2 ≤ v.stuckBRun then 4#4 else 0) |||
      (if 2 ≤ v.crossARun ∨ 2 ≤ v.crossBRun then 8#4 else 0)
  c.setInp k (if bits = 0 then v else { v.enter tick .fault with fault := v.fault ||| bits })

/-- The check of a running pulse on the levels read then (R440). -/
def testPulseCheck (pinA pinB : BitVec 8) (x : Island) : Island :=
  if !x.checkA && !x.checkB then x
  else
    let srcB := x.checkB
    let x := { x with pinA := pinA, pinB := pinB, checkA := false, checkB := false }
    (x.both (fun c => (List.range 8).foldl (fun c k =>
      pulseCheck srcB (x.level srcB k) (x.level (!srcB) k) (if srcB then (c.inp k).chA else (c.inp k).chB) x.tick k c) c)).driveOk

/-- The mask window ends: the source is high again and the channel acts on the stop path (R446). -/
def maskWindowEnd (pinA pinB : BitVec 8) (x : Island) : Island :=
  if !x.maskA && !x.maskB then x
  else { x with pinA := pinA, pinB := pinB, stpA := true, stpB := true, maskA := false, maskB := false,
                checkA := false, checkB := false }

/-- A source cannot hold its high level, or recovers (R441). -/
def stpOverload (srcB on : Bool) (x : Island) : Island :=
  if x.st = .unpowered then x else if srcB then { x with ovlB := on } else { x with ovlA := on }

/-! ### Seals, supply and island states (R438, R454) -/

/-- A re-read of the seal pins with the pull-up and the pull-down; a floating pin's value is open (R438). -/
def sealReread (up down : BitVec 8) (x : Island) : Island :=
  if x.st = .unpowered ∨ x.st = .init ∨ x.tick = 0 ∨ x.tick % 1000 ≠ 0 then x
  else
    let float := up &&& ~~~down
    let now := (up &&& down) ||| (float &&& Config.sealRead x.tick)
    let x := { x with sealNow := now, sealFloat := float }
    if x.st ≠ .ready then x
    else if float ≠ 0 then x.trip 2
    else if now ≠ x.sealVal then x.trip 1
    else if sealReserved now then x.trip 3
    else x

/-- Is SAFE_VDD outside the range that READY needs (R617). -/
def supplyBad (mv : Nat) : Bool := decide (mv < 3000 ∨ 3600 < mv)

/-- SAFE_VDD takes a level; the seal pins are latched where INIT is entered (R438, R454, R617). -/
def safeVddChange (mv : Nat) (seals : BitVec 8) (x : Island) : Island :=
  if mv < 2800 then { Island.reset with vdd := mv }
  else if x.st = .unpowered then
    if mv < 2900 then { x with vdd := mv }
    else { Island.reset with st := .init, vdd := mv, sealVal := seals, sealNow := seals, stpA := true, stpB := true }
  else
    let x := { x with vdd := mv }
    if x.st = .ready ∧ supplyBad mv = true then x.trip 5 else x

/-- State of an input from its channels; the failures of R440 in a row count on (R440, R454). -/
def SafeIn.fromLevels (v : SafeIn) (a b : Bool) : SafeIn :=
  { SafeIn.reset with
    st := if a = b then (if a then .closed else .opened) else .discrepant
    c := if a = b then 0 else 1
    chA := a, chB := b
    stuckARun := v.stuckARun, crossARun := v.crossARun, stuckBRun := v.stuckBRun, crossBRun := v.crossBRun }

/-- An output OFF, its pins as last sampled (R454). -/
def SafeOut.fromPins (v : SafeOut) : SafeOut := { SafeOut.reset with sbf := v.sbf, sbiMv := v.sbiMv }

/-- A logic copy at the entry of READY; a channel inside its mask window is as last sampled (R439, R454). -/
def IslCopy.atReady (x : Island) (c : IslCopy) : IslCopy :=
  let ins := (List.range 8).foldl (fun n k =>
    let v := c.inp k
    n.setInp k (v.fromLevels (if x.maskA then v.chA else x.level false k) (if x.maskB then v.chB else x.level true k)))
    { IslCopy.reset with enA := x.pinEnA, enB := x.pinEnB }
  (List.range 4).foldl (fun n j => n.setOutp j (c.outp j).fromPins) ins

/-- The self-test ends, or its 500 ticks elapse (R438, R454, R617). -/
def selfTestEnd (passed : Bool) (x : Island) : Island :=
  if x.st ≠ .init then x
  else if !passed || decide (500 < x.tick) then x.trip 7
  else
    let x := ({ x with st := .ready } : Island).both (IslCopy.atReady x)
    if sealReserved x.sealVal then x.trip 3
    else if supplyBad x.vdd then x.trip 5
    else x.driveOk

/-- The monitor oscillator sees a deviation beyond ±10 % (R434, R454). -/
def oscFault (x : Island) : Island := if x.st = .ready then x.trip 4 else x

/-- One step of the switch test ends (R452). -/
def switchTestStep (j : Nat) (x : Island) : Island := (x.both (testStep x.tick j)).driveOk

/-- A feedback or coil-current limit expires (R451). -/
def brakeTimeout (j : Nat) (x : Island) : Island := (x.both (brakeLatch x.coilCheck x.tick j)).driveOk

/-- A fault clears after its 1,000 ticks (R442, R450, R451). DEDUCED: log entry 69. -/
def faultCleared (u : SafeUnit) (x : Island) : Island :=
  (match u with
    | .input k => x.both (clearInput x.tick k)
    | .output j => x.both (clearOutput x.tick j)
    | .enable => x.both clearEnable).driveOk

/-! ### Diagnostics (R456) -/

def InSt.code : InSt → Nat
  | .closed => 0
  | .opened => 1
  | .discrepant => 2
  | .fault => 3

def OutSt.code : OutSt → Nat
  | .off => 0
  | .testing _ => 1
  | .releasing => 2
  | .on => 3
  | .fault => 4

/-- The island entry, index 0. -/
def Island.image (x : Island) : BitVec 512 :=
  put 512 64 (BitVec.ofNat 32 x.tick) ||| put 512 56 x.cause ||| put 512 48 x.sealVal ||| put 512 40 x.sealNow |||
    put 512 32 x.sealFloat ||| putB 512 15 (x.okA && x.okB) ||| putB 512 14 x.pinEnA ||| putB 512 13 x.pinEnB |||
    putB 512 12 x.copyA.enFault ||| putB 512 11 x.ovlB ||| putB 512 10 x.ovlA |||
    put 512 0 (BitVec.ofNat 3 (match x.st with | .ready => 1 | .fault => 2 | _ => 0))

/-- An input entry, indices 1 to 8. -/
def SafeIn.image (v : SafeIn) : BitVec 512 :=
  put 512 64 v.changeTick ||| put 512 48 v.changes ||| put 512 32 v.lastDisc ||| put 512 16 v.discMax |||
    put 512 12 v.fault ||| putB 512 11 v.chA ||| putB 512 10 v.chB ||| put 512 0 (BitVec.ofNat 3 v.st.code)

/-- An output entry, indices 9 to 12. -/
def Island.outImage (x : Island) (j : Nat) : BitVec 512 :=
  let v := x.copyA.outp j
  put 512 64 v.changeTick ||| put 512 48 v.changes ||| put 512 32 v.sbiMv ||| put 512 16 v.fbTicks |||
    put 512 12 v.fault ||| putB 512 11 (x.hsPin j) ||| putB 512 10 (x.lsPin j) ||| putB 512 9 v.sbf |||
    put 512 0 (BitVec.ofNat 3 v.st.code)

/-- What the synchroniser delivers: entries 0 to 12, or nothing from an unpowered island (R435, DESIGN CHOICE: log entry 6). -/
def Island.snapshot (x : Island) : Option (List (BitVec 512)) :=
  if x.st = .unpowered then none
  else some (x.image :: (List.range 8).map (fun k => (x.copyA.inp k).image) ++ (List.range 4).map x.outImage)

/-! ### The main domain's side (R457 to R459) -/

/-- Entry `i` of space 16#60. -/
def Dev.safeEntry (d : Dev) (i : Nat) : BitVec 512 := tget 0 d.diag.entries i

/-- The word of diagnostic index `i` (R457). -/
def Dev.safeWord (d : Dev) (i : Nat) : W64 :=
  if i = 13 then (fld (d.safeEntry 0) 15 1).setWidth 64 else (fld (d.safeEntry i) 0 3).setWidth 64

/-- A SAFETY event (R459). -/
def safeEv (code : Nat) (isFault : Bool) (i count data : Nat) : Event :=
  { ev code isFault i data with count := count }

/-- Place of an output state on the way from FAULT by OFF, TESTING where SEAL_6 asks for it and RELEASING to ON (R451). -/
def outPlace (test : Bool) (s : Nat) : Nat := if s = 4 then 0 else if !test && decide (2 ≤ s) then s else s + 1

/-- Do `n` changes lead an output from one state to another without a demand: forward on its way, at last into FAULT
(R451, R459). DEDUCED: log entry 20. -/
def outForward (test : Bool) (so sn n : Nat) : Bool :=
  if sn = 4 then decide (n + outPlace test so ≤ outPlace test 3 + 1) else outPlace test so + n == outPlace test sn

/-- Changes between two values of CHANGES, and whether INIT cleared it between them: it then went back (R456, R459).
DEDUCED: log entry 20. -/
def changesOf (old new : BitVec 16) : Nat × Bool :=
  let n := (new - old).toNat
  if 32768 ≤ n then (new.toNat, true) else (n, false)

/-- Events of an input or output entry; `test` is SEAL_6 (R459). -/
def safeEvents (test : Bool) (i : Nat) (old new : BitVec 512) : List Event :=
  let tick := (fld new 64 32).toNat
  let c := changesOf (fld old 48 16) (fld new 48 16)
  let n := c.1
  let so := if c.2 && decide (9 ≤ i) then 0 else (fld old 0 3).toNat
  let sn := (fld new 0 3).toNat
  let fo := fld old 12 4
  let fn := fld new 12 4
  let rose := fn &&& ~~~fo
  let e (on : Bool) (code : Nat) (isFault : Bool) (data : Nat) : List Event :=
    if on then [safeEv code isFault i n (tick + data * 2 ^ 32)] else []
  let cleared := e (fo != 0 && fn == 0) 0x0B0E false 0
  if i ≤ 8 then
    e (so == 0 && (sn != 0 || n != 0)) 0x0B01 false 0 ++
      e (sn == 0 && (so != 0 || n != 0)) 0x0B02 false 0 ++
      e (bit rose 0) 0x0B03 true 0 ++
      e (fld rose 1 3 != 0#3) 0x0B04 true fn.toNat ++ cleared
  else
    e ((sn == 3 && (so != 3 || n != 0)) || (so == 2 && sn == 0 && n == 2)) 0x0B06 false 0 ++
      e (!outForward test so sn n) 0x0B07 false 0 ++
      e (fld rose 0 2 != 0#2) 0x0B08 true 0 ++
      e (bit rose 2) 0x0B09 true 0 ++
      e (bit rose 3) 0x0B0A true (fld new 32 16).toNat ++ cleared

/-- Events of the island entry (R459). -/
def islandEvents (old new : BitVec 512) : List Event :=
  let tick := (fld new 64 32).toNat
  let cause := (fld new 56 8).toNat
  let e (on : Bool) (code : Nat) (isFault : Bool) (data : Nat) : List Event :=
    if on then [safeEv code isFault 0 1 (tick + data * 2 ^ 32)] else []
  let rose := fld new 10 2 &&& ~~~(fld old 10 2)
  let failed := fld new 0 3 == 2#3 && fld old 0 3 != 2#3
  e (rose != 0) 0x0B05 true (fld new 10 2).toNat ++
    e (failed && decide (1 ≤ cause ∧ cause ≤ 3)) 0x0B0B true 0 ++
    e (failed && !decide (1 ≤ cause ∧ cause ≤ 3)) 0x0B0C true cause ++
    e (bit new 12 && !bit old 12) 0x0B0D true 0 ++
    e (bit old 12 && !bit new 12) 0x0B0E false 0

/-- LINK_OK clears after three stale frames (R458). -/
def islandLinkLost (d : Dev) : Dev :=
  if d.diag.linkOk && decide (3 ≤ d.diag.stale) then
    let d := { d with diag := { d.diag with linkOk := false } }
    let d := if d.diag.en then
        (List.range 14).foldl (fun d i => produceQAs 6 i (d.diag.ptBase.toNat + i) 2 0x08 d.tb.cal0 d) d
      else d
    report (ev 0x0B0F true 0 (fld (d.safeEntry 0) 64 32).toNat) d
  else d

/-- Take the snapshot of phase A (R435, R458, R459). DEDUCED: log entry 20. -/
def safetySnapshot (snap : Option (List (BitVec 512))) : Dev → Dev := oneCycle fun d =>
  let d := islandLinkLost d
  let new := match snap with
    | some xs => xs
    | none => (List.range 13).map d.safeEntry
  let fresh := fld (new.getD 0 0) 64 32 != fld (d.safeEntry 0) 64 32 || (!d.diag.taken && snap.isSome)
  let evs := if d.diag.taken then
      islandEvents (d.safeEntry 0) (new.getD 0 0) ++
        (List.range 12).flatMap (fun i => safeEvents (bit (new.getD 0 0) 54) (i + 1) (d.safeEntry (i + 1)) (new.getD (i + 1) 0))
    else []
  let d := { d with diag := { d.diag with
    entries := (List.range 13).foldl (fun t i => tset 0 t i (new.getD i 0)) d.diag.entries
    taken := d.diag.taken || snap.isSome
    linkOk := d.diag.linkOk || fresh
    stale := if fresh then 0 else min 3 (d.diag.stale + 1) } }
  reportAll evs d

/-- The commit of diagnostic point `i` (R458). -/
def safetyPoint (i : Nat) (d : Dev) : Dev :=
  if d.diag.en && d.diag.linkOk && decide (d.diag.stale < 3) then
    produceAs 6 i (d.diag.ptBase.toNat + i) (d.safeWord i) 0 0 d.tb.cal0 d
  else d

/-- May SAFE_MAP take a value (R63, R457). -/
def safeMapOk (v : Reg) (d : Dev) : Bool :=
  let base := (fld v 0 17).toNat
  let en := bit v 31
  let mine := fun (p : Nat) => d.diag.en && (d.point p).srcKind == 6
  decide (base ≤ 131058) &&
    (!en || (List.range 14).all (fun i =>
      (d.canProduce (base + i) || mine (base + i)) && (d.point (base + i)).ptype == (if i = 13 then 1 else 7)))

/-- Write SAFE_MAP (R64, R457). -/
def safeMapWrite (v : Reg) (d : Dev) : Dev :=
  let base := fld v 0 17
  let en := bit v 31
  if en = d.diag.en ∧ base = d.diag.ptBase then d
  else
    let d := if d.diag.en then (List.range 14).foldl (fun d i => releaseAs 6 i (d.diag.ptBase.toNat + i) d) d else d
    let d := { d with diag := { d.diag with en := en, ptBase := base } }
    if en then (List.range 14).foldl (fun d i => claimPoint 6 i (base.toNat + i) d) d else d

/-- SAFE_MAP as read. -/
def Dev.safeMap (d : Dev) : Reg := putB 32 31 d.diag.en ||| putB 32 30 d.diag.linkOk ||| put 32 0 d.diag.ptBase

/-- Bit 11 of FAULT_ACTIVE (R459). -/
def Dev.safeFault (d : Dev) : Bool :=
  let f := fun (i : Nat) => fld (d.safeEntry i) 12 4 != 0#4
  (List.range 12).any (fun i => f (i + 1)) || bit (d.safeEntry 0) 12 || fld (d.safeEntry 0) 0 3 == 2#3 ||
    (d.diag.en && !d.diag.linkOk)

/-- Phase A cost of the mapped diagnostics (R458). -/
def Dev.safeCostA (d : Dev) : Nat := if d.diag.en then 58 else 0

end Sys2Proof.Machine
end

