-- ==== Sys2Proof/Machine/LoopLaw.lean ====
section
/-!
DEFINITION. The control law of the loop engine (R340 to R354): one execution of one loop on its latched inputs.
-/
namespace Sys2Proof.Machine

/-- x limited to 32 signed bits (R340). -/
def sat32 (x : Int) : Int := clampInt (-2147483648) 2147483647 x

/-- Rounding shift: half rounds toward +∞ (R340). -/
def rnd (x : Int) (s : Nat) : Int := if s = 0 then x else (x + 2 ^ (s - 1)) / 2 ^ s

/-- Signed field of a loop's configuration. -/
def Loop.sf (l : Loop) (lo n : Nat) : Int := (fld l.cfg lo n).toInt

/-- Unsigned field of a loop's configuration. -/
def Loop.uf (l : Loop) (lo n : Nat) : Nat := (fld l.cfg lo n).toNat

/-- Flag of a loop's configuration. -/
def Loop.bf (l : Loop) (i : Nat) : Bool := bit l.cfg i

def Loop.outHi (l : Loop) : Int := l.sf 608 32
def Loop.outLo (l : Loop) : Int := l.sf 576 32
def Loop.manOut (l : Loop) : Int := l.sf 672 32
def Loop.mode (l : Loop) : Nat := l.uf 225 2
def Loop.feTime (l : Loop) : Nat := l.uf 384 16
def Loop.feAction (l : Loop) : Nat := l.uf 229 2
def Loop.satKind (l : Loop) : Nat := l.uf 233 3
def Loop.satDir (l : Loop) : Nat := l.uf 231 2
def Loop.en (l : Loop) : Bool := l.bf 220
def Loop.shI (l : Loop) : Nat := l.uf 247 5

/-- The current-loop channel that a fast loop drives: under OUT_CL, or since its record failed (R334, R356, R414). -/
def Loop.drives (l : Loop) : Option Nat := if l.bf 224 then some (l.uf 221 3) else l.lostCl

/-- A loop with a 32-bit configuration field replaced. -/
def Loop.setCfg (l : Loop) (lo n : Nat) (v : BitVec n) : Loop :=
  { l with cfg := mergeBits (maskOf 1024 [(lo, n)]) l.cfg (put 1024 lo v) }

/-- GOOD or UNCERTAIN. -/
def qUsable (q : BitVec 2) : Bool := q == 0 || q == 1

/-- The output window (R341). -/
def loopWindow (l : Loop) : Int × Int :=
  let lo := l.outLo
  let hi := l.outHi
  let rate : Int := l.uf 544 32
  let last := l.outLast.toInt
  if rate = 0 then (lo, hi)
  else
    let a := max lo (last - rate)
    let b := min hi (last + rate)
    if a ≤ b then (a, b)
    else if (last - lo).natAbs ≤ (last - hi).natAbs then (lo, lo) else (hi, hi)

/-- The error term (R340). -/
def loopErr (l : Loop) (pv sp : Int) : Int := if l.bf 227 then sat32 (pv - sp) else sat32 (sp - pv)

/-- The new DFILT, by R340. -/
def loopDfilt (l : Loop) (pv : Int) : BitVec 32 :=
  let d0 := sat32 (rnd (l.sf 448 32 * sat32 (pv - l.pvPrev.toInt)) (l.uf 242 5))
  let d := if l.bf 227 then d0 else -d0
  let f := l.dfilt.toInt
  let n := f + rnd ((d - f) * ((l.uf 432 16 : Int) + 1)) 16
  if n = sat32 n then BitVec.ofInt 32 n else Config.dfiltOut n

/-- base of R340 from a new DFILT. -/
def loopBase (l : Loop) (pv sp ff : Int) (df : BitVec 32) : Int :=
  rnd (l.sf 512 32 * loopErr l pv sp) (l.uf 252 5) + df.toInt + ff

/-- INTEG for a back-calculation to `w` (R349, R350). -/
def loopBackInteg (l : Loop) (w base : Int) : Int := min (max (w - base) l.outLo) l.outHi * 2 ^ l.shI

/-- Store INTEG, the output and the blocking flags of an execution. -/
def Loop.deliver (l : Loop) (integ v : Int) (hi lo : Bool) : Loop :=
  { l with integ := BitVec.ofInt 64 integ, outLast := BitVec.ofInt 32 v, awHi := hi, awLo := lo }

/-- The law of R340 with external saturation flags. -/
def loopLaw (l : Loop) (pv sp ff : Int) (satHi satLo : Bool) : Loop :=
  let w := loopWindow l
  let df := loopDfilt l pv
  let base := loopBase l pv sp ff df
  let inc := l.sf 480 32 * loopErr l pv sp
  let i0 := l.integ.toInt
  let u1 := base + rnd (i0 + inc) l.shI
  let awHi := decide (0 < inc) && (decide (w.2 < u1) || satHi)
  let awLo := decide (inc < 0) && (decide (u1 < w.1) || satLo)
  let i1 := if awHi || awLo then i0 else i0 + inc
  let i2 := min (max i1 (l.outLo * 2 ^ l.shI)) (l.outHi * 2 ^ l.shI)
  let v := min (max (base + rnd i2 l.shI) w.1) w.2
  { l.deliver i2 v awHi awLo with dfilt := df, pvPrev := BitVec.ofInt 32 pv, spUsed := BitVec.ofInt 32 sp }

/-- Back-calculation to `w`, then v by R340 without adding inc (R350). -/
def loopBack (l : Loop) (pv sp ff w : Int) : Loop :=
  let win := loopWindow l
  let df := loopDfilt l pv
  let base := loopBase l pv sp ff df
  let i := loopBackInteg l w base
  let v := min (max (base + rnd i l.shI) win.1) win.2
  { l.deliver i v false false with dfilt := df, pvPrev := BitVec.ofInt 32 pv, spUsed := BitVec.ofInt 32 sp }

/-- Deliver `w` clamped to the limits, without rate, and back-calculate INTEG to it (R349, R351, R352). -/
def loopForce (l : Loop) (pv sp ff w : Int) (upd : Bool) : Loop :=
  let df := loopDfilt l pv
  let base := loopBase l pv sp ff df
  let v := clampInt l.outLo l.outHi w
  let r := l.deliver (loopBackInteg l v base) v false false
  if upd then { r with dfilt := df, pvPrev := BitVec.ofInt 32 pv } else r

/-- What an execution needs beside the loop: the inputs, the loop named by SP_KIND 2 and the loop named by SAT_KIND 3. -/
structure LoopIn where
  snap : LoopSnap
  spLoop : Loop
  satLoop : Loop
  /-- VALUE [31:0] and quality of OUT_PT as it stands (R349). -/
  outPt : LoopVal
  deriving DecidableEq, Repr

/-- A report of the loop engine: code, DATA, and whether it is rate-limited. -/
structure LoopEv where
  code : Nat
  data : Nat
  limited : Bool
  deriving DecidableEq, Repr

/-- The setpoint in use and its quality (R336, R346). -/
def loopSp (l : Loop) (x : LoopIn) : Int × BitVec 2 :=
  let r : Int × BitVec 2 :=
    match l.uf 238 2 with
    | 0 => (l.sf 640 32, 0)
    | 1 => (x.snap.sp.v.toInt, x.snap.sp.q)
    | _ => (x.spLoop.outLast.toInt, x.spLoop.outQ)
  if qUsable r.2 then r else (l.spUsed.toInt, r.2)

/-- External saturation: sat_hi, sat_lo and the flag (R343). -/
def loopSat (l : Loop) (x : LoopIn) : Bool × Bool × Bool :=
  match l.satKind with
  | 0 => (false, false, false)
  | 3 =>
    let h := x.satLoop.awHi || x.satLoop.outLast.toInt == x.satLoop.outHi
    let w := x.satLoop.awLo || x.satLoop.outLast.toInt == x.satLoop.outLo
    match l.satDir with
    | 0 => (h, w, h || w)
    | 1 => (w, h, h || w)
    | _ => (h || w, h || w, h || w)
  | _ =>
    let f := x.snap.sat
    (f && l.satDir != 1, f && l.satDir != 0, f)

/-- Quality of the output, the first row of R345 that holds. -/
def loopQuality (l : Loop) (skipped : Bool) (pv : LoopVal) (spq ffq : BitVec 2) : BitVec 2 × BitVec 8 :=
  if l.st = .faulted then (2, 0x0E)
  else if l.st = .hold then
    (if l.uf 257 8 ≠ 0 ∧ l.uf 257 8 ≤ l.holdCnt then (2, 0x81) else (1, 0x80))
  else if skipped then (1, 0x07)
  else if l.extSat && l.satKind == 1 then (1, 0x05)
  else if l.extSat && l.satKind == 2 then (1, 0x06)
  else if l.st = .auto ∧ !qUsable spq then (1, 0x82)
  else if l.st = .auto ∧ l.bf 237 ∧ !qUsable ffq then (1, 0x83)
  else if l.st = .auto ∧ pv.q = 1 then (1, pv.d)
  else (0, 0)

/-- The reaction when the following-error timer reaches FE_TIME; in MANUAL the timer is held at 0 (R348, R354). -/
def loopFeReact (l : Loop) (pv : Int) : Loop × List LoopEv :=
  let l := { l with feTmr := BitVec.ofNat 16 l.feTime, feActive := true }
  let e := (BitVec.ofInt 32 (sat32 (l.spUsed.toInt - pv))).toNat
  let ev : LoopEv := ⟨0x0804, e + l.feAction * 2 ^ 32, false⟩
  match l.feAction with
  | 1 => ({ (l.setCfg 225 2 0#2).setCfg 672 32 l.outLast with st := .manual, feTmr := 0 }, [ev])
  | 2 => ({ l with st := .faulted, lastFault := 1 }, [ev, ⟨0x0807, 1, false⟩])
  | _ => (l, [ev])

/-- Is the following error beyond its limit (R354). -/
def loopFeOver (l : Loop) (pv : Int) : Bool := decide ((l.uf 400 32 : Int) < (l.spUsed.toInt - pv).natAbs)

/-- The following-error timer of an AUTO execution without tracking; it saturates at an FE_TIME lowered to it or below,
which it thereby reaches (R354). DEDUCED: log entry 100. -/
def loopFe (l : Loop) (pv : Int) : Loop × List LoopEv :=
  if l.feTime = 0 then (l, [])
  else if loopFeOver l pv then
    if l.feTime ≤ l.feTmr.toNat then
      (if l.feActive then ({ l with feTmr := BitVec.ofNat 16 l.feTime }, []) else loopFeReact l pv)
    else if l.feTmr.toNat + 1 < l.feTime then ({ l with feTmr := l.feTmr + 1 }, [])
    else loopFeReact l pv
  else if l.feActive then ({ l with feTmr := 0, feActive := false }, [⟨0x0805, 0, false⟩])
  else ({ l with feTmr := 0 }, [])

/-- Does an execution end in a delivered output: `false` for a loop that stays in INIT. -/
def loopRuns (l : Loop) (pv : LoopVal) : Bool := !(l.st == .init && !qUsable pv.q && l.mode != 0)

/-- One execution of an enabled loop that is not FAULTED: the loop after it and its reports. -/
def loopBody (l : Loop) (x : LoopIn) : Loop × List LoopEv :=
  let pv := x.snap.pv.v.toInt
  let ok := qUsable x.snap.pv.q
  let sp := (loopSp l x).1
  let ff : Int := if l.bf 237 then l.ffLast.toInt else 0
  let sat := loopSat l x
  match l.st with
  | .init =>
    let l := { l with pvPrev := x.snap.pv.v, dfilt := 0 }
    let ev : LoopEv := ⟨0x0801, l.mode, false⟩
    if l.mode = 0 then ({ loopForce l pv sp ff l.manOut ok with st := .manual, feTmr := 0 }, [ev])
    else
      let t := if l.bf 228 && qUsable x.outPt.q then x.outPt.v.toInt else l.sf 704 32
      let base := loopBase l pv sp ff 0
      let i := loopBackInteg l t base
      let v := clampInt l.outLo l.outHi (base + rnd i l.shI)
      ({ l.deliver i v false false with st := .auto, spUsed := BitVec.ofInt 32 sp }, [ev])
  | .auto =>
    if !ok then ({ l with st := .hold, holdCnt := 1 }, [⟨0x0802, x.snap.pv.d.toNat, false⟩])
    else if l.bf 236 && qUsable x.snap.trk.q && x.snap.trk.v != 0 then
      let w := if qUsable x.snap.trkv.q then x.snap.trkv.v.toInt else l.outLast.toInt
      ({ loopForce l pv sp ff w true with tracking := true, backCalc := false, spUsed := BitVec.ofInt 32 sp }, [])
    else
      let l' := if l.backCalc then { loopBack l pv sp ff l.outLast.toInt with backCalc := false }
                else loopLaw l pv sp ff sat.1 sat.2.1
      loopFe l' pv
  | .hold =>
    if ok then
      let l0 := { l with pvPrev := x.snap.pv.v, dfilt := 0, st := .auto, holdCnt := 0, backCalc := false }
      let r := loopFe (loopBack l0 pv sp ff l.outLast.toInt) pv
      (r.1, ⟨0x0803, 0, false⟩ :: r.2)
    else ({ l with holdCnt := l.holdCnt + 1 }, [])
  | _ => ({ loopForce l pv sp ff l.manOut ok with feTmr := 0 }, [])

/-- One execution: flags, law, quality and the output on its way to OUT_PT (R340 to R354). -/
def loopExec (l : Loop) (x : LoopIn) (cal : W64) : Loop × List LoopEv :=
  if l.st = .disabled then (l, [])
  else if l.st = .faulted then
    let q := loopQuality l false x.snap.pv 0 0
    ({ l with outQ := q.1, out := some ⟨l.outLast, q.1, q.2, cal⟩ }, [])
  else
    let l := if l.bf 237 && qUsable x.snap.ff.q then { l with ffLast := x.snap.ff.v } else l
    let flag := (loopSat l x).2.2
    let ev0 : List LoopEv := if flag != l.extSat then [⟨0x0809, if flag then 1 else 0, true⟩] else []
    let l := { l with extSat := flag, skipConsec := 0, tracking := false, out := none }
    if !loopRuns l x.snap.pv then (l, ev0)
    else
      let spq := (loopSp l x).2
      let r := loopBody l x
      let q := loopQuality r.1 false x.snap.pv spq x.snap.ff.q
      ({ r.1 with
          execCnt := r.1.execCnt + 1
          outQ := q.1
          out := some ⟨r.1.outLast, q.1, q.2, cal⟩ }, ev0 ++ r.2)

/-- A skipped execution (R355): the output held, the skip counted; the eighth in a row faults the loop (R348). -/
def loopSkip (l : Loop) (x : LoopVal) (cal : W64) : Loop × List LoopEv :=
  if l.st = .disabled then (l, [])
  else
    let l := { l with skipConsec := satAdd l.skipConsec 1 }
    let f := l.skipConsec = 8 ∧ l.st ≠ .faulted
    let l' := if f then { l with st := .faulted, lastFault := 2 } else l
    let q := loopQuality l' true x 0 0
    let out : Option LoopOut := if l.st = .init ∧ ¬ f then none else some ⟨l'.outLast, q.1, q.2, cal⟩
    ({ l' with outQ := if out.isSome then q.1 else l'.outQ, out := out },
      ⟨0x0808, 0, true⟩ :: (if f then [⟨0x0807, 2, false⟩] else []))

end Sys2Proof.Machine
end

