-- ==== Sys2Proof/Machine/Trig.lean ====
section
/-!
DEFINITION. Sines, angles and roots of whole numbers for the signal chains (R365, R367, R370, R376, R388, R412, R422): the
values themselves in 2^−96, handed on in fewer digits with an open rounding (DESIGN CHOICE: log entry 11).
-/
namespace Sys2Proof.Machine

/-- A quotient rounded down, or up where it is not whole and the open rounding says so (DESIGN CHOICE: log entry 11). -/
def divOpen (n : Int) (d : Nat) : Int := n / d + (if n % d ≠ 0 ∧ Config.roundUp n d = true then 1 else 0)

/-- The largest number of `bits` bits, above `a`, up to which `p` holds. -/
def searchBits (p : Nat → Bool) : Nat → Nat → Nat
  | 0, a => a
  | k + 1, a => if p (a + 2 ^ k) then searchBits p k (a + 2 ^ k) else searchBits p k a

/-- The whole part of a square root. -/
def isqrt (n : Nat) : Nat := searchBits (fun r => decide (r * r ≤ n)) (Nat.log2 n / 2 + 1) 0

/-- The square root of n / d as a whole number, the rounding open where it is not whole (DESIGN CHOICE: log entry 11). -/
def rootOpen (n d : Nat) : Nat :=
  let r := isqrt (n / d)
  r + (if r * r * d ≠ n ∧ Config.roundUp n d = true then 1 else 0)

/-- π in 2^−96. -/
def piFix : Nat := 248902613312231085230521944622

/-- `k` terms of the series of cosine (i = 0) or sine (i = 1) from its first term on, for the square of the angle. -/
def trigSum (x2 : Int) : Nat → Nat → Int → Int
  | 0, _, _ => 0
  | k + 1, i, t => t + trigSum x2 k (i + 2) (-(t * x2) / 2 ^ 96 / (((i + 1) * (i + 2) : Nat) : Int))

/-- Cosine and sine of n / d turn in 2^−96; exact at whole quarters. -/
def turn (n d : Nat) : Int × Int :=
  let x : Int := ((piFix * (4 * n % d) / (2 * d) : Nat) : Int)
  let x2 := x * x / 2 ^ 96
  let c := trigSum x2 24 0 (2 ^ 96)
  let s := trigSum x2 24 1 x
  match 4 * n / d % 4 with
  | 0 => (c, s)
  | 1 => (-s, c)
  | 2 => (-c, -s)
  | _ => (s, -c)

/-- The angle of a phasor of the first quadrant, x > 0 and y ≥ 0, in 1/65,536 turn. -/
def quadrant (x y : Int) : Int :=
  if y = 0 then 0
  else if y = x then 8192
  else
    let a := searchBits (fun a => let t := turn a 65536; decide (x * t.2 ≤ y * t.1)) 14 0
    (a : Int) + (if Config.roundUp x y.toNat then 1 else 0)

/-- The angle of a phasor in 360° / 65,536 (R389); the manual states none for the phasor 0. -/
def angleOf (x y : Int) : Int :=
  if 0 < x ∧ 0 ≤ y then quadrant x y
  else if x ≤ 0 ∧ 0 < y then 16384 + quadrant y (-x)
  else if x < 0 ∧ y ≤ 0 then 32768 + quadrant (-x) (-y)
  else if y < 0 then 49152 + quadrant (-y) x
  else Config.angleZero

end Sys2Proof.Machine
end

