-- ==== Sys2Proof/Machine/CurrentLoop.lean ====
section
/-!
DEFINITION. The 4–20 mA channels and HART (R410 to R431).
-/
namespace Sys2Proof.Machine

/-! ### Configuration (R426) -/

def CLoop.spPt (c : CLoop) : Nat := (fld c.cfg 303 17).toNat
def CLoop.qptBase (c : CLoop) : Nat := (fld c.cfg 286 17).toNat
def CLoop.hptBase (c : CLoop) : Nat := (fld c.cfg 269 17).toNat
def CLoop.spMax (c : CLoop) : Nat := (fld c.cfg 240 16).toNat
def CLoop.spMin (c : CLoop) : Nat := (fld c.cfg 224 16).toNat
def CLoop.fsUa (c : CLoop) : Nat := (fld c.cfg 208 16).toNat
def CLoop.hlost (c : CLoop) : Nat := (fld c.cfg 200 8).toNat
def CLoop.preambles (c : CLoop) : Nat := (fld c.cfg 195 5).toNat
def CLoop.hretry (c : CLoop) : Nat := (fld c.cfg 193 2).toNat
def CLoop.pollMask (c : CLoop) : BitVec 64 := fld c.cfg 576 64
def CLoop.qmask (c : CLoop) : BitVec 3 := fld c.cfg 13 3
def CLoop.fsHold (c : CLoop) : Bool := bit c.cfg 12
def CLoop.filtOn (c : CLoop) : Bool := bit c.cfg 11
def CLoop.hartEn (c : CLoop) : Bool := bit c.cfg 10
def CLoop.role (c : CLoop) : Nat := (fld c.cfg 8 2).toNat
def CLoop.en (c : CLoop) : Bool := bit c.cfg 0

/-- RW fields of the channel entry. -/
def clMask : BitVec 2048 :=
  maskOf 2048 [(576, 64), (303, 17), (286, 17), (269, 17), (240, 16), (224, 16), (208, 16), (200, 8), (195, 5), (193, 2),
    (13, 3), (12, 1), (11, 1), (10, 1), (8, 2), (0, 1)]

/-- Fields that a running channel may change (R427): SP_MIN_UA, SP_MAX_UA, FS_UA, FS_HOLD, PREAMBLES, HRETRY, EN. -/
def clTune : BitVec 2048 := maskOf 2048 [(240, 16), (224, 16), (208, 16), (195, 5), (193, 2), (12, 1), (0, 1)]

/-- COND codes (R417). -/
def ClCond.code : ClCond → BitVec 8
  | .ok => 0
  | .openWire => 1
  | .short => 2
  | .reversed => 3
  | .compliance => 6
  | .readback => 7

/-- MB_STATE codes (R426). -/
def MbState.code : MbState → BitVec 3
  | .empty => 0
  | .pending => 1
  | .busy => 2
  | .done => 3
  | .noReply => 4
  | .badFrame => 5

/-- Image of a channel entry (R426). -/
def CLoop.image (c : CLoop) : BitVec 2048 :=
  put 2048 768 (leBits 1280 c.mbData) ||| put 2048 752 c.mbCmd ||| put 2048 744 c.mbLen ||| put 2048 736 c.mbResp |||
    put 2048 728 c.mbDevst ||| put 2048 725 c.mbState.code ||| putB 2048 724 c.mbTrunc ||| put 2048 704 c.mbSeq |||
    put 2048 544 c.txCnt ||| put 2048 512 c.errCnt ||| put 2048 480 c.measNa ||| put 2048 472 c.cond.code |||
    putB 2048 471 c.clFlag ||| putB 2048 470 c.clamped ||| put 2048 416 c.spAct ||| (c.cfg &&& clMask)

/-- Is the channel an enabled output. -/
def CLoop.isOutput (c : CLoop) : Bool := c.en && c.role == 2

/-- Is the channel in a HART role (R423). -/
def CLoop.inHart (c : CLoop) : Bool := c.en && (c.role == 3 || ((c.role == 1 || c.role == 2) && c.hartEn))

/-! ### Points (R420) -/

/-- Bits set below `i`. -/
def bitsBelow {w : Nat} (m : BitVec w) (i : Nat) : Nat := ((List.range i).filter (fun j => bit m j)).length

/-- Mapped quantities: quantity and point. -/
def CLoop.quantPoints (c : CLoop) : List (Nat × Nat) :=
  ((List.range 3).filter (fun q => bit c.qmask q)).map (fun q => (q, c.qptBase + bitsBelow c.qmask q))

/-- Polled addresses: address and point. -/
def CLoop.hartPoints (c : CLoop) : List (Nat × Nat) :=
  ((List.range 64).filter (fun a => bit c.pollMask a)).map (fun a => (a, c.hptBase + bitsBelow c.pollMask a))

/-- SRC_INDEX and point of everything that a channel produces. -/
def clSources (k : Nat) (c : CLoop) : List (Nat × Nat) :=
  c.quantPoints.map (fun x => (16 * k + x.1, x.2)) ++ c.hartPoints.map (fun x => (256 + 64 * k + x.1, x.2))

/-- Points whose source word names the channel. -/
def Dev.clPoints (d : Dev) (k : Nat) : List Nat :=
  (d.ps.points.filter (fun p => p.2.srcKind == 5 &&
    (if p.2.srcIndex.toNat < 256 then p.2.srcIndex.toNat / 16 == k else (p.2.srcIndex.toNat - 256) / 64 == k))).map (·.1)

/-! ### Conditions (R417) -/

/-- One more, at most `top`, while a test holds. -/
def runStep (top : Nat) (b : Bool) (n : Nat) : Nat := if b then min (n + 1) top else 0

/-- The sample tests of an output channel. -/
def clSampleRuns (atLim : Bool) (c : CLoop) : ClRuns :=
  let i := c.conv
  let sp : Int := c.spAct.toInt * 1000
  { c.runs with
    revS := runStep 4 (decide (i < -500000)) c.runs.revS
    openS := runStep 32 (atLim && decide (i < 500000)) c.runs.openS
    openClrS := runStep 32 (decide (1000000 ≤ i)) c.runs.openClrS
    compS := runStep 4 (atLim && decide (i < sp - 50000)) c.runs.compS
    compClrS := runStep 4 (!atLim && decide ((i - sp).natAbs ≤ 20000)) c.runs.compClrS }

/-- The frame tests, on the exact mean sum / n. -/
def clFrameRuns (c : CLoop) : ClRuns :=
  let n : Int := c.n
  let s := c.sum
  let err := (s - c.spAct.toInt * 1000 * n).natAbs
  { c.runs with
    revF := runStep 10 (decide (s < -500000 * n)) c.runs.revF
    revClrF := runStep 10 (decide (-200000 * n ≤ s)) c.runs.revClrF
    openF := runStep 10 (decide (-500000 * n ≤ s ∧ s ≤ 500000 * n)) c.runs.openF
    openClrF := runStep 10 (decide (1000000 * n ≤ s)) c.runs.openClrF
    shortF := runStep 10 (decide (23000000 * n ≤ s)) c.runs.shortF
    shortClrF := runStep 10 (decide (s < 22000000 * n)) c.runs.shortClrF
    rbF := runStep 100 (!c.atLim && decide (100000 * c.n < err)) c.runs.rbF
    rbClrF := runStep 10 (decide (err ≤ 50000 * c.n)) c.runs.rbClrF }

/-- The rows of R417 for a role, in order: condition, set, cleared. -/
def CLoop.condRows (c : CLoop) : List (ClCond × Bool × Bool) :=
  let r := c.runs
  if c.role = 2 then
    [(.reversed, r.revS == 4, false), (.openWire, r.openS == 32, r.openClrS == 32),
      (.compliance, r.compS == 4, r.compClrS == 4), (.readback, r.rbF == 100, r.rbClrF == 10)]
  else
    [(.reversed, r.revF == 10, r.revClrF == 10), (.openWire, r.openF == 10, r.openClrF == 10),
      (.short, r.shortF == 10, r.shortClrF == 10)]

/-- The rows that hold: set, or set before and not cleared. -/
def CLoop.condsHeld (c : CLoop) : List ClCond :=
  (c.condRows.filter (fun x => x.2.1 || (c.held.contains x.1 && !x.2.2))).map (·.1)

/-- The condition that the runs give, the first row that holds (R417). -/
def CLoop.condDue (c : CLoop) : ClCond := if c.en then c.condsHeld.headD .ok else c.cond

/-- Keep the rows that hold, after a sample or a frame. -/
def clHold (c : CLoop) : CLoop := if c.en then { c with held := c.condsHeld } else c

/-- CL_FLAG that a condition gives (R417, R419). -/
def CLoop.flagOf (c : CLoop) (x : ClCond) : Bool := c.isOutput && (x == .openWire || x == .compliance)

/-- The reports of a change of condition (R417, R431). -/
def clReports (k : Nat) (old new : ClCond) (flag : Bool) (na : BitVec 32) : List Event :=
  (if old = .compliance then [ev 0x0A04 flag k (if flag then 1 else 0)] else []) ++
    match new with
    | .ok => [ev 0x0A06 false k 0]
    | .openWire => [ev 0x0A01 true k 0]
    | .short => [ev 0x0A02 true k 0]
    | .reversed => [ev 0x0A03 true k 0]
    | .compliance => [ev 0x0A04 true k 1]
    | .readback => [ev 0x0A05 true k na.toNat]

/-- A channel takes the condition that its runs give (R417). -/
def clCondition (k : Nat) (d : Dev) : Dev :=
  let c := d.cloop k
  let x := c.condDue
  if x = c.cond then d
  else
    let flag := c.flagOf x
    let off := x == .reversed && c.role == 2
    let d := d.setCloop k { c with
      cond := x, clFlag := flag, drvOff := c.drvOff || off, drv := if off then 0 else c.drv }
    reportAll (clReports k c.cond x flag c.measNa) d

/-! ### Conversion (R412, R419, R421) -/

/-- DRV at its maximum (R417). -/
def drvMax : Nat := 65535

/-- The regulator in one sample: the drive moves toward the demand, both in nA, and its integrator is clamped at the
drive limit (R413, R416). -/
def regulate (demand current : Int) (drv : Nat) : Nat :=
  let move := Config.clDrive drv (demand - current).natAbs
  if current < demand then (if drvMax ≤ drv then drvMax else min drvMax (drv + move))
  else if demand < current then drv - move
  else drv

/-- What a tone of ±0.5 mA adds to the regulator's demand, in nA (R422). -/
def HartTone.swing (t : HartTone) : Int := divOpen ((turn t.phase 480).2 * 500000) (2 ^ 96)

/-- A third of a sample of a tone: 1,200 Hz for 1, 2,200 Hz for 0, each bit 1/1,200 s long (R422). -/
def HartTone.next (t : HartTone) : HartTone :=
  let f := (t.phase + (if t.bits.headD true then 6 else 11)) % 480
  if t.third < 79 then ⟨t.bits, t.third + 1, f⟩ else ⟨t.bits.drop 1, 0, f⟩

/-- The tone a sample later; none once its bits are out. -/
def toneNext (t : Option HartTone) : Option HartTone :=
  t.bind (fun t => let n := t.next.next.next; if n.bits = [] then none else some n)

/-- The demand in nA: SP_ACT_UA, modulated while a HART request is sent (R413, R422). -/
def CLoop.demand (c : CLoop) : Int := c.spAct.toInt * 1000 + (match c.tone with
  | some t => t.swing
  | none => 0)

/-- The drive after a sample: an output that is not held at 0 V follows its demand (R411, R413, R417, R422, R428). -/
def CLoop.driveNext (c : CLoop) : Nat :=
  if c.isOutput && !c.drvOff then regulate c.demand c.conv c.drv else 0

/-! The second-order low-pass with its corner at 400 Hz, which loses at least 19 dB from 1,200 Hz on (R412): the bilinear
transform of K² / (s² + r × K × s + K²), whose −3 dB point is 400 Hz for every ringing. DESIGN CHOICE: log entry 11. -/

/-- 2 − r², in 2^−32: 0 where the response is maximally flat, 1 at most. -/
def clRinging : Nat := min (2 ^ 32) Config.clRing

/-- K², in 2^−32: the square of the tangent of π × 400 / 32,000 over that of the corner's place beside K. -/
def clCorner : Nat :=
  let t := turn 1 160
  let at3dB := (clRinging + isqrt (clRinging ^ 2 + 2 ^ 66)) / 2
  t.2.natAbs ^ 2 * 2 ^ 64 / (t.1.natAbs ^ 2 * at3dB)

/-- r × K, in 2^−32. -/
def clDamping : Nat := isqrt ((2 ^ 33 - clRinging) * clCorner)

/-- One conversion through the low-pass. -/
def ClFilt.step (f : ClFilt) (nA : Int) : ClFilt :=
  let one : Int := 2 ^ 32
  let k : Int := clCorner
  let r : Int := clDamping
  let x := nA * one
  let y := divOpen (k * (x + 2 * f.x1 + f.x2) + 2 * (one - k) * f.y1 - (one - r + k) * f.y2) (2 ^ 32 + clDamping + clCorner)
  ⟨x, f.x1, y, f.y1⟩

/-- Its output in nA. -/
def ClFilt.out (f : ClFilt) : Int := divOpen f.y1 (2 ^ 32)

/-- One conversion in nA; the drive stands at its limit or not while it is made (R412, R417). -/
def clSample (k : Nat) (nA : Int) (d : Dev) : Dev :=
  let c := d.cloop k
  let atLim := c.isOutput && decide (drvMax ≤ c.drv)
  let filt := if c.filtOn then c.filt.step nA else c.filt
  let c := { c with
    filt := filt, conv := if c.filtOn then filt.out else nA }
  let c := { c with sum := c.sum + c.conv, n := c.n + 1, atLim := c.atLim || atLim }
  d.setCloop k (clHold { c with runs := if c.isOutput then clSampleRuns atLim c else c.runs, drv := c.driveNext, tone := toneNext c.tone })

/-- Quality of CURRENT and PERCENT, the first row of R421 that holds. -/
def clQuality (c : CLoop) (x : ClCond) (sum : Int) (n : Int) : BitVec 2 × BitVec 8 :=
  let input := c.role != 2
  if x = .reversed then (2, 0x0B)
  else if x = .openWire then (2, 0x09)
  else if x = .short then (2, 0x0A)
  else if input && decide (sum < 3600000 * n) then (2, 0x04)
  else if input && decide (21000000 * n < sum) then (2, 0x03)
  else if x = .compliance then (1, 0x05)
  else if x = .readback then (1, 0x80)
  else if input && decide (sum < 3800000 * n) then (1, 0x04)
  else if input && decide (20500000 * n < sum) then (1, 0x03)
  else (0, 0)

/-- End of a frame of a channel: its mean and its tests. -/
def clFrameEnd (k : Nat) (d : Dev) : Dev :=
  let c := d.cloop k
  let m := meanOpen c.sum c.n d
  let c := { c with measNa := satInt 32 m.1 }
  m.2.setCloop k (clHold { c with runs := if c.en && c.n != 0 then clFrameRuns c else c.runs })

/-- Point of a polled address. DEDUCED: log entry 19. -/
def CLoop.hartPoint (c : CLoop) (a : Nat) : Nat := c.hptBase + bitsBelow c.pollMask a

/-- The HART points of a channel in phase A (R425, R642). DEDUCED: log entry 19. -/
def hartCommit (k : Nat) (d : Dev) : Dev :=
  let c := d.cloop k
  let d := d.setCloop k { c with hartDue := [] }
  if !c.en then d
  else c.hartDue.foldl (fun d x =>
    let p := c.hartPoint x.1
    match x.2.1 with
    | some v => produceAs 5 (256 + 64 * k + x.1) p v x.2.2.1 x.2.2.2.1 x.2.2.2.2 d
    | none => produceQAs 5 (256 + 64 * k + x.1) p x.2.2.1 x.2.2.2.1 x.2.2.2.2 d) d

/-- The frame's conversions are spent. -/
def clClear (k : Nat) (d : Dev) : Dev := d.modCloop k (fun c => { c with sum := 0, n := 0, atLim := false, ready := c.en })

/-- The commit of a channel in phase A (R421); `cal`: sample 0 of the previous frame. DEDUCED: log entry 16. DEDUCED: log entry 60. -/
def clCommit (k : Nat) (cal : W64) (d : Dev) : Dev :=
  let c := d.cloop k
  let x := c.condDue
  let q := clQuality c x c.sum c.n
  let d := if !c.en || !c.ready then d else c.quantPoints.foldl (fun d p =>
    match p.1 with
    | 0 => produceAs 5 (16 * k + p.1) p.2 (c.measNa.setWidth 64) q.1 q.2 cal d
    | 1 => produceAs 5 (16 * k + p.1) p.2 ((f32Ratio (c.measNa.toInt - 4000000) 160000).setWidth 64) q.1 q.2 cal d
    | _ => produceAs 5 (16 * k + p.1) p.2 (x.code.setWidth 64) 0 0 cal d) d
  clClear k (hartCommit k d)

/-- CL_FLAG as a loop reads it at the end of a sample (R419). -/
def Dev.clFlag (d : Dev) (k : Nat) : Bool :=
  let c := d.cloop k
  c.en && c.flagOf c.condDue

/-! ### Set-points (R413 to R415) -/

/-- Does an enabled fast loop drive the channel under OUT_CL (R414). -/
def Dev.fastDriven (d : Dev) (k : Nat) : Bool :=
  d.lp.loops.any (fun l => decide (2048 ≤ l.1) && l.2.en && l.2.drives == some k)

/-- Put a set-point in force: value in µA and quality of its source (R413, R415). -/
def clSetpoint (k : Nat) (v : Int) (q : BitVec 2) (d : Dev) : Dev :=
  let c := d.cloop k
  if !c.isOutput then d
  else if qUsable q then
    let w := clampInt c.spMin c.spMax v
    d.setCloop k { c with spAct := BitVec.ofInt 32 w, spEver := true, clamped := w != v }
  else if c.fsHold && c.spEver then d.setCloop k { c with clamped := false }
  else d.setCloop k { c with spAct := BitVec.ofNat 32 c.fsUa, clamped := false }

/-- Step 3 of phase D for one channel (R28, R413, R414). -/
def clOutput (k : Nat) (d : Dev) : Dev :=
  if d.fastDriven k then d
  else
    let p := d.point (d.cloop k).spPt
    clSetpoint k (fld p.value 0 32).toInt p.quality d

/-! ### Configuration (R427) -/

/-- Does an enabled loop name the channel under OUT_CL or SAT_KIND 1 (R427). -/
def Dev.clNamed (d : Dev) (k : Nat) : Bool :=
  d.lp.loops.any (fun l => l.2.en && ((l.2.bf 224 && l.2.uf 221 3 == k) || (l.2.satKind == 1 && l.2.uf 265 17 == k)))

/-- Type of the point of each source index (R420). -/
def clTypeOk (index : Nat) (t : BitVec 3) : Bool :=
  if 256 ≤ index then t == 4
  else match index % 16 with
    | 0 => t == 2 || t == 5
    | 1 => t == 4
    | _ => t == 7

/-- May a channel entry take these RW fields (R63, R427). -/
def clEntryOk (k : Nat) (cfg : BitVec 2048) (d : Dev) : Bool :=
  let old := d.cloop k
  let c := { old with cfg := cfg &&& clMask }
  let hart := c.inHart
  let stays := old.en && c.en
  let src := clSources k c
  let own := d.clPoints k
  decide (c.spMax ≤ 24000 ∧ c.spMin ≤ 24000 ∧ c.fsUa ≤ 24000 ∧ c.spMin ≤ c.spMax ∧ 1 ≤ c.hlost ∧
    5 ≤ c.preambles ∧ c.preambles ≤ 20) &&
    !(c.en && c.role == 0) &&
    !(c.role == 3 && bit c.pollMask 0) &&
    !((c.role == 1 || c.role == 2) && (c.pollMask >>> 1) != 0) &&
    !(c.pollMask != 0 && !hart) && !(hart && !c.filtOn) &&
    !(c.spPt != 0 && c.role != 2) &&
    (c.role != 2 || (d.point c.spPt).ptype == 2 || (d.point c.spPt).ptype == 5) &&
    src.all (fun s => decide (s.2 < 131072) && clTypeOk s.1 (d.point s.2).ptype) &&
    (!c.en || stays || (src.all (fun s => d.canProduce s.2 || own.contains s.2) && decide (src.map (·.2)).Nodup)) &&
    !(c.role == 3 && bit c.qmask 1) &&
    (!stays || ((c.cfg ^^^ old.cfg) &&& ~~~clTune) == 0) &&
    !(d.clNamed k && (c.en != old.en || c.role != old.role))

/-- Write a channel entry: EN 0 leaves COND, which a write of EN 1 clears with its report (R411, R417, R427). DESIGN
CHOICE: log entry 103. -/
def clEntryWrite (k : Nat) (cfg : BitVec 2048) (d : Dev) : Dev :=
  let old := d.cloop k
  let cfg := cfg &&& clMask
  let on := bit cfg 0
  if old.en && on then d.setCloop k { old with cfg := cfg }
  else
    let d := (d.clPoints k).foldl (fun d p => releasePoint p d) d
    let c := { old with
      cfg := cfg, cond := if on then .ok else old.cond, held := if on then [] else old.held
      clFlag := false, clamped := false, runs := ClRuns.zero, ready := false, spEver := false
      spAct := 0, drvOff := !on, drv := 0, trans := none, tone := none, retries := 0, missed := [], memBad := false, lastPoll := 63
      hartDue := []
      mbState := if old.mbState = .pending ∨ old.mbState = .busy then .empty else old.mbState }
    let d := d.setCloop k c
    if on then
      let d := (clSources k c).foldl (fun d s => claimPoint 5 s.1 s.2 d) d
      if old.cond = .ok then d else report (ev 0x0A06 false k 0) d
    else d

/-- Uncorrectable error in a channel entry (R428). -/
def clMemory (k : Nat) (d : Dev) : Dev :=
  let c := d.cloop k
  let d := (d.clPoints k).foldl (fun d p => produceQ p 2 0x0C d.cal d) d
  let d := d.setCloop k { c with
    cfg := c.cfg &&& ~~~(putB 2048 0 true), drvOff := true, drv := 0, trans := none, tone := none, memBad := true, clFlag := false, hartDue := [] }
  report (ev 0x0A0B true k 0) (countUncorr d)

/-- Phase A and D costs of the unit (R429). -/
def Dev.clCostA (d : Dev) : Nat :=
  24 + 3 * ((d.cl.filter (fun c => c.2.en)).map (fun c => (clSources c.1 c.2).length)).sum
def Dev.clCostD (d : Dev) : Nat := 16 + 4 * (d.cl.filter (fun c => c.2.isOutput)).length

/-! ### HART (R156, R422 to R425) -/

/-- STATE of a HART_SEND (R156); a POLL_ADDR above 63 is none (DESIGN CHOICE: log entry 117). -/
def hartSendOk (k : Nat) (d : Dev) : Bool :=
  let c := d.cloop k
  c.inHart && c.mbState != .pending && c.mbState != .busy

/-- Queue a mailbox request: head and data (R156, R424). -/
def hartSend (k : Nat) (req : List Byte) (d : Dev) : Dev :=
  d.modCloop k (fun c => { c with req := req, mbState := .pending })

/-- The next address of the poll (R423). -/
def CLoop.nextPoll (c : CLoop) : Option Nat :=
  (rotateFrom (c.lastPoll + 1) ((List.range 64).filter (fun a => bit c.pollMask a))).head?

/-- The frame of a running request: the mailbox request in the form that it asks for, or command 3 as a short frame to
a polling address (R156, R422, R423). DEDUCED: log entry 60. -/
def CLoop.hartFrame (c : CLoop) : Option HartFrame :=
  let swing := if c.role = 2 then some 500 else none
  match c.trans with
  | some .mailbox =>
    let h : BitVec 96 := leBits 96 (c.req.take 12)
    let long := bit h 24
    some ⟨c.preambles, long, if long then fld h 32 40 else (fld h 16 8).setWidth 40, fld h 0 8, c.req.drop 12, swing⟩
  | some (.poll a) => some ⟨c.preambles, false, BitVec.ofNat 40 a, 3, [], swing⟩
  | none => none

/-- A byte on the line: start bit, 8 bits from the lowest on, odd parity, stop bit (R422). PRESUMED: log entry 125. -/
def hartChar (b : Byte) : List Bool :=
  let bits := (List.range 8).map (fun i => bit b i)
  [false] ++ bits ++ [(bits.filter id).length % 2 == 0, true]

/-- A request as bits: preamble, delimiter, address of the primary master, command, byte count, data, check byte (R422).
PRESUMED: log entry 125. -/
def HartFrame.bits (f : HartFrame) : List Bool :=
  let addr : List Byte := if f.long then beBytes 5 (f.addr &&& 0x3FFFFFFFFF#40 ||| 0x8000000000#40).toNat
    else [f.addr.setWidth 8 &&& 0x3F ||| 0x80]
  let body : List Byte := [if f.long then 0x82 else 0x02] ++ addr ++ [f.cmd, BitVec.ofNat 8 f.data.length] ++ f.data
  (List.replicate f.preambles 0xFF ++ body ++ [body.foldl (· ^^^ ·) 0]).flatMap hartChar

/-- Send the running request once: at LOOP_k_HART, or in the output role by the regulator's demand (R422). -/
def hartTransmit (k : Nat) (d : Dev) : Dev :=
  let c := d.cloop k
  let d := d.setCloop k { c with
    txCnt := c.txCnt + 1, tone := if c.role = 2 then c.hartFrame.map (fun f => ⟨f.bits, 0, 0⟩) else none }
  match c.hartFrame with
  | some f => d.emit (.hart k f)
  | none => d

/-- Start the next transaction (R423, R424). -/
def hartStart (k : Nat) (d : Dev) : Dev :=
  let c := d.cloop k
  if !c.inHart || c.trans.isSome then d
  else if c.mbState = .pending then
    hartTransmit k (d.setCloop k { c with mbState := .busy, trans := some .mailbox, retries := 0 })
  else match c.nextPoll with
    | none => d
    | some a => hartTransmit k (d.setCloop k { c with trans := some (.poll a), lastPoll := a, retries := 0 })

/-- An event of the mailbox, to channel 0 (R424). DEDUCED: log entry 60. -/
def mailboxEvent (code : Nat) (k data : Nat) : Event := { ev code false k data with dests := [0] }

/-- A valid reply ends the transaction: command, response code, device status, data; a reply to a poll is one of
command 3 with data bytes 5 to 8, and any other is none (R424, R425). DEDUCED: log entry 19. DEDUCED: log entry 60. -/
def hartReply (k cmd resp devst : Nat) (bytes : List Byte) (d : Dev) : Dev :=
  let c := d.cloop k
  match c.trans with
  | none => d
  | some .mailbox =>
    report (mailboxEvent 0x0A07 k (resp % 256)) (d.setCloop k { c with
      trans := none, mbState := .done, mbCmd := BitVec.ofNat 16 cmd, mbResp := BitVec.ofNat 8 resp
      mbDevst := BitVec.ofNat 8 devst, mbLen := BitVec.ofNat 8 bytes.length, mbTrunc := decide (160 < bytes.length)
      mbData := bytes.take 160, mbSeq := c.mbSeq + 1 })
  | some (.poll a) =>
    if cmd ≠ 3 ∨ bytes.length < 9 then d else
    let v := BitVec.ofNat 64 (beNat (slice bytes 5 4))
    let bad := (devst / 128) % 2 == 1
    let back := decide (c.hlost ≤ tget 0 c.missed a)
    let due := (a, some v, (if bad then 2 else 0 : BitVec 2), (if bad then 0x81 else 0 : BitVec 8), d.cal)
    let d := d.setCloop k { c with trans := none, missed := tset 0 c.missed a 0, hartDue := c.hartDue ++ [due] }
    if back then report (ev 0x0A0A false k a) d else d

/-- No valid reply in time: the request is sent again (R422). -/
def hartRetry (k : Nat) (d : Dev) : Dev :=
  let c := d.cloop k
  if c.trans.isSome && decide (c.retries < c.hretry) then
    hartTransmit k (d.setCloop k { c with retries := c.retries + 1, errCnt := c.errCnt + 1 })
  else d

/-- After the retries no reply, or only a bad frame, arrives (R424, R425). -/
def hartNoReply (k : Nat) (badFrame : Bool) (d : Dev) : Dev :=
  let c := d.cloop k
  if decide (c.retries < c.hretry) then d
  else
    let c' := { c with trans := none, errCnt := c.errCnt + 1 }
    match c.trans with
    | none => d
    | some .mailbox =>
      let st : MbState := if badFrame then .badFrame else .noReply
      report (mailboxEvent 0x0A08 k st.code.toNat) (d.setCloop k { c' with mbState := st })
    | some (.poll a) =>
      let n := min (tget 0 c.missed a + 1) 255
      let lost := decide (c.hlost ≤ n)
      let due := (a, (none : Option W64), (if lost then 2 else 1 : BitVec 2), (if lost then 0x08 else 0x07 : BitVec 8), d.cal)
      let d := d.setCloop k { c' with missed := tset 0 c.missed a n, hartDue := c.hartDue ++ [due] }
      if n = c.hlost ∧ tget 0 c.missed a < n then report (ev 0x0A09 true k a) d else d

/-- A burst-mode frame is ignored and counted (R422). -/
def hartBurst (k : Nat) (d : Dev) : Dev :=
  let c := d.cloop k
  if c.inHart then d.setCloop k { c with errCnt := c.errCnt + 1 } else d

end Sys2Proof.Machine
end

