-- ==== Sys2Proof/Machine/LineCode.lean ====
section
/-!
DEFINITION. The line code of the strands: symbols as transitions, the levels that carry them, and strand frames of
symbols (R234, R235, R255 to R259).
-/
namespace Sys2Proof.Machine

/-! ### Bit rates (R236, R264) -/

/-- BIT_RATE of a strand entry. -/
def bitRate (c : BitVec 512) : Nat := (fld c 0 2).toNat

/-- Fabric cycles of a bit period. -/
def bitCycles (br : Nat) : Nat := if br = 0 then 100 else if br = 1 then 400 else 1600

/-- CYC_FR. -/
def cycFr (br : Nat) : Nat := if br = 0 then 1 else if br = 1 then 2 else 8

/-! ### Symbols, transitions and levels (R234, R235, R255) -/

/-- Has a symbol a transition at the start of its bit period. -/
def symStart : LineSym → Bool
  | .zero => true
  | .one => false
  | .v => false
  | .w => true

/-- Has it a transition at the middle. -/
def symMiddle : LineSym → Bool
  | .zero => true
  | .one => true
  | .v => false
  | .w => false

/-- The symbol of two transitions, present or not. -/
def lineSym : Bool → Bool → LineSym
  | true, true => .zero
  | false, true => .one
  | false, false => .v
  | true, false => .w

/-- The levels of the half bit periods that carry symbols, after a level. -/
def lineLevels : Bool → List LineSym → List Bool
  | _, [] => []
  | x, s :: ss =>
    let a := Bool.xor x (symStart s)
    let b := Bool.xor a (symMiddle s)
    a :: b :: lineLevels b ss

/-- The symbols that levels carry, after a level: transitions alone decide (R235). -/
def lineSymbols : Bool → List Bool → List LineSym
  | x, a :: b :: hs => lineSym (Bool.xor x a) (Bool.xor a b) :: lineSymbols b hs
  | _, _ => []

/-! ### Strand frames (R256 to R259) -/

def startDelimiter : List LineSym := [.v, .w, .zero, .v, .w, .zero, .zero, .zero]
def endDelimiter : List LineSym := [.v, .w, .one, .v, .w, .one, .one, .one]

/-- The symbols of bytes, each least significant bit first (R257). -/
def dataSymbols (bs : List Byte) : List LineSym := bs.flatMap (fun b => (lsbBits b).map (fun x => if x then .one else .zero))

/-- One bit of the CRC of R258. -/
def crc16Bit (c : Nat) (b : Bool) : Nat :=
  let fb := Bool.xor (c % 2 == 1) b
  if fb then (c / 2) ^^^ 0x8408 else c / 2

/-- The CRC field of a body (R258). -/
def crc16 (bs : List Byte) : Nat := bs.foldl (fun c b => (lsbBits b).foldl crc16Bit c) 0xFFFF

/-- A strand frame with a body (R256). -/
def strandFrame (body : List Byte) : List LineSym :=
  List.replicate 16 .zero ++ startDelimiter ++ dataSymbols (body ++ leBytes 2 (crc16 body)) ++ endDelimiter

/-- The bytes that whole groups of eight data symbols spell; `none` with a V or W among them or a part of a byte left. -/
def wholeBytes : List LineSym → Option (List Byte)
  | [] => some []
  | a :: b :: c :: d :: e :: f :: g :: h :: ss =>
    let xs := [a, b, c, d, e, f, g, h]
    if xs.all symMiddle then
      let n := xs.foldr (fun s n => (if symStart s then 0 else 1) + 2 * n) 0
      (wholeBytes ss).map (fun bs => BitVec.ofNat 8 n :: bs)
    else none
  | _ => none

/-- The symbols after a preamble that ends in a start delimiter (R259). The preamble may be heard in part. DEDUCED: log
entry 26. -/
def afterStart : List LineSym → Option (List LineSym)
  | .zero :: ss =>
    let rest := ss.dropWhile (· == .zero)
    if rest.take 8 = startDelimiter then some (rest.drop 8) else none
  | _ => none

/-- The body of a received strand frame: start delimiter, whole bytes, no V or W outside the delimiters, CRC (R259). -/
def frameBody (syms : List LineSym) : Option (List Byte) :=
  match afterStart syms with
  | none => none
  | some ss =>
    let data := ss.takeWhile symMiddle
    if (ss.drop data.length).take 8 = endDelimiter then
      match wholeBytes data with
      | none => none
      | some bytes =>
        let n := bytes.length - 2
        let body := bytes.take n
        if decide (2 ≤ bytes.length) && leNat (bytes.drop n) == crc16 body then some body else none
    else none

/-- The symbols of a received signal. -/
def rxSymbols (r : LineRx) : List LineSym := lineSymbols r.before r.halves

/-- The signal of symbols, as a line of either polarity carries it. -/
def lineSignal (before : Bool) (ss : List LineSym) : LineRx := ⟨before, lineLevels before ss⟩

end Sys2Proof.Machine
end

