-- ==== Sys2Proof/Machine/Line.lean ====
section
/-!
DEFINITION. Line power of the strands (R231 to R254): the thresholds, the state table, the means of a frame and the
wiring supervision.
-/
namespace Sys2Proof.Machine

/-! ### Configuration (R253) -/

def Line.tripMa (l : Line) : Nat := (fld l.cfg 20 12).toNat
def Line.overloadMa (l : Line) : Nat := (fld l.cfg 8 12).toNat
def Line.shuntMohm (l : Line) : Nat := (fld l.cfg 0 8).toNat
def Line.shared (l : Line) : Bool := bit l.cfg2 31
def Line.inrushMs (l : Line) : Nat := (fld l.cfg2 16 8).toNat
def Line.inrushMa (l : Line) : Nat := (fld l.cfg2 0 12).toNat

/-- Are the fields of one of the two registers in their ranges, the other one's left aside (R113, R253). -/
def lineWordOk (second : Bool) (v : Reg) : Bool :=
  let l := { Line.reset with cfg := v, cfg2 := v }
  if second then decide (1 ≤ l.inrushMs ∧ 50 ≤ l.inrushMa ∧ l.inrushMa ≤ 4000)
  else decide (100 ≤ l.tripMa ∧ l.tripMa ≤ 4000 ∧ 50 ≤ l.overloadMa ∧ l.overloadMa ≤ 4000 ∧
    10 ≤ l.shuntMohm ∧ l.shuntMohm ≤ 100)

/-- Do the two registers agree: their orders and the full scale (R253). -/
def lineOrderOk (cfg cfg2 : Reg) : Bool :=
  let l := { Line.reset with cfg := cfg, cfg2 := cfg2 }
  decide (l.overloadMa < l.inrushMa ∧ l.inrushMa < l.tripMa ∧ l.tripMa * l.shuntMohm ≤ 100000)

/-- Full-scale current of ISP to ISN in mA (R253). -/
def Line.fullScale (l : Line) : Nat := if l.shuntMohm = 0 then 0 else 100000 / l.shuntMohm

/-- Is the switch commanded closed (R232). -/
def Line.powered (l : Line) : Bool := l.st == .inrush || l.st == .on

/-- LINE_STATUS (R253). -/
def Line.status (l : Line) : Reg :=
  let code : BitVec 3 := match l.st with
    | .off => 0
    | .precheck => 1
    | .inrush => 2
    | .on => 3
    | .retryWait => 4
    | .latched => 5
  putB 32 15 l.sigOpen ||| putB 32 14 l.sigShort ||| putB 32 13 l.uv ||| putB 32 12 l.blocked ||| put 32 8 code |||
    put 32 4 (BitVec.ofNat 4 l.failCnt)

/-- LINE_VOLT: VSB_10MV and VSA_10MV. DEDUCED: log entry 27. -/
def Line.volts (l : Line) : Reg := put 32 16 l.vsb ||| put 32 0 l.vsa

/-! ### Reports (R254) -/

/-- A line event whose DATA carries the voltages. DEDUCED: log entry 27. -/
def lineEvent (code : Nat) (isFault : Bool) (k : Nat) (d : Dev) : Event := ev code isFault k (d.line k).volts.toNat

/-! ### Precheck conditions (R240) -/

/-- Causes of one sample in mV: bits 0 supply missing, 1 foreign, 2 reversed; SHARED excepts the foreign voltage only. DEDUCED: log entry 29. -/
def precheckCauses (shared : Bool) (a b : Int) : BitVec 3 :=
  let accepted := shared && decide (a - 3000 ≤ b ∧ b ≤ a + 3000)
  putB 3 0 (decide (a < 22000)) ||| putB 3 1 (decide (5000 < b) && !accepted) |||
    putB 3 2 (decide (b < -5000))

/-- Take one sample of VSA and VSB in mV into the precheck of the present frame. DEDUCED: log entry 29. -/
def precheckSample (a b : Int) (l : Line) : Line :=
  let c := precheckCauses l.shared a b
  let bad := c != 0 || (l.ovPending && decide (58000 < a))
  { l with causes := l.causes ||| c, preBad := l.preBad || bad, blocked := bad }

/-! ### Transitions (R241) -/

/-- Fabric cycles from sample 0 of a strand's running cycle to the last sample boundary (R21, R22, R264). -/
def Dev.cycleNow (d : Dev) (cy : Cycle) : Nat :=
  500000 * framesSince cy.began d + 15625 * d.tb.sample

/-- The transmitter is disabled: a copy in transmission is cut (R245, R246). DESIGN CHOICE: log entry 99. -/
def cutCopy (k : Nat) (d : Dev) : Dev :=
  match (d.strand k).cycle with
  | some cy =>
    if d.cycleNow cy < cy.txEnd then
      (d.setStrand k { d.strand k with cycle := some { cy with txEnd := 0 } }).emit (.strandCut k)
    else d
  | none => d

/-- Leave ON: the transmitter stops, the transmit level restarts, UV clears with its report (R245, R250, R252). -/
def lineLeaveOn (k : Nat) (d : Dev) : Dev :=
  let l := d.line k
  if l.st = .on then
    let d1 := (cutCopy k d).setLine k { l with uv := false, ampl := 0, amplN := 0, amplSum := 0, highRun := 0, lowRun := 0, okRun := 0 }
    if l.uv then report (lineEvent 0x060A false k d) d1 else d1
  else d

/-- Enter a state: GATE follows it, the frame count restarts (R232). -/
def lineEnter (k : Nat) (st : LineSt) (d : Dev) : Dev :=
  (lineLeaveOn k d).modLine k (fun l => { l with
    st := st
    gate := st == .inrush || st == .on
    frames := 0
    blocked := if st = .precheck then l.blocked else false })

/-- Enter PRECHECK; `whole`: at the first cycle of sample 0, so that the present frame counts. The samples judged are
those that end in PRECHECK. DEDUCED: log entry 29. -/
def linePrecheck (k : Nat) (whole : Bool) (d : Dev) : Dev :=
  (lineEnter k .precheck d).modLine k (fun l =>
    { l with preRun := 0, preWhole := whole, preBad := false, causes := 0, reported := [] })

/-- A failure: a fast trip (bit 1) or an overload (bit 2) (R241, R243, R254). -/
def lineFailure (k bitNo code : Nat) (d : Dev) : Dev :=
  let l := d.line k
  let n := min (l.failCnt + 1) 8
  let last := decide (8 ≤ n)
  let e := ev code true k (l.peak.toNat + 65536 * n)
  let d := (lineEnter k (if last then .latched else .retryWait) d).modLine k (fun l => { l with
    failCnt := n
    fault := l.fault ||| putB 12 bitNo true ||| putB 12 3 last
    overRun := 0
    backRun := 0
    backoff := if last then 0 else 100 * 2 ^ (n - 1) + 1 })
  let d := report e d
  if last then report (lineEvent 0x0605 true k d) d else d

/-- An overvoltage that opens the switch (R240, R241). -/
def lineOvervolt (k : Nat) (d : Dev) : Dev :=
  let e := lineEvent 0x0609 true k d
  report e (linePrecheck k (d.tb.sample == 0) (d.modLine k (fun l => { l with
    fault := l.fault ||| putB 12 7 true, ovPending := true, overRun := 0, backRun := 0 })))

/-- Overload of 100 frames (R240). -/
def Line.overDue (l : Line) : Bool := l.powered && decide (100 ≤ l.overRun)
def lineOverload (k : Nat) (d : Dev) : Dev := if (d.line k).overDue then lineFailure k 2 0x0604 d else d

/-- Back-feed of 2 frames (R240). -/
def Line.backDue (l : Line) : Bool := l.powered && decide (2 ≤ l.backRun)

/-- The fast-trip comparator at an instantaneous current in mA (R240, R242). -/
def fastTrip (k : Nat) (mA : Int) (d : Dev) : Dev :=
  let l := d.line k
  if l.powered && decide ((l.tripMa : Int) ≤ mA) then
    lineFailure k 1 0x0603 (d.setLine k { l with peak := maxU l.peak (satNat 16 (min mA.toNat l.fullScale)) })
  else d

/-- Back-feed of 2 frames, after an overload that is due (R240, R241). -/
def lineBackfeed (k : Nat) (d : Dev) : Dev :=
  let l := d.line k
  if l.overDue then lineOverload k d
  else if l.backDue then
    report (lineEvent 0x060B true k d) (linePrecheck k (d.tb.sample == 0) (d.setLine k { l with
      fault := l.fault ||| putB 12 9 true, overRun := 0, backRun := 0 }))
  else d

/-- Complete frames that a precheck needs (R241). -/
def Line.preNeed (l : Line) : Nat := if l.ovPending then 100 else 2

/-- PRECHECK passed: GATE high at a sample 0 (R241). -/
def precheckPassed (k : Nat) (d : Dev) : Dev :=
  let l := d.line k
  if l.st = .precheck ∧ l.preNeed ≤ l.preRun ∧ d.tb.sample = 0 then
    lineEnter k .inrush (d.setLine k { l with ovPending := false, overRun := 0, backRun := 0 })
  else d

/-- The first of the rows above that holds, else the row itself (R241). -/
def lineRow (k : Nat) (row : Dev → Dev) (d : Dev) : Dev :=
  if (d.line k).overDue || (d.line k).backDue then lineBackfeed k d else row d

/-- INRUSH_MS elapsed: the transmitter is enabled (R241, R245). -/
def inrushEnd (k : Nat) : Dev → Dev := lineRow k fun d =>
  let l := d.line k
  if l.st = .inrush ∧ l.inrushMs ≤ l.frames then report (lineEvent 0x0601 false k d) (lineEnter k .on d) else d

/-- Back-off elapsed (R241, R243). -/
def retryBackoffEnd (k : Nat) (d : Dev) : Dev :=
  let l := d.line k
  if l.st = .retryWait ∧ l.backoff = 0 then linePrecheck k (d.tb.sample == 0) d else d

/-- 10,000 frames in ON (R241). -/
def failCntClear (k : Nat) : Dev → Dev := lineRow k fun d =>
  let l := d.line k
  if l.st = .on ∧ 10000 ≤ l.frames then d.setLine k { l with failCnt := 0 } else d

/-- STRAND_LINE: 0 OFF, 1 ON, 2 RESET_LATCH (R155, R241, R244). -/
def strandLine (k action : Nat) (d : Dev) : Dev :=
  let l := d.line k
  let clear := d.setLine k { l with failCnt := 0 }
  match action with
  | 0 =>
    if l.st = .off then d
    else report (lineEvent 0x0602 false k d) ((lineEnter k .off clear).modLine k (fun l => { l with overRun := 0, backRun := 0 }))
  | 1 => if l.st = .off then linePrecheck k false clear else d
  | _ => if l.st = .off ∨ l.st = .retryWait ∨ l.st = .latched then linePrecheck k false clear else d

/-! ### Samples and frames -/

/-- The overvoltage of a sample, after an overload that is due (R240, R241). -/
def lineOver (k : Nat) (d : Dev) : Dev :=
  let l := d.line k
  if l.overDue then lineOverload k d else if l.powered && l.ovSeen then lineOvervolt k d else d

/-- One sample of a strand: VSA and VSB in mV, current in mA. An overvoltage in the last sample of a frame is judged with
the frame, whose overload goes before it (R240 to R242). -/
def lineSample (k : Nat) (a b mA : Int) (d : Dev) : Dev :=
  let l := d.line k
  let l := { l with
    sumA := l.sumA + a, sumB := l.sumB + b, sumI := l.sumI + mA
    ovSeen := decide (60000 < a)
    peak := maxU l.peak (satNat 16 (min mA.natAbs l.fullScale)) }
  let l := if l.st = .precheck then precheckSample a b l else l
  let d := d.setLine k l
  if l.powered && decide ((l.tripMa : Int) ≤ mA) then fastTrip k mA d
  else if d.tb.sample = 0 then d
  else lineOver k d

/-- The registers of a frame of `n` samples (R253). -/
def lineMeans (k n : Nat) (d : Dev) : Dev :=
  let l := d.line k
  let i := meanOpen l.sumI n d
  let a := meanOpen l.sumA (10 * n) i.2
  let b := meanOpen l.sumB (10 * n) a.2
  b.2.setLine k { l with iMa := satInt 16 i.1, vsa := satInt 16 a.1, vsb := satInt 16 b.1 }

/-- Undervoltage in ON by the exact mean (R240, R252). -/
def lineUndervolt (k n : Nat) (d : Dev) : Dev :=
  let l := d.line k
  if l.st = .on ∧ l.sumA < 21000 * (n : Int) then
    let e := ev 0x060A true k (4294967296 + l.volts.toNat)
    let d := d.setLine k { l with uv := true, fault := l.fault ||| putB 12 8 true }
    if l.uv then d else report e d
  else if l.st = .on ∧ l.uv ∧ 22000 * (n : Int) ≤ l.sumA then
    report (lineEvent 0x060A false k d) (d.setLine k { l with uv := false })
  else d

/-- Report the causes of a frame of PRECHECK, once per entry and cause (R241). DEDUCED: log entry 27. -/
def lineCauses (k : Nat) (d : Dev) : Dev :=
  [(0, 6, 0x0608), (1, 4, 0x0606), (2, 5, 0x0607)].foldl (fun d c =>
    let l := d.line k
    if bit l.causes c.1 then
      let d := d.setLine k { l with fault := l.fault ||| putB 12 c.2.1 true }
      if l.reported.contains c.2.2 then d
      else report (lineEvent c.2.2 true k d) (d.modLine k (fun l => { l with reported := l.reported ++ [c.2.2] }))
    else d) d

/-- The decisions of one strand at the end of a frame of `n` samples, whose last sample has been taken (R240, R241, R252). -/
def lineFrame (k n : Nat) (d : Dev) : Dev :=
  let d := lineUndervolt k n (lineMeans k n d)
  let l := d.line k
  let limit : Int := if l.st = .inrush then l.inrushMa else l.overloadMa
  let overFr := l.powered && decide (limit * (n : Int) ≤ l.sumI)
  let backFr := l.powered && decide (l.sumI < -200 * (n : Int))
  let pre := l.st == .precheck
  let d := d.setLine k { l with
    frames := if l.st = .off then 0 else l.frames + 1
    overRun := if overFr then l.overRun + 1 else 0
    backRun := if backFr then l.backRun + 1 else 0
    backoff := l.backoff - 1
    preRun := if pre && l.preWhole && !l.preBad then l.preRun + 1 else 0 }
  let d := if pre then lineCauses k d else d
  lineOver k (d.modLine k (fun l => { l with
    preWhole := pre, preBad := false, causes := 0, sumA := 0, sumB := 0, sumI := 0 }))

/-- Every strand at the end of a frame of `n` samples. DEDUCED: log entry 15. -/
def linesFrame (n : Nat) (d : Dev) : Dev := (List.range 16).foldl (fun d k => lineFrame k n d) d

/-- The transmitter of a strand sends (R245, R246). -/
def Dev.transmits (d : Dev) (k : Nat) : Bool := (d.line k).st == .on && !d.ply.latch

/-! ### Wiring supervision (R250) -/

/-- The level of the preamble of one downlink frame, in mV: every 32 give a mean. DEDUCED: log entry 28. -/
def lineLevel (k mV : Nat) (d : Dev) : Dev :=
  let l := d.line k
  if l.st ≠ .on then d
  else if l.amplN < 31 then d.setLine k { l with amplN := l.amplN + 1, amplSum := l.amplSum + mV }
  else
    let sum := l.amplSum + mV
    let m := meanOpen (sum : Int) 32 d
    let high := decide (3000 * 32 < sum)
    let low := decide (sum < 1000 * 32)
    let ok := decide (1300 * 32 ≤ sum ∧ sum ≤ 2700 * 32)
    let l := { l with
      ampl := satInt 16 m.1, amplN := 0, amplSum := 0
      highRun := if high then min (l.highRun + 1) 3 else 0
      lowRun := if low then min (l.lowRun + 1) 3 else 0
      okRun := if ok then min (l.okRun + 1) 3 else 0 }
    let d := m.2.setLine k l
    if l.highRun = 3 ∧ !l.sigOpen then
      report (lineEvent 0x060C true k d) (d.setLine k { l with sigOpen := true, fault := l.fault ||| putB 12 10 true })
    else if l.lowRun = 3 ∧ !l.sigShort then
      report (lineEvent 0x060D true k d) (d.setLine k { l with sigShort := true, fault := l.fault ||| putB 12 11 true })
    else if l.okRun = 3 ∧ (l.sigOpen || l.sigShort) then
      report (ev 0x060E false k (65536 * l.vsb.toNat + l.ampl.toNat)) (d.setLine k { l with sigOpen := false, sigShort := false })
    else d

end Sys2Proof.Machine
end

