-- ==== Sys2Proof/Machine/Strand.lean ====
section
/-!
DEFINITION. The strand controllers (R255 to R291): configuration entries, the schedule of cycles and slots, downlink
copies, replies, the node state table and the commits of phases A and D.
-/
namespace Sys2Proof.Machine

/-! ### The receiver (R235, R238) -/

/-- The symbols that the receiver decodes: of a signal of 150 mVpp or more; a signal below 60 mVpp is ignored (`none`);
between the two the manual leaves it open (DESIGN CHOICE: log entry 8). -/
def lineHears (mv : Nat) (rx : LineRx) (d : Dev) : Option (List LineSym) × Dev :=
  if 150 ≤ mv then (some (rxSymbols rx), d)
  else if mv < 60 then (none, d)
  else
    let f := freeBit d
    (if f.1 then some (rxSymbols rx) else none, f.2)

/-! ### Strand entry (R286) -/

def fsAll (c : BitVec 512) : Bool := bit c 2
def lateMiss (c : BitVec 512) : Nat := (fld c 16 8).toNat
def lostMiss (c : BitVec 512) : Nat := (fld c 24 8).toNat
def roundCyc (c : BitVec 512) : Nat := (fld c 32 10).toNat

/-- RW fields of the strand entry. -/
def strandMask : BitVec 512 := maskOf 512 [(0, 3), (16, 8), (24, 8), (32, 10)]

/-- U and G (R264). -/
def usable (br : Nat) : Nat := if br = 0 then 4900 else 2450
def guardBits (br : Nat) : Nat := if br = 0 then 40 else if br = 1 then 24 else 16

/-! ### Node entry (R287) -/

def nodeEn (c : BitVec 256) : Bool := bit c 38
def nodeWd (c : BitVec 256) : Nat := (fld c 39 4).toNat
def nodeFsMode (c : BitVec 256) : Nat := (fld c 43 2).toNat
def nodeIn (c : BitVec 256) : Nat := (fld c 45 6).toNat
def nodeOut (c : BitVec 256) : Nat := (fld c 51 6).toNat
def nodeInBase (c : BitVec 256) : Nat := (fld c 57 17).toNat
def nodeOutBase (c : BitVec 256) : Nat := (fld c 74 17).toNat
def nodeType (c : BitVec 256) : BitVec 32 := fld c 160 32

/-- RW fields of the node entry. -/
def nodeMask : BitVec 256 := maskOf 256 [(38, 1), (39, 4), (43, 2), (45, 6), (51, 6), (57, 17), (74, 17), (160, 32)]

/-- Image of a node entry (R287). -/
def Node.image (n : Node) : BitVec 256 :=
  let st : BitVec 3 := match n.st with
    | .disabled => 0
    | .identifying => 1
    | .active => 2
    | .mismatch => 3
  put 256 192 n.serial ||| put 256 128 n.sat ||| put 256 112 n.nodeFw ||| put 256 104 n.miss ||| put 256 93 st |||
    putB 256 92 n.lSeen ||| putB 256 91 n.tSeen ||| (n.cfg &&& nodeMask)

/-! ### The schedule (R266, R267) -/

/-- Bit periods of a node's reply slot without its guard (R266). -/
def replyBits (c : BitVec 256) : Nat := max (144 + 32 * nodeIn c) 208

/-- Bit periods that a node adds to a cycle (R267). -/
def nodeNeed (br : Nat) (c : BitVec 256) : Nat := 2 * 32 * (2 + nodeOut c) + replyBits c + guardBits br

/-- One node of the procedure of R267: the closed cycles, the open cycle and its use. -/
def scheduleStep (br round : Nat) (acc : Option (List (List (Nat × BitVec 256)) × List (Nat × BitVec 256) × Nat))
    (n : Nat × BitVec 256) : Option (List (List (Nat × BitVec 256)) × List (Nat × BitVec 256) × Nat) :=
  match acc with
  | none => none
  | some (closed, cur, used) =>
    let need := nodeNeed br n.2
    let base := 2 * (144 + guardBits br)
    let next := decide (usable br < used + need) && !cur.isEmpty
    let closed' := if next then closed ++ [cur] else closed
    let cur' := if next then [] else cur
    let used' := if next then base else used
    if next && closed'.length == round then none
    else if usable br < used' + need then none
    else some (closed', cur' ++ [n], used' + need)

/-- The cycle indices that hold nodes, in order; `none` where the procedure fails (R267). -/
def schedule (br round : Nat) (nodes : List (Nat × BitVec 256)) : Option (List (List (Nat × BitVec 256))) :=
  match nodes.foldl (scheduleStep br round) (some ([], [], 2 * (144 + guardBits br))) with
  | none => none
  | some (closed, cur, _) => some (if cur.isEmpty then closed else closed ++ [cur])

/-- Enabled nodes of a strand in address order. -/
def Dev.enabledNodes (d : Dev) (k : Nat) : List (Nat × BitVec 256) :=
  (d.nodes.filter (fun n => decide (n.1 / 256 = k) && nodeEn n.2.cfg)).map (fun n => (n.1 % 256, n.2.cfg))

/-- The schedule of a strand. -/
def Dev.schedule (d : Dev) (k : Nat) : Option (List (List (Nat × BitVec 256))) :=
  Sys2Proof.Machine.schedule (bitRate (d.strand k).cfg) (roundCyc (d.strand k).cfg) (d.enabledNodes k)

/-- D_MAX of a cycle (R266). -/
def dMax (nodes : List (Nat × BitVec 256)) : Nat := 144 + (nodes.map (fun n => 32 * (2 + nodeOut n.2))).sum

/-- Bit periods that a cycle reserves (R266). -/
def cycleBits (br : Nat) (nodes : List (Nat × BitVec 256)) : Nat :=
  2 * (dMax nodes + guardBits br) + (nodes.map (fun n => replyBits n.2 + guardBits br)).sum

/-- CYCLE_MAX and CYCLES_USED (R286). -/
def Dev.cycleStats (d : Dev) (k : Nat) : Nat × Nat :=
  let cs := (d.schedule k).getD []
  (maxList (cs.map (cycleBits (bitRate (d.strand k).cfg))), cs.length)

/-- Image of a strand entry (R286). -/
def Dev.strandImage (d : Dev) (k : Nat) : BitVec 512 :=
  let s := d.strand k
  let st := d.cycleStats k
  put 512 384 s.twinDiffCnt ||| put 512 352 s.twinMissCnt ||| put 512 320 s.twinOkCnt ||| put 512 288 s.rxAddrCnt |||
    put 512 256 s.rxMissCnt ||| put 512 224 s.rxBadCnt ||| put 512 192 s.dlSentCnt |||
    put 512 176 (BitVec.ofNat 16 st.1) ||| put 512 160 (BitVec.ofNat 16 st.2) ||| put 512 152 s.mseq |||
    (s.cfg &&& strandMask)

/-- Start of each reply slot of a cycle, in bit periods from its sample 0 (R266). -/
def slotStarts (br : Nat) (nodes : List (Nat × BitVec 256)) : List (Nat × Nat) :=
  (nodes.foldl (fun a n => (a.1 ++ [(n.1, a.2)], a.2 + replyBits n.2 + guardBits br))
    (([] : List (Nat × Nat)), 2 * (dMax nodes + guardBits br))).1

/-- The node in whose window a start delimiter is complete at a bit period (R268). -/
def slotAt (br : Nat) (nodes : List (Nat × BitVec 256)) (pos : Nat) : Option Nat :=
  let g := guardBits br
  ((slotStarts br nodes).find? (fun s => decide (s.2 + 24 - g / 2 ≤ pos ∧ pos ≤ s.2 + 24 + g))).map (·.1)

/-! ### Downlink copies (R260, R261, R268, R270, R279) -/

/-- Key of node a of strand k in the node table (R287). -/
def nodeKey (k a : Nat) : Nat := 256 * k + a

/-- The downlink buffer of a node: every output in failsafe before phase D has built one. -/
def Strand.buffer (s : Strand) (a : Nat) (c : BitVec 256) : Downlink :=
  tget ⟨maskOf 32 [(nodeIn c, nodeOut c)], List.replicate (nodeOut c) (Config.maskedWord 0)⟩ s.downlink a

/-- Words after word 0 of a node's entry, and its IDQ: data in ACTIVE, identify in IDENTIFYING and MISMATCH; a node that
has become DISABLED or has another entry since the cycle began has none (R261, R278, R279, R288). -/
def entryWords (d : Dev) (k : Nat) (n : Nat × BitVec 256) : Option (Bool × List (BitVec 32)) :=
  let x := d.node (nodeKey k n.1)
  if x.cfg ≠ n.2 then none
  else match x.st with
    | .active =>
      let b := (d.strand k).buffer n.1 n.2
      some (false, b.fsMask :: b.values)
    | .identifying | .mismatch => some (true, [put 32 6 (fld n.2 43 2) ||| put 32 0 (fld n.2 39 4)])
    | .disabled => none

/-- Entry word 0 (R261). -/
def entryWord0 (offset : Nat) (idq : Bool) (len a : Nat) : BitVec 32 :=
  put 32 16 (BitVec.ofNat 16 offset) ||| putB 32 14 idq ||| put 32 8 (BitVec.ofNat 6 len) ||| put 32 0 (BitVec.ofNat 8 a)

/-- The body of a copy: ORIGIN, MSEQ (R260, R261, R268). -/
def copyBody (d : Dev) (k : Nat) (cy : Cycle) (origin : Bool) (mseq : BitVec 8) : List Byte :=
  let br := bitRate cy.scfg
  let all := fsAll cy.scfg
  let entries := cy.nodes.filterMap (fun n => (entryWords d k n).map (fun e => (n.1, e)))
  let words := (entries.map (fun e => 1 + e.2.2.length)).sum + (if all then 1 else 0)
  let copyEnd := 48 + 8 * (8 + 4 * words) + (if origin then dMax cy.nodes + guardBits br else 0)
  let starts := slotStarts br cy.nodes
  let paired := d.ply.role == .leading || d.ply.role == .trailing
  let header : BitVec 64 :=
    put 64 48 (BitVec.ofNat 4 k) ||| put 64 40 (BitVec.ofNat 8 (entries.length + (if all then 1 else 0))) |||
      put 64 24 (fld cy.frame 0 16) ||| put 64 16 mseq ||| putB 64 9 paired ||| putB 64 8 origin ||| put 64 4 1#4 |||
      put 64 0 1#4
  leBytes 8 header.toNat ++
    entries.flatMap (fun e =>
      leBytes 4 (entryWord0 (tget 0 starts e.1 - copyEnd) e.2.1 e.2.2.length e.1).toNat ++
        e.2.2.flatMap (fun w => leBytes 4 w.toNat)) ++
    (if all then leBytes 4 (entryWord0 0 false 0 255).toNat else [])

/-- The entries of a copy without OFFSET: the words after each header field (R284). -/
def bodyEntries : Nat → List Byte → Option (List (BitVec 16 × List Byte))
  | 0, [] => some []
  | 0, _ => none
  | n + 1, bs =>
    if bs.length < 4 then none
    else
      let w0 := leBits 32 (bs.take 4)
      let len := 4 * (fld w0 8 6).toNat
      if bs.length < 4 + len then none
      else (bodyEntries n (bs.drop (4 + len))).map (fun r => (fld w0 0 16, (bs.drop 4).take len) :: r)

/-- A valid downlink copy of a strand: its header, and its entries without OFFSET (R259, R260). -/
def copyParse (body : List Byte) : Option (BitVec 64 × List (BitVec 16 × List Byte)) :=
  if body.length < 8 then none
  else
    let h := leBits 64 (body.take 8)
    if fld h 0 4 = 1 ∧ fld h 4 4 = 1 then
      (bodyEntries (fld h 40 8).toNat (body.drop 8)).map (fun es => (h, es))
    else none

/-- Do two copies have the same FN16 and MSEQ, and entries that differ in OFFSET only (R284). -/
def copiesAgree (a b : List Byte) : Bool :=
  match copyParse a, copyParse b with
  | some x, some y => fld x.1 16 24 == fld y.1 16 24 && x.2 == y.2
  | _, _ => false

/-- Compare the copy sent with the copy heard, once both exist (R284). -/
def twinCompare (k : Nat) (d : Dev) : Dev :=
  match (d.strand k).cycle with
  | some cy =>
    match cy.sent, cy.heard with
    | some m, some h =>
      if copiesAgree m.2 h then d
      else
        let d := d.modStrand k (fun s => { s with twinDiffCnt := s.twinDiffCnt + 1 })
        reportLimited k 1 (ev 0x0618 true (256 * k) 0)
          { d with ply := { d.ply with health := { d.ply.health with differ := satAdd d.ply.health.differ 1 } } }
    | _, _ => d
  | none => d

/-- Send this module's copy in a cycle, in the leading or the trailing slot (R245, R256, R266, R269, R270). -/
def sendCopy (k : Nat) (origin : Bool) (level : Nat) (d : Dev) : Dev :=
  let s := d.strand k
  match s.cycle with
  | none => d
  | some cy =>
    if cy.sent.isSome || !d.transmits k then d
    else
      let mseq := match origin, cy.heard.bind copyParse with
        | true, some h => if fld h.1 24 16 = fld cy.frame 0 16 then fld h.1 16 8 else s.mseq + 1
        | _, _ => s.mseq + 1
      let body := copyBody d k cy origin mseq
      let frame := strandFrame body
      let br := bitRate cy.scfg
      let slot := if origin then dMax cy.nodes + guardBits br else 0
      let d := d.setStrand k { s with
        mseq := mseq, dlSentCnt := s.dlSentCnt + 1
        cycle := some { cy with sent := some (mseq, body), txEnd := bitCycles br * (slot + frame.length) } }
      twinCompare k (lineLevel k level (d.emit (.strand k frame)))

/-- A strand cycle starts at sample 0 of a frame whose number is a multiple of CYC_FR; the leading copy follows with
its level in mV (R264, R265, R269). DEDUCED: log entry 28. -/
def strandCycleStart (k level : Nat) (d : Dev) : Dev :=
  let s := d.strand k
  let br := bitRate s.cfg
  if s.cycle.isSome ∨ d.tb.sample ≠ 0 ∨ d.tb.frame.toNat % cycFr br ≠ 0 then d
  else
    let idx := d.tb.frame.toNat / cycFr br % max (roundCyc s.cfg) 1
    let nodes := ((d.schedule k).getD []).getD idx []
    let d := d.setStrand k { s with
      cycle := some ⟨d.tb.frame, d.tb.cal0, s.cfg, nodes, cycFr br, none, none, [], [], d.tb.ran, 0, d.ply.role == .trailing⟩ }
    if d.ply.role = .solo ∨ d.ply.role = .leading then sendCopy k false level d else d

/-- The trailing copy of a cycle that began with this module TRAILING, sent also by a twin promoted since; a new trailing
twin begins in its first frame (R269, R270, R524, R534). -/
def trailingCopySend (k level : Nat) (d : Dev) : Dev :=
  let open_ := match (d.strand k).cycle, d.ply.firstCopy with
    | some cy, some f => cy.trails && decide (f ≤ cy.frame)
    | some cy, none => cy.trails
    | none, _ => false
  if (d.ply.role = .trailing ∨ d.ply.role = .leading) ∧ open_ = true then sendCopy k true level d else d

/-- A copy heard in the other downlink slot, which is evidence of the twin (R259, R284, R523, R531). -/
def twinCopyReceive (k mv : Nat) (rx : LineRx) (d : Dev) : Dev :=
  let s := d.strand k
  let h := lineHears mv rx d
  let d := h.2
  match s.cycle, h.1.bind frameBody with
  | some cy, some body =>
    let leads := d.ply.role == .leading
    let joins := d.ply.role == .joining
    if !leads && !joins && d.ply.role != .trailing then d
    else match copyParse body with
    | none => d
    | some h =>
      if cy.heard.isSome ∨ bit h.1 8 != leads ∨ fld h.1 48 4 ≠ BitVec.ofNat 4 k then d
      else
        let d := { d with ply := { d.ply with heardNow := d.ply.heardNow || (d.line k).st == LineSt.on } }
        twinCompare k (d.setStrand k { s with
          twinOkCnt := if joins then s.twinOkCnt else s.twinOkCnt + 1
          noTwinRun := 0, cycle := some { cy with heard := some body } })
  | _, _ => d

/-! ### Node states (R278) -/

/-- A node event. DEDUCED: log entry 28. -/
def nodeEvent (code : Nat) (isFault : Bool) (key data : Nat) : Event := ev code isFault key data

/-- Put the result of a slot into the running cycle. -/
def slotResult (k a : Nat) (r : SlotResult) (d : Dev) : Dev :=
  d.modStrand k (fun s => { s with cycle := s.cycle.map (fun cy => { cy with results := cy.results ++ [(a, r)] }) })

/-- A slot without a valid reply, by the LOST_MISS of the running cycle's entry (R278, R281, R288). DEDUCED: log entry 26. -/
def nodeMiss (k a lost : Nat) (d : Dev) : Dev :=
  let key := nodeKey k a
  let n := d.node key
  let miss := satAdd n.miss 1
  let d := slotResult k a .miss (d.modStrand k (fun s => { s with rxMissCnt := s.rxMissCnt + 1 }))
  let reached := decide (n.miss.toNat < lost ∧ lost ≤ miss.toNat)
  if reached && (n.st == .active || n.st == .identifying) then
    report (nodeEvent 0x0611 true key 0) (d.setNode key { n with miss := miss, st := .identifying })
  else d.setNode key { n with miss := miss }

/-- An identity reply: SERIAL, TYPE_ID, NODE_FW, OUT_CNT, IN_CNT (R262, R278). -/
def identityReply (k a : Nat) (x : BitVec 128) (d : Dev) : Dev :=
  let key := nodeKey k a
  let n := d.node key
  let ok := (nodeType n.cfg == 0 || nodeType n.cfg == fld x 32 32) && (fld x 0 6).toNat == nodeIn n.cfg &&
    (fld x 8 6).toNat == nodeOut n.cfg
  let n := { n with serial := fld x 64 64, nodeFw := fld x 16 16, miss := 0 }
  let data := (fld x 32 32).toNat
  match n.st with
  | .active => report (nodeEvent 0x0613 true key 0) (slotResult k a .other (d.setNode key { n with st := .identifying }))
  | .disabled => slotResult k a .other d
  | st =>
    if ok then report (nodeEvent 0x0610 false key data) (slotResult k a .identityOk (d.setNode key { n with st := .active }))
    else if st = .identifying then
      report (nodeEvent 0x0612 true key (data + 2 ^ 32 * (fld x 0 6).toNat + 2 ^ 40 * (fld x 8 6).toNat))
        (slotResult k a .mismatch (d.setNode key { n with st := .mismatch }))
    else slotResult k a .other (d.setNode key n)

/-- A data reply: the input values and STATUS; of a node that is not ACTIVE the status alone counts (R262, R278, R282). -/
def dataReply (k a : Nat) (watchdog : Bool) (values : List (BitVec 32)) (status : W64) (d : Dev) : Dev :=
  let key := nodeKey k a
  let n := d.node key
  let d := d.setNode key { n with miss := 0 }
  if n.st = .active then
    let d := slotResult k a (.data values status) d
    if watchdog then report (nodeEvent 0x0614 true key 0) d else d
  else if n.st = .disabled then slotResult k a .other d
  else slotResult k a (.status status) d

/-- A strand frame in the reply part of a cycle, its start delimiter complete at a bit period from sample 0 of the
cycle (R259, R262, R268). DEDUCED: log entry 26. -/
def strandReplyReceive (k pos mv : Nat) (rx : LineRx) (d : Dev) : Dev :=
  let heard := lineHears mv rx d
  let d := heard.2
  match (d.strand k).cycle, heard.1 with
  | some cy, some syms =>
    match slotAt (bitRate cy.scfg) cy.nodes pos with
    | none => d
    | some a =>
      let cfg := tget 0 cy.nodes a
      let n := d.node (nodeKey k a)
      if cy.results.any (fun r => r.1 == a) ∨ n.cfg ≠ cfg then d
      else
        let bad := d.modStrand k (fun s => { s with rxBadCnt := s.rxBadCnt + 1 })
        match frameBody syms with
        | none => bad
        | some body =>
          let h := leBits 32 (body.take 4)
          let idr := bit h 26
          if body.length < 4 ∨ fld h 0 4 ≠ 2 ∨ fld h 4 4 ≠ 1 ∨
              body.length ≠ (if idr then 20 else 4 + 4 * nodeIn cfg + 8) then bad
          else if (fld h 8 8).toNat ≠ a then
            reportLimited k 1 (nodeEvent 0x0616 true (nodeKey k a) (fld h 8 8).toNat)
              (d.modStrand k (fun s => { s with rxAddrCnt := s.rxAddrCnt + 1 }))
          else
            let d := d.setNode (nodeKey k a) { n with lSeen := bit h 24, tSeen := bit h 25 }
            let d := d.modStrand k (fun s => { s with
              cycle := s.cycle.map (fun cy => { cy with oks := cy.oks ++ [(bit h 24, bit h 25)] }) })
            if idr then identityReply k a (leBits 128 (body.drop 4)) d
            else dataReply k a (fld h 28 3 == 3)
              ((chunks 4 32 ((body.drop 4).take (4 * nodeIn cfg))).map (leBits 32))
              (leBits 64 (body.drop (4 + 4 * nodeIn cfg))) d
  | _, _ => d

/-- A reply slot passes without a valid reply (R268, R278). DEDUCED: log entry 26. -/
def replySlotMiss (k a : Nat) (d : Dev) : Dev :=
  match (d.strand k).cycle with
  | none => d
  | some cy =>
    if cy.nodes.any (fun n => n.1 == a && n.2 == (d.node (nodeKey k a)).cfg) && !cy.results.any (fun r => r.1 == a) then
      nodeMiss k a (lostMiss cy.scfg) d
    else d

/-- What the ply unit takes from a finished cycle: copies and reply bits (R284, R523, R540, R542, R544). -/
def Ply.cycle (p : Ply) (k : Nat) (on : Bool) (cy : Cycle) : Ply :=
  let leads := p.role == .leading
  let pairs := leads || p.role == .trailing
  let alone := pairs && cy.heard.isNone
  let only := cy.oks.filter (fun o => if leads then !o.1 && o.2 else o.1 && !o.2)
  let all := on && !cy.oks.isEmpty && only.length == cy.oks.length
  let run := fun (t : Tbl Nat) (b : Bool) => tset 0 t k (if b then tget 0 t k + 1 else 0)
  let suspect := p.role == .trailing && all
  { p with
    copyOk := tset false p.copyOk k cy.heard.isSome
    selfRun := run p.selfRun (leads && all)
    suspectRun := run p.suspectRun suspect
    suspectTold := tset false p.suspectTold k (tget false p.suspectTold k && suspect)
    lossCyc := if cycFr (bitRate cy.scfg) ≤ p.lossRun then tset 0 p.lossCyc k (tget 0 p.lossCyc k + 1) else p.lossCyc
    health := { p.health with
      noCopy := if alone && on then satAdd p.health.noCopy 1 else p.health.noCopy
      onlyTwin := if pairs then satAdd p.health.onlyTwin only.length else p.health.onlyTwin } }

/-- The cycle of a strand ends: slots that stand open are misses, the twin's copy is judged (R268, R284, R540). -/
def cycleEnd (k : Nat) (d : Dev) : Dev :=
  match (d.strand k).cycle with
  | none => d
  | some cy0 =>
    let d := cy0.nodes.foldl (fun d n => replySlotMiss k n.1 d) d
    let cy := (d.strand k).cycle.getD cy0
    let alone := (d.ply.role == .leading || d.ply.role == .trailing) && cy.heard.isNone
    let s := d.strand k
    let run := if alone then s.noTwinRun + 1 else 0
    let d := d.setStrand k { s with
      twinMissCnt := if alone then s.twinMissCnt + 1 else s.twinMissCnt
      noTwinRun := if run = 8 then 0 else run
      done := s.cycle
      cycle := none }
    let d := { d with ply := d.ply.cycle k ((d.line k).st == LineSt.on) cy }
    let d := if run = 8 then report (ev 0x0617 true (256 * k) 0) d else d
    if d.ply.yieldCyc ≠ 0 ∧ d.ply.yieldCyc.toNat ≤ tget 0 d.ply.suspectRun k ∧ tget false d.ply.suspectTold k = false then
      report (ev 0x0E0F true k 0) (d.modPly (fun p => { p with suspectTold := tset false p.suspectTold k true }))
    else d

/-- One frame of every running cycle; the strands whose cycle ends with it (R265). -/
def cyclesFrame (d : Dev) : Dev :=
  (List.range 16).foldl (fun d k =>
    match (d.strand k).cycle with
    | none => d
    | some cy =>
      if cy.left ≤ 1 then cycleEnd k d
      else d.modStrand k (fun s => { s with cycle := some { cy with left := cy.left - 1 } })) d

/-! ### Commit in phase A (R280 to R282) -/

/-- Quality of an input by its status (R281). -/
def inputQuality (s : Nat) : BitVec 2 × BitVec 8 :=
  match s with
  | 0 => (0, 0x00)
  | 1 => (1, 0x03)
  | 2 => (1, 0x04)
  | _ => (2, 0x80)

/-- Status of node point i. -/
def pointStatus (status : W64) (i : Nat) : Nat := (fld status (2 * i) 2).toNat

/-- The mask of node points with a status. -/
def statusMask (status : W64) (code : Nat) : BitVec 32 :=
  (List.range 32).foldl (fun m i => m ||| putB 32 i (pointStatus status i == code)) 0

/-- SRC_INDEX of a node point (R62). -/
def nodeSource (key i : Nat) : Nat := 2 ^ 13 * (key / 256) + 2 ^ 5 * (key % 256) + i

/-- Hold a node's inputs under a quality; with `keep`, INITIAL stays INITIAL (R278, R281). -/
def holdInputs (key : Nat) (c : BitVec 256) (q : BitVec 2) (det : BitVec 8) (keep : Bool) (cal : W64) (d : Dev) : Dev :=
  (List.range (nodeIn c)).foldl (fun d i =>
    let p := nodeInBase c + i
    if keep && (d.point p).quality == 3 then d else produceQAs 1 (nodeSource key i) p q det cal d) d

/-- The saturation bits and the fault mask of the last data reply (R282). -/
def statusCommit (key : Nat) (status : W64) (d : Dev) : Dev :=
  let n := d.node key
  let f := statusMask status 3
  let d := d.setNode key { n with sat := statusMask status 1, fault3 := f }
  if f ≠ n.fault3 then report (nodeEvent 0x0615 true key f.toNat) d else d

/-- Commit one slot (R278, R280 to R282). -/
def commitSlot (k : Nat) (cy : Cycle) (r : Nat × SlotResult) (d : Dev) : Dev :=
  let key := nodeKey k r.1
  let n := d.node key
  let c := tget 0 cy.nodes r.1
  if n.cfg ≠ c then d
  else match r.2 with
  | .data values status =>
    let d := ((List.range (nodeIn c)).zip values).foldl (fun d iv =>
      let q := inputQuality (pointStatus status iv.1)
      produceAs 1 (nodeSource key iv.1) (nodeInBase c + iv.1) (iv.2.setWidth 64) q.1 q.2 cy.cal d) d
    statusCommit key status d
  | .status status => statusCommit key status d
  | .mismatch => holdInputs key c 2 0x81 false cy.cal d
  | .miss =>
    if n.st = .mismatch then d
    else if lostMiss cy.scfg ≤ n.miss.toNat then holdInputs key c 2 0x08 true cy.cal d
    else if lateMiss cy.scfg ≤ n.miss.toNat then holdInputs key c 1 0x07 true cy.cal d
    else d
  | _ => d

/-- Is the output of a point saturated at its node (R282). -/
def Dev.nodeSaturated (d : Dev) (p : Nat) : Bool :=
  d.nodes.any (fun n => nodeEn n.2.cfg && decide (nodeOutBase n.2.cfg ≤ p ∧ p < nodeOutBase n.2.cfg + nodeOut n.2.cfg) &&
    bit n.2.sat (nodeIn n.2.cfg + (p - nodeOutBase n.2.cfg)))

/-! ### Downlink buffers in phase D (R96, R279) -/

/-- The buffer of a node; the word of an output under FS_MASK is open (DESIGN CHOICE: log entry 8). -/
def downlinkOf (d : Dev) (c : BitVec 256) : Downlink :=
  let outs := (List.range (nodeOut c)).map (fun j => (j, d.point (nodeOutBase c + j)))
  ⟨outs.foldl (fun m o => m ||| putB 32 (nodeIn c + o.1) (decide (2 ≤ o.2.quality.toNat))) 0, outs.map (fun o =>
    let v := fld o.2.value 0 32
    if 2 ≤ o.2.quality.toNat then Config.maskedWord v else v)⟩

/-- Build the downlink buffers of a strand. -/
def strandDownlink (k : Nat) (d : Dev) : Dev :=
  let bufs := (d.enabledNodes k).map (fun n => (n.1, downlinkOf d n.2))
  d.modStrand k (fun s => { s with downlink := bufs })

/-! ### Configuration (R236, R278, R288) -/

/-- Is 5 ms × 2^WD greater than two rounds (R288). -/
def wdOk (strandCfg : BitVec 512) (c : BitVec 256) : Bool :=
  decide (2 * roundCyc strandCfg * cycFr (bitRate strandCfg) < 5 * 2 ^ nodeWd c)

/-- May a strand entry take these RW fields (R236, R288). -/
def strandEntryOk (k : Nat) (c : BitVec 512) (d : Dev) : Bool :=
  let old := (d.strand k).cfg
  let changed := bitRate c != bitRate old || roundCyc c != roundCyc old
  bitRate c != 3 && (bitRate c == bitRate old || (d.line k).st == .off) &&
    decide (1 ≤ roundCyc c ∧ roundCyc c ≤ 1000 ∧ 1 ≤ lateMiss c ∧ lateMiss c ≤ lostMiss c) &&
    (!changed || (d.enabledNodes k).all (fun n => wdOk c n.2))

/-- Write a strand entry (R286). -/
def strandEntryWrite (k : Nat) (c : BitVec 512) (d : Dev) : Dev :=
  d.modStrand k (fun s => { s with cfg := c &&& strandMask, configured := true })

/-- The input and output points of a node entry. -/
def nodeInputs (c : BitVec 256) : List Nat := (List.range (nodeIn c)).map (fun i => nodeInBase c + i)
def nodeOutputs (c : BitVec 256) : List Nat := (List.range (nodeOut c)).map (fun i => nodeOutBase c + i)

/-- May a node entry take these RW fields (R63, R288). DEDUCED: log entry 57. -/
def nodeEntryOk (key : Nat) (c : BitVec 256) (d : Dev) : Bool :=
  let old := (d.node key).cfg
  let stays := nodeEn old && nodeEn c
  let n := nodeIn c + nodeOut c
  (!stays || (c &&& nodeMask) == old) && decide (1 ≤ n ∧ n ≤ 32 ∧ nodeWd c ≤ 11) && nodeFsMode c != 3 &&
    (nodeInputs c ++ nodeOutputs c).all (fun p =>
      decide (p < 131072) && (d.point p).ptype != 0 && (d.point p).ptype != 6) &&
    (!nodeEn c || stays || (nodeInputs c).all d.canProduce) &&
    (!nodeEn c || wdOk (d.strand (key / 256)).cfg c)

/-- EN of a node goes to 0 (R64, R278). -/
def nodeDisable (key : Nat) (d : Dev) : Dev :=
  let n := d.node key
  let d := (List.range (nodeIn n.cfg)).foldl (fun d i => releaseAs 1 (nodeSource key i) (nodeInBase n.cfg + i) d) d
  d.setNode key { n with cfg := n.cfg &&& ~~~(putB 256 38 true), st := .disabled }

/-- Write a node entry; EN from 0 to 1 begins polling, from 1 to 0 ends it (R278, R288). -/
def nodeEntryWrite (key : Nat) (c : BitVec 256) (d : Dev) : Dev :=
  let old := d.node key
  let c := c &&& nodeMask
  if nodeEn old.cfg then
    if nodeEn c then d
    else
      let d := nodeDisable key d
      d.setNode key { d.node key with cfg := c }
  else if nodeEn c then
    let d := d.setNode key { old with cfg := c, st := .identifying, miss := 0 }
    ((List.range (nodeIn c))).foldl (fun d i => claimPoint 1 (nodeSource key i) (nodeInBase c + i) d) d
  else d.setNode key { old with cfg := c }

/-- Uncorrectable error in a node table entry (R283). -/
def nodeMemory (key : Nat) (d : Dev) : Dev :=
  let d := if nodeEn (d.node key).cfg then nodeDisable key d else d
  report (nodeEvent 0x0619 true key 0) (countUncorr d)

/-- Phase A and D costs of a strand (R289). -/
def Dev.strandCostA (d : Dev) (k : Nat) : Nat :=
  match d.schedule k with
  | none => 0
  | some cs => if cs.isEmpty then 0
    else 40 + maxList (cs.map (fun c => 6 * c.length + 3 * (c.map (fun n => nodeIn n.2)).sum))
def Dev.strandCostD (d : Dev) (k : Nat) : Nat :=
  match d.schedule k with
  | none => 0
  | some cs => if cs.isEmpty then 0
    else 40 + maxList (cs.map (fun c => 4 * c.length + 3 * (c.map (fun n => nodeOut n.2)).sum))

end Sys2Proof.Machine
end

