-- ==== Sys2Proof/Machine/Loops.lean ====
section
/-!
DEFINITION. The loop engine in the frame (R333 to R361): latching, execution, commit, and writes of loop records.
-/
namespace Sys2Proof.Machine

/-! ### The record (R337) -/

/-- Is a slot in the fast pipeline. -/
def isFast (j : Nat) : Bool := decide (2048 ≤ j)

def Loop.outPt (l : Loop) : Nat := l.uf 333 17

/-- Does the source word of a point name a loop slot (R62). -/
def Dev.loopOwns (d : Dev) (j p : Nat) : Bool := (d.point p).srcKind == 3 && (d.point p).srcIndex == BitVec.ofNat 28 j

/-- Points whose source word names a loop slot. -/
def Dev.loopPoints (d : Dev) (j : Nat) : List Nat :=
  (d.ps.points.filter (fun p => p.2.srcKind == 3 && p.2.srcIndex == BitVec.ofNat 28 j)).map (·.1)

/-- RW fields of the loop record. -/
def loopMask : BitVec 1024 := maskOf 1024 [(220, 516)]

/-- Fields that a write may change while EN = 1 (R353): MODE, MAN_OUT, SP_LOCAL, PRESET, KP, KI, KD, KF, SH_P, SH_I,
SH_D, OUT_HI, OUT_LO, OUT_RATE, FE_LIMIT, FE_TIME, FE_ACTION; and EN. -/
def loopTune : BitVec 1024 :=
  maskOf 1024 [(225, 2), (672, 32), (640, 32), (704, 32), (512, 32), (480, 32), (448, 32), (432, 16), (252, 5), (247, 5),
    (242, 5), (608, 32), (576, 32), (544, 32), (400, 32), (384, 16), (229, 2), (220, 1)]

/-- KP, KI, SH_P, SH_I (R353). -/
def loopRetune : BitVec 1024 := maskOf 1024 [(512, 32), (480, 32), (252, 5), (247, 5)]

/-- LSTATE codes (R337). -/
def LoopSt.code : LoopSt → BitVec 3
  | .disabled => 0
  | .init => 1
  | .auto => 2
  | .manual => 3
  | .hold => 4
  | .faulted => 5

/-- Image of a loop record (R337). -/
def Loop.image (l : Loop) : BitVec 1024 :=
  put 1024 960 l.integ ||| put 1024 928 l.outLast ||| put 1024 896 l.pvPrev ||| put 1024 864 l.dfilt |||
    put 1024 832 l.spUsed ||| put 1024 816 l.feTmr ||| put 1024 808 l.skipConsec ||| put 1024 805 l.st.code |||
    putB 1024 804 l.awHi ||| putB 1024 803 l.awLo ||| putB 1024 802 l.extSat ||| putB 1024 801 l.feActive |||
    putB 1024 800 l.tracking ||| put 1024 792 l.lastFault ||| put 1024 736 l.execCnt ||| (l.cfg &&& loopMask)

/-! ### Inputs (R335, R343) -/

/-- A point as a loop reads it. -/
def Dev.loopVal (d : Dev) (p : Nat) : LoopVal :=
  let x := d.point p
  ⟨fld x.value 0 32, x.quality, x.detail⟩

/-- Latch the inputs of a loop. -/
def loopLatch (j : Nat) (d : Dev) : Dev :=
  let l := d.loop j
  let pv := if l.uf 240 2 = 1 then
      let c := d.cloop (l.uf 367 17)
      (⟨satInt 32 c.conv, if c.en then 0 else 3, if c.en then 0 else 1⟩ : LoopVal)
    else d.loopVal (l.uf 367 17)
  let sat := match l.satKind with
    | 1 => d.clFlag (l.uf 265 17)
    | 2 => d.nodeSaturated l.outPt
    | _ => false
  d.setLoop j { l with snap :=
    ⟨pv, d.loopVal (l.uf 350 17), d.loopVal (l.uf 316 17), d.loopVal (l.uf 299 17), d.loopVal (l.uf 282 17), sat⟩ }

/-- Enabled loops of one pipeline in ascending slot order. DEDUCED: log entry 21. -/
def Dev.enabledLoops (d : Dev) (fast : Bool) : List Nat :=
  (d.lp.loops.filter (fun l => l.2.en && isFast l.1 == fast)).map (·.1)

/-! ### Reports (R361) -/

/-- Is a loop code a fault (R361). -/
def loopCodeFault (code : Nat) : Bool :=
  code == 0x0802 || code == 0x0804 || code == 0x0806 || code == 0x0807 || code == 0x0808 || code == 0x080A

/-- Report one event of a loop, with the counters it moves (R354, R355, R359). -/
def loopReport (j : Nat) (e : LoopEv) (d : Dev) : Dev :=
  let d := { d with lp := { d.lp with
    skipCnt := if e.code = 0x0808 then satAdd d.lp.skipCnt 1 else d.lp.skipCnt
    feCnt := if e.code = 0x0804 then satAdd d.lp.feCnt 1 else d.lp.feCnt
    firstFault := if e.code = 0x0807 ∧ !bit d.lp.firstFault 31 then putB 32 31 true ||| BitVec.ofNat 32 j
      else d.lp.firstFault } }
  let x := ev e.code (loopCodeFault e.code) j e.data
  if e.limited then reportLimited j 1 x d else report x d

/-- Store a loop and report its events. -/
def loopPut (j : Nat) (r : Loop × List LoopEv) (d : Dev) : Dev :=
  r.2.foldl (fun d e => loopReport j e d) (d.setLoop j r.1)

/-! ### Executions -/

/-- One execution of a loop (R340). -/
def loopRun (j : Nat) (cal : W64) (d : Dev) : Dev :=
  let l := d.loop j
  let x : LoopIn := ⟨l.snap, d.loop (l.uf 350 17), d.loop (l.uf 265 17), d.loopVal l.outPt⟩
  loopPut j (loopExec l x cal) d

/-- One skipped execution (R355). -/
def loopMiss (j : Nat) (cal : W64) (d : Dev) : Dev :=
  let l := d.loop j
  loopPut j (loopSkip l l.snap.pv cal) d

/-- Deliver a loop's output to its point, and to a driven channel; a loop that has delivered no output yet is an INITIAL
source of the channel (R96, R333, R334, R345, R415). DEDUCED: log entry 17. -/
def loopCommit (j : Nat) (d : Dev) : Dev :=
  let l := d.loop j
  let drive (v : Int) (q : BitVec 2) (d : Dev) : Dev :=
    match (if isFast j then l.drives else none) with
    | some ch => clSetpoint ch v q d
    | none => d
  match l.out with
  | none => if l.st = .init then drive 0 3 d else d
  | some o =>
    let d := d.setLoop j { l with out := none }
    let d := if d.loopOwns j l.outPt then produce l.outPt (o.v.setWidth 64) o.q o.d o.cal d else d
    drive o.v.toInt o.q d

/-- Phase C: the first `n` enabled frame-rate loops execute; the others wait for the strobe (R333, R355). -/
def loopsPhaseC (n : Option Nat) (d : Dev) : Dev :=
  let js := d.enabledLoops false
  let run := match n with
    | some n => js.take n
    | none => js
  let rest := match n with
    | some n => js.drop n
    | none => []
  let d := run.foldl (fun d j => loopRun j d.tb.cal0 d) d
  { d with lp := { d.lp with cutAt := rest.head? } }

/-- The strobe of phase C: the loops that did not execute are skipped (R355). -/
def loopsStrobe (d : Dev) : Dev :=
  match d.lp.cutAt with
  | none => d
  | some c =>
    let js := (d.enabledLoops false).filter (fun j => decide (c ≤ j))
    let d := js.foldl (fun d j => loopMiss j d.tb.cal0 d) d
    { d with lp := { d.lp with cutAt := none } }

/-- The fast pipeline latches at a sample boundary (R334). DEDUCED: log entry 21. -/
def fastLatch (d : Dev) : Dev :=
  let js := d.enabledLoops true
  let d := js.foldl (fun d j => loopLatch j d) d
  { d with lp := { d.lp with fastDue := some (d.cal, js) } }

/-- Cycle 1,250: of the fast loops latched in this sample the first `n` have completed and the others are skipped; every
output is written (R334, R355). -/
def fastWrite (n : Option Nat) (d : Dev) : Dev :=
  match d.lp.fastDue with
  | none => d
  | some (cal, latched) =>
    let js := (d.enabledLoops true).filter (fun j => latched.contains j)
    let k := n.getD js.length
    let late := js.drop k
    let d := (js.take k).foldl (fun d j => loopRun j cal d) d
    let d := late.foldl (fun d j => loopMiss j cal d) d
    let d := match late.head? with
      | none => d
      | some j => reportLimited 0 1 (ev 0x080A true j late.length) d
    let d := js.foldl (fun d j => loopCommit j d) d
    { d with lp := { d.lp with fastDue := none } }

/-- The following-error timer of a loop stands at FE_TIME or beyond it and no reaction has followed, as after a write
that lowers FE_TIME, and it is in AUTO without tracking: the reaction; an execution in which the timer reaches FE_TIME
reacts itself (R348, R354). DEDUCED: log entry 100. -/
def loopFollowing (j : Nat) (d : Dev) : Dev :=
  let l := d.loop j
  if l.st = .auto ∧ l.tracking = false ∧ l.feTime ≠ 0 ∧ l.feTime ≤ l.feTmr.toNat ∧ l.feActive = false then
    loopPut j (loopFeReact l l.pvPrev.toInt) d
  else d

/-! ### Writes (R338, R339, R348, R351, R353) -/

/-- Does a node table entry with EN = 1 output a point (R338). -/
def Dev.nodeOutput (d : Dev) (p : Nat) : Bool :=
  d.nodes.any (fun n => nodeEn n.2.cfg && decide (nodeOutBase n.2.cfg ≤ p ∧ p < nodeOutBase n.2.cfg + nodeOut n.2.cfg))

/-- Points that a loop names with a numeric type (R338). -/
def loopNamed (l : Loop) : List Nat :=
  [l.outPt] ++ (if l.uf 240 2 = 0 then [l.uf 367 17] else []) ++ (if l.uf 238 2 = 1 then [l.uf 350 17] else []) ++
    (if l.bf 237 then [l.uf 316 17] else []) ++ (if l.bf 236 then [l.uf 282 17] else [])

/-- Is a slot in the pipeline of slot j. -/
def samePipe (j s : Nat) : Bool := decide (s < 2112) && isFast j == isFast s

/-- Fields that the configured kinds do not use are 0 (R338). DEDUCED: log entry 57. -/
def loopUnused (l : Loop) : Bool :=
  (l.uf 238 2 != 0 || l.uf 350 17 == 0) && (l.bf 237 || l.uf 316 17 == 0) &&
    (l.bf 236 || (l.uf 299 17 == 0 && l.uf 282 17 == 0)) &&
    (l.uf 238 2 == 0 || l.uf 640 32 == 0) && (l.satKind == 1 || l.satKind == 3 || l.uf 265 17 == 0) && (l.satKind != 0 || l.satDir == 0) &&
    (l.bf 224 || l.uf 221 3 == 0)

/-- Is it the write of EN = 0 by which the host leaves FAULTED after a memory error: the indexes stand at 0 and name no
point (R356). DEDUCED: log entry 101. -/
def loopLeaves (old l : Loop) : Bool := old.st == .faulted && old.lastFault == 3 && !l.en

/-- May a loop record take these RW fields (R63, R338, R353, R356). DEDUCED: log entry 57. -/
def loopEntryOk (j : Nat) (cfg : BitVec 1024) (d : Dev) : Bool :=
  let old := d.loop j
  let cfg := cfg &&& loopMask
  let l := { old with cfg := cfg }
  let fast := isFast j
  let num (t : BitVec 3) : Bool := t == 2 || t == 5
  let sat1 := l.uf 265 17
  let ch := l.uf 221 3
  let others := d.lp.loops.filter (fun x => x.1 != j && isFast x.1 && x.2.en)
  decide (l.uf 240 2 < 2 ∧ l.uf 238 2 ≠ 3 ∧ l.satKind < 4 ∧ l.satDir ≠ 3 ∧ l.feAction ≠ 3 ∧ l.mode < 2 ∧
    l.outLo ≤ l.outHi) &&
    (fast || (l.uf 240 2 != 1 && !l.bf 224 && !(l.satKind == 1 && d.fastDriven sat1))) &&
    !(fast && l.satKind == 2) &&
    (l.uf 240 2 != 1 || decide (l.uf 367 17 ≤ 7)) && (l.satKind != 1 || decide (sat1 ≤ 7)) &&
    (l.uf 238 2 != 2 || (samePipe j (l.uf 350 17) && l.uf 350 17 != j)) && (l.satKind != 3 || samePipe j sat1) &&
    (loopLeaves old l || (loopNamed l).all (fun p => num (d.point p).ptype)) && (!l.bf 236 || (d.point (l.uf 299 17)).ptype == 1) &&
    (!l.en || old.en || d.canProduce l.outPt) &&
    !(l.satKind == 2 && !d.nodeOutput l.outPt) &&
    (!l.bf 224 || ((d.cloop ch).role == 2 && !others.any (fun x => x.2.drives == some ch))) &&
    loopUnused l && (!old.en || ((cfg ^^^ old.cfg) &&& ~~~loopTune) == 0)

/-- The effect of a change of MODE on an enabled loop (R348, R351). -/
def loopModeWritten (old l : Loop) : Loop :=
  if old.mode = 1 ∧ l.mode = 0 then
    let l := if l.manOut = old.manOut then l.setCfg 672 32 old.outLast else l
    if l.st = .auto ∨ l.st = .hold then { l with st := .manual, holdCnt := 0, feTmr := 0 } else l
  else if old.mode = 0 ∧ l.mode = 1 ∧ l.st = .manual then { l with st := .auto, backCalc := true }
  else l

/-- Write a loop record (R339, R348, R351, R353). -/
def loopEntryWrite (j : Nat) (cfg : BitVec 1024) (d : Dev) : Dev :=
  let old := d.loop j
  let cfg := cfg &&& loopMask
  if bit cfg 220 then
    if old.en then
      let l := { old with cfg := cfg, backCalc := old.backCalc || ((cfg ^^^ old.cfg) &&& loopRetune) != 0 }
      d.setLoop j (loopModeWritten old l)
    else claimPoint 3 j { Loop.reset with cfg := cfg }.outPt (d.setLoop j { Loop.reset with cfg := cfg, st := .init })
  else
    let d := (d.loopPoints j).foldl (fun d p => releasePoint p d) d
    d.setLoop j { Loop.reset with cfg := cfg }

/-- Uncorrectable error in a loop record: every RW field but EN is reset; the loop stays BAD with OUT_LAST, at its
point and at the channel that it drove (R96, R348, R356). DEDUCED: log entry 101. -/
def loopMemory (j : Nat) (d : Dev) : Dev :=
  let l := d.loop j
  if l.st = .disabled then (countUncorr d).setLoop j { l with cfg := loopCfgReset }
  else
    let d := (d.loopPoints j).foldl (fun d p => produceQ p 2 0x0E d.cal d) (countUncorr d)
    let ch := if isFast j then l.drives else none
    let d := match ch with
      | some c => clSetpoint c l.outLast.toInt 2 d
      | none => d
    let d := d.setLoop j { l with
      cfg := loopCfgReset ||| putB 1024 220 true
      st := .faulted, lastFault := 3, out := none, lostCl := ch }
    loopReport j ⟨0x0807, 3, false⟩ (loopReport j ⟨0x0806, 0, false⟩ d)

/-! ### Registers and costs (R357, R359, R360) -/

/-- LOOP_COUNT. -/
def Dev.loopCount (d : Dev) : Reg :=
  let n (p : Nat × Loop → Bool) : Nat := (d.lp.loops.filter p).length
  put 32 20 (BitVec.ofNat 12 (n (fun l => l.2.st == .faulted))) |||
    put 32 12 (BitVec.ofNat 7 (n (fun l => l.2.en && isFast l.1))) |||
    put 32 0 (BitVec.ofNat 12 (n (fun l => l.2.en && !isFast l.1)))

/-- LOOP_FAULT_GRP_LO (false) or LOOP_FAULT_GRP_HI (true). -/
def Dev.loopFaultGroups (d : Dev) (hi : Bool) : Reg :=
  d.lp.loops.foldl (fun r l =>
    if l.2.st = .faulted then
      (if hi then (if isFast l.1 then r ||| 1 else r) else if isFast l.1 then r else r ||| putB 32 (l.1 / 64) true)
    else r) 0

/-- Enabled frame-rate loops. -/
def Dev.frLoops (d : Dev) : Nat := (d.enabledLoops false).length

end Sys2Proof.Machine
end

