-- ==== Sys2Proof/Machine/Crypto.lean ====
section
/-!
DEFINITION. The cryptographic engines (R177, R569 to R580, R588): AES-256-GCM by FIPS 197 and SP 800-38D, SHA-256 by
FIPS 180, HMAC, the counter-mode KDF of SP 800-108, and ECDSA over P-256 by FIPS 186.
-/
namespace Sys2Proof.Machine

/-! ### AES-256 -/

/-- Product in GF(2^8) with the AES polynomial. -/
def gf8Mul (a b : Nat) : Nat :=
  ((List.range 8).foldl (fun (s : Nat × Nat) i =>
    let acc := if (b >>> i) % 2 = 1 then s.1 ^^^ s.2 else s.1
    let x := 2 * s.2
    (acc, if 256 ≤ x then (x ^^^ 0x11B) % 256 else x)) (0, a)).1

/-- Power of an element of GF(2^8). -/
def gf8Pow (a : Nat) : Nat → Nat
  | 0 => 1
  | n + 1 => gf8Mul a (gf8Pow a n)

/-- Rotate an 8-bit value left. -/
def rotl8 (x k : Nat) : Nat := ((x <<< k) ||| (x >>> (8 - k))) % 256

/-- The AES S-box: inverse, then the affine map. -/
def aesSbox (x : Nat) : Nat :=
  let i := gf8Pow x 254
  i ^^^ rotl8 i 1 ^^^ rotl8 i 2 ^^^ rotl8 i 3 ^^^ rotl8 i 4 ^^^ 0x63

/-- Exclusive or of two lists. -/
def xorList (a b : List Nat) : List Nat := List.zipWith (· ^^^ ·) a b

/-- Key words 8 to 59 from the eight before them (newest first). -/
def aesExpand : Nat → Nat → Nat → List (List Nat) → List (List Nat)
  | 0, _, _, ws => ws
  | fuel + 1, i, rcon, ws =>
    let prev := ws.headD []
    let t :=
      if i % 8 = 0 then
        match prev.map aesSbox with
        | [a, b, c, d] => [b ^^^ rcon, c, d, a]
        | l => l
      else if i % 8 = 4 then prev.map aesSbox
      else prev
    let w := xorList (ws.getD 7 []) t
    aesExpand fuel (i + 1) (if i % 8 = 0 then gf8Mul rcon 2 else rcon) (w :: ws)

/-- The 15 round keys of a 32-byte key, 16 values each. -/
def aesKeys (key : List Nat) : List (List Nat) :=
  let w := (chunks 4 8 key).reverse
  (chunks 4 15 (aesExpand 52 8 1 w).reverse).map (fun r => r.flatten)

/-- ShiftRows on a column-major state. -/
def aesShift (s : List Nat) : List Nat :=
  (List.range 16).map (fun i => s.getD ((i + 4 * (i % 4)) % 16) 0)

/-- MixColumns. -/
def aesMix (s : List Nat) : List Nat :=
  ((chunks 4 4 s).map (fun c =>
    match c with
    | [a, b, c, d] =>
      [gf8Mul a 2 ^^^ gf8Mul b 3 ^^^ c ^^^ d, a ^^^ gf8Mul b 2 ^^^ gf8Mul c 3 ^^^ d,
       a ^^^ b ^^^ gf8Mul c 2 ^^^ gf8Mul d 3, gf8Mul a 3 ^^^ b ^^^ c ^^^ gf8Mul d 2]
    | l => l)).flatten

/-- Rounds 1 to 14 on a state. -/
def aesRounds : List (List Nat) → List Nat → List Nat
  | [], s => s
  | [k], s => xorList (aesShift (s.map aesSbox)) k
  | k :: ks, s => aesRounds ks (xorList (aesMix (aesShift (s.map aesSbox))) k)

/-- AES-256 of one block under round keys. -/
def aesBlock (ks : List (List Nat)) (b : List Nat) : List Nat :=
  aesRounds (ks.drop 1) (xorList b (ks.headD []))

/-! ### GCM -/

/-- Bytes as numbers. -/
def byteNats (bs : List Byte) : List Nat := bs.map BitVec.toNat

/-- Numbers as bytes. -/
def natBytes (ns : List Nat) : List Byte := ns.map (BitVec.ofNat 8)

/-- Product in GF(2^128) of GCM: the first bit of a block is its most significant. -/
def ghashMul (x y : Nat) : Nat :=
  ((List.range 128).foldl (fun (s : Nat × Nat) i =>
    let z := if (x >>> (127 - i)) % 2 = 1 then s.1 ^^^ s.2 else s.1
    let v := if s.2 % 2 = 1 then (s.2 / 2) ^^^ (0xE1 <<< 120) else s.2 / 2
    (z, v)) (0, y)).1

/-- Bytes padded with zeros to whole blocks. -/
def padBlock (bs : List Byte) : List Byte := bs ++ List.replicate ((16 - bs.length % 16) % 16) 0#8

/-- GHASH over whole blocks. -/
def ghash (h : Nat) (bs : List Byte) : Nat :=
  (chunks 16 (bs.length / 16 + 1) bs).foldl (fun a b => ghashMul (a ^^^ beNat b) h) 0

/-- The 32 bytes of a key register, most significant first. -/
def keyBytes (k : BitVec 256) : List Byte := beBytes 32 k.toNat

/-- The GCM tag over additional data and ciphertext. -/
def gcmTag (ks : List (List Nat)) (iv aad ct : List Byte) : List Byte :=
  let h := beNat (natBytes (aesBlock ks (List.replicate 16 0)))
  let s := ghash h (padBlock aad ++ padBlock ct ++ beBytes 8 (8 * aad.length) ++ beBytes 8 (8 * ct.length))
  let e := beNat (natBytes (aesBlock ks (byteNats (iv ++ [0, 0, 0, 1]))))
  beBytes 16 (s ^^^ e)

/-- GMAC: the tag with an empty plaintext (R103, R177, R179). DEDUCED: log entry 74. -/
def gmac (key : BitVec 256) (iv aad : List Byte) : List Byte := gcmTag (aesKeys (byteNats (keyBytes key))) iv aad []

/-- Does a container body's GCM tag verify (R588, R589 check 9). DEDUCED: log entry 74. -/
def gcmVerify (key : BitVec 256) (iv aad ct tag : List Byte) : Bool :=
  gcmTag (aesKeys (byteNats (keyBytes key))) iv aad ct == tag

/-- The plaintext of a ciphertext (R588). -/
def gcmDecrypt (key : BitVec 256) (iv ct : List Byte) : List Byte :=
  let ks := aesKeys (byteNats (keyBytes key))
  let blocks := chunks 16 (ct.length / 16 + 1) ct
  (blocks.zipIdx.map (fun b =>
    List.zipWith (· ^^^ ·) b.1 (natBytes (aesBlock ks (byteNats (iv ++ beBytes 4 (b.2 + 2))))))).flatten

/-! ### SHA-256, HMAC and the KDF -/

/-- The primes below 312, the first 64: divided by no smaller number up to 17. -/
def shaPrimes : List Nat :=
  ((List.range 310).map (· + 2)).filter (fun p => (List.range 16).all (fun k => p % (k + 2) != 0 || p == k + 2))

/-- The largest number above `r` by `n` more binary digits whose power `e` does not exceed `x`. -/
def rootBits (e x : Nat) : Nat → Nat → Nat
  | 0, r => r
  | n + 1, r => rootBits e x n (if (r + 2 ^ n) ^ e ≤ x then r + 2 ^ n else r)

/-- The first 32 fractional bits of the root of degree `e` of a number. -/
def rootFraction (e p : Nat) : BitVec 32 := BitVec.ofNat 32 (rootBits e (p * 2 ^ (32 * e)) 36 0)

/-- The initial hash value: fractional bits of the square roots of the first 8 primes. -/
def shaInit : List (BitVec 32) := (shaPrimes.take 8).map (rootFraction 2)

/-- The round constants: fractional bits of the cube roots of the first 64 primes. -/
def shaK : List (BitVec 32) := shaPrimes.map (rootFraction 3)

/-- Message schedule words 16 to 63 (newest first). -/
def shaSchedule : Nat → List (BitVec 32) → List (BitVec 32)
  | 0, w => w
  | n + 1, w =>
    let a := w.getD 14 0
    let b := w.getD 1 0
    let s0 := a.rotateRight 7 ^^^ a.rotateRight 18 ^^^ (a >>> 3)
    let s1 := b.rotateRight 17 ^^^ b.rotateRight 19 ^^^ (b >>> 10)
    shaSchedule n ((w.getD 15 0 + s0 + w.getD 6 0 + s1) :: w)

/-- One round on the eight working variables. -/
def shaRound (v : List (BitVec 32)) (kw : BitVec 32 × BitVec 32) : List (BitVec 32) :=
  match v with
  | [a, b, c, d, e, f, g, h] =>
    let s1 := e.rotateRight 6 ^^^ e.rotateRight 11 ^^^ e.rotateRight 25
    let t1 := h + s1 + ((e &&& f) ^^^ (~~~e &&& g)) + kw.1 + kw.2
    let s0 := a.rotateRight 2 ^^^ a.rotateRight 13 ^^^ a.rotateRight 22
    let t2 := s0 + ((a &&& b) ^^^ (a &&& c) ^^^ (b &&& c))
    [t1 + t2, a, b, c, d + t1, e, f, g]
  | l => l

/-- The compression function. -/
def shaBlock (h : List (BitVec 32)) (b : List Byte) : List (BitVec 32) :=
  let w0 := ((chunks 4 16 b).map (fun x => BitVec.ofNat 32 (beNat x))).reverse
  let w := (shaSchedule 48 w0).reverse
  List.zipWith (· + ·) h ((shaK.zip w).foldl shaRound h)

/-- SHA-256. -/
def sha256 (m : List Byte) : List Byte :=
  let k := (119 - m.length % 64) % 64
  let p := m ++ [0x80] ++ List.replicate k 0#8 ++ beBytes 8 (8 * m.length)
  ((chunks 64 (p.length / 64 + 1) p).foldl shaBlock shaInit).flatMap (fun x => beBytes 4 x.toNat)

/-- HMAC-SHA-256 with a key of at most 64 bytes. -/
def hmac (key m : List Byte) : List Byte :=
  let k := key ++ List.replicate (64 - key.length) 0#8
  sha256 (k.map (· ^^^ 0x5C) ++ sha256 (k.map (· ^^^ 0x36) ++ m))

/-- The counter-mode KDF of R569: counter 1, label, zero byte, context, L = 256. -/
def kdf (keyIn label context : List Byte) : BitVec 256 :=
  BitVec.ofNat 256 (beNat (hmac keyIn (beBytes 4 1 ++ label ++ [0] ++ context ++ beBytes 4 256)))

/-- The ASCII bytes of a label. -/
def ascii (s : String) : List Byte := s.toList.map (fun c => BitVec.ofNat 8 c.toNat)

/-! ### P-256 -/

/-- Field prime of P-256. -/
def p256P : Nat := 0xffffffff00000001000000000000000000000000ffffffffffffffffffffffff
/-- Group order n of P-256. -/
def p256N : Nat := 0xffffffff00000000ffffffffffffffffbce6faada7179e84f3b9cac2fc632551
/-- Coefficient b of P-256. -/
def p256B : Nat := 0x5ac635d8aa3a93e7b3ebbd55769886bc651d06b0cc53b0f63bce3c3e27d2604b
/-- Base point of P-256. -/
def p256G : Nat × Nat :=
  (0x6b17d1f2e12c4247f8bce6e563a440f277037d812deb33a0f4a13945d898c296,
   0x4fe342e2fe1a7f9b8ee7eb4a7c0f9e162bce33576b315ececbb6406837bf51f5)

/-- Modular power by the bits of the exponent, most significant of 256 first. -/
def modPow (m b e : Nat) : Nat :=
  (List.range 256).foldl (fun a i =>
    let a2 := a * a % m
    if (e >>> (255 - i)) % 2 = 1 then a2 * b % m else a2) 1

/-- Inverse modulo a prime. -/
def modInv (m a : Nat) : Nat := modPow m (a % m) (m - 2)

/-- Sum of two points; `none` is the point at infinity. -/
def p256Add (a b : Option (Nat × Nat)) : Option (Nat × Nat) :=
  match a, b with
  | none, q => q
  | q, none => q
  | some (x1, y1), some (x2, y2) =>
    if x1 = x2 ∧ (y1 + y2) % p256P = 0 then none
    else
      let l :=
        if x1 = x2 then (3 * x1 * x1 + (p256P - 3)) * modInv p256P (2 * y1) % p256P
        else (y2 + p256P - y1) * modInv p256P (x2 + p256P - x1) % p256P
      let x3 := (l * l + 2 * p256P - x1 - x2) % p256P
      some (x3, (l * (x1 + p256P - x3) + p256P - y1) % p256P)

/-- Scalar multiple of a point. -/
def p256Mul (k : Nat) (q : Option (Nat × Nat)) : Option (Nat × Nat) :=
  (List.range 256).foldl (fun a i =>
    let a2 := p256Add a a
    if (k >>> (255 - i)) % 2 = 1 then p256Add a2 q else a2) none

/-- A point from 64 bytes X ‖ Y, if it lies on the curve. -/
def p256Point (b : List Byte) : Option (Nat × Nat) :=
  let x := beNat (b.take 32)
  let y := beNat ((b.drop 32).take 32)
  if x < p256P ∧ y < p256P ∧ (y * y) % p256P = (x * x * x + (p256P - 3) * x + p256B) % p256P then some (x, y) else none

/-- The 64 bytes of a point. -/
def p256Bytes (q : Option (Nat × Nat)) : List Byte :=
  match q with
  | none => List.replicate 64 0#8
  | some (x, y) => beBytes 32 x ++ beBytes 32 y

/-- ECDSA verification of a 64-byte signature over a SHA-256 digest. DEDUCED: log entry 67. -/
def ecdsaVerify (pub digest sig : List Byte) : Bool :=
  let r := beNat (sig.take 32)
  let s := beNat ((sig.drop 32).take 32)
  match p256Point pub with
  | none => false
  | some q =>
    if r = 0 ∨ s = 0 ∨ p256N ≤ r ∨ p256N ≤ s then false
    else
      let w := modInv p256N s
      let u1 := beNat digest * w % p256N
      let u2 := r * w % p256N
      match p256Add (p256Mul u1 (some p256G)) (p256Mul u2 (some q)) with
      | none => false
      | some (x, _) => x % p256N == r

/-- ECDSA signature with secret scalar `d` and per-signature scalar `k`. DEDUCED: log entry 67. -/
def ecdsaSign (d k : Nat) (digest : List Byte) : List Byte :=
  match p256Mul k (some p256G) with
  | none => List.replicate 64 0#8
  | some (x, _) =>
    let r := x % p256N
    let s := modInv p256N k * (beNat digest + r * d) % p256N
    beBytes 32 r ++ beBytes 32 s

end Sys2Proof.Machine
end

