-- ==== Sys2Proof/Machine/Operands.lean ====
section
/-!
DEFINITION. The operand forms of a host command (R100 to R102, R138, R150 to R162): the header fields, the payload of
each opcode, and the status codes of R132.
-/
namespace Sys2Proof.Machine

/-! ### Status codes (R132) -/

def stOk : Nat := 0x00
def stDenied : Nat := 0x01
def stBadSpace : Nat := 0x02
def stBadIndex : Nat := 0x03
def stBadLength : Nat := 0x04
def stAuth : Nat := 0x05
def stBudget : Nat := 0x06
def stStale : Nat := 0x07
def stFenceAbort : Nat := 0x08
def stNotLeading : Nat := 0x09
def stState : Nat := 0x0A
def stInternal : Nat := 0x0B

/-! ### The header (R101) -/

def Cmd.notAfter (c : Cmd) : W64 := fld c.hdr 192 64
def Cmd.seq (c : Cmd) : W64 := fld c.hdr 128 64
def Cmd.groupSize (c : Cmd) : Nat := (fld c.hdr 120 8).toNat
def Cmd.groupPos (c : Cmd) : Nat := (fld c.hdr 112 8).toNat
def Cmd.count (c : Cmd) : Nat := (fld c.hdr 96 16).toNat
def Cmd.index (c : Cmd) : Nat := (fld c.hdr 64 32).toNat
def Cmd.groupId (c : Cmd) : BitVec 8 := fld c.hdr 56 8
def Cmd.space (c : Cmd) : Nat := (fld c.hdr 48 8).toNat
def Cmd.payloadLen (c : Cmd) : Nat := (fld c.hdr 32 16).toNat
def Cmd.opcode (c : Cmd) : Nat := (fld c.hdr 24 8).toNat
def Cmd.tag (c : Cmd) : Nat := (fld c.hdr 16 8).toNat
def Cmd.a (c : Cmd) : Bool := bit c.hdr 12
def Cmd.n (c : Cmd) : Bool := bit c.hdr 11
def Cmd.t (c : Cmd) : Bool := bit c.hdr 10
def Cmd.o (c : Cmd) : Bool := bit c.hdr 9
def Cmd.f (c : Cmd) : Bool := bit c.hdr 8

/-- The partition whose rights a channel has (R67, R105). -/
def partOf (ch : Nat) : Nat := if ch = 64 then 0 else ch

/-- The partition of a command. -/
def Cmd.part (c : Cmd) : Nat := partOf c.ch

/-- Is a command a full barrier (R120). -/
def Cmd.isBarrier (c : Cmd) : Bool := c.opcode == 0 && c.f

/-- Do two commands address the same object (R121). -/
def Cmd.overlaps (a b : Cmd) : Bool :=
  a.space == b.space && decide (a.index < b.index + max b.count 1) && decide (b.index < a.index + max a.count 1)

/-- Objects that a command names, in order: a byte offset per register in space 16#F0. -/
def Cmd.object (c : Cmd) (i : Nat) : Nat := if c.space = 0xF0 then c.index + 4 * i else c.index + i

/-! ### Payloads -/

/-- A 32-bit word of the payload. -/
def Cmd.word (c : Cmd) (i : Nat) : Reg := leBits 32 (slice c.payload (4 * i) 4)

/-- The payload as one number of `n` bytes. -/
def Cmd.bits (c : Cmd) (w : Nat) : BitVec w := leBits w (slice c.payload 0 (w / 8))

/-- Image `i` of a WRITE_ENTRY with entries of `size` bytes (R148). -/
def Cmd.image (c : Cmd) (size i : Nat) : List Byte := slice c.payload (size * i) size

/-- REPLY_OFFSET (R138). -/
def Cmd.replyOffset (c : Cmd) : Nat := leNat (slice c.payload 0 8)

/-- Element `i` of a POINT_WRITE (R150). -/
def Cmd.pointElem (c : Cmd) (i : Nat) : PointElem × Bool :=
  let x := leBits 128 (c.image 16 i)
  (⟨fld x 0 64, fld x 64 2, fld x 72 8⟩, fld x 66 6 == 0 && fld x 80 48 == 0)

/-- Element `i` of a POINT_CONFIG (R150), and whether its keep-0 fields are 0. -/
def Cmd.configElem (c : Cmd) (i : Nat) : ConfigElem × Bool :=
  let x := leBits 128 (c.image 16 i)
  (⟨(fld x 0 7).setWidth 8, fld x 96 16, fld x 90 6, fld x 87 3, bit x 86, bit x 85, fld x 82 3, fld x 77 5⟩,
    fld x 7 70 == 0 && fld x 112 16 == 0)

/-- Element `i` of an ALARM_ACK (R150). -/
def Cmd.ackElem (c : Cmd) (i : Nat) : Reg := c.word i

/-- The kinds of opcode (R135). -/
inductive OpKind where
  | control | read | operation | config | maintenance
  deriving DecidableEq, Repr

/-- One row of the opcode table (R135). -/
structure OpRow where
  kind : OpKind
  /-- SPACE that the row names; `none`: the space table decides. -/
  space : Option Nat
  ch0 : Bool
  tenants : Bool
  ch64 : Bool
  /-- Roles S J L T D. -/
  roles : List Role
  deriving DecidableEq, Repr

/-- Every role. -/
def allRoles : List Role := [.solo, .joining, .leading, .trailing, .dead]
/-- Every role but DEAD. -/
def liveRoles : List Role := [.solo, .joining, .leading, .trailing]

/-- The opcode table (R135). -/
def opRow (op : Nat) : Option OpRow :=
  match op with
  | 0x00 => some ⟨.control, some 0x00, true, true, true, allRoles⟩
  | 0x01 => some ⟨.read, some 0x01, true, true, false, allRoles⟩
  | 0x02 => some ⟨.operation, some 0x01, true, true, false, liveRoles⟩
  | 0x03 => some ⟨.config, some 0x01, true, false, true, liveRoles⟩
  | 0x04 => some ⟨.operation, some 0x02, true, true, false, liveRoles⟩
  | 0x08 => some ⟨.read, none, true, true, true, allRoles⟩
  | 0x09 => some ⟨.config, none, true, true, true, liveRoles⟩
  | 0x0C => some ⟨.read, some 0xF0, true, true, true, allRoles⟩
  | 0x0D => some ⟨.config, some 0xF0, true, false, true, liveRoles⟩
  | 0x10 => some ⟨.config, some 0x20, true, false, true, liveRoles⟩
  | 0x11 => some ⟨.operation, some 0x10, true, false, true, [.solo, .leading]⟩
  | 0x12 => some ⟨.operation, some 0x50, true, false, false, [.solo, .leading, .trailing]⟩
  | 0x13 => some ⟨.operation, some 0x80, true, false, true, liveRoles⟩
  | 0x20 => some ⟨.maintenance, some 0x90, false, false, true, allRoles⟩
  | 0x30 => some ⟨.maintenance, some 0x00, false, false, true, allRoles⟩
  | 0x31 => some ⟨.maintenance, some 0x00, false, false, true, allRoles⟩
  | 0x32 => some ⟨.maintenance, some 0x00, false, false, true, allRoles⟩
  | 0x38 => some ⟨.maintenance, some 0xA0, false, false, true, allRoles⟩
  | 0x3F => some ⟨.maintenance, some 0x00, false, false, true, allRoles⟩
  | _ => none

/-- Is an opcode allowed on a channel (R106, R135). -/
def OpRow.allows (r : OpRow) (ch : Nat) : Bool :=
  if ch = 0 then r.ch0 else if ch = 64 then r.ch64 else r.tenants

/-- Is a command applied in phase F (R124, R143): T-flagged, or a configuration opcode. -/
def Cmd.isConfig (c : Cmd) : Bool := match opRow c.opcode with
  | some r => r.kind == .config
  | none => false

/-- One row of the space table (R146). -/
structure SpaceRow where
  size : Nat
  readLimit : Nat
  /-- `none`: WRITE_ENTRY fails check 13. -/
  writeLimit : Option Nat
  last : Nat
  cost : Nat
  deriving DecidableEq, Repr

/-- The space table, without 16#01 and 16#F0 (R146). -/
def spaceRow (sp : Nat) : Option SpaceRow :=
  match sp with
  | 0x02 => some ⟨64, 1024, some 63, 16383, 8⟩
  | 0x03 => some ⟨32, 2048, some 126, 16383, 4⟩
  | 0x10 => some ⟨64, 16, some 16, 15, 64⟩
  | 0x11 => some ⟨32, 2048, some 126, 4095, 16⟩
  | 0x20 => some ⟨16, 4096, some 253, 262143, 4⟩
  | 0x21 => some ⟨64, 8, some 8, 7, 32⟩
  | 0x30 => some ⟨128, 512, some 31, 2111, 24⟩
  | 0x40 => some ⟨64, 87, some 63, 86, 32⟩
  | 0x41 => some ⟨128, 72, some 31, 71, 16⟩
  | 0x42 => some ⟨16, 4096, none, 9983, 0⟩
  | 0x50 => some ⟨256, 8, some 8, 7, 32⟩
  | 0x60 => some ⟨64, 32, none, 31, 0⟩
  | 0x70 => some ⟨32, 2048, none, 65535, 0⟩
  | 0x80 => some ⟨32, 2048, some 126, 2063, 4⟩
  | 0x90 => some ⟨64, 8, some 8, 7, 16⟩
  | 0xA0 => some ⟨64, 128, none, 127, 0⟩
  | _ => none

/-- Is an index of a space one that the Indices column excludes (R149). -/
def indexExcluded (sp i : Nat) : Bool := sp == 0x11 && (i % 256 == 0 || i % 256 == 255)

/-- Phase F cycles per object of a space (R146). -/
def spaceCost (sp : Nat) : Nat :=
  if sp = 0x01 then 6 else if sp = 0xF0 then 2 else ((spaceRow sp).map (·.cost)).getD 0

/-- Share-group masks that a WRITE_REG writes, by either or both of their words (R77). -/
def Cmd.maskCount (c : Cmd) : Nat :=
  ((List.range 7).filter (fun g => (List.range c.count).any (fun i => (c.index + 4 * i) / 8 == 0x40 + g))).length
/-- Registers of a WRITE_REG that belong to no share-group mask. -/
def Cmd.plainRegs (c : Cmd) : Nat :=
  ((List.range c.count).filter (fun i => decide ((c.index + 4 * i) / 8 < 0x40 ∨ 0x47 ≤ (c.index + 4 * i) / 8))).length

/-- Phase F cost of a command (R75, R143, R146, R552): 32 more for a configuration command, 64 in all for
BANK_EXCHANGE; a share-group mask costs 6 in place of its words' 2. DEDUCED: log entry 85. -/
def Cmd.phaseFCost (c : Cmd) : Nat :=
  if c.opcode = 0x10 then 64
  else if c.opcode = 0x0D then 32 + spaceCost c.space * c.plainRegs + 6 * c.maskCount
  else if c.isConfig then 32 + spaceCost c.space * c.count
  else spaceCost c.space * c.count

/-! ### Slots (R107 to R121) -/

/-- The command in flight with a channel and tag. -/
def Dev.slot (d : Dev) (ch tag : Nat) : Option Cmd := d.cp.slots.find? (fun c => decide (c.ch = ch ∧ c.tag = tag))

/-- Commands in flight on a channel. -/
def Dev.inFlight (d : Dev) (ch : Nat) : List Cmd := d.cp.slots.filter (fun c => decide (c.ch = ch))

/-- Replace the slot of a command. -/
def Dev.setSlot (d : Dev) (c : Cmd) : Dev :=
  { d with cp := { d.cp with slots := d.cp.slots.map (fun x => if x.ch = c.ch ∧ x.tag = c.tag then c else x) } }

/-- Free the slot of a channel and tag. -/
def Dev.freeSlot (d : Dev) (ch tag : Nat) : Dev :=
  { d with cp := { d.cp with slots := d.cp.slots.filter (fun x => !decide (x.ch = ch ∧ x.tag = tag)) } }

/-- The members of a command's atomic group that are in flight, in SEQ order; the command alone without A (R123). -/
def Dev.members (d : Dev) (c : Cmd) : List Cmd :=
  if c.a then
    (d.inFlight c.ch).filter (fun x => x.a && x.groupId == c.groupId &&
      (x.stage == .waiting || x.stage == .admitted || x.stage == .replying) &&
      x.seq - BitVec.ofNat 64 x.groupPos == c.seq - BitVec.ofNat 64 c.groupPos)
  else [c]

/-- Are all members of a command's group accepted (R124). -/
def Dev.groupFull (d : Dev) (c : Cmd) : Bool := !c.a || (d.members c).length == c.groupSize

/-- Does a command still wait for earlier ones or for its group (R118, R120, R121, R124). -/
def Dev.blocked (d : Dev) (c : Cmd) : Bool :=
  let ms := d.members c
  let first := ms.headD c
  let earlier := (d.inFlight c.ch).filter (fun e => decide (e.seq < first.seq) && e.stage != .finished)
  !d.groupFull c || earlier.any (fun e => e.isBarrier) || (first.f && !earlier.isEmpty) ||
    ms.any (fun m => m.o && earlier.any (fun e => e.o && m.overlaps e))

/-- Note the frame in which each command's last wait before execution ended (R129). DEDUCED: log entry 43. -/
def pollReady (ch : Nat) (d : Dev) : Dev :=
  { d with cp := { d.cp with slots := d.cp.slots.map (fun c =>
      if c.ch = ch ∧ c.stage = .waiting ∧ c.ready = none ∧ !d.blocked c then { c with ready := some d.tb.ran } else c) } }

/-! ### Completion (R107, R113, R119, R179) -/

/-- Put a COMPLETION record into the channel's transmit queue, or behind it while its 288 places are taken: none is ever
dropped (R113, R183). DEDUCED: log entry 84. -/
def pushCompletion (ch : Nat) (x : Completion) (d : Dev) : Dev :=
  d.modChan ch (fun c =>
    if c.backlog.isEmpty && decide (c.txq.length < 288) then { c with txq := c.txq ++ [.completion x] }
    else { c with backlog := c.backlog ++ [x] })

/-- The completion of a header with a status. -/
def completionOf (d : Dev) (hdr : BitVec 256) (seq : W64) (status failIndex : Nat) (reply : List Byte) (slot : Bool) :
    Completion :=
  { tag := fld hdr 16 8
    opcode := fld hdr 24 8
    seq := seq
    status := BitVec.ofNat 8 status
    failIndex := BitVec.ofNat 32 failIndex
    reply := if status = 0 then reply else []
    frame := d.tb.frame
    cal := d.cal
    calUnset := !d.bk.calSet
    holdsSlot := slot }

/-- SEQ of the newest full barrier that is in flight on a channel and has not completed (R120). -/
def Dev.barrierSeq (d : Dev) (ch : Nat) : Option W64 :=
  (((d.inFlight ch).filter (fun e => e.isBarrier && e.stage != .finished)).map Cmd.seq).foldl (fun m s =>
    match m with
    | none => some s
    | some x => some (maxU x s)) none

/-- Does a full barrier that has not completed precede a command (R120). -/
def Dev.behindBarrier (d : Dev) (c : Cmd) : Bool :=
  (d.inFlight c.ch).any (fun e => e.isBarrier && e.stage != .finished && decide (e.seq < c.seq))

/-- FENCE_FAULT after a command with a status; `barrier`: SEQ of a full barrier, which clears no failure that came after it
(R119, R120). -/
def noteStatus (ch : Nat) (barrier : Option W64) (status : Nat) (d : Dev) : Dev :=
  if status ≠ 0 then d.modChan ch (fun c => { c with fenceFault := true })
  else match barrier with
    | some s => d.modChan ch (fun c => { c with fenceFault := match c.faultAfter with
        | some a => c.fenceFault && decide (s ≤ a)
        | none => false })
    | none => d

/-- 16#0F06 for a LIFECYCLE_SET that completes DENIED or STATE, at whichever check (R586). DEDUCED: log entry 47. -/
def lifecycleRefused (opcode status : Nat) (d : Dev) : Dev :=
  if opcode = 0x38 ∧ (status = stDenied ∨ status = stState) then report (ev 0x0F06 true 0 0) d else d

/-- A command's execution has ended with a status, and nothing else ends with it (R107, R113, R119, R129). -/
def finishOne (ch tag status failIndex : Nat) (reply : List Byte) (d : Dev) : Dev :=
  match d.slot ch tag with
  | none => d
  | some c =>
    let releases := c.stage == .admitted && c.isConfig && status != 0
    let d := { d with cp := { d.cp with
      phaseF := d.cp.phaseF.filter (fun x => x != (ch, tag))
      late := d.cp.late.filter (fun x => x != (ch, tag))
      recheck := d.cp.recheck || releases } }
    let d := lifecycleRefused c.opcode status (noteStatus ch (if c.isBarrier then some c.seq else none) status d)
    let d :=
      if c.n && status == 0 then d.freeSlot ch tag
      else pushCompletion ch (completionOf d c.hdr c.seq status failIndex reply true) (d.setSlot { c with stage := .finished })
    pollReady ch d

/-- The commands of a channel whose status is settled complete, each once no barrier before it is in flight (R120). -/
def releaseEnded (ch : Nat) : Nat → Dev → Dev
  | 0, d => d
  | n + 1, d =>
    match (d.inFlight ch).findSome? (fun c => match c.stage with
      | .ended s => if d.behindBarrier c then none else some (c, s)
      | _ => none) with
    | some (c, s) => releaseEnded ch n (finishOne ch c.tag s 0 [] d)
    | none => d

/-- A command's execution has ended with a status, which also ends what a barrier has held back (R107, R113, R119, R120,
R129). -/
def finish (ch tag status failIndex : Nat) (reply : List Byte) (d : Dev) : Dev :=
  releaseEnded ch 32 (finishOne ch tag status failIndex reply d)

/-- A command ends with a status without its execution: at once, or after the barriers before it (R120, R125, R126, R130). -/
def endCommand (ch tag status : Nat) (d : Dev) : Dev :=
  match d.slot ch tag with
  | none => d
  | some c => if d.behindBarrier c then d.setSlot { c with stage := .ended status } else finish ch tag status 0 [] d

/-- Every member of a list of commands ends with one status, without its execution. -/
def finishAll (cs : List Cmd) (status : Nat) (d : Dev) : Dev :=
  cs.foldl (fun d c => endCommand c.ch c.tag status d) d

/-- A channel and channel 0, for the events of R134. -/
def destsCh (ch : Nat) : List Nat := if ch = 0 then [0] else [0, ch]

/-- A command whose execution has begun ends with INTERNAL; whether a TIME_SET that waits for the RTC count then takes
effect is open (R130, R492). DESIGN CHOICE: log entry 78. -/
def internalEnd (ch tag : Nat) (d : Dev) : Dev :=
  finish ch tag stInternal 0 [] (match d.slot ch tag with
    | none => d
    | some c => { d with bk := { d.bk with timeSet := d.bk.timeSet.map (fun x =>
        if x.ch = ch ∧ x.tag = tag ∧ x.seq = c.seq then { x with ended := true } else x) } })

/-- A command reaches the completion limit (R129). DEDUCED: log entry 43. -/
def limitReport (ch tag : Nat) (d : Dev) : Dev :=
  report { ev 0x0303 true ch 0 with dests := destsCh ch }
    (internalEnd ch tag { d with cp := { d.cp with limitCnt := satAdd d.cp.limitCnt 1 } })

/-- The 16 frames after a command's last wait have passed (R129). -/
def Cmd.pastLimit (c : Cmd) (d : Dev) : Bool := match c.ready with
  | some r => decide (16 ≤ framesSince r d)
  | none => false

/-- Discard the commands of a channel that closes; no record of 16#0305 goes to that channel (R131). -/
def discardCommands (ch : Nat) (d : Dev) : Dev :=
  let mine := d.inFlight ch
  let n := (mine.filter (fun c => c.stage != .replying && c.stage != .finished)).length
  let cfg := mine.any (fun c => c.stage == .admitted && c.isConfig)
  let d := { d with cp := { d.cp with
    slots := d.cp.slots.filter (fun c => c.ch != ch)
    phaseF := d.cp.phaseF.filter (fun x => x.1 != ch)
    late := d.cp.late.filter (fun x => x.1 != ch)
    recheck := d.cp.recheck || cfg } }
  let d := d.modChan ch (fun c => { c with group := none, broken := none })
  if n = 0 then d else report { ev 0x0305 false ch 0 with count := n, dests := [0, 64].filter (· != ch) } d

/-- A member of the open group of a channel has failed a check: every other member completes FENCE_ABORT (R125). -/
def abortGroup (ch : Nat) (d : Dev) : Dev :=
  match (d.chan ch).group with
  | none => d
  | some g =>
    let ms := (d.inFlight ch).filter (fun c => c.a && c.groupId == g.id && c.stage == .waiting &&
      decide (g.firstSeq ≤ c.seq))
    finishAll ms stFenceAbort (d.modChan ch (fun c => { c with group := some { g with aborted := true } }))

/-- Break the open group of a channel: every member completes STATE (R126). -/
def breakGroup (ch : Nat) (d : Dev) : Dev :=
  match (d.chan ch).group with
  | none => d
  | some g =>
    let ms := (d.inFlight ch).filter (fun c => c.a && c.groupId == g.id && c.stage == .waiting &&
      decide (g.firstSeq ≤ c.seq))
    let d := d.modChan ch (fun c => { c with group := none, broken := some (g.id, g.size) })
    let d := finishAll ms stState d
    report { ev 0x0304 true ch g.id.toNat with dests := destsCh ch } d

end Sys2Proof.Machine
end

