-- ==== Sys2Proof/Machine/LogicBlocks.lean ====
section
/-!
DEFINITION. The block library of the logic sequencer (R293 to R307, R645): the block table, and one execution of one
block on its operands and its state record.
-/
namespace Sys2Proof.Machine

/-- Domains of operands and outputs (R296). -/
inductive Dom where
  | b | i | u | t | f
  deriving DecidableEq, Repr

/-- An operand or output column of the block table: a fixed domain, the domain N, or the immediate halves of CONST. -/
inductive DSpec where
  | fixed (d : Dom)
  | num
  | half
  deriving DecidableEq, Repr

/-- The numeric domain that DTYPE selects (R293). -/
def numDom (dtype : Nat) : Dom := if dtype = 0 then .i else if dtype = 1 then .u else .f

/-- The domain that a column stands for under a DTYPE. -/
def DSpec.dom (dtype : Nat) : DSpec → Dom
  | .fixed d => d
  | .num => numDom dtype
  | .half => .u

/-- One row of the block table (R304). -/
structure BlockRow where
  /-- Required operands, first in the order A to D; then the optional ones. -/
  req : List DSpec
  opt : List DSpec
  out : DSpec
  aux : Option Dom
  /-- Lane-cycles for DTYPE 0, 1 and 2; `none`: the DTYPE is refused (R304, R305). -/
  cyc0 : Option Nat
  cyc1 : Option Nat
  cyc2 : Option Nat
  deriving DecidableEq, Repr

/-- A block without domain N: DTYPE 0 only (R305). -/
def rowB (req opt : List DSpec) (out : Dom) (aux : Option Dom) (c : Nat) : BlockRow :=
  ⟨req, opt, .fixed out, aux, some c, none, none⟩

/-- A block of domain N with its cycles for integers and for binary32. -/
def rowN (req opt : List DSpec) (out : DSpec) (aux : Option Dom) (ci cf : Nat) : BlockRow :=
  ⟨req, opt, out, aux, some ci, some ci, some cf⟩

/-- A block of unsigned words: DTYPE 1 only (R305). -/
def rowU (req opt : List DSpec) (out : Dom) (c : Nat) : BlockRow :=
  ⟨req, opt, .fixed out, none, none, some c, none⟩

/-- The block table (R304). -/
def blockRow (btype : Nat) : Option BlockRow :=
  let B : DSpec := .fixed .b
  let T : DSpec := .fixed .t
  let U : DSpec := .fixed .u
  let N : DSpec := .num
  match btype with
  | 1 | 2 | 3 => some (rowB [B, B] [B, B] .b none 5)
  | 4 => some (rowB [B] [] .b none 4)
  | 5 | 6 => some (rowB [B, B] [] .b none 6)
  | 7 | 8 => some (rowB [B] [] .b none 6)
  | 9 | 10 | 11 => some (rowB [B, T] [] .b (some .t) 12)
  | 12 => some (rowB [B, B, T] [] .b (some .t) 14)
  | 13 | 14 => some (rowB [B, B, .fixed .i] [] .b (some .i) 10)
  | 15 => some (rowB [B, B, B, .fixed .i] [] .b (some .i) 12)
  | 16 | 17 | 18 | 19 | 20 | 21 => some (rowN [N, N] [] B none 6 8)
  | 22 => some (rowN [N, N, N] [] B none 8 10)
  | 23 => some (rowN [N, N] [N, N] N none 6 10)
  | 24 => some (rowN [N, N] [] N none 6 10)
  | 25 => some (rowN [N, N] [] N none 8 12)
  | 26 => some (rowN [N, N] [] N none 20 24)
  | 27 => some ⟨[N, N], [], N, none, some 20, some 20, none⟩
  | 28 => some (rowN [N] [] N none 6 6)
  | 29 => some ⟨[N], [], N, none, some 6, none, some 6⟩
  | 30 | 31 => some (rowN [N, N] [N, N] N none 8 12)
  | 32 => some (rowN [N, N, N] [] N (some .b) 8 12)
  | 33 => some (rowN [B, N, N] [] N none 6 6)
  | 34 => some (rowN [U, N] [N, N] N none 8 8)
  | 35 => some (rowN [N] [] N none 4 4)
  | 36 => some (rowN [N, N, N] [N] N none 24 30)
  | 37 => some ⟨[N], [], .fixed .f, none, some 8, some 8, none⟩
  | 38 => some ⟨[.fixed .f], [], N, none, some 10, some 10, none⟩
  | 39 | 40 | 41 => some (rowU [U, U] [U, U] .u 5)
  | 42 | 43 => some (rowU [U, U] [] .u 6)
  | 44 => some (rowU [U, U] [] .b 6)
  | 45 => some (rowN [N, N] [B] N (some .b) 18 22)
  | 46 => some ⟨[.fixed .f, T], [B], .fixed .f, none, none, none, some 26⟩
  | 47 => some (rowN [N, N, N] [] B none 10 12)
  | 48 => some (rowN [.half, .half] [] N none 3 3)
  | _ => none

/-- Is the operand column at place `k` optional (R304: the square brackets of RTO, CTU, CTD and CTUD stand inside). -/
def operandOptional (btype k : Nat) (row : BlockRow) : Bool :=
  decide (row.req.length ≤ k) ||
    (match btype, k with
     | 12, 1 => true
     | 13, 1 => true
     | 14, 1 => true
     | 15, 2 => true
     | _, _ => false)

/-- Lane-cycles of one entry (R304, R305); 1 for an empty entry. -/
def blockCycles (btype dtype : Nat) : Nat :=
  match blockRow btype with
  | none => 1
  | some r => (if dtype = 0 then r.cyc0 else if dtype = 1 then r.cyc1 else if dtype = 2 then r.cyc2 else none).getD 0

/-- Is the DTYPE allowed for the block (R304, R305). -/
def dtypeOk (btype dtype : Nat) : Bool :=
  match blockRow btype with
  | none => false
  | some r => (if dtype = 0 then r.cyc0 else if dtype = 1 then r.cyc1 else if dtype = 2 then r.cyc2 else none).isSome

/-- An operand as read: its bits in its domain, its quality and detail; absent operands read 0 (R304). -/
structure OpVal where
  present : Bool
  v : BitVec 32
  q : BitVec 2
  d : BitVec 8
  deriving DecidableEq, Repr

/-- An absent operand. -/
def OpVal.absent : OpVal := ⟨false, 0, 0, 0⟩

/-- Rank of a quality, the worst highest: GOOD, UNCERTAIN, INITIAL, BAD (R299). -/
def qRank (q : BitVec 2) : Nat :=
  match q.toNat with
  | 0 => 0
  | 1 => 1
  | 3 => 2
  | _ => 3

/-- The worst quality among the operands used, with the detail of the first operand that has it (R299). -/
def worstQ (ops : List OpVal) : BitVec 2 × BitVec 8 :=
  match ops.filter (·.present) with
  | [] => (0, 0)
  | o :: os => os.foldl (fun a o => if qRank a.1 < qRank o.q then (o.q, o.d) else a) (o.q, o.d)

/-- A condition of a block's own: a quality with its detail (R298). -/
abbrev OwnCond := Option (BitVec 2 × BitVec 8)

/-- What a block computes: OUT (`none`: unchanged), AUX, FLAGS, and its own conditions on both outputs or on AUX. -/
structure BlockRes where
  out : Option (BitVec 32)
  aux : BitVec 32
  flags : BitVec 8
  cond : OwnCond
  auxCond : OwnCond
  deriving DecidableEq, Repr

/-- A result without conditions. -/
def resOk (v : BitVec 32) : BlockRes := ⟨some v, 0, 0, none, none⟩

/-- OUT unchanged, BAD with a detail. -/
def resBad (d : BitVec 8) : BlockRes := ⟨none, 0, 0, some (2, d), none⟩

/-- A Boolean output, 0 or 1 (R298). -/
def bv1 (b : Bool) : BitVec 32 := if b then 1 else 0

/-- Detail codes that blocks use (R60, R298). -/
def dOver : BitVec 8 := 0x03
def dUnder : BitVec 8 := 0x04
def dNan : BitVec 8 := 0x0F
def dDivZero : BitVec 8 := 0x80
def dSelect : BitVec 8 := 0x81

/-- An operand of an integer domain as an exact integer. -/
def intOf (dtype : Nat) (v : BitVec 32) : Int := if dtype = 0 then v.toInt else v.toNat

/-- An exact integer saturated once at the limits of its domain (R298). -/
def resInt (dtype : Nat) (i : Int) : BlockRes :=
  let lo : Int := if dtype = 0 then -2147483648 else 0
  let hi : Int := if dtype = 0 then 2147483647 else 4294967295
  if hi < i then ⟨some (BitVec.ofInt 32 hi), 0, 0, some (1, dOver), none⟩
  else if i < lo then ⟨some (BitVec.ofInt 32 lo), 0, 0, some (1, dUnder), none⟩
  else resOk (BitVec.ofInt 32 i)

/-- A binary32 result; a NaN leaves OUT unchanged (R298). -/
def resF (x : BitVec 32) : BlockRes := if f32IsNan x then resBad dNan else resOk x

/-- Numeric order in a domain. -/
def numLt (dtype : Nat) (a b : BitVec 32) : Bool :=
  if dtype = 2 then f32Lt a b else decide (intOf dtype a < intOf dtype b)

/-- Numeric order or equality in a domain; +0.0 equals −0.0. -/
def numLe (dtype : Nat) (a b : BitVec 32) : Bool :=
  if dtype = 2 then f32Le a b else decide (intOf dtype a ≤ intOf dtype b)

/-- Numeric equality in a domain. -/
def numEq (dtype : Nat) (a b : BitVec 32) : Bool := numLe dtype a b && numLe dtype b a

/-- The smaller of two values; between zeros of different sign the manual states no choice (DESIGN CHOICE: log entry 8). -/
def numMin (dtype : Nat) (a b : BitVec 32) : BitVec 32 :=
  if numLt dtype b a then b
  else if a ≠ b && numEq dtype a b && Config.zeroTie a b then b else a

/-- The larger of two values. -/
def numMax (dtype : Nat) (a b : BitVec 32) : BitVec 32 :=
  if numLt dtype a b then b
  else if a ≠ b && numEq dtype a b && Config.zeroTie a b then b else a

/-- What one execution of a block sees. -/
structure BlockIn where
  dtype : Nat
  a : OpVal
  b : OpVal
  c : OpVal
  d : OpVal
  /-- OUT, AUX and FLAGS before the execution. -/
  out : BitVec 32
  aux : BitVec 32
  flags : BitVec 8
  /-- Frames since the instance last ran (R303). -/
  dt : Nat
  deriving DecidableEq, Repr

/-- FLAGS with the bits of the block table: prev, second prev, run, sat. -/
def flagsOf (prev prev2 run sat : Bool) : BitVec 8 :=
  putB 8 0 prev ||| putB 8 1 prev2 ||| putB 8 3 run ||| putB 8 4 sat

/-- ET brought up to date, at most PT (R306). -/
def etAdd (et : BitVec 32) (dt : Nat) (pt : BitVec 32) : BitVec 32 := BitVec.ofNat 32 (min (et.toNat + dt) pt.toNat)

/-- Timers TON, TOF, TP (R306). DEDUCED: log entry 56. -/
def blkTimer (btype : Nat) (x : BlockIn) : BlockRes :=
  let inp := x.a.v != 0
  let pt := x.b.v
  let run := bit x.flags 3
  let prev := bit x.flags 0
  let r : Bool × BitVec 32 × Bool :=
    match btype with
    | 9 =>
      let s : Bool × BitVec 32 :=
        if !inp then (false, 0) else if !run then (true, 0) else (true, etAdd x.aux x.dt pt)
      (s.1, s.2, s.1 && decide (pt.toNat ≤ s.2.toNat))
    | 10 =>
      let s : Bool × BitVec 32 :=
        if inp then (false, 0) else if prev then (true, 0)
        else if run then (true, etAdd x.aux x.dt pt) else (false, x.aux)
      let run' := s.1 && !decide (pt.toNat ≤ s.2.toNat)
      (run', s.2, inp || run')
    | _ =>
      let s : Bool × BitVec 32 :=
        if run then (true, etAdd x.aux x.dt pt)
        else if inp && !prev then (true, 0)
        else if !inp then (false, 0) else (false, x.aux)
      let run' := s.1 && !decide (pt.toNat ≤ s.2.toNat)
      (run', s.2, run')
  ⟨some (bv1 r.2.2), r.2.1, flagsOf (btype != 9 && inp) false r.1 false, none, none⟩

/-- RTO (R306). -/
def blkRto (x : BlockIn) : BlockRes :=
  let inp := x.a.v != 0
  let r := x.b.v != 0
  let et := if r then 0 else if inp && bit x.flags 0 then etAdd x.aux x.dt x.c.v else x.aux
  ⟨some (bv1 (!r && decide (x.c.v.toNat ≤ et.toNat))), et, flagsOf inp false false false, none, none⟩

/-- Counters CTU, CTD, CTUD (R306, R307). -/
def blkCounter (btype : Nat) (x : BlockIn) : BlockRes :=
  let mx : Int := 2147483647
  let mn : Int := -2147483648
  let cv := x.aux.toInt
  let sat := bit x.flags 4
  let p1 := bit x.flags 0
  let p2 := bit x.flags 1
  let a := x.a.v != 0
  let b := x.b.v != 0
  let c := x.c.v != 0
  let r : Int × Bool × Bool :=
    match btype with
    | 13 =>
      let s : Int × Bool :=
        if b then (0, false)
        else if a && !p1 then (if cv < mx then (cv + 1, sat) else (cv, true))
        else (cv, sat)
      (s.1, s.2, decide (x.c.v.toInt ≤ s.1))
    | 14 =>
      let s : Int × Bool :=
        if b then (x.c.v.toInt, false)
        else if a && !p1 then (if mn < cv then (cv - 1, sat) else (cv, true))
        else (cv, sat)
      (s.1, s.2, decide (s.1 ≤ 0))
    | _ =>
      let up := a && !p1
      let dn := b && !p2
      let s : Int × Bool :=
        if c then (0, false)
        else if up && !dn then (if cv < mx then (cv + 1, false) else (cv, true))
        else if dn && !up then (if mn < cv then (cv - 1, false) else (cv, true))
        else (cv, sat)
      (s.1, s.2, decide (x.d.v.toInt ≤ s.1))
  let ac : OwnCond :=
    if r.2.1 then some (1, if r.1 = mx then dOver else dUnder) else none
  ⟨some (bv1 r.2.2), BitVec.ofInt 32 r.1, flagsOf a (btype == 15 && b) false r.2.1, none, ac⟩

/-- Operands present among `xs`. -/
def presentVals (xs : List OpVal) : List (BitVec 32) := (xs.filter (·.present)).map (·.v)

/-- ADD, SUB, MUL, DIV, MOD, ABS, NEG (R298, R304). -/
def blkArith (btype : Nat) (x : BlockIn) : BlockRes :=
  let dt := x.dtype
  let a := x.a.v
  let b := x.b.v
  if dt = 2 then
    match btype with
    | 23 =>
      match presentVals [x.a, x.b, x.c, x.d] with
      | [] => resOk 0
      | v :: vs => resF (vs.foldl f32Add v)
    | 24 => resF (f32Sub a b)
    | 25 => resF (f32Mul a b)
    | 26 => resF (f32Div a b)
    | 28 => resF (f32Abs a)
    | _ => resF (f32Neg a)
  else
    let ia := intOf dt a
    let ib := intOf dt b
    match btype with
    | 23 => resInt dt ((presentVals [x.a, x.b, x.c, x.d]).foldl (fun s v => s + intOf dt v) 0)
    | 24 => resInt dt (ia - ib)
    | 25 => resInt dt (ia * ib)
    | 26 => if ib = 0 then resBad dDivZero else resInt dt (Int.tdiv ia ib)
    | 27 => if ib = 0 then resBad dDivZero else resInt dt (Int.tmod ia ib)
    | 28 => resInt dt (if ia < 0 then -ia else ia)
    | _ => resInt dt (-ia)

/-- SCALE (R305). -/
def blkScale (x : BlockIn) : BlockRes :=
  if x.dtype = 2 then resF (f32Add (f32Div (f32Mul x.a.v x.b.v) x.c.v) x.d.v)
  else
    let n := intOf x.dtype
    if n x.c.v = 0 then resBad dDivZero else resInt x.dtype (Int.tdiv (n x.a.v * n x.b.v) (n x.c.v) + n x.d.v)

/-- F_TO_I (R304): nearest, ties to even, saturating. -/
def blkFtoI (x : BlockIn) : BlockRes :=
  match f32Decode x.a.v with
  | .nan => resBad dNan
  | .inf neg => resInt x.dtype (if neg then -(2 ^ 80 : Int) else (2 ^ 80 : Int))
  | .fin .. =>
    match f32ToInt x.a.v with
    | none => resBad dNan
    | some i => resInt x.dtype i

/-- The binary32 value nearest to 0.001 (R305). -/
def f32Milli : BitVec 32 := 0x3A83126F

/-- RAMP (R305). -/
def blkRamp (x : BlockIn) : BlockRes :=
  let inp := x.a.v
  let trk := x.c.v != 0
  let out? : Option (BitVec 32) :=
    if trk then some inp
    else if x.dtype = 2 then
      let rate := if f32Lt x.b.v 0 then 0 else x.b.v
      let s := f32Mul (f32Mul rate (f32OfInt x.dt)) f32Milli
      let t := if f32Lt x.out inp then f32Add x.out s else if f32Lt inp x.out then f32Sub x.out s else inp
      if f32IsNan t then none
      else if f32Lt x.out inp && f32Lt inp t then some inp
      else if f32Lt inp x.out && f32Lt t inp then some inp
      else some t
    else
      let rate := intOf x.dtype x.b.v
      let s := ((if rate < 0 then 0 else rate) * x.dt) / 1000
      let o := intOf x.dtype x.out
      let i := intOf x.dtype inp
      some (BitVec.ofInt 32 (if o < i then min (o + s) i else max (o - s) i))
  match out? with
  | none => { resBad dNan with aux := bv1 (!numEq x.dtype x.out inp) }
  | some o => { resOk o with aux := bv1 (!numEq x.dtype o inp) }

/-- LAG (R305). -/
def blkLag (x : BlockIn) : BlockRes :=
  if x.c.v != 0 || x.b.v == 0 then resF x.a.v
  else
    let dt := f32OfInt x.dt
    let e := f32Sub x.a.v x.out
    let n := f32Mul e dt
    let m := f32Add (f32OfInt x.b.v.toNat) dt
    resF (f32Add x.out (f32Div n m))

/-- The operands that a block uses, for its quality (R299): SEL and MUX use the selector and the selected input. -/
def usedOps (btype : Nat) (x : BlockIn) : List OpVal :=
  match btype with
  | 33 => [x.a, if x.a.v != 0 then x.c else x.b]
  | 34 =>
    match x.a.v.toNat with
    | 0 => [x.a, x.b]
    | 1 => [x.a, x.c]
    | 2 => [x.a, x.d]
    | _ => [x.a]
  | _ => [x.a, x.b, x.c, x.d]

/-- Does an operand of a binary32 column hold a NaN (R298). -/
def nanOperand (btype : Nat) (x : BlockIn) : Bool :=
  match blockRow btype with
  | none => false
  | some r =>
    ((r.req ++ r.opt).zip [x.a, x.b, x.c, x.d]).any fun p =>
      decide (p.1.dom x.dtype = .f) && p.1 != .half && p.2.present && f32IsNan p.2.v

/-- The result of one block (R304 to R307). -/
def blkEval (btype : Nat) (x : BlockIn) : BlockRes :=
  let a := x.a.v
  let b := x.b.v
  let c := x.c.v
  let bools := presentVals [x.a, x.b, x.c, x.d]
  let dt := x.dtype
  if nanOperand btype x then { resBad dNan with aux := x.aux, flags := x.flags }
  else match btype with
  | 1 => resOk (bv1 (bools.all (· != 0)))
  | 2 => resOk (bv1 (bools.any (· != 0)))
  | 3 => resOk (bv1 ((bools.filter (· != 0)).length % 2 == 1))
  | 4 => resOk (bv1 (a == 0))
  | 5 => resOk (bv1 (a != 0 || (x.out != 0 && b == 0)))
  | 6 => resOk (bv1 (b == 0 && (a != 0 || x.out != 0)))
  | 7 => { resOk (bv1 (a != 0 && !bit x.flags 0)) with flags := flagsOf (a != 0) false false false }
  | 8 => { resOk (bv1 (a == 0 && bit x.flags 0)) with flags := flagsOf (a != 0) false false false }
  | 9 | 10 | 11 => blkTimer btype x
  | 12 => blkRto x
  | 13 | 14 | 15 => blkCounter btype x
  | 16 => resOk (bv1 (numLt dt b a))
  | 17 => resOk (bv1 (numLe dt b a))
  | 18 => resOk (bv1 (numEq dt a b))
  | 19 => resOk (bv1 (!numEq dt a b))
  | 20 => resOk (bv1 (numLe dt a b))
  | 21 => resOk (bv1 (numLt dt a b))
  | 22 => resOk (bv1 (numLe dt b a && numLe dt a c))
  | 23 | 24 | 25 | 26 | 27 | 28 | 29 => blkArith btype x
  | 30 =>
    match bools with
    | [] => resOk 0
    | v :: vs => resOk (vs.foldl (numMin dt) v)
  | 31 =>
    match bools with
    | [] => resOk 0
    | v :: vs => resOk (vs.foldl (numMax dt) v)
  | 32 =>
    let o := numMin dt (numMax dt b a) c
    { resOk o with aux := bv1 (!numEq dt o b) }
  | 33 => resOk (if a != 0 then c else b)
  | 34 =>
    match a.toNat with
    | 0 => resOk b
    | 1 => if x.c.present then resOk c else resBad dSelect
    | 2 => if x.d.present then resOk x.d.v else resBad dSelect
    | _ => resBad dSelect
  | 35 => resOk a
  | 36 => blkScale x
  | 37 => resOk (f32OfInt (intOf dt a))
  | 38 => blkFtoI x
  | 39 => resOk (bools.foldl (· &&& ·) 0xFFFFFFFF)
  | 40 => resOk (bools.foldl (· ||| ·) 0)
  | 41 => resOk (bools.foldl (· ^^^ ·) 0)
  | 42 => resOk (if 31 < b.toNat then 0 else a <<< b.toNat)
  | 43 => resOk (if 31 < b.toNat then 0 else a >>> b.toNat)
  | 44 => resOk (if 31 < b.toNat then 0 else bv1 (bit a b.toNat))
  | 45 => blkRamp x
  | 46 => blkLag x
  | 47 => resOk (bv1 (numLe dt b a || (!numLe dt a c && x.out != 0)))
  | 48 => resOk (BitVec.ofNat 32 ((fld a 0 16).toNat + 65536 * (fld b 0 16).toNat))
  | _ => resOk x.out

/-- OUT, AUX and FLAGS of a first scan (R301, column First scan of R304). -/
def firstScan (btype : Nat) (edgeFirst : Bool) (x : BlockIn) : BlockIn :=
  let a := x.a.v != 0
  let b := x.b.v != 0
  let rise (now : Bool) : Bool := if edgeFirst then false else now
  let fall (now : Bool) : Bool := if edgeFirst then true else now
  let fl : BitVec 8 :=
    match btype with
    | 7 | 11 | 13 | 14 => flagsOf (rise a) false false false
    | 15 => flagsOf (rise a) (rise b) false false
    | 8 | 10 => flagsOf (fall a) false false false
    | 12 => flagsOf a false false false
    | _ => 0
  let out : BitVec 32 := if btype = 45 || btype = 46 then x.a.v else 0
  { x with out := out, aux := 0, flags := fl, dt := 0 }

/-- A condition replaces a quality when it is as bad or worse (R299). -/
def applyCond (qd : BitVec 2 × BitVec 8) (c : OwnCond) : BitVec 2 × BitVec 8 :=
  match c with
  | none => qd
  | some k => if qRank qd.1 ≤ qRank k.1 then k else qd

/-- Does a condition act on an output of this quality. -/
def condActs (qd : BitVec 2 × BitVec 8) (c : OwnCond) : Bool :=
  match c with
  | none => false
  | some k => decide (qRank qd.1 ≤ qRank k.1)

/-- Does the block measure time, so that S0 holds LOGIC_TICK (R303). -/
def measuresTime (btype : Nat) : Bool :=
  btype == 9 || btype == 10 || btype == 11 || btype == 12 || btype == 45 || btype == 46

/-- One execution of an instance: the new state record (R299, R301, R303, R645). -/
def blkExec (btype dtype : Nat) (edgeFirst : Bool) (tick : BitVec 32) (r : SRec) (a b c d : OpVal) : SRec :=
  let first := !r.live || r.stype.toNat != btype || r.sdtype.toNat != dtype
  let x0 : BlockIn := ⟨dtype, a, b, c, d, r.out, r.aux, r.flags, (tick - r.s0).toNat⟩
  let x := if first then firstScan btype edgeFirst x0 else x0
  let e := blkEval btype x
  let q0 := worstQ (usedOps btype x)
  let oq := applyCond q0 e.cond
  let aq := applyCond (applyCond q0 e.cond) e.auxCond
  let acted := condActs q0 e.cond || condActs oq e.auxCond
  let det : BitVec 8 :=
    if qRank aq.1 < qRank oq.1 then oq.2
    else if qRank oq.1 < qRank aq.1 then aq.2
    else if acted then (match e.auxCond with
      | some k => if condActs oq e.auxCond then k.2 else oq.2
      | none => oq.2)
    else oq.2
  { stype := BitVec.ofNat 6 btype
    sdtype := BitVec.ofNat 2 dtype
    outq := oq.1
    auxq := aq.1
    live := true
    detail := det
    flags := e.flags
    s0 := if measuresTime btype then tick else 0
    aux := e.aux
    out := e.out.getD x.out }

end Sys2Proof.Machine
end

