-- ==== Sys2Proof/Machine/MeterChain.lean ====
section
/-!
DEFINITION. The metering signal chain (R364 to R370), the quarter-period delay (R377) and the harmonic analysis of a
window (R388, R389). Samples are integers in units of 2^−32 of full scale (DESIGN CHOICE: log entry 11).
-/
namespace Sys2Proof.Machine

/-- A signal `n` / `d` samples before its newest sample: the sample itself where that is whole, else interpolated. -/
def delayed (h : List Int) (n d : Nat) : Int := if n % d = 0 then h.getD (n / d) 0 else Config.interpolate h n d

/-- The sample before the high-pass of a chain (R365, R376). -/
def Chain.dc (c : Chain) : Int := c.hpIn

/-- The conditioned sample of a chain as a fraction of full scale, in 2^−32 (R367). -/
def Chain.value (c : Chain) : Int := c.out.headD 0

/-- Stage 2: a delay of PHASE_CORR / 4,096 sample, on top of 8 samples that all channels have in common (R364, R365;
DESIGN CHOICE: log entry 11). -/
def phaseDelay (corr : Int) (raw : List Int) : Int := delayed raw (32768 + corr).toNat 4096

/-- The factor of a first-order high-pass with its corner at 0.5 Hz, in 2^−32: with w = π / 32,000, the corner in one
sample, it lies between 1 − w and 1 / (1 + w), as the way to make the filter discrete has it (R365; DESIGN CHOICE: log entry 11). -/
def hpFactor : Int :=
  let one : Nat := 32000 * 2 ^ 96
  let low : Nat := (one - piFix) * 2 ^ 32 / one
  let high : Nat := one * 2 ^ 32 / (one + piFix) + 1
  max low (min high Config.hpFactor)

/-- Stage 3: the first-order high-pass at 0.5 Hz (R365). -/
def highPass (y x x' : Int) : Int := divOpen (hpFactor * (y + x - x')) (2 ^ 32)

/-- Stage 4: y[n] := λ × y[n − 1] + (x[n] + x[n − 1]) / 2 with λ = 1 − 2^−11 (R369). -/
def integrate (y x x' : Int) : Int := divOpen (2047 * y + 1024 * (x + x')) 2048

/-- Normalisation of the integrator, in 2^−32: a sinusoid at the nominal frequency by NOM keeps its amplitude, twice the
tangent of half its angle per sample, the leak apart (R367, R369, R370; DESIGN CHOICE: log entry 11). -/
def rogoNorm (nom : Bool) : Int :=
  let t := turn (if nom then 60 else 50) 64000
  divOpen (2 * t.2 * 2 ^ 32) t.1.toNat

/-- Gain that undoes the leak at the tracked fundamental, by its period in 1/65,536 sample, in 2^−32: the integrator
without leak over the one with it is 1 − 2^−12 − j × 2^−12 × cot of half its angle per sample (R369, R370). -/
def leakGain (per : Nat) : Int :=
  let t := turn 65536 (2 * per)
  rootOpen (((4095 * t.2).natAbs ^ 2 + t.1.natAbs ^ 2) * 2 ^ 64) ((4096 * t.2).natAbs ^ 2)

/-- Delay that undoes the lead of the leak at the tracked fundamental, in 1/65,536 sample: φ1 = atan(15.625 / (2π × f1))
(R370). -/
def leakDelay (per : Nat) : Nat :=
  let tan : Nat := 125 * per * 2 ^ 192 / (16 * piFix * 32000 * 65536)
  searchBits (fun a => let t := turn a per; decide (4 * a ≤ per ∧ t.2 * 2 ^ 96 ≤ (tan : Int) * t.1)) 32 0 +
    (if Config.roundUp tan per then 1 else 0)

/-- The stages of R365 on one decimated sample in 2^−23 of full scale: INVERT, PHASE_CORR, ROGOWSKI, NOM. The integrator
is normalised at the nominal frequency (R367). -/
def Chain.step (invert : Bool) (corr : Int) (rogo nom : Bool) (c : Chain) (sample : Int) : Chain :=
  let raw := ((if invert then -sample else sample) * 512 :: c.raw).take 18
  let x := phaseDelay corr raw
  let y := highPass c.hpOut x c.hpIn
  let i := if rogo then integrate c.intOut y c.intIn else 0
  let v := if rogo then divOpen (rogoNorm nom * i) (2 ^ 32) else y
  ⟨raw, x, y, if rogo then y else 0, i, (v :: c.out).take 256⟩

/-- The conditioned sample with the gain and phase of the leak corrected at the tracked fundamental, whose period is in
1/65,536 sample: a delay undoes the lead of the leak (R370). -/
def Chain.corrected (rogo : Bool) (per : Nat) (c : Chain) : Int :=
  if rogo then divOpen (leakGain per * delayed c.out (leakDelay per) 65536) (2 ^ 32) else c.value

/-- The conditioned sample a quarter of the tracked period earlier (R377). -/
def Chain.quarter (per : Nat) (c : Chain) : Int := delayed c.out per 262144

/-! ### Harmonic analysis (R388, R389) -/

/-- The complex product. -/
def cmul (a b : Int × Int) : Int × Int := (a.1 * b.1 - a.2 * b.2, a.1 * b.2 + a.2 * b.1)

/-- Square of a phasor's length. -/
def norm2 (z : Int × Int) : Int := z.1 * z.1 + z.2 * z.2

/-- Cosine and sine of n / 4,096 turn in 2^−30. -/
def tableTurn (n : Nat) : Int × Int :=
  let t := turn n 4096
  (divOpen t.1 (2 ^ 66), divOpen t.2 (2 ^ 66))

/-- Weight of a sample `a` / 2^28 of a sample away, in 2^−30: sin(πx) / (πx), tapered by an open window (R388;
DESIGN CHOICE: log entry 11). -/
def bandLimited (a : Nat) : Int :=
  if a = 0 then 2 ^ 30
  else
    let s := (turn a (2 * 4096 * 65536)).2
    divOpen (s * ((min (2 ^ 30) (Config.taper a) * 4096 * 65536 : Nat) : Int)) (piFix * a)

/-- Point n of a window of a length in 1/65,536 sample resampled to 4,096 points by band-limited interpolation (R388). -/
def resample (samples : List Int) (len n : Nat) : Int :=
  divOpen ((samples.zipIdx.map (fun x => x.1 * bandLimited ((n * len : Int) - x.2 * 4096 * 65536).natAbs)).sum) (2 ^ 30)

/-- Correction of the leak at bin k of a window of a length in 1/65,536 sample, real and imaginary part in 2^−30 (R370, R388). -/
def leakAt (k len : Nat) : Int × Int :=
  if k = 0 then Config.leakDc
  else
    let t := turn (65536 * k) (2 * len)
    (4095 * 2 ^ 18, -divOpen (t.1 * 2 ^ 18) t.2.toNat)

/-- Bin k of the rectangular-window DFT over the window resampled to 4,096 points, the leak corrected at the bin's own
frequency. -/
def Window.bin (w : Window) (k : Nat) : Int × Int :=
  let s := (List.range 4096).foldl (fun (a : Int × Int) n =>
    let x := resample w.samples w.len n
    let t := tableTurn (k * n % 4096)
    (a.1 + x * t.1, a.2 - x * t.2)) (0, 0)
  cmul s (if w.rogo then leakAt k w.len else (2 ^ 30, 0))

/-- Unit of a bin: 4,096 points, samples in 2^−32, the tables of the transform and of the leak in 2^−30. -/
def binUnit : Nat := 4096 * 2 ^ 92

/-- C²(k), RMS, in fractions of full scale times the square of the unit. -/
def Window.c2 (w : Window) (k : Nat) : Int := (if k = 0 then 1 else 2) * norm2 (w.bin k)

/-- Twice G_h², in the same terms; G_0 is the DC bin alone. -/
def Window.g2 (w : Window) (h : Nat) : Int :=
  if h = 0 then 2 * w.c2 0
  else
    let lo := h * w.ncyc - w.ncyc / 2
    w.c2 lo + 2 * ((List.range (w.ncyc - 1)).map (fun i => w.c2 (lo + 1 + i))).sum + w.c2 (lo + w.ncyc)

/-- The fundamental of a window. -/
def Window.fund (w : Window) : Int × Int := w.bin w.ncyc

/-- A finite binary32 value as a fraction. -/
def f32Frac (x : BitVec 32) : Int × Nat :=
  match f32Decode x with
  | .fin neg m e =>
    let s : Int := if neg then -1 else 1
    if 0 ≤ e then (s * m * 2 ^ e.toNat, 1) else (s * m, 2 ^ (-e).toNat)
  | _ => (0, 1)

/-- The binary32 value at or next below m × 2^e, and whether it equals it. -/
def f32Down (m : Nat) (e : Int) : BitVec 32 × Bool :=
  let q : Int := max (e + (Nat.log2 m : Int) - 23) (-149)
  let s := (q - e).toNat
  if q ≤ e then (f32Round false m e false, true) else (f32Round false (m >>> s) q false, m % 2 ^ s == 0)

/-- The square root of n / d as binary32: itself where it is one, else one of the two beside it; the manual states no
value for a quotient by 0 or below 0 (R376; DESIGN CHOICE: log entry 11). -/
def f32Root (n : Int) (d : Nat) : BitVec 32 :=
  if n < 0 ∨ d = 0 then Config.f32Sqrt n d
  else
    let k := 64 + Nat.log2 d
    let m := isqrt ((n.toNat <<< (2 * k)) / d)
    let x := f32Down m (-(k : Int))
    if (x.2 && m * m * d == n.toNat <<< (2 * k)) || x.1 == f32Inf false || !Config.roundUp n d then x.1 else x.1 + 1

/-- GROUP: G_h in A or V by the channel's FS (R389). -/
def Window.group (w : Window) (fs : BitVec 32) (h : Nat) : BitVec 32 :=
  let f := f32Frac fs
  f32Root (w.g2 h * f.1 * f.1) (2 * binUnit ^ 2 * f.2 * f.2)

/-- COMP: C(h × NCYC). -/
def Window.comp (w : Window) (fs : BitVec 32) (h : Nat) : BitVec 32 :=
  let f := f32Frac fs
  f32Root (w.c2 (h * w.ncyc) * f.1 * f.1) (binUnit ^ 2 * f.2 * f.2)

/-- PHASE: of COMP relative to the fundamental of the set's tracking phase. DEDUCED: log entry 105. -/
def Window.phase (w : Window) (ref : Int × Int) (h : Nat) : BitVec 16 :=
  let z := w.bin (h * w.ncyc)
  BitVec.ofInt 16 (angleOf z.1 z.2 - angleOf ref.1 ref.2)

/-- THD up to an order: √(Σ G_h², h = 2 on) / G_1 (R376). -/
def Window.thd (w : Window) (top : Nat) : BitVec 32 :=
  f32Root ((List.range (top - 1)).map (fun i => w.g2 (i + 2))).sum (w.g2 1).toNat

end Sys2Proof.Machine
end

