-- ==== Sys2Proof/Machine/Metering.lean ====
section
/-!
DEFINITION. The metering engine (R362 to R409): samples, periods and windows, quantities and their quality, energy
accumulators, set and sensor supervision, saves, pulse outputs and configuration entries.
-/
namespace Sys2Proof.Machine

/-! ### Configuration (R403) -/

def MChan.fs (c : MChan) : BitVec 32 := fld c.cfg 384 32
def MChan.rMin (c : MChan) : Nat := (fld c.cfg 352 32).toNat
def MChan.qmask (c : MChan) : BitVec 16 := fld c.cfg 320 16
def MChan.qptBase (c : MChan) : Nat := (fld c.cfg 303 17).toNat
def MChan.gain (c : MChan) : Nat := (fld c.cfg 13 3).toNat
def MChan.sensor (c : MChan) : Nat := (fld c.cfg 11 2).toNat
def MChan.set1 (c : MChan) : Nat := (fld c.cfg 10 1).toNat
def MChan.vph (c : MChan) : Nat := (fld c.cfg 8 2).toNat
def MChan.invert (c : MChan) : Bool := bit c.cfg 7
def MChan.revCheck (c : MChan) : Bool := bit c.cfg 6
def MChan.en (c : MChan) : Bool := bit c.cfg 0

/-- RW fields of the channel, pulse and engine entries. -/
def mchanMask : BitVec 512 :=
  maskOf 512 [(384, 32), (352, 32), (336, 16), (320, 16), (303, 17), (13, 3), (11, 2), (10, 1), (8, 2), (7, 1), (6, 1), (0, 1)]
def pulseMask : BitVec 512 := maskOf 512 [(448, 64), (376, 72), (336, 8), (333, 3), (332, 1), (0, 1)]
def engineMask : BitVec 512 := maskOf 512 [(480, 32), (464, 16), (448, 16), (5, 1), (4, 1), (3, 1), (2, 1)]

/-- Is an index a voltage channel (R362). -/
def isVolt (c : Nat) : Bool := decide (72 ≤ c ∧ c ≤ 77)

/-- The set of a channel (R372). -/
def Dev.setOf (d : Dev) (c : Nat) : Nat := if isVolt c then (c - 72) / 3 else (d.mchan c).set1

/-- The voltage channel that forms power with a current channel (R363). -/
def Dev.voltOf (d : Dev) (c : Nat) : Option Nat :=
  let m := d.mchan c
  if isVolt c ∨ m.vph = 0 then none else some (72 + 3 * m.set1 + (m.vph - 1))

/-- VNOM in V, NOM, and the samples of a fixed period of a set (R374). -/
def Dev.vnom (d : Dev) (x : Nat) : Nat := (fld d.mt.engine (464 - 16 * x) 16).toNat
def Dev.nom (d : Dev) (x : Nat) : Bool := bit d.mt.engine (4 + x)
def Dev.fixedPer (d : Dev) (x : Nat) : Nat := if d.nom x then 533 else 640
def Dev.ncyc (d : Dev) (x : Nat) : Nat := if d.nom x then 12 else 10

/-- Enabled channels of a set, voltage channels first. -/
def Dev.setChans (d : Dev) (x : Nat) : List Nat :=
  let ks := (d.mt.chans.filter (fun c => c.2.en && d.setOf c.1 == x)).map (·.1)
  ks.filter isVolt ++ ks.filter (fun c => !isVolt c)

/-! ### Samples (R364 to R370, R377) -/

def MChan.phaseCorr (c : MChan) : Int := (fld c.cfg 336 16).toInt
def MChan.rogo (c : MChan) : Bool := c.sensor == 2

/-- Period of a set's tracked fundamental in 1/65,536 sample; the fixed one without synchronisation (R370, R374, R377). -/
def Dev.trackedPer (d : Dev) (x : Nat) : Nat :=
  if (d.vset x).sync then (d.vset x).periods.headD (65536 * d.fixedPer x) else 65536 * d.fixedPer x

/-- Sums after one more sample: own value, voltage, delayed voltage, value before the high-pass, clipped, and the
actual sample length in 10^−9 of the nominal one. -/
def Sums.add (s : Sums) (i v vq dc : Int) (clip : Bool) (ts : Nat) : Sums :=
  ⟨s.n + 1, s.ii + i * i, s.vv + v * v, s.p + i * v, s.q + i * vq, s.dc + dc, s.clipped || clip,
    s.ts + ts, s.pt + i * v * ts, s.qt + i * vq * ts⟩

/-- One decimated sample of a channel, in units of 2^−23 of full scale (R365 to R370, R377, R388). -/
def meterSample (c : Nat) (raw : Int) (d : Dev) : Dev :=
  let m := d.mchan c
  let x := d.setOf c
  let per := d.trackedPer x
  let ch := m.chain.step m.invert m.phaseCorr m.rogo (d.nom x) raw
  let i := ch.corrected m.rogo per
  let vs : Int × Int := match d.voltOf c with
    | none => (0, 0)
    | some v => ((d.mchan v).chain.value, (d.mchan v).chain.quarter per)
  let clip := decide (8388608 ≤ raw.natAbs)
  let ts := (1000000000 + d.tb.corrPpb).toNat
  d.setMchan c { m with
    chain := ch
    win := ch.value :: m.win
    per := m.per.add i vs.1 vs.2 ch.dc clip ts
    wnd := m.wnd.add i vs.1 vs.2 ch.dc clip ts }

/-! ### Sensor conditions (R393, R394) -/

/-- SSTATE codes (R403). -/
def Sensor.code : Sensor → BitVec 8
  | .ok => 0
  | .openWire => 1
  | .short => 2
  | .leadFault => 3
  | .reversed => 4

/-- RDC_MOHM of a mean, in steps of its resolution of 50 mΩ (R394). -/
def rdcOf (sum : Int) : Nat := (50 * divOpen sum 50).toNat

/-- RDC_MOHM (R394, R403). -/
def MChan.rdc (m : MChan) : BitVec 32 :=
  if m.cond = .openWire then 0xFFFFFFFF else satNat 32 (m.rdcMean.getD 0)

/-- The rows of R393 for a channel, in order: condition, set, cleared. -/
def MChan.condRows (m : MChan) (volt : Bool) : List (Sensor × Bool × Bool) :=
  let low := match m.rdcMean with
    | some r => decide (r < m.rMin)
    | none => false
  let high := match m.rdcMean with
    | some r => decide (m.rMin * 5 ≤ r * 4)
    | none => false
  [(.leadFault, m.leadRun == 10, m.leadClr == 10), (.openWire, m.openRun == 10, m.openClr == 10)] ++
    (if m.sensor != 0 && m.rMin != 0 then [(.short, low, high)] else []) ++
    (if !volt && m.revCheck then [(.reversed, m.revRun == 3, m.revClr == 3)] else [])

/-- The rows that hold: set, or set before and not cleared. -/
def MChan.condsHeld (m : MChan) (volt : Bool) : List Sensor :=
  ((m.condRows volt).filter (fun x => x.2.1 || (m.held.contains x.1 && !x.2.2))).map (·.1)

/-- The condition that the counts give, the first row that holds (R393). -/
def MChan.condDue (m : MChan) (volt : Bool) : Sensor := if m.en then (m.condsHeld volt).headD .ok else m.cond

/-- Keep the rows that hold, after a frame or a window. -/
def sensorHold (c : Nat) (m : MChan) : MChan := if m.en then { m with held := m.condsHeld (isVolt c) } else m

/-- The sensor condition of a channel changes to the one that its counts give (R393, R409). -/
def sensorCondition (c : Nat) (d : Dev) : Dev :=
  let m := d.mchan c
  let x := m.condDue (isVolt c)
  if x = m.cond then d
  else
    report (match x with
      | .ok => ev 0x0909 false c 0
      | .openWire => ev 0x0905 true c 0
      | .short => ev 0x0906 true c ({ m with cond := x }).rdc.toNat
      | .leadFault => ev 0x0907 true c (if m.leadN then 1 else 0)
      | .reversed => ev 0x0908 true c 0) (d.setMchan c { m with cond := x })

/-- One frame of the slow converter: differential in µV, the pins P and N in mV (R393, R394). -/
def sensorFrame (c : Nat) (diff pP pN : Int) (d : Dev) : Dev :=
  let m := d.mchan c
  let g := diff.natAbs * 2 ^ m.gain
  let outP := decide (1000 < pP.natAbs)
  let outN := decide (1000 < pN.natAbs)
  let sum := m.rdcSum + diff
  let full := decide (m.rdcN + 1 = 1000)
  d.setMchan c (sensorHold c { m with
    leadRun := runStep 10 (outP || outN) m.leadRun
    leadClr := runStep 10 (decide (pP.natAbs < 800 ∧ pN.natAbs < 800)) m.leadClr
    leadN := if outP || outN then outN && !outP else m.leadN
    openRun := runStep 10 (decide (250000 < g)) m.openRun
    openClr := runStep 10 (decide (g < 125000)) m.openClr
    rdcSum := if full then 0 else sum
    rdcN := if full then 0 else m.rdcN + 1
    rdcMean := if full then some (rdcOf sum) else m.rdcMean })

/-! ### Quality of quantities (R380, R381) -/

/-- Has a rogowski channel not settled yet: 500 whole frames follow the one in which EN was applied (R381). -/
def MChan.settling (m : MChan) : Bool := m.rogo && decide (m.age < 501)

/-- Quality of a channel's own quantity: over a window or a period. -/
def ownQuality (d : Dev) (c : Nat) (wnd : Bool) : BitVec 2 × BitVec 8 :=
  let m := d.mchan c
  let x := m.condDue (isVolt c)
  let clip := if wnd then m.lastWnd.clipped else m.lastPer.clipped
  let complete := if wnd then m.wndDone else m.perDone
  if m.memBad then (2, 0x0C)
  else if x = .openWire then (2, 0x09)
  else if x = .short then (2, 0x0A)
  else if x = .leadFault then (2, 0x81)
  else if !complete || m.settling then (3, 0x02)
  else if clip then (1, 0x03)
  else if x = .reversed then (1, 0x0B)
  else if wnd && !(d.vset (d.setOf c)).sync then (1, 0x80)
  else (0, 0)

/-- Quality of a power quantity: the worse of the current's and the voltage's (R380). -/
def powerQuality (d : Dev) (c : Nat) (wnd : Bool) : BitVec 2 × BitVec 8 :=
  let a := ownQuality d c wnd
  match d.voltOf c with
  | none => (3, 0x02)
  | some v =>
    let b := ownQuality d v wnd
    if qRank a.1 < qRank b.1 then b else a

/-! ### Quantities (R376, R377) -/

/-- RMS of a channel's samples in A or V, by its FS (R367, R376). -/
def rmsOf (s : Sums) (fs : BitVec 32) : BitVec 32 :=
  let f := f32Frac fs
  f32Root (s.ii * f.1 * f.1) (s.n * 2 ^ 64 * f.2 * f.2)

/-- Does the RMS of sums exceed `n` / `d` V, or lie below. -/
def rmsAbove (s : Sums) (fs : BitVec 32) (n d : Nat) : Bool :=
  let f := f32Frac fs
  decide (((n * n * s.n * 2 ^ 64 * f.2 * f.2 : Nat) : Int) < s.ii * f.1 * f.1 * (d * d))
def rmsBelow (s : Sums) (fs : BitVec 32) (n d : Nat) : Bool :=
  let f := f32Frac fs
  decide (s.ii * f.1 * f.1 * (d * d) < ((n * n * s.n * 2 ^ 64 * f.2 * f.2 : Nat) : Int))

/-- Does S lie below 0.5 % of FS_I × FS_V / 2 (R377). -/
def pfSmall (s : Sums) : Bool := decide (s.ii * s.vv * 160000 < ((s.n * s.n * 2 ^ 128 : Nat) : Int))

/-- Value of a power quantity k = 1 P, 2 Q, 3 S, 4 PF over sums, by the FS of current and voltage (R376, R377). -/
def powerValue (k : Nat) (s : Sums) (fsI fsV : BitVec 32) : BitVec 32 :=
  let a := f32Frac fsI
  let b := f32Frac fsV
  let f := a.1 * b.1
  let g := a.2 * b.2
  match k with
  | 1 => f32Ratio (s.p * f) (s.n * 2 ^ 64 * g)
  | 2 => f32Ratio (s.q * f) (s.n * 2 ^ 64 * g)
  | 3 => f32Root (s.ii * s.vv * f * f) (s.n * s.n * 2 ^ 128 * g * g)
  | _ =>
    if pfSmall s then 0
    else
      let r := f32Root (s.p * s.p) (s.ii * s.vv).toNat
      if s.p < 0 then r ^^^ 0x80000000 else r

/-- Put a quantity into the channel's table for the next phase A. -/
def duePut (c q : Nat) (v : BitVec 32) (qual : BitVec 2 × BitVec 8) (d : Dev) : Dev :=
  let m := d.mchan c
  if bit m.qmask q then d.setMchan c { m with due := tset none m.due q (some ⟨v, qual.1, qual.2, d.cal⟩) } else d

/-- The quantities 0 to 4 of a period, or 5 to 9 of a window, of a channel. -/
def dueRms (c : Nat) (wnd : Bool) (d : Dev) : Dev :=
  let m := d.mchan c
  let s := if wnd then m.lastWnd else m.lastPer
  let base := if wnd then 5 else 0
  let d := duePut c base (rmsOf s m.fs) (ownQuality d c wnd) d
  match d.voltOf c with
  | none => d
  | some v =>
    let q := powerQuality d c wnd
    let fsV := (d.mchan v).fs
    [1, 2, 3, 4].foldl (fun d k =>
      duePut c (base + k) (powerValue k s m.fs fsV) (if k = 4 ∧ pfSmall s = true ∧ qRank q.1 = 0 then (1, 0x04) else q) d) d

/-- Mean before the high-pass in A or V (quantity 13). -/
def dcValue (m : MChan) : BitVec 32 :=
  let f := f32Frac m.fs
  f32Ratio (m.lastWnd.dc * f.1) (m.lastWnd.n * 2 ^ 32 * f.2)

/-- The window that a channel of a set has sampled, of the set's length (R374, R388). -/
def Dev.window (d : Dev) (c : Nat) : Window :=
  let x := d.setOf c
  ⟨(d.mchan c).win.reverse, (d.vset x).winLen, d.ncyc x, (d.mchan c).rogo⟩

/-- The window quantities of a channel beside RMS and power: FREQ of the window is `hz`. -/
def dueWindow (c : Nat) (hz : BitVec 32) (d : Dev) : Dev :=
  let m := d.mchan c
  let q := ownQuality d c true
  let w := d.window c
  let d := dueRms c true d
  let d := duePut c 10 (w.thd 40) q d
  let d := duePut c 11 (w.thd 127) q d
  let d := duePut c 12 (w.group m.fs 1) q d
  let d := duePut c 13 (dcValue m) q d
  let d := if isVolt c then duePut c 14 hz q d else d
  if c = 72 ∨ c = 75 then duePut c 15 ((d.vset ((c - 72) / 3)).seq.setWidth 32) q d else d

/-! ### Energy (R382 to R385) -/

/-- Increments of one stretch of samples of a length in 1/65,536 sample, in units of 2^−32 count, by accumulator: each
sample's actual length counts, and for the apparent energy the duration of the stretch at their mean (R383). -/
def energyOf (s : Sums) (len : Nat) (fsI fsV : BitVec 32) : List (Nat × Nat) :=
  let a := f32Frac fsI
  let b := f32Frac fsV
  let f := (a.1 * b.1).natAbs
  let g := a.2 * b.2
  let den := 2 ^ 32 * g * 32 * 1000000000
  let up (n : Nat) : Nat := n / den + (if n % den ≠ 0 ∧ Config.roundUp n den = true then 1 else 0)
  let act := if 0 ≤ s.pt then 0 else 1
  let quad := if 0 ≤ s.pt then (if 0 ≤ s.qt then 2 else 5) else (if 0 ≤ s.qt then 3 else 4)
  let sq := (s.ii * s.vv).toNat * (f * len * s.ts) ^ 2
  let dd := (s.n * s.n * 65536 * den) ^ 2
  let app := rootOpen sq dd
  [(act, up (s.pt.natAbs * f)), (quad, up (s.qt.natAbs * f)), (6, app)]

/-- Add an increment to an accumulator and its residue (R383). -/
def Acc.add (a : Acc) (j inc : Nat) : Acc :=
  let sum := (tget 0 a.residue j).toNat + inc
  { a with
    residue := tset 0 a.residue j (BitVec.ofNat 32 sum)
    acc := tset 0 a.acc j (tget 0 a.acc j + BitVec.ofNat 96 (sum / 2 ^ 32)) }

/-- The accumulators with the increments of a stretch. -/
def Acc.addAll (a : Acc) (incs : List (Nat × Nat)) : Acc := incs.foldl (fun a x => a.add x.1 x.2) a

/-- ACC, CH_MASK, CONST, WIDTH_MS, POL and EN of a pulse output (R403). -/
def Pulse.accSel (p : Pulse) : Nat := (fld p.cfg 333 3).toNat
def Pulse.chMask (p : Pulse) : BitVec 72 := fld p.cfg 376 72
def Pulse.const (p : Pulse) : Nat := (fld p.cfg 448 64).toNat
def Pulse.width (p : Pulse) : Nat := (fld p.cfg 336 8).toNat
def Pulse.pol (p : Pulse) : Bool := bit p.cfg 332
def Pulse.en (p : Pulse) : Bool := bit p.cfg 0

/-- One increment of a channel reaches the pulse outputs (R401, R402). -/
def pulseAccrue (c : Nat) (incs : List (Nat × Nat)) (d : Dev) : Dev :=
  (List.range 8).foldl (fun d k =>
    let p := d.pulse k
    if p.en && bit p.chMask c then
      let n := ((incs.filter (fun x => x.1 == p.accSel)).map (·.2)).sum
      let unit := max (p.const * 2 ^ 32) 1
      let a := p.accrual + n
      let b := satAdd p.backlog (a / unit)
      let d := d.setPulse k { p with accrual := a % unit, backlog := b }
      if p.backlog.toNat < 100 ∧ 100 ≤ b.toNat then reportLimited (78 + k) 1 (ev 0x0910 true (78 + k) b.toNat) d else d
    else d) d

/-- Energy of one period of a current channel (R383, R384, R401). -/
def periodEnergy (c : Nat) (d : Dev) : Dev :=
  match d.voltOf c with
  | none => d
  | some v =>
    let a := d.acc c
    let m := d.mchan c
    if a.begun then
      let incs := energyOf m.lastPer m.lastLen m.fs (d.mchan v).fs
      pulseAccrue c incs (d.setAcc c { a.addAll incs with periods := a.periods + 1 })
    else if m.left then d.setAcc c { a with begun := true, startFrame := d.tb.frame }
    else d

/-- Energy accumulates while the channel or its voltage channel has a sensor condition: SUSPECT (R385). -/
def suspectMark (c : Nat) (d : Dev) : Dev :=
  match d.voltOf c with
  | none => d
  | some v =>
    let a := d.acc c
    if a.begun && !a.suspect && ((d.mchan c).condDue false != .ok || (d.mchan v).condDue true != .ok) then
      d.setAcc c { a with suspect := true }
    else d

/-! ### Periods and windows (R372 to R374, R379 to R381, R388 to R392) -/

/-- The period of a channel ends after a length in 1/65,536 sample. -/
def chanPeriod (c len : Nat) (d : Dev) : Dev :=
  let m := d.mchan c
  let d := d.setMchan c { m with
    lastPer := m.per, lastLen := len, per := Sums.zero, perDone := m.perDone || m.perOpen, perOpen := true }
  let d := if m.perOpen then dueRms c false d else d
  periodEnergy c d

/-- conj(a) × b. -/
def conjMul (a b : Int × Int) : Int × Int := (a.1 * b.1 + a.2 * b.2, a.1 * b.2 - a.2 * b.1)

/-- Does b lag a by 120° ± 20° (`lag`), or lead it so: by the cube of their quotient, which turns by 360°. -/
def lags120 (a b : Int × Int) (lag : Bool) : Bool :=
  let w := conjMul a b
  let re3 := w.1 * w.1 * w.1 - 3 * w.1 * w.2 * w.2
  decide (0 ≤ re3 ∧ norm2 w ^ 3 ≤ 4 * re3 * re3 ∧ w.1 < 0) && (if lag then decide (w.2 < 0) else decide (0 < w.2))

/-- Fundamentals of the three phases of a set in V over √2 times the unit of a bin and a common denominator, with that
denominator: each bin is scaled by its channel's FS. -/
def Dev.setFunds (d : Dev) (x : Nat) : List (Int × Int) × Nat :=
  let cs := [0, 1, 2].map (fun i => 72 + 3 * x + i)
  let den := (cs.map (fun c => (f32Frac (d.mchan c).fs).2)).foldl (· * ·) 1
  (cs.map (fun c =>
    let f := f32Frac (d.mchan c).fs
    let z := (d.window c).fund
    let k := f.1 * ((den / f.2 : Nat) : Int)
    (z.1 * k, z.2 * k)), den)

/-- Square of VNOM of a set in the terms of `setFunds`, halved as the phasors are. -/
def Dev.vnomSq (d : Dev) (x den : Nat) : Int := ((d.vnom x * binUnit * den : Nat) : Int) ^ 2

/-- The phase-sequence class of a window: 0 UNDEFINED, 1 POSITIVE, 2 NEGATIVE (R390). -/
def seqClass (d : Dev) (x : Nat) : BitVec 2 :=
  let fs := d.setFunds x
  let a := fs.1.getD 0 (0, 0)
  let b := fs.1.getD 1 (0, 0)
  let c := fs.1.getD 2 (0, 0)
  if [0, 1, 2].all (fun i => (d.mchan (72 + 3 * x + i)).en) then
    if fs.1.all (fun f => decide (d.vnomSq x fs.2 < 8 * norm2 f)) then
      if lags120 a b true && lags120 a c false then 1
      else if lags120 a b false && lags120 a c true then 2
      else 0
    else 0
  else 0

/-- Phase sequence at a window end (R390). -/
def seqWindow (x : Nat) (d : Dev) : Dev :=
  let s := d.vset x
  let k := seqClass d x
  let run := if k = s.seqCand then min (s.seqRun + 1) 3 else 1
  let d := d.setVset x { s with seqCand := k, seqRun := run, seq := if run = 3 then k else s.seq }
  if run = 3 ∧ k ≠ s.seq then report (ev 0x090C (k == 2) (72 + 3 * x) k.toNat) d else d

/-- Neutral supervision at a window end (R391); a set without an enabled phase is not judged. -/
def neutralWindow (x : Nat) (d : Dev) : Dev :=
  if [0, 1, 2].all (fun i => !(d.mchan (72 + 3 * x + i)).en) then d else
  let s := d.vset x
  let fs := d.setFunds x
  let f (i : Nat) : Int × Int := fs.1.getD i (0, 0)
  let sub (a b : Int × Int) : Int × Int := (a.1 - b.1, a.2 - b.2)
  let v2 := d.vnomSq x fs.2
  let z := norm2 ((f 0).1 + (f 1).1 + (f 2).1, (f 0).2 + (f 1).2 + (f 2).2)
  let ll (p : Int × Int) : Bool := decide (3 * 81 * v2 ≤ 200 * norm2 p ∧ 200 * norm2 p ≤ 3 * 121 * v2)
  let set_ := decide (9 * 4 * v2 < 200 * z) && ll (sub (f 0) (f 1)) && ll (sub (f 1) (f 2)) && ll (sub (f 2) (f 0))
  let clr := decide (200 * z < 9 * v2)
  let nRun := runStep 5 set_ s.nRun
  let nClr := runStep 5 clr s.nClr
  let s' := { s with nRun := nRun, nClr := nClr }
  if nRun = 5 ∧ !s.neutralLost then
    report (ev 0x090D true (72 + 3 * x) 0) (d.setVset x { s' with neutralLost := true })
  else if nClr = 5 ∧ s.neutralLost then
    report (ev 0x090E false (72 + 3 * x) 0) (d.setVset x { s' with neutralLost := false })
  else d.setVset x s'

/-- Loss of one voltage of a set at a window end (R392). -/
def voltageWindow (x : Nat) (d : Dev) : Dev :=
  let v := d.vnom x
  [0, 1, 2].foldl (fun d i =>
    let c := 72 + 3 * x + i
    let m := d.mchan c
    let high (k : Nat) : Bool :=
      let m := d.mchan k
      m.en && rmsAbove m.lastWnd m.fs (8 * v) 10
    let others := ([0, 1, 2].filter (fun j => j ≠ i)).map (fun j => 72 + 3 * x + j)
    if !m.en || !m.wndDone then d
    else
      let lost := rmsBelow m.lastWnd m.fs v 10 && others.all high
      let d := d.setMchan c { m with lost := lost }
      if lost && !m.lost then report (ev 0x090F true c 0) d else d) d

/-- Reversed-sensor test of a window: fundamental P_1 < −0.5 × S_1 and G_1 above 5 % of FS (R393). -/
def reverseWindow (c : Nat) (d : Dev) : Dev :=
  let m := d.mchan c
  match d.voltOf c with
  | none => d
  | some v =>
    if !m.revCheck then d else
    let w := d.window c
    let i := w.fund
    let u := (d.window v).fund
    let p := (conjMul i u).1
    let rev := decide (p < 0 ∧ norm2 i * norm2 u < 4 * p * p ∧ 2 * ((binUnit : Nat) : Int) ^ 2 < 400 * w.g2 1)
    d.setMchan c (sensorHold c { m with revRun := runStep 3 rev m.revRun, revClr := runStep 3 (!rev) m.revClr })

/-- The window of a channel ends; FREQ of the window is `hz`, `ref` the fundamental of the set's tracking phase. -/
def chanWindow (c : Nat) (hz : BitVec 32) (ref : Int × Int) (d : Dev) : Dev :=
  let m := d.mchan c
  let d := d.setMchan c { m with lastWnd := m.wnd, wndDone := m.wndDone || m.wndOpen }
  let d := if m.wndOpen then
      let d := reverseWindow c d
      let d := dueWindow c hz d
      let q := ownQuality d c true
      let m := d.mchan c
      d.setMchan c { m with windows := m.windows + 1, harmDue := some (d.window c, ref, q.1, q.2) }
    else d
  d.setMchan c { d.mchan c with wnd := Sums.zero, wndOpen := true }

/-- The running window of a set ends (R374, R376, R390 to R392). -/
def windowEnd (x : Nat) (d : Dev) : Dev :=
  let s := d.vset x
  let hz := if s.winLen = 0 then 0 else f32Ratio ((s.winPer * 65536 * 32000 : Nat) : Int) s.winLen
  let d := seqWindow x d
  let d := neutralWindow x d
  let ref := (d.window (72 + 3 * x + (s.phase - 1))).fund
  let ks := d.setChans x
  let d := ks.foldl (fun d c => chanWindow c hz ref d) d
  let d := ks.foldl (fun d c => d.setMchan c { d.mchan c with win := [] }) d
  let d := voltageWindow x d
  d.setVset x { d.vset x with winPer := 0, winLen := 0, winCut := false, freq := if s.sync then hz else 0 }

/-- A period of a set ends after a length in 1/65,536 sample (R374, R383). -/
def periodEnd (x len : Nat) (d : Dev) : Dev :=
  let d := (d.setChans x).foldl (fun d c => chanPeriod c len d) d
  let s := d.vset x
  let s := { s with perN := 0, winPer := s.winPer + 1, winLen := s.winLen + len }
  let d := d.setVset x s
  if s.winCut || decide (d.ncyc x ≤ s.winPer) then windowEnd x d else d

/-- Object of a set's events (R409). -/
def setObj (x : Nat) : Nat := 72 + 3 * x

/-- A set leaves synchronisation (R373, R374). -/
def syncLost (x : Nat) (d : Dev) : Dev :=
  let s := d.vset x
  if s.sync then
    report (ev 0x090A true (setObj x) 0) (d.setVset x { s with sync := false, winCut := true, freq := 0 })
  else d

/-- A set gains synchronisation. -/
def syncGained (x : Nat) (d : Dev) : Dev :=
  let s := d.vset x
  if s.sync then d
  else report (ev 0x090B false (setObj x) 0) (d.setVset x { s with sync := true, winCut := true })

/-- Is a period of a set in the tracking range (R373). -/
def inRange (nom : Bool) (len : Nat) : Bool :=
  if nom then decide (51 * len ≤ 32000 * 65536 ∧ 32000 * 65536 ≤ 69 * len)
  else decide (425 * len ≤ 320000 * 65536 ∧ 320000 * 65536 ≤ 575 * len)

/-- Does a phase of a set exceed 10 % of VNOM over its last period (R372, R373). -/
def Dev.phaseOk (d : Dev) (x i : Nat) : Bool :=
  let m := d.mchan (72 + 3 * x + i)
  m.en && rmsAbove m.lastPer m.fs (d.vnom x) 10

/-- Does a phase of a set lie below 10 % of VNOM, or is it off (R372). -/
def Dev.phaseLow (d : Dev) (x i : Nat) : Bool :=
  let m := d.mchan (72 + 3 * x + i)
  !m.en || rmsBelow m.lastPer m.fs (d.vnom x) 10

/-- The tracking phase of a set, 1 to 3 (R372). -/
def Dev.trackPhase (d : Dev) (x : Nat) : Nat := if !d.phaseLow x 0 then 1 else if !d.phaseLow x 1 then 2 else 3

/-- Samples since frame 0: an alignment step moves the frame number, not this count (R46). -/
def Dev.sampleTime (d : Dev) : Nat := 32 * d.tb.ran + d.tb.sample

/-- Time from `a` to `b` in 1/65,536 sample, modulo 2^53 of them. -/
def crossElapsed (a b : Nat) : Nat :=
  let w := 2 ^ 32 * 32 * 65536
  (b + w - a) % w

/-- A zero crossing of a phase of a set, `frac` / 65,536 of a sample after now: the first crossing of a new tracking
phase ends no period between crossings and leaves the last ones as they are (R372 to R374). DEDUCED: log entry 106. -/
def meterZeroCrossing (x phase frac : Nat) (d : Dev) : Dev :=
  let s := d.vset x
  if phase ≠ d.trackPhase x then d
  else
    let t := d.sampleTime * 65536 + frac % 65536
    let len := match s.lastCross with
      | some a => if phase = s.phase then some (crossElapsed a t) else none
      | none => none
    let pers := match len with
      | some n => (n :: s.periods).take 4
      | none => s.periods
    let d := d.setVset x { s with lastCross := some t, periods := pers, phase := phase }
    let good := d.phaseOk x (phase - 1) && pers.length == 4 && pers.all (inRange (d.nom x))
    let was := s.sync
    let d := if good then syncGained x d else syncLost x d
    if (d.vset x).sync then periodEnd x (if was then len.getD (65536 * s.perN) else 65536 * s.perN) d else d

/-- One sample of a set: fixed periods without synchronisation, which the loss of the crossings or of the tracking
phase's level ends (R373, R374). -/
def setSample (x : Nat) (d : Dev) : Dev :=
  let now := d.sampleTime * 65536
  let late := match (d.vset x).lastCross with
    | some a => !inRange (d.nom x) (max (crossElapsed a now) (32768 * d.fixedPer x)) &&
        decide (65536 * d.fixedPer x < crossElapsed a now)
    | none => false
  let d := if late || !d.phaseOk x (d.trackPhase x - 1) then syncLost x d else d
  if (d.setChans x).isEmpty then d
  else
    let s := d.vset x
    let n := s.perN + 1
    let d := d.setVset x { s with perN := n }
    if !s.sync && decide (d.fixedPer x ≤ n) then periodEnd x (65536 * n) d else d

/-- One sample boundary of the engine: the samples of the channels (R33, R364). -/
def meterSamples (xs : List (Nat × Int)) (d : Dev) : Dev :=
  let ks := (d.mt.chans.filter (fun c => c.2.en)).map (·.1)
  let order := ks.filter isVolt ++ ks.filter (fun c => !isVolt c)
  let d := order.foldl (fun d c =>
    suspectMark c (meterSample c (((xs.find? (fun x => x.1 = c)).map (·.2)).getD 0) d)) d
  setSample 1 (setSample 0 d)

/-! ### Commit in phase A (R379, R389) -/

/-- The quantities of a channel that are due, ascending in q. -/
def MChan.dueList (m : MChan) : List (Nat × Quant) := m.due.filterMap (fun e => e.2.map (fun q => (e.1, q)))

/-- Point of quantity q (R378). -/
def MChan.quantPoint (m : MChan) (q : Nat) : Nat := m.qptBase + bitsBelow m.qmask q

/-- Commit one quantity. -/
def quantCommit (c q : Nat) (x : Quant) (d : Dev) : Dev :=
  let p := (d.mchan c).quantPoint q
  if x.q = 3 then produceQAs 4 (16 * c + q) p x.q x.d x.cal d else produceAs 4 (16 * c + q) p (x.v.setWidth 64) x.q x.d x.cal d

/-- Replace the harmonic entries of a channel (R389). -/
def harmCommit (c : Nat) (d : Dev) : Dev :=
  let m := d.mchan c
  match m.harmDue with
  | none => d
  | some (w, ref, q, det) =>
    (List.range 128).foldl (fun d h =>
      let e : BitVec 128 := put 128 96 (w.group m.fs h) ||| put 128 64 (w.comp m.fs h) |||
        put 128 48 (w.phase ref h) ||| put 128 40 det ||| put 128 38 q ||| put 128 0 m.windows
      { d with mt := { d.mt with harm := tset harmReset d.mt.harm (128 * c + h) e } }) d

/-- After phase A nothing is due; power quantities that are not INITIAL have left it (R384). -/
def meterAfterA (d : Dev) : Dev :=
  ((d.mt.chans.filter (fun c => c.2.en)).map (·.1)).foldl (fun d c =>
    let m := d.mchan c
    let d := harmCommit c d
    d.setMchan c { m with
      due := [], harmDue := none, left := m.left || (powerQuality d c false).1 != 3 }) d

/-- One frame of age of every enabled channel (R381). -/
def meterAge (d : Dev) : Dev :=
  ((d.mt.chans.filter (fun c => c.2.en && decide (c.2.age < 501))).map (·.1)).foldl (fun d c =>
    d.setMchan c { d.mchan c with age := (d.mchan c).age + 1 }) d

/-! ### Pulse outputs (R401) -/

/-- One frame of a pulse output: the running pulse and gap grow, a pulse starts when one is due. -/
def pulseFrame (k : Nat) (d : Dev) : Dev :=
  let p := d.pulse k
  let p := { p with active := p.active.map (· + 1), gap := p.gap.map (· + 1) }
  let free := p.active.isNone && (match p.gap with
    | some g => decide (p.width ≤ g)
    | none => true)
  if p.en && p.backlog != 0 && free then
    d.setPulse k { p with active := some 0, gap := none, backlog := p.backlog - 1, pin := !p.pol }
  else d.setPulse k p

/-- A pulse ends after WIDTH_MS frames (R401). -/
def pulseEnd (k : Nat) (d : Dev) : Dev :=
  let p := d.pulse k
  match p.active with
  | some n => if p.width ≤ n then d.setPulse k { p with active := none, gap := some 0, pin := p.pol } else d
  | none => d

/-! ### Accumulator entries (R387) -/

/-- Image of an accumulator entry. -/
def Acc.image (a : Acc) : BitVec 1024 :=
  let v := (List.range 7).foldl (fun x j =>
    x ||| put 1024 (96 * j) (tget 0 a.acc j) ||| put 1024 (672 + 32 * j) (tget 0 a.residue j)) 0
  v ||| put 1024 960 a.startFrame ||| putB 1024 933 a.suspect ||| putB 1024 932 a.memRestored |||
    putB 1024 931 a.preset ||| putB 1024 930 a.restored ||| putB 1024 929 a.lossHoldup |||
    putB 1024 928 a.lossUnsaved ||| put 1024 896 a.periods

/-- Replace accumulators by a mask; the event follows (R387). -/
def accPreset (c : Nat) (mask : BitVec 7) (img : BitVec 1024) (d : Dev) : Dev :=
  if mask = 0 then d
  else
    let a := d.acc c
    let a := (List.range 7).foldl (fun a j =>
      if bit mask j then
        { a with acc := tset 0 a.acc j (fld img (96 * j) 96), residue := tset 0 a.residue j 0 }
      else a) { a with preset := true }
    report (ev 0x0912 false c mask.toNat) (d.setAcc c a)

/-- Write an accumulator entry: flags written 1 clear, then the preset (R387). -/
def accEntryWrite (c : Nat) (img : BitVec 1024) (d : Dev) : Dev :=
  let a := d.acc c
  accPreset c (fld img 953 7) img (d.setAcc c { a with
    suspect := a.suspect && !bit img 933
    memRestored := a.memRestored && !bit img 932
    preset := a.preset && !bit img 931
    lossHoldup := a.lossHoldup && !bit img 929
    lossUnsaved := a.lossUnsaved && !bit img 928 })

/-! ### Saves (R395, R396) -/

/-- Record of a channel: bits [895:0] of its entry, with the energy of the running period (R395). -/
def saveRecord (d : Dev) (c : Nat) : List Byte :=
  let a := d.acc c
  let m := d.mchan c
  let a := match d.voltOf c with
    | some v => if a.begun then a.addAll (energyOf m.per (65536 * m.per.n) m.fs (d.mchan v).fs) else a
    | none => a
  leBytes 112 a.image.toNat

/-- The 72 records of a capture. -/
def saveRecords (d : Dev) : List Byte := (List.range 72).flatMap (saveRecord d)

/-- SITE_TAG of the engine entry (R404). -/
def Dev.siteTag (d : Dev) : Reg := fld d.mt.engine 480 32

/-- Header bytes 0 to 59 of a copy (R405, R587). -/
def saveHeader (fmt : BitVec 16) (kind : Nat) (frame cal seq : W64) (tag : Reg) : List Byte :=
  let h : BitVec 480 := put 480 448 tag ||| put 480 384 cal ||| put 480 320 frame |||
    put 480 256 seq ||| put 480 208 (BitVec.ofNat 8 kind) ||| put 480 192 fmt ||| put 480 0 0x4D455452#32
  leBytes 60 h.toNat

/-- Number the bytes of a list from an address. -/
def placeBytes (base : Nat) (bs : List Byte) : List (Nat × Byte) := (List.range bs.length).zip bs |>.map (fun x => (base + x.1, x.2))

/-- Retained SRAM bytes that a command writes. -/
def Dev.store (d : Dev) (base : Nat) (bs : List Byte) : Dev := { d with wr := d.wr ++ placeBytes base bs }

/-- The copy that a save writes, copy B true: the one that does not hold the newest valid save (R395). -/
def Meter.target (m : Meter) : Bool :=
  match m.newest with
  | some x => !x
  | none => false

/-- First byte of a copy. -/
def copyBase (b : Bool) : Nat := if b then 0x2000 else 0

/-- A save begins: MAGIC = 0 in its copy (R395). -/
def saveBegin (d : Dev) : Dev := d.store (copyBase d.mt.target) [0, 0, 0, 0]

/-- Write a copy of the given kind with records captured earlier (R395). DEDUCED: log entry 59. -/
def saveCopy (kind : Nat) (records : List Byte) (frame cal : W64) (tag : Reg) (d : Dev) : Dev :=
  let b := d.mt.target
  let seq := d.mt.saveSeq + 1
  let h := saveHeader (d.format 1) kind frame cal seq tag
  let d := (saveBegin d).store (copyBase b) (h ++ leBytes 4 (crc32 (h ++ records)).toNat ++ records)
  { d with
    mt := { d.mt with saveSeq := seq, newest := some b, saveCnt := d.mt.saveCnt + 1, saveDue := none }
    bk := { d.bk with badA := d.bk.badA && b, badB := d.bk.badB && !b } }

/-- The periodic save begins at sample 0 of a frame whose number is a multiple of 1,000; the capture is made, and the
copy is complete within 120 µs (R396). -/
def periodicSave (d : Dev) : Dev :=
  if d.tb.frame.toNat % 1000 = 0 ∧ d.tb.sample = 0 ∧ d.mt.savedAt ≠ some d.tb.frame ∧ d.mt.snapDue = none then
    let d := saveBegin d
    { d with mt := { d.mt with savedAt := some d.tb.frame, saveDue := some (saveRecords d, d.tb.frame, d.cal, d.siteTag) } }
  else d

/-- The periodic save is complete at the boundary into sample 3, 93.75 µs after its sample 0 (R396; DESIGN CHOICE: log entry 107). -/
def saveSample (d : Dev) : Dev :=
  match d.mt.saveDue with
  | some (recs, frame, cal, tag) => if d.tb.sample < 3 ∧ d.tb.frame = frame then d else saveCopy 1 recs frame cal tag d
  | none => d

/-- The save of a restart (R396). -/
def restartSave (d : Dev) : Dev := saveCopy 3 (saveRecords d) d.tb.frame d.cal d.siteTag d

/-- Capture the supply-fail snapshot: a periodic save under way is abandoned and its copy taken (R395, R396). -/
def snapshotCapture (d : Dev) : Dev :=
  let d := saveBegin d
  { d with mt := { d.mt with saveDue := none, snapDue := some (saveRecords d, d.cal, d.tb.frame, d.siteTag) } }

/-- The snapshot copy is complete, this many µs after the warning (R396, R407). -/
def snapshotComplete (us : Nat) (d : Dev) : Dev :=
  match d.mt.snapDue with
  | none => d
  | some (recs, cal, frame, tag) =>
    let d := saveCopy 2 recs frame cal tag d
    let d := { d with mt := { d.mt with snapDue := none, snapUs := satNat 16 us } }
    report (ev 0x0904 false 86 (satNat 16 us).toNat) d

/-- A save copy of a format read back: SAVE_SEQ, KIND, CAL_TIME, SITE_TAG and the records, where it is valid (R395, R596).
DEDUCED: log entry 59. -/
def readCopy (fmt : BitVec 16) (ram : Nat → Byte) (b : Bool) : Option (W64 × Nat × W64 × Reg × List Byte) :=
  let base := if b then 0x2000 else 0
  let bytes := (List.range 8128).map (fun i => ram (base + i))
  let h := leBits 512 (bytes.take 64)
  let recs := bytes.drop 64
  if fld h 0 32 = 0x4D455452 ∧ fld h 192 16 = fmt ∧ fld h 480 32 = crc32 (bytes.take 60 ++ recs) then
    some (fld h 256 64, (fld h 208 8).toNat, fld h 384 64, fld h 448 32, recs)
  else none

/-- The newest valid copy of a format: copy B or not, and its content. DEDUCED: log entry 59. -/
def newestCopy (fmt : BitVec 16) (badA badB : Bool) (ram : Nat → Byte) : Option (Bool × W64 × Nat × W64 × Reg × List Byte) :=
  match (if badA then none else readCopy fmt ram false), (if badB then none else readCopy fmt ram true) with
  | none, none => none
  | some a, none => some (false, a)
  | none, some b => some (true, b)
  | some a, some b => if a.1 < b.1 then some (true, b) else some (false, a)

/-- The seven accumulators and residues of a record (R399). -/
def accOfRecord (a : Acc) (bs : List Byte) : Acc :=
  let v := leBits 896 bs
  (List.range 7).foldl (fun a j =>
    { a with acc := tset 0 a.acc j (fld v (96 * j) 96), residue := tset 0 a.residue j (fld v (672 + 32 * j) 32) }) a

/-- DATA [3:2] of 16#0902, as METER_RESTORE: COPY_BAD, RETENTION_LOST (R409). -/
def restoreCause (valid bad : Bool) : Nat := 4 * (if valid then 0 else 1) + 8 * (if bad then 1 else 0)

/-- The FORMAT of a copy whose MAGIC and CRC are right, and its SAVE_SEQ and FRAME (R395, R596). -/
def copyFormat (ram : Nat → Byte) (b : Bool) : Option (BitVec 16 × W64 × W64) :=
  let h := leBits 512 ((List.range 64).map (fun i => ram (copyBase b + i)))
  let f := fld h 192 16
  if (readCopy f ram b).isSome then some (f, fld h 256 64, fld h 320 64) else none

/-- Is a copy one that this firmware can restore from. -/
def copyUsable (own : BitVec 16) (ram : Nat → Byte) (b : Bool) : Bool := match copyFormat ram b with
  | some x => formatKnown 1 own x.1
  | none => false

/-- RETAINED_MIGRATED: an area is converted (R596, R601, R602). DESIGN CHOICE: log entry 124. -/
def migrated (area : Nat) (old new : BitVec 16) (d : Dev) : Dev :=
  report (ev 0x0F16 false 0 (2 ^ area + 2 ^ 16 * old.toNat + 2 ^ 32 * new.toNat))
    { d with upd := { d.upd with migrated := d.upd.migrated ||| putB 3 area true } }

/-- Where the newest copy has an older format that the firmware knows, it is written converted into the other copy with
SAVE_SEQ + 1; the retained bytes as they then stand (R596). -/
def migrateSaves (ram : Nat → Byte) (d : Dev) : Dev × (Nat → Byte) :=
  let own := d.format 1
  let seen (b : Bool) : Option (BitVec 16 × W64 × W64) :=
    if (if b then d.bk.badB else d.bk.badA) || !copyUsable own ram b then none else copyFormat ram b
  let newest := match seen false, seen true with
    | none, none => none
    | some a, none => some (false, a)
    | none, some b => some (true, b)
    | some a, some b => if a.2.1 < b.2.1 then some (true, b) else some (false, a)
  match newest with
  | none => (d, ram)
  | some (b, old, _, frame) =>
    if old = own then (d, ram)
    else match readCopy old ram b with
    | none => (d, ram)
    | some (seq, kind, cal, tag, recs) =>
      let recs := (Config.convertSave own old recs ++ List.replicate 8064 0).take 8064
      let h := saveHeader own kind frame cal (seq + 1) tag
      let ws := placeBytes (copyBase !b) (h ++ leBytes 4 (crc32 (h ++ recs)).toNat ++ recs)
      let d := { d with
        wr := d.wr ++ placeBytes (copyBase !b) [0, 0, 0, 0] ++ ws
        bk := { d.bk with badA := d.bk.badA && !b, badB := d.bk.badB && b } }
      (migrated 1 old own d, fun a => ((ws.find? (fun w => w.1 == a)).map (·.2)).getD (ram a))

/-- The restore at start-up; without it the newest valid copy is still known, so that the next save spares it and
continues its SAVE_SEQ (R395, R399, R407). -/
def meterRestore (ram : Nat → Byte) (d : Dev) : Dev :=
  let valid := d.bk.valid
  let own := d.format 1
  let bad := !copyUsable own ram false || !copyUsable own ram true || d.bk.badA || d.bk.badB
  match if valid then newestCopy own d.bk.badA d.bk.badB ram else none with
  | none =>
    let r : Reg := putB 32 3 bad ||| putB 32 2 (!valid)
    let old := newestCopy own d.bk.badA d.bk.badB ram
    report (ev 0x0902 true 86 (restoreCause valid bad))
      { d with mt := { d.mt with
        restore := r
        newest := old.map (·.1)
        saveSeq := match old with
          | some x => x.2.1
          | none => 0 } }
  | some (b, seq, kind, cal, tag, recs) =>
    let src : Nat := if kind ≤ 3 then kind else 0
    let d := (List.range 72).foldl (fun d c =>
      let a := accOfRecord { Acc.reset with
        restored := true, lossHoldup := kind == 2, lossUnsaved := kind == 1 } (slice recs (112 * c) 112)
      d.setAcc c a) d
    let d := { d with mt := { d.mt with
      restore := putB 32 3 bad ||| put 32 0 (BitVec.ofNat 2 src)
      restoreTime := cal, restoreTag := tag, saveSeq := seq, newest := some b } }
    report (ev 0x0901 false 86 (src + 2 ^ 64 * seq.toNat)) d

/-- Uncorrectable error in a live accumulator (R397). -/
def accMemory (ram : Nat → Byte) (c : Nat) (d : Dev) : Dev :=
  let d := countUncorr d
  let a := d.acc c
  match newestCopy (d.format 1) d.bk.badA d.bk.badB ram with
  | some (_, _, _, _, _, recs) =>
    report (ev 0x0911 true c 1)
      (d.setAcc c { accOfRecord a (slice recs (112 * c) 112) with memRestored := true, lossUnsaved := true })
  | none =>
    report (ev 0x0902 true c (restoreCause d.bk.valid true)) (report (ev 0x0911 true c 0) (d.setAcc c { a with acc := [], residue := [] }))

/-! ### Writes of space 16#40 (R404) -/

/-- Images of the entries (R403). -/
def MChan.image (m : MChan) : BitVec 512 := put 512 480 m.rdc ||| put 512 440 m.cond.code ||| (m.cfg &&& mchanMask)
def Pulse.image (p : Pulse) : BitVec 512 := put 512 344 p.backlog ||| (p.cfg &&& pulseMask)
def Dev.engineImage (d : Dev) : BitVec 512 :=
  (d.mt.engine &&& engineMask) ||| put 512 446 (d.vset 0).seq ||| put 512 444 (d.vset 1).seq |||
    putB 512 443 (d.vset 0).neutralLost ||| putB 512 442 (d.vset 1).neutralLost ||| putB 512 441 (d.vset 0).sync |||
    putB 512 440 (d.vset 1).sync

/-- Points whose source word names a channel (R376). -/
def Dev.meterPoints (d : Dev) (c : Nat) : List Nat :=
  (d.ps.points.filter (fun p => p.2.srcKind == 4 && p.2.srcIndex.toNat / 16 == c)).map (·.1)

/-- Quantities that a channel has (R376). -/
def quantMask (c : Nat) : BitVec 16 :=
  if isVolt c then (if c = 72 ∨ c = 75 then 0xFC21 else 0x7C21) else 0x3FFF

/-- Mapped quantities of a configuration with their points. -/
def MChan.mapped (m : MChan) : List (Nat × Nat) :=
  ((List.range 16).filter (fun q => bit m.qmask q)).map (fun q => (q, m.quantPoint q))

/-- Does FS lie in its range (R367, R404). -/
def fsOk (volt : Bool) (x : BitVec 32) : Bool :=
  match f32Decode x with
  | .fin _ _ _ =>
    let f := f32Frac x
    if volt then decide ((f.2 : Int) ≤ f.1 ∧ f.1 ≤ 1500 * (f.2 : Int))
    else decide ((f.2 : Int) ≤ 1000 * f.1 ∧ f.1 ≤ 20000 * (f.2 : Int))
  | _ => false

/-- May a channel entry take these RW fields (R63, R404). DEDUCED: log entry 58. -/
def mchanOk (c : Nat) (cfg : BitVec 512) (d : Dev) : Bool :=
  let old := d.mchan c
  let m := { old with cfg := cfg &&& mchanMask }
  let stays := old.en && m.en
  let own := d.meterPoints c
  let zero := maskOf 512 [(352, 32), (13, 3), (11, 2), (10, 1), (8, 2), (7, 1), (6, 1)]
  let v := 72 + 3 * m.set1 + (m.vph - 1)
  let users := d.mt.chans.any (fun x => x.2.en && d.voltOf x.1 == some c)
  decide (m.gain < 6 ∧ m.sensor ≠ 3) && fsOk (isVolt c) m.fs && (!isVolt c || (m.cfg &&& zero) == 0) &&
    (m.qmask &&& ~~~(quantMask c)) == 0 &&
    m.mapped.all (fun x => decide (x.2 < 131072) && (d.point x.2).ptype == (if x.1 = 15 then 7 else 4)) &&
    (!m.en || stays || m.mapped.all (fun x => d.canProduce x.2 || own.contains x.2)) &&
    (!stays || m.cfg == old.cfg) &&
    (!(m.en && !isVolt c && m.vph != 0) || (d.mchan v).en) &&
    (m.en || !isVolt c || !users)

/-- The harmonic values of a channel stay INITIAL until its first complete window (R380, R381). -/
def harmInitial (c : Nat) (d : Dev) : Dev :=
  let e : BitVec 128 := put 128 40 2#8 ||| put 128 38 3#2 ||| put 128 0 (d.mchan c).windows
  (List.range 128).foldl (fun d h => { d with mt := { d.mt with harm := tset harmReset d.mt.harm (128 * c + h) e } }) d

/-- Write a channel entry (R378, R381). -/
def mchanWrite (c : Nat) (cfg : BitVec 512) (d : Dev) : Dev :=
  let old := d.mchan c
  let cfg := cfg &&& mchanMask
  if old.en && bit cfg 0 then d
  else
    let d := (d.meterPoints c).foldl (fun d p => releasePoint p d) d
    let m := { MChan.reset with cfg := cfg, windows := old.windows }
    let d := d.setMchan c m
    let d := d.setAcc c { d.acc c with begun := false }
    if bit cfg 0 then
      let d := harmInitial c d
      m.mapped.foldl (fun d x => produceQ x.2 3 0x02 d.cal (claimPoint 4 (16 * c + x.1) x.2 d)) d
    else d

/-- May a pulse entry take these RW fields (R404). -/
def pulseOk (k : Nat) (cfg : BitVec 512) (d : Dev) : Bool :=
  let old := d.pulse k
  let p := { old with cfg := cfg &&& pulseMask }
  decide (1000 ≤ p.const ∧ p.const ≤ 2 ^ 63 ∧ 10 ≤ p.width ∧ p.accSel ≠ 7) && (!(old.en && p.en) || p.cfg == old.cfg)

/-- Write a pulse entry (R401). -/
def pulseWrite (k : Nat) (cfg : BitVec 512) (d : Dev) : Dev :=
  let old := d.pulse k
  let cfg := cfg &&& pulseMask
  if old.en && bit cfg 0 then d
  else d.setPulse k { Pulse.reset with cfg := cfg, pin := bit cfg 0 && bit cfg 332 }

/-- May the engine entry take these RW fields (R404). DEDUCED: log entry 58. -/
def engineOk (cfg : BitVec 512) (d : Dev) : Bool :=
  let old := d.mt.engine
  let vn (x : Nat) : Nat := (fld cfg (464 - 16 * x) 16).toNat
  let busy (x : Nat) : Bool := !(d.setChans x).isEmpty
  let same (x : Nat) : Bool := vn x == d.vnom x && bit cfg (4 + x) == bit old (4 + x)
  decide (1 ≤ vn 0 ∧ vn 0 ≤ 1000 ∧ 1 ≤ vn 1 ∧ vn 1 ≤ 1000) && (same 0 || !busy 0) && (same 1 || !busy 1) &&
    (bit cfg 3 == bit old 3 || !(busy 0 || busy 1))

/-- May an entry of space 16#40 be written. -/
def meterEntryOk (i : Nat) (cfg : BitVec 512) (d : Dev) : Bool :=
  if i < 78 then mchanOk i cfg d else if i < 86 then pulseOk (i - 78) cfg d else engineOk cfg d

/-- Write an entry of space 16#40. -/
def meterEntryWrite (i : Nat) (cfg : BitVec 512) (d : Dev) : Dev :=
  if i < 78 then mchanWrite i cfg d
  else if i < 86 then pulseWrite (i - 78) cfg d
  else { d with mt := { d.mt with engine := cfg &&& engineMask } }

/-- Image of an entry of space 16#40. -/
def Dev.meterImage (d : Dev) (i : Nat) : BitVec 512 :=
  if i < 78 then (d.mchan i).image else if i < 86 then (d.pulse (i - 78)).image else d.engineImage

/-- Uncorrectable error in an entry of space 16#40 (R405). -/
def channelMemory (i : Nat) (d : Dev) : Dev :=
  let d := countUncorr d
  let off : BitVec 512 := ~~~(putB 512 0 true)
  let d :=
    if i < 78 then
      let d := (d.meterPoints i).foldl (fun d p => produceQ p 2 0x0C d.cal d) d
      let m := d.mchan i
      d.setMchan i { m with cfg := m.cfg &&& off, memBad := true, due := [], harmDue := none }
    else if i < 86 then
      let p := d.pulse (i - 78)
      d.setPulse (i - 78) { p with cfg := p.cfg &&& off, active := none, gap := none, pin := false }
    else { d with mt := { d.mt with engine := engineReset } }
  report (ev 0x0913 true i 0) d

/-- Mapped quantity points of the enabled channels (R406). -/
def Dev.meterMapped (d : Dev) : Nat := ((d.mt.chans.filter (fun c => c.2.en)).map (fun c => c.2.mapped.length)).sum

end Sys2Proof.Machine
end

