-- ==== Sys2Proof/Machine/Recorder.lean ====
section
/-!
DEFINITION. The event recorder (R463 to R482): record images, point triggers, marks, copies to the attention rings, the
retained tail, memory errors and registers. Ops holds the capture of an occurrence.
-/
namespace Sys2Proof.Machine

/-- The 32 bytes of a record, with UPDATE as in a ring copy (R464). -/
def Rec.image (x : Rec) (update : Bool) : BitVec 256 :=
  put 256 192 x.cal ||| put 256 160 x.frame ||| put 256 128 x.object ||| put 256 96 x.seq ||| put 256 80 x.rep |||
    put 256 64 x.code ||| put 256 48 x.lastDfr ||| put 256 33 x.snapEntry ||| put 256 28 x.snapLen |||
    putB 256 27 x.snapLost ||| putB 256 26 x.calUnset ||| putB 256 25 x.isFault ||| put 256 21 x.subsystem |||
    put 256 19 x.source ||| put 256 15 x.trigger ||| putB 256 14 x.tail ||| putB 256 13 update

/-- Entry `i` of space 16#70 (R463, R469). -/
def Recorder.entry (r : Recorder) (i : Nat) : BitVec 256 :=
  if i < 32768 then (r.at_ i).image false else tget 0 r.snaps (i - 32768)

/-- Put a record into the event queue, with the report of its drop (R183, R195). -/
def enqueueRep (ch : Nat) (x : AttnRec) (d : Dev) : Dev :=
  let r := enqueue ch x d
  if r.2 then limitedFuel 80 (ev0404 ch) r.1 else r.1

/-- A write to REC_MARK (R465). -/
def recMark (v : Reg) (d : Dev) : Dev := captureRep ⟨2, 0, 0x0C05, v, 12, false, false, []⟩ d

/-! ### Point triggers (R467) -/

def Dev.trigPoint (d : Dev) (t : Nat) : Nat := (fld (tget 0 d.rcd.trigA t) 0 17).toNat
def Dev.trigEn (d : Dev) (t : Nat) : Bool := bit (tget 0 d.rcd.trigA t) 31
def Dev.trigCnt (d : Dev) (t : Nat) : Nat := (fld (tget 0 d.rcd.trigB t) 17 5).toNat
def Dev.trigBase (d : Dev) (t : Nat) : Nat := (fld (tget 0 d.rcd.trigB t) 0 17).toNat

/-- Does the condition of a trigger hold between two evaluations. -/
def trigHolds (cond : Nat) (old new : W64 × BitVec 2 × BitVec 8) : Bool :=
  match cond with
  | 0 => old.1 == 0 && new.1 != 0
  | 1 => old.1 != 0 && new.1 == 0
  | 2 => old.1 != new.1
  | 3 => old.2.1 != 2 && new.2.1 == 2
  | 4 => old.2 != new.2
  | _ => false

/-- Evaluate one point trigger at the start of phase E (R467, R468). -/
def pointTrigger (t : Nat) (d : Dev) : Dev :=
  if !d.trigEn t then d
  else
    let p := d.trigPoint t
    let x := d.point p
    let new := (x.value, x.quality, x.detail)
    let old := tget none d.rcd.trigRef t
    let d := { d with rcd := { d.rcd with trigRef := tset none d.rcd.trigRef t (some new) } }
    match old with
    | none => d
    | some o =>
      if trigHolds (fld (tget 0 d.rcd.trigA t) 28 3).toNat o new then
        let words := (List.range (min 16 (d.trigCnt t))).map (fun i => fld (d.point (d.trigBase t + i)).value 0 32)
        captureRep ⟨1, BitVec.ofNat 4 t, 0x0C04, BitVec.ofNat 32 p, 12, false, bit (tget 0 d.rcd.trigA t) 27, words⟩ d
      else d

/-! ### Copies to the rings (R471, R472) -/

/-- The channels of a copy. -/
def copyDests (d : Dev) (x : Rec) : List Nat :=
  let own := (d.point x.object.toNat).owner.toNat
  if x.ownerCopy && own != 0 then [0, 64, own] else [0, 64]

/-- Copy the record at a store index. DEDUCED: log entry 70. -/
def copyOne (i : Nat) (update : Bool) (d : Dev) : Dev :=
  let x := d.rcd.at_ i
  let a := attnNow d 0x04 false (x.image update)
  let d := { d with rcd := { d.rcd with
    recs := tset Rec.reset d.rcd.recs i { x with copiedRep := some x.rep, copiedAt := d.tb.ran } } }
  (copyDests d x).foldl (fun d ch => enqueueRep ch a d) d

/-- Is the record with a sequence number in the store. -/
def Recorder.holds (r : Recorder) (s : BitVec 32) : Bool := decide ((r.next - 1 - s).toNat < r.stored)

/-- Merges of a copied record that no copy carries yet. -/
def Rec.uncopied (x : Rec) : Bool := x.copiedRep.isSome && x.copiedRep != some x.rep

/-- The copies of one phase E within a number of copies. -/
def copyLoop : Nat → Dev → Dev
  | 0, d => d
  | n + 1, d =>
    let r := d.rcd
    let s := r.copied
    if s ≠ r.next then
      let before := (s - 1).toNat % 32768
      if r.holds (s - 1) && (r.at_ before).uncopied then copyLoop n (copyOne before true d)
      else
        let d := copyOne (s.toNat % 32768) false d
        copyLoop n { d with rcd := { d.rcd with copied := s + 1 } }
    else
      let x := r.at_ r.newest
      if r.stored ≠ 0 ∧ x.uncopied = true ∧ 1000 ≤ framesSince x.copiedAt d then copyOne r.newest true d else d

/-- The recorder's copy-out in phase E. -/
def copyOut (d : Dev) : Dev := if bit d.rcd.cfg 17 then copyLoop d.rcd.copyMax.toNat d else d

/-! ### The retained tail (R474 to R477) -/

/-- First byte of the tail in retained SRAM (R475). -/
def tailBase : Nat := 0x4000

/-- Capture the newest records (R474). -/
def tailCapture (kind : Nat) (d : Dev) : TailCap :=
  let n := min 256 d.rcd.stored
  ⟨kind, d.tb.frame, d.cal,
    (List.range n).map (fun i => d.rcd.at_ ((d.rcd.next - BitVec.ofNat 32 (n - i)).toNat % 32768))⟩

/-- Header bytes 0 to 27 of a tail (R475). -/
def tailHead (fmt : BitVec 16) (t : TailCap) : List Byte :=
  let first := match t.recs with
    | [] => 0#32
    | x :: _ => x.seq
  let img : BitVec 256 :=
    put 256 192 first ||| put 256 128 t.frame ||| put 256 64 t.cal ||| put 256 48 fmt |||
      put 256 41 (BitVec.ofNat 2 t.kind) ||| put 256 32 (BitVec.ofNat 9 t.recs.length) ||| put 256 0 0x52454354#32
  leBytes 28 img.toNat

/-- Write a tail: the records, then the header (R474). -/
def tailStore (t : TailCap) (d : Dev) : Dev :=
  let recs := t.recs.flatMap (fun x => leBytes 32 (x.image false).toNat)
  let head := tailHead (d.format 2) t
  let d := { d.store (tailBase + 32) recs with bk := { d.bk with badTail := false } }
  d.store tailBase (head ++ leBytes 4 (crc32 (head ++ recs)).toNat)

/-- Write MAGIC = 0. -/
def tailClear (d : Dev) : Dev := d.store tailBase [0, 0, 0, 0]

/-- The capture of a supply-fail warning, after its record 16#0C02 (R474). -/
def tailWarning (d : Dev) : Dev :=
  let d := report (ev 0x0C02 true 0 0) d
  tailClear { d with rcd := { d.rcd with tail := some (tailCapture 1 d) } }

/-- The copy of a captured tail completes (R474). -/
def tailComplete (d : Dev) : Dev :=
  match d.rcd.tail with
  | none => d
  | some t => tailStore t { d with rcd := { d.rcd with tail := none } }

/-- The tail of a restart (R474). -/
def tailRestart (d : Dev) : Dev := tailStore (tailCapture 2 d) { d with rcd := { d.rcd with tail := none } }

/-- A warning clears without a reset (R476). -/
def tailCleared (d : Dev) : Dev := tailClear (report (ev 0x0C03 false 0 0) { d with rcd := { d.rcd with tail := none } })

/-- The FORMAT that stands in the tail header (R475). -/
def tailFormat (ram : Nat → Byte) : BitVec 16 := leBits 16 [ram (tailBase + 6), ram (tailBase + 7)]

/-- The valid tail of a format in the retained SRAM: KIND, FIRST_SEQ and record bytes (R475, R477). -/
def readTail (fmt : BitVec 16) (ram : Nat → Byte) : Option (Nat × BitVec 32 × List (List Byte)) :=
  let head := (List.range 32).map (fun i => ram (tailBase + i))
  let img := leBits 256 head
  let n := (fld img 32 9).toNat
  let recs := (List.range (32 * n)).map (fun i => ram (tailBase + 32 + i))
  if fld img 0 32 = 0x52454354#32 ∧ fld img 48 16 = fmt ∧ 1 ≤ n ∧ n ≤ 256 ∧
      fld img 224 32 = crc32 (head.take 28 ++ recs) then
    some ((fld img 41 2).toNat, fld img 192 32, chunks 32 n recs)
  else none

/-- A record read back from the tail (R477). -/
def Rec.ofTail (bs : List Byte) : Rec :=
  let x := leBits 256 bs
  { Rec.reset with
    cal := fld x 192 64, frame := fld x 160 32, object := fld x 128 32, seq := fld x 96 32, rep := fld x 80 16
    code := fld x 64 16, lastDfr := fld x 48 16, snapEntry := fld x 33 15
    snapLen := 0, snapLost := bit x 27 || fld x 28 5 != 0#5
    calUnset := bit x 26, isFault := bit x 25, subsystem := fld x 21 4, source := fld x 19 2, trigger := fld x 15 4
    tail := true }

/-- The tail that a start-up can read: its records in the own format (R477, R596). -/
def knownTail (own : BitVec 16) (ram : Nat → Byte) : Option (Nat × BitVec 32 × List (List Byte)) :=
  let old := tailFormat ram
  if old = own then readTail own ram
  else if formatKnown 2 own old then
    (readTail old ram).map (fun x => (x.1, x.2.1, x.2.2.map (fun r => (Config.convertTail own old r).take 32)))
  else none

/-- The recorder at start-up, before frame 0 (R477, R478, R596). -/
def recorderBoot (ram : Nat → Byte) (backupValid : Bool) (d : Dev) : Dev :=
  let lost := putB 32 11 (!backupValid)
  let own := d.format 2
  let found := if backupValid && !d.bk.badTail then knownTail own ram else none
  match found with
  | none =>
    let d := { d with rcd := { d.rcd with next := 0, copied := 0, stored := 0, tailInfo := lost } }
    report (ev 0x0C01 false 0 lost.toNat) d
  | some (kind, first, recs) =>
    let n := recs.length
    let info := lost ||| put 32 9 (BitVec.ofNat 2 kind) ||| put 32 0 (BitVec.ofNat 9 n)
    let table := (List.range n).foldl (fun t i =>
      tset Rec.reset t ((first.toNat + i) % 32768) (Rec.ofTail (recs.getD i []))) ([] : Tbl Rec)
    let d := { d with rcd := { d.rcd with
      recs := table, stored := n, next := first + BitVec.ofNat 32 n, copied := first, tailInfo := info } }
    let d := report (ev 0x0C01 false 0 (info.toNat + first.toNat * 2 ^ 32)) (tailClear d)
    if tailFormat ram = own then d else migrated 2 (tailFormat ram) own d

/-! ### Memory errors (R479) -/

/-- Uncorrectable error in entry `i` of space 16#70. DEDUCED: log entry 70. -/
def recordMemory (i : Nat) (d : Dev) : Dev :=
  let d := countUncorr d
  let r := d.rcd
  if i < 32768 then
    let x := r.at_ i
    if r.holds x.seq && decide (x.seq.toNat % 32768 = i) then
      let y : Rec := { Rec.reset with
        seq := x.seq, code := 0x0C07, copiedRep := x.copiedRep.map (fun _ => 0), copiedAt := x.copiedAt, firstAt := x.firstAt }
      report (ev 0x0C07 true x.seq.toNat 0) { d with rcd := { r with recs := tset Rec.reset r.recs i y } }
    else d
  else
    match r.recs.find? (fun x => x.2.snapEntries.contains (i - 32768)) with
    | none => d
    | some (j, x) => { d with rcd := { r with recs := tset Rec.reset r.recs j { x with snapLost := true } } }

/-! ### Registers (R480, R481) -/

/-- Write REC_CFG; copying starts at the oldest record where COPY_EN becomes 1 (R472). DEDUCED: log entry 70. -/
def recCfgWrite (v : Reg) (d : Dev) : Dev :=
  let on := bit v 17 && !bit d.rcd.cfg 17
  { d with rcd := { d.rcd with
    cfg := v &&& 0x0003FFFF
    copied := if on then d.rcd.next - BitVec.ofNat 32 d.rcd.stored else d.rcd.copied } }

/-- STATE checks of the trigger and copy registers. -/
def recCopyOk (v : Reg) : Bool := decide (1 ≤ (fld v 0 9).toNat ∧ (fld v 0 9).toNat ≤ 256)
def trigAOk (v : Reg) : Bool := decide ((fld v 28 3).toNat ≤ 4)
def trigBOk (v : Reg) : Bool :=
  decide ((fld v 17 5).toNat ≤ 16 ∧ (fld v 0 17).toNat + (fld v 17 5).toNat ≤ 131072)

/-- Write REC_TRIG_t_A: the next evaluation only stores the reference (R467). -/
def trigAWrite (t : Nat) (v : Reg) (d : Dev) : Dev :=
  { d with rcd := { d.rcd with
    trigA := tset 0 d.rcd.trigA t (v &&& 0xF801FFFF), trigRef := tset none d.rcd.trigRef t none } }

/-- Write REC_TRIG_t_B. -/
def trigBWrite (t : Nat) (v : Reg) (d : Dev) : Dev :=
  { d with rcd := { d.rcd with trigB := tset 0 d.rcd.trigB t (v &&& 0x003FFFFF) } }

/-- Bit 12 of FAULT_ACTIVE (R481). -/
def Dev.recFault (d : Dev) : Bool := bit d.rcd.cfg 17 && decide (16384 < (d.rcd.next - d.rcd.copied).toNat)

/-- Phase E cost of the recorder (R473). -/
def Dev.recCost (d : Dev) : Nat :=
  64 + 4 * d.rcd.copyMax.toNat +
    (((List.range 16).filter (fun t => d.trigEn t)).map (fun t => 8 + 2 * d.trigCnt t)).sum

end Sys2Proof.Machine
end

