-- ==== Sys2Proof/Machine/Backup.lean ====
section
/-!
DEFINITION. The backup domain (R483 to R510): supply switchover, calendar, slews, alarms, trim, retained SRAM, PWR_HOLD
and the entries of space 16#80. A transition that has a command of its own falls due here and is taken by that command,
or by the next RTC count where the command has not come (DESIGN CHOICE: log entry 12).
-/
namespace Sys2Proof.Machine

/-- Change the backup domain. -/
def Dev.modBk (d : Dev) (f : Backup → Backup) : Dev := { d with bk := f d.bk }

def Dev.isMain (d : Dev) : Bool := d.pwr.main == .running

def Backup.alarm (b : Backup) (k : Nat) : CalAlarm := tget CalAlarm.reset b.alarms k
def Backup.setAlarm (b : Backup) (k : Nat) (a : CalAlarm) : Backup := { b with alarms := tset CalAlarm.reset b.alarms k a }

/-! ### Calendar arithmetic (R489, R508) -/

/-- Seconds from 2000-01-01T00:00:00 to the end of 2299-12-31 (R489). -/
def calendarEnd : Nat := 9467107200

/-- Days before the first day of a year, counted from 2000-01-01. -/
def daysBefore (y : Nat) : Nat := 365 * y + (y + 3) / 4 - (y + 99) / 100 + (y + 399) / 400

/-- Is the year 2000 + y a leap year. -/
def leapYear (y : Nat) : Bool := y % 4 == 0 && (y % 100 != 0 || y % 400 == 0)

/-- Lengths of the months. -/
def monthLens (y : Nat) : List Nat := [31, if leapYear y then 29 else 28, 31, 30, 31, 30, 31, 31, 30, 31, 30, 31]

/-- Year, counted from 2000, of a day number. -/
def yearOf (day : Nat) : Nat :=
  let g := day / 366
  ((List.range 3).foldl (fun y _ => if daysBefore (y + 1) ≤ day then y + 1 else y) g)

/-- Month and day, from 1, of a day within a year. -/
def monthDay : List Nat → Nat → Nat → Nat × Nat
  | [], m, d => (m, d + 1)
  | l :: ls, m, d => if d < l ∨ ls = [] then (m, d + 1) else monthDay ls (m + 1) (d - l)

/-- Fields YEAR to WEEKDAY of the calendar entry, in place (R508); 2000-01-01 was a Saturday. -/
def calFields (cnt : Nat) : BitVec 256 :=
  let sec := cnt / 32768
  let day := sec / 86400
  let y := yearOf day
  let md := monthDay (monthLens y) 1 (day - daysBefore y)
  put 256 119 (BitVec.ofNat 9 y) ||| put 256 115 (BitVec.ofNat 4 md.1) ||| put 256 110 (BitVec.ofNat 5 md.2) |||
    put 256 105 (BitVec.ofNat 5 (sec / 3600 % 24)) ||| put 256 99 (BitVec.ofNat 6 (sec / 60 % 60)) |||
    put 256 93 (BitVec.ofNat 6 (sec % 60)) ||| put 256 90 (BitVec.ofNat 3 ((day + 5) % 7)) |||
    put 256 88 (BitVec.ofNat 2 (sec / 4294967296))

/-- The count of a time stamp in the era that lies within 2^31 s of a present count, or in ERA 0 (R492). -/
def placeStamp (present : Option Nat) (t : W64) : Option Nat :=
  match present with
  | none => some (cntOf 0 t)
  | some p =>
    let e := p / 32768 / 4294967296
    ([e - 1, e, e + 1].map (fun e => cntOf e t)).find? (fun c => decide (c ≤ p + 2 ^ 46 ∧ p ≤ c + 2 ^ 46))

/-- Where a TIME_SET puts a stamp. -/
def Dev.placeCal (d : Dev) (t : W64) : Option Nat := placeStamp (if d.bk.calSet then some d.bk.cnt else none) t

/-! ### Alarms (R499, R500) -/

/-- TARGET with bits [16:0] ignored (R508). DEDUCED: log entry 71. -/
def CalAlarm.goal (a : CalAlarm) : W64 := a.target &&& ~~~0x1FFFF#64

/-- Has the calendar reached TARGET, in the era that lies within 2^31 s of the present (R13, R499). DEDUCED: log entry 71. -/
def CalAlarm.reached (a : CalAlarm) (now : W64) : Bool := decide ((now - a.goal).toNat < 2 ^ 63)

/-- Mark the armed alarms whose TARGET the calendar has reached, by counting or by a forward step; a step at the count that
reaches TARGET is the row that is taken (R499). DEDUCED: log entry 71. -/
def markAlarms (late : Bool) (d : Dev) : Dev :=
  (List.range 8).foldl (fun d k =>
    let a := d.bk.alarm k
    if a.st = .armed ∧ (a.due = none ∨ (late = true ∧ a.due = some false)) ∧ a.reached d.cal = true then
      d.modBk (fun b => b.setAlarm k { a with due := some late })
    else d) d

/-- TARGET after a firing, and the periods it missed (R499). -/
def CalAlarm.advance (a : CalAlarm) (late : Bool) (now : W64) : W64 × Nat :=
  let p := a.period.toNat * 4294967296
  if p = 0 then (a.target, 0)
  else if late then
    let n := (now - a.goal).toNat / p + 1
    (a.target + BitVec.ofNat 64 (n * p), n - 1)
  else (a.target + BitVec.ofNat 64 p, 0)

/-- Drive PWR_HOLD high for a wake cause (R500, R505); the 100 ms of a shutdown run on (R506). It causes the next start only
where VMAIN is gone (R507). -/
def wake (cause : BitVec 8) (alarm : BitVec 3) (d : Dev) : Dev :=
  if d.bk.pwrHold then d
  else if d.bk.onVmain then d.modBk (fun b => { b with pwrHold := true })
  else d.modBk (fun b => { b with
    pwrHold := true, nextCause := some cause, wakeAlarm := if cause = 2 then alarm else b.wakeAlarm })

/-- The report of a firing (R500, R510). -/
def alarmEvent (r : AlarmReport) (off : Bool) : Event :=
  { ev 0x0D06 false r.alarm (r.missed + if off then r.at_.toNat * 2 ^ 64 else 0) with late := r.late }

/-- A due alarm fires (R499). -/
def alarmFire (k : Nat) (d : Dev) : Dev :=
  let a := d.bk.alarm k
  match a.due with
  | none => d
  | some late =>
    let t := a.advance late d.cal
    let r : AlarmReport := ⟨k, d.cal, late, t.2⟩
    let d := d.modBk (fun b => b.setAlarm k { a with
      target := t.1, missed := satAdd a.missed t.2, fireCnt := a.fireCnt + 1, late := late, due := none
      st := if a.period = 0 then .fired else .armed })
    let d := if a.wakeEn then wake 2 (BitVec.ofNat 3 k) d else d
    if d.isMain then report (alarmEvent r false) d else d.modBk (fun b => { b with fired := b.fired ++ [r] })

/-- Write an alarm entry: EN written 0 idles it, EN or TARGET written with EN = 1 arms it; a firing that was due comes
first (R499, R508). -/
def alarmWrite (k : Nat) (img : BitVec 256) (d : Dev) : Dev :=
  let d := alarmFire k d
  let a := d.bk.alarm k
  let on := bit img 3
  d.modBk (fun b => b.setAlarm k { a with
    target := fld img 192 64, period := fld img 160 32, wakeEn := bit img 4, en := on
    st := if on then .armed else .idle, due := none })

/-- Fire the alarms that are due; before a forward step, those due by an earlier one only (R499). -/
def fireDue (fwd : Bool) (d : Dev) : Dev :=
  (List.range 8).foldl (fun d k => if fwd && (d.bk.alarm k).due == some false then d else alarmFire k d) d

/-! ### Steps and slews (R492 to R497) -/

/-- Step the calendar: flags, report with OLD_CAL, alarms passed; what an earlier step or count has made due fires before
(R492, R494, R499). -/
def calStep (code : Nat) (cnt : Nat) (setFlags : Bool) (data : Nat) (d : Dev) : Dev :=
  let old := d.cal
  let fwd := decide (d.bk.cnt < cnt)
  let d := fireDue fwd d
  let d := d.modBk (fun b => { b with
    cnt := cnt, slewLeft := 0, slewAcc := 0, slewing := false
    calSet := b.calSet || setFlags, oscStopped := b.oscStopped && !setFlags })
  let d := report { ev code false 0 data with oldCal := some old } d
  if fwd then markAlarms true d else d

/-- Begin a slew of a number of RTC counts (R492). -/
def calSlew (left : Int) (d : Dev) : Dev :=
  d.modBk (fun b => { b with slewLeft := left, slewAcc := 0, slewing := true })

/-- The slew offset is consumed (R492). -/
def slewDone (d : Dev) : Dev :=
  if d.bk.slewing && d.bk.slewLeft == 0 then
    report (ev 0x0D02 false 0 0) (d.modBk (fun b => { b with slewing := false, slewAcc := 0 }))
  else d

/-- STATE of a TIME_SET (R157, R493). -/
def timeSetOk (slew : Bool) (t : W64) (d : Dev) : Bool :=
  !d.bk.calSrc &&
    match d.placeCal t with
    | none => false
    | some c =>
      if slew then d.bk.calSet && decide (c ≤ d.bk.cnt + 131072 ∧ d.bk.cnt ≤ c + 131072)
      else decide (c < calendarEnd * 32768)

/-- Execute a TIME_SET: it applies at the next RTC count (R492). -/
def timeSetExec (ch tag : Nat) (seq : W64) (slew : Bool) (t : W64) (d : Dev) : Dev :=
  d.modBk (fun b => { b with timeSet := b.timeSet ++ [⟨ch, tag, seq, slew, t, false⟩] })

/-- Set the calendar as a TIME_SET says (R492). -/
def timeSetCal (x : TimeSetDue) (d : Dev) : Dev :=
  let c := (d.placeCal x.cal).getD d.bk.cnt
  if x.slew then calSlew ((c : Int) - (d.bk.cnt : Int)) d else calStep 0x0D01 c true 0 d

/-- A TIME_SET at an RTC count, unless it has ended with INTERNAL: then whether it takes effect is open (R130, R492). DESIGN
CHOICE: log entry 78. -/
def timeSetEffect (x : TimeSetDue) (d : Dev) : Dev :=
  if !x.ended then timeSetCal x d
  else
    let r := freeBit d
    if r.1 then timeSetCal x r.2 else r.2

/-- Apply a TIME_SET at an RTC count, and complete its command: past the completion limit with INTERNAL (R129, R492). -/
def timeSetApply (x : TimeSetDue) (d : Dev) : Dev :=
  let d := timeSetEffect x d
  match d.slot x.ch x.tag with
  | none => d
  | some c =>
    if c.seq ≠ x.seq ∨ c.stage ≠ .replying then d
    else if c.pastLimit d then limitReport x.ch x.tag d
    else finish x.ch x.tag stOk 0 [] d

/-- The step of R497 is due: a whole second has begun since the change. -/
def Dev.utcDue (d : Dev) : Bool :=
  match d.bk.utcStep with
  | none => false
  | some (_, since) => decide (since / 32768 < d.bk.cnt / 32768)

/-- Step by a change of UTC_OFFSET at the next whole second (R497). -/
def utcOffsetStep (d : Dev) : Dev :=
  match d.bk.utcStep with
  | none => d
  | some (s, _) =>
    if !d.utcDue then d
    else
      let c := ((d.bk.cnt : Int) - 32768 * s).toNat
      let slew := d.bk.slewLeft
      let acc := d.bk.slewAcc
      let on := d.bk.slewing
      let d := calStep 0x0D03 c false d.net.utcOffset.toNat (d.modBk (fun b => { b with utcStep := none }))
      d.modBk (fun b => { b with slewLeft := slew, slewAcc := acc, slewing := on })

/-- Note a change of UTC_OFFSET, in seconds (R497). -/
def utcChanged (delta : Int) (d : Dev) : Dev :=
  if d.bk.calSrc then
    d.modBk (fun b => { b with utcStep := some (((b.utcStep.map (·.1)).getD 0) + delta, b.cnt) })
  else d

/-- Seconds from the PTP epoch (1970, TAI) to 2000-01-01T00:00:00, before currentUtcOffset. -/
def ptpEpochSeconds : Nat := 946684800

/-- Compare the calendar with network time, PTP time in ns less UTC_OFFSET, once per second; the step that a change of
UTC_OFFSET still owes counts for neither (R495 to R497). DEDUCED: log entry 109. -/
def calCompare (ptpNs : Nat) (d : Dev) : Dev :=
  let second := ptpNs / 1000000000
  if !d.isMain || !d.bk.calSrc || d.tb.tb != .locked || !d.net.utcValid || d.bk.lastCompare == some second then d
  else
    let d := fireDue false (d.modBk (fun b => { b with lastCompare := some second }))
    let ns : Int := (ptpNs : Int) - 1000000000 * 
      (((d.net.utcOffset.toNat + ptpEpochSeconds : Nat) : Int) - (d.bk.utcStep.map (·.1)).getD 0)
    let diff := ns * 32768 - (d.bk.cnt : Int) * 1000000000
    let goal := (ns * 32768 / 1000000000).toNat
    if 32768 * 10000000 < diff.natAbs then
      match d.placeCal (calOf goal) with
      | some c => calStep 0x0D01 c true 0 d
      | none => calStep 0x0D01 goal true 0 d
    else if goal = d.bk.cnt ∧ d.bk.slewing = false then d
    else calSlew ((goal : Int) - (d.bk.cnt : Int)) d

/-! ### Trim (R501, R502) -/

/-- May a PTP window run. DEDUCED: log entry 72. -/
def Dev.ptpTrim (d : Dev) : Bool := d.isMain && d.bk.ptpEn && d.tb.tb == .locked

/-- The set whose crossings trim the RTC (R375). -/
def Dev.trimSet (d : Dev) : Nat := if bit d.mt.engine 3 then 1 else 0

/-- May a mains window run. -/
def Dev.mainsTrim (d : Dev) : Bool :=
  d.isMain && d.bk.mainsEn && bit d.mt.engine 2 && (d.vset d.trimSet).sync && !d.ptpTrim

/-- Void a window that has lost its validity (R501, R502). -/
def trimVoid (d : Dev) : Dev :=
  match d.bk.win with
  | none => d
  | some w =>
    if (if w.src = 1 then d.ptpTrim else d.mainsTrim && decide (w.changes ≤ 2)) then d
    else d.modBk (fun b => { b with win := none })

/-- The error of a window as a fraction, in ppb: numerator and denominator. -/
def TrimWin.err (w : TrimWin) (hz : Nat) : Int × Nat :=
  if w.src = 1 then ((w.counts * 1000 : Int) * 1000000000 - (w.ref * 32768 : Int) * 1000000000, w.ref * 32768)
  else
    let t : Int := 3 * (w.ref : Int) + w.thirds
    (((w.counts * (3 * hz) : Nat) - 32768 * t : Int) * 1000000000, (32768 * t).toNat)

/-- A window has ended: update or reject TRIM_PPB (R502). DEDUCED: log entry 72. -/
def trimEnd (d : Dev) : Dev :=
  match d.bk.win with
  | none => d
  | some w =>
    if !w.ended then d
    else
      let e := w.err (if d.nom d.trimSet then 60 else 50)
      let r := meanOpen e.1 e.2 d
      let err := r.1
      let d := r.2.modBk (fun b => { b with win := none, lastErr := err })
      let tail (trim : Int) : Nat :=
        (BitVec.ofInt 32 trim).toNat + (BitVec.ofInt 32 err).toNat * 2 ^ 32 + w.src * 2 ^ 64
      if 50000 < err.natAbs then
        report (ev 0x0D08 true 0 (tail 0)) (d.modBk (fun b => { b with rejectCnt := b.rejectCnt + 1 }))
      else
        let q := if w.src = 1 then (err, d) else meanOpen err 4 d
        let trim := clampInt (-200000) 200000 (d.bk.trimPpb - q.1)
        let d := q.2.modBk (fun b => { b with
          trimPpb := trim, lastMeas := calOf b.cnt, srcUsed := BitVec.ofNat 2 w.src })
        report (ev 0x0D07 false 0 (tail trim)) d

/-- A frame of network time begins: run or start a PTP window (R501). DEDUCED: log entry 58. DEDUCED: log entry 72. -/
def trimFrame (d : Dev) : Dev :=
  let d := trimEnd (trimVoid d)
  if !d.ptpTrim then d
  else
    match d.bk.win with
    | some w =>
      if w.src = 1 then
        d.modBk (fun b => { b with win := some { w with ref := w.ref + 1, ended := decide (1000000 ≤ w.ref + 1) } })
      else d.modBk (fun b => { b with win := some ⟨1, 0, 0, 0, 0, false⟩ })
    | none => d.modBk (fun b => { b with win := some ⟨1, 0, 0, 0, 0, false⟩ })

/-- A crossing of the tracking phase of a set, with a change of tracking phase or not (R375, R501). -/
def trimCrossing (x : Nat) (changed : Bool) (d : Dev) : Dev :=
  let d := trimEnd (trimVoid d)
  if x ≠ d.trimSet ∨ d.mainsTrim = false then d
  else
    match d.bk.win with
    | none => d.modBk (fun b => { b with win := some ⟨2, 0, 0, 0, 0, false⟩ })
    | some w =>
      let r := if changed then freeBit d else (true, d)
      let w := { w with
        ref := w.ref + 1
        changes := if changed then w.changes + 1 else w.changes
        thirds := if changed then (if r.1 then w.thirds + 1 else w.thirds - 1) else w.thirds }
      let total := if d.nom x then 5184000 else 4320000
      trimVoid (r.2.modBk (fun b => { b with win := some { w with ended := decide (total ≤ w.ref) } }))

/-- A zero crossing with its use for the trim (R372, R375). -/
def meterCrossing (x phase frac : Nat) (d : Dev) : Dev :=
  let before := (d.vset x)
  let tracked := phase == d.trackPhase x
  let d := meterZeroCrossing x phase frac d
  if tracked then trimCrossing x (before.lastCross.isSome && before.phase != phase) d else trimVoid d

/-! ### The RTC count (R489) -/

/-- Take what has fallen due: alarm firings, the end of a slew, the step of R497. -/
def settleBackup (d : Dev) : Dev :=
  let d := (List.range 8).foldl (fun d k => alarmFire k d) d
  utcOffsetStep (slewDone d)

/-- The trim's correction of one count: −1, 0 or 1, and its accumulator. -/
def trimCount (b : Backup) : Int × Int :=
  let a := b.trimAcc + b.trimPpb
  if 1000000000 ≤ a then (1, a - 1000000000) else if a ≤ -1000000000 then (-1, a + 1000000000) else (0, a)

/-- Advance the calendar by one trimmed count, and a slew by its share of 500 ppm (R489, R492, R501). -/
def countOnce (b : Backup) : Backup :=
  let t := trimCount b
  let acc := if b.slewing then b.slewAcc + 1 else 0
  let s : Int := if b.slewing && b.slewLeft != 0 && t.1 == 0 && decide (2000 ≤ acc) then (if 0 < b.slewLeft then 1 else -1) else 0
  { b with
    cnt := ((b.cnt : Int) + 1 + t.1 + s).toNat
    trimAcc := t.2
    slewLeft := b.slewLeft - s
    slewAcc := if s = 0 then acc else acc - 2000
    win := b.win.map (fun w => if w.ended then w else { w with counts := ((w.counts : Int) + 1 + t.1).toNat }) }

/-- One RTC count: the calendar, the alarms, and the TIME_SETs that apply at it (R489, R492, R499). -/
def rtcCount (d : Dev) : Dev :=
  let d := trimVoid (settleBackup d)
  let d := markAlarms false (d.modBk countOnce)
  let due := d.bk.timeSet
  due.foldl (fun d x => timeSetApply x d) (d.modBk (fun b => { b with timeSet := [] }))

/-- The oscillator misses four cycles (R491). -/
def oscStopped (d : Dev) : Dev :=
  let d := d.modBk (fun b => { b with oscStopped := true, calSet := false })
  if d.isMain then report (ev 0x0D04 true 0 0) d else d.modBk (fun b => { b with oscReport := true })

/-! ### Supply, PWR_HOLD and WAKE_N (R483 to R488, R505, R506) -/

/-- VMAIN below 4.30 V; a PWR_HOLD that is still to go low waits on in the backup domain (R483, R506). The restart marker
of DEVICE_RESTART MODE 1 is lost with the supply (R1). -/
def vmainFail (d : Dev) : Dev :=
  if !d.bk.onVmain then d
  else
    let d := d.inReset
    Dev.modBk { d with pwr := { d.pwr with marker := false } } (fun b => { b with
      onVmain := false, lockout := true, offCal := calOf b.cnt, switchCnt := b.switchCnt + 1
      shut := if b.shut = .wait then .wait else .idle, nextCause := some 0 })

/-- VMAIN above 4.45 V for 2 ms (R483). -/
def vmainRestore (d : Dev) : Dev := d.modBk (fun b => { b with onVmain := true })

/-- VBKP has been below 1.50 V; PWR_HOLD goes high as it rises again (R486, R487, R505). -/
def retentionLoss (d : Dev) : Dev :=
  d.modBk (fun b => { b with valid := false, newLoss := true, pwrHold := true, shut := .idle, nextCause := some 0 })

/-- WAKE_PIN: WAKE_N changes, or has been low for 32 ms (R505, R508). -/
def wakePin (x : WakeChange) (d : Dev) : Dev :=
  let d := d.modBk (fun b => { b with wakeN := x == .rises })
  if x = .held ∧ d.bk.wakePinEn = true then wake 1 0 d else d

/-- RL_ACK written 1 (R488). -/
def rlAck (d : Dev) : Dev := d.modBk (fun b => { b with valid := true })

/-- The confirmation of a shutdown (R506). -/
def shutdownConfirm : Reg := 0x0FF05E7D

/-- A confirmed shutdown write: the restart saves, and PWR_HOLD to go low (R506). -/
def shutdown (d : Dev) : Dev :=
  (tailRestart (restartSave d)).modBk (fun b => { b with shut := .wait })

/-- 10 ms after the shutdown write (R506). -/
def pwrHoldRelease (d : Dev) : Dev :=
  if d.bk.shut = .wait then d.modBk (fun b => { b with shut := .off, pwrHold := false }) else d

/-- VMAIN still stands 100 ms later: PWR_HOLD high, and a restart through the normal boot (R506). -/
def shutdownFailed (d : Dev) : Dev :=
  if d.bk.shut = .off ∧ d.bk.onVmain = true then
    d.inReset.modBk (fun b => { b with shut := .idle, pwrHold := true, nextCause := some 3 })
  else d

/-! ### Retained SRAM (R503, R504, R509) -/

/-- First retained byte of an entry of space 16#80. -/
def retainedBase (e : Nat) : Nat := 32 * (e - 16)

/-- First byte of the directory. -/
def dirBase : Nat := 0xFFE0

/-- A directory image. -/
def dirBytes (layout : BitVec 16) (boots : Reg) (fw : Reg) : List Byte :=
  let img : BitVec 224 := put 224 192 boots ||| put 224 160 fw ||| put 224 144 layout ||| put 224 0 0x42434B50#32
  let h := leBytes 28 img.toNat
  h ++ leBytes 4 (crc32 h).toNat

/-- LAYOUT and BOOT_CNT of a valid directory. -/
def readDir (ram : Nat → Byte) : Option (BitVec 16 × Reg) :=
  let bs := (List.range 32).map (fun i => ram (dirBase + i))
  let img := leBits 256 bs
  if fld img 0 32 = 0x42434B50#32 ∧ fld img 224 32 = crc32 (bs.take 28) then some (fld img 144 16, fld img 192 32)
  else none

/-- The directory at a start-up with BACKUP_VALID = 1; one of an older LAYOUT is rewritten (R504, R596). -/
def dirBoot (ram : Nat → Byte) (fw : Reg) (d : Dev) : Dev :=
  let own := d.format 0
  match readDir ram with
  | some (old, n) =>
    let d := d.store dirBase (dirBytes own (n + 1) fw)
    if old = own then d else migrated 0 old own d
  | none => report (ev 0x0D0B true 2063 0) (d.store dirBase (dirBytes own 1 fw))

/-- The actions of R487 on a new retention loss, before frame 0. -/
def lossBoot (fw : Reg) (d : Dev) : Dev :=
  let d := d.store 0 (List.replicate dirBase 0)
  let d := d.store dirBase (dirBytes (d.format 0) 1 fw)
  d.modBk (fun b => { Backup.reset with
    wakeN := b.wakeN, onVmain := b.onVmain, lockout := b.lockout, nextCause := b.nextCause
    newLoss := false, oscReport := b.oscReport })

/-- An uncorrectable error in a copy that a save writes: METER_SAVE_FAIL (R409). -/
def saveFail (b : Bool) (d : Dev) : Dev :=
  if (d.mt.saveDue.isSome || d.mt.snapDue.isSome) && d.mt.target == b then
    report (ev 0x0903 true 86 (if b then 1 else 0)) d
  else d

/-- An uncorrectable error in retained bytes of an entry, as a byte mask (R395, R409, R479, R509). -/
def retainedMemory (e : Nat) (mask : BitVec 32) (d : Dev) : Dev :=
  let d := countUncorr d
  let d := if e < 272 then saveFail false d else if e < 528 then saveFail true d else d
  if e < 272 then
    { d with bk := { d.bk with badA := true }, mt := { d.mt with newest := if d.mt.newest = some false then some true else d.mt.newest } }
  else if e < 528 then
    { d with bk := { d.bk with badB := true }, mt := { d.mt with newest := if d.mt.newest = some true then some false else d.mt.newest } }
  else if e < 785 then d.modBk (fun b => { b with badTail := true })
  else
    let d := { d with wr := d.wr ++ ((List.range 32).filter (fun i => bit mask i)).map (fun i => (retainedBase e + i, 0#8)) }
    report (ev 0x0D0B true e 0) d

/-! ### Entries of space 16#80 (R503, R508) -/

/-- An amount in counts as µs; a quotient that is not whole is open (DESIGN CHOICE: log entry 8). -/
def countsToUs (n : Int) : Int :=
  let q := n * 1000000 / 32768
  if n * 1000000 % 32768 = 0 then q else q + (if Config.roundUp (n * 1000000) 32768 then 1 else 0)

/-- The calendar entry. -/
def Dev.calEntry (d : Dev) : BitVec 256 :=
  let b := d.bk
  put 256 192 d.cal ||| put 256 128 b.offCal ||| calFields b.cnt ||| put 256 72 b.switchCnt |||
    put 256 40 (satInt 32 (countsToUs b.slewLeft)) ||| putB 256 6 b.calSrc ||| putB 256 5 b.slewing |||
    putB 256 3 b.calSet ||| putB 256 2 b.oscStopped ||| putB 256 1 b.valid

/-- An alarm entry. -/
def CalAlarm.image (a : CalAlarm) : BitVec 256 :=
  put 256 192 a.target ||| put 256 160 a.period ||| put 256 128 a.fireCnt ||| put 256 112 a.missed |||
    put 256 6 (match a.st with | .idle => 0#2 | .armed => 1#2 | .fired => 2#2) |||
    putB 256 5 a.late ||| putB 256 4 a.wakeEn ||| putB 256 3 a.en

/-- The trim entry. -/
def Backup.trimEntry (b : Backup) : BitVec 256 :=
  let secs := match b.win with
    | some w => w.counts / 32768
    | none => 0
  let src := match b.win with
    | some w => w.src
    | none => 0
  put 256 224 (BitVec.ofInt 32 b.trimPpb) ||| put 256 192 (satInt 32 b.lastErr) ||| put 256 128 b.lastMeas |||
    put 256 96 (satNat 32 secs) ||| put 256 64 b.rejectCnt ||| put 256 6 b.srcUsed |||
    put 256 4 (BitVec.ofNat 2 src) ||| putB 256 3 b.mainsEn ||| putB 256 2 b.ptpEn

/-- The power entry. -/
def Backup.powerEntry (b : Backup) : BitVec 256 :=
  put 256 8 b.wakeCause ||| put 256 5 b.wakeAlarm ||| putB 256 4 b.wakePinEn ||| putB 256 3 b.wakeN |||
    putB 256 0 b.pwrHold

/-- Entry `e` of space 16#80 as read. -/
def Dev.backupEntry (d : Dev) (ram : Nat → Byte) (e : Nat) : BitVec 256 :=
  if e = 0 then d.calEntry
  else if e ≤ 8 then (d.bk.alarm (e - 1)).image
  else if e = 9 then d.bk.trimEntry
  else if e = 10 then d.bk.powerEntry
  else if e < 16 then 0
  else leBits 256 ((List.range 32).map (fun i => ram (retainedBase e + i)))

/-- Bits of entry `e` that a write may set (keep 0 elsewhere, R14). -/
def backupKeep (e : Nat) : BitVec 256 :=
  if e = 0 then maskOf 256 [(8, 32), (4, 1), (0, 1)]
  else if e ≤ 8 then maskOf 256 [(8, 104), (0, 3)]
  else if e = 9 then maskOf 256 [(8, 56), (0, 2)]
  else if e = 10 then maskOf 256 [(64, 192), (16, 16), (2, 1)]
  else if e < 16 then BitVec.allOnes 256
  else 0

/-- May a write reach entry `e` (R503). -/
def backupEntryOpen (e : Nat) : Bool := !decide ((16 ≤ e ∧ e ≤ 784) ∨ e = 2063)

/-- STATE checks of an image (R506, R508). -/
def backupEntryOk (e : Nat) (img : BitVec 256) : Bool :=
  if e = 9 then
    let t := (fld img 224 32).toInt
    decide (-200000 ≤ t ∧ t ≤ 200000)
  else if e = 10 then !bit img 1 || fld img 32 32 == shutdownConfirm
  else true

/-- Apply an image of space 16#80 (R488, R495, R499, R506, R508). -/
def backupEntryWrite (e : Nat) (img : BitVec 256) (d : Dev) : Dev :=
  if e = 0 then
    let d := d.modBk (fun b => { b with calSrc := bit img 6, utcStep := if bit img 6 then b.utcStep else none })
    if bit img 7 then rlAck d else d
  else if e ≤ 8 then alarmWrite (e - 1) img d
  else if e = 9 then
    d.modBk (fun b => { b with trimPpb := (fld img 224 32).toInt, mainsEn := bit img 3, ptpEn := bit img 2 })
  else if e = 10 then
    let d := d.modBk (fun b => { b with wakePinEn := bit img 4 })
    if bit img 1 then shutdown d else d
  else if e < 16 then d
  else d.store (retainedBase e) (leBytes 32 img.toNat)

/-- Bit 13 of FAULT_ACTIVE (R509). -/
def Dev.backupFault (d : Dev) : Bool := !d.bk.valid || !d.bk.calSet

end Sys2Proof.Machine
end

