-- ==== Sys2Proof/Machine/Timebase.lean ====
section
/-!
DEFINITION. The frame timebase (R41 to R53): alignment to network time, the alignment step, overruns and the frame
registers.
-/
namespace Sys2Proof.Machine

/-- Change the timebase. -/
def Dev.modTb (d : Dev) (f : Timebase → Timebase) : Dev := { d with tb := f d.tb }

/-- A correction that the control law chooses: the manual gives its limits only (R44; DESIGN CHOICE: log entry 8). -/
def steer (d : Dev) : Dev :=
  let r := freeNat d
  r.2.modTb (fun t => { t with corrPpb := (r.1 % 400001 : Nat) - 200000 })

/-- Enter a timebase state, with its event. -/
def enterTb (st : TbState) (code : Nat) (isFault : Bool) (d : Dev) : Dev :=
  report (ev code isFault 0 0)
    (d.modTb (fun t => { t with
      tb := st
      goodRun := 0
      badRun := 0
      acqAfterLoss := code == 0x0115 || (t.acqAfterLoss && st != .locked) }))

/-- FRAME_CTRL.PTP_ALIGN_EN written (R45). -/
def alignWrite (on : Bool) (d : Dev) : Dev :=
  let d := d.modTb (fun t => { t with alignEn := on })
  if on then d
  else
    let d := d.modTb (fun t => { t with corrPpb := 0, corrHist := [], sinceMeas := 0 })
    trimVoid (if d.tb.tb = .free then d else enterTb .free 0x0112 false d)

/-- FRAME_CTRL written (R45, R52). -/
def frameCtrlWrite (v : Reg) (d : Dev) : Dev :=
  alignWrite (bit v 0) (d.modTb (fun t => { t with stepEn := bit v 1 }))

/-- Network time of the next sample 0: what the source gave, and the frames begun since then (R46). -/
def Meas.targetNow (m : Meas) (d : Dev) : Option W64 :=
  m.target.map (fun n => n + BitVec.ofNat 64 (framesSince m.taken d))

/-- The first entry into LOCKED: the alignment step of the next frame, or PHASE_ONLY (R46, R47, R224). -/
def firstLock (target : Option W64) (d : Dev) : Dev :=
  if d.tb.lockedOnce then d
  else
    let d := d.modTb (fun t => { t with lockedOnce := true })
    match target with
    | some n =>
      if d.tb.stepEn = true ∧ d.tb.frame.toNat + 1 < n.toNat then d.modTb (fun t => { t with stepDue := some n })
      else report (ev 0x0114 false 0 0) (d.modTb (fun t => { t with phaseOnly := true }))
    | none => report (ev 0x0114 false 0 0) (d.modTb (fun t => { t with phaseOnly := true }))

/-- A measurement joins the last 16, with the correction that stands when it arrives: R45 does not say whether that or
the one steered after it counts (DESIGN CHOICE: log entry 81). -/
def Timebase.noteMeas (t : Timebase) : Timebase :=
  { t with sinceMeas := 0, corrHist := (t.corrPpb :: t.corrHist).take 16 }

/-- A measurement drives the state table (R45). The run of 8 counts measurements that arrive in ACQUIRING, so not the one
that enters it (DESIGN CHOICE: log entry 81). -/
def measurement (m : Meas) (d : Dev) : Dev :=
  let size := m.offset.natAbs
  let off := BitVec.ofInt 32 (clampInt (-2147483647) 2147483647 m.offset)
  let d := d.modTb (fun t => { t with offsetNs := off })
  if !d.tb.alignEn then d
  else
    let d := steer (d.modTb Timebase.noteMeas)
    match d.tb.tb with
    | .free => d.modTb (fun t => { t with tb := .acquiring, goodRun := 0, badRun := 0 })
    | .acquiring =>
      let run := if size ≤ 1000 then d.tb.goodRun + 1 else 0
      let d := d.modTb (fun t => { t with goodRun := run })
      if 8 ≤ run then firstLock (m.targetNow d) (enterTb .locked 0x0110 false d) else d
    | .locked =>
      let run := if 10000 < size then d.tb.badRun + 1 else 0
      let d := d.modTb (fun t => { t with badRun := run })
      if 4 ≤ run then enterTb .acquiring 0x0115 true d else d
    | .holdover =>
      if size ≤ 1000 then enterTb .locked 0x0110 false d
      else d.modTb (fun t => { t with tb := .acquiring, goodRun := 0, badRun := 0 })

/-- TIMEBASE_MEASUREMENT: take the measurement that the network unit has made (R45). -/
def timebaseMeasurement (d : Dev) : Dev :=
  match d.net.meas with
  | none => d
  | some m => trimVoid (measurement m { d with
      net := { d.net with meas := none }, ply := { d.ply with timed := d.ply.timed || d.ply.role == .joining } })

/-- 4 s without a valid measurement (R45), counted as 4,000 frames begun since the last one; the mean of holdover takes the
measurements since FREE was left where they are fewer than 16 (DESIGN CHOICE: log entry 113). -/
def timebaseTimeout (d : Dev) : Dev :=
  if d.tb.sinceMeas < 4000 then d
  else
    match d.tb.tb with
    | .acquiring => enterTb .free 0x0112 false (d.modTb (fun t => { t with corrPpb := 0, corrHist := [] }))
    | .locked =>
      let h := d.tb.corrHist
      let r := meanOpen h.sum h.length d
      let corr := if h = [] then r.2.tb.corrPpb else r.1
      trimVoid (enterTb .holdover 0x0111 true (r.2.modTb (fun t => { t with corrPpb := corr })))
    | _ => d

/-! ### Overruns (R49, R50) -/

def phaseIndex : Phase → Nat
  | .a => 0
  | .b => 1
  | .c => 2
  | .d => 3
  | .e => 4
  | .f => 5

/-- A phase has overrun: its bit, its counter, its event (R50). -/
def overrun (p : Phase) (d : Dev) : Dev :=
  let k := phaseIndex p
  report (ev (0x0101 + k) true k 0)
    (d.modTb (fun t => { t with
      ovr := t.ovr ||| putB 6 k true
      ovrCnt := tset 0 t.ovrCnt k (satAdd (tget 0 t.ovrCnt k) 1)
      cut := t.cut.filter (fun q => q != p) }))

/-- The window of a phase cut its work, which the strobe at its end reports (R49, R642). -/
def noteCut (p : Phase) (left : Bool) (d : Dev) : Dev :=
  if left && !d.tb.cut.contains p then d.modTb (fun t => { t with cut := t.cut ++ [p] }) else d

/-- Cycles measured in a phase (R52, R644). -/
def notePeak (p : Phase) (cycles : Nat) (d : Dev) : Dev :=
  d.modTb (fun t => { t with peak := tset 0 t.peak (phaseIndex p) (maxU (tget 0 t.peak (phaseIndex p)) (satNat 32 cycles)) })

/-- FRAME_STATUS. -/
def TbState.code : TbState → Nat
  | .free => 0
  | .acquiring => 1
  | .locked => 2
  | .holdover => 3

def Timebase.status (t : Timebase) : Reg :=
  putB 32 3 t.phaseOnly ||| putB 32 2 t.stepped ||| put 32 0 (BitVec.ofNat 2 t.tb.code)

/-! ### The frame counter (R41, R42, R46) -/

/-- The number that the next frame receives. -/
def Timebase.nextFrame (t : Timebase) : W64 := t.stepDue.getD (t.frame + 1)

end Sys2Proof.Machine
end

