-- ==== Sys2Proof/Machine/Transport.lean ====
section
/-!
DEFINITION. The RDMA transport (R165 to R200): channel descriptors and states, records and their tags, the event queue
drain, publication, acknowledgement and retries.
-/
namespace Sys2Proof.Machine

/-! ### Descriptor fields (R169) -/

def Channel.ringLog2 (c : Channel) : Nat := (fld c.cfg 5 5).toNat
def Channel.size (c : Channel) : Nat := 2 ^ c.ringLog2
def Channel.ackTimeout (c : Channel) : Nat := (fld c.cfg 10 5).toNat
def Channel.rnrRetry (c : Channel) : Nat := (fld c.cfg 15 3).toNat
def Channel.retryCnt (c : Channel) : Nat := (fld c.cfg 18 3).toNat
def Channel.pubImm (c : Channel) : Bool := bit c.cfg 27
def Channel.mtu (c : Channel) : Nat := if bit c.cfg 28 then 4096 else 1024
def Channel.ipv6 (c : Channel) : Bool := bit c.cfg 29
def Channel.portNo (c : Channel) : Nat := if bit c.cfg 30 then 1 else 0
def Channel.hostQpn (c : Channel) : BitVec 24 := fld c.cfg 64 24
def Channel.hostPsn (c : Channel) : BitVec 24 := fld c.cfg 96 24
def Channel.modPsn (c : Channel) : BitVec 24 := fld c.cfg 128 24
def Channel.ringRkey (c : Channel) : Reg := fld c.cfg 160 32
def Channel.ringBase (c : Channel) : W64 := fld c.cfg 192 64
def Channel.prodAddr (c : Channel) : W64 := fld c.cfg 256 64
def Channel.startSeq (c : Channel) : Reg := fld c.cfg 320 32
def Channel.replyRkey (c : Channel) : Reg := fld c.cfg 352 32
def Channel.replyBase (c : Channel) : W64 := fld c.cfg 384 64
def Channel.replySize (c : Channel) : Nat := (fld c.cfg 448 32).toNat
def Channel.hostIp (c : Channel) : BitVec 128 := fld c.cfg 512 128

/-- RW fields of the block without OPEN, and its keep-0 fields (R169). -/
def descMask : BitVec 1024 :=
  maskOf 1024 [(640, 48), (512, 128), (448, 32), (384, 64), (352, 32), (320, 32), (256, 64), (192, 64), (160, 32),
    (128, 24), (96, 24), (64, 24), (5, 26)]
def descKeep : BitVec 1024 :=
  maskOf 1024 [(864, 160), (480, 32), (152, 8), (120, 8), (88, 8), (48, 16), (34, 6), (0, 5)]

def ChState.code : ChState → Nat
  | .closed => 0
  | .opened => 1
  | .error => 2

/-- The descriptor block as read (R169). -/
def Channel.image (c : Channel) : BitVec 1024 :=
  put 1024 832 (BitVec.ofNat 32 (c.txq.length + c.backlog.length)) ||| put 1024 800 c.dropCnt ||| put 1024 768 c.consSeq |||
    put 1024 736 c.pubSeq ||| put 1024 704 c.nextSeq ||| put 1024 688 c.openGen ||| (c.cfg &&& descMask) |||
    put 1024 40 c.errCode ||| put 1024 32 (BitVec.ofNat 2 c.st.code) ||| putB 1024 31 (c.st != .closed)

/-- The link of a channel's port is up. -/
def Dev.linkUpFor (d : Dev) (c : Channel) : Bool := (d.port c.portNo).link

/-! ### Channel states (R170 to R174, R206) -/

/-- The port holds an address of the channel's family (R206). -/
def Dev.portHasAddress (d : Dev) (c : Channel) : Bool :=
  let p := d.port c.portNo
  if c.ipv6 then [0, 1, 2, 3].any (fun k => tget 0 p.ip6 k != 0) else p.ip4 != 0

/-- The conditions of OPEN = 1 on a block (R171, R206, R584). -/
def openOk (c : Channel) (d : Dev) : Bool :=
  let ring := 64 * c.size
  let inside := fun (i : Nat) => decide ((c.prodAddr + BitVec.ofNat 64 i - c.ringBase).toNat < ring)
  decide (6 ≤ c.ringLog2 ∧ c.ringLog2 ≤ 16) &&
    decide (c.ringBase.toNat % 64 = 0 ∧ c.replyBase.toNat % 64 = 0 ∧ c.prodAddr.toNat % 16 = 0) &&
    !(List.range 16).any inside &&
    decide (c.replySize % 64 = 0 ∧ c.replySize ≤ 16777216) &&
    c.hostQpn != 0 && c.hostIp != 0 &&
    decide (8 ≤ c.ackTimeout ∧ c.ackTimeout ≤ 20) &&
    (c.ipv6 || fld c.hostIp 32 96 == 0#96) && d.portHasAddress c && c.openGen != 0xFFFF

/-- A CLOSED channel enters OPEN (R173). -/
def openChannel (ch : Nat) (d : Dev) : Dev :=
  let d := d.modChan ch (fun c => { Channel.reset with
    cfg := c.cfg
    st := .opened
    nextSeq := c.startSeq, pubSeq := c.startSeq, consSeq := c.startSeq, ackedSeq := c.startSeq
    openGen := c.openGen + 1, errCode := c.errCode
    expPsn := c.modPsn
    nextPsn := c.hostPsn })
  report { ev 0x0401 false ch 0 with dests := transDests d ch } d

/-- The packets of a channel that have not begun to leave are dropped with its queue pair. DEDUCED: log entry 86. -/
def dropEgress (ch : Nat) (d : Dev) : Dev :=
  { d with eg := d.eg.map (fun e => (e.1, { e.2 with queue := e.2.queue.filter (fun x => x.chan != some ch) })) }

/-- An OPEN or ERROR channel enters CLOSED (R173). DEDUCED: log entry 25. -/
def closeChannel (ch : Nat) (d : Dev) : Dev :=
  match (d.chan ch).st with
  | .closed => d
  | .opened =>
    let d := dropEgress ch (discardCommands ch d)
    let d := d.modChan ch (fun c => { c with
      st := .closed, txq := [], backlog := [], drops := Drops.none, unacked := [], ackedPkts := 0, rnrWait := false })
    report { ev 0x0402 false ch 0 with dests := transDests d ch } d
  | .error =>
    let e := (d.chan ch).errCode
    let d := d.modChan ch (fun c => { c with st := .closed })
    report { ev 0x0402 false ch e.toNat with dests := transDests d ch } d

/-- An OPEN channel enters ERROR (R173, R174). -/
def errorChannel (ch : Nat) (code : Nat) (d : Dev) : Dev :=
  if (d.chan ch).st ≠ .opened then d
  else
    let d := dropEgress ch (discardCommands ch d)
    let d := d.modChan ch (fun c => { c with
      st := .error, errCode := BitVec.ofNat 8 code, txq := [], backlog := [], drops := Drops.none, unacked := []
      ackedPkts := 0, rnrWait := false })
    report { ev 0x0403 true ch code with dests := transDests d ch } d

/-- CHANNEL_OPEN: OPEN written 1 (R171, R173). -/
def channelOpen (ch : Nat) (d : Dev) : Dev :=
  let c := d.chan ch
  if ch < 64 ∧ c.st = .closed ∧ openOk c d = true then openChannel ch d else d

/-- CHANNEL_CLOSE: OPEN written 0 (R173). -/
def channelClose (ch : Nat) (d : Dev) : Dev := if ch < 64 then closeChannel ch d else d

/-- May a WRITE_REG of channel `carrier` leave block `ch` with this image; word 0 written or not (R170, R171). -/
def descOk (carrier ch : Nat) (img : BitVec 1024) (word0 : Bool) (d : Dev) : Bool :=
  let c := d.chan ch
  if ch = 64 then !(word0 && !bit img 31 && carrier == 64)
  else if c.st ≠ .closed then
    ((c.cfg ^^^ img) &&& descMask) == 0 && !(word0 && !bit img 31 && carrier == ch)
  else !(word0 && bit img 31) || openOk { c with cfg := img &&& descMask } d

/-- May word `i` of a block stand as the image has it: where the channel is not CLOSED it must leave its fields, OPEN
excepted; word 0 carries OPEN, with what OPEN asks of the block (R113, R170, R171). DEDUCED: log entry 30. -/
def descWordOk (carrier ch i : Nat) (img : BitVec 1024) (d : Dev) : Bool :=
  let c := d.chan ch
  let shuts := i == 0 && !bit img 31 && carrier == ch
  if ch = 64 then !shuts
  else if c.st ≠ .closed then ((c.cfg ^^^ img) &&& descMask &&& maskOf 1024 [(32 * i, 32)]) == 0 && !shuts
  else i != 0 || !bit img 31 || openOk { c with cfg := img &&& descMask } d

/-- Apply a write of a block (R170, R171, R173). -/
def descWrite (ch : Nat) (img : BitVec 1024) (word0 : Bool) (d : Dev) : Dev :=
  if ch = 64 then d
  else
    let d := if (d.chan ch).st = .closed then d.modChan ch (fun c => { c with cfg := img &&& descMask }) else d
    if !word0 then d else if bit img 31 then channelOpen ch d else channelClose ch d

/-! ### Requests of the module (R165, R186, R196) -/

/-- Queue and send one RDMA WRITE. -/
def sendWrite (ch : Nat) (kind : ReqKind) (addr : W64) (rkey : Reg) (data : List Byte) (imm : Option Reg) (d : Dev) : Dev :=
  let c := d.chan ch
  let n := max 1 ((data.length + c.mtu - 1) / c.mtu)
  let r : Req := ⟨c.nextPsn, c.nextPsn + BitVec.ofNat 24 (n - 1), kind, addr, rkey, data, imm⟩
  (d.setChan ch { c with nextPsn := c.nextPsn + BitVec.ofNat 24 n, unacked := c.unacked ++ [r] }).emit (.rdma ch r)

/-- Send the outstanding packets of a channel again, from the first unacknowledged one on (R165). -/
def resend (ch : Nat) (d : Dev) : Dev :=
  let c := d.chan ch
  if d.linkUpFor c then
    match c.unacked with
    | [] => d
    | r :: rs => rs.foldl (fun d r => d.emit (.rdma ch r))
        (d.emit (if c.ackedPkts = 0 then .rdma ch r else .rdmaPart ch r c.ackedPkts))
  else d

/-- 16#0406, once per link loss of a channel with data to send (R198): records and replies that wait, requests without ACK and
drops to be reported; a position of the ring that is only unpublished is none (DESIGN CHOICE: log entry 118). -/
def linkWaitReport (ch : Nat) (d : Dev) : Dev :=
  let c := d.chan ch
  if c.st = .opened ∧ c.linkWait = false ∧ (c.txq ≠ [] ∨ c.unacked ≠ [] ∨ c.drops.total ≠ 0) then
    let d := d.modChan ch (fun c => { c with linkWait := true })
    report { ev 0x0406 false ch 0 with dests := transDests d ch } d
  else d

/-! ### Records (R175 to R179, R185, R195) -/

/-- The IV of a record, or of its reply (R177, R179). -/
def recordIv (c : Channel) (ch : Nat) (seq : Reg) (kind : Nat) : List Byte :=
  leBytes 4 seq.toNat ++ leBytes 2 c.epoch ++ leBytes 2 c.openGen.toNat ++ [BitVec.ofNat 8 ch, BitVec.ofNat 8 kind, 0, 0]

/-- The 64 bytes of a record in its slot (R175, R177). -/
def recordBytes (d : Dev) (c : Channel) (ch : Nat) (seq : Reg) (r : AttnRec) : List Byte :=
  let img : BitVec 448 := put 448 192 r.body ||| put 448 128 r.cal ||| put 448 64 r.frame ||| put 448 32 seq |||
    putB 448 25 r.calUnset ||| putB 448 24 r.late ||| put 448 16 (BitVec.ofNat 8 ch) |||
    put 448 8 (BitVec.ofNat 8 (partOf ch)) ||| put 448 0 r.rtype
  let head := leBytes 56 img.toNat
  head ++ (gmac d.sec.key (recordIv c ch seq 1) head).take 8

/-- The COMPLETION record (R179). -/
def completionRecord (d : Dev) (c : Channel) (ch : Nat) (seq : Reg) (x : Completion) : AttnRec :=
  let mac : W64 := if x.reply = [] then 0 else leBits 64 ((gmac d.sec.key (recordIv c ch seq 2) x.reply).take 8)
  let body : BitVec 256 := put 256 192 mac ||| put 256 128 x.seq ||| put 256 96 (BitVec.ofNat 32 x.reply.length) |||
    put 256 64 x.failIndex ||| put 256 16 x.status ||| put 256 8 x.opcode ||| put 256 0 x.tag
  ⟨0x01, false, x.calUnset, x.frame, x.cal, body⟩

/-- The OVERFLOW record of a channel's drops, captured at the last of them (R175, R195). DEDUCED: log entry 33. -/
def overflowRecord (c : Channel) : AttnRec :=
  let o := c.drops
  let body : BitVec 256 := put 256 192 o.firstFrame ||| put 256 128 o.lastFrame ||| put 256 96 o.total |||
    put 256 80 o.cov ||| put 256 64 o.alarm ||| put 256 48 o.recd ||| put 256 32 o.event ||| put 256 16 o.time |||
    putB 256 1 o.queueFull ||| putB 256 0 o.ringFull
  ⟨0x08, false, o.calUnset, o.lastFrame, o.cal, body⟩

/-- Slots assigned and not consumed: U of R185. -/
def Channel.used (c : Channel) : Nat := (c.nextSeq - c.consSeq).toNat

/-- Give a record the next RING_SEQ and write it; RING_SEQ past 0 for the 65,536th time is an error (R174, R176). -/
def writeRecord (ch : Nat) (mk : Channel → Reg → AttnRec) (d : Dev) : Dev :=
  let c := d.chan ch
  let seq := c.nextSeq
  let wraps := seq == 0xFFFFFFFF
  if wraps && c.epoch == 65535 then errorChannel ch 6 d
  else
    let bytes := recordBytes d c ch seq (mk c seq)
    let addr := c.ringBase + BitVec.ofNat 64 (64 * (seq.toNat % c.size))
    let d := d.setChan ch { c with nextSeq := seq + 1, epoch := if wraps then c.epoch + 1 else c.epoch }
    sendWrite ch (.records (seq + 1)) addr c.ringRkey bytes none d

/-- An OVERFLOW record is due: records were dropped, and no frame step's TIME record that must precede it waits (R192,
R195). DEDUCED: log entry 33. -/
def Channel.overflowDue (c : Channel) : Bool := c.drops.total != 0 && !(c.drops.afterStep && c.hasStep)

/-- What the transport engine does at a channel's turn (R185). -/
inductive Serve where
  | overflow
  | completion (x : Completion)
  | record (r : AttnRec)
  /-- These records stand at the head and do not fit. -/
  | drop (rs : List AttnRec)
  deriving DecidableEq, Repr

/-- The records before the first COMPLETION of a transmit queue. -/
def headRecords : List TxEntry → List AttnRec
  | .record r :: q => r :: headRecords q
  | _ => []

/-- What a channel's turn does, with its link up or down: an OVERFLOW record goes as soon as the space rule allows, else
the head moves, or all records at the head are dropped where they do not fit (R185, R195, R198). DEDUCED: log entry 33. -/
def Channel.serve (up : Bool) (c : Channel) : Option Serve :=
  if up && c.overflowDue && decide (c.used + 32 < c.size) then some .overflow
  else match c.txq with
    | [] => none
    | .completion x :: _ => if up && decide (c.used < c.size) then some (.completion x) else none
    | .record r :: _ =>
      if c.used + 33 < c.size then (if up then some (.record r) else none) else some (.drop (headRecords c.txq))

/-- The channel whose turn it is: the first one, from the pointer on, for which something can be done (R185). -/
def Dev.nextTurn (d : Dev) : Option Nat :=
  (rotateFrom d.tr.turn (List.range 65)).find? (fun ch =>
    let c := d.chan ch
    c.st == .opened && (c.serve (d.linkUpFor c)).isSome)

/-- Entries leave the head of a transmit queue; a COMPLETION record that waits behind it takes a free place (R183). -/
def Channel.pop (n : Nat) (c : Channel) : Channel :=
  let q := c.txq.drop n
  match c.backlog with
  | [] => { c with txq := q }
  | x :: rest => if q.length < 288 then { c with txq := q ++ [.completion x], backlog := rest } else { c with txq := q }

/-- The service goes on with the next channel (R185). -/
def passTurn (ch : Nat) (d : Dev) : Dev := { d with tr := { d.tr with turn := (ch + 1) % 65 } }

/-- COMPLETION: at its channel's turn, the record of a finished command is written once it fits (R107, R113, R185).
DEDUCED: log entry 33. DESIGN CHOICE: log entry 75. -/
def completionWrite (ch : Nat) (d : Dev) : Dev :=
  let c := d.chan ch
  if c.st ≠ .opened then d
  else if !d.linkUpFor c then linkWaitReport ch d
  else if d.nextTurn ≠ some ch then d
  else
    match c.serve true with
    | some (.completion x) =>
      let d := writeRecord ch (fun c s => completionRecord d c ch s x) (passTurn ch (d.setChan ch (c.pop 1)))
      if x.holdsSlot then d.freeSlot ch x.tag.toNat else d
    | _ => d

/-- RECORD_TRANSMIT: at its channel's turn, the record at the head is written, or the heads that do not fit are dropped
(R185, R195). DESIGN CHOICE: log entry 75. -/
def recordTransmit (ch : Nat) (d : Dev) : Dev :=
  let c := d.chan ch
  if c.st ≠ .opened then d
  else
    let up := d.linkUpFor c
    let d := if up then d else linkWaitReport ch d
    if d.nextTurn ≠ some ch then d
    else
      match c.serve up with
      | some .overflow =>
        let r := overflowRecord c
        writeRecord ch (fun _ _ => r) (passTurn ch (d.modChan ch (fun c => { c with drops := Drops.none })))
      | some (.record r) => writeRecord ch (fun _ _ => r) (passTurn ch (d.modChan ch (Channel.pop 1)))
      | some (.drop rs) =>
        rs.foldl (fun d r => dropRecord ch r.rtype true d) (passTurn ch (d.modChan ch (Channel.pop rs.length)))
      | _ => d

/-! ### The drain of phase E (R183) -/

/-- Put one record into its transmit queue. DEDUCED: log entry 25. -/
def pushRecord (ch : Nat) (r : AttnRec) (d : Dev) : Dev :=
  let c := d.chan ch
  if c.st ≠ .opened then { d with tr := { d.tr with closedCnt := satAdd d.tr.closedCnt 1 } }
  else if c.queued < 256 then d.modChan ch (fun c => { c with txq := c.txq ++ [.record r] })
  else dropRecord ch r.rtype false d

/-- Move the first `n` records of the event queue. -/
def drainQueue (n : Nat) (d : Dev) : Dev :=
  let q := d.tr.evq
  (q.take n).foldl (fun d x => pushRecord x.1 x.2 d) { d with tr := { d.tr with evq := q.drop n } }

/-- The TIME record of a frame step goes before every record of the new frame (R46, R182, R192). -/
def stepRecord (old new : W64) (d : Dev) : Dev :=
  let e := { ev 0x0113 false 0 0 with step := some (old, new) }
  let d := if recSelects d e then captureRep ⟨0, 0, e.code, 0, subsystemOf e.code, false, false, eventWords d e⟩ d else d
  let r := attnNow d (recordType e.code) false (eventBody d e)
  let a := d.openChans.foldl (fun (a : Dev × List Nat) ch =>
    let x := enqueue ch r a.1
    if x.2 then (limitedFuel 80 (ev0404 ch) x.1, a.2) else (x.1, a.2 ++ [ch])) (d, [])
  a.2.foldl (fun d ch => pushRecord ch r d) { a.1 with tr := { a.1.tr with evq := a.1.tr.evq.filter (fun x => x.2 != r) } }

/-! ### Publication and acknowledgement (R187, R196, R197) -/

/-- The sample that now runs, counted without the frame step. -/
def Dev.nowSample (d : Dev) : Nat := 32 * d.tb.ran + d.tb.sample

def ReqKind.isPublish : ReqKind → Bool
  | .publish _ => true
  | _ => false

/-- PRODUCER_PUBLISH: write the producer block (R187). -/
def producerPublish (ch : Nat) (d : Dev) : Dev :=
  let c := d.chan ch
  if c.st ≠ .opened ∨ d.linkUpFor c = false ∨ c.ackedSeq = c.pubSeq ∨ c.lastPub = some d.nowSample ∨
      c.unacked.any (fun r => r.kind.isPublish) = true then d
  else
    let s := c.ackedSeq
    let block : BitVec 128 := put 128 64 d.tb.frame ||| put 128 32 c.dropCnt ||| put 128 0 s
    sendWrite ch (.publish s) c.prodAddr c.ringRkey (leBytes 16 block.toNat) (if c.pubImm then some s else none)
      (d.setChan ch { c with pubSeq := s, lastPub := some d.nowSample })

/-- RNR_RETRY: the wait that an RNR NAK named has ended (R197). -/
def rnrRetry (ch : Nat) (d : Dev) : Dev :=
  let c := d.chan ch
  if c.st = .opened ∧ c.rnrWait = true then resend ch (d.setChan ch { c with rnrWait := false }) else d

/-- A packet of a channel's oldest request still waits in its port's queue with the link up: its ACK timer has not
started (R210). -/
def Dev.unsent (d : Dev) (ch : Nat) : Bool :=
  let c := d.chan ch
  d.linkUpFor c && match c.unacked with
    | [] => false
    | r :: _ => (tget Egress.reset d.eg c.portNo).queue.any (fun x => x.chan == some ch && match x.psn with
      | some p => decide ((p - r.psn).toNat ≤ (r.lastPsn - r.psn).toNat)
      | none => false)

/-- RETRANSMIT_TIMEOUT: no acknowledgement in time (R196, R210). -/
def retransmit (ch : Nat) (d : Dev) : Dev :=
  let c := d.chan ch
  if c.st ≠ .opened ∨ c.unacked = [] ∨ d.unsent ch = true then d
  else if c.retries < c.retryCnt then resend ch (d.setChan ch { c with retries := c.retries + 1 })
  else errorChannel ch 1 d

/-- An unsupported transport opcode or a malformed request is answered (R166, R174). PRESUMED: log entry 50. -/
def invalidAnswer (ch : Nat) (d : Dev) : Dev :=
  let c := d.chan ch
  if c.st ≠ .opened ∨ d.linkUpFor c = false then d else errorChannel ch 5 (d.emit (.nak ch c.expPsn 1))

/-- CONS_SEQ from the immediate data of a SEND (R188). -/
def consumerUpdate (ch : Nat) (v : Reg) (d : Dev) : Dev :=
  let c := d.chan ch
  if (v - c.consSeq).toNat ≤ (c.pubSeq - c.consSeq).toNat then d.setChan ch { c with consSeq := v }
  else
    let d := { d with tr := { d.tr with consRejCnt := satAdd d.tr.consRejCnt 1 } }
    report { ev 0x0405 false ch 0 with dests := transDests d ch } d

end Sys2Proof.Machine
end

