-- ==== Sys2Proof/Machine/Egress.lean ====
section
/-!
DEFINITION. The egress side of the ports (R165, R167, R205 to R214): the frames that the module's messages become, their
time on the wire, and which frame may start when, by gate and pause timer.
-/
namespace Sys2Proof.Machine

/-! ### Port fields (R226) -/

def Port.gateLast (p : Port) : Nat := (fld p.cfg 26 6).toNat
def Port.gateEn (p : Port) : Bool := bit p.cfg 25
def Port.vid (p : Port) : BitVec 12 := fld p.cfg 5 12
def Port.pcp (p : Port) : Nat := (fld p.cfg 2 3).toNat
def Port.fcMode (p : Port) : Nat := (fld p.cfg 0 2).toNat
def Port.serdes (p : Port) : Nat := (fld p.mode 0 2).toNat
def Port.limitMs (p : Port) : Nat := (fld p.pauseCfg 0 12).toNat
def Port.holdoffMs (p : Port) : Nat := (fld p.pauseCfg 12 12).toNat
def Port.pfcMask (p : Port) : BitVec 8 := fld p.pauseCfg 24 8
def Port.ingress (p : Port) : Int := (fld p.ptpLat 0 16).toNat
def Port.egress (p : Port) : Int := (fld p.ptpLat 16 16).toNat

/-- PORT_MAC of a port (R226). -/
def Dev.portMac (d : Dev) (p : Nat) : BitVec 48 := d.fuses.mac + BitVec.ofNat 48 p

/-- The module sends nothing while RESET_OUT_N is low (R605). -/
def Dev.maySend (d : Dev) (p : Nat) : Bool := (d.port p).link && !d.pwr.rstOut

/-- PORT_IP6 as 128 bits. -/
def Port.ip6Bits (p : Port) : BitVec 128 :=
  put 128 96 (tget 0 p.ip6 3) ||| put 128 64 (tget 0 p.ip6 2) ||| put 128 32 (tget 0 p.ip6 1) ||| put 128 0 (tget 0 p.ip6 0)

/-- A time in 0.2 ns as tenths of timebase cycles, rounded up: a timebase cycle is 2 ns scaled by the correction (R21, R207;
its sign: log entry 90). -/
def Dev.tenths (d : Dev) (r : Nat) : Nat :=
  let s := (1000000000 + d.tb.corrPpb).toNat
  (r * 1000000000 + s - 1) / s

/-- One sample in tenths of timebase cycles, and one pause quantum at a port's rate in 0.2 ns. -/
def sampleUnits : Nat := 156250
def Port.quantum (x : Port) : Nat := if x.speed = 2 then 1024 else 2560

/-- The time of a frame on the wire, in 0.2 ns: its octets with preamble and inter-frame gap (R208). -/
def Port.wireTime (x : Port) (len : Nat) : Nat := (len + 20) * (if x.speed = 2 then 16 else 40)

/-! ### The frames of a message (R165, R167, R205, R206) -/

/-- The class-7 and other fixed destination addresses: 802.1AS, MAC Control, broadcast (R205, R211, R513). -/
def ptpMac : BitVec 48 := 0x0180C200000E
def pauseMac : BitVec 48 := 0x0180C2000001
def allMac : BitVec 48 := 0xFFFFFFFFFFFF

/-- Octets of a RoCE v2 frame: Ethernet with tag and FCS, IP, UDP, BTH, the further headers, padded data, ICRC (R165). -/
def RocePkt.octets (p : RocePkt) : Nat :=
  let ext := match p.op with
    | .write _ reth imm => (if reth.isSome then 16 else 0) + (if imm.isSome then 4 else 0)
    | _ => 4
  22 + (if p.ipv6 then 40 else 20) + 8 + 12 + ext + (p.data.length + 3) / 4 * 4 + 4

/-- A RoCE v2 packet of a channel as its port sends it (R167, R205, R206): PRESUMED: log entry 89. -/
def Dev.roceItem (d : Dev) (ch : Nat) (psn : BitVec 24) (key : Bool) (op : RoceOp) (data : List Byte) : Nat × EgItem :=
  let c := d.chan ch
  let x := d.port c.portNo
  let p : RocePkt :=
    { ipv6 := c.ipv6
      srcIp := if c.ipv6 then x.ip6Bits else x.ip4.setWidth 128
      dstIp := c.hostIp
      dscp := fld c.cfg 21 6
      ecn := 0
      srcPort := 49152 + ch
      dstPort := 4791
      qpn := c.hostQpn
      psn := psn
      op := op
      data := data }
  (c.portNo,
    { cls := x.pcp
      frame := ⟨fld c.cfg 640 48, d.portMac c.portNo, some (BitVec.ofNat 3 x.pcp, x.vid), .roce p⟩
      len := max 64 p.octets
      chan := some ch
      psn := if key then some psn else none })

/-- The packets of a request from number `skip` on: First or Only with address, key and length, Last or Only with the
immediate data (R165, R186). -/
def Dev.writePackets (d : Dev) (ch : Nat) (r : Req) (skip : Nat) : List (Nat × EgItem) :=
  let mtu := (d.chan ch).mtu
  let n := (r.lastPsn - r.psn).toNat + 1
  (List.range (n - skip)).map (fun j =>
    let i := skip + j
    let form : PktForm := if n = 1 then .only else if i = 0 then .first else if i + 1 = n then .last else .middle
    d.roceItem ch (r.psn + BitVec.ofNat 24 i) true
      (.write form (if i = 0 then some (r.addr, r.rkey, r.data.length) else none) (if i + 1 = n then r.imm else none))
      (slice r.data (mtu * i) mtu))

/-- A frame given by its EtherType and body, the tag being the body's first octets where there is one (R205). -/
def Dev.plainItem (d : Dev) (p cls : Nat) (dst : BitVec 48) (ty : Nat) (body : List Byte) : EgItem :=
  let len := max 64 (18 + body.length)
  if ty = 0x8100 then
    let t := BitVec.ofNat 16 (beNat (slice body 0 2))
    { cls := (fld t 13 3).toNat, len := len, chan := none, psn := none
      frame := ⟨dst, d.portMac p, some (fld t 13 3, fld t 0 12), .bytes (beNat (slice body 2 2)) (body.drop 4)⟩ }
  else ⟨cls, ⟨dst, d.portMac p, none, .bytes ty body⟩, len, none, none⟩

/-- A PTP message, untagged and in class 7 (R205, R220). -/
def Dev.ptpItem (d : Dev) (p : Nat) (b : EthBody) : Nat × EgItem := (p, ⟨7, ⟨ptpMac, d.portMac p, none, b⟩, 72, none, none⟩)

/-- The frames that a message puts into the queues of its port. PRESUMED: log entry 89. -/
def Dev.framesOf (d : Dev) (m : OutMsg) : List (Nat × EgItem) :=
  match m with
  | .rdma ch r => d.writePackets ch r 0
  | .rdmaPart ch r skip => d.writePackets ch r skip
  | .ack ch psn => [d.roceItem ch psn false .ack []]
  | .nak ch psn code => [d.roceItem ch psn false (.nak code) []]
  | .eth p dst ty body => [(p, d.plainItem p 0 dst ty body)]
  | .pdelayReq p seq => [d.ptpItem p (.pdelayReq seq)]
  | .pdelayResp p seq t2 t3 => [d.ptpItem p (.pdelayResp seq t2), d.ptpItem p (.pdelayFollowUp seq t3)]
  | .ply body => [(2, { d.plainItem 2 7 allMac 0x88B5 body with len := max 64 (22 + body.length) })]
  | _ => []

/-- One's complement sum of 16-bit words (RFC 1071, for the ICMPv6 checksum). -/
def onesSum (bs : List Byte) : Nat :=
  let s := ((chunks 2 (bs.length / 2 + 1) bs).map (fun w => beNat (slice w 0 2))).sum
  let s := s % 65536 + s / 65536
  s % 65536 + s / 65536

/-- The frames that pass the queues by: MAC Control frames, and the datagrams of recovery mode. PRESUMED: log entry 89. -/
def Dev.directFrames (d : Dev) (m : OutMsg) : List (Nat × EthFrame) :=
  match m with
  | .pause p classes quanta => [(p, ⟨pauseMac, d.portMac p, none, .pause classes quanta⟩)]
  | .udp mac ip port src body =>
    let udp := beBytes 2 50064 ++ beBytes 2 port ++ beBytes 2 (8 + body.length) ++ [0, 0] ++ body
    let head := [0x45#8, 0] ++ beBytes 2 (20 + udp.length) ++ [0, 0, 0, 0, 64, 17]
    let addrs := beBytes 4 src.toNat ++ beBytes 4 ip.toNat
    let sum := 65535 - onesSum (head ++ [0, 0] ++ addrs)
    [(0, ⟨mac, d.portMac 0, none, .bytes 0x0800 (head ++ beBytes 2 sum ++ addrs ++ udp)⟩)]
  | _ => []

/-! ### Which frame may start (R207, R208, R212, R214) -/

/-- The gate list of a frame as spans in tenths of timebase cycles: open classes, start, end (R207). -/
def gateSpans (g : Tbl Reg) (cfg : Reg) : List (BitVec 8 × Nat × Nat) :=
  if !bit cfg 25 then [(0xFF, 0, 5000000)]
  else
    let n := (fld cfg 26 6).toNat
    let r := (List.range (n + 1)).foldl (fun (a : List (BitVec 8 × Nat × Nat) × Nat) k =>
      let e := tget 0xFF000000#32 g k
      let stop := if k = n then 5000000 else a.2 + 10 * (fld e 0 19).toNat
      (a.1 ++ [(fld e 24 8, a.2, stop)], stop)) ([], 0)
    r.1.filter (fun s => decide (s.2.1 < s.2.2))

/-- The spans of this frame and of the next one, whose list is the one that now stands (R210). -/
def Port.spans (x : Port) : List (BitVec 8 × Nat × Nat) :=
  gateSpans x.liveGates x.liveCfg ++ (gateSpans x.gates x.cfg).map (fun s => (s.1, s.2.1 + 5000000, s.2.2 + 5000000))

/-- When the gate of a class that is open at `t` closes; `none`: it is closed (R207, R208). -/
def gateClose (c t : Nat) (spans : List (BitVec 8 × Nat × Nat)) : Option Nat :=
  (((spans.filter (fun s => decide (t < s.2.2))).takeWhile (fun s => bit s.1 c)).map (fun s => s.2.2)).getLast?

/-- May a class start a frame at `t`, in tenths of timebase cycles from the last sample boundary (R207, R208, R212, R214)?
DEDUCED: log entry 90. -/
def Dev.canStart (d : Dev) (p c len t : Nat) : Bool :=
  let x := d.port p
  let held := decide (c ∈ tkeys x.paused) && decide (t < tget 0 x.paused c)
  let now := d.tb.sample * sampleUnits + t
  !held && match gateClose c now x.spans with
    | some e => decide (now + d.tenths (x.wireTime len) ≤ e)
    | none => false

/-- The egress side of a port. -/
def Dev.egress (d : Dev) (p : Nat) : Egress := tget Egress.reset d.eg p
def Dev.setEgress (d : Dev) (p : Nat) (e : Egress) : Dev := { d with eg := tset Egress.reset d.eg p e }

/-- The order of the ply frames among the frames of their class: NOTICE, STATUS, the cutover set, MIRROR, the rest of
CATCHUP; a Pdelay message ranks with STATUS (R515, R534). DEDUCED: log entry 61. -/
def EgItem.rank (x : EgItem) : Nat :=
  match x.frame.body with
  | .bytes ty b =>
    if ty ≠ 0x88B5 then 1
    else match (b.getD 2 0).toNat with
      | 4 => 0
      | 1 => 1
      | 2 => 3
      | _ => if bit (b.getD 40 0) 0 then 2 else 4
  | _ => 1

/-- The frame of a class that goes next: the oldest of the lowest rank. -/
def Dev.oldest (d : Dev) (p c : Nat) : Option EgItem :=
  [0, 1, 2, 3, 4].findSome? (fun r => (d.egress p).queue.find? (fun x => x.cls == c && x.rank == r))

/-- The frame that starts at `t`: of the highest class whose next frame may (R208, R214). PRESUMED: log entry 89. -/
def Dev.pick (d : Dev) (p t : Nat) : Option EgItem :=
  [7, 6, 5, 4, 3, 2, 1, 0].findSome? (fun c =>
    match d.oldest p c with
    | some x => if d.canStart p c x.len t then some x else none
    | none => none)

/-- A ply frame as it goes out: PLY_SEQ in its header, the CRC behind its payload (R514). DEDUCED: log entry 61. -/
def plySeal (seq : Reg) (body : List Byte) : List Byte :=
  let b := body.take 20 ++ leBytes 4 seq.toNat ++ body.drop 24
  b ++ leBytes 4 (crc32 b).toNat

/-- The frame of an item as it goes out. -/
def EgItem.sealed (x : EgItem) (seq : Reg) : EthFrame :=
  match x.frame.body with
  | .bytes ty b => if ty = 0x88B5 then { x.frame with body := .bytes ty (plySeal seq b) } else x.frame
  | _ => x.frame

/-- Is an item a ply frame, and is it STATUS. -/
def EgItem.isPly (x : EgItem) : Bool := match x.frame.body with
  | .bytes ty _ => ty == 0x88B5
  | _ => false
def EgItem.isStatus (x : EgItem) : Bool := x.isPly && x.rank == 1

/-- The ns from the sample 0 at which a STATUS was queued to the moment `t`, in 0.2 ns from the last boundary (R516). -/
def Dev.statusDelay (d : Dev) (x : EgItem) (t : Nat) : Nat :=
  let queued : W64 := match x.frame.body with
    | .bytes _ b => leBits 64 (slice b 24 8)
    | _ => 0
  (d.tb.frame.toNat - queued.toNat) * 1000000 + (d.tb.sample * sampleUnits + t) / 5

/-- A frame starts at `t`; a ply frame takes the next PLY_SEQ (R514, R516). -/
def startFrame (p t : Nat) (x : EgItem) (d : Dev) : Dev :=
  let e := d.egress p
  let seq := if x.isPly then e.plySeq + 1 else e.plySeq
  let e := { e with
    queue := e.queue.eraseP (fun y => y == x), busy := t + d.tenths ((d.port p).wireTime x.len), plySeq := seq
    statusDelay := if x.isStatus then some (d.statusDelay x t) else e.statusDelay }
  let d := d.setEgress p e
  { d with wire := d.wire ++ [(p, x.sealed seq)] }

/-- Start what may start before `stop`, at most `n` frames. -/
def serveFrames (p stop : Nat) : Nat → Dev → Dev
  | 0, d => d
  | n + 1, d =>
    let e := d.egress p
    let t := max e.now e.busy
    if stop ≤ t then d
    else match d.pick p t with
      | none => d
      | some x => serveFrames p stop n (startFrame p t x d)

/-- The moments after `now` and before `stop` at which a frame may become able to start: gate changes and pause ends. -/
def Dev.startTimes (d : Dev) (p now stop : Nat) : List Nat :=
  let x := d.port p
  let base := d.tb.sample * sampleUnits
  let ts := (x.spans.map (fun s => s.2.1 - base)) ++ x.paused.map (·.2)
  tkeys ((ts.filter (fun t => decide (now < t ∧ t < stop))).foldl (fun (a : Tbl Nat) t => tput a t 0) [])

/-- Serve a port up to a moment, in tenths of timebase cycles from the last sample boundary. -/
def servePort (p stop : Nat) (d : Dev) : Dev :=
  let e := d.egress p
  if e.queue = [] ∨ !d.maySend p then d.setEgress p { e with now := max e.now stop }
  else (d.startTimes p e.now stop ++ [stop]).foldl (fun d t =>
    let d := serveFrames p t (d.egress p).queue.length d
    d.setEgress p { d.egress p with now := max (d.egress p).now t }) d

/-- The ports at the end of a sample. -/
def egressSample (d : Dev) : Dev := [0, 1, 2].foldl (fun d p =>
  let d := servePort p sampleUnits d
  let e := d.egress p
  d.setEgress p { e with now := 0, busy := e.busy - sampleUnits }) d

/-- Put a frame into its queue; a packet sent again takes the place of its own copy there. -/
def putFrame (x : Nat × EgItem) (d : Dev) : Dev :=
  let e := d.egress x.1
  d.setEgress x.1 { e with queue := e.queue.filter (fun y => !(y.chan == x.2.chan && y.psn == x.2.psn && x.2.psn.isSome)) ++ [x.2] }

/-- What a command handed out goes into the queues of the ports, and what may start at once starts (R205 to R214); nothing
leaves while RESET_OUT_N is low (R605). -/
def depart (d : Dev) : Dev :=
  let xs := d.out.flatMap d.framesOf
  let ys := if d.pwr.rstOut then [] else d.out.flatMap d.directFrames
  let d := if ys = [] then d else { d with wire := d.wire ++ ys }
  if xs = [] then d
  else [0, 1, 2].foldl (fun d p =>
    if d.maySend p then serveFrames p ((d.egress p).now + 1) (d.egress p).queue.length d else d)
    (xs.foldl (fun d x => putFrame x d) d)

end Sys2Proof.Machine
end

