-- ==== Sys2Proof/Machine/Riser.lean ====
section
/-!
DEFINITION. The Ethernet ports and network time (R201 to R230, R606): links and their search, received frames and address
answers, gate lists, pause and its watchdog, PTP, the 1 PPS pins and MDIO.
-/
namespace Sys2Proof.Machine

/-- An event of the riser network unit (R230). -/
def portEv (code : Nat) (isFault : Bool) (p data : Nat) : Event := ev code isFault p data

/-! ### Links (R201, R198, R606) -/

/-- The SerDes mode that a port now uses: in the link search 1000BASE-X, SGMII, 2500BASE-X in turn (R606). -/
def Port.modeNow (p : Port) : Nat :=
  match p.search with
  | none => p.serdes
  | some (i, _) => if i = 0 then 2 else if i = 1 then 1 else 3

/-- The channels that use a port. -/
def Dev.portChans (d : Dev) (p : Nat) : List Nat := (List.range 65).filter (fun c => (d.chan c).portNo == p)

/-- The link of a port comes up with a rate in Mbit/s (R201, R230, R606). -/
def linkUp (p mbit : Nat) (d : Dev) : Dev :=
  let x := d.port p
  let m := x.modeNow
  if x.link || m == 0 then d
  else if m == 1 && mbit != 1000 then report (portEv 0x0502 true p 3) d
  else
    let speed : Nat := if m = 3 then 2 else 1
    let mode := if x.search.isSome then (x.mode &&& ~~~3#32) ||| BitVec.ofNat 32 m else x.mode
    let d := d.setPort p { x with link := true, sync := true, speed := BitVec.ofNat 2 speed, search := none, mode := mode }
    let d := (if p < 2 then d.portChans p else []).foldl (fun d c => d.modChan c (fun c => { c with linkWait := false })) d
    report (portEv 0x0501 false p speed) d

/-- The link of a port is lost (R198, R226, R230). Running pause timers run on (DESIGN CHOICE: log entry 122). -/
def linkDown (p : Nat) (d : Dev) : Dev :=
  let x := d.port p
  if !x.link then d
  else
    let d := d.setPort p { x with link := false, sync := false, speed := 0, pdelay := 0xFFFFFFFF }
    let d := report (portEv 0x0502 true p 0) d
    (if p < 2 then d.portChans p else []).foldl (fun d c => linkWaitReport c d) d

/-- The SerDes loses code-group synchronisation (R230). -/
def pcsSyncLost (p : Nat) (d : Dev) : Dev :=
  let x := d.port p
  if x.sync then report (portEv 0x0503 true p 0) (d.setPort p { x with sync := false }) else d

/-- A 2 s interval of the link search ends (R606). -/
def linkSearchStep (p : Nat) (d : Dev) : Dev :=
  let x := d.port p
  match x.search with
  | some (i, age) => if 2000 ≤ age ∧ x.link = false then d.setPort p { x with search := some ((i + 1) % 3, 0) } else d
  | none => d

/-- PORT_MODE written by the host (R606). -/
def portModeWrite (p : Nat) (v : Reg) (d : Dev) : Dev :=
  let x := d.port p
  let d := if x.link ∧ fld v 0 2 ≠ fld x.mode 0 2 then linkDown p d else d
  d.modPort p (fun x => { x with mode := v &&& 7, search := none })

/-! ### Received frames (R203, R204, R513) -/

/-- A received frame is dropped (R203). -/
def rxDropped (p : Nat) (d : Dev) : Dev := d.modPort p (fun x => { x with rxDropCnt := satAdd x.rxDropCnt 1 })

/-- Does a port accept a frame: its length, its FCS, and room in the receive buffer (R203). -/
def Port.rxOk (x : Port) (h : FrameHead) : Bool :=
  decide (64 ≤ h.len ∧ h.len ≤ 4352) && h.fcsOk && decide (x.fill + h.len ≤ 65536)

/-- Does a port take an accepted frame by its tag and EtherType: a riser port (R204), the ply port (R513). -/
def Port.takes (x : Port) (p : Nat) (h : FrameHead) : Bool :=
  match h.tag with
  | some t => decide (p < 2) && t.2 == x.vid
  | none => h.etherType == 0x88F7 || h.etherType == 0x8808 || (p == 2 && h.etherType == 0x88B5)

/-- A frame arrives at a port, for an operation (R203, R204). -/
def rxArrive (p : Nat) (h : FrameHead) (f : Dev → Dev) (d : Dev) : Dev :=
  if !(d.port p).rxOk h then rxDropped p d else if (d.port p).takes p h then f d else d

/-! ### Address answers (R204, R205) -/

/-- Answer an address request for the port's own address, tagged with VID and PCP 0 (R204, R205). -/
def arpAnswer (p : Nat) (a : ArpIn) (d : Dev) : Dev :=
  let x := d.port p
  let tag := fun (ty : Nat) => beBytes 2 x.vid.toNat ++ beBytes 2 ty
  let mac := beBytes 6 (d.portMac p).toNat
  if !d.maySend p || decide (2 ≤ p) then d
  else
    match a with
    | .arp target sender m =>
      if target ≠ x.ip4 ∨ x.ip4 = 0 then d
      else d.emit (.eth p m 0x8100 (tag 0x0806 ++ [0, 1, 8, 0, 6, 4, 0, 2] ++ mac ++ beBytes 4 x.ip4.toNat ++
        beBytes 6 m.toNat ++ beBytes 4 sender.toNat))
    | .neighbour target sender m =>
      if target ≠ x.ip6Bits ∨ x.ip6Bits = 0 then d
      else
        let src := beBytes 16 x.ip6Bits.toNat
        let dst := beBytes 16 sender.toNat
        let icmp := fun (sum : Nat) =>
          [136#8, 0#8] ++ beBytes 2 sum ++ [0x60#8, 0#8, 0#8, 0#8] ++ src ++ [2#8, 1#8] ++ mac
        let pseudo := src ++ dst ++ [0, 0, 0, 32, 0, 0, 0, 58]
        let sum := 65535 - onesSum (pseudo ++ icmp 0)
        d.emit (.eth p m 0x8100 (tag 0x86DD ++ [0x60, 0, 0, 0, 0, 32, 58, 255] ++ src ++ dst ++ icmp sum))

/-- ARP_REQUEST: an address request in a frame that the port takes (R203, R204). -/
def arpRequest (p : Nat) (a : ArpFrame) (d : Dev) : Dev := rxArrive p a.head (arpAnswer p a.ask) d

/-- RX_FRAME_DROPPED: a frame arrives that asks for nothing, and the port drops it where R203 says so. -/
def rxFrame (x : RxFrame) (d : Dev) : Dev := rxArrive x.port x.head id d

/-! ### Gates (R207 to R210) -/

/-- Cycles from sample 0 to the end of gate entry `k` of the list in force. -/
def Port.gateEnd (x : Port) (k : Nat) : Nat :=
  ((List.range (k + 1)).map (fun i => (fld (tget 0xFF000000 x.liveGates i) 0 19).toNat)).sum

/-- The interval of the gate entry that holds ends in this sample (R207). -/
def gateExpiry (p : Nat) (d : Dev) : Dev :=
  let x := d.port p
  if bit x.liveCfg 25 && decide (x.gateIdx < (fld x.liveCfg 26 6).toNat) &&
      decide (x.gateEnd x.gateIdx < (d.tb.sample + 1) * 15625) then
    servePort p (10 * (x.gateEnd x.gateIdx - d.tb.sample * 15625) + 1) (d.setPort p { x with gateIdx := x.gateIdx + 1 })
  else d

/-- Classes whose gates are open now (R207). -/
def Port.openGates (x : Port) : BitVec 8 :=
  if bit x.liveCfg 25 then fld (tget 0xFF000000 x.liveGates x.gateIdx) 24 8 else 0xFF

/-- Runs of a class within one frame: the longest open time in cycles; an entry of no time breaks none. -/
def openRun (c : Nat) (entries : List (BitVec 8 × Nat)) : Nat :=
  (entries.foldl (fun (a : Nat × Nat) e =>
    if e.2 = 0 then a else if bit e.1 c then (a.1 + e.2, max a.2 (a.1 + e.2)) else (0, a.2)) (0, 0)).2

/-- Is the gate list of a port admissible (R209); RDMA_PCP does not apply to the ply port (R226). -/
def gatesOk (p : Nat) (x : Port) : Bool :=
  let n := x.gateLast
  let e := fun k => tget 0xFF000000#32 x.gates k
  let firsts := (List.range n).map (fun k => (fld (e k) 24 8, (fld (e k) 0 19).toNat))
  let sum := (firsts.map (·.2)).sum
  let list := firsts ++ [(fld (e n) 24 8, 500000 - sum)]
  let need := if x.serdes = 3 then 7000 else 17500
  !x.gateEn || (decide (sum ≤ 500000) && (p == 2 || decide (need ≤ openRun x.pcp list)) && decide (need ≤ openRun 7 list))

/-- May a port take its pause limits as written (R218, R226). -/
def pauseCfgOk (x : Port) : Bool := decide (x.limitMs ≤ 1000 ∧ 1 ≤ x.holdoffMs)

/-! ### Received pause and its watchdog (R211 to R217) -/

/-- Count time held. -/
def Port.addHeld (x : Port) (u : Nat) : Port :=
  let r := x.heldRest + u
  { x with heldNow := x.heldNow + u, heldRest := r % 5000, pauseTimeCnt := satAdd x.pauseTimeCnt (r / 5000) }

/-- The hold ends at a moment of this sample. -/
def Port.endHold (x : Port) (at_ : Nat) : Port :=
  match x.heldSince with
  | none => { x with paused := [] }
  | some s => { x.addHeld (at_ - s) with paused := [], heldSince := none }

/-- Set, restart or end the timers of some classes; `span`: a time in 0.2 ns on the port's clock; `at_` and `hold`: reception
and the next frame boundary (R212, R213). -/
def Port.applyPause (x : Port) (span : Nat → Nat) (classes : List (Nat × Nat)) (at_ hold : Nat) : Port :=
  let t := classes.foldl (fun t c =>
    if c.2 = 0 then terase t c.1 else tput t c.1 (at_ + span (c.2 * x.quantum))) x.paused
  if t = [] then x.endHold at_
  else { x with paused := t, heldSince := some (x.heldSince.getD (max at_ hold)) }

/-- What an accepted pause frame does: `ns` and `hold` in ns from the start of this sample, the second one the end of a
frame that the port is sending, if that is later than what the model's egress side knows (R211 to R213, R217). The timers
run on when FC_MODE or PFC_MASK is written or the link is lost (DESIGN CHOICE: log entry 122). -/
def pauseTaken (p : Nat) (f : PauseFrame) (ns hold : Nat) (d : Dev) : Dev :=
  let d := servePort p (5 * ns) d
  let hold := max (5 * hold) (d.egress p).busy
  let x := d.port p
  let x := { x with pauseRxCnt := satAdd x.pauseRxCnt 1 }
  if x.holdoff then d.setPort p x
  else
    match f with
    | .pause q =>
      if x.fcMode = 1 then d.setPort p (x.applyPause d.tenths ((List.range 8).map (fun c => (c, min q 65535))) (5 * ns) hold)
      else d.setPort p x
    | .pfc m qs =>
      if x.fcMode = 2 then
        let cs := (List.range 8).filter (fun c => bit (m &&& x.pfcMask) c)
        d.setPort p (x.applyPause d.tenths (cs.map (fun c => (c, min (qs.getD c 0) 65535))) (5 * ns) hold)
      else d.setPort p x

/-- PAUSE_FRAME_RECEIVE: a MAC Control frame of 64 octets arrives (R203, R204, R211). -/
def pauseReceive (p : Nat) (f : PauseFrame) (ns hold : Nat) (d : Dev) : Dev :=
  rxArrive p ⟨none, 0x8808, 64, true⟩ (pauseTaken p f ns hold) d

/-- The timer of a class ends within this sample (R212). -/
def pauseExpiry (p c : Nat) (d : Dev) : Dev :=
  let x := d.port p
  let e := tget 0 x.paused c
  if c ∈ tkeys x.paused ∧ e ≤ sampleUnits then
    let t := terase x.paused c
    let d := servePort p e d
    servePort p (e + 1) (d.setPort p (if t = [] then x.endHold e else { x with paused := t }))
  else d

/-- The pause side of a sample boundary. -/
def Port.pauseSample (x : Port) : Port :=
  let last := maxList (x.paused.map (·.2))
  let x :=
    if x.paused = [] then x
    else if last ≤ sampleUnits then x.endHold last
    else
      let s := x.heldSince.getD 0
      let x := x.addHeld (sampleUnits - s)
      { x with
        heldSince := some (s - sampleUnits)
        paused := (x.paused.filter (fun c => decide (sampleUnits < c.2))).map (fun c => (c.1, c.2 - sampleUnits)) }
  { x with
    holdoffLeft := x.holdoffLeft - 1
    ownPause := x.ownPause.map (· + 1)
    sincePause := x.sincePause + 1
    suppress := x.suppress - 1 }

/-- Time held over the last 1,000 frames, in 0.2 ns. -/
def Port.heldSum (x : Port) : Nat := x.heldNow + (x.heldPast.map (·.2)).sum

/-- The frame side: one more frame of the sum (R217). -/
def Port.pauseFrame (tick : Reg) (x : Port) : Port :=
  let past := if x.heldNow = 0 then x.heldPast else ((tick - 1).toNat, x.heldNow) :: x.heldPast
  { x with heldNow := 0, heldPast := past.filter (fun e => decide ((tick - BitVec.ofNat 32 e.1).toNat < 1000)) }

/-- PAUSE_WATCHDOG: the sum exceeds LIMIT_MS within this sample (R217). HOLDOFF_MS counts one boundary more, so that it has
passed at its end wherever in a sample it began. DEDUCED: log entry 73. -/
def pauseWatchdog (p : Nat) (d : Dev) : Dev :=
  let x := d.port p
  let lim := x.limitMs * 5000000
  let more := match x.heldSince with
    | none => 0
    | some s => min (maxList (x.paused.map (·.2))) sampleUnits - s
  let sum := x.heldSum
  if x.limitMs = 0 ∨ x.holdoff = true ∨ sum + more ≤ lim then d
  else
    let cross := lim - sum
    let d := servePort p (x.heldSince.getD 0 + cross) d
    let x := x.endHold (x.heldSince.getD 0 + cross)
    let us := max lim sum / 5000
    report (portEv 0x0504 true p us) (d.setPort p { x with holdoff := true, holdoffLeft := 32 * x.holdoffMs + 1 })

/-- PAUSE_RESUMED: the hold-off ends (R217). -/
def pauseResumed (p : Nat) (d : Dev) : Dev :=
  let x := d.port p
  if x.holdoff = true ∧ x.holdoffLeft ≤ 1 then
    report (portEv 0x0505 false p 0) (d.setPort p { x with holdoff := false, holdoffLeft := 0, heldNow := 0, heldPast := [] })
  else d

/-! ### The module's own pause (R215, R216) -/

/-- May the module send pause: in modes 1 and 2 (R215), of which the second one on the ply port has no class (R226), and
not while RESET_OUT_N is low (R605). DEDUCED: log entry 73. -/
def Dev.pauseMode (d : Dev) (p : Nat) : Bool :=
  ((d.port p).fcMode == 1 || ((d.port p).fcMode == 2 && decide (p < 2))) && !d.pwr.rstOut

/-- Send pause or zero quanta. -/
def ownPauseSend (p quanta : Nat) (d : Dev) : Dev :=
  let x := d.port p
  if !d.pauseMode p then d
  else
    let classes : BitVec 8 := if x.fcMode = 2 then putB 8 x.pcp true else 0xFF
    (d.setPort p { x with pauseTxCnt := satAdd x.pauseTxCnt 1, sincePause := 0 }).emit (.pause p classes quanta)

/-- Start the module's own pause where the buffer is full and nothing forbids it. -/
def ownPauseStart (p : Nat) (d : Dev) : Dev :=
  let x := d.port p
  if d.pauseMode p = true ∧ 49152 ≤ x.fill ∧ x.ownPause = none ∧ x.suppress = 0 then
    ownPauseSend p 65535 (d.setPort p { x with ownPause := some 0 })
  else d

/-- The module's own pause ends with zero quanta. DEDUCED: log entry 73. -/
def ownPauseEnd (p : Nat) (d : Dev) : Dev :=
  ownPauseSend p 0 (d.modPort p (fun x => { x with ownPause := none }))

/-- RX_BUFFER_PAUSE: the receive buffer takes a fill in bytes (R215). DEDUCED: log entry 73. -/
def rxBuffer (p fill : Nat) (d : Dev) : Dev :=
  let d := d.modPort p (fun x => { x with fill := fill })
  if fill ≤ 16384 ∧ (d.port p).ownPause.isSome = true then ownPauseEnd p d else ownPauseStart p d

/-- OWN_PAUSE_REPEAT: 16,384 quanta after the last pause (R215). -/
def ownPauseRepeat (p : Nat) (d : Dev) : Dev :=
  let x := d.port p
  if x.ownPause.isSome = true ∧ 49152 ≤ x.fill ∧ 16384 * x.quantum < (x.sincePause + 1) * sampleUnits then ownPauseSend p 65535 d
  else d

/-- RX_PAUSE_LIMIT: the module's own pause has lasted 10 ms (R216). -/
def rxPauseLimit (p : Nat) (d : Dev) : Dev :=
  let x := d.port p
  match x.ownPause with
  | none => d
  | some n =>
    if n < 320 then d
    else if 49152 ≤ x.fill then
      report (portEv 0x0506 true p 0) ((ownPauseEnd p d).modPort p (fun x => { x with suppress := 3201 }))
    else ownPauseEnd p d

/-- The 100 ms without own pause end (R216). DEDUCED: log entry 73. -/
def suppressionEnd (p : Nat) (d : Dev) : Dev :=
  let x := d.port p
  if x.suppress ≤ 1 then ownPauseStart p (d.setPort p { x with suppress := 0 }) else d

/-! ### Network time (R220 to R225) -/

def NetTime.ptpEn (n : NetTime) : Bool := bit n.cfg 0
def NetTime.pps (n : NetTime) : Bool := bit n.cfg 1
def NetTime.ppsFree (n : NetTime) : Bool := bit n.cfg 2
def NetTime.ppsOutEn (n : NetTime) : Bool := bit n.cfg 3
def NetTime.domain (n : NetTime) : BitVec 8 := fld n.cfg 16 8

/-- PTP runs on a riser port. -/
def Dev.ptpOn (d : Dev) (p : Nat) : Bool := d.net.ptpEn && bit d.net.cfg (4 + p) && decide (p < 2)

/-- The twin gives the time in JOINING and TRAILING (R527). -/
def Dev.plyTime (d : Dev) : Bool := d.ply.role == .joining || d.ply.role == .trailing

/-- The offset of a time in ns from the nearest whole ms, and that ms; half a ms is open (DESIGN CHOICE: log entry 8). -/
def nearestMs (t : Int) (d : Dev) : (Int × Int) × Dev :=
  let r := t % 1000000
  let q := t / 1000000
  if r < 500000 then ((r, q), d)
  else if 500000 < r then ((r - 1000000, q + 1), d)
  else
    let b := freeBit d
    (if b.1 then (r, q) else (r - 1000000, q + 1), b.2)

/-- Does a port hear a frame that arrives (R203, R204). -/
def Dev.hears (d : Dev) (p : Nat) (h : FrameHead) : Bool := (d.port p).rxOk h && (d.port p).takes p h

/-- Is a frame an untagged PTP frame (R204). -/
def ptpHead (h : FrameHead) : Bool := h.tag == none && h.etherType == 0x88F7

/-- What a Sync does that the port has heard, with its Follow_Up or without (R222, R223). -/
def syncTaken (follows : Bool) (s : SyncIn) (d : Dev) : Dev :=
  let x := d.port s.port
  let delay := x.pdelay.toNat
  if !d.ptpOn s.port || s.domain != d.net.domain || d.net.slavePort.toNat != s.port + 1 || !d.net.gmPresent ||
      s.gm != d.net.gm then d
  else if d.net.discard ≠ 0 then { d with net := { d.net with discard := d.net.discard - 1 } }
  else if follows = false ∨ s.syncSeq ≠ s.followSeq ∨ 800 < delay ∨ s.logInterval < -5 ∨ 0 < s.logInterval ∨ d.plyTime = true ∨
      d.net.pps = true then d
  else
    let t0 : Int := s.origin + delay - (s.rx - x.ingress)
    let n := nearestMs t0 d
    let ms := n.1.2.toNat
    { n.2 with net := { d.net with
      meas := some ⟨n.1.1, some (BitVec.ofNat 64 (ms + 1)), d.tb.ran⟩
      lastNet := some (ms, d.lg.tick) } }

/-- PTP_SYNC: a Sync and its Follow_Up arrive (R203, R222, R223). -/
def ptpSync (s : SyncIn) (d : Dev) : Dev :=
  if !ptpHead s.head || !ptpHead s.followHead then d
  else rxArrive s.port s.followHead id (rxArrive s.port s.head (syncTaken (d.hears s.port s.followHead) s) d)

/-- The riser port that best master selection takes: 0 none, 1 port A, 2 port B (R222). -/
def Dev.bestPort (d : Dev) : BitVec 2 :=
  match (d.port 0).master, (d.port 1).master with
  | none, none => 0
  | some _, none => 1
  | none, some _ => 2
  | some a, some b => if b.rank < a.rank then 2 else 1

/-- Select the slave port and the grandmaster again (R222, R223, R497). With no slave port left 16#0507 carries OBJECT 0
(DESIGN CHOICE: log entry 119); the return of a grandmaster after its loss is a change (DESIGN CHOICE: log entry 120). -/
def selectMaster (d : Dev) : Dev :=
  let best := d.bestPort
  let changed := best != d.net.slavePort
  let d := { d with net := { d.net with slavePort := best } }
  let d := if changed then report (portEv 0x0507 false (best.toNat - 1) best.toNat) d else d
  match (if best = 0 then none else (d.port (best.toNat - 1)).master) with
  | none => { d with net := { d.net with gmPresent := false } }
  | some m =>
    let newGm := !d.net.gmPresent || m.gm != d.net.gm
    let delta : Int := (m.utcOffset.toNat : Int) - d.net.utcOffset.toNat
    let d := { d with net := { d.net with
      gmPresent := true, gm := m.gm, utcOffset := m.utcOffset, utcValid := m.utcValid
      discard := if newGm then 2 else d.net.discard } }
    let d := if newGm then report (portEv 0x0508 false (best.toNat - 1) m.gm.toNat) d else d
    if delta = 0 then d else utcChanged delta d

/-- What an Announce does that the port has heard (R222). -/
def announceTaken (a : AnnounceIn) (d : Dev) : Dev :=
  if !d.ptpOn a.port || a.domain != d.net.domain then d
  else selectMaster (d.modPort a.port (fun x => { x with
    master := some ⟨a.rank, a.gm, a.utcOffset, a.utcValid, a.interval, 0⟩ }))

/-- PTP_ANNOUNCE: an Announce arrives (R203, R222). -/
def ptpAnnounce (a : AnnounceIn) (d : Dev) : Dev :=
  if ptpHead a.head then rxArrive a.port a.head (announceTaken a) d else d

/-- ANNOUNCE_TIMEOUT: three announce intervals without an Announce (R222). -/
def announceTimeout (p : Nat) (d : Dev) : Dev :=
  match (d.port p).master with
  | none => d
  | some m => if 3 * m.interval ≤ m.age then selectMaster (d.modPort p (fun x => { x with master := none })) else d

/-- PDELAY_REQ_SEND, once per second (R220, R513). -/
def pdelaySend (p : Nat) (d : Dev) : Dev :=
  let x := d.port p
  if d.maySend p && (d.ptpOn p || p == 2) && decide (1000 ≤ x.pdelayAge) then
    (d.setPort p { x with pdelayAge := 0, pdelaySeq := x.pdelaySeq + 1 }).emit (.pdelayReq p (x.pdelaySeq + 1))
  else d

/-- What a heard peer delay message does: answer a request, or take the mean link delay from a response (R220, R226). -/
def pdelayTaken (p : Nat) (m : PdelayIn) (d : Dev) : Dev :=
  let x := d.port p
  if !d.maySend p || !(d.ptpOn p || p == 2) then d
  else
    match m with
    | .request seq t2 t3 => d.emit (.pdelayResp p seq (t2 - x.ingress) (t3 + x.egress))
    | .response seq t1 t2 t3 t4 =>
      if seq ≠ x.pdelaySeq then d
      else
        let r := meanOpen ((t4 - x.ingress) - (t1 + x.egress) - (t3 - t2)) 2 d
        r.2.setPort p { x with pdelay := satNat 32 r.1.toNat }

/-- PDELAY_MESSAGE: a peer delay message arrives, in a frame of 72 octets (R203, R220, R226). PRESUMED: log entry 89. -/
def pdelayMessage (p : Nat) (m : PdelayIn) (d : Dev) : Dev := rxArrive p ⟨none, 0x88F7, 72, true⟩ (pdelayTaken p m) d

/-- TIME_PPS_IN_EDGE: a rising edge, in ns from sample 0 of this frame, after a high time in ns (R224). The first edge after
TIME_SRC is written 1 must have the high time too (DESIGN CHOICE: log entry 121); 16#0509 concerns no port and carries
OBJECT 0 (DESIGN CHOICE: log entry 119). -/
def ppsEdge (ns high : Nat) (d : Dev) : Dev :=
  if !d.net.pps then d
  else
    let now := d.tb.ran * 1000000 + ns
    let onTime := match d.net.ppsLast with
      | none => true
      | some l => decide (l + 999000000 ≤ now ∧ now ≤ l + 1001000000)
    if high < 1000 ∨ onTime = false then
      report (portEv 0x0509 true 0 0) { d with net := { d.net with ppsInOk := false, ppsDue := d.net.ppsDue && !onTime } }
    else
      let late := decide (500000 < ns)
      let off : Int := if late then 1000000 - (ns : Int) else -(ns : Int)
      { d with net := { d.net with
        ppsInOk := true
        ppsLast := some now
        ppsDue := true
        ppsFrame := some (if late then d.tb.nextFrame else d.tb.frame)
        meas := if d.plyTime then d.net.meas else some ⟨off, none, d.tb.ran⟩ } }

/-- PPS_IN_FAULT: the edge due after the last valid one has not come; an invalid edge at another time does not stand for
it (R224). 16#0509 carries OBJECT 0 (DESIGN CHOICE: log entry 119). -/
def ppsFault (d : Dev) : Dev :=
  match d.net.ppsLast with
  | none => d
  | some l =>
    if d.net.pps && d.net.ppsDue && decide (l + 1001000000 < d.tb.ran * 1000000 + (d.tb.sample + 1) * 31250) then
      report (portEv 0x0509 true 0 0) { d with net := { d.net with ppsInOk := false, ppsDue := false } }
    else d

/-- Does the frame that now begins begin a second (R225). -/
def Dev.secondFrame (d : Dev) : Bool :=
  if d.net.pps then
    match d.net.ppsFrame with
    | some f => (if f ≤ d.tb.frame then (d.tb.frame - f).toNat else (f - d.tb.frame).toNat) % 1000 == 0
    | none => false
  else
    match d.net.lastNet with
    | some (ms, tick) => (ms + (d.lg.tick - tick).toNat) % 1000 == 0
    | none => d.tb.stepped && d.tb.frame.toNat % 1000 == 0

/-- TIME_PPS_OUT at sample 0 (R225). -/
def ppsFrame (d : Dev) : Dev :=
  let locked := d.tb.tb == .locked || d.tb.tb == .holdover
  let rise := d.net.ppsOutEn &&
    (if locked then d.secondFrame else d.net.ppsFree && d.tb.frame.toNat % 1000 == 0)
  { d with net := { d.net with ppsOut := if rise then some 4 else none } }

/-- TIME_PPS_OUT at a sample boundary: a pulse not ended by its own command ends here (DESIGN CHOICE: log entry 12). -/
def ppsSample (d : Dev) : Dev :=
  { d with net := { d.net with ppsOut := match d.net.ppsOut with
      | some (n + 1) => some n
      | _ => none } }

/-- PPS_OUT_PULSE_END: the four samples have passed (R225). -/
def ppsPulseEnd (d : Dev) : Dev :=
  if d.net.ppsOut = some 0 then { d with net := { d.net with ppsOut := none } } else d

/-- PTP_CFG written: TIME_SRC written 1 makes the next edge the first one; PPS_OUT_EN 0 holds the pin low (R224, R225). -/
def ptpCfgWrite (v : Reg) (d : Dev) : Dev :=
  let v := v &&& 0x00FF003F
  { d with net := { d.net with
    cfg := v
    ppsLast := if bit v 1 then none else d.net.ppsLast
    ppsDue := d.net.ppsDue && !bit v 1
    ppsOut := if bit v 3 then d.net.ppsOut else none } }

/-! ### MDIO (R228, R229) -/

/-- May PHY_MDIO_CMD be written. -/
def mdioOk (v : Reg) (d : Dev) : Bool := !d.net.mdioBusy && fld v 28 2 != 3#2

/-- Drive the frame of a running MDIO access; no PHY_MDC cycle runs while RESET_OUT_N is low (R229, R605). DEDUCED: log entry 111. -/
def mdioDrive (d : Dev) : Dev := if d.net.mdioBusy && !d.pwr.rstOut then d.emit (.mdio d.net.mdio) else d

/-- PHY_MDIO_CMD: start an operation (R229). -/
def mdioStart (v : Reg) (d : Dev) : Dev :=
  let v := v &&& 0x7FFCFFFF
  mdioDrive { d with net := { d.net with mdio := v, mdioBusy := true } }

/-- MDIO_COMPLETE: the operation ends, with the PHY's answer to a read (R229). 16#050A concerns no port and carries OBJECT 0
(DESIGN CHOICE: log entry 119). -/
def mdioComplete (answer : Option (BitVec 16)) (d : Dev) : Dev :=
  if !d.net.mdioBusy || d.pwr.rstOut then d
  else
    let read := fld d.net.mdio 28 2 == 2#2
    let data := if read then answer.getD 0xFFFF else fld d.net.mdio 0 16
    let d := { d with net := { d.net with mdioBusy := false, mdio := (d.net.mdio &&& 0xFFFF0000) ||| put 32 0 data } }
    if read && answer.isNone then report (portEv 0x050A true 0 0) d else d

/-! ### Frame work of the ports -/

/-- The ports at a frame boundary: gates from entry 0 with the list now in force, sums, ages (R207, R210, R217, R222). -/
def portsFrame (d : Dev) : Dev :=
  [0, 1, 2].foldl (fun d p => d.modPort p (fun x =>
    let x := x.pauseFrame d.lg.tick
    { x with
      liveGates := x.gates, liveCfg := x.cfg, gateIdx := 0
      search := x.search.map (fun s => (s.1, s.2 + 1))
      pdelayAge := x.pdelayAge + 1
      master := x.master.map (fun m => { m with age := m.age + 1 }) })) d

/-- The ports at a sample boundary. -/
def portsSample (d : Dev) : Dev := [0, 1, 2].foldl (fun d p => d.modPort p Port.pauseSample) d

end Sys2Proof.Machine
end

