-- ==== Sys2Proof/Machine/Tasks.lean ====
section
/-!
DEFINITION. The tasks of the logic sequencer (R292 to R332): bank entries, scans, commits, the task state table,
program exchange and the checks of a program.
-/
namespace Sys2Proof.Machine

/-! ### Bank entries (R293, R294) -/

abbrev BEntry := BitVec 128

def BEntry.btype (e : BEntry) : Nat := (fld e 122 6).toNat
def BEntry.task (e : BEntry) : Nat := (fld e 119 3).toNat
def BEntry.iid (e : BEntry) : Nat := (fld e 102 17).toNat
/-- Operand k: 0 A, 1 B, 2 C, 3 D. -/
def BEntry.opd (e : BEntry) (k : Nat) : BitVec 20 := fld e (22 + 20 * k) 20
def BEntry.outp (e : BEntry) : Nat := (fld e 5 17).toNat
def BEntry.outEn (e : BEntry) : Bool := bit e 4
def BEntry.auxEn (e : BEntry) : Bool := bit e 3
def BEntry.edgeFirst (e : BEntry) : Bool := bit e 2
def BEntry.dtype (e : BEntry) : Nat := (fld e 0 2).toNat

def opKind (o : BitVec 20) : Nat := (fld o 17 3).toNat
def opArg (o : BitVec 20) : Nat := (fld o 0 17).toNat

/-- Index of a bank entry in space 16#20 (R292). -/
def bankIndex (bank pos : Nat) : Nat := bank * 131072 + pos

/-- The bank entry at an index. -/
def Dev.bentry (d : Dev) (i : Nat) : BEntry := tget 0 d.lg.banks i

/-! ### Task entries (R308) -/

def Task.count (t : Task) (bank : Nat) : Nat := (fld t.cfg (203 + 35 * bank) 18).toNat
def Task.base (t : Task) (bank : Nat) : Nat := (fld t.cfg (186 + 35 * bank) 17).toNat
def Task.offsetFr (t : Task) : Nat := (fld t.cfg 168 16).toNat
def Task.cycleFr (t : Task) : Nat := (fld t.cfg 152 16).toNat
def Task.ovrLimit (t : Task) : Nat := (fld t.cfg 120 4).toNat
def Task.lane (t : Task) : Nat := (fld t.cfg 110 2).toNat
def Task.stopOnFault (t : Task) : Bool := bit t.cfg 109
def Task.en (t : Task) : Bool := bit t.cfg 108
/-- ACT_BANK as a number. -/
def Task.bank (t : Task) : Nat := if t.actBank then 1 else 0
/-- The bank that the task runs or is armed to. -/
def Task.nextBank (t : Task) : Nat := if t.pend then 1 - t.bank else t.bank

/-- RW fields of the task entry. -/
def taskMask : BitVec 512 :=
  maskOf 512 [(238, 18), (221, 17), (203, 18), (186, 17), (168, 16), (152, 16), (120, 4), (110, 2), (109, 1), (108, 1)]

/-- The fields of one bank's range. -/
def rangeMask (bank : Nat) : BitVec 512 := maskOf 512 [(203 + 35 * bank, 18), (186 + 35 * bank, 17)]

/-- Image of a task entry (R308). -/
def Task.image (t : Task) : BitVec 512 :=
  let st : BitVec 3 := match t.st with
    | .disabled => 0
    | .running => 1
    | .faulted => 2
  put 512 448 t.lastRel ||| put 512 416 t.scanCnt ||| put 512 384 t.faultCnt ||| put 512 352 t.peakCyc |||
    put 512 320 t.cost ||| put 512 302 t.outPts ||| put 512 284 t.inPts ||| put 512 128 t.lastFault |||
    put 512 124 t.consec ||| put 512 117 st ||| putB 512 116 t.pend ||| putB 512 115 t.actBank ||| (t.cfg &&& taskMask)

/-! ### Programs -/

/-- Does a position lie in the range of a task in a bank. -/
def Task.holds (t : Task) (bank pos : Nat) : Bool :=
  decide (t.base bank ≤ pos ∧ pos < t.base bank + t.count bank)

/-- The entries of a task's range in a bank that are not empty, in ascending position. -/
def Dev.program (d : Dev) (t bank : Nat) : List (Nat × BEntry) :=
  let k := d.task t
  (d.lg.banks.filter (fun e => decide (e.1 / 131072 = bank) && k.holds bank (e.1 % 131072) && e.2 != 0)).map
    (fun e => (e.1 % 131072, e.2))

/-- Output points of an entry: the point, and true for AUX. -/
def BEntry.outs (e : BEntry) : List (Nat × Bool) :=
  (if e.outEn then [(e.outp, false)] else []) ++ (if e.auxEn then [(e.outp + 1, true)] else [])

/-- Output points of a program. -/
def progOuts (p : List (Nat × BEntry)) : List Nat := p.flatMap (fun e => e.2.outs.map (·.1))

/-- Points that a program's operands name, each once (R312). -/
def progIns (p : List (Nat × BEntry)) : List Nat :=
  (p.flatMap (fun e => ([0, 1, 2, 3].filter (fun k => opKind (e.2.opd k) = 1 ∨ opKind (e.2.opd k) = 5)).map
    (fun k => opArg (e.2.opd k)))).dedup

/-- COST (R324). -/
def progCost (p : List (Nat × BEntry)) (count : Nat) : Nat :=
  96 + 3 * (progIns p).length + (p.map (fun e => blockCycles e.2.btype e.2.dtype)).sum + (count - p.length) +
    2 * (progOuts p).length

/-- SRC_INDEX of a task output (R314). -/
def taskSource (t iid : Nat) (aux : Bool) : Nat := t * 2 ^ 25 + (if aux then 2 ^ 17 else 0) + iid

/-- Does the source word of a point name a task (R314). -/
def Dev.taskOwns (d : Dev) (t p : Nat) : Bool := (d.point p).srcKind == 2 && (fld (d.point p).srcIndex 25 3).toNat == t

/-- Points that a task produces, by their source word. -/
def Dev.taskPoints (d : Dev) (t : Nat) : List Nat :=
  (d.ps.points.filter (fun p => p.2.srcKind == 2 && (fld p.2.srcIndex 25 3).toNat == t)).map (·.1)

/-- Clear LIVE in state records (R317, R319). -/
def clearLive (iids : List Nat) (d : Dev) : Dev :=
  iids.foldl (fun d i => d.setSrec i { d.srec i with live := false }) d

/-- Instances of a program. -/
def progIids (p : List (Nat × BEntry)) : List Nat := p.map (fun e => e.2.iid)

/-! ### Operands (R294, R297, R302) -/

/-- Is a 32-bit value of a domain true (R298). -/
def truth (isFloat : Bool) (v : BitVec 32) : Bool := if isFloat then fld v 0 31 != 0 else v != 0

/-- The value of an operand in a domain. -/
def inDomain (dom : Dom) (isFloat : Bool) (v : BitVec 32) : BitVec 32 := if dom = .b then bv1 (truth isFloat v) else v

/-- Domain of an output of a block: OUT, or AUX. -/
def outDom (btype dtype : Nat) (aux : Bool) : Option Dom :=
  (blockRow btype).bind (fun r => if aux then r.aux else some (r.out.dom dtype))

/-- Read operand k of an instance (R294). -/
def readOperand (d : Dev) (e : BEntry) (k : Nat) : OpVal :=
  let o := e.opd k
  let dom := (((blockRow e.btype).bind (fun r => (r.req ++ r.opt)[k]?)).map (fun s => s.dom e.dtype)).getD .u
  let arg := opArg o
  match opKind o with
  | 1 =>
    let p := d.point arg
    ⟨true, inDomain dom (p.ptype == 4) (fld p.value 0 32), p.quality, p.detail⟩
  | 4 =>
    let i := (BitVec.ofNat 17 arg).toInt
    let v := if dom = .f then f32OfInt i else BitVec.ofInt 32 i
    ⟨true, inDomain dom false v, 0, 0⟩
  | 5 => ⟨true, inDomain dom false ((d.point arg).quality.setWidth 32), 0, 0⟩
  | 2 | 3 =>
    let aux := opKind o == 3
    let r := d.srec arg
    if r.live then
      let q := if aux then r.auxq else r.outq
      let isF := outDom r.stype.toNat r.sdtype.toNat aux == some Dom.f
      ⟨true, inDomain dom isF (if aux then r.aux else r.out), q, if q = 0 then 0 else r.detail⟩
    else ⟨true, 0, 3, 1⟩
  | _ => OpVal.absent

/-! ### A scan (R311 to R314) -/

/-- The value that an output point receives: domain B writes 0 or 1, domain U saturates into ENUM16 (R314). -/
def outValue (d : Dev) (p : Nat) (dom : Dom) (v : BitVec 32) (q : BitVec 2) (det : BitVec 8) : OutVal :=
  if dom = .u ∧ (d.point p).ptype = 7 ∧ 65535 < v.toNat then
    if qRank q ≤ 1 then ⟨p, 65535, 1, 0x03⟩ else ⟨p, 65535, q, det⟩
  else ⟨p, v.setWidth 64, q, det⟩

/-- Execute one instance: its state record, and its values for the output image. -/
def execEntry (e : BEntry) (a : Dev × List OutVal) : Dev × List OutVal :=
  let d := a.1
  let r := blkExec e.btype e.dtype e.edgeFirst d.lg.tick (d.srec e.iid)
    (readOperand d e 0) (readOperand d e 1) (readOperand d e 2) (readOperand d e 3)
  let d := d.setSrec e.iid r
  let vals := e.outs.map (fun o =>
    let q := if o.2 then r.auxq else r.outq
    outValue d o.1 ((outDom e.btype e.dtype o.2).getD .u) (if o.2 then r.aux else r.out) q (if q = 0 then 0 else r.detail))
  (d, a.2 ++ vals)

/-- The exchange at a release; a point that no longer names the task, since it was quarantined, takes no source word; what
follows outside phase B is held (R62, R95, R319, R320). DEDUCED: log entry 55. -/
def exchange (t : Nat) (d : Dev) : Dev :=
  let k := d.task t
  if !k.pend then d
  else
    let old := d.program t k.bank
    let new := d.program t (1 - k.bank)
    let same := (new.filter (fun e => old.any (fun o =>
      o.2.iid == e.2.iid && o.2.btype == e.2.btype && o.2.dtype == e.2.dtype))).length
    let gone := (progIids old).filter (fun i => !(progIids new).contains i)
    let d := d.setTask t { k with
      actBank := !k.actBank
      pend := false
      cost := BitVec.ofNat 32 k.pendCost
      outPts := BitVec.ofNat 18 k.pendOut
      inPts := BitVec.ofNat 18 (progIns new).length
      pendCost := 0
      pendOut := 0
      armPts := []
      dropPts := (progOuts old).filter (fun p => !(progOuts new).contains p)
      gone := some (gone, (1 - k.bank) + 2 ^ 32 * same) }
    digestMark [3, 5] (new.foldl (fun d e => e.2.outs.foldl (fun d o =>
      if d.taskOwns t o.1 then
        d.setPoint o.1 { d.point o.1 with srcIndex := BitVec.ofNat 28 (taskSource t e.2.iid o.2) }
      else d) d) d)

/-- After phase B of the frame of an exchange: the records of the instances that are gone, then the report (R319). -/
def exchangeEnd (t : Nat) (d : Dev) : Dev :=
  match (d.task t).gone with
  | none => d
  | some (iids, data) =>
    report (ev 0x0705 false t data) (clearLive iids (d.modTask t (fun k => { k with gone := none })))

/-- Is a task released in this frame (R310). DEDUCED: log entry 55. -/
def Dev.released (d : Dev) (t : Nat) : Bool :=
  let k := d.task t
  k.st == .running && decide (d.tb.frame.toNat % max k.cycleFr 1 = k.offsetFr)

/-- Enter FAULTED (R315, R317). -/
def taskFault (t : Nat) (why : BitVec 8) (d : Dev) : Dev :=
  let k := d.task t
  let d := digestMark [3] (clearLive (progIids (d.program t k.bank)) d)
  report (ev 0x0704 true t 0) (d.setTask t { k with
    st := .faulted, lastFault := why, scan := none, mark := some .fault, memDue := none })

/-- The entry at a position of a task's bank fails: it is marked, and counted unless it was marked already (R327, R328,
R638). -/
def taskMark (t pos : Nat) (d : Dev) : Dev :=
  let i := bankIndex (d.task t).bank pos
  if tget false d.lg.marked i then d
  else countUncorr { d with lg := { d.lg with marked := tset false d.lg.marked i true } }

/-- The fault of a RUNNING task by a word that fails (R315, R327). -/
def taskMemFault (t pos iid : Nat) (d : Dev) : Dev :=
  taskFault t 3 (report (ev 0x0703 true t (pos + 2 ^ 32 * iid)) (d.modTask t (fun k => { k with faultCnt := k.faultCnt + 1 })))

/-- Scan a released task (R311 to R313); a scan that ends clears CONSEC and counts (R315); one that reads a failing word
is abandoned there (R327). -/
def scanTask (t : Nat) (cut : ScanCut) (d : Dev) : Dev :=
  let d := exchange t d
  let d := d.modTask t (fun k => { k with lastRel := d.tb.frame, relCal := d.tb.cal0 })
  let k := d.task t
  let prog := d.program t k.bank
  let upTo (n : Nat) : Dev × List OutVal :=
    (prog.filter (fun e => decide (e.1 < k.base k.bank + n))).foldl (fun a e => execEntry e.2 a) (d, [])
  let done (r : Dev × List OutVal) : Dev :=
    r.1.modTask t (fun k => { k with scan := some (.done r.2), consec := 0, scanCnt := k.scanCnt + 1 })
  match cut with
  | .whole => done (upTo (k.count k.bank))
  | .copy => d.modTask t (fun k => { k with scan := some (.overrun none) })
  | .entries n =>
    if n < k.count k.bank then
      (upTo n).1.modTask t (fun x => { x with scan := some (.overrun (some (k.base k.bank + n))) })
    else done (upTo n)
  | .failed n iid => taskMemFault t (k.base k.bank + n) iid (taskMark t (k.base k.bank + n) (upTo n).1)

/-- Does the strobe of phase B come within this scan or at its end. -/
def scanStops (c : ScanCut) : Bool :=
  match c with
  | .copy | .entries _ => true
  | _ => false

/-- The scans of one lane in ascending task number; after a cut the later ones are skipped (R311). -/
def scanLane (lane : Nat) (cuts : List (Nat × ScanCut)) (d : Dev) : Dev :=
  let due := (List.range 8).filter (fun t => (d.task t).lane == lane && d.released t)
  (due.foldl (fun a t =>
    if a.2 then
      ((exchange t a.1).modTask t (fun k => { k with lastRel := a.1.tb.frame, scan := some .skipped }), true)
    else
      let cut := ((cuts.find? (fun c => c.1 = t)).map (·.2)).getD .whole
      (scanTask t cut a.1, scanStops cut)) (d, false)).1

/-- The work of phase B (R311). DEDUCED: log entry 55. -/
def scanAll (cuts : List (Nat × ScanCut)) (d : Dev) : Dev :=
  [0, 1, 2, 3].foldl (fun d lane => scanLane lane cuts d) d

/-! ### Task states (R315 to R317) -/

/-- The overrun or skip of one task at the strobe of phase B (R311, R315, R332). -/
def taskStrobe (t : Nat) (d : Dev) : Dev :=
  let k := d.task t
  let fail (why : BitVec 8) (code data : Nat) : Dev :=
    let n := k.consec.toNat + 1
    let limit := decide (k.ovrLimit ≤ n)
    let k' := { k with
      scan := none, faultCnt := k.faultCnt + 1, lastFault := why, consec := satAdd k.consec 1
      mark := some (if limit then .fault else .late) }
    let d := report (ev code true t data) (d.setTask t k')
    if limit && k.stopOnFault then taskFault t why d else d
  match k.st, k.scan with
  | .running, some (.overrun pos) =>
    fail 1 0x0701 (match pos with
      | some p => p
      | none => k.base k.bank + 2 ^ 17)
  | .running, some .skipped => fail 2 0x0702 0
  | _, _ => d

/-- Does the program that a task runs produce a point: the source word names the task, and not for an armed program (R62,
R65, R320). -/
def Dev.imageHas (d : Dev) (t p : Nat) : Bool := d.taskOwns t p && !(d.task t).armPts.contains p

/-- Points of a task's output image: those of the program that it runs, not those of an armed one (R316, R320). -/
def Dev.imagePoints (d : Dev) (t : Nat) : List Nat :=
  (progOuts (d.program t (d.task t).bank)).filter (fun p => d.imageHas t p)

/-- Phase D of one task: a fault that the scrub found, its output image, its quality change, the points of the old
program (R313, R316, R320, R327). DEDUCED: log entry 17. -/
def taskCommit (t : Nat) (d : Dev) : Dev :=
  let d := match (d.task t).memDue with
    | some x => taskMemFault t x.1 x.2 d
    | none => d
  let k := d.task t
  let d := match k.scan with
    | some (.done img) => img.foldl (fun d v =>
        if d.imageHas t v.point then produce v.point v.value v.quality v.detail k.relCal d else d) d
    | _ => d
  let d := match k.mark with
    | none => d
    | some m =>
      let q : BitVec 2 × BitVec 8 := if m = .fault then (2, 0x0D) else (1, 0x07)
      (match k.failPts with
        | some ps => ps.filter (fun p => d.taskOwns t p)
        | none => d.imagePoints t).foldl (fun d p => produceQ p q.1 q.2 d.tb.cal0 d) d
  let d := k.dropPts.foldl (fun d p => if d.taskOwns t p then releasePoint p d else d) d
  exchangeEnd t (d.modTask t (fun k => { k with
    scan := match k.scan with
      | some (.done _) => none
      | x => x
    mark := none
    failPts := none
    dropPts := [] }))

/-- Start a task (R315). DEDUCED: log entry 39. -/
def taskStart (t : Nat) (d : Dev) : Dev :=
  let k := d.task t
  let prog := d.program t k.bank
  let d := clearLive (progIids prog) d
  let d := d.setTask t { k with
    st := .running, consec := 0, peakCyc := 0, scan := none, mark := none, memDue := none, failPts := none
    cost := BitVec.ofNat 32 (progCost prog (k.count k.bank))
    outPts := BitVec.ofNat 18 (progOuts prog).length
    inPts := BitVec.ofNat 18 (progIns prog).length }
  let d := prog.foldl (fun d e => e.2.outs.foldl (fun d o => claimPoint 2 (taskSource t e.2.iid o.2) o.1 d) d) d
  report (ev 0x0707 false t k.bank) d

/-- Disable a task (R315, R317). -/
def taskStop (t : Nat) (d : Dev) : Dev :=
  let k := d.task t
  if k.st = .disabled then d
  else
    let d := clearLive (progIids (d.program t k.bank)) d
    let d := (d.taskPoints t).foldl (fun d p => releasePoint p d) d
    d.modTask t (fun k => { k with
      st := .disabled, pend := false, pendCost := 0, pendOut := 0, cost := 0, outPts := 0, inPts := 0
      scan := none, mark := none, dropPts := [], memDue := none, armPts := [], failPts := none })

/-- Write a task entry (R309, R315). DEDUCED: log entry 37. -/
def taskWrite (t : Nat) (c : BitVec 512) (d : Dev) : Dev :=
  let d := if bit c 108 then d else taskStop t d
  let d := d.modTask t (fun k => { k with cfg := c &&& taskMask })
  if bit c 108 && (d.task t).st == .disabled then taskStart t d else d

/-! ### Exchange (R154, R318 to R321) -/

/-- The tasks of a mask, ascending. -/
def maskTasks (m : BitVec 8) : List Nat := (List.range 8).filter (fun t => bit m t)

/-- STATE of a BANK_EXCHANGE (R154, R318); a DISABLED or FAULTED task counts as running the bank of its ACT_BANK (DESIGN
CHOICE: log entry 115). -/
def exchangeState (bank : Nat) (m : BitVec 8) (d : Dev) : Bool :=
  m == 0 || (maskTasks m).any (fun t => (d.task t).nextBank == bank)

/-- Undo an armed exchange (R318). -/
def disarm (t : Nat) (d : Dev) : Dev :=
  let k := d.task t
  let d := (k.armPts.filter (fun p => d.taskOwns t p)).foldl (fun d p => releasePoint p d) d
  d.modTask t (fun k => { k with pend := false, pendCost := 0, pendOut := 0, armPts := [] })

/-- Arm one task to a bank, or disarm it, or set the bank of a task that does not run; an output point that does not name
the task is claimed, also one that the old program lists and lost in a quarantine (R63, R95, R318, R320, R321). DEDUCED: log entry 39. -/
def armTask (bank t : Nat) (d : Dev) : Dev :=
  let k := d.task t
  if k.st ≠ .running then
    let d := if k.pend then disarm t d else d
    d.modTask t (fun k => { k with actBank := bank == 1 })
  else if bank = k.bank then disarm t d
  else
    let prog := d.program t bank
    let new := (progOuts prog).filter (fun p => !d.taskOwns t p)
    let d := prog.foldl (fun d e => e.2.outs.foldl (fun d o =>
      if d.taskOwns t o.1 then d else claimPoint 2 (taskSource t e.2.iid o.2) o.1 d) d) d
    d.modTask t (fun k => { k with
      pend := true, pendCost := progCost prog (k.count bank), pendOut := (progOuts prog).length, armPts := new })

/-! ### Checks of a program (R323) -/

/-- Types accepted as an operand of a domain (R296). -/
def operandTypes : Dom → List Nat
  | .b => [1, 2, 3, 4, 5, 7]
  | .i => [1, 2, 5]
  | .u => [1, 3, 7]
  | .t => [1, 3, 7]
  | .f => [4]

/-- Types accepted as an output of a domain (R296). -/
def outputTypes : Dom → List Nat
  | .b => [1, 2, 3, 7]
  | .i => [2, 5]
  | .u => [3, 7]
  | .t => [3, 7]
  | .f => [4]

/-- Reasons of one operand (R294, R296, R297, R304). DEDUCED: log entry 56. -/
def operandReasons (d : Dev) (prog : List (Nat × BEntry)) (e : BEntry) (k : Nat) : List Nat :=
  let o := e.opd k
  let arg := opArg o
  match (blockRow e.btype) with
  | none => [4]
  | some row =>
    match (row.req ++ row.opt)[k]? with
    | none => if o = 0 then [] else [4]
    | some spec =>
      let dom := spec.dom e.dtype
      match opKind o with
      | 0 => if operandOptional e.btype k row && arg == 0 then [] else [4]
      | 4 =>
        if spec = .half then (if arg < 65536 then [] else [4])
        else if (dom = .u ∨ dom = .t) ∧ 65536 ≤ arg then [4] else []
      | 1 =>
        if spec = .half then [4]
        else if (operandTypes dom).contains (d.point arg).ptype.toNat then [] else [6]
      | 5 =>
        if spec = .half ∨ (dom ≠ .u ∧ dom ≠ .b) then [4]
        else if (d.point arg).ptype = 0 ∨ (d.point arg).ptype = 6 then [6] else []
      | 2 | 3 =>
        if spec = .half then [4]
        else match prog.find? (fun x => x.2.iid == arg) with
        | none => [5]
        | some r =>
          match outDom r.2.btype r.2.dtype (opKind o == 3) with
          | none => [4]
          | some od => if dom = .b ∨ od = dom then [] else [4]
      | _ => [4]

/-- Reasons of one enabled output (R63, R296, R323). DEDUCED: log entry 56. -/
def outputReasons (d : Dev) (t : Nat) (all : List Nat) (e : BEntry) (o : Nat × Bool) : List Nat :=
  match outDom e.btype e.dtype o.2 with
  | none => [4]
  | some dom =>
    let p := d.point o.1
    let other := p.srcKind != 0 && !(p.srcKind == 2 && (fld p.srcIndex 25 3).toNat == t)
    (if (outputTypes dom).contains p.ptype.toNat then [] else [6]) ++
      (if other || p.quarantined || decide (1 < (all.filter (· == o.1)).length) then [7] else [])

/-- The bits of a CONST (R304). -/
def constBits (e : BEntry) : BitVec 32 := put 32 16 (fld (e.opd 1) 0 16) ||| put 32 0 (fld (e.opd 0) 0 16)

/-- Programs of the other tasks whose instances count: (bank, counts for RANGE). -/
def Dev.holders (d : Dev) (t : Nat) : List (Nat × Nat × Bool) :=
  ((List.range 8).filter (fun u => u ≠ t)).flatMap (fun u =>
    let k := d.task u
    match k.st with
    | .disabled => []
    | .faulted => (u, k.bank, false) :: (if k.pend then [(u, 1 - k.bank, true)] else [])
    | .running => (u, k.bank, true) :: (if k.pend then [(u, 1 - k.bank, true)] else []))

/-- Reasons 1 to 8 of a task's program in a bank, each with the index of its entry (R323). -/
def progReasons (d : Dev) (t bank : Nat) : List (Nat × Nat) :=
  let k := d.task t
  let prog := d.program t bank
  let all := progOuts prog
  let hs := d.holders t
  let taken := hs.flatMap (fun h => progIids (d.program h.1 h.2.1))
  let ranges := (hs.filter (fun h => h.2.2 && h.2.1 == bank)).flatMap (fun h =>
    let u := d.task h.1
    let lo := max (k.base bank) (u.base bank)
    if lo < k.base bank + k.count bank ∧ lo < u.base bank + u.count bank then [(1, bankIndex bank lo)] else [])
  let marks := (d.lg.marked.filter (fun m => m.2 && decide (m.1 / 131072 = bank) && k.holds bank (m.1 % 131072))).map
    (fun m => (8, m.1))
  ranges ++ marks ++ prog.flatMap (fun e =>
    let x := e.2
    let rs := (if x.task = t then [] else [2]) ++
      (if taken.contains x.iid || decide (1 < (prog.filter (fun y => y.2.iid == x.iid && decide (y.1 ≤ e.1))).length) then [3] else []) ++
      (if dtypeOk x.btype x.dtype then [] else [4]) ++
      (if x.btype = 48 ∧ x.dtype = 2 ∧ f32IsNan (constBits x) then [4] else []) ++
      [0, 1, 2, 3].flatMap (fun i => operandReasons d prog x i) ++
      x.outs.flatMap (fun o => outputReasons d t all x o)
    rs.map (fun r => (r, bankIndex bank e.1)))

/-- The first reason in the order of R323, with its first entry. -/
def firstReason (rs : List (Nat × Nat)) : Option (Nat × Nat) :=
  rs.foldl (fun a r => match a with
    | none => some r
    | some b => if r.1 < b.1 ∨ (r.1 = b.1 ∧ r.2 < b.2) then some r else some b) none

/-- Refusal of a program by reasons 1 to 8. DEDUCED: log entry 39. -/
def progRefusal (d : Dev) (t bank : Nat) : Option (Nat × Nat) := firstReason (progReasons d t bank)

/-! ### Costs (R318, R324 to R326) -/

/-- Can two tasks be released in the same frame (R325). -/
def coReleased (a b : Task) : Bool :=
  let g := Nat.gcd a.cycleFr b.cycleFr
  if g = 0 then true else a.offsetFr % g == b.offsetFr % g

/-- Charged lane-cycles and output points of a task (R318). -/
def Task.charge (k : Task) : Nat × Nat :=
  if k.st = .disabled then (0, 0) else (max k.cost.toNat k.pendCost, max k.outPts.toNat k.pendOut)

/-- The largest sum of a weight over sets of tasks that can be released together (R325). -/
def worstSet : List Task → List Task → (Task → Nat) → Nat
  | [], _, _ => 0
  | k :: ks, chosen, w =>
    let skip := worstSet ks chosen w
    if chosen.all (fun c => coReleased c k) then max skip (w k + worstSet ks (k :: chosen) w) else skip

/-- Tasks that hold admitted costs. -/
def Dev.liveTasks (d : Dev) : List Task :=
  ((List.range 8).map d.task).filter (fun k => k.st != .disabled)

/-- Lane-cycles that a lane carries in its worst frame (R325). -/
def Dev.laneCost (d : Dev) (lane : Nat) : Nat :=
  worstSet (d.liveTasks.filter (fun k => k.lane == lane)) [] (fun k => k.charge.1)

/-- Phase D cycles of the tasks in their worst frame (R326). -/
def Dev.taskCostD (d : Dev) : Nat := worstSet d.liveTasks [] (fun k => 16 + 4 * k.charge.2)

/-! ### Writes (R295, R309) -/

/-- Is a position locked by a running or armed program (R295). -/
def Dev.bankLocked (d : Dev) (i : Nat) : Bool :=
  (List.range 8).any (fun t =>
    let k := d.task t
    let b := i / 131072
    k.holds b (i % 131072) && ((k.st == .running && k.bank == b) || (k.pend && 1 - k.bank == b)))

/-- May a bank entry be written: STATE where false (R295). -/
def bankEntryOk (i : Nat) (e : BEntry) (d : Dev) : Bool :=
  decide (e.btype ≤ 48) && e.dtype != 3 && [0, 1, 2, 3].all (fun k => decide (opKind (e.opd k) < 6)) &&
    (e.btype != 0 || e == 0) && !d.bankLocked i

/-- AUX_EN with OUTP 131,071 completes with BAD_INDEX (R295). -/
def bankEntryIndexOk (e : BEntry) : Bool := !(e.auxEn && e.outp == 131071)

/-- Write a bank entry (R293, R328). -/
def bankEntryWrite (i : Nat) (e : BEntry) (d : Dev) : Dev :=
  { d with lg := { d.lg with banks := tset 0 d.lg.banks i e, marked := tset false d.lg.marked i false } }

/-- May a task entry be written (R309). -/
def taskEntryOk (t : Nat) (c : BitVec 512) (d : Dev) : Bool :=
  let k := d.task t
  let n := { k with cfg := c }
  let other := 1 - k.bank
  let free := rangeMask other ||| putB 512 108 true
  decide (1 ≤ n.cycleFr ∧ n.cycleFr ≤ 60000 ∧ n.offsetFr < n.cycleFr ∧ n.ovrLimit ≠ 0 ∧
    n.base 0 + n.count 0 ≤ 131072 ∧ n.base 1 + n.count 1 ≤ 131072) &&
    (!k.en || ((c ^^^ k.cfg) &&& taskMask &&& ~~~free) == 0) &&
    (!k.pend || ((c ^^^ k.cfg) &&& rangeMask other) == 0)

/-! ### Memory errors (R327 to R329) -/

/-- The scrub finds a failing word of a RUNNING task, with position and IID: the fault takes effect in phase D (R327).
DEDUCED: log entry 104. -/
def taskMemory (t pos iid : Nat) (d : Dev) : Dev :=
  let k := d.task t
  if k.st ≠ .running then d
  else
    let d := taskMark t pos d
    if k.memDue.isSome then d else d.modTask t (fun k => { k with memDue := some (pos, iid) })

/-- Uncorrectable error in a bank entry outside every RUNNING program (R328); one marked already and not rewritten is not
found again (R638). -/
def bankMemory (i : Nat) (d : Dev) : Dev :=
  if tget false d.lg.marked i || (List.range 8).any (fun t => (d.task t).st == .running && (d.task t).bank == i / 131072 &&
      (d.task t).holds (i / 131072) (i % 131072)) then d
  else report (ev 0x0708 true i 0)
    (countUncorr { d with lg := { d.lg with marked := tset false d.lg.marked i true } })

/-- Uncorrectable error in a task entry: the outputs turn BAD in phase D, as the image stood (R315, R316, R329). -/
def taskEntryMemory (t : Nat) (d : Dev) : Dev :=
  let k := d.task t
  let pts := k.failPts.getD (d.imagePoints t)
  let reset := (Task.reset.cfg &&& ~~~(putB 512 108 true)) ||| (k.cfg &&& putB 512 108 true)
  let d := taskFault t 3 (report (ev 0x0703 true t 0) (countUncorr (d.setTask t { k with faultCnt := k.faultCnt + 1 })))
  d.modTask t (fun k => { k with cfg := reset, failPts := some pts })

end Sys2Proof.Machine
end

