-- ==== Sys2Proof/Machine/Ply.lean ====
section
/-!
DEFINITION. The ply unit (R511 to R546): ply frames, roles, the loss of a twin, the join, mirrored points, the yield and
the entries of space 16#90.
-/
namespace Sys2Proof.Machine

/-- PLY_ROLE codes (R163). -/
def Role.code : Role → Nat
  | .solo => 0
  | .joining => 1
  | .leading => 2
  | .trailing => 3
  | .dead => 4

/-- TWIN_STATE codes (R544). -/
def TwinSt.code : TwinSt → Nat
  | .none => 0
  | .joining => 1
  | .ok => 2
  | .lost => 3

/-- A PLY event: OBJECT carries the twin's DEV_SERIAL (R546). -/
def plyEv (code : Nat) (isFault : Bool) (data : Nat) (d : Dev) : Event := ev code isFault d.ply.twinSerial.toNat data

/-- Report a PLY event. -/
def plyReport (code : Nat) (isFault : Bool) (data : Nat) (d : Dev) : Dev := report (plyEv code isFault data d) d

/-- FW_VERSION of an image: the container header's field, 0 for the factory image (R163, R587; DESIGN CHOICE: log entry 7). -/
def Image.version : Image → Reg
  | .factory => 0
  | .bytes b => leBits 32 (slice b 24 4)

/-- FW_VERSION of the running image. -/
def Dev.fwVersion (d : Dev) : Reg := d.flash.active.version

/-! ### The entries of space 16#90 (R544) -/

def plyMask : BitVec 512 := maskOf 512 [(48, 16), (35, 13), (29, 6), (24, 5)]

/-- LINK_OK and HB_OK: a fall that has come due counts as taken (R517; DESIGN CHOICE: log entry 12). -/
def Ply.linkDue (p : Ply) : Bool := match p.linkAge with
  | some a => decide (p.lossFr.toNat < a)
  | none => false
def Ply.link (p : Ply) : Bool := p.linkOk && !p.linkDue
def Ply.hb (p : Ply) : Bool := p.hbOk && p.hbRun != 0

/-- Is the module paired to a twin whose copies it judges. -/
def Dev.paired (d : Dev) : Bool := d.ply.role == .leading || d.ply.role == .trailing

/-- Strands in ON. -/
def Dev.onStrands (d : Dev) : List Nat := (List.range 16).filter (fun k => (d.line k).st == .on)

/-- TWIN_COPY_OK (R544): in the roles that hear the twin's copies (R284, R531). -/
def Dev.twinCopyOk (d : Dev) : Bool :=
  (d.paired || d.ply.role == .joining) && d.onStrands.all (fun k => tget false d.ply.copyOk k)

/-- DIGEST_EQ (R530). -/
def Ply.digestEq (p : Ply) : BitVec 6 :=
  if p.pairId = 0 ∨ p.twinRole = 7 then 0
  else (List.range 6).foldl (fun m a => m ||| putB 6 a (tget 0 p.digest a == tget 0 p.twinDigest a)) 0

/-- Content of a catch-up item (R533). -/
def SRec.image (r : SRec) : BitVec 128 :=
  put 128 122 r.stype ||| put 128 120 r.sdtype ||| put 128 118 r.outq ||| put 128 116 r.auxq ||| putB 128 115 r.live |||
    put 128 104 r.detail ||| put 128 96 r.flags ||| put 128 64 r.s0 ||| put 128 32 r.aux ||| put 128 0 r.out

/-- The items of the catch-up set, in index order within each kind (R532). -/
def Dev.catchItems (d : Dev) : List CatchItem :=
  let iids := ((List.range 8).filter (fun t => (d.task t).st == .running)).flatMap (fun t => progIids (d.program t (d.task t).bank))
  let points := d.ps.points.filter (fun p => p.2.srcKind == 2 || (p.2.srcKind == 3 && decide (p.2.srcIndex.toNat < 2048)))
  (iids.mergeSort (fun a b => decide (a ≤ b))).map (fun i => ⟨0, i, leBytes 16 (d.srec i).image.toNat⟩) ++
    (d.enabledLoops false).map (fun j => ⟨1, j, leBytes 36 (fld (d.loop j).image 736 288).toNat⟩) ++
    points.map (fun p => ⟨2, p.1, leBytes 8 p.2.value.toNat ++ leBytes 8 p.2.tstamp.toNat ++
      [p.2.detail, p.2.quality.setWidth 8, 0, 0]⟩)

def CatchItem.key (x : CatchItem) : Nat := x.kind * 131072 + x.index

/-- The dirty set: items whose content has changed since it was sent (R532). -/
def Dev.dirtyItems (d : Dev) (s : Sweep) : List CatchItem :=
  d.catchItems.filter (fun x => tget none s.sent x.key != some x.content)

/-- Items of the first pass that are still to be sent. -/
def Dev.passItems (d : Dev) (n : Nat) : List CatchItem := d.catchItems.filter (fun x => decide (n ≤ x.key))

/-- CATCHUP_LEFT. -/
def Dev.catchLeft (d : Dev) : Nat :=
  match d.ply.sweep with
  | none => 0
  | some s => match s.pos with
    | some n => (d.passItems n).length
    | none => (d.dirtyItems s).length

/-- Entries 0 to 2 of space 16#90. -/
def Dev.plyEntry (d : Dev) (i : Nat) : BitVec 512 :=
  let p := d.ply
  match i with
  | 0 => put 512 64 p.pairId ||| put 512 48 p.healthFr ||| put 512 35 p.mirrorMax ||| put 512 29 p.lossFr |||
      put 512 24 p.yieldCyc
  | 1 => put 512 448 p.twinSerial ||| put 512 416 p.twinFw ||| put 512 384 (BitVec.ofNat 32 d.catchLeft) |||
      put 512 352 p.catchupTries ||| put 512 288 p.roleFrame ||| put 512 32 p.twinRole |||
      put 512 30 (BitVec.ofNat 2 p.twinState.code) ||| putB 512 29 p.link ||| putB 512 28 p.hb |||
      putB 512 27 d.twinCopyOk ||| putB 512 26 p.giveupSeen ||| putB 512 25 p.twinWarn ||| putB 512 24 p.yieldAt.isSome |||
      put 512 20 (BitVec.ofNat 4 p.joinStep) ||| put 512 8 p.refuse ||| put 512 0 p.digestEq
  | 2 => (List.range 6).foldl (fun x a => x ||| put 512 (320 + 32 * a) (tget 0 p.digest a)) 0 |||
      put 512 288 p.mirrorTx ||| put 512 256 p.mirrorRx ||| put 512 224 p.mirrorRej ||| put 512 192 p.gapCnt |||
      put 512 160 p.badCnt ||| put 512 128 p.lostCnt ||| put 512 96 p.roleCnt ||| put 512 64 p.hbMiss
  | _ => 0

/-- May the RW fields of entry 0 be written (R544). -/
def plyCfgOk (x : BitVec 512) : Bool :=
  let h := (fld x 48 16).toNat
  let m := (fld x 35 13).toNat
  let y := (fld x 24 5).toNat
  decide (100 ≤ h ∧ h ≤ 60000 ∧ 1 ≤ m ∧ m ≤ 4096 ∧ 3 ≤ (fld x 29 6).toNat ∧ (y = 0 ∨ 4 ≤ y))

/-- Write entry 0. -/
def plyCfgWrite (x : BitVec 512) (d : Dev) : Dev :=
  d.modPly (fun p => { p with
    healthFr := fld x 48 16, mirrorMax := fld x 35 13, lossFr := fld x 29 6, yieldCyc := fld x 24 5 })

/-- Phase E cycles of mirroring (R544). -/
def Dev.plyCost (d : Dev) : Nat := if d.ply.pairId = 0 then 0 else 256 + 5 * d.ply.mirrorMax.toNat

/-- Bit 15 of FAULT_ACTIVE (R545). -/
def Dev.plyFault (d : Dev) : Bool :=
  let p := d.ply
  p.pairId != 0 && (p.twinState == .lost || !p.link || !p.hb || (d.paired && p.digestEq != 63))

/-! ### Ply frames (R514 to R516) -/

/-- Send a ply frame of a kind; a set silence latch lets NOTICE GIVEUP pass alone (R514, R525). PLY_SEQ and the CRC are
put in as the frame starts. DEDUCED: log entry 61. -/
def plySend (kind : Nat) (payload : List Byte) (giveup : Bool) (d : Dev) : Dev :=
  let p := d.ply
  if p.latch && !giveup then d
  else
    let h : BitVec 256 :=
      put 256 192 d.tb.frame ||| put 256 128 p.pairId ||| put 256 64 d.fuses.serial |||
        put 256 48 (BitVec.ofNat 16 payload.length) ||| putB 256 45 (d.tb.tb == .locked) |||
        putB 256 44 (p.yieldTwin && p.yieldAt.isSome) ||| putB 256 43 (kind == 1 && p.resweep) |||
        putB 256 42 p.hb ||| putB 256 41 d.pwr.warn ||| putB 256 40 p.latch |||
        put 256 24 (BitVec.ofNat 8 p.role.code) ||| put 256 16 (BitVec.ofNat 8 kind) ||| put 256 8 1#8
    d.emit (.ply (leBytes 32 h.toNat ++ payload))

/-- Send a NOTICE: its code and argument (R515). DEDUCED: log entry 62. -/
def plyNotice (code arg : Nat) (d : Dev) : Dev := plySend 4 (leBytes 8 (code + 256 * arg)) (code == 3) d

/-- LINE_STATE of every strand (R516). -/
def LineSt.code : LineSt → Nat
  | .off => 0
  | .precheck => 1
  | .inrush => 2
  | .on => 3
  | .retryWait => 4
  | .latched => 5
def Dev.lineStates (d : Dev) : BitVec 48 :=
  (List.range 16).foldl (fun x k => x ||| put 48 (3 * k) (BitVec.ofNat 3 (d.line k).st.code)) 0

/-- The STATUS payload (R516). -/
def Dev.statusPayload (d : Dev) : BitVec 384 :=
  put 384 256 d.lineStates ||| (List.range 6).foldl (fun x a => x ||| put 384 (64 + 32 * a) (tget 0 d.ply.digest a)) 0 |||
    put 384 32 (satNat 32 ((d.egress 2).statusDelay.getD 0)) ||| put 384 0 d.fwVersion

/-- STATUS at sample 0; it carries the delay of the last STATUS that started (R515, R516). -/
def plyStatus (d : Dev) : Dev :=
  if (d.ply.role = .solo ∧ d.ply.pairId = 0) ∨ d.ply.latch = true then d
  else (plySend 1 (leBytes 48 d.statusPayload.toNat) false d).modPly (fun p => { p with resweep := false })

/-! ### Roles (R520) -/

/-- Change the role: 16#0E03. -/
def setRole (r : Role) (cause : Nat) (d : Dev) : Dev :=
  let old := d.ply.role
  let d := d.modPly (fun p => { p with
    role := r, roleFrame := d.tb.frame, roleCnt := p.roleCnt + 1, yieldAt := none, yieldAck := false, yieldTwin := false
    mismatchRun := 0, selfRun := [], suspectRun := [], suspectTold := [] })
  plyReport 0x0E03 false (old.code + 16 * r.code + 256 * cause) d

/-- Outputs of tasks and loops of a JOINING module are INITIAL, its fast loops in INIT (R531). -/
def joinQuiet (d : Dev) : Dev :=
  let ps := (d.ps.points.filter (fun p => p.2.srcKind == 2 || p.2.srcKind == 3)).map (·.1)
  let d := ps.foldl (fun d p => produceQ p 3 1 d.cal d) d
  let d := (List.range 8).foldl (fun d t => d.modTask t (fun k => { k with scan := none, mark := none })) d
  let d := (d.enabledLoops true).foldl (fun d j => d.modLoop j (fun l =>
    if l.st = .faulted then l else { l with st := .init, out := none })) d
  let d := (d.enabledLoops false).foldl (fun d j => d.modLoop j (fun l => { l with out := none })) d
  { d with lp := { d.lp with fastDue := none, cutAt := none } }

/-- Start the join (R529, R531); a measurement of another source that waits is not the twin's. DEDUCED: log entry 63. -/
def enterJoining (cause : Nat) (d : Dev) : Dev :=
  let d := { d with net := { d.net with meas := none } }
  joinQuiet ((setRole .joining cause d).modPly (fun p => { p with
    twinState := .joining, joinStep := 1, stepAge := 0, stepTold := false, timed := false, catchupTries := 0, resweep := true
    cutIn := none, cutDone := none, sweep := none, firstCopy := none }))

/-- Form the pair as its leader (R519, R520). -/
def enterLeading (cause : Nat) (d : Dev) : Dev :=
  (setRole .leading cause d).modPly (fun p => { p with joinStep := 0, cutIn := none, sweep := none, firstCopy := none })

/-- UNPAIR applied, or NOTICE UNPAIR received (R520 row 4, R521). -/
def unpair (d : Dev) : Dev :=
  match d.ply.role with
  | .dead => d.modPly (fun p => { p with pairId := 0 })
  | .solo => d
  | r =>
    let d := plyReport 0x0E12 false 0 (plyNotice 5 0 d)
    let d := (setRole .solo 4 d).modPly (fun p => { p with
      pairId := 0, twinState := .none, joinStep := 0, cutIn := none, sweep := none, giveupSeen := false, firstCopy := none
      lossRun := 0, lossCyc := [], conflict := false, by519 := false })
    if r = .leading then d else oneCycle (fun d => (List.range 16).foldl (fun d k => strandLine k 0 d) d) d

/-- PAIR (R158, R520). -/
def pair (id : Reg) (d : Dev) : Dev := d.modPly (fun p => { p with pairId := id, conflict := false })

/-- A point that the loss of the twin has set BAD with SOURCE_LOST keeps it until its next entry (R537). -/
def Dev.lostMirror (d : Dev) (x : Point) : Bool := d.ply.twinState == .lost && x.quality == 2 && x.detail == 0x08

/-- Points whose last update came from an entry with PRODUCED = 1 (R537). -/
def mirrorQuality (q : BitVec 2) (det : BitVec 8) (d : Dev) : Dev :=
  let ps := (d.ps.points.filter (fun p =>
    p.2.mirProduced && p.2.mirrored && p.2.srcKind == 0 && !d.lostMirror p.2)).map (·.1)
  ps.foldl (fun d p => produceQ p q det d.cal d) d

/-- The twin is lost, or given up (R520, R523, R537). -/
def twinGone (giveup : Bool) (d : Dev) : Dev :=
  let serving := match d.ply.role with
    | .leading => true
    | .trailing => true
    | .joining => true
    | _ => false
  if !serving || d.ply.twinState == .lost then d
  else
    let d := d.modPly (fun p => { p with
      lostCnt := p.lostCnt + 1, giveupSeen := giveup, twinState := .lost, sweep := none, cutIn := none
      yieldAt := none, yieldAck := false, yieldTwin := false
      joinStep := if p.role = .joining then 1 else 0, stepAge := 0, stepTold := false, timed := false
      lossRun := 0, lossCyc := [] })
    let d := plyReport (if giveup then 0x0E07 else 0x0E06) true 0 d
    let d := if d.ply.role = .trailing then enterLeading 5 d else d
    mirrorQuality 2 0x08 d

/-! ### The yield (R539, R540) -/

/-- May a yield begin: STATE where false (R158, R539). DEDUCED: log entry 65. -/
def Dev.yieldOk (d : Dev) : Bool :=
  d.ply.role == .leading && d.ply.twinState == .ok && d.ply.twinRole == 3 && d.ply.yieldAt.isNone

/-- Pick the swap frame and announce it (R539). DEDUCED: log entry 65. -/
def yieldStart (d : Dev) : Dev :=
  let y := BitVec.ofNat 64 ((d.tb.frame.toNat + 16 + 7) / 8 * 8)
  (plyNotice 4 (y.toNat % 2 ^ 56) d).modPly (fun p => { p with yieldAt := some y, yieldAck := false, yieldTwin := false })

/-- Is the swap frame reached. -/
def Dev.yieldDue (d : Dev) : Bool := match d.ply.yieldAt with
  | some y => decide (y ≤ d.tb.frame)
  | none => false

/-- YIELD_SWAP: both twins change role at sample 0 of frame y (R520 row 6, R539, R541). DEDUCED: log entry 65. -/
def yieldSwap (d : Dev) : Dev :=
  if !d.yieldDue then d
  else match d.ply.role with
    | .leading => if d.ply.yieldAck then (setRole .trailing 6 d).modPly (fun p => { p with sweep := none }) else d
    | .trailing => if d.ply.yieldTwin then setRole .leading 6 d else d
    | _ => d

/-- YIELD_CANCELLED: no YIELD_ACK before frame y − 4 (R539). -/
def yieldCancelled (d : Dev) : Dev :=
  match d.ply.yieldAt with
  | some y =>
    if d.ply.role = .leading ∧ d.ply.yieldAck = false ∧ y.toNat ≤ d.tb.frame.toNat + 4 then
      plyReport 0x0E13 true 0 (d.modPly (fun p => { p with yieldAt := none }))
    else d
  | none => d

/-- SELF_YIELD: every reply of YIELD_CYC cycles of a strand in ON saw the trailing copy alone (R540). -/
def selfYield (d : Dev) : Dev :=
  let n := d.ply.yieldCyc.toNat
  if n ≠ 0 ∧ d.yieldOk = true ∧ d.onStrands.any (fun k => decide (n ≤ tget 0 d.ply.selfRun k)) = true then
    yieldStart (plyReport 0x0E0E false 0 d)
  else d

/-! ### Receipt (R514, R517, R523) -/

/-- A ply frame whose CRC holds: its header and payload. DEDUCED: log entry 61. -/
def plyParse (bytes : List Byte) : Option (BitVec 256 × List Byte) :=
  let h := leBits 256 (slice bytes 0 32)
  let n := (fld h 48 16).toNat
  if bytes.length = 36 + n ∧ leBits 32 (bytes.drop (32 + n)) = crc32 (bytes.take (32 + n)) then
    some (h, (bytes.drop 32).take n)
  else none

/-- Count a discarded ply frame. -/
def plyBad (d : Dev) : Dev := d.modPly (fun p => { p with badCnt := p.badCnt + 1 })

/-- Make every sendable point pending (R535). -/
def Dev.sendable (d : Dev) (x : Point) : Bool :=
  x.mirrored && ((decide (4 ≤ x.srcKind.toNat ∧ x.srcKind.toNat ≤ 7)) || (x.srcKind == 0 && d.ply.role == .leading))
def mirrorAll (d : Dev) : Dev :=
  ((d.ps.points.filter (fun p => d.sendable p.2)).map (·.1)).foldl (fun d p =>
    d.setPoint p { d.point p with mirPending := true }) d

/-- Is an accepted frame a gap: PLY_SEQ is not one greater than the last received (R514). -/
def Ply.gapAt (p : Ply) (h : BitVec 256) : Bool := match p.rxSeq with
  | some s => fld h 160 32 != s + 1
  | none => false

/-- Has the twin come to lead by R519: it was last heard SOLO (R527). DEDUCED: log entry 110. -/
def Ply.ledBy519 (p : Ply) (role : BitVec 3) : Bool := role == 2 && (p.twinRole == 0 || (p.twinRole == 2 && p.by519))

/-- An accepted ply frame: PLY_SEQ, evidence, what its header says of the twin (R514, R517, R523, R535, R536). -/
def plyHeard (h : BitVec 256) (d : Dev) : Dev :=
  let gap := d.ply.gapAt h
  let d := d.modPly (fun p => { p with
    rxSeq := some (fld h 160 32), linkAge := some 0, twinSerial := fld h 64 64, twinRole := fld h 24 3
    by519 := p.ledBy519 (fld h 24 3), lossRun := 0, lossCyc := [] })
  let d := if gap then
      plyReport 0x0E0C true 0 (d.modPly (fun p => { p with
        gapCnt := p.gapCnt + 1, resweep := true, gapSeen := some (d.tb.frame, d.tb.sample)
        cutIn := p.cutIn.map (fun c => { c with bad := true })
        health := { p.health with gaps := satAdd p.health.gaps 1 } }))
    else d
  let d := if d.ply.linkOk then d else plyReport 0x0E09 false 0 (d.modPly (fun p => { p with linkOk := true }))
  let d := if bit h 43 then mirrorAll d else d
  if bit h 40 then twinGone true d else d

/-- The checks of R514 on a frame of one kind; a frame of another kind is not this command's. What the kind does takes
whether the frame is a gap, the header and the payload. -/
def plyTaken (kind : Nat) (bytes : List Byte) (act : Bool → BitVec 256 → List Byte → Dev → Dev) (d : Dev) : Dev :=
  match plyParse bytes with
  | none => plyBad d
  | some (h, payload) =>
    if (fld h 16 8).toNat ≠ kind then d
    else if fld h 8 8 ≠ 1 ∨ (fld h 128 32 ≠ d.ply.pairId ∧ ¬(kind = 1 ∧ d.ply.role = .solo)) then plyBad d
    else act (d.ply.gapAt h) h payload (plyHeard h d)

/-- The frame of a ply frame body (R513). -/
def plyHead (bytes : List Byte) : FrameHead := ⟨none, 0x88B5, max 64 (18 + bytes.length), true⟩

/-- A ply frame arrives at the ply port (R203, R513, R514). -/
def plyReceive (kind : Nat) (bytes : List Byte) (act : Bool → BitVec 256 → List Byte → Dev → Dev) (d : Dev) : Dev :=
  rxArrive 2 (plyHead bytes) (plyTaken kind bytes act) d

/-! ### STATUS (R519, R520, R527 to R529, R534) -/

/-- Refuse: 16#0E02 with a reason. -/
def plyRefuse (reason : Nat) (d : Dev) : Dev :=
  plyReport 0x0E02 true reason (d.modPly (fun p => { p with refuse := BitVec.ofNat 8 reason }))

/-- The measurement of a STATUS received `rx` ns after sample 0 (R527). -/
def statusMeasure (h : BitVec 256) (txDelay rx : Nat) (d : Dev) : Dev :=
  let frame : W64 := fld h 192 64
  let delay := (d.port 2).pdelay
  let d := match d.ply.statusPrev with
    | some (f, r) =>
      let valid := d.plyTime && fld h 24 8 == 2 && (bit h 45 || d.ply.by519) && decide (delay.toNat ≤ 1000) && frame == f + 1
      if valid then
        let t : Int := (delay.toNat : Int) + txDelay - r
        { d with net := { d.net with meas := some ⟨(t + 500000) % 1000000 - 500000, some (frame + 1), d.tb.ran⟩ } }
      else d
    | none => d
  d.modPly (fun p => { p with statusPrev := some (frame, rx) })

/-- Does a join step's condition hold (R529). -/
def Dev.joinHolds (d : Dev) (step : Nat) : Bool :=
  match step with
  | 1 => d.ply.twinRole == 2
  | 2 => fld d.ply.twinFw 16 16 == fld d.fwVersion 16 16
  | 3 => d.tb.tb == .locked && d.ply.timed && d.tb.badRun == 0 && d.ply.frameEq
  | 4 => d.ply.digestEq == 63
  | 5 => d.ply.cutIn.isSome
  | _ => false

/-- Pass join steps whose conditions hold. DEDUCED: log entry 63. -/
def joinAdvance : Nat → Dev → Dev
  | 0, d => d
  | n + 1, d =>
    if d.ply.role = .joining ∧ d.joinHolds d.ply.joinStep = true then
      joinAdvance n (d.modPly (fun p => { p with
        joinStep := p.joinStep + 1, stepAge := 0, stepTold := false
        twinState := if p.joinStep = 1 then .joining else p.twinState
        giveupSeen := if p.joinStep = 1 then false else p.giveupSeen }))
    else d

/-- A pair of SOLO modules (R519): the twin's LINE_STATE tells whether it serves. -/
def soloMeets (h : BitVec 256) (lines : BitVec 48) (d : Dev) : Dev :=
  let own := d.lineStates != 0
  let twin := lines != 0
  if own && twin then
    if d.ply.conflict then d else plyRefuse 1 (d.modPly (fun p => { p with conflict := true }))
  else
    let leads := if own then true else if twin then false else decide (d.fuses.serial < fld h 64 64)
    if leads then
      let d := enterLeading 2 d
      plyReport 0x0E01 false d.ply.role.code d
    else enterJoining 2 d

/-- The leader hears a JOINING twin: serve the join, count a failed cutover (R520, R532, R534). -/
def leaderServes (h : BitVec 256) (d : Dev) : Dev :=
  let d := if d.ply.twinState = .joining then d
    else d.modPly (fun p => { p with twinState := .joining, sweep := none, catchupTries := 0, giveupSeen := false })
  let ready := fld d.ply.twinFw 16 16 == fld d.fwVersion 16 16 && bit h 45 && d.ply.frameEq && d.ply.digestEq == 63
  match d.ply.sweep with
  | none => if ready then d.modPly (fun p => { p with sweep := some ⟨[], some 0, 0, none, none⟩ }) else d
  | some s =>
    match s.open_ with
    | some c =>
      if c.toNat + 2 ≤ (fld h 192 64).toNat then
        d.modPly (fun p => { p with
          catchupTries := p.catchupTries + 1, sweep := some { s with frozen := none, open_ := none } })
      else d
    | none => d

/-- TRAILING: three STATUS frames in a row with another frame number (R520 row 7, R528). -/
def trailingFrames (d : Dev) : Dev :=
  if d.ply.frameEq then d.modPly (fun p => { p with mismatchRun := 0 })
  else
    let d := d.modPly (fun p => { p with mismatchRun := p.mismatchRun + 1 })
    if 3 ≤ d.ply.mismatchRun then enterJoining 7 (plyReport 0x0E11 true 0 d) else d

/-- What a STATUS from the twin does in each role (R520). -/
def statusRole (h : BitVec 256) (lines : BitVec 48) (d : Dev) : Dev :=
  let twin := (fld h 24 8).toNat
  match d.ply.role with
  | .solo =>
    if d.ply.pairId = 0 ∨ fld h 128 32 ≠ d.ply.pairId then d
    else if twin = 2 then joinAdvance 5 (enterJoining 1 d)
    else if twin = 0 then soloMeets h lines d
    else d
  | .joining => joinAdvance 5 d
  | .trailing => trailingFrames d
  | .leading =>
    if twin = 2 then
      if fld h 64 64 < d.fuses.serial then enterJoining 8 (plyRefuse 6 d) else d
    else if twin = 1 then leaderServes h d
    else if twin = 3 then d.modPly (fun p => { p with twinState := .ok, sweep := none, giveupSeen := false })
    else d
  | .dead => d

/-- PLY_STATUS_RECEIVE: a STATUS received `rx` ns after sample 0 of this frame (R514, R516, R520, R527, R539).
DEDUCED: log entry 61. DEDUCED: log entry 62. -/
def plyStatusReceive (rx : Nat) (bytes : List Byte) (d : Dev) : Dev :=
  plyReceive 1 bytes (fun _ h payload d =>
    let x : BitVec 384 := leBits 384 (slice payload 0 48)
    let near := if rx < 500000 then d.tb.frame else d.tb.nextFrame
    let d := statusMeasure h (fld x 32 32).toNat rx d
    let d := d.modPly (fun p => { p with
      twinFw := fld x 0 32
      twinDigest := (List.range 6).foldl (fun t a => tset 0 t a (fld x (64 + 32 * a) 32)) []
      twinLineState := fld x 256 48
      frameEq := near == fld h 192 64
      yieldAck := p.yieldAck || (bit h 44 && p.role == .leading && (match p.yieldAt with
        | some y => decide (d.tb.frame.toNat + 4 < y.toNat)
        | none => false)) })
    statusRole h (fld x 256 48) d) d

/-! ### NOTICE (R515, R522, R523, R526) -/

/-- PLY_NOTICE_RECEIVE. DEDUCED: log entry 62. -/
def plyNoticeReceive (bytes : List Byte) (d : Dev) : Dev :=
  plyReceive 4 bytes (fun _ _ payload d =>
    let x : W64 := leBits 64 (slice payload 0 8)
    match (fld x 0 8).toNat with
    | 1 => plyReport 0x0E0D true 1 (d.modPly (fun p => { p with twinWarn := true }))
    | 2 => plyReport 0x0E0D false 0 (d.modPly (fun p => { p with twinWarn := false }))
    | 3 => twinGone true d
    | 4 => if d.ply.role = .trailing ∧ d.tb.frame < (fld x 8 56).setWidth 64 then
        d.modPly (fun p => { p with yieldAt := some ((fld x 8 56).setWidth 64), yieldTwin := true, yieldAck := false })
      else d
    | 5 => unpair d
    | 6 => if d.ply.role = .trailing ∧ (fld x 24 2).toNat ≠ 3 then
        oneCycle (fun d =>
          ((List.range 16).filter (fun k => bit x (8 + k))).foldl (fun d k => strandLine k (fld x 24 2).toNat d) d) d
      else d
    | 7 => twinGone true d
    | _ => d) d

/-- A LEADING module passes a STRAND_LINE command to its twin (R522). -/
def relayLine (strands : List Nat) (action : Nat) (d : Dev) : Dev :=
  if d.ply.role = .leading then
    plyNotice 6 ((strands.foldl (fun m k => m ||| putB 16 k true) (0 : BitVec 16)).toNat + 65536 * action) d
  else d

/-! ### Mirrored points (R535 to R537) -/

/-- A mirror entry (R535). -/
def mirrorEntry (p : Nat) (x : Point) : BitVec 192 :=
  put 192 128 x.tstamp ||| put 192 64 x.value ||| put 192 56 x.detail ||| put 192 54 x.quality |||
    putB 192 53 (decide (4 ≤ x.srcKind.toNat ∧ x.srcKind.toNat ≤ 7)) ||| put 192 0 (BitVec.ofNat 17 p)

/-- Pending sendable points in service order. -/
def Dev.mirrorDue (d : Dev) : List Nat :=
  rotateFrom d.ply.mirrorRR ((d.ps.points.filter (fun p => p.2.mirPending && d.sendable p.2)).map (·.1))

/-- MIRROR_SEND in phase E: up to MIRROR_MAX points, of which `n` at most are reached (R535). -/
def mirrorSend (n : Nat) (d : Dev) : Dev :=
  if d.ply.pairId = 0 ∨ d.ply.latch = true then d
  else
    let ps := d.mirrorDue.take (min n d.ply.mirrorMax.toNat)
    let frames := chunks 160 26 (ps.map (fun p => leBytes 24 (mirrorEntry p (d.point p)).toNat))
    let d := ps.foldl (fun d p => d.setPoint p { d.point p with mirPending := false }) d
    let d := frames.foldl (fun d f => plySend 2 f.flatten false d) d
    d.modPly (fun p => { p with
      mirrorTx := p.mirrorTx + BitVec.ofNat 32 ps.length
      mirrorRR := match ps.getLast? with
        | some k => k + 1
        | none => p.mirrorRR })

/-- Apply one mirror entry (R536). -/
def mirrorApply (e : BitVec 192) (d : Dev) : Dev :=
  let p := (fld e 0 17).toNat
  let x := d.point p
  if x.mirrored && x.srcKind == 0 && !x.subst && !x.quarantined then
    let y := { x with
      value := canonical x.ptype.toNat (fld e 64 64), quality := fld e 54 2, detail := fld e 56 8, mirProduced := bit e 53 }
    (storePoint p y (fld e 128 64) d).modPly (fun p => { p with
      mirrorRx := p.mirrorRx + 1, health := { p.health with applied := satAdd p.health.applied 1 } })
  else d.modPly (fun p => { p with mirrorRej := p.mirrorRej + 1 })

/-- PLY_MIRROR_RECEIVE (R536). -/
def plyMirrorReceive (bytes : List Byte) (d : Dev) : Dev :=
  plyReceive 2 bytes (fun _ _ payload d =>
    (chunks 24 (payload.length / 24) payload).foldl (fun d b => mirrorApply (leBits 192 b) d) d) d

/-! ### Catch-up and cutover (R532 to R534) -/

/-- CUT_MAX (R534). -/
def Dev.cutMax (d : Dev) : Nat := if (d.port 2).speed = 2 then 2048 else 512

/-- The item head and content of an item (R533). -/
def CatchItem.bytes (x : CatchItem) : List Byte :=
  leBytes 4 (x.kind * 2 ^ 30 + x.content.length * 2 ^ 24 + x.index) ++ x.content

/-- The items that fit into one CATCHUP frame (R533). -/
def fitItems : Nat → Nat → List CatchItem → List CatchItem
  | 0, _, _ => []
  | _ + 1, _, [] => []
  | n + 1, room, x :: xs =>
    let k := 4 + x.content.length
    if room < k then [] else x :: fitItems n (room - k) xs

/-- Send a CATCHUP frame; a frame of the cutover set names its frame c. -/
def catchFrame (items : List CatchItem) (cut : Option W64) (last : Bool) (d : Dev) : Dev :=
  let head : BitVec 128 := put 128 66 (BitVec.ofNat 16 items.length) ||| putB 128 65 last |||
    putB 128 64 cut.isSome ||| put 128 0 (cut.getD 0)
  plySend 3 (leBytes 16 head.toNat ++ items.flatMap CatchItem.bytes) false d

/-- Note items as sent. -/
def Sweep.note (s : Sweep) (items : List CatchItem) : Sweep :=
  { s with sent := items.foldl (fun t x => tset none t x.key (some x.content)) s.sent }

/-- The frames of the frozen set, from the start of phase E on (R534). -/
def cutoverSend : Nat → Dev → Dev
  | 0, d => d
  | n + 1, d =>
    match d.ply.sweep with
    | none => d
    | some s =>
      match s.frozen with
      | none => d
      | some (c, items) =>
        if d.ply.latch = true ∨ d.ply.role ≠ .leading then d
        else
          let now := fitItems 204 4080 items
          let rest := items.drop now.length
          cutoverSend n ((catchFrame now (some c) rest.isEmpty d).modPly (fun p => { p with
            sweep := some { s.note now with frozen := if rest.isEmpty then none else some (c, rest) } }))

/-- Items of the frozen set, with one for the frame that ends it. -/
def Dev.frozenItems (d : Dev) : Nat := match d.ply.sweep with
  | none => 0
  | some s => match s.frozen with
    | none => 0
    | some (_, items) => items.length + 1

/-- CATCHUP_SEND: one frame of the first pass or of the dirty set; a frozen set waits for phase E (R532, R534). -/
def catchupSend (d : Dev) : Dev :=
  match d.ply.sweep with
  | none => d
  | some s =>
    if d.ply.latch = true ∨ d.ply.role ≠ .leading then d
    else match s.frozen with
    | some _ => d
    | none =>
      match s.pos with
      | some n =>
        let due := d.passItems n
        let now := fitItems 204 4080 due
        let pos := ((due.drop now.length).head?).map CatchItem.key
        let d1 := if now.isEmpty then d else catchFrame now none false d
        d1.modPly (fun p => { p with sweep := some { s.note now with pos := pos } })
      | none =>
        let now := fitItems 204 4080 (d.dirtyItems s)
        if now.isEmpty then d
        else (catchFrame now none false d).modPly (fun p => { p with sweep := some (s.note now) })

/-- CUTOVER_FREEZE at the end of phase D (R534). -/
def cutoverFreeze (d : Dev) : Dev :=
  match d.ply.sweep with
  | none => d
  | some s =>
    let dirty := d.dirtyItems s
    if d.ply.role = .leading ∧ s.pos = none ∧ s.frozen = none ∧ s.open_ = none ∧ d.ply.catchupTries.toNat < 3 ∧
        dirty.length ≤ d.cutMax then
      d.modPly (fun p => { p with sweep := some { s with frozen := some (d.tb.frame, dirty), open_ := some d.tb.frame } })
    else d

/-- RETRY (R158, R534). -/
def Dev.retryOk (d : Dev) : Bool :=
  d.ply.role == .leading && d.ply.twinState == .joining && decide (3 ≤ d.ply.catchupTries.toNat)
def retry (d : Dev) : Dev :=
  d.modPly (fun p => { p with catchupTries := 0, sweep := p.sweep.map (fun s => { s with age := 0 }) })

/-- CATCHUP_RESTART: 60,000 frames without a cutover, while cutovers are allowed (R534). -/
def catchupRestart (d : Dev) : Dev :=
  match d.ply.sweep with
  | some s =>
    if d.ply.role = .leading ∧ 60000 ≤ s.age ∧ d.ply.catchupTries.toNat < 3 then
      plyReport 0x0E05 true 0 (d.modPly (fun p => { p with sweep := some ⟨[], some 0, 0, none, none⟩ }))
    else d
  | none => d

/-- Items of a CATCHUP payload; `none` where the frame is to be discarded (R533). -/
def catchParse : Nat → List Byte → Option (List CatchItem)
  | 0, [] => some []
  | 0, _ => none
  | n + 1, bs =>
    if bs.length < 4 then none
    else
      let h : BitVec 32 := leBits 32 (bs.take 4)
      let kind := (fld h 30 2).toNat
      let len := (fld h 24 6).toNat
      let index := (fld h 0 17).toNat
      let need := match kind with
        | 0 => 16
        | 1 => 36
        | _ => 20
      if kind = 3 ∨ fld h 17 7 ≠ 0 ∨ len ≠ need ∨ (kind = 1 ∧ 2048 ≤ index) ∨ bs.length < 4 + len then none
      else (catchParse n (bs.drop (4 + len))).map (fun r => ⟨kind, index, (bs.drop 4).take len⟩ :: r)

/-- A state record from its image (R300). -/
def srecOf (x : BitVec 128) : SRec where
  stype := fld x 122 6
  sdtype := fld x 120 2
  outq := fld x 118 2
  auxq := fld x 116 2
  live := bit x 115
  detail := fld x 104 8
  flags := fld x 96 8
  s0 := fld x 64 32
  aux := fld x 32 32
  out := fld x 0 32

/-- LSTATE of a code. -/
def loopStOf (n : Nat) : LoopSt :=
  match n with
  | 0 => .disabled
  | 1 => .init
  | 2 => .auto
  | 3 => .manual
  | 4 => .hold
  | _ => .faulted

/-- Write a catch-up item into its own record, as one update (R533). A POINT item is the update of the point's task or
frame-rate loop, so that a point with no such producer, a substituted and a quarantined one take nothing (R65, R72, R95); its
TSTAMP is taken even where nothing else differs (DESIGN CHOICE: log entry 116). -/
def catchApply (d : Dev) (i : CatchItem) : Dev :=
  match i.kind with
  | 0 => d.setSrec i.index (srecOf (leBits 128 i.content))
  | 1 =>
    let x : BitVec 288 := leBits 288 i.content
    d.modLoop i.index (fun l => { l with
      integ := fld x 224 64, outLast := fld x 192 32, pvPrev := fld x 160 32, dfilt := fld x 128 32, spUsed := fld x 96 32
      feTmr := fld x 80 16, skipConsec := fld x 72 8, st := loopStOf (fld x 69 3).toNat, awHi := bit x 68, awLo := bit x 67
      extSat := bit x 66, feActive := bit x 65, tracking := bit x 64, lastFault := fld x 56 8, execCnt := fld x 0 32 })
  | _ =>
    let b := i.content
    let p := d.point i.index
    let taken := (p.srcKind == 2 || (p.srcKind == 3 && decide (p.srcIndex.toNat < 2048))) && !p.subst && !p.quarantined
    if taken then
      storePoint i.index { p with
        value := canonical p.ptype.toNat (leBits 64 (b.take 8)), tstamp := leBits 64 ((b.drop 8).take 8), detail := b.getD 16 0
        quality := fld (b.getD 17 0) 0 2 } (leBits 64 ((b.drop 8).take 8)) d
    else d

/-- Is the time of a cutover set over: sample 2 of frame c + 1 (R534). -/
def Dev.cutOver (d : Dev) (c : W64) : Bool :=
  decide (c + 1 < d.tb.frame) || (d.tb.frame == c + 1 && decide (2 ≤ d.tb.sample))

/-- Was a gap shown since phase E of frame c began (R534). -/
def Dev.cutGap (d : Dev) (c : W64) : Bool := match d.ply.gapSeen with
  | some (f, s) => decide (c < f) || (f == c && decide (21 ≤ s))
  | none => false

/-- PLY_CATCHUP_RECEIVE (R533, R534). DEDUCED: log entry 123. -/
def plyCatchupReceive (bytes : List Byte) (d : Dev) : Dev :=
  plyReceive 3 bytes (fun gap _ payload d =>
    if d.ply.role ≠ .joining then d
    else
      let head : BitVec 128 := leBits 128 (slice payload 0 16)
      let cut := bit head 64
      let c : W64 := fld head 0 64
      let same := match d.ply.cutIn with
        | some x => x.frame == c
        | none => false
      if cut && d.ply.cutDone == some c then d
      else
      let d := if cut && !same then
          joinAdvance 5 (d.modPly (fun p => { p with
            cutIn := some ⟨c, [], gap || d.cutGap c, false⟩
            catchupTries := if 3 ≤ p.catchupTries.toNat then 0 else p.catchupTries }))
        else d
      let d := if cut && d.cutOver c then
          d.modPly (fun p => { p with cutIn := p.cutIn.map (fun x => { x with bad := x.bad || !x.ended }) })
        else d
      match catchParse (fld head 66 16).toNat (payload.drop 16) with
      | none => plyBad (d.modPly (fun p => { p with cutIn := if cut then p.cutIn.map (fun x => { x with bad := true }) else p.cutIn }))
      | some items =>
        if cut then d.modPly (fun p => { p with cutIn := p.cutIn.map (fun x => { x with
          items := x.items ++ items, ended := x.ended || bit head 65 }) })
        else items.foldl catchApply d) d

/-- Is the cutover set's time come: sample 2 of frame c + 1 (R534). -/
def Dev.cutDue (d : Dev) : Bool := match d.ply.cutIn with
  | some x => d.ply.role == .joining && d.cutOver x.frame
  | none => false

/-- CUTOVER_LOAD: load the complete set and enter TRAILING, or discard it (R520 row 3, R534). -/
def cutoverLoad (d : Dev) : Dev :=
  match d.ply.cutIn with
  | none => d
  | some x =>
    if !d.cutDue then d
    else if x.ended && !x.bad && d.ply.joinStep == 6 && d.tb.frame == x.frame + 1 then
      let d := x.items.foldl catchApply d
      let d := (setRole .trailing 3 d).modPly (fun p => { p with
        twinState := .ok, joinStep := 0, cutIn := none, cutDone := some x.frame, firstCopy := some (x.frame + 2) })
      let d := plyReport 0x0E04 false x.frame.toNat d
      let d := (List.range 16).foldl (fun d k =>
        if fld d.ply.twinLineState (3 * k) 3 ≠ 0 then strandLine k 1 d else d) d
      scanAll [] d
    else
      let d := d.modPly (fun p => { p with cutIn := none, cutDone := some x.frame, catchupTries := p.catchupTries + 1 })
      if d.ply.catchupTries.toNat = 3 ∧ d.ply.joinStep = 6 then plyRefuse 5 d else d

/-! ### Counts of frames (R517, R523, R525, R529, R530, R542) -/

/-- PLY_LINK_LOST (R517, R537). -/
def plyLinkLost (d : Dev) : Dev :=
  if d.ply.linkOk ∧ d.ply.linkDue = true then
    mirrorQuality 1 0x07 (plyReport 0x0E08 true 0 (d.modPly (fun p => { p with linkOk := false })))
  else d

/-- HB_LOST (R517). -/
def hbLost (d : Dev) : Dev :=
  if d.ply.hbOk ∧ d.ply.hbRun = 0 then plyReport 0x0E0A true 0 (d.modPly (fun p => { p with hbOk := false })) else d

/-- PLY_HB_IN_CHANGE (R517). -/
def plyHbChange (d : Dev) : Dev := d.modPly (fun p => { p with hbIn := !p.hbIn, hbNow := true })

/-- TWIN_LOST: no evidence for LOSS_FR frames and 2 cycles of every strand in ON, or 2 frames and 1 cycle after
SUPPLY_WARN (R523). -/
def twinLost (d : Dev) : Dev :=
  let n := if d.ply.twinWarn then 2 else d.ply.lossFr.toNat
  let c := if d.ply.twinWarn then 1 else 2
  if n ≤ d.ply.lossRun ∧ d.onStrands.all (fun k => decide (c ≤ tget 0 d.ply.lossCyc k)) = true then twinGone false d else d

/-- Reason of a join step (R529). DEDUCED: log entry 63. -/
def stepReason (step : Nat) : Option Nat :=
  match step with
  | 2 => some 2
  | 3 => some 3
  | 4 => some 4
  | _ => none

/-- JOIN_STEP_TIMEOUT (R529). DEDUCED: log entry 63. -/
def joinTimeout (d : Dev) : Dev :=
  match stepReason d.ply.joinStep with
  | some r =>
    if d.ply.role = .joining ∧ 1000 ≤ d.ply.stepAge ∧ d.ply.stepTold = false then
      plyRefuse r (d.modPly (fun p => { p with stepTold := true }))
    else d
  | none => d

/-- The ply frames that wait at port 2 are taken back (R525). -/
def dropPly (d : Dev) : Dev :=
  d.setEgress 2 { d.egress 2 with queue := (d.egress 2).queue.filter (fun x => !x.isPly) }

/-- SILENCE_LATCH_CUT: two frames have passed without a stroke; the transmitters of all strands stop, and every ply frame but
NOTICE GIVEUP (R36, R246, R525). -/
def latchCut (d : Dev) : Dev :=
  if d.ply.latch = false ∧ 3 ≤ d.ply.sinceStroke then
    plyNotice 3 0 (dropPly ((List.range 16).foldl (fun d k => cutCopy k d) (d.modPly (fun p => { p with latch := true }))))
  else d

/-- HEALTH (R542). -/
def healthData (d : Dev) : BitVec 128 :=
  let p := d.ply
  put 128 96 p.health.applied ||| put 128 80 p.health.gaps ||| put 128 64 p.health.onlyTwin ||| put 128 48 p.health.differ |||
    put 128 32 p.health.noCopy ||| putB 128 19 p.twinWarn ||| put 128 13 p.digestEq ||| putB 128 12 d.twinCopyOk |||
    putB 128 11 p.hb ||| putB 128 10 p.link ||| put 128 8 (BitVec.ofNat 2 p.twinState.code) ||| put 128 4 p.twinRole |||
    put 128 0 (BitVec.ofNat 3 p.role.code)
/-- Does the command processor run, as the strokes of phase F show (R36, R543). DEDUCED: log entry 18. -/
def Dev.strokes (d : Dev) : Bool := !d.ply.latch && decide (d.ply.sinceStroke ≤ 1)
def health (d : Dev) : Dev :=
  if d.ply.pairId ≠ 0 ∧ d.ply.healthFr.toNat ≤ d.ply.healthAge ∧ d.strokes = true then
    plyReport 0x0E10 false (healthData d).toNat d |>.modPly (fun p => { p with healthAge := 0, health := ⟨0, 0, 0, 0, 0⟩ })
  else d

/-- Bytes over which an area's digest runs: the RW fields at their places, in index order (R530). DEDUCED: log entry 64. -/
def digestBytes (a : Nat) (d : Dev) : List Byte :=
  match a with
  | 0 => (List.range 16).flatMap (fun k => leBytes 64 ((d.strand k).cfg &&& strandMask).toNat)
  | 1 => (List.range 4096).flatMap (fun n =>
      if indexFree n then leBytes 32 ((d.node n).cfg &&& nodeMask).toNat else [])
  | 2 => (List.range 8).flatMap (fun t => leBytes 64 ((d.task t).cfg &&& taskMask).toNat)
  | 3 =>
    let used := ((List.range 8).filter (fun t => (d.task t).st == .running)).flatMap (fun t =>
      let k := d.task t
      (List.range (k.count k.bank)).map (fun i => bankIndex k.bank (k.base k.bank + i)))
    (used.mergeSort (fun a b => decide (a ≤ b))).flatMap (fun i => leBytes 16 (d.bentry i).toNat)
  | 4 => (List.range 2112).flatMap (fun j => leBytes 128 ((d.loop j).cfg &&& loopMask).toNat)
  | _ => (d.ps.points.filter (fun p => p.2.digested)).flatMap
      (fun p => leBytes 4 (fld (p.2.image &&& attrMask) 160 32).toNat)
where
  /-- The RW fields of the attribute word: all but SUBST. -/
  attrMask : BitVec 256 := ~~~(putB 256 170 true)
  /-- Node table indices that name a node. -/
  indexFree (n : Nat) : Bool := n % 256 != 0 && n % 256 != 255

/-- Recompute the digest of an area. DEDUCED: log entry 64. -/
def digestNow (a : Nat) (d : Dev) : Dev :=
  d.modPly (fun p => { p with digest := tset 0 p.digest a (crc32 (digestBytes a d)), digestDue := terase p.digestDue a })

/-- DIGEST_RECOMPUTE (R530). DEDUCED: log entry 64. -/
def digestRecompute (a : Nat) (d : Dev) : Dev := if (tget none d.ply.digestDue a).isSome then digestNow a d else d

/-- DIGEST_MISMATCH (R530). -/
def digestMismatch (d : Dev) : Dev :=
  let due := (List.range 6).filter (fun a => tget 0 d.ply.neqRun a = 1000)
  if d.paired = true ∧ due ≠ [] then
    plyReport 0x0E14 true (63 - d.ply.digestEq.toNat)
      (d.modPly (fun p => { p with neqRun := due.foldl (fun t a => tset 0 t a 1001) p.neqRun }))
  else d

/-- What the counts of frames made due at the boundary before and no command of its own has taken
(R520, R523, R529, R530, R534, R540, R542; DESIGN CHOICE: log entry 12). -/
def plyOverdue (d : Dev) : Dev :=
  health (digestMismatch (selfYield (catchupRestart (joinTimeout (twinLost d)))))

/-- The ply unit at the end of a frame. -/
def plyFrameEnd (d : Dev) : Dev :=
  let d := hbLost (plyLinkLost (plyOverdue d))
  let quiet := !d.ply.linkOk && !d.ply.hbOk && !d.ply.heardNow
  let due := (d.ply.digestDue.filter (fun a => match a.2 with
    | some n => decide (99 ≤ n)
    | none => false)).map (·.1)
  let d := due.foldl (fun d a => digestNow a d) d
  let eq := d.ply.digestEq
  let neq := (List.range 6).foldl (fun t a =>
    let n := tget 0 d.ply.neqRun a
    tset 0 t a (if bit eq a || !d.paired then 0 else if n < 1000 then n + 1 else n)) []
  let d := d.modPly (fun p => { p with
    linkAge := p.linkAge.map (· + 1)
    hbRun := if p.hbNow then min 3 (p.hbRun + 1) else 0
    hbMiss := if p.pairId ≠ 0 ∧ p.hbNow = false then p.hbMiss + 1 else p.hbMiss
    hbNow := false
    heardNow := false
    lossRun := if quiet then p.lossRun + 1 else 0
    lossCyc := if quiet then p.lossCyc else []
    stepAge := if p.role = .joining then p.stepAge + 1 else 0
    digestDue := p.digestDue.map (fun a => (a.1, a.2.map (· + 1)))
    neqRun := neq
    healthAge := if p.pairId = 0 then 0 else p.healthAge + 1
    sweep := p.sweep.map (fun s => { s with age := s.age + 1 })
    sinceStroke := p.sinceStroke + 1 })
  if d.ply.hbRun = 3 ∧ d.ply.hbOk = false then plyReport 0x0E0B false 0 (d.modPly (fun p => { p with hbOk := true })) else d

/-- The ply unit at sample 0: the latch, the yield, NOTICE GIVEUP and NOTICE DEAD, then STATUS with the role and the latch
as they now are, and the heartbeat (R515, R517, R520, R525, R539). -/
def plyFrameStart (d : Dev) : Dev :=
  let d := if d.ply.latch then plyNotice 3 0 d else latchCut d
  let d := yieldSwap (yieldCancelled d)
  let d := if d.ply.role = .dead then plyNotice 7 0 d else d
  let d := plyStatus d
  if d.ply.role ≠ .dead ∧ d.ply.latch = false then d.modPly (fun p => { p with hbOut := !p.hbOut }) else d

/-- What came due at an earlier instant and found no command of its own (DESIGN CHOICE: log entry 12). -/
def plySettle (d : Dev) : Dev := if decide (3 ≤ d.tb.sample) && d.cutDue then cutoverLoad d else d

/-- The stroke of phase F (R36). -/
def latchStroke (d : Dev) : Dev := d.modPly (fun p => { p with sinceStroke := 0 })

end Sys2Proof.Machine
end

