-- ==== Sys2Proof/Machine/Security.lean ====
section
/-!
DEFINITION. Identity, keys and lifecycle (R563 to R586): keys, the session handshake, enrolment, the end of a session,
lifecycle transitions and the entries of space 16#A0.
-/
namespace Sys2Proof.Machine

/-- Change the security unit. -/
def Dev.modSec (d : Dev) (f : Sec → Sec) : Dev := { d with sec := f d.sec }

/-! ### Keys (R563, R569, R570) -/

/-- The root that the lifecycle state selects: 1 manufacture, 2 field, 3 return. -/
def Dev.rootNo (d : Dev) : Option Nat :=
  match d.fuses.lifecycle with
  | 1 => some 1
  | 2 => some 2
  | 3 => some 3
  | _ => none

/-- A scalar in 1 to n − 1 from a number. -/
def scalarOf (x : Nat) : Nat := x % (p256N - 1) + 1

/-- DEV_SERIAL as 8 bytes. -/
def Dev.serialBytes (d : Dev) : List Byte := leBytes 8 d.fuses.serial.toNat

/-- The device private scalar (R570). -/
def Dev.deviceScalar (d : Dev) : Nat :=
  match d.rootNo with
  | some r => scalarOf (kdf (keyBytes (Config.root r)) (ascii "FC64-DEVKEY") d.serialBytes).toNat
  | none => 0

/-- The session key (R569). -/
def sessionKey (z t2 : List Byte) : BitVec 256 := kdf z (ascii "FC64-SESSION") t2

/-- The key of an owner slot, empty where it holds none (R577). -/
def Dev.slotKey (d : Dev) (k : Nat) : List Byte := tget [] d.flash.slots k

/-- The DER certificate of the root that the lifecycle state selects, at most 2,048 bytes (R576). -/
def Dev.cert (d : Dev) : List Byte := match d.rootNo with
  | some r => (Config.certificate r).take 2048
  | none => []

/-- Slots that hold a key. -/
def Dev.enrolled (d : Dev) : List Nat := [0, 1, 2, 3].filter (fun k => d.slotKey k != [])

/-- The key that SLOT of a HOST_HELLO names, where the lifecycle state allows it (R563, R580). -/
def Dev.helloKey (d : Dev) (slot : Nat) : Option (List Byte) :=
  let l := d.fuses.lifecycle
  if slot < 4 then (if (l = 1 ∨ l = 2) ∧ d.slotKey slot ≠ [] then some (d.slotKey slot) else none)
  else if slot = 0xFE ∧ l = 1 then some Config.mfgAuth
  else if slot = 0xFF ∧ l = 3 then some Config.retAuth
  else none

/-! ### The entries of space 16#A0 (R576, R577, R585) -/

/-- JTAG_LIVE by the lifecycle state (R563). -/
def Dev.jtagLive (d : Dev) : Bool := d.fuses.lifecycle == 0 || d.fuses.lifecycle == 1 || d.fuses.lifecycle == 3

/-- Entries of space 16#A0. -/
def Dev.secEntry (d : Dev) (i : Nat) : BitVec 512 :=
  let s := d.sec
  if i = 0 then
    put 512 192 d.fuses.nonce ||| put 512 160 s.sessionCnt ||| put 512 128 s.failCnt ||| put 512 96 d.flash.enrollCnt |||
      put 512 64 s.hsId ||| put 512 48 (BitVec.ofNat 16 d.cert.length) ||| put 512 40 s.lastReason |||
      put 512 36 (d.enrolled.foldl (fun m k => m ||| putB 4 k true) 0) ||| put 512 32 s.sessionSlot |||
      put 512 20 (BitVec.ofNat 4 s.keyKind) ||| putB 512 19 d.jtagLive ||| putB 512 18 s.debug |||
      putB 512 17 s.entropyFail ||| put 512 0 (BitVec.ofNat 3 d.fuses.lifecycle)
  else if 2 ≤ i ∧ i ≤ 5 then leBits 512 (d.slotKey (i - 2))
  else if 8 ≤ i ∧ i ≤ 39 then leBits 512 (slice d.cert (64 * (i - 8)) 64)
  else 0

/-- Bit 14 of FAULT_ACTIVE (R586, R595). -/
def Dev.secFault (d : Dev) : Bool := d.sec.entropyFail || d.sec.debug || d.ply.role == .dead

/-! ### Handshake frames (R578, R579) -/

/-- A handshake frame reaches its riser port, for an operation (R203, R204, R578). -/
def hsArrive (f : HsIn) (act : Dev → Dev) (d : Dev) : Dev :=
  rxArrive f.port f.head (fun d => if f.head.etherType = 0x88B6 then act d else d) d

/-- The message of a handshake frame of one kind for this module: HS_ID and body. DEDUCED: log entry 66. -/
def hsParse (msg len : Nat) (f : HsIn) (d : Dev) : Option (Reg × List Byte) :=
  let h : BitVec 128 := leBits 128 (slice f.body 0 16)
  if f.port < 2 ∧ 16 + len ≤ f.body.length ∧ fld h 64 64 = d.fuses.serial ∧ (fld h 16 16).toNat = len ∧
      (fld h 8 8).toNat = msg ∧ fld h 0 8 = 1 then
    some (fld h 32 32, (f.body.drop 16).take len)
  else none

/-- Send a handshake message, tagged with VID and PCP 0; a port whose link is down sends nothing (R198, R205, R578).
DEDUCED: log entry 111. -/
def hsSend (port : Nat) (mac : BitVec 48) (hsId : Reg) (msg : Nat) (body : List Byte) (d : Dev) : Dev :=
  let h : BitVec 128 := put 128 64 d.fuses.serial ||| put 128 32 hsId ||| put 128 16 (BitVec.ofNat 16 body.length) |||
    put 128 8 (BitVec.ofNat 8 msg) ||| put 128 0 1#8
  if d.maySend port then
    d.emit (.eth port mac 0x8100 (beBytes 2 (d.port port).vid.toNat ++ beBytes 2 0x88B6 ++ leBytes 16 h.toNat ++ body))
  else d

/-- RESULT. -/
def hsResult (port : Nat) (mac : BitVec 48) (hsId : Reg) (reason : Nat) (d : Dev) : Dev :=
  hsSend port mac hsId 5 [BitVec.ofNat 8 reason, 0, 0, 0] d

/-- A refusal: RESULT, the counts, 16#0F03, and 1 s of BUSY after BAD_SIG (R580, R581). DEDUCED: log entry 66. -/
def hsRefuse (port : Nat) (mac : BitVec 48) (hsId : Reg) (reason : Nat) (d : Dev) : Dev :=
  let d := (hsResult port mac hsId reason d).modSec (fun s => { s with
    failCnt := s.failCnt + 1, lastReason := BitVec.ofNat 8 reason, badSig := if reason = 3 then some (0, d.tb.sample) else s.badSig })
  report (ev 0x0F03 true 0 reason) d

/-- A refusal that ends the pending handshake: Z is cleared. DEDUCED: log entry 66. -/
def hsFail (port : Nat) (mac : BitVec 48) (hsId : Reg) (reason : Nat) (d : Dev) : Dev :=
  hsRefuse port mac hsId reason (d.modSec (fun s => { s with hs := none }))

/-! ### HOST_HELLO, HOST_FINISH (R580, R581) -/

/-- Is more than 1 s, 32,000 samples, over since sample `at0` of the frame whose successors number `age`. -/
def Dev.over1s (d : Dev) (age at0 : Nat) : Bool := decide (32000 + at0 < 32 * age + d.tb.sample)

/-- Does the second after a BAD_SIG still run. -/
def Dev.signing (d : Dev) : Bool := match d.sec.badSig with
  | some (age, at0) => !d.over1s age at0
  | none => false

/-- HOST_HELLO. -/
def hostHello (f : HsIn) (d : Dev) : Dev :=
  match hsParse 1 84 f d with
  | none => d
  | some (hsId, body) =>
    let refuse := fun (r : Nat) => hsRefuse f.port f.mac hsId r d
    let slot := (body.headD 0).toNat
    if d.sec.session || d.sec.hs.isSome || d.signing then refuse 1
    else if d.fuses.lifecycle = 0 ∨ 4 ≤ d.fuses.lifecycle then refuse 8
    else if d.helloKey slot = none then refuse 2
    else if d.sec.entropyFail then refuse 7
    else
      match p256Point (body.drop 20) with
      | none => refuse 5
      | some q =>
        let nm := freeBytes 16 d
        let e := freeBytes 32 nm.2
        let k := freeBytes 32 e.2
        let d := k.2
        let x := scalarOf (beNat e.1)
        let qm := p256Bytes (p256Mul x (some p256G))
        let z := (p256Bytes (p256Mul x (some q))).take 32
        let t := sha256 (body ++ d.serialBytes ++ nm.1 ++ qm)
        let sig := ecdsaSign d.deviceScalar (scalarOf (beNat k.1)) t
        let d := d.modSec (fun s => { s with hs := some ⟨hsId, slot, t, z, f.mac, f.port, 0, d.tb.sample⟩ })
        hsSend f.port f.mac hsId 2 (nm.1 ++ qm ++ sig ++ [BitVec.ofNat 8 d.fuses.lifecycle, 0, 0, 0]) d

/-- The port address of a HOST_FINISH in its registers; `none` where an IPv4 address is not padded with 0. -/
def portAddress (c : Channel) (a : List Byte) (d : Dev) : Option Dev :=
  if c.ipv6 then
    some (d.modPort c.portNo (fun x => { x with
      ip6 := [0, 1, 2, 3].foldl (fun t k => tset 0 t k (leBits 32 (slice a (4 * k) 4))) x.ip6 }))
  else if leNat (a.drop 4) = 0 then some (d.modPort c.portNo (fun x => { x with ip4 := leBits 32 (a.take 4) }))
  else none

/-- Establish the session: its key, the counts, channel 64 OPEN, MOD_FINISH, 16#0F01 (R173, R572, R580). DEDUCED: log entry 67. -/
def establish (f : HsIn) (h : Handshake) (t2 : List Byte) (d : Dev) : Dev :=
  let key := sessionKey h.z t2
  let slot : BitVec 4 := if h.slot < 4 then BitVec.ofNat 4 h.slot else 15
  let d := (List.range 64).foldl (fun d c => closeChannel c d) d
  let d := d.tr.chans.foldl (fun d c => d.modChan c.1 (fun c => { c with openGen := 0 })) d
  let d := d.modSec (fun s => { s with
    sessionCnt := s.sessionCnt + 1, hsId := h.hsId, sessionSlot := slot, keyKind := 4, key := key, session := true
    hs := none, idle := 0, ending := none })
  let d := openChannel 64 d
  let d := hsSend f.port f.mac h.hsId 4 (gmac key [0, 0, 0, 0, 0, 0, 0, 0, 64, 3, 0, 0] t2) d
  report (ev 0x0F01 false 0 (h.hsId.toNat + 2 ^ 32 * slot.toNat)) d

/-- HOST_FINISH. -/
def hostFinish (f : HsIn) (d : Dev) : Dev :=
  match hsParse 3 208 f d with
  | none => d
  | some (hsId, body) =>
    match d.sec.hs with
    | none => hsRefuse f.port f.mac hsId 5 d
    | some h =>
      let fail := fun (r : Nat) => hsFail f.port f.mac hsId r d
      if hsId ≠ h.hsId then fail 5
      else if d.over1s h.age h.sample then fail 4
      else
        let t2 := sha256 (h.t ++ body.take 144)
        if !ecdsaVerify ((d.helloKey h.slot).getD []) t2 (body.drop 144) then fail 3
        else
          let c := { d.chan 64 with cfg := leBits 1024 (body.take 128) &&& descMask, openGen := 0 }
          match portAddress c ((body.drop 128).take 16) d with
          | none => fail 6
          | some d1 => if openOk c d1 then establish f h t2 (d1.setChan 64 c) else fail 6

/-- HANDSHAKE_TIMEOUT: no HOST_FINISH within 1 s (R580). -/
def handshakeTimeout (d : Dev) : Dev :=
  match d.sec.hs with
  | some h => if d.over1s h.age h.sample then hsFail h.port h.mac h.hsId 4 d else d
  | none => d

/-! ### ENROLL (R577) -/

/-- Bytes that SIG_E signs. -/
def Dev.enrollBytes (d : Dev) (slot : Byte) (key : List Byte) : List Byte :=
  ascii "ENR1" ++ d.serialBytes ++ leBytes 4 d.flash.enrollCnt.toNat ++ [slot] ++ key

/-- ENROLL. -/
def enroll (f : HsIn) (d : Dev) : Dev :=
  match hsParse 7 132 f d with
  | none => d
  | some (hsId, body) =>
    let refuse := fun (r : Nat) => hsRefuse f.port f.mac hsId r d
    let slot := (body.headD 0).toNat
    let key := (body.drop 4).take 64
    let sig := body.drop 68
    let new := if leNat key = 0 then [] else key
    let l := d.fuses.lifecycle
    let first := l == 1 && d.enrolled == [] && slot == 0 && decide (leNat sig = 0)
    let digest := sha256 (d.enrollBytes (body.headD 0) key)
    if l = 0 ∨ 4 ≤ l then refuse 8
    else if l = 3 ∨ 3 < slot then refuse 2
    else if l = 2 ∧ new = [] ∧ d.enrolled = [slot] then refuse 8
    else if !first && !(d.enrolled.any (fun k => k != slot && ecdsaVerify (d.slotKey k) digest sig)) then refuse 3
    else
      let d := { d with flash := { d.flash with
        slots := tset [] d.flash.slots slot new, enrollCnt := d.flash.enrollCnt + 1 } }
      hsResult f.port f.mac hsId 0 (report (ev 0x0F04 false slot 0) d)

/-! ### The end of a session (R582) -/

/-- Decide the end of the session, with the reason of 16#0F02. -/
def endSession (reason : Nat) (d : Dev) : Dev :=
  if d.sec.session = true ∧ d.sec.ending = none then d.modSec (fun s => { s with ending := some ⟨reason, d.tb.ran⟩ }) else d

/-- END: valid under the session key and its HS_ID. -/
def sessionEnd (f : HsIn) (d : Dev) : Dev :=
  match hsParse 6 16 f d with
  | none => d
  | some (hsId, tag) =>
    let id := leBytes 4 d.sec.hsId.toNat
    if d.sec.session = true ∧ hsId = d.sec.hsId ∧ tag = gmac d.sec.key (id ++ [0, 0, 0, 0, 64, 4, 0, 0]) id then
      endSession 0 d
    else d

/-- SESSION_IDLE: 10,000 frames without a command that passes checks 2 and 3. -/
def sessionIdle (d : Dev) : Dev := if 10000 ≤ d.sec.idle then endSession 1 d else d

/-- DEBUG_ATTACHED: JTAG debug attaches in MANUFACTURE or RETURNED (R585). -/
def debugAttached (d : Dev) : Dev :=
  if (d.fuses.lifecycle = 1 ∨ d.fuses.lifecycle = 3) ∧ d.sec.debug = false then
    endSession 3 (report (ev 0x0F07 true 0 0) (d.modSec (fun s => { s with debug := true })))
  else d

/-- ENTROPY_FAULT (R580). -/
def entropyFault (d : Dev) : Dev := report (ev 0x0F08 true 0 0) (d.modSec (fun s => { s with entropyFail := true }))

/-- 16#0F02 goes into the recorder and the transmit queues of channels 0 and 64. -/
def sessionRecord (reason : Nat) (rings : Bool) (d : Dev) : Dev :=
  let e := { ev 0x0F02 false 0 reason with dests := [] }
  let d := report e d
  if rings then
    let r := attnNow d (recordType e.code) false (eventBody d e)
    [0, 64].foldl (fun d c => if (d.chan c).st = .opened then pushRecord c r d else d) d
  else d

/-- Is this the frame whose phase E is the last of the session. -/
def Dev.lastPhaseE (d : Dev) : Bool := match d.sec.ending with
  | some e => decide (e.ran < d.tb.ran)
  | none => false

/-- Phase E of the frame after the decision: 16#0F02 after every record already queued. -/
def sessionPhaseE (d : Dev) : Dev :=
  match d.sec.ending with
  | some e => if d.lastPhaseE then sessionRecord e.reason true d else d
  | none => d

/-- An update is abandoned at a session end (R591). DEDUCED: log entry 53. -/
def updateAbandon (d : Dev) : Dev := if d.upd.st = .idle then d else { d with upd := { d.upd with st := .idle } }

/-- Empty the register and close every channel. -/
def sessionClear (d : Dev) : Dev :=
  let d := (List.range 65).foldl (fun d c => closeChannel c d) d
  updateAbandon (d.modSec (fun s => { s with
    session := false, key := 0, keyKind := 0, hsId := 0, sessionSlot := 0, ending := none, idle := 0 }))

/-- SESSION_CLOSE: the end of that phase E. -/
def sessionClose (d : Dev) : Dev := if d.lastPhaseE && decide (28 ≤ d.tb.sample) then sessionClear d else d

/-- The security unit at a frame boundary; a limit or a session end that found no command of its own is taken
(DESIGN CHOICE: log entry 12). -/
def secFrame (d : Dev) : Dev :=
  let d := sessionIdle d
  let d := match d.sec.ending with
    | some e => if e.ran + 1 < d.tb.ran then sessionClear d else d
    | none => d
  handshakeTimeout (d.modSec (fun s => { s with
    idle := if s.session then s.idle + 1 else 0
    badSig := s.badSig.bind (fun b => if b.1 < 1000 then some (b.1 + 1, b.2) else none)
    hs := s.hs.map (fun h => { h with age := h.age + 1 }) }))

/-! ### LIFECYCLE_SET (R564 to R566) -/

/-- Is a transition in the table of R565. -/
def lifecycleStep (l t : Nat) : Bool :=
  (l == 1 && (t == 2 || t == 4)) || (l == 2 && (t == 3 || t == 4)) || (l == 3 && t == 4)

/-- The keys that may sign a transition. -/
def Dev.lifecycleKeys (d : Dev) (t : Nat) : List (List Byte) :=
  let owners := d.enrolled.map d.slotKey
  match d.fuses.lifecycle, t with
  | 1, 2 => owners
  | 1, 4 => owners ++ [Config.mfgAuth]
  | 2, 3 => [Config.retAuth]
  | 2, 4 => owners
  | 3, 4 => [Config.retAuth]
  | _, _ => []

/-- Status of a LIFECYCLE_SET that passed check 16 (R161, R565). DEDUCED: log entry 47. -/
def lifecycleStatus (t : Nat) (sig : List Byte) (d : Dev) : Nat :=
  let m := ascii "LCS1" ++ d.serialBytes ++ leBytes 8 d.fuses.nonce.toNat ++
    [BitVec.ofNat 8 d.fuses.lifecycle, BitVec.ofNat 8 t, 0, 0]
  if !lifecycleStep d.fuses.lifecycle t then stState
  else if (d.lifecycleKeys t).any (fun k => ecdsaVerify k (sha256 m) sig) then stOk else stDenied

/-- LC_NONCE advances at every LIFECYCLE_SET that passes check 16 (R566). -/
def lifecycleNonce (d : Dev) : Dev := { d with fuses := { d.fuses with nonce := d.fuses.nonce + 1 } }

end Sys2Proof.Machine
end

