-- ==== Sys2Proof/Machine/Boot.lean ====
section
/-!
DEFINITION. Firmware update, boot, recovery mode, resets, the supply-fail warning and the thermal trip (R474 to R478,
R560, R566, R567, R587 to R607, R620, R633, R638).
-/
namespace Sys2Proof.Machine

/-- Change the update unit, the flash, the supplies. -/
def Dev.modUpd (d : Dev) (f : Update → Update) : Dev := { d with upd := f d.upd }
def Dev.modFlash (d : Dev) (f : Flash → Flash) : Dev := { d with flash := f d.flash }
def Dev.modPwr (d : Dev) (f : Power → Power) : Dev := { d with pwr := f d.pwr }

/-! ### The Harmen container (R587 to R589) -/

/-- The header as one image: bit n is bit (n mod 8) of byte (n div 8) (R587). -/
def contHead (c : List Byte) : BitVec 2048 := leBits 2048 (slice c 0 256)

/-- Check 1: format. -/
def contFormat (h : BitVec 2048) : Bool :=
  fld h 0 32 == 0x4E4D5248#32 && fld h 32 8 == 1#8 && fld h 40 8 == 1#8 && fld h 832 704 == 0 && fld h 336 16 == 0

/-- Check 2: part, variant, revision B0, ROM version. -/
def contHardware (h : BitVec 2048) (d : Dev) : Bool :=
  let major := (fld h 92 4).toNat
  let minor := (fld h 88 4).toNat
  fld h 64 16 == 0xFC64#16 && bit (fld h 80 8) d.fuses.variant.toNat &&
    (decide (major < 0xB) || (decide (major = 0xB) && decide (minor = 0))) &&
    decide ((fld h 96 32).toNat ≤ Config.romVersion.toNat)

/-- Check 3: binding. -/
def contBinding (h : BitVec 2048) (d : Dev) : Bool :=
  (fld h 48 8 == 0#8 && fld h 128 64 == 0#64) || (fld h 48 8 == 1#8 && fld h 128 64 == d.fuses.serial)

/-- Check 5: security version. -/
def contFloor (h : BitVec 2048) (d : Dev) : Bool :=
  decide ((fld h 224 32).toNat ≤ 64 ∧ d.fuses.secFloor ≤ (fld h 224 32).toNat)

/-- Check 6: length. -/
def contLength (c : List Byte) (h : BitVec 2048) : Bool :=
  decide ((fld h 256 32).toNat ≤ 3145728 ∧ (fld h 256 32).toNat + 256 = c.length)

/-- The image key (R569, R588). -/
def imageKey (root : Nat) (h : BitVec 2048) (d : Dev) : BitVec 256 :=
  kdf (keyBytes (Config.root root)) (ascii "FC64-IMAGE")
    (leBytes 2 0xFC64 ++ (if fld h 48 8 = 1#8 then d.serialBytes else List.replicate 8 0#8))

/-- Check 9: the tag of the body (R588). -/
def contTag (c : List Byte) (root : Nat) (h : BitVec 2048) (d : Dev) : Bool :=
  gcmVerify (imageKey root h d) (slice c 44 12) (c.take 44) (c.drop 256) (slice c 56 16)

/-- The rejection reason of a container: 0 where checks 1 to 8, and 9 where asked, pass (R589). -/
def containerCheck (c : List Byte) (withTag : Bool) (d : Dev) : Nat :=
  let h := contHead c
  let root := (fld h 56 8).toNat
  if !contFormat h then 1
  else if !contHardware h d then 2
  else if !contBinding h d then 3
  else if d.rootNo ≠ some root then 4
  else if !contFloor h d then 5
  else if !contLength c h then 6
  else if sha256 (c.drop 256) ≠ slice c 72 32 then 7
  else if !ecdsaVerify (Config.imageKey root) (sha256 (c.take 192)) (slice c 192 64) then 8
  else if withTag && !contTag c root h d then 9
  else 0

/-- The checks of the active slot; the factory image is bound to the manufacture root (DESIGN CHOICE: log entry 7). -/
def imageCheck (i : Image) (d : Dev) : Nat :=
  match i with
  | .factory => if d.rootNo = some 1 then 0 else 4
  | .bytes c => containerCheck c true d

/-- SEC_VER of an image. -/
def Image.secVer (i : Image) : Nat := match i with
  | .factory => 0
  | .bytes c => (fld (contHead c) 224 32).toNat

/-! ### The staging slot (R159, R160, R591, R600) -/

/-- Insert a piece by its offset. -/
def stageInsert (off : Nat) (bs : List Byte) : List (Nat × List Byte) → List (Nat × List Byte)
  | [] => [(off, bs)]
  | (o, b) :: t => if off ≤ o then (off, bs) :: (o, b) :: t else (o, b) :: stageInsert off bs t

/-- The bytes written from 0 without a gap. -/
def stageBytes (t : List (Nat × List Byte)) : List Byte :=
  t.foldl (fun acc x => if x.1 ≤ acc.length then acc ++ x.2.drop (acc.length - x.1) else acc) []

/-- The byte written at an offset. -/
def stageAt (t : List (Nat × List Byte)) (i : Nat) : Option Byte :=
  (t.find? (fun x => decide (x.1 ≤ i ∧ i < x.1 + x.2.length))).map (fun x => x.2.getD (i - x.1) 0)

/-- The staged container. DEDUCED: log entry 53. -/
def Flash.staged (f : Flash) : List Byte := stageBytes f.staging

/-- Every byte up to IMAGE_LEN has been written. -/
def Flash.stagingFull (f : Flash) : Bool := decide (f.staged.length = f.stagingLen)

/-- Erase the staging slot for a container of a length: the copy marker goes (R591, R600). -/
def eraseStaging (len : Nat) (d : Dev) : Dev :=
  (d.modFlash (fun f => { f with staging := [], stagingLen := len, marker := false })).modUpd
    (fun u => { u with stagedVersion := 0, written := 0 })

/-- UPDATE_BEGIN (R159, R591). -/
def updateBegin (len : Nat) (d : Dev) : Dev :=
  (eraseStaging len d).modUpd (fun u => { u with st := .erasing })

/-- STATE of UPDATE_DATA (R160). -/
def updateDataOk (off len : Nat) (d : Dev) : Bool :=
  d.upd.st == .opened && decide (off + len ≤ d.flash.stagingLen) &&
    !d.flash.staging.any (fun x => decide (x.1 < off + len ∧ off < x.1 + x.2.length))

/-- UPDATE_DATA. -/
def updateData (off : Nat) (bs : List Byte) (d : Dev) : Dev :=
  (d.modFlash (fun f => { f with staging := stageInsert off bs f.staging })).modUpd
    (fun u => { u with written := u.written + BitVec.ofNat 32 bs.length })

/-- STATE of UPDATE_END (R160). -/
def updateEndOk (d : Dev) : Bool := d.upd.st == .opened && d.flash.stagingFull

/-- UPDATE_END. -/
def updateEnd (d : Dev) : Dev := d.modUpd (fun u => { u with st := .verifying })

/-- REJECTED with a reason (R591). -/
def updateReject (reason : Nat) (d : Dev) : Dev :=
  report (ev 0x0F12 true 0 reason) (d.modUpd (fun u => { u with st := .rejected, reason := BitVec.ofNat 8 reason }))

/-- UPDATE_ERASED: the erase is done, or met a flash error (R591). -/
def updateErased (ok : Bool) (d : Dev) : Dev :=
  if d.upd.st ≠ .erasing then d
  else if ok then report (ev 0x0F10 false 0 0) (d.modUpd (fun u => { u with st := .opened }))
  else updateReject 10 d

/-- UPDATE_VERIFIED: checks 1 to 8 end, or meet a flash error (R589, R591). -/
def updateVerified (flashErr : Bool) (d : Dev) : Dev :=
  if d.upd.st ≠ .verifying then d
  else
    let c := d.flash.staged
    let r := if flashErr then 10 else containerCheck c false d
    if r ≠ 0 then updateReject r d
    else
      let v := (Image.bytes c).version
      let d := (d.modFlash (fun f => { f with marker := true })).modUpd (fun u => { u with st := .staged, stagedVersion := v })
      report (ev 0x0F11 false 0 v.toNat) d

/-- USTATE. -/
def UpdSt.code : UpdSt → Nat
  | .idle => 0
  | .erasing => 1
  | .opened => 2
  | .verifying => 3
  | .staged => 4
  | .rejected => 5

/-! ### The supply-fail warning (R474, R476, R526, R560, R620) -/

/-- The warning takes effect: captures, the record 16#0C02, NOTICE SUPPLY_WARN. -/
def supplyWarn (d : Dev) : Dev :=
  if d.pwr.warn then d
  else plyNotice 1 0 (tailWarning (snapshotCapture (d.modPwr (fun p => { p with warn := true }))))

/-- SUPPLY_FAIL_WARNING: without effect while the main domain is in reset (R620). -/
def supplyFail (d : Dev) : Dev :=
  let d := d.modPwr (fun p => { p with sense := true })
  if d.isMain then supplyWarn d else d

/-- SUPPLY_CLEARED. -/
def supplyClear (d : Dev) : Dev :=
  let d := d.modPwr (fun p => { p with sense := false })
  if d.isMain && d.pwr.warn then plyNotice 2 0 (tailCleared (d.modPwr (fun p => { p with warn := false }))) else d

/-! ### Boot (R487, R504, R507, R566, R567, R590, R593 to R596) -/

/-- Stay in the recovery mode of the boot ROM (R593, R600). DEDUCED: log entry 51. -/
def enterRecovery (cause : Nat) (d : Dev) : Dev :=
  { d.modPwr (fun p => { p with main := .recovery }) with rcv := some (Recovery.start cause), rcvPast := some cause }

/-- An event of a boot step, which the next frame 0 reports (R602). DEDUCED: log entry 51. -/
def bootNote (code data : Nat) (d : Dev) : Dev := d.modFlash (fun f => { f with noted := f.noted ++ [(code, data)] })

/-- Step 1: complete a partly blown lifecycle fuse word (R566). -/
def bootFuses (d : Dev) : Dev :=
  match d.fuses.partly with
  | none => d
  | some t => bootNote 0x0F05 (t + 16 * d.fuses.lifecycle) { d with fuses := { d.fuses with lifecycle := t, partly := none } }

/-- Steps 2 and 3, and a flash error of step 4: the entry cause of recovery mode (R593, R600). DEDUCED: log entry 51. -/
def bootRecovery (x : BootIn) (d : Dev) : Option Nat :=
  if d.fuses.lifecycle = 4 then some 4
  else if d.pwr.marker then some 0
  else if x.wakeLow then some 1
  else if d.flash.marker && x.flashErr == some 4 then some 3
  else none

/-- Step 4: install the staged container once checks 1 to 9 pass (R589, R593). DEDUCED: log entry 51. -/
def bootInstall (d : Dev) : Dev :=
  if !d.flash.marker then d
  else
    let c := d.flash.staged
    let r := containerCheck c true d
    let d' := d.modFlash (fun f => { f with marker := false })
    if r ≠ 0 then bootNote 0x0F14 r (d'.modUpd (fun u => { u with discarded := true }))
    else bootNote 0x0F13 ((Image.bytes c).version.toNat + 2 ^ 32 * d.fwVersion.toNat)
      ((d'.modFlash (fun f => { f with active := .bytes c })).modUpd (fun u => { u with installed := true }))

/-- Step 5: a flash error, or a check that the active container fails: the entry cause of recovery mode (R593, R600). -/
def bootActive (x : BootIn) (d : Dev) : Option Nat :=
  if x.flashErr = some 5 then some 3 else if imageCheck d.flash.active d ≠ 0 then some 2 else none

/-- Step 6: the retention loss of the first start in RETURNED (R567). -/
def bootReturned (d : Dev) : Dev :=
  if d.fuses.lifecycle = 3 ∧ d.flash.returned = false then
    (d.modFlash (fun f => { f with returned := true })).modBk (fun b => { b with valid := false, newLoss := true })
  else d

/-- Does the directory name a LAYOUT that this firmware does not know (R596). -/
def foreignLayout (own : BitVec 16) (ram : Nat → Byte) : Bool := match readDir ram with
  | some x => !formatKnown 0 own x.1
  | none => false

/-- Step 8, the backup domain: a new loss clears it, a valid one counts the boot; the retained bytes as they then stand,
and the events (R487, R504, R596). -/
def bootBackup (ram : Nat → Byte) (d : Dev) : Dev × Bool :=
  let d := if d.bk.valid && foreignLayout (d.format 0) ram then d.modBk (fun b => { b with valid := false, newLoss := true }) else d
  if d.bk.newLoss then (lossBoot d.fwVersion d, true) else (d, false)

/-- The reports of the backup domain at a start-up (R487, R491, R500, R507). -/
def bootReports (cleared : Bool) (ram : Nat → Byte) (d : Dev) : Dev :=
  let d := if d.bk.valid then dirBoot ram d.fwVersion d else report (ev 0x0D05 true 0 (if cleared then 1 else 0)) d
  let cause := d.bk.nextCause.getD 4
  let d := d.modBk (fun b => { b with wakeCause := cause, nextCause := none })
  let d := report (ev 0x0D09 false 0 (cause.toNat + 256 * d.bk.wakeAlarm.toNat)) d
  let d := if cause = 3 then report (ev 0x0D0A true 0 0) d else d
  let d := if d.bk.oscReport then report (ev 0x0D04 true 0 0) (d.modBk (fun b => { b with oscReport := false })) else d
  d.bk.fired.foldl (fun d r => report (alarmEvent r true) d) (d.modBk (fun b => { b with fired := [] }))

/-- The floor rises to SEC_VER of an image that has passed its first-start checks (R590). -/
def bootFloor (failed : Bool) (d : Dev) : Dev :=
  let v := d.flash.active.secVer
  if failed ∨ v ≤ d.fuses.secFloor then d
  else report (ev 0x0F18 false 0 v) { d with fuses := { d.fuses with secFloor := v } }

/-- The retained bytes as a start-up reads them: a new retention loss has cleared all but the registers (R487). -/
def bootBytes (cleared : Bool) (ram : Nat → Byte) : Nat → Byte :=
  fun a => if cleared && decide (a < dirBase) then 0 else ram a

/-- Frame 0 begins, with all that the boot steps report (R595, R602, R606). DEDUCED: log entry 22. -/
def bootFrame (x : BootIn) (snap : Option (List (BitVec 512))) (ram : Nat → Byte) (cleared : Bool) (d : Dev) : Dev :=
  let d := { d with tb := { d.tb with cal0 := d.cal }, lg := { d.lg with tick := d.lg.tick + 1 } }
  let d := recorderBoot ram d.bk.valid d
  let d := reportAll (d.flash.noted.map (fun n => ev n.1 (n.1 == 0x0F14) 0 n.2)) (d.modFlash (fun f => { f with noted := [] }))
  let d := match x.startFail with
    | some n => report (ev 0x0F15 true 0 (n % 256)) (d.modPly (fun p => { p with role := .dead }))
    | none => d
  let m := if d.bk.valid then migrateSaves ram (bootReports cleared ram d) else (bootReports cleared ram d, ram)
  let d := meterRestore m.2 m.1
  let d := bootFloor x.startFail.isSome d
  let d := match d.rcvPast with
    | some c => report (ev 0x0F17 false 0 c) ({ d with rcvPast := none }.modUpd (fun u => { u with recovered := true }))
    | none => d
  let d := [0, 1].foldl (fun d p => d.modPort p (fun q => { q with search := some (0, 0) })) d
  let d := digestMark [0, 1, 2, 3, 4, 5] (d.modPly (fun p => { p with sinceStroke := 1 }))
  let d := if d.flash.marker then d.modUpd (fun u => { u with st := .staged }) else d
  safetySnapshot snap (plyFrameStart d)

/-- The firmware runs: first-start checks, step 8, frame 0 with the island's snapshot of its phase A
(R435, R593, R595, R606, R620). DEDUCED: log entry 22. -/
def bootStart (x : BootIn) (snap : Option (List (BitVec 512))) (ram : Nat → Byte) (d : Dev) : Dev :=
  let r := bootBackup ram (bootReturned d)
  let d := r.1.modPwr (fun p => { p with main := .running })
  let d := oneCycle (bootFrame x snap (bootBytes r.2 ram) r.2) d
  if d.pwr.sense then supplyWarn d else d

/-- The boot sequence (R593). DEDUCED: log entry 52. -/
def bootRun (x : BootIn) (snap : Option (List (BitVec 512))) (ram : Nat → Byte) (d : Dev) : Dev :=
  let d := bootFuses d
  match bootRecovery x d with
  | some c => enterRecovery c (d.modPwr (fun p => { p with marker := if c = 0 then false else p.marker }))
  | none =>
    let d := bootInstall d
    match bootActive x d with
    | some c => enterRecovery c d
    | none => bootStart x snap ram d

/-- MAIN_RESET_RELEASE: PORST_N is high; the main domain leaves reset where VMAIN is switched and the junction has cooled
(R604, R633). DEDUCED: log entry 22. -/
def mainRelease (x : BootIn) (snap : Option (List (BitVec 512))) (ram : Nat → Byte) (d : Dev) : Dev :=
  if d.pwr.main = .reset ∧ d.bk.onVmain = true ∧ d.pwr.hot = false then
    bootRun x snap ram ((d.modPwr (fun p => { p with porst := false })).modBk (fun b => { b with lockout := false }))
  else if d.pwr.main = .reset then d.modPwr (fun p => { p with porst := false })
  else d

/-- THERMAL_RECOVER: the junction falls below 135 °C, and the module boots normally (R633). -/
def thermalRecover (x : BootIn) (snap : Option (List (BitVec 512))) (ram : Nat → Byte) (d : Dev) : Dev :=
  if !d.pwr.hot then d
  else
    let d := d.modPwr (fun p => { p with hot := false })
    if d.pwr.porst then d else mainRelease x snap ram d

/-! ### Resets (R162, R566, R603, R605, R633) -/

/-- PORST_N low for 1 µs or longer (R603). DESIGN CHOICE: log entry 54. -/
def porstAssert (d : Dev) : Dev := d.inReset.modPwr (fun p => { p with porst := true })

/-- RESET_OUT_RELEASE: 10 ms after leaving reset; an MDIO frame that waited is driven (R229, R605). -/
def resetOutRelease (d : Dev) : Dev :=
  if d.pwr.main = .reset ∨ d.pwr.rstOut = false then d else mdioDrive (d.modPwr (fun p => { p with rstOut := false }))

/-- Does the COMPLETION record of the restart still wait (R162). DEDUCED: log entry 42. -/
def Dev.restartWaits (d : Dev) : Bool := (d.chan 64).txq.any (fun e => match e with
  | .completion c => c.status == 0 && (c.opcode == 0x3F || c.opcode == 0x38)
  | _ => false)

/-- RESTART_RESET: the session's end, the saves, the reset (R162, R396, R474, R566, R582). DEDUCED: log entry 52. -/
def restartReset (d : Dev) : Dev :=
  match d.pwr.restart with
  | none => d
  | some k =>
    if d.restartWaits then d
    else
      let d := if d.sec.session then sessionRecord 2 false d else d
      (tailRestart (restartSave d)).inReset.modPwr (fun p => { p with marker := k == RestartKind.device 1 })

/-- A reset in the course of a command: the frames that had started stand on the wire, what was queued is lost (R607). -/
def Dev.cutOff (d : Dev) : Dev :=
  let e := depart d
  { e.inReset with out := e.out.filter (fun m => (e.framesOf m).isEmpty && (e.directFrames m).isEmpty) }

/-- DIE_TEMP and the thermal trip; within its tolerance of 5 °C the trip is open (R633; DESIGN CHOICE: log entry 8). -/
def thermal (t : Int) (d : Dev) : Dev :=
  let v : BitVec 10 := satInt 10 t
  let d := { d with th := ⟨decide (125 ≤ t), if d.th.peak.toInt < v.toInt then v else d.th.peak, v⟩ }
  let r := if 145 ≤ t ∧ t < 155 then freeBit d else (decide (155 ≤ t), d)
  if r.1 then (r.2.cutOff.modPwr (fun p => { p with hot := true })).modBk
    (fun b => { b with thermTrip := true })
  else r.2

/-! ### Recovery mode (R598 to R600) -/

/-- Status codes of recovery replies (R600). -/
def rvOk : Nat := 0
def rvBusy : Nat := 1
def rvOrder : Nat := 2
def rvRange : Nat := 3
def rvOverlap : Nat := 4
def rvRejected : Nat := 5
def rvFlash : Nat := 6
def rvState : Nat := 7

/-- The link of riser port A in recovery mode. -/
def recoveryLink (up : Bool) (d : Dev) : Dev := { d with rcv := d.rcv.map (fun r => { r with linkUp := up }) }

/-- RECOVERY_LINK_SEARCH: the other SerDes mode is tried (R598). -/
def recoverySearch (d : Dev) : Dev :=
  { d with rcv := d.rcv.map (fun r => if r.linkUp then r else { r with sgmii := !r.sgmii }) }

/-- RECOVERY_ERASE_DONE (R600). -/
def recoveryErased (d : Dev) : Dev := { d with rcv := d.rcv.map (fun r => { r with erasing := false }) }

/-- The header of a recovery message. DEDUCED: log entry 31. -/
def recHead (m : RecoveryIn) : BitVec 128 := leBits 128 (slice m.body 0 16)

/-- Is a datagram a request to this module with an operation (R598, R599). DEDUCED: log entry 31. -/
def recAccepts (op : Nat) (m : RecoveryIn) (r : Recovery) (d : Dev) : Bool :=
  let h := recHead m
  r.linkUp && !d.pwr.rstOut && m.dstPort == 50064 && (m.dstMac == d.portMac 0 || m.dstMac == BitVec.allOnes 48) &&
    decide (16 ≤ m.body.length ∧ m.body.length ≤ 1040) && (fld h 0 8).toNat == op &&
    (fld h 64 64 == d.fuses.serial || (op == 1 && fld h 64 64 == 0#64))

/-- The body of a reply: the request's header with this module's serial and a status, and data. DEDUCED: log entry 31. -/
def recReply (m : RecoveryIn) (status : Nat) (bs : List Byte) (d : Dev) : List Byte :=
  let h := recHead m
  leBytes 16 (put 128 64 d.fuses.serial ||| put 128 32 (fld h 32 32) ||| put 128 16 (fld h 16 16) |||
    put 128 8 (BitVec.ofNat 8 status) ||| put 128 0 (fld h 0 8)).toNat ++ bs

/-- Send a reply (R598). -/
def recSend (m : RecoveryIn) (body : List Byte) (d : Dev) : Dev :=
  let src := if m.dstMac = BitVec.allOnes 48 ∨ m.dstIp = BitVec.allOnes 32 then 0 else m.dstIp
  d.emit (.udp m.mac m.ip m.port src body)

/-- Serve a request: a repeated SEQ is answered again, SCRAPPED answers IDENT only (R599, R600). -/
def recServe (op : Nat) (m : RecoveryIn) (act : Recovery → List Byte → Dev → Nat × List Byte × Dev) (d : Dev) : Dev :=
  match d.rcv with
  | none => d
  | some r =>
    if !recAccepts op m r d then d
    else
      let seq := fld (recHead m) 16 16
      match r.last with
      | some (s, body) => if s = seq then recSend m body d else run r seq
      | none => run r seq
where
  /-- Execute the request and keep its reply. -/
  run (r : Recovery) (seq : BitVec 16) : Dev :=
    let a := if d.fuses.lifecycle = 4 ∧ op ≠ 1 then (rvState, [], d) else act r (m.body.drop 16) d
    let body := recReply m a.1 a.2.1 d
    recSend m body { a.2.2 with rcv := a.2.2.rcv.map (fun r => { r with last := some (seq, body) }) }

/-- IDENT (R600). -/
def recIdent (m : RecoveryIn) (d : Dev) : Dev :=
  recServe 1 m (fun r _ d => (rvOk,
    leBytes 4 0x0E1AFC64 ++ leBytes 4 (256 * d.fuses.variant.toNat + 0xB0) ++ d.serialBytes ++
      leBytes 4 Config.romVersion.toNat ++ leBytes 4 d.fwVersion.toNat ++
      [BitVec.ofNat 8 d.fuses.lifecycle, BitVec.ofNat 8 d.fuses.secFloor, BitVec.ofNat 8 r.cause], d)) d

/-- BEGIN (R600). -/
def recBegin (m : RecoveryIn) (d : Dev) : Dev :=
  recServe 2 m (fun r bs d =>
    let len := leNat (bs.take 4)
    if bs.length ≠ 4 ∨ len < 260 ∨ 25165824 < len ∨ len % 4 ≠ 0 then (rvRange, [], d)
    else if m.flashErr then (rvFlash, [], d)
    else (rvOk, [], { eraseStaging len d with rcv := some { r with len := some len, erasing := true } })) d

/-- DATA (R600). -/
def recData (m : RecoveryIn) (d : Dev) : Dev :=
  recServe 3 m (fun r bs d =>
    let off := (fld (recHead m) 32 32).toNat
    match r.len with
    | none => (rvOrder, [], d)
    | some len =>
      if r.erasing then (rvBusy, [], d)
      else if bs.length < 4 ∨ bs.length % 4 ≠ 0 ∨ len < off + bs.length then (rvRange, [], d)
      else
        let old := (List.range bs.length).map (fun i => stageAt d.flash.staging (off + i))
        if (old.zip bs).any (fun x => x.1.isSome && x.1 != some x.2) then (rvOverlap, [], d)
        else if old.all (·.isSome) then (rvOk, [], d)
        else if m.flashErr then (rvFlash, [], d)
        else (rvOk, [], updateData off bs d)) d

/-- END: checks 1 to 9 and the copy to the active slot; a flash error is reason 10 (R589, R600). -/
def recEnd (m : RecoveryIn) (d : Dev) : Dev :=
  recServe 4 m (fun r _ d =>
    if r.len = none ∨ d.flash.stagingFull = false then (rvOrder, [], d)
    else
      let c := d.flash.staged
      let k := if m.flashErr then 10 else containerCheck c true d
      if k ≠ 0 then (rvRejected, [BitVec.ofNat 8 k], d)
      else (rvOk, [], d.modFlash (fun f => { f with active := .bytes c }))) d

/-- BOOT: the reply, then a restart through the normal boot; a repeated SEQ is answered again only (R599, R600). -/
def recBoot (m : RecoveryIn) (d : Dev) : Dev :=
  let served := (d.rcv.any (fun r => recAccepts 5 m r d && !(r.last.any (fun l => l.1 == fld (recHead m) 16 16)))) &&
    decide (d.fuses.lifecycle ≠ 4)
  let e := depart (recServe 5 m (fun _ _ d => (rvOk, [], d)) d)
  if served then { e.inReset with out := e.out } else recServe 5 m (fun _ _ d => (rvOk, [], d)) d

end Sys2Proof.Machine
end

