-- ==== Sys2Proof/Machine/Flags.lean ====
section
/-!
DEFINITION. The status words of the module: DEV_STATUS (R163) and the fault conditions of FAULT_ACTIVE (R164, R643 and
the chapters of subsystems 6 to 15).
-/
namespace Sys2Proof.Machine

/-- Subsystem 1: a hold-off, or a riser port without link on which a channel is OPEN (R643). -/
def Dev.portFault (d : Dev) : Bool :=
  [0, 1, 2].any (fun p => (d.port p).holdoff) ||
    d.tr.chans.any (fun c => c.2.st == .opened && !(d.port c.2.portNo).link)

/-- Subsystem 2: a channel in ERROR (R643). -/
def Dev.chanFault (d : Dev) : Bool := d.tr.chans.any (fun c => c.2.st == .error)

/-- Subsystem 4: network time lost (R643). -/
def Dev.timeFault (d : Dev) : Bool :=
  d.tb.alignEn && (d.tb.tb == .holdover || (d.tb.tb == .acquiring && d.tb.acqAfterLoss))

/-- Subsystem 5: a quarantined point (R643). -/
def Dev.pointFault (d : Dev) : Bool := d.ps.points.any (fun p => p.2.quarantined)

/-- Subsystem 6: the lines (R254) and the nodes (R290). -/
def Dev.strandFault (d : Dev) : Bool :=
  d.lines.any (fun l => l.2.st == .latched || fld l.2.status 12 4 != 0) ||
    d.nodes.any (fun n => n.2.st == .mismatch || decide (lostMiss (d.strand (n.1 / 256)).cfg ≤ n.2.miss.toNat))

/-- Subsystem 7: a FAULTED task or a marked bank entry (R331). -/
def Dev.taskFaults (d : Dev) : Bool := d.lg.tasks.any (fun t => t.2.st == .faulted) || !d.lg.marked.isEmpty

/-- Subsystem 8: a loop FAULTED, in HOLD, or with FE_ACTIVE (R360). -/
def Dev.loopFault (d : Dev) : Bool :=
  d.lp.loops.any (fun l => l.2.st == .faulted || l.2.st == .hold || l.2.feActive)

/-- Subsystem 9: a sensor, a set without synchronisation, a lost neutral (R408). -/
def Dev.meterFault (d : Dev) : Bool :=
  d.mt.chans.any (fun c => c.2.cond != .ok) ||
    [0, 1].any (fun x => (!(d.vset x).sync && !(d.setChans x).isEmpty) || (d.vset x).neutralLost)

/-- Subsystem 10: a channel condition, or a HART point that lost its source (R430). -/
def Dev.clFault (d : Dev) : Bool :=
  d.cl.any (fun c => c.2.en && (c.2.cond != .ok ||
    (c.2.inHart && c.2.hartPoints.any (fun h => (d.point h.2).quality == 2#2 && (d.point h.2).detail == 0x08#8))))

/-- FAULT_ACTIVE (R164). -/
def Dev.faultActive (d : Dev) : Reg :=
  putB 32 1 d.portFault ||| putB 32 2 d.chanFault ||| putB 32 4 d.timeFault ||| putB 32 5 d.pointFault |||
    putB 32 6 d.strandFault ||| putB 32 7 d.taskFaults ||| putB 32 8 d.loopFault ||| putB 32 9 d.meterFault |||
    putB 32 10 d.clFault ||| putB 32 11 d.safeFault ||| putB 32 12 d.recFault ||| putB 32 13 d.backupFault |||
    putB 32 14 d.secFault ||| putB 32 15 d.plyFault

/-- DEV_STATUS (R163). -/
def Dev.devStatus (d : Dev) : Reg :=
  put 32 21 (BitVec.ofNat 3 d.fuses.lifecycle) ||| putB 32 20 d.bk.valid ||| putB 32 19 d.bk.oscStopped |||
    putB 32 18 d.pwr.warn ||| putB 32 17 (bit (d.safeEntry 0) 15) ||| putB 32 16 d.flash.marker |||
    put 32 0 (BitVec.ofNat 3 d.ply.role.code)

/-- UPDATE_STATUS (R601). DEDUCED: log entry 53. -/
def Update.status (u : Update) : Reg := put 32 24 u.reason ||| put 32 16 (BitVec.ofNat 3 u.st.code)

/-- BOOT_INFO (R601). -/
def Dev.bootInfo (d : Dev) : Reg :=
  put 32 16 (BitVec.ofNat 8 d.fuses.secFloor) ||| put 32 8 d.upd.migrated ||| putB 32 2 d.upd.recovered |||
    putB 32 1 d.upd.discarded ||| putB 32 0 d.upd.installed

/-- PORT_STATUS (R226). -/
def Port.status (p : Port) : Reg :=
  putB 32 12 p.holdoff ||| putB 32 11 p.link ||| putB 32 10 p.sync ||| put 32 8 p.speed |||
    (List.range 8).foldl (fun r c => r ||| putB 32 c (p.paused.any (fun x => x.1 == c))) 0

/-- PTP_STATUS (R226). -/
def NetTime.status (n : NetTime) : Reg :=
  put 32 16 n.utcOffset ||| putB 32 15 n.utcValid ||| put 32 2 n.slavePort ||| putB 32 1 n.gmPresent |||
    putB 32 0 n.ppsInOk

end Sys2Proof.Machine
end

