-- ==== Sys2Proof/Machine/Admission.lean ====
section
/-!
DEFINITION. Admission (R22, R144, R547 to R554): the standing cost of each phase by subsystem, the ceilings, and the
refusal of a command at check 17.
-/
namespace Sys2Proof.Machine

/-- Cycles by the subsystem whose term they are; 0: the fixed overhead (R547). -/
abbrev Terms := List (Nat × Nat)

/-- The sum of the terms. -/
def termSum (t : Terms) : Nat := (t.map (·.2)).sum

/-- Phase A (R547). -/
def Dev.termsA (d : Dev) : Terms :=
  let f := d.frLoops
  [(0, 256), (6, ((List.range 16).map d.strandCostA).sum), (8, 3 * f),
    (9, if d.mt.chans.any (fun c => c.2.en) then 64 + 3 * d.meterMapped else 0),
    (10, if d.cl.any (fun c => c.2.en) then d.clCostA else 0), (11, d.safeCostA)]

/-- Phase C (R547). -/
def Dev.termsC (d : Dev) : Terms := [(8, 40 * d.frLoops)]

/-- Phase D (R547). -/
def Dev.termsD (d : Dev) : Terms :=
  let f := d.frLoops
  [(0, 128), (6, ((List.range 16).map d.strandCostD).sum), (7, d.taskCostD), (8, if f = 0 then 0 else 24 + 2 * f),
    (10, if d.cl.any (fun c => c.2.en) then d.clCostD else 0)]

/-- Alarm-limit entries whose delay is swept (R85). -/
def Dev.delayedAlarms (d : Dev) : Nat := (d.ps.alarms.filter (fun a => a.2.delayFr != 0)).length

/-- Phase E (R547). -/
def Dev.termsE (d : Dev) : Terms :=
  [(0, 25872), (5, 512 + 8 * d.ps.notifyMax.toNat + 2 * d.delayedAlarms), (12, d.recCost), (15, d.plyCost)]

/-- Admitted commands not yet applied, in the order in which they passed check 17 (R144). -/
def Dev.admitted (d : Dev) : List Cmd := (d.cp.phaseF ++ d.cp.late).filterMap (fun x => d.slot x.1 x.2)

/-- Phase F cost of the admitted commands not yet applied (R554). -/
def Dev.backlog (d : Dev) : Nat := (d.admitted.map Cmd.phaseFCost).sum

/-- The admission ceilings (R22). -/
def ceilA : Nat := 28125
def ceilLane : Nat := 168750
def ceilC : Nat := 84375
def ceilD : Nat := 14062
def ceilE : Nat := 98437
def ceilF : Nat := 56250

/-! ### Refusals (R553) -/

/-- A refusal: the word of ADMIT_REFUSE, and what 16#0706 says where a program is refused (R323). -/
structure Refused where
  word : Reg
  prog : Option (Nat × Nat)
  deriving DecidableEq, Repr

/-- ADMIT_REFUSE (R554). -/
def refuseWord (sub phase lane excess : Nat) : Reg :=
  putB 32 31 true ||| put 32 27 (BitVec.ofNat 4 sub) ||| put 32 24 (BitVec.ofNat 3 phase) |||
    put 32 22 (BitVec.ofNat 2 lane) ||| put 32 0 (satNat 22 excess)

/-- The subsystem whose term a command raised most, else the owner (R553). -/
def raisedMost (old new : Terms) (owner : Nat) : Nat :=
  let ups := (new.zip old).filterMap (fun x => if x.2.2 < x.1.2 ∧ x.1.1 ≠ 0 then some (x.1.1, x.1.2 - x.2.2) else none)
  (ups.foldl (fun b u => if b.2 < u.2 then u else b) (owner, 0)).1

/-- The test of one phase window. -/
def phaseTest (phase ceil : Nat) (old new : Terms) (owner : Nat) : Option (Nat × Reg) :=
  let n := termSum new
  if n ≤ ceil then none
  else
    let sub := raisedMost old new owner
    some (sub, refuseWord sub phase 0 (n - ceil))

/-- The subsystem that owns a register (R553). -/
def regOwner (off : Nat) : Nat :=
  let c := off / 256
  if c = 0 then 3
  else if c = 1 then 4
  else if c < 4 then 5
  else if c < 6 then 3
  else if c < 7 then 2
  else if c < 12 then 1
  else if c < 14 then 6
  else if c = 14 then 7
  else if c = 15 then 8
  else if c < 0x31 then 2
  else if c = 0x31 then 9
  else if c = 0x32 then 11
  else if c = 0x33 then 12
  else if c = 0x34 then 3
  else 14

/-- The subsystem that owns what a command addresses (R553). -/
def Cmd.owner (c : Cmd) : Nat :=
  match c.space with
  | 0x10 => 6
  | 0x11 => 6
  | 0x20 => 7
  | 0x21 => 7
  | 0x30 => 8
  | 0x40 => 9
  | 0x41 => 9
  | 0x50 => 10
  | 0x70 => 12
  | 0x80 => 13
  | 0x90 => 15
  | 0xF0 => regOwner c.index
  | _ => 5

/-- Check 17: the first test that fails, from the module before and after the command. `prog` is the task that the
command starts or arms, with the refusal of its program (R144, R323, R550). -/
def admission (owner : Nat) (prog : Option (Nat × Option (Nat × Nat))) (old new : Dev) : Option Refused :=
  let note (r : Nat) : Option (Nat × Nat) := prog.map (fun p => (p.1, r))
  let phase (k ceil : Nat) (f : Dev → Terms) : Option Refused :=
    (phaseTest k ceil (f old) (f new) owner).map (fun r => ⟨r.2, if k = 3 ∧ r.1 = 7 then note 10 else none⟩)
  if (List.range 16).any (fun k => (new.schedule k).isNone) then some ⟨refuseWord 6 6 0 0, none⟩
  else match prog with
  | some (t, some r) => some ⟨refuseWord 7 7 0 0, some (t, r.1 + 2 ^ 32 * r.2)⟩
  | _ =>
    match (List.range 4).find? (fun l => decide (ceilLane < new.laneCost l)) with
    | some l =>
      let sub := if old.laneCost l < new.laneCost l then 7 else owner
      some ⟨refuseWord sub 1 l (new.laneCost l - ceilLane), note 9⟩
    | none =>
      (((phase 0 ceilA Dev.termsA).or (phase 2 ceilC Dev.termsC)).or (phase 3 ceilD Dev.termsD)).or
        (phase 4 ceilE Dev.termsE)

/-- Note a refusal: ADMIT_REFUSE, its counter, 16#0306 and 16#0706 (R553, R323). -/
def noteRefused (ch index : Nat) (r : Refused) (d : Dev) : Dev :=
  let d := { d with cp := { d.cp with admitRefuse := r.word, admitRefuseCnt := satAdd d.cp.admitRefuseCnt 1 } }
  let d := report { ev 0x0306 false index r.word.toNat with dests := destsCh ch } d
  match r.prog with
  | none => d
  | some (t, x) => report (ev 0x0706 false t x) d

end Sys2Proof.Machine
end

