-- ==== Sys2Proof/Machine/Regs.lean ====
section
/-!
DEFINITION. The device registers of space 16#F0 (R151 to R153, R163 and the register maps of every chapter): what each
reads, which bits are keep 0, what a read clears, and what a write does.
-/
namespace Sys2Proof.Machine

/-- One register. -/
structure RegDef where
  read : Dev → Reg
  /-- Bits that must be written 0 (R14). -/
  keep : Reg
  /-- What a completed read that returned a word clears (R16, R17, R152). -/
  clear : Reg → Dev → Dev
  /-- What a read that returned a word has left to clear after another one, that returned the first word, has cleared. -/
  left : Reg → Reg → Reg
  /-- What a write does to the RW, W1C and WO bits. -/
  put : Reg → Dev → Dev

/-- A read-only register. -/
def regRo (keep : Reg) (read : Dev → Reg) : RegDef := ⟨read, keep, fun _ d => d, fun _ w => w, fun _ d => d⟩
/-- A counter that a read clears: two reads take what was counted once. -/
def regRc (keep : Reg) (read : Dev → Reg) (clear : Reg → Dev → Dev) : RegDef :=
  ⟨read, keep, clear, fun v w => w - minU w v, fun _ d => d⟩
/-- A peak, or a first code, that a read clears: of two reads that returned the same value in the field of `mask`, one
clears it. -/
def regPeak (mask keep : Reg) (read : Dev → Reg) (clear : Reg → Dev → Dev) : RegDef :=
  ⟨read, keep, clear, fun v w => if v &&& mask = w &&& mask then w &&& ~~~mask else w, fun _ d => d⟩
/-- A counter after a read that returned `v`: what has been counted since stays (R17). -/
def lessRead {w : Nat} (x : BitVec w) (v : Reg) : BitVec w := x - minU x (v.setWidth w)
/-- A peak, or a first code, after a read that returned `v`: a value that has come since stays (R17). -/
def unlessRead {w : Nat} (x : BitVec w) (v : Reg) : BitVec w := if x = v.setWidth w then 0 else x
/-- A writable register. -/
def regRw (keep : Reg) (read : Dev → Reg) (put : Reg → Dev → Dev) : RegDef := ⟨read, keep, fun _ d => d, fun _ w => w, put⟩
/-- An offset that holds no register (R152). -/
def regNone : RegDef := regRo 0xFFFFFFFF (fun _ => 0)

def lo32 (x : W64) : Reg := fld x 0 32
def hi32 (x : W64) : Reg := fld x 32 32

/-! ### Identity, status and faults (R163, R164) -/

def regsDevice (off : Nat) : RegDef :=
  match off with
  | 0x0000 => regRo 0 (fun _ => 0x0E1AFC64)
  | 0x0004 => regRo 0xFFFF0000 (fun d => put 32 8 d.fuses.variant ||| 0xB0)
  | 0x0008 => regRo 0 (fun d => lo32 d.fuses.serial)
  | 0x000C => regRo 0 (fun d => hi32 d.fuses.serial)
  | 0x0010 => regRo 0 Dev.fwVersion
  | 0x0014 => regRo 0 (fun d => d.upd.stagedVersion)
  | 0x0018 => regRo 0 (fun _ => Config.romVersion)
  | 0x0040 => regRo 0xFF00FFF8 Dev.devStatus
  | 0x0044 => regRw 0xFFFF0001 (fun d => d.flt.sum)
      (fun v d => { d with flt := { d.flt with sum := d.flt.sum &&& ~~~v } })
  | 0x0048 => regRo 0xFFFF0001 Dev.faultActive
  | 0x004C => regPeak 0xFFFFFFFF 0xFFFF0000 (fun d => put 32 0 d.flt.first) (fun v d => { d with flt := { d.flt with first := unlessRead d.flt.first v } })
  | 0x0050 => regRc 0 (fun d => d.flt.eccCorr) (fun v d => { d with flt := { d.flt with eccCorr := lessRead d.flt.eccCorr v } })
  | 0x0054 => regRc 0 (fun d => d.flt.eccUncorr) (fun v d => { d with flt := { d.flt with eccUncorr := lessRead d.flt.eccUncorr v } })
  | 0x0058 => regRo 0 (fun d => d.flt.scrubPass)
  | _ => regNone

/-! ### Timebase (R52) -/

def regsTime (off : Nat) : RegDef :=
  match off with
  | 0x0100 => regRo 0 (fun d => lo32 d.tb.frame)
  | 0x0104 => regRo 0 (fun d => hi32 d.tb.frame)
  | 0x0110 => regRw 0xFFFFFFFC (fun d => putB 32 1 d.tb.stepEn ||| putB 32 0 d.tb.alignEn) frameCtrlWrite
  | 0x0114 => regRo 0xFFFFFFF0 (fun d => d.tb.status)
  | 0x0118 => regRo 0 (fun d => d.tb.offsetNs)
  | 0x011C => regRo 0 (fun d => BitVec.ofInt 32 d.tb.corrPpb)
  | 0x0120 => regRw 0xFFFFFFC0 (fun d => put 32 0 d.tb.ovr)
      (fun v d => d.modTb (fun t => { t with ovr := t.ovr &&& ~~~(fld v 0 6) }))
  | _ =>
    if 0x0124 ≤ off ∧ off < 0x013C then
      let k := (off - 0x0124) / 4
      regRc 0 (fun d => tget 0 d.tb.ovrCnt k) (fun v d => d.modTb (fun t => { t with ovrCnt := tset 0 t.ovrCnt k (lessRead (tget 0 t.ovrCnt k) v) }))
    else if 0x0140 ≤ off ∧ off < 0x0158 then
      let k := (off - 0x0140) / 4
      regPeak 0xFFFFFFFF 0 (fun d => tget 0 d.tb.peak k) (fun v d => d.modTb (fun t => { t with peak := tset 0 t.peak k (unlessRead (tget 0 t.peak k) v) }))
    else regNone

/-! ### Point store (R77, R86, R92, R97) -/

/-- A share-group mask word (R77). -/
def shareWrite (g : Nat) (hi : Bool) (v : Reg) (d : Dev) : Dev :=
  let old := tget 0 d.ps.shareMask g
  let m := if hi then put 64 32 v ||| put 64 0 (lo32 old) else put 64 32 (hi32 old) ||| put 64 0 (v &&& 0xFFFFFFFE)
  { d with ps := { d.ps with shareMask := tset 0 d.ps.shareMask g m } }

/-- A range register (R86). -/
def subRangeWrite (p : Nat) (v : Reg) (d : Dev) : Dev :=
  { d with ps := { d.ps with subRange := tset 0 d.ps.subRange p (v &&& 0x7FFF3FFF) } }

def regsPoints (off : Nat) : RegDef :=
  match off with
  | 0x0340 => regRw 0xFFFFE000 (fun d => put 32 0 d.ps.notifyMax)
      (fun v d => { d with ps := { d.ps with notifyMax := fld v 0 13 } })
  | 0x0344 => regRc 0 (fun d => d.ps.deferCnt) (fun v d => { d with ps := { d.ps with deferCnt := lessRead d.ps.deferCnt v } })
  | 0x0348 => regRc 0 (fun d => d.ps.eccCnt) (fun v d => { d with ps := { d.ps with eccCnt := lessRead d.ps.eccCnt v } })
  | 0x034C => regRo 0x3FFE0000 (fun d => d.ps.eccLast)
  | _ =>
    if 0x0200 ≤ off ∧ off < 0x0238 then
      let g := (off - 0x0200) / 8 + 1
      if off % 8 = 0 then regRw 1 (fun d => lo32 (d.shareMask g)) (shareWrite g false)
      else regRw 0 (fun d => hi32 (d.shareMask g)) (shareWrite g true)
    else if 0x0240 ≤ off ∧ off < 0x0340 then
      let p := (off - 0x0240) / 4
      regRw 0x8000C000 (fun d => tget 0 d.ps.subRange p) (subRangeWrite p)
    else regNone

/-! ### Command processor and transport (R133, R199) -/

def regsCmd (off : Nat) : RegDef :=
  match off with
  | 0x0400 => regPeak 0xFF00 0xFFFF0000 (fun d => put 32 8 d.cp.poolPeak ||| BitVec.ofNat 32 d.cp.slots.length)
      (fun v d => { d with cp := { d.cp with poolPeak := unlessRead d.cp.poolPeak (v >>> 8) } })
  | 0x0510 => regRc 0 (fun d => d.cp.authCnt) (fun v d => { d with cp := { d.cp with authCnt := lessRead d.cp.authCnt v } })
  | 0x0514 => regRc 0 (fun d => d.cp.budgetCnt) (fun v d => { d with cp := { d.cp with budgetCnt := lessRead d.cp.budgetCnt v } })
  | 0x0518 => regRc 0 (fun d => d.cp.limitCnt) (fun v d => { d with cp := { d.cp with limitCnt := lessRead d.cp.limitCnt v } })
  | 0x0600 => regPeak 0xFFFFFFFF 0xFFFFE000 (fun d => put 32 0 d.tr.evqPeak) (fun v d => { d with tr := { d.tr with evqPeak := unlessRead d.tr.evqPeak v } })
  | 0x0604 => regRc 0 (fun d => d.tr.closedCnt) (fun v d => { d with tr := { d.tr with closedCnt := lessRead d.tr.closedCnt v } })
  | 0x0608 => regRc 0 (fun d => d.tr.consRejCnt) (fun v d => { d with tr := { d.tr with consRejCnt := lessRead d.tr.consRejCnt v } })
  | _ =>
    if 0x0404 ≤ off ∧ off ≤ 0x0504 then
      let c := (off - 0x0404) / 4
      regRo 0xFFFEFFC0 (fun d => putB 32 16 (d.chan c).fenceFault ||| BitVec.ofNat 32 (d.inFlight c).length)
    else regNone

/-! ### Ports and network time (R226 to R229) -/

def regsPort (p o : Nat) : RegDef :=
  match o with
  | 0x00 => regRw 0x01FE0000 (fun d => (d.port p).cfg) (fun v d => d.modPort p (fun x => { x with cfg := v }))
  | 0x04 => regRo 0xFFFFE000 (fun d => (d.port p).status)
  | 0x08 => regRo 0 (fun d => fld (d.portMac p) 0 32)
  | 0x0C => regRo 0 (fun d => (fld (d.portMac p) 32 16).setWidth 32)
  | 0x24 => regRw 0 (fun d => (d.port p).pauseCfg) (fun v d => d.modPort p (fun x => { x with pauseCfg := v }))
  | 0x28 => regRw 0 (fun d => (d.port p).ptpLat) (fun v d => d.modPort p (fun x => { x with ptpLat := v }))
  | 0x2C => regRo 0 (fun d => (d.port p).pdelay)
  | 0x30 => regRc 0 (fun d => (d.port p).pauseTimeCnt) (fun v d => d.modPort p (fun x => { x with pauseTimeCnt := lessRead x.pauseTimeCnt v }))
  | 0x34 => regRc 0 (fun d => (d.port p).pauseRxCnt) (fun v d => d.modPort p (fun x => { x with pauseRxCnt := lessRead x.pauseRxCnt v }))
  | 0x38 => regRc 0 (fun d => (d.port p).pauseTxCnt) (fun v d => d.modPort p (fun x => { x with pauseTxCnt := lessRead x.pauseTxCnt v }))
  | 0x3C => regRw 0xFFFFFFF8
      (fun d => let x := d.port p; if x.search.isSome then x.mode &&& 4 else x.mode) (portModeWrite p)
  | _ =>
    if p = 2 then regNone
    else if o = 0x10 then
      regRw 0 (fun d => (d.port p).ip4) (fun v d => d.modPort p (fun x => { x with ip4 := v }))
    else if 0x14 ≤ o ∧ o ≤ 0x20 then
      let k := (o - 0x14) / 4
      regRw 0 (fun d => tget 0 (d.port p).ip6 k) (fun v d => d.modPort p (fun x => { x with ip6 := tset 0 x.ip6 k v }))
    else regNone

def regsNet (off : Nat) : RegDef :=
  match off with
  | 0x0B00 => regRw 0xFF00FFC0 (fun d => d.net.cfg) ptpCfgWrite
  | 0x0B04 => regRo 0xFF007FF0 (fun d => d.net.status)
  | 0x0B10 => regRw 0x00030000 (fun d => putB 32 31 d.net.mdioBusy ||| d.net.mdio) mdioStart
  | _ =>
    if 0x0700 ≤ off ∧ off < 0x07C0 then regsPort ((off - 0x0700) / 0x40) (off % 0x40)
    else if 0x0800 ≤ off ∧ off < 0x0B00 then
      let p := (off - 0x0800) / 0x100
      let k := off % 0x100 / 4
      regRw 0x00F80000 (fun d => tget 0xFF000000#32 (d.port p).gates k)
        (fun v d => d.modPort p (fun x => { x with gates := tset 0xFF000000#32 x.gates k v }))
    else if 0x0B20 ≤ off ∧ off < 0x0B2C then
      let p := (off - 0x0B20) / 4
      regRc 0 (fun d => (d.port p).rxDropCnt) (fun v d => d.modPort p (fun x => { x with rxDropCnt := lessRead x.rxDropCnt v }))
    else regNone

/-! ### Strand lines (R253) -/

def regsLine (k o : Nat) : RegDef :=
  match o with
  | 0x00 => regRw 0 (fun d => (d.line k).cfg) (fun v d => d.modLine k (fun l => { l with cfg := v }))
  | 0x04 => regRw 0x7F00F000 (fun d => (d.line k).cfg2) (fun v d => d.modLine k (fun l => { l with cfg2 := v }))
  | 0x08 => regRo 0xFFFF080F (fun d => (d.line k).status)
  | 0x0C => regRw 0xFFFFF001 (fun d => put 32 0 (d.line k).fault)
      (fun v d => d.modLine k (fun l => { l with fault := l.fault &&& ~~~(fld v 0 12) }))
  | 0x10 => regRo 0xFFFF0000 (fun d => put 32 0 (d.line k).iMa)
  | 0x14 => regRo 0 (fun d => (d.line k).volts)
  | 0x18 => regRo 0xFFFF0000 (fun d => put 32 0 (d.line k).ampl)
  | 0x1C => regPeak 0xFFFFFFFF 0xFFFF0000 (fun d => put 32 0 (d.line k).peak) (fun v d => d.modLine k (fun l => { l with peak := unlessRead l.peak v }))
  | _ => regNone

/-! ### Logic and loops (R330, R359) -/

def regsLogic (off : Nat) : RegDef :=
  match off with
  | 0x0E00 => regRo 0 (fun d => d.lg.tick)
  | 0x0E04 => regRw 0xFFFE0000 (fun d => put 32 0 d.lg.stateSel)
      (fun v d => { d with lg := { d.lg with stateSel := fld v 0 17 } })
  | 0x0F00 => regRo 0x00080000 Dev.loopCount
  | 0x0F04 => regRo 0 (fun d => d.loopFaultGroups false)
  | 0x0F08 => regRo 0xFFFFFFFE (fun d => d.loopFaultGroups true)
  | 0x0F0C => regPeak 0xFFFFFFFF 0x7FFFF000 (fun d => d.lp.firstFault) (fun v d => { d with lp := { d.lp with firstFault := unlessRead d.lp.firstFault v } })
  | 0x0F10 => regRc 0 (fun d => d.lp.skipCnt) (fun v d => { d with lp := { d.lp with skipCnt := lessRead d.lp.skipCnt v } })
  | 0x0F14 => regRc 0 (fun d => d.lp.feCnt) (fun v d => { d with lp := { d.lp with feCnt := lessRead d.lp.feCnt v } })
  | _ =>
    if 0x0E08 ≤ off ∧ off < 0x0E18 then
      let k := (off - 0x0E08) / 4
      regRo 0 (fun d => fld (d.srec d.lg.stateSel.toNat).image (32 * k) 32)
    else if 0x0E20 ≤ off ∧ off < 0x0E30 then
      let k := (off - 0x0E20) / 4
      regPeak 0xFFFFFFFF 0 (fun d => tget 0 d.lg.lanePeak k)
        (fun v d => { d with lg := { d.lg with lanePeak := tset 0 d.lg.lanePeak k (unlessRead (tget 0 d.lg.lanePeak k) v) } })
    else regNone

/-! ### Metering, safety map, recorder (R407, R457, R480) -/

def regsMeter (off : Nat) : RegDef :=
  match off with
  | 0x3100 => regRo 0xFFFFFFF0 (fun d => d.mt.restore)
  | 0x3104 => regRo 0 (fun d => lo32 d.mt.restoreTime)
  | 0x3108 => regRo 0 (fun d => hi32 d.mt.restoreTime)
  | 0x310C => regRo 0 (fun d => d.mt.restoreTag)
  | 0x3110 => regRo 0 (fun d => d.mt.saveCnt)
  | 0x3114 => regRo 0xFFFF0000 (fun d => put 32 0 d.mt.snapUs)
  | 0x3118 => regRo 0 (fun d => (d.vset 0).freq)
  | 0x311C => regRo 0 (fun d => (d.vset 1).freq)
  | 0x3200 => regRw 0x3FFE0000 Dev.safeMap safeMapWrite
  | _ => regNone

def regsRecorder (off : Nat) : RegDef :=
  match off with
  | 0x3300 => regRw 0xFFFC0000 (fun d => d.rcd.cfg) recCfgWrite
  | 0x3304 => regRw 0xFFFFFE00 (fun d => put 32 0 d.rcd.copyMax)
      (fun v d => { d with rcd := { d.rcd with copyMax := fld v 0 9 } })
  | 0x3308 => regRo 0 (fun d => d.rcd.next)
  | 0x330C => regRo 0 (fun d => d.rcd.copied)
  | 0x3310 => regRc 0 (fun d => d.rcd.copyLost) (fun v d => { d with rcd := { d.rcd with copyLost := lessRead d.rcd.copyLost v } })
  | 0x3314 => regRc 0 (fun d => d.rcd.mergeCnt) (fun v d => { d with rcd := { d.rcd with mergeCnt := lessRead d.rcd.mergeCnt v } })
  | 0x3318 => regRw 0 (fun _ => 0) recMark
  | 0x331C => regRo 0xFFFFF000 (fun d => d.rcd.tailInfo)
  | _ =>
    if 0x3340 ≤ off ∧ off < 0x33C0 then
      let t := (off - 0x3340) / 8
      if off % 8 = 0 then regRw 0x07FE0000 (fun d => tget 0 d.rcd.trigA t) (trigAWrite t)
      else regRw 0xFFC00000 (fun d => tget 0 d.rcd.trigB t) (trigBWrite t)
    else regNone

/-! ### Admission, update, temperature (R554, R601, R633) -/

/-- ADMIT_COST and ADMIT_LANE read from the module as it will be once every admitted command is applied (R554). -/
def regsAdmit (off : Nat) : RegDef :=
  match off with
  | 0x3400 => regRo 0 (fun d => satNat 32 (termSum d.termsA))
  | 0x3404 => regRo 0 (fun d => satNat 32 (maxList ((List.range 4).map d.laneCost)))
  | 0x3408 => regRo 0 (fun d => satNat 32 (termSum d.termsC))
  | 0x340C => regRo 0 (fun d => satNat 32 (termSum d.termsD))
  | 0x3410 => regRo 0 (fun d => satNat 32 (termSum d.termsE))
  | 0x3414 => regRo 0 (fun d => satNat 32 d.backlog)
  | 0x3428 => regPeak 0xFFFFFFFF 0 (fun d => d.cp.admitRefuse) (fun v d => { d with cp := { d.cp with admitRefuse := unlessRead d.cp.admitRefuse v } })
  | 0x342C => regRc 0 (fun d => d.cp.admitRefuseCnt) (fun v d => { d with cp := { d.cp with admitRefuseCnt := lessRead d.cp.admitRefuseCnt v } })
  | 0x3500 => regRo 0x00F8FFFF (fun d => d.upd.status)
  | 0x3504 => regRo 0 (fun d => d.upd.written)
  | 0x3508 => regRo 0xFF00F8F8 Dev.bootInfo
  | 0x3600 =>
      ⟨fun d => putB 32 31 d.bk.thermTrip ||| putB 32 30 d.th.hot ||| put 32 10 d.th.peak ||| put 32 0 d.th.temp,
        0x3FF00000, fun v d => { d with th := { d.th with peak := unlessRead d.th.peak (v >>> 10) } },
        fun v w => if fld v 10 10 = fld w 10 10 then w &&& ~~~0x000FFC00 else w,
        fun v d => if bit v 31 then d.modBk (fun b => { b with thermTrip := false }) else d⟩
  | _ =>
    if 0x3418 ≤ off ∧ off < 0x3428 then regRo 0 (fun d => satNat 32 (d.laneCost ((off - 0x3418) / 4))) else regNone

/-- A word of a descriptor block; a block is written as a whole by `regsWrite` (R169). -/
def regsDesc (ch w : Nat) : RegDef :=
  regRo (fld descKeep (32 * w) 32) (fun d => fld (d.chan ch).image (32 * w) 32)

/-- The register at an offset. -/
def regDef (off : Nat) : RegDef :=
  if off < 0x0100 then regsDevice off
  else if off < 0x0200 then regsTime off
  else if off < 0x0400 then regsPoints off
  else if off < 0x0700 then regsCmd off
  else if off < 0x0C00 then regsNet off
  else if off < 0x0E00 then regsLine ((off - 0x0C00) / 0x20) (off % 0x20)
  else if off < 0x1000 then regsLogic off
  else if off < 0x3080 then regsDesc ((off - 0x1000) / 0x80) (off % 0x80 / 4)
  else if off < 0x3300 then regsMeter off
  else if off < 0x3400 then regsRecorder off
  else regsAdmit off

/-! ### Reads (R152, R153) -/

/-- A register as read; `proj` is the module with every admitted command applied, which the standing costs of phases A to
E include; F is the cost of the commands that wait (R554). -/
def regRead (proj : Dev) (off : Nat) (d : Dev) : Reg :=
  (regDef off).read (if 0x3400 ≤ off ∧ off < 0x3428 ∧ off ≠ 0x3414 then proj else d)

/-! ### Writes (R151, R152) -/

/-- What one WRITE_REG writes: offsets and words, ascending. -/
abbrev RegWords := List (Nat × Reg)

/-- The channels whose descriptor blocks a write touches. -/
def descChans (ws : RegWords) : List Nat :=
  (List.range 65).filter (fun c => ws.any (fun w => decide (0x1000 + 0x80 * c ≤ w.1 ∧ w.1 < 0x1080 + 0x80 * c)))

/-- A descriptor block with the written words, and whether word 0 is among them. -/
def descImage (ch : Nat) (ws : RegWords) (d : Dev) : BitVec 1024 × Bool :=
  let base := 0x1000 + 0x80 * ch
  ws.foldl (fun a w =>
    if base ≤ w.1 ∧ w.1 < base + 0x80 then
      let lo := 8 * (w.1 - base)
      (mergeBits (maskOf 1024 [(lo, 32)]) a.1 (put 1024 lo w.2), a.2 || w.1 == base)
    else a) ((d.chan ch).image, false)

/-- One word. -/
def regPut (w : Nat × Reg) (d : Dev) : Dev := (regDef w.1).put w.2 d

/-- Apply the words of a WRITE_REG: single registers in order, then the descriptor blocks (R145, R169). -/
def regsWrite (ws : RegWords) (d : Dev) : Dev :=
  let d1 := ws.foldl (fun d w => regPut w d) d
  (descChans ws).foldl (fun d c => let i := descImage c ws d; descWrite c i.1 i.2 d) d1

/-- STATE rules of one word. -/
def regWordOk (w : Nat × Reg) (d : Dev) : Bool :=
  (w.2 &&& (regDef w.1).keep) == 0 &&
    (w.1 != 0x0340 || decide (1 ≤ (fld w.2 0 13).toNat ∧ (fld w.2 0 13).toNat ≤ 4096)) &&
    (w.1 != 0x0B10 || mdioOk w.2 d) && (w.1 != 0x3200 || safeMapOk w.2 d) && (w.1 != 0x3304 || recCopyOk w.2) &&
    (!decide (0x3340 ≤ w.1 ∧ w.1 < 0x33C0) || (if w.1 % 8 = 0 then trigAOk w.2 else trigBOk w.2))

/-- Does the range of a partition stand: inside the table, and apart from the others (R87). -/
def subRangeOk (p : Nat) (d : Dev) : Bool :=
  let r := d.subRange p
  decide (r.1 + r.2 ≤ 16384) && (r.2 == 0 || (List.range 64).all (fun q =>
    let s := d.subRange q
    q == p || s.2 == 0 || decide (r.1 + r.2 ≤ s.1 ∨ s.1 + s.2 ≤ r.1)))

/-- No entry with EN leaves the range of a partition (R87). -/
def subRemovedOk (p : Nat) (old new : Dev) : Bool :=
  (old.ps.subs.filter (fun s => s.2.en)).all (fun s => old.subHolder s.1 != some p || new.subHolder s.1 == some p)

/-- STATE rules of register `o` of a port, with the gate list where the word changes what the list rests on (R209, R226). -/
def portWordOk (p o : Nat) (new old : Dev) : Bool :=
  let x := new.port p
  let y := old.port p
  if o = 0x00 then x.fcMode != 3 && (x.cfg == y.cfg || gatesOk p x)
  else if o = 0x24 then pauseCfgOk x
  else if o = 0x3C then gatesOk p x
  else true

/-- STATE rules that a word has together with its neighbours, judged on the registers as they would stand: does this word
meet them. A word that leaves a gate entry as it is fails no list. DEDUCED: log entry 30. -/
def regJointOk (off : Nat) (new old : Dev) : Bool :=
  if 0x0240 ≤ off ∧ off < 0x0340 then
    subRangeOk ((off - 0x0240) / 4) new && subRemovedOk ((off - 0x0240) / 4) old new
  else if 0x0700 ≤ off ∧ off < 0x07C0 then portWordOk ((off - 0x0700) / 0x40) (off % 0x40) new old
  else if 0x0800 ≤ off ∧ off < 0x0B00 then
    let p := (off - 0x0800) / 0x100
    let k := off % 0x100 / 4
    tget 0xFF000000#32 (new.port p).gates k == tget 0xFF000000#32 (old.port p).gates k || gatesOk p (new.port p)
  else if 0x0C00 ≤ off ∧ off < 0x0E00 then
    off % 0x20 > 4 ||
      (let k := (off - 0x0C00) / 0x20
       let l := new.line k
       let second := off % 0x20 == 4
       lineWordOk second (if second then l.cfg2 else l.cfg) && lineOrderOk l.cfg l.cfg2 &&
         (!second || l.shared == (old.line k).shared || (old.line k).st == .off))
  else true

/-- The registers as the single words would leave them, without the effects of the writes. -/
def regsRaw (ws : RegWords) (d : Dev) : Dev :=
  ws.foldl (fun d w =>
    let o := w.1
    if 0x0240 ≤ o ∧ o < 0x0340 then { d with ps := { d.ps with subRange := tset 0 d.ps.subRange ((o - 0x0240) / 4) (w.2 &&& 0x7FFF3FFF) } }
    else if (0x0700 ≤ o ∧ o < 0x07C0 ∧ o % 0x40 ≠ 0x3C) ∨ (0x0800 ≤ o ∧ o < 0x0B00) ∨ (0x0C00 ≤ o ∧ o < 0x0E00) then regPut w d
    else if 0x0700 ≤ o ∧ o < 0x07C0 then d.modPort ((o - 0x0700) / 0x40) (fun x => { x with mode := w.2 &&& 7 })
    else d) d

/-- The offset of the first word that fails a STATE rule (R113, R152). DEDUCED: log entry 30. -/
def regsState (carrier : Nat) (ws : RegWords) (d : Dev) : Option Nat :=
  let new := regsRaw ws d
  let bad := ws.find? (fun w => !regWordOk w d || !regJointOk w.1 new d ||
    (decide (0x1000 ≤ w.1 ∧ w.1 < 0x3080) &&
      (let c := (w.1 - 0x1000) / 0x80
       !descWordOk carrier c ((w.1 - 0x1000) % 0x80 / 4) (descImage c ws d).1 new)))
  bad.map (·.1)

end Sys2Proof.Machine
end

