-- ==== Sys2Proof/Machine/Spaces.lean ====
section
/-!
DEFINITION. The object spaces as READ_ENTRY and WRITE_ENTRY see them (R146 to R149): entry images, keep-0 fields, rights,
source and value rules, and the effect of a write.
-/
namespace Sys2Proof.Machine

/-! ### Alarm-limit and subscription entries (R82, R86) -/

/-- An alarm-limit entry as read (R82). -/
def Alarm.image (a : Alarm) : BitVec 512 :=
  put 512 380 a.active ||| put 512 376 a.unacked ||| putB 512 375 a.qActive ||| putB 512 374 a.qUnacked |||
    put 512 336 a.delayFr ||| put 512 332 a.levelEn ||| putB 512 331 a.qEn ||| putB 512 330 a.latch |||
    putB 512 329 a.copyP0 ||| put 512 256 a.deadband |||
    [0, 1, 2, 3].foldl (fun x l => x ||| put 512 (192 - 64 * l) (tget 0 a.limits l)) 0

/-- Write an alarm-limit entry: the RW fields, then the acknowledgements (R82, R85, R148). -/
def alarmEntryWrite (e : Nat) (x : BitVec 512) (d : Dev) : Dev :=
  let a := { d.alarm e with
    delayFr := fld x 336 16
    levelEn := fld x 332 4
    qEn := bit x 331
    latch := bit x 330
    copyP0 := bit x 329
    deadband := fld x 256 64
    limits := [0, 1, 2, 3].foldl (fun t l => tset 0 t l (fld x (192 - 64 * l) 64)) [] }
  d.setAlarm e (alarmAckBits (fld x 376 4) (bit x 374) a)

/-- May a partition read or write an alarm-limit entry (R147). -/
def Dev.alarmRight (d : Dev) (part e : Nat) : Bool :=
  part == 0 || d.ps.points.any (fun x => x.2.alarmRef.toNat == e + 1 && x.2.owner.toNat == part)

/-- A subscription entry as read (R86). -/
def Dev.subImage (d : Dev) (e : Nat) : BitVec 256 :=
  let s := d.sub e
  put 256 208 s.holdLeft ||| put 256 144 s.lastSent ||| put 256 128 s.minInterval ||| put 256 64 s.deadband |||
    put 256 56 s.changes ||| put 256 26 (BitVec.ofNat 6 ((d.subHolder e).getD 0)) ||| putB 256 25 s.en |||
    putB 256 24 s.revoked ||| putB 256 23 s.pending ||| putB 256 22 s.onQuality ||| putB 256 21 s.onValue |||
    put 256 0 s.point

/-- The RW fields of a subscription image. -/
def subOfImage (x : BitVec 256) : Sub :=
  { Sub.reset with
    minInterval := fld x 128 16
    deadband := fld x 64 64
    en := bit x 25
    onQuality := bit x 22
    onValue := bit x 21
    point := fld x 0 17 }

/-! ### Reads -/

/-- Entry `i` of a space as read, as a number; `ram` is the retained SRAM (R146). -/
def entryImage (ram : Nat → Byte) (sp i : Nat) (d : Dev) : Nat :=
  match sp with
  | 0x02 => (d.alarm i).image.toNat
  | 0x03 => (d.subImage i).toNat
  | 0x10 => (d.strandImage i).toNat
  | 0x11 => (d.node i).image.toNat
  | 0x20 => (d.bentry i).toNat
  | 0x21 => (d.task i).image.toNat
  | 0x30 => (d.loop i).image.toNat
  | 0x40 => (d.meterImage i).toNat
  | 0x41 => (d.acc i).image.toNat
  | 0x42 => (tget harmReset d.mt.harm i).toNat
  | 0x50 => (d.cloop i).image.toNat
  | 0x60 => (d.safeEntry i).toNat
  | 0x70 => (d.rcd.entry i).toNat
  | 0x80 => (d.backupEntry ram i).toNat
  | 0x90 => (d.plyEntry i).toNat
  | 0xA0 => (d.secEntry i).toNat
  | _ => 0

/-- May a partition read an entry (R146, R147). -/
def entryReadRight (sp part i : Nat) (d : Dev) : Bool :=
  part == 0 || (sp == 0x02 && d.alarmRight part i) || (sp == 0x03 && d.subHolder i == some part)

/-! ### Writes -/

/-- Keep-0 fields of an entry (R14). -/
def entryKeep (sp i : Nat) : List (Nat × Nat) :=
  match sp with
  | 0x02 => [(384, 128), (352, 22), (320, 9)]
  | 0x03 => [(224, 32), (32, 24), (17, 4)]
  | 0x10 => [(416, 96), (42, 110), (3, 13)]
  | 0x11 => [(96, 8), (0, 38)]
  | 0x21 => [(256, 28), (184, 2), (136, 16), (112, 3), (0, 108)]
  | 0x30 => [(768, 24), (0, 220)]
  | 0x40 => if i < 78 then [(448, 32), (416, 24), (16, 287), (1, 5)] else if i < 86 then [(1, 331)] else [(6, 434), (0, 2)]
  | 0x41 => [(934, 19)]
  | 0x50 => [(720, 4), (640, 64), (448, 22), (320, 96), (256, 13), (16, 177), (1, 7)]
  | 0x90 => match i with
    | 0 => [(96, 416), (0, 24)]
    | 1 => [(35, 253), (16, 4), (6, 2)]
    | 2 => [(0, 64)]
    | _ => [(0, 512)]
  | _ => []

/-- Is an image free of keep-0 bits. -/
def entryKeepOk (sp i : Nat) (x : BitVec 2048) : Bool :=
  if sp = 0x80 then (fld x 0 256 &&& backupKeep i) == 0 else (x &&& maskOf 2048 (entryKeep sp i)) == 0

/-- Does an image name only points of the store (R9); the chapters that answer STATE instead are left to theirs. DEDUCED: log entry 35. -/
def entryNamesOk (sp i : Nat) (x : BitVec 2048) (d : Dev) : Bool :=
  match sp with
  | 0x20 => bankEntryIndexOk (fld x 0 128)
  | 0x40 => i ≥ 78 || ({ d.mchan i with cfg := fld x 0 512 }.mapped).all (fun m => decide (m.2 < 131072))
  | 0x50 => (clSources i { d.cloop i with cfg := x }).all (fun s => decide (s.2 < 131072))
  | _ => true

/-- May a partition write an entry (R88, R146, R147). -/
def entryWriteRight (sp part i : Nat) (x : BitVec 2048) (d : Dev) : Bool :=
  match sp with
  | 0x02 => d.alarmRight part i
  | 0x03 => d.subHolder i == some part && (!bit x 25 || d.canRead part (fld x 0 17).toNat)
  | _ => part == 0

/-- STATE rules of an image. -/
def entryStateOk (sp i : Nat) (x : BitVec 2048) (d : Dev) : Bool :=
  match sp with
  | 0x10 => strandEntryOk i (fld x 0 512) d
  | 0x11 => nodeEntryOk i (fld x 0 256) d
  | 0x20 => bankEntryOk i (fld x 0 128) d
  | 0x21 => taskEntryOk i (fld x 0 512) d
  | 0x30 => loopEntryOk i (fld x 0 1024) d
  | 0x40 => meterEntryOk i (fld x 0 512) d
  | 0x50 => clEntryOk i x d
  | 0x80 => backupEntryOpen i && backupEntryOk i (fld x 0 256)
  | 0x90 => i != 0 || plyCfgOk (fld x 0 512)
  | _ => true

/-- The digest areas that a write of a space touches (R530). -/
def digestAreas (sp : Nat) : List Nat :=
  match sp with
  | 0x10 => [0]
  | 0x11 => [1, 5]
  | 0x20 => [3]
  | 0x21 => [2, 3, 5]
  | 0x30 => [4, 5]
  | _ => []

/-- Apply an image. -/
def entryWrite (sp i : Nat) (x : BitVec 2048) (d : Dev) : Dev :=
  digestMark (digestAreas sp) (match sp with
    | 0x02 => alarmEntryWrite i (fld x 0 512) d
    | 0x03 => subWrite i (subOfImage (fld x 0 256)) d
    | 0x10 => strandEntryWrite i (fld x 0 512) d
    | 0x11 => nodeEntryWrite i (fld x 0 256) d
    | 0x20 => bankEntryWrite i (fld x 0 128) d
    | 0x21 => taskWrite i (fld x 0 512) d
    | 0x30 => loopEntryWrite i (fld x 0 1024) d
    | 0x40 => meterEntryWrite i (fld x 0 512) d
    | 0x41 => accEntryWrite i (fld x 0 1024) d
    | 0x50 => clEntryWrite i x d
    | 0x80 => backupEntryWrite i (fld x 0 256) d
    | 0x90 => if i = 0 then plyCfgWrite (fld x 0 512) d else d
    | _ => d)

end Sys2Proof.Machine
end

