-- ==== Sys2Proof/Machine/Checks.lean ====
section
/-!
DEFINITION. Checks 9 to 16 of a host command (R111 to R114, R136 to R162, R641). A check answers a status and FAIL_INDEX;
status 0 passes.
-/
namespace Sys2Proof.Machine

/-- Status and FAIL_INDEX; `none`: passed. -/
abbrev Check := Option (Nat × Nat)

/-- FAIL_INDEX of object `i` of a command that addresses several (R113). DEDUCED: log entry 34. -/
def Cmd.failAt (c : Cmd) (i : Nat) : Nat := if c.count ≤ 1 then 0 else c.object i

/-- The first object that fails a test. DEDUCED: log entry 34. -/
def Cmd.firstBad (c : Cmd) (bad : Nat → Bool) : Option Nat := (List.range c.count).find? bad

/-- A status for the first object that fails a test. -/
def Cmd.each (c : Cmd) (status : Nat) (bad : Nat → Bool) : Check := (c.firstBad bad).map (fun i => (status, c.failAt i))

/-- The words of a WRITE_REG (R152). -/
def Cmd.regWords (c : Cmd) : RegWords := (List.range c.count).map (fun i => (c.index + 4 * i, c.word i))

/-- Entry size of the space that a command reads or writes (R146). -/
def Cmd.entrySize (c : Cmd) : Nat := if c.space = 0x01 then 32 else if c.space = 0xF0 then 4 else ((spaceRow c.space).map (·.size)).getD 0

/-- Image `i` of a WRITE_ENTRY. -/
def Cmd.entry (c : Cmd) (i : Nat) : BitVec 2048 := leBits 2048 (c.image c.entrySize i)

/-- Is image `i` whole within the payload. -/
def Cmd.hasImage (c : Cmd) (size i : Nat) : Bool := decide (size * (i + 1) ≤ c.payload.length)

/-! ### Checks 9 to 13 -/

/-- Check 9 (R119, R120). -/
def checkFence (c : Cmd) (d : Dev) : Check :=
  if c.f && c.opcode != 0 && (d.chan c.ch).fenceFault then some (stFenceAbort, 0) else none

/-- Check 10 (R128). -/
def Cmd.stale (c : Cmd) (d : Dev) : Bool := c.notAfter != 0 && decide (c.notAfter < d.tb.frame)

/-- Checks 11 to 13 (R106, R114, R135 to R137); the MIRRORED test of R137 is judged with check 12 (DESIGN CHOICE: log entry 97). -/
def checkOpcode (c : Cmd) (d : Dev) : Check :=
  match opRow c.opcode with
  | none => some (stState, 0)
  | some r =>
    if !r.allows c.ch then some (stDenied, 0)
    else if c.n && r.kind == .read then some (stState, 0)
    else if !r.roles.contains d.ply.role then some (stNotLeading, 0)
    else if c.opcode == 0x02 && (d.ply.role == .trailing || d.ply.role == .joining) &&
        (List.range c.count).any (fun i => (d.point (c.index + i)).mirrored) then some (stNotLeading, 0)
    else
      match r.space with
      | some s => if c.space = s then none else some (stBadSpace, 0)
      | none =>
        match spaceRow c.space with
        | none => some (stBadSpace, 0)
        | some w => if c.opcode = 0x09 ∧ w.writeLimit = none then some (stBadSpace, 0) else none

/-! ### Check 14 -/

/-- COUNT within 1 to a limit; then the first object that lies beyond `last` or fails a test of its own (R113, R136). DEDUCED: log entry 34. -/
def checkRange (c : Cmd) (limit last : Nat) (bad : Nat → Bool) : Check :=
  if c.count < 1 ∨ limit < c.count then some (stBadIndex, 0)
  else c.each stBadIndex (fun i => decide (last < c.index + i) || bad i)

/-- No test beside the range. -/
def noBad : Nat → Bool := fun _ => false

/-- The reply area holds the reply (R139). -/
def checkReply (c : Cmd) (d : Dev) : Check :=
  if c.payload.length < 8 then none
  else if c.replyOffset % 64 = 0 ∧ c.replyOffset + c.count * c.entrySize ≤ (d.chan c.ch).replySize then none
  else some (stBadIndex, 0)

/-- Register offsets (R151), and a test of each register. -/
def checkRegRange (c : Cmd) (limit : Nat) (bad : Nat → Bool) : Check :=
  if c.count < 1 ∨ limit < c.count ∨ c.index % 4 ≠ 0 then some (stBadIndex, 0)
  else c.each stBadIndex (fun i => decide (0x4000 ≤ c.index + 4 * i) || bad i)

/-- INDEX, COUNT and the objects that the payload names (R9, R135, R136, R139, R149 to R151). DEDUCED: log entry 35. -/
def checkIndex (c : Cmd) (d : Dev) : Check :=
  match c.opcode with
  | 0x01 => (checkRange c 2048 131071 noBad).or (checkReply c d)
  | 0x02 => checkRange c 253 131071 noBad
  | 0x03 => checkRange c 253 131071 (fun i =>
      c.hasImage 16 i && bit (c.configElem i).1.mask 0 && decide (16384 < (c.configElem i).1.alarmRef.toNat))
  | 0x04 => checkRange c 1012 16383 noBad
  | 0x08 => match spaceRow c.space with
    | none => none
    | some w => (checkRange c w.readLimit w.last (fun i => indexExcluded c.space (c.index + i))).or (checkReply c d)
  | 0x09 => match spaceRow c.space with
    | none => none
    | some w => checkRange c (w.writeLimit.getD 0) w.last (fun i => indexExcluded c.space (c.index + i) ||
        (c.hasImage w.size i && !entryNamesOk c.space (c.index + i) (c.entry i) d))
  | 0x0C => (checkRegRange c 1024 noBad).or (checkReply c d)
  | 0x0D => checkRegRange c 1012 (fun i =>
      c.hasImage 4 i && c.object i == 0x3200 && decide (131058 < (fld (c.word i) 0 17).toNat))
  | 0x11 => checkRange c 16 15 noBad
  | 0x12 => checkRange c 1 7 noBad
  | 0x31 => if c.count = 0 then none else some (stBadIndex, 0)
  | _ => if c.index = 0 ∧ c.count = 0 then none else some (stBadIndex, 0)

/-! ### Check 15 -/

/-- DATA_LEN of a HART_SEND, and its padded payload length (R156). -/
def Cmd.hartLen (c : Cmd) : Nat := (fld (c.word 0) 8 8).toNat
def Cmd.hartPadded (c : Cmd) : Nat := (12 + c.hartLen + 3) / 4 * 4

/-- The payload length of an opcode (R641). -/
def Cmd.lengthOk (c : Cmd) : Bool :=
  let n := c.payload.length
  match c.opcode with
  | 0x01 => n == 8
  | 0x08 => n == 8
  | 0x0C => n == 8
  | 0x02 => n == 16 * c.count
  | 0x03 => n == 16 * c.count
  | 0x04 => n == 4 * c.count
  | 0x09 => n == c.entrySize * c.count
  | 0x0D => n == 4 * c.count
  | 0x10 => n == 4
  | 0x11 => n == 4
  | 0x12 => decide (12 ≤ n) && n == c.hartPadded
  | 0x13 => n == 12
  | 0x20 => n == 8
  | 0x30 => n == 8
  | 0x31 => decide (4 ≤ n ∧ n ≤ 4048)
  | 0x38 => n == 72
  | 0x3F => n == 8
  | _ => n == 0

/-- Keep-0 fields inside the structures of a payload (R14). -/
def checkKeep (c : Cmd) : Check :=
  let one (ok : Bool) : Check := if ok then none else some (stState, 0)
  match c.opcode with
  | 0x02 => c.each stState (fun i => !(c.pointElem i).2)
  | 0x03 => c.each stState (fun i => !(c.configElem i).2)
  | 0x04 => c.each stState (fun i => (c.ackElem i >>> 5) != 0)
  | 0x09 => c.each stState (fun i => !entryKeepOk c.space (c.index + i) (c.entry i))
  | 0x0D => c.each stState (fun i => (c.word i &&& (regDef (c.object i)).keep) != 0)
  | 0x10 => one ((c.word 0 >>> 9) == 0)
  | 0x11 => one ((c.word 0 >>> 2) == 0)
  | 0x12 => one (fld (c.word 0) 25 7 == 0#7 && fld (c.word 2) 8 24 == 0#24)
  | 0x13 => one ((c.word 2 >>> 2) == 0)
  | 0x20 => one (fld (c.word 0) 3 29 == 0#29)
  | 0x30 => one (c.word 1 == 0)
  | 0x38 => one (fld (c.word 0) 3 29 == 0#29)
  | 0x3F => one (fld (c.word 0) 2 30 == 0#30)
  | _ => none

/-- Check 15: the length, the keep-0 fields, and the padding of HART_SEND (R14, R156, R641). -/
def checkPayload (c : Cmd) : Check :=
  if !c.lengthOk then some (stBadLength, 0)
  else if c.opcode = 0x12 ∧ (c.payload.drop (12 + c.hartLen)).any (· != 0) then some (stBadLength, 0)
  else checkKeep c

/-! ### Check 16 -/

/-- Rights and source rules of the elements of a POINT_CONFIG (R76, R82): ALARM_REF judged as the command leaves it. DEDUCED: log entry 36. -/
def configState (c : Cmd) (d : Dev) : Check :=
  let after := (List.range c.count).foldl (fun d i =>
    d.setPoint (c.index + i) ((c.configElem i).1.fields (d.point (c.index + i)))) d
  let shared (p : Nat) : Bool :=
    let r := (after.point p).alarmRef
    r != 0 && after.ps.points.any (fun x => x.1 != p && x.2.alarmRef == r)
  c.each stState (fun i =>
    let p := c.index + i
    (bit (c.configElem i).1.mask 5 && (c.configElem i).1.ptype == 0 && (d.point p).srcKind != 0) ||
      (bit (c.configElem i).1.mask 0 && shared p))

/-- Entries of a WRITE_ENTRY in the order in which they apply: tasks that the command does not start come first
(R145, R323). DEDUCED: log entry 37. -/
def Cmd.entryOrder (c : Cmd) : List Nat :=
  let is := List.range c.count
  if c.space = 0x21 then
    is.filter (fun i => !bit (c.entry i) 108) ++ is.filter (fun i => bit (c.entry i) 108)
  else is

/-- Rights and source rules of the images of a WRITE_ENTRY, each judged after those before it. DEDUCED: log entry 36. -/
def entriesState (c : Cmd) (d : Dev) : Check :=
  let step (a : Check × Dev) (i : Nat) : Check × Dev :=
    match a.1 with
    | some r => (some r, a.2)
    | none =>
      let e := c.index + i
      let x := c.entry i
      if !entryWriteRight c.space c.part e x a.2 then (some (stDenied, c.failAt i), a.2)
      else if !entryStateOk c.space e x a.2 then (some (stState, c.failAt i), a.2)
      else (none, entryWrite c.space e x a.2)
  ((List.range c.count).foldl step (none, d)).1

/-- Source rules of a configuration command (R69 to R82, R87, R154, and the chapters of the spaces). -/
def checkSource (c : Cmd) (d : Dev) : Check :=
  match c.opcode with
  | 0x03 => configState c d
  | 0x09 => entriesState c d
  | 0x0D => (regsState c.ch c.regWords d).map (fun off => (stState, if c.count ≤ 1 then 0 else off))
  | 0x10 => if exchangeState (fld (c.word 0) 8 1).toNat (fld (c.word 0) 0 8) d then some (stState, 0) else none
  | _ => none

/-- ACTION of a PLY_CONTROL, and its STATE rule (R158). -/
def Cmd.plyAction (c : Cmd) : Nat := (fld (c.word 0) 0 3).toNat
def plyActionOk (action : Nat) (d : Dev) : Bool :=
  match action with
  | 1 => d.ply.role == .solo
  | 2 => d.ply.role == .joining || d.ply.role == .leading || d.ply.role == .trailing || d.ply.role == .dead
  | 3 => d.ply.role == .leading && d.yieldOk
  | 4 => d.retryOk
  | _ => false

/-- CAL_TIME and MODE of a TIME_SET (R157). -/
def Cmd.calTime (c : Cmd) : W64 := leBits 64 (slice c.payload 0 8)
def Cmd.timeMode (c : Cmd) : Nat := (fld (c.word 2) 0 2).toNat

/-- IMAGE_LEN of an UPDATE_BEGIN (R159). -/
def imageLenOk (n : Nat) : Bool := decide (4 ≤ n ∧ n ≤ 25165824 ∧ n % 4 = 0)

/-- TARGET, CONFIRM and AUTH of a LIFECYCLE_SET (R161). -/
def Cmd.target (c : Cmd) : Nat := (fld (c.word 0) 0 3).toNat
def Cmd.auth (c : Cmd) : List Byte := slice c.payload 8 64

/-- Check 16 (R67 to R72, R147, R150 to R162). -/
def checkRights (c : Cmd) (d : Dev) : Check :=
  let one (ok : Bool) : Check := if ok then none else some (stState, 0)
  match c.opcode with
  | 0x01 => c.each stDenied (fun i => !d.canRead c.part (c.index + i))
  | 0x02 => (List.range c.count).findSome? (fun i =>
      let s := pointWriteCheck stDenied stState c.part (c.index + i) (c.pointElem i).1 d
      if s = 0 then none else some (s, c.failAt i))
  | 0x04 => c.each stDenied (fun i => !d.alarmRight c.part (c.index + i))
  | 0x08 => c.each stDenied (fun i => !entryReadRight c.space c.part (c.index + i) d)
  | 0x0C => if c.part = 0 then none else c.each stDenied (fun i => decide (0x40 ≤ c.object i))
  | 0x11 =>
    if c.word 0 = 3 then some (stState, 0) else c.each stState (fun i => !(d.strand (c.index + i)).configured)
  | 0x12 => one (hartSendOk c.index d)
  | 0x13 => one (decide (c.timeMode < 2) && timeSetOk (c.timeMode == 1) c.calTime d)
  | 0x20 => one (plyActionOk c.plyAction d)
  | 0x30 => one (imageLenOk (c.word 0).toNat)
  | 0x31 => one (updateDataOk c.index c.payload.length d)
  | 0x32 => one (updateEndOk d)
  | 0x38 => one (c.word 1 == 0x1F0CA5E7 && lifecycleStep d.fuses.lifecycle c.target)
  | 0x3F => one (c.word 1 == 0xB0070FC6 && fld (c.word 0) 0 2 != 2#2 && fld (c.word 0) 0 2 != 3#2)
  | _ => checkSource c d

/-- Checks 9 to 16; a command applied in phase F leaves check 10 to then (R111, R128). -/
def checkAll (c : Cmd) (inF : Bool) (d : Dev) : Check :=
  ((((checkFence c d).or (if !inF && c.stale d then some (stStale, 0) else none)).or (checkOpcode c d)).or
    (checkIndex c d)).or ((checkPayload c).or (checkRights c d))

end Sys2Proof.Machine
end

