-- ==== Sys2Proof/Machine/Commands.lean ====
section
/-!
DEFINITION. The command processor (R111 to R134, R138 to R145, R548 to R553): acceptance, groups, check 17, execution,
phase F, the completion limit, and the effect of each opcode.
-/
namespace Sys2Proof.Machine

/-! ### Effects -/

/-- Apply a configuration command (R143, R145). -/
def configEffect (c : Cmd) (d : Dev) : Dev :=
  match c.opcode with
  | 0x03 => digestMark [5] ((List.range c.count).foldl (fun d i =>
      pointConfigOne (c.index + i) (c.configElem i).1 d) d)
  | 0x09 => c.entryOrder.foldl (fun d i => entryWrite c.space (c.index + i) (c.entry i) d) d
  | 0x0D => regsWrite c.regWords d
  | 0x10 => digestMark [3, 5] ((maskTasks (fld (c.word 0) 0 8)).foldl (fun d t =>
      armTask (fld (c.word 0) 8 1).toNat t d) d)
  | _ => d

/-- PLY_CONTROL (R158, R520, R534, R539). -/
def plyControl (c : Cmd) (d : Dev) : Dev :=
  match c.plyAction with
  | 1 => pair (c.word 1) d
  | 2 => unpair d
  | 3 => yieldStart d
  | _ => retry d

/-- Apply an operation or maintenance command, but for a restart (R150, R155 to R160). -/
def operationEffect (c : Cmd) (d : Dev) : Dev :=
  match c.opcode with
  | 0x02 =>
    let ps := (List.range c.count).map (fun i => c.index + i)
    let d' := (List.range c.count).foldl (fun d i => pointWriteOne c.part (c.index + i) (c.pointElem i).1 d) d
    if ps.any (fun p => (d.point p).digested) then digestMark [5] d' else d'
  | 0x04 => (List.range c.count).foldl (fun d i =>
      d.setAlarm (c.index + i) (alarmAckBits (fld (c.ackElem i) 0 4) (bit (c.ackElem i) 4) (d.alarm (c.index + i)))) d
  | 0x11 =>
    let ks := (List.range c.count).map (fun i => c.index + i)
    relayLine ks (c.word 0).toNat (oneCycle (fun d => ks.foldl (fun d k => strandLine k (c.word 0).toNat d) d) d)
  | 0x12 => hartSend c.index (c.payload.take (12 + c.hartLen)) d
  | 0x13 => timeSetExec c.ch c.tag c.seq (c.timeMode == 1) c.calTime d
  | 0x20 => plyControl c d
  | 0x30 => updateBegin (c.word 0).toNat d
  | 0x31 => updateData c.index c.payload d
  | 0x32 => updateEnd d
  | _ => configEffect c d

/-- The reply of a read, in index order (R140, R153); `ram` is the retained SRAM. -/
def replyBytes (ram : Nat → Byte) (proj : Dev) (c : Cmd) (d : Dev) : List Byte :=
  (List.range c.count).flatMap (fun i =>
    match c.opcode with
    | 0x01 => leBytes 32 (d.point (c.index + i)).image.toNat
    | 0x08 => leBytes c.entrySize (entryImage ram c.space (c.index + i) d)
    | _ => leBytes 4 (regRead proj (c.object i) d).toNat)

/-- Is an opcode one that returns data (R114). -/
def Cmd.isRead (c : Cmd) : Bool := match opRow c.opcode with
  | some r => r.kind == .read
  | none => false

/-! ### The standing cost with the commands not yet applied (R144) -/

/-- The module with configuration commands applied, in order. DEDUCED: log entry 38. -/
def project (cs : List Cmd) (d : Dev) : Dev := cs.foldl (fun d c => if c.isConfig then configEffect c d else d) d

/-- The module with every admitted command applied (R554). DEDUCED: log entry 38. -/
def Dev.projected (d : Dev) : Dev := project d.admitted d

/-- The tasks that a command starts or arms: task, program bank, refusal of the program, and the module after each, in
ascending task number (R318, R323). DEDUCED: log entry 37. -/
def taskSteps (c : Cmd) (d : Dev) : List (Nat × Option (Nat × Nat) × Dev) :=
  match c.opcode with
  | 0x09 =>
    if c.space ≠ 0x21 then []
    else
      let starts := (List.range c.count).filter (fun i => bit (c.entry i) 108 && (d.task (c.index + i)).st == .disabled)
      let rest := (List.range c.count).filter (fun i => !starts.contains i)
      let d0 := rest.foldl (fun d i => entryWrite c.space (c.index + i) (c.entry i) d) d
      (starts.foldl (fun (a : List (Nat × Option (Nat × Nat) × Dev) × Dev) i =>
        let t := c.index + i
        let pre := a.2.modTask t (fun k => { k with cfg := fld (c.entry i) 0 512 &&& taskMask })
        let post := entryWrite c.space t (c.entry i) a.2
        (a.1 ++ [(t, progRefusal pre t (pre.task t).bank, post)], post)) ([], d0)).1
  | 0x10 =>
    let bank := (fld (c.word 0) 8 1).toNat
    ((maskTasks (fld (c.word 0) 0 8)).foldl (fun (a : List (Nat × Option (Nat × Nat) × Dev) × Dev) t =>
      let post := armTask bank t a.2
      let arms := (a.2.task t).st == .running && bank != (a.2.task t).bank
      (if arms then a.1 ++ [(t, progRefusal a.2 t bank, post)] else a.1, post)) ([], d)).1
  | _ => []

/-- Check 17 of one command over the module that its predecessors leave (R144, R323, R550). -/
def admitOver (c : Cmd) (base : Dev) : Option Refused :=
  ((taskSteps c base).findSome? (fun s => admission c.owner (some (s.1, s.2.1)) base s.2.2)).or
    (admission c.owner none base (configEffect c base))

/-- Checks 16 and 17 of a configuration command with the commands that wait before it (R63, R144). -/
def admitConfig (c : Cmd) (prior : List Cmd) (d : Dev) : Check × Option Refused :=
  let base := project (d.admitted ++ prior) d
  match checkSource c base with
  | some r => (some r, none)
  | none =>
    match admitOver c base with
    | some r => (some (stBudget, 0), some r)
    | none => (none, none)

/-! ### Execution -/

/-- The status of a LIFECYCLE_SET past check 16, and LC_NONCE (R566); other commands pass. DEDUCED: log entry 47. -/
def lifecycleCheck (c : Cmd) (d : Dev) : Check × Dev :=
  if c.opcode = 0x38 then
    let st := lifecycleStatus c.target c.auth d
    (if st = stOk then none else some (st, 0), lifecycleNonce d)
  else (none, d)

/-- The phase F test of a command with the members before it in its group; no term of a subsystem is raised there, so that
SUBSYSTEM is the owner of the space (R127, R550, R553). -/
def phaseFTest (inF : Bool) (prior : List Cmd) (c : Cmd) : Option Refused :=
  let n := ((prior ++ [c]).map Cmd.phaseFCost).sum
  if inF && decide (ceilF < n) then some ⟨refuseWord c.owner 5 0 (n - ceilF), none⟩ else none

/-- Checks 9 to 17 of one member, after the members before it (R111, R124, R144, R553). -/
def checkMember (inF : Bool) (prior : List Cmd) (c : Cmd) (d : Dev) : Check × Dev :=
  match checkAll c inF d, phaseFTest inF prior c with
  | some r, _ => (some r, d)
  | none, some r => (some (stBudget, 0), noteRefused c.ch c.index r d)
  | none, none =>
    if c.isConfig then
      let a := admitConfig c prior d
      (a.1, match a.2 with
        | some r => noteRefused c.ch c.index r d
        | none => d)
    else lifecycleCheck c d

/-- All members of a group: their statuses, and the module after the checks. -/
def checkMembers (inF : Bool) (ms : List Cmd) (d : Dev) : List (Cmd × Check) × Dev :=
  ms.foldl (fun a c =>
    let r := checkMember inF (a.1.map (·.1)) c a.2
    (a.1 ++ [(c, r.1)], r.2)) ([], d)

/-- End members with their statuses: the failing ones their own, the others FENCE_ABORT (R125), a
fenced NOP among them too, for all that R120 says of one alone (DESIGN CHOICE: log entry 98). DEDUCED: log entry 42. -/
def endMembers (rs : List (Cmd × Check)) (d : Dev) : Dev :=
  rs.foldl (fun d r =>
    let st := r.2.getD (stFenceAbort, 0)
    finish r.1.ch r.1.tag st.1 st.2 [] d) d

/-- The slot of a command whose execution goes on: the 16 frames run from the end of its last wait, which was phase F for
a command applied there (R129). -/
def Cmd.goesOn (c : Cmd) (d : Dev) : Cmd :=
  { c with stage := .replying, ready := if c.stage = .admitted then some d.tb.ran else c.ready.or (some d.tb.ran) }

/-- Write the reply of a read (R140, R198). DEDUCED: log entry 74. -/
def startReply (ram : Nat → Byte) (c : Cmd) (d : Dev) : Dev :=
  let bytes := replyBytes ram d.projected c d
  let ch := d.chan c.ch
  let taken := if c.opcode = 0x0C then (List.range c.count).map (fun i => leBits 32 (slice bytes (4 * i) 4)) else []
  let d := d.setSlot { c.goesOn d with taken := taken }
  let d := sendWrite c.ch (.reply c.tag c.seq) (ch.replyBase + BitVec.ofNat 64 c.replyOffset) ch.replyRkey bytes none d
  if d.linkUpFor ch then d else linkWaitReport c.ch d

/-- The effect of one member; a read and a TIME_SET go on past it (R140, R492). -/
def memberEffect (ram : Nat → Byte) (c : Cmd) (d : Dev) : Dev :=
  if c.isRead then startReply ram c d
  else
    let d := operationEffect c d
    if c.opcode = 0x13 then d.setSlot (c.goesOn d) else d

/-- Discard every other command on every channel (R131, R162). -/
def discardOthers (c : Cmd) (d : Dev) : Dev :=
  let keep := (d.slot c.ch c.tag).toList
  let d := (List.range 65).foldl (fun d ch =>
    if (d.inFlight ch).all (fun x => x.ch == c.ch && x.tag == c.tag) then d else discardCommands ch d) d
  { d with cp := { d.cp with
    slots := d.cp.slots.filter (fun x => !(x.ch == c.ch && x.tag == c.tag)) ++ keep, phaseF := [], late := [], restarts := [], closing := true } }

/-- What a DEVICE_RESTART or LIFECYCLE_SET starts once its COMPLETION record is written (R162, R566, R591). DEDUCED: log entry 42. -/
def restartEffect (c : Cmd) (d : Dev) : Dev :=
  match c.opcode with
  | 0x38 =>
    let d := updateAbandon (discardOthers c d)
    { d with
      fuses := { d.fuses with partly := some c.target }
      pwr := { d.pwr with restart := some .lifecycle } }
  | 0x3F =>
    let d := updateAbandon (discardOthers c d)
    { d with pwr := { d.pwr with restart := some (.device (fld (c.word 0) 0 2).toNat) } }
  | _ => d

/-- A command whose restart begins once its COMPLETION record is written, or at once where it writes none (R113, R162). -/
def restartDue (c : Cmd) (d : Dev) : Dev :=
  if c.opcode ≠ 0x38 ∧ c.opcode ≠ 0x3F then d
  else if c.n then restartEffect c d
  else { d with cp := { d.cp with restarts := d.cp.restarts ++ [c] } }

/-- The record of an executed restart command is written, or its channel has closed: the restart begins (R131, R162).
DEDUCED: log entry 42. -/
def restartSettle (d : Dev) : Dev :=
  match d.cp.restarts.find? (fun c => match d.slot c.ch c.tag with
    | some x => x.seq != c.seq
    | none => true) with
  | some c => restartEffect c d
  | none => d

/-- COMPLETION: the record is written, and a restart that waited for it begins (R113, R162). -/
def completionRow (ch : Nat) (d : Dev) : Dev := restartSettle (completionWrite ch d)

/-- The end of one member whose effect took place. DEDUCED: log entry 44. -/
def memberEnd (c : Cmd) (d : Dev) : Dev :=
  match d.slot c.ch c.tag with
  | none => d
  | some x => if x.stage = .replying then d else finish c.ch c.tag stOk 0 [] d

/-- The conditions of R171 on a channel that a command opens, judged again when it is applied. -/
def openStillOk (c : Cmd) (d : Dev) : Bool :=
  c.opcode != 0x0D || (descChans c.regWords).all (fun ch =>
    let i := descImage ch c.regWords d
    descOk c.ch ch i.1 i.2 (regsRaw c.regWords d))

/-- Which members still meet the conditions of R171, each on the state that the members before it leave. -/
def openChecks (ms : List Cmd) (d : Dev) : List (Cmd × Check) :=
  (ms.foldl (fun (a : List (Cmd × Check) × Dev) c =>
    (a.1 ++ [(c, (if openStillOk c a.2 then none else some (stState, 0) : Check))],
      if c.isConfig then configEffect c a.2 else a.2)) ([], d)).1

/-- The effects of the members of a group as one update: those that write, with the read rights that they leave judged
once (R93), then those that read, so that no read observes some effects without the others (R124). DEDUCED: log entries
48, 83. -/
def membersEffect (ram : Nat → Byte) (ms : List Cmd) (d : Dev) : Dev :=
  let d := (ms.filter (fun c => !c.isRead)).foldl (fun d c => memberEffect ram c d) d
  let d := if ms.any Cmd.isConfig then rightsChanged d else d
  (ms.filter Cmd.isRead).foldl (fun d c => memberEffect ram c d) d

/-- Apply the members of a group as one update, or end them (R124, R125, R171). -/
def applyMembers (ram : Nat → Byte) (ms : List Cmd) (d : Dev) : Dev :=
  let late := openChecks ms d
  if late.any (fun r => r.2.isSome) then endMembers late d
  else
    let d := membersEffect ram ms d
    let d := ms.foldl (fun d c => memberEnd c d) d
    ms.foldl (fun d c => restartDue c d) d

/-- Queue the members for the next phase F that begins (R30, R122). DEDUCED: log entry 40. -/
def queueMembers (ms : List Cmd) (d : Dev) : Dev :=
  let d := ms.foldl (fun d c => d.setSlot { c with stage := .admitted }) d
  let xs := ms.map (fun c => (c.ch, c.tag))
  if d.cp.running.isNone && d.cp.late.isEmpty then { d with cp := { d.cp with phaseF := d.cp.phaseF ++ xs } }
  else { d with cp := { d.cp with late := d.cp.late ++ xs } }

/-- Is a group applied in phase F (R122, R124, R143). -/
def inPhaseF (ms : List Cmd) : Bool := ms.any (fun m => m.isConfig || m.t)

/-- Make checks 9 to 17 of a command or its group, then apply it or queue it for phase F (R111, R122 to R127). -/
def runMembers (ram : Nat → Byte) (ms : List Cmd) (d : Dev) : Dev :=
  let r := checkMembers (inPhaseF ms) ms d
  if r.1.any (fun x => x.2.isSome) then endMembers r.1 r.2
  else if inPhaseF ms then queueMembers ms r.2
  else applyMembers ram ms r.2

/-- A command that ends with INTERNAL before its execution: whether a single-object effect took place is open (R130).
DESIGN CHOICE: log entry 78. -/
def internalEffect (c : Cmd) (d : Dev) : Dev :=
  if c.a || c.isRead || decide (1 < c.count) || [0x13, 0x38, 0x3F].contains c.opcode then d
  else
    let passes := match c.stage with
      | .waiting => (checkMember (c.isConfig || c.t) [] c d).1.isNone
      | .admitted => true
      | _ => false
    if !passes then d
    else
      let r := freeBit d
      if !r.1 then r.2
      else
        let d := operationEffect c r.2
        if c.isConfig then rightsChanged d else d

/-- A command ends at the completion limit (R129, R130). -/
def limitCommand (c : Cmd) (d : Dev) : Dev := limitReport c.ch c.tag (internalEffect c d)

/-- Execute the accepted command of a channel and tag, with its group, once nothing holds it and its opcode is the one
that the step names; past the completion limit it ends instead (R129). -/
def execCommand (wants : Cmd → Bool) (ch tag : Nat) (ram : Nat → Byte) (d : Dev) : Dev :=
  match d.slot ch tag with
  | none => d
  | some c =>
    if !wants c || c.stage != .waiting || d.blocked c then d
    else if (d.members c).any (fun m => m.pastLimit d) then (d.members c).foldl (fun d m => limitCommand m d) d
    else runMembers ram (d.members c) d

/-! ### Phase F (R30, R31, R128, R551, R552) -/

/-- An admitted command that no longer fits once cost has been released by a failure (R551). DEDUCED: log entry 38. DEDUCED: log entry 40. -/
def readmit (ms : List Cmd) (d : Dev) : Option (Cmd × Refused) :=
  if !d.cp.recheck then none
  else
    (ms.foldl (fun (a : Option (Cmd × Refused) × List Cmd) c =>
      match a.1 with
      | some r => (some r, a.2)
      | none =>
        if c.isConfig then ((admitOver c (project a.2 d)).map (fun r => (c, r)), a.2 ++ [c]) else (none, a.2 ++ [c]))
      (none, [])).1

/-- One queued command or group: the module after it and the cycles it used; `none`: it does not fit any more. -/
def phaseFItem (ram : Nat → Byte) (room : Nat) (ms : List Cmd) (d : Dev) : Option (Nat × Dev) :=
  let out := { d with cp := { d.cp with phaseF := d.cp.phaseF.filter (fun x => !ms.any (fun c => c.ch == x.1 && c.tag == x.2)) } }
  if ms.any (fun c => c.stale d) then some (0, endMembers (ms.map (fun c => (c, some (stStale, 0)))) d)
  else
    match readmit ms d with
    | some (c, r) =>
      some (0, endMembers (ms.map (fun x => (x, if x.tag = c.tag then some (stBudget, 0) else none)))
        (noteRefused c.ch c.index r d))
    | none =>
      let cost := (ms.map Cmd.phaseFCost).sum
      if room < cost then none else some (cost, applyMembers ram ms out)

/-- Apply the queue in order; true: work was carried to the next phase F. DEDUCED: log entry 40. -/
def phaseFLoop (ram : Nat → Byte) : Nat → Nat → Dev → Bool × Dev
  | 0, _, d => (false, d)
  | n + 1, room, d =>
    match d.cp.phaseF with
    | [] => (false, { d with cp := { d.cp with recheck := false } })
    | (ch, tag) :: rest =>
      match d.slot ch tag with
      | none => phaseFLoop ram n room { d with cp := { d.cp with phaseF := rest } }
      | some c =>
        match phaseFItem ram room (d.members c) d with
        | none => (true, d)
        | some (used, d') => phaseFLoop ram n (room - used) d'

/-- The commands of phase F, of which `reach` items at most; what is left, beyond the ceiling or beyond the window, is
carried and overruns (R49, R552). -/
def phaseFCommands (ram : Nat → Byte) (reach : Option Nat) (d : Dev) : Dev :=
  let fuel := match reach with
    | some n => min n (d.cp.phaseF.length + 1)
    | none => d.cp.phaseF.length + 1
  let r := phaseFLoop ram fuel ceilF d
  noteCut .f (r.1 || (reach.isSome && !r.2.cp.phaseF.isEmpty)) r.2

/-- Phase F begins: which commands it applies is settled, and their effects are visible from the end of the window on
(R30). DEDUCED: log entry 88. -/
def beginPhaseF (stopped : Bool) (reach : Option Nat) (d : Dev) : Dev :=
  { d with cp := { d.cp with running := some (stopped, reach) } }

/-- The end of the window of phase F: its commands take effect; those admitted meanwhile follow what it carries (R30, R49).
DEDUCED: log entry 18. DEDUCED: log entry 88. -/
def endPhaseF (ram : Nat → Byte) (d : Dev) : Dev :=
  match d.cp.running with
  | none => d
  | some (stopped, reach) =>
    let d := { d with cp := { d.cp with running := none } }
    let d := if stopped then noteCut .f (!d.cp.phaseF.isEmpty) d else phaseFCommands ram reach d
    { d with cp := { d.cp with phaseF := d.cp.phaseF ++ d.cp.late, late := [] } }

/-! ### Acceptance (R100 to R112, R123, R126) -/

/-- Is a command the next member of an open group (R123). -/
def Group.next (g : Group) (c : Cmd) : Bool :=
  c.a && c.groupId == g.id && c.groupSize == g.size && c.groupPos == g.got &&
    c.seq == g.firstSeq + BitVec.ofNat 64 g.got && c.t == g.tFlag && c.notAfter == g.notAfter && !c.f

/-- A slot is free; of the commands in flight on a channel one holds the reserved slot, whichever ends first (R108; DESIGN
CHOICE: log entry 114). -/
def Dev.slotFree (d : Dev) (ch : Nat) : Bool :=
  let n := (d.inFlight ch).length
  let shared := ((List.range 65).map (fun c => (d.inFlight c).length - 1)).sum
  decide (n < 32) && (n == 0 || decide (shared < 63))

/-- A command that fails checks 1 to 8 completes at once and takes no slot; its failure is none that a barrier already
waiting clears (R111, R112, R120). DEDUCED: log entry 41. -/
def refuseCommand (ch : Nat) (hdr : BitVec 256) (seq : W64) (status : Nat) (d : Dev) : Dev :=
  let b := d.barrierSeq ch
  pushCompletion ch (completionOf d hdr seq status 0 [] false)
    (lifecycleRefused (fld hdr 24 8).toNat status
      (noteStatus ch none status (d.modChan ch (fun c => { c with faultAfter := b.or c.faultAfter }))))

/-- Put a command into a slot. -/
def takeSlot (c : Cmd) (d : Dev) : Dev :=
  let slots := d.cp.slots ++ [c]
  { d with cp := { d.cp with slots := slots, poolPeak := maxU d.cp.poolPeak (BitVec.ofNat 8 slots.length) } }

/-- A command that is not the next member of an open group: alone, the first member of a group, or a member of a broken
group (R123, R126). -/
def acceptFresh (c : Cmd) (d : Dev) : Dev :=
  let d := takeSlot c d
  if !c.a then pollReady c.ch d
  else if c.groupPos = 0 ∧ 2 ≤ c.groupSize ∧ c.groupSize ≤ 16 then
    d.modChan c.ch (fun x => { x with
      group := some ⟨c.groupId, c.groupSize, c.seq, c.t, c.notAfter, 1, false, d.tb.ran⟩, broken := none })
  else
    let known := c.groupPos != 0 && (d.chan c.ch).broken == some (c.groupId, c.groupSize)
    let d := endCommand c.ch c.tag stState (d.modChan c.ch (fun x => { x with broken := some (c.groupId, c.groupSize) }))
    if known then d else report { ev 0x0304 true c.ch c.groupId.toNat with dests := destsCh c.ch } d

/-- A command that has passed checks 1 to 8 takes its slot (R107, R123, R126). -/
def acceptSlot (c : Cmd) (d : Dev) : Dev :=
  match (d.chan c.ch).group with
  | none => acceptFresh c d
  | some g =>
    if 16 ≤ framesSince g.since d then acceptFresh c (breakGroup c.ch d)
    else if g.next c then
      let d := takeSlot c d
      let got := g.got + 1
      let d := d.modChan c.ch (fun x => { x with group := if got = g.size then none else some { g with got := got } })
      if g.aborted then endCommand c.ch c.tag stFenceAbort d
      else if got = g.size then pollReady c.ch d else d
    else if c.a && c.groupPos != 0 then
      endCommand c.ch c.tag stState (takeSlot c (breakGroup c.ch d))
    else acceptFresh c (breakGroup c.ch d)

/-- Header keep-0 bits, HDR_VER and the group fields (check 4, R101). DEDUCED: log entry 41. -/
def headerOk (h : BitVec 256) : Bool :=
  fld h 0 8 == 2#8 && fld h 13 3 == 0#3 && (bit h 12 || (fld h 120 8 == 0#8 && fld h 112 8 == 0#8 && fld h 56 8 == 0#8))

/-- A refused command that would have been the first member of a group: its other members complete FENCE_ABORT (R125). -/
def refusedFirst (c : Cmd) (d : Dev) : Dev :=
  if c.a ∧ c.groupPos = 0 ∧ 2 ≤ c.groupSize ∧ c.groupSize ≤ 16 then
    d.modChan c.ch (fun x => { x with
      group := some ⟨c.groupId, c.groupSize, c.seq, c.t, c.notAfter, 1, true, d.tb.ran⟩, broken := none })
  else d

/-- A command that fails one of the checks 4 to 8 has arrived: as the next member of an open group it fails that group, and
otherwise it breaks it, as it does one whose 16 frames have passed (R125, R126). A header of another version spells no
member. DEDUCED: log entry 87. -/
def arrivalRefused (c : Cmd) (d : Dev) : Dev :=
  let known := fld c.hdr 0 8 == 2#8
  match (d.chan c.ch).group with
  | none => if known then refusedFirst c d else d
  | some g =>
    if known && g.next c && decide (framesSince g.since d < 16) then
      (abortGroup c.ch d).modChan c.ch (fun x => { x with
        group := if g.got + 1 = g.size then none else some { g with got := g.got + 1, aborted := true } })
    else if known then refusedFirst c (breakGroup c.ch d) else breakGroup c.ch d

/-- Checks 4 to 8 and the slot (R111). DEDUCED: log entry 41. -/
def acceptChecked (ch : Nat) (hdr : BitVec 256) (msg : List Byte) (d : Dev) : Dev :=
  let c : Cmd := ⟨ch, hdr, (msg.drop 32).take (msg.length - 48), .waiting, d.tb.frame, none, []⟩
  let refuse (status : Nat) : Dev := refuseCommand ch hdr c.seq status (arrivalRefused c d)
  if !headerOk hdr then refuse stState
  else if c.payloadLen % 4 ≠ 0 ∨ c.payloadLen + 48 ≠ msg.length then refuse stBadLength
  else if 127 < c.tag then refuse stBadIndex
  else if (d.slot ch c.tag).isSome then refuse stState
  else if !d.slotFree ch then
    reportLimited ch 1 { ev 0x0302 false ch 0 with dests := destsCh ch }
      (refuseCommand ch hdr c.seq stBudget
        (arrivalRefused c { d with cp := { d.cp with budgetCnt := satAdd d.cp.budgetCnt 1 } }))
  else acceptSlot c d

/-- A SEND that carries the expected PSN: checks 1 to 3, then the rest (R100, R104, R111, R112, R188). A command that fails
one of the first three is not shown to be a member, and breaks an open group (R126). DEDUCED: log entries 41, 87. -/
def acceptMessage (ch : Nat) (msg : List Byte) (imm : Option Reg) (d : Dev) : Dev :=
  if d.cp.closing || d.sec.ending.isSome then d
  else
    let hdr := leBits 256 (slice msg 0 32)
    if msg.length < 48 ∨ 4096 < msg.length then
      refuseCommand ch (if msg.length < 3 then hdr &&& 0xFF00FFFF else hdr) 0 stBadLength (breakGroup ch d)
    else
      let seq := fld hdr 128 64
      let body := msg.take (msg.length - 16)
      let iv := leBytes 8 seq.toNat ++ [BitVec.ofNat 8 ch, 0, 0, 0]
      if gmac d.sec.key iv body ≠ msg.drop (msg.length - 16) ∨ seq ≤ (d.chan ch).lastSeq then
        reportLimited ch 1 { ev 0x0301 true ch 0 with dests := destsCh ch }
          (refuseCommand ch hdr seq stAuth
            (breakGroup ch { d with cp := { d.cp with authCnt := satAdd d.cp.authCnt 1 } }))
      else
        let d := d.modChan ch (fun c => { c with lastSeq := seq })
        let d := d.modSec (fun s => { s with idle := 0 })
        let d := match imm with
          | some v => consumerUpdate ch v d
          | none => d
        acceptChecked ch hdr msg d

/-- The module's queue pair of a channel (R167), and the UDP port of RoCE v2 (R165). -/
def qpnOf (ch : Nat) : BitVec 24 := BitVec.ofNat 24 (0x100 + ch)
def rocePort : Nat := 4791

/-- Is a packet for an open channel: family, address, port and queue pair (R165, R167, R204). -/
def Dev.forChannel (d : Dev) (ch : Nat) (p : SendPkt) : Bool :=
  let c := d.chan ch
  let x := d.port c.portNo
  c.st == .opened && p.ipv6 == c.ipv6 && p.udpPort == rocePort && p.qpn == qpnOf ch &&
    p.dstIp == (if c.ipv6 then x.ip6Bits else x.ip4.setWidth 128)

/-- Is a packet of a SEND well formed where it stands: its length, and the message it begins or goes on (R165, R174). PRESUMED: log entry 50. -/
def packetOk (c : Channel) (p : SendPkt) (imm : Option Reg) : Bool :=
  let n := p.data.length
  match p.form with
  | .first => c.rx.isNone && n == c.mtu && imm.isNone
  | .middle => c.rx.isSome && n == c.mtu && imm.isNone
  | .last => c.rx.isSome && decide (1 ≤ n ∧ n ≤ c.mtu)
  | .only => c.rx.isNone && decide (n ≤ c.mtu)

/-- A packet with the expected PSN goes on the message; the last one hands it to the command processor (R165, R168).
PRESUMED: log entry 50. -/
def acceptPacket (ch : Nat) (p : SendPkt) (imm : Option Reg) (d : Dev) : Dev :=
  let c := d.chan ch
  if !packetOk c p imm then invalidAnswer ch d
  else
    let msg := c.rx.getD [] ++ p.data
    let c := { c with expPsn := p.psn + 1 }
    match p.form with
    | .first => d.setChan ch { c with rx := some msg }
    | .middle => d.setChan ch { c with rx := some msg }
    | _ => acceptMessage ch msg imm ((d.setChan ch { c with rx := none }).emit (.ack ch p.psn))

/-- COMMAND_ACCEPT: a packet of a SEND, the command being whole with the last one; a duplicate is acknowledged again, one
ahead of the expected PSN is answered with NAK (R165, R168, R111, R204). PRESUMED: log entry 50. -/
def commandAccept (ch : Nat) (head : FrameHead) (p : SendPkt) (imm : Option Reg) (d : Dev) : Dev :=
  let c := d.chan ch
  if !d.linkUpFor c then d
  else rxArrive c.portNo head (fun d =>
    if !d.forChannel ch p then d
    else if p.psn = c.expPsn then acceptPacket ch p imm d
    else if (c.expPsn - p.psn).toNat < 2 ^ 23 then d.emit (.ack ch (c.expPsn - 1))
    else d.emit (.nak ch c.expPsn 0)) d

/-- GROUP_ARRIVAL_TIMEOUT (R126). -/
def groupTimeout (ch : Nat) (d : Dev) : Dev :=
  match (d.chan ch).group with
  | none => d
  | some g => if 16 ≤ framesSince g.since d then breakGroup ch d else d

/-- An uncorrectable error in the held state of a command, or a control core that fails while it executes the command: it
ends with INTERNAL, and a group of which a member fails before its execution ends so as a whole (R124, R130). DESIGN
CHOICE: log entry 78. -/
def commandMemory (ch tag : Nat) (d : Dev) : Dev :=
  match d.slot ch tag with
  | none => d
  | some c => match c.stage with
    | .finished => d
    | .replying => internalEnd ch tag d
    | .ended _ => d.setSlot { c with stage := .ended stInternal }
    | _ =>
      if c.a then
        finishAll (d.members c) stInternal (d.modChan ch (fun x => match x.group with
          | none => x
          | some g => if g.id = c.groupId ∧ g.firstSeq = c.seq - BitVec.ofNat 64 c.groupPos then
              { x with group := none, broken := some (g.id, g.size) } else x))
      else if d.behindBarrier c then endCommand ch tag stInternal d
      else finish ch tag stInternal 0 [] (internalEffect c d)

/-- An uncorrectable error in a downlink buffer: every output of the node's entry is in failsafe (R283); the words of
those outputs are open (R279; DESIGN CHOICE: log entry 8). DEDUCED: log entry 79. -/
def downlinkMemory (k a : Nat) (d : Dev) : Dev :=
  let c := (d.node (nodeKey k a)).cfg
  if !nodeEn c then d
  else d.modStrand k (fun s =>
    let b : Downlink := ⟨maskOf 32 [(nodeIn c, nodeOut c)], (s.buffer a c).values.map Config.maskedWord⟩
    { s with downlink := tput s.downlink a b })

/-- SCRUB_PASS: the pass and the errors are counted; held commands and downlink buffers that fail take the effect that
their rules give (R130, R283, R638). DESIGN CHOICE: log entry 78. DEDUCED: log entry 79. -/
def scrubPass (x : ScrubIn) (d : Dev) : Dev :=
  let d := { d with flt := { d.flt with
    scrubPass := d.flt.scrubPass + 1
    eccCorr := satAdd d.flt.eccCorr x.corrected
    eccUncorr := satAdd d.flt.eccUncorr (x.commands.length + x.downlinks.length + x.others) } }
  let d := x.downlinks.foldl (fun d y => if y.1 < 16 then downlinkMemory y.1 y.2 d else d) d
  x.commands.foldl (fun d y => commandMemory y.1 y.2 d) d

/-- COMMAND_LIMIT (R129). DEDUCED: log entry 43. -/
def commandLimit (ch tag : Nat) (d : Dev) : Dev :=
  match d.slot ch tag with
  | none => d
  | some c =>
    if (c.stage == .waiting || c.stage == .replying) && c.pastLimit d then limitCommand c d else d

/-- The groups and commands whose 16 frames have passed (R126, R129, R555; DESIGN CHOICE: log entry 12). -/
def settleLimits (d : Dev) : Dev :=
  let d := (List.range 65).foldl (fun d ch => groupTimeout ch d) d
  d.cp.slots.foldl (fun d c => commandLimit c.ch c.tag d) d

/-! ### The opcodes -/

/-- NOP: also an OPCODE that the module does not define (R111, R120, R135). DESIGN CHOICE: log entry 45. -/
def cmdNop : Cmd → Bool := fun c => c.opcode == 0 || (opRow c.opcode).isNone
/-- A command of one opcode. -/
def cmdOp (op : Nat) : Cmd → Bool := fun c => c.opcode == op
/-- STRAND_LINE of one ACTION; ACTION 3 goes with OFF. DESIGN CHOICE: log entry 45. -/
def cmdLine (action : Nat) : Cmd → Bool := fun c =>
  c.opcode == 0x11 && (let a := (fld (c.word 0) 0 2).toNat; a == action || (action == 0 && a == 3))
/-- TIME_SET of one MODE; the keep modes go with the step. DESIGN CHOICE: log entry 45. -/
def cmdTime (slew : Bool) : Cmd → Bool := fun c => c.opcode == 0x13 && ((c.timeMode == 1) == slew)
/-- PLY_CONTROL of one ACTION; the undefined ones go with PAIR. -/
def cmdPly (action : Nat) : Cmd → Bool := fun c =>
  c.opcode == 0x20 && (c.plyAction == action || (action == 1 && !([1, 2, 3, 4].contains c.plyAction)))

end Sys2Proof.Machine
end

