-- ==== Sys2Proof/Machine/Acks.lean ====
section
/-!
DEFINITION. The acknowledgements and negative acknowledgements of the host (R140, R152, R165, R187, R196, R197), and the
end of the commands whose reply they acknowledge.
-/
namespace Sys2Proof.Machine

/-- A READ_REG completes with OK: each RC register loses what the reply carried of it, and other reads of the same
registers that are under way keep only what is left to clear for them (R16, R17, R152). DEDUCED: log entries 44, 46. -/
def readClears (c : Cmd) (d : Dev) : Dev :=
  if c.opcode ≠ 0x0C then d
  else
    let d := (List.range c.count).foldl (fun d i => (regDef (c.object i)).clear (c.taken.getD i 0) d) d
    { d with cp := { d.cp with slots := d.cp.slots.map (fun x =>
        if x.opcode ≠ 0x0C ∨ (x.ch = c.ch ∧ x.tag = c.tag) then x
        else { x with taken := (x.taken.zip (List.range x.taken.length)).map (fun v =>
          let o := x.object v.2
          if c.index ≤ o ∧ o < c.index + 4 * c.count then (regDef o).left (c.taken.getD ((o - c.index) / 4) 0) v.1 else v.1) }) } }

/-- A reply area write has been acknowledged: its command completes (R129, R140). -/
def replyAcked (ch tag : Nat) (seq : W64) (reply : List Byte) (d : Dev) : Dev :=
  match d.slot ch tag with
  | some c =>
    if c.stage ≠ .replying ∨ c.seq ≠ seq then d
    else if c.pastLimit d then limitReport ch tag d
    else finish ch tag stOk 0 reply (readClears c d)
  | none => d

/-- How many packets of the oldest request an acknowledgement covers. -/
def ackInto (psn : BitVec 24) (old : Nat) (same : Bool) (rest : List Req) : Nat :=
  match rest with
  | [] => 0
  | r :: _ =>
    let n := (psn - r.psn).toNat
    if 2 ^ 23 ≤ n then (if same then old else 0) else max (if same then old else 0) (n + 1)

/-- The frame in which a channel's host sends ACK or NAK (R165, R204): as long as the module's own. PRESUMED: log entry 89. -/
def Dev.ackHead (d : Dev) (ch : Nat) : FrameHead :=
  let x := d.port (d.chan ch).portNo
  ⟨some (BitVec.ofNat 3 x.pcp, x.vid), if (d.chan ch).ipv6 then 0x86DD else 0x0800, (d.roceItem ch 0 false .ack []).2.len, true⟩

/-- The host acknowledges every packet up to a PSN (R165, R187). DESIGN CHOICE: log entry 77. -/
def hostAck (ch : Nat) (psn : BitVec 24) (d : Dev) : Dev :=
  let c := d.chan ch
  match c.unacked with
  | [] => d
  | r0 :: _ =>
    let done := (psn - r0.psn).toNat
    if c.st ≠ .opened ∨ 2 ^ 23 ≤ done then d
    else
      let acked := c.unacked.filter (fun r => decide ((r.lastPsn - r0.psn).toNat ≤ done))
      let rest := c.unacked.filter (fun r => !decide ((r.lastPsn - r0.psn).toNat ≤ done))
      let pkts := ackInto psn c.ackedPkts (acked == []) rest
      let gain := acked != [] || decide (c.ackedPkts < pkts)
      let seq := acked.foldl (fun s r => match r.kind with
        | .records up => up
        | _ => s) c.ackedSeq
      let d := d.setChan ch { c with
        unacked := rest, ackedPkts := pkts, ackedSeq := seq
        retries := if gain then 0 else c.retries
        rnrTries := if gain then 0 else c.rnrTries }
      acked.foldl (fun d r => match r.kind with
        | .reply tag seq => replyAcked ch tag seq r.data d
        | _ => d) d

/-- The host answers with NAK (R174, R196, R197). -/
def hostNak (ch : Nat) (psn : BitVec 24) (kind : NakKind) (d : Dev) : Dev :=
  let c := d.chan ch
  if c.st ≠ .opened ∨ c.unacked = [] then d
  else
    let d := hostAck ch (psn - 1) d
    match kind with
    | .remoteAccess => errorChannel ch 3 d
    | .remoteOp => errorChannel ch 4 d
    | .sequence => resend ch d
    | .rnr =>
      let c := d.chan ch
      if c.rnrTries < c.rnrRetry then d.setChan ch { c with rnrTries := c.rnrTries + 1, rnrWait := true }
      else errorChannel ch 2 d

/-- INVALID_REQUEST: the packet arrives in its frame (R203, R204). -/
def invalidRequest (x : RequestIn) (d : Dev) : Dev := rxArrive (d.chan x.ch).portNo x.head (invalidAnswer x.ch) d

/-- HOST_ACK and HOST_NAK: they arrive in their frames (R203, R204). -/
def hostAckFrame (ch : Nat) (psn : BitVec 24) (d : Dev) : Dev := rxArrive (d.chan ch).portNo (d.ackHead ch) (hostAck ch psn) d
def hostNakFrame (ch : Nat) (psn : BitVec 24) (kind : NakKind) (d : Dev) : Dev :=
  rxArrive (d.chan ch).portNo (d.ackHead ch) (hostNak ch psn kind) d

end Sys2Proof.Machine
end

