-- ==== Sys2Proof/Machine/Frame.lean ====
section
/-!
DEFINITION. What a sample boundary, a frame start and a window-end strobe do: the work of the phases in its fixed order
(R22 to R36, R49, R642) and the work that goes with every sample and every frame.
-/
namespace Sys2Proof.Machine

/-! ### How far a phase gets (R49, R642) -/

/-- Items of step `s` that are reached; `none`: all. -/
def stepLimit (reach : Option (Nat × Nat)) (s : Nat) : Option Nat :=
  match reach with
  | none => none
  | some r => if s < r.1 then none else if s = r.1 then some r.2 else some 0

/-- The items reached. -/
def reached {α : Type} (lim : Option Nat) (xs : List α) : List α :=
  match lim with
  | none => xs
  | some n => xs.take n

/-- The items not reached. -/
def unreached {α : Type} (lim : Option Nat) (xs : List α) : List α :=
  match lim with
  | none => []
  | some n => xs.drop n

/-- Is work left, by the number of items of each step from step 1 on. -/
def workLeft (reach : Option (Nat × Nat)) (counts : List Nat) : Bool :=
  match reach with
  | none => false
  | some r => (counts.zip (List.range counts.length)).any (fun x =>
      if x.2 + 1 < r.1 then false else if x.2 + 1 = r.1 then decide (r.2 < x.1) else decide (0 < x.1))

/-! ### Phase A (R26, R34, R379, R642) -/

/-- Slot results in ascending node address (R642). -/
def resultsByNode (rs : List (Nat × SlotResult)) : List (Nat × SlotResult) :=
  (List.range 256).flatMap (fun a => rs.filter (fun r => decide (r.1 = a)))

/-- The replies that wait for the commit: strand, cycle and slot result, in ascending strand and node (R280, R642). -/
def Dev.strandDue (d : Dev) : List (Nat × Cycle × (Nat × SlotResult)) :=
  (List.range 16).flatMap (fun k => match (d.strand k).done with
    | none => []
    | some cy => (resultsByNode cy.results).map (fun r => (k, cy, r)))

/-- The metering quantities that are due: channel, quantity, value (R379). -/
def Dev.meterDue (d : Dev) : List (Nat × Nat × Quant) :=
  (d.mt.chans.filter (fun c => c.2.en)).flatMap (fun c => c.2.dueList.map (fun q => (c.1, q.1, q.2)))

/-- A quantity has been written. DEDUCED: log entry 16. -/
def meterWritten (c q : Nat) (d : Dev) : Dev := d.setMchan c { d.mchan c with due := tset none (d.mchan c).due q none }

/-- Phase A; `cal`: calendar time of sample 0 of the frame before. DEDUCED: log entry 16. -/
def phaseA (reach : Option (Nat × Nat)) (cal : W64) (d : Dev) : Dev :=
  let lim := stepLimit reach
  let s := d.strandDue
  let d := (reached (lim 1) s).foldl (fun d x => commitSlot x.1 x.2.1 x.2.2 d) d
  let d := (List.range 16).foldl (fun d k =>
    if (d.strand k).done.isSome then d.modStrand k (fun x => { x with done := none }) else d) d
  let m := d.meterDue
  let d := (reached (lim 2) m).foldl (fun d x => meterWritten x.1 x.2.1 (quantCommit x.1 x.2.1 x.2.2 d)) d
  let d := if (unreached (lim 2) m).isEmpty then meterAfterA d else d
  let d := (reached (lim 3) (List.range 8)).foldl (fun d k => clCommit k cal d) d
  let d := (unreached (lim 3) (List.range 8)).foldl (fun d k => clClear k d) d
  let p := if d.diag.en then List.range 14 else []
  let d := (reached (lim 4) p).foldl (fun d i => safetyPoint i d) d
  let l := d.enabledLoops false
  let d := (reached (lim 5) l).foldl (fun d j => loopLatch j d) d
  noteCut .a (workLeft reach [s.length, m.length, 8, p.length, l.length]) d

/-! ### Phases B and C (R27, R311, R333) -/

/-- A joining module scans no task and executes no loop (R520, R531). -/
def Dev.joining (d : Dev) : Bool := d.ply.role == .joining

/-- Phase B. -/
def phaseB (cuts : List (Nat × ScanCut)) (d : Dev) : Dev :=
  if d.joining then d
  else
    let d := scanAll cuts d
    noteCut .b (d.lg.tasks.any (fun t => match t.2.scan with
      | some (.overrun _) | some .skipped => true
      | _ => false)) d

/-- Phase C. -/
def phaseC (reach : Option (Nat × Nat)) (d : Dev) : Dev :=
  if d.joining then d
  else
    let d := loopsPhaseC (stepLimit reach 1) d
    noteCut .c d.lp.cutAt.isSome d

/-! ### Phase D (R28, R29, R534) -/

/-- A scan that phase D did not reach is not committed later (R49). -/
def scanLost (t : Nat) (d : Dev) : Dev :=
  exchangeEnd t <| d.modTask t (fun k => { k with scan := match k.scan with
    | some (.done _) => none
    | x => x })

/-- Phase D. DEDUCED: log entry 17. -/
def phaseD (reach : Option (Nat × Nat)) (d : Dev) : Dev :=
  let lim := stepLimit reach
  let tasks := List.range 8
  let d := (reached (lim 1) tasks).foldl (fun d t => taskCommit t d) d
  let d := (unreached (lim 1) tasks).foldl (fun d t => scanLost t d) d
  let loops := d.enabledLoops false
  let d := (reached (lim 2) loops).foldl (fun d j => loopCommit j d) d
  let d := (unreached (lim 2) loops).foldl (fun d j => d.modLoop j (fun l => { l with out := none })) d
  let outs := (List.range 8).filter (fun k => (d.cloop k).isOutput)
  let d := (reached (lim 3) outs).foldl (fun d k => clOutput k d) d
  let d := (reached (lim 4) (List.range 16)).foldl (fun d k => strandDownlink k d) d
  cutoverFreeze (noteCut .d (workLeft reach [tasks.length, loops.length, outs.length, 16]) d)

/-! ### Phase E (R86, R91, R183, R467, R471, R535, R642) -/

/-- One step of the delay sweep: every level of an entry. -/
def sweepAlarm (e : Nat) (d : Dev) : Dev := d.setAlarm e (alarmSweep (d.alarmQuality e) (d.alarm e))

/-- Entries with a level whose delay runs. -/
def Dev.delayingAlarms (d : Dev) : List Nat :=
  (d.ps.alarms.filter (fun a => a.2.levels.any (fun l => match l.2 with
    | .delaying _ => true
    | _ => false))).map (·.1)

/-- The entries that the notification scan emits: alarms (true) and subscriptions, at most NOTIFY_MAX (R91, R92). -/
def Dev.notices (d : Dev) : List (Bool × Nat) :=
  (d.alarmsDue.map (fun e => (true, e)) ++ d.subsDue.map (fun e => (false, e))).take d.ps.notifyMax.toNat

/-- Emit one entry. -/
def emitNotice (x : Bool × Nat) (d : Dev) : Dev := if x.1 then emitAlarm x.2 d else emitSub x.2 d

/-- Creation copies that wait (R471). -/
def Dev.copiesDue (d : Dev) : Nat := if bit d.rcd.cfg 17 then min d.rcd.copyMax.toNat (d.rcd.next - d.rcd.copied).toNat else 0

/-- The copy-out within the window (R471, R472). -/
def copyOutN (lim : Option Nat) (d : Dev) : Dev :=
  match lim with
  | none => copyOut d
  | some n => if bit d.rcd.cfg 17 then copyLoop (min n d.rcd.copyMax.toNat) d else d

/-- Phase E. -/
def phaseE (reach : Option (Nat × Nat)) (d : Dev) : Dev :=
  let lim := stepLimit reach
  let t := (List.range 16).filter (fun t => d.trigEn t)
  let d := (reached (lim 1) t).foldl (fun d t => pointTrigger t d) d
  let a := d.delayingAlarms
  let d := (reached (lim 2) a).foldl (fun d e => sweepAlarm e d) d
  let n := d.notices
  let d := scanEnd ((reached (lim 3) n).foldl (fun d x => emitNotice x d) d)
  let c := d.copiesDue
  let d := copyOutN (lim 4) d
  let d := cutoverSend d.frozenItems d
  let m := (d.mirrorDue.take d.ply.mirrorMax.toNat).length
  let d := mirrorSend ((lim 5).getD m) d
  let q := d.tr.evq.length
  let d := drainQueue ((lim 6).getD q) d
  sessionPhaseE (noteCut .e (workLeft reach [t.length, a.length, n.length, c, m, q]) d)

/-! ### Phase F (R30, R31, R36, R642) -/

/-- Phase F begins with the stroke; with the control cores standing still nothing of it happens. DEDUCED: log entry 18. -/
def phaseF (stopped : Bool) (reach : Option (Nat × Nat)) (d : Dev) : Dev :=
  beginPhaseF stopped (stepLimit reach 2) (if stopped then d else latchStroke d)

/-! ### The strobe of a window (R24, R49, R50) -/

/-- Last sample of each phase (R22). -/
def phaseEnd : Phase → Nat
  | .a => 1
  | .b => 13
  | .c => 19
  | .d => 20
  | .e => 27
  | .f => 31

/-- The overrun of a phase that was cut, with the effects at its strobe (R49, R311, R315, R355). DEDUCED: log entry 18. -/
def phaseStrobe (p : Phase) (d : Dev) : Dev :=
  if d.tb.cut.contains p then
    oneCycle (fun d => overrun p (match p with
      | .b => (List.range 8).foldl (fun d t => taskStrobe t d) d
      | .c => loopsStrobe d
      | _ => d)) d
  else d

/-- Every phase that was cut and that no strobe has reported (DESIGN CHOICE: log entry 12). -/
def settleStrobes (d : Dev) : Dev := d.tb.cut.foldl (fun d p => phaseStrobe p d) d

/-- The largest value stays (R308, R330). DESIGN CHOICE: log entry 24. -/
def noteLanePeak (x : Nat × Nat) (d : Dev) : Dev :=
  if x.1 < 4 then
    { d with lg := { d.lg with lanePeak := tset 0 d.lg.lanePeak x.1 (maxU (tget 0 d.lg.lanePeak x.1) (satNat 32 x.2)) } }
  else d
def noteTaskPeak (x : Nat × Nat) (d : Dev) : Dev :=
  if x.1 < 8 then d.modTask x.1 (fun k => { k with peakCyc := maxU k.peakCyc (satNat 32 x.2) }) else d

/-- WINDOW_END_STROBE: the effects of phase F, the overrun, and the cycles measured (R24, R30, R49, R50, R644). DESIGN
CHOICE: log entry 24. -/
def windowEndStrobe (x : WindowIn) (ram : Nat → Byte) (d : Dev) : Dev :=
  if d.tb.sample ≠ phaseEnd x.phase then d
  else
    let d := if x.phase = .f then endPhaseF ram (fastWrite none d) else d
    let d := notePeak x.phase x.peak (phaseStrobe x.phase d)
    if x.phase = .b then x.tasks.foldl (fun d t => noteTaskPeak t d) (x.lanes.foldl (fun d l => noteLanePeak l d) d) else d

/-! ### What goes with every sample (R32 to R35, R240, R334, R412) -/

/-- The converters' readings, named or held (DESIGN CHOICE: log entry 10). DEDUCED: log entry 14. -/
def takeReadings (r : Readings) (d : Dev) : Dev :=
  { d with inp := { d.inp with
      line := r.line.foldl (fun t x => if x.1 < 16 then tset (0, 0, 0) t x.1 x.2 else t) d.inp.line
      meter := r.meter.foldl (fun t x => if x.1 < 78 then tset 0 t x.1 x.2 else t) d.inp.meter
      cl := r.cl.foldl (fun t x => if x.1 < 8 then tset 0 t x.1 x.2 else t) d.inp.cl } }

/-- Conversions of the sample that ends. DEDUCED: log entry 14. -/
def sampleReads (r : Readings) (d : Dev) : Dev :=
  let d := takeReadings r d
  let d := (List.range 8).foldl (fun d k => clSample k (tget 0 d.inp.cl k) d) d
  let d := (List.range 16).foldl (fun d k =>
    let x := tget (0, 0, 0) d.inp.line k
    lineSample k x.1 x.2.1 x.2.2 d) d
  portsSample (meterSamples d.inp.meter d)

/-- The fast pipeline latches, unless the module joins. DEDUCED: log entry 20. DEDUCED: log entry 21. -/
def fastSample (d : Dev) : Dev := if d.joining then d else fastLatch d

/-- What fell due before this boundary and found no command of its own (DESIGN CHOICE: log entry 12). -/
def settleSample (d : Dev) : Dev := egressSample (settleBackup (plySettle (fastWrite none (saveSample d))))

/-- The phase that begins with a sample. -/
def phaseAt (x : SampleIn) (d : Dev) : Dev :=
  match d.tb.sample with
  | 2 => phaseB x.cuts (settleStrobes d)
  | 14 => phaseC x.reach (settleStrobes d)
  | 20 => phaseD x.reach (settleStrobes d)
  | 21 => phaseE x.reach (settleStrobes d)
  | 28 => phaseF x.stopped x.reach (settleStrobes d)
  | _ => d

/-- SAMPLE_BOUNDARY into a sample of 1 to 31. -/
def sampleBoundary (x : SampleIn) (d : Dev) : Dev :=
  if 31 ≤ d.tb.sample then d
  else
    let d := restartSettle (x.coreFail.foldl (fun d y => commandMemory y.1 y.2 d) (settleSample d))
    let d := d.modTb (fun t => { t with sample := t.sample + 1 })
    phaseAt x (oneCycle (fun d => fastSample (ppsSample (sampleReads x.reads d))) d)

/-- A boundary that names no reading and cuts nothing. -/
def quietSample : SampleIn := ⟨⟨[], [], []⟩, none, [], false, []⟩

/-! ### What goes with every frame (R34, R41, R46, R265) -/

/-- The boundaries of the present frame that no command has given (DESIGN CHOICE: log entry 12). -/
def restOfFrame (d : Dev) : Dev :=
  (List.range (31 - d.tb.sample)).foldl (fun d _ => sampleBoundary quietSample d) d

/-- The counters that a new frame moves (R41, R46, R310). DEDUCED: log entry 15. DEDUCED: log entry 22. -/
def countFrame (d : Dev) : Dev :=
  let old := d.tb.frame
  let new := d.tb.nextFrame
  let step := d.tb.stepDue.isSome
  let d := d.modTb (fun t => { t with
    frame := new, sample := 0, cal0 := d.cal, stepDue := none, stepped := t.stepped || step
    sinceMeas := t.sinceMeas + 1, ran := t.ran + 1 })
  let d := { d with lg := { d.lg with tick := d.lg.tick + 1 } }
  if step then stepRecord old new d else d

/-- The slow conversions of the metering inputs (R393, R394). -/
def slowReads (dc : List (Nat × Int × Int × Int)) (d : Dev) : Dev :=
  let levels := dc.foldl (fun (t : Tbl (Int × Int × Int)) x => if x.1 < 78 then tset (0, 0, 0) t x.1 x.2 else t) d.inp.dc
  let d : Dev := { d with inp := { d.inp with dc := levels } }
  ((d.mt.chans.filter (fun c => c.2.en)).map (·.1)).foldl (fun d c =>
    let x := tget (0, 0, 0) d.inp.dc c
    sensorFrame c x.1 x.2.1 x.2.2 d) d

/-- What ends with a frame. DEDUCED: log entry 15. -/
def endFrame (dc : List (Nat × Int × Int × Int)) (d : Dev) : Dev :=
  let d := (List.range 8).foldl (fun d k => clFrameEnd k d) (linesFrame 32 d)
  let d := meterAge (slowReads dc (cyclesFrame (plyFrameEnd d)))
  let d := (List.range 8).foldl (fun d k => pulseFrame k d) d
  secFrame (holdStep (trimFrame (ppsFrame (portsFrame (sweepRates d)))))

/-- FRAME_START (R41, R555); `snap`: the island's snapshot (R435). DEDUCED: log entry 14. DEDUCED: log entry 20. -/
def frameStart (x : FrameIn) (snap : Option (List (BitVec 512))) (ram : Nat → Byte) (d : Dev) : Dev :=
  let d := restartSettle (settleLimits (settleSample (restOfFrame d)))
  let d := noteDeferred (settleStrobes (endPhaseF ram d))
  let cal := d.tb.cal0
  let d := oneCycle (fun d => fastSample (plyFrameStart (endFrame x.dc (sampleReads x.reads (countFrame d))))) d
  thermal x.temp (phaseA x.reach cal (safetySnapshot snap d))

end Sys2Proof.Machine
end

