-- ==== Sys2Proof/Machine/Direct.lean ====
section
/-!
DEFINITION. Writes that the manual lists as steps of their own (DESIGN CHOICE: log entry 2): each is the phase F effect of a WRITE_REG
or WRITE_ENTRY of channel 0 that carries the value, or of the partition whose entry it is, with the checks that the command meets.
-/
namespace Sys2Proof.Machine

/-- A command of a channel that writes one object. -/
def writeCmd (ch op sp index size value : Nat) : Cmd where
  ch := ch
  hdr := put 256 96 1#16 ||| put 256 64 (BitVec.ofNat 32 index) ||| put 256 48 (BitVec.ofNat 8 sp) |||
    put 256 32 (BitVec.ofNat 16 size) ||| put 256 24 (BitVec.ofNat 8 op)
  payload := leBytes size value
  stage := .admitted
  arrived := 0
  ready := none
  taken := []

/-- A write of one entry (R148). -/
def entryCmd (sp index size value : Nat) : Cmd := writeCmd 0 0x09 sp index size value

/-- A write of one register (R151). -/
def regCmd (off : Nat) (v : Reg) : Cmd := writeCmd 0 0x0D 0xF0 off 4 v.toNat

/-- Checks 14 to 17, then the effect in phase F; a refusal at check 17 is reported (R111, R143, R550, R553). -/
def directWrite (c : Cmd) (d : Dev) : Dev :=
  if (checkIndex c d).isSome || (checkPayload c).isSome || (checkSource c d).isSome then d
  else match admitOver c d with
    | some r => noteRefused c.ch c.index r d
    | none => rightsChanged (configEffect c d)

/-- SHARE_MASK_WRITE: the low or the high word of SHARE_MASK_g (R77, R93). -/
def shareMaskWrite (g : Nat) (hi : Bool) (v : Reg) (d : Dev) : Dev :=
  directWrite (regCmd (0x0200 + 8 * (g - 1) + (if hi then 4 else 0)) v) d

/-- SUB_RANGE_WRITE: the range register of a partition (R87). -/
def subRangeSet (p : Nat) (v : Reg) (d : Dev) : Dev := directWrite (regCmd (0x0240 + 4 * p) v) d

/-- SUB_ENABLE: the image of a subscription entry, written by the partition whose range holds it (R88, R90). -/
def subEnable (e : Nat) (img : BitVec 256) (d : Dev) : Dev :=
  directWrite (writeCmd ((d.subHolder e).getD 0) 0x09 0x03 e 32 img.toNat) d

/-- TASK_EN_WRITE: EN of a task entry (R315). -/
def taskEnWrite (t : Nat) (on : Bool) (d : Dev) : Dev :=
  let cfg := (d.task t).cfg &&& ~~~(putB 512 108 true) ||| putB 512 108 on
  directWrite (entryCmd 0x21 t 64 cfg.toNat) d

/-- LOOP_EN_WRITE: EN of a loop record (R348). -/
def loopEnWrite (j : Nat) (on : Bool) (d : Dev) : Dev :=
  let cfg := (d.loop j).cfg &&& ~~~(putB 1024 220 true) ||| putB 1024 220 on
  directWrite (entryCmd 0x30 j 128 cfg.toNat) d

/-- LOOP_MODE_WRITE: MODE of a loop record, 0 MANUAL or 1 AUTO (R351). -/
def loopModeWrite (j : Nat) (auto_ : Bool) (d : Dev) : Dev :=
  directWrite (entryCmd 0x30 j 128 ((d.loop j).setCfg 225 2 (if auto_ then 1 else 0)).cfg.toNat) d

/-- NODE_EN_WRITE: EN of a node table entry (R278). -/
def nodeEnWrite (k a : Nat) (on : Bool) (d : Dev) : Dev :=
  let cfg := (d.node (nodeKey k a)).cfg &&& ~~~(putB 256 38 true) ||| putB 256 38 on
  directWrite (entryCmd 0x11 (nodeKey k a) 32 cfg.toNat) d

/-- ALARM_EN_WRITE: the image of calendar alarm `k` (R499). -/
def alarmEnWrite (k : Nat) (img : BitVec 256) (d : Dev) : Dev := directWrite (entryCmd 0x80 (k + 1) 32 img.toNat) d

/-- PORT_MODE_WRITE: PORT_MODE of a port (R606). -/
def portModeSet (p : Nat) (v : Reg) (d : Dev) : Dev :=
  directWrite (regCmd (0x0700 + 0x40 * p + 0x3C) v) d

/-- PHY_MDIO_CMD (R229). -/
def phyMdioCmd (v : Reg) (d : Dev) : Dev := directWrite (regCmd 0x0B10 v) d

/-- ALARM_DELAY_EXPIRY: the level's delay count stands at its last frame (R85). -/
def delayExpiry (e l : Nat) (d : Dev) : Dev :=
  match (d.alarm e).level l with
  | .delaying n => if n ≤ 1 then d.setAlarm e (delayStep (d.alarmQuality e) l (d.alarm e)) else d
  | _ => d

/-- SHUTDOWN: without its confirmation nothing happens (R506). -/
def shutdownConfirmed (confirm : Reg) (d : Dev) : Dev := if confirm = shutdownConfirm then shutdown d else d

/-- A link comes up at a rate, or goes down; in recovery mode the ROM serves port 0 alone (R230, R598). -/
def portLink (p : Nat) (mbit : Option Nat) (d : Dev) : Dev :=
  if d.isMain then
    match mbit with
    | some n => linkUp p n d
    | none => linkDown p d
  else if p = 0 then recoveryLink mbit.isSome d
  else d

end Sys2Proof.Machine
end

