-- ==== Sys2Proof/Machine/Sram.lean ====
section
/-!
DEFINITION. The retained SRAM of the backup domain, 65,536 bytes (R503), as a list of address and byte pairs in one
canonical form: addresses rise, none lies outside, and no entry holds what an unlisted address reads as.
-/
namespace Sys2Proof.Machine

/-- The retained SRAM. -/
abbrev Memory := List Host.Cell

/-- Its size in bytes (R503). -/
def Memory.size : Nat := 65536

/-- What a byte that nothing has written reads as (DESIGN CHOICE: log entry 5). -/
def Memory.blank : Byte := 0

/-- Read one byte. -/
def Memory.read (m : Memory) (a : Nat) : Byte := tget Memory.blank m a

/-- Write one byte; an address outside the SRAM does not exist and takes nothing. -/
def Memory.write (m : Memory) (a : Nat) (v : Byte) : Memory := if a < Memory.size then tset Memory.blank m a v else m

/-- Write bytes one after another. -/
def Memory.writeAll (m : Memory) (ws : List (Nat × Byte)) : Memory := ws.foldl (fun m w => Memory.write m w.1 w.2) m

/-- The canonical form. -/
def Memory.wf (m : Memory) : Bool := tblWf Memory.blank m && m.all (fun c => decide (c.1 < Memory.size))

end Sys2Proof.Machine
end

