-- ==== Sys2Proof/Machine/State.lean ====
section
/-!
DEFINITION. The whole state: the module, its safety island, its retained SRAM and the commands that wait; the reasons a
step can stop; the machine right after reset.
-/
namespace Sys2Proof.Machine

/-- Why a step stops with a fault. DESIGN CHOICE: log entry 54. -/
inductive Fault where
  /-- Raised by `checked` (every command that names a unit): the unit, channel, entry or port that the command names does
  not exist. Safe: nothing happens that the hardware could not do. -/
  | noSuchUnit
  /-- Raised by PORST_ASSERT: a low pulse of 100 ns to 1 µs, whose effect the manual calls not defined (R603). Safe. -/
  | porstPulseUndefined
  deriving DecidableEq, Repr

/-- Why a step refuses a command. -/
inductive Refusal where
  /-- Raised by an arm of `exec` without a meaning; no arm is left without one. Safe. -/
  | notModelled (mnemonic : String)
  deriving DecidableEq, Repr

/-- The block. -/
structure State where
  /-- The module: main domain, backup registers, fuses, flash, supplies. -/
  dev : Dev
  /-- The safety island (R20, R432). -/
  isl : Island
  /-- The retained SRAM of the backup domain (R503). -/
  sram : Memory
  /-- The commands that wait, the oldest first (DESIGN CHOICE: log entry 13). -/
  pending : List Instr
  deriving DecidableEq, Repr

/-- The block before its main domain first leaves reset: VBAT has been fitted, VMAIN is absent, the island is not powered
(R603, R604; DESIGN CHOICE: log entries 1, 4, 5, 6, 7). -/
def State.reset : State where
  dev := Dev.reset
  isl := Island.reset
  sram := []
  pending := []

end Sys2Proof.Machine
end

