-- ==== Sys2Proof/WellFormed.lean ====
section
/-!
DEFINITION. Which commands name a unit that the module has: the numbers of channels, strands, loops, entries and ports
that the manual gives (log entry 3).
-/
namespace Sys2Proof

/-- Inputs 0 to 7 of the stop path (R436). -/
def safePinOk : SafePin → Bool
  | .sinA k => decide (k < 8)
  | .sinB k => decide (k < 8)
  | .enA => true
  | .enB => true

/-- Inputs 0 to 7 and outputs 0 to 3 of the island (R436, R437). -/
def safeUnitOk : SafeUnit → Bool
  | .input k => decide (k < 8)
  | .output j => decide (j < 4)
  | .enable => true

/-- Does every operand name a unit, channel, entry or port of the module. -/
def Instr.wellFormed : Instr → Bool
  | .sampleBoundary _ => true
  | .frameStart _ => true
  | .windowEndStrobe _ => true
  | .silenceLatchCut => true
  | .fastLoopOutputWrite _ => true
  | .ptpAlignEnWrite _ => true
  | .timebaseMeasurement => true
  | .timebaseTimeout => true
  | .commandAccept ch _ _ _ => decide (ch ≤ 64)
  | .groupArrivalTimeout ch => decide (ch ≤ 64)
  | .commandLimit ch tag => decide (ch ≤ 64 ∧ tag < 128)
  | .completion ch => decide (ch ≤ 64)
  | .nop ch tag => decide (ch ≤ 64 ∧ tag < 128)
  | .pointRead ch tag => decide (ch ≤ 64 ∧ tag < 128)
  | .pointWrite ch tag => decide (ch ≤ 64 ∧ tag < 128)
  | .pointConfig ch tag => decide (ch ≤ 64 ∧ tag < 128)
  | .alarmAck ch tag => decide (ch ≤ 64 ∧ tag < 128)
  | .alarmDelayExpiry e l => decide (e < 16384 ∧ l < 4)
  | .readEntry ch tag => decide (ch ≤ 64 ∧ tag < 128)
  | .writeEntry ch tag => decide (ch ≤ 64 ∧ tag < 128)
  | .readReg ch tag => decide (ch ≤ 64 ∧ tag < 128)
  | .writeReg ch tag => decide (ch ≤ 64 ∧ tag < 128)
  | .shareMaskWrite g _ _ => decide (1 ≤ g ∧ g ≤ 7)
  | .subRangeWrite p _ => decide (p < 64)
  | .subEnable e _ => decide (e < 16384)
  | .bankExchange ch tag => decide (ch ≤ 64 ∧ tag < 128)
  | .taskEnWrite t _ => decide (t < 8)
  | .loopEnWrite j _ => decide (j < 2112)
  | .loopModeWrite j _ => decide (j < 2112)
  | .loopFollowingError j => decide (j < 2112)
  | .strandLineOff ch tag => decide (ch ≤ 64 ∧ tag < 128)
  | .strandLineOn ch tag => decide (ch ≤ 64 ∧ tag < 128)
  | .strandLineResetLatch ch tag => decide (ch ≤ 64 ∧ tag < 128)
  | .hartSend ch tag => decide (ch ≤ 64 ∧ tag < 128)
  | .timeSetStep ch tag => decide (ch ≤ 64 ∧ tag < 128)
  | .timeSetSlew ch tag => decide (ch ≤ 64 ∧ tag < 128)
  | .pair ch tag => decide (ch ≤ 64 ∧ tag < 128)
  | .unpair ch tag => decide (ch ≤ 64 ∧ tag < 128)
  | .yieldRole ch tag => decide (ch ≤ 64 ∧ tag < 128)
  | .retryCutover ch tag => decide (ch ≤ 64 ∧ tag < 128)
  | .updateBegin ch tag => decide (ch ≤ 64 ∧ tag < 128)
  | .updateData ch tag => decide (ch ≤ 64 ∧ tag < 128)
  | .updateEnd ch tag => decide (ch ≤ 64 ∧ tag < 128)
  | .updateErased _ => true
  | .updateVerified _ => true
  | .lifecycleSet ch tag => decide (ch ≤ 64 ∧ tag < 128)
  | .deviceRestart ch tag => decide (ch ≤ 64 ∧ tag < 128)
  | .channelOpen ch => decide (ch < 64)
  | .channelClose ch => decide (ch < 64)
  | .invalidRequest x => decide (x.ch ≤ 64)
  | .hostAck ch _ => decide (ch ≤ 64)
  | .hostNak ch _ _ => decide (ch ≤ 64)
  | .retransmitTimeout ch => decide (ch ≤ 64)
  | .rnrRetry ch => decide (ch ≤ 64)
  | .recordTransmit ch => decide (ch ≤ 64)
  | .producerPublish ch => decide (ch ≤ 64)
  | .linkUp p _ => decide (p < 3)
  | .linkDown p => decide (p < 3)
  | .pcsSyncLost p => decide (p < 3)
  | .linkSearchStep p => decide (p < 2)
  | .portModeWrite p _ => decide (p < 3)
  | .arpRequest p _ => decide (p < 2)
  | .pauseFrameReceive p _ _ _ => decide (p < 3)
  | .pauseTimerExpiry p c => decide (p < 3 ∧ c < 8)
  | .pauseWatchdog p => decide (p < 3)
  | .pauseResumed p => decide (p < 3)
  | .rxBufferPause p fill => decide (p < 3 ∧ fill ≤ 65536)
  | .ownPauseRepeat p => decide (p < 3)
  | .rxPauseLimit p => decide (p < 3)
  | .gateEntryExpiry p => decide (p < 3)
  | .ptpSync x => decide (x.port < 3)
  | .ptpAnnounce x => decide (x.port < 3)
  | .announceTimeout p => decide (p < 3)
  | .pdelayReqSend p => decide (p < 3)
  | .pdelayMessage p _ => decide (p < 3)
  | .timePpsInEdge _ _ => true
  | .ppsInFault => true
  | .ppsOutPulseEnd => true
  | .phyMdioCmd _ => true
  | .mdioComplete _ => true
  | .fastTrip k _ => decide (k < 16)
  | .lineOverload k => decide (k < 16)
  | .lineBackfeed k => decide (k < 16)
  | .precheckPassed k => decide (k < 16)
  | .inrushEnd k => decide (k < 16)
  | .retryBackoffEnd k => decide (k < 16)
  | .failCntClear k => decide (k < 16)
  | .strandCycleStart k _ => decide (k < 16)
  | .trailingCopySend k _ => decide (k < 16)
  | .strandReplyReceive k _ _ _ => decide (k < 16)
  | .replySlotMiss k a => decide (k < 16 ∧ 1 ≤ a ∧ a ≤ 254)
  | .twinCopyReceive k _ _ => decide (k < 16)
  | .nodeEnWrite k a _ => decide (k < 16 ∧ 1 ≤ a ∧ a ≤ 254)
  | .meterZeroCrossing x phase frac => decide (x < 2 ∧ 1 ≤ phase ∧ phase ≤ 3 ∧ frac < 65536)
  | .sensorCondition c => decide (c < 78)
  | .meterPeriodicSave => true
  | .accPreset c _ _ => decide (c < 72)
  | .pulseEnd k => decide (k < 8)
  | .clCondition k => decide (k < 8)
  | .hartTransactionStart k => decide (k < 8)
  | .hartReply k cmd resp devst bytes => decide (k < 8 ∧ cmd < 65536 ∧ resp < 256 ∧ devst < 256 ∧ bytes.length < 256)
  | .hartNoReply k _ => decide (k < 8)
  | .islandTick x => decide (x.sbi.length = 4)
  | .safetyInputFall p => safePinOk p
  | .discrepancyTimeout k => decide (k < 8)
  | .testPulse _ => true
  | .testPulseCheck _ _ => true
  | .sealReread _ _ => true
  | .stpOverload _ _ => true
  | .switchTestStep j => decide (j < 4)
  | .brakeTimeout j => decide (j < 4)
  | .safetyFaultCleared u => safeUnitOk u
  | .safeVddChange _ _ => true
  | .islandSelfTestEnd _ => true
  | .islandOscFault => true
  | .islandLinkLost => true
  | .recMark _ => true
  | .supplyFailWarning => true
  | .meterSnapshot _ => true
  | .tailSaveComplete => true
  | .supplyCleared => true
  | .vmainFail => true
  | .vmainRestore => true
  | .retentionLoss => true
  | .rtcCount => true
  | .alarmFired k => decide (k < 8)
  | .alarmEnWrite k _ => decide (k < 8)
  | .oscStopped => true
  | .calSlewDone => true
  | .calPtpCompare _ => true
  | .utcOffsetStep => true
  | .trimWindowEnd => true
  | .wakePin _ => true
  | .rlAckWrite => true
  | .shutdownWrite _ => true
  | .pwrHoldRelease => true
  | .shutdownFailed => true
  | .porstAssert _ => true
  | .mainResetRelease _ => true
  | .resetOutRelease => true
  | .thermalRecover _ => true
  | .scrubPass _ => true
  | .pointMemory p => decide (p < 131072)
  | .pointQuarantined p => decide (p < 131072)
  | .alarmMemory e => decide (e < 16384)
  | .subMemory e => decide (e < 16384)
  | .taskMemory t pos iid => decide (t < 8 ∧ pos < 131072 ∧ iid < 131072)
  | .bankMemory n => decide (n < 262144)
  | .taskEntryMemory t => decide (t < 8)
  | .loopMemory j => decide (j < 2112)
  | .nodeMemory k a => decide (k < 16 ∧ 1 ≤ a ∧ a ≤ 254)
  | .accMemory c => decide (c < 72)
  | .channelMemory n => decide (n < 87)
  | .clMemory k => decide (k < 8)
  | .recordMemory n => decide (n < 65536)
  | .retainedMemory e _ => decide (16 ≤ e ∧ e ≤ 2063)
  | .plyStatusReceive _ _ => true
  | .plyMirrorReceive _ => true
  | .plyCatchupReceive _ => true
  | .plyNoticeReceive _ => true
  | .catchupSend => true
  | .cutoverLoad => true
  | .plyLinkLost => true
  | .hbLost => true
  | .twinLost => true
  | .joinStepTimeout => true
  | .catchupRestart => true
  | .yieldSwap => true
  | .yieldCancelled => true
  | .selfYield => true
  | .digestRecompute a => decide (a < 6)
  | .digestMismatch => true
  | .health => true
  | .hostHello f => decide (f.port < 2)
  | .hostFinish f => decide (f.port < 2)
  | .handshakeTimeout => true
  | .enroll f => decide (f.port < 2)
  | .sessionEnd f => decide (f.port < 2)
  | .sessionIdle => true
  | .sessionClose => true
  | .debugAttached => true
  | .entropyFault => true
  | .recoveryLinkSearch => true
  | .recoveryIdent _ => true
  | .recoveryBegin _ => true
  | .recoveryData _ => true
  | .recoveryEnd _ => true
  | .recoveryBoot _ => true
  | .recoveryEraseDone => true
  | .restartReset => true
  | .hartRetry k => decide (k < 8)
  | .hartBurstFrame k => decide (k < 8)
  | .rxFrameDropped x => decide (x.port < 3)
  | .plyHbInChange => true
  | .ownPauseSuppressionEnd p => decide (p < 3)
  | .maskWindowEnd _ _ => true

end Sys2Proof
end

