-- ==== Sys2Proof/Machine/Run.lean ====
section
/-!
DEFINITION. How a command of one domain acts on the whole state: an operation of the module, of the main domain, with or
without the retained SRAM, or of the safety island (DESIGN CHOICE: log entries 3, 10).
-/
namespace Sys2Proof.Machine

/-- What a command answers. -/
abbrev Answer := Host.Outcome State Fault Refusal

/-- An operation of the module begins with empty hands: nothing sent, nothing to be written. -/
def Dev.fresh0 (d : Dev) : Dev := { d with out := [], wire := [], wr := [] }

/-- An operation that leaves the retained SRAM alone. -/
def State.withDev (f : Dev → Dev) (s : State) : State := { s with dev := { depart (f s.dev.fresh0) with wr := [] } }

/-- An operation that reads and writes the retained SRAM. -/
def State.withSram (f : (Nat → Byte) → Dev → Dev) (s : State) : State :=
  let d := f (Memory.read s.sram) s.dev.fresh0
  { s with dev := { depart d with wr := [] }, sram := Memory.writeAll s.sram d.wr }

/-- An operation of the main domain does nothing while that domain does not run (DESIGN CHOICE: log entry 3). -/
def whenMain (f : Dev → Dev) (d : Dev) : Dev := if d.isMain then f d else d

/-- An event that the module sees in any power state. -/
def moduleStep (f : Dev → Dev) (s : State) : Answer := .next (s.withDev f)

/-- The same, with the retained SRAM. -/
def moduleStepM (f : (Nat → Byte) → Dev → Dev) (s : State) : Answer := .next (s.withSram f)

/-- A command of the main domain. -/
def mainStep (f : Dev → Dev) (s : State) : Answer := .next (s.withDev (whenMain f))

/-- The same, reading the retained SRAM. -/
def mainStepR (f : (Nat → Byte) → Dev → Dev) (s : State) : Answer := .next (s.withDev (whenMain (f (Memory.read s.sram))))

/-- The same, reading and writing it. -/
def mainStepM (f : (Nat → Byte) → Dev → Dev) (s : State) : Answer := .next (s.withSram (fun ram => whenMain (f ram)))

/-- An event of the safety island: no other part of the block takes part (R20). -/
def islandStep (f : Island → Island) (s : State) : Answer := .next { s with isl := f s.isl }

/-- A command that names a unit which does not exist stops. -/
def checked (i : Instr) (a : Answer) : Answer := if i.wellFormed then a else .fault .noSuchUnit

end Sys2Proof.Machine
end

