-- ==== Sys2Proof/Machine/Acceptance.lean ====
section
/-!
DEFINITION. The meanings of the commands of acceptance, limits and completion of commands (03).
-/
namespace Sys2Proof.Machine

/-- COMMAND_ACCEPT (R100 to R112, R123, R126, R188). -/
def execCommandAccept (ch : Nat) (head : FrameHead) (p : SendPkt) (imm : Option Reg) (s : State) : Answer :=
  checked (.commandAccept ch head p imm) (mainStep (commandAccept ch head p imm) s)

/-- GROUP_ARRIVAL_TIMEOUT (R126). -/
def execGroupArrivalTimeout (ch : Nat) (s : State) : Answer :=
  checked (.groupArrivalTimeout ch) (mainStep (groupTimeout ch) s)

/-- COMMAND_LIMIT (R129). -/
def execCommandLimit (ch tag : Nat) (s : State) : Answer :=
  checked (.commandLimit ch tag) (mainStep (commandLimit ch tag) s)

/-- COMPLETION (R113, R185). -/
def execCompletion (ch : Nat) (s : State) : Answer :=
  checked (.completion ch) (mainStep (completionRow ch) s)

end Sys2Proof.Machine
end

