-- ==== Sys2Proof/Machine/BackupRows.lean ====
section
/-!
DEFINITION. The meanings of the commands of the recorder and the backup domain (14, 15).
-/
namespace Sys2Proof.Machine

/-- REC_MARK (R465). -/
def execRecMark (v : Reg) (s : State) : Answer :=
  mainStep (recMark v) s

/-- TAIL_SAVE_COMPLETE (R474). -/
def execTailSaveComplete (s : State) : Answer :=
  mainStepM (fun _ => tailComplete) s

/-- RECORD_MEMORY (R479). -/
def execRecordMemory (n : Nat) (s : State) : Answer :=
  checked (.recordMemory n) (mainStep (recordMemory n) s)

/-- VMAIN_FAIL (R483). -/
def execVmainFail (s : State) : Answer :=
  moduleStep vmainFail s

/-- VMAIN_RESTORE (R483). -/
def execVmainRestore (s : State) : Answer :=
  moduleStep vmainRestore s

/-- RETENTION_LOSS (R486). -/
def execRetentionLoss (s : State) : Answer :=
  moduleStep retentionLoss s

/-- RTC_COUNT (R489). -/
def execRtcCount (s : State) : Answer :=
  moduleStep rtcCount s

/-- ALARM_FIRED (R499). -/
def execAlarmFired (k : Nat) (s : State) : Answer :=
  checked (.alarmFired k) (moduleStep (alarmFire k) s)

/-- ALARM_EN_WRITE (R499). -/
def execAlarmEnWrite (k : Nat) (img : BitVec 256) (s : State) : Answer :=
  checked (.alarmEnWrite k img) (mainStep (alarmEnWrite k img) s)

/-- OSC_STOPPED (R491). -/
def execOscStopped (s : State) : Answer :=
  moduleStep oscStopped s

/-- CAL_SLEW_DONE (R492). -/
def execCalSlewDone (s : State) : Answer :=
  moduleStep slewDone s

/-- CAL_PTP_COMPARE (R495). -/
def execCalPtpCompare (ptpNs : Nat) (s : State) : Answer :=
  mainStep (calCompare ptpNs) s

/-- UTC_OFFSET_STEP (R497). -/
def execUtcOffsetStep (s : State) : Answer :=
  mainStep utcOffsetStep s

/-- TRIM_WINDOW_END (R502). -/
def execTrimWindowEnd (s : State) : Answer :=
  moduleStep trimEnd s

/-- WAKE_PIN (R505). -/
def execWakePin (x : WakeChange) (s : State) : Answer :=
  moduleStep (wakePin x) s

/-- RL_ACK (R488). -/
def execRlAckWrite (s : State) : Answer :=
  mainStep rlAck s

/-- SHUTDOWN (R506). -/
def execShutdownWrite (confirm : Reg) (s : State) : Answer :=
  mainStepM (fun _ => shutdownConfirmed confirm) s

/-- PWR_HOLD_RELEASE (R506). -/
def execPwrHoldRelease (s : State) : Answer :=
  moduleStep pwrHoldRelease s

/-- SHUTDOWN_FAILED (R506). -/
def execShutdownFailed (s : State) : Answer :=
  moduleStep shutdownFailed s

/-- RETAINED_MEMORY (R395, R479, R509). -/
def execRetainedMemory (e : Nat) (mask : BitVec 32) (s : State) : Answer :=
  checked (.retainedMemory e mask) (mainStepM (fun _ => retainedMemory e mask) s)

end Sys2Proof.Machine
end

