-- ==== Sys2Proof/Machine/Boots.lean ====
section
/-!
DEFINITION. The meanings of the commands of update, boot, resets, supply and recovery mode (19, 20, 21).
-/
namespace Sys2Proof.Machine

/-- UPDATE_ERASED (R591). -/
def execUpdateErased (ok : Bool) (s : State) : Answer :=
  mainStep (updateErased ok) s

/-- UPDATE_VERIFIED (R591). -/
def execUpdateVerified (flashErr : Bool) (s : State) : Answer :=
  mainStep (updateVerified flashErr) s

/-- RESTART_RESET (R162, R566). -/
def execRestartReset (s : State) : Answer :=
  mainStepM (fun _ => restartReset) s

/-- PORST_ASSERT (R603). -/
def execPorstAssert (ns : Nat) (s : State) : Answer :=
  if ns < 100 then .next s
  else if ns < 1000 then .fault .porstPulseUndefined
  else moduleStep Sys2Proof.Machine.porstAssert s

/-- MAIN_RESET_RELEASE (R593, R604). -/
def execMainResetRelease (x : BootIn) (s : State) : Answer :=
  moduleStepM (mainRelease x s.isl.snapshot) s

/-- RESET_OUT_RELEASE (R605). -/
def execResetOutRelease (s : State) : Answer :=
  moduleStep resetOutRelease s

/-- THERMAL_RECOVER (R633). -/
def execThermalRecover (x : BootIn) (s : State) : Answer :=
  moduleStepM (thermalRecover x s.isl.snapshot) s

/-- SCRUB_PASS (R638). -/
def execScrubPass (x : ScrubIn) (s : State) : Answer :=
  mainStep (scrubPass x) s

/-- SUPPLY_FAIL_WARNING (R560). -/
def execSupplyFailWarning (s : State) : Answer :=
  moduleStepM (fun _ => supplyFail) s

/-- SUPPLY_CLEARED (R476, R560). -/
def execSupplyCleared (s : State) : Answer :=
  moduleStepM (fun _ => supplyClear) s

/-- RECOVERY_LINK_SEARCH (R598). -/
def execRecoveryLinkSearch (s : State) : Answer :=
  moduleStep recoverySearch s

/-- IDENT (R598 to R600). -/
def execRecoveryIdent (x : RecoveryIn) (s : State) : Answer :=
  moduleStep (recIdent x) s

/-- BEGIN (R598 to R600). -/
def execRecoveryBegin (x : RecoveryIn) (s : State) : Answer :=
  moduleStep (recBegin x) s

/-- DATA (R598 to R600). -/
def execRecoveryData (x : RecoveryIn) (s : State) : Answer :=
  moduleStep (recData x) s

/-- RECOVERY_END (R598 to R600). -/
def execRecoveryEnd (x : RecoveryIn) (s : State) : Answer :=
  moduleStep (recEnd x) s

/-- BOOT (R598 to R600). -/
def execRecoveryBoot (x : RecoveryIn) (s : State) : Answer :=
  moduleStep (recBoot x) s

/-- RECOVERY_ERASE_DONE (R600). -/
def execRecoveryEraseDone (s : State) : Answer :=
  moduleStep recoveryErased s

end Sys2Proof.Machine
end

