-- ==== Sys2Proof/Machine/Control.lean ====
section
/-!
DEFINITION. The meanings of the commands of tasks and loops (09, 10).
-/
namespace Sys2Proof.Machine

/-- TASK_EN_WRITE (R315, R323). -/
def execTaskEnWrite (t : Nat) (on : Bool) (s : State) : Answer :=
  checked (.taskEnWrite t on) (mainStep (taskEnWrite t on) s)

/-- LOOP_EN_WRITE (R348). -/
def execLoopEnWrite (j : Nat) (on : Bool) (s : State) : Answer :=
  checked (.loopEnWrite j on) (mainStep (loopEnWrite j on) s)

/-- LOOP_MODE_WRITE (R351). -/
def execLoopModeWrite (j : Nat) (auto_ : Bool) (s : State) : Answer :=
  checked (.loopModeWrite j auto_) (mainStep (loopModeWrite j auto_) s)

/-- LOOP_FOLLOWING_ERROR (R354). -/
def execLoopFollowingError (j : Nat) (s : State) : Answer :=
  checked (.loopFollowingError j) (mainStep (loopFollowing j) s)

/-- TASK_MEMORY (R327). -/
def execTaskMemory (t pos iid : Nat) (s : State) : Answer :=
  checked (.taskMemory t pos iid) (mainStep (taskMemory t pos iid) s)

/-- BANK_MEMORY (R328). -/
def execBankMemory (n : Nat) (s : State) : Answer :=
  checked (.bankMemory n) (mainStep (bankMemory n) s)

/-- TASK_ENTRY_MEMORY (R329). -/
def execTaskEntryMemory (t : Nat) (s : State) : Answer :=
  checked (.taskEntryMemory t) (mainStep (taskEntryMemory t) s)

/-- LOOP_MEMORY (R356). -/
def execLoopMemory (j : Nat) (s : State) : Answer :=
  checked (.loopMemory j) (mainStep (loopMemory j) s)

end Sys2Proof.Machine
end

