-- ==== Sys2Proof/Machine/CurrentLoopRows.lean ====
section
/-!
DEFINITION. The meanings of the commands of current loops and HART (12).
-/
namespace Sys2Proof.Machine

/-- CL_CONDITION (R417). -/
def execClCondition (k : Nat) (s : State) : Answer :=
  checked (.clCondition k) (mainStep (clCondition k) s)

/-- HART_TRANSACTION_START (R423). -/
def execHartTransactionStart (k : Nat) (s : State) : Answer :=
  checked (.hartTransactionStart k) (mainStep (hartStart k) s)

/-- HART_REPLY (R424, R425). -/
def execHartReply (k cmd resp devst : Nat) (bytes : List Byte) (s : State) : Answer :=
  checked (.hartReply k cmd resp devst bytes) (mainStep (hartReply k cmd resp devst bytes) s)

/-- HART_NO_REPLY (R424, R425). -/
def execHartNoReply (k : Nat) (badFrame : Bool) (s : State) : Answer :=
  checked (.hartNoReply k badFrame) (mainStep (hartNoReply k badFrame) s)

/-- CL_MEMORY (R428). -/
def execClMemory (k : Nat) (s : State) : Answer :=
  checked (.clMemory k) (mainStep (clMemory k) s)

/-- HART_RETRY (R422). -/
def execHartRetry (k : Nat) (s : State) : Answer :=
  checked (.hartRetry k) (mainStep (hartRetry k) s)

/-- HART_BURST_FRAME (R422). -/
def execHartBurstFrame (k : Nat) (s : State) : Answer :=
  checked (.hartBurstFrame k) (mainStep (hartBurst k) s)

end Sys2Proof.Machine
end

