-- ==== Sys2Proof/Machine/IslandRows.lean ====
section
/-!
DEFINITION. The meanings of the commands of the safety island (13).
-/
namespace Sys2Proof.Machine

/-- ISLAND_TICK (R434, R442 to R452). -/
def execIslandTick (x : TickIn) (s : State) : Answer :=
  checked (.islandTick x) (islandStep (islandTick x) s)

/-- SAFETY_INPUT_FALL (R445). -/
def execSafetyInputFall (p : SafePin) (s : State) : Answer :=
  checked (.safetyInputFall p) (islandStep (inputFall p) s)

/-- DISCREPANCY_TIMEOUT (R442). -/
def execDiscrepancyTimeout (k : Nat) (s : State) : Answer :=
  checked (.discrepancyTimeout k) (islandStep (discrepancyTimeout k) s)

/-- TEST_PULSE (R439). -/
def execTestPulse (srcB : Bool) (s : State) : Answer :=
  islandStep (testPulse srcB) s

/-- TEST_PULSE_CHECK (R440). -/
def execTestPulseCheck (pinA pinB : BitVec 8) (s : State) : Answer :=
  islandStep (testPulseCheck pinA pinB) s

/-- SEAL_REREAD (R438). -/
def execSealReread (up down : BitVec 8) (s : State) : Answer :=
  islandStep (sealReread up down) s

/-- STP_OVERLOAD (R441). -/
def execStpOverload (srcB on : Bool) (s : State) : Answer :=
  islandStep (stpOverload srcB on) s

/-- SWITCH_TEST_STEP (R452). -/
def execSwitchTestStep (j : Nat) (s : State) : Answer :=
  checked (.switchTestStep j) (islandStep (switchTestStep j) s)

/-- BRAKE_TIMEOUT (R451, R453). -/
def execBrakeTimeout (j : Nat) (s : State) : Answer :=
  checked (.brakeTimeout j) (islandStep (brakeTimeout j) s)

/-- SAFETY_FAULT_CLEARED (R442, R450, R451). -/
def execSafetyFaultCleared (u : SafeUnit) (s : State) : Answer :=
  checked (.safetyFaultCleared u) (islandStep (faultCleared u) s)

/-- SAFE_VDD_CHANGE (R454, R617). -/
def execSafeVddChange (mV : Nat) (seals : BitVec 8) (s : State) : Answer :=
  islandStep (safeVddChange mV seals) s

/-- ISLAND_SELF_TEST_END (R454). -/
def execIslandSelfTestEnd (passed : Bool) (s : State) : Answer :=
  islandStep (selfTestEnd passed) s

/-- ISLAND_OSC_FAULT (R434). -/
def execIslandOscFault (s : State) : Answer :=
  islandStep oscFault s

/-- ISLAND_LINK_LOST (R458). -/
def execIslandLinkLost (s : State) : Answer :=
  mainStep islandLinkLost s

/-- MASK_WINDOW_END (R446). -/
def execMaskWindowEnd (pinA pinB : BitVec 8) (s : State) : Answer :=
  islandStep (maskWindowEnd pinA pinB) s

end Sys2Proof.Machine
end

