-- ==== Sys2Proof/Machine/MeterRows.lean ====
section
/-!
DEFINITION. The meanings of the commands of metering (11).
-/
namespace Sys2Proof.Machine

/-- METER_ZERO_CROSSING (R372 to R375). -/
def execMeterZeroCrossing (x phase frac : Nat) (s : State) : Answer :=
  checked (.meterZeroCrossing x phase frac) (mainStep (meterCrossing x phase frac) s)

/-- SENSOR_CONDITION (R393). -/
def execSensorCondition (c : Nat) (s : State) : Answer :=
  checked (.sensorCondition c) (mainStep (sensorCondition c) s)

/-- METER_PERIODIC_SAVE (R396). -/
def execMeterPeriodicSave (s : State) : Answer :=
  mainStepM (fun _ => periodicSave) s

/-- ACC_PRESET (R387). -/
def execAccPreset (c : Nat) (mask : BitVec 7) (img : BitVec 1024) (s : State) : Answer :=
  checked (.accPreset c mask img) (mainStep (accPreset c mask img) s)

/-- PULSE_END (R401). -/
def execPulseEnd (k : Nat) (s : State) : Answer :=
  checked (.pulseEnd k) (mainStep (pulseEnd k) s)

/-- METER_SNAPSHOT (R396). -/
def execMeterSnapshot (us : Nat) (s : State) : Answer :=
  mainStepM (fun _ => snapshotComplete us) s

/-- ACC_MEMORY (R397). -/
def execAccMemory (c : Nat) (s : State) : Answer :=
  checked (.accMemory c) (mainStepR (fun ram => accMemory ram c) s)

/-- CHANNEL_MEMORY (R405). -/
def execChannelMemory (n : Nat) (s : State) : Answer :=
  checked (.channelMemory n) (mainStep (channelMemory n) s)

end Sys2Proof.Machine
end

