-- ==== Sys2Proof/Machine/Opcodes.lean ====
section
/-!
DEFINITION. The meanings of the commands of the opcodes of the command processor (04).
-/
namespace Sys2Proof.Machine

/-- NOP (R120). -/
def execNop (ch tag : Nat) (s : State) : Answer :=
  checked (.nop ch tag) (mainStepR (execCommand (cmdNop) ch tag) s)

/-- POINT_READ (R138). -/
def execPointRead (ch tag : Nat) (s : State) : Answer :=
  checked (.pointRead ch tag) (mainStepR (execCommand (cmdOp 0x01) ch tag) s)

/-- POINT_WRITE (R150). -/
def execPointWrite (ch tag : Nat) (s : State) : Answer :=
  checked (.pointWrite ch tag) (mainStepR (execCommand (cmdOp 0x02) ch tag) s)

/-- POINT_CONFIG (R150). -/
def execPointConfig (ch tag : Nat) (s : State) : Answer :=
  checked (.pointConfig ch tag) (mainStepR (execCommand (cmdOp 0x03) ch tag) s)

/-- ALARM_ACK (R150). -/
def execAlarmAck (ch tag : Nat) (s : State) : Answer :=
  checked (.alarmAck ch tag) (mainStepR (execCommand (cmdOp 0x04) ch tag) s)

/-- READ_ENTRY (R146). -/
def execReadEntry (ch tag : Nat) (s : State) : Answer :=
  checked (.readEntry ch tag) (mainStepR (execCommand (cmdOp 0x08) ch tag) s)

/-- WRITE_ENTRY (R148). -/
def execWriteEntry (ch tag : Nat) (s : State) : Answer :=
  checked (.writeEntry ch tag) (mainStepR (execCommand (cmdOp 0x09) ch tag) s)

/-- READ_REG (R151). -/
def execReadReg (ch tag : Nat) (s : State) : Answer :=
  checked (.readReg ch tag) (mainStepR (execCommand (cmdOp 0x0C) ch tag) s)

/-- WRITE_REG (R151). -/
def execWriteReg (ch tag : Nat) (s : State) : Answer :=
  checked (.writeReg ch tag) (mainStepR (execCommand (cmdOp 0x0D) ch tag) s)

/-- BANK_EXCHANGE (R154, R318). -/
def execBankExchange (ch tag : Nat) (s : State) : Answer :=
  checked (.bankExchange ch tag) (mainStepR (execCommand (cmdOp 0x10) ch tag) s)

/-- STRAND_LINE_OFF (R155, R241). -/
def execStrandLineOff (ch tag : Nat) (s : State) : Answer :=
  checked (.strandLineOff ch tag) (mainStepR (execCommand (cmdLine 0) ch tag) s)

/-- STRAND_LINE_ON (R155, R241). -/
def execStrandLineOn (ch tag : Nat) (s : State) : Answer :=
  checked (.strandLineOn ch tag) (mainStepR (execCommand (cmdLine 1) ch tag) s)

/-- STRAND_LINE_RESET_LATCH (R155, R244). -/
def execStrandLineResetLatch (ch tag : Nat) (s : State) : Answer :=
  checked (.strandLineResetLatch ch tag) (mainStepR (execCommand (cmdLine 2) ch tag) s)

/-- HART_SEND (R156). -/
def execHartSend (ch tag : Nat) (s : State) : Answer :=
  checked (.hartSend ch tag) (mainStepR (execCommand (cmdOp 0x12) ch tag) s)

/-- TIME_SET_STEP (R157, R492). -/
def execTimeSetStep (ch tag : Nat) (s : State) : Answer :=
  checked (.timeSetStep ch tag) (mainStepR (execCommand (cmdTime false) ch tag) s)

/-- TIME_SET_SLEW (R157, R492). -/
def execTimeSetSlew (ch tag : Nat) (s : State) : Answer :=
  checked (.timeSetSlew ch tag) (mainStepR (execCommand (cmdTime true) ch tag) s)

/-- PAIR (R158, R520). -/
def execPair (ch tag : Nat) (s : State) : Answer :=
  checked (.pair ch tag) (mainStepR (execCommand (cmdPly 1) ch tag) s)

/-- UNPAIR (R158, R520). -/
def execUnpair (ch tag : Nat) (s : State) : Answer :=
  checked (.unpair ch tag) (mainStepR (execCommand (cmdPly 2) ch tag) s)

/-- YIELD (R158, R539). -/
def execYieldRole (ch tag : Nat) (s : State) : Answer :=
  checked (.yieldRole ch tag) (mainStepR (execCommand (cmdPly 3) ch tag) s)

/-- RETRY (R158, R534). -/
def execRetryCutover (ch tag : Nat) (s : State) : Answer :=
  checked (.retryCutover ch tag) (mainStepR (execCommand (cmdPly 4) ch tag) s)

/-- UPDATE_BEGIN (R159, R591). -/
def execUpdateBegin (ch tag : Nat) (s : State) : Answer :=
  checked (.updateBegin ch tag) (mainStepR (execCommand (cmdOp 0x30) ch tag) s)

/-- UPDATE_DATA (R159, R160). -/
def execUpdateData (ch tag : Nat) (s : State) : Answer :=
  checked (.updateData ch tag) (mainStepR (execCommand (cmdOp 0x31) ch tag) s)

/-- UPDATE_END (R159, R591). -/
def execUpdateEnd (ch tag : Nat) (s : State) : Answer :=
  checked (.updateEnd ch tag) (mainStepR (execCommand (cmdOp 0x32) ch tag) s)

/-- LIFECYCLE_SET (R161, R565, R566). -/
def execLifecycleSet (ch tag : Nat) (s : State) : Answer :=
  checked (.lifecycleSet ch tag) (mainStepR (execCommand (cmdOp 0x38) ch tag) s)

/-- DEVICE_RESTART (R162). -/
def execDeviceRestart (ch tag : Nat) (s : State) : Answer :=
  checked (.deviceRestart ch tag) (mainStepR (execCommand (cmdOp 0x3F) ch tag) s)

end Sys2Proof.Machine
end

