-- ==== Sys2Proof/Machine/PlyRows.lean ====
section
/-!
DEFINITION. The meanings of the commands of ply pairs (16).
-/
namespace Sys2Proof.Machine

/-- PLY_STATUS_RECEIVE (R514, R516, R520). -/
def execPlyStatusReceive (rx : Nat) (bytes : List Byte) (s : State) : Answer :=
  mainStep (plyStatusReceive rx bytes) s

/-- PLY_MIRROR_RECEIVE (R536). -/
def execPlyMirrorReceive (bytes : List Byte) (s : State) : Answer :=
  mainStep (plyMirrorReceive bytes) s

/-- PLY_CATCHUP_RECEIVE (R533). -/
def execPlyCatchupReceive (bytes : List Byte) (s : State) : Answer :=
  mainStep (plyCatchupReceive bytes) s

/-- PLY_NOTICE_RECEIVE (R515). -/
def execPlyNoticeReceive (bytes : List Byte) (s : State) : Answer :=
  mainStep (plyNoticeReceive bytes) s

/-- CATCHUP_SEND (R532). -/
def execCatchupSend (s : State) : Answer :=
  mainStep catchupSend s

/-- CUTOVER_LOAD (R534). -/
def execCutoverLoad (s : State) : Answer :=
  mainStep cutoverLoad s

/-- PLY_LINK_LOST (R517). -/
def execPlyLinkLost (s : State) : Answer :=
  mainStep plyLinkLost s

/-- HB_LOST (R517). -/
def execHbLost (s : State) : Answer :=
  mainStep hbLost s

/-- TWIN_LOST (R523). -/
def execTwinLost (s : State) : Answer :=
  mainStep twinLost s

/-- JOIN_STEP_TIMEOUT (R529). -/
def execJoinStepTimeout (s : State) : Answer :=
  mainStep joinTimeout s

/-- CATCHUP_RESTART (R534). -/
def execCatchupRestart (s : State) : Answer :=
  mainStep catchupRestart s

/-- YIELD_SWAP (R539). -/
def execYieldSwap (s : State) : Answer :=
  mainStep yieldSwap s

/-- YIELD_CANCELLED (R539). -/
def execYieldCancelled (s : State) : Answer :=
  mainStep yieldCancelled s

/-- SELF_YIELD (R540). -/
def execSelfYield (s : State) : Answer :=
  mainStep selfYield s

/-- DIGEST_RECOMPUTE (R530). -/
def execDigestRecompute (a : Nat) (s : State) : Answer :=
  checked (.digestRecompute a) (mainStep (digestRecompute a) s)

/-- DIGEST_MISMATCH (R530). -/
def execDigestMismatch (s : State) : Answer :=
  mainStep digestMismatch s

/-- HEALTH (R542). -/
def execHealth (s : State) : Answer :=
  mainStep health s

/-- PLY_HB_IN_CHANGE (R517). -/
def execPlyHbInChange (s : State) : Answer :=
  mainStep plyHbChange s

end Sys2Proof.Machine
end

