-- ==== Sys2Proof/Machine/PointRows.lean ====
section
/-!
DEFINITION. The meanings of the commands of points, alarms and subscriptions (02).
-/
namespace Sys2Proof.Machine

/-- ALARM_DELAY_EXPIRY (R85). -/
def execAlarmDelayExpiry (e l : Nat) (s : State) : Answer :=
  checked (.alarmDelayExpiry e l) (mainStep (delayExpiry e l) s)

/-- SHARE_MASK_WRITE (R77, R93). -/
def execShareMaskWrite (g : Nat) (hi : Bool) (v : Reg) (s : State) : Answer :=
  checked (.shareMaskWrite g hi v) (mainStep (shareMaskWrite g hi v) s)

/-- SUB_RANGE_WRITE (R87). -/
def execSubRangeWrite (p : Nat) (v : Reg) (s : State) : Answer :=
  checked (.subRangeWrite p v) (mainStep (subRangeSet p v) s)

/-- SUB_ENABLE (R90). -/
def execSubEnable (e : Nat) (img : BitVec 256) (s : State) : Answer :=
  checked (.subEnable e img) (mainStep (subEnable e img) s)

/-- POINT_MEMORY (R94). -/
def execPointMemory (p : Nat) (s : State) : Answer :=
  checked (.pointMemory p) (mainStep (pointMemory p) s)

/-- POINT_QUARANTINED (R95). -/
def execPointQuarantined (p : Nat) (s : State) : Answer :=
  checked (.pointQuarantined p) (mainStep (pointQuarantine p) s)

/-- ALARM_MEMORY (R97). -/
def execAlarmMemory (e : Nat) (s : State) : Answer :=
  checked (.alarmMemory e) (mainStep (alarmMemory e) s)

/-- SUB_MEMORY (R97). -/
def execSubMemory (e : Nat) (s : State) : Answer :=
  checked (.subMemory e) (mainStep (subMemory e) s)

end Sys2Proof.Machine
end

