-- ==== Sys2Proof/Machine/RiserRows.lean ====
section
/-!
DEFINITION. The meanings of the commands of the riser ports (06).
-/
namespace Sys2Proof.Machine

/-- LINK_UP (R230, R598). -/
def execLinkUp (p mbit : Nat) (s : State) : Answer :=
  checked (.linkUp p mbit) (moduleStep (portLink p (some mbit)) s)

/-- LINK_DOWN (R198, R230). -/
def execLinkDown (p : Nat) (s : State) : Answer :=
  checked (.linkDown p) (moduleStep (portLink p none) s)

/-- PCS_SYNC_LOST (R230). -/
def execPcsSyncLost (p : Nat) (s : State) : Answer :=
  checked (.pcsSyncLost p) (mainStep (pcsSyncLost p) s)

/-- LINK_SEARCH_STEP (R606). -/
def execLinkSearchStep (p : Nat) (s : State) : Answer :=
  checked (.linkSearchStep p) (mainStep (linkSearchStep p) s)

/-- PORT_MODE_WRITE (R606). -/
def execPortModeWrite (p : Nat) (v : Reg) (s : State) : Answer :=
  checked (.portModeWrite p v) (mainStep (portModeSet p v) s)

/-- ARP_REQUEST (R204). -/
def execArpRequest (p : Nat) (a : ArpFrame) (s : State) : Answer :=
  checked (.arpRequest p a) (mainStep (arpRequest p a) s)

/-- PAUSE_FRAME_RECEIVE (R211 to R213). -/
def execPauseFrameReceive (p : Nat) (f : PauseFrame) (ns hold : Nat) (s : State) : Answer :=
  checked (.pauseFrameReceive p f ns hold) (mainStep (pauseReceive p f ns hold) s)

/-- PAUSE_TIMER_EXPIRY (R212). -/
def execPauseTimerExpiry (p c : Nat) (s : State) : Answer :=
  checked (.pauseTimerExpiry p c) (mainStep (pauseExpiry p c) s)

/-- PAUSE_WATCHDOG (R217). -/
def execPauseWatchdog (p : Nat) (s : State) : Answer :=
  checked (.pauseWatchdog p) (mainStep (pauseWatchdog p) s)

/-- PAUSE_RESUMED (R217). -/
def execPauseResumed (p : Nat) (s : State) : Answer :=
  checked (.pauseResumed p) (mainStep (pauseResumed p) s)

/-- RX_BUFFER_PAUSE (R215). -/
def execRxBufferPause (p fill : Nat) (s : State) : Answer :=
  checked (.rxBufferPause p fill) (mainStep (rxBuffer p fill) s)

/-- OWN_PAUSE_REPEAT (R215). -/
def execOwnPauseRepeat (p : Nat) (s : State) : Answer :=
  checked (.ownPauseRepeat p) (mainStep (ownPauseRepeat p) s)

/-- RX_PAUSE_LIMIT (R216). -/
def execRxPauseLimit (p : Nat) (s : State) : Answer :=
  checked (.rxPauseLimit p) (mainStep (rxPauseLimit p) s)

/-- OWN_PAUSE_SUPPRESSION_END (R216). -/
def execOwnPauseSuppressionEnd (p : Nat) (s : State) : Answer :=
  checked (.ownPauseSuppressionEnd p) (mainStep (suppressionEnd p) s)

/-- RX_FRAME_DROPPED (R203). -/
def execRxFrameDropped (x : RxFrame) (s : State) : Answer :=
  checked (.rxFrameDropped x) (mainStep (rxFrame x) s)

/-- GATE_ENTRY_EXPIRY (R207). -/
def execGateEntryExpiry (p : Nat) (s : State) : Answer :=
  checked (.gateEntryExpiry p) (mainStep (gateExpiry p) s)

/-- PHY_MDIO_CMD (R229). -/
def execPhyMdioCmd (v : Reg) (s : State) : Answer :=
  mainStep (phyMdioCmd v) s

/-- MDIO_COMPLETE (R229). -/
def execMdioComplete (answer : Option (BitVec 16)) (s : State) : Answer :=
  mainStep (mdioComplete answer) s

end Sys2Proof.Machine
end

