-- ==== Sys2Proof/Machine/Schedule.lean ====
section
/-!
DEFINITION. The meanings of the commands of the frame schedule and the timebase (01).
-/
namespace Sys2Proof.Machine

/-- SAMPLE_BOUNDARY (R21, R33 to R35, R311, R333, R642). -/
def execSampleBoundary (x : SampleIn) (s : State) : Answer :=
  mainStepM (fun _ => sampleBoundary x) s

/-- FRAME_START (R26, R41, R642). -/
def execFrameStart (x : FrameIn) (s : State) : Answer :=
  mainStepM (frameStart x s.isl.snapshot) s

/-- WINDOW_END_STROBE (R24, R49, R50). -/
def execWindowEndStrobe (x : WindowIn) (s : State) : Answer :=
  mainStepM (windowEndStrobe x) s

/-- SILENCE_LATCH_CUT (R36, R525). -/
def execSilenceLatchCut (s : State) : Answer :=
  mainStep latchCut s

/-- FAST_LOOP_OUTPUT_WRITE (R334, R355). -/
def execFastLoopOutputWrite (n : Option Nat) (s : State) : Answer :=
  mainStep (fastWrite n) s

/-- PTP_ALIGN_EN_WRITE (R45). -/
def execPtpAlignEnWrite (on : Bool) (s : State) : Answer :=
  mainStep (alignWrite on) s

/-- TIMEBASE_MEASUREMENT (R45, R46). -/
def execTimebaseMeasurement (s : State) : Answer :=
  mainStep timebaseMeasurement s

/-- TIMEBASE_MEASUREMENT_TIMEOUT (R45). -/
def execTimebaseTimeout (s : State) : Answer :=
  mainStep timebaseTimeout s

end Sys2Proof.Machine
end

