-- ==== Sys2Proof/Machine/SecurityRows.lean ====
section
/-!
DEFINITION. The meanings of the commands of identity, sessions and keys (18).
-/
namespace Sys2Proof.Machine

/-- HOST_HELLO (R578, R580). -/
def execHostHello (f : HsIn) (s : State) : Answer :=
  checked (.hostHello f) (mainStep (hsArrive f (hostHello f)) s)

/-- HOST_FINISH (R578, R580). -/
def execHostFinish (f : HsIn) (s : State) : Answer :=
  checked (.hostFinish f) (mainStep (hsArrive f (hostFinish f)) s)

/-- HANDSHAKE_TIMEOUT (R580). -/
def execHandshakeTimeout (s : State) : Answer :=
  mainStep handshakeTimeout s

/-- ENROLL (R577). -/
def execEnroll (f : HsIn) (s : State) : Answer :=
  checked (.enroll f) (mainStep (hsArrive f (enroll f)) s)

/-- END (R582). -/
def execSessionEnd (f : HsIn) (s : State) : Answer :=
  checked (.sessionEnd f) (mainStep (hsArrive f (sessionEnd f)) s)

/-- SESSION_IDLE (R582). -/
def execSessionIdle (s : State) : Answer :=
  mainStep sessionIdle s

/-- SESSION_CLOSE (R582). -/
def execSessionClose (s : State) : Answer :=
  mainStep sessionClose s

/-- DEBUG_ATTACHED (R585). -/
def execDebugAttached (s : State) : Answer :=
  mainStep debugAttached s

/-- ENTROPY_FAULT (R580). -/
def execEntropyFault (s : State) : Answer :=
  mainStep entropyFault s

end Sys2Proof.Machine
end

