-- ==== Sys2Proof/Machine/StrandRows.lean ====
section
/-!
DEFINITION. The meanings of the commands of strand lines and strand protocol (07, 08).
-/
namespace Sys2Proof.Machine

/-- FAST_TRIP (R242). -/
def execFastTrip (k : Nat) (mA : Int) (s : State) : Answer :=
  checked (.fastTrip k mA) (mainStep (oneCycle (fastTrip k mA)) s)

/-- LINE_OVERLOAD (R240). -/
def execLineOverload (k : Nat) (s : State) : Answer :=
  checked (.lineOverload k) (mainStep (oneCycle (lineOverload k)) s)

/-- LINE_BACKFEED (R240). -/
def execLineBackfeed (k : Nat) (s : State) : Answer :=
  checked (.lineBackfeed k) (mainStep (oneCycle (lineBackfeed k)) s)

/-- PRECHECK_PASSED (R241). -/
def execPrecheckPassed (k : Nat) (s : State) : Answer :=
  checked (.precheckPassed k) (mainStep (precheckPassed k) s)

/-- INRUSH_END (R241). -/
def execInrushEnd (k : Nat) (s : State) : Answer :=
  checked (.inrushEnd k) (mainStep (oneCycle (inrushEnd k)) s)

/-- RETRY_BACKOFF_END (R243). -/
def execRetryBackoffEnd (k : Nat) (s : State) : Answer :=
  checked (.retryBackoffEnd k) (mainStep (retryBackoffEnd k) s)

/-- FAIL_CNT_CLEAR (R241). -/
def execFailCntClear (k : Nat) (s : State) : Answer :=
  checked (.failCntClear k) (mainStep (oneCycle (failCntClear k)) s)

/-- STRAND_CYCLE_START (R264, R269). -/
def execStrandCycleStart (k level : Nat) (s : State) : Answer :=
  checked (.strandCycleStart k level) (mainStep (strandCycleStart k level) s)

/-- TRAILING_COPY_SEND (R269, R270). -/
def execTrailingCopySend (k level : Nat) (s : State) : Answer :=
  checked (.trailingCopySend k level) (mainStep (trailingCopySend k level) s)

/-- STRAND_REPLY_RECEIVE (R262, R268). -/
def execStrandReplyReceive (k pos mv : Nat) (rx : LineRx) (s : State) : Answer :=
  checked (.strandReplyReceive k pos mv rx) (mainStep (strandReplyReceive k pos mv rx) s)

/-- REPLY_SLOT_MISS (R278). -/
def execReplySlotMiss (k a : Nat) (s : State) : Answer :=
  checked (.replySlotMiss k a) (mainStep (replySlotMiss k a) s)

/-- TWIN_COPY_RECEIVE (R284). -/
def execTwinCopyReceive (k mv : Nat) (rx : LineRx) (s : State) : Answer :=
  checked (.twinCopyReceive k mv rx) (mainStep (twinCopyReceive k mv rx) s)

/-- NODE_EN_WRITE (R278). -/
def execNodeEnWrite (k a : Nat) (on : Bool) (s : State) : Answer :=
  checked (.nodeEnWrite k a on) (mainStep (nodeEnWrite k a on) s)

/-- NODE_MEMORY (R283). -/
def execNodeMemory (k a : Nat) (s : State) : Answer :=
  checked (.nodeMemory k a) (mainStep (nodeMemory (nodeKey k a)) s)

end Sys2Proof.Machine
end

