-- ==== Sys2Proof/Machine/TimeRows.lean ====
section
/-!
DEFINITION. The meanings of the commands of network time (06).
-/
namespace Sys2Proof.Machine

/-- PTP_SYNC (R223). -/
def execPtpSync (x : SyncIn) (s : State) : Answer :=
  checked (.ptpSync x) (mainStep (ptpSync x) s)

/-- PTP_ANNOUNCE (R222). -/
def execPtpAnnounce (x : AnnounceIn) (s : State) : Answer :=
  checked (.ptpAnnounce x) (mainStep (ptpAnnounce x) s)

/-- ANNOUNCE_TIMEOUT (R222). -/
def execAnnounceTimeout (p : Nat) (s : State) : Answer :=
  checked (.announceTimeout p) (mainStep (announceTimeout p) s)

/-- PDELAY_REQ_SEND (R220). -/
def execPdelayReqSend (p : Nat) (s : State) : Answer :=
  checked (.pdelayReqSend p) (mainStep (pdelaySend p) s)

/-- PDELAY_MESSAGE (R220). -/
def execPdelayMessage (p : Nat) (x : PdelayIn) (s : State) : Answer :=
  checked (.pdelayMessage p x) (mainStep (pdelayMessage p x) s)

/-- TIME_PPS_IN_EDGE (R224). -/
def execTimePpsInEdge (ns high : Nat) (s : State) : Answer :=
  mainStep (ppsEdge ns high) s

/-- PPS_IN_FAULT (R224). -/
def execPpsInFault (s : State) : Answer :=
  mainStep ppsFault s

/-- PPS_OUT_PULSE_END (R225). -/
def execPpsOutPulseEnd (s : State) : Answer :=
  mainStep ppsPulseEnd s

end Sys2Proof.Machine
end

