-- ==== Sys2Proof/Machine/TransportRows.lean ====
section
/-!
DEFINITION. The meanings of the commands of the RDMA transport and the attention rings (05).
-/
namespace Sys2Proof.Machine

/-- CHANNEL_OPEN (R171, R173). -/
def execChannelOpen (ch : Nat) (s : State) : Answer :=
  checked (.channelOpen ch) (mainStep (channelOpen ch) s)

/-- CHANNEL_CLOSE (R173). -/
def execChannelClose (ch : Nat) (s : State) : Answer :=
  checked (.channelClose ch) (mainStep (channelClose ch) s)

/-- INVALID_REQUEST (R166). -/
def execInvalidRequest (x : RequestIn) (s : State) : Answer :=
  checked (.invalidRequest x) (mainStep (invalidRequest x) s)

/-- HOST_ACK (R187, R196). -/
def execHostAck (ch : Nat) (psn : BitVec 24) (s : State) : Answer :=
  checked (.hostAck ch psn) (mainStep (hostAckFrame ch psn) s)

/-- HOST_NAK (R174, R196, R197). -/
def execHostNak (ch : Nat) (psn : BitVec 24) (kind : NakKind) (s : State) : Answer :=
  checked (.hostNak ch psn kind) (mainStep (hostNakFrame ch psn kind) s)

/-- RETRANSMIT_TIMEOUT (R196). -/
def execRetransmitTimeout (ch : Nat) (s : State) : Answer :=
  checked (.retransmitTimeout ch) (mainStep (retransmit ch) s)

/-- RNR_RETRY (R197). -/
def execRnrRetry (ch : Nat) (s : State) : Answer :=
  checked (.rnrRetry ch) (mainStep (rnrRetry ch) s)

/-- RECORD_TRANSMIT (R185, R195). -/
def execRecordTransmit (ch : Nat) (s : State) : Answer :=
  checked (.recordTransmit ch) (mainStep (recordTransmit ch) s)

/-- PRODUCER_PUBLISH (R187). -/
def execProducerPublish (ch : Nat) (s : State) : Answer :=
  checked (.producerPublish ch) (mainStep (producerPublish ch) s)

end Sys2Proof.Machine
end

