-- ==== Sys2Proof/Machine/Dispatch.lean ====
section
/-!
DEFINITION. One arm for each command: its meaning.
-/
namespace Sys2Proof.Machine

def exec (i : Instr) (s : State) : Host.Outcome State Fault Refusal :=
  match i with
  | .sampleBoundary x => Sys2Proof.Machine.execSampleBoundary x s
  | .frameStart x => Sys2Proof.Machine.execFrameStart x s
  | .windowEndStrobe x => Sys2Proof.Machine.execWindowEndStrobe x s
  | .silenceLatchCut => Sys2Proof.Machine.execSilenceLatchCut s
  | .fastLoopOutputWrite n => Sys2Proof.Machine.execFastLoopOutputWrite n s
  | .ptpAlignEnWrite on => Sys2Proof.Machine.execPtpAlignEnWrite on s
  | .timebaseMeasurement => Sys2Proof.Machine.execTimebaseMeasurement s
  | .timebaseTimeout => Sys2Proof.Machine.execTimebaseTimeout s
  | .commandAccept ch head p imm => Sys2Proof.Machine.execCommandAccept ch head p imm s
  | .groupArrivalTimeout ch => Sys2Proof.Machine.execGroupArrivalTimeout ch s
  | .commandLimit ch tag => Sys2Proof.Machine.execCommandLimit ch tag s
  | .completion ch => Sys2Proof.Machine.execCompletion ch s
  | .nop ch tag => Sys2Proof.Machine.execNop ch tag s
  | .pointRead ch tag => Sys2Proof.Machine.execPointRead ch tag s
  | .pointWrite ch tag => Sys2Proof.Machine.execPointWrite ch tag s
  | .pointConfig ch tag => Sys2Proof.Machine.execPointConfig ch tag s
  | .alarmAck ch tag => Sys2Proof.Machine.execAlarmAck ch tag s
  | .alarmDelayExpiry e l => Sys2Proof.Machine.execAlarmDelayExpiry e l s
  | .readEntry ch tag => Sys2Proof.Machine.execReadEntry ch tag s
  | .writeEntry ch tag => Sys2Proof.Machine.execWriteEntry ch tag s
  | .readReg ch tag => Sys2Proof.Machine.execReadReg ch tag s
  | .writeReg ch tag => Sys2Proof.Machine.execWriteReg ch tag s
  | .shareMaskWrite g hi v => Sys2Proof.Machine.execShareMaskWrite g hi v s
  | .subRangeWrite p v => Sys2Proof.Machine.execSubRangeWrite p v s
  | .subEnable e img => Sys2Proof.Machine.execSubEnable e img s
  | .bankExchange ch tag => Sys2Proof.Machine.execBankExchange ch tag s
  | .taskEnWrite t on => Sys2Proof.Machine.execTaskEnWrite t on s
  | .loopEnWrite j on => Sys2Proof.Machine.execLoopEnWrite j on s
  | .loopModeWrite j auto_ => Sys2Proof.Machine.execLoopModeWrite j auto_ s
  | .loopFollowingError j => Sys2Proof.Machine.execLoopFollowingError j s
  | .strandLineOff ch tag => Sys2Proof.Machine.execStrandLineOff ch tag s
  | .strandLineOn ch tag => Sys2Proof.Machine.execStrandLineOn ch tag s
  | .strandLineResetLatch ch tag => Sys2Proof.Machine.execStrandLineResetLatch ch tag s
  | .hartSend ch tag => Sys2Proof.Machine.execHartSend ch tag s
  | .timeSetStep ch tag => Sys2Proof.Machine.execTimeSetStep ch tag s
  | .timeSetSlew ch tag => Sys2Proof.Machine.execTimeSetSlew ch tag s
  | .pair ch tag => Sys2Proof.Machine.execPair ch tag s
  | .unpair ch tag => Sys2Proof.Machine.execUnpair ch tag s
  | .yieldRole ch tag => Sys2Proof.Machine.execYieldRole ch tag s
  | .retryCutover ch tag => Sys2Proof.Machine.execRetryCutover ch tag s
  | .updateBegin ch tag => Sys2Proof.Machine.execUpdateBegin ch tag s
  | .updateData ch tag => Sys2Proof.Machine.execUpdateData ch tag s
  | .updateEnd ch tag => Sys2Proof.Machine.execUpdateEnd ch tag s
  | .updateErased ok => Sys2Proof.Machine.execUpdateErased ok s
  | .updateVerified flashErr => Sys2Proof.Machine.execUpdateVerified flashErr s
  | .lifecycleSet ch tag => Sys2Proof.Machine.execLifecycleSet ch tag s
  | .deviceRestart ch tag => Sys2Proof.Machine.execDeviceRestart ch tag s
  | .channelOpen ch => Sys2Proof.Machine.execChannelOpen ch s
  | .channelClose ch => Sys2Proof.Machine.execChannelClose ch s
  | .invalidRequest x => Sys2Proof.Machine.execInvalidRequest x s
  | .hostAck ch psn => Sys2Proof.Machine.execHostAck ch psn s
  | .hostNak ch psn kind => Sys2Proof.Machine.execHostNak ch psn kind s
  | .retransmitTimeout ch => Sys2Proof.Machine.execRetransmitTimeout ch s
  | .rnrRetry ch => Sys2Proof.Machine.execRnrRetry ch s
  | .recordTransmit ch => Sys2Proof.Machine.execRecordTransmit ch s
  | .producerPublish ch => Sys2Proof.Machine.execProducerPublish ch s
  | .linkUp p mbit => Sys2Proof.Machine.execLinkUp p mbit s
  | .linkDown p => Sys2Proof.Machine.execLinkDown p s
  | .pcsSyncLost p => Sys2Proof.Machine.execPcsSyncLost p s
  | .linkSearchStep p => Sys2Proof.Machine.execLinkSearchStep p s
  | .portModeWrite p v => Sys2Proof.Machine.execPortModeWrite p v s
  | .arpRequest p a => Sys2Proof.Machine.execArpRequest p a s
  | .pauseFrameReceive p f ns hold => Sys2Proof.Machine.execPauseFrameReceive p f ns hold s
  | .pauseTimerExpiry p c => Sys2Proof.Machine.execPauseTimerExpiry p c s
  | .pauseWatchdog p => Sys2Proof.Machine.execPauseWatchdog p s
  | .pauseResumed p => Sys2Proof.Machine.execPauseResumed p s
  | .rxBufferPause p fill => Sys2Proof.Machine.execRxBufferPause p fill s
  | .ownPauseRepeat p => Sys2Proof.Machine.execOwnPauseRepeat p s
  | .rxPauseLimit p => Sys2Proof.Machine.execRxPauseLimit p s
  | .gateEntryExpiry p => Sys2Proof.Machine.execGateEntryExpiry p s
  | .ptpSync x => Sys2Proof.Machine.execPtpSync x s
  | .ptpAnnounce x => Sys2Proof.Machine.execPtpAnnounce x s
  | .announceTimeout p => Sys2Proof.Machine.execAnnounceTimeout p s
  | .pdelayReqSend p => Sys2Proof.Machine.execPdelayReqSend p s
  | .pdelayMessage p x => Sys2Proof.Machine.execPdelayMessage p x s
  | .timePpsInEdge ns high => Sys2Proof.Machine.execTimePpsInEdge ns high s
  | .ppsInFault => Sys2Proof.Machine.execPpsInFault s
  | .ppsOutPulseEnd => Sys2Proof.Machine.execPpsOutPulseEnd s
  | .phyMdioCmd v => Sys2Proof.Machine.execPhyMdioCmd v s
  | .mdioComplete answer => Sys2Proof.Machine.execMdioComplete answer s
  | .fastTrip k mA => Sys2Proof.Machine.execFastTrip k mA s
  | .lineOverload k => Sys2Proof.Machine.execLineOverload k s
  | .lineBackfeed k => Sys2Proof.Machine.execLineBackfeed k s
  | .precheckPassed k => Sys2Proof.Machine.execPrecheckPassed k s
  | .inrushEnd k => Sys2Proof.Machine.execInrushEnd k s
  | .retryBackoffEnd k => Sys2Proof.Machine.execRetryBackoffEnd k s
  | .failCntClear k => Sys2Proof.Machine.execFailCntClear k s
  | .strandCycleStart k level => Sys2Proof.Machine.execStrandCycleStart k level s
  | .trailingCopySend k level => Sys2Proof.Machine.execTrailingCopySend k level s
  | .strandReplyReceive k pos mv rx => Sys2Proof.Machine.execStrandReplyReceive k pos mv rx s
  | .replySlotMiss k a => Sys2Proof.Machine.execReplySlotMiss k a s
  | .twinCopyReceive k mv rx => Sys2Proof.Machine.execTwinCopyReceive k mv rx s
  | .nodeEnWrite k a on => Sys2Proof.Machine.execNodeEnWrite k a on s
  | .meterZeroCrossing x phase frac => Sys2Proof.Machine.execMeterZeroCrossing x phase frac s
  | .sensorCondition c => Sys2Proof.Machine.execSensorCondition c s
  | .meterPeriodicSave => Sys2Proof.Machine.execMeterPeriodicSave s
  | .accPreset c mask img => Sys2Proof.Machine.execAccPreset c mask img s
  | .pulseEnd k => Sys2Proof.Machine.execPulseEnd k s
  | .clCondition k => Sys2Proof.Machine.execClCondition k s
  | .hartTransactionStart k => Sys2Proof.Machine.execHartTransactionStart k s
  | .hartReply k cmd resp devst bytes => Sys2Proof.Machine.execHartReply k cmd resp devst bytes s
  | .hartNoReply k badFrame => Sys2Proof.Machine.execHartNoReply k badFrame s
  | .islandTick x => Sys2Proof.Machine.execIslandTick x s
  | .safetyInputFall p => Sys2Proof.Machine.execSafetyInputFall p s
  | .discrepancyTimeout k => Sys2Proof.Machine.execDiscrepancyTimeout k s
  | .testPulse srcB => Sys2Proof.Machine.execTestPulse srcB s
  | .testPulseCheck pinA pinB => Sys2Proof.Machine.execTestPulseCheck pinA pinB s
  | .sealReread up down => Sys2Proof.Machine.execSealReread up down s
  | .stpOverload srcB on => Sys2Proof.Machine.execStpOverload srcB on s
  | .switchTestStep j => Sys2Proof.Machine.execSwitchTestStep j s
  | .brakeTimeout j => Sys2Proof.Machine.execBrakeTimeout j s
  | .safetyFaultCleared u => Sys2Proof.Machine.execSafetyFaultCleared u s
  | .safeVddChange mV seals => Sys2Proof.Machine.execSafeVddChange mV seals s
  | .islandSelfTestEnd passed => Sys2Proof.Machine.execIslandSelfTestEnd passed s
  | .islandOscFault => Sys2Proof.Machine.execIslandOscFault s
  | .islandLinkLost => Sys2Proof.Machine.execIslandLinkLost s
  | .recMark v => Sys2Proof.Machine.execRecMark v s
  | .supplyFailWarning => Sys2Proof.Machine.execSupplyFailWarning s
  | .meterSnapshot us => Sys2Proof.Machine.execMeterSnapshot us s
  | .tailSaveComplete => Sys2Proof.Machine.execTailSaveComplete s
  | .supplyCleared => Sys2Proof.Machine.execSupplyCleared s
  | .vmainFail => Sys2Proof.Machine.execVmainFail s
  | .vmainRestore => Sys2Proof.Machine.execVmainRestore s
  | .retentionLoss => Sys2Proof.Machine.execRetentionLoss s
  | .rtcCount => Sys2Proof.Machine.execRtcCount s
  | .alarmFired k => Sys2Proof.Machine.execAlarmFired k s
  | .alarmEnWrite k img => Sys2Proof.Machine.execAlarmEnWrite k img s
  | .oscStopped => Sys2Proof.Machine.execOscStopped s
  | .calSlewDone => Sys2Proof.Machine.execCalSlewDone s
  | .calPtpCompare ptpNs => Sys2Proof.Machine.execCalPtpCompare ptpNs s
  | .utcOffsetStep => Sys2Proof.Machine.execUtcOffsetStep s
  | .trimWindowEnd => Sys2Proof.Machine.execTrimWindowEnd s
  | .wakePin x => Sys2Proof.Machine.execWakePin x s
  | .rlAckWrite => Sys2Proof.Machine.execRlAckWrite s
  | .shutdownWrite confirm => Sys2Proof.Machine.execShutdownWrite confirm s
  | .pwrHoldRelease => Sys2Proof.Machine.execPwrHoldRelease s
  | .shutdownFailed => Sys2Proof.Machine.execShutdownFailed s
  | .porstAssert ns => Sys2Proof.Machine.execPorstAssert ns s
  | .mainResetRelease x => Sys2Proof.Machine.execMainResetRelease x s
  | .resetOutRelease => Sys2Proof.Machine.execResetOutRelease s
  | .thermalRecover x => Sys2Proof.Machine.execThermalRecover x s
  | .scrubPass x => Sys2Proof.Machine.execScrubPass x s
  | .pointMemory p => Sys2Proof.Machine.execPointMemory p s
  | .pointQuarantined p => Sys2Proof.Machine.execPointQuarantined p s
  | .alarmMemory e => Sys2Proof.Machine.execAlarmMemory e s
  | .subMemory e => Sys2Proof.Machine.execSubMemory e s
  | .taskMemory t pos iid => Sys2Proof.Machine.execTaskMemory t pos iid s
  | .bankMemory n => Sys2Proof.Machine.execBankMemory n s
  | .taskEntryMemory t => Sys2Proof.Machine.execTaskEntryMemory t s
  | .loopMemory j => Sys2Proof.Machine.execLoopMemory j s
  | .nodeMemory k a => Sys2Proof.Machine.execNodeMemory k a s
  | .accMemory c => Sys2Proof.Machine.execAccMemory c s
  | .channelMemory n => Sys2Proof.Machine.execChannelMemory n s
  | .clMemory k => Sys2Proof.Machine.execClMemory k s
  | .recordMemory n => Sys2Proof.Machine.execRecordMemory n s
  | .retainedMemory e mask => Sys2Proof.Machine.execRetainedMemory e mask s
  | .plyStatusReceive rx bytes => Sys2Proof.Machine.execPlyStatusReceive rx bytes s
  | .plyMirrorReceive bytes => Sys2Proof.Machine.execPlyMirrorReceive bytes s
  | .plyCatchupReceive bytes => Sys2Proof.Machine.execPlyCatchupReceive bytes s
  | .plyNoticeReceive bytes => Sys2Proof.Machine.execPlyNoticeReceive bytes s
  | .catchupSend => Sys2Proof.Machine.execCatchupSend s
  | .cutoverLoad => Sys2Proof.Machine.execCutoverLoad s
  | .plyLinkLost => Sys2Proof.Machine.execPlyLinkLost s
  | .hbLost => Sys2Proof.Machine.execHbLost s
  | .twinLost => Sys2Proof.Machine.execTwinLost s
  | .joinStepTimeout => Sys2Proof.Machine.execJoinStepTimeout s
  | .catchupRestart => Sys2Proof.Machine.execCatchupRestart s
  | .yieldSwap => Sys2Proof.Machine.execYieldSwap s
  | .yieldCancelled => Sys2Proof.Machine.execYieldCancelled s
  | .selfYield => Sys2Proof.Machine.execSelfYield s
  | .digestRecompute a => Sys2Proof.Machine.execDigestRecompute a s
  | .digestMismatch => Sys2Proof.Machine.execDigestMismatch s
  | .health => Sys2Proof.Machine.execHealth s
  | .hostHello f => Sys2Proof.Machine.execHostHello f s
  | .hostFinish f => Sys2Proof.Machine.execHostFinish f s
  | .handshakeTimeout => Sys2Proof.Machine.execHandshakeTimeout s
  | .enroll f => Sys2Proof.Machine.execEnroll f s
  | .sessionEnd f => Sys2Proof.Machine.execSessionEnd f s
  | .sessionIdle => Sys2Proof.Machine.execSessionIdle s
  | .sessionClose => Sys2Proof.Machine.execSessionClose s
  | .debugAttached => Sys2Proof.Machine.execDebugAttached s
  | .entropyFault => Sys2Proof.Machine.execEntropyFault s
  | .recoveryLinkSearch => Sys2Proof.Machine.execRecoveryLinkSearch s
  | .recoveryIdent x => Sys2Proof.Machine.execRecoveryIdent x s
  | .recoveryBegin x => Sys2Proof.Machine.execRecoveryBegin x s
  | .recoveryData x => Sys2Proof.Machine.execRecoveryData x s
  | .recoveryEnd x => Sys2Proof.Machine.execRecoveryEnd x s
  | .recoveryBoot x => Sys2Proof.Machine.execRecoveryBoot x s
  | .recoveryEraseDone => Sys2Proof.Machine.execRecoveryEraseDone s
  | .restartReset => Sys2Proof.Machine.execRestartReset s
  | .hartRetry k => Sys2Proof.Machine.execHartRetry k s
  | .hartBurstFrame k => Sys2Proof.Machine.execHartBurstFrame k s
  | .rxFrameDropped x => Sys2Proof.Machine.execRxFrameDropped x s
  | .plyHbInChange => Sys2Proof.Machine.execPlyHbInChange s
  | .ownPauseSuppressionEnd p => Sys2Proof.Machine.execOwnPauseSuppressionEnd p s
  | .maskWindowEnd pinA pinB => Sys2Proof.Machine.execMaskWindowEnd pinA pinB s

end Sys2Proof.Machine
end

