-- ==== Sys2Proof/Laws/Tables.lean ====
section
/-!
SUPPORT. Sparse tables: a read after a write, at the same key and at another, and the canonical form that a write keeps.
-/
namespace Sys2Proof.Machine

variable {α : Type}

theorem tget_terase_self (d : α) (t : Tbl α) (k : Nat) : tget d (terase t k) k = d := by
  induction t with
  | nil => rfl
  | cons e t ih =>
    obtain ⟨k', v⟩ := e
    by_cases h : k' = k <;> simp [terase, tget, h, ih]

theorem tget_terase_other (d : α) (t : Tbl α) {k j : Nat} (h : j ≠ k) : tget d (terase t k) j = tget d t j := by
  induction t with
  | nil => rfl
  | cons e t ih =>
    obtain ⟨k', v⟩ := e
    by_cases hk : k' = k
    · subst hk; simp [terase, tget, h.symm, ih]
    · simp [terase, tget, hk, ih]

theorem tget_tput_self (d : α) (t : Tbl α) (k : Nat) (v : α) : tget d (tput t k v) k = v := by
  induction t with
  | nil => simp [tput, tget]
  | cons e t ih =>
    obtain ⟨k', v'⟩ := e
    simp only [tput]
    split
    · simp [tget]
    · split
      · simp [tget]
      · next h => simp [tget, h, ih]

theorem tget_tput_other (d : α) (t : Tbl α) {k j : Nat} (v : α) (h : j ≠ k) : tget d (tput t k v) j = tget d t j := by
  induction t with
  | nil => simp [tput, tget, h.symm]
  | cons e t ih =>
    obtain ⟨k', v'⟩ := e
    simp only [tput]
    split
    · simp [tget, h.symm]
    · split
      · next hk => subst hk; simp [tget, h.symm]
      · simp [tget, ih]

variable [DecidableEq α]

/-- An object that has just been written reads as written. -/
@[simp] theorem tget_tset_self (d : α) (t : Tbl α) (k : Nat) (v : α) : tget d (tset d t k v) k = v := by
  unfold tset
  split
  · next h => rw [tget_terase_self, h]
  · exact tget_tput_self ..

/-- A write leaves the other objects alone. -/
theorem tget_tset_other (d : α) (t : Tbl α) {k j : Nat} (v : α) (h : j ≠ k) : tget d (tset d t k v) j = tget d t j := by
  unfold tset
  split
  · exact tget_terase_other _ _ h
  · exact tget_tput_other _ _ _ h

/-- Both cases of a read after a write. -/
theorem tget_tset (d : α) (t : Tbl α) (k j : Nat) (v : α) :
    tget d (tset d t k v) j = if j = k then v else tget d t j := by
  by_cases h : j = k
  · subst h; simp
  · simp [h, tget_tset_other _ _ _ h]

theorem tblWfFrom_mono (d : α) {a b : Nat} (t : Tbl α) (hab : b ≤ a) (h : tblWfFrom d a t = true) :
    tblWfFrom d b t = true := by
  cases t with
  | nil => rfl
  | cons e t =>
    obtain ⟨k, v⟩ := e
    simp only [tblWfFrom, Bool.and_eq_true, decide_eq_true_eq] at h ⊢
    exact ⟨⟨by omega, h.1.2⟩, h.2⟩

theorem tblWfFrom_terase (d : α) (t : Tbl α) (k lo : Nat) (h : tblWfFrom d lo t = true) :
    tblWfFrom d lo (terase t k) = true := by
  induction t generalizing lo with
  | nil => rfl
  | cons e t ih =>
    obtain ⟨k', v⟩ := e
    simp only [tblWfFrom, Bool.and_eq_true, decide_eq_true_eq] at h
    simp only [terase]
    split
    · exact tblWfFrom_mono d _ (by omega) (ih _ h.2)
    · simp only [tblWfFrom, Bool.and_eq_true, decide_eq_true_eq]
      exact ⟨h.1, ih _ h.2⟩

theorem tblWfFrom_tput (d : α) (t : Tbl α) (k lo : Nat) (v : α) (hv : v ≠ d) (hk : lo ≤ k)
    (h : tblWfFrom d lo t = true) : tblWfFrom d lo (tput t k v) = true := by
  induction t generalizing lo with
  | nil => simp [tput, tblWfFrom, hv, hk]
  | cons e t ih =>
    obtain ⟨k', v'⟩ := e
    simp only [tblWfFrom, Bool.and_eq_true, decide_eq_true_eq] at h
    simp only [tput]
    split
    · simp only [tblWfFrom, Bool.and_eq_true, decide_eq_true_eq]
      exact ⟨⟨hk, hv⟩, ⟨by omega, h.1.2⟩, h.2⟩
    · split
      · next hk' => subst hk'; simp only [tblWfFrom, Bool.and_eq_true, decide_eq_true_eq]; exact ⟨⟨hk, hv⟩, h.2⟩
      · simp only [tblWfFrom, Bool.and_eq_true, decide_eq_true_eq]
        exact ⟨h.1, ih _ (by omega) h.2⟩

/-- A write keeps the canonical form of a table. -/
theorem tblWf_tset (d : α) (t : Tbl α) (k : Nat) (v : α) (h : tblWf d t = true) : tblWf d (tset d t k v) = true := by
  unfold tset tblWf at *
  split
  · exact tblWfFrom_terase d t k 0 h
  · next hv => exact tblWfFrom_tput d t k 0 v hv (Nat.zero_le _) h

theorem all_terase (p : Nat × α → Bool) (t : Tbl α) (k : Nat) (h : t.all p = true) : (terase t k).all p = true := by
  induction t with
  | nil => rfl
  | cons e t ih =>
    obtain ⟨k', v⟩ := e
    simp only [List.all_cons, Bool.and_eq_true] at h
    simp only [terase]
    split
    · exact ih h.2
    · simp [h.1, ih h.2]

theorem all_tput (p : Nat × α → Bool) (t : Tbl α) (k : Nat) (v : α) (hp : p (k, v) = true) (h : t.all p = true) :
    (tput t k v).all p = true := by
  induction t with
  | nil => simp [tput, hp]
  | cons e t ih =>
    obtain ⟨k', v'⟩ := e
    simp only [List.all_cons, Bool.and_eq_true] at h
    simp only [tput]
    split
    · simp [h.1, h.2, hp]
    · split
      · simp [hp, h.2]
      · simp [h.1, ih h.2]

/-! ### The retained SRAM -/

/-- A write keeps the canonical form of the retained SRAM. -/
theorem Memory.wf_write (m : Memory) (a : Nat) (v : Byte) (h : m.wf = true) : (m.write a v).wf = true := by
  unfold Memory.write
  split
  · next ha =>
    simp only [Memory.wf, Bool.and_eq_true] at h ⊢
    refine ⟨tblWf_tset _ _ _ _ h.1, ?_⟩
    unfold tset
    split
    · exact all_terase _ _ _ h.2
    · exact all_tput _ _ _ _ (by simpa using ha) h.2
  · exact h

/-- So does a list of writes. -/
theorem Memory.wf_writeAll (ws : List (Nat × Byte)) (m : Memory) (h : m.wf = true) : (m.writeAll ws).wf = true := by
  induction ws generalizing m with
  | nil => exact h
  | cons w ws ih => exact ih _ (Memory.wf_write _ _ _ h)

/-- A byte that has just been written reads as written. -/
theorem Memory.read_write_self (m : Memory) (a : Nat) (v : Byte) (ha : a < Memory.size) : (m.write a v).read a = v := by
  simp [Memory.write, Memory.read, ha]

/-- A write leaves every other byte alone. -/
theorem Memory.read_write_other (m : Memory) {a b : Nat} (v : Byte) (h : b ≠ a) : (m.write a v).read b = m.read b := by
  unfold Memory.write Memory.read
  split
  · exact tget_tset_other _ _ _ h
  · rfl

/-- Bytes at none of the written addresses read as before. -/
theorem Memory.read_writeAll_other (ws : List (Nat × Byte)) (m : Memory) (b : Nat) (h : ∀ w ∈ ws, w.1 ≠ b) :
    (m.writeAll ws).read b = m.read b := by
  induction ws generalizing m with
  | nil => rfl
  | cons w ws ih =>
    have h1 := ih (m.write w.1 w.2) (fun x hx => h x (List.mem_cons_of_mem _ hx))
    simp only [Memory.writeAll, List.foldl_cons] at h1 ⊢
    rw [h1]
    exact Memory.read_write_other _ _ (h w (List.mem_cons_self ..)).symm

end Sys2Proof.Machine
end

