-- ==== Sys2Proof/Safety.lean ====
section
/-!
DEFINITION. What counts as a safe run: the retained SRAM is in its canonical form, nothing waits to be written, and the
safety island keeps its own invariant; and the words in which the statements speak of one command.
-/
namespace Sys2Proof

/-- The events of the safety island (13). -/
def Instr.isIsland : Instr → Bool
  | .islandTick _ | .safetyInputFall _ | .discrepancyTimeout _ | .testPulse _ | .testPulseCheck _ _ | .sealReread _ _
  | .stpOverload _ _ | .switchTestStep _ | .brakeTimeout _ | .safetyFaultCleared _ | .safeVddChange _ _
  | .islandSelfTestEnd _ | .islandOscFault | .maskWindowEnd _ _ => true
  | _ => false

/-- The events that the module sees whether its main domain runs or not: supplies and resets, the backup domain, recovery
mode, the links. -/
def Instr.anyPower : Instr → Bool
  | .porstAssert _ | .mainResetRelease _ | .resetOutRelease | .thermalRecover _ | .supplyFailWarning | .supplyCleared
  | .recoveryLinkSearch | .recoveryIdent _ | .recoveryBegin _ | .recoveryData _ | .recoveryEnd _ | .recoveryBoot _
  | .recoveryEraseDone | .vmainFail | .vmainRestore | .retentionLoss | .rtcCount | .alarmFired _ | .oscStopped
  | .calSlewDone | .trimWindowEnd | .wakePin _ | .pwrHoldRelease | .shutdownFailed | .linkUp _ _ | .linkDown _ => true
  | _ => false

end Sys2Proof

namespace Sys2Proof.Machine

/-! ### The invariant -/

/-- The switches of a brake output agree with its state (R451, R452). -/
def SafeOut.agrees (v : SafeOut) : Bool :=
  match v.st with
  | .off | .fault => !v.hs && !v.ls
  | .testing n => if n = 1 then v.hs && !v.ls else if n = 2 then !v.hs && v.ls else !v.hs && !v.ls
  | .releasing | .on => v.hs && v.ls

/-- The output is in OFF or FAULT, where its switches are open. -/
def SafeOut.rests (v : SafeOut) : Bool := v.st == .off || v.st == .fault

/-- An output agrees with its state; with `quiet`, it rests. -/
def SafeOut.sound (quiet : Bool) (v : SafeOut) : Bool := v.agrees && (!quiet || v.rests)

/-- So do the four outputs of a logic copy. -/
def IslCopy.sound (quiet : Bool) (c : IslCopy) : Bool := [0, 1, 2, 3].all (fun j => (c.outp j).sound quiet)

/-- The mask windows do not overlap (R439, R446): that of STP_A is open at the tick of its pulse, that of STP_B 50 ticks
after a pulse of STP_A. -/
def Island.masksApart (x : Island) : Bool :=
  !(x.maskA && x.maskB) && (!x.maskA || x.lastA == some x.tick) &&
    (!x.maskB || (match x.lastA with
      | some t => (x.tick - t) % 100 == 50
      | none => false))

/-- The safety island between two events: outside READY every output rests (R454); SAFE_OK follows the two copies
(R455). -/
def Island.sound (x : Island) : Bool :=
  x.copyA.sound (x.st != .ready) && x.copyB.sound (x.st != .ready) &&
    x.okA == (x.st == .ready && x.copyA.healthy) && x.okB == (x.st == .ready && x.copyB.healthy) && x.masksApart

/-- The invariant of the block. -/
def State.inv (s : State) : Prop :=
  Memory.wf s.sram = true ∧ s.dev.wr = [] ∧ s.isl.sound = true

/-- A queue whose commands all name units that exist. -/
def State.namesUnits (s : State) : Prop := ∀ c ∈ s.pending, c.wellFormed = true

/-! ### One command -/

/-- The row of the command table that executes a command (R135, R150 to R162). -/
def Cmd.executedBy (c : Cmd) (i : Instr) : Prop :=
  i = .nop c.ch c.tag ∧ cmdNop c = true ∨
    i = .pointRead c.ch c.tag ∧ c.opcode = 0x01 ∨ i = .pointWrite c.ch c.tag ∧ c.opcode = 0x02 ∨
    i = .pointConfig c.ch c.tag ∧ c.opcode = 0x03 ∨ i = .alarmAck c.ch c.tag ∧ c.opcode = 0x04 ∨
    i = .readEntry c.ch c.tag ∧ c.opcode = 0x08 ∨ i = .writeEntry c.ch c.tag ∧ c.opcode = 0x09 ∨
    i = .readReg c.ch c.tag ∧ c.opcode = 0x0C ∨ i = .writeReg c.ch c.tag ∧ c.opcode = 0x0D ∨
    i = .bankExchange c.ch c.tag ∧ c.opcode = 0x10 ∨ i = .hartSend c.ch c.tag ∧ c.opcode = 0x12 ∨
    i = .strandLineOff c.ch c.tag ∧ cmdLine 0 c = true ∨ i = .strandLineOn c.ch c.tag ∧ cmdLine 1 c = true ∨
    i = .strandLineResetLatch c.ch c.tag ∧ cmdLine 2 c = true ∨
    i = .timeSetStep c.ch c.tag ∧ cmdTime false c = true ∨ i = .timeSetSlew c.ch c.tag ∧ cmdTime true c = true ∨
    i = .pair c.ch c.tag ∧ cmdPly 1 c = true ∨ i = .unpair c.ch c.tag ∧ cmdPly 2 c = true ∨
    i = .yieldRole c.ch c.tag ∧ cmdPly 3 c = true ∨ i = .retryCutover c.ch c.tag ∧ cmdPly 4 c = true ∨
    i = .lifecycleSet c.ch c.tag ∧ c.opcode = 0x38 ∨
    i = .updateBegin c.ch c.tag ∧ c.opcode = 0x30 ∨ i = .updateData c.ch c.tag ∧ c.opcode = 0x31 ∨
    i = .updateEnd c.ch c.tag ∧ c.opcode = 0x32 ∨ i = .deviceRestart c.ch c.tag ∧ c.opcode = 0x3F

/-- The island alone changes. -/
def State.islandOnly (s t : State) : Prop := t = { s with isl := t.isl }

/-- A logic copy of the island: copy A, or copy B. -/
def Island.side (x : Island) (chB : Bool) : IslCopy := if chB then x.copyB else x.copyA

/-- The main domain runs. -/
abbrev State.up (s : State) : Prop := s.dev.isMain = true

/-- The command answers a next state, and that state has the property. -/
def Runs (i : Instr) (s : State) (p : State → Prop) : Prop := ∃ t, exec i s = .next t ∧ p t

/-- A channel but for what a dropped record writes: its drop counts (R195). -/
def Channel.butDrops (c c' : Channel) : Prop := c' = { c with dropCnt := c'.dropCnt, drops := c'.drops }

/-- The transport but for what reports write beside the drop counts of channels: the event queue and its peak, the count of
records without a channel, the rate limits (R178, R183, R640). -/
def Transport.butReports (a b : Transport) : Prop :=
  b = { a with chans := b.chans, evq := b.evq, evqPeak := b.evqPeak, closedCnt := b.closedCnt, rates := b.rates }

/-- What reports write between `d` and `d'`: drop counts of channels, the event queue, the recorder's store, FAULT_SUM and
FAULT_FIRST (R164, R178, R183, R465). -/
def Dev.reportsTo (d d' : Dev) : Prop :=
  (∀ j, (d.chan j).butDrops (d'.chan j)) ∧ d.tr.butReports d'.tr ∧
    d'.rcd = { d.rcd with
      recs := d'.rcd.recs, snaps := d'.rcd.snaps, stored := d'.rcd.stored, snapNext := d'.rcd.snapNext
      next := d'.rcd.next, copied := d'.rcd.copied, copyLost := d'.rcd.copyLost, mergeCnt := d'.rcd.mergeCnt
      intake := d'.rcd.intake } ∧
    d'.flt = { d.flt with sum := d'.flt.sum, first := d'.flt.first }

/-- What the command puts into the queues of the ports is what it hands out: with nothing handed out, they stand, and no
frame starts (R205 to R214). -/
def Dev.departs (d d' : Dev) : Prop := d'.out = [] → d'.eg = d.eg ∧ d'.wire = []

/-- The command leaves the queue, the island and the retained SRAM alone, and the module is `d` but for what reports
write and for what it hands out to the pins and the queues of the ports. -/
def State.frame (s t : State) (d : Dev) : Prop :=
  t = { s with dev := { d with
    tr := t.dev.tr, rcd := t.dev.rcd, flt := t.dev.flt, eg := t.dev.eg, wire := t.dev.wire, out := t.dev.out, wr := [] } } ∧
    d.reportsTo t.dev ∧ d.departs t.dev

/-- The same for a command of channel `ch`, whose own queue pair may change. -/
def State.frameCh (s t : State) (ch : Nat) (d : Dev) : Prop :=
  s.frame t { d with tr := t.dev.tr } ∧ d.tr.butReports t.dev.tr ∧
    ∀ j, j ≠ ch → (s.dev.chan j).butDrops (t.dev.chan j)

/-- The same, where nothing is reported and nothing goes to the pins. -/
def State.silent (s t : State) (d : Dev) : Prop := t = { s with dev := { d with wire := [], out := [], wr := [] } }

/-- A write that the manual lists as a step of its own meets the checks of its command, and is applied (R111, R144). -/
abbrev writeAdmitted (c : Cmd) (s : State) : Prop :=
  let d := s.dev.fresh0
  checkIndex c d = none ∧ checkPayload c = none ∧ checkSource c d = none ∧ admitOver c d = none

/-- Is the status of a command settled without its execution (R120). -/
def CmdStage.isEnded : CmdStage → Bool
  | .ended _ => true
  | _ => false

/-- Behind every command of a channel whose status is settled stands a full barrier beside those with these tags: none of
them completes with these (R120). -/
abbrev Dev.endedHeld (d : Dev) (ch : Nat) (tags : List Nat) : Prop :=
  ∀ e ∈ d.inFlight ch, e.stage.isEnded = true →
    ∃ b ∈ d.inFlight ch, b.isBarrier = true ∧ b.stage ≠ .finished ∧ b.seq < e.seq ∧ b.tag ∉ tags

/-- A command waits in its slot, nothing holds it, its completion limit has not passed, it is no member of a group, and no
command ends with it (R107, R118 to R124, R129). -/
abbrev Cmd.waitsAlone (c : Cmd) (s : State) : Prop :=
  c.ch ≤ 64 ∧ c.tag < 128 ∧ s.dev.slot c.ch c.tag = some c ∧ c.stage = .waiting ∧ s.dev.blocked c = false ∧
    c.pastLimit s.dev = false ∧ c.a = false ∧ s.dev.endedHeld c.ch [c.tag]

/-- Such a command that is applied on execution and passes checks 9 to 16 (R111, R122). -/
abbrev Cmd.runnable (c : Cmd) (s : State) : Prop :=
  c.waitsAlone s ∧ c.t = false ∧ c.isConfig = false ∧ checkAll c false s.dev.fresh0 = none

/-- A COMPLETION record waits in a channel's transmit queue, or behind it while its places are taken (R113, R183). -/
def Channel.holds (c : Channel) (x : Completion) : Prop := .completion x ∈ c.txq ∨ x ∈ c.backlog

/-- A channel but for its completions, FENCE_FAULT and the drop counts. -/
def Channel.butCompletions (c c' : Channel) : Prop :=
  ({ c with fenceFault := c'.fenceFault, txq := c'.txq, backlog := c'.backlog }).butDrops c'

/-- The same, for a command that is refused before it takes a slot: the failure is noted as one that no barrier before it
clears (R120). -/
def Channel.butRefusals (c c' : Channel) : Prop := ({ c with faultAfter := c'.faultAfter }).butCompletions c'

/-- A command ends with a status: with N and OK it frees its slot and says nothing; else it is finished in its slot, and its
COMPLETION record waits to be written (R107, R113, R115, R183). -/
def Cmd.ends (c : Cmd) (status : Nat) (s t : State) : Prop :=
  (c.n = true → status = 0 → t.dev.slot c.ch c.tag = none ∧ (t.dev.chan c.ch).txq = (s.dev.chan c.ch).txq ∧
    (t.dev.chan c.ch).backlog = (s.dev.chan c.ch).backlog) ∧
  (c.n = false ∨ status ≠ 0 → (t.dev.slot c.ch c.tag).map (·.stage) = some .finished ∧
    ∃ x, (t.dev.chan c.ch).holds x ∧ x.status = BitVec.ofNat 8 status ∧ x.tag = fld c.hdr 16 8 ∧
      x.opcode = fld c.hdr 24 8 ∧ x.seq = c.seq ∧ x.holdsSlot = true) ∧
  (status ≠ 0 → (t.dev.chan c.ch).fenceFault = true) ∧ (s.dev.chan c.ch).butCompletions (t.dev.chan c.ch)

/-- A command ends with OK. -/
abbrev Cmd.completes (c : Cmd) (s t : State) : Prop := c.ends 0 s t

/-- A read writes its reply to the reply area of its channel and waits for the acknowledgement (R138, R140); with the link
down the reply waits in the port's queue (R198). -/
def Cmd.replies (c : Cmd) (bytes : List Byte) (s t : State) : Prop :=
  (t.dev.slot c.ch c.tag).map (·.stage) = some .replying ∧
    ∃ r, t.dev.out = [.rdma c.ch r] ∧ (t.dev.chan c.ch).unacked = (s.dev.chan c.ch).unacked ++ [r] ∧
      r.kind = .reply c.tag c.seq ∧ r.psn = (s.dev.chan c.ch).nextPsn ∧ r.data = bytes ∧
      r.rkey = (s.dev.chan c.ch).replyRkey ∧
      r.addr = (s.dev.chan c.ch).replyBase + BitVec.ofNat 64 c.replyOffset ∧
      ({ s.dev.chan c.ch with
        unacked := (t.dev.chan c.ch).unacked, nextPsn := (t.dev.chan c.ch).nextPsn
        linkWait := (t.dev.chan c.ch).linkWait }).butDrops (t.dev.chan c.ch) ∧
      (s.dev.linkUpFor (s.dev.chan c.ch) = true → (t.dev.chan c.ch).linkWait = (s.dev.chan c.ch).linkWait)

/-! ### Access kinds (R14, R16) -/

/-- RW fields of an entry of a space, as the entry maps give them (R82, R86, R286, R287, R292, R308, R337, R404, R426, R508,
R544); MAN_OUT of a loop, which a change of MODE may write, is left out (R348). -/
def entryRw (sp i : Nat) : List (Nat × Nat) :=
  match sp with
  | 0x02 => [(336, 16), (329, 7), (256, 64), (0, 256)]
  | 0x03 => [(128, 16), (64, 64), (25, 1), (21, 2), (0, 17)]
  | 0x10 => [(32, 10), (16, 16), (0, 3)]
  | 0x11 => [(160, 32), (38, 53)]
  | 0x20 => [(0, 128)]
  | 0x21 => [(186, 70), (152, 32), (120, 4), (108, 4)]
  | 0x30 => [(704, 32), (220, 452)]
  | 0x40 => if i < 78 then [(352, 64), (303, 49), (6, 10), (0, 1)]
    else if i < 86 then [(448, 64), (376, 72), (332, 12), (0, 1)] else [(448, 64), (2, 4)]
  | 0x50 => [(576, 64), (269, 51), (193, 63), (8, 8), (0, 1)]
  | 0x80 => if i = 0 then [(6, 1)] else if i ≤ 8 then [(160, 96), (3, 2)] else if i = 9 then [(224, 32), (2, 2)]
    else if i = 10 then [(4, 1)] else if i < 16 then [] else [(0, 256)]
  | 0x90 => if i = 0 then [(24, 40)] else []
  | _ => []

/-- RW bits of a device register, as the register maps give them (R52, R77, R86, R92, R169, R226 to R228, R253, R330, R457,
R480); OPEN of a channel is among them. -/
def regRwBits (o : Nat) : Reg :=
  if o = 0x0110 then 0x3
  else if o < 0x0200 then 0
  else if o < 0x0238 then if o % 8 = 0 then 0xFFFFFFFE else 0xFFFFFFFF
  else if o < 0x0240 then 0
  else if o < 0x0340 then 0x7FFF3FFF
  else if o = 0x0340 then 0x1FFF
  else if o < 0x0700 then 0
  else if o < 0x07C0 then
    let r := o % 0x40
    if r = 0 then 0xFE01FFFF else if r = 0x24 ∨ r = 0x28 then 0xFFFFFFFF else if r = 0x3C then 7
    else if o < 0x0780 ∧ 0x10 ≤ r ∧ r ≤ 0x20 then 0xFFFFFFFF else 0
  else if o < 0x0800 then 0
  else if o < 0x0B00 then 0xFF07FFFF
  else if o = 0x0B00 then 0x00FF003F
  else if o = 0x0B10 then 0x7FFCFFFF
  else if o < 0x0C00 then 0
  else if o < 0x0E00 then if o % 0x20 = 0 then 0xFFFFFFFF else if o % 0x20 = 4 then 0x80FF0FFF else 0
  else if o = 0x0E04 then 0x1FFFF
  else if o < 0x1000 then 0
  else if o < 0x3000 then
    let w := o % 0x80 / 4
    if w = 0 then 0xFFFFFFE0 else if w = 2 ∨ w = 3 ∨ w = 4 then 0xFFFFFF else if w = 21 then 0xFFFF
    else if (5 ≤ w ∧ w ≤ 14) ∨ (16 ≤ w ∧ w ≤ 20) then 0xFFFFFFFF else 0
  else if o = 0x3200 then 0x8001FFFF
  else if o = 0x3300 then 0x3FFFF
  else if o = 0x3304 then 0x1FF
  else if o < 0x3340 then 0
  else if o < 0x33C0 then if o % 8 = 0 then 0xF801FFFF else 0x3FFFFF
  else 0

/-- W1C bits of a device register (R52, R164, R253, R633). -/
def regW1cBits (o : Nat) : Reg :=
  if o = 0x0044 then 0xFFFE else if o = 0x0120 then 0x3F else if o = 0x3600 then 0x80000000
  else if 0x0C00 ≤ o ∧ o < 0x0E00 ∧ o % 0x20 = 0x0C then 0xFFE else 0

/-- May the partition whose range holds a subscription entry read the entry's point (R66, R86, R93). -/
def Dev.subReadable (d : Dev) (e : Nat) : Bool :=
  match d.subHolder e with
  | some part => d.canRead part (d.sub e).point.toNat
  | none => false

/-- Every enabled subscription is revoked exactly while its partition may not read the point (R93). -/
def Dev.rightsSettled (d : Dev) : Prop := ∀ e, (d.sub e).en = true → (d.sub e).revoked = !d.subReadable e

end Sys2Proof.Machine
end

