-- ==== Sys2Proof/Laws/State.lean ====
section
/-!
SUPPORT. What each update of the state leaves alone, field by field, and what it writes: the rewriting rules that later
proofs use instead of unfolding a record update.
-/
namespace Sys2Proof.Machine

/-! ### Numbered objects -/

@[simp] theorem Dev.point_setPoint (d : Dev) (k j : Nat) (x : Point) :
    (d.setPoint k x).point j = if j = k then x else d.point j := tget_tset ..

@[simp] theorem Dev.setPoint_keeps (d : Dev) (k : Nat) (x : Point) :
    (d.setPoint k x).tb = d.tb ∧ (d.setPoint k x).cp = d.cp ∧ (d.setPoint k x).tr = d.tr ∧
    (d.setPoint k x).ports = d.ports ∧ (d.setPoint k x).net = d.net ∧ (d.setPoint k x).lines = d.lines ∧
    (d.setPoint k x).strands = d.strands ∧ (d.setPoint k x).nodes = d.nodes ∧ (d.setPoint k x).lg = d.lg ∧
    (d.setPoint k x).lp = d.lp ∧ (d.setPoint k x).mt = d.mt ∧ (d.setPoint k x).cl = d.cl ∧
    (d.setPoint k x).diag = d.diag ∧ (d.setPoint k x).rcd = d.rcd ∧ (d.setPoint k x).flt = d.flt ∧
    (d.setPoint k x).ply = d.ply ∧ (d.setPoint k x).sec = d.sec ∧ (d.setPoint k x).upd = d.upd ∧
    (d.setPoint k x).rcv = d.rcv ∧ (d.setPoint k x).rcvPast = d.rcvPast ∧ (d.setPoint k x).th = d.th ∧
    (d.setPoint k x).bk = d.bk ∧ (d.setPoint k x).fuses = d.fuses ∧ (d.setPoint k x).flash = d.flash ∧
    (d.setPoint k x).pwr = d.pwr ∧ (d.setPoint k x).inp = d.inp ∧ (d.setPoint k x).fresh = d.fresh ∧
    (d.setPoint k x).eg = d.eg ∧ (d.setPoint k x).wire = d.wire ∧ (d.setPoint k x).out = d.out ∧ (d.setPoint k x).wr = d.wr := by
  simp [Dev.setPoint]

@[simp] theorem Dev.alarm_setAlarm (d : Dev) (k j : Nat) (x : Alarm) :
    (d.setAlarm k x).alarm j = if j = k then x else d.alarm j := tget_tset ..

@[simp] theorem Dev.setAlarm_keeps (d : Dev) (k : Nat) (x : Alarm) :
    (d.setAlarm k x).tb = d.tb ∧ (d.setAlarm k x).cp = d.cp ∧ (d.setAlarm k x).tr = d.tr ∧
    (d.setAlarm k x).ports = d.ports ∧ (d.setAlarm k x).net = d.net ∧ (d.setAlarm k x).lines = d.lines ∧
    (d.setAlarm k x).strands = d.strands ∧ (d.setAlarm k x).nodes = d.nodes ∧ (d.setAlarm k x).lg = d.lg ∧
    (d.setAlarm k x).lp = d.lp ∧ (d.setAlarm k x).mt = d.mt ∧ (d.setAlarm k x).cl = d.cl ∧
    (d.setAlarm k x).diag = d.diag ∧ (d.setAlarm k x).rcd = d.rcd ∧ (d.setAlarm k x).flt = d.flt ∧
    (d.setAlarm k x).ply = d.ply ∧ (d.setAlarm k x).sec = d.sec ∧ (d.setAlarm k x).upd = d.upd ∧
    (d.setAlarm k x).rcv = d.rcv ∧ (d.setAlarm k x).rcvPast = d.rcvPast ∧ (d.setAlarm k x).th = d.th ∧
    (d.setAlarm k x).bk = d.bk ∧ (d.setAlarm k x).fuses = d.fuses ∧ (d.setAlarm k x).flash = d.flash ∧
    (d.setAlarm k x).pwr = d.pwr ∧ (d.setAlarm k x).inp = d.inp ∧ (d.setAlarm k x).fresh = d.fresh ∧
    (d.setAlarm k x).eg = d.eg ∧ (d.setAlarm k x).wire = d.wire ∧ (d.setAlarm k x).out = d.out ∧ (d.setAlarm k x).wr = d.wr := by
  simp [Dev.setAlarm]

@[simp] theorem Dev.sub_setSub (d : Dev) (k j : Nat) (x : Sub) :
    (d.setSub k x).sub j = if j = k then x else d.sub j := tget_tset ..

@[simp] theorem Dev.setSub_keeps (d : Dev) (k : Nat) (x : Sub) :
    (d.setSub k x).tb = d.tb ∧ (d.setSub k x).cp = d.cp ∧ (d.setSub k x).tr = d.tr ∧ (d.setSub k x).ports = d.ports ∧
    (d.setSub k x).net = d.net ∧ (d.setSub k x).lines = d.lines ∧ (d.setSub k x).strands = d.strands ∧
    (d.setSub k x).nodes = d.nodes ∧ (d.setSub k x).lg = d.lg ∧ (d.setSub k x).lp = d.lp ∧ (d.setSub k x).mt = d.mt ∧
    (d.setSub k x).cl = d.cl ∧ (d.setSub k x).diag = d.diag ∧ (d.setSub k x).rcd = d.rcd ∧
    (d.setSub k x).flt = d.flt ∧ (d.setSub k x).ply = d.ply ∧ (d.setSub k x).sec = d.sec ∧
    (d.setSub k x).upd = d.upd ∧ (d.setSub k x).rcv = d.rcv ∧ (d.setSub k x).rcvPast = d.rcvPast ∧
    (d.setSub k x).th = d.th ∧ (d.setSub k x).bk = d.bk ∧ (d.setSub k x).fuses = d.fuses ∧
    (d.setSub k x).flash = d.flash ∧ (d.setSub k x).pwr = d.pwr ∧ (d.setSub k x).inp = d.inp ∧
    (d.setSub k x).fresh = d.fresh ∧ (d.setSub k x).eg = d.eg ∧ (d.setSub k x).wire = d.wire ∧ (d.setSub k x).out = d.out ∧ (d.setSub k x).wr = d.wr := by
  simp [Dev.setSub]

@[simp] theorem Dev.chan_setChan (d : Dev) (k j : Nat) (x : Channel) :
    (d.setChan k x).chan j = if j = k then x else d.chan j := tget_tset ..

@[simp] theorem Dev.setChan_keeps (d : Dev) (k : Nat) (x : Channel) :
    (d.setChan k x).tb = d.tb ∧ (d.setChan k x).ps = d.ps ∧ (d.setChan k x).cp = d.cp ∧
    (d.setChan k x).ports = d.ports ∧ (d.setChan k x).net = d.net ∧ (d.setChan k x).lines = d.lines ∧
    (d.setChan k x).strands = d.strands ∧ (d.setChan k x).nodes = d.nodes ∧ (d.setChan k x).lg = d.lg ∧
    (d.setChan k x).lp = d.lp ∧ (d.setChan k x).mt = d.mt ∧ (d.setChan k x).cl = d.cl ∧
    (d.setChan k x).diag = d.diag ∧ (d.setChan k x).rcd = d.rcd ∧ (d.setChan k x).flt = d.flt ∧
    (d.setChan k x).ply = d.ply ∧ (d.setChan k x).sec = d.sec ∧ (d.setChan k x).upd = d.upd ∧
    (d.setChan k x).rcv = d.rcv ∧ (d.setChan k x).rcvPast = d.rcvPast ∧ (d.setChan k x).th = d.th ∧
    (d.setChan k x).bk = d.bk ∧ (d.setChan k x).fuses = d.fuses ∧ (d.setChan k x).flash = d.flash ∧
    (d.setChan k x).pwr = d.pwr ∧ (d.setChan k x).inp = d.inp ∧ (d.setChan k x).fresh = d.fresh ∧
    (d.setChan k x).eg = d.eg ∧ (d.setChan k x).wire = d.wire ∧ (d.setChan k x).out = d.out ∧ (d.setChan k x).wr = d.wr := by
  simp [Dev.setChan]

@[simp] theorem Dev.chan_modChan (d : Dev) (k j : Nat) (f : Channel → Channel) :
    (d.modChan k f).chan j = if j = k then f (d.chan k) else d.chan j := tget_tset ..

@[simp] theorem Dev.modChan_keeps (d : Dev) (k : Nat) (f : Channel → Channel) :
    (d.modChan k f).tb = d.tb ∧ (d.modChan k f).ps = d.ps ∧ (d.modChan k f).cp = d.cp ∧
    (d.modChan k f).ports = d.ports ∧ (d.modChan k f).net = d.net ∧ (d.modChan k f).lines = d.lines ∧
    (d.modChan k f).strands = d.strands ∧ (d.modChan k f).nodes = d.nodes ∧ (d.modChan k f).lg = d.lg ∧
    (d.modChan k f).lp = d.lp ∧ (d.modChan k f).mt = d.mt ∧ (d.modChan k f).cl = d.cl ∧
    (d.modChan k f).diag = d.diag ∧ (d.modChan k f).rcd = d.rcd ∧ (d.modChan k f).flt = d.flt ∧
    (d.modChan k f).ply = d.ply ∧ (d.modChan k f).sec = d.sec ∧ (d.modChan k f).upd = d.upd ∧
    (d.modChan k f).rcv = d.rcv ∧ (d.modChan k f).rcvPast = d.rcvPast ∧ (d.modChan k f).th = d.th ∧
    (d.modChan k f).bk = d.bk ∧ (d.modChan k f).fuses = d.fuses ∧ (d.modChan k f).flash = d.flash ∧
    (d.modChan k f).pwr = d.pwr ∧ (d.modChan k f).inp = d.inp ∧ (d.modChan k f).fresh = d.fresh ∧
    (d.modChan k f).eg = d.eg ∧ (d.modChan k f).wire = d.wire ∧ (d.modChan k f).out = d.out ∧ (d.modChan k f).wr = d.wr := by
  simp [Dev.modChan]

@[simp] theorem Dev.port_setPort (d : Dev) (k j : Nat) (x : Port) :
    (d.setPort k x).port j = if j = k then x else d.port j := tget_tset ..

@[simp] theorem Dev.setPort_keeps (d : Dev) (k : Nat) (x : Port) :
    (d.setPort k x).tb = d.tb ∧ (d.setPort k x).ps = d.ps ∧ (d.setPort k x).cp = d.cp ∧ (d.setPort k x).tr = d.tr ∧
    (d.setPort k x).net = d.net ∧ (d.setPort k x).lines = d.lines ∧ (d.setPort k x).strands = d.strands ∧
    (d.setPort k x).nodes = d.nodes ∧ (d.setPort k x).lg = d.lg ∧ (d.setPort k x).lp = d.lp ∧
    (d.setPort k x).mt = d.mt ∧ (d.setPort k x).cl = d.cl ∧ (d.setPort k x).diag = d.diag ∧
    (d.setPort k x).rcd = d.rcd ∧ (d.setPort k x).flt = d.flt ∧ (d.setPort k x).ply = d.ply ∧
    (d.setPort k x).sec = d.sec ∧ (d.setPort k x).upd = d.upd ∧ (d.setPort k x).rcv = d.rcv ∧
    (d.setPort k x).rcvPast = d.rcvPast ∧ (d.setPort k x).th = d.th ∧ (d.setPort k x).bk = d.bk ∧
    (d.setPort k x).fuses = d.fuses ∧ (d.setPort k x).flash = d.flash ∧ (d.setPort k x).pwr = d.pwr ∧
    (d.setPort k x).inp = d.inp ∧ (d.setPort k x).fresh = d.fresh ∧ (d.setPort k x).eg = d.eg ∧ (d.setPort k x).wire = d.wire ∧ (d.setPort k x).out = d.out ∧
    (d.setPort k x).wr = d.wr := by
  simp [Dev.setPort]

@[simp] theorem Dev.port_modPort (d : Dev) (k j : Nat) (f : Port → Port) :
    (d.modPort k f).port j = if j = k then f (d.port k) else d.port j := tget_tset ..

@[simp] theorem Dev.modPort_keeps (d : Dev) (k : Nat) (f : Port → Port) :
    (d.modPort k f).tb = d.tb ∧ (d.modPort k f).ps = d.ps ∧ (d.modPort k f).cp = d.cp ∧ (d.modPort k f).tr = d.tr ∧
    (d.modPort k f).net = d.net ∧ (d.modPort k f).lines = d.lines ∧ (d.modPort k f).strands = d.strands ∧
    (d.modPort k f).nodes = d.nodes ∧ (d.modPort k f).lg = d.lg ∧ (d.modPort k f).lp = d.lp ∧
    (d.modPort k f).mt = d.mt ∧ (d.modPort k f).cl = d.cl ∧ (d.modPort k f).diag = d.diag ∧
    (d.modPort k f).rcd = d.rcd ∧ (d.modPort k f).flt = d.flt ∧ (d.modPort k f).ply = d.ply ∧
    (d.modPort k f).sec = d.sec ∧ (d.modPort k f).upd = d.upd ∧ (d.modPort k f).rcv = d.rcv ∧
    (d.modPort k f).rcvPast = d.rcvPast ∧ (d.modPort k f).th = d.th ∧ (d.modPort k f).bk = d.bk ∧
    (d.modPort k f).fuses = d.fuses ∧ (d.modPort k f).flash = d.flash ∧ (d.modPort k f).pwr = d.pwr ∧
    (d.modPort k f).inp = d.inp ∧ (d.modPort k f).fresh = d.fresh ∧ (d.modPort k f).eg = d.eg ∧ (d.modPort k f).wire = d.wire ∧ (d.modPort k f).out = d.out ∧
    (d.modPort k f).wr = d.wr := by
  simp [Dev.modPort]

@[simp] theorem Dev.line_setLine (d : Dev) (k j : Nat) (x : Line) :
    (d.setLine k x).line j = if j = k then x else d.line j := tget_tset ..

@[simp] theorem Dev.setLine_keeps (d : Dev) (k : Nat) (x : Line) :
    (d.setLine k x).tb = d.tb ∧ (d.setLine k x).ps = d.ps ∧ (d.setLine k x).cp = d.cp ∧ (d.setLine k x).tr = d.tr ∧
    (d.setLine k x).ports = d.ports ∧ (d.setLine k x).net = d.net ∧ (d.setLine k x).strands = d.strands ∧
    (d.setLine k x).nodes = d.nodes ∧ (d.setLine k x).lg = d.lg ∧ (d.setLine k x).lp = d.lp ∧
    (d.setLine k x).mt = d.mt ∧ (d.setLine k x).cl = d.cl ∧ (d.setLine k x).diag = d.diag ∧
    (d.setLine k x).rcd = d.rcd ∧ (d.setLine k x).flt = d.flt ∧ (d.setLine k x).ply = d.ply ∧
    (d.setLine k x).sec = d.sec ∧ (d.setLine k x).upd = d.upd ∧ (d.setLine k x).rcv = d.rcv ∧
    (d.setLine k x).rcvPast = d.rcvPast ∧ (d.setLine k x).th = d.th ∧ (d.setLine k x).bk = d.bk ∧
    (d.setLine k x).fuses = d.fuses ∧ (d.setLine k x).flash = d.flash ∧ (d.setLine k x).pwr = d.pwr ∧
    (d.setLine k x).inp = d.inp ∧ (d.setLine k x).fresh = d.fresh ∧ (d.setLine k x).eg = d.eg ∧ (d.setLine k x).wire = d.wire ∧ (d.setLine k x).out = d.out ∧
    (d.setLine k x).wr = d.wr := by
  simp [Dev.setLine]

@[simp] theorem Dev.line_modLine (d : Dev) (k j : Nat) (f : Line → Line) :
    (d.modLine k f).line j = if j = k then f (d.line k) else d.line j := tget_tset ..

@[simp] theorem Dev.modLine_keeps (d : Dev) (k : Nat) (f : Line → Line) :
    (d.modLine k f).tb = d.tb ∧ (d.modLine k f).ps = d.ps ∧ (d.modLine k f).cp = d.cp ∧ (d.modLine k f).tr = d.tr ∧
    (d.modLine k f).ports = d.ports ∧ (d.modLine k f).net = d.net ∧ (d.modLine k f).strands = d.strands ∧
    (d.modLine k f).nodes = d.nodes ∧ (d.modLine k f).lg = d.lg ∧ (d.modLine k f).lp = d.lp ∧
    (d.modLine k f).mt = d.mt ∧ (d.modLine k f).cl = d.cl ∧ (d.modLine k f).diag = d.diag ∧
    (d.modLine k f).rcd = d.rcd ∧ (d.modLine k f).flt = d.flt ∧ (d.modLine k f).ply = d.ply ∧
    (d.modLine k f).sec = d.sec ∧ (d.modLine k f).upd = d.upd ∧ (d.modLine k f).rcv = d.rcv ∧
    (d.modLine k f).rcvPast = d.rcvPast ∧ (d.modLine k f).th = d.th ∧ (d.modLine k f).bk = d.bk ∧
    (d.modLine k f).fuses = d.fuses ∧ (d.modLine k f).flash = d.flash ∧ (d.modLine k f).pwr = d.pwr ∧
    (d.modLine k f).inp = d.inp ∧ (d.modLine k f).fresh = d.fresh ∧ (d.modLine k f).eg = d.eg ∧ (d.modLine k f).wire = d.wire ∧ (d.modLine k f).out = d.out ∧
    (d.modLine k f).wr = d.wr := by
  simp [Dev.modLine]

@[simp] theorem Dev.strand_setStrand (d : Dev) (k j : Nat) (x : Strand) :
    (d.setStrand k x).strand j = if j = k then x else d.strand j := tget_tset ..

@[simp] theorem Dev.setStrand_keeps (d : Dev) (k : Nat) (x : Strand) :
    (d.setStrand k x).tb = d.tb ∧ (d.setStrand k x).ps = d.ps ∧ (d.setStrand k x).cp = d.cp ∧
    (d.setStrand k x).tr = d.tr ∧ (d.setStrand k x).ports = d.ports ∧ (d.setStrand k x).net = d.net ∧
    (d.setStrand k x).lines = d.lines ∧ (d.setStrand k x).nodes = d.nodes ∧ (d.setStrand k x).lg = d.lg ∧
    (d.setStrand k x).lp = d.lp ∧ (d.setStrand k x).mt = d.mt ∧ (d.setStrand k x).cl = d.cl ∧
    (d.setStrand k x).diag = d.diag ∧ (d.setStrand k x).rcd = d.rcd ∧ (d.setStrand k x).flt = d.flt ∧
    (d.setStrand k x).ply = d.ply ∧ (d.setStrand k x).sec = d.sec ∧ (d.setStrand k x).upd = d.upd ∧
    (d.setStrand k x).rcv = d.rcv ∧ (d.setStrand k x).rcvPast = d.rcvPast ∧ (d.setStrand k x).th = d.th ∧
    (d.setStrand k x).bk = d.bk ∧ (d.setStrand k x).fuses = d.fuses ∧ (d.setStrand k x).flash = d.flash ∧
    (d.setStrand k x).pwr = d.pwr ∧ (d.setStrand k x).inp = d.inp ∧ (d.setStrand k x).fresh = d.fresh ∧
    (d.setStrand k x).eg = d.eg ∧ (d.setStrand k x).wire = d.wire ∧ (d.setStrand k x).out = d.out ∧ (d.setStrand k x).wr = d.wr := by
  simp [Dev.setStrand]

@[simp] theorem Dev.strand_modStrand (d : Dev) (k j : Nat) (f : Strand → Strand) :
    (d.modStrand k f).strand j = if j = k then f (d.strand k) else d.strand j := tget_tset ..

@[simp] theorem Dev.modStrand_keeps (d : Dev) (k : Nat) (f : Strand → Strand) :
    (d.modStrand k f).tb = d.tb ∧ (d.modStrand k f).ps = d.ps ∧ (d.modStrand k f).cp = d.cp ∧
    (d.modStrand k f).tr = d.tr ∧ (d.modStrand k f).ports = d.ports ∧ (d.modStrand k f).net = d.net ∧
    (d.modStrand k f).lines = d.lines ∧ (d.modStrand k f).nodes = d.nodes ∧ (d.modStrand k f).lg = d.lg ∧
    (d.modStrand k f).lp = d.lp ∧ (d.modStrand k f).mt = d.mt ∧ (d.modStrand k f).cl = d.cl ∧
    (d.modStrand k f).diag = d.diag ∧ (d.modStrand k f).rcd = d.rcd ∧ (d.modStrand k f).flt = d.flt ∧
    (d.modStrand k f).ply = d.ply ∧ (d.modStrand k f).sec = d.sec ∧ (d.modStrand k f).upd = d.upd ∧
    (d.modStrand k f).rcv = d.rcv ∧ (d.modStrand k f).rcvPast = d.rcvPast ∧ (d.modStrand k f).th = d.th ∧
    (d.modStrand k f).bk = d.bk ∧ (d.modStrand k f).fuses = d.fuses ∧ (d.modStrand k f).flash = d.flash ∧
    (d.modStrand k f).pwr = d.pwr ∧ (d.modStrand k f).inp = d.inp ∧ (d.modStrand k f).fresh = d.fresh ∧
    (d.modStrand k f).eg = d.eg ∧ (d.modStrand k f).wire = d.wire ∧ (d.modStrand k f).out = d.out ∧ (d.modStrand k f).wr = d.wr := by
  simp [Dev.modStrand]

@[simp] theorem Dev.node_setNode (d : Dev) (k j : Nat) (x : Node) :
    (d.setNode k x).node j = if j = k then x else d.node j := tget_tset ..

@[simp] theorem Dev.setNode_keeps (d : Dev) (k : Nat) (x : Node) :
    (d.setNode k x).tb = d.tb ∧ (d.setNode k x).ps = d.ps ∧ (d.setNode k x).cp = d.cp ∧ (d.setNode k x).tr = d.tr ∧
    (d.setNode k x).ports = d.ports ∧ (d.setNode k x).net = d.net ∧ (d.setNode k x).lines = d.lines ∧
    (d.setNode k x).strands = d.strands ∧ (d.setNode k x).lg = d.lg ∧ (d.setNode k x).lp = d.lp ∧
    (d.setNode k x).mt = d.mt ∧ (d.setNode k x).cl = d.cl ∧ (d.setNode k x).diag = d.diag ∧
    (d.setNode k x).rcd = d.rcd ∧ (d.setNode k x).flt = d.flt ∧ (d.setNode k x).ply = d.ply ∧
    (d.setNode k x).sec = d.sec ∧ (d.setNode k x).upd = d.upd ∧ (d.setNode k x).rcv = d.rcv ∧
    (d.setNode k x).rcvPast = d.rcvPast ∧ (d.setNode k x).th = d.th ∧ (d.setNode k x).bk = d.bk ∧
    (d.setNode k x).fuses = d.fuses ∧ (d.setNode k x).flash = d.flash ∧ (d.setNode k x).pwr = d.pwr ∧
    (d.setNode k x).inp = d.inp ∧ (d.setNode k x).fresh = d.fresh ∧ (d.setNode k x).eg = d.eg ∧ (d.setNode k x).wire = d.wire ∧ (d.setNode k x).out = d.out ∧
    (d.setNode k x).wr = d.wr := by
  simp [Dev.setNode]

@[simp] theorem Dev.task_setTask (d : Dev) (k j : Nat) (x : Task) :
    (d.setTask k x).task j = if j = k then x else d.task j := tget_tset ..

@[simp] theorem Dev.setTask_keeps (d : Dev) (k : Nat) (x : Task) :
    (d.setTask k x).tb = d.tb ∧ (d.setTask k x).ps = d.ps ∧ (d.setTask k x).cp = d.cp ∧ (d.setTask k x).tr = d.tr ∧
    (d.setTask k x).ports = d.ports ∧ (d.setTask k x).net = d.net ∧ (d.setTask k x).lines = d.lines ∧
    (d.setTask k x).strands = d.strands ∧ (d.setTask k x).nodes = d.nodes ∧ (d.setTask k x).lp = d.lp ∧
    (d.setTask k x).mt = d.mt ∧ (d.setTask k x).cl = d.cl ∧ (d.setTask k x).diag = d.diag ∧
    (d.setTask k x).rcd = d.rcd ∧ (d.setTask k x).flt = d.flt ∧ (d.setTask k x).ply = d.ply ∧
    (d.setTask k x).sec = d.sec ∧ (d.setTask k x).upd = d.upd ∧ (d.setTask k x).rcv = d.rcv ∧
    (d.setTask k x).rcvPast = d.rcvPast ∧ (d.setTask k x).th = d.th ∧ (d.setTask k x).bk = d.bk ∧
    (d.setTask k x).fuses = d.fuses ∧ (d.setTask k x).flash = d.flash ∧ (d.setTask k x).pwr = d.pwr ∧
    (d.setTask k x).inp = d.inp ∧ (d.setTask k x).fresh = d.fresh ∧ (d.setTask k x).eg = d.eg ∧ (d.setTask k x).wire = d.wire ∧ (d.setTask k x).out = d.out ∧
    (d.setTask k x).wr = d.wr := by
  simp [Dev.setTask]

@[simp] theorem Dev.task_modTask (d : Dev) (k j : Nat) (f : Task → Task) :
    (d.modTask k f).task j = if j = k then f (d.task k) else d.task j := tget_tset ..

@[simp] theorem Dev.modTask_keeps (d : Dev) (k : Nat) (f : Task → Task) :
    (d.modTask k f).tb = d.tb ∧ (d.modTask k f).ps = d.ps ∧ (d.modTask k f).cp = d.cp ∧ (d.modTask k f).tr = d.tr ∧
    (d.modTask k f).ports = d.ports ∧ (d.modTask k f).net = d.net ∧ (d.modTask k f).lines = d.lines ∧
    (d.modTask k f).strands = d.strands ∧ (d.modTask k f).nodes = d.nodes ∧ (d.modTask k f).lp = d.lp ∧
    (d.modTask k f).mt = d.mt ∧ (d.modTask k f).cl = d.cl ∧ (d.modTask k f).diag = d.diag ∧
    (d.modTask k f).rcd = d.rcd ∧ (d.modTask k f).flt = d.flt ∧ (d.modTask k f).ply = d.ply ∧
    (d.modTask k f).sec = d.sec ∧ (d.modTask k f).upd = d.upd ∧ (d.modTask k f).rcv = d.rcv ∧
    (d.modTask k f).rcvPast = d.rcvPast ∧ (d.modTask k f).th = d.th ∧ (d.modTask k f).bk = d.bk ∧
    (d.modTask k f).fuses = d.fuses ∧ (d.modTask k f).flash = d.flash ∧ (d.modTask k f).pwr = d.pwr ∧
    (d.modTask k f).inp = d.inp ∧ (d.modTask k f).fresh = d.fresh ∧ (d.modTask k f).eg = d.eg ∧ (d.modTask k f).wire = d.wire ∧ (d.modTask k f).out = d.out ∧
    (d.modTask k f).wr = d.wr := by
  simp [Dev.modTask]

@[simp] theorem Dev.srec_setSrec (d : Dev) (k j : Nat) (x : SRec) :
    (d.setSrec k x).srec j = if j = k then x else d.srec j := tget_tset ..

@[simp] theorem Dev.setSrec_keeps (d : Dev) (k : Nat) (x : SRec) :
    (d.setSrec k x).tb = d.tb ∧ (d.setSrec k x).ps = d.ps ∧ (d.setSrec k x).cp = d.cp ∧ (d.setSrec k x).tr = d.tr ∧
    (d.setSrec k x).ports = d.ports ∧ (d.setSrec k x).net = d.net ∧ (d.setSrec k x).lines = d.lines ∧
    (d.setSrec k x).strands = d.strands ∧ (d.setSrec k x).nodes = d.nodes ∧ (d.setSrec k x).lp = d.lp ∧
    (d.setSrec k x).mt = d.mt ∧ (d.setSrec k x).cl = d.cl ∧ (d.setSrec k x).diag = d.diag ∧
    (d.setSrec k x).rcd = d.rcd ∧ (d.setSrec k x).flt = d.flt ∧ (d.setSrec k x).ply = d.ply ∧
    (d.setSrec k x).sec = d.sec ∧ (d.setSrec k x).upd = d.upd ∧ (d.setSrec k x).rcv = d.rcv ∧
    (d.setSrec k x).rcvPast = d.rcvPast ∧ (d.setSrec k x).th = d.th ∧ (d.setSrec k x).bk = d.bk ∧
    (d.setSrec k x).fuses = d.fuses ∧ (d.setSrec k x).flash = d.flash ∧ (d.setSrec k x).pwr = d.pwr ∧
    (d.setSrec k x).inp = d.inp ∧ (d.setSrec k x).fresh = d.fresh ∧ (d.setSrec k x).eg = d.eg ∧ (d.setSrec k x).wire = d.wire ∧ (d.setSrec k x).out = d.out ∧
    (d.setSrec k x).wr = d.wr := by
  simp [Dev.setSrec]

@[simp] theorem Dev.loop_setLoop (d : Dev) (k j : Nat) (x : Loop) :
    (d.setLoop k x).loop j = if j = k then x else d.loop j := tget_tset ..

@[simp] theorem Dev.setLoop_keeps (d : Dev) (k : Nat) (x : Loop) :
    (d.setLoop k x).tb = d.tb ∧ (d.setLoop k x).ps = d.ps ∧ (d.setLoop k x).cp = d.cp ∧ (d.setLoop k x).tr = d.tr ∧
    (d.setLoop k x).ports = d.ports ∧ (d.setLoop k x).net = d.net ∧ (d.setLoop k x).lines = d.lines ∧
    (d.setLoop k x).strands = d.strands ∧ (d.setLoop k x).nodes = d.nodes ∧ (d.setLoop k x).lg = d.lg ∧
    (d.setLoop k x).mt = d.mt ∧ (d.setLoop k x).cl = d.cl ∧ (d.setLoop k x).diag = d.diag ∧
    (d.setLoop k x).rcd = d.rcd ∧ (d.setLoop k x).flt = d.flt ∧ (d.setLoop k x).ply = d.ply ∧
    (d.setLoop k x).sec = d.sec ∧ (d.setLoop k x).upd = d.upd ∧ (d.setLoop k x).rcv = d.rcv ∧
    (d.setLoop k x).rcvPast = d.rcvPast ∧ (d.setLoop k x).th = d.th ∧ (d.setLoop k x).bk = d.bk ∧
    (d.setLoop k x).fuses = d.fuses ∧ (d.setLoop k x).flash = d.flash ∧ (d.setLoop k x).pwr = d.pwr ∧
    (d.setLoop k x).inp = d.inp ∧ (d.setLoop k x).fresh = d.fresh ∧ (d.setLoop k x).eg = d.eg ∧ (d.setLoop k x).wire = d.wire ∧ (d.setLoop k x).out = d.out ∧
    (d.setLoop k x).wr = d.wr := by
  simp [Dev.setLoop]

@[simp] theorem Dev.loop_modLoop (d : Dev) (k j : Nat) (f : Loop → Loop) :
    (d.modLoop k f).loop j = if j = k then f (d.loop k) else d.loop j := tget_tset ..

@[simp] theorem Dev.modLoop_keeps (d : Dev) (k : Nat) (f : Loop → Loop) :
    (d.modLoop k f).tb = d.tb ∧ (d.modLoop k f).ps = d.ps ∧ (d.modLoop k f).cp = d.cp ∧ (d.modLoop k f).tr = d.tr ∧
    (d.modLoop k f).ports = d.ports ∧ (d.modLoop k f).net = d.net ∧ (d.modLoop k f).lines = d.lines ∧
    (d.modLoop k f).strands = d.strands ∧ (d.modLoop k f).nodes = d.nodes ∧ (d.modLoop k f).lg = d.lg ∧
    (d.modLoop k f).mt = d.mt ∧ (d.modLoop k f).cl = d.cl ∧ (d.modLoop k f).diag = d.diag ∧
    (d.modLoop k f).rcd = d.rcd ∧ (d.modLoop k f).flt = d.flt ∧ (d.modLoop k f).ply = d.ply ∧
    (d.modLoop k f).sec = d.sec ∧ (d.modLoop k f).upd = d.upd ∧ (d.modLoop k f).rcv = d.rcv ∧
    (d.modLoop k f).rcvPast = d.rcvPast ∧ (d.modLoop k f).th = d.th ∧ (d.modLoop k f).bk = d.bk ∧
    (d.modLoop k f).fuses = d.fuses ∧ (d.modLoop k f).flash = d.flash ∧ (d.modLoop k f).pwr = d.pwr ∧
    (d.modLoop k f).inp = d.inp ∧ (d.modLoop k f).fresh = d.fresh ∧ (d.modLoop k f).eg = d.eg ∧ (d.modLoop k f).wire = d.wire ∧ (d.modLoop k f).out = d.out ∧
    (d.modLoop k f).wr = d.wr := by
  simp [Dev.modLoop]

@[simp] theorem Dev.mchan_setMchan (d : Dev) (k j : Nat) (x : MChan) :
    (d.setMchan k x).mchan j = if j = k then x else d.mchan j := tget_tset ..

@[simp] theorem Dev.setMchan_keeps (d : Dev) (k : Nat) (x : MChan) :
    (d.setMchan k x).tb = d.tb ∧ (d.setMchan k x).ps = d.ps ∧ (d.setMchan k x).cp = d.cp ∧
    (d.setMchan k x).tr = d.tr ∧ (d.setMchan k x).ports = d.ports ∧ (d.setMchan k x).net = d.net ∧
    (d.setMchan k x).lines = d.lines ∧ (d.setMchan k x).strands = d.strands ∧ (d.setMchan k x).nodes = d.nodes ∧
    (d.setMchan k x).lg = d.lg ∧ (d.setMchan k x).lp = d.lp ∧ (d.setMchan k x).cl = d.cl ∧
    (d.setMchan k x).diag = d.diag ∧ (d.setMchan k x).rcd = d.rcd ∧ (d.setMchan k x).flt = d.flt ∧
    (d.setMchan k x).ply = d.ply ∧ (d.setMchan k x).sec = d.sec ∧ (d.setMchan k x).upd = d.upd ∧
    (d.setMchan k x).rcv = d.rcv ∧ (d.setMchan k x).rcvPast = d.rcvPast ∧ (d.setMchan k x).th = d.th ∧
    (d.setMchan k x).bk = d.bk ∧ (d.setMchan k x).fuses = d.fuses ∧ (d.setMchan k x).flash = d.flash ∧
    (d.setMchan k x).pwr = d.pwr ∧ (d.setMchan k x).inp = d.inp ∧ (d.setMchan k x).fresh = d.fresh ∧
    (d.setMchan k x).eg = d.eg ∧ (d.setMchan k x).wire = d.wire ∧ (d.setMchan k x).out = d.out ∧ (d.setMchan k x).wr = d.wr := by
  simp [Dev.setMchan]

@[simp] theorem Dev.acc_setAcc (d : Dev) (k j : Nat) (x : Acc) :
    (d.setAcc k x).acc j = if j = k then x else d.acc j := tget_tset ..

@[simp] theorem Dev.setAcc_keeps (d : Dev) (k : Nat) (x : Acc) :
    (d.setAcc k x).tb = d.tb ∧ (d.setAcc k x).ps = d.ps ∧ (d.setAcc k x).cp = d.cp ∧ (d.setAcc k x).tr = d.tr ∧
    (d.setAcc k x).ports = d.ports ∧ (d.setAcc k x).net = d.net ∧ (d.setAcc k x).lines = d.lines ∧
    (d.setAcc k x).strands = d.strands ∧ (d.setAcc k x).nodes = d.nodes ∧ (d.setAcc k x).lg = d.lg ∧
    (d.setAcc k x).lp = d.lp ∧ (d.setAcc k x).cl = d.cl ∧ (d.setAcc k x).diag = d.diag ∧ (d.setAcc k x).rcd = d.rcd ∧
    (d.setAcc k x).flt = d.flt ∧ (d.setAcc k x).ply = d.ply ∧ (d.setAcc k x).sec = d.sec ∧
    (d.setAcc k x).upd = d.upd ∧ (d.setAcc k x).rcv = d.rcv ∧ (d.setAcc k x).rcvPast = d.rcvPast ∧
    (d.setAcc k x).th = d.th ∧ (d.setAcc k x).bk = d.bk ∧ (d.setAcc k x).fuses = d.fuses ∧
    (d.setAcc k x).flash = d.flash ∧ (d.setAcc k x).pwr = d.pwr ∧ (d.setAcc k x).inp = d.inp ∧
    (d.setAcc k x).fresh = d.fresh ∧ (d.setAcc k x).eg = d.eg ∧ (d.setAcc k x).wire = d.wire ∧ (d.setAcc k x).out = d.out ∧ (d.setAcc k x).wr = d.wr := by
  simp [Dev.setAcc]

@[simp] theorem Dev.vset_setVset (d : Dev) (k j : Nat) (x : VSet) :
    (d.setVset k x).vset j = if j = k then x else d.vset j := tget_tset ..

@[simp] theorem Dev.setVset_keeps (d : Dev) (k : Nat) (x : VSet) :
    (d.setVset k x).tb = d.tb ∧ (d.setVset k x).ps = d.ps ∧ (d.setVset k x).cp = d.cp ∧ (d.setVset k x).tr = d.tr ∧
    (d.setVset k x).ports = d.ports ∧ (d.setVset k x).net = d.net ∧ (d.setVset k x).lines = d.lines ∧
    (d.setVset k x).strands = d.strands ∧ (d.setVset k x).nodes = d.nodes ∧ (d.setVset k x).lg = d.lg ∧
    (d.setVset k x).lp = d.lp ∧ (d.setVset k x).cl = d.cl ∧ (d.setVset k x).diag = d.diag ∧
    (d.setVset k x).rcd = d.rcd ∧ (d.setVset k x).flt = d.flt ∧ (d.setVset k x).ply = d.ply ∧
    (d.setVset k x).sec = d.sec ∧ (d.setVset k x).upd = d.upd ∧ (d.setVset k x).rcv = d.rcv ∧
    (d.setVset k x).rcvPast = d.rcvPast ∧ (d.setVset k x).th = d.th ∧ (d.setVset k x).bk = d.bk ∧
    (d.setVset k x).fuses = d.fuses ∧ (d.setVset k x).flash = d.flash ∧ (d.setVset k x).pwr = d.pwr ∧
    (d.setVset k x).inp = d.inp ∧ (d.setVset k x).fresh = d.fresh ∧ (d.setVset k x).eg = d.eg ∧ (d.setVset k x).wire = d.wire ∧ (d.setVset k x).out = d.out ∧
    (d.setVset k x).wr = d.wr := by
  simp [Dev.setVset]

@[simp] theorem Dev.pulse_setPulse (d : Dev) (k j : Nat) (x : Pulse) :
    (d.setPulse k x).pulse j = if j = k then x else d.pulse j := tget_tset ..

@[simp] theorem Dev.setPulse_keeps (d : Dev) (k : Nat) (x : Pulse) :
    (d.setPulse k x).tb = d.tb ∧ (d.setPulse k x).ps = d.ps ∧ (d.setPulse k x).cp = d.cp ∧
    (d.setPulse k x).tr = d.tr ∧ (d.setPulse k x).ports = d.ports ∧ (d.setPulse k x).net = d.net ∧
    (d.setPulse k x).lines = d.lines ∧ (d.setPulse k x).strands = d.strands ∧ (d.setPulse k x).nodes = d.nodes ∧
    (d.setPulse k x).lg = d.lg ∧ (d.setPulse k x).lp = d.lp ∧ (d.setPulse k x).cl = d.cl ∧
    (d.setPulse k x).diag = d.diag ∧ (d.setPulse k x).rcd = d.rcd ∧ (d.setPulse k x).flt = d.flt ∧
    (d.setPulse k x).ply = d.ply ∧ (d.setPulse k x).sec = d.sec ∧ (d.setPulse k x).upd = d.upd ∧
    (d.setPulse k x).rcv = d.rcv ∧ (d.setPulse k x).rcvPast = d.rcvPast ∧ (d.setPulse k x).th = d.th ∧
    (d.setPulse k x).bk = d.bk ∧ (d.setPulse k x).fuses = d.fuses ∧ (d.setPulse k x).flash = d.flash ∧
    (d.setPulse k x).pwr = d.pwr ∧ (d.setPulse k x).inp = d.inp ∧ (d.setPulse k x).fresh = d.fresh ∧
    (d.setPulse k x).eg = d.eg ∧ (d.setPulse k x).wire = d.wire ∧ (d.setPulse k x).out = d.out ∧ (d.setPulse k x).wr = d.wr := by
  simp [Dev.setPulse]

@[simp] theorem Dev.cloop_setCloop (d : Dev) (k j : Nat) (x : CLoop) :
    (d.setCloop k x).cloop j = if j = k then x else d.cloop j := tget_tset ..

@[simp] theorem Dev.setCloop_keeps (d : Dev) (k : Nat) (x : CLoop) :
    (d.setCloop k x).tb = d.tb ∧ (d.setCloop k x).ps = d.ps ∧ (d.setCloop k x).cp = d.cp ∧
    (d.setCloop k x).tr = d.tr ∧ (d.setCloop k x).ports = d.ports ∧ (d.setCloop k x).net = d.net ∧
    (d.setCloop k x).lines = d.lines ∧ (d.setCloop k x).strands = d.strands ∧ (d.setCloop k x).nodes = d.nodes ∧
    (d.setCloop k x).lg = d.lg ∧ (d.setCloop k x).lp = d.lp ∧ (d.setCloop k x).mt = d.mt ∧
    (d.setCloop k x).diag = d.diag ∧ (d.setCloop k x).rcd = d.rcd ∧ (d.setCloop k x).flt = d.flt ∧
    (d.setCloop k x).ply = d.ply ∧ (d.setCloop k x).sec = d.sec ∧ (d.setCloop k x).upd = d.upd ∧
    (d.setCloop k x).rcv = d.rcv ∧ (d.setCloop k x).rcvPast = d.rcvPast ∧ (d.setCloop k x).th = d.th ∧
    (d.setCloop k x).bk = d.bk ∧ (d.setCloop k x).fuses = d.fuses ∧ (d.setCloop k x).flash = d.flash ∧
    (d.setCloop k x).pwr = d.pwr ∧ (d.setCloop k x).inp = d.inp ∧ (d.setCloop k x).fresh = d.fresh ∧
    (d.setCloop k x).eg = d.eg ∧ (d.setCloop k x).wire = d.wire ∧ (d.setCloop k x).out = d.out ∧ (d.setCloop k x).wr = d.wr := by
  simp [Dev.setCloop]

@[simp] theorem Dev.egress_setEgress (d : Dev) (k j : Nat) (x : Egress) :
    (d.setEgress k x).egress j = if j = k then x else d.egress j := tget_tset ..

@[simp] theorem Dev.setEgress_keeps (d : Dev) (k : Nat) (x : Egress) :
    (d.setEgress k x).tb = d.tb ∧ (d.setEgress k x).ps = d.ps ∧ (d.setEgress k x).cp = d.cp ∧
    (d.setEgress k x).tr = d.tr ∧ (d.setEgress k x).ports = d.ports ∧ (d.setEgress k x).net = d.net ∧
    (d.setEgress k x).lines = d.lines ∧ (d.setEgress k x).strands = d.strands ∧ (d.setEgress k x).nodes = d.nodes ∧
    (d.setEgress k x).lg = d.lg ∧ (d.setEgress k x).lp = d.lp ∧ (d.setEgress k x).mt = d.mt ∧
    (d.setEgress k x).diag = d.diag ∧ (d.setEgress k x).rcd = d.rcd ∧ (d.setEgress k x).flt = d.flt ∧
    (d.setEgress k x).ply = d.ply ∧ (d.setEgress k x).sec = d.sec ∧ (d.setEgress k x).upd = d.upd ∧
    (d.setEgress k x).rcv = d.rcv ∧ (d.setEgress k x).rcvPast = d.rcvPast ∧ (d.setEgress k x).th = d.th ∧
    (d.setEgress k x).bk = d.bk ∧ (d.setEgress k x).fuses = d.fuses ∧ (d.setEgress k x).flash = d.flash ∧
    (d.setEgress k x).pwr = d.pwr ∧ (d.setEgress k x).inp = d.inp ∧ (d.setEgress k x).fresh = d.fresh ∧
    (d.setEgress k x).cl = d.cl ∧ (d.setEgress k x).wire = d.wire ∧ (d.setEgress k x).out = d.out ∧ (d.setEgress k x).wr = d.wr := by
  simp [Dev.setEgress]

@[simp] theorem Dev.cloop_modCloop (d : Dev) (k j : Nat) (f : CLoop → CLoop) :
    (d.modCloop k f).cloop j = if j = k then f (d.cloop k) else d.cloop j := tget_tset ..

@[simp] theorem Dev.modCloop_keeps (d : Dev) (k : Nat) (f : CLoop → CLoop) :
    (d.modCloop k f).tb = d.tb ∧ (d.modCloop k f).ps = d.ps ∧ (d.modCloop k f).cp = d.cp ∧
    (d.modCloop k f).tr = d.tr ∧ (d.modCloop k f).ports = d.ports ∧ (d.modCloop k f).net = d.net ∧
    (d.modCloop k f).lines = d.lines ∧ (d.modCloop k f).strands = d.strands ∧ (d.modCloop k f).nodes = d.nodes ∧
    (d.modCloop k f).lg = d.lg ∧ (d.modCloop k f).lp = d.lp ∧ (d.modCloop k f).mt = d.mt ∧
    (d.modCloop k f).diag = d.diag ∧ (d.modCloop k f).rcd = d.rcd ∧ (d.modCloop k f).flt = d.flt ∧
    (d.modCloop k f).ply = d.ply ∧ (d.modCloop k f).sec = d.sec ∧ (d.modCloop k f).upd = d.upd ∧
    (d.modCloop k f).rcv = d.rcv ∧ (d.modCloop k f).rcvPast = d.rcvPast ∧ (d.modCloop k f).th = d.th ∧
    (d.modCloop k f).bk = d.bk ∧ (d.modCloop k f).fuses = d.fuses ∧ (d.modCloop k f).flash = d.flash ∧
    (d.modCloop k f).pwr = d.pwr ∧ (d.modCloop k f).inp = d.inp ∧ (d.modCloop k f).fresh = d.fresh ∧
    (d.modCloop k f).eg = d.eg ∧ (d.modCloop k f).wire = d.wire ∧ (d.modCloop k f).out = d.out ∧ (d.modCloop k f).wr = d.wr := by
  simp [Dev.modCloop]

/-! ### The queues of the ports -/

/-- `d'` differs from `d` at most in the queues of the ports and in the frames that start. -/
def Dev.sendsOnly (d d' : Dev) : Prop := d' = { d with eg := d'.eg, wire := d'.wire }

theorem Dev.sendsOnly_trans {a b c : Dev} (h1 : a.sendsOnly b) (h2 : b.sendsOnly c) : a.sendsOnly c := by
  unfold Dev.sendsOnly at *
  rw [h2, h1]

theorem foldl_sendsOnly {α : Type} (f : Dev → α → Dev) (xs : List α) (d : Dev) (h : ∀ d x, Dev.sendsOnly d (f d x)) :
    d.sendsOnly (xs.foldl f d) := by
  induction xs generalizing d with
  | nil => rfl
  | cons x xs ih => exact Dev.sendsOnly_trans (h d x) (ih _)

theorem serveFrames_sendsOnly (p stop n : Nat) (d : Dev) : d.sendsOnly (serveFrames p stop n d) := by
  induction n generalizing d with
  | zero => rfl
  | succ n ih =>
    unfold serveFrames
    dsimp only
    split
    · rfl
    · split
      · rfl
      · exact Dev.sendsOnly_trans (b := startFrame p _ _ d) rfl (ih _)

theorem servePort_sendsOnly (p stop : Nat) (d : Dev) : d.sendsOnly (servePort p stop d) := by
  unfold servePort
  dsimp only
  split
  · rfl
  · exact foldl_sendsOnly _ _ _ (fun d t => Dev.sendsOnly_trans (serveFrames_sendsOnly p t _ d) rfl)

/-- What a command hands out goes to the queues of the ports and onto the wire, and nowhere else. -/
theorem depart_sendsOnly (d : Dev) : d.sendsOnly (depart d) := by
  have one : ∀ (d : Dev) (ys : List (Nat × EthFrame)), d.sendsOnly (if ys = [] then d else { d with wire := d.wire ++ ys }) := by
    intro d ys; split <;> rfl
  have serve : ∀ d : Dev, d.sendsOnly ([0, 1, 2].foldl (fun d p =>
      if d.maySend p then serveFrames p ((d.egress p).now + 1) (d.egress p).queue.length d else d) d) := by
    intro d
    refine foldl_sendsOnly _ _ _ (fun d p => ?_)
    split
    · exact serveFrames_sendsOnly ..
    · rfl
  unfold depart
  dsimp only
  split
  · exact one d _
  · exact Dev.sendsOnly_trans (one d _) (Dev.sendsOnly_trans (foldl_sendsOnly (fun d x => putFrame x d) _ _ (fun d x => rfl)) (serve _))

/-- With nothing to hand out, nothing is sent. -/
theorem depart_none {d : Dev} (h : d.out = []) : depart d = d := by simp [depart, h]

theorem Dev.sendsOnly_keeps {d d' : Dev} (h : d.sendsOnly d') :
    d'.tb = d.tb ∧ d'.ps = d.ps ∧ d'.cp = d.cp ∧ d'.tr = d.tr ∧ d'.ports = d.ports ∧ d'.net = d.net ∧
    d'.lines = d.lines ∧ d'.strands = d.strands ∧ d'.nodes = d.nodes ∧ d'.lg = d.lg ∧ d'.lp = d.lp ∧ d'.mt = d.mt ∧
    d'.cl = d.cl ∧ d'.diag = d.diag ∧ d'.rcd = d.rcd ∧ d'.flt = d.flt ∧ d'.ply = d.ply ∧ d'.sec = d.sec ∧
    d'.upd = d.upd ∧ d'.rcv = d.rcv ∧ d'.rcvPast = d.rcvPast ∧ d'.th = d.th ∧ d'.bk = d.bk ∧ d'.fuses = d.fuses ∧
    d'.flash = d.flash ∧ d'.pwr = d.pwr ∧ d'.inp = d.inp ∧ d'.fresh = d.fresh ∧ d'.out = d.out ∧ d'.wr = d.wr := by
  rw [h]; simp

@[simp] theorem depart_keeps (d : Dev) :
    (depart d).tb = d.tb ∧ (depart d).ps = d.ps ∧ (depart d).cp = d.cp ∧ (depart d).tr = d.tr ∧
    (depart d).ports = d.ports ∧ (depart d).net = d.net ∧ (depart d).lines = d.lines ∧
    (depart d).strands = d.strands ∧ (depart d).nodes = d.nodes ∧ (depart d).lg = d.lg ∧ (depart d).lp = d.lp ∧
    (depart d).mt = d.mt ∧ (depart d).cl = d.cl ∧ (depart d).diag = d.diag ∧ (depart d).rcd = d.rcd ∧
    (depart d).flt = d.flt ∧ (depart d).ply = d.ply ∧ (depart d).sec = d.sec ∧ (depart d).upd = d.upd ∧
    (depart d).rcv = d.rcv ∧ (depart d).rcvPast = d.rcvPast ∧ (depart d).th = d.th ∧ (depart d).bk = d.bk ∧
    (depart d).fuses = d.fuses ∧ (depart d).flash = d.flash ∧ (depart d).pwr = d.pwr ∧ (depart d).inp = d.inp ∧
    (depart d).fresh = d.fresh ∧ (depart d).out = d.out ∧ (depart d).wr = d.wr :=
  Dev.sendsOnly_keeps (depart_sendsOnly d)

/-! ### Commands on the whole state -/

@[simp] theorem State.withDev_keeps (f : Dev → Dev) (s : State) :
    (s.withDev f).isl = s.isl ∧ (s.withDev f).sram = s.sram ∧ (s.withDev f).pending = s.pending := ⟨rfl, rfl, rfl⟩

@[simp] theorem State.withDev_dev (f : Dev → Dev) (s : State) :
    (s.withDev f).dev = { depart (f s.dev.fresh0) with wr := [] } := rfl

@[simp] theorem State.withSram_keeps (f : (Nat → Byte) → Dev → Dev) (s : State) :
    (s.withSram f).isl = s.isl ∧ (s.withSram f).pending = s.pending := ⟨rfl, rfl⟩

@[simp] theorem State.withSram_dev (f : (Nat → Byte) → Dev → Dev) (s : State) :
    (s.withSram f).dev = { depart (f (Memory.read s.sram) s.dev.fresh0) with wr := [] } := rfl

theorem State.withSram_sram (f : (Nat → Byte) → Dev → Dev) (s : State) :
    (s.withSram f).sram = s.sram.writeAll (f (Memory.read s.sram) s.dev.fresh0).wr :=
  congrArg s.sram.writeAll (by simp)

@[simp] theorem Dev.fresh0_writes (d : Dev) : d.fresh0.wire = [] ∧ d.fresh0.out = [] ∧ d.fresh0.wr = [] := ⟨rfl, rfl, rfl⟩

@[simp] theorem Dev.fresh0_keeps (d : Dev) :
    d.fresh0.tb = d.tb ∧ d.fresh0.ps = d.ps ∧ d.fresh0.cp = d.cp ∧ d.fresh0.tr = d.tr ∧ d.fresh0.ports = d.ports ∧
    d.fresh0.net = d.net ∧ d.fresh0.lines = d.lines ∧ d.fresh0.strands = d.strands ∧ d.fresh0.nodes = d.nodes ∧
    d.fresh0.lg = d.lg ∧ d.fresh0.lp = d.lp ∧ d.fresh0.mt = d.mt ∧ d.fresh0.cl = d.cl ∧ d.fresh0.diag = d.diag ∧
    d.fresh0.rcd = d.rcd ∧ d.fresh0.flt = d.flt ∧ d.fresh0.ply = d.ply ∧ d.fresh0.sec = d.sec ∧
    d.fresh0.upd = d.upd ∧ d.fresh0.rcv = d.rcv ∧ d.fresh0.rcvPast = d.rcvPast ∧ d.fresh0.th = d.th ∧
    d.fresh0.bk = d.bk ∧ d.fresh0.fuses = d.fuses ∧ d.fresh0.flash = d.flash ∧ d.fresh0.pwr = d.pwr ∧
    d.fresh0.inp = d.inp ∧ d.fresh0.fresh = d.fresh ∧ d.fresh0.eg = d.eg := by
  simp [Dev.fresh0]

/-- A command that names units which exist runs. -/
theorem checked_wf {i : Instr} {a : Answer} (h : i.wellFormed = true) : checked i a = a := by simp [checked, h]

/-- A command that names a unit which does not exist stops. -/
theorem checked_ill {i : Instr} {a : Answer} (h : i.wellFormed = false) : checked i a = .fault .noSuchUnit := by
  simp [checked, h]

theorem whenMain_up {f : Dev → Dev} {d : Dev} (h : d.isMain = true) : whenMain f d = f d := by simp [whenMain, h]

theorem whenMain_down {f : Dev → Dev} {d : Dev} (h : d.isMain = false) : whenMain f d = d := by simp [whenMain, h]

@[simp] theorem Dev.isMain_fresh0 (d : Dev) : d.fresh0.isMain = d.isMain := rfl

/-- The state after a command that leaves the module `d`. -/
def State.after (s : State) (d : Dev) : State := { s with dev := { depart d with wr := [] } }

@[simp] theorem State.after_keeps (s : State) (d : Dev) :
    (s.after d).isl = s.isl ∧ (s.after d).sram = s.sram ∧ (s.after d).pending = s.pending ∧ (s.after d).dev.wr = [] :=
  ⟨rfl, rfl, rfl, rfl⟩

@[simp] theorem State.after_dev (s : State) (d : Dev) :
    (s.after d).dev.tb = d.tb ∧ (s.after d).dev.ps = d.ps ∧ (s.after d).dev.cp = d.cp ∧ (s.after d).dev.tr = d.tr ∧
    (s.after d).dev.ports = d.ports ∧ (s.after d).dev.net = d.net ∧ (s.after d).dev.lines = d.lines ∧
    (s.after d).dev.strands = d.strands ∧ (s.after d).dev.nodes = d.nodes ∧ (s.after d).dev.lg = d.lg ∧
    (s.after d).dev.lp = d.lp ∧ (s.after d).dev.mt = d.mt ∧ (s.after d).dev.cl = d.cl ∧
    (s.after d).dev.diag = d.diag ∧ (s.after d).dev.rcd = d.rcd ∧ (s.after d).dev.flt = d.flt ∧
    (s.after d).dev.ply = d.ply ∧ (s.after d).dev.sec = d.sec ∧ (s.after d).dev.upd = d.upd ∧
    (s.after d).dev.rcv = d.rcv ∧ (s.after d).dev.rcvPast = d.rcvPast ∧ (s.after d).dev.th = d.th ∧
    (s.after d).dev.bk = d.bk ∧ (s.after d).dev.fuses = d.fuses ∧ (s.after d).dev.flash = d.flash ∧
    (s.after d).dev.pwr = d.pwr ∧ (s.after d).dev.inp = d.inp ∧ (s.after d).dev.fresh = d.fresh ∧
    (s.after d).dev.out = d.out := by
  simp [State.after]

@[simp] theorem State.after_objects (s : State) (d : Dev) (k : Nat) :
    (s.after d).dev.point k = d.point k ∧
    (s.after d).dev.alarm k = d.alarm k ∧
    (s.after d).dev.sub k = d.sub k ∧
    (s.after d).dev.chan k = d.chan k ∧
    (s.after d).dev.port k = d.port k ∧
    (s.after d).dev.line k = d.line k ∧
    (s.after d).dev.strand k = d.strand k ∧
    (s.after d).dev.node k = d.node k ∧
    (s.after d).dev.task k = d.task k ∧
    (s.after d).dev.srec k = d.srec k ∧
    (s.after d).dev.loop k = d.loop k ∧
    (s.after d).dev.mchan k = d.mchan k ∧
    (s.after d).dev.acc k = d.acc k ∧
    (s.after d).dev.vset k = d.vset k ∧
    (s.after d).dev.pulse k = d.pulse k ∧
    (s.after d).dev.cloop k = d.cloop k := by
  simp [Dev.point, Dev.alarm, Dev.sub, Dev.chan, Dev.port, Dev.line, Dev.strand, Dev.node, Dev.task, Dev.srec, Dev.loop,
    Dev.mchan, Dev.acc, Dev.vset, Dev.pulse, Dev.cloop]

@[simp] theorem Dev.fresh0_objects (d : Dev) (k : Nat) :
    d.fresh0.point k = d.point k ∧
    d.fresh0.alarm k = d.alarm k ∧
    d.fresh0.sub k = d.sub k ∧
    d.fresh0.chan k = d.chan k ∧
    d.fresh0.port k = d.port k ∧
    d.fresh0.line k = d.line k ∧
    d.fresh0.strand k = d.strand k ∧
    d.fresh0.node k = d.node k ∧
    d.fresh0.task k = d.task k ∧
    d.fresh0.srec k = d.srec k ∧
    d.fresh0.loop k = d.loop k ∧
    d.fresh0.mchan k = d.mchan k ∧
    d.fresh0.acc k = d.acc k ∧
    d.fresh0.vset k = d.vset k ∧
    d.fresh0.pulse k = d.pulse k ∧
    d.fresh0.cloop k = d.cloop k :=
  ⟨rfl, rfl, rfl, rfl, rfl, rfl, rfl, rfl, rfl, rfl, rfl, rfl, rfl, rfl, rfl, rfl⟩

/-- A command of the running main domain. -/
theorem mainStep_up (f : Dev → Dev) (s : State) (h : s.dev.isMain = true) :
    mainStep f s = .next (s.after (f s.dev.fresh0)) := by
  simp only [mainStep, State.withDev, whenMain, Dev.isMain_fresh0, h, if_true, State.after]

theorem mainStepR_up (f : (Nat → Byte) → Dev → Dev) (s : State) (h : s.dev.isMain = true) :
    mainStepR f s = .next (s.after (f (Memory.read s.sram) s.dev.fresh0)) := by
  simp only [mainStepR, State.withDev, whenMain, Dev.isMain_fresh0, h, if_true, State.after]

theorem mainStepM_up (f : (Nat → Byte) → Dev → Dev) (s : State) (h : s.dev.isMain = true) :
    mainStepM f s = .next (s.withSram f) := by
  simp only [mainStepM, State.withSram, whenMain, Dev.isMain_fresh0, h, if_true]

/-- A command of the running main domain answers. -/
theorem Runs.main {i : Instr} {s : State} {f : Dev → Dev} {p : State → Prop} (hx : exec i s = mainStep f s) (hs : s.up)
    (hp : p (s.after (f s.dev.fresh0))) : Runs i s p :=
  ⟨_, hx.trans (mainStep_up f s hs), hp⟩

theorem Runs.mainR {i : Instr} {s : State} {f : (Nat → Byte) → Dev → Dev} {p : State → Prop}
    (hx : exec i s = mainStepR f s) (hs : s.up) (hp : p (s.after (f (Memory.read s.sram) s.dev.fresh0))) : Runs i s p :=
  ⟨_, hx.trans (mainStepR_up f s hs), hp⟩

theorem Runs.mainM {i : Instr} {s : State} {f : (Nat → Byte) → Dev → Dev} {p : State → Prop}
    (hx : exec i s = mainStepM f s) (hs : s.up) (hp : p (s.withSram f)) : Runs i s p :=
  ⟨_, hx.trans (mainStepM_up f s hs), hp⟩

/-- So does an event that the module sees in any power state. -/
theorem Runs.module {i : Instr} {s : State} {f : Dev → Dev} {p : State → Prop} (hx : exec i s = moduleStep f s)
    (hp : p (s.after (f s.dev.fresh0))) : Runs i s p := ⟨_, hx, hp⟩

/-- So does an event of the safety island. -/
theorem Runs.island {i : Instr} {s : State} {f : Island → Island} {p : State → Prop} (hx : exec i s = islandStep f s)
    (hp : p { s with isl := f s.isl }) : Runs i s p := ⟨_, hx, hp⟩

theorem moduleStep_eq (f : Dev → Dev) (s : State) :
    moduleStep f s = .next (s.after (f s.dev.fresh0)) := rfl

/-- How a frame is shown: field by field. -/
theorem State.frame_after {s : State} {a b : Dev}
    (hr : b.reportsTo a)
    (h_tb : a.tb = b.tb) (h_ps : a.ps = b.ps) (h_cp : a.cp = b.cp) (h_ports : a.ports = b.ports)
    (h_net : a.net = b.net) (h_lines : a.lines = b.lines) (h_strands : a.strands = b.strands)
    (h_nodes : a.nodes = b.nodes) (h_lg : a.lg = b.lg) (h_lp : a.lp = b.lp) (h_mt : a.mt = b.mt)
    (h_cl : a.cl = b.cl) (h_diag : a.diag = b.diag) (h_ply : a.ply = b.ply) (h_sec : a.sec = b.sec)
    (h_upd : a.upd = b.upd) (h_rcv : a.rcv = b.rcv) (h_rcvPast : a.rcvPast = b.rcvPast) (h_th : a.th = b.th)
    (h_bk : a.bk = b.bk) (h_fuses : a.fuses = b.fuses) (h_flash : a.flash = b.flash) (h_pwr : a.pwr = b.pwr)
    (h_inp : a.inp = b.inp) (h_fresh : a.fresh = b.fresh) (h_eg : a.eg = b.eg) (h_wire : a.wire = []) :
    s.frame (s.after a) b := by
  refine ⟨?_, ?_, ?_⟩
  · show State.after s a = _
    rw [State.after, depart_sendsOnly a]
    cases a; cases b; dsimp only at *; subst_vars; rfl
  · have h := depart_sendsOnly a
    rw [State.after, h]
    exact hr
  · intro h
    have h : a.out = [] := by simpa using h
    rw [State.after, depart_none h]
    exact ⟨h_eg, h_wire⟩

/-- A command that leaves the module as it was is silent. -/
theorem State.silent_after (s : State) : s.silent (s.after s.dev.fresh0) s.dev := by
  rw [State.after, depart_none rfl]; rfl

end Sys2Proof.Machine
end

