-- ==== Sys2Proof/Laws/Report.lean ====
section
/-!
SUPPORT. What reporting an event can do (R178, R465, R640, R643): it writes the transport's queues, the recorder and the
fault registers, and nothing else.
-/
namespace Sys2Proof.Machine

/-- `d'` differs from `d` at most in the transport, the recorder and the fault registers. -/
def Dev.reportsOnly (d d' : Dev) : Prop := d' = { d with tr := d'.tr, rcd := d'.rcd, flt := d'.flt }

theorem Dev.reportsOnly_refl (d : Dev) : d.reportsOnly d := rfl

theorem Dev.reportsOnly_trans {a b c : Dev} (h1 : a.reportsOnly b) (h2 : b.reportsOnly c) : a.reportsOnly c := by
  unfold Dev.reportsOnly at *
  rw [h2, h1]

theorem foldl_reportsOnly {α : Type} (f : Dev → α → Dev) (xs : List α) (d : Dev) (h : ∀ d x, Dev.reportsOnly d (f d x)) :
    d.reportsOnly (xs.foldl f d) := by
  induction xs generalizing d with
  | nil => rfl
  | cons x xs ih => exact Dev.reportsOnly_trans (h d x) (ih _)

theorem noteFault_reportsOnly (e : Event) (d : Dev) : d.reportsOnly (noteFault e d) := by
  unfold noteFault; split <;> rfl

theorem capture_reportsOnly (x : RecIn) (d : Dev) : d.reportsOnly (capture x d).1 := by
  unfold capture
  split
  · by_cases h : d.rcd.merges x = true <;> simp only [captureNow, h, if_true, if_false, Bool.false_eq_true] <;> rfl
  · rfl

theorem setChan_reportsOnly (d : Dev) (c : Nat) (x : Channel) : d.reportsOnly (d.setChan c x) := rfl

theorem countDrop_reportsOnly (ch : Nat) (t : BitVec 8) (r : Bool) (d : Dev) : d.reportsOnly (countDrop ch t r d) := rfl

theorem enqueue_reportsOnly (ch : Nat) (r : AttnRec) (d : Dev) : d.reportsOnly (enqueue ch r d).1 := by
  unfold enqueue; split
  · rfl
  · split <;> rfl

theorem reportRaw_reportsOnly (e : Event) (d : Dev) : d.reportsOnly (reportRaw e d).1 := by
  have fold : ∀ (g : AttnRec) (xs : List Nat) (a : Dev × List Limited), a.1.reportsOnly (xs.foldl (fun a ch =>
      let r := enqueue ch g a.1
      (r.1, if r.2 then a.2 ++ [ev0404 ch] else a.2)) a).1 := by
    intro g xs
    induction xs with
    | nil => exact fun a => rfl
    | cons x xs ih => exact fun a => Dev.reportsOnly_trans (enqueue_reportsOnly x g a.1) (ih _)
  unfold reportRaw
  simp only
  refine Dev.reportsOnly_trans (noteFault_reportsOnly e d) ?_
  split
  · exact Dev.reportsOnly_trans (capture_reportsOnly _ _) (fold _ _ _)
  · exact fold _ _ _

theorem limitedFuel_reportsOnly (n : Nat) (x : Limited) (d : Dev) : d.reportsOnly (limitedFuel n x d) := by
  induction n generalizing x d with
  | zero => unfold limitedFuel; split <;> rfl
  | succ n ih =>
    unfold limitedFuel
    split
    · rfl
    · exact Dev.reportsOnly_trans (Dev.reportsOnly_trans (b := rateStart x d) rfl (reportRaw_reportsOnly _ _))
        (foldl_reportsOnly _ _ _ (fun d y => ih y d))

/-- A report writes the transport, the recorder and the fault registers alone. -/
theorem report_reportsOnly (e : Event) (d : Dev) : d.reportsOnly (report e d) :=
  Dev.reportsOnly_trans (reportRaw_reportsOnly e d) (foldl_reportsOnly _ _ _ (fun d y => limitedFuel_reportsOnly _ y d))

theorem reportLimited_reportsOnly (scope qty : Nat) (e : Event) (d : Dev) : d.reportsOnly (reportLimited scope qty e d) :=
  limitedFuel_reportsOnly ..

theorem captureRep_reportsOnly (x : RecIn) (d : Dev) : d.reportsOnly (captureRep x d) := by
  unfold captureRep
  dsimp only
  split
  · exact Dev.reportsOnly_trans (capture_reportsOnly x d) (limitedFuel_reportsOnly ..)
  · exact capture_reportsOnly x d

theorem recordCycle_reportsOnly (d : Dev) : d.reportsOnly (recordCycle d) :=
  Dev.reportsOnly_trans (b := { d with rcd := { d.rcd with intake := none } }) rfl
    (foldl_reportsOnly _ _ _ (fun d x => captureRep_reportsOnly x d))

/-- What happens in one cycle: beside the transport, the recorder and the fault registers it is what the function makes of
a device that may differ in its recorder. -/
theorem oneCycle_keeps {α : Type} (g : Dev → α) (f : Dev → Dev) (d : Dev)
    (hg : ∀ (d : Dev) tr rcd flt, g { d with tr := tr, rcd := rcd, flt := flt } = g d) :
    ∃ r, g (oneCycle f d) = g (f { d with rcd := r }) := by
  unfold oneCycle
  split
  · exact ⟨d.rcd, rfl⟩
  · refine ⟨{ d.rcd with intake := some [] }, ?_⟩
    rw [recordCycle_reportsOnly]
    exact hg ..

theorem reportAll_reportsOnly (es : List Event) (d : Dev) : d.reportsOnly (reportAll es d) :=
  foldl_reportsOnly _ _ _ (fun d e => report_reportsOnly e d)

theorem dropRecord_reportsOnly (ch : Nat) (t : BitVec 8) (r : Bool) (d : Dev) : d.reportsOnly (dropRecord ch t r d) :=
  Dev.reportsOnly_trans (countDrop_reportsOnly ..) (limitedFuel_reportsOnly ..)

theorem Dev.reportsOnly_keeps {d d' : Dev} (h : d.reportsOnly d') :
    d'.tb = d.tb ∧ d'.ps = d.ps ∧ d'.cp = d.cp ∧ d'.ports = d.ports ∧ d'.net = d.net ∧ d'.lines = d.lines ∧
    d'.strands = d.strands ∧ d'.nodes = d.nodes ∧ d'.lg = d.lg ∧ d'.lp = d.lp ∧ d'.mt = d.mt ∧ d'.cl = d.cl ∧
    d'.diag = d.diag ∧ d'.ply = d.ply ∧ d'.sec = d.sec ∧ d'.upd = d.upd ∧ d'.rcv = d.rcv ∧ d'.rcvPast = d.rcvPast ∧
    d'.th = d.th ∧ d'.bk = d.bk ∧ d'.fuses = d.fuses ∧ d'.flash = d.flash ∧ d'.pwr = d.pwr ∧ d'.inp = d.inp ∧
    d'.fresh = d.fresh ∧ d'.eg = d.eg ∧ d'.wire = d.wire ∧ d'.out = d.out ∧ d'.wr = d.wr := by
  rw [h]; simp

@[simp] theorem report_keeps (e : Event) (d : Dev) :
    (report e d).tb = d.tb ∧ (report e d).ps = d.ps ∧ (report e d).cp = d.cp ∧ (report e d).ports = d.ports ∧
    (report e d).net = d.net ∧ (report e d).lines = d.lines ∧ (report e d).strands = d.strands ∧
    (report e d).nodes = d.nodes ∧ (report e d).lg = d.lg ∧ (report e d).lp = d.lp ∧ (report e d).mt = d.mt ∧
    (report e d).cl = d.cl ∧ (report e d).diag = d.diag ∧ (report e d).ply = d.ply ∧ (report e d).sec = d.sec ∧
    (report e d).upd = d.upd ∧ (report e d).rcv = d.rcv ∧ (report e d).rcvPast = d.rcvPast ∧ (report e d).th = d.th ∧
    (report e d).bk = d.bk ∧ (report e d).fuses = d.fuses ∧ (report e d).flash = d.flash ∧ (report e d).pwr = d.pwr ∧
    (report e d).inp = d.inp ∧ (report e d).fresh = d.fresh ∧ (report e d).eg = d.eg ∧ (report e d).wire = d.wire ∧ (report e d).out = d.out ∧ (report e d).wr = d.wr :=
  Dev.reportsOnly_keeps (report_reportsOnly e d)

@[simp] theorem reportLimited_keeps (scope qty : Nat) (e : Event) (d : Dev) :
    (reportLimited scope qty e d).tb = d.tb ∧ (reportLimited scope qty e d).ps = d.ps ∧
    (reportLimited scope qty e d).cp = d.cp ∧ (reportLimited scope qty e d).ports = d.ports ∧
    (reportLimited scope qty e d).net = d.net ∧ (reportLimited scope qty e d).lines = d.lines ∧
    (reportLimited scope qty e d).strands = d.strands ∧ (reportLimited scope qty e d).nodes = d.nodes ∧
    (reportLimited scope qty e d).lg = d.lg ∧ (reportLimited scope qty e d).lp = d.lp ∧
    (reportLimited scope qty e d).mt = d.mt ∧ (reportLimited scope qty e d).cl = d.cl ∧
    (reportLimited scope qty e d).diag = d.diag ∧ (reportLimited scope qty e d).ply = d.ply ∧
    (reportLimited scope qty e d).sec = d.sec ∧ (reportLimited scope qty e d).upd = d.upd ∧
    (reportLimited scope qty e d).rcv = d.rcv ∧ (reportLimited scope qty e d).rcvPast = d.rcvPast ∧
    (reportLimited scope qty e d).th = d.th ∧ (reportLimited scope qty e d).bk = d.bk ∧
    (reportLimited scope qty e d).fuses = d.fuses ∧ (reportLimited scope qty e d).flash = d.flash ∧
    (reportLimited scope qty e d).pwr = d.pwr ∧ (reportLimited scope qty e d).inp = d.inp ∧
    (reportLimited scope qty e d).fresh = d.fresh ∧ (reportLimited scope qty e d).eg = d.eg ∧ (reportLimited scope qty e d).wire = d.wire ∧ (reportLimited scope qty e d).out = d.out ∧
    (reportLimited scope qty e d).wr = d.wr :=
  Dev.reportsOnly_keeps (reportLimited_reportsOnly scope qty e d)

@[simp] theorem reportAll_keeps (es : List Event) (d : Dev) :
    (reportAll es d).tb = d.tb ∧ (reportAll es d).ps = d.ps ∧ (reportAll es d).cp = d.cp ∧
    (reportAll es d).ports = d.ports ∧ (reportAll es d).net = d.net ∧ (reportAll es d).lines = d.lines ∧
    (reportAll es d).strands = d.strands ∧ (reportAll es d).nodes = d.nodes ∧ (reportAll es d).lg = d.lg ∧
    (reportAll es d).lp = d.lp ∧ (reportAll es d).mt = d.mt ∧ (reportAll es d).cl = d.cl ∧
    (reportAll es d).diag = d.diag ∧ (reportAll es d).ply = d.ply ∧ (reportAll es d).sec = d.sec ∧
    (reportAll es d).upd = d.upd ∧ (reportAll es d).rcv = d.rcv ∧ (reportAll es d).rcvPast = d.rcvPast ∧
    (reportAll es d).th = d.th ∧ (reportAll es d).bk = d.bk ∧ (reportAll es d).fuses = d.fuses ∧
    (reportAll es d).flash = d.flash ∧ (reportAll es d).pwr = d.pwr ∧ (reportAll es d).inp = d.inp ∧
    (reportAll es d).fresh = d.fresh ∧ (reportAll es d).eg = d.eg ∧ (reportAll es d).wire = d.wire ∧ (reportAll es d).out = d.out ∧ (reportAll es d).wr = d.wr :=
  Dev.reportsOnly_keeps (reportAll_reportsOnly es d)

@[simp] theorem dropRecord_keeps (ch : Nat) (t : BitVec 8) (r : Bool) (d : Dev) :
    (dropRecord ch t r d).tb = d.tb ∧ (dropRecord ch t r d).ps = d.ps ∧ (dropRecord ch t r d).cp = d.cp ∧
    (dropRecord ch t r d).ports = d.ports ∧ (dropRecord ch t r d).net = d.net ∧
    (dropRecord ch t r d).lines = d.lines ∧ (dropRecord ch t r d).strands = d.strands ∧
    (dropRecord ch t r d).nodes = d.nodes ∧ (dropRecord ch t r d).lg = d.lg ∧ (dropRecord ch t r d).lp = d.lp ∧
    (dropRecord ch t r d).mt = d.mt ∧ (dropRecord ch t r d).cl = d.cl ∧ (dropRecord ch t r d).diag = d.diag ∧
    (dropRecord ch t r d).ply = d.ply ∧ (dropRecord ch t r d).sec = d.sec ∧ (dropRecord ch t r d).upd = d.upd ∧
    (dropRecord ch t r d).rcv = d.rcv ∧ (dropRecord ch t r d).rcvPast = d.rcvPast ∧ (dropRecord ch t r d).th = d.th ∧
    (dropRecord ch t r d).bk = d.bk ∧ (dropRecord ch t r d).fuses = d.fuses ∧ (dropRecord ch t r d).flash = d.flash ∧
    (dropRecord ch t r d).pwr = d.pwr ∧ (dropRecord ch t r d).inp = d.inp ∧ (dropRecord ch t r d).fresh = d.fresh ∧
    (dropRecord ch t r d).eg = d.eg ∧ (dropRecord ch t r d).wire = d.wire ∧ (dropRecord ch t r d).out = d.out ∧ (dropRecord ch t r d).wr = d.wr :=
  Dev.reportsOnly_keeps (dropRecord_reportsOnly ch t r d)

@[simp] theorem report_point (e : Event) (d : Dev) (k : Nat) : (report e d).point k = d.point k := by
  simp [Dev.point]

@[simp] theorem reportLimited_point (scope qty : Nat) (e : Event) (d : Dev) (k : Nat) : (reportLimited scope qty e d).point k = d.point k := by
  simp [Dev.point]

@[simp] theorem reportAll_point (es : List Event) (d : Dev) (k : Nat) : (reportAll es d).point k = d.point k := by
  simp [Dev.point]

@[simp] theorem report_alarm (e : Event) (d : Dev) (k : Nat) : (report e d).alarm k = d.alarm k := by
  simp [Dev.alarm]

@[simp] theorem reportLimited_alarm (scope qty : Nat) (e : Event) (d : Dev) (k : Nat) : (reportLimited scope qty e d).alarm k = d.alarm k := by
  simp [Dev.alarm]

@[simp] theorem reportAll_alarm (es : List Event) (d : Dev) (k : Nat) : (reportAll es d).alarm k = d.alarm k := by
  simp [Dev.alarm]

@[simp] theorem report_sub (e : Event) (d : Dev) (k : Nat) : (report e d).sub k = d.sub k := by
  simp [Dev.sub]

@[simp] theorem reportLimited_sub (scope qty : Nat) (e : Event) (d : Dev) (k : Nat) : (reportLimited scope qty e d).sub k = d.sub k := by
  simp [Dev.sub]

@[simp] theorem reportAll_sub (es : List Event) (d : Dev) (k : Nat) : (reportAll es d).sub k = d.sub k := by
  simp [Dev.sub]

@[simp] theorem report_port (e : Event) (d : Dev) (k : Nat) : (report e d).port k = d.port k := by
  simp [Dev.port]

@[simp] theorem reportLimited_port (scope qty : Nat) (e : Event) (d : Dev) (k : Nat) : (reportLimited scope qty e d).port k = d.port k := by
  simp [Dev.port]

@[simp] theorem reportAll_port (es : List Event) (d : Dev) (k : Nat) : (reportAll es d).port k = d.port k := by
  simp [Dev.port]

@[simp] theorem report_line (e : Event) (d : Dev) (k : Nat) : (report e d).line k = d.line k := by
  simp [Dev.line]

@[simp] theorem reportLimited_line (scope qty : Nat) (e : Event) (d : Dev) (k : Nat) : (reportLimited scope qty e d).line k = d.line k := by
  simp [Dev.line]

@[simp] theorem reportAll_line (es : List Event) (d : Dev) (k : Nat) : (reportAll es d).line k = d.line k := by
  simp [Dev.line]

@[simp] theorem report_strand (e : Event) (d : Dev) (k : Nat) : (report e d).strand k = d.strand k := by
  simp [Dev.strand]

@[simp] theorem reportLimited_strand (scope qty : Nat) (e : Event) (d : Dev) (k : Nat) : (reportLimited scope qty e d).strand k = d.strand k := by
  simp [Dev.strand]

@[simp] theorem reportAll_strand (es : List Event) (d : Dev) (k : Nat) : (reportAll es d).strand k = d.strand k := by
  simp [Dev.strand]

@[simp] theorem report_node (e : Event) (d : Dev) (k : Nat) : (report e d).node k = d.node k := by
  simp [Dev.node]

@[simp] theorem reportLimited_node (scope qty : Nat) (e : Event) (d : Dev) (k : Nat) : (reportLimited scope qty e d).node k = d.node k := by
  simp [Dev.node]

@[simp] theorem reportAll_node (es : List Event) (d : Dev) (k : Nat) : (reportAll es d).node k = d.node k := by
  simp [Dev.node]

@[simp] theorem report_task (e : Event) (d : Dev) (k : Nat) : (report e d).task k = d.task k := by
  simp [Dev.task]

@[simp] theorem reportLimited_task (scope qty : Nat) (e : Event) (d : Dev) (k : Nat) : (reportLimited scope qty e d).task k = d.task k := by
  simp [Dev.task]

@[simp] theorem reportAll_task (es : List Event) (d : Dev) (k : Nat) : (reportAll es d).task k = d.task k := by
  simp [Dev.task]

@[simp] theorem report_srec (e : Event) (d : Dev) (k : Nat) : (report e d).srec k = d.srec k := by
  simp [Dev.srec]

@[simp] theorem reportLimited_srec (scope qty : Nat) (e : Event) (d : Dev) (k : Nat) : (reportLimited scope qty e d).srec k = d.srec k := by
  simp [Dev.srec]

@[simp] theorem reportAll_srec (es : List Event) (d : Dev) (k : Nat) : (reportAll es d).srec k = d.srec k := by
  simp [Dev.srec]

@[simp] theorem report_loop (e : Event) (d : Dev) (k : Nat) : (report e d).loop k = d.loop k := by
  simp [Dev.loop]

@[simp] theorem reportLimited_loop (scope qty : Nat) (e : Event) (d : Dev) (k : Nat) : (reportLimited scope qty e d).loop k = d.loop k := by
  simp [Dev.loop]

@[simp] theorem reportAll_loop (es : List Event) (d : Dev) (k : Nat) : (reportAll es d).loop k = d.loop k := by
  simp [Dev.loop]

@[simp] theorem report_mchan (e : Event) (d : Dev) (k : Nat) : (report e d).mchan k = d.mchan k := by
  simp [Dev.mchan]

@[simp] theorem reportLimited_mchan (scope qty : Nat) (e : Event) (d : Dev) (k : Nat) : (reportLimited scope qty e d).mchan k = d.mchan k := by
  simp [Dev.mchan]

@[simp] theorem reportAll_mchan (es : List Event) (d : Dev) (k : Nat) : (reportAll es d).mchan k = d.mchan k := by
  simp [Dev.mchan]

@[simp] theorem report_acc (e : Event) (d : Dev) (k : Nat) : (report e d).acc k = d.acc k := by
  simp [Dev.acc]

@[simp] theorem reportLimited_acc (scope qty : Nat) (e : Event) (d : Dev) (k : Nat) : (reportLimited scope qty e d).acc k = d.acc k := by
  simp [Dev.acc]

@[simp] theorem reportAll_acc (es : List Event) (d : Dev) (k : Nat) : (reportAll es d).acc k = d.acc k := by
  simp [Dev.acc]

@[simp] theorem report_vset (e : Event) (d : Dev) (k : Nat) : (report e d).vset k = d.vset k := by
  simp [Dev.vset]

@[simp] theorem reportLimited_vset (scope qty : Nat) (e : Event) (d : Dev) (k : Nat) : (reportLimited scope qty e d).vset k = d.vset k := by
  simp [Dev.vset]

@[simp] theorem reportAll_vset (es : List Event) (d : Dev) (k : Nat) : (reportAll es d).vset k = d.vset k := by
  simp [Dev.vset]

@[simp] theorem report_pulse (e : Event) (d : Dev) (k : Nat) : (report e d).pulse k = d.pulse k := by
  simp [Dev.pulse]

@[simp] theorem reportLimited_pulse (scope qty : Nat) (e : Event) (d : Dev) (k : Nat) : (reportLimited scope qty e d).pulse k = d.pulse k := by
  simp [Dev.pulse]

@[simp] theorem reportAll_pulse (es : List Event) (d : Dev) (k : Nat) : (reportAll es d).pulse k = d.pulse k := by
  simp [Dev.pulse]

@[simp] theorem report_cloop (e : Event) (d : Dev) (k : Nat) : (report e d).cloop k = d.cloop k := by
  simp [Dev.cloop]

@[simp] theorem reportLimited_cloop (scope qty : Nat) (e : Event) (d : Dev) (k : Nat) : (reportLimited scope qty e d).cloop k = d.cloop k := by
  simp [Dev.cloop]

@[simp] theorem reportAll_cloop (es : List Event) (d : Dev) (k : Nat) : (reportAll es d).cloop k = d.cloop k := by
  simp [Dev.cloop]

/-! ### What a report leaves of the transport, the recorder and the fault registers -/

theorem Channel.butDrops_refl (c : Channel) : c.butDrops c := rfl

theorem Channel.butDrops_trans {a b c : Channel} (h1 : a.butDrops b) (h2 : b.butDrops c) : a.butDrops c := by
  unfold Channel.butDrops at *
  rw [h2, h1]

theorem Dev.reportsTo_refl (d : Dev) : d.reportsTo d := ⟨fun _ => rfl, rfl, rfl, rfl⟩

theorem Dev.reportsTo_trans {a b c : Dev} (h1 : a.reportsTo b) (h2 : b.reportsTo c) : a.reportsTo c := by
  obtain ⟨p1, p2, p3, p4⟩ := h1
  obtain ⟨q1, q2, q3, q4⟩ := h2
  refine ⟨fun j => Channel.butDrops_trans (p1 j) (q1 j), ?_, ?_, ?_⟩
  · unfold Transport.butReports at *; rw [q2, p2]
  · rw [q3, p3]
  · rw [q4, p4]

/-- Equal transports, recorders and fault registers report nothing. -/
theorem Dev.reportsTo_of_eq {a b : Dev} (h1 : b.tr = a.tr) (h2 : b.rcd = a.rcd) (h3 : b.flt = a.flt) : a.reportsTo b :=
  ⟨fun j => by simp [Dev.chan, h1, Channel.butDrops], by rw [h1]; rfl, by rw [h2], by rw [h3]⟩

/-- What a command writes before it reports does not matter to what the report writes. -/
theorem Dev.reportsTo_congr {a a' b : Dev} (h : a'.reportsTo b) (h1 : a'.tr = a.tr) (h2 : a'.rcd = a.rcd)
    (h3 : a'.flt = a.flt) : a.reportsTo b := Dev.reportsTo_trans (Dev.reportsTo_of_eq h1 h2 h3) h

theorem foldl_reportsTo {α : Type} (f : Dev → α → Dev) (xs : List α) (d : Dev) (h : ∀ d x, Dev.reportsTo d (f d x)) :
    d.reportsTo (xs.foldl f d) := by
  induction xs generalizing d with
  | nil => exact Dev.reportsTo_refl _
  | cons x xs ih => exact Dev.reportsTo_trans (h d x) (ih _)

theorem noteFault_reportsTo (e : Event) (d : Dev) : d.reportsTo (noteFault e d) := by
  unfold noteFault; split <;> exact ⟨fun _ => rfl, rfl, rfl, rfl⟩

/-- Reclaiming a snapshot entry writes records alone (R469). -/
theorem reclaim_eq (r : Recorder) (e : Nat) : ∃ a, r.reclaim e = { r with recs := a } := by
  unfold Recorder.reclaim
  split
  · exact ⟨r.recs, rfl⟩
  · exact ⟨_, rfl⟩

/-- Writing a snapshot leaves the recorder's counts and settings alone (R466). -/
theorem putSnap_eq (r : Recorder) (ws : List (BitVec 32)) :
    ∃ a b n, r.putSnap ws = { r with recs := a, snaps := b, snapNext := n } := by
  unfold Recorder.putSnap
  generalize chunks 8 2 ws = cs
  induction cs generalizing r with
  | nil => exact ⟨r.recs, r.snaps, r.snapNext, rfl⟩
  | cons c cs ih =>
    obtain ⟨x, hx⟩ := reclaim_eq r r.snapNext
    obtain ⟨a, b, n, h⟩ := ih { r with recs := x, snaps := tset 0 r.snaps r.snapNext (snapImage c), snapNext := (r.snapNext + 1) % 32768 }
    refine ⟨a, b, n, ?_⟩
    rw [List.foldl_cons, hx]
    exact h

theorem capture_reportsTo (x : RecIn) (d : Dev) : d.reportsTo (capture x d).1 := by
  unfold capture
  split
  · by_cases h : d.rcd.merges x = true
    · simp only [captureNow, h, if_true]; exact ⟨fun _ => rfl, rfl, rfl, rfl⟩
    · simp only [captureNow, h, if_false, Bool.false_eq_true]
      obtain ⟨a, b, n, e⟩ := putSnap_eq d.rcd x.words
      refine ⟨fun _ => rfl, rfl, ?_, rfl⟩
      rw [e]
  · exact ⟨fun _ => rfl, rfl, rfl, rfl⟩

theorem countDrop_reportsTo (ch : Nat) (t : BitVec 8) (r : Bool) (d : Dev) : d.reportsTo (countDrop ch t r d) := by
  refine ⟨fun j => ?_, rfl, rfl, rfl⟩
  unfold countDrop
  rw [Dev.chan_modChan]
  split
  · next h => rw [h]; rfl
  · rfl

theorem enqueue_reportsTo (ch : Nat) (r : AttnRec) (d : Dev) : d.reportsTo (enqueue ch r d).1 := by
  unfold enqueue; split
  · exact ⟨fun _ => rfl, rfl, rfl, rfl⟩
  · split
    · exact ⟨fun _ => rfl, rfl, rfl, rfl⟩
    · exact countDrop_reportsTo ..

theorem reportRaw_reportsTo (e : Event) (d : Dev) : d.reportsTo (reportRaw e d).1 := by
  have fold : ∀ (g : AttnRec) (xs : List Nat) (a : Dev × List Limited), a.1.reportsTo (xs.foldl (fun a ch =>
      let r := enqueue ch g a.1
      (r.1, if r.2 then a.2 ++ [ev0404 ch] else a.2)) a).1 := by
    intro g xs
    induction xs with
    | nil => exact fun a => Dev.reportsTo_refl _
    | cons x xs ih => exact fun a => Dev.reportsTo_trans (enqueue_reportsTo x g a.1) (ih _)
  unfold reportRaw
  simp only
  refine Dev.reportsTo_trans (noteFault_reportsTo e d) ?_
  split
  · exact Dev.reportsTo_trans (capture_reportsTo _ _) (fold _ _ _)
  · exact fold _ _ _

theorem limitedFuel_reportsTo (n : Nat) (x : Limited) (d : Dev) : d.reportsTo (limitedFuel n x d) := by
  induction n generalizing x d with
  | zero => unfold limitedFuel; split <;> exact ⟨fun _ => rfl, rfl, rfl, rfl⟩
  | succ n ih =>
    unfold limitedFuel
    split
    · exact ⟨fun _ => rfl, rfl, rfl, rfl⟩
    · exact Dev.reportsTo_trans (Dev.reportsTo_trans (b := rateStart x d) ⟨fun _ => rfl, rfl, rfl, rfl⟩
        (reportRaw_reportsTo _ _)) (foldl_reportsTo _ _ _ (fun d y => ih y d))

/-- What a report writes of the transport, the recorder and the fault registers (R164, R183, R195, R465). -/
theorem report_reportsTo (e : Event) (d : Dev) : d.reportsTo (report e d) :=
  Dev.reportsTo_trans (reportRaw_reportsTo e d) (foldl_reportsTo _ _ _ (fun d y => limitedFuel_reportsTo _ y d))

theorem reportLimited_reportsTo (scope qty : Nat) (e : Event) (d : Dev) : d.reportsTo (reportLimited scope qty e d) :=
  limitedFuel_reportsTo ..

theorem reportAll_reportsTo (es : List Event) (d : Dev) : d.reportsTo (reportAll es d) :=
  foldl_reportsTo _ _ _ (fun d e => report_reportsTo e d)

theorem captureRep_reportsTo (x : RecIn) (d : Dev) : d.reportsTo (captureRep x d) := by
  unfold captureRep
  dsimp only
  split
  · exact Dev.reportsTo_trans (capture_reportsTo x d) (limitedFuel_reportsTo ..)
  · exact capture_reportsTo x d

theorem recordCycle_reportsTo (d : Dev) : d.reportsTo (recordCycle d) :=
  Dev.reportsTo_trans (b := { d with rcd := { d.rcd with intake := none } }) ⟨fun _ => rfl, rfl, rfl, rfl⟩
    (foldl_reportsTo _ _ _ (fun d x => captureRep_reportsTo x d))

/-- What happens in one cycle reports what it reports by itself. -/
theorem oneCycle_reportsTo (f : Dev → Dev) (d : Dev) (h : ∀ d, Dev.reportsTo d (f d)) : d.reportsTo (oneCycle f d) := by
  unfold oneCycle
  split
  · exact h d
  · exact Dev.reportsTo_trans (Dev.reportsTo_trans (b := { d with rcd := { d.rcd with intake := some [] } })
      ⟨fun _ => rfl, rfl, rfl, rfl⟩ (h _)) (recordCycle_reportsTo _)

theorem dropRecord_reportsTo (ch : Nat) (t : BitVec 8) (r : Bool) (d : Dev) : d.reportsTo (dropRecord ch t r d) :=
  Dev.reportsTo_trans (countDrop_reportsTo ..) (limitedFuel_reportsTo ..)

end Sys2Proof.Machine
end

