-- ==== Sys2Proof/Certificates/Slice0/Obligations.lean ====
section
/-!
DEFINITION. The statements for the provers: what each group of commands does, what it leaves alone, and what every step
keeps.
-/
open Sys2Proof Sys2Proof.Machine

/-! ### The whole block -/

/-- A step takes the command at the front of the queue and runs it on the state with the others waiting. With none
waiting the block idles: that is the model's choice (log entry 13). -/
def Obligations.StepRunsFront : Prop :=
  (∀ (s : State) (c : Instr) (rest : List Instr), s.pending = c :: rest → step s = exec c { s with pending := rest }) ∧
    ∀ s : State, s.pending = [] → step s = .next s

/-- Every command answers: with a next state, but for a command that names no unit, and for a PORST_N pulse of 100 ns to
1 µs, whose effect the manual does not define (R603); no command touches the queue.
What rests here on the model's own reading or choice stands in log entries 3 and 54. -/
def Obligations.EveryCommandAnswers : Prop :=
  ∀ (i : Instr) (s : State),
    (i.wellFormed = false → exec i s = .fault .noSuchUnit) ∧
    (∀ ns, i = .porstAssert ns → 100 ≤ ns → ns < 1000 → exec i s = .fault .porstPulseUndefined) ∧
    (i.wellFormed = true → (∀ ns, i = .porstAssert ns → ns < 100 ∨ 1000 ≤ ns) →
      ∃ t, exec i s = .next t ∧ t.pending = s.pending)

/-- The safety island and the rest of the block keep apart (R20): an event of the island changes the island alone, by what
the island holds and what the event itself carries, whatever else stands; no other command changes the island. What
the rest of the block has handed out stays as its last command left it (log entry 10). -/
def Obligations.IslandKeepsApart : Prop :=
  ∀ (i : Instr) (s t : State), exec i s = .next t →
    (i.isIsland = true → s.islandOnly t ∧
      ∀ s' : State, s'.isl = s.isl → exec i s' = .next { s' with isl := t.isl }) ∧
    (i.isIsland = false → t.isl = s.isl)

/-- While the main domain does not run, its commands do nothing (log entry 3): only the island, the supplies and resets,
the backup domain, recovery mode and the links go on. -/
def Obligations.MainDomainStands : Prop :=
  ∀ (i : Instr) (s : State), s.dev.isMain = false → i.wellFormed = true → i.isIsland = false → i.anyPower = false →
    Runs i s (fun t => s.silent t s.dev)

/-- Every step keeps the invariant of the block: the retained SRAM in its canonical form, nothing left to be written, and
the island's outputs, SAFE_OK pins and mask windows as R439, R446, R452, R454 and R455 say. -/
def Obligations.StepKeepsInv : Prop :=
  ∀ s t : State, s.inv → step s = .next t → t.inv

/-- Reset: the invariant holds, no command waits, the main domain does not run, the island is not powered, no switch of a
strand is closed, and every channel is closed (R241, R603; log entries 1 and 6). -/
def Obligations.ResetState : Prop :=
  State.reset.inv ∧ State.reset.pending = [] ∧ State.reset.dev.isMain = false ∧ State.reset.isl.st = .unpowered ∧
    (∀ k, (State.reset.dev.line k).st = .off ∧ (State.reset.dev.line k).gate = false) ∧
    (∀ ch, (State.reset.dev.chan ch).st = .closed) ∧ ∀ p, State.reset.dev.point p = Point.reset

/-! ### Strand lines (07) -/

/-- What a transition of a strand's line state may write of its line: the settings, the registers of a frame and the
signal supervision stay. -/
def Sys2Proof.Machine.Line.moves (l m : Line) : Prop :=
  m = { l with
    st := m.st, gate := m.gate, frames := m.frames, blocked := m.blocked, failCnt := m.failCnt, fault := m.fault
    peak := m.peak, overRun := m.overRun, backRun := m.backRun, backoff := m.backoff, ovPending := m.ovPending
    preRun := m.preRun, preWhole := m.preWhole, preBad := m.preBad, causes := m.causes, reported := m.reported
    uv := m.uv, ampl := m.ampl, amplN := m.amplN, amplSum := m.amplSum
    highRun := m.highRun, lowRun := m.lowRun, okRun := m.okRun }

/-- Is a copy of the strand in transmission (R245). -/
def Sys2Proof.Machine.Dev.copySending (d : Dev) (k : Nat) : Prop :=
  (d.line k).st = .on ∧ ∃ cy, (d.strand k).cycle = some cy ∧ d.cycleNow cy < cy.txEnd

/-- The strand leaves ON, and a copy in transmission is cut; else nothing goes to the line (R245, R246). -/
def Sys2Proof.Machine.cutsCopy (s : State) (k : Nat) (t : State) : Prop :=
  (s.dev.copySending k → t.dev.out = [.strandCut k] ∧ ∀ cy, (s.dev.strand k).cycle = some cy →
    t.dev.strand k = { s.dev.strand k with cycle := some { cy with txEnd := 0 } }) ∧
  (¬s.dev.copySending k → t.dev.out = [] ∧ t.dev.strand k = s.dev.strand k) ∧
  ∀ j, j ≠ k → t.dev.strand j = s.dev.strand j

/-- One strand alone changes; `quiet`: nothing goes to its line. -/
def Sys2Proof.Machine.onlyLine (s : State) (k : Nat) (quiet : Bool) (t : State) : Prop :=
  (s.dev.line k).moves (t.dev.line k) ∧ (∀ j, j ≠ k → t.dev.line j = s.dev.line j) ∧
    (if quiet then t.dev.out = [] ∧ t.dev.strands = s.dev.strands else cutsCopy s k t) ∧
    s.frame t { s.dev with lines := t.dev.lines, strands := t.dev.strands }

/-- A counted failure of a strand whose switch is closed: the switch opens, the failure is counted, and the line latches
off at the eighth (R241, R243); `cause` is the bit of LINE_FAULT. -/
def Sys2Proof.Machine.lineFailed (s : State) (k cause : Nat) (t : State) : Prop :=
  let l := s.dev.line k
  let m := t.dev.line k
  m.gate = false ∧ m.failCnt = min (l.failCnt + 1) 8 ∧
    (l.failCnt + 1 < 8 → m.st = .retryWait ∧ m.backoff = 100 * 2 ^ l.failCnt + 1 ∧ m.fault = l.fault ||| putB 12 cause true) ∧
    (8 ≤ l.failCnt + 1 → m.st = .latched ∧ m.fault = l.fault ||| putB 12 cause true ||| putB 12 3 true) ∧
    onlyLine s k false t

/-- Back-feed opens the switch (R240, R241). -/
def Sys2Proof.Machine.lineBackfed (s : State) (k : Nat) (t : State) : Prop :=
  (t.dev.line k).st = .precheck ∧ (t.dev.line k).gate = false ∧ (t.dev.line k).failCnt = (s.dev.line k).failCnt ∧
    (t.dev.line k).fault = (s.dev.line k).fault ||| putB 12 9 true ∧ onlyLine s k false t

/-- The transitions of a strand's line state (R232 to R254): FAST_TRIP and LINE_OVERLOAD are failures, which retry or, the
eighth time, latch; the other events take the transition that is due, an overload before a back-feed before the event's own
row, and otherwise do nothing. A copy in transmission is cut where the strand leaves ON.
What rests here on the model's own reading or choice stands in log entries 12, 27 and 99. -/
def Obligations.LineEvents : Prop :=
  (∀ (s : State) (k : Nat), s.up → k < 16 →
     (∀ mA, (s.dev.line k).powered = true → ((s.dev.line k).tripMa : Int) ≤ mA →
       Runs (.fastTrip k mA) s (lineFailed s k 1)) ∧
     (∀ mA, ((s.dev.line k).powered = false ∨ mA < ((s.dev.line k).tripMa : Int)) →
       Runs (.fastTrip k mA) s (fun t => s.silent t s.dev)) ∧
     ((s.dev.line k).powered = true → 100 ≤ (s.dev.line k).overRun →
       Runs (.lineOverload k) s (lineFailed s k 2) ∧ Runs (.lineBackfeed k) s (lineFailed s k 2) ∧
       Runs (.inrushEnd k) s (lineFailed s k 2) ∧ Runs (.failCntClear k) s (lineFailed s k 2)) ∧
     (((s.dev.line k).powered = false ∨ (s.dev.line k).overRun < 100) →
       Runs (.lineOverload k) s (fun t => s.silent t s.dev))) ∧
  (∀ (s : State) (k : Nat), s.up → k < 16 →
     let l := s.dev.line k
     (l.powered = true → l.overRun < 100 → 2 ≤ l.backRun →
       Runs (.lineBackfeed k) s (lineBackfed s k) ∧ Runs (.inrushEnd k) s (lineBackfed s k) ∧
       Runs (.failCntClear k) s (lineBackfed s k)) ∧
     (l.st = .precheck → (if l.ovPending then 100 else 2) ≤ l.preRun → s.dev.tb.sample = 0 →
       Runs (.precheckPassed k) s (fun t =>
         (t.dev.line k).st = .inrush ∧ (t.dev.line k).gate = true ∧ (t.dev.line k).ovPending = false ∧ onlyLine s k true t)) ∧
     (l.st = .inrush → l.overRun < 100 → l.backRun < 2 → l.inrushMs ≤ l.frames → Runs (.inrushEnd k) s (fun t =>
       (t.dev.line k).st = .on ∧ (t.dev.line k).gate = true ∧ t.dev.ply.latch = s.dev.ply.latch ∧
         t.dev.transmits k = !s.dev.ply.latch ∧ onlyLine s k true t)) ∧
     (l.st = .retryWait → l.backoff = 0 → Runs (.retryBackoffEnd k) s (fun t =>
       (t.dev.line k).st = .precheck ∧ (t.dev.line k).gate = false ∧ (t.dev.line k).failCnt = l.failCnt ∧
         onlyLine s k true t)) ∧
     (l.st = .on → l.overRun < 100 → l.backRun < 2 → 10000 ≤ l.frames → Runs (.failCntClear k) s (fun t =>
       (t.dev.line k) = { l with failCnt := 0 } ∧ onlyLine s k true t)) ∧
     (let still (t : State) : Prop := s.silent t s.dev
      ((l.powered = false ∨ (l.overRun < 100 ∧ l.backRun < 2)) → Runs (.lineBackfeed k) s still) ∧
      ((l.st ≠ .precheck ∨ s.dev.tb.sample ≠ 0 ∨ l.preRun < if l.ovPending then 100 else 2) →
        Runs (.precheckPassed k) s still) ∧
      ((l.powered = false ∨ (l.overRun < 100 ∧ l.backRun < 2)) → (l.st ≠ .inrush ∨ l.frames < l.inrushMs) →
        Runs (.inrushEnd k) s still) ∧
      ((l.st ≠ .retryWait ∨ l.backoff ≠ 0) → Runs (.retryBackoffEnd k) s still) ∧
      ((l.powered = false ∨ (l.overRun < 100 ∧ l.backRun < 2)) → (l.st ≠ .on ∨ l.frames < 10000) →
        Runs (.failCntClear k) s still)))


/-- GATE is high exactly in INRUSH and ON (R241): every step keeps it for every strand, whatever its command. -/
def Obligations.LineGateFollowsState : Prop :=
  ∀ s t : State, (∀ k, (s.dev.line k).gate = (s.dev.line k).powered) → step s = .next t →
    ∀ k, (t.dev.line k).gate = (t.dev.line k).powered

/-! ### Points, alarms and subscriptions (02) -/

/-- An uncorrectable error in the point store is counted with its table and index (R98, R638), and outside the point store
only a report happens; `ply` is what it leaves of the pair state. -/
def Sys2Proof.Machine.pointErrorNoted (s : State) (table index : Nat) (ply : Ply) (t : State) : Prop :=
  t.dev.ps.eccCnt = satAdd s.dev.ps.eccCnt 1 ∧
    t.dev.ps.eccLast = put 32 30 (BitVec.ofNat 2 table) ||| put 32 0 (BitVec.ofNat 17 index) ∧
    s.frame t { s.dev with flt := { s.dev.flt with eccUncorr := satAdd s.dev.flt.eccUncorr 1 }, ps := { s.dev.ps with
      points := t.dev.ps.points, alarms := t.dev.ps.alarms, subs := t.dev.ps.subs
      eccCnt := t.dev.ps.eccCnt, eccLast := t.dev.ps.eccLast }, ply := ply }

/-- POINT_MEMORY, POINT_QUARANTINED, ALARM_MEMORY, SUB_MEMORY and ALARM_DELAY_EXPIRY (R85, R94, R95, R97): a failing item
takes the contents that the rule gives, every other item of its table stays, and the error is counted; the last frame of a
level's delay makes the level ACTIVE and unacknowledged and marks the entry, but for a level whose point is BAD or INITIAL,
which waits, and before it nothing happens.
What rests here on the model's own reading or choice stands in log entries 49, 93, 95, 96 and 112. -/
def Obligations.PointStoreEvents : Prop :=
  (∀ s : State, s.up →
     (∀ p, p < 131072 → Runs (.pointMemory p) s (fun t =>
       (t.dev.point p).value = 0 ∧ (t.dev.point p).tstamp = s.dev.cal ∧ (t.dev.point p).quality = 2 ∧
         (t.dev.point p).detail = 0x0C ∧ (t.dev.point p).owner = (s.dev.point p).owner ∧
         (∀ q, q ≠ p → t.dev.point q = s.dev.point q) ∧ pointErrorNoted s 0 p s.dev.ply t)) ∧
     (∀ p, p < 131072 → Runs (.pointQuarantined p) s (fun t =>
       t.dev.point p = { Point.reset with quality := 2, detail := 0x0C, quarantined := true } ∧
         (∀ q, q ≠ p → t.dev.point q = s.dev.point q) ∧ t.dev.rightsSettled ∧
         pointErrorNoted s 0 p { s.dev.ply with digestDue := t.dev.ply.digestDue } t)) ∧
     (∀ e, e < 16384 → Runs (.alarmMemory e) s (fun t =>
       t.dev.alarm e = { s.dev.alarm e with levelEn := 0, qEn := false, levels := [] } ∧
         (∀ l, (t.dev.alarm e).level l = .normal) ∧ (∀ q, q ≠ e → t.dev.alarm q = s.dev.alarm q) ∧
         t.dev.ps.points = s.dev.ps.points ∧ pointErrorNoted s 1 e s.dev.ply t)) ∧
     (∀ e, e < 16384 → Runs (.subMemory e) s (fun t =>
       t.dev.sub e = { s.dev.sub e with en := false, pending := false } ∧ (∀ q, q ≠ e → t.dev.sub q = s.dev.sub q) ∧
         t.dev.ps.points = s.dev.ps.points ∧ pointErrorNoted s 2 e s.dev.ply t))) ∧
  (∀ (s : State) (e l n : Nat), s.up → e < 16384 → l < 4 →
     ((s.dev.alarm e).level l = .delaying n → n ≤ 1 → s.dev.alarmQuality e ≠ 2 → s.dev.alarmQuality e ≠ 3 → Runs (.alarmDelayExpiry e l) s (fun t =>
       (t.dev.alarm e).level l = .active ∧ bit (t.dev.alarm e).unacked l = true ∧ (t.dev.alarm e).marked = true ∧
         (t.dev.alarm e).transitions = satAdd (s.dev.alarm e).transitions 1 ∧
         (∀ m, m ≠ l → (t.dev.alarm e).level m = (s.dev.alarm e).level m) ∧
         (∀ m, m < 4 → m ≠ l → bit (t.dev.alarm e).unacked m = bit (s.dev.alarm e).unacked m) ∧
         (∀ q, q ≠ e → t.dev.alarm q = s.dev.alarm q) ∧
         s.silent t { s.dev with ps := { s.dev.ps with alarms := t.dev.ps.alarms } })) ∧
     ((s.dev.alarm e).level l = .delaying n → n ≤ 1 → (s.dev.alarmQuality e = 2 ∨ s.dev.alarmQuality e = 3) →
       Runs (.alarmDelayExpiry e l) s (fun t => (t.dev.alarm e).level l = .delaying 0 ∧
         t.dev.alarm e = { s.dev.alarm e with levels := (t.dev.alarm e).levels } ∧
         (∀ m, m ≠ l → (t.dev.alarm e).level m = (s.dev.alarm e).level m) ∧
         (∀ q, q ≠ e → t.dev.alarm q = s.dev.alarm q) ∧
         s.silent t { s.dev with ps := { s.dev.ps with alarms := t.dev.ps.alarms } })) ∧
     (((s.dev.alarm e).level l = .delaying n ∧ 1 < n ∨ ∀ m, (s.dev.alarm e).level l ≠ .delaying m) →
       Runs (.alarmDelayExpiry e l) s (fun t => s.silent t s.dev)))


/-- What a direct write of the point store may change: its own part `ps`, and the digest of the area that covers it. -/
def Sys2Proof.Machine.pointStoreFrame (s t : State) (ps : PointStore) : Prop :=
  s.frame t { s.dev with ps := { ps with subs := t.dev.ps.subs }, ply := { s.dev.ply with digestDue := t.dev.ply.digestDue } }

/-- SHARE_MASK_WRITE, SUB_RANGE_WRITE and SUB_ENABLE (R77, R87, R88, R90, R93): the register or the entry takes the value,
and every enabled subscription is revoked exactly where its partition lost the right to read.
What rests here on the model's own reading or choice stands in log entries 2 and 48. -/
def Obligations.SharingAndSubscriptions : Prop :=
  (∀ (s : State) (v : Reg), s.up →
     (∀ (g : Nat) (hi : Bool), 1 ≤ g → g ≤ 7 → writeAdmitted (regCmd (0x0200 + 8 * (g - 1) + (if hi then 4 else 0)) v) s →
       Runs (.shareMaskWrite g hi v) s (fun t =>
         fld (t.dev.shareMask g) (if hi then 32 else 0) 32 = (if hi then v else v &&& 0xFFFFFFFE) ∧
           fld (t.dev.shareMask g) (if hi then 0 else 32) 32 = fld (s.dev.shareMask g) (if hi then 0 else 32) 32 ∧
           (∀ h, h ≠ g → t.dev.shareMask h = s.dev.shareMask h) ∧ t.dev.rightsSettled ∧
           pointStoreFrame s t { s.dev.ps with shareMask := t.dev.ps.shareMask })) ∧
     (∀ p, p < 64 → writeAdmitted (regCmd (0x0240 + 4 * p) v) s →
       Runs (.subRangeWrite p v) s (fun t =>
         t.dev.subRange p = ((fld v 0 14).toNat, (fld v 16 15).toNat) ∧
           (∀ q, q ≠ p → t.dev.subRange q = s.dev.subRange q) ∧ t.dev.rightsSettled ∧
           pointStoreFrame s t { s.dev.ps with subRange := t.dev.ps.subRange }))) ∧
  (∀ (s : State) (e : Nat) (img : BitVec 256), s.up → e < 16384 → s.dev.rightsSettled →
     writeAdmitted (writeCmd ((s.dev.subHolder e).getD 0) 0x09 0x03 e 32 img.toNat) s →
     Runs (.subEnable e img) s (fun t =>
       let o := s.dev.sub e
       let w := { o with
         minInterval := fld img 128 16, deadband := fld img 64 64, en := bit img 25, onQuality := bit img 22
         onValue := bit img 21, point := fld img 0 17 }
       (bit img 25 = false → t.dev.sub e = { w with pending := false, revoked := false, changes := 0 }) ∧
         (bit img 25 = true → (o.en = false ∨ fld img 0 17 ≠ o.point) →
           t.dev.sub e = { w with pending := true, revoked := false, changes := 0, holdLeft := 0 }) ∧
         (bit img 25 = true → o.en = true → fld img 0 17 = o.point → o.revoked = false → t.dev.sub e = w) ∧
         (∀ q, q ≠ e → t.dev.sub q = s.dev.sub q) ∧ pointStoreFrame s t s.dev.ps))

/-- A change of a point, by its producer or by a host write, counts and is stamped; an update that leaves VALUE, QUALITY and
DETAIL as they are alters neither (R55). A point whose source word names another producer takes nothing (R64, R65). -/
def Obligations.PointChanges : Prop :=
  ∀ (d : Dev) (p : Nat),
    let counts (d' : Dev) (cal : W64) : Prop :=
      let o := d.point p
      let n := d'.point p
      let same := n.value = o.value ∧ n.quality = o.quality ∧ n.detail = o.detail
      (¬same → n.changeCnt = o.changeCnt + 1 ∧ n.tstamp = cal) ∧
        (same → n.changeCnt = o.changeCnt ∧ n.tstamp = o.tstamp)
    (∀ (v : W64) (q : BitVec 2) (det : BitVec 8) (cal : W64), counts (produce p v q det cal d) cal) ∧
    (∀ (q : BitVec 2) (det : BitVec 8) (cal : W64), counts (produceQ p q det cal d) cal) ∧
    (∀ (kind index : Nat) (v : W64) (q : BitVec 2) (det : BitVec 8) (cal : W64),
      counts (produceAs kind index p v q det cal d) cal ∧
      (d.produces kind index p = false → produceAs kind index p v q det cal d = d)) ∧
    (∀ kind index : Nat, counts (claimPoint kind index p d) d.cal ∧ counts (releaseAs kind index p d) d.cal ∧
      (d.produces kind index p = false → releaseAs kind index p d = d)) ∧
    (∀ (part : Nat) (e : PointElem), counts (pointWriteOne part p e d) d.cal) ∧
    (∀ e : ConfigElem, counts (pointConfigOne p e d) d.cal)

/-! ### Host commands (03, 04) -/

/-! What the effect of each opcode is, from `s` to `t`, whether at its execution or in phase F. -/

/-- NOP: the command completes, and as a full barrier it clears the failures before it (R120). -/
def Sys2Proof.Machine.nopDone (c : Cmd) (s t : State) : Prop :=
  c.completes s t ∧
    (t.dev.chan c.ch).fenceFault = ((s.dev.chan c.ch).fenceFault &&
      (!c.f || (match (s.dev.chan c.ch).faultAfter with
        | some a => decide (c.seq ≤ a)
        | none => false))) ∧
    s.frameCh t c.ch { s.dev with cp := t.dev.cp }

/-- POINT_READ: the records of the points (R140, R150). -/
def Sys2Proof.Machine.pointsRead (c : Cmd) (s t : State) : Prop :=
  c.replies ((List.range c.count).flatMap (fun i => leBytes 32 (s.dev.point (c.index + i)).image.toNat)) s t ∧
    s.frameCh t c.ch { s.dev with cp := t.dev.cp }

/-- READ_ENTRY: the images of the entries, of the module `d` (R140, R146). -/
def Sys2Proof.Machine.entriesRead (c : Cmd) (d : Dev) (s t : State) : Prop :=
  c.replies ((List.range c.count).flatMap (fun i =>
    leBytes c.entrySize (entryImage (Memory.read s.sram) c.space (c.index + i) d))) s t ∧
    s.frameCh t c.ch { s.dev with cp := t.dev.cp }

/-- READ_REG: the registers, of the module `d` (R140, R153). -/
def Sys2Proof.Machine.registersRead (c : Cmd) (d : Dev) (s t : State) : Prop :=
  c.replies ((List.range c.count).flatMap (fun i => leBytes 4 (regRead d.projected (c.object i) d).toNat)) s t ∧
    s.frameCh t c.ch { s.dev with cp := t.dev.cp }

/-- POINT_WRITE (R57, R65, R72). -/
def Sys2Proof.Machine.pointsWritten (c : Cmd) (s t : State) : Prop :=
  c.completes s t ∧
    (∀ i, i < c.count →
      let p := c.index + i
      let o := s.dev.point p
      let e := (c.pointElem i).1
      let subst := c.part = 0 ∧ (o.srcKind ≠ 0 ∨ o.owner ≠ 0)
      (t.dev.point p).value = canonical o.ptype.toNat e.value ∧
        (subst → (t.dev.point p).quality = 1 ∧ (t.dev.point p).detail = 0x10 ∧ (t.dev.point p).substForce = true ∧
          (t.dev.point p).subst = (o.subst || o.srcKind != 0)) ∧
        (¬ subst → (t.dev.point p).quality = e.quality ∧ (t.dev.point p).detail = e.detail ∧
          (t.dev.point p).substForce = false ∧ (t.dev.point p).subst = o.subst) ∧
        (t.dev.point p).owner = o.owner ∧ (t.dev.point p).srcKind = o.srcKind) ∧
    (∀ p, (∀ i < c.count, p ≠ c.index + i) → t.dev.point p = s.dev.point p) ∧
    s.frameCh t c.ch { s.dev with
      cp := t.dev.cp
      ps := { s.dev.ps with points := t.dev.ps.points, alarms := t.dev.ps.alarms, subs := t.dev.ps.subs }
      ply := { s.dev.ply with digestDue := t.dev.ply.digestDue } }

/-- ALARM_ACK (R85, R150). -/
def Sys2Proof.Machine.alarmsAcked (c : Cmd) (s t : State) : Prop :=
  c.completes s t ∧
    (∀ i, i < c.count →
      let a := s.dev.alarm (c.index + i)
      let b := t.dev.alarm (c.index + i)
      (∀ l, l < 4 → bit b.unacked l = (bit a.unacked l && !bit (c.ackElem i) l)) ∧
        (∀ l, l < 4 → b.level l = if bit (c.ackElem i) l && bit a.unacked l && a.level l == .clearWait then .normal
          else a.level l) ∧
        b.qUnacked = (a.qUnacked && !bit (c.ackElem i) 4)) ∧
    (∀ e, (∀ i < c.count, e ≠ c.index + i) → t.dev.alarm e = s.dev.alarm e) ∧
    s.frameCh t c.ch { s.dev with cp := t.dev.cp, ps := { s.dev.ps with alarms := t.dev.ps.alarms } }

/-- STRAND_LINE: the strands that the command names, and no other (R155, R241, R244, R245). -/
def Sys2Proof.Machine.linesSwitched (c : Cmd) (s t : State) : Prop :=
  let named (k : Nat) : Prop := ∃ i < c.count, k = c.index + i
  let action := fld (c.word 0) 0 2
  c.completes s t ∧ (∀ k, ¬ named k → t.dev.line k = s.dev.line k) ∧
    (∀ k, ¬ named k → t.dev.strand k = s.dev.strand k) ∧
    (∀ k, t.dev.strand k = { s.dev.strand k with cycle := (t.dev.strand k).cycle }) ∧
    s.frameCh t c.ch { s.dev with cp := t.dev.cp, lines := t.dev.lines, strands := t.dev.strands } ∧
    (action = 0#2 → ∀ k, named k → (t.dev.line k).st = .off ∧
      ((s.dev.line k).st ≠ .off → (t.dev.line k).gate = false ∧ (t.dev.line k).failCnt = 0) ∧
      (∀ cy, (s.dev.line k).st = .on → (s.dev.strand k).cycle = some cy →
        (t.dev.strand k).cycle = some (if s.dev.cycleNow cy < cy.txEnd then { cy with txEnd := 0 } else cy))) ∧
    (action = 1#2 → t.dev.strands = s.dev.strands ∧ ∀ k, named k →
      ((s.dev.line k).st = .off → (t.dev.line k).st = .precheck ∧ (t.dev.line k).failCnt = 0) ∧
        ((s.dev.line k).st ≠ .off → t.dev.line k = s.dev.line k)) ∧
    (action = 2#2 → t.dev.strands = s.dev.strands ∧ ∀ k, named k →
      let st := (s.dev.line k).st
      ((st = .off ∨ st = .retryWait ∨ st = .latched) → (t.dev.line k).st = .precheck ∧ (t.dev.line k).failCnt = 0) ∧
        ((st = .precheck ∨ st = .inrush ∨ st = .on) → t.dev.line k = s.dev.line k))

/-- HART_SEND: the request waits in its mailbox (R156). -/
def Sys2Proof.Machine.requestPosted (c : Cmd) (s t : State) : Prop :=
  c.completes s t ∧
    t.dev.cloop c.index = { s.dev.cloop c.index with req := c.payload.take (12 + c.hartLen), mbState := .pending } ∧
    (∀ k, k ≠ c.index → t.dev.cloop k = s.dev.cloop k) ∧ s.frameCh t c.ch { s.dev with cp := t.dev.cp, cl := t.dev.cl }

/-- TIME_SET: the calendar time waits for the next RTC count, and the command with it (R157, R492). -/
def Sys2Proof.Machine.timeAccepted (c : Cmd) (s t : State) : Prop :=
  (t.dev.slot c.ch c.tag).map (·.stage) = some .replying ∧
    t.dev.bk = { s.dev.bk with
      timeSet := s.dev.bk.timeSet ++ [⟨c.ch, c.tag, c.seq, c.timeMode == 1, c.calTime, false⟩] } ∧
    s.silent t { s.dev with cp := t.dev.cp, bk := t.dev.bk }

/-- PLY_CONTROL (R158, R520, R534, R539). -/
def Sys2Proof.Machine.pairControlled (c : Cmd) (s t : State) : Prop :=
  c.completes s t ∧
    (c.plyAction = 1 → t.dev.ply = { s.dev.ply with pairId := c.word 1, conflict := false } ∧
      s.frameCh t c.ch { s.dev with cp := t.dev.cp, ply := t.dev.ply }) ∧
    (c.plyAction = 2 → t.dev.ply.pairId = 0 ∧
      (s.dev.ply.role = .dead → t.dev.ply.role = .dead) ∧
      (s.dev.ply.role ≠ .dead → t.dev.ply.role = .solo ∧ t.dev.ply.twinState = .none) ∧
      (s.dev.ply.role = .leading ∨ s.dev.ply.role = .dead → t.dev.lines = s.dev.lines ∧ t.dev.strands = s.dev.strands) ∧
      (s.dev.ply.role = .trailing ∨ s.dev.ply.role = .joining → ∀ k < 16, (t.dev.line k).st = .off) ∧
      (∀ k, t.dev.strand k = { s.dev.strand k with cycle := (t.dev.strand k).cycle }) ∧
      s.frameCh t c.ch { s.dev with
        cp := t.dev.cp, ply := t.dev.ply, lines := t.dev.lines, strands := t.dev.strands }) ∧
    (c.plyAction = 3 → t.dev.ply = { s.dev.ply with
        yieldAt := some (BitVec.ofNat 64 ((s.dev.tb.frame.toNat + 23) / 8 * 8)), yieldAck := false, yieldTwin := false } ∧
      s.frameCh t c.ch { s.dev with cp := t.dev.cp, ply := t.dev.ply }) ∧
    (c.plyAction = 4 → t.dev.ply = { s.dev.ply with
        catchupTries := 0, sweep := s.dev.ply.sweep.map (fun x => { x with age := 0 }) } ∧
      s.frameCh t c.ch { s.dev with cp := t.dev.cp, ply := t.dev.ply })

/-- UPDATE_BEGIN, UPDATE_DATA and UPDATE_END (R159, R160, R591). -/
def Sys2Proof.Machine.updateAdvanced (c : Cmd) (s t : State) : Prop :=
  c.completes s t ∧
    (c.opcode = 0x30 → t.dev.upd.st = .erasing ∧ t.dev.upd.written = 0 ∧
      t.dev.flash = { s.dev.flash with staging := [], stagingLen := (c.word 0).toNat, marker := false } ∧
      s.frameCh t c.ch { s.dev with cp := t.dev.cp, upd := t.dev.upd, flash := t.dev.flash }) ∧
    (c.opcode = 0x31 → t.dev.upd = { s.dev.upd with written := s.dev.upd.written + BitVec.ofNat 32 c.payload.length } ∧
      (∀ i < c.payload.length, stageAt t.dev.flash.staging (c.index + i) = c.payload[i]?) ∧
      s.frameCh t c.ch { s.dev with
        cp := t.dev.cp, upd := t.dev.upd, flash := { s.dev.flash with staging := t.dev.flash.staging } }) ∧
    (c.opcode = 0x32 → t.dev.upd = { s.dev.upd with st := .verifying } ∧
      s.frameCh t c.ch { s.dev with cp := t.dev.cp, upd := t.dev.upd })

/-- What a restart begins: every command is discarded, none is accepted until it, and an update that runs is given up
(R131, R162, R591). -/
def Sys2Proof.Machine.restartBegins (s t : State) (fuses : Fuses) (r : RestartKind) : Prop :=
  t.dev.cp.closing = true ∧ t.dev.cp.phaseF = [] ∧ t.dev.pwr = { s.dev.pwr with restart := some r } ∧
    s.frame t { s.dev with tr := t.dev.tr, cp := t.dev.cp, pwr := t.dev.pwr, upd := t.dev.upd, fuses := fuses }

/-- A restart command: the restart is due once the COMPLETION record is written, or at once with N; `now` are the fuses
without it, `then_` with it (R162, R566). -/
def Sys2Proof.Machine.restartTaken (c : Cmd) (now then_ : Fuses) (r : RestartKind) (s t : State) : Prop :=
  (c.n = false → c.completes s t ∧ t.dev.cp.restarts = s.dev.cp.restarts ++ [c] ∧ t.dev.cp.closing = s.dev.cp.closing ∧
    s.frameCh t c.ch { s.dev with cp := t.dev.cp, fuses := now }) ∧
  (c.n = true → restartBegins s t then_ r)

/-- The effect of a command that is no configuration command; a read takes what the module `d` holds (R140, R150 to R162). -/
def Sys2Proof.Machine.Cmd.takesEffect (c : Cmd) (d : Dev) (s t : State) : Prop :=
  (c.opcode = 0 → nopDone c s t) ∧ (c.opcode = 0x01 → pointsRead c s t) ∧ (c.opcode = 0x02 → pointsWritten c s t) ∧
    (c.opcode = 0x04 → alarmsAcked c s t) ∧ (c.opcode = 0x08 → entriesRead c d s t) ∧
    (c.opcode = 0x0C → registersRead c d s t) ∧ (c.opcode = 0x11 → linesSwitched c s t) ∧
    (c.opcode = 0x12 → requestPosted c s t) ∧ (c.opcode = 0x13 → timeAccepted c s t) ∧
    (c.opcode = 0x20 → pairControlled c s t) ∧
    (c.opcode = 0x30 ∨ c.opcode = 0x31 ∨ c.opcode = 0x32 → updateAdvanced c s t) ∧
    (c.opcode = 0x38 →
      restartTaken c s.dev.fuses { s.dev.fuses with partly := some c.target } .lifecycle s t) ∧
    (c.opcode = 0x3F → restartTaken c s.dev.fuses s.dev.fuses (.device (fld (c.word 0) 0 2).toNat) s t)

/-- NOP, POINT_READ, READ_ENTRY and READ_REG (R138, R140, R150 to R153): a NOP takes no effect and completes with OK; a
read writes its bytes to the reply area and waits for the acknowledgement, with which it completes (HOST_ACK); READ_REG
clears nothing before that. With a full barrier completes what waits behind it alone and has its status already.
What rests here on the model's own reading or choice stands in log entries 44, 45, 74 and 78. -/
def Obligations.NopAndReads : Prop :=
  (∀ (s : State) (c : Cmd), s.up → c.runnable s → c.opcode = 0 → Runs (.nop c.ch c.tag) s (nopDone c s)) ∧
  (∀ (s : State) (c : Cmd), s.up → c.runnable s →
     (c.opcode = 0x01 → Runs (.pointRead c.ch c.tag) s (pointsRead c s)) ∧
     (c.opcode = 0x08 → Runs (.readEntry c.ch c.tag) s (entriesRead c s.dev.fresh0 s)) ∧
     (c.opcode = 0x0C → Runs (.readReg c.ch c.tag) s (registersRead c s.dev.fresh0 s))) ∧
  ∀ (s : State) (c e : Cmd) (st : Nat), s.up → c.ch ≤ 64 → c.tag < 128 → s.dev.slot c.ch c.tag = some c →
    c.stage = .waiting → s.dev.blocked c = false → c.pastLimit s.dev = false → c.a = false → c.t = false →
    checkAll c false s.dev.fresh0 = none → c.opcode = 0 → c.f = true →
    ((s.dev.inFlight c.ch).map (·.tag)).Nodup → (s.dev.inFlight c.ch).length ≤ 32 →
    e ∈ s.dev.inFlight c.ch → e.stage = .ended st → c.seq < e.seq →
    (∀ x ∈ s.dev.inFlight c.ch, x.stage ≠ .ended 0) →
    (∀ b ∈ s.dev.inFlight c.ch, b.isBarrier = true → b.stage ≠ .finished → b.seq < e.seq → b.tag = c.tag) →
    Runs (.nop c.ch c.tag) s (fun t => (t.dev.slot e.ch e.tag).map (·.stage) = some .finished ∧
      (∃ x, (t.dev.chan c.ch).holds x ∧ x.seq = e.seq ∧ x.status = BitVec.ofNat 8 st) ∧
      (t.dev.chan c.ch).fenceFault = true)

/-- POINT_WRITE and ALARM_ACK (R65, R72, R85, R150): each named point takes its canonical value, with the quality the
command gives or, from partition 0 over an owner or a producer, UNCERTAIN with SUBSTITUTED; each named alarm level is
acknowledged. The other points and entries stay.
What rests here on the model's own reading or choice stands in log entry 93. -/
def Obligations.PointAndAlarmCommands : Prop :=
  ∀ (s : State) (c : Cmd), s.up → c.runnable s →
    (c.opcode = 0x02 → Runs (.pointWrite c.ch c.tag) s (pointsWritten c s)) ∧
    (c.opcode = 0x04 → Runs (.alarmAck c.ch c.tag) s (alarmsAcked c s))

/-- STRAND_LINE OFF, ON and RESET_LATCH (R155, R241, R244, R245): which strands change state, that no other does, and that
OFF cuts a copy in transmission.
What rests here on the model's own reading or choice stands in log entries 45 and 99. -/
def Obligations.StrandLineCommands : Prop :=
  ∀ (s : State) (c : Cmd), s.up → c.runnable s → c.opcode = 0x11 →
    (fld (c.word 0) 0 2 = 0#2 → Runs (.strandLineOff c.ch c.tag) s (linesSwitched c s)) ∧
    (fld (c.word 0) 0 2 = 1#2 → Runs (.strandLineOn c.ch c.tag) s (linesSwitched c s)) ∧
    (fld (c.word 0) 0 2 = 2#2 → Runs (.strandLineResetLatch c.ch c.tag) s (linesSwitched c s))

/-- HART_SEND, TIME_SET step and TIME_SET slew (R156, R157, R492): the request waits in its mailbox; the calendar time
waits for the next RTC count.
What rests here on the model's own reading or choice stands in log entries 45, 78 and 117. -/
def Obligations.MailboxAndTimeCommands : Prop :=
  ∀ (s : State) (c : Cmd), s.up → c.runnable s →
    (c.opcode = 0x12 → Runs (.hartSend c.ch c.tag) s (requestPosted c s)) ∧
    (c.opcode = 0x13 → c.timeMode = 0 → Runs (.timeSetStep c.ch c.tag) s (timeAccepted c s)) ∧
    (c.opcode = 0x13 → c.timeMode = 1 → Runs (.timeSetSlew c.ch c.tag) s (timeAccepted c s))

/-- PLY_CONTROL PAIR, UNPAIR, YIELD and RETRY (R158, R520, R534, R539).
What rests here on the model's own reading or choice stands in log entries 45 and 65. -/
def Obligations.PlyControlCommands : Prop :=
  ∀ (s : State) (c : Cmd), s.up → c.runnable s → c.opcode = 0x20 →
    (c.plyAction = 1 → Runs (.pair c.ch c.tag) s (pairControlled c s)) ∧
    (c.plyAction = 2 → Runs (.unpair c.ch c.tag) s (pairControlled c s)) ∧
    (c.plyAction = 3 → Runs (.yieldRole c.ch c.tag) s (pairControlled c s)) ∧
    (c.plyAction = 4 → Runs (.retryCutover c.ch c.tag) s (pairControlled c s))

/-- UPDATE_BEGIN, UPDATE_DATA and UPDATE_END (R159, R160, R591): the staging slot is to be erased; container bytes stand
in it; the container is to be verified. -/
def Obligations.UpdateCommands : Prop :=
  ∀ (s : State) (c : Cmd), s.up → c.runnable s →
    (c.opcode = 0x30 → Runs (.updateBegin c.ch c.tag) s (updateAdvanced c s)) ∧
    (c.opcode = 0x31 → Runs (.updateData c.ch c.tag) s (updateAdvanced c s)) ∧
    (c.opcode = 0x32 → Runs (.updateEnd c.ch c.tag) s (updateAdvanced c s))

/-- LIFECYCLE_SET and DEVICE_RESTART (R161, R162, R565, R566): LC_NONCE advances whatever the outcome; a transition that a
permitted key signed, and a restart, is due once the COMPLETION record is written, or at once with N; a transition that no
permitted key signed, or that the life cycle does not allow, ends with its status and does nothing else.
What rests here on the model's own reading or choice stands in log entries 42 and 47. -/
def Obligations.RestartCommands : Prop :=
  ∀ (s : State) (c : Cmd), s.up → c.runnable s →
    let next : Fuses := { s.dev.fuses with nonce := s.dev.fuses.nonce + 1 }
    (c.opcode = 0x38 → lifecycleStatus c.target c.auth s.dev.fresh0 = stOk →
      Runs (.lifecycleSet c.ch c.tag) s (restartTaken c next { next with partly := some c.target } .lifecycle s)) ∧
    (c.opcode = 0x38 → lifecycleStatus c.target c.auth s.dev.fresh0 ≠ stOk → Runs (.lifecycleSet c.ch c.tag) s (fun t =>
      c.ends (lifecycleStatus c.target c.auth s.dev.fresh0) s t ∧
        s.frameCh t c.ch { s.dev with cp := t.dev.cp, fuses := next })) ∧
    (c.opcode = 0x3F → Runs (.deviceRestart c.ch c.tag) s
      (restartTaken c s.dev.fuses s.dev.fuses (.device (fld (c.word 0) 0 2).toNat) s))

/-- Phase F with nothing else in its queue, from its beginning to the end of its window (R30). -/
def Sys2Proof.Machine.State.phaseF (s : State) : State :=
  s.withSram (fun ram d => endPhaseF ram (beginPhaseF false none d))

/-- What waits for phase F has passed checks 9 to 17 (R111, R122, R143, R144, R550). -/
def Sys2Proof.Machine.Cmd.admissible (c : Cmd) (s : State) : Prop :=
  (c.isConfig = true ∨ c.t = true) ∧ checkAll c true s.dev.fresh0 = none ∧
    (c.isConfig = true → admitConfig c [] s.dev.fresh0 = (none, none)) ∧ c.phaseFCost ≤ ceilF ∧
    (c.opcode = 0x38 → lifecycleStatus c.target c.auth s.dev.fresh0 = stOk)

/-- A command is queued for phase F, or for the next one while a phase F runs; until then only its slot and that queue
change, and LC_NONCE of a LIFECYCLE_SET (R30, R122, R143, R566). -/
def Sys2Proof.Machine.Cmd.queued (c : Cmd) (s t : State) : Prop :=
  (t.dev.slot c.ch c.tag) = some { c with stage := .admitted } ∧
    (s.dev.cp.running = none → s.dev.cp.late = [] →
      t.dev.cp.phaseF = s.dev.cp.phaseF ++ [(c.ch, c.tag)] ∧ t.dev.cp.late = []) ∧
    (s.dev.cp.running ≠ none ∨ s.dev.cp.late ≠ [] →
      t.dev.cp.phaseF = s.dev.cp.phaseF ∧ t.dev.cp.late = s.dev.cp.late ++ [(c.ch, c.tag)]) ∧
    s.silent t { s.dev with cp := t.dev.cp, fuses := if c.opcode = 0x38 then
      { s.dev.fuses with nonce := s.dev.fuses.nonce + 1 } else s.dev.fuses }

/-- A configuration command is applied as one update, from `s` to `t` (R73, R93, R145, R318): its points, entries,
registers or tasks as `configEffect` leaves them, with read rights judged again, and its completion. -/
def Sys2Proof.Machine.configApplied (c : Cmd) (s t : State) : Prop :=
  let d := s.dev
  let e := rightsChanged (configEffect c { d with cp := { d.cp with phaseF := [], running := none } })
  t = { s with
    sram := Memory.writeAll s.sram e.wr
    dev := { e with
      cp := t.dev.cp, tr := { e.tr with chans := t.dev.tr.chans }, eg := t.dev.eg, wire := t.dev.wire, wr := [] } } ∧
    e.departs t.dev ∧ (∀ j, j ≠ c.ch → t.dev.chan j = e.chan j) ∧ (e.chan c.ch).butCompletions (t.dev.chan c.ch) ∧
    t.dev.cp.phaseF = [] ∧ (t.dev.slot c.ch c.tag).map (·.stage) = (if c.n then none else some .finished) ∧
    (c.opcode = 0x03 →
      (∀ p, p < c.index ∨ c.index + c.count ≤ p → t.dev.point p = d.point p) ∧
      ∀ i, i < c.count →
        let y := (c.configElem i).1.fields (d.point (c.index + i))
        let q := t.dev.point (c.index + i)
        q.ptype = y.ptype ∧ q.shift = y.shift ∧ q.owner = y.owner ∧ q.share = y.share ∧ q.alarmRef = y.alarmRef ∧
          q.mirrored = y.mirrored ∧ q.override = y.override) ∧
    (c.opcode = 0x10 → ∀ k, k < 8 →
      let bank := (fld (c.word 0) 8 1).toNat
      (bit (c.word 0) k = false → t.dev.task k = d.task k) ∧
      (bit (c.word 0) k = true → (d.task k).st = .running → bank ≠ (d.task k).bank →
        (t.dev.task k).pend = true ∧ (t.dev.task k).bank = (d.task k).bank) ∧
      (bit (c.word 0) k = true → (d.task k).st ≠ .running → (t.dev.task k).actBank = (bank == 1)))

/-- A WRITE_ENTRY of one entry reads back (R16, R148): its RW fields hold what was written; acknowledgements and flags that
were written 1 are cleared; a selected accumulator holds its preset; MAN_OUT, where a change of MODE from MANUAL to AUTO
leaves it as it was, takes OUT_LAST (R348). -/
def Sys2Proof.Machine.entryReadsBack (c : Cmd) (s t : State) : Prop :=
  let i := c.index
  let x := c.entry 0
  let rw := maskOf 2048 (entryRw c.space i)
  BitVec.ofNat 2048 (entryImage (Memory.read t.sram) c.space i t.dev) &&& rw = x &&& rw ∧
    (c.space = 0x02 → (t.dev.alarm i).unacked = (s.dev.alarm i).unacked &&& ~~~(fld x 376 4) ∧
      (t.dev.alarm i).qUnacked = ((s.dev.alarm i).qUnacked && !bit x 374)) ∧
    (c.space = 0x30 →
      let o := s.dev.loop i
      let follows := o.en = true ∧ bit x 220 = true ∧ o.mode = 1 ∧ fld x 225 2 = 0#2 ∧ fld x 672 32 = fld o.cfg 672 32
      fld (t.dev.loop i).image 672 32 = if follows then o.outLast else fld x 672 32) ∧
    (c.space = 0x41 →
      let a := s.dev.acc i
      let b := t.dev.acc i
      (∀ j, j < 7 → tget 0 b.acc j = (if bit x (953 + j) then fld x (96 * j) 96 else tget 0 a.acc j) ∧
        tget 0 b.residue j = (if bit x (953 + j) then 0 else tget 0 a.residue j)) ∧
      b.suspect = (a.suspect && !bit x 933) ∧ b.memRestored = (a.memRestored && !bit x 932) ∧
      b.preset = ((a.preset && !bit x 931) || fld x 953 7 != 0#7) ∧
      b.lossHoldup = (a.lossHoldup && !bit x 929) ∧ b.lossUnsaved = (a.lossUnsaved && !bit x 928))

/-- A WRITE_REG of one register reads back (R16, R152): RW bits hold what was written, W1C bits written 1 are clear and the
others as before; a register without either takes no effect, but REC_MARK, which reads 0 (R480). -/
def Sys2Proof.Machine.registerReadsBack (c : Cmd) (s t : State) : Prop :=
  let o := c.index
  let v := c.word 0
  let after := regRead t.dev.projected o t.dev
  let w1c := regW1cBits o
  after &&& regRwBits o = v &&& regRwBits o ∧
    (s.dev.rightsSettled → after &&& w1c = regRead s.dev.projected o s.dev &&& w1c &&& ~~~v) ∧
    ((o < 0x1000 ∨ 0x3000 ≤ o) → o ≠ 0x3318 → regRwBits o = 0 → w1c = 0 → configEffect c s.dev = s.dev) ∧
    (o = 0x3318 → after = 0)

/-- POINT_CONFIG, WRITE_ENTRY, WRITE_REG, BANK_EXCHANGE and every T-flagged command that passes checks 9 to 17 is queued
for phase F, in the order of decoding, or for the next one while a phase F runs (R30, R122, R143). The phase F that begins
next, with nothing queued before it, applies it at the end of its window: a configuration command as one update, with what
it wrote read back by the access kinds of its fields (R16, R73, R145, R318); any other command with the effect that it has
without T (R122). A WRITE_REG that opens a channel meets the conditions for OPEN again then (R171).
What rests here on the model's own reading or choice stands in log entries 36, 38, 40, 42, 47, 48, 83 and 88. -/
def Obligations.ConfigurationCommands : Prop :=
  ∀ (s : State) (c : Cmd) (i : Instr), s.up → c.waitsAlone s → c.executedBy i → c.admissible s →
    Runs i s (fun t => c.queued s t ∧
      (c.stale s.dev = false → s.dev.cp.running = none → s.dev.cp.late = [] → s.dev.cp.phaseF = [] →
        s.dev.cp.recheck = false →
        let begun : Dev := { t.dev with cp := { t.dev.cp with phaseF := [], running := none } }
        (c.isConfig = true → (c.opcode = 0x0D → openStillOk c begun = true) →
          configApplied c t t.phaseF ∧
            (c.opcode = 0x09 → c.count = 1 → Memory.wf t.sram = true → entryReadsBack c t t.phaseF) ∧
            (c.opcode = 0x0D → c.count = 1 → registerReadsBack c t t.phaseF)) ∧
        (c.isConfig = false → ({ c with stage := .admitted }).takesEffect begun t t.phaseF)))

/-- A command that fails a check of its execution ends with that status and FAIL_INDEX, sets FENCE_FAULT and changes nothing
else (R111, R113, R119); one that passes and waits for phase F is queued; the members of a group of which one fails take no
effect at all, and the group ends (R124, R125). A group that passes takes effect as a whole, the members that write before
those that read, and each of its members that is neither a read nor a TIME_SET nor a restart ends with OK.
What rests here on the model's own reading or choice stands in log entries 34, 83 and 98. -/
def Obligations.FailuresHaveNoEffect : Prop :=
  (∀ (s : State) (c : Cmd) (i : Instr) (st at_ : Nat), s.up → c.waitsAlone s →
     checkAll c (c.isConfig || c.t) s.dev.fresh0 = some (st, at_) → st ≠ 0 →
     c.executedBy i →
     Runs i s (fun t => c.ends st s t ∧
       (∃ x, (t.dev.chan c.ch).holds x ∧ x.seq = c.seq ∧ x.failIndex = BitVec.ofNat 32 at_) ∧
       s.frameCh t c.ch { s.dev with cp := t.dev.cp })) ∧
  (∀ (s : State) (c : Cmd) (i : Instr), s.up → c.waitsAlone s → c.executedBy i → c.admissible s →
     Runs i s (fun t => c.queued s t)) ∧
  (∀ (s : State) (c : Cmd) (wants : Cmd → Bool), s.dev.slot c.ch c.tag = some c → c.stage = .waiting →
     s.dev.blocked c = false → wants c = true → (∀ m ∈ s.dev.members c, m.pastLimit s.dev = false) →
     s.dev.endedHeld c.ch ((s.dev.members c).map (·.tag)) →
     ((checkMembers (inPhaseF (s.dev.members c)) (s.dev.members c) s.dev).1.any (fun r => r.2.isSome)) = true →
     let d := execCommand wants c.ch c.tag (Memory.read s.sram) s.dev
     d = { s.dev with cp := d.cp, tr := d.tr, rcd := d.rcd, flt := d.flt, fuses := { s.dev.fuses with nonce := d.fuses.nonce } } ∧
       d.cp.phaseF = s.dev.cp.phaseF.filter (fun x => !(s.dev.members c).any (fun m => m.ch == x.1 && m.tag == x.2)) ∧
       ∀ m ∈ s.dev.members c, ∀ x, d.slot m.ch m.tag = some x → x.stage = .finished) ∧
  ∀ (s : State) (c : Cmd) (wants : Cmd → Bool), s.dev.slot c.ch c.tag = some c → c.stage = .waiting →
     s.dev.blocked c = false → wants c = true → (∀ m ∈ s.dev.members c, m.pastLimit s.dev = false) →
     s.dev.endedHeld c.ch ((s.dev.members c).map (·.tag)) →
     (∀ m ∈ s.dev.members c, m.isConfig = false ∧ m.t = false ∧ m.opcode ≠ 0x38 ∧ m.opcode ≠ 0x3F) →
     ((s.dev.members c).map (·.tag)).Nodup → (∀ m ∈ s.dev.members c, s.dev.slot m.ch m.tag = some m) →
     openChecks (s.dev.members c) s.dev = (s.dev.members c).map (fun m => (m, none)) →
     checkMembers false (s.dev.members c) s.dev = ((s.dev.members c).map (fun m => (m, none)), s.dev) →
     let ms := s.dev.members c
     let d := execCommand wants c.ch c.tag (Memory.read s.sram) s.dev
     let reads := ms.filter Cmd.isRead
     let writes := ms.filter (fun m => !m.isRead)
     let e := reads.foldl (fun d m => memberEffect (Memory.read s.sram) m d)
       (writes.foldl (fun d m => memberEffect (Memory.read s.sram) m d) s.dev)
     d = { e with cp := d.cp, tr := d.tr } ∧
       ∀ m ∈ ms, m.isRead = false → m.opcode ≠ 0x13 →
         (m.n = true → d.slot m.ch m.tag = none) ∧ (m.n = false → (d.slot m.ch m.tag).map (·.stage) = some .finished)

/-! ### Acceptance of commands (03) -/

/-- The status with which a genuine command with message `msg` is turned away on channel `ch`: at check 4 its header, at
check 5 its length, at check 6 its tag, at check 7 a tag in flight, at check 8 no free slot (R111). -/
def Sys2Proof.Machine.turnsAway (d : Dev) (ch : Nat) (c : Cmd) (msg : List Byte) : Option Nat :=
  if !headerOk c.hdr then some stState
  else if (fld c.hdr 32 16).toNat % 4 ≠ 0 ∨ (fld c.hdr 32 16).toNat + 48 ≠ msg.length then some stBadLength
  else if 127 < c.tag then some stBadIndex
  else if (d.slot ch c.tag).isSome then some stState
  else if !d.slotFree ch then some stBudget
  else none

/-- A port drops a received frame and counts it (R203). -/
def Sys2Proof.Machine.frameDropped (s : State) (p : Nat) (t : State) : Prop :=
  s.silent t { s.dev with ports := t.dev.ports } ∧
    t.dev.port p = { s.dev.port p with rxDropCnt := satAdd (s.dev.port p).rxDropCnt 1 } ∧
    ∀ j, j ≠ p → t.dev.port j = s.dev.port j

/-- A command that has not been executed has ended with a status: at once, or it waits for the full barriers before it, with
the status settled (R120). -/
def Sys2Proof.Machine.endedEarly (ch tag st : Nat) (t : State) (behind : Bool) (seq : W64) : Prop :=
  (∃ x, t.dev.slot ch tag = some x ∧ (x.stage = .finished ∨ x.stage = .ended st)) ∧
    (behind = false → (t.dev.slot ch tag).map (·.stage) = some .finished ∧
      ∃ y, (t.dev.chan ch).holds y ∧ y.seq = seq ∧ y.status = BitVec.ofNat 8 st)

/-- The members of an open group that have come so far end with a status (R125, R126). -/
def Sys2Proof.Machine.groupEnds (s : State) (ch : Nat) (g : Group) (st : Nat) (t : State) : Prop :=
  ∀ m ∈ s.dev.inFlight ch, m.a = true → m.groupId = g.id → g.firstSeq ≤ m.seq → m.stage = .waiting →
    endedEarly ch m.tag st t (s.dev.behindBarrier m) m.seq

/-- A command is the first member of a group (R123). -/
def Sys2Proof.Machine.Cmd.firstMember (c : Cmd) : Bool :=
  c.a && decide (c.groupPos = 0 ∧ 2 ≤ c.groupSize ∧ c.groupSize ≤ 16)

/-- The group that a first member opens; `failed`: it failed a check of its receipt (R123, R125). -/
def Sys2Proof.Machine.Cmd.opens (c : Cmd) (failed : Bool) (d : Dev) : Group :=
  ⟨c.groupId, c.groupSize, c.seq, c.t, c.notAfter, 1, failed, d.tb.ran⟩

/-- COMMAND_ACCEPT, a packet of a SEND on a linked port (R100, R104, R107, R111, R112, R119, R123, R125, R126, R165, R168,
R188, R203, R204). A frame that the port drops, or that is for no open channel, reaches nothing. A packet behind the expected
PSN is acknowledged again, one ahead is answered with a NAK, a malformed one ends the channel. First and Middle packets are
kept; with the last one the message is acknowledged and judged: too short or too long, not genuine, turned away, or accepted
into a slot, as the first or the next member of a group where it is one. A command that is not the next member of the open
group, or comes 16 frames late, breaks it; a next member that is turned away fails it.
What rests here on the model's own reading or choice stands in log entries 41, 50, 74 and 87. -/
def Obligations.CommandAcceptance : Prop :=
  ∀ (s : State) (ch : Nat) (head : FrameHead) (p : SendPkt) (imm : Option Reg), s.up → ch ≤ 64 →
    s.dev.linkUpFor (s.dev.chan ch) = true →
    let c := s.dev.chan ch
    let x := s.dev.port c.portNo
    let run (q : State → Prop) : Prop := Runs (.commandAccept ch head p imm) s q
    (x.rxOk head = false → run (frameDropped s c.portNo)) ∧
    (x.rxOk head = true → (x.takes c.portNo head = false ∨ s.dev.forChannel ch p = false) →
      run (fun t => s.silent t s.dev)) ∧
    (x.rxOk head = true → x.takes c.portNo head = true → s.dev.forChannel ch p = true →
      (p.psn ≠ c.expPsn → (c.expPsn - p.psn).toNat < 2 ^ 23 → run (fun t =>
        t.dev.out = [.ack ch (c.expPsn - 1)] ∧ t.dev.chan ch = c ∧ s.frame t s.dev)) ∧
      (p.psn ≠ c.expPsn → 2 ^ 23 ≤ (c.expPsn - p.psn).toNat → run (fun t =>
        t.dev.out = [.nak ch c.expPsn 0] ∧ t.dev.chan ch = c ∧ s.frame t s.dev)) ∧
      (p.psn = c.expPsn → packetOk c p imm = false → run (fun t =>
        (t.dev.chan ch).st = .error ∧ (t.dev.chan ch).errCode = 5 ∧ t.dev.inFlight ch = [] ∧
          t.dev.out = [.nak ch c.expPsn 1] ∧ s.frameCh t ch { s.dev with cp := t.dev.cp })) ∧
      (p.psn = c.expPsn → packetOk c p imm = true →
        let msg := c.rx.getD [] ++ p.data
        let hdr : BitVec 256 := leBits 256 (slice msg 0 32)
        let cmd : Cmd := ⟨ch, hdr, (msg.drop 32).take (msg.length - 48), .waiting, s.dev.tb.frame, none, []⟩
        let got := { c with expPsn := p.psn + 1, rx := none }
        let mac := gmac s.dev.sec.key (leBytes 8 cmd.seq.toNat ++ [BitVec.ofNat 8 ch, 0, 0, 0]) (msg.take (msg.length - 16))
        let genuine := mac = msg.drop (msg.length - 16) ∧ c.lastSeq < cmd.seq
        let goodImm (v : Reg) : Bool := decide ((v - c.consSeq).toNat ≤ (c.pubSeq - c.consSeq).toNat)
        let rejected : Bool := match imm with
          | some v => !goodImm v
          | none => false
        let cons : Reg := match imm with
          | some v => if goodImm v then v else c.consSeq
          | none => c.consSeq
        let tr := { s.dev.tr with consRejCnt := if rejected then satAdd s.dev.tr.consRejCnt 1 else s.dev.tr.consRejCnt }
        let tells (t : State) (st : Nat) (seq : W64) : Prop := (t.dev.chan ch).fenceFault = true ∧
          (c.group = none → (t.dev.chan ch).faultAfter = (s.dev.barrierSeq ch).or c.faultAfter) ∧
          ∃ y, (t.dev.chan ch).holds y ∧
          y.status = BitVec.ofNat 8 st ∧ y.seq = seq ∧ y.holdsSlot = false ∧ (3 ≤ msg.length → y.tag = fld hdr 16 8)
        let known : Bool := fld hdr 0 8 == 2#8
        let whole := (p.form = .last ∨ p.form = .only) ∧ s.dev.cp.closing = false ∧ s.dev.sec.ending = none
        let sized := 48 ≤ msg.length ∧ msg.length ≤ 4096
        (p.form = .first ∨ p.form = .middle → run (fun t =>
          t.dev.chan ch = { c with expPsn := p.psn + 1, rx := some msg } ∧ t.dev.out = [] ∧ s.frameCh t ch s.dev)) ∧
        (p.form = .last ∨ p.form = .only → (s.dev.cp.closing = true ∨ s.dev.sec.ending.isSome = true) → run (fun t =>
          t.dev.chan ch = got ∧ t.dev.out = [.ack ch p.psn] ∧ s.frameCh t ch s.dev)) ∧
        (whole → c.group = none →
          (¬ sized → run (fun t => tells t stBadLength 0 ∧ got.butRefusals (t.dev.chan ch) ∧ t.dev.out = [.ack ch p.psn] ∧
            s.frameCh t ch s.dev)) ∧
          (sized → ¬ genuine → run (fun t => tells t stAuth cmd.seq ∧ got.butRefusals (t.dev.chan ch) ∧
            t.dev.out = [.ack ch p.psn] ∧
            s.frameCh t ch { s.dev with cp := { s.dev.cp with authCnt := satAdd s.dev.cp.authCnt 1 } })) ∧
          (sized → genuine →
            let now := { got with lastSeq := cmd.seq, consSeq := cons }
            (∀ st, turnsAway s.dev ch cmd msg = some st → run (fun t => tells t st cmd.seq ∧
              (if known && cmd.firstMember then { now with group := some (cmd.opens true s.dev), broken := none }
                else now).butRefusals (t.dev.chan ch) ∧
              t.dev.out = [.ack ch p.psn] ∧
              s.frameCh t ch { s.dev with tr := tr, sec := { s.dev.sec with idle := 0 }, cp := { s.dev.cp with
                budgetCnt := if st = stBudget then satAdd s.dev.cp.budgetCnt 1 else s.dev.cp.budgetCnt } })) ∧
            (turnsAway s.dev ch cmd msg = none → cmd.a = false ∨ cmd.firstMember = true → run (fun t =>
              (∃ y, t.dev.slot ch cmd.tag = some y ∧ y = { cmd with ready := y.ready }) ∧
                (∀ b g, b ≠ ch → t.dev.slot b g = s.dev.slot b g) ∧
                t.dev.cp = { s.dev.cp with slots := t.dev.cp.slots, poolPeak := t.dev.cp.poolPeak } ∧
                ({ now with
                  group := if cmd.a then some (cmd.opens false s.dev) else none
                  broken := if cmd.a then none else c.broken }).butDrops (t.dev.chan ch) ∧
                t.dev.out = [.ack ch p.psn] ∧
                s.frameCh t ch { s.dev with tr := tr, cp := t.dev.cp, sec := { s.dev.sec with idle := 0 } })) ∧
            (turnsAway s.dev ch cmd msg = none → cmd.a = true → cmd.firstMember = false → s.dev.endedHeld ch [cmd.tag] →
              run (fun t => endedEarly ch cmd.tag stState t (s.dev.behindBarrier cmd) cmd.seq ∧
                ({ now with broken := some (cmd.groupId, cmd.groupSize) }).butCompletions (t.dev.chan ch) ∧
                t.dev.out = [.ack ch p.psn] ∧
                s.frameCh t ch { s.dev with tr := tr, cp := t.dev.cp, sec := { s.dev.sec with idle := 0 } })))) ∧
        (∀ g, whole → c.group = some g → ((s.dev.inFlight ch).map (·.tag)).Nodup →
          let next := known = true ∧ g.next cmd = true ∧ framesSince g.since s.dev < 16
          let goes (t : State) (grp : Option Group) : Prop := (t.dev.chan ch).group = grp ∧
            t.dev.out = [.ack ch p.psn] ∧ (t.dev.chan ch).lastSeq = cmd.seq ∧ (t.dev.chan ch).consSeq = cons ∧
            got.butRefusals { t.dev.chan ch with
              lastSeq := c.lastSeq, consSeq := c.consSeq, group := c.group, broken := c.broken } ∧
            s.frameCh t ch { s.dev with tr := tr, cp := t.dev.cp, sec := { s.dev.sec with idle := 0 } }
          (¬ sized ∨ ¬ genuine → run (fun t => groupEnds s ch g stState t ∧
            tells t (if 48 ≤ msg.length ∧ msg.length ≤ 4096 then stAuth else stBadLength)
              (if 48 ≤ msg.length ∧ msg.length ≤ 4096 then cmd.seq else 0) ∧
            ({ got with group := none, broken := some (g.id, g.size) }).butRefusals (t.dev.chan ch) ∧
            t.dev.out = [.ack ch p.psn] ∧ s.frameCh t ch { s.dev with cp := t.dev.cp })) ∧
          (sized → genuine →
            (turnsAway s.dev ch cmd msg = none → next → g.aborted = false → run (fun t =>
              (∃ y, t.dev.slot ch cmd.tag = some y ∧ y = { cmd with ready := y.ready }) ∧
                goes t (if g.got + 1 = g.size then none else some { g with got := g.got + 1 }))) ∧
            (turnsAway s.dev ch cmd msg = none → next → g.aborted = true → run (fun t =>
              endedEarly ch cmd.tag stFenceAbort t (s.dev.behindBarrier cmd) cmd.seq ∧
                goes t (if g.got + 1 = g.size then none else some { g with got := g.got + 1 }))) ∧
            (turnsAway s.dev ch cmd msg = none → ¬ next → cmd.a = false ∨ cmd.firstMember = true → run (fun t =>
              groupEnds s ch g stState t ∧
                (∃ y, t.dev.slot ch cmd.tag = some y ∧ y = { cmd with ready := y.ready }) ∧
                goes t (if cmd.a then some (cmd.opens false s.dev) else none))) ∧
            (turnsAway s.dev ch cmd msg = none → ¬ next → cmd.a = true → cmd.firstMember = false → run (fun t =>
              groupEnds s ch g stState t ∧
                (∃ y, t.dev.slot ch cmd.tag = some y ∧ (y.stage = .finished ∨ y.stage = .ended stState)) ∧
                goes t none)) ∧
            (∀ st, turnsAway s.dev ch cmd msg = some st → next → run (fun t =>
              groupEnds s ch g stFenceAbort t ∧ tells t st cmd.seq ∧
                goes t (if g.got + 1 = g.size then none else some { g with got := g.got + 1, aborted := true }))) ∧
            (∀ st, turnsAway s.dev ch cmd msg = some st → ¬ next → run (fun t =>
              groupEnds s ch g stState t ∧ tells t st cmd.seq ∧
                goes t (if known && cmd.firstMember then some (cmd.opens true s.dev) else none)))))))

/-- The backup domain after a command has ended with INTERNAL: its TIME_SET, where one waits, is marked (R130). -/
def Sys2Proof.Machine.Cmd.endsTimeSet (c : Cmd) (b : Backup) : Backup :=
  { b with timeSet := b.timeSet.map (fun x =>
      if x.ch = c.ch ∧ x.tag = c.tag ∧ x.seq = c.seq then { x with ended := true } else x) }

/-- GROUP_ARRIVAL_TIMEOUT and COMMAND_LIMIT (R126, R129): 16 frames after the first member the group breaks and its
members end with STATE; 16 frames after its last wait a command ends with INTERNAL, is counted and takes its COMPLETION
record. Where its own single-object effect could still come, whether it does is open (R130), and what it leaves alone is
stated. Before the 16 frames nothing happens.
What rests here on the model's own reading or choice stands in log entries 43, 78 and 80. -/
def Obligations.CommandTimeouts : Prop :=
  (∀ (s : State) (ch : Nat) (g : Group), s.up → ch ≤ 64 → (s.dev.chan ch).group = some g →
    (16 ≤ framesSince g.since s.dev → ((s.dev.inFlight ch).map (·.tag)).Nodup → Runs (.groupArrivalTimeout ch) s (fun t =>
      ({ s.dev.chan ch with group := none, broken := some (g.id, g.size) }).butCompletions (t.dev.chan ch) ∧
        groupEnds s ch g stState t ∧ t.dev.out = [] ∧ s.frameCh t ch { s.dev with cp := t.dev.cp })) ∧
    (framesSince g.since s.dev < 16 → Runs (.groupArrivalTimeout ch) s (fun t => s.silent t s.dev))) ∧
  (∀ (s : State) (ch : Nat), s.up → ch ≤ 64 → (s.dev.chan ch).group = none →
    Runs (.groupArrivalTimeout ch) s (fun t => s.silent t s.dev)) ∧
  (∀ (s : State) (c : Cmd) (r : Nat), s.up → c.ch ≤ 64 → c.tag < 128 → s.dev.slot c.ch c.tag = some c → c.ready = some r →
    (c.stage = .waiting ∨ c.stage = .replying) →
    (16 ≤ framesSince r s.dev → s.dev.endedHeld c.ch [c.tag] →
      (c.stage = .replying ∨ c.a = true ∨ c.isRead = true ∨ 1 < c.count) → Runs (.commandLimit c.ch c.tag) s (fun t =>
      c.ends stInternal s t ∧ t.dev.cp.limitCnt = satAdd s.dev.cp.limitCnt 1 ∧ t.dev.out = [] ∧
        s.frameCh t c.ch { s.dev with cp := t.dev.cp, bk := c.endsTimeSet s.dev.bk })) ∧
      (16 ≤ framesSince r s.dev → Runs (.commandLimit c.ch c.tag) s (fun t =>
        (t.dev.slot c.ch c.tag).map (·.stage) = some .finished ∧
        t.pending = s.pending ∧ t.isl = s.isl ∧ t.sram = s.sram)) ∧
      (framesSince r s.dev < 16 → Runs (.commandLimit c.ch c.tag) s (fun t => s.silent t s.dev))) ∧
  ∀ (s : State) (ch tag : Nat), s.up → ch ≤ 64 → tag < 128 → s.dev.slot ch tag = none →
    Runs (.commandLimit ch tag) s (fun t => s.silent t s.dev)

/-! ### Channels and records (05) -/

/-- A channel with nothing queued, nothing unacknowledged and no group, in a state. -/
def Sys2Proof.Machine.Channel.stopped (c : Channel) (st : ChState) (err : BitVec 8) (e : Channel) : Prop :=
  ({ c with
    st := st, errCode := err, txq := [], backlog := [], drops := Drops.none, unacked := [], ackedPkts := 0
    rnrWait := false, group := none, broken := none }).butDrops e

/-- An OPEN channel stops: its queues, its packets that wait in the port, and its commands go (R131, R173, R174). -/
def Sys2Proof.Machine.channelStops (s : State) (ch : Nat) (st : ChState) (err : BitVec 8) (out : List OutMsg) (t : State) :
    Prop :=
  (s.dev.chan ch).stopped st err (t.dev.chan ch) ∧ t.dev.inFlight ch = [] ∧ (∀ x ∈ t.dev.cp.slots, x ∈ s.dev.cp.slots) ∧
    (∀ x ∈ s.dev.cp.slots, x.ch ≠ ch → x ∈ t.dev.cp.slots) ∧ t.dev.out = out ∧
    s.frameCh t ch { s.dev with cp := t.dev.cp, eg := (dropEgress ch s.dev).eg }

/-- An OPEN channel enters ERROR with a code. -/
def Sys2Proof.Machine.channelFailed (s : State) (ch code : Nat) (t : State) : Prop :=
  channelStops s ch .error (BitVec.ofNat 8 code) [] t

/-- CHANNEL_OPEN and CHANNEL_CLOSE (R131, R171, R173): an opened channel starts its sequence numbers as its block says,
counts OPEN_GEN and has nothing of an earlier opening; a closed one has nothing queued and no command in flight.
What rests here on the model's own reading or choice stands in log entries 25 and 86. -/
def Obligations.ChannelOpensAndCloses : Prop :=
  ∀ (s : State) (ch : Nat), s.up → ch < 64 →
    let c := s.dev.chan ch
    (c.st = .closed → openOk c s.dev = true → Runs (.channelOpen ch) s (fun t =>
      ({ Channel.reset with
        cfg := c.cfg, st := .opened, nextSeq := c.startSeq, pubSeq := c.startSeq, consSeq := c.startSeq
        ackedSeq := c.startSeq, openGen := c.openGen + 1, errCode := c.errCode, expPsn := c.modPsn
        nextPsn := c.hostPsn }).butDrops (t.dev.chan ch) ∧ t.dev.out = [] ∧ s.frameCh t ch s.dev)) ∧
    ((c.st ≠ .closed ∨ openOk c s.dev = false) → Runs (.channelOpen ch) s (fun t => s.silent t s.dev)) ∧
    (c.st = .opened → Runs (.channelClose ch) s (channelStops s ch .closed c.errCode [])) ∧
    (c.st = .error → Runs (.channelClose ch) s (fun t =>
      ({ c with st := .closed }).butDrops (t.dev.chan ch) ∧ t.dev.out = [] ∧ s.frameCh t ch s.dev)) ∧
    (c.st = .closed → Runs (.channelClose ch) s (fun t => s.silent t s.dev))

/-- HOST_ACK (R17, R129, R140, R152, R187): the acknowledged requests leave, what they carried has arrived, and a reply's
command completes: with OK, a READ_REG clearing what it returned, or with INTERNAL where its completion limit has passed. A
reply of an earlier command with the same tag ends nothing. Here the host acknowledges the oldest request of a channel alone;
an acknowledgement whose frame the port drops reaches nothing (R203).
What rests here on the model's own reading or choice stands in log entries 43, 44, 46, 77 and 89. -/
def Obligations.HostAcknowledges : Prop :=
  ∀ (s : State) (ch : Nat) (r : Req) (rest : List Req), s.up → ch ≤ 64 → (s.dev.chan ch).st = .opened →
    (s.dev.chan ch).unacked = r :: rest → (r.lastPsn - r.psn).toNat < 2 ^ 23 →
    (∀ q ∈ rest, (r.lastPsn - r.psn).toNat < (q.lastPsn - r.psn).toNat) →
    (∀ q, rest.head? = some q → q.psn = r.lastPsn + 1) →
    let c := s.dev.chan ch
    let acked := { c with
      unacked := rest, ackedPkts := 0, retries := 0, rnrTries := 0
      ackedSeq := match r.kind with
        | .records up => up
        | _ => c.ackedSeq }
    let owner (tag : Nat) (seq : W64) (x : Cmd) : Prop :=
      s.dev.slot ch tag = some x ∧ x.stage = .replying ∧ x.seq = seq ∧ x.ch = ch ∧ x.tag = tag ∧ s.dev.endedHeld ch [tag]
    let fits := (s.dev.port c.portNo).rxOk (s.dev.ackHead ch) = true
    (¬ fits → Runs (.hostAck ch r.lastPsn) s (frameDropped s c.portNo)) ∧
    (fits → (∀ tag seq, r.kind = .reply tag seq → ∀ x, s.dev.slot ch tag = some x → x.stage = .replying → x.seq ≠ seq) → Runs (.hostAck ch r.lastPsn) s (fun t =>
      t.dev.chan ch = acked ∧ t.dev.out = [] ∧ s.frameCh t ch s.dev)) ∧
    (fits → ∀ tag seq x, r.kind = .reply tag seq → owner tag seq x → x.pastLimit s.dev = false →
      Runs (.hostAck ch r.lastPsn) s (fun t =>
        (x.n = true → t.dev.slot ch tag = none ∧ (t.dev.chan ch).txq = c.txq ∧ (t.dev.chan ch).backlog = c.backlog) ∧
          (x.n = false → (t.dev.slot ch tag).map (·.stage) = some .finished ∧
            ∃ y, (t.dev.chan ch).holds y ∧ y.status = 0 ∧ y.tag = fld x.hdr 16 8 ∧ y.seq = seq ∧ y.reply = r.data) ∧
          acked.butCompletions (t.dev.chan ch) ∧ t.dev.out = [] ∧
          s.frameCh t ch { readClears x s.dev with cp := t.dev.cp })) ∧
    (fits → ∀ tag seq x, r.kind = .reply tag seq → owner tag seq x → x.pastLimit s.dev = true →
      Runs (.hostAck ch r.lastPsn) s (fun t =>
        (t.dev.slot ch tag).map (·.stage) = some .finished ∧ t.dev.cp.limitCnt = satAdd s.dev.cp.limitCnt 1 ∧
          (∃ y, (t.dev.chan ch).holds y ∧ y.status = BitVec.ofNat 8 stInternal ∧ y.tag = fld x.hdr 16 8 ∧ y.seq = seq) ∧
          acked.butCompletions (t.dev.chan ch) ∧ t.dev.out = [] ∧
          s.frameCh t ch { s.dev with cp := t.dev.cp, bk := x.endsTimeSet s.dev.bk }))

/-- HOST_NAK, RETRANSMIT_TIMEOUT, RNR_RETRY and INVALID_REQUEST (R165, R166, R174, R196, R197): the packets that the host has
not acknowledged go out again while retries are left; then, and at a remote error or a malformed request, the channel enters
ERROR with its code. The NAK is that of the oldest request; no time runs while its packet waits in the port. A frame that the port drops, or does
not take, reaches nothing (R203, R204).
What rests here on the model's own reading or choice stands in log entries 50, 86 and 89. -/
def Obligations.TransportErrors : Prop :=
  ∀ (s : State) (ch : Nat) (r : Req) (rest : List Req) (head : FrameHead), s.up → ch ≤ 64 → (s.dev.chan ch).st = .opened →
    (s.dev.chan ch).unacked = r :: rest → s.dev.linkUpFor (s.dev.chan ch) = true →
    let c := s.dev.chan ch
    let again (t : State) (e : Channel) : Prop := t.dev.chan ch = e ∧
      t.dev.out = (if c.ackedPkts = 0 then .rdma ch r else .rdmaPart ch r c.ackedPkts) :: rest.map (fun q => .rdma ch q) ∧
      s.frameCh t ch s.dev
    let port := s.dev.port c.portNo
    let fits := port.rxOk (s.dev.ackHead ch) = true
    (¬ fits → ∀ k, Runs (.hostNak ch r.psn k) s (frameDropped s c.portNo)) ∧
    (fits → Runs (.hostNak ch r.psn .remoteAccess) s (channelFailed s ch 3) ∧
      Runs (.hostNak ch r.psn .remoteOp) s (channelFailed s ch 4) ∧
      Runs (.hostNak ch r.psn .sequence) s (fun t => again t c) ∧
      (c.rnrTries < c.rnrRetry → Runs (.hostNak ch r.psn .rnr) s (fun t =>
        t.dev.chan ch = { c with rnrTries := c.rnrTries + 1, rnrWait := true } ∧ t.dev.out = [] ∧ s.frameCh t ch s.dev)) ∧
      (c.rnrRetry ≤ c.rnrTries → Runs (.hostNak ch r.psn .rnr) s (channelFailed s ch 2))) ∧
    (c.rnrWait = true → Runs (.rnrRetry ch) s (fun t => again t { c with rnrWait := false })) ∧
    (c.rnrWait = false → Runs (.rnrRetry ch) s (fun t => s.silent t s.dev)) ∧
    (s.dev.unsent ch = false → c.retries < c.retryCnt →
      Runs (.retransmitTimeout ch) s (fun t => again t { c with retries := c.retries + 1 })) ∧
    (s.dev.unsent ch = false → c.retryCnt ≤ c.retries → Runs (.retransmitTimeout ch) s (channelFailed s ch 1)) ∧
    (s.dev.unsent ch = true → Runs (.retransmitTimeout ch) s (fun t => s.silent t s.dev)) ∧
    (port.rxOk head = true → port.takes c.portNo head = true →
      Runs (.invalidRequest ⟨ch, head⟩) s (channelStops s ch .error 5 [.nak ch c.expPsn 1])) ∧
    (port.rxOk head = true → port.takes c.portNo head = false → Runs (.invalidRequest ⟨ch, head⟩) s (fun t => s.silent t s.dev)) ∧
    (port.rxOk head = false → Runs (.invalidRequest ⟨ch, head⟩) s (frameDropped s c.portNo))

/-- A record takes the next RING_SEQ and goes to its slot of the ring (R175, R176, R177, R185): `c'` is the channel but for
that. -/
def Sys2Proof.Machine.recordWritten (s : State) (ch : Nat) (c' : Channel) (t : State) : Prop :=
  let c := s.dev.chan ch
  let e := t.dev.chan ch
  (∃ r, e.unacked = c.unacked ++ [r] ∧ t.dev.out = [.rdma ch r] ∧ r.kind = .records (c.nextSeq + 1) ∧ r.psn = c.nextPsn ∧
    r.data.length = 64 ∧ leNat (slice r.data 4 4) = c.nextSeq.toNat ∧ r.rkey = c.ringRkey ∧
    r.addr = c.ringBase + BitVec.ofNat 64 (64 * (c.nextSeq.toNat % c.size))) ∧
    e = { c' with
      nextSeq := c.nextSeq + 1, epoch := if c.nextSeq = 0xFFFFFFFF then c.epoch + 1 else c.epoch
      unacked := e.unacked, nextPsn := e.nextPsn }

/-- RECORD_TRANSMIT, COMPLETION and PRODUCER_PUBLISH (R107, R162, R174, R175, R176, R185, R187, R195, R198): at its channel's
turn a record that fits takes the next RING_SEQ and goes to its slot, an OVERFLOW record before all else; records that do not
fit are dropped, and an OVERFLOW record is due; a written completion frees its slot, and a restart that waited for it begins;
the producer block tells the host how far the ring is filled. With the link down nothing is sent.
What rests here on the model's own reading or choice stands in log entries 33, 42, 75 and 84. -/
def Obligations.RecordsToTheHost : Prop :=
  (∀ (s : State) (ch : Nat), s.up → ch ≤ 64 → (s.dev.chan ch).st = .opened →
    s.dev.linkUpFor (s.dev.chan ch) = true → s.dev.nextTurn = some ch →
    ¬ ((s.dev.chan ch).nextSeq = 0xFFFFFFFF ∧ (s.dev.chan ch).epoch = 65535) →
    let c := s.dev.chan ch
    let d := { s.dev with tr := { s.dev.tr with turn := (ch + 1) % 65 } }
    let overflow : Bool := c.overflowDue && decide (c.used + 32 < c.size)
    (∀ (x : AttnRec) (q : List TxEntry), c.txq = .record x :: q → overflow = false → c.used + 33 < c.size →
      Runs (.recordTransmit ch) s (fun t => recordWritten s ch (c.pop 1) t ∧ s.frameCh t ch d)) ∧
    (overflow = true → Runs (.recordTransmit ch) s (fun t =>
      recordWritten s ch { c with drops := Drops.none } t ∧ s.frameCh t ch d)) ∧
    (∀ (x : AttnRec) (q : List TxEntry), c.txq = .record x :: q → overflow = false → c.size ≤ c.used + 33 →
      s.dev.tr.evq.length ≤ 4000 → Runs (.recordTransmit ch) s (fun t =>
        let n := (headRecords c.txq).length
        (c.pop n).butDrops (t.dev.chan ch) ∧ (t.dev.chan ch).dropCnt = c.dropCnt + BitVec.ofNat 32 n ∧
          (t.dev.chan ch).drops.total ≠ 0 ∧ (t.dev.chan ch).drops.ringFull = true ∧ t.dev.out = [] ∧
          s.frameCh t ch d)) ∧
    (∀ (x : Completion) (q : List TxEntry), c.txq = .completion x :: q → overflow = false → c.used < c.size →
      (s.dev.cp.restarts = [] → Runs (.completion ch) s (fun t => recordWritten s ch (c.pop 1) t ∧
        t.dev.cp = (if x.holdsSlot then (s.dev.freeSlot ch x.tag.toNat).cp else s.dev.cp) ∧
        s.frameCh t ch { d with cp := t.dev.cp })) ∧
      (∀ y z, s.dev.cp.restarts = [y] → y.opcode = 0x3F → y.ch = ch → y.tag = x.tag.toNat → x.holdsSlot = true →
        s.dev.slot ch y.tag = some z → z.seq = y.seq → Runs (.completion ch) s (fun t =>
          (∃ r, t.dev.out = [.rdma ch r]) ∧ (t.dev.chan ch).nextSeq = c.nextSeq + 1 ∧ t.dev.cp.slots = [] ∧
            restartBegins s t s.dev.fuses (.device (fld (y.word 0) 0 2).toNat)))) ∧
    ((c.txq = [] ∨ ∃ x q, c.txq = .record x :: q) → s.dev.cp.restarts = [] →
      Runs (.completion ch) s (fun t => s.silent t s.dev))) ∧
  (∀ (s : State) (ch : Nat), s.up → ch ≤ 64 → (s.dev.chan ch).st = .opened →
    s.dev.linkUpFor (s.dev.chan ch) = true →
    let c := s.dev.chan ch
    (s.dev.nextTurn ≠ some ch → s.dev.cp.restarts = [] →
      Runs (.recordTransmit ch) s (fun t => s.silent t s.dev) ∧ Runs (.completion ch) s (fun t => s.silent t s.dev)) ∧
    (s.dev.nextTurn = some ch → c.nextSeq = 0xFFFFFFFF → c.epoch = 65535 → ∀ (x : AttnRec) (q : List TxEntry),
      c.txq = .record x :: q → c.overflowDue = false → c.used + 33 < c.size → Runs (.recordTransmit ch) s (fun t =>
        (t.dev.chan ch).st = .error ∧ (t.dev.chan ch).errCode = 6 ∧ t.dev.out = [])) ∧
    (c.ackedSeq ≠ c.pubSeq → c.lastPub ≠ some s.dev.nowSample → (∀ r ∈ c.unacked, r.kind.isPublish = false) →
      Runs (.producerPublish ch) s (fun t =>
        t.dev.chan ch = { c with
          pubSeq := c.ackedSeq, lastPub := some s.dev.nowSample, unacked := (t.dev.chan ch).unacked
          nextPsn := c.nextPsn + 1 } ∧
        (∃ r, (t.dev.chan ch).unacked = c.unacked ++ [r] ∧ t.dev.out = [.rdma ch r] ∧ r.kind = .publish c.ackedSeq ∧
          r.psn = c.nextPsn ∧ r.addr = c.prodAddr ∧ r.imm = (if c.pubImm then some c.ackedSeq else none) ∧
          leNat (r.data.take 4) = c.ackedSeq.toNat ∧ leNat ((r.data.drop 4).take 4) = c.dropCnt.toNat ∧
          leNat (r.data.drop 8) = s.dev.tb.frame.toNat) ∧ s.frameCh t ch s.dev)) ∧
    ((c.ackedSeq = c.pubSeq ∨ c.lastPub = some s.dev.nowSample ∨ ∃ r ∈ c.unacked, r.kind.isPublish = true) →
      Runs (.producerPublish ch) s (fun t => s.silent t s.dev))) ∧
  ∀ (s : State) (ch : Nat), s.up → ch ≤ 64 → s.dev.linkUpFor (s.dev.chan ch) = false → s.dev.cp.restarts = [] →
    let quiet (t : State) : Prop := t.dev.out = [] ∧ (t.dev.chan ch).unacked = (s.dev.chan ch).unacked ∧
      (t.dev.chan ch).nextSeq = (s.dev.chan ch).nextSeq ∧ t.dev.cp = s.dev.cp
    Runs (.recordTransmit ch) s quiet ∧ Runs (.completion ch) s quiet ∧ Runs (.producerPublish ch) s quiet

/-! ### The safety island (13) -/

/-- ISLAND_TICK (R434, R442, R445, R451, R454): the tick counts, the levels are taken, the sources are high and the mask
windows closed; an input takes the state that its channels give; no switch is closed for an output of which an input is
not closed. An unpowered island does nothing; in INIT the pins are sampled and no state moves; INIT that outlasts 500 ticks
fails.
What rests here on the model's own reading or choice stands in log entries 68 and 69. -/
def Obligations.IslandTickWork : Prop :=
  ∀ (s : State) (i : TickIn), s.isl.sound = true →
    let x := s.isl
    (x.st = .unpowered → Runs (.islandTick i) s (fun t => t = s)) ∧
    (x.st ≠ .unpowered → Runs (.islandTick i) s (fun t =>
      let y := t.isl
      let lvl (chB : Bool) (k : Nat) : Bool := if chB then bit i.pinB k && !x.ovlB else bit i.pinA k && !x.ovlA
      s.islandOnly t ∧ y.tick = x.tick + 1 ∧ y.pinA = i.pinA ∧ y.pinB = i.pinB ∧ y.pinEnA = i.enA ∧ y.pinEnB = i.enB ∧
        y.stpA = true ∧ y.stpB = true ∧ y.maskA = false ∧ y.maskB = false ∧ y.sealVal = x.sealVal ∧ y.vdd = x.vdd ∧
        y.lastA = x.lastA ∧ y.lastB = x.lastB ∧ y.ovlA = x.ovlA ∧ y.ovlB = x.ovlB ∧
        (x.st = .init → 500 ≤ x.tick → y.st = .fault ∧ y.cause = 7) ∧
        (x.st = .init → x.tick < 500 → y.st = .init ∧ ∀ b : Bool,
          y.side b = { x.side b with ins := (y.side b).ins, outs := (y.side b).outs } ∧
            (∀ k, k < 8 → (y.side b).inp k = { (x.side b).inp k with chA := lvl false k, chB := lvl true k }) ∧
            ∀ j, j < 4 → (y.side b).outp j =
              { (x.side b).outp j with sbf := bit i.sbf j, sbiMv := satNat 16 (i.sbi.getD j 0) }) ∧
        (x.st ≠ .init → ∀ (b : Bool) (k : Nat), k < 8 →
          ((x.side b).inp k).st = .opened ∨ ((x.side b).inp k).st = .closed →
          ((y.side b).inp k).st = if lvl false k = lvl true k then (if lvl false k then .closed else .opened)
            else .discrepant) ∧
        (∀ (b : Bool) (j k : Nat), j < 4 → k ∈ x.mapped j → lvl false k = false ∨ lvl true k = false →
          ((y.side b).outp j).hs = false ∧ ((y.side b).outp j).ls = false)))

/-- SAFETY_INPUT_FALL (R445, R446): the pin acts on the switches at once, whatever the logic copies hold: a falling input
opens the switch of its own side of every output it stops, outside its mask window, and no other; so does a falling enable
pin of an automatic start. -/
def Obligations.StopPathActsAtOnce : Prop :=
  ∀ (s : State) (j : Nat), j < 4 →
    (∀ k, k < 8 → Runs (.safetyInputFall (.sinA k)) s (fun t => s.islandOnly t ∧
      t.isl.copyA = s.isl.copyA ∧ t.isl.copyB = s.isl.copyB ∧ t.isl.lsPin j = s.isl.lsPin j ∧
        (k ∈ s.isl.mapped j → s.isl.maskA = false → t.isl.hsPin j = false) ∧
        (k ∉ s.isl.mapped j → t.isl.hsPin j = s.isl.hsPin j))) ∧
    (∀ k, k < 8 → Runs (.safetyInputFall (.sinB k)) s (fun t => s.islandOnly t ∧
      t.isl.copyA = s.isl.copyA ∧ t.isl.copyB = s.isl.copyB ∧ t.isl.hsPin j = s.isl.hsPin j ∧
        (k ∈ s.isl.mapped j → s.isl.maskB = false → t.isl.lsPin j = false) ∧
        (k ∉ s.isl.mapped j → t.isl.lsPin j = s.isl.lsPin j))) ∧
    Runs (.safetyInputFall .enA) s (fun t => s.islandOnly t ∧ t.isl.lsPin j = s.isl.lsPin j ∧
      (s.isl.manual = false → t.isl.hsPin j = false) ∧ (s.isl.manual = true → t.isl.hsPin j = s.isl.hsPin j)) ∧
    Runs (.safetyInputFall .enB) s (fun t => s.islandOnly t ∧ t.isl.hsPin j = s.isl.hsPin j ∧
      (s.isl.manual = false → t.isl.lsPin j = false) ∧ (s.isl.manual = true → t.isl.lsPin j = s.isl.lsPin j))

/-- TEST_PULSE, TEST_PULSE_CHECK, MASK_WINDOW_END and STP_OVERLOAD (R439, R440, R441, R446): a due pulse pulls its source
low and opens its mask window, in every state of a powered island; a channel that stays high under its own pulse for the
second time latches STUCK, and one that falls with the other channel's pulse for the second time CROSS, for either source; the
window closes with its source high again; an overload is held while it lasts. What is not due does nothing.
What rests here on the model's own reading or choice stands in log entries 68 and 69. -/
def Obligations.TestPulses : Prop :=
  ∀ s : State,
    let x := s.isl
    let live := x.pulsesOn = true ∧ x.st ≠ .unpowered
    (live → (x.lastA = none ∨ ∃ n, x.lastA = some n ∧ n < x.tick ∧ (x.tick - n) % 100 = 0) →
      Runs (.testPulse false) s (fun t => t = { s with isl := { x with
        stpA := false, maskA := true, checkA := true, lastA := some x.tick } })) ∧
    (∀ n, live → x.lastA = some n → (x.tick - n) % 100 = 50 → x.lastB ≠ some x.tick →
      Runs (.testPulse true) s (fun t => t = { s with isl := { x with
        stpB := false, maskB := true, checkB := true, lastB := some x.tick } })) ∧
    (∀ b, ¬ live → Runs (.testPulse b) s (fun t => t = s)) ∧
    (∀ n, x.lastA = some n → x.tick ≤ n ∨ (x.tick - n) % 100 ≠ 0 → Runs (.testPulse false) s (fun t => t = s)) ∧
    (x.lastA = none ∨ x.lastB = some x.tick ∨ (∃ n, x.lastA = some n ∧ (x.tick - n) % 100 ≠ 50) →
      Runs (.testPulse true) s (fun t => t = s)) ∧
    (∀ (pA pB : BitVec 8), x.checkA = false → x.checkB = false → Runs (.testPulseCheck pA pB) s (fun t => t = s)) ∧
    (∀ (pA pB : BitVec 8), x.checkA = true → x.checkB = false → Runs (.testPulseCheck pA pB) s (fun t =>
      s.islandOnly t ∧ t.isl.pinA = pA ∧ t.isl.pinB = pB ∧ t.isl.checkA = false ∧ t.isl.checkB = false ∧
      ∀ (b : Bool) (k : Nat), k < 8 →
        let v := (x.side b).inp k
        let w := (t.isl.side b).inp k
        (bit pA k = true → x.ovlA = false → 1 ≤ v.stuckARun → w.st = .fault ∧ bit w.fault 1 = true) ∧
          (bit pB k = false → v.chB = true → 1 ≤ v.crossARun → w.st = .fault ∧ bit w.fault 3 = true) ∧
          (bit pA k = false → bit pB k = true → x.ovlB = false → v.stuckBRun < 2 → v.crossBRun < 2 →
            w = { v with stuckARun := 0, crossARun := 0 }) ∧
          ∀ j, (t.isl.side b).outp j = (x.side b).outp j)) ∧
    (∀ (pA pB : BitVec 8), x.checkB = true → Runs (.testPulseCheck pA pB) s (fun t =>
      s.islandOnly t ∧ t.isl.pinA = pA ∧ t.isl.pinB = pB ∧ t.isl.checkA = false ∧ t.isl.checkB = false ∧
      ∀ (b : Bool) (k : Nat), k < 8 →
        let v := (x.side b).inp k
        let w := (t.isl.side b).inp k
        (bit pB k = true → x.ovlB = false → 1 ≤ v.stuckBRun → w.st = .fault ∧ bit w.fault 2 = true) ∧
          (bit pA k = false → v.chA = true → 1 ≤ v.crossBRun → w.st = .fault ∧ bit w.fault 3 = true) ∧
          (bit pB k = false → bit pA k = true → x.ovlA = false → v.stuckARun < 2 → v.crossARun < 2 →
            w = { v with stuckBRun := 0, crossBRun := 0 }) ∧
          ∀ j, (t.isl.side b).outp j = (x.side b).outp j)) ∧
    (∀ (pA pB : BitVec 8), x.maskA = false → x.maskB = false → Runs (.maskWindowEnd pA pB) s (fun t => t = s)) ∧
    (∀ (pA pB : BitVec 8), (x.maskA = true ∨ x.maskB = true) → Runs (.maskWindowEnd pA pB) s (fun t =>
      t = { s with isl := { x with
        pinA := pA, pinB := pB, stpA := true, stpB := true, maskA := false, maskB := false
        checkA := false, checkB := false } })) ∧
    (∀ b on, x.st = .unpowered → Runs (.stpOverload b on) s (fun t => t = s)) ∧
    (∀ on, x.st ≠ .unpowered →
      Runs (.stpOverload false on) s (fun t => t = { s with isl := { x with ovlA := on } }) ∧
        Runs (.stpOverload true on) s (fun t => t = { s with isl := { x with ovlB := on } }))

/-- What a logic copy latches and clears in both copies alike: DISCREPANCY_TIMEOUT, SWITCH_TEST_STEP, BRAKE_TIMEOUT and
SAFETY_FAULT_CLEARED (R442, R450, R451, R452).
What rests here on the model's own reading or choice stands in log entries 68 and 69. -/
def Obligations.IslandLatches : Prop :=
  ∀ (s : State) (b : Bool),
    let c := s.isl.side b
    (∀ k, k < 8 → (c.inp k).st = .discrepant → s.isl.discTicks ≤ (c.inp k).c →
      Runs (.discrepancyTimeout k) s (fun t => s.islandOnly t ∧ ((t.isl.side b).inp k).st = .fault ∧
        ((t.isl.side b).inp k).fault = (c.inp k).fault ||| 1 ∧
        (∀ m, m ≠ k → (t.isl.side b).inp m = c.inp m) ∧ ∀ j, (t.isl.side b).outp j = c.outp j)) ∧
    (∀ j, j < 4 → 20 ≤ (c.outp j).ticks → Runs (.switchTestStep j) s (fun t =>
      let v := c.outp j
      let w := (t.isl.side b).outp j
      s.islandOnly t ∧ (∀ m, m ≠ j → (t.isl.side b).outp m = c.outp m) ∧ (∀ k, (t.isl.side b).inp k = c.inp k) ∧
        (v.st = .testing 1 → v.coilRun = 0 → w.st = .testing 2 ∧ w.hs = false ∧ w.ls = true) ∧
        (v.st = .testing 1 → v.coilRun ≠ 0 → w.st = .fault ∧ w.fault = v.fault ||| 2 ∧ w.hs = false ∧ w.ls = false) ∧
        (v.st = .testing 2 → v.coilRun = 0 → w.st = .testing 3 ∧ w.hs = false ∧ w.ls = false) ∧
        (v.st = .testing 2 → v.coilRun ≠ 0 → w.st = .fault ∧ w.fault = v.fault ||| 1 ∧ w.hs = false ∧ w.ls = false) ∧
        (v.st = .testing 3 → v.sbf = true → w.st = .releasing ∧ w.hs = true ∧ w.ls = true) ∧
        (v.st = .testing 3 → v.sbf = false → w.st = .fault ∧ w.fault = v.fault ||| 4 ∧ w.hs = false ∧ w.ls = false))) ∧
    (∀ j, j < 4 → Runs (.brakeTimeout j) s (fun t =>
      let v := c.outp j
      let w := (t.isl.side b).outp j
      let tripped (n : Nat) : Prop := w.st = .fault ∧ bit w.fault n = true ∧ w.hs = false ∧ w.ls = false
      s.islandOnly t ∧ (∀ m, m ≠ j → (t.isl.side b).outp m = c.outp m) ∧ (∀ k, (t.isl.side b).inp k = c.inp k) ∧
        (v.st = .releasing → 3000 ≤ v.ticks → v.sbf = true → tripped 2) ∧
        (v.st = .on → 10 ≤ v.fbRun → tripped 2) ∧
        (v.st = .off → v.ticks = 3000 → v.sbf = false → tripped 2) ∧
        (v.st = .off → v.ticks = 500 → 20 ≤ v.sbiMv.toNat → s.isl.coilCheck = true → tripped 3) ∧
        (v.st = .off → v.ticks ≠ 500 → v.ticks ≠ 3000 → w = v) ∧
        (v.st = .on → v.fbRun < 10 → 10 ≤ v.coilRun → s.isl.coilCheck = true → tripped 3) ∧
        (v.st = .on → v.fbRun < 10 → v.coilRun < 10 → w = v) ∧
        (v.st = .releasing → 3000 ≤ v.ticks → v.sbiMv.toNat < 100 → s.isl.coilCheck = true → tripped 3) ∧
        (v.st = .releasing → v.ticks < 3000 → w = v) ∧ (v.st = .fault → w = v))) ∧
    (∀ k, k < 8 → (c.inp k).st = .fault → 1000 ≤ (c.inp k).clearRun →
      Runs (.safetyFaultCleared (.input k)) s (fun t => s.islandOnly t ∧ ((t.isl.side b).inp k).st = .opened ∧
        ((t.isl.side b).inp k).fault = 0 ∧ ∀ m, m ≠ k → (t.isl.side b).inp m = c.inp m)) ∧
    (∀ j, j < 4 → (c.outp j).st = .fault → 1000 ≤ (c.outp j).clearRun →
      Runs (.safetyFaultCleared (.output j)) s (fun t => s.islandOnly t ∧ ((t.isl.side b).outp j).st = .off ∧
        ((t.isl.side b).outp j).fault = 0 ∧ ∀ m, m ≠ j → (t.isl.side b).outp m = c.outp m)) ∧
    (c.enFault = true → 1000 ≤ c.enClear →
      Runs (.safetyFaultCleared .enable) s (fun t => s.islandOnly t ∧ t.isl.side b = { c with enFault := false, enDiff := 0 }))

/-- SEAL_REREAD, SAFE_VDD_CHANGE, ISLAND_SELF_TEST_END and ISLAND_OSC_FAULT (R434, R438, R454, R455, R617): how the island
comes up, what fails it, and that a failed island stays so until its supply is lost.
What rests here on the model's own reading or choice stands in log entry 69. -/
def Obligations.IslandStates : Prop :=
  ∀ s : State,
    let x := s.isl
    (∀ (mv : Nat) (v : BitVec 8), Runs (.safeVddChange mv v) s (fun t => s.islandOnly t ∧
      (mv < 2800 → t.isl = { Island.reset with vdd := mv }) ∧
        (x.st = .unpowered → 2800 ≤ mv → mv < 2900 → t.isl = { x with vdd := mv }) ∧
        (x.st = .unpowered → 2900 ≤ mv → t.isl.st = .init ∧ t.isl.tick = 0 ∧ t.isl.sealVal = v) ∧
        (x.st = .ready → 2800 ≤ mv → mv < 3000 ∨ 3600 < mv → t.isl.st = .fault ∧ t.isl.cause = 5) ∧
        (x.st ≠ .unpowered → 3000 ≤ mv → mv ≤ 3600 → t.isl = { x with vdd := mv }))) ∧
    (x.st = .init → x.tick ≤ 500 → sealReserved x.sealVal = false → 3000 ≤ x.vdd → x.vdd ≤ 3600 →
      Runs (.islandSelfTestEnd true) s (fun t => s.islandOnly t ∧ t.isl.st = .ready ∧
        (x.copyA = x.copyB → t.isl.copyA = t.isl.copyB) ∧ t.isl.okA = true ∧ t.isl.okB = true ∧
        (∀ j, t.isl.hsPin j = false ∧ t.isl.lsPin j = false) ∧
        ∀ (b : Bool) (k : Nat), k < 8 → x.maskA = false → x.maskB = false →
          ((t.isl.side b).inp k).fault = 0 ∧ ((t.isl.side b).inp k).changes = 0 ∧
            ((t.isl.side b).inp k).st =
              if x.level false k = x.level true k then (if x.level false k then .closed else .opened)
              else .discrepant)) ∧
    (x.st = .init → Runs (.islandSelfTestEnd false) s (fun t => s.islandOnly t ∧ t.isl.st = .fault ∧ t.isl.cause = 7)) ∧
    (x.st = .ready → Runs .islandOscFault s (fun t => s.islandOnly t ∧ t.isl.st = .fault ∧ t.isl.cause = 4 ∧
      t.isl.okA = false ∧ t.isl.okB = false ∧ ∀ j, t.isl.hsPin j = false ∧ t.isl.lsPin j = false)) ∧
    (∀ up down, x.st = .ready → x.tick ≠ 0 → x.tick % 1000 = 0 → Runs (.sealReread up down) s (fun t => s.islandOnly t ∧
      (up &&& ~~~down ≠ 0 → t.isl.st = .fault ∧ t.isl.cause = 2) ∧
        (up &&& ~~~down = 0 → up &&& down ≠ x.sealVal → t.isl.st = .fault ∧ t.isl.cause = 1) ∧
        (up &&& ~~~down = 0 → up &&& down = x.sealVal → sealReserved x.sealVal = false →
          t.isl = { x with sealNow := x.sealVal, sealFloat := 0 }))) ∧
    (∀ (i : Instr) (t : State), i.isIsland = true → (∀ mv v, i ≠ .safeVddChange mv v) → exec i s = .next t →
      x.st = .fault → t.isl.st = .fault ∧ t.isl.cause = x.cause)

/-- ISLAND_LINK_LOST (R458): after three frames in which the island's tick stood still LINK_OK clears, and every mapped
diagnostic point holds BAD with DETAIL 08; before, nothing happens. -/
def Obligations.IslandLink : Prop :=
  ∀ s : State, s.up →
    (s.dev.diag.linkOk = true → 3 ≤ s.dev.diag.stale → Runs .islandLinkLost s (fun t =>
      t.dev.diag = { s.dev.diag with linkOk := false } ∧ t.isl = s.isl ∧
        (s.dev.diag.en = false → t.dev.ps = s.dev.ps) ∧
        (s.dev.diag.en = true → ∀ i, i < 14 →
          (s.dev.point (s.dev.diag.ptBase.toNat + i)).subst = false →
          (s.dev.point (s.dev.diag.ptBase.toNat + i)).quarantined = false →
          s.dev.produces 6 i (s.dev.diag.ptBase.toNat + i) = true →
          (t.dev.point (s.dev.diag.ptBase.toNat + i)).quality = 2 ∧
            (t.dev.point (s.dev.diag.ptBase.toNat + i)).detail = 0x08) ∧
        s.frame t { s.dev with diag := { s.dev.diag with linkOk := false }, ps := t.dev.ps })) ∧
    ((s.dev.diag.linkOk = false ∨ s.dev.diag.stale < 3) → Runs .islandLinkLost s (fun t => s.silent t s.dev))

/-! ### The frame schedule and the timebase (01) -/

/-- A quotient whose rounding the manual leaves open: down, or up where it is not whole (log entry 8). -/
def Sys2Proof.Machine.roundsTo (n : Int) (d : Nat) (q : Int) : Prop := q = n / d ∨ (n % d ≠ 0 ∧ q = n / d + 1)

/-- The module as a sample boundary brings it to the work of the sample that begins: what was due before it, the new
sample, its conversions and the latches of the fast pipeline (R22, R33 to R35, R334; log entries 12 and 14). -/
def Sys2Proof.Machine.Dev.atSample (x : SampleIn) (d : Dev) : Dev :=
  oneCycle (fun d => fastSample (ppsSample (sampleReads x.reads d)))
    ((restartSettle (x.coreFail.foldl (fun d y => commandMemory y.1 y.2 d) (settleSample d))).modTb (fun t =>
      { t with sample := t.sample + 1 }))

/-- The same to a phase, whose predecessors' strobes have passed (R49). -/
def Sys2Proof.Machine.Dev.atPhase (x : SampleIn) (d : Dev) : Dev := settleStrobes (d.atSample x)

/-- The module as a frame start brings it to phase A (R26, R34, R41, R435; log entries 12, 14 and 15). -/
def Sys2Proof.Machine.Dev.atFrame (x : FrameIn) (snap : Option (List (BitVec 512))) (ram : Nat → Byte) (d : Dev) : Dev :=
  safetySnapshot snap (oneCycle (fun d => fastSample (plyFrameStart (endFrame x.dc (sampleReads x.reads (countFrame d)))))
    (noteDeferred (settleStrobes (endPhaseF ram (restartSettle (settleLimits (settleSample (restOfFrame d))))))))

/-- A point that is neither substituted nor quarantined has taken its producer's update in the canonical form of its TYPE; a
NaN leaves the value, BAD (R57, R58, R72, R95). -/
def Sys2Proof.Machine.tookValue (d d' : Dev) (p : Nat) (v : W64) (q : BitVec 2) (det : BitVec 8) : Prop :=
  (d.point p).subst = false → (d.point p).quarantined = false →
    if (d.point p).ptype = 4 ∧ f32IsNan (fld v 0 32) = true then
      (d'.point p).value = (d.point p).value ∧ (d'.point p).quality = 2 ∧ (d'.point p).detail = 0x0F
    else (d'.point p).value = canonical (d.point p).ptype.toNat v ∧ (d'.point p).quality = q ∧ (d'.point p).detail = det

/-- Phase B without a cut (R310 to R313): of the RUNNING tasks those whose release frame it is are scanned, once; each
instance executes over its record and the points as phase A left them; the outputs wait in the image. -/
def Sys2Proof.Machine.tasksScanned (d d' : Dev) : Prop :=
  (∀ t < 8, d.released t = false → d'.task t = d.task t) ∧
  (∀ t < 8, d.released t = true → (d.task t).pend = false → ∃ img, d'.task t = { d.task t with
    lastRel := d.tb.frame, relCal := d.tb.cal0, scan := some (.done img), consec := 0, scanCnt := (d.task t).scanCnt + 1 } ∧
    img.map (·.point) = progOuts (d.program t (d.task t).bank) ∧
    ((∀ u < 8, u ≠ t → d.released u = false) → (progIids (d.program t (d.task t).bank)).Nodup →
      ∀ e ∈ d.program t (d.task t).bank,
        (∃ m : Dev, m.ps = d.ps ∧ d'.srec e.2.iid = blkExec e.2.btype e.2.dtype e.2.edgeFirst d.lg.tick (d.srec e.2.iid)
          (readOperand m e.2 0) (readOperand m e.2 1) (readOperand m e.2 2) (readOperand m e.2 3)) ∧
        ∀ o ∈ e.2.outs, let r := d'.srec e.2.iid
          let q := if o.2 then r.auxq else r.outq
          outValue d o.1 ((outDom e.2.btype e.2.dtype o.2).getD .u) (if o.2 then r.aux else r.out) q
            (if q = 0 then 0 else r.detail) ∈ img)) ∧
  ((∀ t < 8, (d.task t).pend = false) → d'.ps = d.ps)

/-- Phase C (R333, R340): the enabled frame-rate loops that its window reaches execute once each, in ascending slot order,
over the inputs that phase A latched; no point changes yet. -/
def Sys2Proof.Machine.loopsExecuted (reach : Option (Nat × Nat)) (d d' : Dev) : Prop :=
  let js := reached (stepLimit reach 1) (d.enabledLoops false)
  (∀ j ∈ js, ∃ m : Dev, m.ps = d.ps ∧
    d'.loop j = (loopExec (d.loop j) ⟨(d.loop j).snap, m.loop ((d.loop j).uf 350 17), m.loop ((d.loop j).uf 265 17),
      m.loopVal (d.loop j).outPt⟩ d.tb.cal0).1) ∧
    (∀ j, j ∉ js → d'.loop j = d.loop j) ∧ d'.ps = d.ps ∧
    (unreached (stepLimit reach 1) (d.enabledLoops false) ≠ [] → Phase.c ∈ d'.tb.cut)

/-- Phase D (R28, R314, R333, R413): the images of the scanned tasks, then the outputs of the frame-rate loops stand in their
points; over these the current-loop outputs and the downlink buffers are built. -/
def Sys2Proof.Machine.outputsCommitted (d d' : Dev) : Prop :=
  (∀ t < 8, ∀ img, (d.task t).scan = some (.done img) → (d.task t).memDue = none →
    (d'.task t).scan = none ∧
    ((d.task t).mark = none → (img.map (·.point)).Nodup → ∀ v ∈ img, d.imageHas t v.point = true →
      v.point ∉ (d.task t).dropPts → tookValue d d' v.point v.value v.quality v.detail)) ∧
  (∀ j ∈ d.enabledLoops false, (d'.loop j).out = none ∧ ∀ o, (d.loop j).out = some o →
    d.loopOwns j (d.loop j).outPt = true → tookValue d d' (d.loop j).outPt (o.v.setWidth 64) o.q o.d) ∧
  (∀ k < 8, (d.cloop k).isOutput = true → d.fastDriven k = false →
    let x := d'.point (d.cloop k).spPt
    let v := (fld x.value 0 32).toInt
    let w := clampInt (d.cloop k).spMin (d.cloop k).spMax v
    qUsable x.quality = true →
      d'.cloop k = { d.cloop k with spAct := BitVec.ofInt 32 w, spEver := true, clamped := w != v }) ∧
  (∀ k < 16, (d'.strand k).downlink = (d.enabledNodes k).map (fun n => (n.1, downlinkOf d' n.2)))

/-- No ring is open: what is reported goes to the recorder alone. -/
abbrev Sys2Proof.Machine.Dev.ringsShut (d : Dev) : Prop := ∀ ch, (d.chan ch).st ≠ .opened

/-- Phase E (R85, R91, R92, R183, R467, R471, R535): every enabled point trigger takes its reference, and one that holds is
recorded; running delays count, and end in ACTIVE; the notification scan emits at most NOTIFY_MAX entries and says whether
some are left; the copy-out advances REC_COPIED; at most MIRROR_MAX pending points go to the twin; the event queue is
drained into the transmit queues. -/
def Sys2Proof.Machine.phaseEDone (d d' : Dev) : Prop :=
  (∀ t < 16, d.trigEn t = true → tget none d'.rcd.trigRef t =
    some ((d.point (d.trigPoint t)).value, (d.point (d.trigPoint t)).quality, (d.point (d.trigPoint t)).detail)) ∧
  (∀ t < 16, ∀ o, d.trigEn t = true → (∀ u < 16, u ≠ t → d.trigEn u = false) → tget none d.rcd.trigRef t = some o →
    let x := d.point (d.trigPoint t)
    trigHolds (fld (tget 0 d.rcd.trigA t) 28 3).toNat o (x.value, x.quality, x.detail) = true → d.rcd.intake = none →
    d.ringsShut → bit d.rcd.cfg 17 = false → d.ply.pairId = 0 → d.ply.sweep = none → d.sec.ending = none →
    d.rcd.stored < 32768 → (d.rcd.at_ d.rcd.newest).source ≠ 1 →
      let r := d'.rcd.at_ (d.rcd.next.toNat % 32768)
      d'.rcd.next = d.rcd.next + 1 ∧ d'.rcd.stored = d.rcd.stored + 1 ∧ r.seq = d.rcd.next ∧ r.source = 1 ∧
        r.trigger = BitVec.ofNat 4 t ∧ r.code = 0x0C04 ∧ r.object = BitVec.ofNat 32 (d.trigPoint t) ∧
        r.snapLen = BitVec.ofNat 5 (min 16 (d.trigCnt t)) ∧ r.cal = d.cal ∧ r.frame = BitVec.ofNat 32 d.tb.frame.toNat) ∧
  (d.delayingAlarms.Nodup → ∀ e, ∀ l < 4, ∀ n, (d.alarm e).level l = .delaying n →
    let open_ := d.alarmQuality e = 2 ∨ d.alarmQuality e = 3
    (1 < n ∨ open_ → (d'.alarm e).level l = .delaying (n - 1)) ∧ (n ≤ 1 → ¬ open_ → (d'.alarm e).level l = .active)) ∧
  (tblWf Sub.reset d.ps.subs = true →
    let due (e : Nat) : Prop := (d.sub e).pending = true ∧ (d.sub e).holdLeft = 0
    let sent (e : Nat) : Prop := d'.sub e = { d.sub e with
      lastSent := (d.point (d.sub e).point.toNat).value, pending := false, changes := 0, holdLeft := (d.sub e).minInterval }
    (d'.ps.deferred = false → (∀ e, due e → sent e) ∧ ∀ e, (d'.alarm e).marked = false) ∧
    (∀ e, d'.sub e = d.sub e ∨ due e ∧ sent e) ∧
    ∀ es : List Nat, es.Nodup → (∀ e ∈ es, d'.sub e ≠ d.sub e) → es.length ≤ d.ps.notifyMax.toNat) ∧
  (bit d.rcd.cfg 17 = true → d.ringsShut → (∀ t < 16, d.trigEn t = false) → d.rcd.copied ≠ d.rcd.next →
    (d.rcd.at_ ((d.rcd.copied - 1).toNat % 32768)).uncopied = false →
      d'.rcd.next = d.rcd.next ∧
        d'.rcd.copied = d.rcd.copied + BitVec.ofNat 32 (min d.rcd.copyMax.toNat (d.rcd.next - d.rcd.copied).toNat)) ∧
  (d.ply.pairId ≠ 0 → d.ply.latch = false →
    let sent := d.mirrorDue.take d.ply.mirrorMax.toNat
    d'.ply.mirrorTx = d.ply.mirrorTx + BitVec.ofNat 32 sent.length ∧ (∀ p ∈ sent, (d'.point p).mirPending = false) ∧
      ∀ p, p ∉ sent → d'.point p = d.point p) ∧
  ((∀ t < 16, d.trigEn t = false) → d.delayingAlarms = [] → d.notices = [] → bit d.rcd.cfg 17 = false →
    d.ply.pairId = 0 → d.ply.sweep = none → d.sec.ending = none →
    let mine (ch : Nat) := d.tr.evq.filter (fun x => decide (x.1 = ch))
    (∀ ch, (d.chan ch).st = .opened → (d.chan ch).queued + (mine ch).length ≤ 256) →
      d'.tr.evq = [] ∧
        ∀ ch, (d.chan ch).st = .opened → (d'.chan ch).txq = (d.chan ch).txq ++ (mine ch).map (fun x => .record x.2))

/-- The switch of a strand at a sample of 1 to 31 (R240 to R242): at the trip limit it opens at once, above 60.0 V it opens
for the precheck, else the conversions are summed. `r` are VSA, VSB and the current. -/
def Sys2Proof.Machine.lineSampled (r : Int × Int × Int) (l m : Line) : Prop :=
  l.powered = true →
    ((l.tripMa : Int) ≤ r.2.2 → m.gate = false ∧ m.failCnt = min (l.failCnt + 1) 8 ∧
      m.st = (if 8 ≤ l.failCnt + 1 then .latched else .retryWait) ∧
      m.fault = l.fault ||| putB 12 1 true ||| putB 12 3 (decide (8 ≤ l.failCnt + 1))) ∧
    (r.2.2 < (l.tripMa : Int) → l.overRun < 100 →
      (60000 < r.1 → m.gate = false ∧ m.st = .precheck ∧ m.ovPending = true ∧ m.fault = l.fault ||| putB 12 7 true) ∧
      (r.1 ≤ 60000 → m = { l with
        sumA := l.sumA + r.1, sumB := l.sumB + r.2.1, sumI := l.sumI + r.2.2, ovSeen := false
        peak := maxU l.peak (satNat 16 (min r.2.2.natAbs l.fullScale)) }))

/-- The same in the last sample of a frame, with which the frame's sums are judged (R240, R241, R252): the means, the
undervoltage, the runs of overload and of back-feed, and the hundredth frame of overload. -/
def Sys2Proof.Machine.lineFramed (r : Int × Int × Int) (l m : Line) : Prop :=
  let a := l.sumA + r.1
  let i := l.sumI + r.2.2
  let hot := decide ((l.overloadMa : Int) * 32 ≤ i)
  l.st = .on → r.2.2 < (l.tripMa : Int) → r.1 ≤ 60000 →
    (∃ q : Int, roundsTo i 32 q ∧ m.iMa = satInt 16 q) ∧ (∃ q : Int, roundsTo a 320 q ∧ m.vsa = satInt 16 q) ∧
    (∃ q : Int, roundsTo (l.sumB + r.2.1) 320 q ∧ m.vsb = satInt 16 q) ∧ m.sumA = 0 ∧ m.sumB = 0 ∧ m.sumI = 0 ∧
    (hot = true → 99 ≤ l.overRun → m.gate = false ∧ (m.st = .retryWait ∨ m.st = .latched) ∧
      m.failCnt = min (l.failCnt + 1) 8) ∧
    (hot = false ∨ l.overRun < 99 → m.st = .on ∧ m.gate = l.gate ∧ m.overRun = (if hot then l.overRun + 1 else 0) ∧
      m.backRun = (if i < -6400 then l.backRun + 1 else 0) ∧ m.frames = l.frames + 1 ∧
      m.uv = (decide (a < 672000) || (l.uv && decide (a < 704000))))

/-- SAMPLE_BOUNDARY (R21, R22, R33): the sample counts within its frame, and nothing that happens at a boundary, phases B to
F among it, moves the frame counter, the fuses' serial number or the island; the strands' conversions act and the fast
pipeline latches in every sample; samples 3, 15, 21, 22 and 29 begin phases B to F, each over the module as the boundary
brings it there; after sample 31 only FRAME_START goes on.
What rests here on the model's own reading or choice stands in log entries 10, 12, 14, 16 to 18, 20, 21, 23, 25, 27, 55, 70,
88, 108 and 112. -/
def Obligations.SampleBoundaries : Prop :=
  ∀ (s : State) (x : SampleIn), s.up →
    let b := s.dev.fresh0.atPhase x
    let join := b.joining
    (s.dev.tb.sample < 31 → Runs (.sampleBoundary x) s (fun t =>
      t.dev.tb.sample = s.dev.tb.sample + 1 ∧ t.dev.tb.frame = s.dev.tb.frame ∧ t.dev.tb.cal0 = s.dev.tb.cal0 ∧
        t.dev.fuses.serial = s.dev.fuses.serial ∧ t.isl = s.isl ∧
        (∀ k < 16, lineSampled (tget (0, 0, 0) (takeReadings x.reads s.dev).inp.line k) (s.dev.line k) (t.dev.line k)) ∧
        let c := s.dev.fresh0.atSample x
        (c.joining = false → tblWf Loop.reset s.dev.lp.loops = true → t.dev.lp.fastDue = some (c.cal, c.enabledLoops true) ∧
          ∀ j ∈ c.enabledLoops true, (loopLatch j c).loop j = c.loop j))) ∧
    (s.dev.tb.sample = 2 → join = false → x.cuts = [] → Runs (.sampleBoundary x) s (fun t => tasksScanned b t.dev)) ∧
    (s.dev.tb.sample = 14 → join = false → (b.enabledLoops false).Nodup →
      Runs (.sampleBoundary x) s (fun t => loopsExecuted x.reach b t.dev)) ∧
    ((s.dev.tb.sample = 2 ∨ s.dev.tb.sample = 14) → join = true →
      Runs (.sampleBoundary x) s (fun t => t.dev.lg = b.lg ∧ t.dev.lp = b.lp ∧ t.dev.ps = b.ps)) ∧
    (s.dev.tb.sample = 20 → x.reach = none → Runs (.sampleBoundary x) s (fun t => outputsCommitted b t.dev)) ∧
    (s.dev.tb.sample = 21 → x.reach = none → Runs (.sampleBoundary x) s (fun t => phaseEDone b t.dev)) ∧
    (s.dev.tb.sample = 28 → Runs (.sampleBoundary x) s (fun t => t.dev.cp.running.isSome = true ∧
      t.dev.ply.sinceStroke = (if x.stopped then b.ply.sinceStroke else 0) ∧ t.dev.ps = b.ps)) ∧
    (31 ≤ s.dev.tb.sample → Runs (.sampleBoundary x) s (fun t => s.silent t s.dev))

/-- What phase A commits (R26, R280, R379, R421, R458, R642): the data replies of the strands, the metering quantities, the
current-loop values and the safety points stand in their points, each where the source word names its producer; nothing
waits any more, and the enabled frame-rate loops have latched the inputs as they now are. -/
def Sys2Proof.Machine.inputsCommitted (d d' : Dev) : Prop :=
  (∀ k < 16, (d'.strand k).done = none ∧ ∀ cy, (d.strand k).done = some cy → (cy.results.map (·.1)).Nodup →
    (∀ j cz a, (d.strand j).done = some cz → nodeIn (tget 0 cz.nodes a) ≤ 32) → ∀ a < 256, ∀ vs st, (a, SlotResult.data vs st) ∈ cy.results → (d.node (nodeKey k a)).cfg = tget 0 cy.nodes a →
      ∀ i < nodeIn (tget 0 cy.nodes a), ∀ v, vs[i]? = some v →
        d.produces 1 (nodeSource (nodeKey k a) i) (nodeInBase (tget 0 cy.nodes a) + i) = true →
          tookValue d d' (nodeInBase (tget 0 cy.nodes a) + i) (v.setWidth 64) (inputQuality (pointStatus st i)).1
            (inputQuality (pointStatus st i)).2) ∧
  (∀ y ∈ d.meterDue, (∀ z ∈ d.meterDue, BitVec.ofNat 28 (16 * z.1 + z.2.1) = BitVec.ofNat 28 (16 * y.1 + y.2.1) → z = y) →
    y.2.2.q ≠ 3 → d.produces 4 (16 * y.1 + y.2.1) ((d.mchan y.1).quantPoint y.2.1) = true →
      tookValue d d' ((d.mchan y.1).quantPoint y.2.1) (y.2.2.v.setWidth 64) y.2.2.q y.2.2.d) ∧
  (∀ k < 8, let c := d.cloop k
    c.en = true → c.ready = true → ∀ p, (0, p) ∈ c.quantPoints → d.produces 5 (16 * k) p = true →
      tookValue d d' p (c.measNa.setWidth 64) (clQuality c c.condDue c.sum c.n).1 (clQuality c c.condDue c.sum c.n).2) ∧
  (∀ i < 14, d.diag.en = true → d.diag.linkOk = true → d.diag.stale < 3 →
    d.produces 6 i (d.diag.ptBase.toNat + i) = true → tookValue d d' (d.diag.ptBase.toNat + i) (d.safeWord i) 0 0) ∧
  (∀ j ∈ d.enabledLoops false, (loopLatch j d').loop j = d'.loop j)

/-- FRAME_START (R26, R41, R46, R633): sample 0 of the next frame, whose number is the one that an alignment step gives or
the next one; the strands are judged over their frame, and phase A commits what the frame before brought; a junction of
155 °C or more puts the main domain into reset. Phase F of the frame that ends has had its window end.
What rests here on the model's own reading or choice stands in log entries 8, 12, 14 to 16, 20, 25, 27, 60, 80 and 108. -/
def Obligations.FrameStarts : Prop :=
  ∀ (s : State) (x : FrameIn), s.up → s.dev.tb.sample = 31 → s.dev.cp.running = none →
    let b := s.dev.fresh0.atFrame x s.isl.snapshot (Memory.read s.sram)
    (x.temp < 145 → Runs (.frameStart x) s (fun t =>
      t.dev.tb.sample = 0 ∧ t.dev.tb.frame = s.dev.tb.stepDue.getD (s.dev.tb.frame + 1) ∧ t.dev.tb.stepDue = none ∧
        t.dev.tb.stepped = (s.dev.tb.stepped || s.dev.tb.stepDue.isSome) ∧ t.dev.tb.ran = s.dev.tb.ran + 1 ∧
        t.dev.lg.tick = s.dev.lg.tick + 1 ∧
        t.dev.isMain = true ∧ t.dev.th.temp = satInt 10 x.temp ∧ t.dev.th.hot = decide (125 ≤ x.temp) ∧ t.isl = s.isl ∧
        (∀ k < 16, lineFramed (tget (0, 0, 0) (takeReadings x.reads s.dev).inp.line k) (s.dev.line k) (t.dev.line k)) ∧
        (b.joining = false → t.dev.lp.fastDue.isSome = true) ∧ (x.reach = none → inputsCommitted b t.dev))) ∧
    (155 ≤ x.temp → Runs (.frameStart x) s (fun t =>
      t.dev.isMain = false ∧ t.dev.pwr.hot = true ∧ t.dev.bk.thermTrip = true ∧ t.isl = s.isl))

/-- What cycle 1,250 makes of one fast loop that was latched: it executes over the latched inputs, or is skipped where it has
not completed; its output stands in its point, and in a driven channel as the set-point within its limits, or the failsafe
value where the output is not usable (R334, R355, R413 to R415). -/
def Sys2Proof.Machine.fastDelivered (done : Bool) (cal : W64) (js : List Nat) (j : Nat) (d d' : Dev) : Prop :=
  let l := d.loop j
  ∃ x : LoopIn, x.snap = l.snap ∧ x.outPt = d.loopVal l.outPt ∧
    let r := if done then (loopExec l x cal).1 else (loopSkip l l.snap.pv cal).1
    d'.loop j = { r with out := none } ∧ ∀ o, r.out = some o →
      (d.loopOwns j l.outPt = true → tookValue d d' l.outPt (o.v.setWidth 64) o.q o.d) ∧
      ∀ ch, l.drives = some ch → (∀ i ∈ js, (d.loop i).drives = some ch → i = j) → (d.cloop ch).isOutput = true →
        let c := d.cloop ch
        let w := clampInt c.spMin c.spMax o.v.toInt
        (qUsable o.q = true →
          d'.cloop ch = { c with spAct := BitVec.ofInt 32 w, spEver := true, clamped := w != o.v.toInt }) ∧
        (qUsable o.q = false → d'.cloop ch = { c with
          spAct := if c.fsHold && c.spEver then c.spAct else BitVec.ofNat 32 c.fsUa, clamped := false })

/-- WINDOW_END_STROBE, SILENCE_LATCH_CUT and FAST_LOOP_OUTPUT_WRITE (R24, R30, R36, R49, R50, R52, R245, R334, R355, R414, R525): a
cut phase sets its overrun bit and counts it, a finished one only its measured cycles, for phase B those of the busiest lane,
and the largest of each lane and task; with phase F's window its effects are applied; two frames without a stroke set the
silence latch, which stops every transmitter and cuts the copies in transmission; cycle 1,250 writes the output of every
fast loop that was latched in the sample to its point and to the current-loop channel that it drives.
What rests here on the model's own reading or choice stands in log entries 12, 17, 18, 21, 24, 88 and 99. -/
def Obligations.ScheduleEvents : Prop :=
  ∀ s : State, s.up →
    (∀ (x : WindowIn), s.dev.tb.sample = phaseEnd x.phase →
      let k := phaseIndex x.phase
      let tb (t : State) : Prop :=
        (x.phase ∈ s.dev.tb.cut → t.dev.tb.ovr = s.dev.tb.ovr ||| putB 6 k true ∧
          tget 0 t.dev.tb.ovrCnt k = satAdd (tget 0 s.dev.tb.ovrCnt k) 1 ∧ x.phase ∉ t.dev.tb.cut) ∧
          (x.phase ∉ s.dev.tb.cut → t.dev.tb.ovr = s.dev.tb.ovr ∧ t.dev.tb.ovrCnt = s.dev.tb.ovrCnt ∧
            t.dev.tb.cut = s.dev.tb.cut) ∧
          tget 0 t.dev.tb.peak k = maxU (tget 0 s.dev.tb.peak k) (satNat 32 x.peak) ∧
          t.dev.tb = { s.dev.tb with
            ovr := t.dev.tb.ovr, ovrCnt := t.dev.tb.ovrCnt, cut := t.dev.tb.cut, peak := t.dev.tb.peak }
      ((x.phase = .a ∨ x.phase = .d ∨ x.phase = .e) → Runs (.windowEndStrobe x) s (fun t =>
        tb t ∧ s.frame t { s.dev with tb := t.dev.tb })) ∧
      (x.phase = .b → Runs (.windowEndStrobe x) s (fun t => tb t ∧
        (x.phase ∉ s.dev.tb.cut →
          (∀ l < 4, (∀ m, (l, m) ∈ x.lanes → (satNat 32 m).toNat ≤ (tget 0 t.dev.lg.lanePeak l).toNat) ∧
            (tget 0 s.dev.lg.lanePeak l).toNat ≤ (tget 0 t.dev.lg.lanePeak l).toNat ∧
            (tget 0 t.dev.lg.lanePeak l = tget 0 s.dev.lg.lanePeak l ∨
              ∃ m, (l, m) ∈ x.lanes ∧ tget 0 t.dev.lg.lanePeak l = satNat 32 m)) ∧
          (∀ j, t.dev.task j = { s.dev.task j with peakCyc := (t.dev.task j).peakCyc }) ∧
          (∀ j < 8, ∀ m, (j, m) ∈ x.tasks → (satNat 32 m).toNat ≤ (t.dev.task j).peakCyc.toNat) ∧
          s.frame t { s.dev with tb := t.dev.tb, lg := { s.dev.lg with
            lanePeak := t.dev.lg.lanePeak, tasks := t.dev.lg.tasks } }))) ∧
      (x.phase = .c → Runs (.windowEndStrobe x) s (fun t => tb t ∧
        (x.phase ∉ s.dev.tb.cut → t.dev.lp = s.dev.lp) ∧ s.frame t { s.dev with tb := t.dev.tb, lp := t.dev.lp })) ∧
      (x.phase = .f → Runs (.windowEndStrobe x) s (fun t =>
        (s.dev.cp.running ≠ none → t.dev.cp.late = []) ∧ t.isl = s.isl ∧ t.pending = s.pending ∧
          (s.dev.cp.running = none → s.dev.lp.fastDue = none →
            tb t ∧ s.frame t { s.dev with tb := t.dev.tb })))) ∧
    (∀ (x : WindowIn), s.dev.tb.sample ≠ phaseEnd x.phase → Runs (.windowEndStrobe x) s (fun t => s.silent t s.dev)) ∧
    (s.dev.ply.latch = false → 3 ≤ s.dev.ply.sinceStroke → Runs .silenceLatchCut s (fun t =>
      let sending (k : Nat) : Bool := match (s.dev.strand k).cycle with
        | some cy => decide (s.dev.cycleNow cy < cy.txEnd)
        | none => false
      t.dev.ply = { s.dev.ply with latch := true } ∧ (∀ k, t.dev.transmits k = false) ∧
        (∃ body, t.dev.out = ((List.range 16).filter sending).map (fun k => .strandCut k) ++ [.ply body]) ∧
        (∀ k < 16, ∀ cy, (t.dev.strand k).cycle = some cy → t.dev.cycleNow cy < cy.txEnd → False) ∧
        (∀ k, t.dev.strand k = { s.dev.strand k with cycle := (t.dev.strand k).cycle }) ∧
        s.frame t { s.dev with ply := t.dev.ply, strands := t.dev.strands })) ∧
    ((s.dev.ply.latch = true ∨ s.dev.ply.sinceStroke < 3) → Runs .silenceLatchCut s (fun t => s.silent t s.dev)) ∧
    (∀ (n : Option Nat) (cal : W64) (latched : List Nat), s.dev.lp.fastDue = some (cal, latched) →
      Runs (.fastLoopOutputWrite n) s (fun t =>
        let js := (s.dev.enabledLoops true).filter (fun j => latched.contains j)
        t.dev.lp.fastDue = none ∧ (∀ j ∈ js, (t.dev.loop j).out = none) ∧
        (∀ j, j ∉ js → t.dev.loop j = s.dev.loop j) ∧ t.dev.out = [] ∧
        ((s.dev.enabledLoops true).Nodup → (∀ j ∈ s.dev.enabledLoops true, j < 2112) → ∀ j ∈ js,
          fastDelivered (n.all (fun k => (js.take k).contains j)) cal js j s.dev t.dev) ∧
        s.frame t { s.dev with lp := t.dev.lp, ps := t.dev.ps, cl := t.dev.cl })) ∧
    (∀ n, s.dev.lp.fastDue = none → Runs (.fastLoopOutputWrite n) s (fun t => s.silent t s.dev))

/-- The timebase (R44 to R47): PTP_ALIGN_EN_WRITE, TIMEBASE_MEASUREMENT and TIMEBASE_MEASUREMENT_TIMEOUT follow the state
table; a correction stays within 200 ppm, whatever the control law chooses (log entry 8); every measurement while aligned
joins the last 16, whose mean, rounded either way, HOLDOVER holds. The alignment step takes the network's frame number as it
has moved on since the sync.
What rests here on the model's own reading or choice stands in log entries 8, 80, 81 and 113. -/
def Obligations.TimebaseStates : Prop :=
  ∀ s : State, s.up →
    let b := s.dev.tb
    let only (t : State) : Prop := s.frame t { s.dev with
      tb := t.dev.tb, net := { s.dev.net with meas := none }, bk := { s.dev.bk with win := t.dev.bk.win }, fresh := t.dev.fresh } ∧
      t.dev.tb.frame = b.frame ∧ t.dev.tb.sample = b.sample
    Runs (.ptpAlignEnWrite true) s (fun t => s.silent t { s.dev with tb := { b with alignEn := true } }) ∧
    Runs (.ptpAlignEnWrite false) s (fun t => t.dev.tb.alignEn = false ∧ t.dev.tb.tb = .free ∧ t.dev.tb.corrPpb = 0 ∧
      s.frame t { s.dev with tb := t.dev.tb, bk := { s.dev.bk with win := t.dev.bk.win } }) ∧
    (∀ m, s.dev.net.meas = some m → Runs .timebaseMeasurement s (fun t =>
      only t ∧ t.dev.tb.offsetNs = BitVec.ofInt 32 (clampInt (-2147483647) 2147483647 m.offset) ∧
        (b.alignEn = false → t.dev.tb.tb = b.tb ∧ t.dev.tb.corrPpb = b.corrPpb ∧ t.dev.tb.sinceMeas = b.sinceMeas) ∧
        (b.alignEn = true → t.dev.tb.sinceMeas = 0 ∧ t.dev.tb.corrHist = (b.corrPpb :: b.corrHist).take 16 ∧
          -200000 ≤ t.dev.tb.corrPpb ∧ t.dev.tb.corrPpb ≤ 200000 ∧
          (b.tb = .free → t.dev.tb.tb = .acquiring) ∧
          (b.tb = .acquiring → (t.dev.tb.tb = if m.offset.natAbs ≤ 1000 ∧ 7 ≤ b.goodRun then .locked else .acquiring) ∧
            (m.offset.natAbs ≤ 1000 → 7 ≤ b.goodRun → b.lockedOnce = false → ∀ n, m.targetNow s.dev = some n →
              b.stepEn = true → b.frame.toNat + 1 < n.toNat → t.dev.tb.stepDue = some n)) ∧
          (b.tb = .locked → t.dev.tb.tb = if 10000 < m.offset.natAbs ∧ 3 ≤ b.badRun then .acquiring else .locked) ∧
          (b.tb = .holdover → t.dev.tb.tb = if m.offset.natAbs ≤ 1000 then .locked else .acquiring)))) ∧
    (s.dev.net.meas = none → Runs .timebaseMeasurement s (fun t => s.silent t s.dev)) ∧
    (4000 ≤ b.sinceMeas → Runs .timebaseTimeout s (fun t =>
      (b.tb = .acquiring → t.dev.tb.tb = .free ∧ t.dev.tb.corrPpb = 0) ∧ (b.tb = .locked → t.dev.tb.tb = .holdover ∧
        (b.corrHist ≠ [] → let mean := b.corrHist.sum / (b.corrHist.length : Int)
          t.dev.tb.corrPpb = mean ∨ t.dev.tb.corrPpb = mean + 1)) ∧
        (b.tb = .free ∨ b.tb = .holdover → s.silent t s.dev) ∧
        s.frame t { s.dev with tb := t.dev.tb, bk := { s.dev.bk with win := t.dev.bk.win }, fresh := t.dev.fresh })) ∧
    (b.sinceMeas < 4000 → Runs .timebaseTimeout s (fun t => s.silent t s.dev))

/-! ### Strand controllers (08) -/

/-- STRAND_CYCLE_START, TRAILING_COPY_SEND and TWIN_COPY_RECEIVE (R234, R235, R238, R245, R255, R256, R258, R259, R264, R265,
R269, R284, R524): a cycle begins at sample 0 of its frame with the entries then in force; the leading copy goes out at once where
the strand transmits, the trailing one in its own slot of a cycle that
began with this module TRAILING, also after its promotion (R524), each as a strand frame of symbols, which whoever hears it reads on a
line of either polarity; a copy of the twin is heard once, one below 60 mVpp not at all.
What rests here on the model's own reading or choice stands in log entries 8, 12 and 26. -/
def Obligations.StrandCopies : Prop :=
  (∀ (before : Bool) (ss : List LineSym) (body : List Byte),
    rxSymbols (lineSignal before ss) = ss ∧ frameBody (rxSymbols (lineSignal before (strandFrame body))) = some body ∧
      (strandFrame body).length = 48 + 8 * body.length) ∧
  (∀ (before : Bool) (halves : List Bool), rxSymbols ⟨!before, halves.map (!·)⟩ = rxSymbols ⟨before, halves⟩) ∧
  ∀ (s : State) (k : Nat), s.up → k < 16 →
    let g := s.dev.strand k
    let only (t : State) : Prop := (∀ j, j ≠ k → t.dev.strand j = s.dev.strand j ∧ t.dev.line j = s.dev.line j) ∧
      s.frame t { s.dev with strands := t.dev.strands, lines := t.dev.lines, ply := t.dev.ply, fresh := t.dev.fresh } ∧
      t.dev.ply.role = s.dev.ply.role
    let copied (origin : Bool) (cy : Cycle) (t : State) : Prop := ∃ body, t.dev.out = [.strand k (strandFrame body)] ∧
      (t.dev.strand k).dlSentCnt = g.dlSentCnt + 1 ∧
      (t.dev.strand k).cycle = some { cy with
        sent := some ((t.dev.strand k).mseq, body)
        txEnd := bitCycles (bitRate cy.scfg) *
          ((if origin then dMax cy.nodes + guardBits (bitRate cy.scfg) else 0) + (48 + 8 * body.length)) }
    (∀ level, g.cycle = none → s.dev.tb.sample = 0 → s.dev.tb.frame.toNat % cycFr (bitRate g.cfg) = 0 →
      Runs (.strandCycleStart k level) s (fun t =>
        let cy : Cycle := ⟨s.dev.tb.frame, s.dev.tb.cal0, g.cfg,
          ((s.dev.schedule k).getD []).getD (s.dev.tb.frame.toNat / cycFr (bitRate g.cfg) % max (roundCyc g.cfg) 1) [],
          cycFr (bitRate g.cfg), none, none, [], [], s.dev.tb.ran, 0,
          s.dev.ply.role == .trailing⟩
        only t ∧
          ((s.dev.ply.role = .solo ∨ s.dev.ply.role = .leading) → s.dev.transmits k = true →
            copied false cy t ∧ (t.dev.strand k).mseq = g.mseq + 1) ∧
          ((s.dev.ply.role ≠ .solo ∧ s.dev.ply.role ≠ .leading ∨ s.dev.transmits k = false) →
            t.dev.out = [] ∧ t.dev.strand k = { g with cycle := some cy }))) ∧
    (∀ level, g.cycle.isSome = true ∨ s.dev.tb.sample ≠ 0 ∨ s.dev.tb.frame.toNat % cycFr (bitRate g.cfg) ≠ 0 →
      Runs (.strandCycleStart k level) s (fun t => s.silent t s.dev)) ∧
    (∀ level cy, g.cycle = some cy → cy.sent = none → cy.trails = true →
      (s.dev.ply.role = .trailing ∨ s.dev.ply.role = .leading) → s.dev.transmits k = true →
      (s.dev.ply.firstCopy = none ∨ ∃ f, s.dev.ply.firstCopy = some f ∧ f ≤ cy.frame) →
      Runs (.trailingCopySend k level) s (fun t => copied true cy t ∧ only t)) ∧
    (∀ level, (s.dev.ply.role ≠ .trailing ∧ s.dev.ply.role ≠ .leading) ∨ (∀ cy, g.cycle = some cy → cy.trails = false) →
      Runs (.trailingCopySend k level) s (fun t => s.silent t s.dev)) ∧
    (∀ (mv : Nat) (rx : LineRx) (body : List Byte) (cy : Cycle) (h : BitVec 64) (es : List (BitVec 16 × List Byte)),
      150 ≤ mv → g.cycle = some cy → cy.heard = none → s.dev.ply.role = .leading → frameBody (rxSymbols rx) = some body →
      copyParse body = some (h, es) → bit h 8 = true → fld h 48 4 = BitVec.ofNat 4 k →
      Runs (.twinCopyReceive k mv rx) s (fun t =>
        (t.dev.strand k).cycle = some { cy with heard := some body } ∧ (t.dev.strand k).twinOkCnt = g.twinOkCnt + 1 ∧
          (t.dev.strand k).noTwinRun = 0 ∧
          (t.dev.strand k).twinDiffCnt = (match cy.sent with
            | some m => if copiesAgree m.2 body then g.twinDiffCnt else g.twinDiffCnt + 1
            | none => g.twinDiffCnt) ∧ t.dev.out = [] ∧ only t)) ∧
    (∀ mv rx, mv < 60 ∨ 150 ≤ mv ∧ (s.dev.ply.role = .solo ∨ frameBody (rxSymbols rx) = none) →
      Runs (.twinCopyReceive k mv rx) s (fun t => s.silent t s.dev)) ∧
    (∀ mv rx, 60 ≤ mv → mv < 150 → Runs (.twinCopyReceive k mv rx) s (fun t => t.dev.out = [] ∧ only t))

/-- STRAND_REPLY_RECEIVE and REPLY_SLOT_MISS (R238, R259, R262, R268, R278, R282, R288): what is received at 150 mVpp or more is
read, below 60 mVpp nothing is; a damaged frame is counted, and one with another node's address; a valid data or identity
reply of the polled node clears its misses and moves its state, the STATUS of
a data reply counting in every state; a passed slot counts a miss, and the one that reaches the
cycle's LOST_MISS puts an ACTIVE node back to IDENTIFYING. The other nodes stay.
What rests here on the model's own reading or choice stands in log entries 8 and 26. -/
def Obligations.StrandReplies : Prop :=
  ∀ (s : State) (k a : Nat) (cy : Cycle), s.up → k < 16 → 1 ≤ a → a ≤ 254 → (s.dev.strand k).cycle = some cy →
    (∀ r ∈ cy.results, r.1 ≠ a) →
    let n := s.dev.node (nodeKey k a)
    let cfg := tget 0 cy.nodes a
    let only (t : State) : Prop := (∀ q, q ≠ nodeKey k a → t.dev.node q = s.dev.node q) ∧
      (∀ j, j ≠ k → t.dev.strand j = s.dev.strand j) ∧ t.dev.out = [] ∧
      s.frame t { s.dev with strands := t.dev.strands, nodes := t.dev.nodes }
    let result (t : State) (r : SlotResult) : Prop :=
      ∃ c, (t.dev.strand k).cycle = some c ∧ c = { cy with results := cy.results ++ [(a, r)], oks := c.oks }
    let counts (t : State) (bad addr miss : BitVec 32) : Prop := t.dev.strand k = { s.dev.strand k with
      cycle := (t.dev.strand k).cycle, rxBadCnt := (s.dev.strand k).rxBadCnt + bad
      rxAddrCnt := (s.dev.strand k).rxAddrCnt + addr, rxMissCnt := (s.dev.strand k).rxMissCnt + miss }
    ((a, n.cfg) ∈ cy.nodes → Runs (.replySlotMiss k a) s (fun t =>
      only t ∧ result t .miss ∧ counts t 0 0 1 ∧
        (t.dev.node (nodeKey k a)).miss = satAdd n.miss 1 ∧
        (t.dev.node (nodeKey k a)).st = if n.st = .active ∧ n.miss.toNat < lostMiss cy.scfg ∧
          lostMiss cy.scfg ≤ (satAdd n.miss 1).toNat then .identifying else n.st)) ∧
    (∀ (pos mv : Nat) (rx : LineRx), mv < 60 → Runs (.strandReplyReceive k pos mv rx) s (fun t => s.silent t s.dev)) ∧
    (∀ (pos mv : Nat) (rx : LineRx), 150 ≤ mv → slotAt (bitRate cy.scfg) cy.nodes pos = none →
      Runs (.strandReplyReceive k pos mv rx) s (fun t => s.silent t s.dev)) ∧
    (∀ (pos mv : Nat) (rx : LineRx), 150 ≤ mv → slotAt (bitRate cy.scfg) cy.nodes pos = some a → n.cfg = cfg →
      let run (q : State → Prop) : Prop := Runs (.strandReplyReceive k pos mv rx) s q
      let damaged (t : State) : Prop := counts t 1 0 0 ∧ (t.dev.strand k).cycle = some cy ∧
        s.silent t { s.dev with strands := t.dev.strands } ∧ only t
      (frameBody (rxSymbols rx) = none → run damaged) ∧
        (∀ body, frameBody (rxSymbols rx) = some body →
          let h : BitVec 32 := leBits 32 (body.take 4)
          let x : BitVec 128 := leBits 128 (body.drop 4)
          let fits := (nodeType n.cfg = 0 ∨ nodeType n.cfg = fld x 32 32) ∧ (fld x 0 6).toNat = nodeIn n.cfg ∧
            (fld x 8 6).toNat = nodeOut n.cfg
          let good := 4 ≤ body.length ∧ fld h 0 4 = 2 ∧ fld h 4 4 = 1 ∧
            body.length = if bit h 26 then 20 else 4 + 4 * nodeIn cfg + 8
          (¬ good → run damaged) ∧
          (good → (fld h 8 8).toNat ≠ a → run (fun t =>
            counts t 0 1 0 ∧ (t.dev.strand k).cycle = some cy ∧ t.dev.nodes = s.dev.nodes ∧ only t)) ∧
          (good → (fld h 8 8).toNat = a → bit h 26 = false → run (fun t => only t ∧ counts t 0 0 0 ∧
            t.dev.node (nodeKey k a) = { n with miss := 0, lSeen := bit h 24, tSeen := bit h 25 } ∧
            (n.st = .disabled → result t .other) ∧
            (n.st ≠ .active → n.st ≠ .disabled →
              result t (.status (leBits 64 (body.drop (4 + 4 * nodeIn cfg))))) ∧
            (n.st = .active → result t (.data ((chunks 4 32 ((body.drop 4).take (4 * nodeIn cfg))).map (leBits 32))
              (leBits 64 (body.drop (4 + 4 * nodeIn cfg))))))) ∧
          (good → (fld h 8 8).toNat = a → bit h 26 = true → n.st ≠ .disabled → run (fun t => only t ∧ counts t 0 0 0 ∧
            t.dev.node (nodeKey k a) = { n with
              st := if n.st = .active then .identifying else if fits then .active else .mismatch
              miss := 0, serial := fld x 64 64, nodeFw := fld x 16 16, lSeen := bit h 24, tSeen := bit h 25 } ∧
            (n.st = .identifying → fits → result t .identityOk)))))

/-- NODE_EN_WRITE and NODE_MEMORY (R62, R64, R72, R278, R283, R288): a node that is switched on is to be identified and owns
its inputs, a substitution in force being shown; one that is switched off, or whose entry is damaged, polls no more and gives
up the inputs that still name it. The other nodes stay.
What rests here on the model's own reading or choice stands in log entries 2, 26 and 82. -/
def Obligations.NodeEntries : Prop :=
  ∀ (s : State) (k a : Nat), s.up → k < 16 → 1 ≤ a → a ≤ 254 →
    let key := nodeKey k a
    let n := s.dev.node key
    let cfg (on : Bool) := n.cfg &&& ~~~(putB 256 38 true) ||| putB 256 38 on
    let only (t : State) : Prop := (∀ q, q ≠ key → t.dev.node q = s.dev.node q) ∧
      s.frame t { s.dev with
        nodes := t.dev.nodes, flt := { s.dev.flt with eccUncorr := t.dev.flt.eccUncorr }
        ps := { s.dev.ps with points := t.dev.ps.points, alarms := t.dev.ps.alarms, subs := t.dev.ps.subs }
        ply := { s.dev.ply with digestDue := t.dev.ply.digestDue } }
    (nodeEn n.cfg = false → writeAdmitted (entryCmd 0x11 key 32 (cfg true).toNat) s →
      Runs (.nodeEnWrite k a true) s (fun t => only t ∧
        t.dev.node key = { n with cfg := cfg true &&& nodeMask, st := .identifying, miss := 0 } ∧
        (∀ i, i < nodeIn (cfg true &&& nodeMask) →
          let p := t.dev.point (nodeInBase (cfg true &&& nodeMask) + i)
          let o := s.dev.point (nodeInBase (cfg true &&& nodeMask) + i)
          p.srcKind = 1 ∧ p.srcIndex = BitVec.ofNat 28 (nodeSource key i) ∧ p.subst = o.substForce ∧
            (o.substForce = false → p.quality = 3 ∧ p.detail = 1) ∧
            (o.substForce = true → p.value = o.value ∧ p.quality = o.quality ∧ p.detail = o.detail)))) ∧
    (nodeEn n.cfg = true → writeAdmitted (entryCmd 0x11 key 32 (cfg false).toNat) s →
      Runs (.nodeEnWrite k a false) s (fun t => only t ∧
        t.dev.node key = { n with cfg := cfg false &&& nodeMask, st := .disabled } ∧
        (∀ i, i < nodeIn n.cfg →
          let p := nodeInBase n.cfg + i
          (s.dev.produces 1 (nodeSource key i) p = true → (s.dev.point p).quarantined = false →
            (t.dev.point p).srcKind = 0 ∧ (t.dev.point p).quality = 3) ∧
          (s.dev.produces 1 (nodeSource key i) p = false → t.dev.point p = s.dev.point p)))) ∧
    Runs (.nodeMemory k a) s (fun t => only t ∧ t.dev.flt.eccUncorr = satAdd s.dev.flt.eccUncorr 1 ∧
      nodeEn (t.dev.node key).cfg = false ∧ (nodeEn n.cfg = true → (t.dev.node key).st = .disabled) ∧
      (nodeEn n.cfg = false → t.dev.node key = n))

/-! ### Updates, resets, supplies and recovery mode (19 to 21) -/

/-- UPDATE_ERASED and UPDATE_VERIFIED (R589, R591): an erased slot takes data; a container that passes is marked for the
next boot, one that fails is REJECTED with the first failing check, and a flash error with reason 10. -/
def Obligations.UpdateEnds : Prop :=
  ∀ s : State, s.up →
    let r (e : Bool) := if e then 10 else containerCheck s.dev.flash.staged false s.dev.fresh0
    let rejected (n : Nat) (t : State) : Prop :=
      t.dev.upd = { s.dev.upd with st := .rejected, reason := BitVec.ofNat 8 n } ∧ s.frame t { s.dev with upd := t.dev.upd }
    (s.dev.upd.st = .erasing → Runs (.updateErased true) s (fun t =>
      t.dev.upd = { s.dev.upd with st := .opened } ∧ s.frame t { s.dev with upd := t.dev.upd })) ∧
    (s.dev.upd.st = .erasing → Runs (.updateErased false) s (rejected 10)) ∧
    (∀ b, s.dev.upd.st ≠ .erasing → Runs (.updateErased b) s (fun t => s.silent t s.dev)) ∧
    (∀ e, s.dev.upd.st = .verifying → Runs (.updateVerified e) s (fun t =>
      (r e ≠ 0 → rejected (r e) t) ∧
        (r e = 0 → t.dev.upd = { s.dev.upd with
            st := .staged, stagedVersion := (Image.bytes s.dev.flash.staged).version } ∧
          t.dev.flash = { s.dev.flash with marker := true } ∧
          s.frame t { s.dev with upd := t.dev.upd, flash := t.dev.flash }))) ∧
    (∀ e, s.dev.upd.st ≠ .verifying → Runs (.updateVerified e) s (fun t => s.silent t s.dev))

/-- The main domain is in reset: what it held is gone, with every strand off and every channel closed; the fuses, the
flash, the calendar, its alarms and the island stay (R603). -/
def Sys2Proof.Machine.mainLost (s t : State) : Prop :=
  t.dev.pwr.main = .reset ∧ t.dev.fuses = s.dev.fuses ∧ t.dev.flash = s.dev.flash ∧ t.dev.bk.cnt = s.dev.bk.cnt ∧
    t.dev.bk.alarms = s.dev.bk.alarms ∧ t.dev.bk.valid = s.dev.bk.valid ∧ t.isl = s.isl ∧ t.pending = s.pending ∧
    t.dev.ps = Dev.reset.ps ∧ t.dev.cp = Dev.reset.cp ∧ t.dev.tr = Dev.reset.tr ∧ t.dev.lines = Dev.reset.lines ∧
    t.dev.strands = Dev.reset.strands ∧ t.dev.nodes = Dev.reset.nodes ∧ t.dev.lg = Dev.reset.lg ∧
    t.dev.lp = Dev.reset.lp ∧ t.dev.mt = Dev.reset.mt ∧ t.dev.cl = Dev.reset.cl ∧ t.dev.sec = Dev.reset.sec ∧
    t.dev.tb = Dev.reset.tb

/-- PORST_ASSERT, RESTART_RESET and RESET_OUT_RELEASE (R162, R229, R566, R603, R605): a long enough pulse, or the restart that
a command asked for, once its completion record is out, resets the main domain; a short pulse does nothing. With RESET_OUT_N
high the PHY is out of its reset, and a management frame that waited for that is driven.
What rests here on the model's own reading or choice stands in log entries 42, 54 and 111. -/
def Obligations.MainResets : Prop :=
  ∀ s : State,
    (∀ ns, ns < 100 → Runs (.porstAssert ns) s (fun t => t = s)) ∧
    (∀ ns, 1000 ≤ ns → Runs (.porstAssert ns) s (fun t => mainLost s t ∧ t.dev.pwr.porst = true ∧ t.sram = s.sram)) ∧
    (∀ k, s.up → s.dev.pwr.restart = some k → s.dev.restartWaits = false →
      Runs .restartReset s (fun t => mainLost s t ∧ t.dev.pwr.marker = (k == RestartKind.device 1))) ∧
    (s.up → s.dev.pwr.restart = none ∨ s.dev.restartWaits = true → Runs .restartReset s (fun t => s.silent t s.dev)) ∧
    (s.dev.pwr.main ≠ .reset → s.dev.pwr.rstOut = true → Runs .resetOutRelease s (fun t =>
      t = { s with dev := { s.dev with
        pwr := { s.dev.pwr with rstOut := false }, out := if s.dev.net.mdioBusy then [.mdio s.dev.net.mdio] else []
        wire := [], wr := [] } })) ∧
    ((s.dev.pwr.main = .reset ∨ s.dev.pwr.rstOut = false) → Runs .resetOutRelease s (fun t => s.silent t s.dev))

/-- MAIN_RESET_RELEASE and THERMAL_RECOVER (R566, R589, R593, R600, R604, R633): the boot completes a partly blown fuse word;
then a SCRAPPED module, a restart marker, WAKE_N held low, a flash error in the install, or one in the active slot and a
rejected image, lead into recovery mode, in this order, and otherwise the firmware runs; a staged container that passes checks
1 to 9 becomes the active one, one that fails is discarded. That the factory image passes under the manufacture root is the model's
choice (log entry 7).
What rests here on the model's own reading or choice stands in log entries 51, 52 and 124. -/
def Obligations.BootDecides : Prop :=
  ∀ (s : State) (x : BootIn),
    let lc := s.dev.fuses.partly.getD s.dev.fuses.lifecycle
    let recovers (c : Nat) (t : State) : Prop := t.dev.pwr.main = .recovery ∧ t.dev.rcv = some (Recovery.start c) ∧
      t.dev.fuses.lifecycle = lc ∧ t.dev.fuses.partly = none ∧ t.sram = s.sram ∧ t.isl = s.isl
    let boots (t : State) : Prop :=
      (lc = 4 → recovers 4 t) ∧ (lc ≠ 4 → s.dev.pwr.marker = true → recovers 0 t) ∧
        (lc ≠ 4 → s.dev.pwr.marker = false → x.wakeLow = true → recovers 1 t) ∧
        (lc ≠ 4 → s.dev.pwr.marker = false → x.wakeLow = false →
          let flash := s.dev.flash
          let c := containerCheck flash.staged true { s.dev with fuses := { s.dev.fuses with lifecycle := lc, partly := none } }
          (flash.marker = true → x.flashErr = some 4 → recovers 3 t) ∧
          (flash.marker = true → x.flashErr ≠ some 4 → t.dev.flash.marker = false ∧
            t.dev.flash.active = (if c = 0 then .bytes flash.staged else flash.active)) ∧
          (flash.marker = false → t.dev.flash.active = flash.active) ∧
          (flash.marker = false ∨ x.flashErr ≠ some 4 → x.flashErr = some 5 → recovers 3 t) ∧
          (flash.marker = false → x.flashErr ≠ some 5 → flash.active = .factory →
            (lc = 1 → t.dev.pwr.main = .running ∧ t.dev.fuses.lifecycle = lc ∧ t.dev.tb.frame = s.dev.tb.frame ∧
              t.dev.lines = s.dev.lines ∧ t.dev.flash = { flash with noted := [] } ∧ t.isl = s.isl) ∧
            (lc ≠ 1 → recovers 2 t)))
    (s.dev.pwr.main = .reset → s.dev.bk.onVmain = true → s.dev.pwr.hot = false →
      Runs (.mainResetRelease x) s boots) ∧
    (s.dev.pwr.main ≠ .reset → Runs (.mainResetRelease x) s (fun t => s.silent t s.dev)) ∧
    (s.dev.pwr.main = .reset → (s.dev.bk.onVmain = false ∨ s.dev.pwr.hot = true) →
      Runs (.mainResetRelease x) s (fun t => s.silent t { s.dev with pwr := { s.dev.pwr with porst := false } })) ∧
    (s.dev.pwr.main = .reset → s.dev.bk.onVmain = true → s.dev.pwr.hot = true → s.dev.pwr.porst = false →
      Runs (.thermalRecover x) s boots) ∧
    (s.dev.pwr.hot = true → s.dev.pwr.porst = true → Runs (.thermalRecover x) s (fun t =>
      s.silent t { s.dev with pwr := { s.dev.pwr with hot := false } })) ∧
    (s.dev.pwr.hot = false → Runs (.thermalRecover x) s (fun t => s.silent t s.dev))

/-- SUPPLY_FAIL_WARNING, SUPPLY_CLEARED and SCRUB_PASS (R130, R283, R395, R396, R474, R476, R560, R620, R638): the warning captures the
metering records and the recorder's tail, abandons a periodic save, marks the copies that they will overwrite as invalid in the
retained SRAM, and writes no other byte; while the main domain stands it has no effect but on the pin. A scrub pass counts itself and the errors
that it found; a downlink buffer that fails puts its node's outputs into failsafe, a command whose held state fails while its
reply is under way ends.
What rests here on the model's own reading or choice stands in log entries 5, 8 and 78. -/
def Obligations.SupplyWarnings : Prop :=
  ∀ s : State,
    (s.up → s.dev.pwr.warn = false → Runs .supplyFailWarning s (fun t =>
      let base := if s.dev.mt.newest = some false then 0x2000 else 0
      t.dev.pwr = { s.dev.pwr with sense := true, warn := true } ∧ t.dev.rcd.tail.isSome = true ∧
        t.dev.mt = { s.dev.mt with saveDue := none, snapDue := some (saveRecords s.dev, s.dev.cal, s.dev.tb.frame, s.dev.siteTag) } ∧
        (∀ a, base ≤ a → a < base + 4 → Memory.read t.sram a = 0) ∧
        (∀ a, 0x4000 ≤ a → a < 0x4004 → Memory.read t.sram a = 0) ∧
        (∀ a, (a < base ∨ base + 4 ≤ a) → (a < 0x4000 ∨ 0x4004 ≤ a) → Memory.read t.sram a = Memory.read s.sram a) ∧
        t.dev.ply = s.dev.ply ∧ t.dev.ps = s.dev.ps ∧ t.dev.lines = s.dev.lines ∧
        t.dev.lp = s.dev.lp ∧ t.dev.lg = s.dev.lg ∧ t.dev.bk = s.dev.bk ∧ t.isl = s.isl)) ∧
    ((s.dev.isMain = false ∨ s.dev.pwr.warn = true) → Runs .supplyFailWarning s (fun t =>
      s.silent t { s.dev with pwr := { s.dev.pwr with sense := true } })) ∧
    (s.up → s.dev.pwr.warn = true → Runs .supplyCleared s (fun t =>
      t.dev.pwr = { s.dev.pwr with sense := false, warn := false } ∧ t.dev.rcd.tail = none ∧
        (∀ a, 0x4000 ≤ a → a < 0x4004 → Memory.read t.sram a = 0) ∧
        (∀ a, (a < 0x4000 ∨ 0x4004 ≤ a) → Memory.read t.sram a = Memory.read s.sram a) ∧
        t.dev.mt = s.dev.mt ∧ t.dev.ps = s.dev.ps ∧ t.dev.bk = s.dev.bk ∧ t.isl = s.isl)) ∧
    ((s.dev.isMain = false ∨ s.dev.pwr.warn = false) → Runs .supplyCleared s (fun t =>
      s.silent t { s.dev with pwr := { s.dev.pwr with sense := false } })) ∧
    (s.up → ∀ n m, Runs (.scrubPass ⟨n, [], [], m⟩) s (fun t => s.silent t { s.dev with flt := { s.dev.flt with
      scrubPass := s.dev.flt.scrubPass + 1, eccCorr := satAdd s.dev.flt.eccCorr n
      eccUncorr := satAdd s.dev.flt.eccUncorr m } })) ∧
    (s.up → ∀ k a, k < 16 → nodeEn (s.dev.node (nodeKey k a)).cfg = true →
      Runs (.scrubPass ⟨0, [], [(k, a)], 0⟩) s (fun t =>
        let c := (s.dev.node (nodeKey k a)).cfg
        ((t.dev.strand k).buffer a c).fsMask = maskOf 32 [(nodeIn c, nodeOut c)] ∧
          (∀ b x, b ≠ a → (t.dev.strand k).buffer b x = (s.dev.strand k).buffer b x) ∧
          (∀ j, j ≠ k → t.dev.strand j = s.dev.strand j) ∧
          s.silent t { s.dev with
            strands := t.dev.strands
            flt := { s.dev.flt with
              scrubPass := s.dev.flt.scrubPass + 1, eccCorr := satAdd s.dev.flt.eccCorr 0
              eccUncorr := satAdd s.dev.flt.eccUncorr 1 } })) ∧
    (s.up → ∀ ch tag c, ch ≤ 64 → tag < 128 → s.dev.slot ch tag = some c → c.stage = .replying → s.dev.endedHeld ch [tag] →
      Runs (.scrubPass ⟨0, [(ch, tag)], [], 0⟩) s (fun t =>
        c.ends stInternal s t ∧ t.dev.out = [] ∧
          s.frameCh t ch { s.dev with
            cp := t.dev.cp, bk := c.endsTimeSet s.dev.bk
            flt := { s.dev.flt with
              scrubPass := s.dev.flt.scrubPass + 1, eccCorr := satAdd s.dev.flt.eccCorr 0
              eccUncorr := satAdd s.dev.flt.eccUncorr 1 } }))

/-- Recovery mode (R598 to R600): the link search, the end of an erase, and the five requests. A request to this module is
answered; a repeated SEQ is answered alike and does nothing; what is no such request is ignored; END ends with the checks' reason, or 10 after a flash error.
What rests here on the model's own reading or choice stands in log entry 31. -/
def Obligations.RecoveryRequests : Prop :=
  ∀ (s : State) (r : Recovery) (m : RecoveryIn), s.dev.rcv = some r →
    let d := s.dev.fresh0
    let seq := fld (recHead m) 16 16
    let new (op : Nat) : Prop := recAccepts op m r d = true ∧ (∀ b, r.last ≠ some (seq, b))
    let alive := s.dev.fuses.lifecycle ≠ 4
    let answered (st : Nat) (bs : List Byte) (t : State) (r' : Recovery) : Prop :=
      t.dev.rcv = some { r' with last := some (seq, recReply m st bs d) } ∧
        (∃ src, t.dev.out = [.udp m.mac m.ip m.port src (recReply m st bs d)]) ∧
        ∃ f : EthFrame, t.dev.wire = [(0, f)] ∧ f.dst = m.mac ∧ f.src = d.portMac 0
    let only (t : State) : Prop := t = { s with dev := { s.dev with
      rcv := t.dev.rcv, flash := t.dev.flash, upd := t.dev.upd, wire := t.dev.wire, out := t.dev.out, wr := [] } }
    Runs .recoveryLinkSearch s (fun t => s.silent t { s.dev with
      rcv := some (if r.linkUp then r else { r with sgmii := !r.sgmii }) }) ∧
    Runs .recoveryEraseDone s (fun t => s.silent t { s.dev with rcv := some { r with erasing := false } }) ∧
    (new 1 → Runs (.recoveryIdent m) s (fun t => only t ∧ t.dev.flash = s.dev.flash ∧ t.dev.upd = s.dev.upd ∧
      answered rvOk (leBytes 4 0x0E1AFC64 ++ leBytes 4 (256 * d.fuses.variant.toNat + 0xB0) ++ d.serialBytes ++
        leBytes 4 Config.romVersion.toNat ++ leBytes 4 d.fwVersion.toNat ++
        [BitVec.ofNat 8 d.fuses.lifecycle, BitVec.ofNat 8 d.fuses.secFloor, BitVec.ofNat 8 r.cause]) t r)) ∧
    (∀ len, new 2 → alive → m.body.drop 16 = leBytes 4 len → 260 ≤ len → len ≤ 25165824 → len % 4 = 0 → m.flashErr = false →
      Runs (.recoveryBegin m) s (fun t => only t ∧ t.dev.flash = { s.dev.flash with
        staging := [], stagingLen := len, marker := false } ∧ answered rvOk [] t { r with len := some len, erasing := true })) ∧
    (∀ len, new 3 → alive → r.len = some len → r.erasing = false →
      let off := (fld (recHead m) 32 32).toNat
      let bs := m.body.drop 16
      4 ≤ bs.length → bs.length % 4 = 0 → off + bs.length ≤ len → m.flashErr = false →
      (∀ i, i < bs.length → stageAt s.dev.flash.staging (off + i) = none) →
      Runs (.recoveryData m) s (fun t => only t ∧ answered rvOk [] t r ∧
        t.dev.flash = { s.dev.flash with staging := t.dev.flash.staging } ∧
        ∀ i, i < bs.length → stageAt t.dev.flash.staging (off + i) = bs[i]?)) ∧
    (new 4 → alive → r.len.isSome = true → s.dev.flash.stagingFull = true →
      Runs (.recoveryEnd m) s (fun t => only t ∧
        let k := if m.flashErr then 10 else containerCheck s.dev.flash.staged true d
        (k ≠ 0 → t.dev.flash = s.dev.flash ∧ answered rvRejected [BitVec.ofNat 8 k] t r) ∧
          (k = 0 → t.dev.flash = { s.dev.flash with active := .bytes s.dev.flash.staged } ∧ answered rvOk [] t r))) ∧
    (new 5 → alive → Runs (.recoveryBoot m) s (fun t => mainLost s t ∧ t.dev.rcv = none ∧
      ∃ src, t.dev.out = [.udp m.mac m.ip m.port src (recReply m rvOk [] d)])) ∧
    (∀ (op : Nat) (i : Instr), (op, i) ∈ [(1, Instr.recoveryIdent m), (2, .recoveryBegin m), (3, .recoveryData m),
        (4, .recoveryEnd m), (5, .recoveryBoot m)] →
      (recAccepts op m r d = false → Runs i s (fun t => s.silent t s.dev)) ∧
        (∀ body, recAccepts op m r d = true → r.last = some (seq, body) → Runs i s (fun t =>
          (∃ src, t.dev.out = [.udp m.mac m.ip m.port src body]) ∧
            t = { s with dev := { s.dev with wire := t.dev.wire, out := t.dev.out, wr := [] } })))

/-! ### Logic tasks and control loops (09, 10) -/

/-- TASK_EN_WRITE, TASK_MEMORY, BANK_MEMORY and TASK_ENTRY_MEMORY (R64, R309, R315 to R317, R327 to R329, R638): a task that is
switched on runs from its next release, one that is switched off gives up its outputs; an error in the program of a RUNNING
task marks its entry and puts the task into FAULTED in phase D, one in a task entry does so at once, and its outputs turn BAD in
phase D; one in an unused bank entry only marks the entry. An entry that is marked already is not counted again. The other tasks stay.
What rests here on the model's own reading or choice stands in log entries 2, 17 and 104. -/
def Obligations.TaskEvents : Prop :=
  ∀ (s : State) (n : Nat), s.up → n < 8 →
    let k := s.dev.task n
    let cfg (on : Bool) := k.cfg &&& ~~~(putB 512 108 true) ||| putB 512 108 on
    let only (t : State) : Prop := (∀ m, m ≠ n → t.dev.task m = s.dev.task m) ∧ t.dev.lg.banks = s.dev.lg.banks ∧
      t.dev.lg.tick = s.dev.lg.tick ∧ s.frame t { s.dev with
        lg := t.dev.lg, flt := { s.dev.flt with eccUncorr := t.dev.flt.eccUncorr }
        ps := { s.dev.ps with points := t.dev.ps.points, alarms := t.dev.ps.alarms, subs := t.dev.ps.subs }
        ply := { s.dev.ply with digestDue := t.dev.ply.digestDue } }
    (k.st = .disabled → writeAdmitted (entryCmd 0x21 n 64 (cfg true).toNat) s →
      Runs (.taskEnWrite n true) s (fun t => only t ∧ (t.dev.task n).st = .running ∧
        (t.dev.task n).cfg = cfg true &&& taskMask ∧ (t.dev.task n).consec = 0 ∧ (t.dev.task n).scan = none ∧
        (t.dev.task n).scanCnt = k.scanCnt ∧ (t.dev.task n).faultCnt = k.faultCnt)) ∧
    (k.st ≠ .disabled → writeAdmitted (entryCmd 0x21 n 64 (cfg false).toNat) s →
      Runs (.taskEnWrite n false) s (fun t => only t ∧ (t.dev.task n).st = .disabled ∧
        (t.dev.task n).cfg = cfg false &&& taskMask ∧ (t.dev.task n).pend = false ∧ (t.dev.task n).cost = 0 ∧
        ∀ p ∈ s.dev.taskPoints n, (s.dev.point p).quarantined = false →
          (t.dev.point p).srcKind = 0 ∧ (t.dev.point p).quality = 3)) ∧
    (∀ pos iid, (Instr.taskMemory n pos iid).wellFormed = true → k.st = .running →
      Runs (.taskMemory n pos iid) s (fun t => only t ∧
        t.dev.task n = { k with memDue := some (k.memDue.getD (pos, iid)) } ∧ t.dev.ps = s.dev.ps ∧
        (∀ q, tget false t.dev.lg.marked q = if q = bankIndex k.bank pos then true else tget false s.dev.lg.marked q) ∧
        t.dev.flt.eccUncorr = (if tget false s.dev.lg.marked (bankIndex k.bank pos) then s.dev.flt.eccUncorr
          else satAdd s.dev.flt.eccUncorr 1) ∧
        (k.memDue = none →
          let d := taskCommit n t.dev
          (d.task n).st = .faulted ∧ (d.task n).lastFault = 3 ∧ (d.task n).faultCnt = k.faultCnt + 1 ∧
            (d.task n).scan = none ∧ (d.task n).memDue = none ∧ (∀ m, m ≠ n → d.task m = s.dev.task m) ∧
            tget false d.lg.marked (bankIndex k.bank pos) = true))) ∧
    (∀ pos iid, (Instr.taskMemory n pos iid).wellFormed = true → k.st ≠ .running →
      Runs (.taskMemory n pos iid) s (fun t => s.silent t s.dev)) ∧
    Runs (.taskEntryMemory n) s (fun t => only t ∧ (t.dev.task n).st = .faulted ∧ (t.dev.task n).lastFault = 3 ∧
      (t.dev.task n).faultCnt = k.faultCnt + 1 ∧ t.dev.ps = s.dev.ps ∧
      (t.dev.task n).cfg = (Task.reset.cfg &&& ~~~(putB 512 108 true)) ||| (k.cfg &&& putB 512 108 true) ∧
      t.dev.flt.eccUncorr = satAdd s.dev.flt.eccUncorr 1 ∧
      (k.failPts = none → ∀ p ∈ s.dev.imagePoints n, p ∉ k.dropPts → (s.dev.point p).subst = false →
        (s.dev.point p).quarantined = false →
          let x := (taskCommit n t.dev).point p
          x.quality = 2 ∧ x.detail = 0x0D ∧ x.value = (s.dev.point p).value)) ∧
    (∀ i, i < 262144 → (∀ m < 8, (s.dev.task m).st = .running → (s.dev.task m).bank = i / 131072 →
        (s.dev.task m).holds (i / 131072) (i % 131072) = false) → tget false s.dev.lg.marked i = false →
      Runs (.bankMemory i) s (fun t => only t ∧ t.dev.task n = k ∧ t.dev.ps = s.dev.ps ∧
        (∀ q, tget false t.dev.lg.marked q = if q = i then true else tget false s.dev.lg.marked q) ∧
        t.dev.flt.eccUncorr = satAdd s.dev.flt.eccUncorr 1)) ∧
    (∀ i, i < 262144 → (tget false s.dev.lg.marked i = true ∨ ∃ m < 8, (s.dev.task m).st = .running ∧
        (s.dev.task m).bank = i / 131072 ∧ (s.dev.task m).holds (i / 131072) (i % 131072) = true) →
      Runs (.bankMemory i) s (fun t => s.silent t s.dev))

/-- LOOP_EN_WRITE, LOOP_MODE_WRITE, LOOP_FOLLOWING_ERROR and LOOP_MEMORY (R64, R339, R348, R351, R354, R356): a loop that is
switched on starts in INIT and owns its output; a change of mode is bumpless; a following error whose timer stands at FE_TIME
or beyond it without tracking causes the reaction of FE_ACTION; a damaged record is FAULTED, its outputs are BAD, and a channel that it drove
takes its failsafe (R96, R415). The other loops stay.
What rests here on the model's own reading or choice stands in log entries 2, 100 and 101. -/
def Obligations.LoopEvents : Prop :=
  ∀ (s : State) (j : Nat), s.up → j < 2112 →
    let l := s.dev.loop j
    let cfg (on : Bool) := l.cfg &&& ~~~(putB 1024 220 true) ||| putB 1024 220 on
    let mode (auto_ : Bool) := (l.setCfg 225 2 (if auto_ then 1 else 0)).cfg
    let only (t : State) : Prop := (∀ m, m ≠ j → t.dev.loop m = s.dev.loop m) ∧ s.frame t { s.dev with
        lp := t.dev.lp, cl := t.dev.cl, flt := { s.dev.flt with eccUncorr := t.dev.flt.eccUncorr }
        ps := { s.dev.ps with points := t.dev.ps.points, alarms := t.dev.ps.alarms, subs := t.dev.ps.subs }
        ply := { s.dev.ply with digestDue := t.dev.ply.digestDue } }
    (l.en = false → writeAdmitted (entryCmd 0x30 j 128 (cfg true).toNat) s →
      Runs (.loopEnWrite j true) s (fun t => only t ∧
        t.dev.loop j = { Loop.reset with cfg := cfg true &&& loopMask, st := .init } ∧
        (t.dev.point (t.dev.loop j).outPt).srcKind = 3 ∧
        (t.dev.point (t.dev.loop j).outPt).srcIndex = BitVec.ofNat 28 j)) ∧
    (l.en = true → writeAdmitted (entryCmd 0x30 j 128 (cfg false).toNat) s →
      Runs (.loopEnWrite j false) s (fun t => only t ∧ t.dev.loop j = { Loop.reset with cfg := cfg false &&& loopMask } ∧
        ∀ p ∈ s.dev.loopPoints j, (s.dev.point p).quarantined = false →
          (t.dev.point p).srcKind = 0 ∧ (t.dev.point p).quality = 3)) ∧
    (l.en = true → l.mode = 1 → (l.st = .auto ∨ l.st = .hold) →
      writeAdmitted (entryCmd 0x30 j 128 (mode false).toNat) s →
      Runs (.loopModeWrite j false) s (fun t => only t ∧ (t.dev.loop j).st = .manual ∧ (t.dev.loop j).mode = 0 ∧
        (t.dev.loop j).uf 672 32 = l.outLast.toNat ∧ (t.dev.loop j).outLast = l.outLast)) ∧
    (l.en = true → l.mode = 0 → l.st = .manual → writeAdmitted (entryCmd 0x30 j 128 (mode true).toNat) s →
      Runs (.loopModeWrite j true) s (fun t => only t ∧ (t.dev.loop j).st = .auto ∧ (t.dev.loop j).mode = 1 ∧
        (t.dev.loop j).backCalc = true ∧ (t.dev.loop j).outLast = l.outLast)) ∧
    (l.st = .auto → l.tracking = false → l.feTime ≠ 0 → l.feTime ≤ l.feTmr.toNat → l.feActive = false →
      Runs (.loopFollowingError j) s (fun t => only t ∧ t.dev.ps = s.dev.ps ∧ t.dev.cl = s.dev.cl ∧
        (t.dev.loop j).feActive = true ∧
        (t.dev.loop j).feTmr = (if l.feAction = 1 then 0 else BitVec.ofNat 16 l.feTime) ∧
        (t.dev.loop j).outLast = l.outLast ∧ t.dev.lp.feCnt = satAdd s.dev.lp.feCnt 1 ∧
        (l.feAction = 1 → (t.dev.loop j).st = .manual ∧ (t.dev.loop j).mode = 0 ∧
          (t.dev.loop j).uf 672 32 = l.outLast.toNat) ∧
        (l.feAction = 2 → (t.dev.loop j).st = .faulted ∧ (t.dev.loop j).lastFault = 1) ∧
        (l.feAction ≠ 1 → l.feAction ≠ 2 → (t.dev.loop j).st = .auto))) ∧
    ((l.st ≠ .auto ∨ l.tracking = true ∨ l.feTime = 0 ∨ l.feTmr.toNat < l.feTime ∨ l.feActive = true) →
      Runs (.loopFollowingError j) s (fun t => s.silent t s.dev)) ∧
    (l.st ≠ .disabled → Runs (.loopMemory j) s (fun t => only t ∧
      (let ch := if isFast j then l.drives else none
       t.dev.loop j = { l with
         cfg := loopCfgReset ||| putB 1024 220 true, st := .faulted, lastFault := 3, out := none, lostCl := ch } ∧
         (∀ c, ch ≠ some c → t.dev.cloop c = s.dev.cloop c) ∧
         ∀ c, ch = some c → t.dev.cloop c = (let o := s.dev.cloop c
           if !o.isOutput then o else if o.fsHold && o.spEver then { o with clamped := false }
           else { o with spAct := BitVec.ofNat 32 o.fsUa, clamped := false })) ∧
        t.dev.flt.eccUncorr = satAdd s.dev.flt.eccUncorr 1 ∧
        ∀ p ∈ s.dev.loopPoints j, (s.dev.point p).quarantined = false → (s.dev.point p).subst = false →
          (t.dev.point p).quality = 2 ∧ (t.dev.point p).detail = 0x0E)) ∧
    (l.st = .disabled → Runs (.loopMemory j) s (fun t => t.dev.loop j = { l with cfg := loopCfgReset } ∧
      (∀ m, m ≠ j → t.dev.loop m = s.dev.loop m) ∧
      s.silent t { s.dev with
        lp := { s.dev.lp with loops := t.dev.lp.loops }
        flt := { s.dev.flt with eccUncorr := satAdd s.dev.flt.eccUncorr 1 } }))

/-! ### Metering (11) -/

/-- METER_ZERO_CROSSING, SENSOR_CONDITION, PULSE_END, ACC_PRESET and CHANNEL_MEMORY (R64, R372 to R374, R387, R393, R401,
R405): a crossing of the tracking phase is timed, and four good periods give synchronisation; a channel takes the condition
that its counts give; a pulse ends after WIDTH_MS; a preset replaces the accumulators of its mask; a damaged entry is
disabled and its points are BAD. Everything else of the engine stays.
What rests here on the model's own reading or choice stands in log entries 11 and 106. -/
def Obligations.MeterEvents : Prop :=
  ∀ s : State, s.up →
    let d := s.dev
    let only (t : State) : Prop := s.frame t { s.dev with mt := t.dev.mt }
    let others (c : Nat) (t : State) : Prop := ∀ b, b ≠ c → t.dev.mchan b = s.dev.mchan b
    (∀ x phase frac, x < 2 → 1 ≤ phase → phase ≤ 3 → frac < 65536 →
      let v := d.vset x
      let now := (32 * d.tb.ran + d.tb.sample) * 65536 + frac
      let pers := match v.lastCross with
        | some a => if phase = v.phase then ((now + 2 ^ 53 - a) % 2 ^ 53 :: v.periods).take 4 else v.periods
        | none => v.periods
      let good := d.phaseOk x (phase - 1) = true ∧ pers.length = 4 ∧ ∀ n ∈ pers, inRange (d.nom x) n = true
      (phase ≠ d.trackPhase x → Runs (.meterZeroCrossing x phase frac) s (fun t =>
        (t.dev.bk.win = d.bk.win ∨ t.dev.bk.win = none) ∧
          s.silent t { s.dev with bk := { s.dev.bk with win := t.dev.bk.win } })) ∧
      (phase = d.trackPhase x → Runs (.meterZeroCrossing x phase frac) s (fun t =>
        s.frame t { s.dev with
          mt := t.dev.mt, fresh := t.dev.fresh, bk := { s.dev.bk with
            win := t.dev.bk.win, trimPpb := t.dev.bk.trimPpb, lastErr := t.dev.bk.lastErr
            lastMeas := t.dev.bk.lastMeas, srcUsed := t.dev.bk.srcUsed, rejectCnt := t.dev.bk.rejectCnt } } ∧
        (t.dev.vset x).lastCross = some now ∧ (t.dev.vset x).phase = phase ∧
        (t.dev.vset x).periods = pers ∧ (good → (t.dev.vset x).sync = true) ∧
        (¬good → (t.dev.vset x).sync = false) ∧
        t.dev.vset (1 - x) = d.vset (1 - x) ∧ t.dev.mt.engine = d.mt.engine ∧ t.dev.mt.harm = d.mt.harm ∧
        ∀ c, c ∉ d.setChans x → t.dev.mchan c = d.mchan c ∧ t.dev.acc c = d.acc c))) ∧
    (∀ c, c < 78 →
      let m := d.mchan c
      let x := m.condDue (isVolt c)
      (x = m.cond → Runs (.sensorCondition c) s (fun t => s.silent t s.dev)) ∧
      (x ≠ m.cond → Runs (.sensorCondition c) s (fun t => only t ∧ others c t ∧
        t.dev.mchan c = { m with cond := x } ∧
        (x = .openWire → (t.dev.mchan c).rdc = 0xFFFFFFFF) ∧
        (x ≠ .openWire → (t.dev.mchan c).rdc = satNat 32 (m.rdcMean.getD 0)) ∧
        t.dev.mt = { s.dev.mt with chans := t.dev.mt.chans }))) ∧
    (∀ k, k < 8 →
      let p := d.pulse k
      (∀ n, p.active = some n → p.width ≤ n → Runs (.pulseEnd k) s (fun t =>
        t.dev.pulse k = { p with active := none, gap := some 0, pin := p.pol } ∧
          (∀ j, j ≠ k → t.dev.pulse j = d.pulse j) ∧
          s.silent t { s.dev with mt := { s.dev.mt with pulses := t.dev.mt.pulses } })) ∧
      ((p.active = none ∨ ∃ n, p.active = some n ∧ n < p.width) →
        Runs (.pulseEnd k) s (fun t => s.silent t s.dev))) ∧
    (∀ (c : Nat) (mask : BitVec 7) (img : BitVec 1024), c < 72 →
      let a := d.acc c
      (mask = 0 → Runs (.accPreset c mask img) s (fun t => s.silent t s.dev)) ∧
      (mask ≠ 0 → Runs (.accPreset c mask img) s (fun t => only t ∧
        t.dev.mt = { s.dev.mt with accs := t.dev.mt.accs } ∧ (∀ b, b ≠ c → t.dev.acc b = d.acc b) ∧
        t.dev.acc c = { a with preset := true, acc := (t.dev.acc c).acc, residue := (t.dev.acc c).residue } ∧
        ∀ j, j < 7 →
          tget 0 (t.dev.acc c).acc j = (if bit mask j then fld img (96 * j) 96 else tget 0 a.acc j) ∧
          tget 0 (t.dev.acc c).residue j = if bit mask j then 0 else tget 0 a.residue j))) ∧
    (∀ n, n < 87 → Runs (.channelMemory n) s (fun t =>
      t.dev.flt.eccUncorr = satAdd s.dev.flt.eccUncorr 1 ∧ others n t ∧
        (∀ k, k + 78 ≠ n → t.dev.pulse k = d.pulse k) ∧
        (∀ c, t.dev.acc c = d.acc c) ∧ (∀ x, t.dev.vset x = d.vset x) ∧
        (n < 78 → (t.dev.mchan n).en = false ∧ (t.dev.mchan n).memBad = true ∧ (t.dev.mchan n).due = [] ∧
          (t.dev.mchan n).harmDue = none ∧
          t.dev.mt.engine = d.mt.engine ∧
          ∀ p ∈ d.meterPoints n, (d.point p).quarantined = false → (d.point p).subst = false →
            (t.dev.point p).quality = 2 ∧ (t.dev.point p).detail = 0x0C) ∧
        (78 ≤ n → n < 86 → (t.dev.pulse (n - 78)).en = false ∧ (t.dev.pulse (n - 78)).active = none ∧
          (t.dev.pulse (n - 78)).pin = false ∧
          t.dev.ps = s.dev.ps ∧ t.dev.mt.engine = d.mt.engine) ∧
        (n = 86 → t.dev.mt.engine = engineReset ∧ t.dev.ps = s.dev.ps) ∧
        s.frame t { s.dev with
          mt := t.dev.mt, flt := { s.dev.flt with eccUncorr := t.dev.flt.eccUncorr }
          ps := { s.dev.ps with points := t.dev.ps.points, alarms := t.dev.ps.alarms, subs := t.dev.ps.subs } }))

/-- METER_PERIODIC_SAVE, METER_SNAPSHOT and ACC_MEMORY (R395 to R397, R407): a periodic save captures the records and
begins with MAGIC 0 in the copy that is not the newest; a snapshot replaces that copy, which then reads back as valid with
its number, kind, time, SITE_TAG as captured and records. The other bytes of the retained SRAM stay. A damaged accumulator takes the record of the
newest valid copy, or 0. The periodic save's copy is complete at the boundary into sample 3: that is the model's choice (log
entry 107).
What rests here on the model's own reading or choice stands in log entries 5, 59 and 124. -/
def Obligations.MeterSaves : Prop :=
  ∀ s : State, s.up →
    let d := s.dev
    let b : Bool := d.mt.newest == some false
    let base := if b then 0x2000 else 0
    let begins (s t : State) : Prop :=
      (∀ a, base ≤ a → a < base + 4 → Memory.read t.sram a = 0) ∧
        ∀ a, (a < base ∨ base + 4 ≤ a) → Memory.read t.sram a = Memory.read s.sram a
    let saved (s t : State) (kind : Nat) (cal frame : W64) (tag : Reg) (recs : List Byte) : Prop :=
      readCopy (d.format 1) (Memory.read t.sram) b = some (d.mt.saveSeq + 1, kind, cal, tag, recs) ∧
        leBits 64 ((List.range 8).map (fun i => Memory.read t.sram (base + 40 + i))) = frame ∧
        (∀ a, (a < base ∨ base + 8128 ≤ a) → Memory.read t.sram a = Memory.read s.sram a) ∧
        t.dev.mt.newest = some b ∧ t.dev.mt.saveSeq = d.mt.saveSeq + 1 ∧ t.dev.mt.saveCnt = d.mt.saveCnt + 1 ∧
        t.dev.mt.saveDue = none
    (d.tb.frame.toNat % 1000 = 0 → d.tb.sample = 0 → d.mt.savedAt ≠ some d.tb.frame → d.mt.snapDue = none →
      Runs .meterPeriodicSave s (fun t => begins s t ∧
        { s with sram := t.sram }.silent t { s.dev with
          mt := { s.dev.mt with
            savedAt := some d.tb.frame, saveDue := some (saveRecords d, d.tb.frame, d.cal, d.siteTag) } })) ∧
    ((d.tb.frame.toNat % 1000 ≠ 0 ∨ d.tb.sample ≠ 0 ∨ d.mt.savedAt = some d.tb.frame ∨ d.mt.snapDue ≠ none) →
      Runs .meterPeriodicSave s (fun t => s.silent t s.dev)) ∧
    (∀ recs cal frame tag, d.mt.saveDue = some (recs, frame, cal, tag) → recs.length = 8064 →
      ((d.tb.sample < 3 ∧ d.tb.frame = frame) → saveSample d = d) ∧
      (¬(d.tb.sample < 3 ∧ d.tb.frame = frame) →
        ∃ t : State, s.withSram (fun _ => saveSample) = t ∧ saved s t 1 cal frame tag recs)) ∧
    (∀ us recs cal frame tag, d.mt.snapDue = some (recs, cal, frame, tag) → recs.length = 8064 →
      Runs (.meterSnapshot us) s (fun t => saved s t 2 cal frame tag recs ∧ t.dev.mt.snapDue = none ∧
        t.dev.mt.snapUs = satNat 16 us ∧
        { s with sram := t.sram }.frame t { s.dev with
          mt := { s.dev.mt with
            newest := t.dev.mt.newest, saveSeq := t.dev.mt.saveSeq, saveCnt := t.dev.mt.saveCnt
            saveDue := none, snapDue := t.dev.mt.snapDue, snapUs := t.dev.mt.snapUs }
          bk := { s.dev.bk with badA := s.dev.bk.badA && b, badB := s.dev.bk.badB && !b } })) ∧
    (∀ us, d.mt.snapDue = none → Runs (.meterSnapshot us) s (fun t => s.silent t s.dev)) ∧
    (∀ c, c < 72 → Runs (.accMemory c) s (fun t =>
      (∀ k, k ≠ c → t.dev.acc k = d.acc k) ∧ t.dev.flt.eccUncorr = satAdd d.flt.eccUncorr 1 ∧
        s.frame t { s.dev with
          mt := { s.dev.mt with accs := t.dev.mt.accs }, flt := { s.dev.flt with eccUncorr := t.dev.flt.eccUncorr } } ∧
        (∀ x, newestCopy (d.format 1) d.bk.badA d.bk.badB (Memory.read s.sram) = some x →
          let rec_ : BitVec 896 := leBits 896 (slice x.2.2.2.2.2 (112 * c) 112)
          t.dev.acc c = { d.acc c with
            memRestored := true, lossUnsaved := true, acc := (t.dev.acc c).acc, residue := (t.dev.acc c).residue } ∧
            ∀ j, j < 7 → tget 0 (t.dev.acc c).acc j = fld rec_ (96 * j) 96 ∧
              tget 0 (t.dev.acc c).residue j = fld rec_ (672 + 32 * j) 32) ∧
        (newestCopy (d.format 1) d.bk.badA d.bk.badB (Memory.read s.sram) = none →
          t.dev.acc c = { d.acc c with acc := [], residue := [] })))

/-! ### Current loops and HART (12) -/

/-- CL_CONDITION, CL_MEMORY and the HART events (R156, R417, R422 to R425, R428): a channel takes the condition that its
runs give, and a reversed output is switched off; a transaction serves the waiting mailbox request before the next address
of the poll, goes out with the channel's preambles in its frame form, a poll as command 3 to the polling address, modulates the demand of an output channel, is sent again
at most HRETRY times, and ends with the reply, or without one; a poll takes a reply of command 3 with its nine data bytes only;
a damaged entry is disabled and its points are BAD. The other channels stay.
What rests here on the model's own reading or choice stands in log entries 19, 60, 102 and 125. -/
def Obligations.CurrentLoopEvents : Prop :=
  ∀ (s : State) (k : Nat), s.up → k < 8 →
    let c := s.dev.cloop k
    let only (t : State) : Prop := (∀ j, j ≠ k → t.dev.cloop j = s.dev.cloop j) ∧
      s.frame t { s.dev with cl := t.dev.cl }
    let sends (t : State) : Prop := ∃ f, (t.dev.cloop k).hartFrame = some f ∧ t.dev.out = [.hart k f] ∧
      f.preambles = c.preambles ∧ f.swing = (if c.role = 2 then some 500 else none) ∧
      (t.dev.cloop k).tone = (if c.role = 2 then some ⟨f.bits, 0, 0⟩ else none) ∧
      ∀ a, (t.dev.cloop k).trans = some (.poll a) → f.long = false ∧ f.addr = BitVec.ofNat 40 a ∧ f.cmd = 3 ∧ f.data = []
    (c.condDue = c.cond → Runs (.clCondition k) s (fun t => s.silent t s.dev)) ∧
    (c.condDue ≠ c.cond → Runs (.clCondition k) s (fun t => only t ∧ t.dev.cloop k = { c with
      cond := c.condDue, clFlag := c.flagOf c.condDue
      drvOff := c.drvOff || (c.condDue == .reversed && c.role == 2)
      drv := if c.condDue = .reversed ∧ c.role = 2 then 0 else c.drv })) ∧
    (c.inHart = true → c.trans = none → c.mbState = .pending → Runs (.hartTransactionStart k) s (fun t => only t ∧
      t.dev.cloop k = { c with
          mbState := .busy, trans := some .mailbox, retries := 0, txCnt := c.txCnt + 1
          tone := (t.dev.cloop k).tone } ∧ sends t)) ∧
    (∀ a, c.inHart = true → c.trans = none → c.mbState ≠ .pending → c.nextPoll = some a →
      Runs (.hartTransactionStart k) s (fun t => only t ∧
        t.dev.cloop k = { c with
          trans := some (.poll a), lastPoll := a, retries := 0, txCnt := c.txCnt + 1
          tone := (t.dev.cloop k).tone } ∧ sends t)) ∧
    ((c.inHart = false ∨ c.trans ≠ none ∨ (c.mbState ≠ .pending ∧ c.nextPoll = none)) →
      Runs (.hartTransactionStart k) s (fun t => s.silent t s.dev)) ∧
    (∀ cmd resp devst (bytes : List Byte), (Instr.hartReply k cmd resp devst bytes).wellFormed = true →
      (c.trans = some .mailbox → Runs (.hartReply k cmd resp devst bytes) s (fun t => only t ∧
        t.dev.cloop k = { c with
          trans := none, mbState := .done, mbCmd := BitVec.ofNat 16 cmd, mbResp := BitVec.ofNat 8 resp
          mbDevst := BitVec.ofNat 8 devst, mbLen := BitVec.ofNat 8 bytes.length
          mbTrunc := decide (160 < bytes.length), mbData := bytes.take 160, mbSeq := c.mbSeq + 1 })) ∧
      (∀ a, c.trans = some (.poll a) → (cmd ≠ 3 ∨ bytes.length < 9) →
        Runs (.hartReply k cmd resp devst bytes) s (fun t => s.silent t s.dev)) ∧
      (∀ a, c.trans = some (.poll a) → cmd = 3 → 9 ≤ bytes.length → Runs (.hartReply k cmd resp devst bytes) s (fun t => only t ∧
        tget 0 (t.dev.cloop k).missed a = 0 ∧ (∀ b, b ≠ a → tget 0 (t.dev.cloop k).missed b = tget 0 c.missed b) ∧
        t.dev.cloop k = { c with
          trans := none, missed := (t.dev.cloop k).missed
          hartDue := c.hartDue ++ [(a, some (BitVec.ofNat 64 (beNat (slice bytes 5 4))),
            if devst / 128 % 2 = 1 then 2 else 0, if devst / 128 % 2 = 1 then 0x81 else 0, s.dev.cal)] })) ∧
      (c.trans = none → Runs (.hartReply k cmd resp devst bytes) s (fun t => s.silent t s.dev))) ∧
    (c.trans ≠ none → c.retries < c.hretry → Runs (.hartRetry k) s (fun t => only t ∧
      t.dev.cloop k = { c with
          retries := c.retries + 1, errCnt := c.errCnt + 1, txCnt := c.txCnt + 1
          tone := (t.dev.cloop k).tone } ∧ sends t)) ∧
    ((c.trans = none ∨ c.hretry ≤ c.retries) → Runs (.hartRetry k) s (fun t => s.silent t s.dev)) ∧
    (∀ bad : Bool,
      (c.trans = some .mailbox → c.hretry ≤ c.retries → Runs (.hartNoReply k bad) s (fun t => only t ∧
        t.dev.cloop k = { c with
          trans := none, errCnt := c.errCnt + 1, mbState := if bad then .badFrame else .noReply })) ∧
      (∀ a, c.trans = some (.poll a) → c.hretry ≤ c.retries →
        let n := min (tget 0 c.missed a + 1) 255
        Runs (.hartNoReply k bad) s (fun t => only t ∧
          tget 0 (t.dev.cloop k).missed a = n ∧ (∀ b, b ≠ a → tget 0 (t.dev.cloop k).missed b = tget 0 c.missed b) ∧
          t.dev.cloop k = { c with
            trans := none, errCnt := c.errCnt + 1, missed := (t.dev.cloop k).missed
            hartDue := c.hartDue ++ [(a, none, if c.hlost ≤ n then 2 else 1, if c.hlost ≤ n then 0x08 else 0x07,
              s.dev.cal)] })) ∧
      ((c.trans = none ∨ c.retries < c.hretry) → Runs (.hartNoReply k bad) s (fun t => s.silent t s.dev))) ∧
    (c.inHart = true → Runs (.hartBurstFrame k) s (fun t =>
      t.dev.cloop k = { c with errCnt := c.errCnt + 1 } ∧ s.silent t { s.dev with cl := t.dev.cl } ∧ only t)) ∧
    (c.inHart = false → Runs (.hartBurstFrame k) s (fun t => s.silent t s.dev)) ∧
    Runs (.clMemory k) s (fun t =>
      t.dev.cloop k = { c with
        cfg := c.cfg &&& ~~~(putB 2048 0 true), drvOff := true, drv := 0, trans := none, tone := none, memBad := true
        clFlag := false
        hartDue := [] } ∧
        (∀ j, j ≠ k → t.dev.cloop j = s.dev.cloop j) ∧ t.dev.flt.eccUncorr = satAdd s.dev.flt.eccUncorr 1 ∧
        (∀ p ∈ s.dev.clPoints k, (s.dev.point p).quarantined = false → (s.dev.point p).subst = false →
          (t.dev.point p).quality = 2 ∧ (t.dev.point p).detail = 0x0C) ∧
        s.frame t { s.dev with
          cl := t.dev.cl, flt := { s.dev.flt with eccUncorr := t.dev.flt.eccUncorr }
          ps := { s.dev.ps with points := t.dev.ps.points, alarms := t.dev.ps.alarms, subs := t.dev.ps.subs } })

/-! ### Recorder and backup domain (14, 15) -/

/-- The armed alarms that the calendar has reached become due, others stay (R499). -/
def Sys2Proof.Machine.alarmsMarked (late : Bool) (now : W64) (b b' : Backup) : Prop :=
  ∀ k, b'.alarm k = if k < 8 ∧ (b.alarm k).st = .armed ∧ (b.alarm k).due = none ∧ (b.alarm k).reached now = true then
    { b.alarm k with due := some late } else b.alarm k

/-- RTC_COUNT, OSC_STOPPED, CAL_SLEW_DONE, CAL_PTP_COMPARE and UTC_OFFSET_STEP (R489, R491, R492, R495 to R497, R499): a
count adds 1, the trim's correction and a slew's share of at most 500 ppm, and a waiting TIME_SET applies at it, past its completion limit with INTERNAL;
an alarm whose TARGET a forward step at this count has passed is late; network
time steps the calendar by more than 10 ms and slews it by less, whatever slew runs; such a step sets CAL_SET and
clears OSC_STOPPED (R496); alarms that are passed fall due; a step of UTC_OFFSET leaves a slew as it is.
What rests here on the model's own reading or choice stands in log entries 8, 71 and 109. -/
def Obligations.CalendarEvents : Prop :=
  ∀ s : State,
    let b := s.dev.bk
    let only (t : State) (b' : Backup) : Prop := t.dev.bk = b' ∧ s.frame t { s.dev with bk := b' }
    (b.utcStep = none → (∀ k, k < 8 → (b.alarm k).due = none) → (b.slewing = false ∨ b.slewLeft ≠ 0) →
      let a := b.trimAcc + b.trimPpb
      let trim : Int := if 1000000000 ≤ a then 1 else if a ≤ -1000000000 then -1 else 0
      let wait := if b.slewing then b.slewAcc + 1 else 0
      let slew : Int := if b.slewing = true ∧ b.slewLeft ≠ 0 ∧ trim = 0 ∧ 2000 ≤ wait then
        (if 0 < b.slewLeft then 1 else -1) else 0
      let n := ((b.cnt : Int) + 1 + trim + slew).toNat
      let counted (t : State) : Backup := { b with
        cnt := n, trimAcc := a - 1000000000 * trim, slewLeft := b.slewLeft - slew
        slewAcc := if slew = 0 then wait else wait - 2000, win := t.dev.bk.win, alarms := t.dev.bk.alarms }
      (b.timeSet = [] → Runs .rtcCount s (fun t => t.dev.bk = counted t ∧ s.silent t { s.dev with bk := counted t } ∧
        alarmsMarked false (calOf n) b t.dev.bk)) ∧
      (∀ x, b.timeSet = [x] → x.ended = false →
        let goal : Nat := (placeStamp (if b.calSet then some n else none) x.cal).getD n
        let fell (k : Nat) : Bool := decide (k < 8) && (b.alarm k).st == .armed && (b.alarm k).reached (calOf n)
        let stepped (t : State) : Backup := { counted t with
          cnt := goal, calSet := true, oscStopped := false, slewing := false, slewLeft := 0, slewAcc := 0, timeSet := [] }
        Runs .rtcCount s (fun t =>
          (x.slew = true → t.dev.bk = { counted t with
            slewLeft := (goal : Int) - (n : Int), slewing := true, slewAcc := 0, timeSet := [] } ∧
            alarmsMarked false (calOf n) b t.dev.bk) ∧
          (x.slew = false → n < goal → t.dev.bk = stepped t ∧ ∀ k, t.dev.bk.alarm k =
            if k < 8 ∧ (b.alarm k).st = .armed ∧ (b.alarm k).reached (calOf goal) = true then
              { b.alarm k with due := some true }
            else if fell k then { b.alarm k with due := some false } else b.alarm k) ∧
          (x.slew = false → goal ≤ n → (∀ k, fell k = false) → t.dev.bk = stepped t ∧ ∀ k, t.dev.bk.alarm k = b.alarm k) ∧
          (x.slew = true ∨ n < goal ∨ (∀ k, fell k = false) →
            s.frameCh t x.ch { s.dev with bk := t.dev.bk, cp := t.dev.cp }) ∧
          ∀ c, s.dev.slot x.ch x.tag = some c → c.seq = x.seq → c.stage = .replying →
            (c.pastLimit s.dev = false → (t.dev.slot x.ch x.tag).map (·.stage) = if c.n then none else some .finished) ∧
            (c.pastLimit s.dev = true → (t.dev.slot x.ch x.tag).map (·.stage) = some .finished ∧
              ∃ y, (t.dev.chan x.ch).holds y ∧ y.status = BitVec.ofNat 8 stInternal ∧ y.seq = c.seq)))) ∧
    Runs .oscStopped s (fun t => only t { b with
      oscStopped := true, calSet := false, oscReport := b.oscReport || !s.dev.isMain }) ∧
    (b.slewing = true → b.slewLeft = 0 → Runs .calSlewDone s (fun t => only t { b with slewing := false, slewAcc := 0 })) ∧
    ((b.slewing = false ∨ b.slewLeft ≠ 0) → Runs .calSlewDone s (fun t => s.silent t s.dev)) ∧
    (∀ ptpNs : Nat, s.up →
      let second := ptpNs / 1000000000
      let owed : Int := match b.utcStep with
        | some x => x.1
        | none => 0
      let ns : Int := (ptpNs : Int) - 1000000000 * (s.dev.net.utcOffset.toNat + 946684800 - owed)
      let goal := (ns * 32768 / 1000000000).toNat
      let far := 327680000000 < (ns * 32768 - (b.cnt : Int) * 1000000000).natAbs
      let runs := b.calSrc = true ∧ s.dev.tb.tb = .locked ∧ s.dev.net.utcValid = true ∧ b.lastCompare ≠ some second
      (¬runs → Runs (.calPtpCompare ptpNs) s (fun t => s.silent t s.dev)) ∧
      ((∀ k, k < 8 → (b.alarm k).due = none) →
        (runs → ¬far → goal = b.cnt → b.slewing = false → Runs (.calPtpCompare ptpNs) s (fun t =>
          s.silent t { s.dev with bk := { b with lastCompare := some second } })) ∧
        (runs → ¬far → goal ≠ b.cnt ∨ b.slewing = true → Runs (.calPtpCompare ptpNs) s (fun t =>
          s.silent t { s.dev with bk := { b with
            lastCompare := some second, slewLeft := (goal : Int) - b.cnt, slewAcc := 0, slewing := true } })) ∧
        (runs → far → Runs (.calPtpCompare ptpNs) s (fun t =>
          let n := (s.dev.placeCal (calOf goal)).getD goal
          only t { b with
            lastCompare := some second, cnt := n, calSet := true, oscStopped := false, slewing := false, slewLeft := 0
            slewAcc := 0, alarms := t.dev.bk.alarms } ∧
            (b.cnt < n → alarmsMarked true (calOf n) b t.dev.bk) ∧ (n ≤ b.cnt → t.dev.bk.alarms = b.alarms))))) ∧
    (∀ (sec : Int) (since : Nat), s.up → (∀ k, k < 8 → (b.alarm k).due = none) → b.utcStep = some (sec, since) →
      (since / 32768 < b.cnt / 32768 → Runs .utcOffsetStep s (fun t =>
        let n := ((b.cnt : Int) - 32768 * sec).toNat
        only t { b with utcStep := none, cnt := n, alarms := t.dev.bk.alarms } ∧
          (b.cnt < n → alarmsMarked true (calOf n) b t.dev.bk) ∧ (n ≤ b.cnt → t.dev.bk.alarms = b.alarms))) ∧
      (b.cnt / 32768 ≤ since / 32768 → Runs .utcOffsetStep s (fun t => s.silent t s.dev))) ∧
    (s.up → b.utcStep = none → Runs .utcOffsetStep s (fun t => s.silent t s.dev))

/-- ALARM_FIRED, ALARM_EN_WRITE and TRIM_WINDOW_END (R499 to R502, R505, R508): a due alarm fires, moves its TARGET by whole
periods, and wakes the module where it may, as the cause of its start where VMAIN is gone; a written entry is armed or idle, after a firing that was due; a window that has ended corrects TRIM_PPB,
within 200,000, or is rejected beyond 50,000 ppb.
What rests here on the model's own reading or choice stands in log entries 2, 8, 12 and 71. -/
def Obligations.CalendarAlarms : Prop :=
  ∀ s : State,
    let b := s.dev.bk
    let only (t : State) (b' : Backup) : Prop := t.dev.bk = b' ∧ s.frame t { s.dev with bk := b', fresh := t.dev.fresh }
    (∀ k, k < 8 →
      let a := b.alarm k
      let p := a.period.toNat * 4294967296
      let passed := (s.dev.cal - a.goal).toNat / p
      (a.due = none → Runs (.alarmFired k) s (fun t => s.silent t s.dev)) ∧
      (∀ late, a.due = some late → Runs (.alarmFired k) s (fun t =>
        let missed := if p = 0 ∨ late = false then 0 else passed
        let wakes := a.wakeEn = true ∧ b.pwrHold = false
        (∀ j, j ≠ k → t.dev.bk.alarm j = b.alarm j) ∧
        t.dev.bk.alarm k = { a with
          target := a.target + BitVec.ofNat 64 (if p = 0 then 0 else (missed + 1) * p)
          missed := satAdd a.missed missed, fireCnt := a.fireCnt + 1, late := late, due := none
          st := if a.period = 0 then .fired else .armed } ∧
        (wakes → b.onVmain = true → only t { b with
          alarms := t.dev.bk.alarms, fired := t.dev.bk.fired, pwrHold := true }) ∧
        (wakes → b.onVmain = false → only t { b with
          alarms := t.dev.bk.alarms, fired := t.dev.bk.fired, pwrHold := true, nextCause := some 2
          wakeAlarm := BitVec.ofNat 3 k }) ∧
        (¬wakes → only t { b with alarms := t.dev.bk.alarms, fired := t.dev.bk.fired }) ∧
        t.dev.bk.fired = if s.dev.isMain then b.fired else b.fired ++ [⟨k, s.dev.cal, late, missed⟩]))) ∧
    (∀ (k : Nat) (img : BitVec 256), s.up → k < 8 → writeAdmitted (entryCmd 0x80 (k + 1) 32 img.toNat) s →
      ∃ u, exec (.alarmFired k) s = .next u ∧ Runs (.alarmEnWrite k img) s (fun t =>
        t.dev.bk.alarm k = { u.dev.bk.alarm k with
          target := fld img 192 64, period := fld img 160 32, wakeEn := bit img 4, en := bit img 3
          st := if bit img 3 then .armed else .idle, due := none } ∧
        (∀ j, j ≠ k → t.dev.bk.alarm j = b.alarm j) ∧
        s.frame t { s.dev with
          bk := { u.dev.bk with alarms := t.dev.bk.alarms }, ps := { s.dev.ps with subs := t.dev.ps.subs }
          ply := { s.dev.ply with digestDue := t.dev.ply.digestDue } })) ∧
    ((b.win = none ∨ ∃ w, b.win = some w ∧ w.ended = false) → Runs .trimWindowEnd s (fun t => s.silent t s.dev)) ∧
    (∀ w, b.win = some w → w.ended = true →
      let e := w.err (if s.dev.nom s.dev.trimSet then 60 else 50)
      Runs .trimWindowEnd s (fun t => ∃ err : Int, roundsTo e.1 e.2 err ∧
        (50000 < err.natAbs → only t { b with win := none, lastErr := err, rejectCnt := b.rejectCnt + 1 }) ∧
        (err.natAbs ≤ 50000 → ∃ q : Int, (w.src = 1 → q = err) ∧ (w.src ≠ 1 → roundsTo err 4 q) ∧
          only t { b with
            win := none, lastErr := err, trimPpb := clampInt (-200000) 200000 (b.trimPpb - q)
            lastMeas := calOf b.cnt, srcUsed := BitVec.ofNat 2 w.src })))

/-- VMAIN_FAIL, VMAIN_RESTORE, RETENTION_LOSS, WAKE_PIN, RL_ACK, PWR_HOLD_RELEASE and SHUTDOWN_FAILED (R483 to R488, R505 to
R507): loss of VMAIN resets the main domain and keeps the backup domain, with a shutdown that waits; a restart marker goes with
the supply (R1, R607); a wake cause raises PWR_HOLD, and names the next start only where VMAIN is gone (R507);
a shutdown lowers it, and restarts the module where VMAIN stays.
What rests here on the model's own reading or choice stands in log entries 1 and 52. -/
def Obligations.PowerEvents : Prop :=
  ∀ s : State,
    let b := s.dev.bk
    let only (t : State) (b' : Backup) : Prop := s.silent t { s.dev with bk := b' }
    let restarted (t : State) (b' : Backup) : Prop := mainLost s t ∧ t.sram = s.sram ∧
      t.dev.bk = { b' with timeSet := [], utcStep := none, lastCompare := none, win := none }
    (b.onVmain = true → Runs .vmainFail s (fun t => restarted t { b with
      onVmain := false, lockout := true, offCal := calOf b.cnt, switchCnt := b.switchCnt + 1
      shut := if b.shut = .wait then .wait else .idle
      nextCause := some 0 } ∧ t.dev.pwr.marker = false)) ∧
    (b.onVmain = false → Runs .vmainFail s (fun t => s.silent t s.dev)) ∧
    Runs .vmainRestore s (fun t => only t { b with onVmain := true }) ∧
    Runs .retentionLoss s (fun t => only t { b with
      valid := false, newLoss := true, pwrHold := true, shut := .idle, nextCause := some 0 }) ∧
    (Runs (.wakePin .rises) s (fun t => only t { b with wakeN := true })) ∧
    Runs (.wakePin .falls) s (fun t => only t { b with wakeN := false }) ∧
    (b.wakePinEn = true → b.pwrHold = false → Runs (.wakePin .held) s (fun t => only t
      (if b.onVmain then { b with wakeN := false, pwrHold := true }
       else { b with wakeN := false, pwrHold := true, nextCause := some 1 }))) ∧
    ((b.wakePinEn = false ∨ b.pwrHold = true) → Runs (.wakePin .held) s (fun t => only t { b with wakeN := false })) ∧
    (s.up → Runs .rlAckWrite s (fun t => only t { b with valid := true })) ∧
    (b.shut = .wait → Runs .pwrHoldRelease s (fun t => only t { b with shut := .off, pwrHold := false })) ∧
    (b.shut ≠ .wait → Runs .pwrHoldRelease s (fun t => s.silent t s.dev)) ∧
    (b.shut = .off → b.onVmain = true → Runs .shutdownFailed s (fun t => restarted t { b with
      shut := .idle, pwrHold := true, nextCause := some 3 })) ∧
    ((b.shut ≠ .off ∨ b.onVmain = false) → Runs .shutdownFailed s (fun t => s.silent t s.dev))

/-- REC_MARK, RECORD_MEMORY, TAIL_SAVE_COMPLETE, SHUTDOWN and RETAINED_MEMORY (R465, R470, R474, R475, R479, R506, R509): a
mark is a record of its own; a damaged record is replaced and reported; a saved tail and a restart's metering copy read back
as valid, and no other byte of the retained SRAM changes; damaged bytes outside the copies read 0.
What rests here on the model's own reading or choice stands in log entries 70, 72 and 124. -/
def Obligations.RecordsAndRetainedBytes : Prop :=
  ∀ s : State, s.up →
    let r := s.dev.rcd
    let uncorr : FaultRegs := { s.dev.flt with eccUncorr := satAdd s.dev.flt.eccUncorr 1 }
    let tailed (t : State) (kind : Nat) (recs : List Rec) : Prop :=
      readTail (s.dev.format 2) (Memory.read t.sram) = some (kind, (recs.map (·.seq)).headD 0, recs.map (fun x => leBytes 32 (x.image false).toNat)) ∧
        t.dev.rcd.tail = none ∧ t.dev.bk.badTail = false
    (∀ v, r.stored < 32768 → r.intake = none → Runs (.recMark v) s (fun t =>
      (∀ i, t.dev.rcd.at_ i = if i = r.next.toNat % 32768 then { Rec.reset with
          cal := s.dev.cal, frame := BitVec.ofNat 32 s.dev.tb.frame.toNat, object := v, seq := r.next, code := 0x0C05
          calUnset := !s.dev.bk.calSet, subsystem := 12, source := 2, firstAt := s.dev.tb.ran } else r.at_ i) ∧
        s.silent t { s.dev with rcd := { r with recs := t.dev.rcd.recs, stored := r.stored + 1, next := r.next + 1 } })) ∧
    (∀ v, 32768 ≤ r.stored → Runs (.recMark v) s (fun t => s.frame t s.dev)) ∧
    (∀ i, i < 32768 →
      let x := r.at_ i
      (r.holds x.seq = true → x.seq.toNat % 32768 = i → Runs (.recordMemory i) s (fun t =>
        let y : Rec := { Rec.reset with
          seq := x.seq, code := 0x0C07, copiedRep := x.copiedRep.map (fun _ => 0), copiedAt := x.copiedAt
          firstAt := x.firstAt }
        s.frame t { s.dev with flt := uncorr } ∧
          t.dev.rcd = (report (ev 0x0C07 true x.seq.toNat 0) { s.dev.fresh0 with
            flt := uncorr, rcd := { r with recs := tset Rec.reset r.recs i y } }).rcd)) ∧
      ((r.holds x.seq = false ∨ x.seq.toNat % 32768 ≠ i) → Runs (.recordMemory i) s (fun t =>
        s.silent t { s.dev with flt := uncorr }))) ∧
    (∀ i, 32768 ≤ i → i < 65536 → Runs (.recordMemory i) s (fun t =>
      s.silent t { s.dev with flt := uncorr, rcd := { r with recs := t.dev.rcd.recs } } ∧
        (∀ j x, r.recs.find? (fun y => y.2.snapEntries.contains (i - 32768)) = some (j, x) →
          ∀ q, t.dev.rcd.at_ q = if q = j then { x with snapLost := true } else r.at_ q) ∧
        (r.recs.find? (fun y => y.2.snapEntries.contains (i - 32768)) = none → t.dev.rcd.recs = r.recs))) ∧
    (r.tail = none → Runs .tailSaveComplete s (fun t => s.silent t s.dev)) ∧
    (∀ x, r.tail = some x → x.kind < 4 → 1 ≤ x.recs.length → x.recs.length ≤ 256 →
      Runs .tailSaveComplete s (fun t => tailed t x.kind x.recs ∧
        (∀ a, (a < 0x4000 ∨ 0x4020 + 32 * x.recs.length ≤ a) → Memory.read t.sram a = Memory.read s.sram a) ∧
        { s with sram := t.sram }.silent t { s.dev with
          rcd := { r with tail := none }, bk := { s.dev.bk with badTail := false } })) ∧
    (1 ≤ r.stored → Runs (.shutdownWrite 0x0FF05E7D) s (fun t =>
      let b : Bool := s.dev.mt.newest == some false
      let base := if b then 0x2000 else 0
      let n := min 256 r.stored
      readCopy (s.dev.format 1) (Memory.read t.sram) b =
          some (s.dev.mt.saveSeq + 1, 3, s.dev.cal, fld s.dev.mt.engine 480 32, saveRecords s.dev) ∧
        tailed t 2 ((List.range n).map (fun i => r.at_ ((r.next - BitVec.ofNat 32 (n - i)).toNat % 32768))) ∧
        (∀ a, (a < base ∨ base + 8128 ≤ a) → (a < 0x4000 ∨ 0x4020 + 32 * n ≤ a) →
          Memory.read t.sram a = Memory.read s.sram a) ∧
        { s with sram := t.sram }.silent t { s.dev with
          rcd := { r with tail := none }
          bk := { s.dev.bk with
            badTail := false, shut := .wait, badA := s.dev.bk.badA && b, badB := s.dev.bk.badB && !b }
          mt := { s.dev.mt with
            newest := some b, saveSeq := s.dev.mt.saveSeq + 1, saveCnt := s.dev.mt.saveCnt + 1
            saveDue := none } })) ∧
    (∀ v, v ≠ 0x0FF05E7D → Runs (.shutdownWrite v) s (fun t => s.silent t s.dev)) ∧
    (∀ (e : Nat) (mask : BitVec 32), 16 ≤ e → e < 2064 → Runs (.retainedMemory e mask) s (fun t =>
      let saving (c : Bool) : Prop :=
        (s.dev.mt.saveDue.isSome = true ∨ s.dev.mt.snapDue.isSome = true) ∧ c = (s.dev.mt.newest == some false)
      let kept (d : Dev) : Prop := s.silent t { d with flt := uncorr }
      let keptIn (c : Bool) (d : Dev) : Prop := (¬saving c → kept d) ∧ (saving c → s.frame t { d with flt := uncorr })
      let b := s.dev.bk
      (e < 272 → keptIn false { s.dev with
        bk := { b with badA := true }
        mt := { s.dev.mt with newest := if s.dev.mt.newest = some false then some true else s.dev.mt.newest } }) ∧
        (272 ≤ e → e < 528 → keptIn true { s.dev with
          bk := { b with badB := true }
          mt := { s.dev.mt with newest := if s.dev.mt.newest = some true then some false else s.dev.mt.newest } }) ∧
        (528 ≤ e → e < 785 → kept { s.dev with bk := { b with badTail := true } }) ∧
        (785 ≤ e → { s with sram := t.sram }.frame t { s.dev with flt := uncorr } ∧
          (∀ a, Memory.read t.sram a =
            if 32 * (e - 16) ≤ a ∧ a < 32 * (e - 16) + 32 ∧ bit mask (a - 32 * (e - 16)) = true then 0
            else Memory.read s.sram a))))

/-! ### Riser ports and network time (06) -/

/-- A command that serves the queue of a port and reports: the module is `d` but for what reports write, the port's queue and
the frames that start, which leave that queue; a ply frame takes its PLY_SEQ and CRC as it starts (R514). -/
def Sys2Proof.Machine.serves (s t : State) (p : Nat) (d : Dev) : Prop :=
  t = { s with dev := { d with
    tr := t.dev.tr, rcd := t.dev.rcd, flt := t.dev.flt, eg := t.dev.eg, wire := t.dev.wire, out := [], wr := [] } } ∧
    d.reportsTo t.dev ∧ (∀ q, q ≠ p → t.dev.egress q = s.dev.egress q) ∧
    (t.dev.egress p).queue.Sublist (s.dev.egress p).queue ∧
    (t.dev.egress p).queue.length + t.dev.wire.length = (s.dev.egress p).queue.length ∧
    ∀ f ∈ t.dev.wire, f.1 = p ∧ ∃ x ∈ (s.dev.egress p).queue, ∃ n, f.2 = x.sealed n

/-- The links of a port, their search, PORT_MODE, address answers, dropped frames and gates (R198, R201 to R207, R230, R606):
a link comes up in the SerDes mode in use and ends the search; its loss clears its status and makes the channels with data
to send wait; an address request for the port's own address is answered, in a frame that the port takes; a frame
of a wrong length or FCS, or without room, is dropped and counted; at a gate change what may start then starts. The other
ports stay.
What rests here on the model's own reading or choice stands in log entries 2, 89 and 90. -/
def Obligations.PortEvents : Prop :=
  ∀ (s : State) (p : Nat), s.up → p < 3 →
    let x := s.dev.port p
    let m := x.modeNow
    let down : Port := { x with link := false, sync := false, speed := 0, pdelay := 0xFFFFFFFF }
    let others (t : State) : Prop := ∀ q, q ≠ p → t.dev.port q = s.dev.port q
    let only (t : State) : Prop := others t ∧ s.frame t { s.dev with ports := t.dev.ports }
    let own (ch : Nat) : Prop := p < 2 ∧ ch < 65 ∧ (s.dev.chan ch).portNo = p
    let onlyTr (t : State) : Prop := others t ∧ t.dev.tr.consRejCnt = s.dev.tr.consRejCnt ∧
      s.frame t { s.dev with ports := t.dev.ports, tr := t.dev.tr }
    let waits (t : State) : Prop :=
      (∀ ch, ∃ w, ({ s.dev.chan ch with linkWait := w }).butDrops (t.dev.chan ch) ∧
        (¬own ch → w = (s.dev.chan ch).linkWait) ∧ ((s.dev.chan ch).linkWait = true → w = true)) ∧
      ∀ ch, own ch → (s.dev.chan ch).st = .opened → ((s.dev.chan ch).txq ≠ [] ∨ (s.dev.chan ch).unacked ≠ [] ∨ (s.dev.chan ch).drops.total ≠ 0) →
        (t.dev.chan ch).linkWait = true
    (∀ mbit,
      ((x.link = true ∨ m = 0) → Runs (.linkUp p mbit) s (fun t => s.silent t s.dev)) ∧
      (x.link = false → m = 1 → mbit ≠ 1000 → Runs (.linkUp p mbit) s (fun t => s.frame t s.dev)) ∧
      (x.link = false → m ≠ 0 → (m = 1 → mbit = 1000) → Runs (.linkUp p mbit) s (fun t => onlyTr t ∧
        t.dev.port p = { x with
          link := true, sync := true, speed := if m = 3 then 2 else 1, search := none
          mode := if x.search.isSome then (x.mode &&& ~~~3#32) ||| BitVec.ofNat 32 m else x.mode } ∧
        ∀ ch, (own ch → ({ s.dev.chan ch with linkWait := false }).butDrops (t.dev.chan ch)) ∧
          (¬own ch → (s.dev.chan ch).butDrops (t.dev.chan ch))))) ∧
    (x.link = false → Runs (.linkDown p) s (fun t => s.silent t s.dev)) ∧
    (x.link = true → Runs (.linkDown p) s (fun t => onlyTr t ∧ t.dev.port p = down ∧ waits t)) ∧
    (x.sync = true → Runs (.pcsSyncLost p) s (fun t => only t ∧ t.dev.port p = { x with sync := false })) ∧
    (x.sync = false → Runs (.pcsSyncLost p) s (fun t => s.silent t s.dev)) ∧
    (p < 2 → (∀ i age, x.search = some (i, age) → 2000 ≤ age → x.link = false →
      Runs (.linkSearchStep p) s (fun t => only t ∧ t.dev.port p = { x with search := some ((i + 1) % 3, 0) })) ∧
      ((x.search = none ∨ x.link = true ∨ ∃ i age, x.search = some (i, age) ∧ age < 2000) →
        Runs (.linkSearchStep p) s (fun t => s.silent t s.dev))) ∧
    (∀ v, writeAdmitted (regCmd (0x0700 + 0x40 * p + 0x3C) v) s → Runs (.portModeWrite p v) s (fun t =>
      let drops := x.link = true ∧ fld v 0 2 ≠ fld x.mode 0 2
      others t ∧ (drops → waits t ∧ t.dev.port p = { down with mode := v &&& 7, search := none }) ∧
        (¬drops → t.dev.port p = { x with mode := v &&& 7, search := none } ∧
          ∀ ch, (s.dev.chan ch).butDrops (t.dev.chan ch)) ∧
        s.frame t { s.dev with
          ports := t.dev.ports, tr := t.dev.tr, ps := { s.dev.ps with subs := t.dev.ps.subs }
          ply := { s.dev.ply with digestDue := t.dev.ply.digestDue } })) ∧
    (p < 2 → ∀ h : FrameHead, x.rxOk h = true → x.takes p h = true →
      (∀ target sender mac, s.dev.maySend p = true → target = x.ip4 → x.ip4 ≠ 0 →
        Runs (.arpRequest p ⟨h, .arp target sender mac⟩) s (fun t => s.frame t s.dev ∧
          t.dev.out = [.eth p mac 0x8100 (beBytes 2 x.vid.toNat ++ beBytes 2 0x0806 ++ [0, 1, 8, 0, 6, 4, 0, 2] ++
            beBytes 6 (s.dev.portMac p).toNat ++ beBytes 4 x.ip4.toNat ++ beBytes 6 mac.toNat ++ beBytes 4 sender.toNat)])) ∧
      (∀ target sender mac, s.dev.maySend p = true → target = x.ip6Bits → x.ip6Bits ≠ 0 →
        Runs (.arpRequest p ⟨h, .neighbour target sender mac⟩) s (fun t => s.frame t s.dev ∧
          ∃ sum, t.dev.out = [.eth p mac 0x8100 (beBytes 2 x.vid.toNat ++ beBytes 2 0x86DD ++
            [0x60, 0, 0, 0, 0, 32, 58, 255] ++ beBytes 16 x.ip6Bits.toNat ++ beBytes 16 sender.toNat ++
            [136, 0] ++ sum ++ [0x60, 0, 0, 0] ++ beBytes 16 x.ip6Bits.toNat ++ [2, 1] ++
            beBytes 6 (s.dev.portMac p).toNat)] ∧ sum.length = 2)) ∧
      (∀ target sender mac, (s.dev.maySend p = false ∨ target ≠ x.ip4 ∨ x.ip4 = 0) →
        Runs (.arpRequest p ⟨h, .arp target sender mac⟩) s (fun t => s.silent t s.dev)) ∧
      ∀ target sender mac, (s.dev.maySend p = false ∨ target ≠ x.ip6Bits ∨ x.ip6Bits = 0) →
        Runs (.arpRequest p ⟨h, .neighbour target sender mac⟩) s (fun t => s.silent t s.dev)) ∧
    (∀ h : FrameHead,
      let good := 64 ≤ h.len ∧ h.len ≤ 4352 ∧ h.fcsOk = true ∧ x.fill + h.len ≤ 65536
      let dropped (t : State) : Prop := s.silent t { s.dev with ports := t.dev.ports } ∧ others t ∧
        t.dev.port p = { x with rxDropCnt := satAdd x.rxDropCnt 1 }
      (¬good → Runs (.rxFrameDropped ⟨p, h⟩) s dropped ∧ (p < 2 → ∀ a, Runs (.arpRequest p ⟨h, a⟩) s dropped)) ∧
      (good → Runs (.rxFrameDropped ⟨p, h⟩) s (fun t => s.silent t s.dev) ∧
        ∀ prio vid, h.tag = some (prio, vid) → vid ≠ x.vid → p < 2 → ∀ a,
          Runs (.arpRequest p ⟨h, a⟩) s (fun t => s.silent t s.dev))) ∧
    (bit x.liveCfg 25 = true → x.gateIdx < (fld x.liveCfg 26 6).toNat →
      x.gateEnd x.gateIdx < (s.dev.tb.sample + 1) * 15625 →
      Runs (.gateEntryExpiry p) s (fun t => others t ∧ serves s t p { s.dev with ports := t.dev.ports } ∧
        t.dev.port p = { x with gateIdx := x.gateIdx + 1 })) ∧
    ((bit x.liveCfg 25 = false ∨ (fld x.liveCfg 26 6).toNat ≤ x.gateIdx ∨
        (s.dev.tb.sample + 1) * 15625 ≤ x.gateEnd x.gateIdx) →
      Runs (.gateEntryExpiry p) s (fun t => s.silent t s.dev))

/-- Pause of a port (R211 to R217): a pause frame of the mode in force sets, restarts or ends the timers of its classes; the
watchdog ends every hold and ignores pause for HOLDOFF_MS; the module pauses its link partner while its receive buffer is
full, repeats, stops after 10 ms and then stays silent for 100 ms. A frame starts only while its class is not held and its
gate stays open for all of it, the highest class first, and each class in its order but for the ranks of
the ply frames (R515). A pause frame that finds no room is dropped and counted (R203); while RESET_OUT_N is low the module
pauses nobody (R605). Times on the wire are those of the timebase with its correction (R207). The other ports stay.
What rests here on the model's own reading or choice stands in log entries 61, 73, 89, 90 and 122. -/
def Obligations.PauseEvents : Prop :=
  ∀ (s : State) (p : Nat), s.up → p < 3 →
    let x := s.dev.port p
    let others (t : State) : Prop := ∀ q, q ≠ p → t.dev.port q = s.dev.port q
    let only (t : State) : Prop := others t ∧ s.frame t { s.dev with ports := t.dev.ports }
    let held (t : State) : Prop := others t ∧ serves s t p { s.dev with ports := t.dev.ports }
    let still (t : State) : Prop := s.silent t s.dev
    let counted : Port := { x with pauseRxCnt := satAdd x.pauseRxCnt 1 }
    let timers (t : State) (y : Port) : Prop := t.dev.port p = { y with
      paused := (t.dev.port p).paused, heldSince := (t.dev.port p).heldSince, heldNow := (t.dev.port p).heldNow
      heldRest := (t.dev.port p).heldRest, pauseTimeCnt := (t.dev.port p).pauseTimeCnt }
    let classes : BitVec 8 := if x.fcMode = 2 then putB 8 x.pcp true else 0xFF
    let sends := (x.fcMode = 1 ∨ (x.fcMode = 2 ∧ p < 2)) ∧ s.dev.pwr.rstOut = false
    let sent (quanta : Nat) (y : Port) (t : State) : Prop := only t ∧
      (sends → t.dev.out = [.pause p classes quanta] ∧
        t.dev.wire = [(p, ⟨pauseMac, s.dev.portMac p, none, .pause classes quanta⟩)] ∧
        t.dev.port p = { y with pauseTxCnt := satAdd x.pauseTxCnt 1, sincePause := 0 }) ∧
      (¬sends → t.dev.out = [] ∧ t.dev.port p = y)
    (∀ f ns hold, 65472 < x.fill → Runs (.pauseFrameReceive p f ns hold) s (fun t =>
      s.silent t { s.dev with ports := t.dev.ports } ∧ others t ∧
        t.dev.port p = { x with rxDropCnt := satAdd x.rxDropCnt 1 })) ∧
    (∀ f ns hold, x.fill ≤ 65472 →
      (x.holdoff = true → Runs (.pauseFrameReceive p f ns hold) s (fun t => held t ∧ t.dev.port p = counted)) ∧
      (∀ q, x.holdoff = false → f = .pause q → x.fcMode ≠ 1 →
        Runs (.pauseFrameReceive p f ns hold) s (fun t => held t ∧ t.dev.port p = counted)) ∧
      (∀ m qs, x.holdoff = false → f = .pfc m qs → x.fcMode ≠ 2 →
        Runs (.pauseFrameReceive p f ns hold) s (fun t => held t ∧ t.dev.port p = counted)) ∧
      (∀ q, x.holdoff = false → f = .pause q → x.fcMode = 1 → 0 < q → q < 65536 →
        Runs (.pauseFrameReceive p f ns hold) s (fun t => held t ∧ timers t counted ∧
          (∀ c, c < 8 → tget 0 (t.dev.port p).paused c = 5 * ns + s.dev.tenths (q * x.quantum)) ∧
          (t.dev.port p).heldSince =
            some (x.heldSince.getD (max (5 * ns) (max (5 * hold) (t.dev.egress p).busy))))) ∧
      (∀ h, x.holdoff = false → f = .pause 0 → x.fcMode = 1 → (∀ e ∈ x.paused, e.1 < 8) → x.heldSince = some h →
        Runs (.pauseFrameReceive p f ns hold) s (fun t => held t ∧ timers t counted ∧
          (t.dev.port p).paused = [] ∧ (t.dev.port p).heldSince = none ∧
          (t.dev.port p).heldNow = x.heldNow + (5 * ns - h))) ∧
      (∀ m qs, x.holdoff = false → f = .pfc m qs → x.fcMode = 2 →
        Runs (.pauseFrameReceive p f ns hold) s (fun t => held t ∧ timers t counted ∧
          ∀ c, c < 8 → tget 0 (t.dev.port p).paused c =
            if bit (m &&& x.pfcMask) c then
              (if qs.getD c 0 = 0 then 0 else 5 * ns + s.dev.tenths (min (qs.getD c 0) 65535 * x.quantum))
            else tget 0 x.paused c))) ∧
    (∀ c, c < 8 →
      let e := tget 0 x.paused c
      (c ∈ tkeys x.paused → e ≤ sampleUnits → Runs (.pauseTimerExpiry p c) s (fun t => held t ∧ timers t x ∧
        tget 0 (t.dev.port p).paused c = 0 ∧ (∀ b, b ≠ c → tget 0 (t.dev.port p).paused b = tget 0 x.paused b) ∧
        (∀ b ∈ tkeys x.paused, b ≠ c → t.dev.port p = { x with paused := (t.dev.port p).paused }) ∧
        ((∀ b ∈ tkeys x.paused, b = c) → (t.dev.port p).paused = [] ∧ ∀ h, x.heldSince = some h →
          (t.dev.port p).heldSince = none ∧ (t.dev.port p).heldNow = x.heldNow + (e - h)))) ∧
      ((c ∉ tkeys x.paused ∨ sampleUnits < e) → Runs (.pauseTimerExpiry p c) s still)) ∧
    (let lim := x.limitMs * 5000000
     let more := match x.heldSince with
       | none => 0
       | some h => min (maxList (x.paused.map (·.2))) sampleUnits - h
     (x.limitMs ≠ 0 → x.holdoff = false → lim < x.heldSum + more → Runs (.pauseWatchdog p) s (fun t => held t ∧
       timers t { x with holdoff := true, holdoffLeft := 32 * x.holdoffMs + 1 } ∧ (t.dev.port p).paused = [] ∧
       (t.dev.port p).heldSince = none ∧
       (x.heldSince.isSome = true → (t.dev.port p).heldNow = x.heldNow + (lim - x.heldSum)))) ∧
     ((x.limitMs = 0 ∨ x.holdoff = true ∨ x.heldSum + more ≤ lim) → Runs (.pauseWatchdog p) s still)) ∧
    (x.holdoff = true → x.holdoffLeft ≤ 1 → Runs (.pauseResumed p) s (fun t => only t ∧
      t.dev.port p = { x with holdoff := false, holdoffLeft := 0, heldNow := 0, heldPast := [] })) ∧
    ((x.holdoff = false ∨ 1 < x.holdoffLeft) → Runs (.pauseResumed p) s still) ∧
    (∀ fill, fill ≤ 65536 →
      let starts := sends ∧ 49152 ≤ fill ∧ x.ownPause = none ∧ x.suppress = 0
      (fill ≤ 16384 → x.ownPause.isSome = true →
        Runs (.rxBufferPause p fill) s (sent 0 { x with fill := fill, ownPause := none })) ∧
      (starts → Runs (.rxBufferPause p fill) s (sent 65535 { x with fill := fill, ownPause := some 0 })) ∧
      (¬starts → (16384 < fill ∨ x.ownPause = none) → Runs (.rxBufferPause p fill) s (fun t => only t ∧
        t.dev.out = [] ∧ t.dev.port p = { x with fill := fill }))) ∧
    (let due := x.ownPause.isSome = true ∧ 49152 ≤ x.fill ∧ 16384 * x.quantum < (x.sincePause + 1) * sampleUnits
     (due → Runs (.ownPauseRepeat p) s (sent 65535 x)) ∧ (¬due → Runs (.ownPauseRepeat p) s still)) ∧
    (∀ n, x.ownPause = some n →
      (320 ≤ n → 49152 ≤ x.fill →
        Runs (.rxPauseLimit p) s (sent 0 { x with ownPause := none, suppress := 3201 })) ∧
      (320 ≤ n → x.fill < 49152 → Runs (.rxPauseLimit p) s (sent 0 { x with ownPause := none })) ∧
      (n < 320 → Runs (.rxPauseLimit p) s still)) ∧
    (x.ownPause = none → Runs (.rxPauseLimit p) s still) ∧
    (let starts := sends ∧ 49152 ≤ x.fill ∧ x.ownPause = none
     (x.suppress ≤ 1 → starts →
       Runs (.ownPauseSuppressionEnd p) s (sent 65535 { x with suppress := 0, ownPause := some 0 })) ∧
     (x.suppress ≤ 1 → ¬starts → Runs (.ownPauseSuppressionEnd p) s (fun t => only t ∧ t.dev.out = [] ∧
       t.dev.port p = { x with suppress := 0 })) ∧
     (2 ≤ x.suppress → Runs (.ownPauseSuppressionEnd p) s still)) ∧
    (∀ moment y, s.dev.pick p moment = some y →
      let now := s.dev.tb.sample * sampleUnits + moment
      let q := (s.dev.egress p).queue
      q.find? (fun z => z.cls == y.cls && z.rank == y.rank) = some y ∧ y.cls < 8 ∧
        (∀ z ∈ q, z.cls = y.cls → y.rank ≤ z.rank) ∧
        (y.cls ∈ tkeys x.paused → tget 0 x.paused y.cls ≤ moment) ∧
        (∃ e, gateClose y.cls now x.spans = some e ∧ now + s.dev.tenths (x.wireTime y.len) ≤ e) ∧
        ∀ c z, y.cls < c → c < 8 → s.dev.oldest p c = some z → s.dev.canStart p c z.len moment = false)

/-- PTP, the 1 PPS pins and MDIO (R220 to R225, R228, R229): a Sync of the grandmaster in force measures the offset of
network time from the nearest whole ms; the better of the masters heard is the slave port's, and a new grandmaster voids two
measurements; peer delay is asked for once per second and taken as the mean; an edge of TIME_PPS_IN is judged against the
last one, and one that is due and does not come is reported; a management frame is driven with the PHY out of reset, and
MDIO answers. A message in a frame that the port does not accept is dropped and counted (R203).
What rests here on the model's own reading or choice stands in log entries 8, 73, 89, 111 and 119 to 121. -/
def Obligations.NetworkTimeEvents : Prop :=
  ∀ s : State, s.up →
    let d := s.dev
    let n := s.dev.net
    let only (t : State) : Prop := s.frame t { s.dev with net := t.dev.net, fresh := t.dev.fresh }
    let still (t : State) : Prop := s.silent t s.dev
    let selected (t : State) : Prop :=
      let best := t.dev.bestPort
      (best = 0 → t.dev.net = { n with slavePort := 0, gmPresent := false } ∧ t.dev.bk = d.bk) ∧
        (∀ m, best ≠ 0 → (t.dev.port (best.toNat - 1)).master = some m →
          t.dev.net = { n with
            slavePort := best, gmPresent := true, gm := m.gm, utcOffset := m.utcOffset, utcValid := m.utcValid
            discard := if n.gmPresent = false ∨ m.gm ≠ n.gm then 2 else n.discard } ∧
          (m.utcOffset = n.utcOffset ∨ d.bk.calSrc = false → t.dev.bk = d.bk) ∧
          (m.utcOffset ≠ n.utcOffset → d.bk.calSrc = true → t.dev.bk = { d.bk with
            utcStep := some ((d.bk.utcStep.map (·.1)).getD 0 + ((m.utcOffset.toNat : Int) - n.utcOffset.toNat), d.bk.cnt) })) ∧
        s.frame t { s.dev with net := t.dev.net, ports := t.dev.ports, bk := { s.dev.bk with utcStep := t.dev.bk.utcStep } }
    let others (p : Nat) (t : State) : Prop := ∀ q, q ≠ p → t.dev.port q = d.port q
    (∀ x : SyncIn, x.port < 3 →
      let heard := d.ptpOn x.port = true ∧ x.domain = n.domain ∧ n.slavePort.toNat = x.port + 1 ∧
        n.gmPresent = true ∧ x.gm = n.gm
      let usable := x.syncSeq = x.followSeq ∧ (d.port x.port).pdelay.toNat ≤ 800 ∧ -5 ≤ x.logInterval ∧
        x.logInterval ≤ 0 ∧ d.plyTime = false ∧ n.pps = false
      let heads := ptpHead x.head = true ∧ ptpHead x.followHead = true
      let p := d.port x.port
      let drops (k : Nat) (net : NetTime) (t : State) : Prop :=
        s.silent t { s.dev with ports := t.dev.ports, net := net } ∧ (∀ q, q ≠ x.port → t.dev.port q = d.port q) ∧
          t.dev.port x.port = { p with rxDropCnt := satAdd p.rxDropCnt k }
      (¬heads → Runs (.ptpSync x) s still) ∧
      (heads → p.rxOk x.head = false → p.rxOk x.followHead = true → Runs (.ptpSync x) s (drops 1 n)) ∧
      (heads → p.rxOk x.head = false → p.rxOk x.followHead = false → Runs (.ptpSync x) s (drops 2 n)) ∧
      (heads → p.rxOk x.head = true → p.rxOk x.followHead = false → Runs (.ptpSync x) s
        (drops 1 (if heard ∧ n.discard ≠ 0 then { n with discard := n.discard - 1 } else n))) ∧
      (heads → p.rxOk x.head = true → p.rxOk x.followHead = true →
      (¬heard → Runs (.ptpSync x) s still) ∧
      (heard → n.discard ≠ 0 → Runs (.ptpSync x) s (fun t =>
        s.silent t { s.dev with net := { n with discard := n.discard - 1 } })) ∧
      (heard → n.discard = 0 → ¬usable → Runs (.ptpSync x) s still) ∧
      (heard → n.discard = 0 → usable → Runs (.ptpSync x) s (fun t => ∃ ms off : Int,
        x.origin + (d.port x.port).pdelay.toNat - (x.rx - (d.port x.port).ingress) = ms * 1000000 + off ∧
        -500000 ≤ off ∧ off ≤ 500000 ∧
        t.dev.net = { n with
          meas := some ⟨off, some (BitVec.ofNat 64 (ms.toNat + 1)), d.tb.ran⟩, lastNet := some (ms.toNat, d.lg.tick) } ∧ only t)))) ∧
    (∀ a : AnnounceIn, a.port < 3 →
      let heard := d.ptpOn a.port = true ∧ a.domain = n.domain
      let p := d.port a.port
      (ptpHead a.head = false ∨ (p.rxOk a.head = true ∧ ¬heard) → Runs (.ptpAnnounce a) s still) ∧
      (ptpHead a.head = true → p.rxOk a.head = false → Runs (.ptpAnnounce a) s (fun t =>
        s.silent t { s.dev with ports := t.dev.ports } ∧ others a.port t ∧
          t.dev.port a.port = { p with rxDropCnt := satAdd p.rxDropCnt 1 })) ∧
      (ptpHead a.head = true → p.rxOk a.head = true → heard → Runs (.ptpAnnounce a) s (fun t => selected t ∧ others a.port t ∧ t.dev.port a.port = { d.port a.port with
        master := some ⟨a.rank, a.gm, a.utcOffset, a.utcValid, a.interval, 0⟩ }))) ∧
    (∀ p, p < 3 →
      let x := d.port p
      ((x.master = none ∨ ∃ m, x.master = some m ∧ m.age < 3 * m.interval) → Runs (.announceTimeout p) s still) ∧
      (∀ m, x.master = some m → 3 * m.interval ≤ m.age → Runs (.announceTimeout p) s (fun t => selected t ∧ others p t ∧
        t.dev.port p = { x with master := none })) ∧
      (let due := d.maySend p = true ∧ (d.ptpOn p = true ∨ p = 2) ∧ 1000 ≤ x.pdelayAge
       (due → Runs (.pdelayReqSend p) s (fun t => t.dev.out = [.pdelayReq p (x.pdelaySeq + 1)] ∧ others p t ∧
         t.dev.port p = { x with pdelayAge := 0, pdelaySeq := x.pdelaySeq + 1 } ∧
         s.frame t { s.dev with ports := t.dev.ports })) ∧
       (¬due → Runs (.pdelayReqSend p) s still)) ∧
      (65464 < x.fill → ∀ y, Runs (.pdelayMessage p y) s (fun t =>
        s.silent t { s.dev with ports := t.dev.ports } ∧ others p t ∧
          t.dev.port p = { x with rxDropCnt := satAdd x.rxDropCnt 1 })) ∧
      (x.fill ≤ 65464 →
       let runs := d.maySend p = true ∧ (d.ptpOn p = true ∨ p = 2)
       (∀ seq t2 t3, runs → Runs (.pdelayMessage p (.request seq t2 t3)) s (fun t =>
         t.dev.out = [.pdelayResp p seq (t2 - x.ingress) (t3 + x.egress)] ∧ s.frame t s.dev)) ∧
       (∀ t1 t2 t3 t4 : Int, runs → Runs (.pdelayMessage p (.response x.pdelaySeq t1 t2 t3 t4)) s (fun t => ∃ q : Int,
         roundsTo ((t4 - x.ingress) - (t1 + x.egress) - (t3 - t2)) 2 q ∧ others p t ∧
         t.dev.port p = { x with pdelay := satNat 32 q.toNat } ∧
         s.silent t { s.dev with ports := t.dev.ports, fresh := t.dev.fresh })) ∧
       (∀ seq t1 t2 t3 t4, seq ≠ x.pdelaySeq →
         Runs (.pdelayMessage p (.response seq t1 t2 t3 t4)) s still) ∧
       (∀ y, ¬runs → Runs (.pdelayMessage p y) s still))) ∧
    (∀ ns high,
      let now := d.tb.ran * 1000000 + ns
      let onTime : Bool := match n.ppsLast with
        | none => true
        | some l => decide (l + 999000000 ≤ now ∧ now ≤ l + 1001000000)
      (n.pps = false → Runs (.timePpsInEdge ns high) s still) ∧
      (n.pps = true → (high < 1000 ∨ onTime = false) → Runs (.timePpsInEdge ns high) s (fun t =>
        t.dev.net = { n with ppsInOk := false, ppsDue := n.ppsDue && !onTime } ∧ only t)) ∧
      (n.pps = true → 1000 ≤ high → onTime = true → Runs (.timePpsInEdge ns high) s (fun t => only t ∧ t.dev.net = { n with
        ppsInOk := true, ppsLast := some now, ppsDue := true, ppsFrame := some (if 500000 < ns then d.tb.nextFrame else d.tb.frame)
        meas := if d.plyTime then n.meas else some ⟨if 500000 < ns then 1000000 - (ns : Int) else -(ns : Int), none, d.tb.ran⟩ }))) ∧
    (let missing := n.pps = true ∧ n.ppsDue = true ∧
       ∃ l, n.ppsLast = some l ∧ l + 1001000000 < d.tb.ran * 1000000 + (d.tb.sample + 1) * 31250
     (missing → Runs .ppsInFault s (fun t => t.dev.net = { n with ppsInOk := false, ppsDue := false } ∧ only t)) ∧
     (¬missing → Runs .ppsInFault s still)) ∧
    (n.ppsOut = some 0 → Runs .ppsOutPulseEnd s (fun t => s.silent t { s.dev with net := { n with ppsOut := none } })) ∧
    (n.ppsOut ≠ some 0 → Runs .ppsOutPulseEnd s still) ∧
    (∀ v, writeAdmitted (regCmd 0x0B10 v) s → Runs (.phyMdioCmd v) s (fun t =>
      t.dev.net = { n with mdio := v &&& 0x7FFCFFFF, mdioBusy := true } ∧ 
        t.dev.out = (if d.pwr.rstOut then [] else [.mdio (v &&& 0x7FFCFFFF)]) ∧
        s.frame t { s.dev with
          net := t.dev.net, ps := { s.dev.ps with subs := t.dev.ps.subs }
          ply := { s.dev.ply with digestDue := t.dev.ply.digestDue } })) ∧
    (∀ answer, n.mdioBusy = true → d.pwr.rstOut = false → Runs (.mdioComplete answer) s (fun t => only t ∧
      let data : BitVec 16 := if fld n.mdio 28 2 = 2#2 then answer.getD 0xFFFF else fld n.mdio 0 16
      t.dev.net = { n with mdioBusy := false, mdio := (n.mdio &&& 0xFFFF0000) ||| put 32 0 data })) ∧
    (∀ answer, (n.mdioBusy = false ∨ d.pwr.rstOut = true) → Runs (.mdioComplete answer) s still)

/-! ### Ply pairs (16) -/

/-- An accepted ply frame of one kind: its CRC holds, its version is 1, and it comes from the twin, or, as STATUS, to a SOLO
module (R514). -/
abbrev Sys2Proof.Machine.plyAccepted (kind : Nat) (bytes : List Byte) (s : State) (h : BitVec 256) (payload : List Byte) : Prop :=
  plyParse bytes = some (h, payload) ∧ (fld h 16 8).toNat = kind ∧ fld h 8 8 = 1 ∧
    (fld h 128 32 = s.dev.ply.pairId ∨ (kind = 1 ∧ s.dev.ply.role = .solo))

/-- What the header of an accepted frame writes (R514, R517, R523). -/
def Sys2Proof.Machine.plyNoted (h : BitVec 256) (p : Ply) : Ply :=
  { p with
    rxSeq := some (fld h 160 32), linkAge := some 0, twinSerial := fld h 64 64, twinRole := fld h 24 3
    by519 := p.ledBy519 (fld h 24 3), lossRun := 0, lossCyc := [] }

/-- No frame was missed, the link stood, and the header asks for no new sweep and tells of no silence latch. -/
abbrev Sys2Proof.Machine.plyCalm (h : BitVec 256) (p : Ply) : Prop :=
  (p.rxSeq = none ∨ ∃ q, p.rxSeq = some q ∧ fld h 160 32 = q + 1) ∧ p.linkOk = true ∧ bit h 43 = false ∧ bit h 40 = false

/-- What ply frames and roles may change. -/
def Sys2Proof.Machine.plyFrame (s t : State) : Prop :=
  s.frame t { s.dev with
    ply := t.dev.ply, ps := t.dev.ps, lines := t.dev.lines, strands := t.dev.strands, lg := t.dev.lg, lp := t.dev.lp
    net := t.dev.net }

/-- PLY_STATUS_RECEIVE, PLY_MIRROR_RECEIVE, PLY_CATCHUP_RECEIVE and PLY_NOTICE_RECEIVE (R65, R72, R95, R203, R514 to R517,
R519, R520, R523, R526, R533, R534, R536, R539): a frame that the port drops, or that fails a check, is counted and does
nothing; an accepted one is evidence of the twin; a STATUS moves the role as the role table says; a mirror entry writes its
point; a catch-up item writes its record, a point only where its producer would, or waits in the cutover set, which is bad
once a gap shows or its time is over; a NOTICE does what its code says.
What rests here on the model's own reading or choice stands in log entries 61, 62, 63, 65, 110, 116 and 123. -/
def Obligations.PlyFramesReceived : Prop :=
  ∀ (s : State) (bytes : List Byte) (rx : Nat), s.up →
    let p := s.dev.ply
    let silent (t : State) (q : Ply) : Prop := s.silent t { s.dev with ply := q }
    let only (t : State) (q : Ply) : Prop := t.dev.ply = q ∧ s.frame t { s.dev with ply := q, ps := t.dev.ps }
    let fits := (s.dev.port 2).rxOk (plyHead bytes)
    (∀ (kind : Nat) (i : Instr), (kind, i) ∈ [(1, Instr.plyStatusReceive rx bytes), (2, .plyMirrorReceive bytes),
        (3, .plyCatchupReceive bytes), (4, .plyNoticeReceive bytes)] →
      (fits = false → Runs i s (fun t => s.silent t { s.dev with ports := t.dev.ports } ∧
        (∀ q, q ≠ 2 → t.dev.port q = s.dev.port q) ∧
        t.dev.port 2 = { s.dev.port 2 with rxDropCnt := satAdd (s.dev.port 2).rxDropCnt 1 })) ∧
      (fits = true → plyParse bytes = none → Runs i s (fun t => silent t { p with badCnt := p.badCnt + 1 })) ∧
      (∀ h pl, fits = true → plyParse bytes = some (h, pl) → (fld h 16 8).toNat ≠ kind → Runs i s (fun t =>
        s.silent t s.dev)) ∧
      (∀ h pl, fits = true → plyParse bytes = some (h, pl) → (fld h 16 8).toNat = kind →
        (fld h 8 8 ≠ 1 ∨ (fld h 128 32 ≠ p.pairId ∧ ¬(kind = 1 ∧ p.role = .solo))) →
        Runs i s (fun t => silent t { p with badCnt := p.badCnt + 1 })) ∧
      (∀ h pl, fits = true → plyAccepted kind bytes s h pl → Runs i s (fun t => plyFrame s t ∧
        t.dev.ply.rxSeq = some (fld h 160 32) ∧ t.dev.ply.linkAge = some 0 ∧ t.dev.ply.linkOk = true ∧
        t.dev.ply.twinSerial = fld h 64 64 ∧ t.dev.ply.twinRole = fld h 24 3 ∧
        ((∃ q, p.rxSeq = some q ∧ fld h 160 32 ≠ q + 1) → t.dev.ply.gapCnt = p.gapCnt + 1 ∧
          t.dev.ply.gapSeen = some (s.dev.tb.frame, s.dev.tb.sample) ∧
          t.dev.ply.health.gaps = satAdd p.health.gaps 1 ∧ ∀ c, t.dev.ply.cutIn = some c → c.bad = true) ∧
        (plyCalm h p → t.dev.ply.gapCnt = p.gapCnt)))) ∧
    (∀ h pl, fits = true → plyAccepted 1 bytes s h pl → plyCalm h p →
      let x : BitVec 384 := leBits 384 (slice pl 0 48)
      let twin := (fld h 24 8).toNat
      let eq := (if rx < 500000 then s.dev.tb.frame else s.dev.tb.nextFrame) == fld h 192 64
      Runs (.plyStatusReceive rx bytes) s (fun t =>
        let q := t.dev.ply
        q.twinFw = fld x 0 32 ∧ (∀ a, a < 6 → tget 0 q.twinDigest a = fld x (64 + 32 * a) 32) ∧
          q.twinLineState = fld x 256 48 ∧ q.statusPrev = some (fld h 192 64, rx) ∧ q.frameEq = eq ∧
          (p.role = .dead → q.role = .dead) ∧ (p.role = .joining → q.role = .joining) ∧
          (p.role = .solo → (p.pairId = 0 ∨ fld h 128 32 ≠ p.pairId) → q.role = .solo) ∧
          (p.role = .solo → p.pairId ≠ 0 → fld h 128 32 = p.pairId →
            let own := s.dev.lineStates ≠ 0
            let serves := fld x 256 48 ≠ (0 : BitVec 48)
            (twin = 2 → q.role = .joining) ∧ (twin ≠ 0 → twin ≠ 2 → q.role = .solo) ∧
              (twin = 0 → own → serves → q.role = .solo ∧ q.conflict = true) ∧
              (twin = 0 → own → ¬serves → q.role = .leading) ∧ (twin = 0 → ¬own → serves → q.role = .joining) ∧
              (twin = 0 → ¬own → ¬serves →
                q.role = if s.dev.fuses.serial < fld h 64 64 then .leading else .joining)) ∧
          (p.role = .trailing →
            (eq = true → q.role = .trailing ∧ q.mismatchRun = 0) ∧
              (eq = false → p.mismatchRun < 2 → q.role = .trailing ∧ q.mismatchRun = p.mismatchRun + 1) ∧
              (eq = false → 2 ≤ p.mismatchRun → q.role = .joining)) ∧
          (p.role = .leading →
            (twin = 1 → q.role = .leading ∧ q.twinState = .joining) ∧
              (twin = 2 → q.role = if fld h 64 64 < s.dev.fuses.serial then .joining else .leading) ∧
              (twin = 3 → q.role = .leading ∧ q.twinState = .ok ∧ q.sweep = none) ∧
              (twin = 0 ∨ 3 < twin → q.role = .leading)))) ∧
    (∀ h pl, fits = true → plyAccepted 2 bytes s h pl → plyCalm h p → pl.length = 24 →
      let e : BitVec 192 := leBits 192 pl
      let k := (fld e 0 17).toNat
      let o := s.dev.point k
      let takes := o.mirrored = true ∧ o.srcKind = 0 ∧ o.subst = false ∧ o.quarantined = false
      (takes → Runs (.plyMirrorReceive bytes) s (fun t =>
        let n := t.dev.point k
        n.value = canonical o.ptype.toNat (fld e 64 64) ∧ n.quality = fld e 54 2 ∧ n.detail = fld e 56 8 ∧
          n.mirProduced = bit e 53 ∧ ((n.value ≠ o.value ∨ n.quality ≠ o.quality ∨ n.detail ≠ o.detail) → n.tstamp = fld e 128 64) ∧
          (∀ j, j ≠ k → t.dev.point j = s.dev.point j) ∧
          only t { plyNoted h p with
            mirrorRx := p.mirrorRx + 1, health := { p.health with applied := satAdd p.health.applied 1 } })) ∧
      (¬takes → Runs (.plyMirrorReceive bytes) s (fun t =>
        silent t { plyNoted h p with mirrorRej := p.mirrorRej + 1 }))) ∧
    (∀ h pl, fits = true → plyAccepted 3 bytes s h pl → plyCalm h p →
      let head : BitVec 128 := leBits 128 (slice pl 0 16)
      let items := catchParse (fld head 66 16).toNat (pl.drop 16)
      (p.role ≠ .joining → Runs (.plyCatchupReceive bytes) s (fun t => silent t (plyNoted h p))) ∧
      (p.role = .joining → bit head 64 = false → items = none → Runs (.plyCatchupReceive bytes) s (fun t =>
        silent t { plyNoted h p with badCnt := p.badCnt + 1 })) ∧
      (∀ i b, p.role = .joining → bit head 64 = false → items = some [⟨0, i, b⟩] →
        Runs (.plyCatchupReceive bytes) s (fun t => t.dev.srec i = srecOf (leBits 128 b) ∧
          (∀ j, j ≠ i → t.dev.srec j = s.dev.srec j) ∧ s.silent t { s.dev with
            ply := plyNoted h p, lg := { s.dev.lg with states := t.dev.lg.states } })) ∧
      (∀ j b, p.role = .joining → bit head 64 = false → items = some [⟨1, j, b⟩] →
        Runs (.plyCatchupReceive bytes) s (fun t =>
          let x : BitVec 288 := leBits 288 b
          let l := t.dev.loop j
          l.integ = fld x 224 64 ∧ l.outLast = fld x 192 32 ∧ l.pvPrev = fld x 160 32 ∧ l.spUsed = fld x 96 32 ∧
            l.st = loopStOf (fld x 69 3).toNat ∧ l.cfg = (s.dev.loop j).cfg ∧
            (∀ m, m ≠ j → t.dev.loop m = s.dev.loop m) ∧
            s.silent t { s.dev with ply := plyNoted h p, lp := { s.dev.lp with loops := t.dev.lp.loops } })) ∧
      (∀ k b, p.role = .joining → bit head 64 = false → items = some [⟨2, k, b⟩] →
        let o := s.dev.point k
        let takes := (o.srcKind = 2 ∨ (o.srcKind = 3 ∧ o.srcIndex.toNat < 2048)) ∧ o.subst = false ∧ o.quarantined = false
        (takes → Runs (.plyCatchupReceive bytes) s (fun t => only t (plyNoted h p) ∧
          let n := t.dev.point k
          n.value = canonical o.ptype.toNat (leBits 64 (b.take 8)) ∧ n.quality = fld (b.getD 17 0) 0 2 ∧
            n.detail = b.getD 16 0 ∧ n.tstamp = leBits 64 ((b.drop 8).take 8) ∧
            ∀ j, j ≠ k → t.dev.point j = s.dev.point j)) ∧
        (¬takes → Runs (.plyCatchupReceive bytes) s (fun t => silent t (plyNoted h p)))) ∧
      (let c : W64 := fld head 0 64
       let late := s.dev.cutOver c
       (p.role = .joining → bit head 64 = true → p.cutDone = some c → Runs (.plyCatchupReceive bytes) s (fun t =>
         silent t (plyNoted h p))) ∧
       (∀ x, p.role = .joining → bit head 64 = true → p.cutDone ≠ some c → p.cutIn = some x → x.frame = c →
         (∀ xs, items = some xs → Runs (.plyCatchupReceive bytes) s (fun t => silent t { plyNoted h p with
           cutIn := some ⟨c, x.items ++ xs, x.bad || (late && !x.ended), x.ended || bit head 65⟩ })) ∧
         (items = none → Runs (.plyCatchupReceive bytes) s (fun t => silent t { plyNoted h p with
           cutIn := some { x with bad := true }, badCnt := p.badCnt + 1 }))) ∧
       (p.role = .joining → bit head 64 = true → p.cutDone ≠ some c →
         (p.cutIn = none ∨ ∃ x, p.cutIn = some x ∧ x.frame ≠ c) → Runs (.plyCatchupReceive bytes) s (fun t =>
           s.silent t { s.dev with ply := t.dev.ply } ∧
           t.dev.ply.catchupTries = (if 3 ≤ p.catchupTries.toNat then 0 else p.catchupTries) ∧
           (p.joinStep = 5 → t.dev.ply.joinStep = 6) ∧
           (∀ xs, items = some xs → t.dev.ply.cutIn = some ⟨c, xs, s.dev.cutGap c || late, bit head 65⟩) ∧
           (items = none → t.dev.ply.cutIn = some ⟨c, [], true, false⟩ ∧ t.dev.ply.badCnt = p.badCnt + 1))))) ∧
    (∀ h pl, fits = true → plyAccepted 4 bytes s h pl → plyCalm h p →
      let x : W64 := leBits 64 (slice pl 0 8)
      let code := (fld x 0 8).toNat
      let n := plyNoted h p
      let serving := p.role = .leading ∨ p.role = .trailing ∨ p.role = .joining
      let picked (k : Nat) : Prop := k < 16 ∧ bit x (8 + k) = true
      Runs (.plyNoticeReceive bytes) s (fun t =>
        (code = 1 → only t { n with twinWarn := true } ∧ t.dev.ps = s.dev.ps) ∧
        (code = 2 → only t { n with twinWarn := false } ∧ t.dev.ps = s.dev.ps) ∧
        (code = 3 ∨ code = 7 → serving → p.twinState ≠ .lost →
          t.dev.ply.twinState = .lost ∧ t.dev.ply.lostCnt = p.lostCnt + 1 ∧ t.dev.ply.giveupSeen = true ∧
            t.dev.ply.role = if p.role = .trailing then .leading else p.role) ∧
        (code = 3 ∨ code = 7 → (¬serving ∨ p.twinState = .lost) → silent t n) ∧
        (code = 4 → p.role = .trailing → s.dev.tb.frame < (fld x 8 56).setWidth 64 → silent t { n with
          yieldAt := some ((fld x 8 56).setWidth 64), yieldTwin := true, yieldAck := false }) ∧
        (code = 4 → (p.role ≠ .trailing ∨ (fld x 8 56).setWidth 64 ≤ s.dev.tb.frame) → silent t n) ∧
        (code = 5 → serving → t.dev.ply.role = .solo ∧ t.dev.ply.pairId = 0 ∧ t.dev.ply.twinState = .none ∧
          (p.role = .leading → t.dev.lines = s.dev.lines) ∧
          (p.role ≠ .leading → ∀ k, k < 16 → (t.dev.line k).st = .off)) ∧
        (code = 5 → p.role = .solo → silent t n) ∧ (code = 5 → p.role = .dead → silent t { n with pairId := 0 }) ∧
        (code = 6 → p.role = .trailing → fld x 24 2 ≠ 3#2 →
          (∀ k, ¬picked k → t.dev.line k = s.dev.line k) ∧ t.dev.ply = n ∧
            ∀ k, picked k →
              (fld x 24 2 = 0#2 → (t.dev.line k).st = .off) ∧
              (fld x 24 2 = 1#2 → (s.dev.line k).st = .off → (t.dev.line k).st = .precheck) ∧
              (fld x 24 2 = 1#2 → (s.dev.line k).st ≠ .off → t.dev.line k = s.dev.line k) ∧
              (fld x 24 2 = 2#2 → (s.dev.line k).st = .latched → (t.dev.line k).st = .precheck)) ∧
        (code = 6 → (p.role ≠ .trailing ∨ fld x 24 2 = 3#2) → silent t n) ∧
        (code = 0 ∨ 7 < code → silent t n)))

/-- CATCHUP_SEND, CUTOVER_LOAD, CATCHUP_RESTART, JOIN_STEP_TIMEOUT, PLY_LINK_LOST, HB_LOST, TWIN_LOST and PLY_HB_IN_CHANGE
(R517, R520, R523, R529, R532 to R534, R537): the leader sends what its sweep still has to send, and leaves a frozen set to
phase E; the joining module loads a complete cutover set and trails, or discards it; a step that does not pass in time is
told once; a twin of which no evidence stands is lost, and a trailing module then leads; a point that the loss of the twin
set BAD with SOURCE_LOST stays so when the link falls.
What rests here on the model's own reading or choice stands in log entries 12, 61, 63 and 123. -/
def Obligations.JoinAndLoss : Prop :=
  ∀ s : State, s.up →
    let p := s.dev.ply
    let still (t : State) : Prop := s.silent t s.dev
    let only (t : State) (q : Ply) : Prop := t.dev.ply = q ∧ s.frame t { s.dev with ply := q }
    let sent (t : State) (w : Sweep) : Prop :=
      (∃ b, t.dev.out = [.ply b]) ∧ only t { p with sweep := some w }
    let fits := fitItems 204 4080
    ((p.sweep = none ∨ p.latch = true ∨ p.role ≠ .leading) → Runs .catchupSend s still) ∧
    (∀ w, p.sweep = some w → p.latch = false → p.role = .leading →
      (w.frozen ≠ none → Runs .catchupSend s still) ∧
      (∀ n, w.frozen = none → w.pos = some n →
        let due := s.dev.passItems n
        (fits due ≠ [] → Runs .catchupSend s (fun t =>
          sent t { w.note (fits due) with pos := ((due.drop (fits due).length).head?).map CatchItem.key })) ∧
        (due = [] → Runs .catchupSend s (fun t =>
          s.silent t { s.dev with ply := { p with sweep := some { w with pos := none } } }))) ∧
      (w.frozen = none → w.pos = none →
        let due := s.dev.dirtyItems w
        (fits due ≠ [] → Runs .catchupSend s (fun t => sent t (w.note (fits due)))) ∧
        (fits due = [] → Runs .catchupSend s still))) ∧
    ((s.dev.cutDue = false) → Runs .cutoverLoad s still) ∧
    (∀ c, p.cutIn = some c → s.dev.cutDue = true →
      let whole := c.ended = true ∧ c.bad = false ∧ p.joinStep = 6 ∧ s.dev.tb.frame = c.frame + 1
      (whole → Runs .cutoverLoad s (fun t => plyFrame s t ∧
        t.dev.ply.role = .trailing ∧ t.dev.ply.twinState = .ok ∧ t.dev.ply.joinStep = 0 ∧ t.dev.ply.cutIn = none ∧
        t.dev.ply.cutDone = some c.frame ∧
        t.dev.ply.firstCopy = some (c.frame + 2) ∧ t.dev.ply.roleCnt = p.roleCnt + 1 ∧
        t.dev.ply.roleFrame = s.dev.tb.frame ∧
        ∀ k, k < 16 → fld p.twinLineState (3 * k) 3 = (0 : BitVec 3) → t.dev.line k = s.dev.line k)) ∧
      (¬whole → Runs .cutoverLoad s (fun t => only t { p with
        cutIn := none, cutDone := some c.frame, catchupTries := p.catchupTries + 1
        refuse := if (p.catchupTries + 1).toNat = 3 ∧ p.joinStep = 6 then 5 else p.refuse }))) ∧
    (∀ w, p.sweep = some w → p.role = .leading → 60000 ≤ w.age → p.catchupTries.toNat < 3 →
      Runs .catchupRestart s (fun t => only t { p with sweep := some ⟨[], some 0, 0, none, none⟩ })) ∧
    ((p.sweep = none ∨ p.role ≠ .leading ∨ 3 ≤ p.catchupTries.toNat ∨ ∃ w, p.sweep = some w ∧ w.age < 60000) →
      Runs .catchupRestart s still) ∧
    (p.role = .joining → 2 ≤ p.joinStep → p.joinStep ≤ 4 → 1000 ≤ p.stepAge → p.stepTold = false →
      Runs .joinStepTimeout s (fun t => only t { p with stepTold := true, refuse := BitVec.ofNat 8 p.joinStep })) ∧
    ((p.role ≠ .joining ∨ p.joinStep < 2 ∨ 4 < p.joinStep ∨ p.stepAge < 1000 ∨ p.stepTold = true) →
      Runs .joinStepTimeout s still) ∧
    (p.linkOk = true → p.linkDue = true → Runs .plyLinkLost s (fun t =>
      t.dev.ply = { p with linkOk := false } ∧ s.frame t { s.dev with ply := t.dev.ply, ps := t.dev.ps } ∧
        ∀ k x, (k, x) ∈ s.dev.ps.points → x = s.dev.point k → x.mirProduced = true → x.mirrored = true → x.srcKind = 0 →
          x.subst = false → x.quarantined = false →
          (s.dev.lostMirror x = false →
            (t.dev.point k).quality = 1 ∧ (t.dev.point k).detail = 0x07 ∧ (t.dev.point k).value = x.value) ∧
          ((∀ y, (k, y) ∈ s.dev.ps.points → s.dev.lostMirror y = true) → t.dev.point k = x))) ∧
    ((p.linkOk = false ∨ p.linkDue = false) → Runs .plyLinkLost s still) ∧
    (p.hbOk = true → p.hbRun = 0 → Runs .hbLost s (fun t => only t { p with hbOk := false })) ∧
    ((p.hbOk = false ∨ p.hbRun ≠ 0) → Runs .hbLost s still) ∧
    Runs .plyHbInChange s (fun t => s.silent t { s.dev with ply := { p with hbIn := !p.hbIn, hbNow := true } }) ∧
    (let frames := if p.twinWarn then 2 else p.lossFr.toNat
     let cycles := if p.twinWarn then 1 else 2
     let gone := frames ≤ p.lossRun ∧ (∀ k ∈ s.dev.onStrands, cycles ≤ tget 0 p.lossCyc k) ∧
       (p.role = .leading ∨ p.role = .trailing ∨ p.role = .joining) ∧ p.twinState ≠ .lost
     (gone → Runs .twinLost s (fun t =>
       t.dev.ply.twinState = .lost ∧ t.dev.ply.lostCnt = p.lostCnt + 1 ∧ t.dev.ply.giveupSeen = false ∧
         t.dev.ply.sweep = none ∧ t.dev.ply.cutIn = none ∧ t.dev.ply.yieldAt = none ∧
         t.dev.ply.role = (if p.role = .trailing then .leading else p.role) ∧
         (p.role = .trailing → t.dev.ply.roleFrame = s.dev.tb.frame ∧ t.dev.ply.roleCnt = p.roleCnt + 1) ∧
         s.frame t { s.dev with ply := t.dev.ply, ps := t.dev.ps })) ∧
     (¬gone → Runs .twinLost s still))

/-- YIELD_SWAP, YIELD_CANCELLED, SELF_YIELD, DIGEST_RECOMPUTE, DIGEST_MISMATCH and HEALTH (R520, R530, R539 to R542): the
twins change role in the frame that the leader announced and the trailing one acknowledged; without the acknowledgement the
leader keeps its role; a leader whose copy nobody hears yields; digests are recomputed and their mismatch told once; a
health report goes out while the command processor runs.
What rests here on the model's own reading or choice stands in log entries 12, 18, 64 and 65. -/
def Obligations.YieldAndDigests : Prop :=
  ∀ s : State, s.up →
    let p := s.dev.ply
    let still (t : State) : Prop := s.silent t s.dev
    let only (t : State) (q : Ply) : Prop := t.dev.ply = q ∧ s.frame t { s.dev with ply := q }
    let swapped (t : State) (r : Role) (w : Option Sweep) : Prop := only t { p with
      role := r, roleFrame := s.dev.tb.frame, roleCnt := p.roleCnt + 1, yieldAt := none, yieldAck := false
      yieldTwin := false, mismatchRun := 0, selfRun := [], suspectRun := []
      suspectTold := [], sweep := w }
    (∀ y, p.yieldAt = some y → y ≤ s.dev.tb.frame → p.role = .leading → p.yieldAck = true →
      Runs .yieldSwap s (fun t => swapped t .trailing none)) ∧
    (∀ y, p.yieldAt = some y → y ≤ s.dev.tb.frame → p.role = .trailing → p.yieldTwin = true →
      Runs .yieldSwap s (fun t => swapped t .leading p.sweep)) ∧
    ((p.yieldAt = none ∨ (∃ y, p.yieldAt = some y ∧ s.dev.tb.frame < y) ∨ (p.role ≠ .leading ∧ p.role ≠ .trailing) ∨
        (p.role = .leading ∧ p.yieldAck = false) ∨ (p.role = .trailing ∧ p.yieldTwin = false)) →
      Runs .yieldSwap s still) ∧
    (∀ y, p.yieldAt = some y → p.role = .leading → p.yieldAck = false → y.toNat ≤ s.dev.tb.frame.toNat + 4 →
      Runs .yieldCancelled s (fun t => only t { p with yieldAt := none })) ∧
    ((p.yieldAt = none ∨ p.role ≠ .leading ∨ p.yieldAck = true ∨
        ∃ y, p.yieldAt = some y ∧ s.dev.tb.frame.toNat + 4 < y.toNat) → Runs .yieldCancelled s still) ∧
    (let n := p.yieldCyc.toNat
     let yields := n ≠ 0 ∧ s.dev.yieldOk = true ∧ ∃ k ∈ s.dev.onStrands, n ≤ tget 0 p.selfRun k
     (yields → Runs .selfYield s (fun t => only t { p with
       yieldAt := some (BitVec.ofNat 64 ((s.dev.tb.frame.toNat + 23) / 8 * 8)), yieldAck := false, yieldTwin := false })) ∧
     (¬yields → Runs .selfYield s still)) ∧
    (∀ a, a < 6 → ((tget none p.digestDue a).isSome = true → Runs (.digestRecompute a) s (fun t =>
        tget 0 t.dev.ply.digest a = crc32 (digestBytes a s.dev) ∧
          (∀ b, b ≠ a → tget 0 t.dev.ply.digest b = tget 0 p.digest b) ∧ tget none t.dev.ply.digestDue a = none ∧
          s.silent t { s.dev with ply := { p with digest := t.dev.ply.digest, digestDue := t.dev.ply.digestDue } })) ∧
      (tget none p.digestDue a = none → Runs (.digestRecompute a) s still)) ∧
    (let due (a : Nat) : Prop := a < 6 ∧ tget 0 p.neqRun a = 1000
     (s.dev.paired = true → (∃ a, due a) → Runs .digestMismatch s (fun t =>
       (∀ a, (due a → tget 0 t.dev.ply.neqRun a = 1001) ∧ (¬due a → tget 0 t.dev.ply.neqRun a = tget 0 p.neqRun a)) ∧
         only t { p with neqRun := t.dev.ply.neqRun })) ∧
     ((s.dev.paired = false ∨ ∀ a, ¬due a) → Runs .digestMismatch s still)) ∧
    (p.pairId ≠ 0 → p.healthFr.toNat ≤ p.healthAge → s.dev.strokes = true → Runs .health s (fun t =>
      only t { p with healthAge := 0, health := ⟨0, 0, 0, 0, 0⟩ })) ∧
    ((p.pairId = 0 ∨ p.healthAge < p.healthFr.toNat ∨ s.dev.strokes = false) → Runs .health s still)

/-! ### Sessions and keys (18) -/

/-- The session handshake, enrolment and the ends of a session (R572, R576 to R582, R585): each refusal answers a RESULT with
its reason and counts it, and 1 s of BUSY follows a bad signature; a good HOST_FINISH makes the one session, closes every
channel and opens channel 64; a session that ends is cleared, with every channel closed and the update abandoned. A frame
that is no message for this module, or has another tag, does nothing; one of a wrong length or FCS is dropped and counted.
What rests here on the model's own reading or choice stands in log entries 53, 66, 67, 73, 86 and 111. -/
def Obligations.SessionEvents : Prop :=
  (∀ (s : State) (f : HsIn) (i : Instr), s.up → f.port < 2 → i ∈ [.hostHello f, .hostFinish f, .enroll f, .sessionEnd f] →
    let x := s.dev.port f.port
    (x.rxOk f.head = false → Runs i s (fun t => s.silent t { s.dev with ports := t.dev.ports } ∧
      (∀ q, q ≠ f.port → t.dev.port q = s.dev.port q) ∧
      t.dev.port f.port = { x with rxDropCnt := satAdd x.rxDropCnt 1 })) ∧
    (x.rxOk f.head = true → (∀ prio, f.head.tag ≠ some (prio, x.vid)) ∨ f.head.etherType ≠ 0x88B6 →
      Runs i s (fun t => s.silent t s.dev))) ∧
  ∀ (s : State) (f : HsIn), s.up → f.port < 2 →
    (s.dev.port f.port).rxOk f.head = true → (s.dev.port f.port).takes f.port f.head = true → f.head.etherType = 0x88B6 →
    let d := s.dev
    let k := s.dev.sec
    let still (t : State) : Prop := s.silent t s.dev
    let only (t : State) (x : Sec) : Prop := t.dev.sec = x ∧ s.frame t { s.dev with sec := x }
    let sends (port : Nat) (mac : BitVec 48) (body : List Byte → Prop) (t : State) : Prop :=
      (d.maySend port = true → ∃ head b : List Byte, head.length = 16 ∧ body b ∧ t.dev.out =
        [.eth port mac 0x8100 (beBytes 2 (d.port port).vid.toNat ++ beBytes 2 0x88B6 ++ head ++ b)]) ∧
      (d.maySend port = false → t.dev.out = [])
    let dropped (n : Nat) : Tbl Egress :=
      (((List.range n).filter (fun c => (d.chan c).st == .opened)).foldl (fun d c => dropEgress c d) d).eg
    let result (port : Nat) (mac : BitVec 48) (r : Nat) (t : State) : Prop :=
      sends port mac (fun b => b = [BitVec.ofNat 8 r, 0, 0, 0]) t
    let refused (hs : Option Handshake) (r : Nat) (t : State) : Prop := result f.port f.mac r t ∧ only t { k with
      hs := hs, failCnt := k.failCnt + 1, lastReason := BitVec.ofNat 8 r, badSig := if r = 3 then some (0, d.tb.sample) else k.badSig }
    let lc := d.fuses.lifecycle
    let blank := lc = 0 ∨ 4 ≤ lc
    let over1s (age at0 : Nat) : Prop := 32000 + at0 < 32 * age + d.tb.sample
    (hsParse 1 84 f d = none → Runs (.hostHello f) s still) ∧
    (∀ id body, hsParse 1 84 f d = some (id, body) →
      let busy := k.session = true ∨ k.hs.isSome = true ∨ ∃ b, k.badSig = some b ∧ ¬over1s b.1 b.2
      let slot := (body.headD 0).toNat
      (busy → Runs (.hostHello f) s (refused k.hs 1)) ∧
      (¬busy → blank → Runs (.hostHello f) s (refused none 8)) ∧
      (¬busy → ¬blank → d.helloKey slot = none → Runs (.hostHello f) s (refused none 2)) ∧
      (¬busy → ¬blank → d.helloKey slot ≠ none → k.entropyFail = true → Runs (.hostHello f) s (refused none 7)) ∧
      (¬busy → ¬blank → d.helloKey slot ≠ none → k.entropyFail = false → p256Point (body.drop 20) = none →
        Runs (.hostHello f) s (refused none 5)) ∧
      (∀ q, ¬busy → ¬blank → d.helloKey slot ≠ none → k.entropyFail = false → p256Point (body.drop 20) = some q →
        Runs (.hostHello f) s (fun t => ∃ tr z, t.dev.sec = { k with hs := some ⟨id, slot, tr, z, f.mac, f.port, 0, d.tb.sample⟩ } ∧
          sends f.port f.mac (fun b => b.length = 148) t ∧
          s.frame t { s.dev with sec := t.dev.sec, fresh := t.dev.fresh }))) ∧
    (hsParse 3 208 f d = none → Runs (.hostFinish f) s still) ∧
    (∀ id body, hsParse 3 208 f d = some (id, body) →
      (k.hs = none → Runs (.hostFinish f) s (refused none 5)) ∧
      (∀ h, k.hs = some h → id ≠ h.hsId → Runs (.hostFinish f) s (refused none 5)) ∧
      (∀ h, k.hs = some h → id = h.hsId → over1s h.age h.sample → Runs (.hostFinish f) s (refused none 4)) ∧
      (∀ h, k.hs = some h → id = h.hsId → ¬over1s h.age h.sample → Runs (.hostFinish f) s (fun t =>
        let good := ecdsaVerify ((d.helloKey h.slot).getD []) (sha256 (h.t ++ body.take 144)) (body.drop 144)
        (good = false → refused none 3 t) ∧
          (good = true → refused none 6 t ∨
            (t.dev.sec.session = true ∧ t.dev.sec.hs = none ∧ t.dev.sec.hsId = id ∧ t.dev.sec.keyKind = 4 ∧
              t.dev.sec.sessionCnt = k.sessionCnt + 1 ∧ t.dev.sec.failCnt = k.failCnt ∧
              (t.dev.chan 64).st = .opened ∧ (∀ ch, ch < 64 → (t.dev.chan ch).st = .closed) ∧
              sends f.port f.mac (fun b => b.length = 16) t ∧
              s.frame t { s.dev with tr := t.dev.tr, cp := t.dev.cp, sec := t.dev.sec, ports := t.dev.ports, eg := dropped 64 }))))) ∧
    (∀ h, k.hs = some h → over1s h.age h.sample → Runs .handshakeTimeout s (fun t => result h.port h.mac 4 t ∧ only t { k with
      hs := none, failCnt := k.failCnt + 1, lastReason := 4 })) ∧
    ((k.hs = none ∨ ∃ h, k.hs = some h ∧ ¬over1s h.age h.sample) → Runs .handshakeTimeout s still) ∧
    (hsParse 7 132 f d = none → Runs (.enroll f) s still) ∧
    (∀ id body, hsParse 7 132 f d = some (id, body) →
      let slot := (body.headD 0).toNat
      let key := (body.drop 4).take 64
      let new := if leNat key = 0 then [] else key
      let first := lc = 1 ∧ d.enrolled = [] ∧ slot = 0 ∧ leNat (body.drop 68) = 0
      let last := lc = 2 ∧ new = [] ∧ d.enrolled = [slot]
      (blank → Runs (.enroll f) s (refused k.hs 8)) ∧
      (¬blank → (lc = 3 ∨ 3 < slot) → Runs (.enroll f) s (refused k.hs 2)) ∧
      (¬blank → lc ≠ 3 → slot ≤ 3 → last → Runs (.enroll f) s (refused k.hs 8)) ∧
      (¬blank → lc ≠ 3 → slot ≤ 3 → ¬last → Runs (.enroll f) s (fun t =>
        let signed := ∃ j ∈ d.enrolled, j ≠ slot ∧
          ecdsaVerify (d.slotKey j) (sha256 (d.enrollBytes (body.headD 0) key)) (body.drop 68) = true
        ((first ∨ signed) → result f.port f.mac 0 t ∧ t.dev.slotKey slot = new ∧
          (∀ j, j ≠ slot → t.dev.slotKey j = d.slotKey j) ∧
          t.dev.flash = { d.flash with slots := t.dev.flash.slots, enrollCnt := d.flash.enrollCnt + 1 } ∧
          s.frame t { s.dev with flash := t.dev.flash }) ∧
        (¬first → ¬signed → refused k.hs 3 t)))) ∧
    (let ends (r : Nat) (t : State) : Prop := s.silent t { s.dev with sec := { k with ending := some ⟨r, d.tb.ran⟩ } }
     (hsParse 6 16 f d = none → Runs (.sessionEnd f) s still) ∧
     (∀ id tag, hsParse 6 16 f d = some (id, tag) → Runs (.sessionEnd f) s (fun t =>
       let valid := k.session = true ∧ id = k.hsId ∧ k.ending = none ∧ tag = gmac k.key
         (leBytes 4 k.hsId.toNat ++ [0, 0, 0, 0, 64, 4, 0, 0]) (leBytes 4 k.hsId.toNat)
       (valid → ends 0 t) ∧ (¬valid → still t))) ∧
     (10000 ≤ k.idle → k.session = true → k.ending = none → Runs .sessionIdle s (ends 1)) ∧
     ((k.idle < 10000 ∨ k.session = false ∨ k.ending ≠ none) → Runs .sessionIdle s still)) ∧
    (∀ e, k.ending = some e → e.ran < d.tb.ran → 28 ≤ d.tb.sample → Runs .sessionClose s (fun t =>
      t.dev.sec = { k with
        session := false, key := 0, keyKind := 0, hsId := 0, sessionSlot := 0, ending := none, idle := 0 } ∧
        (∀ ch, ch < 65 → (t.dev.chan ch).st = .closed) ∧ t.dev.upd.st = .idle ∧
        s.frame t { s.dev with
          tr := t.dev.tr, cp := t.dev.cp, sec := t.dev.sec, eg := dropped 65, upd := { s.dev.upd with st := .idle } })) ∧
    ((k.ending = none ∨ d.tb.sample < 28 ∨ ∃ e, k.ending = some e ∧ d.tb.ran ≤ e.ran) →
      Runs .sessionClose s still) ∧
    ((lc = 1 ∨ lc = 3) → k.debug = false → Runs .debugAttached s (fun t => only t { k with
      debug := true, ending := if k.session = true ∧ k.ending = none then some ⟨3, d.tb.ran⟩ else k.ending })) ∧
    ((lc ≠ 1 ∧ lc ≠ 3 ∨ k.debug = true) → Runs .debugAttached s still) ∧
    Runs .entropyFault s (fun t => only t { k with entropyFail := true })
end

