-- ==== Sys2Proof/Laws/Bytes.lean ====
section
/-!
SUPPORT. Bytes and the images that they spell, bytes placed in the retained SRAM, and a save copy read back.
-/
namespace Sys2Proof.Machine

@[simp] theorem leBytes_length (n x : Nat) : (leBytes n x).length = n := by
  induction n generalizing x with
  | zero => rfl
  | succ n ih => simp [leBytes, ih]

@[simp] theorem beBytes_length (n x : Nat) : (beBytes n x).length = n := by simp [beBytes]

theorem leNat_leBytes (n x : Nat) : leNat (leBytes n x) = x % 256 ^ n := by
  induction n generalizing x with
  | zero => simp [leBytes, leNat, Nat.mod_one]
  | succ n ih =>
    simp only [leBytes, leNat, ih, BitVec.toNat_ofNat]
    rw [show 256 ^ (n + 1) = 256 * 256 ^ n by rw [Nat.pow_succ, Nat.mul_comm], Nat.mod_mul]

theorem leNat_lt (bs : List Byte) : leNat bs < 2 ^ (8 * bs.length) := by
  induction bs with
  | nil => simp [leNat]
  | cons b bs ih =>
    have hb := b.isLt
    simp only [leNat, List.length_cons]
    have : 2 ^ (8 * (bs.length + 1)) = 256 * 2 ^ (8 * bs.length) := by rw [Nat.mul_add, Nat.pow_add]; omega
    omega

theorem leNat_append (a b : List Byte) : leNat (a ++ b) = leNat a + 2 ^ (8 * a.length) * leNat b := by
  induction a with
  | nil => simp [leNat]
  | cons x a ih =>
    simp only [List.cons_append, leNat, ih, List.length_cons]
    have : 2 ^ (8 * (a.length + 1)) = 256 * 2 ^ (8 * a.length) := by rw [Nat.mul_add, Nat.pow_add]; omega
    rw [this]; ring

/-- A field of an image that lies within the first bytes does not see the others. -/
theorem fld_leBits_append (w lo n : Nat) (a b : List Byte) (h : lo + n ≤ 8 * a.length) :
    fld (leBits w (a ++ b)) lo n = fld (leBits w a) lo n := by
  apply BitVec.eq_of_getLsbD_eq
  intro i hi
  simp only [fld, BitVec.getLsbD_extractLsb', leBits, BitVec.getLsbD_ofNat, leNat_append]
  rw [Nat.add_comm (leNat a), Nat.testBit_two_pow_mul_add _ (leNat_lt a)]
  simp [show lo + i < 8 * a.length by omega]

/-- The last bytes of an image. -/
theorem fld_leBits_tail (w n : Nat) (a b : List Byte) (h : 8 * a.length + 8 * n ≤ w) (hb : b.length = n) :
    fld (leBits w (a ++ b)) (8 * a.length) (8 * n) = leBits (8 * n) b := by
  apply BitVec.eq_of_getLsbD_eq
  intro i hi
  simp only [fld, BitVec.getLsbD_extractLsb', leBits, BitVec.getLsbD_ofNat, leNat_append]
  rw [Nat.add_comm (leNat a), Nat.testBit_two_pow_mul_add _ (leNat_lt a)]
  simp [show 8 * a.length + i < w by omega]

/-- The image that a number's bytes spell. -/
theorem leBits_leBytes (w n x : Nat) (h : 8 * n = w) : leBits w (leBytes n x) = BitVec.ofNat w x := by
  subst h
  apply BitVec.eq_of_toNat_eq
  simp only [leBits, leNat_leBytes, BitVec.toNat_ofNat]
  rw [show (256 : Nat) = 2 ^ 8 from rfl, ← Nat.pow_mul, Nat.mod_mod]

/-! ### Bytes in the retained SRAM -/

theorem placeBytes_cons (base : Nat) (b : Byte) (bs : List Byte) :
    placeBytes base (b :: bs) = (base, b) :: placeBytes (base + 1) bs := by
  simp only [placeBytes, List.length_cons, List.range_succ_eq_map, List.zip_cons_cons, List.map_cons, Nat.add_zero]
  congr 1
  rw [List.zip_map_left, List.map_map]
  apply List.map_congr_left
  intro x _
  simp [Prod.map, Nat.add_assoc, Nat.add_comm 1]

/-- The addresses that placed bytes take. -/
theorem placeBytes_addr (base : Nat) (bs : List Byte) : ∀ w ∈ placeBytes base bs, base ≤ w.1 ∧ w.1 < base + bs.length := by
  induction bs generalizing base with
  | nil => simp [placeBytes]
  | cons b bs ih =>
    rw [placeBytes_cons]
    intro w hw
    rcases List.mem_cons.mp hw with rfl | h
    · simp
    · have := ih (base + 1) w h
      simp only [List.length_cons]; omega

/-- Placed bytes read as written. -/
theorem Memory.read_placed (m : Memory) (base : Nat) (bs : List Byte) (h : base + bs.length ≤ Memory.size) (i : Nat)
    (hi : i < bs.length) : (m.writeAll (placeBytes base bs)).read (base + i) = bs[i] := by
  induction bs generalizing m base i with
  | nil => simp at hi
  | cons b bs ih =>
    simp only [List.length_cons] at h hi
    rw [placeBytes_cons]
    simp only [Memory.writeAll, List.foldl_cons]
    change ((m.write base b).writeAll (placeBytes (base + 1) bs)).read (base + i) = _
    cases i with
    | zero =>
      rw [Memory.read_writeAll_other _ _ _ (fun w hw => by have := placeBytes_addr _ _ w hw; omega)]
      simpa using Memory.read_write_self m base b (by omega)
    | succ i =>
      rw [show base + (i + 1) = base + 1 + i by omega, ih _ _ (by omega) i (by omega)]
      simp

/-- Bytes elsewhere read as before. -/
theorem Memory.read_placed_other (m : Memory) (base : Nat) (bs : List Byte) (a : Nat) (h : a < base ∨ base + bs.length ≤ a) :
    (m.writeAll (placeBytes base bs)).read a = m.read a :=
  Memory.read_writeAll_other _ _ _ (fun w hw => by have := placeBytes_addr _ _ w hw; omega)

/-- A save copy reads back: its header's fields, and its records (R395). -/
theorem readCopy_written (fmt : BitVec 16) (m : Memory) (b : Bool) (h recs : List Byte) (hh : h.length = 60) (hr : recs.length = 8064)
    (hm : fld (leBits 512 h) 0 32 = 0x4D455452#32) (hv : fld (leBits 512 h) 192 16 = fmt) :
    readCopy fmt (Memory.read (m.writeAll (placeBytes (if b then 0x2000 else 0)
      (h ++ leBytes 4 (crc32 (h ++ recs)).toNat ++ recs)))) b =
      some (fld (leBits 512 h) 256 64, (fld (leBits 512 h) 208 8).toNat, fld (leBits 512 h) 384 64,
        fld (leBits 512 h) 448 32, recs) := by
  set c := leBytes 4 (crc32 (h ++ recs)).toNat with hc
  have hcl : c.length = 4 := by simp [hc]
  set base := if b then 0x2000 else 0 with hbase
  have hb : base ≤ 0x2000 := by rw [hbase]; split <;> omega
  have hl : (h ++ c ++ recs).length = 8128 := by simp [hh, hcl, hr]
  have hread : (List.range 8128).map (fun i => (Memory.writeAll m (placeBytes base (h ++ c ++ recs))).read (base + i)) =
      h ++ c ++ recs := by
    apply List.ext_getElem
    · simp [hh, hcl, hr]
    · intro i h1 h2
      simp only [List.getElem_map, List.getElem_range]
      exact Memory.read_placed m base _ (by rw [hl]; simp only [Memory.size]; omega) i h2
  have ht : (h ++ c ++ recs).take 64 = h ++ c := by
    rw [List.take_append_of_le_length (by simp [hh, hcl]), List.take_of_length_le (by simp [hh, hcl])]
  have hd : (h ++ c ++ recs).drop 64 = recs := by
    rw [List.drop_append_of_le_length (by simp [hh, hcl]), List.drop_of_length_le (by simp [hh, hcl]), List.nil_append]
  have h60 : (h ++ c ++ recs).take 60 = h := by
    rw [List.append_assoc, List.take_append_of_le_length (by omega), List.take_of_length_le (by omega)]
  have hcrc : fld (leBits 512 (h ++ c)) 480 32 = crc32 (h ++ recs) := by
    have := fld_leBits_tail 512 4 h c (by omega) hcl
    rw [hh] at this
    rw [this, hc, leBits_leBytes _ _ _ rfl, BitVec.ofNat_toNat, BitVec.setWidth_eq]
  unfold readCopy
  simp only [← hbase, hread, ht, hd, h60]
  rw [hcrc]
  have f (lo n : Nat) (hx : lo + n ≤ 480) : fld (leBits 512 (h ++ c)) lo n = fld (leBits 512 h) lo n :=
    fld_leBits_append _ _ _ _ _ (by omega)
  rw [f 0 32 (by omega), f 192 16 (by omega), f 256 64 (by omega), f 208 8 (by omega), f 384 64 (by omega),
    f 448 32 (by omega), hm, hv]
  simp

/-- With copy B known to be damaged, copy A is the newest where it is valid (R396). -/
theorem newestCopy_a (fmt : BitVec 16) (ram : Nat → Byte) (x : W64 × Nat × W64 × Reg × List Byte)
    (h : readCopy fmt ram false = some x) : newestCopy fmt false true ram = some (false, x) := by simp [newestCopy, h]

end Sys2Proof.Machine
end

