-- ==== Sys2Proof/Laws/Island.lean ====
section
/-!
SUPPORT. What the operations of the safety island do to the outputs of a logic copy (R445, R451, R452, R454): each keeps
the switches in agreement with the output's state.
-/
namespace Sys2Proof.Machine

theorem IslCopy.sound_iff (q : Bool) (c : IslCopy) : c.sound q = true ↔ ∀ j < 4, (c.outp j).sound q = true := by
  simp only [IslCopy.sound, List.all_eq_true]
  constructor
  · intro h j hj
    exact h j (by simp; omega)
  · intro h j hj
    exact h j (by simp at hj; omega)

theorem IslCopy.setOutp_sound {q : Bool} {c : IslCopy} (h : c.sound q = true) (j : Nat) {v : SafeOut}
    (hv : j < 4 → v.sound q = true) : (c.setOutp j v).sound q = true := by
  rw [IslCopy.sound_iff] at h ⊢
  intro i hi
  simp only [IslCopy.outp, IslCopy.setOutp, tget_tset]
  split
  · next e => exact hv (e ▸ hi)
  · exact h i hi

theorem IslCopy.setInp_sound {q : Bool} {c : IslCopy} (h : c.sound q = true) (k : Nat) (v : SafeIn) :
    (c.setInp k v).sound q = true := h

/-- A fold of operations that each keep a copy sound. -/
theorem IslCopy.foldl_sound {q : Bool} {α : Type} (f : IslCopy → α → IslCopy) (xs : List α) {c : IslCopy}
    (h : c.sound q = true) (hf : ∀ c x, c.sound q = true → (f c x).sound q = true) : (xs.foldl f c).sound q = true := by
  induction xs generalizing c with
  | nil => exact h
  | cons x xs ih => exact ih (hf c x h)

/-- An output that enters OFF or FAULT with its switches open. -/
theorem SafeOut.enter_rest_sound (q : Bool) (v : SafeOut) (tick : Nat) (st : OutSt) (h : st = .off ∨ st = .fault) :
    (v.enter tick st false false).sound q = true := by
  rcases h with rfl | rfl <;> cases q <;> rfl

theorem SafeOut.trip_sound (q : Bool) (v : SafeOut) (tick : Nat) (b : BitVec 4) : (v.trip tick b).sound q = true := by
  cases q <;> rfl

theorem SafeOut.stop_sound (q : Bool) (v : SafeOut) (tick : Nat) : (v.stop tick).sound q = true := by cases q <;> rfl

/-- A demand leaves an output at rest. -/
theorem SafeOut.demand_sound (q : Bool) (v : SafeOut) (tick : Nat) (h : v.sound false = true) :
    (v.demand tick).sound q = true := by
  unfold SafeOut.demand
  split
  · exact SafeOut.stop_sound ..
  · exact SafeOut.stop_sound ..
  · exact SafeOut.stop_sound ..
  · next h1 h2 h3 =>
    unfold SafeOut.sound SafeOut.agrees SafeOut.rests at *
    cases hst : v.st <;> simp_all

/-! ### Operations of one copy -/

theorem discLatch_sound {q : Bool} {c : IslCopy} (h : c.sound q = true) (n tick k : Nat) :
    (discLatch n tick k c).sound q = true := by
  unfold discLatch; simp only; split
  · exact IslCopy.setInp_sound h ..
  · exact h

theorem brakeLatch_sound {q : Bool} {c : IslCopy} (h : c.sound q = true) (coil : Bool) (tick j : Nat) :
    (brakeLatch coil tick j c).sound q = true := by
  unfold brakeLatch; simp only; split
  · exact h
  · exact IslCopy.setOutp_sound h j (fun _ => SafeOut.trip_sound ..)

theorem testStep_sound {q : Bool} {c : IslCopy} (h : c.sound q = true) (tick j : Nat) :
    (testStep tick j c).sound q = true := by
  have hv := (IslCopy.sound_iff q c).1 h j
  unfold testStep
  generalize c.outp j = v at hv
  cases hst : v.st with
  | testing n =>
    by_cases hj : j < 4
    · have hq : q = false := by
        cases q
        · rfl
        · simpa [SafeOut.sound, SafeOut.rests, hst] using hv hj
      subst hq
      simp only [hst]
      split
      · exact h
      · split <;> split <;> exact IslCopy.setOutp_sound h j (fun _ => by rfl)
    · simp only [hst]
      split
      · exact h
      · split <;> split <;> exact IslCopy.setOutp_sound h j (fun k => absurd k hj)
  | off => simpa only [hst] using h
  | releasing => simpa only [hst] using h
  | on => simpa only [hst] using h
  | fault => simpa only [hst] using h

theorem clearInput_sound {q : Bool} {c : IslCopy} (h : c.sound q = true) (tick k : Nat) :
    (clearInput tick k c).sound q = true := by
  unfold clearInput; simp only; split
  · exact IslCopy.setInp_sound h ..
  · exact h

theorem clearOutput_sound {q : Bool} {c : IslCopy} (h : c.sound q = true) (tick j : Nat) :
    (clearOutput tick j c).sound q = true := by
  unfold clearOutput; simp only; split
  · exact IslCopy.setOutp_sound h j (fun _ => by cases q <;> rfl)
  · exact h

theorem clearEnable_sound {q : Bool} {c : IslCopy} (h : c.sound q = true) : (clearEnable c).sound q = true := by
  unfold clearEnable; split
  · exact h
  · exact h

theorem settleCopy_sound {q : Bool} {c : IslCopy} (h : c.sound q = true) (n tick : Nat) (coil : Bool) :
    (settleCopy n tick coil c).sound q = true := by
  unfold settleCopy
  refine clearEnable_sound (IslCopy.foldl_sound _ _ (IslCopy.foldl_sound _ _ h ?_) ?_)
  · exact fun c k hc => clearInput_sound (discLatch_sound hc ..) ..
  · exact fun c j hc => clearOutput_sound (testStep_sound (brakeLatch_sound hc ..) ..) ..

theorem inputTick_sound {q : Bool} {c : IslCopy} (h : c.sound q = true) (n tick k : Nat) (a b low : Bool) :
    (inputTick n tick k a b low c).sound q = true := IslCopy.setInp_sound h ..

theorem enableTick_sound {q : Bool} {c : IslCopy} (h : c.sound q = true) (n tick : Nat) (a b : Bool) :
    (enableTick n tick a b c).1.sound q = true := h

theorem SafeOut.sample_sound (q : Bool) (v : SafeOut) (sbf : Bool) (mv : Nat) (h : v.sound q = true) :
    (v.sample sbf mv).sound q = true := h

/-- One tick of an output: outside READY it comes to rest, or stays there. -/
theorem outputTick_sound {c : IslCopy} (x : Island) (h : c.sound (x.st != .ready) = true) (j : Nat) (pulse sbf : Bool)
    (mv : Nat) : (outputTick x j pulse sbf mv c).sound (x.st != .ready) = true := by
  unfold outputTick
  simp only
  refine IslCopy.setOutp_sound h j (fun hj => ?_)
  have hv := SafeOut.sample_sound _ _ sbf mv ((IslCopy.sound_iff _ c).1 h j hj)
  generalize (c.outp j).sample sbf mv = v at hv
  cases hst : v.st with
  | off =>
    simp only
    by_cases hr : x.st = .ready
    · simp only [hr] at hv ⊢
      generalize (IslSt.ready == IslSt.ready && restartOk (x.mapped j) j c &&
        (if x.manual = true then pulse else c.enA && c.enB)) = r
      split
      · split <;> rfl
      · exact hv
    · have hr' : (x.st == IslSt.ready) = false := by simpa using hr
      simp [hr']
      simpa [bne, hr'] using hv
  | testing n =>
    have hw : v.sound false = true := by simp_all [SafeOut.sound]
    simp only
    split
    · exact SafeOut.demand_sound _ _ _ hw
    · exact hv
  | releasing =>
    have hw : v.sound false = true := by simp_all [SafeOut.sound]
    simp only
    split
    · exact SafeOut.demand_sound _ _ _ hw
    · by_cases hr : x.st = .ready
      · simp only [hr] at hv ⊢
        split
        · rfl
        · exact hv
      · simp [SafeOut.sound, SafeOut.rests, hst, hr] at hv
  | on =>
    have hw : v.sound false = true := by simp_all [SafeOut.sound]
    simp only
    split
    · exact SafeOut.demand_sound _ _ _ hw
    · exact hv
  | fault => simpa only [SafeOut.sound, SafeOut.agrees, SafeOut.rests, hst] using hv

theorem copyTick_sound {c : IslCopy} (x : Island) (i : TickIn) (h : c.sound (x.st != .ready) = true) :
    (copyTick x i c).sound (x.st != .ready) = true := by
  unfold copyTick
  simp only
  refine IslCopy.foldl_sound _ _ (IslCopy.foldl_sound _ _ (enableTick_sound h ..) ?_) ?_
  · exact fun c k hc => inputTick_sound hc ..
  · exact fun c j hc => outputTick_sound x hc ..

theorem initTick_sound {q : Bool} {c : IslCopy} (x : Island) (i : TickIn) (h : c.sound q = true) :
    (initTick x i c).sound q = true := by
  unfold initTick
  refine IslCopy.foldl_sound _ _ (IslCopy.foldl_sound _ _ h (fun c k hc => IslCopy.setInp_sound hc ..)) ?_
  exact fun c j hc => IslCopy.setOutp_sound hc j (fun hj => (IslCopy.sound_iff q c).1 hc j hj)

/-- At the entry of READY every output is OFF. -/
theorem atReady_sound (x : Island) (c : IslCopy) : (IslCopy.atReady x c).sound false = true := by
  unfold IslCopy.atReady
  refine IslCopy.foldl_sound _ _ (IslCopy.foldl_sound _ _ (by rfl) (fun c k hc => IslCopy.setInp_sound hc ..)) ?_
  exact fun c j hc => IslCopy.setOutp_sound hc j (fun _ => by rfl)

theorem pulseCheck_sound {q : Bool} {c : IslCopy} (h : c.sound q = true) (b own other was : Bool) (tick k : Nat) :
    (pulseCheck b own other was tick k c).sound q = true := IslCopy.setInp_sound h ..

/-! ### Operations of the island -/

/-- What is left of the island's invariant once SAFE_OK has been driven from the copies. -/
def Island.core (x : Island) : Bool :=
  x.copyA.sound (x.st != .ready) && x.copyB.sound (x.st != .ready) && x.masksApart

theorem Island.sound_core {x : Island} (h : x.sound = true) : x.core = true := by
  simp only [Island.sound, Island.core, Bool.and_eq_true] at *
  tauto

theorem Island.driveOk_sound {x : Island} (h : x.core = true) : x.driveOk.sound = true := by
  simp only [Island.core, Bool.and_eq_true] at h
  simp only [Island.sound, Island.driveOk, Bool.and_eq_true, beq_self_eq_true]
  tauto

@[simp] theorem Island.both_st (x : Island) (f : IslCopy → IslCopy) : (x.both f).st = x.st := rfl

theorem Island.both_core {x : Island} (h : x.core = true) (f : IslCopy → IslCopy)
    (hf : ∀ c : IslCopy, c.sound (x.st != .ready) = true → (f c).sound (x.st != .ready) = true) :
    (x.both f).core = true := by
  simp only [Island.core, Island.both, Bool.and_eq_true] at *
  exact ⟨⟨hf _ h.1.1, hf _ h.1.2⟩, h.2⟩

/-- Outside READY, where SAFE_OK is low. -/
theorem Island.both_quiet {x : Island} (h : x.sound = true) (hs : x.st ≠ .ready) (f : IslCopy → IslCopy)
    (hf : ∀ c : IslCopy, c.sound true = true → (f c).sound true = true) : (x.both f).sound = true := by
  have hq : (x.st != .ready) = true := by simpa using hs
  have hr : (x.st == .ready) = false := by simpa using hs
  simp only [Island.sound, Island.both, hq, hr, Bool.and_eq_true] at *
  exact ⟨⟨⟨⟨hf _ h.1.1.1.1, hf _ h.1.1.1.2⟩, h.1.1.2⟩, h.1.2⟩, h.2⟩

theorem IslCopy.demandAll_sound {c : IslCopy} (tick : Nat) (h : c.sound false = true)  :
    ([0, 1, 2, 3].foldl (fun c j => IslCopy.setOutp c j ((c.outp j).demand tick)) c).sound false = true :=
  IslCopy.foldl_sound _ _ h (fun c j hc =>
    IslCopy.setOutp_sound hc j (fun hj => SafeOut.demand_sound _ _ _ ((IslCopy.sound_iff _ c).1 hc j hj)))

/-- An island fault leaves every output at rest (R454). -/
theorem Island.trip_sound {x : Island} (h : x.core = true) (hs : x.copyA.sound false = true ∧ x.copyB.sound false = true)
    (cause : BitVec 8) : (x.trip cause).sound = true := by
  have rest : ∀ c : IslCopy, c.sound false = true →
      ([0, 1, 2, 3].foldl (fun c j => IslCopy.setOutp c j ((c.outp j).demand x.tick)) c).sound true = true := by
    intro c hc
    rw [IslCopy.sound_iff] at hc ⊢
    have keep : ∀ (c : IslCopy) (i j : Nat) (v : SafeOut), (c.setOutp j v).outp i = if i = j then v else c.outp i :=
      fun c i j v => tget_tset ..
    intro j hj
    have hd := SafeOut.demand_sound true (c.outp j) x.tick (hc j hj)
    simp only [List.foldl_cons, List.foldl_nil, keep]
    interval_cases j <;> simpa using hd
  simp only [Island.core, Bool.and_eq_true] at h
  simp only [Island.sound, Island.trip, Island.both, Bool.and_eq_true]
  exact ⟨⟨⟨⟨rest _ hs.1, rest _ hs.2⟩, rfl⟩, rfl⟩, h.2⟩

/-- A sound copy is sound in the weaker sense. -/
theorem IslCopy.sound_weaken {q : Bool} {c : IslCopy} (h : c.sound q = true) : c.sound false = true := by
  rw [IslCopy.sound_iff] at h ⊢
  intro j hj
  have := h j hj
  simp only [SafeOut.sound, Bool.and_eq_true] at this ⊢
  exact ⟨this.1, rfl⟩

theorem Island.core_weaken {x : Island} (h : x.core = true) : x.copyA.sound false = true ∧ x.copyB.sound false = true := by
  simp only [Island.core, Bool.and_eq_true] at h
  exact ⟨IslCopy.sound_weaken h.1.1, IslCopy.sound_weaken h.1.2⟩

theorem Island.trip_keeps_sound {x : Island} (h : x.core = true) (cause : BitVec 8) : (x.trip cause).sound = true :=
  Island.trip_sound h (Island.core_weaken h) cause

theorem Island.latch_sound {x : Island} (h : x.sound = true) (i : TickIn) : (x.latch i).sound = true := by
  simp only [Island.sound, Bool.and_eq_true] at h ⊢
  exact ⟨h.1, rfl⟩

theorem Island.latch_core {x : Island} (h : x.core = true) (i : TickIn) : (x.latch i).core = true := by
  simp only [Island.core, Bool.and_eq_true] at h ⊢
  exact ⟨h.1, rfl⟩

@[simp] theorem Island.latch_st (x : Island) (i : TickIn) : (x.latch i).st = x.st := rfl

theorem islandTick_sound (i : TickIn) {x : Island} (h : x.sound = true) : (islandTick i x).sound = true := by
  unfold islandTick
  split
  · exact h
  · dsimp only
    have h1 : (if x.st = .init ∧ 500 ≤ x.tick then x.trip 7 else x).sound = true := by
      split
      · exact Island.trip_keeps_sound (Island.sound_core h) _
      · exact h
    generalize (if x.st = .init ∧ 500 ≤ x.tick then x.trip 7 else x) = y at h1
    split
    · next hi =>
      exact Island.both_quiet (Island.latch_sound h1 i) (by rw [Island.latch_st, hi]; decide) _
        (fun c hc => initTick_sound _ i hc)
    · have h2 := Island.latch_core (Island.both_core (Island.sound_core h1) (settleCopy y.discTicks y.tick y.coilCheck)
        (fun _ hc => settleCopy_sound hc _ _ _)) i
      generalize (y.both (settleCopy y.discTicks y.tick y.coilCheck)).latch i = w at h2
      have h3 := Island.both_core h2 (copyTick w i) (fun c hc => copyTick_sound w i hc)
      refine Island.driveOk_sound ?_
      split
      · exact Island.sound_core (Island.trip_keeps_sound h3 _)
      · exact h3

/-- Changes of pins, sources, overload flags, supply and seals leave the invariant. -/
theorem Island.core_of_same {x y : Island} (h : x.core = true) (hs : y.st = x.st) (ha : y.copyA = x.copyA)
    (hb : y.copyB = x.copyB) (ht : y.tick = x.tick) (hma : y.maskA = x.maskA) (hmb : y.maskB = x.maskB)
    (hl : y.lastA = x.lastA) : y.core = true := by
  simpa only [Island.core, Island.masksApart, hs, ha, hb, ht, hma, hmb, hl] using h

theorem Island.sound_of_same {x y : Island} (h : x.sound = true) (hs : y.st = x.st) (ha : y.copyA = x.copyA)
    (hb : y.copyB = x.copyB) (ht : y.tick = x.tick) (hma : y.maskA = x.maskA) (hmb : y.maskB = x.maskB)
    (hl : y.lastA = x.lastA) (hoa : y.okA = x.okA) (hob : y.okB = x.okB) : y.sound = true := by
  simpa only [Island.sound, Island.masksApart, hs, ha, hb, ht, hma, hmb, hl, hoa, hob] using h

theorem inputFall_sound (p : SafePin) {x : Island} (h : x.sound = true) : (inputFall p x).sound = true := by
  cases p <;> exact Island.sound_of_same h rfl rfl rfl rfl rfl rfl rfl rfl rfl

theorem stpOverload_sound (b on : Bool) {x : Island} (h : x.sound = true) : (stpOverload b on x).sound = true := by
  unfold stpOverload
  split
  · exact h
  · split <;> exact Island.sound_of_same h rfl rfl rfl rfl rfl rfl rfl rfl rfl

theorem discrepancyTimeout_sound (k : Nat) {x : Island} (h : x.sound = true) : (discrepancyTimeout k x).sound = true :=
  Island.driveOk_sound (Island.both_core (Island.sound_core h) _ (fun _ hc => discLatch_sound hc ..))

theorem switchTestStep_sound (j : Nat) {x : Island} (h : x.sound = true) : (switchTestStep j x).sound = true :=
  Island.driveOk_sound (Island.both_core (Island.sound_core h) _ (fun _ hc => testStep_sound hc ..))

theorem brakeTimeout_sound (j : Nat) {x : Island} (h : x.sound = true) : (brakeTimeout j x).sound = true :=
  Island.driveOk_sound (Island.both_core (Island.sound_core h) _ (fun _ hc => brakeLatch_sound hc ..))

theorem faultCleared_sound (u : SafeUnit) {x : Island} (h : x.sound = true) : (faultCleared u x).sound = true := by
  cases u <;> refine Island.driveOk_sound (Island.both_core (Island.sound_core h) _ (fun c hc => ?_))
  · exact clearInput_sound hc ..
  · exact clearOutput_sound hc ..
  · exact clearEnable_sound hc

theorem oscFault_sound {x : Island} (h : x.sound = true) : (oscFault x).sound = true := by
  unfold oscFault
  split
  · exact Island.trip_keeps_sound (Island.sound_core h) _
  · exact h

theorem sealReread_sound (up down : BitVec 8) {x : Island} (h : x.sound = true) : (sealReread up down x).sound = true := by
  have hc := Island.sound_core h
  unfold sealReread
  simp only
  split
  · exact h
  split
  · exact Island.sound_of_same h rfl rfl rfl rfl rfl rfl rfl rfl rfl
  have hy : Island.core { x with
      sealNow := (up &&& down) ||| (up &&& ~~~down &&& Config.sealRead x.tick), sealFloat := up &&& ~~~down } = true :=
    Island.core_of_same hc rfl rfl rfl rfl rfl rfl rfl
  split
  · exact Island.trip_keeps_sound hy 2
  split
  · exact Island.trip_keeps_sound hy 1
  split
  · exact Island.trip_keeps_sound hy 3
  · exact Island.sound_of_same h rfl rfl rfl rfl rfl rfl rfl rfl rfl

theorem safeVddChange_sound (mv : Nat) (seals : BitVec 8) {x : Island} (h : x.sound = true) :
    (safeVddChange mv seals x).sound = true := by
  have hc := Island.sound_core h
  unfold safeVddChange
  simp only
  split
  · rfl
  split
  · split
    · exact Island.sound_of_same h rfl rfl rfl rfl rfl rfl rfl rfl rfl
    · rfl
  · split
    · have hy : Island.core { x with vdd := mv } = true := Island.core_of_same hc rfl rfl rfl rfl rfl rfl rfl
      exact Island.trip_keeps_sound hy 5
    · exact Island.sound_of_same h rfl rfl rfl rfl rfl rfl rfl rfl rfl

theorem maskWindowEnd_sound (a b : BitVec 8) {x : Island} (h : x.sound = true) : (maskWindowEnd a b x).sound = true := by
  unfold maskWindowEnd
  split
  · exact h
  · simp only [Island.sound, Bool.and_eq_true] at h ⊢
    exact ⟨h.1, rfl⟩

theorem pulseChecks_sound {q : Bool} {c : IslCopy} (h : c.sound q = true) (b : Bool) (own other : Nat → Bool)
    (was : IslCopy → Nat → Bool) (tick : Nat) (ks : List Nat) :
    (ks.foldl (fun c k => pulseCheck b (own k) (other k) (was c k) tick k c) c).sound q = true :=
  IslCopy.foldl_sound _ ks h (fun _ _ hc => pulseCheck_sound hc ..)

theorem testPulseCheck_sound (a b : BitVec 8) {x : Island} (h : x.sound = true) : (testPulseCheck a b x).sound = true := by
  unfold testPulseCheck
  split
  · exact h
  · have hc : Island.core { x with pinA := a, pinB := b, checkA := false, checkB := false } = true :=
      Island.core_of_same (Island.sound_core h) rfl rfl rfl rfl rfl rfl rfl
    generalize ({ x with pinA := a, pinB := b, checkA := false, checkB := false } : Island) = y at hc
    exact Island.driveOk_sound (Island.both_core hc _ (fun c hc => pulseChecks_sound hc x.checkB (y.level x.checkB)
      (y.level (!x.checkB)) (fun c k => if x.checkB then (c.inp k).chA else (c.inp k).chB) y.tick _))

theorem selfTestEnd_sound (passed : Bool) {x : Island} (h : x.sound = true) : (selfTestEnd passed x).sound = true := by
  have hc := Island.sound_core h
  unfold selfTestEnd
  split
  · exact h
  split
  · exact Island.trip_keeps_sound hc _
  · simp only
    have hy : Island.core (({ x with st := .ready } : Island).both (IslCopy.atReady x)) = true := by
      simp only [Island.core, Island.both, Bool.and_eq_true] at hc ⊢
      exact ⟨⟨atReady_sound x _, atReady_sound x _⟩, hc.2⟩
    split
    · exact Island.trip_keeps_sound hy _
    split
    · exact Island.trip_keeps_sound hy _
    · exact Island.driveOk_sound hy

/-- The two pulses never overlap (R439). -/
theorem testPulse_sound (b : Bool) {x : Island} (h : x.sound = true) : (testPulse b x).sound = true := by
  unfold testPulse
  split
  · exact h
  · next hd =>
    have hd : x.pulseDue b = true := by simpa using hd
    simp only [Island.pulseDue, Bool.and_eq_true] at hd
    simp only [Island.sound, Bool.and_eq_true] at h
    have hm := h.2
    simp only [Island.masksApart, Bool.and_eq_true] at hm
    have h3 := hd.2
    simp only [Island.sound]
    cases b <;> simp only [if_true, if_false, Bool.false_eq_true, Bool.and_eq_true] at h3 ⊢ <;> refine ⟨h.1, ?_⟩
    · have hb : x.maskB = false := by
        cases hb : x.maskB with
        | false => rfl
        | true =>
          have h2 := hm.2
          cases hl : x.lastA <;> simp_all
      simp [Island.masksApart, hb]
    · cases hl : x.lastA with
      | none => simp [hl] at h3
      | some t =>
        simp only [hl, Bool.and_eq_true, beq_iff_eq] at h3
        have ha : x.maskA = false := by
          cases ha : x.maskA with
          | false => rfl
          | true =>
            have h2 := hm.1.2
            simp only [ha, hl, Bool.not_true, Bool.false_or, beq_iff_eq, Option.some.injEq] at h2
            simp [h2] at h3
        simp [Island.masksApart, ha, h3.1]

end Sys2Proof.Machine
end

