-- ==== Sys2Proof/Laws/Exec.lean ====
section
/-!
SUPPORT. What one command can do, said once: it stops, it acts on the island, on the main domain or on the module, or it is
a short pulse at PORST_N. The proofs about every command go through this.
-/
namespace Sys2Proof.Machine

/-- The ways a command can act. -/
inductive Acts (i : Instr) (s : State) : Prop where
  | stop (h : i.wellFormed = false) (e : exec i s = .fault .noSuchUnit)
  | island (hi : i.isIsland = true) (f : Island → Island) (hf : ∀ x, x.sound = true → (f x).sound = true)
      (e : exec i s = islandStep f s)
  | main (hi : i.isIsland = false) (hp : i.anyPower = false) (f : Dev → Dev) (e : exec i s = mainStep f s)
  | mainR (hi : i.isIsland = false) (hp : i.anyPower = false) (f : (Nat → Byte) → Dev → Dev) (e : exec i s = mainStepR f s)
  | mainM (hi : i.isIsland = false) (hp : i.anyPower = false) (f : (Nat → Byte) → Dev → Dev) (e : exec i s = mainStepM f s)
  | module (hi : i.isIsland = false) (hp : i.anyPower = true) (f : Dev → Dev) (e : exec i s = moduleStep f s)
  | moduleM (hi : i.isIsland = false) (hp : i.anyPower = true) (f : (Nat → Byte) → Dev → Dev)
      (e : exec i s = moduleStepM f s)
  | pulse (ns : Nat) (h : i = .porstAssert ns)

/-- A command that checks its units acts as it does on a unit, or stops. -/
theorem Acts.checked {i : Instr} {s : State} {a : Answer} (e : exec i s = checked i a) (h : exec i s = a → Acts i s) :
    Acts i s := by
  cases hw : i.wellFormed
  · exact .stop hw (e.trans (checked_ill hw))
  · exact h (e.trans (checked_wf hw))

theorem exec_acts (i : Instr) (s : State) : Acts i s := by
  cases i
  case porstAssert ns => exact .pulse ns rfl
  case islandTick x => exact .checked rfl (.island rfl _ (fun _ h => islandTick_sound x h))
  case safetyInputFall p => exact .checked rfl (.island rfl _ (fun _ h => inputFall_sound p h))
  case discrepancyTimeout k => exact .checked rfl (.island rfl _ (fun _ h => discrepancyTimeout_sound k h))
  case testPulse b => exact .island rfl _ (fun _ h => testPulse_sound b h) rfl
  case testPulseCheck a b => exact .island rfl _ (fun _ h => testPulseCheck_sound a b h) rfl
  case sealReread a b => exact .island rfl _ (fun _ h => sealReread_sound a b h) rfl
  case stpOverload a b => exact .island rfl _ (fun _ h => stpOverload_sound a b h) rfl
  case switchTestStep j => exact .checked rfl (.island rfl _ (fun _ h => switchTestStep_sound j h))
  case brakeTimeout j => exact .checked rfl (.island rfl _ (fun _ h => brakeTimeout_sound j h))
  case safetyFaultCleared u => exact .checked rfl (.island rfl _ (fun _ h => faultCleared_sound u h))
  case safeVddChange mv v => exact .island rfl _ (fun _ h => safeVddChange_sound mv v h) rfl
  case islandSelfTestEnd p => exact .island rfl _ (fun _ h => selfTestEnd_sound p h) rfl
  case islandOscFault => exact .island rfl _ (fun _ h => oscFault_sound h) rfl
  case maskWindowEnd a b => exact .island rfl _ (fun _ h => maskWindowEnd_sound a b h) rfl
  -- generated
  case sampleBoundary => exact .mainM rfl rfl _ rfl
  case frameStart => exact .mainM rfl rfl _ rfl
  case windowEndStrobe => exact .mainM rfl rfl _ rfl
  case silenceLatchCut => exact .main rfl rfl _ rfl
  case fastLoopOutputWrite => exact .main rfl rfl _ rfl
  case ptpAlignEnWrite => exact .main rfl rfl _ rfl
  case timebaseMeasurement => exact .main rfl rfl _ rfl
  case timebaseTimeout => exact .main rfl rfl _ rfl
  case commandAccept => exact .checked rfl (.main rfl rfl _)
  case groupArrivalTimeout => exact .checked rfl (.main rfl rfl _)
  case commandLimit => exact .checked rfl (.main rfl rfl _)
  case completion => exact .checked rfl (.main rfl rfl _)
  case nop => exact .checked rfl (.mainR rfl rfl _)
  case pointRead => exact .checked rfl (.mainR rfl rfl _)
  case pointWrite => exact .checked rfl (.mainR rfl rfl _)
  case pointConfig => exact .checked rfl (.mainR rfl rfl _)
  case alarmAck => exact .checked rfl (.mainR rfl rfl _)
  case alarmDelayExpiry => exact .checked rfl (.main rfl rfl _)
  case readEntry => exact .checked rfl (.mainR rfl rfl _)
  case writeEntry => exact .checked rfl (.mainR rfl rfl _)
  case readReg => exact .checked rfl (.mainR rfl rfl _)
  case writeReg => exact .checked rfl (.mainR rfl rfl _)
  case shareMaskWrite => exact .checked rfl (.main rfl rfl _)
  case subRangeWrite => exact .checked rfl (.main rfl rfl _)
  case subEnable => exact .checked rfl (.main rfl rfl _)
  case bankExchange => exact .checked rfl (.mainR rfl rfl _)
  case taskEnWrite => exact .checked rfl (.main rfl rfl _)
  case loopEnWrite => exact .checked rfl (.main rfl rfl _)
  case loopModeWrite => exact .checked rfl (.main rfl rfl _)
  case loopFollowingError => exact .checked rfl (.main rfl rfl _)
  case strandLineOff => exact .checked rfl (.mainR rfl rfl _)
  case strandLineOn => exact .checked rfl (.mainR rfl rfl _)
  case strandLineResetLatch => exact .checked rfl (.mainR rfl rfl _)
  case hartSend => exact .checked rfl (.mainR rfl rfl _)
  case timeSetStep => exact .checked rfl (.mainR rfl rfl _)
  case timeSetSlew => exact .checked rfl (.mainR rfl rfl _)
  case pair => exact .checked rfl (.mainR rfl rfl _)
  case unpair => exact .checked rfl (.mainR rfl rfl _)
  case yieldRole => exact .checked rfl (.mainR rfl rfl _)
  case retryCutover => exact .checked rfl (.mainR rfl rfl _)
  case updateBegin => exact .checked rfl (.mainR rfl rfl _)
  case updateData => exact .checked rfl (.mainR rfl rfl _)
  case updateEnd => exact .checked rfl (.mainR rfl rfl _)
  case updateErased => exact .main rfl rfl _ rfl
  case updateVerified => exact .main rfl rfl _ rfl
  case lifecycleSet => exact .checked rfl (.mainR rfl rfl _)
  case deviceRestart => exact .checked rfl (.mainR rfl rfl _)
  case channelOpen => exact .checked rfl (.main rfl rfl _)
  case channelClose => exact .checked rfl (.main rfl rfl _)
  case invalidRequest => exact .checked rfl (.main rfl rfl _)
  case hostAck => exact .checked rfl (.main rfl rfl _)
  case hostNak => exact .checked rfl (.main rfl rfl _)
  case retransmitTimeout => exact .checked rfl (.main rfl rfl _)
  case rnrRetry => exact .checked rfl (.main rfl rfl _)
  case recordTransmit => exact .checked rfl (.main rfl rfl _)
  case producerPublish => exact .checked rfl (.main rfl rfl _)
  case linkUp => exact .checked rfl (.module rfl rfl _)
  case linkDown => exact .checked rfl (.module rfl rfl _)
  case pcsSyncLost => exact .checked rfl (.main rfl rfl _)
  case linkSearchStep => exact .checked rfl (.main rfl rfl _)
  case portModeWrite => exact .checked rfl (.main rfl rfl _)
  case arpRequest => exact .checked rfl (.main rfl rfl _)
  case pauseFrameReceive => exact .checked rfl (.main rfl rfl _)
  case pauseTimerExpiry => exact .checked rfl (.main rfl rfl _)
  case pauseWatchdog => exact .checked rfl (.main rfl rfl _)
  case pauseResumed => exact .checked rfl (.main rfl rfl _)
  case rxBufferPause => exact .checked rfl (.main rfl rfl _)
  case ownPauseRepeat => exact .checked rfl (.main rfl rfl _)
  case rxPauseLimit => exact .checked rfl (.main rfl rfl _)
  case gateEntryExpiry => exact .checked rfl (.main rfl rfl _)
  case ptpSync => exact .checked rfl (.main rfl rfl _)
  case ptpAnnounce => exact .checked rfl (.main rfl rfl _)
  case announceTimeout => exact .checked rfl (.main rfl rfl _)
  case pdelayReqSend => exact .checked rfl (.main rfl rfl _)
  case pdelayMessage => exact .checked rfl (.main rfl rfl _)
  case timePpsInEdge => exact .main rfl rfl _ rfl
  case ppsInFault => exact .main rfl rfl _ rfl
  case ppsOutPulseEnd => exact .main rfl rfl _ rfl
  case phyMdioCmd => exact .main rfl rfl _ rfl
  case mdioComplete => exact .main rfl rfl _ rfl
  case fastTrip => exact .checked rfl (.main rfl rfl _)
  case lineOverload => exact .checked rfl (.main rfl rfl _)
  case lineBackfeed => exact .checked rfl (.main rfl rfl _)
  case precheckPassed => exact .checked rfl (.main rfl rfl _)
  case inrushEnd => exact .checked rfl (.main rfl rfl _)
  case retryBackoffEnd => exact .checked rfl (.main rfl rfl _)
  case failCntClear => exact .checked rfl (.main rfl rfl _)
  case strandCycleStart => exact .checked rfl (.main rfl rfl _)
  case trailingCopySend => exact .checked rfl (.main rfl rfl _)
  case strandReplyReceive => exact .checked rfl (.main rfl rfl _)
  case replySlotMiss => exact .checked rfl (.main rfl rfl _)
  case twinCopyReceive => exact .checked rfl (.main rfl rfl _)
  case nodeEnWrite => exact .checked rfl (.main rfl rfl _)
  case meterZeroCrossing => exact .checked rfl (.main rfl rfl _)
  case sensorCondition => exact .checked rfl (.main rfl rfl _)
  case meterPeriodicSave => exact .mainM rfl rfl _ rfl
  case accPreset => exact .checked rfl (.main rfl rfl _)
  case pulseEnd => exact .checked rfl (.main rfl rfl _)
  case clCondition => exact .checked rfl (.main rfl rfl _)
  case hartTransactionStart => exact .checked rfl (.main rfl rfl _)
  case hartReply => exact .checked rfl (.main rfl rfl _)
  case hartNoReply => exact .checked rfl (.main rfl rfl _)
  case islandLinkLost => exact .main rfl rfl _ rfl
  case recMark => exact .main rfl rfl _ rfl
  case supplyFailWarning => exact .moduleM rfl rfl _ rfl
  case meterSnapshot => exact .mainM rfl rfl _ rfl
  case tailSaveComplete => exact .mainM rfl rfl _ rfl
  case supplyCleared => exact .moduleM rfl rfl _ rfl
  case vmainFail => exact .module rfl rfl _ rfl
  case vmainRestore => exact .module rfl rfl _ rfl
  case retentionLoss => exact .module rfl rfl _ rfl
  case rtcCount => exact .module rfl rfl _ rfl
  case alarmFired => exact .checked rfl (.module rfl rfl _)
  case alarmEnWrite => exact .checked rfl (.main rfl rfl _)
  case oscStopped => exact .module rfl rfl _ rfl
  case calSlewDone => exact .module rfl rfl _ rfl
  case calPtpCompare => exact .main rfl rfl _ rfl
  case utcOffsetStep => exact .main rfl rfl _ rfl
  case trimWindowEnd => exact .module rfl rfl _ rfl
  case wakePin => exact .module rfl rfl _ rfl
  case rlAckWrite => exact .main rfl rfl _ rfl
  case shutdownWrite => exact .mainM rfl rfl _ rfl
  case pwrHoldRelease => exact .module rfl rfl _ rfl
  case shutdownFailed => exact .module rfl rfl _ rfl
  case mainResetRelease => exact .moduleM rfl rfl _ rfl
  case resetOutRelease => exact .module rfl rfl _ rfl
  case thermalRecover => exact .moduleM rfl rfl _ rfl
  case scrubPass => exact .main rfl rfl _ rfl
  case pointMemory => exact .checked rfl (.main rfl rfl _)
  case pointQuarantined => exact .checked rfl (.main rfl rfl _)
  case alarmMemory => exact .checked rfl (.main rfl rfl _)
  case subMemory => exact .checked rfl (.main rfl rfl _)
  case taskMemory => exact .checked rfl (.main rfl rfl _)
  case bankMemory => exact .checked rfl (.main rfl rfl _)
  case taskEntryMemory => exact .checked rfl (.main rfl rfl _)
  case loopMemory => exact .checked rfl (.main rfl rfl _)
  case nodeMemory => exact .checked rfl (.main rfl rfl _)
  case accMemory => exact .checked rfl (.mainR rfl rfl _)
  case channelMemory => exact .checked rfl (.main rfl rfl _)
  case clMemory => exact .checked rfl (.main rfl rfl _)
  case recordMemory => exact .checked rfl (.main rfl rfl _)
  case retainedMemory => exact .checked rfl (.mainM rfl rfl _)
  case plyStatusReceive => exact .main rfl rfl _ rfl
  case plyMirrorReceive => exact .main rfl rfl _ rfl
  case plyCatchupReceive => exact .main rfl rfl _ rfl
  case plyNoticeReceive => exact .main rfl rfl _ rfl
  case catchupSend => exact .main rfl rfl _ rfl
  case cutoverLoad => exact .main rfl rfl _ rfl
  case plyLinkLost => exact .main rfl rfl _ rfl
  case hbLost => exact .main rfl rfl _ rfl
  case twinLost => exact .main rfl rfl _ rfl
  case joinStepTimeout => exact .main rfl rfl _ rfl
  case catchupRestart => exact .main rfl rfl _ rfl
  case yieldSwap => exact .main rfl rfl _ rfl
  case yieldCancelled => exact .main rfl rfl _ rfl
  case selfYield => exact .main rfl rfl _ rfl
  case digestRecompute => exact .checked rfl (.main rfl rfl _)
  case digestMismatch => exact .main rfl rfl _ rfl
  case health => exact .main rfl rfl _ rfl
  case hostHello => exact .checked rfl (.main rfl rfl _)
  case hostFinish => exact .checked rfl (.main rfl rfl _)
  case handshakeTimeout => exact .main rfl rfl _ rfl
  case enroll => exact .checked rfl (.main rfl rfl _)
  case sessionEnd => exact .checked rfl (.main rfl rfl _)
  case sessionIdle => exact .main rfl rfl _ rfl
  case sessionClose => exact .main rfl rfl _ rfl
  case debugAttached => exact .main rfl rfl _ rfl
  case entropyFault => exact .main rfl rfl _ rfl
  case recoveryLinkSearch => exact .module rfl rfl _ rfl
  case recoveryIdent => exact .module rfl rfl _ rfl
  case recoveryBegin => exact .module rfl rfl _ rfl
  case recoveryData => exact .module rfl rfl _ rfl
  case recoveryEnd => exact .module rfl rfl _ rfl
  case recoveryBoot => exact .module rfl rfl _ rfl
  case recoveryEraseDone => exact .module rfl rfl _ rfl
  case restartReset => exact .mainM rfl rfl _ rfl
  case hartRetry => exact .checked rfl (.main rfl rfl _)
  case hartBurstFrame => exact .checked rfl (.main rfl rfl _)
  case rxFrameDropped => exact .checked rfl (.main rfl rfl _)
  case plyHbInChange => exact .main rfl rfl _ rfl
  case ownPauseSuppressionEnd => exact .checked rfl (.main rfl rfl _)

end Sys2Proof.Machine
end

