-- ==== Sys2Proof/Laws/Faults.lean ====
section
/-!
SUPPORT. What a report does to the fault registers (R164, R643): the registers of its own fault, never the counts of
memory errors.
-/
namespace Sys2Proof.Machine

/-- A fold keeps what each of its steps keeps. -/
theorem foldl_keeps {α β : Type} (g : Dev → β) (f : Dev → α → Dev) (xs : List α) (d : Dev)
    (h : ∀ d x, g (f d x) = g d) : g (xs.foldl f d) = g d := by
  induction xs generalizing d with
  | nil => rfl
  | cons x xs ih => exact (ih _).trans (h d x)

/-- The counts of memory errors survive a report (R164, R638). -/
theorem noteFault_counts (e : Event) (d : Dev) : (noteFault e d).flt.eccUncorr = d.flt.eccUncorr ∧
    (noteFault e d).flt.eccCorr = d.flt.eccCorr ∧ (noteFault e d).flt.scrubPass = d.flt.scrubPass := by
  unfold noteFault; split <;> exact ⟨rfl, rfl, rfl⟩

theorem capture_flt (x : RecIn) (d : Dev) : (capture x d).1.flt = d.flt := by
  unfold capture
  split
  · by_cases h : d.rcd.merges x = true <;> simp only [captureNow, h, if_true, if_false, Bool.false_eq_true]
  · rfl

theorem enqueue_flt (ch : Nat) (r : AttnRec) (d : Dev) : (enqueue ch r d).1.flt = d.flt := by
  unfold enqueue; split
  · rfl
  · split <;> rfl

/-- A report's fault registers are those of its own fault. -/
theorem reportRaw_flt (e : Event) (d : Dev) : (reportRaw e d).1.flt = (noteFault e d).flt := by
  have fold : ∀ (g : AttnRec) (xs : List Nat) (a : Dev × List Limited), (xs.foldl (fun a ch =>
      let r := enqueue ch g a.1
      (r.1, if r.2 then a.2 ++ [ev0404 ch] else a.2)) a).1.flt = a.1.flt := by
    intro g xs
    induction xs with
    | nil => exact fun a => rfl
    | cons x xs ih => exact fun a => (ih _).trans (enqueue_flt x g a.1)
  unfold reportRaw
  simp only
  split
  · exact (fold _ _ _).trans (capture_flt _ _)
  · exact fold _ _ _

theorem limitedFuel_counts (n : Nat) (x : Limited) (d : Dev) : (limitedFuel n x d).flt.eccUncorr = d.flt.eccUncorr ∧
    (limitedFuel n x d).flt.eccCorr = d.flt.eccCorr ∧ (limitedFuel n x d).flt.scrubPass = d.flt.scrubPass := by
  induction n generalizing x d with
  | zero => unfold limitedFuel; split <;> exact ⟨rfl, rfl, rfl⟩
  | succ n ih =>
    unfold limitedFuel
    split
    · exact ⟨rfl, rfl, rfl⟩
    · have h := noteFault_counts { x.e with count := x.qty } (rateStart x d)
      rw [← reportRaw_flt] at h
      have k := fun {β : Type} (g : Dev → β) (hg : ∀ d y, g (limitedFuel n y d) = g d) => foldl_keeps g
        (fun d y => limitedFuel n y d) (reportRaw { x.e with count := x.qty } (rateStart x d)).2
        (reportRaw { x.e with count := x.qty } (rateStart x d)).1 hg
      exact ⟨(k (fun d => d.flt.eccUncorr) (fun d y => (ih y d).1)).trans h.1,
        (k (fun d => d.flt.eccCorr) (fun d y => (ih y d).2.1)).trans h.2.1,
        (k (fun d => d.flt.scrubPass) (fun d y => (ih y d).2.2)).trans h.2.2⟩

@[simp] theorem report_counts (e : Event) (d : Dev) : (report e d).flt.eccUncorr = d.flt.eccUncorr ∧
    (report e d).flt.eccCorr = d.flt.eccCorr ∧ (report e d).flt.scrubPass = d.flt.scrubPass := by
  have h := noteFault_counts e d
  rw [← reportRaw_flt] at h
  have k := fun {β : Type} (g : Dev → β) (hg : ∀ d y, g (limitedFuel 80 y d) = g d) => foldl_keeps g
    (fun d y => limitedFuel 80 y d) (reportRaw e d).2 (reportRaw e d).1 hg
  exact ⟨(k (fun d => d.flt.eccUncorr) (fun d y => (limitedFuel_counts 80 y d).1)).trans h.1,
    (k (fun d => d.flt.eccCorr) (fun d y => (limitedFuel_counts 80 y d).2.1)).trans h.2.1,
    (k (fun d => d.flt.scrubPass) (fun d y => (limitedFuel_counts 80 y d).2.2)).trans h.2.2⟩

end Sys2Proof.Machine
end

