-- ==== Sys2Proof/Laws/Line.lean ====
section
/-!
SUPPORT. What the operations of a strand's line power can do (R240 to R244): each changes its own strand, and reports.
-/
namespace Sys2Proof.Machine

/-- Cutting a copy writes the strand's cycle and hands out the cut. -/
theorem cutCopy_eq (k : Nat) (d : Dev) : ∃ strands out, cutCopy k d = { d with strands := strands, out := out } := by
  unfold cutCopy
  split
  · split
    · exact ⟨_, _, rfl⟩
    · exact ⟨d.strands, d.out, rfl⟩
  · exact ⟨d.strands, d.out, rfl⟩

@[simp] theorem cutCopy_keeps (k : Nat) (d : Dev) :
    (cutCopy k d).tb = d.tb ∧ (cutCopy k d).ps = d.ps ∧ (cutCopy k d).cp = d.cp ∧ (cutCopy k d).tr = d.tr ∧
    (cutCopy k d).ports = d.ports ∧ (cutCopy k d).net = d.net ∧ (cutCopy k d).lines = d.lines ∧
    (cutCopy k d).nodes = d.nodes ∧ (cutCopy k d).lg = d.lg ∧ (cutCopy k d).lp = d.lp ∧ (cutCopy k d).mt = d.mt ∧
    (cutCopy k d).cl = d.cl ∧ (cutCopy k d).diag = d.diag ∧ (cutCopy k d).rcd = d.rcd ∧ (cutCopy k d).flt = d.flt ∧
    (cutCopy k d).ply = d.ply ∧ (cutCopy k d).sec = d.sec ∧ (cutCopy k d).upd = d.upd ∧ (cutCopy k d).rcv = d.rcv ∧
    (cutCopy k d).rcvPast = d.rcvPast ∧ (cutCopy k d).th = d.th ∧ (cutCopy k d).bk = d.bk ∧
    (cutCopy k d).fuses = d.fuses ∧ (cutCopy k d).flash = d.flash ∧ (cutCopy k d).pwr = d.pwr ∧
    (cutCopy k d).inp = d.inp ∧ (cutCopy k d).fresh = d.fresh ∧ (cutCopy k d).eg = d.eg ∧
    (cutCopy k d).wire = d.wire ∧ (cutCopy k d).wr = d.wr := by
  obtain ⟨a, b, h⟩ := cutCopy_eq k d
  rw [h]; simp

@[simp] theorem cutCopy_line (k j : Nat) (d : Dev) : (cutCopy k d).line j = d.line j := by simp [Dev.line]

/-- What leaving ON does to a copy in transmission (R245). -/
def lineCuts (k : Nat) (d : Dev) : Dev := if (d.line k).st = .on then cutCopy k d else d

theorem lineLeaveOn_cuts (k : Nat) (d : Dev) :
    (lineLeaveOn k d).strands = (lineCuts k d).strands ∧ (lineLeaveOn k d).out = (lineCuts k d).out := by
  unfold lineLeaveOn lineCuts
  dsimp only
  split
  · split <;> simp
  · exact ⟨rfl, rfl⟩

@[simp] theorem lineLeaveOn_keeps (k : Nat) (d : Dev) :
    (lineLeaveOn k d).tb = d.tb ∧ (lineLeaveOn k d).ps = d.ps ∧ (lineLeaveOn k d).cp = d.cp ∧
    (lineLeaveOn k d).ports = d.ports ∧ (lineLeaveOn k d).net = d.net ∧ (lineLeaveOn k d).nodes = d.nodes ∧ (lineLeaveOn k d).lg = d.lg ∧ (lineLeaveOn k d).lp = d.lp ∧
    (lineLeaveOn k d).mt = d.mt ∧ (lineLeaveOn k d).cl = d.cl ∧ (lineLeaveOn k d).diag = d.diag ∧
    (lineLeaveOn k d).ply = d.ply ∧ (lineLeaveOn k d).sec = d.sec ∧ (lineLeaveOn k d).upd = d.upd ∧
    (lineLeaveOn k d).rcv = d.rcv ∧ (lineLeaveOn k d).rcvPast = d.rcvPast ∧ (lineLeaveOn k d).th = d.th ∧
    (lineLeaveOn k d).bk = d.bk ∧ (lineLeaveOn k d).fuses = d.fuses ∧ (lineLeaveOn k d).flash = d.flash ∧
    (lineLeaveOn k d).pwr = d.pwr ∧ (lineLeaveOn k d).inp = d.inp ∧ (lineLeaveOn k d).fresh = d.fresh ∧
    (lineLeaveOn k d).eg = d.eg ∧ (lineLeaveOn k d).wire = d.wire ∧ (lineLeaveOn k d).wr = d.wr := by
  unfold lineLeaveOn; dsimp only; split; { split <;> simp }; simp

/-- Leaving ON ends the wiring supervision of the strand. -/
def Line.leaveOn (l : Line) : Line :=
  if l.st = .on then { l with uv := false, ampl := 0, amplN := 0, amplSum := 0, highRun := 0, lowRun := 0, okRun := 0 } else l

theorem lineLeaveOn_line (k j : Nat) (d : Dev) :
    (lineLeaveOn k d).line j = if j = k then (d.line k).leaveOn else d.line j := by
  unfold lineLeaveOn Line.leaveOn
  dsimp only
  split
  · split <;> simp
  · split
    · next h => rw [h]
    · rfl

@[simp] theorem lineEnter_keeps (k : Nat) (st : LineSt) (d : Dev) :
    (lineEnter k st d).tb = d.tb ∧ (lineEnter k st d).ps = d.ps ∧ (lineEnter k st d).cp = d.cp ∧
    (lineEnter k st d).ports = d.ports ∧ (lineEnter k st d).net = d.net ∧ (lineEnter k st d).nodes = d.nodes ∧ (lineEnter k st d).lg = d.lg ∧ (lineEnter k st d).lp = d.lp ∧
    (lineEnter k st d).mt = d.mt ∧ (lineEnter k st d).cl = d.cl ∧ (lineEnter k st d).diag = d.diag ∧
    (lineEnter k st d).ply = d.ply ∧ (lineEnter k st d).sec = d.sec ∧ (lineEnter k st d).upd = d.upd ∧
    (lineEnter k st d).rcv = d.rcv ∧ (lineEnter k st d).rcvPast = d.rcvPast ∧ (lineEnter k st d).th = d.th ∧
    (lineEnter k st d).bk = d.bk ∧ (lineEnter k st d).fuses = d.fuses ∧ (lineEnter k st d).flash = d.flash ∧
    (lineEnter k st d).pwr = d.pwr ∧ (lineEnter k st d).inp = d.inp ∧ (lineEnter k st d).fresh = d.fresh ∧
    (lineEnter k st d).eg = d.eg ∧ (lineEnter k st d).wire = d.wire ∧ (lineEnter k st d).wr = d.wr := by
  simp [lineEnter]

/-- A state entered: GATE follows it. -/
def Line.enter (l : Line) (st : LineSt) : Line :=
  { l.leaveOn with
    st := st
    gate := st == .inrush || st == .on
    frames := 0
    blocked := if st = .precheck then l.leaveOn.blocked else false }

@[simp] theorem lineEnter_line (k j : Nat) (st : LineSt) (d : Dev) :
    (lineEnter k st d).line j = if j = k then (d.line k).enter st else d.line j := by
  simp only [lineEnter, Dev.line_modLine, lineLeaveOn_line, if_true, Line.enter]
  split <;> rfl

@[simp] theorem Line.leaveOn_keeps (l : Line) : l.leaveOn.fault = l.fault ∧ l.leaveOn.failCnt = l.failCnt ∧
    l.leaveOn.ovPending = l.ovPending := by
  unfold Line.leaveOn; split <;> simp

@[simp] theorem linePrecheck_keeps (k : Nat) (w : Bool) (d : Dev) :
    (linePrecheck k w d).tb = d.tb ∧ (linePrecheck k w d).ps = d.ps ∧ (linePrecheck k w d).cp = d.cp ∧
    (linePrecheck k w d).ports = d.ports ∧ (linePrecheck k w d).net = d.net ∧
    (linePrecheck k w d).nodes = d.nodes ∧
    (linePrecheck k w d).lg = d.lg ∧ (linePrecheck k w d).lp = d.lp ∧ (linePrecheck k w d).mt = d.mt ∧
    (linePrecheck k w d).cl = d.cl ∧ (linePrecheck k w d).diag = d.diag ∧ (linePrecheck k w d).ply = d.ply ∧
    (linePrecheck k w d).sec = d.sec ∧ (linePrecheck k w d).upd = d.upd ∧ (linePrecheck k w d).rcv = d.rcv ∧
    (linePrecheck k w d).rcvPast = d.rcvPast ∧ (linePrecheck k w d).th = d.th ∧ (linePrecheck k w d).bk = d.bk ∧
    (linePrecheck k w d).fuses = d.fuses ∧ (linePrecheck k w d).flash = d.flash ∧ (linePrecheck k w d).pwr = d.pwr ∧
    (linePrecheck k w d).inp = d.inp ∧ (linePrecheck k w d).fresh = d.fresh ∧ (linePrecheck k w d).eg = d.eg ∧ (linePrecheck k w d).wire = d.wire ∧ (linePrecheck k w d).wr = d.wr := by
  simp [linePrecheck]

@[simp] theorem linePrecheck_line (k j : Nat) (w : Bool) (d : Dev) :
    (linePrecheck k w d).line j = if j = k then
      { (d.line k).enter .precheck with preRun := 0, preWhole := w, preBad := false, causes := 0, reported := [] }
    else d.line j := by
  simp only [linePrecheck, Dev.line_modLine, lineEnter_line, if_true]
  split <;> rfl

@[simp] theorem lineFailure_keeps (k b code : Nat) (d : Dev) :
    (lineFailure k b code d).tb = d.tb ∧ (lineFailure k b code d).ps = d.ps ∧ (lineFailure k b code d).cp = d.cp ∧
    (lineFailure k b code d).ports = d.ports ∧ (lineFailure k b code d).net = d.net ∧
    (lineFailure k b code d).nodes = d.nodes ∧
    (lineFailure k b code d).lg = d.lg ∧ (lineFailure k b code d).lp = d.lp ∧ (lineFailure k b code d).mt = d.mt ∧
    (lineFailure k b code d).cl = d.cl ∧ (lineFailure k b code d).diag = d.diag ∧
    (lineFailure k b code d).ply = d.ply ∧ (lineFailure k b code d).sec = d.sec ∧
    (lineFailure k b code d).upd = d.upd ∧ (lineFailure k b code d).rcv = d.rcv ∧
    (lineFailure k b code d).rcvPast = d.rcvPast ∧ (lineFailure k b code d).th = d.th ∧
    (lineFailure k b code d).bk = d.bk ∧ (lineFailure k b code d).fuses = d.fuses ∧
    (lineFailure k b code d).flash = d.flash ∧ (lineFailure k b code d).pwr = d.pwr ∧
    (lineFailure k b code d).inp = d.inp ∧ (lineFailure k b code d).fresh = d.fresh ∧
    (lineFailure k b code d).eg = d.eg ∧ (lineFailure k b code d).wire = d.wire ∧ (lineFailure k b code d).wr = d.wr := by
  unfold lineFailure; dsimp only; split <;> simp

/-- What a counted failure leaves of the strand (R241, R243). -/
def Line.failed (l : Line) (b : Nat) : Line :=
  let n := min (l.failCnt + 1) 8
  { l.enter (if 8 ≤ n then .latched else .retryWait) with
    failCnt := n
    fault := l.fault ||| putB 12 b true ||| putB 12 3 (decide (8 ≤ n))
    overRun := 0
    backRun := 0
    backoff := if 8 ≤ n then 0 else 100 * 2 ^ (n - 1) + 1 }

theorem lineFailure_line (k b code j : Nat) (d : Dev) :
    (lineFailure k b code d).line j = if j = k then (d.line k).failed b else d.line j := by
  unfold lineFailure
  by_cases h : j = k
  · subst h
    by_cases h8 : 8 ≤ min ((d.line j).failCnt + 1) 8 <;>
      simp [h8, Line.failed, lineEvent, Line.enter]
  · by_cases h8 : 8 ≤ min ((d.line k).failCnt + 1) 8 <;> simp [h8, h, lineEvent]

/-! ### What they report -/

theorem lineLeaveOn_reportsTo (k : Nat) (d : Dev) : d.reportsTo (lineLeaveOn k d) := by
  unfold lineLeaveOn
  dsimp only
  split
  · split
    · exact Dev.reportsTo_congr (report_reportsTo ..) (by simp) (by simp) (by simp)
    · exact Dev.reportsTo_of_eq (by simp) (by simp) (by simp)
  · exact Dev.reportsTo_refl _

theorem lineEnter_reportsTo (k : Nat) (st : LineSt) (d : Dev) : d.reportsTo (lineEnter k st d) :=
  Dev.reportsTo_trans (lineLeaveOn_reportsTo k d) (Dev.reportsTo_of_eq rfl rfl rfl)

theorem lineEnter_cuts (k : Nat) (st : LineSt) (d : Dev) :
    (lineEnter k st d).strands = (lineCuts k d).strands ∧ (lineEnter k st d).out = (lineCuts k d).out := by
  simpa [lineEnter] using lineLeaveOn_cuts k d

theorem linePrecheck_cuts (k : Nat) (w : Bool) (d : Dev) :
    (linePrecheck k w d).strands = (lineCuts k d).strands ∧ (linePrecheck k w d).out = (lineCuts k d).out := by
  simpa [linePrecheck] using lineEnter_cuts k .precheck d

theorem lineFailure_cuts (k b code : Nat) (d : Dev) :
    (lineFailure k b code d).strands = (lineCuts k d).strands ∧ (lineFailure k b code d).out = (lineCuts k d).out := by
  unfold lineFailure
  dsimp only
  split <;> simpa using lineEnter_cuts k _ d

theorem linePrecheck_reportsTo (k : Nat) (w : Bool) (d : Dev) : d.reportsTo (linePrecheck k w d) :=
  Dev.reportsTo_trans (lineEnter_reportsTo k .precheck d) (Dev.reportsTo_of_eq rfl rfl rfl)

theorem lineFailure_reportsTo (k b code : Nat) (d : Dev) : d.reportsTo (lineFailure k b code d) := by
  have h : ∀ st f, d.reportsTo ((lineEnter k st d).modLine k f) := fun st f =>
    Dev.reportsTo_trans (lineEnter_reportsTo k st d) (Dev.reportsTo_of_eq rfl rfl rfl)
  unfold lineFailure
  dsimp only
  split
  · exact Dev.reportsTo_trans (Dev.reportsTo_trans (h _ _) (report_reportsTo ..)) (report_reportsTo ..)
  · exact Dev.reportsTo_trans (h _ _) (report_reportsTo ..)

end Sys2Proof.Machine
end

