-- ==== Sys2Proof/Laws/Points.lean ====
section
/-!
SUPPORT. What the operations of the point store can do (R55, R84, R89, R93 to R97).
-/
namespace Sys2Proof.Machine

theorem foldl_setSub_keeps (F : Dev → Nat → Sub) (ks : List Nat) (d : Dev) :
    ∃ subs, ks.foldl (fun d e => d.setSub e (F d e)) d = { d with ps := { d.ps with subs := subs } } := by
  induction ks generalizing d with
  | nil => exact ⟨d.ps.subs, rfl⟩
  | cons k ks ih =>
    obtain ⟨subs, h⟩ := ih (d.setSub k (F d k))
    exact ⟨subs, h⟩

/-- A change of a point acts on its alarm entry and on the subscriptions to it, and on nothing else. -/
theorem pointChanged_eq (p : Nat) (old : Point) (d : Dev) :
    ∃ alarms subs, pointChanged p old d = { d with ps := { d.ps with alarms := alarms, subs := subs } } := by
  unfold pointChanged
  dsimp only
  split
  · obtain ⟨subs, h⟩ := foldl_setSub_keeps (fun d' e => subNote p old (d.point p) (d'.sub e))
      ((d.ps.subs.filter (fun s => s.2.en && s.2.point.toNat == p)).map (·.1)) d
    exact ⟨_, subs, h⟩
  · generalize hd : d.setAlarm _ _ = d1
    obtain ⟨subs, h⟩ := foldl_setSub_keeps (fun d' e => subNote p old (d.point p) (d'.sub e))
      ((d1.ps.subs.filter (fun s => s.2.en && s.2.point.toNat == p)).map (·.1)) d1
    refine ⟨d1.ps.alarms, subs, ?_⟩
    rw [h, ← hd]
    rfl

/-- Storing a record writes it, and acts on alarms and subscriptions. -/
theorem storePoint_eq (p : Nat) (x : Point) (cal : W64) (d : Dev) :
    ∃ y alarms subs, (storePoint p x cal d = { d with ps := { d.ps with
        points := tset Point.reset d.ps.points p y, alarms := alarms, subs := subs } }) ∧
      ((x.value = (d.point p).value ∧ x.quality = (d.point p).quality ∧ x.detail = (d.point p).detail → y = x) ∧
       (¬ (x.value = (d.point p).value ∧ x.quality = (d.point p).quality ∧ x.detail = (d.point p).detail) →
        y = { x with
          changeCnt := (d.point p).changeCnt + 1, tstamp := cal, mirPending := x.mirPending || x.mirrored })) := by
  unfold storePoint
  dsimp only
  split
  · next h => exact ⟨x, d.ps.alarms, d.ps.subs, rfl, fun _ => rfl, fun n => absurd h n⟩
  · next h =>
    obtain ⟨alarms, subs, e⟩ := pointChanged_eq p (d.point p) (d.setPoint p { x with
      changeCnt := (d.point p).changeCnt + 1, tstamp := cal, mirPending := x.mirPending || x.mirrored })
    exact ⟨_, alarms, subs, e, fun n => absurd n h, fun _ => rfl⟩

/-- Reading points after a store. -/
theorem storePoint_point (p q : Nat) (x : Point) (cal : W64) (d : Dev) (h : q ≠ p) :
    (storePoint p x cal d).point q = d.point q := by
  obtain ⟨y, al, su, e, -⟩ := storePoint_eq p x cal d
  rw [e]
  exact tget_tset_other _ _ _ h

end Sys2Proof.Machine
end

