-- ==== Sys2Proof/Tests/Slice0.lean ====
section
/-!
SUPPORT. Tests: ill-formed commands are refused; the hypotheses of every statement are met by a concrete state
(`witness_…`); single steps with results worked out from the manual (`test_…`).
-/
namespace Sys2Proof.Tests
set_option Elab.async false
set_option synthInstance.maxSize 2000
open Sys2Proof Sys2Proof.Machine

/-- The module right after reset, with its main domain running. -/
def base : Dev := { Dev.reset with pwr := { Dev.reset.pwr with main := .running } }

/-- A state whose main domain runs, with one change. -/
def upWith (f : Dev → Dev) : State := { State.reset with dev := f base }

/-- The reset state with another island. -/
def islWith (x : Island) : State := { State.reset with isl := x }

/-- The command answers a next state with the property. -/
def after (i : Instr) (s : State) (p : State → Bool) : Bool :=
  match exec i s with
  | .next t => p t
  | _ => false

/-- The head of a frame of a type, untagged or tagged with PCP 0 and VID 0. -/
def headOf (ty : Nat) : FrameHead := ⟨none, ty, 128, true⟩
def taggedOf (ty : Nat) : FrameHead := ⟨some (0, 0), ty, 128, true⟩

/-- A command that waits in its slot: opcode, space, INDEX, COUNT, flags in place, payload. -/
def cmdOf (ch op sp index count : Nat) (flags : BitVec 256) (payload : List Byte) : Cmd where
  ch := ch
  hdr := put 256 128 1#64 ||| put 256 96 (BitVec.ofNat 16 count) ||| put 256 64 (BitVec.ofNat 32 index) |||
    put 256 48 (BitVec.ofNat 8 sp) ||| put 256 32 (BitVec.ofNat 16 payload.length) ||| put 256 24 (BitVec.ofNat 8 op) ||| flags
  payload := payload
  stage := .waiting
  arrived := 0
  ready := some 0
  taken := []

/-- A module with such a command in its slot. -/
def held (c : Cmd) (f : Dev → Dev) : State := upWith (fun d => f { d with cp := { d.cp with slots := [c] } })

/-! ### The whole block -/

theorem witness_StepRunsFront :
    ({ State.reset with pending := [.scrubPass ⟨0, [], [], 0⟩, .rtcCount] }).pending = .scrubPass ⟨0, [], [], 0⟩ :: [.rtcCount] ∧
      State.reset.pending = [] := by decide +kernel

theorem witness_EveryCommandAnswers :
    (Instr.nop 65 0).wellFormed = false ∧ (Instr.porstAssert 100).wellFormed = true ∧ (Instr.nop 64 127).wellFormed = true := by
  decide +kernel

theorem witness_IslandKeepsApart :
    (Instr.islandOscFault).isIsland = true ∧ after .islandOscFault State.reset (fun _ => true) = true ∧
      (Instr.rtcCount).isIsland = false ∧ after .rtcCount State.reset (fun _ => true) = true := by decide +kernel

theorem witness_MainDomainStands :
    State.reset.dev.isMain = false ∧ (Instr.scrubPass ⟨0, [], [], 0⟩).wellFormed = true ∧ (Instr.scrubPass ⟨0, [], [], 0⟩).isIsland = false ∧
      (Instr.scrubPass ⟨0, [], [], 0⟩).anyPower = false := by decide +kernel

theorem witness_StepKeepsInv : State.reset.inv ∧ step State.reset = .next State.reset := by
  refine ⟨⟨?_, ?_, ?_⟩, rfl⟩ <;> decide +kernel

/-! Ill-formed operands are refused. -/

theorem test_wellFormed_channel : (Instr.commandLimit 64 127).wellFormed = true ∧ (Instr.commandLimit 65 0).wellFormed = false ∧
    (Instr.commandLimit 0 128).wellFormed = false ∧ (Instr.channelOpen 64).wellFormed = false := by decide +kernel
theorem test_wellFormed_points : (Instr.pointMemory 131072).wellFormed = false ∧ (Instr.alarmMemory 16384).wellFormed = false ∧
    (Instr.alarmDelayExpiry 0 4).wellFormed = false ∧ (Instr.subMemory 16384).wellFormed = false ∧
    (Instr.shareMaskWrite 0 false 0).wellFormed = false ∧ (Instr.subRangeWrite 64 0).wellFormed = false := by decide +kernel
theorem test_wellFormed_field : (Instr.fastTrip 16 0).wellFormed = false ∧ (Instr.nodeMemory 0 0).wellFormed = false ∧
    (Instr.nodeMemory 0 255).wellFormed = false ∧ (Instr.clMemory 8).wellFormed = false ∧
    (Instr.loopMemory 2112).wellFormed = false ∧ (Instr.taskEntryMemory 8).wellFormed = false ∧
    (Instr.bankMemory 262144).wellFormed = false ∧ (Instr.accMemory 72).wellFormed = false ∧
    (Instr.channelMemory 87).wellFormed = false ∧ (Instr.sensorCondition 78).wellFormed = false := by decide +kernel
theorem test_wellFormed_ports : (Instr.linkUp 3 1000).wellFormed = false ∧ (Instr.linkSearchStep 2).wellFormed = false ∧
    (Instr.arpRequest 2 ⟨headOf 0x0806, .arp 0 0 0⟩).wellFormed = false ∧ (Instr.pauseTimerExpiry 0 8).wellFormed = false ∧
    (Instr.rxBufferPause 0 65537).wellFormed = false := by decide +kernel
theorem test_wellFormed_island : (Instr.safetyInputFall (.sinA 8)).wellFormed = false ∧
    (Instr.brakeTimeout 4).wellFormed = false ∧ (Instr.safetyFaultCleared (.output 4)).wellFormed = false ∧
    (Instr.islandTick ⟨0, 0, true, true, 0, [0, 0, 0]⟩).wellFormed = false := by decide +kernel
theorem test_wellFormed_backup : (Instr.alarmFired 8).wellFormed = false ∧ (Instr.retainedMemory 2064 0).wellFormed = false ∧
    (Instr.recordMemory 65536).wellFormed = false ∧ (Instr.digestRecompute 6).wellFormed = false := by decide +kernel

/-- A command that names no unit is a fault. -/
theorem test_noSuchUnit : (match exec (.nop 65 0) State.reset with | .fault .noSuchUnit => true | _ => false) = true := by
  decide +kernel

/-! ### Strand lines -/

def lineIn (f : Line → Line) : State := upWith (fun d => d.setLine 15 (f Line.reset))

theorem witness_LineEvents_trip :
    let s := lineIn (fun l => { l with st := .inrush, gate := true, failCnt := 7, overRun := 100, backRun := 2 })
    s.up ∧ (s.dev.line 15).powered = true ∧ ((s.dev.line 15).tripMa : Int) ≤ 65535 ∧ 100 ≤ (s.dev.line 15).overRun ∧
      2 ≤ (s.dev.line 15).backRun := by decide +kernel
theorem witness_LineEvents_off :
    let s := upWith id
    s.up ∧ (s.dev.line 0).powered = false ∧ (s.dev.line 0).overRun < 100 ∧ (s.dev.line 0).backRun < 2 ∧
      (s.dev.line 0).st ≠ .precheck ∧ (s.dev.line 0).st ≠ .inrush ∧ (s.dev.line 0).st ≠ .retryWait ∧
      (s.dev.line 0).st ≠ .on := by decide +kernel
theorem witness_LineEvents_due :
    (let s := lineIn (fun l => { l with st := .precheck, preRun := 2 })
     let l := s.dev.line 15
     l.st = .precheck ∧ (if l.ovPending then 100 else 2) ≤ l.preRun ∧ s.dev.tb.sample = 0) ∧
    (let l := (lineIn (fun l => { l with st := .precheck, preRun := 100, ovPending := true })).dev.line 15
     l.st = .precheck ∧ (if l.ovPending then 100 else 2) ≤ l.preRun) ∧
    (let l := (lineIn (fun l => { l with st := .inrush, gate := true, frames := 25 })).dev.line 15
     l.st = .inrush ∧ l.inrushMs ≤ l.frames) ∧
    (let l := (lineIn (fun l => { l with st := .retryWait })).dev.line 15
     l.st = .retryWait ∧ l.backoff = 0) ∧
    (let l := (lineIn (fun l => { l with st := .on, gate := true, frames := 10000 })).dev.line 15
     l.st = .on ∧ 10000 ≤ l.frames) := by decide +kernel

theorem witness_LineGateFollowsState :
    let s := { lineIn (fun l => { l with st := .on, gate := true, overRun := 100 }) with pending := [.lineOverload 15] }
    (∀ j, (s.dev.line j).gate = (s.dev.line j).powered) ∧
      (match step s with | .next t => (t.dev.line 15).st == .retryWait | _ => false) = true := by
  refine ⟨fun j => ?_, by decide +kernel⟩
  by_cases h : j = 15
  · subst h; decide +kernel
  · simp only [lineIn, upWith, Dev.line, Dev.setLine, base, Dev.reset]
    rw [tget_tset_other _ _ _ h]; rfl

/-- The eighth counted failure latches the strand off (R243). -/
theorem test_lineOverload_latches :
    let s := lineIn (fun l => { l with st := .on, gate := true, failCnt := 7, overRun := 100 })
    after (.lineOverload 15) s (fun t => (t.dev.line 15).st == .latched && !(t.dev.line 15).gate &&
      (t.dev.line 15).failCnt == 8 && (t.dev.line 14).st == .off) = true := by decide +kernel
/-- The first failure waits 100 frames and tries again (R243). -/
theorem test_fastTrip_retries :
    let s := lineIn (fun l => { l with st := .on, gate := true })
    after (.fastTrip 15 65535) s (fun t => (t.dev.line 15).st == .retryWait && (t.dev.line 15).failCnt == 1) = true := by
  decide +kernel

/-! ### Points, alarms and subscriptions -/

theorem witness_PointStoreEvents :
    let s := upWith (fun d => d.setAlarm 16383 { Alarm.reset with levels := tset .normal [] 3 (.delaying 1) })
    s.up ∧ (131071 < 131072) ∧ (16383 < 16384) ∧ (s.dev.alarm 16383).level 3 = .delaying 1 := by decide +kernel
theorem witness_PointStoreEvents_waits :
    let s := upWith (fun d => d.setAlarm 0 { Alarm.reset with levels := tset .normal [] 0 (.delaying 2) })
    s.up ∧ (s.dev.alarm 0).level 0 = .delaying 2 := by decide +kernel

theorem witness_SharingAndSubscriptions_registers :
    let s := upWith id
    s.up ∧ writeAdmitted (regCmd (0x0200 + 8 * (7 - 1) + 4) 0xFFFFFFFF) s ∧
      writeAdmitted (regCmd (0x0200 + 8 * (1 - 1)) 0xFFFFFFFE) s ∧
      writeAdmitted (regCmd (0x0240 + 4 * 63) 0x00010000) s := by decide +kernel

/-- SUB_RANGE of partition 5 takes entry 16383 alone; the partition owns point 131071. -/
def subState (o : Sub) : State := upWith (fun d => ({ d with ps := { d.ps with
  subRange := tset 0 [] 5 0x00013FFF } }.setPoint 131071 { Point.reset with owner := 5 }).setSub 16383 o)

def subImg (en : Bool) (p : BitVec 17) : BitVec 256 := putB 256 25 en ||| putB 256 21 true ||| put 256 0 p

theorem witness_SharingAndSubscriptions_enable :
    let s := subState Sub.reset
    s.up ∧ s.dev.subHolder 16383 = some 5 ∧
      writeAdmitted (writeCmd ((s.dev.subHolder 16383).getD 0) 0x09 0x03 16383 32 (subImg true 131071).toNat) s ∧
      writeAdmitted (writeCmd ((s.dev.subHolder 16383).getD 0) 0x09 0x03 16383 32 (subImg false 131071).toNat) s ∧
      bit (subImg true 131071) 25 = true ∧ bit (subImg false 131071) 25 = false ∧ (s.dev.sub 16383).en = false := by
  decide +kernel
theorem witness_SharingAndSubscriptions_stays :
    let s := subState { Sub.reset with en := true, point := 131071 }
    s.up ∧ writeAdmitted (writeCmd ((s.dev.subHolder 16383).getD 0) 0x09 0x03 16383 32 (subImg true 131071).toNat) s ∧
      (s.dev.sub 16383).en = true ∧ fld (subImg true 131071) 0 17 = (s.dev.sub 16383).point ∧
      (s.dev.sub 16383).revoked = false := by decide +kernel
theorem witness_SharingAndSubscriptions_settled :
    (subState { Sub.reset with en := true, point := 131071 }).dev.rightsSettled := by
  intro e he
  by_cases h : e = 16383
  · subst h; decide +kernel
  · have x : (subState { Sub.reset with en := true, point := 131071 }).dev.sub e = Sub.reset := by
      simp only [subState, upWith, Dev.sub, Dev.setSub, Dev.setPoint, base, Dev.reset]
      rw [tget_tset_other _ _ _ h]; rfl
    rw [x] at he; exact absurd he (by decide)

/-- A damaged point record reads 0, BAD with MEMORY, and keeps its owner (R94). -/
theorem test_pointMemory :
    let s := upWith (fun d => d.setPoint 7 { Point.reset with value := 5, quality := 0, owner := 9 })
    after (.pointMemory 7) s (fun t => (t.dev.point 7).value == 0 && (t.dev.point 7).quality == 2 &&
      (t.dev.point 7).detail == 0x0C && (t.dev.point 7).owner == 9) = true := by decide +kernel
/-- A level whose delay ends is ACTIVE and unacknowledged (R85). -/
theorem test_alarmDelayExpiry :
    let s := upWith (fun d => d.setAlarm 3 { Alarm.reset with levels := tset .normal [] 2 (.delaying 1) })
    after (.alarmDelayExpiry 3 2) s (fun t => (t.dev.alarm 3).level 2 == .active && bit (t.dev.alarm 3).unacked 2 &&
      (t.dev.alarm 3).marked) = true := by decide +kernel
/-- An enabled subscription notifies once: it is pending with no changes counted (R90). -/
theorem test_subEnable :
    after (.subEnable 16383 (subImg true 131071)) (subState Sub.reset) (fun t => (t.dev.sub 16383).en &&
      (t.dev.sub 16383).pending && (t.dev.sub 16383).point == 131071) = true := by decide +kernel

/-! ### Host commands -/

theorem witness_NopAndReads_nop :
    let c := cmdOf 64 0x00 0x00 0 0 (putB 256 8 true) []
    let s := held c id
    s.up ∧ c.runnable s ∧ c.opcode = 0 := by decide +kernel

/-- A read of two elements to the start of a reply area of 64 KiB. -/
def readOf (ch op sp index count : Nat) : Cmd := cmdOf ch op sp index count 0 (List.replicate 8 0)
def replyArea (ch : Nat) (d : Dev) : Dev :=
  d.setChan ch { Channel.reset with cfg := Channel.reset.cfg ||| put 1024 448 0x10000#32, st := .opened }

theorem witness_NopAndReads_point :
    let c := readOf 0 0x01 0x01 131070 2
    let s := held c (replyArea 0)
    s.up ∧ c.runnable s ∧ c.opcode = 0x01 := by decide +kernel
theorem witness_NopAndReads_entry :
    let c := readOf 64 0x08 0x21 6 2
    let s := held c (replyArea 64)
    s.up ∧ c.runnable s ∧ c.opcode = 0x08 := by decide +kernel
theorem witness_NopAndReads_reg :
    let c := readOf 0 0x0C 0xF0 0x3FF8 2
    let s := held c (replyArea 0)
    s.up ∧ c.runnable s ∧ c.opcode = 0x0C ∧ ∀ i < c.count, c.object i < 0x4000 := by decide +kernel

theorem witness_PointAndAlarmCommands_write :
    let c := cmdOf 0 0x02 0x01 131071 1 0 (leBytes 8 5 ++ List.replicate 8 0)
    let s := held c (fun d => d.setPoint 131071 { Point.reset with ptype := 2, owner := 7, override := true })
    s.up ∧ c.runnable s ∧ c.opcode = 0x02 := by decide +kernel
theorem witness_PointAndAlarmCommands_tenant :
    let c := cmdOf 7 0x02 0x01 131071 1 0 (leBytes 8 5 ++ List.replicate 8 0)
    let s := held c (fun d => d.setPoint 131071 { Point.reset with ptype := 2, owner := 7 })
    s.up ∧ c.runnable s ∧ c.opcode = 0x02 := by decide +kernel
theorem witness_PointAndAlarmCommands_ack :
    let c := cmdOf 0 0x04 0x02 16383 1 0 (leBytes 4 0x1F)
    let s := held c (fun d => d.setAlarm 16383 { Alarm.reset with unacked := 8, levels := tset .normal [] 3 .clearWait })
    s.up ∧ c.runnable s ∧ c.opcode = 0x04 := by decide +kernel

def lineCmd (action : Nat) : Cmd := cmdOf 0 0x11 0x10 14 2 0 (leBytes 4 action)
def twoStrands (d : Dev) : Dev :=
  (d.setStrand 14 { Strand.reset with configured := true }).setStrand 15 { Strand.reset with configured := true }
theorem witness_StrandLineCommands :
    (upWith id).up ∧ (lineCmd 0).runnable (held (lineCmd 0) twoStrands) ∧ (lineCmd 1).runnable (held (lineCmd 1) twoStrands) ∧
      (lineCmd 2).runnable (held (lineCmd 2) twoStrands) ∧ (lineCmd 0).opcode = 0x11 ∧
      fld ((lineCmd 0).word 0) 0 2 = 0#2 ∧ fld ((lineCmd 1).word 0) 0 2 = 1#2 ∧ fld ((lineCmd 2).word 0) 0 2 = 2#2 := by
  refine ⟨?_, ?_, ?_, ?_, ?_⟩ <;> decide +kernel

theorem witness_MailboxAndTimeCommands_hart :
    let c := cmdOf 0 0x12 0x50 7 1 0 (leBytes 12 0)
    let s := held c (fun d => d.setCloop 7 { CLoop.reset with cfg := CLoop.reset.cfg ||| putB 2048 0 true ||| put 2048 8 3#2 })
    s.up ∧ c.runnable s ∧ c.opcode = 0x12 := by decide +kernel
theorem witness_MailboxAndTimeCommands_time :
    (let c := cmdOf 0 0x13 0x80 0 0 0 (leBytes 8 (40 * 2 ^ 32) ++ leBytes 4 0)
     let s := held c id
     s.up ∧ c.runnable s ∧ c.opcode = 0x13 ∧ c.timeMode = 0) ∧
    (let c := cmdOf 0 0x13 0x80 0 0 0 (leBytes 8 (4 * 2 ^ 32) ++ leBytes 4 1)
     let s := held c (fun d => { d with bk := { d.bk with calSet := true } })
     s.up ∧ c.runnable s ∧ c.opcode = 0x13 ∧ c.timeMode = 1) := by decide +kernel

def plyCmd (action : Nat) : Cmd := cmdOf 64 0x20 0x90 0 0 0 (leBytes 4 action ++ leBytes 4 0x77)
theorem witness_PlyControlCommands_pair :
    (plyCmd 1).runnable (held (plyCmd 1) id) ∧ (plyCmd 1).opcode = 0x20 ∧ (plyCmd 1).plyAction = 1 := by decide +kernel
theorem witness_PlyControlCommands_unpair :
    (plyCmd 2).runnable (held (plyCmd 2) (fun d => { d with ply := { d.ply with role := .leading } })) ∧
    (plyCmd 2).runnable (held (plyCmd 2) (fun d => { d with ply := { d.ply with role := .joining } })) ∧
    (plyCmd 2).runnable (held (plyCmd 2) (fun d => { d with ply := { d.ply with role := .trailing } })) ∧
    (plyCmd 2).runnable (held (plyCmd 2) (fun d => { d with ply := { d.ply with role := .dead } })) ∧ (plyCmd 2).plyAction = 2 := by
  refine ⟨?_, ?_, ?_, ?_, ?_⟩ <;> decide +kernel
theorem witness_PlyControlCommands_yield :
    (plyCmd 3).runnable (held (plyCmd 3) (fun d => { d with ply := { d.ply with
      role := .leading, twinState := .ok, twinRole := 3 } })) ∧ (plyCmd 3).plyAction = 3 ∧
    (plyCmd 4).runnable (held (plyCmd 4) (fun d => { d with ply := { d.ply with
      role := .leading, twinState := .joining, catchupTries := 3 } })) ∧ (plyCmd 4).plyAction = 4 := by
  refine ⟨?_, ?_, ?_, ?_⟩ <;> decide +kernel

theorem witness_UpdateCommands :
    (let c := cmdOf 64 0x30 0x00 0 0 0 (leBytes 4 25165824 ++ leBytes 4 0)
     c.runnable (held c id) ∧ c.opcode = 0x30) ∧
    (let c := cmdOf 64 0x31 0x00 4 0 0 [1, 2, 3, 4]
     c.runnable (held c (fun d => { d with upd := { d.upd with st := .opened }, flash := { d.flash with stagingLen := 8 } })) ∧
       c.opcode = 0x31) ∧
    (let c := cmdOf 64 0x32 0x00 0 0 0 []
     c.runnable (held c (fun d => { d with
       upd := { d.upd with st := .opened }, flash := { d.flash with stagingLen := 4, staging := [(0, [1, 2, 3, 4])] } })) ∧
       c.opcode = 0x32) := by refine ⟨?_, ?_, ?_⟩ <;> decide +kernel

def lcCmd (sig : List Byte) : Cmd := cmdOf 64 0x38 0xA0 0 0 0 (leBytes 4 2 ++ leBytes 4 0x1F0CA5E7 ++ sig)
theorem witness_RestartCommands :
    (lcCmd (List.replicate 64 0)).runnable (held (lcCmd (List.replicate 64 0)) id) ∧ (lcCmd (List.replicate 64 0)).opcode = 0x38 ∧
      lifecycleStatus (lcCmd (List.replicate 64 0)).target (lcCmd (List.replicate 64 0)).auth base.fresh0 ≠ stOk ∧
      (let c := cmdOf 64 0x3F 0x00 0 0 0 (leBytes 4 1 ++ leBytes 4 0xB0070FC6)
       c.runnable (held c id) ∧ c.opcode = 0x3F) := by refine ⟨?_, ?_, ?_, ?_⟩ <;> decide +kernel

/-- The key under which a number that is also a point's x coordinate, taken as digest, signs itself: r = s = digest. -/
def ownKey (x y : Nat) : List Byte := beBytes 32 x ++ beBytes 32 y
def ownSig (z : Nat) : List Byte := beBytes 32 z ++ beBytes 32 z
def lcSig : List Byte := ownSig 0xe2c2e03a95c9f7e1d9348ad85613b5410c308e1ed1ad586b8d20f842588fd2bf
def lcKey : List Byte := ownKey 0x3b94dbf3cc681ed2a5853b686e3d0cc4f0a607f72b1603025b425e1e33d5cc77
  0x4973a9a6204f42b61beb4d666a123d102482c32c1212a136baa38353de9458ea
theorem witness_RestartCommands_signed :
    let s := held (lcCmd lcSig) (fun d => { d with flash := { d.flash with slots := tset [] [] 0 lcKey } })
    (lcCmd lcSig).runnable s ∧ (lcCmd lcSig).opcode = 0x38 ∧
      lifecycleStatus (lcCmd lcSig).target (lcCmd lcSig).auth s.dev.fresh0 = stOk ∧ (lcCmd lcSig).n = false := by
  decide +kernel
theorem witness_RestartCommands_silent :
    let c := cmdOf 64 0x3F 0x00 0 0 (putB 256 11 true) (leBytes 4 1 ++ leBytes 4 0xB0070FC6)
    c.runnable (held c id) ∧ c.opcode = 0x3F ∧ c.n = true := by decide +kernel

/-- A command that is to be queued for phase F, nothing else being in its queue. -/
def cfgReady (c : Cmd) (i : Instr) (f : Dev → Dev) : Prop :=
  let s := held c f
  s.up ∧ c.waitsAlone s ∧ c.executedBy i ∧ c.admissible s ∧ c.stale s.dev = false ∧ s.dev.cp.running = none ∧
    s.dev.cp.late = [] ∧ s.dev.cp.phaseF = [] ∧ s.dev.cp.recheck = false
/-- The same for a configuration command of one element, up to the conditions of phase F itself. -/
def cfgApplies (c : Cmd) (i : Instr) (f : Dev → Dev) : Prop :=
  cfgReady c i f ∧ c.isConfig = true ∧ after i (held c f) (fun t => Memory.wf t.sram &&
    (c.opcode != 0x0D || openStillOk c { t.dev with cp := { t.dev.cp with phaseF := [], running := none } })) = true
theorem witness_ConfigurationCommands_point :
    let c := cmdOf 0 0x03 0x01 131071 1 0 (leBytes 16 0)
    cfgApplies c (.pointConfig 0 0) id ∧ c.opcode = 0x03 := by unfold cfgApplies cfgReady Cmd.executedBy Cmd.admissible; decide +kernel
theorem witness_ConfigurationCommands_entry :
    let c := cmdOf 0 0x09 0x10 15 1 0 (leBytes 64 Strand.reset.cfg.toNat)
    cfgApplies c (.writeEntry 0 0) id ∧ c.opcode = 0x09 ∧ c.count = 1 := by unfold cfgApplies cfgReady Cmd.executedBy Cmd.admissible; decide +kernel
theorem witness_ConfigurationCommands_reg :
    let c := cmdOf 0 0x0D 0xF0 0x0200 1 0 (leBytes 4 2)
    cfgApplies c (.writeReg 0 0) id ∧ c.opcode = 0x0D ∧ c.count = 1 ∧ (held c id).dev.rightsSettled := by
  refine ⟨?_, ?_, ?_, fun e he => Bool.noConfusion (show false = true from he)⟩
  · unfold cfgApplies cfgReady Cmd.executedBy Cmd.admissible; decide +kernel
  all_goals decide +kernel
theorem witness_ConfigurationCommands_bank :
    let c := cmdOf 0 0x10 0x20 0 0 0 (leBytes 4 0x1FF)
    cfgApplies c (.bankExchange 0 0) (fun d => d.setTask 7 { Task.reset with st := .running }) ∧ c.opcode = 0x10 := by
  unfold cfgApplies cfgReady Cmd.executedBy Cmd.admissible; decide +kernel
def timed : BitVec 256 := putB 256 10 true
theorem witness_ConfigurationCommands_timed :
    cfgReady (cmdOf 64 0x00 0x00 0 0 timed []) (.nop 64 0) id ∧
    cfgReady (cmdOf 0 0x01 0x01 0 1 timed (List.replicate 8 0)) (.pointRead 0 0) (replyArea 0) ∧
    cfgReady (cmdOf 0 0x02 0x01 5 1 timed (leBytes 16 5)) (.pointWrite 0 0)
      (fun d => d.setPoint 5 { Point.reset with ptype := 2 }) ∧
    cfgReady (cmdOf 0 0x04 0x02 16383 1 timed (leBytes 4 0x1F)) (.alarmAck 0 0) id ∧
    cfgReady (cmdOf 64 0x08 0x21 6 2 timed (List.replicate 8 0)) (.readEntry 64 0) (replyArea 64) ∧
    cfgReady (cmdOf 0 0x0C 0xF0 0x3FF8 2 timed (List.replicate 8 0)) (.readReg 0 0) (replyArea 0) ∧
    cfgReady (cmdOf 0 0x11 0x10 14 2 timed (leBytes 4 1)) (.strandLineOn 0 0) twoStrands ∧
    cfgReady (cmdOf 0 0x12 0x50 7 1 timed (leBytes 12 0)) (.hartSend 0 0)
      (fun d => d.setCloop 7 { CLoop.reset with cfg := CLoop.reset.cfg ||| putB 2048 0 true ||| put 2048 8 3#2 }) ∧
    cfgReady (cmdOf 0 0x13 0x80 0 0 timed (leBytes 8 (40 * 2 ^ 32) ++ leBytes 4 0)) (.timeSetStep 0 0) id ∧
    cfgReady (cmdOf 64 0x20 0x90 0 0 timed (leBytes 4 1 ++ leBytes 4 0x77)) (.pair 64 0) id ∧
    cfgReady (cmdOf 64 0x30 0x00 0 0 timed (leBytes 4 25165824 ++ leBytes 4 0)) (.updateBegin 64 0) id ∧
    cfgReady (cmdOf 64 0x3F 0x00 0 0 timed (leBytes 4 1 ++ leBytes 4 0xB0070FC6)) (.deviceRestart 64 0) id := by
  refine ⟨?_, ?_, ?_, ?_, ?_, ?_, ?_, ?_, ?_, ?_, ?_, ?_⟩ <;> (unfold cfgReady Cmd.executedBy Cmd.admissible; decide +kernel)
theorem witness_ConfigurationCommands_signed :
    cfgReady (cmdOf 64 0x38 0xA0 0 0 timed (leBytes 4 2 ++ leBytes 4 0x1F0CA5E7 ++ lcSig)) (.lifecycleSet 64 0)
      (fun d => { d with flash := { d.flash with slots := tset [] [] 0 lcKey } }) := by
  unfold cfgReady Cmd.executedBy Cmd.admissible; decide +kernel

/-- A NOP with F, behind which a command waits whose status is settled (R120). -/
theorem witness_NopAndReads_barrier :
    let c := cmdOf 64 0x00 0x00 0 0 (putB 256 8 true) []
    let e : Cmd := { cmdOf 64 0x00 0x00 0 0 (put 256 16 (1 : BitVec 8)) [] with
      hdr := (cmdOf 64 0x00 0x00 0 0 (put 256 16 (1 : BitVec 8)) []).hdr + put 256 128 1#64, stage := .ended stState }
    let s := upWith (fun d => { d with cp := { d.cp with slots := [c, e] } })
    s.up ∧ s.dev.slot c.ch c.tag = some c ∧ c.stage = .waiting ∧ s.dev.blocked c = false ∧ c.pastLimit s.dev = false ∧
      c.a = false ∧ c.t = false ∧ checkAll c false s.dev.fresh0 = none ∧ c.f = true ∧
      ((s.dev.inFlight c.ch).map (·.tag)).Nodup ∧ e ∈ s.dev.inFlight c.ch ∧ e.stage = .ended stState ∧ c.seq < e.seq ∧
      (∀ x ∈ s.dev.inFlight c.ch, x.stage ≠ .ended 0) ∧
      (∀ b ∈ s.dev.inFlight c.ch, b.isBarrier = true → b.stage ≠ .finished → b.seq < e.seq → b.tag = c.tag) := by
  decide +kernel

theorem witness_FailuresHaveNoEffect_alone :
    let c := cmdOf 0 0x01 0x01 131071 2 0 (List.replicate 8 0)
    let s := held c id
    s.up ∧ c.waitsAlone s ∧ c.opcode = 0x01 ∧
      (checkAll c (c.isConfig || c.t) s.dev.fresh0).map (fun x => decide (x.1 ≠ 0)) = some true := by decide +kernel
/-- A group of one NOP and one read beyond the last point. -/
def groupCmd (pos tag : Nat) (op sp index count : Nat) (p : List Byte) : Cmd :=
  { cmdOf 0 op sp index count (putB 256 12 true ||| put 256 120 2#8 ||| put 256 112 (BitVec.ofNat 8 pos) |||
      put 256 16 (BitVec.ofNat 8 tag)) p with hdr := (cmdOf 0 op sp index count (putB 256 12 true ||| put 256 120 2#8 |||
      put 256 112 (BitVec.ofNat 8 pos) ||| put 256 16 (BitVec.ofNat 8 tag)) p).hdr + put 256 128 (BitVec.ofNat 64 pos) }
theorem witness_FailuresHaveNoEffect_group :
    let a := groupCmd 0 0 0x02 0x01 5 1 (leBytes 16 5)
    let b := groupCmd 1 1 0x02 0x01 131071 2 (leBytes 32 5)
    let s := upWith (fun d => { d with cp := { d.cp with slots := [a, b] } })
    s.dev.slot a.ch a.tag = some a ∧ a.stage = .waiting ∧ s.dev.blocked a = false ∧
      ((checkMembers (inPhaseF (s.dev.members a)) (s.dev.members a) s.dev).1.any (fun r => r.2.isSome)) = true ∧
      s.dev.members a = [a, b] ∧ a.pastLimit s.dev = false ∧ b.pastLimit s.dev = false ∧ s.dev.endedHeld a.ch [a.tag, b.tag] := by
  decide +kernel

/-- A group of a write of point 5 and a read of it. -/
theorem witness_FailuresHaveNoEffect_passes :
    let a := groupCmd 0 0 0x02 0x01 5 1 (leBytes 16 5)
    let b := groupCmd 1 1 0x01 0x01 5 1 (List.replicate 8 0)
    let s := upWith (fun d => { (replyArea 0 d).setPoint 5 { Point.reset with ptype := 2 } with
      cp := { d.cp with slots := [a, b] } })
    s.dev.slot a.ch a.tag = some a ∧ a.stage = .waiting ∧ s.dev.blocked a = false ∧ s.dev.members a = [a, b] ∧
      a.pastLimit s.dev = false ∧ b.pastLimit s.dev = false ∧ s.dev.slot b.ch b.tag = some b ∧ a.tag ≠ b.tag ∧
      s.dev.endedHeld a.ch [a.tag, b.tag] ∧
      openChecks [a, b] s.dev = [(a, none), (b, none)] ∧
      checkMembers false [a, b] s.dev = ([(a, none), (b, none)], s.dev) ∧ a.isRead = false ∧ b.isRead = true := by
  decide +kernel
/-- A configuration command that decodes while a phase F runs waits for the next one. -/
theorem witness_ConfigurationCommands_late :
    let c := cmdOf 0 0x0D 0xF0 0x0200 1 0 (leBytes 4 2)
    let s := held c (fun d => { d with cp := { d.cp with running := some (false, none) } })
    s.up ∧ c.waitsAlone s ∧ c.executedBy (.writeReg 0 0) ∧ c.admissible s ∧ s.dev.cp.running ≠ none := by
  unfold Cmd.executedBy Cmd.admissible; decide +kernel

/-- A write of partition 0 over an owner's point is a substitution: UNCERTAIN with SUBSTITUTED (R72). -/
theorem test_pointWrite :
    let c := cmdOf 0 0x02 0x01 131071 1 0 (leBytes 8 5 ++ List.replicate 8 0)
    after (.pointWrite 0 0) (held c (fun d => d.setPoint 131071 { Point.reset with ptype := 2, owner := 7, override := true })) (fun t =>
      (t.dev.point 131071).value == 5 && (t.dev.point 131071).quality == 1 && (t.dev.point 131071).detail == 0x10) = true := by
  decide +kernel
/-- A read goes to the reply area and its command waits for the acknowledgement (R140). -/
theorem test_pointRead :
    after (.pointRead 0 0) (held (readOf 0 0x01 0x01 131070 2) (replyArea 0)) (fun t =>
      (t.dev.slot 0 0).map (·.stage) == some .replying && (t.dev.chan 0).unacked.map (·.data.length) == [64]) = true := by
  decide +kernel
/-- Acknowledging a level that only waited for it makes it NORMAL (R85). -/
theorem test_alarmAck :
    after (.alarmAck 0 0) (held (cmdOf 0 0x04 0x02 16383 1 0 (leBytes 4 0x1F)) (fun d =>
      d.setAlarm 16383 { Alarm.reset with unacked := 8, levels := tset .normal [] 3 .clearWait })) (fun t =>
      (t.dev.alarm 16383).level 3 == .normal && (t.dev.alarm 16383).unacked == 0) = true := by decide +kernel
/-- ON starts the precheck of a configured strand (R155, R241). -/
theorem test_strandLineOn :
    after (.strandLineOn 0 0) (held (lineCmd 1) twoStrands) (fun t => (t.dev.line 15).st == .precheck &&
      (t.dev.line 14).st == .precheck && (t.dev.line 13).st == .off) = true := by decide +kernel
/-- A failed check says so and takes no effect (R113). -/
theorem test_pointRead_refused :
    after (.pointRead 0 0) (held (cmdOf 0 0x01 0x01 131071 2 0 (List.replicate 8 0)) id) (fun t =>
      (t.dev.slot 0 0).map (·.stage) == some .finished && (t.dev.chan 0).fenceFault && (t.dev.chan 0).unacked == []) = true := by
  decide +kernel
/-- An exchange waits in the queue of phase F (R143). -/
theorem test_bankExchange :
    let c := cmdOf 0 0x10 0x20 0 0 0 (leBytes 4 0x1FF)
    after (.bankExchange 0 0) (held c id) (fun t => t.dev.cp.phaseF == [(0, 0)] &&
      (t.dev.slot 0 0).map (·.stage) == some .admitted) = true := by decide +kernel
/-- The staging slot takes container bytes at their offset (R159). -/
theorem test_updateData :
    after (.updateData 64 0) (held (cmdOf 64 0x31 0x00 4 0 0 [1, 2, 3, 4]) (fun d =>
      { d with upd := { d.upd with st := .opened }, flash := { d.flash with stagingLen := 8 } })) (fun t =>
      stageAt t.dev.flash.staging 6 == some 3 && t.dev.upd.written == 4) = true := by decide +kernel
/-- DEVICE_RESTART with N closes the module for commands and asks for the restart (R162). -/
theorem test_deviceRestart :
    after (.deviceRestart 64 0) (held (cmdOf 64 0x3F 0x00 0 0 (putB 256 11 true) (leBytes 4 1 ++ leBytes 4 0xB0070FC6)) id) (fun t =>
      t.dev.pwr.restart == some (.device 1) && t.dev.cp.closing) = true := by decide +kernel

/-! ### Acceptance, channels and records -/

/-- A header with VERSION 2, TAG 127 and SEQ 1, and the command that it makes with its GMAC tag. -/
def hdrBytes : List Byte := leBytes 32 (put 256 0 2#8 ||| put 256 16 127#8 ||| put 256 128 1#64 : BitVec 256).toNat
def sealedOf (h : List Byte) (seq ch : Nat) (s : State) : List Byte :=
  h ++ gmac s.dev.sec.key (leBytes 8 seq ++ [BitVec.ofNat 8 ch, 0, 0, 0]) h
def sealed (ch : Nat) (s : State) : List Byte := sealedOf hdrBytes 1 ch s

theorem gmac_length (k : BitVec 256) (iv aad : List Byte) : (gmac k iv aad).length = 16 := by
  simp [gmac, gcmTag, beBytes, leBytes]

/-- Channel 64 open, with a session. -/
def openState (ch : Nat) (f : Channel → Channel) : State :=
  upWith (fun d => ({ d with tb := { d.tb with frame := 100, ran := 100 } }.setChan ch (f { Channel.reset with
    cfg := Channel.reset.cfg ||| put 1024 5 6#5, st := .opened })).setPort 0 { Port.reset with link := true })

/-- A SEND packet for a channel of `openState`. -/
def packet (ch : Nat) (form : PktForm) (psn : BitVec 24) (data : List Byte) : SendPkt := ⟨false, 0, 4791, qpnOf ch, form, psn, data⟩

/-- The parts of such a message. -/
theorem sealedOf_parts (h : List Byte) (hh : h.length = 32) (seq ch : Nat) (s : State) :
    (sealedOf h seq ch s).length = 48 ∧ slice (sealedOf h seq ch s) 0 32 = h ∧ (sealedOf h seq ch s).take 32 = h ∧
      (sealedOf h seq ch s).drop 32 = gmac s.dev.sec.key (leBytes 8 seq ++ [BitVec.ofNat 8 ch, 0, 0, 0]) h := by
  refine ⟨by simp [sealedOf, gmac_length, hh], ?_, ?_, ?_⟩
  · simp only [slice, sealedOf, List.drop_zero]
    rw [List.take_append_of_le_length (by omega), List.take_of_length_le (by omega), hh]
    simp
  · rw [sealedOf, List.take_append_of_le_length (by omega), List.take_of_length_le (by omega)]
  · rw [sealedOf, List.drop_append_of_le_length (by omega), List.drop_of_length_le (by omega), List.nil_append]
theorem hdrBytes_length : hdrBytes.length = 32 := by decide +kernel

theorem witness_CommandAcceptance :
    let s := openState 64 id
    let msg := sealed 64 s
    let p := packet 64 .only 0 msg
    let hdr : BitVec 256 := leBits 256 (slice msg 0 32)
    let cmd : Cmd := ⟨64, hdr, (msg.drop 32).take (msg.length - 48), .waiting, s.dev.tb.frame, none, []⟩
    s.up ∧ s.dev.linkUpFor (s.dev.chan 64) = true ∧ (s.dev.port 0).rxOk (taggedOf 0x0800) = true ∧
      (s.dev.port 0).takes 0 (taggedOf 0x0800) = true ∧ s.dev.forChannel 64 p = true ∧ p.psn = (s.dev.chan 64).expPsn ∧
      packetOk (s.dev.chan 64) p none = true ∧ s.dev.cp.closing = false ∧ s.dev.sec.ending = none ∧
      (s.dev.chan 64).rx.getD [] = [] ∧ 48 ≤ msg.length ∧ msg.length ≤ 4096 ∧
      gmac s.dev.sec.key (leBytes 8 1 ++ [BitVec.ofNat 8 64, 0, 0, 0]) (msg.take (msg.length - 16)) =
        msg.drop (msg.length - 16) ∧ cmd.seq = 1 ∧ (s.dev.chan 64).lastSeq < cmd.seq ∧ (s.dev.chan 64).group = none ∧
      turnsAway s.dev 64 cmd msg = none ∧ cmd.a = false := by
  obtain ⟨hl, e, ht, hd⟩ := sealedOf_parts hdrBytes hdrBytes_length 1 64 (openState 64 id)
  have m : (openState 64 id).dev.chan 64 |>.mtu |> (decide <| 48 ≤ ·) := by decide +kernel
  refine ⟨by decide +kernel, by decide +kernel, by decide +kernel, by decide +kernel, by decide +kernel, by decide +kernel,
    ?_, by decide +kernel, by decide +kernel, by decide +kernel, by simp only [sealed]; omega, by simp only [sealed]; omega,
    ?_, ?_, ?_, by decide +kernel, ?_, ?_⟩
  · have r : ((openState 64 id).dev.chan 64).rx.isNone = true := by decide +kernel
    simpa [packetOk, packet, sealed, hl, r] using m
  · simp only [sealed]; rw [hl, ht, hd]
  · simp only [Cmd.seq, sealed, e]; decide +kernel
  · simp only [Cmd.seq, sealed, e]; decide +kernel
  · simp only [turnsAway, Cmd.tag, sealed, e, hl]; decide +kernel
  · simp only [Cmd.a, sealed]; rw [e]; decide +kernel
/-- The packets that come to nothing: dropped, for another channel, old, ahead, misplaced, kept, not genuine. -/
theorem witness_CommandAcceptance_refused :
    let s := openState 0 (fun c => { c with lastSeq := 5, expPsn := 3, group := none })
    let c := s.dev.chan 0
    let msg := hdrBytes ++ List.replicate 16 0
    s.up ∧ s.dev.linkUpFor c = true ∧ (s.dev.port 0).rxOk { taggedOf 0x0800 with fcsOk := false } = false ∧
      (s.dev.port 0).takes 0 ⟨some (0, 7), 0x0800, 128, true⟩ = false ∧
      s.dev.forChannel 0 (packet 1 .only 3 msg) = false ∧
      s.dev.forChannel 0 (packet 0 .only 3 msg) = true ∧ (c.expPsn - (packet 0 .only 2 msg).psn).toNat < 2 ^ 23 ∧
      2 ^ 23 ≤ (c.expPsn - (packet 0 .only 4 msg).psn).toNat ∧ packetOk c (packet 0 .last 3 msg) none = false ∧
      packetOk c (packet 0 .first 3 (List.replicate c.mtu 0)) none = true ∧ packetOk c (packet 0 .only 3 [1, 2]) none = true ∧
      packetOk c (packet 0 .only 3 msg) none = true ∧ msg.length = 48 ∧
      fld (leBits 256 (slice msg 0 32)) 128 64 = (1 : W64) ∧ ¬ c.lastSeq < (1 : W64) := by decide +kernel

/-- Channel 64 with an open group of two, whose first member waits in its slot. -/
def firstMem : Cmd := { cmdOf 64 0 0 0 0 (putB 256 12 true ||| put 256 120 2#8) [] with arrived := 90 }
def opened2 (aborted : Bool) : Group := ⟨0, 2, 1, false, 0, 1, aborted, 90⟩
def groupState (aborted : Bool) : State :=
  let s := openState 64 (fun c => { c with lastSeq := 1, group := some (opened2 aborted) })
  { s with dev := { s.dev with cp := { s.dev.cp with slots := [firstMem] } } }
/-- The second member; the same with a payload length that is not the message's; a member of another group. -/
def memBytes (len id : Nat) : List Byte := leBytes 32 (put 256 0 2#8 ||| putB 256 12 true ||| put 256 16 126#8 |||
  put 256 32 (BitVec.ofNat 16 len) ||| put 256 56 (BitVec.ofNat 8 id) ||| put 256 112 1#8 ||| put 256 120 2#8 |||
  put 256 128 2#64 : BitVec 256).toNat
/-- Such a message is whole, genuine and newer than the last. -/
theorem witness_CommandAcceptance_genuine (len id : Nat) (aborted : Bool) :
    let s := groupState aborted
    let msg := sealedOf (memBytes len id) 2 64 s
    msg.length = 48 ∧ leBits 256 (slice msg 0 32) = leBits 256 (memBytes len id) ∧
      gmac s.dev.sec.key (leBytes 8 2 ++ [BitVec.ofNat 8 64, 0, 0, 0]) (msg.take (msg.length - 16)) =
        msg.drop (msg.length - 16) := by
  obtain ⟨hl, e, ht, hd⟩ := sealedOf_parts (memBytes len id) (by simp [memBytes, leBytes_length]) 2 64 (groupState aborted)
  refine ⟨hl, by rw [e], ?_⟩
  rw [hl, ht, hd]
/-- What its header says to the open group: it is the next member, another group's member, or has a bad length. -/
theorem witness_CommandAcceptance_group :
    let s := groupState false
    let z := groupState true
    let cmd (len id : Nat) : Cmd := ⟨64, leBits 256 (memBytes len id), [], .waiting, s.dev.tb.frame, none, []⟩
    let msg : List Byte := List.replicate 48 0
    s.up ∧ (s.dev.chan 64).group = some (opened2 false) ∧ (z.dev.chan 64).group = some (opened2 true) ∧
      ((s.dev.inFlight 64).map (·.tag)).Nodup ∧ (cmd 0 0).seq = 2 ∧ (s.dev.chan 64).lastSeq < (cmd 0 0).seq ∧
      fld (cmd 0 0).hdr 0 8 = 2 ∧ (opened2 false).next (cmd 0 0) = true ∧ framesSince 90 s.dev < 16 ∧
      turnsAway s.dev 64 (cmd 0 0) msg = none ∧ turnsAway z.dev 64 (cmd 0 0) msg = none ∧
      (opened2 false).next (cmd 0 1) = false ∧ turnsAway s.dev 64 (cmd 0 1) msg = none ∧ (cmd 0 1).a = true ∧
      (cmd 0 1).firstMember = false ∧ turnsAway s.dev 64 (cmd 4 0) msg = some stBadLength ∧
      (opened2 false).next (cmd 4 0) = true ∧ turnsAway s.dev 64 (cmd 4 1) msg = some stBadLength ∧
      (opened2 false).next (cmd 4 1) = false ∧ (∃ m ∈ s.dev.inFlight 64, m.a = true ∧ m.groupId = (opened2 false).id ∧
        (opened2 false).firstSeq ≤ m.seq ∧ m.stage = .waiting ∧ s.dev.behindBarrier m = false) := by decide +kernel
/-- The first member of a group, and a member where no group is open. -/
theorem witness_CommandAcceptance_first :
    let s := openState 64 id
    let msg : List Byte := List.replicate 48 0
    let c : Cmd := { firstMem with hdr := firstMem.hdr + 2 }
    let e : Cmd := ⟨64, leBits 256 (memBytes 0 0), [], .waiting, s.dev.tb.frame, none, []⟩
    (s.dev.chan 64).group = none ∧ c.firstMember = true ∧ turnsAway s.dev 64 c msg = none ∧ e.a = true ∧
      e.firstMember = false ∧ turnsAway s.dev 64 e msg = none ∧ s.dev.endedHeld 64 [e.tag] ∧
      turnsAway s.dev 64 firstMem msg = some stState := by decide +kernel

def aGroup (since : Nat) : Group := ⟨3, 2, 1, false, 0, 1, false, since⟩
theorem witness_CommandTimeouts_group :
    (let s := openState 64 (fun c => { c with group := some (aGroup 84) })
     s.up ∧ (s.dev.chan 64).group = some (aGroup 84) ∧ 16 ≤ framesSince (aGroup 84).since s.dev ∧
       ((s.dev.inFlight 64).map (·.tag)).Nodup) ∧
    (let s := openState 64 (fun c => { c with group := some (aGroup 85) })
     (s.dev.chan 64).group = some (aGroup 85) ∧ framesSince (aGroup 85).since s.dev < 16) ∧
    ((openState 64 id).dev.chan 64).group = none := by decide +kernel
def waiting (stage : CmdStage) (r : Nat) : Cmd :=
  { cmdOf 64 0 0 0 0 (put 256 16 127#8) [] with stage := stage, ready := some r }
def withSlot (c : Cmd) : State :=
  { openState 64 id with dev := { (openState 64 id).dev with cp := { (openState 64 id).dev.cp with slots := [c] } } }
theorem witness_CommandTimeouts_limit :
    (let s := withSlot (waiting .waiting 84)
     s.up ∧ s.dev.slot 64 127 = some (waiting .waiting 84) ∧ 16 ≤ framesSince 84 s.dev) ∧
    (let s := withSlot (waiting .replying 84)
     s.up ∧ s.dev.slot 64 127 = some (waiting .replying 84) ∧ 16 ≤ framesSince 84 s.dev ∧
       (waiting .replying 84).stage = .replying ∧ s.dev.endedHeld 64 [127]) ∧
    (let s := withSlot (waiting .replying 85)
     s.up ∧ s.dev.slot 64 127 = some (waiting .replying 85) ∧ framesSince 85 s.dev < 16) := by decide +kernel

/-- A descriptor that may be opened: ring of 64 slots at 0, producer block after it, a host address. -/
def goodCfg : BitVec 1024 :=
  Channel.reset.cfg ||| put 1024 5 6#5 ||| put 1024 256 0x1000#64 ||| put 1024 64 1#24 ||| put 1024 512 0x0A000001#128
def closedState (cfg : BitVec 1024) : State := upWith (fun d =>
  (d.setChan 63 { Channel.reset with cfg := cfg }).setPort 0 { Port.reset with ip4 := 0x0A000002, link := true })
theorem witness_ChannelOpensAndCloses :
    (let s := closedState goodCfg
     s.up ∧ (s.dev.chan 63).st = .closed ∧ openOk (s.dev.chan 63) s.dev = true) ∧
    (let s := closedState Channel.reset.cfg
     (s.dev.chan 63).st = .closed ∧ openOk (s.dev.chan 63) s.dev = false) ∧
    ((openState 63 id).dev.chan 63).st = .opened ∧
    ((openState 63 (fun c => { c with st := .error })).dev.chan 63).st = .error := by decide +kernel

def req (psn last : BitVec 24) (k : ReqKind) : Req := ⟨psn, last, k, 0, 0, [], none⟩
theorem witness_HostAcknowledges :
    let r := req 0xFFFFFF 0 (.reply 127 0)
    let q := req 1 1 (.records 5)
    let s := openState 64 (fun c => { c with unacked := [r, q] })
    s.up ∧ (s.dev.chan 64).st = .opened ∧ (s.dev.chan 64).unacked = r :: [q] ∧ (r.lastPsn - r.psn).toNat < 2 ^ 23 ∧
      (∀ x ∈ [q], (r.lastPsn - r.psn).toNat < (x.lastPsn - r.psn).toNat) ∧
      (∀ x, [q].head? = some x → x.psn = r.lastPsn + 1) ∧ s.dev.slot 64 127 = none ∧
      (s.dev.port 0).rxOk (s.dev.ackHead 64) = true ∧ (s.dev.chan 64).portNo = 0 ∧
      (({ Port.reset with link := true, fill := 65536 } : Port).rxOk (s.dev.ackHead 64)) = false := by
  intro r q s
  refine ⟨by decide +kernel, by decide +kernel, by decide +kernel, by decide +kernel, by decide +kernel, ?_,
    by decide +kernel⟩
  intro x hx; cases hx; decide +kernel
theorem witness_HostAcknowledges_reply :
    (let c := waiting .replying 99
     let s := withSlot c
     s.dev.slot 64 127 = some c ∧ c.stage = .replying ∧ c.pastLimit s.dev = false ∧ c.seq = 1 ∧ c.ch = 64 ∧ c.tag = 127 ∧
       s.dev.endedHeld 64 [127]) ∧
    (let c := waiting .replying 84
     let s := withSlot c
     s.dev.slot 64 127 = some c ∧ c.stage = .replying ∧ c.pastLimit s.dev = true) := by decide +kernel

theorem witness_TransportErrors :
    let r := req 7 8 (.records 5)
    let s := openState 64 (fun c => { c with unacked := [r], rnrWait := true })
    let z := openState 64 (fun c => { c with unacked := [r], retries := 7, rnrTries := 7 })
    let w := { s with dev := s.dev.setEgress 0 ⟨[⟨3, ⟨0, 0, none, .bytes 0 []⟩, 64, some 64, some 7⟩], 0, 0, 0, none⟩ }
    s.up ∧ (s.dev.chan 64).st = .opened ∧ (s.dev.chan 64).unacked = r :: [] ∧ s.dev.linkUpFor (s.dev.chan 64) = true ∧
      (s.dev.chan 64).rnrTries < (s.dev.chan 64).rnrRetry ∧ (s.dev.chan 64).retries < (s.dev.chan 64).retryCnt ∧
      (s.dev.chan 64).rnrWait = true ∧ s.dev.unsent 64 = false ∧ z.dev.linkUpFor (z.dev.chan 64) = true ∧
      (z.dev.chan 64).rnrRetry ≤ (z.dev.chan 64).rnrTries ∧ (z.dev.chan 64).retryCnt ≤ (z.dev.chan 64).retries ∧
      (z.dev.chan 64).rnrWait = false ∧ z.dev.unsent 64 = false ∧ w.up ∧ w.dev.unsent 64 = true ∧
      (s.dev.port 0).rxOk (s.dev.ackHead 64) = true ∧ (s.dev.port 0).takes 0 (taggedOf 0x0800) = true ∧
      (s.dev.port 0).rxOk (taggedOf 0x0800) = true ∧ (s.dev.port 0).takes 0 ⟨some (0, 7), 0x0800, 128, true⟩ = false ∧
      (s.dev.port 0).rxOk ⟨some (0, 0), 0x0800, 60, true⟩ = false := by decide +kernel

def aRec : AttnRec := ⟨1, false, false, 0, 0, 0⟩
def aCompl : Completion := ⟨127, 0, 1, 0, 0, [], 0, 0, false, true⟩
theorem witness_RecordsToTheHost :
    (let s := openState 64 (fun c => { c with txq := [.record aRec] })
     let c := s.dev.chan 64
     s.up ∧ c.st = .opened ∧ s.dev.linkUpFor c = true ∧ s.dev.nextTurn = some 64 ∧ c.txq = .record aRec :: [] ∧
       c.nextSeq ≠ 0xFFFFFFFF ∧ c.overflowDue = false ∧ c.used + 33 < c.size ∧ s.dev.cp.restarts = []) ∧
    (let s := openState 64 (fun c => { c with txq := [.record aRec], drops := { Drops.none with total := 1 } })
     let c := s.dev.chan 64
     s.dev.nextTurn = some 64 ∧ c.overflowDue = true ∧ c.used + 32 < c.size) ∧
    (let s := openState 64 (fun c => { c with txq := [.record aRec], nextSeq := 31 })
     let c := s.dev.chan 64
     c.txq = .record aRec :: [] ∧ s.dev.nextTurn = some 64 ∧ c.overflowDue = false ∧ c.size ≤ c.used + 33 ∧
       s.dev.tr.evq.length ≤ 4000) ∧
    (let s := openState 64 (fun c => { c with txq := [.completion aCompl], nextSeq := 63 })
     let c := s.dev.chan 64
     c.txq = .completion aCompl :: [] ∧ s.dev.nextTurn = some 64 ∧ c.overflowDue = false ∧ c.used < c.size) ∧
    (let y := { cmdOf 64 0x3F 0 0 0 (put 256 16 127#8) (leBytes 4 1 ++ leBytes 4 0xB0070FC6) with stage := .finished }
     let s := withSlot y
     let s := { s with dev := { s.dev with cp := { s.dev.cp with restarts := [y] } } }
     s.dev.cp.restarts = [y] ∧ y.opcode = 0x3F ∧ y.tag = aCompl.tag.toNat ∧ s.dev.slot 64 127 = some y) := by
  decide +kernel
theorem witness_RecordsToTheHost_rest :
    (let s := openState 64 id
     s.dev.nextTurn = none ∧ s.dev.cp.restarts = []) ∧
    (let s := openState 64 (fun c => { c with txq := [.record aRec], nextSeq := 0xFFFFFFFF, consSeq := 0xFFFFFFFF, epoch := 65535 })
     let c := s.dev.chan 64
     s.dev.nextTurn = some 64 ∧ c.nextSeq = 0xFFFFFFFF ∧ c.epoch = 65535 ∧ c.overflowDue = false ∧ c.used + 33 < c.size) ∧
    (let s := openState 64 (fun c => { c with ackedSeq := 5 })
     let c := s.dev.chan 64
     c.ackedSeq ≠ c.pubSeq ∧ c.lastPub ≠ some s.dev.nowSample ∧ (∀ r ∈ c.unacked, r.kind.isPublish = false)) ∧
    (let c := (openState 64 id).dev.chan 64
     c.ackedSeq = c.pubSeq) ∧
    (let s := upWith id
     s.up ∧ s.dev.linkUpFor (s.dev.chan 64) = false ∧ s.dev.cp.restarts = []) := by
  decide +kernel

/-- The seventh retry spent, the next timeout puts the channel into ERROR with code 1 (R174, R196). -/
theorem test_retransmitTimeout :
    let s := openState 5 (fun c => { c with unacked := [req 7 8 (.records 5)], retries := 7 })
    after (.retransmitTimeout 5) s (fun t => (t.dev.chan 5).st == .error && (t.dev.chan 5).errCode == 1 &&
      (t.dev.chan 5).unacked == []) = true := by decide +kernel

/-! ### The safety island -/

/-- A ready island: supply good, seal value 0 but for the given bits. -/
def ready (v : BitVec 8) (f : Island → Island) : State :=
  islWith (f { Island.reset with st := .ready, vdd := 3300, tick := 1000, sealVal := v, sealNow := v, okA := true, okB := true })
def bothWith (f : IslCopy → IslCopy) (x : Island) : Island := { x with copyA := f x.copyA, copyB := f x.copyB }
def inWith (k : Nat) (v : SafeIn) (c : IslCopy) : IslCopy := { c with ins := tset SafeIn.reset c.ins k v }
def outWith (j : Nat) (v : SafeOut) (c : IslCopy) : IslCopy := { c with outs := tset SafeOut.reset c.outs j v }

theorem witness_IslandTickWork :
    State.reset.isl.sound = true ∧ State.reset.isl.st = .unpowered ∧
    (let x := (islWith { Island.reset with st := .init, vdd := 3300, tick := 500 }).isl
     x.sound = true ∧ x.st = .init ∧ 500 ≤ x.tick) ∧
    (let x := (islWith { Island.reset with st := .init, vdd := 3300, tick := 499 }).isl
     x.sound = true ∧ x.st = .init ∧ x.tick < 500) ∧
    (let x := (ready 0 (bothWith (inWith 7 { SafeIn.reset with st := .closed }))).isl
     x.sound = true ∧ x.st ≠ .unpowered ∧ x.st ≠ .init ∧ ((x.side false).inp 7).st = .closed ∧
       ((x.side true).inp 0).st = .opened ∧ 7 ∈ x.mapped 3) := by decide +kernel

theorem witness_StopPathActsAtOnce :
    (let x := (ready 0x10 id).isl
     7 ∈ x.mapped 3 ∧ 0 ∉ x.mapped 3 ∧ x.maskA = false ∧ x.maskB = false ∧ x.manual = false) ∧
      (ready 0x04 id).isl.manual = true := by decide +kernel

theorem witness_TestPulses :
    (let x := (ready 8 id).isl
     x.pulsesOn = true ∧ x.st ≠ .unpowered ∧ x.lastA = none) ∧
    (let x := (ready 8 (fun x => { x with st := .init })).isl
     x.pulsesOn = true ∧ x.st = .init ∧ x.lastA = none) ∧
    (let x := (ready 8 (fun x => { x with lastA := some 900 })).isl
     x.lastA = some 900 ∧ 900 < x.tick ∧ (x.tick - 900) % 100 = 0) ∧
    (let x := (ready 8 (fun x => { x with lastA := some 950 })).isl
     (x.tick - 950) % 100 = 50 ∧ x.lastB ≠ some x.tick) ∧
    (ready 0 id).isl.pulsesOn = false ∧
    (let x := (ready 8 (fun x => { bothWith (inWith 3 { SafeIn.reset with st := .closed, stuckARun := 1 }) x with
       checkA := true, maskA := true, lastA := some 1000 })).isl
     x.checkA = true ∧ x.checkB = false ∧ bit (0xFF : BitVec 8) 3 = true ∧ x.ovlA = false ∧
       1 ≤ ((x.side true).inp 3).stuckARun) ∧
    (let x := (ready 8 (fun x => { bothWith (inWith 3 { SafeIn.reset with st := .closed, chB := true, crossARun := 1 }) x with
       checkA := true, maskA := true, lastA := some 1000 })).isl
     x.checkA = true ∧ x.checkB = false ∧ bit (0xF7 : BitVec 8) 3 = false ∧ ((x.side false).inp 3).chB = true ∧
       1 ≤ ((x.side false).inp 3).crossARun) ∧
    (let x := (ready 8 (fun x => { bothWith (inWith 3 { SafeIn.reset with st := .closed, stuckBRun := 1 }) x with
       checkB := true, maskB := true, lastB := some 1000 })).isl
     x.checkB = true ∧ bit (0xFF : BitVec 8) 3 = true ∧ x.ovlB = false ∧ 1 ≤ ((x.side true).inp 3).stuckBRun) ∧
    (let x := (ready 8 (fun x => { bothWith (inWith 3 { SafeIn.reset with st := .closed, chA := true, crossBRun := 1 }) x with
       checkB := true, maskB := true, lastB := some 1000 })).isl
     x.checkB = true ∧ bit (0xF7 : BitVec 8) 3 = false ∧ ((x.side false).inp 3).chA = true ∧
       1 ≤ ((x.side false).inp 3).crossBRun ∧ ((x.side false).inp 2).stuckARun < 2 ∧ ((x.side false).inp 2).crossARun < 2) ∧
    ((ready 8 id).isl.checkA = false ∧ (ready 8 id).isl.checkB = false ∧ (ready 8 id).isl.maskA = false ∧
      (ready 8 id).isl.lastA = none) ∧
    ((ready 8 (fun x => { x with maskB := true })).isl.maskB = true ∧ (ready 8 id).isl.st ≠ .unpowered) ∧
    (let v := ((ready 8 id).isl.side false).inp 3
     bit (0 : BitVec 8) 3 = false ∧ bit (8 : BitVec 8) 3 = true ∧ v.stuckBRun < 2 ∧ v.crossBRun < 2) := by decide +kernel

theorem witness_IslandLatches_input :
    (let s := ready 0 (bothWith (inWith 7 { SafeIn.reset with st := .discrepant, c := 500 }))
     ((s.isl.side true).inp 7).st = .discrepant ∧ s.isl.discTicks ≤ ((s.isl.side true).inp 7).c) ∧
    (let s := ready 0 (bothWith (inWith 7 { SafeIn.reset with st := .fault, clearRun := 1000 }))
     ((s.isl.side false).inp 7).st = .fault ∧ 1000 ≤ ((s.isl.side false).inp 7).clearRun) ∧
    (let s := ready 0 (bothWith (fun c => { c with enFault := true, enClear := 1000 }))
     (s.isl.side false).enFault = true ∧ 1000 ≤ (s.isl.side false).enClear) := by decide +kernel
def outSt (v : SafeOut) : SafeOut := ((ready 0xC0 (bothWith (outWith 3 v))).isl.side true).outp 3
theorem witness_IslandLatches_test :
    (let v := outSt { SafeOut.reset with st := .testing 1, hs := true, ticks := 20 }
     20 ≤ v.ticks ∧ v.st = .testing 1 ∧ v.coilRun = 0) ∧
    (let v := outSt { SafeOut.reset with st := .testing 1, hs := true, ticks := 20, coilRun := 3 }
     20 ≤ v.ticks ∧ v.st = .testing 1 ∧ v.coilRun ≠ 0) ∧
    (let v := outSt { SafeOut.reset with st := .testing 2, ls := true, ticks := 20 }
     20 ≤ v.ticks ∧ v.st = .testing 2 ∧ v.coilRun = 0) ∧
    (let v := outSt { SafeOut.reset with st := .testing 2, ls := true, ticks := 20, coilRun := 1 }
     20 ≤ v.ticks ∧ v.st = .testing 2 ∧ v.coilRun ≠ 0) ∧
    (let v := outSt { SafeOut.reset with st := .testing 3, ticks := 20, sbf := true }
     20 ≤ v.ticks ∧ v.st = .testing 3 ∧ v.sbf = true) ∧
    (let v := outSt { SafeOut.reset with st := .testing 3, ticks := 20 }
     20 ≤ v.ticks ∧ v.st = .testing 3 ∧ v.sbf = false) := by decide +kernel
theorem witness_IslandLatches_brake :
    (let v := outSt { SafeOut.reset with st := .releasing, hs := true, ls := true, ticks := 3000, sbf := true }
     v.st = .releasing ∧ 3000 ≤ v.ticks ∧ v.sbf = true ∧ v.sbiMv.toNat < 100 ∧ (ready 0xC0 id).isl.coilCheck = true) ∧
    (let v := outSt { SafeOut.reset with st := .on, hs := true, ls := true, fbRun := 10, coilRun := 10 }
     v.st = .on ∧ 10 ≤ v.fbRun ∧ 10 ≤ v.coilRun) ∧
    (let v := outSt { SafeOut.reset with st := .on, hs := true, ls := true, fbRun := 9, coilRun := 10 }
     v.st = .on ∧ v.fbRun < 10 ∧ 10 ≤ v.coilRun ∧ (ready 0xC0 id).isl.coilCheck = true) ∧
    (let v := outSt { SafeOut.reset with ticks := 500, sbiMv := 20 }
     v.st = .off ∧ v.ticks = 500 ∧ 20 ≤ v.sbiMv.toNat) ∧
    (let v := outSt { SafeOut.reset with ticks := 3000 }
     v.st = .off ∧ v.ticks = 3000 ∧ v.sbf = false) ∧
    (let v := outSt { SafeOut.reset with st := .releasing, hs := true, ls := true, ticks := 2999 }
     v.st = .releasing ∧ v.ticks < 3000) ∧
    (let v := outSt { SafeOut.reset with st := .fault, clearRun := 1000 }
     v.st = .fault ∧ 1000 ≤ v.clearRun) := by decide +kernel

theorem witness_IslandStates :
    State.reset.isl.st = .unpowered ∧ (ready 0 id).isl.st = .ready ∧
    (let x := (islWith { Island.reset with st := .init, vdd := 3000, tick := 500 }).isl
     x.st = .init ∧ x.tick ≤ 500 ∧ sealReserved x.sealVal = false ∧ 3000 ≤ x.vdd ∧ x.vdd ≤ 3600 ∧
       x.maskA = false ∧ x.maskB = false ∧ x.copyA = x.copyB) ∧
    ((ready 0 id).isl.tick ≠ 0 ∧ (ready 0 id).isl.tick % 1000 = 0) ∧
    ((1 : BitVec 8) &&& ~~~0 ≠ 0 ∧ (1 : BitVec 8) &&& ~~~1 = 0 ∧ (1 : BitVec 8) &&& 1 ≠ (ready 0 id).isl.sealVal ∧
      (0 : BitVec 8) &&& 0 = (ready 0 id).isl.sealVal ∧ sealReserved (ready 0 id).isl.sealVal = false) ∧
    (let s := islWith { Island.reset with st := .fault, vdd := 3300, cause := 4 }
     (Instr.islandOscFault).isIsland = true ∧ after .islandOscFault s (fun _ => true) = true ∧ s.isl.st = .fault) := by
  decide +kernel

theorem witness_IslandLink :
    (let s := upWith (fun d => { d with diag := { d.diag with en := true, linkOk := true, stale := 3 } }.setPoint 13
         { Point.reset with ptype := 4, srcKind := 6, srcIndex := 13 })
     s.up ∧ s.dev.diag.linkOk = true ∧ 3 ≤ s.dev.diag.stale ∧ s.dev.diag.en = true ∧
       (s.dev.point (s.dev.diag.ptBase.toNat + 13)).subst = false ∧
       (s.dev.point (s.dev.diag.ptBase.toNat + 13)).quarantined = false ∧
       s.dev.produces 6 13 (s.dev.diag.ptBase.toNat + 13) = true) ∧
    (let s := upWith (fun d => { d with diag := { d.diag with linkOk := true, stale := 2 } })
     s.up ∧ s.dev.diag.stale < 3) := by decide +kernel

/-- A discrepancy that lasts 500 ticks latches the input (R442). -/
theorem test_discrepancyTimeout :
    after (.discrepancyTimeout 7) (ready 0 (bothWith (inWith 7 { SafeIn.reset with st := .discrepant, c := 500 }))) (fun t =>
      (t.isl.copyA.inp 7).st == .fault && (t.isl.copyB.inp 7).fault == 1) = true := by decide +kernel
/-- The oscillator fault opens every switch and lowers SAFE_OK (R454, R455). -/
theorem test_islandOscFault :
    after .islandOscFault (ready 0 (bothWith (outWith 0 { SafeOut.reset with st := .on, hs := true, ls := true }))) (fun t =>
      t.isl.st == .fault && t.isl.cause == 4 && !t.isl.okA && !t.isl.hsPin 0 && !t.isl.lsPin 0) = true := by decide +kernel
/-- Below 2.8 V the island loses everything; at 2.9 V it starts (R617). -/
theorem test_safeVddChange :
    after (.safeVddChange 2900 5) State.reset (fun t => t.isl.st == .init && t.isl.sealVal == 5) = true ∧
      after (.safeVddChange 2799 5) (ready 0 id) (fun t => t.isl.st == .unpowered) = true := by decide +kernel

/-! ### The frame schedule and the timebase -/

def quiet : SampleIn := ⟨⟨[], [], []⟩, none, [], false, []⟩
def cold : FrameIn := ⟨⟨[], [], []⟩, none, [], 25⟩
def atSample (n : Nat) : State := upWith (fun d => { d with tb := { d.tb with sample := n } })

theorem witness_SampleBoundaries :
    (atSample 30).up ∧ (atSample 30).dev.tb.sample < 31 ∧ (atSample 31).up ∧ 31 ≤ (atSample 31).dev.tb.sample := by
  decide +kernel
/-- Task 7 runs one block with output point 9 in every frame; loop 5 is on; channel 1 regulates to point 11. -/
def busy (f : Dev → Dev) (n : Nat) : State :=
  let task : Task := { Task.reset with st := .running, cfg := Task.reset.cfg ||| putB 512 108 true ||| put 512 203 1#18 }
  let loop : Loop := { Loop.reset with st := .auto, cfg := Loop.reset.cfg ||| putB 1024 220 true ||| put 1024 333 10#17 }
  upWith (fun d => f ((({ d with
    tb := { d.tb with sample := n }
    lg := { d.lg with banks := tset 0 [] 0 (put 128 122 1#6 ||| put 128 119 7#3 ||| put 128 102 3#17 ||| put 128 5 9#17 |||
      putB 128 4 true) } }.setTask 7 task).setLoop 5 loop).setPoint 9 { Point.reset with
        ptype := 1, srcKind := 2, srcIndex := 0xE000003 } |>.setPoint 10 { Point.reset with ptype := 2, srcKind := 3, srcIndex := 5 }))
def at' (s : State) : Dev := s.dev.fresh0.atPhase quiet
theorem witness_SampleBoundaries_b :
    let b := at' (busy id 2)
    (busy id 2).up ∧ b.joining = false ∧ quiet.cuts = [] ∧ b.released 7 = true ∧ (b.task 7).pend = false ∧
      (∀ u < 8, u ≠ 7 → b.released u = false) ∧ (progIids (b.program 7 (b.task 7).bank)).Nodup ∧
      progOuts (b.program 7 (b.task 7).bank) = [9] ∧ (∀ u < 8, (b.task u).pend = false) := by decide +kernel
theorem witness_SampleBoundaries_c :
    let b := at' (busy id 14)
    b.joining = false ∧ b.enabledLoops false = [5] ∧ (b.enabledLoops false).Nodup ∧
      reached (stepLimit quiet.reach 1) (b.enabledLoops false) = [5] ∧
      unreached (stepLimit (some (1, 0)) 1) (b.enabledLoops false) ≠ [] := by decide +kernel
theorem witness_SampleBoundaries_joining :
    (at' (busy (fun d => { d with ply := { d.ply with role := .joining } }) 2)).joining = true := by decide +kernel
theorem witness_SampleBoundaries_d :
    let img : List OutVal := [⟨9, 1, 0, 0⟩]
    let b := at' (busy (fun d => (d.modTask 7 (fun k => { k with scan := some (.done img) })).modLoop 5 (fun l => { l with
      out := some ⟨7, 0, 0, 0⟩ }) |>.setCloop 1 { CLoop.reset with
        cfg := CLoop.reset.cfg ||| putB 2048 0 true ||| put 2048 8 2#2 ||| put 2048 303 9#17 }) 20)
    (b.task 7).scan = some (.done img) ∧ (b.task 7).memDue = none ∧ (b.task 7).mark = none ∧ b.imageHas 7 9 = true ∧
      (b.task 7).dropPts = [] ∧ 5 ∈ b.enabledLoops false ∧ (b.loop 5).out = some ⟨7, 0, 0, 0⟩ ∧
      b.loopOwns 5 (b.loop 5).outPt = true ∧ (b.cloop 1).isOutput = true ∧ b.fastDriven 1 = false ∧
      (b.point 9).subst = false ∧ (b.point 9).quarantined = false ∧ quiet.reach = none := by decide +kernel
theorem witness_SampleBoundaries_e :
    (let b := at' (busy (fun d => { d with rcd := { d.rcd with
       cfg := 0, trigA := tset 0 [] 15 (putB 32 31 true ||| put 32 28 1#3 ||| put 32 0 10#17), trigRef := tset none [] 15 (some (5, 0, 0)) } }) 21)
     b.trigEn 15 = true ∧ (∀ u < 16, u ≠ 15 → b.trigEn u = false) ∧ tget none b.rcd.trigRef 15 = some (5, 0, 0) ∧
       trigHolds (fld (tget 0 b.rcd.trigA 15) 28 3).toNat (5, 0, 0) ((b.point (b.trigPoint 15)).value, (b.point (b.trigPoint 15)).quality,
         (b.point (b.trigPoint 15)).detail) = true ∧ b.rcd.intake = none ∧ bit b.rcd.cfg 17 = false ∧ b.ply.pairId = 0 ∧
       b.ply.sweep = none ∧ b.sec.ending = none ∧ b.rcd.stored < 32768 ∧ (b.rcd.at_ b.rcd.newest).source ≠ 1 ∧
       b.delayingAlarms = [] ∧ b.notices = [] ∧ b.tr.chans = []) ∧
    (let b := at' (busy (fun d => d.setAlarm 3 { Alarm.reset with levels := tset .normal [] 2 (.delaying 1) }) 21)
     b.delayingAlarms.Nodup ∧ (b.alarm 3).level 2 = .delaying 1 ∧ b.alarmQuality 3 ≠ 2 ∧ b.alarmQuality 3 ≠ 3) ∧
    (let b := at' (busy (fun d => d.setSub 4 { Sub.reset with en := true, pending := true }) 21)
     tblWf Sub.reset b.ps.subs = true ∧ (b.sub 4).pending = true ∧ (b.sub 4).holdLeft = 0) ∧
    (let b := at' (busy (fun d => { d with rcd := { d.rcd with cfg := putB 32 17 true, next := 2, copied := 1 } }) 21)
     bit b.rcd.cfg 17 = true ∧ (∀ t < 16, b.trigEn t = false) ∧ b.rcd.copied ≠ b.rcd.next ∧
       (b.rcd.at_ ((b.rcd.copied - 1).toNat % 32768)).uncopied = false) ∧
    (let b := at' (busy (fun d => { d with ply := { d.ply with pairId := 7, latch := false, role := .leading } }.setPoint 12
       { Point.reset with mirrored := true, mirPending := true }) 21)
     b.ply.pairId ≠ 0 ∧ b.ply.latch = false ∧ b.mirrorDue = [12]) := by decide +kernel
theorem witness_SampleBoundaries_fast :
    let c := (busy (fun d => d.setLoop 2048 { Loop.reset with st := .auto, cfg := Loop.reset.cfg ||| putB 1024 220 true }) 6).dev.fresh0.atSample quiet
    c.joining = false ∧ c.enabledLoops true = [2048] ∧ tblWf Loop.reset c.lp.loops = true := by decide +kernel
/-- The conversions of a strand at a sample: a trip, an overvoltage, neither. -/
theorem witness_SampleBoundaries_lines :
    let l : Line := { Line.reset with st := .on, gate := true }
    l.powered = true ∧ (l.tripMa : Int) ≤ 65535 ∧ (100 : Int) < l.tripMa ∧ l.overRun < 100 ∧ (60000 : Int) < 60001 := by
  decide +kernel
theorem witness_FrameStarts_commits :
    let cy : Cycle := { frame := 0, cal := 0, scfg := 0, nodes := [(5, put 256 38 1#1 ||| put 256 45 1#6 ||| put 256 57 20#17)]
                        left := 0, sent := none, heard := none, results := [(5, .data [77] 0)], oks := [], began := 0, txEnd := 0
                        trails := false }
    let s := busy (fun d => { d with diag := { d.diag with en := true, linkOk := true, ptBase := 40 } }.setStrand 2
      { Strand.reset with done := some cy } |>.setNode (nodeKey 2 5) { Node.reset with
        cfg := put 256 38 1#1 ||| put 256 45 1#6 ||| put 256 57 20#17 } |>.setPoint 20 { Point.reset with
        ptype := 2, srcKind := 1, srcIndex := BitVec.ofNat 28 (nodeSource (nodeKey 2 5) 0) } |>.setPoint 53 { Point.reset with
        ptype := 2, srcKind := 6, srcIndex := 13 } |>.setCloop 3 { CLoop.reset with
        cfg := CLoop.reset.cfg ||| putB 2048 0 true ||| put 2048 8 1#2 ||| put 2048 13 1#3 ||| put 2048 286 30#17, ready := true }
        |>.setPoint 30 { Point.reset with ptype := 2, srcKind := 5, srcIndex := 48 } |>.setMchan 1 { MChan.reset with
        cfg := MChan.reset.cfg ||| putB 512 0 true, due := tset none [] 0 (some ⟨7, 0, 0, 0⟩) } |>.setPoint 31 { Point.reset with
        ptype := 2, srcKind := 4, srcIndex := 16 }) 31
    let b := s.dev.fresh0.atFrame cold s.isl.snapshot (Memory.read s.sram)
    s.up ∧ s.dev.cp.running = none ∧ cold.reach = none ∧ (b.strand 2).done = some cy ∧ (cy.results.map (·.1)).Nodup ∧
      (b.node (nodeKey 2 5)).cfg = tget 0 cy.nodes 5 ∧ nodeIn (tget 0 cy.nodes 5) = 1 ∧
      b.produces 1 (nodeSource (nodeKey 2 5) 0) 20 = true ∧ (b.cloop 3).en = true ∧ (b.cloop 3).ready = true ∧
      (0, 30) ∈ (b.cloop 3).quantPoints ∧ b.produces 5 48 30 = true ∧ b.diag.en = true ∧ b.diag.linkOk = true ∧
      b.diag.stale < 3 ∧ b.produces 6 13 53 = true ∧ b.enabledLoops false = [5] ∧ b.joining = false := by decide +kernel
theorem witness_FrameStarts :
    (atSample 31).up ∧ (atSample 31).dev.tb.sample = 31 ∧ (atSample 31).dev.cp.running = none ∧ cold.temp < 145 ∧ 155 ≤ ({ cold with temp := 155 } : FrameIn).temp := by
  decide +kernel

def cutState : State := upWith (fun d => { d with tb := { d.tb with sample := 31, cut := [.f] } })
def strobeAt (p : Phase) (cut : List Phase) : State :=
  upWith (fun d => { d with tb := { d.tb with sample := phaseEnd p, cut := cut } })
theorem witness_ScheduleEvents_strobe :
    (∀ p ∈ [Phase.a, .b, .c, .d, .e, .f], ∀ cut ∈ [[], [p]],
      (strobeAt p cut).up ∧ (strobeAt p cut).dev.tb.sample = phaseEnd p ∧ (strobeAt p cut).dev.cp.running = none ∧
        (strobeAt p cut).dev.lp.fastDue = none) ∧
    (Phase.c ∈ (strobeAt .c [.c]).dev.tb.cut ∧ Phase.c ∉ (strobeAt .c []).dev.tb.cut) ∧
    (strobeAt .a []).dev.tb.sample ≠ phaseEnd .b ∧
    (let s := upWith (fun d => { d with cp := { d.cp with running := some (false, none) } })
     s.up ∧ s.dev.cp.running ≠ none) := by decide +kernel
theorem witness_ScheduleEvents_latch :
    (let s := upWith (fun d => { d with ply := { d.ply with latch := false, sinceStroke := 3 } })
     s.up ∧ s.dev.ply.latch = false ∧ 3 ≤ s.dev.ply.sinceStroke) ∧
    (let s := upWith (fun d => { d with ply := { d.ply with latch := false, sinceStroke := 2 } })
     s.dev.ply.sinceStroke < 3) ∧
    (let l : Loop := { Loop.reset with st := .auto, cfg := Loop.reset.cfg ||| putB 1024 220 true ||| putB 1024 224 true ||| put 1024 221 6#3 }
     let s := upWith (fun d => ({ d with lp := { d.lp with fastDue := some (7, [2111]) } }.setLoop 2111 l).setCloop 6 { CLoop.reset with
       cfg := CLoop.reset.cfg ||| putB 2048 0 true ||| put 2048 8 2#2 })
     s.up ∧ s.dev.lp.fastDue = some (7, [2111]) ∧ (s.dev.enabledLoops true).Nodup ∧ s.dev.enabledLoops true = [2111] ∧
       l.drives = some 6 ∧ (s.dev.cloop 6).isOutput = true) ∧ (upWith id).dev.lp.fastDue = none := by decide +kernel

def tbWith (f : Timebase → Timebase) (m : Option Meas) : State :=
  upWith (fun d => { d with tb := f d.tb, net := { d.net with meas := m } })
theorem witness_TimebaseStates :
    (let s := tbWith (fun b => { b with alignEn := true, tb := .acquiring, goodRun := 7, frame := 10 }) (some ⟨-1000, some 12, 0⟩)
     s.up ∧ s.dev.net.meas = some ⟨-1000, some 12, 0⟩ ∧ s.dev.tb.alignEn = true ∧ s.dev.tb.tb = .acquiring ∧
       7 ≤ s.dev.tb.goodRun ∧ s.dev.tb.lockedOnce = false ∧ s.dev.tb.stepEn = true ∧
       s.dev.tb.frame.toNat + 1 < (12 : W64).toNat ∧
       Meas.targetNow ⟨-1000, some 12, 0⟩ s.dev = some 12) ∧
    (let b := (tbWith (fun b => { b with tb := .locked, sinceMeas := 4000, corrHist := [3, -4] }) none).dev.tb
     4000 ≤ b.sinceMeas ∧ b.tb = .locked ∧ b.corrHist ≠ []) ∧
    (tbWith id (some ⟨0, none, 0⟩)).dev.tb.alignEn = false ∧ (tbWith id none).dev.net.meas = none ∧
    (tbWith (fun b => { b with alignEn := true }) (some ⟨0, none, 0⟩)).dev.tb.tb = .free ∧
    (tbWith (fun b => { b with alignEn := true, tb := .locked }) (some ⟨0, none, 0⟩)).dev.tb.tb = .locked ∧
    (tbWith (fun b => { b with alignEn := true, tb := .holdover }) (some ⟨0, none, 0⟩)).dev.tb.tb = .holdover ∧
    (let b := (tbWith (fun b => { b with tb := .acquiring, sinceMeas := 4000 }) none).dev.tb
     4000 ≤ b.sinceMeas ∧ b.tb = .acquiring) ∧
    (tbWith id none).dev.tb.sinceMeas < 4000 := by decide +kernel

/-- Eight measurements of at most 1 µs lock the timebase and make the alignment step due (R45, R46). -/
theorem test_timebaseMeasurement :
    after .timebaseMeasurement
      (tbWith (fun b => { b with alignEn := true, tb := .acquiring, goodRun := 7, frame := 10 }) (some ⟨-1000, some 12, 0⟩))
      (fun t => t.dev.tb.tb == .locked && t.dev.tb.stepDue == some 12 && t.dev.net.meas.isNone) = true := by decide +kernel
/-- A cut phase F sets bit 5 of FRAME_OVR (R50). -/
theorem test_windowEndStrobe :
    after (.windowEndStrobe ⟨.f, 9, [], []⟩) cutState (fun t => t.dev.tb.ovr == 0x20 && tget 0 t.dev.tb.ovrCnt 5 == 1 &&
      tget 0 t.dev.tb.peak 5 == 9) = true := by decide +kernel
/-- A junction of 155 °C resets the main domain (R633). -/
theorem test_frameStart_hot :
    after (.frameStart { cold with temp := 155 }) (atSample 31) (fun t => !t.dev.isMain && t.dev.pwr.hot) = true := by
  decide +kernel
/-- A cold frame starts: sample 0, the next number (R21, R41). -/
theorem test_frameStart :
    after (.frameStart cold) (atSample 31) (fun t => t.dev.tb.sample == 0 && t.dev.tb.frame == 1) = true := by decide +kernel

/-! ### Strand controllers -/

/-- Node 254 with two inputs at points 100 and 101. -/
def ncfg : BitVec 256 := putB 256 38 true ||| put 256 45 2#6 ||| put 256 57 100#17 ||| put 256 160 0x55#32
def someCycle (sent : Option (BitVec 8 × List Byte)) (nodes : List (Nat × BitVec 256)) : Cycle :=
  ⟨0, 0, Strand.reset.cfg, nodes, 1, sent, none, [], [], 0, 0, false⟩
def strandState (role : Role) (cy : Option Cycle) (n : Node) : State := upWith (fun d =>
  ((((({ d with ply := { d.ply with role := role, latch := false } }.setStrand 15 { Strand.reset with
      configured := true, cycle := cy }).setLine 15 { Line.reset with st := .on, gate := true }).setNode (nodeKey 15 254) n).setPoint
      100 { Point.reset with ptype := 2 }).setPoint 101 (if nodeEn n.cfg then
        { Point.reset with ptype := 2, srcKind := 1, srcIndex := BitVec.ofNat 28 (nodeSource (nodeKey 15 254) 1) }
      else { Point.reset with ptype := 2 })))
def nodeOn (st : NodeSt) (miss : BitVec 8) : Node := { Node.reset with cfg := ncfg, st := st, miss := miss }

/-- A line that stays still. -/
def noLine : LineRx := ⟨false, []⟩
def copyBody : List Byte := leBytes 8 (put 64 0 0x11#8 ||| putB 64 8 true ||| put 64 48 15#4 : BitVec 64).toNat
theorem witness_StrandCopies_start :
    (let s := strandState .leading none Node.reset
     s.up ∧ (s.dev.strand 15).cycle = none ∧ s.dev.tb.sample = 0 ∧
       s.dev.tb.frame.toNat % cycFr (bitRate (s.dev.strand 15).cfg) = 0 ∧ s.dev.ply.role = .leading ∧
       s.dev.transmits 15 = true) ∧
    (let s := strandState .trailing none Node.reset
     s.dev.ply.role ≠ .solo ∧ s.dev.ply.role ≠ .leading) ∧
    (strandState .solo (some (someCycle none [])) Node.reset).dev.tb.sample = 0 ∧
    ((strandState .solo (some (someCycle none [])) Node.reset).dev.strand 15).cycle.isSome = true := by decide +kernel
theorem witness_StrandCopies_trailing :
    let cy := { someCycle none [] with trails := true }
    let s := strandState .trailing (some cy) Node.reset
    let p := strandState .leading (some cy) Node.reset
    s.up ∧ (s.dev.strand 15).cycle = some cy ∧ cy.sent = none ∧ cy.trails = true ∧
      s.dev.ply.role = .trailing ∧ s.dev.transmits 15 = true ∧ s.dev.ply.firstCopy = none ∧
      (p.dev.strand 15).cycle = some cy ∧ p.dev.ply.role = .leading ∧ p.dev.transmits 15 = true ∧
      (someCycle none []).trails = false ∧ (strandState .solo none Node.reset).dev.ply.role = .solo := by decide +kernel
theorem witness_StrandCopies_twin :
    let cy := someCycle (some (0, copyBody)) []
    let s := strandState .leading (some cy) Node.reset
    let rx := lineSignal true (strandFrame copyBody)
    s.up ∧ (s.dev.strand 15).cycle = some cy ∧ cy.heard = none ∧ s.dev.ply.role = .leading ∧
      frameBody (rxSymbols rx) = some copyBody ∧ copyParse copyBody = some (leBits 64 copyBody, []) ∧
      bit (leBits 64 copyBody) 8 = true ∧ fld (leBits 64 copyBody) 48 4 = BitVec.ofNat 4 15 ∧
      frameBody (rxSymbols noLine) = none ∧ (strandState .solo none Node.reset).dev.ply.role = .solo := by decide +kernel

def replyBody (idReply : Bool) : List Byte :=
  leBytes 4 (put 32 0 0x12#8 ||| put 32 8 254#8 ||| putB 32 24 true ||| putB 32 26 idReply : BitVec 32).toNat ++
    leBytes 16 (put 128 0 2#6 ||| put 128 32 0x55#32 : BitVec 128).toNat
def replyRx (idReply : Bool) : LineRx := lineSignal false (strandFrame (replyBody idReply))
theorem witness_StrandReplies_miss :
    let cy := someCycle none [(254, ncfg)]
    let s := strandState .solo (some cy) (nodeOn .active 7)
    s.up ∧ (s.dev.strand 15).cycle = some cy ∧ (∀ r ∈ cy.results, r.1 ≠ 254) ∧
      (254, (s.dev.node (nodeKey 15 254)).cfg) ∈ cy.nodes ∧ (s.dev.node (nodeKey 15 254)).miss.toNat < lostMiss Strand.reset.cfg ∧
      lostMiss (s.dev.strand 15).cfg ≤ (satAdd (s.dev.node (nodeKey 15 254)).miss 1).toNat := by decide +kernel
theorem witness_StrandReplies_frame (idReply : Bool) :
    let cy := someCycle none [(254, ncfg)]
    let s := strandState .solo (some cy) (nodeOn .active 7)
    let h : BitVec 32 := leBits 32 ((replyBody idReply).take 4)
    slotAt (bitRate cy.scfg) cy.nodes 520 = some 254 ∧ slotAt (bitRate cy.scfg) cy.nodes 0 = none ∧ (s.dev.node (nodeKey 15 254)).cfg = tget 0 cy.nodes 254 ∧
      frameBody (rxSymbols (replyRx idReply)) = some (replyBody idReply) ∧ frameBody (rxSymbols noLine) = none ∧
      fld h 0 4 = 2 ∧ fld h 4 4 = 1 ∧ (fld h 8 8).toNat = 254 ∧ bit h 26 = idReply ∧ (replyBody idReply).length = 20 ∧
      (replyBody idReply).length = 4 + 4 * nodeIn ncfg + 8 := by
  cases idReply <;> decide +kernel

theorem witness_StrandReplies_other :
    (let body := leBytes 4 (put 32 0 0x12#8 ||| put 32 8 253#8 : BitVec 32).toNat ++ List.replicate 16 0
     let h : BitVec 32 := leBits 32 (body.take 4)
     frameBody (rxSymbols (lineSignal true (strandFrame body))) = some body ∧ fld h 0 4 = 2 ∧ fld h 4 4 = 1 ∧
       body.length = 4 + 4 * nodeIn ncfg + 8 ∧ (fld h 8 8).toNat ≠ 254) ∧
    (frameBody (rxSymbols (lineSignal true (strandFrame copyBody))) = some copyBody ∧
      fld (leBits 32 (copyBody.take 4)) 0 4 ≠ (2 : BitVec 4)) := by decide +kernel

theorem witness_NodeEntries :
    (let s := strandState .solo none { Node.reset with cfg := ncfg &&& ~~~(putB 256 38 true) }
     s.up ∧ nodeEn (s.dev.node (nodeKey 15 254)).cfg = false ∧
       writeAdmitted (entryCmd 0x11 (nodeKey 15 254) 32 ncfg.toNat) s) ∧
    (let s := strandState .solo none (nodeOn .active 0)
     s.up ∧ nodeEn (s.dev.node (nodeKey 15 254)).cfg = true ∧
       writeAdmitted (entryCmd 0x11 (nodeKey 15 254) 32 (ncfg &&& ~~~(putB 256 38 true)).toNat) s ∧
       s.dev.produces 1 (nodeSource (nodeKey 15 254) 1) 101 = true ∧
       s.dev.produces 1 (nodeSource (nodeKey 15 254) 0) 100 = false ∧ (s.dev.point 101).quarantined = false) := by decide +kernel

/-- The eighth miss in a row puts an active node back to IDENTIFYING (R278). -/
theorem test_replySlotMiss :
    after (.replySlotMiss 15 254) (strandState .solo (some (someCycle none [(254, ncfg)])) (nodeOn .active 7)) (fun t =>
      (t.dev.node (nodeKey 15 254)).st == .identifying && (t.dev.node (nodeKey 15 254)).miss == 8 &&
      (t.dev.strand 15).rxMissCnt == 1) = true := by decide +kernel
/-- A matching identity reply makes the node ACTIVE (R278). -/
theorem test_strandReplyReceive :
    after (.strandReplyReceive 15 520 150 (replyRx true))
      (strandState .solo (some (someCycle none [(254, ncfg)])) (nodeOn .identifying 7))
      (fun t => (t.dev.node (nodeKey 15 254)).st == .active && (t.dev.node (nodeKey 15 254)).miss == 0) = true := by
  decide +kernel
/-- The check value that R258 prints. -/
theorem test_crc16 : crc16 [0x31, 0x32, 0x33, 0x34, 0x35, 0x36, 0x37, 0x38, 0x39] = 0x6F91 := by decide +kernel

/-! ### Updates, resets, supplies and recovery mode -/

theorem witness_UpdateEnds :
    (let s := upWith (fun d => { d with upd := { d.upd with st := .erasing } })
     s.up ∧ s.dev.upd.st = .erasing ∧ s.dev.upd.st ≠ .verifying) ∧
    (let s := upWith (fun d => { d with upd := { d.upd with st := .verifying } })
     s.dev.upd.st ≠ .erasing ∧ s.dev.upd.st = .verifying ∧ containerCheck s.dev.flash.staged false s.dev.fresh0 ≠ 0) := by
  decide +kernel

theorem witness_SupplyWarnings_command :
    let s := withSlot (waiting .replying 84)
    s.up ∧ s.dev.slot 64 127 = some (waiting .replying 84) ∧ (waiting .replying 84).stage = .replying ∧
      s.dev.endedHeld 64 [127] := by decide +kernel
theorem witness_MainResets :
    (let s := upWith (fun d => { d with pwr := { d.pwr with restart := some (.device 1) } })
     s.up ∧ s.dev.pwr.restart = some (.device 1) ∧ s.dev.restartWaits = false ∧ s.dev.pwr.main ≠ .reset) ∧
    (upWith id).dev.pwr.restart = none ∧ State.reset.dev.pwr.main = .reset ∧
    (let s := upWith (fun d => { d with pwr := { d.pwr with rstOut := true } })
     s.dev.pwr.main ≠ .reset ∧ s.dev.pwr.rstOut = true) := by decide +kernel

def onVmain (f : Dev → Dev) : State :=
  { State.reset with dev := f { Dev.reset with bk := { Dev.reset.bk with onVmain := true } } }
def goodBoot : BootIn := ⟨false, none, none⟩
theorem witness_BootDecides :
    (let s := onVmain id
     s.dev.pwr.main = .reset ∧ s.dev.bk.onVmain = true ∧ s.dev.pwr.hot = false ∧
       s.dev.fuses.partly.getD s.dev.fuses.lifecycle = 1 ∧ s.dev.pwr.marker = false ∧ goodBoot.wakeLow = false ∧
       goodBoot.flashErr = none ∧ s.dev.flash.marker = false ∧ s.dev.flash.active = .factory) ∧
    (let s := onVmain (fun d => { d with flash := { d.flash with marker := true, staging := [(0, [1, 2, 3, 4])], stagingLen := 4 } })
     s.dev.pwr.marker = false ∧ s.dev.flash.marker = true ∧ ({ goodBoot with flashErr := some 4 } : BootIn).flashErr = some 4 ∧
       ({ goodBoot with flashErr := some 5 } : BootIn).flashErr = some 5 ∧ goodBoot.flashErr ≠ some 4) ∧
    (onVmain (fun d => { d with fuses := { d.fuses with partly := some 4 } })).dev.fuses.partly.getD 1 = 4 ∧
    (onVmain (fun d => { d with fuses := { d.fuses with lifecycle := 2 } })).dev.fuses.lifecycle ≠ 1 ∧
    (let s := onVmain (fun d => { d with pwr := { d.pwr with hot := true } })
     s.dev.pwr.main = .reset ∧ s.dev.bk.onVmain = true ∧ s.dev.pwr.hot = true ∧ s.dev.pwr.porst = false) ∧
    State.reset.dev.bk.onVmain = false := by decide +kernel

theorem witness_SupplyWarnings :
    (upWith id).up ∧ (upWith id).dev.pwr.warn = false ∧ State.reset.dev.isMain = false ∧
      (upWith (fun d => { d with pwr := { d.pwr with warn := true } })).up ∧
      (upWith (fun d => { d with pwr := { d.pwr with warn := true } })).dev.pwr.warn = true ∧
      (let s := upWith (fun d => d.setNode (nodeKey 15 254) { d.node (nodeKey 15 254) with cfg := putB 256 38 true })
       s.up ∧ nodeEn (s.dev.node (nodeKey 15 254)).cfg = true) := by decide +kernel

/-- A request to this module: operation, offset, data. -/
def recReq (op off : Nat) (data : List Byte) : RecoveryIn :=
  ⟨0x020000000001, 0x0A000001, 4000, BitVec.allOnes 48, 0x0A0000FF, 50064,
    leBytes 16 (put 128 0 (BitVec.ofNat 8 op) ||| put 128 16 9#16 ||| put 128 32 (BitVec.ofNat 32 off) : BitVec 128).toNat ++ data,
    false⟩
def recState (r : Recovery) (f : Flash → Flash) : State :=
  { State.reset with dev := { Dev.reset with
    pwr := { Dev.reset.pwr with main := .recovery, rstOut := false }, rcv := some r, flash := f Dev.reset.flash } }
def rec0 : Recovery := { Recovery.start 1 with linkUp := true }
theorem witness_RecoveryRequests_ident :
    let s := recState rec0 id
    s.dev.rcv = some rec0 ∧ recAccepts 1 (recReq 1 0 []) rec0 s.dev.fresh0 = true ∧ rec0.last = none ∧
      s.dev.fuses.lifecycle ≠ 4 ∧ recAccepts 2 (recReq 1 0 []) rec0 s.dev.fresh0 = false := by decide +kernel
theorem witness_RecoveryRequests_begin :
    let m := recReq 2 0 (leBytes 4 260)
    let s := recState rec0 id
    recAccepts 2 m rec0 s.dev.fresh0 = true ∧ m.body.drop 16 = leBytes 4 260 ∧ m.flashErr = false := by decide +kernel
theorem witness_RecoveryRequests_data :
    let m := recReq 3 4 [1, 2, 3, 4]
    let r := { rec0 with len := some 8 }
    let s := recState r (fun f => { f with stagingLen := 8 })
    recAccepts 3 m r s.dev.fresh0 = true ∧ r.len = some 8 ∧ r.erasing = false ∧ (fld (recHead m) 32 32).toNat = 4 ∧
      m.body.drop 16 = [1, 2, 3, 4] ∧ (∀ i, i < 4 → stageAt s.dev.flash.staging (4 + i) = none) := by decide +kernel
theorem witness_RecoveryRequests_end :
    let r := { rec0 with len := some 4 }
    let s := recState r (fun f => { f with stagingLen := 4, staging := [(0, [1, 2, 3, 4])] })
    recAccepts 4 (recReq 4 0 []) r s.dev.fresh0 = true ∧ r.len.isSome = true ∧ s.dev.flash.stagingFull = true ∧
      containerCheck s.dev.flash.staged true s.dev.fresh0 ≠ 0 := by decide +kernel
theorem witness_RecoveryRequests_boot :
    recAccepts 5 (recReq 5 0 []) rec0 (recState rec0 id).dev.fresh0 = true ∧
      (let r := { rec0 with last := some (9, [1]) }
       recAccepts 1 (recReq 1 0 []) r (recState r id).dev.fresh0 = true ∧
         r.last = some (fld (recHead (recReq 1 0 [])) 16 16, [1])) := by decide +kernel

/-- A module in MANUFACTURE with its factory image starts (R593). -/
theorem test_mainResetRelease : after (.mainResetRelease goodBoot) (onVmain id) (fun t => t.dev.isMain) = true := by
  decide +kernel
/-- WAKE_N held low leads into recovery mode with cause 1 (R600). -/
theorem test_mainResetRelease_wake :
    after (.mainResetRelease { goodBoot with wakeLow := true }) (onVmain id) (fun t =>
      t.dev.pwr.main == .recovery && t.dev.rcv == some (Recovery.start 1)) = true := by decide +kernel
/-- A pulse of 500 ns has no defined effect (R603). -/
theorem test_porstAssert :
    (match exec (.porstAssert 500) State.reset with | .fault .porstPulseUndefined => true | _ => false) = true := by decide +kernel
/-- A container that is no container is rejected with the first check (R589). -/
theorem test_updateVerified :
    after (.updateVerified false) (upWith (fun d => { d with upd := { d.upd with st := .verifying } })) (fun t =>
      t.dev.upd.st == .rejected && t.dev.upd.reason == 1) = true := by decide +kernel
/-- A command whose held state fails while its reply is under way ends with INTERNAL (R130); the errors are counted (R638). -/
theorem test_scrubPass_command :
    after (.scrubPass ⟨3, [(64, 127)], [], 2⟩) (withSlot (waiting .replying 84)) (fun t =>
      (t.dev.slot 64 127).map (·.stage) == some .finished && t.dev.flt.eccCorr == 3 && t.dev.flt.eccUncorr == 3) = true := by
  decide +kernel

/-! ### Logic tasks and control loops -/

def taskWith (k : Task) : State := upWith (fun d => d.setTask 7 k)
def taskOn : BitVec 512 := Task.reset.cfg ||| putB 512 108 true
theorem witness_TaskEvents_en :
    (let s := taskWith Task.reset
     s.up ∧ (s.dev.task 7).st = .disabled ∧
       writeAdmitted (entryCmd 0x21 7 64 ((s.dev.task 7).cfg &&& ~~~(putB 512 108 true) ||| putB 512 108 true).toNat) s) ∧
    (let s := taskWith { Task.reset with cfg := taskOn, st := .running }
     (s.dev.task 7).st ≠ .disabled ∧
       writeAdmitted (entryCmd 0x21 7 64 ((s.dev.task 7).cfg &&& ~~~(putB 512 108 true) ||| putB 512 108 false).toNat) s) := by
  decide +kernel
theorem witness_TaskEvents_memory :
    (let s := taskWith { Task.reset with cfg := taskOn, st := .running }
     (Instr.taskMemory 7 0 0).wellFormed = true ∧ (s.dev.task 7).st = .running ∧
       ∀ m, m < 8 → (s.dev.task m).st = .running → (s.dev.task m).bank = 262143 / 131072 →
         (s.dev.task m).holds (262143 / 131072) (262143 % 131072) = false) ∧
    ((taskWith Task.reset).dev.task 7).st ≠ .running ∧
    (let s := upWith (fun d => { d with lg := { d.lg with marked := [(262143, true)] } })
     tget false s.dev.lg.marked 262143 = true ∧ tget false s.dev.lg.marked 0 = false) ∧
    (let s := taskWith { Task.reset with cfg := taskOn ||| put 512 203 1#18, st := .running }
     (s.dev.task 7).bank = 0 ∧ (s.dev.task 7).holds 0 0 = true) := by decide +kernel
theorem witness_TaskEvents_image :
    let s := busy id 0
    (s.dev.task 7).failPts = none ∧ 9 ∈ s.dev.imagePoints 7 ∧ 9 ∉ (s.dev.task 7).dropPts ∧ (s.dev.point 9).subst = false ∧
      (s.dev.point 9).quarantined = false ∧ (s.dev.task 7).memDue = none := by decide +kernel

def loopState (j : Nat) (l : Loop) : State := upWith (fun d =>
  (d.setPoint 0 { Point.reset with ptype := 2 }).setLoop j l)
def loopEnImg (j : Nat) (l : Loop) (on : Bool) : BitVec 1024 :=
  ((loopState j l).dev.loop j).cfg &&& ~~~(putB 1024 220 true) ||| putB 1024 220 on
def loopOn (f : Loop → Loop) : Loop := f { Loop.reset with cfg := Loop.reset.cfg ||| putB 1024 220 true, st := .auto }
theorem witness_LoopEvents_en :
    (let s := loopState 2111 Loop.reset
     s.up ∧ (s.dev.loop 2111).en = false ∧ writeAdmitted (entryCmd 0x30 2111 128 (loopEnImg 2111 Loop.reset true).toNat) s) ∧
    (let s := loopState 2111 (loopOn id)
     (s.dev.loop 2111).en = true ∧ (s.dev.loop 2111).st ≠ .disabled ∧
       writeAdmitted (entryCmd 0x30 2111 128 (loopEnImg 2111 (loopOn id) false).toNat) s) := by
  decide +kernel
theorem witness_LoopEvents_mode :
    (let l := loopOn (fun l => l.setCfg 225 2 1)
     let s := loopState 63 l
     (s.dev.loop 63).en = true ∧ (s.dev.loop 63).mode = 1 ∧ (s.dev.loop 63).st = .auto ∧
       writeAdmitted (entryCmd 0x30 63 128 ((s.dev.loop 63).setCfg 225 2 0).cfg.toNat) s) ∧
    (let l := loopOn (fun l => { l with st := .manual })
     let s := loopState 63 l
     (s.dev.loop 63).en = true ∧ (s.dev.loop 63).mode = 0 ∧ (s.dev.loop 63).st = .manual ∧
       writeAdmitted (entryCmd 0x30 63 128 ((s.dev.loop 63).setCfg 225 2 1).cfg.toNat) s) := by
  decide +kernel
def feLoop (action : Nat) : Loop := loopOn (fun l => { (l.setCfg 384 16 5).setCfg 229 2 action with
  feTmr := 5 })
theorem witness_LoopEvents_following (action : Fin 3) :
    let s := loopState 2111 (feLoop action.val)
    let l := s.dev.loop 2111
    s.up ∧ l.st = .auto ∧ l.feTime ≠ 0 ∧ l.feTime ≤ l.feTmr.toNat ∧ l.feActive = false ∧
      l.feAction = action.val ∧ (Loop.reset).st ≠ .auto := by
  match action with
  | 0 => decide +kernel
  | 1 => decide +kernel
  | 2 => decide +kernel
theorem witness_LoopEvents_rest :
    ((loopState 2111 (loopOn (fun l => { l with tracking := true }))).dev.loop 2111).tracking = true ∧
    ((loopState 2111 (feLoop 0)).dev.loop 2111).tracking = false ∧
    (let l : Loop := { Loop.reset with st := .auto, cfg := Loop.reset.cfg ||| putB 1024 220 true ||| putB 1024 224 true ||| put 1024 221 6#3 }
     isFast 2111 = true ∧ l.drives = some 6 ∧ l.st ≠ .disabled ∧ Loop.reset.st = .disabled) := by decide +kernel

/-- A task that is switched on runs from its next release (R309). -/
theorem test_taskEnWrite : after (.taskEnWrite 7 true) (taskWith Task.reset) (fun t => (t.dev.task 7).st == .running) = true := by
  decide +kernel
/-- FE_ACTION 2 puts the loop into FAULTED with code 1 (R351). -/
theorem test_loopFollowingError :
    after (.loopFollowingError 2111) (loopState 2111 (feLoop 2)) (fun t => (t.dev.loop 2111).st == .faulted &&
      (t.dev.loop 2111).lastFault == 1 && t.dev.lp.feCnt == 1) = true := by decide +kernel
/-- A loop that is switched on starts in INIT and produces its output point (R339). -/
theorem test_loopEnWrite :
    after (.loopEnWrite 2111 true) (loopState 2111 Loop.reset) (fun t => (t.dev.loop 2111).st == .init &&
      (t.dev.point 0).srcKind == 3 && (t.dev.point 0).srcIndex == 2111) = true := by decide +kernel

/-! ### Metering -/

/-- Voltage channel 72 of FS 1000.0 V at 500 V on set 0. -/
def volt : MChan := { MChan.reset with
  cfg := 1 ||| put 512 384 0x447A0000#32, lastPer := { Sums.zero with n := 1, ii := 2 ^ 62 } }
def setState (v : VSet) : State := upWith (fun d =>
  { (d.setMchan 72 volt).setVset 0 v with tb := { d.tb with ran := 100 } })
def cross0 : VSet := { VSet.reset with
  lastCross := some (3200 * 65536 - 640 * 65536), phase := 1, periods := [640 * 65536, 640 * 65536, 640 * 65536] }
theorem witness_MeterEvents_crossing :
    (let s := setState cross0
     let now := (32 * s.dev.tb.ran + s.dev.tb.sample) * 65536 + 0
     let len := (now + 2 ^ 53 - (3200 * 65536 - 640 * 65536)) % 2 ^ 53
     s.up ∧ s.dev.trackPhase 0 = 1 ∧ (3 : Nat) ≠ s.dev.trackPhase 0 ∧ (s.dev.vset 0).phase = 1 ∧
       (s.dev.vset 0).lastCross = some (3200 * 65536 - 640 * 65536) ∧ s.dev.phaseOk 0 (1 - 1) = true ∧
       ((len :: (s.dev.vset 0).periods).take 4).length = 4 ∧
       ∀ n ∈ (len :: (s.dev.vset 0).periods).take 4, inRange (s.dev.nom 0) n = true) ∧
    (setState VSet.reset).dev.trackPhase 0 = 1 ∧ ((setState { VSet.reset with phase := 2 }).dev.vset 0).phase ≠ 1 ∧
    (1 : Nat) = ((setState { VSet.reset with phase := 1 }).dev.vset 0).phase := by decide +kernel
theorem witness_MeterEvents_condition :
    (let s := upWith (fun d => d.setMchan 77 { MChan.reset with cfg := 1, openRun := 10 })
     s.up ∧ (s.dev.mchan 77).condDue (isVolt 77) ≠ (s.dev.mchan 77).cond) ∧
    (upWith id).dev.mchan 0 = MChan.reset ∧ MChan.reset.condDue (isVolt 0) = MChan.reset.cond := by decide +kernel
theorem witness_MeterEvents_pulse :
    (let p := (upWith (fun d => d.setPulse 7 { Pulse.reset with active := some 50 })).dev.pulse 7
     p.active = some 50 ∧ p.width ≤ 50) ∧
    (let p := (upWith (fun d => d.setPulse 7 { Pulse.reset with active := some 49 })).dev.pulse 7
     p.active = some 49 ∧ 49 < p.width) ∧
    ((upWith id).dev.pulse 0).active = none := by decide +kernel
theorem witness_MeterEvents_memory :
    (upWith id).up ∧ ((upWith id).dev.point 0).quarantined = false ∧ ((upWith id).dev.point 0).subst = false ∧
      (0x40 : BitVec 7) ≠ 0 := by decide +kernel

theorem witness_MeterSaves :
    (let s := upWith (fun d => { d with tb := { d.tb with frame := 1000 } })
     s.up ∧ s.dev.tb.frame.toNat % 1000 = 0 ∧ s.dev.tb.sample = 0 ∧ s.dev.mt.savedAt ≠ some s.dev.tb.frame ∧ s.dev.mt.snapDue = none) ∧
    (let s := upWith (fun d => { d with tb := { d.tb with frame := 1001 } })
     s.dev.tb.frame.toNat % 1000 ≠ 0) ∧
    (let s := upWith (fun d => { d with
       tb := { d.tb with frame := 1000, sample := 3 }, mt := { d.mt with saveDue := some ([], 1000, 0, 4) } })
     s.dev.mt.saveDue = some ([], 1000, 0, 4) ∧ ¬(s.dev.tb.sample < 3 ∧ s.dev.tb.frame = 1000)) := by decide +kernel
theorem witness_MeterSaves_snapshot :
    let recs : List Byte := List.replicate 8064 0
    (upWith (fun d => { d with mt := { d.mt with snapDue := some (recs, 5, 6, 7) } })).dev.mt.snapDue = some (recs, 5, 6, 7) ∧
      (upWith (fun d => { d with mt := { d.mt with saveDue := some (recs, 5, 6, 7) } })).dev.mt.saveDue = some (recs, 5, 6, 7) ∧
      recs.length = 8064 := ⟨rfl, rfl, List.length_replicate⟩

/-- The retained SRAM with a copy A whose records are all 0. -/
def copyHead : List Byte :=
  leBytes 60 (put 480 256 1#64 ||| put 480 208 1#8 ||| put 480 192 1#16 ||| put 480 0 0x4D455452#32 : BitVec 480).toNat
def savedRam (recs : List Byte) : Memory := Memory.writeAll [] (placeBytes (if false = true then 0x2000 else 0)
  (copyHead ++ leBytes 4 (crc32 (copyHead ++ recs)).toNat ++ recs))
theorem savedRam_newest (recs : List Byte) (h : recs.length = 8064) :
    newestCopy 1 false true (Memory.read (savedRam recs)) = some (false, 1, 1, 0, 0, recs) := by
  have e1 : fld (leBits 512 copyHead) 256 64 = 1 := by decide +kernel
  have e2 : (fld (leBits 512 copyHead) 208 8).toNat = 1 := by decide +kernel
  have e3 : fld (leBits 512 copyHead) 384 64 = 0 := by decide +kernel
  have e4 : fld (leBits 512 copyHead) 448 32 = 0 := by decide +kernel
  have x := newestCopy_a _ _ _ (readCopy_written 1 [] false copyHead recs (by decide +kernel) h (by decide +kernel)
    (by decide +kernel))
  rwa [e1, e2, e3, e4] at x
theorem witness_MeterSaves_restores :
    let s := upWith (fun d => { d with bk := { d.bk with badB := true } })
    s.dev.bk.badA = false ∧ s.dev.bk.badB = true ∧ s.dev.format 1 = 1 ∧ newestCopy 1 false true (Memory.read (savedRam (List.replicate 8064 0))) =
      some (false, 1, 1, 0, 0, List.replicate 8064 0) :=
  ⟨rfl, rfl, rfl, savedRam_newest _ List.length_replicate⟩
theorem witness_MeterSaves_zero :
    newestCopy 1 (upWith id).dev.bk.badA (upWith id).dev.bk.badB (Memory.read (upWith id).sram) = none := by decide +kernel

/-- Ten open samples in a row are an open wire, and the mean resistance reads all ones (R393). -/
theorem test_sensorCondition :
    after (.sensorCondition 77) (upWith (fun d => d.setMchan 77 { MChan.reset with cfg := 1, openRun := 10 })) (fun t =>
      (t.dev.mchan 77).cond == .openWire && (t.dev.mchan 77).rdc == 0xFFFFFFFF) = true := by decide +kernel
/-- A pulse of WIDTH_MS 50 ends after 50 ms (R401). -/
theorem test_pulseEnd :
    after (.pulseEnd 7) (upWith (fun d => d.setPulse 7 { Pulse.reset with active := some 50 })) (fun t =>
      (t.dev.pulse 7).active.isNone && (t.dev.pulse 7).gap == some 0) = true := by decide +kernel
/-- A preset writes the accumulators of its mask and clears their residues (R387). -/
theorem test_accPreset :
    after (.accPreset 71 2 (put 1024 96 7#96)) (upWith id) (fun t => tget 0 (t.dev.acc 71).acc 1 == 7 &&
      tget 0 (t.dev.acc 71).acc 0 == 0 && (t.dev.acc 71).preset) = true := by decide +kernel

/-! ### Current loops and HART -/

def clWith (c : CLoop) : State := upWith (fun d => d.setCloop 7 c)
/-- A HART master (ROLE 3) that polls addresses 0 and 63. -/
def hartOn (f : CLoop → CLoop) : CLoop := f { CLoop.reset with
  cfg := CLoop.reset.cfg ||| putB 2048 0 true ||| put 2048 8 3#2 ||| putB 2048 576 true ||| putB 2048 639 true }
theorem witness_CurrentLoopEvents_condition :
    (let c := (clWith { CLoop.reset with cfg := CLoop.reset.cfg ||| 1 ||| put 2048 8 2#2, runs := { CLoop.reset.runs with
       revS := 4 } }).dev.cloop 7
     c.condDue ≠ c.cond ∧ c.condDue = .reversed ∧ c.role = 2) ∧
    CLoop.reset.condDue = CLoop.reset.cond := by decide +kernel
theorem witness_CurrentLoopEvents_start :
    (let c := (clWith (hartOn (fun c => { c with mbState := .pending }))).dev.cloop 7
     c.inHart = true ∧ c.trans = none ∧ c.mbState = .pending) ∧
    (let c := (clWith (hartOn id)).dev.cloop 7
     c.inHart = true ∧ c.trans = none ∧ c.mbState ≠ .pending ∧ c.nextPoll = some 0) ∧
    CLoop.reset.inHart = false ∧
    (let c := (clWith { hartOn (fun c => { c with mbState := .pending }) with cfg := (hartOn id).cfg ^^^ put 2048 8 1#2 ^^^ putB 2048 10 true }).dev.cloop 7
     c.inHart = true ∧ c.role = 2 ∧ c.trans = none ∧ c.mbState = .pending) := by decide +kernel
theorem witness_CurrentLoopEvents_transaction :
    (Instr.hartReply 7 3 0 0x80 [0, 0, 0, 0, 0, 1, 2, 3, 4]).wellFormed = true ∧
    (Instr.hartReply 7 3 0 0x80 [0, 0, 0, 0, 0, 1, 2, 3]).wellFormed = true ∧ (Instr.hartReply 7 0 0 0 []).wellFormed = true ∧
    (let c := (clWith (hartOn (fun c => { c with trans := some .mailbox }))).dev.cloop 7
     c.trans = some .mailbox ∧ c.retries < c.hretry) ∧
    (let c := (clWith (hartOn (fun c => { c with trans := some (.poll 63), retries := 2 }))).dev.cloop 7
     c.trans = some (.poll 63) ∧ c.hretry ≤ c.retries ∧ c.trans ≠ none) ∧
    (let c := (clWith (hartOn (fun c => { c with trans := some .mailbox, retries := 2 }))).dev.cloop 7
     c.trans = some .mailbox ∧ c.hretry ≤ c.retries) := by decide +kernel

/-- The reply to a mailbox request stands in the mailbox (R424). -/
theorem test_hartReply :
    after (.hartReply 7 3 0 0x80 [1, 2, 3]) (clWith (hartOn (fun c => { c with trans := some .mailbox }))) (fun t =>
      (t.dev.cloop 7).mbState == .done && (t.dev.cloop 7).mbLen == 3 && (t.dev.cloop 7).mbData == [1, 2, 3] &&
        (t.dev.cloop 7).mbSeq == 1) = true := by decide +kernel
/-- The third poll without a reply in a row makes the device's point BAD with COMM (HLOST 3) (R425). -/
theorem test_hartNoReply :
    after (.hartNoReply 7 false)
      (clWith (hartOn (fun c => { c with trans := some (.poll 63), retries := 2, missed := tset 0 [] 63 2 }))) (fun t =>
      (t.dev.cloop 7).hartDue == [(63, none, 2, 0x08, t.dev.cal)]) = true := by decide +kernel

/-! ### Recorder and backup domain -/

def bkWith (f : Backup → Backup) : State := upWith (fun d => { d with bk := f d.bk })
theorem witness_CalendarEvents_count :
    (let b := (bkWith (fun b => { b with slewing := true, slewLeft := 5, slewAcc := 1999, trimAcc := -5, trimPpb := 3 })).dev.bk
     b.utcStep = none ∧ (∀ k, k < 8 → (b.alarm k).due = none) ∧ b.slewLeft ≠ 0 ∧ b.timeSet = []) ∧
    (let c := cmdOf 64 0x13 0x80 0 0 0 []
     let s := { bkWith (fun b => { b with timeSet := [⟨64, 0, 1, true, 7, false⟩] }) with pending := [] }
     let t : State := { s with dev := { s.dev with cp := { s.dev.cp with slots := [{ c with stage := .replying }] } } }
     t.dev.bk.timeSet = [⟨64, 0, 1, true, 7, false⟩] ∧ t.dev.bk.slewing = false ∧ t.dev.slot 64 0 = some { c with stage := .replying }) := by
  decide +kernel
/-- A TIME_SET that waits for its count, ahead or back, with the alarms its count has reached. -/
def setWith (slew : Bool) (cal : W64) (now : Nat) (f : Backup → Backup) : State :=
  let s := upWith (fun d => { d with tb := { d.tb with ran := now } })
  let c := { cmdOf 64 0x13 0x80 0 0 0 [] with stage := .replying, ready := some 0 }
  { s with dev := { s.dev with
    bk := f { s.dev.bk with calSet := true, cnt := 65536, timeSet := [⟨64, 0, 1, slew, cal, false⟩] }
    cp := { s.dev.cp with slots := [c] } } }
theorem witness_CalendarEvents_set (k : Fin 4) :
    let late : CalAlarm := { CalAlarm.reset with st := .armed, target := 0x200000000#64 }
    let s := match k with
      | 0 => setWith true 0x300000000#64 0 id
      | 1 => setWith false 0x300000000#64 0 (fun b => { b with alarms := tset CalAlarm.reset b.alarms 7 late })
      | 2 => setWith false 0x100000000#64 0 id
      | 3 => setWith false 0x100000000#64 17 id
    let b := s.dev.bk
    let n := 65537
    let x : TimeSetDue := ⟨64, 0, 1, k == 0, if k.val < 2 then 0x300000000#64 else 0x100000000#64, false⟩
    let goal : Nat := (placeStamp (if b.calSet then some n else none) x.cal).getD n
    let fell (k : Nat) : Bool := decide (k < 8) && (b.alarm k).st == .armed && (b.alarm k).reached (calOf n)
    b.timeSet = [x] ∧ b.utcStep = none ∧ (b.slewing = false ∨ b.slewLeft ≠ 0) ∧ (∀ k, k < 8 → (b.alarm k).due = none) ∧
      (n < goal ↔ k.val < 2) ∧ (fell 7 = true ↔ k = 1) ∧
      (s.dev.slot x.ch x.tag).map (fun c => (c.seq, c.stage, c.pastLimit s.dev)) = some (x.seq, .replying, k == 3) := by
  match k with
  | 0 => decide +kernel
  | 1 => decide +kernel
  | 2 => decide +kernel
  | 3 => decide +kernel
theorem witness_CalendarEvents_slew :
    (let b := (bkWith (fun b => { b with slewing := true })).dev.bk
     b.slewing = true ∧ b.slewLeft = 0) ∧ (bkWith id).dev.bk.slewing = false := by decide +kernel
def ptpCal (cnt : Nat) : State := upWith (fun d => { d with
  bk := { d.bk with calSrc := true, cnt := cnt }, tb := { d.tb with tb := .locked }, net := { d.net with utcValid := true } })
theorem witness_CalendarEvents_compare (cnt : Fin 3) :
    let n : Nat := match cnt with | 0 => 327680 | 1 => 327690 | 2 => 0
    let b := (ptpCal n).dev.bk
    let second := (946684810 * 1000000000) / 1000000000
    let ns : Int := (946684810 * 1000000000 : Int) - 1000000000 * ((ptpCal n).dev.net.utcOffset.toNat + 946684800)
    (ptpCal n).up ∧ b.calSrc = true ∧ (ptpCal n).dev.tb.tb = .locked ∧ (ptpCal n).dev.net.utcValid = true ∧
      b.lastCompare ≠ some second ∧ (ns * 32768 / 1000000000).toNat = 327680 ∧
      (327680000000 < (ns * 32768 - (b.cnt : Int) * 1000000000).natAbs ↔ n = 0) := by
  match cnt with
  | 0 => decide +kernel
  | 1 => decide +kernel
  | 2 => decide +kernel
theorem witness_CalendarEvents_step :
    (let s := bkWith (fun b => { b with utcStep := some (1, 32767), cnt := 32768 })
     s.up ∧ s.dev.bk.utcStep = some (1, 32767) ∧ 32767 / 32768 < s.dev.bk.cnt / 32768) ∧
    (let s := bkWith (fun b => { b with utcStep := some (1, 32768), cnt := 65535 })
     s.dev.bk.utcStep = some (1, 32768) ∧ s.dev.bk.cnt / 32768 ≤ 32768 / 32768) ∧
    (bkWith id).dev.bk.utcStep = none := by decide +kernel

def alarmWith (a : CalAlarm) (f : Backup → Backup) : State :=
  bkWith (fun b => f { b with alarms := tset CalAlarm.reset b.alarms 7 a })
theorem witness_CalendarAlarms_fired :
    (let s := alarmWith { CalAlarm.reset with due := some true, st := .armed, period := 1, wakeEn := true }
       (fun b => { b with pwrHold := false, onVmain := true })
     let a := s.dev.bk.alarm 7
     a.due = some true ∧ a.wakeEn = true ∧ s.dev.bk.pwrHold = false ∧ a.period.toNat * 4294967296 ≠ 0 ∧
       s.dev.bk.onVmain = true) ∧
    (let s := alarmWith { CalAlarm.reset with due := some false, st := .armed, wakeEn := true }
       (fun b => { b with pwrHold := false, onVmain := false })
     (s.dev.bk.alarm 7).due = some false ∧ (s.dev.bk.alarm 7).wakeEn = true ∧ s.dev.bk.pwrHold = false ∧
       s.dev.bk.onVmain = false ∧ (s.dev.bk.alarm 7).period.toNat * 4294967296 = 0) ∧
    ((alarmWith CalAlarm.reset id).dev.bk.alarm 0).due = none := by decide +kernel
def alarmImg : BitVec 256 := put 256 192 0x100000000#64 ||| put 256 160 60#32 ||| putB 256 3 true
theorem witness_CalendarAlarms_write :
    (bkWith id).up ∧ writeAdmitted (entryCmd 0x80 (7 + 1) 32 alarmImg.toNat) (bkWith id) ∧
      writeAdmitted (entryCmd 0x80 (0 + 1) 32 0) (bkWith id) := by decide +kernel
theorem witness_CalendarAlarms_window :
    (let w : TrimWin := ⟨1, 32768000, 1000000, 0, 0, true⟩
     let s := bkWith (fun b => { b with win := some w })
     s.dev.bk.win = some w ∧ w.ended = true ∧ w.src = 1) ∧
    (let w : TrimWin := ⟨2, 65536, 100, 0, 1, true⟩
     (bkWith (fun b => { b with win := some w })).dev.bk.win = some w ∧ w.ended = true ∧ w.src ≠ 1) ∧
    (let w : TrimWin := ⟨2, 65536, 100, 0, 1, false⟩
     (bkWith (fun b => { b with win := some w })).dev.bk.win = some w ∧ w.ended = false) := by decide +kernel

theorem witness_PowerEvents :
    (bkWith (fun b => { b with onVmain := true })).dev.bk.onVmain = true ∧ (bkWith id).dev.bk.onVmain = false ∧
    (let b := (bkWith (fun b => { b with wakePinEn := true, pwrHold := false, onVmain := true })).dev.bk
     b.wakePinEn = true ∧ b.pwrHold = false ∧ b.onVmain = true) ∧
    (let b := (bkWith (fun b => { b with wakePinEn := true, pwrHold := false, onVmain := false })).dev.bk
     b.wakePinEn = true ∧ b.pwrHold = false ∧ b.onVmain = false) ∧ (bkWith id).dev.bk.wakePinEn = false ∧ (bkWith id).up ∧
    (bkWith (fun b => { b with shut := .wait })).dev.bk.shut = .wait ∧ (bkWith id).dev.bk.shut ≠ .wait ∧
    (let b := (bkWith (fun b => { b with shut := .off, onVmain := true })).dev.bk
     b.shut = .off ∧ b.onVmain = true) := by decide +kernel

def recWith (i : Nat) (x : Rec) (f : Recorder → Recorder) : State :=
  upWith (fun d => { d with rcd := f { d.rcd with recs := tset Rec.reset d.rcd.recs i x } })
theorem witness_RecordsAndRetainedBytes_mark :
    (upWith id).up ∧ (upWith id).dev.rcd.stored < 32768 ∧
      32768 ≤ (upWith (fun d => { d with rcd := { d.rcd with stored := 32768 } })).dev.rcd.stored := by decide +kernel
theorem witness_RecordsAndRetainedBytes_record :
    (let s := recWith 32767 { Rec.reset with seq := 32767, code := 5 } (fun r => { r with stored := 32768, next := 32768 })
     let x := s.dev.rcd.at_ 32767
     s.dev.rcd.holds x.seq = true ∧ x.seq.toNat % 32768 = 32767) ∧
    ((upWith id).dev.rcd.holds ((upWith id).dev.rcd.at_ 0).seq = false) ∧
    (let s := recWith 3 { Rec.reset with snapLen := 8, snapEntry := 32767 } id
     s.dev.rcd.recs.find? (fun y => y.2.snapEntries.contains (65535 - 32768)) =
       some (3, { Rec.reset with snapLen := 8, snapEntry := 32767 })) ∧
    (upWith id).dev.rcd.recs.find? (fun y => y.2.snapEntries.contains (32768 - 32768)) = none := by decide +kernel
theorem witness_RecordsAndRetainedBytes_tail :
    let x : TailCap := ⟨3, 0, 0, [Rec.reset]⟩
    let s := upWith (fun d => { d with rcd := { d.rcd with tail := some x, stored := 1, next := 1 } })
    s.dev.rcd.tail = some x ∧ x.kind < 4 ∧ 1 ≤ x.recs.length ∧ x.recs.length ≤ 256 ∧ 1 ≤ s.dev.rcd.stored ∧
      (upWith id).dev.rcd.tail = none := by decide +kernel

/-- A count adds 1, and a correction of one ppb count when the trim has gathered 10^9 (R495). -/
theorem test_rtcCount :
    after .rtcCount (bkWith (fun b => { b with cnt := 41, trimAcc := 999999999, trimPpb := 1 })) (fun t =>
      t.dev.bk.cnt == 43 && t.dev.bk.trimAcc == 0) = true := by decide +kernel
/-- A due alarm with a period moves its TARGET and wakes the module (R500, R505). -/
theorem test_alarmFired :
    after (.alarmFired 7) (alarmWith { CalAlarm.reset with due := some false, st := .armed, period := 60, wakeEn := true }
      (fun b => { b with pwrHold := false })) (fun t => (t.dev.bk.alarm 7).target == 60 * 2 ^ 32 && t.dev.bk.pwrHold &&
      (t.dev.bk.alarm 7).st == .armed && t.dev.bk.nextCause == some 2) = true := by decide +kernel
/-- Loss of VMAIN resets the main domain and keeps the calendar (R483, R484). -/
theorem test_vmainFail :
    after .vmainFail (bkWith (fun b => { b with onVmain := true, cnt := 9 })) (fun t => !t.dev.isMain && t.dev.bk.cnt == 9 &&
      t.dev.bk.switchCnt == 1) = true := by decide +kernel
/-- REC_MARK stores a record 16#0C05 whose OBJECT is the value written (R479). -/
theorem test_recMark :
    after (.recMark 7) (upWith id) (fun t => (t.dev.rcd.at_ 0).code == 0x0C05 && (t.dev.rcd.at_ 0).object == 7) = true := by
  decide +kernel
/-- Damaged bytes outside the copies read 0 (R509). -/
theorem test_retainedMemory :
    after (.retainedMemory 2063 0x80000000) { upWith id with sram := [(65534, 3), (65535, 4)] } (fun t =>
      Memory.read t.sram 65535 == 0 && Memory.read t.sram 65534 == 3) = true := by decide +kernel

/-! ### Riser ports and network time -/

def portWith (p : Nat) (f : Port → Port) : State :=
  upWith (fun d => { d with pwr := { d.pwr with rstOut := false } }.setPort p (f Port.reset))
theorem witness_PortEvents_link :
    (let x := (portWith 2 (fun x => { x with mode := 2 })).dev.port 2
     x.link = false ∧ x.modeNow ≠ 0 ∧ x.modeNow ≠ 1) ∧
    (let x := (portWith 2 (fun x => { x with mode := 1 })).dev.port 2
     x.link = false ∧ x.modeNow = 1 ∧ (100 : Nat) ≠ 1000) ∧
    (let x := (portWith 0 (fun x => { x with mode := 1, search := some (2, 0) })).dev.port 0
     x.link = false ∧ x.modeNow = 3) ∧
    ((portWith 2 (fun x => { x with mode := 0 })).dev.port 2).modeNow = 0 ∧
    ((portWith 2 (fun x => { x with link := true, sync := true })).dev.port 2).link = true ∧
    ((portWith 2 id).dev.port 2).sync = false ∧
    (let x := (portWith 1 (fun x => { x with search := some (2, 2000) })).dev.port 1
     x.search = some (2, 2000) ∧ x.link = false) ∧ ((portWith 1 id).dev.port 1).search = none := by decide +kernel
theorem witness_PortEvents_waits :
    let s := upWith (fun d => (d.setPort 0 { Port.reset with link := true }).setChan 64 { Channel.reset with
      st := .opened, drops := { Drops.none with total := 1 } })
    (s.dev.port 0).link = true ∧ (s.dev.chan 64).portNo = 0 ∧ (s.dev.chan 64).st = .opened ∧ (s.dev.chan 64).drops.total ≠ 0 := by
  decide +kernel
theorem witness_PortEvents_mode :
    (let s := portWith 2 (fun x => { x with link := true, mode := 1 })
     writeAdmitted (regCmd (0x0700 + 0x40 * 2 + 0x3C) 2) s ∧ (s.dev.port 2).link = true ∧
       fld (2 : Reg) 0 2 ≠ fld (s.dev.port 2).mode 0 2) ∧
    writeAdmitted (regCmd (0x0700 + 0x40 * 0 + 0x3C) 1) (portWith 0 id) := by decide +kernel
theorem witness_PortEvents_address :
    (let s := portWith 1 (fun x => { x with link := true, ip4 := 0x0A000002, ip6 := tset 0 [] 0 5 })
     s.dev.maySend 1 = true ∧ (s.dev.port 1).ip4 = 0x0A000002 ∧ (s.dev.port 1).ip4 ≠ 0 ∧ (s.dev.port 1).ip6Bits = 5 ∧
       (s.dev.port 1).ip6Bits ≠ 0 ∧ (s.dev.port 1).rxOk (taggedOf 0x0806) = true ∧
       (s.dev.port 1).takes 1 (taggedOf 0x0806) = true) ∧ (portWith 1 id).dev.maySend 1 = false := by decide +kernel
theorem witness_PortEvents_frames :
    (let x := (portWith 2 id).dev.port 2
     ¬ 64 ≤ (⟨none, 0, 63, true⟩ : FrameHead).len ∧ 64 ≤ (headOf 0x0800).len ∧ (headOf 0x0800).len ≤ 4352 ∧
       (headOf 0x0800).fcsOk = true ∧ x.fill + (headOf 0x0800).len ≤ 65536) ∧
    (taggedOf 0x0800).tag = some (0, 0) ∧
      (0 : BitVec 12) ≠ ((portWith 1 (fun x => { x with cfg := x.cfg ||| put 32 5 7#12 })).dev.port 1).vid := by decide +kernel
theorem witness_PortEvents_gate :
    (let s := portWith 2 (fun x => { x with
       liveCfg := putB 32 25 true ||| put 32 26 1#6, liveGates := tset 0xFF000000 [] 0 0xFF000001 })
     let x := s.dev.port 2
     bit x.liveCfg 25 = true ∧ x.gateIdx < (fld x.liveCfg 26 6).toNat ∧
       x.gateEnd x.gateIdx < (s.dev.tb.sample + 1) * 15625) ∧
    bit ((portWith 2 id).dev.port 2).liveCfg 25 = false := by decide +kernel

def fcAt (p : Nat) (mode : BitVec 2) (f : Port → Port) : State :=
  portWith p (fun x => f { x with cfg := x.cfg ||| put 32 0 mode })
def fc : BitVec 2 → (Port → Port) → State := fcAt 2
theorem witness_PauseEvents_receive :
    65472 < ((fc 1 (fun x => { x with fill := 65473 })).dev.port 2).fill ∧ ((fc 1 id).dev.port 2).fill ≤ 65472 ∧
    ((fc 1 (fun x => { x with holdoff := true })).dev.port 2).holdoff = true ∧
    (let x := (fc 1 (fun x => { x with paused := tset 0 [] 7 9000, heldSince := some 5 })).dev.port 2
     x.holdoff = false ∧ x.fcMode = 1 ∧ x.fcMode ≠ 2 ∧ (∀ e ∈ x.paused, e.1 < 8) ∧ x.heldSince = some 5) ∧
    (let x := (fc 2 id).dev.port 2
     x.holdoff = false ∧ x.fcMode = 2 ∧ x.fcMode ≠ 1) := by decide +kernel
theorem witness_PauseEvents_timers :
    (let x := (fc 1 (fun x => { x with paused := [(0, 156250), (7, 156251)], heldSince := some 5 })).dev.port 2
     0 ∈ tkeys x.paused ∧ tget 0 x.paused 0 ≤ sampleUnits ∧ 7 ∈ tkeys x.paused ∧ (7 : Nat) ≠ 0 ∧
       sampleUnits < tget 0 x.paused 7 ∧ 3 ∉ tkeys x.paused) ∧
    (let x := (fc 1 (fun x => { x with paused := [(7, 9)], heldSince := some 5 })).dev.port 2
     (∀ b ∈ tkeys x.paused, b = 7) ∧ x.heldSince = some 5) ∧
    (let x := (fc 1 (fun x => { x with heldNow := 50 * 5000000 + 1 })).dev.port 2
     x.limitMs ≠ 0 ∧ x.holdoff = false ∧ x.limitMs * 5000000 < x.heldSum + 0 ∧ x.heldSince = none) ∧
    (let x := (fc 1 id).dev.port 2
     x.heldSum + 0 ≤ x.limitMs * 5000000) ∧
    (let x := (fc 1 (fun x => { x with holdoff := true, holdoffLeft := 1 })).dev.port 2
     x.holdoff = true ∧ x.holdoffLeft ≤ 1) := by decide +kernel
theorem witness_PauseEvents_own :
    (let x := (fc 1 (fun x => { x with ownPause := some 320, fill := 49152, sincePause := 300 })).dev.port 2
     x.ownPause = some 320 ∧ 49152 ≤ x.fill ∧ 16384 * x.quantum < (x.sincePause + 1) * sampleUnits) ∧
    (let x := (fc 1 (fun x => { x with ownPause := some 319 })).dev.port 2
     x.ownPause = some 319 ∧ x.fill < 49152) ∧
    (let x := (fcAt 1 2 (fun x => { x with suppress := 1, fill := 49152 })).dev.port 1
     x.suppress ≤ 1 ∧ x.fcMode = 2 ∧ 49152 ≤ x.fill ∧ x.ownPause = none) ∧
    (let x := (fc 2 (fun x => { x with suppress := 2 })).dev.port 2
     2 ≤ x.suppress ∧ x.ownPause = none ∧ ¬(x.fcMode = 1 ∨ x.fcMode = 2 ∧ 2 < 2)) := by decide +kernel
theorem witness_PauseEvents_pick :
    let y : EgItem := ⟨7, ⟨1, 2, none, .pdelayReq 3⟩, 64, none, none⟩
    let s := (portWith 1 (fun x => { x with link := true, speed := 2 })).dev.setEgress 1 { Egress.reset with queue := [y] }
    s.pick 1 100 = some y := by decide +kernel

def netWith (f : NetTime → NetTime) (g : Port → Port) : State := upWith (fun d =>
  { d with net := f { d.net with cfg := d.net.cfg ||| 0x31 }, pwr := { d.pwr with rstOut := false } }.setPort 1 (g
    { Port.reset with link := true, pdelay := 0 }))
def sync1 : SyncIn := ⟨1, headOf 0x88F7, headOf 0x88F7, 0, 7, 3, 3, -3, 1000, 5000000⟩
theorem witness_NetworkTimeEvents_sync :
    (let s := netWith (fun n => { n with slavePort := 2, gmPresent := true, gm := 7 }) id
     s.up ∧ s.dev.ptpOn 1 = true ∧ sync1.domain = s.dev.net.domain ∧ s.dev.net.slavePort.toNat = sync1.port + 1 ∧
       s.dev.net.gmPresent = true ∧ sync1.gm = s.dev.net.gm ∧ s.dev.net.discard = 0 ∧ sync1.syncSeq = sync1.followSeq ∧
       (s.dev.port 1).pdelay.toNat ≤ 800 ∧ -5 ≤ sync1.logInterval ∧ sync1.logInterval ≤ 0 ∧ s.dev.plyTime = false ∧
       s.dev.net.pps = false) ∧
    (netWith (fun n => { n with discard := 2 }) id).dev.net.discard ≠ 0 ∧
    (netWith (fun n => { n with slavePort := 1 }) id).dev.net.slavePort.toNat ≠ sync1.port + 1 ∧
    ptpHead sync1.head = true ∧ ptpHead sync1.followHead = true ∧ ptpHead (taggedOf 0x88F7) = false ∧
    ((netWith id id).dev.port 1).rxOk sync1.head = true ∧
    ((netWith id (fun x => { x with fill := 65536 })).dev.port 1).rxOk sync1.head = false ∧
    ((netWith id id).dev.port 1).rxOk { headOf 0x88F7 with fcsOk := false } = false := by decide +kernel
theorem witness_NetworkTimeEvents_announce :
    (let a : AnnounceIn := ⟨1, headOf 0x88F7, 0, 5, 7, 37, true, 1000⟩
     let s := netWith id id
     ptpHead a.head = true ∧ (s.dev.port a.port).rxOk a.head = true ∧ s.dev.ptpOn a.port = true ∧ a.domain = s.dev.net.domain ∧
       ((netWith id (fun x => { x with fill := 65409 })).dev.port 1).rxOk a.head = false) ∧
    (let s := netWith id (fun x => { x with master := some ⟨5, 7, 37, true, 1000, 3000⟩ })
     s.dev.ptpOn 1 = true ∧ (s.dev.port 1).master = some ⟨5, 7, 37, true, 1000, 3000⟩ ∧ 3 * 1000 ≤ 3000) ∧
    (netWith id id).dev.ptpOn 2 = false ∧ ((netWith id id).dev.port 1).master = none := by decide +kernel
theorem witness_NetworkTimeEvents_pdelay :
    (let s := netWith id (fun x => { x with pdelayAge := 1000, pdelaySeq := 4 })
     (s.dev.port 1).fill ≤ 65464 ∧ 65464 < ((netWith id (fun x => { x with fill := 65465 })).dev.port 1).fill ∧
     s.dev.maySend 1 = true ∧ s.dev.ptpOn 1 = true ∧ 1000 ≤ (s.dev.port 1).pdelayAge ∧ (5 : BitVec 16) ≠ (s.dev.port 1).pdelaySeq) ∧
    (netWith id id).dev.maySend 0 = false := by decide +kernel
theorem witness_NetworkTimeEvents_pps :
    (let s := netWith (fun n => { n with cfg := n.cfg ||| 2, ppsInOk := true, ppsDue := true, ppsLast := some 0 }) id
     let s := { s with dev := { s.dev with tb := { s.dev.tb with ran := 1001, sample := 31 } } }
     s.dev.net.pps = true ∧ s.dev.net.ppsDue = true ∧ s.dev.net.ppsLast = some 0 ∧
       0 + 1001000000 < s.dev.tb.ran * 1000000 + (s.dev.tb.sample + 1) * 31250) ∧
    (netWith (fun n => { n with ppsOut := some 0 }) id).dev.net.ppsOut = some 0 ∧
    (netWith id id).dev.net.ppsOut ≠ some 0 := by decide +kernel
theorem witness_NetworkTimeEvents_mdio :
    writeAdmitted (regCmd 0x0B10 0x50000000) (netWith id id) ∧
    (netWith (fun n => { n with mdioBusy := true, mdio := 0x20000000 }) id).dev.net.mdioBusy = true ∧
    (netWith id id).dev.pwr.rstOut = false ∧ (upWith id).dev.pwr.rstOut = true ∧
    (netWith id id).dev.net.mdioBusy = false := by decide +kernel

/-- One quantum of 512 bit times at 1,000 Mbit/s, 2,560 units of 0.2 ns, pauses every class (R211). -/
theorem test_pauseFrameReceive :
    after (.pauseFrameReceive 2 (.pause 1) 0 0) (fc 1 id) (fun t => tget 0 (t.dev.port 2).paused 7 == 2560 &&
      (t.dev.port 2).pauseRxCnt == 1) = true := by decide +kernel
/-- A link that goes down clears its status (R201). -/
theorem test_linkDown :
    after (.linkDown 2) (portWith 2 (fun x => { x with link := true, sync := true, speed := 1 })) (fun t =>
      !(t.dev.port 2).link && !(t.dev.port 2).sync && (t.dev.port 2).speed == 0) = true := by decide +kernel
/-- A read over MDIO that nobody answers gives 16#FFFF (R228). -/
theorem test_mdioComplete :
    after (.mdioComplete none) (netWith (fun n => { n with mdioBusy := true, mdio := 0x20000000 }) id) (fun t =>
      t.dev.net.mdio == 0x2000FFFF && !t.dev.net.mdioBusy) = true := by decide +kernel

/-! ### Ply pairs -/

/-- A ply frame of the twin: KIND, role and PAIR_ID, serial number 9, PLY_SEQ 5, FRAME 100. -/
def plyHead (kind role len pair : Nat) : BitVec 256 :=
  put 256 8 1#8 ||| put 256 16 (BitVec.ofNat 8 kind) ||| put 256 24 (BitVec.ofNat 8 role) |||
    put 256 48 (BitVec.ofNat 16 len) ||| put 256 64 9#64 ||| put 256 128 (BitVec.ofNat 32 pair) ||| put 256 160 5#32 |||
    put 256 192 100#64
def plyFrameOf (kind role pair : Nat) (pl : List Byte) : List Byte :=
  let b := leBytes 32 (plyHead kind role pl.length pair).toNat ++ pl
  b ++ leBytes 4 (crc32 b).toNat
/-- Such a frame passes its CRC. -/
theorem plyParse_frame (kind role pair : Nat) (pl : List Byte)
    (h : (fld (plyHead kind role pl.length pair) 48 16).toNat = pl.length) :
    plyParse (plyFrameOf kind role pair pl) = some (plyHead kind role pl.length pair, pl) := by
  set x := plyHead kind role pl.length pair with hx
  have e : plyFrameOf kind role pair pl =
      leBytes 32 x.toNat ++ pl ++ leBytes 4 (crc32 (leBytes 32 x.toNat ++ pl)).toNat := rfl
  set c := leBytes 4 (crc32 (leBytes 32 x.toNat ++ pl)).toNat with hc
  have hl : (leBytes 32 x.toNat).length = 32 := leBytes_length ..
  have hs : slice (leBytes 32 x.toNat ++ pl ++ c) 0 32 = leBytes 32 x.toNat := by
    simp only [slice, List.drop_zero, List.append_assoc]
    rw [List.take_append_of_le_length (by omega), List.take_of_length_le (by omega), hl]
    simp
  have hb : leBits 256 (leBytes 32 x.toNat) = x := by
    rw [leBits_leBytes 256 32 _ rfl, BitVec.ofNat_toNat, BitVec.setWidth_eq]
  have ht : (leBytes 32 x.toNat ++ pl ++ c).take (32 + pl.length) = leBytes 32 x.toNat ++ pl := by
    rw [List.take_append_of_le_length (by simp), List.take_of_length_le (by simp)]
  have hd : (leBytes 32 x.toNat ++ pl ++ c).drop (32 + pl.length) = c := by
    rw [List.drop_append_of_le_length (by simp), List.drop_of_length_le (by simp), List.nil_append]
  have hp : ((leBytes 32 x.toNat ++ pl ++ c).drop 32).take pl.length = pl := by
    rw [List.append_assoc, List.drop_append_of_le_length (by omega), List.drop_of_length_le (by omega), List.nil_append,
      List.take_append_of_le_length (by omega), List.take_of_length_le (by omega)]
  have hcl : (leBytes 32 x.toNat ++ pl ++ c).length = 36 + pl.length := by simp [hc]; omega
  unfold plyParse
  rw [e]
  simp only [hs, hb, h, ht, hd, hp, hcl]
  rw [hc, leBits_leBytes 32 4 _ rfl, BitVec.ofNat_toNat, BitVec.setWidth_eq]
  simp
def plyState (role : Role) (f : Ply → Ply) : State := upWith (fun d => { d with
  tb := { d.tb with frame := 100 }, ply := f { d.ply with role := role, pairId := 0x77, linkOk := true, rxSeq := some 4 } })
def statusPayload : List Byte := List.replicate 48 0

theorem witness_PlyFramesReceived_checks :
    plyParse [1, 2, 3] = none ∧
    plyAccepted 1 (plyFrameOf 1 0 0x77 statusPayload) (plyState .trailing id) (plyHead 1 0 48 0x77) statusPayload ∧
    plyCalm (plyHead 1 0 48 0x77) (plyState .trailing id).dev.ply ∧
    (fld (plyHead 1 0 48 0x77) 16 8).toNat ≠ 2 ∧
    (fld (plyHead 2 0 24 0x78) 128 32 ≠ (plyState .leading id).dev.ply.pairId ∧
      (fld (plyHead 2 0 24 0x78) 16 8).toNat = 2 ∧ (2 : Nat) ≠ 1) ∧
    (plyState .solo (fun p => { p with rxSeq := some 3 })).dev.ply.rxSeq = some 3 ∧
    fld (plyHead 1 0 48 0x77) 160 32 ≠ (3 : BitVec 32) + 1 := by
  refine ⟨by decide +kernel, ⟨?_, ?_, ?_, ?_⟩, ⟨?_, ?_, ?_, ?_⟩, ?_, ?_, ?_, ?_⟩
  · exact plyParse_frame 1 0 0x77 statusPayload (by decide +kernel)
  · decide +kernel
  · decide +kernel
  · exact Or.inl (by decide +kernel)
  · exact Or.inr ⟨4, by decide +kernel, by decide +kernel⟩
  all_goals decide +kernel
theorem witness_PlyFramesReceived_fits :
    ((plyState .trailing id).dev.port 2).rxOk (Machine.plyHead (plyFrameOf 2 0 0x77 (leBytes 24 0))) = true ∧
    ((plyState .trailing id).dev.port 2).rxOk (Machine.plyHead [1, 2, 3]) = true ∧
    ((upWith (fun d => d.setPort 2 { Port.reset with fill := 65536 })).dev.port 2).rxOk (Machine.plyHead [1, 2, 3]) = false := by
  decide +kernel
/-- The roles that a STATUS meets: each case of the role table at one state. -/
theorem witness_PlyFramesReceived_status :
    (plyState .solo id).dev.ply.pairId = 0x77 ∧ fld (plyHead 1 2 48 0x77) 128 32 = (0x77 : BitVec 32) ∧
    (fld (plyHead 1 0 48 0x77) 24 8).toNat = 0 ∧ (fld (plyHead 1 2 48 0x77) 24 8).toNat = 2 ∧
    (plyState .solo id).dev.lineStates = 0 ∧
    (upWith (fun d => d.setLine 3 { Line.reset with st := .on, gate := true })).dev.lineStates ≠ 0 ∧
    fld (leBits 384 (slice statusPayload 0 48) : BitVec 384) 256 48 = (0 : BitVec 48) ∧
    fld (leBits 384 (slice (List.replicate 32 0 ++ List.replicate 16 255) 0 48) : BitVec 384) 256 48 ≠ (0 : BitVec 48) ∧
    (plyState .trailing (fun p => { p with mismatchRun := 2 })).dev.ply.mismatchRun = 2 := by decide +kernel

def mirrorEntry : List Byte := leBytes 24 (put 192 0 131071#17 ||| put 192 64 5#64 : BitVec 192).toNat
theorem witness_PlyFramesReceived_mirror :
    plyParse (plyFrameOf 2 0 0x77 mirrorEntry) = some (plyHead 2 0 24 0x77, mirrorEntry) ∧ mirrorEntry.length = 24 ∧
    (let o := (upWith (fun d => d.setPoint 131071 { Point.reset with mirrored := true, ptype := 2 })).dev.point 131071
     o.mirrored = true ∧ o.srcKind = 0 ∧ o.subst = false ∧ o.quarantined = false) ∧ (fld (leBits 192 mirrorEntry : BitVec 192) 0 17).toNat = 131071 := by
  decide +kernel

/-- A CATCHUP payload with one item. -/
def catchOne (cut : Bool) (kind index len : Nat) : List Byte :=
  leBytes 16 (put 128 66 1#16 ||| putB 128 64 cut : BitVec 128).toNat ++
    leBytes 4 (put 32 30 (BitVec.ofNat 2 kind) ||| put 32 24 (BitVec.ofNat 6 len) ||| put 32 0 (BitVec.ofNat 17 index) :
      BitVec 32).toNat ++ List.replicate len 0
def catchHead (pl : List Byte) : BitVec 128 := leBits 128 (slice pl 0 16)
def itemsOf (pl : List Byte) : Option (List CatchItem) := catchParse (fld (catchHead pl) 66 16).toNat (pl.drop 16)
theorem witness_PlyFramesReceived_catchup :
    plyParse (plyFrameOf 3 2 0x77 (catchOne false 0 7 16)) = some (plyHead 3 2 36 0x77, catchOne false 0 7 16) ∧
    (plyState .joining id).dev.ply.role = .joining ∧ (plyState .leading id).dev.ply.role ≠ .joining ∧
    itemsOf (catchOne false 0 7 16) = some [⟨0, 7, List.replicate 16 0⟩] ∧
    itemsOf (catchOne false 1 2047 36) = some [⟨1, 2047, List.replicate 36 0⟩] ∧
    itemsOf (catchOne false 2 131071 20) = some [⟨2, 131071, List.replicate 20 0⟩] ∧
    itemsOf (catchOne false 1 2048 36) = none ∧ itemsOf (catchOne false 3 0 4) = none ∧
    bit (catchHead (catchOne false 0 7 16)) 64 = false ∧ bit (catchHead (catchOne true 0 7 16)) 64 = true ∧
    (itemsOf (catchOne true 0 7 16)).isSome = true ∧
    (plyState .joining (fun p => { p with cutIn := some ⟨0, [], false, false⟩ })).dev.ply.cutIn = some ⟨0, [], false, false⟩ := by
  decide +kernel
theorem witness_PlyFramesReceived_point :
    (let o := (upWith (fun d => d.setPoint 131071 { Point.reset with ptype := 2, srcKind := 2 })).dev.point 131071
     (o.srcKind = 2 ∨ (o.srcKind = 3 ∧ o.srcIndex.toNat < 2048)) ∧ o.subst = false ∧ o.quarantined = false) ∧
    (let o := (upWith (fun d => d.setPoint 131071 { Point.reset with ptype := 2, srcKind := 3, srcIndex := 2048 })).dev.point 131071
     ¬(o.srcKind = 2 ∨ (o.srcKind = 3 ∧ o.srcIndex.toNat < 2048))) := by decide +kernel
/-- The cutover sets: one already done, one of the same frame, a new one in its time and one past it, with a gap. -/
theorem witness_PlyFramesReceived_cut :
    (let at_ (f : W64) (k : Nat) : State := upWith (fun d => { d with tb := { d.tb with frame := f, sample := k } })
     (at_ 1 1).dev.cutOver 0 = false ∧ (at_ 1 2).dev.cutOver 0 = true ∧ (at_ 2 0).dev.cutOver 0 = true) ∧
    (plyState .joining (fun p => { p with cutDone := some 0 })).dev.ply.cutDone = some 0 ∧
    fld (catchHead (catchOne true 0 7 16)) 0 64 = (0 : W64) ∧
    (let p := (plyState .joining (fun p => { p with cutDone := some 9, cutIn := some ⟨1, [], false, true⟩, joinStep := 5 })).dev.ply
     p.cutDone ≠ some 0 ∧ (∃ x, p.cutIn = some x ∧ x.frame ≠ 0) ∧ p.joinStep = 5) ∧
    (plyState .joining id).dev.ply.cutIn = none ∧ (plyState .joining id).dev.ply.cutDone = none ∧
    (plyState .joining id).dev.cutGap 0 = false := by
  refine ⟨by decide +kernel, by decide +kernel, by decide +kernel, ⟨by decide +kernel, ⟨_, rfl, by decide +kernel⟩, by decide +kernel⟩,
    by decide +kernel, by decide +kernel, by decide +kernel⟩
theorem witness_PlyFramesReceived_notice :
    ((plyState .trailing id).dev.tb.frame < (fld (leBits 64 (leBytes 8 0x6504) : W64) 8 56).setWidth 64) ∧
    ((fld (leBits 64 (leBytes 8 0x6404) : W64) 8 56).setWidth 64 ≤ (plyState .trailing id).dev.tb.frame) ∧
    plyParse (plyFrameOf 4 2 0x77 (leBytes 8 6)) = some (plyHead 4 2 8 0x77, leBytes 8 6) ∧
    ((fld (leBits 64 (slice (leBytes 8 6) 0 8) : W64) 0 8).toNat = 6) ∧ (plyState .trailing id).dev.ply.role = .trailing ∧
    (plyState .leading id).dev.ply.twinState ≠ .lost := by decide +kernel

def sweepOf (pos : Option Nat) (frozen : Option (W64 × List CatchItem)) (age : Nat) : Sweep := ⟨[], pos, age, frozen, none⟩
def leader (w : Sweep) (f : Dev → Dev) : State := upWith (fun d => f { d with ply := { d.ply with
  role := .leading, latch := false, sweep := some w, pairId := 0x77 } })
/-- A module with one point that a frame-rate loop produces. -/
def onePoint (d : Dev) : Dev := d.setPoint 8 { Point.reset with ptype := 2, srcKind := 3, srcIndex := 5 }
theorem witness_JoinAndLoss_sends :
    (let s := leader (sweepOf none (some (9, [⟨0, 1, []⟩])) 0) id
     s.up ∧ s.dev.ply.sweep = some (sweepOf none (some (9, [⟨0, 1, []⟩])) 0) ∧ s.dev.ply.latch = false ∧
       s.dev.ply.role = .leading) ∧
    (let s := leader (sweepOf (some 0) none 0) onePoint
     (sweepOf none (some (9, [])) 0).frozen ≠ none ∧ (sweepOf (some 0) none 0).frozen = none ∧ fitItems 204 4080 (s.dev.passItems 0) ≠ []) ∧
    ((leader (sweepOf (some 0) none 0) id).dev.passItems 0 = []) ∧
    (let s := leader (sweepOf none none 0) onePoint
     fitItems 204 4080 (s.dev.dirtyItems (sweepOf none none 0)) ≠ []) ∧
    fitItems 204 4080 ((leader (sweepOf none none 0) id).dev.dirtyItems (sweepOf none none 0)) = [] ∧
    (upWith id).dev.ply.sweep = none := by decide +kernel
theorem witness_JoinAndLoss_cutover :
    (let c : CutIn := ⟨100, [], false, true⟩
     let s := upWith (fun d => { d with tb := { d.tb with frame := 101, sample := 2 }, ply := { d.ply with
       role := .joining, joinStep := 6, cutIn := some c } })
     s.up ∧ s.dev.ply.cutIn = some c ∧ s.dev.cutDue = true ∧ c.ended = true ∧ c.bad = false ∧ s.dev.ply.joinStep = 6 ∧
       s.dev.tb.frame = c.frame + 1 ∧ fld s.dev.ply.twinLineState (3 * 15) 3 = (0 : BitVec 3)) ∧
    (let s := upWith (fun d => { d with tb := { d.tb with frame := 102 }, ply := { d.ply with
       role := .joining, cutIn := some ⟨100, [], false, true⟩ } })
     s.dev.cutDue = true ∧ s.dev.tb.frame ≠ 100 + 1) ∧ (upWith id).dev.cutDue = false := by decide +kernel
theorem witness_JoinAndLoss_timers :
    (let s := leader (sweepOf none none 60000) id
     s.dev.ply.role = .leading ∧ 60000 ≤ (sweepOf none none 60000).age ∧ s.dev.ply.catchupTries.toNat < 3) ∧
    (let p := (upWith (fun d => { d with ply := { d.ply with role := .joining, joinStep := 4, stepAge := 1000 } })).dev.ply
     p.role = .joining ∧ 2 ≤ p.joinStep ∧ p.joinStep ≤ 4 ∧ 1000 ≤ p.stepAge ∧ p.stepTold = false) ∧
    (let p := (upWith (fun d => { d with ply := { d.ply with linkOk := true, linkAge := some 9 } })).dev.ply
     p.linkOk = true ∧ p.linkDue = true) ∧ (upWith id).dev.ply.linkOk = false ∧
    (let p := (upWith (fun d => { d with ply := { d.ply with hbOk := true } })).dev.ply
     p.hbOk = true ∧ p.hbRun = 0) ∧ (upWith id).dev.ply.hbOk = false := by decide +kernel
theorem witness_JoinAndLoss_mirrored :
    let x : Point := { Point.reset with mirrored := true, mirProduced := true, quality := 0 }
    let s := upWith (fun d => d.setPoint 8 x)
    (let y : Point := { x with quality := 2, detail := 8 }
     let u := upWith (fun d => { d with ply := { d.ply with twinState := .lost } }.setPoint 8 y)
     (8, y) ∈ u.dev.ps.points ∧ ∀ z ∈ u.dev.ps.points, z.1 = 8 → u.dev.lostMirror z.2 = true) ∧
    s.dev.lostMirror x = false ∧ (8, x) ∈ s.dev.ps.points ∧ x = s.dev.point 8 ∧ x.srcKind = 0 ∧ x.subst = false ∧ x.quarantined = false := by
  decide +kernel
theorem witness_JoinAndLoss_gone :
    (let s := upWith (fun d => { d with ply := { d.ply with role := .trailing, twinState := .ok, lossRun := 8 } })
     let p := s.dev.ply
     (if p.twinWarn then 2 else p.lossFr.toNat) ≤ p.lossRun ∧ (∀ k ∈ s.dev.onStrands, 2 ≤ tget 0 p.lossCyc k) ∧
       p.role = .trailing ∧ p.twinState ≠ .lost) ∧
    (upWith id).dev.ply.role = .solo := by decide +kernel

def swapState (role : Role) (ack twin : Bool) (frame : W64) : State := upWith (fun d => { d with
  tb := { d.tb with frame := frame }, ply := { d.ply with role := role, yieldAt := some 104, yieldAck := ack, yieldTwin := twin } })
theorem witness_YieldAndDigests_swap :
    (let s := swapState .leading true false 104
     s.up ∧ s.dev.ply.yieldAt = some 104 ∧ (104 : W64) ≤ s.dev.tb.frame ∧ s.dev.ply.role = .leading ∧ s.dev.ply.yieldAck = true) ∧
    (let s := swapState .trailing false true 104
     s.dev.ply.role = .trailing ∧ s.dev.ply.yieldTwin = true) ∧
    (let s := swapState .leading false false 100
     s.dev.ply.role = .leading ∧ s.dev.ply.yieldAck = false ∧ (104 : W64).toNat ≤ s.dev.tb.frame.toNat + 4) ∧
    (swapState .leading false false 99).dev.tb.frame.toNat + 4 < (104 : W64).toNat ∧ (upWith id).dev.ply.yieldAt = none := by
  decide +kernel
theorem witness_YieldAndDigests_self :
    (let s := upWith (fun d => { d with ply := { d.ply with
       role := .leading, twinState := .ok, twinRole := 3, selfRun := tset 0 [] 15 16 } }.setLine 15 { Line.reset with
         st := .on, gate := true })
     s.dev.ply.yieldCyc.toNat ≠ 0 ∧ s.dev.yieldOk = true ∧ 15 ∈ s.dev.onStrands ∧
       s.dev.ply.yieldCyc.toNat ≤ tget 0 s.dev.ply.selfRun 15) ∧
    (upWith id).dev.yieldOk = false := by decide +kernel
theorem witness_YieldAndDigests_digests :
    (let s := upWith (fun d => { d with ply := { d.ply with
       role := .leading, digestDue := tset none [] 5 (some 0), neqRun := tset 0 [] 5 1000 } })
     (tget none s.dev.ply.digestDue 5).isSome = true ∧ s.dev.paired = true ∧ tget 0 s.dev.ply.neqRun 5 = 1000 ∧
       tget none s.dev.ply.digestDue 0 = none) ∧
    (upWith id).dev.paired = false ∧
    (let p := (upWith (fun d => { d with ply := { d.ply with pairId := 0x77, healthAge := 1000 } })).dev.ply
     p.pairId ≠ 0 ∧ p.healthFr.toNat ≤ p.healthAge) ∧
    (upWith id).dev.strokes = true ∧ (upWith (fun d => { d with ply := { d.ply with latch := true } })).dev.strokes = false ∧ (upWith id).dev.ply.pairId = 0 := by decide +kernel

/-- A damaged ply frame is counted (R514). -/
theorem test_plyNoticeReceive :
    after (.plyNoticeReceive [1, 2, 3]) (plyState .leading id) (fun t => t.dev.ply.badCnt == 1 && t.dev.ply.rxSeq == some 4) = true := by
  decide +kernel
/-- A trailing module whose twin is gone leads (R520, R523). -/
theorem test_twinLost :
    after .twinLost (upWith (fun d => { d with ply := { d.ply with role := .trailing, twinState := .ok, lossRun := 8 } }))
      (fun t => t.dev.ply.role == .leading && t.dev.ply.twinState == .lost && t.dev.ply.lostCnt == 1) = true := by decide +kernel

/-! ### Sessions and keys -/

/-- A handshake frame for the module of serial number 0: HS_ID 3, a message and its body. -/
def hsFrame (msg : Nat) (body : List Byte) : HsIn :=
  ⟨1, taggedOf 0x88B6, 0x020000000001, leBytes 16 (put 128 0 1#8 ||| put 128 8 (BitVec.ofNat 8 msg) |||
    put 128 16 (BitVec.ofNat 16 body.length) ||| put 128 32 3#32 : BitVec 128).toNat ++ body⟩
def secWith (f : Sec → Sec) (g : Dev → Dev) : State := upWith (fun d => g { d with sec := f d.sec })
/-- Slot 0 holds a key: the base point of P-256, X then Y, as the entries hold them. -/
def baseX : Nat := 0x6B17D1F2E12C4247F8BCE6E563A440F277037D812DEB33A0F4A13945D898C296
def baseY : Nat := 0x4FE342E2FE1A7F9B8EE7EB4A7C0F9E162BCE33576B315ECECBB6406837BF51F5
def keyed (d : Dev) : Dev := { d with flash := { d.flash with slots := tset [] [] 0 (beBytes 32 baseX ++ beBytes 32 baseY) } }
def helloBody (slot : Nat) : List Byte := leBytes 20 slot ++ beBytes 32 baseX ++ beBytes 32 baseY

theorem witness_SessionEvents_frames :
    (let x := (secWith id id).dev.port 1
     x.rxOk (taggedOf 0x88B6) = true ∧ x.takes 1 (taggedOf 0x88B6) = true ∧ (taggedOf 0x88B6).etherType = 0x88B6 ∧
       x.rxOk ⟨none, 0x88B6, 63, true⟩ = false ∧ (headOf 0x88B6).tag ≠ some (0, x.vid) ∧ x.rxOk (headOf 0x88B6) = true) := by
  decide +kernel
theorem witness_SessionEvents_parse :
    let s := secWith id id
    hsParse 1 84 (hsFrame 2 []) s.dev = none ∧ hsParse 1 84 (hsFrame 1 (helloBody 0)) s.dev = some (3, helloBody 0) ∧
      hsParse 3 208 (hsFrame 3 (List.replicate 208 0)) s.dev = some (3, List.replicate 208 0) ∧
      hsParse 7 132 (hsFrame 7 (List.replicate 132 0)) s.dev = some (3, List.replicate 132 0) ∧
      hsParse 6 16 (hsFrame 6 (List.replicate 16 0)) s.dev = some (3, List.replicate 16 0) := by decide +kernel
theorem witness_SessionEvents_hello :
    (let s := secWith id keyed
     let k := s.dev.sec
     k.session = false ∧ k.hs = none ∧ k.badSig = none ∧ s.dev.fuses.lifecycle = 1 ∧
       s.dev.helloKey ((helloBody 0).headD 0).toNat ≠ none ∧ k.entropyFail = false ∧
       (p256Point ((helloBody 0).drop 20)).isSome = true ∧ p256Point (List.replicate 64 0) = none) ∧
    (let s := secWith (fun k => { k with badSig := some (1000, 5) }) (fun d => { d with tb := { d.tb with sample := 5 } })
     s.dev.sec.badSig = some (1000, 5) ∧ ¬32000 + 5 < 32 * 1000 + s.dev.tb.sample) ∧
    (let s := secWith (fun k => { k with badSig := some (1000, 5) }) (fun d => { d with tb := { d.tb with sample := 6 } })
     s.dev.sec.badSig = some (1000, 5) ∧ 32000 + 5 < 32 * 1000 + s.dev.tb.sample) ∧
    (secWith id (fun d => { d with fuses := { d.fuses with lifecycle := 4 } })).dev.fuses.lifecycle = 4 ∧
    (secWith id id).dev.helloKey 0 = none ∧ (secWith (fun k => { k with entropyFail := true }) id).dev.sec.entropyFail = true := by
  decide +kernel
def aShake (age : Nat) : Handshake := ⟨3, 0, [], [], 5, 1, age, 7⟩
theorem witness_SessionEvents_finish :
    (secWith id id).dev.sec.hs = none ∧
    (let at_ (k : Nat) : State := secWith (fun x => { x with hs := some (aShake 1000) }) (fun d => { keyed d with tb := { d.tb with sample := k } })
     (∀ k, (at_ k).dev.sec.hs = some (aShake 1000)) ∧ (3 : Reg) = (aShake 1000).hsId ∧ (4 : Reg) ≠ (aShake 1000).hsId ∧
       32000 + (aShake 1000).sample < 32 * (aShake 1000).age + (at_ 8).dev.tb.sample ∧
       ¬32000 + (aShake 1000).sample < 32 * (aShake 1000).age + (at_ 7).dev.tb.sample) :=
  ⟨by decide +kernel, fun _ => rfl, by decide +kernel, by decide +kernel, by decide +kernel, by decide +kernel⟩
theorem witness_SessionEvents_enroll :
    (let s := secWith id id
     s.dev.fuses.lifecycle = 1 ∧ s.dev.enrolled = [] ∧ leNat ((List.replicate 132 0 : List Byte).drop 68) = 0) ∧
    (let s := secWith id (fun d => { keyed d with fuses := { d.fuses with lifecycle := 2 } })
     s.dev.fuses.lifecycle = 2 ∧ s.dev.enrolled = [0]) := by decide +kernel
theorem witness_SessionEvents_ends :
    (let s := secWith (fun k => { k with session := true, idle := 10000 }) id
     10000 ≤ s.dev.sec.idle ∧ s.dev.sec.session = true ∧ s.dev.sec.ending = none) ∧
    (let s := secWith (fun k => { k with session := true, ending := some ⟨1, 0⟩ }) (fun d => { d with tb := { d.tb with
       ran := 1, sample := 28 } })
     s.dev.sec.ending = some ⟨1, 0⟩ ∧ 0 < s.dev.tb.ran ∧ 28 ≤ s.dev.tb.sample) ∧
    (secWith id id).dev.sec.debug = false ∧ (secWith id id).dev.fuses.lifecycle = 1 ∧ (secWith id id).dev.sec.idle < 10000 := by
  decide +kernel

/-- A handshake older than 1 s ends with the reason TIMEOUT (R579). -/
theorem test_handshakeTimeout :
    after .handshakeTimeout (secWith (fun k => { k with hs := some (aShake 1001) }) id) (fun t => t.dev.sec.hs.isNone &&
      t.dev.sec.lastReason == 4 && t.dev.sec.failCnt == 1) = true := by decide +kernel
/-- The first key of a module in MANUFACTURE needs no signature (R577). -/
theorem test_enroll :
    after (.enroll (hsFrame 7 (leBytes 4 0 ++ List.replicate 64 1 ++ List.replicate 64 0))) (secWith id id) (fun t =>
      t.dev.slotKey 0 == List.replicate 64 1 && t.dev.flash.enrollCnt == 1) = true := by decide +kernel
/-- A session that ends closes every channel and abandons the update (R582). -/
theorem test_sessionClose :
    after .sessionClose (secWith (fun k => { k with session := true, ending := some ⟨1, 0⟩ }) (fun d =>
      { d with tb := { d.tb with ran := 1, sample := 28 }, upd := { d.upd with st := .opened } }.setChan 64 { Channel.reset with
        st := .opened })) (fun t => !t.dev.sec.session && (t.dev.chan 64).st == .closed && t.dev.upd.st == .idle) = true := by
  decide +kernel

/-! ### The cryptographic engines, by the examples of their standards -/

/-- SHA-256 of "abc" (FIPS 180). -/
theorem test_sha256 : sha256 [0x61, 0x62, 0x63] = beBytes 32 0xBA7816BF8F01CFEA414140DE5DAE2223B00361A396177A9CB410FF61F20015AD := by
  decide +kernel

end Sys2Proof.Tests
end

section
/-!
The safety island keeps apart from the rest of the block (R20, R432). Both directions go through what a command is: an event
of the island runs one function of the island whatever else stands (`exec_island`); every other command acts on the
module (`exec_keeps_isl`, from `exec_acts`).
-/
namespace Sys2Proof.Machine

/-- An event of the island runs one function of the island, the same one on every state of the block (R20). -/
theorem exec_island {i : Instr} (hi : i.isIsland = true) :
    ∃ f : Island → Island, ∀ s, exec i s = checked i (islandStep f s) := by
  cases i
  case islandTick x => exact ⟨islandTick x, fun _ => rfl⟩
  case safetyInputFall p => exact ⟨inputFall p, fun _ => rfl⟩
  case discrepancyTimeout k => exact ⟨discrepancyTimeout k, fun _ => rfl⟩
  case testPulse b => exact ⟨testPulse b, fun _ => rfl⟩
  case testPulseCheck a b => exact ⟨testPulseCheck a b, fun _ => rfl⟩
  case sealReread a b => exact ⟨sealReread a b, fun _ => rfl⟩
  case stpOverload b on => exact ⟨stpOverload b on, fun _ => rfl⟩
  case switchTestStep j => exact ⟨switchTestStep j, fun _ => rfl⟩
  case brakeTimeout j => exact ⟨brakeTimeout j, fun _ => rfl⟩
  case safetyFaultCleared u => exact ⟨faultCleared u, fun _ => rfl⟩
  case safeVddChange mv v => exact ⟨safeVddChange mv v, fun _ => rfl⟩
  case islandSelfTestEnd p => exact ⟨selfTestEnd p, fun _ => rfl⟩
  case islandOscFault => exact ⟨oscFault, fun _ => rfl⟩
  case maskWindowEnd a b => exact ⟨maskWindowEnd a b, fun _ => rfl⟩
  all_goals contradiction

/-- A command has one answer, so the next state holds the island that its known answer holds. -/
theorem isl_eq_of_exec {i : Instr} {s t u : State} (hx : exec i s = .next t) (hu : exec i s = .next u)
    (h : u.isl = s.isl) : t.isl = s.isl := by
  obtain rfl : u = t := Host.Outcome.next.inj (hu.symm.trans hx)
  exact h

/-- A pulse at PORST_N leaves the island, whatever its length (R603). -/
theorem porstAssert_keeps_isl {ns : Nat} {s t : State} (hx : exec (.porstAssert ns) s = .next t) : t.isl = s.isl := by
  change execPorstAssert ns s = .next t at hx
  unfold execPorstAssert at hx
  split at hx
  · obtain rfl := Host.Outcome.next.inj hx
    rfl
  · split at hx
    · contradiction
    · obtain rfl := Host.Outcome.next.inj hx
      exact (State.withDev_keeps _ s).1

/-- A command that is no event of the island leaves the island (R20). -/
theorem exec_keeps_isl {i : Instr} {s t : State} (hi : i.isIsland = false) (hx : exec i s = .next t) :
    t.isl = s.isl := by
  cases exec_acts i s with
  | stop _ e => exact absurd (e.symm.trans hx) nofun
  | island hi' => exact absurd hi' (ne_true_of_eq_false hi)
  | main _ _ _ e => exact isl_eq_of_exec hx e (State.withDev_keeps _ s).1
  | mainR _ _ _ e => exact isl_eq_of_exec hx e (State.withDev_keeps _ s).1
  | mainM _ _ _ e => exact isl_eq_of_exec hx e (State.withSram_keeps _ s).1
  | module _ _ _ e => exact isl_eq_of_exec hx e (State.withDev_keeps _ s).1
  | moduleM _ _ _ e => exact isl_eq_of_exec hx e (State.withSram_keeps _ s).1
  | pulse ns h => subst h; exact porstAssert_keeps_isl hx

/-- An event of the island that answers names a unit which exists, and answers the island that its function gives. -/
theorem island_event_next {i : Instr} (hi : i.isIsland = true) {s t : State} (hx : exec i s = .next t) :
    ∃ f : Island → Island, t = { s with isl := f s.isl } ∧ ∀ s', exec i s' = .next { s' with isl := f s'.isl } := by
  obtain ⟨f, hf⟩ := exec_island hi
  cases hw : i.wellFormed with
  | false => exact absurd ((checked_ill hw).symm.trans ((hf s).symm.trans hx)) nofun
  | true =>
    have he : ∀ s', exec i s' = .next { s' with isl := f s'.isl } := fun s' => (hf s').trans (checked_wf hw)
    exact ⟨f, Host.Outcome.next.inj (hx.symm.trans (he s)), he⟩

/-- Settles O3: an event of the island runs one function of the island, and the other commands leave the island. -/
theorem islandKeepsApart : Obligations.IslandKeepsApart := by
  intro i s t hx
  refine ⟨fun hi => ?_, fun hi => exec_keeps_isl hi hx⟩
  obtain ⟨f, rfl, hf⟩ := island_event_next hi hx
  refine ⟨rfl, fun s' hs => ?_⟩
  calc exec i s' = .next { s' with isl := f s'.isl } := hf s'
    _ = .next { s' with isl := f s.isl } := by rw [hs]

end Sys2Proof.Machine
end

section
/-!
A change of a point counts and is stamped (R55). Every update of a point ends in `storePoint`, which compares the record it
stores with the one before: so it is enough that what an update stores still holds the old count and the old stamp
(`Stamped.store`).
-/
namespace Sys2Proof.Machine

/-- No change in the sense of R55: VALUE, QUALITY and DETAIL are as they were. -/
def Unchanged (o n : Point) : Prop := n.value = o.value ∧ n.quality = o.quality ∧ n.detail = o.detail

/-- From `o` to `n` a point counts and stamps as R55 says: on a change, and on nothing else. -/
def Stamped (cal : W64) (o n : Point) : Prop :=
  (¬Unchanged o n → n.changeCnt = o.changeCnt + 1 ∧ n.tstamp = cal) ∧
    (Unchanged o n → n.changeCnt = o.changeCnt ∧ n.tstamp = o.tstamp)

/-- A point that an update leaves alone has not changed. -/
theorem Stamped.refl (cal : W64) (o : Point) : Stamped cal o o :=
  ⟨fun h => absurd ⟨rfl, rfl, rfl⟩ h, fun _ => ⟨rfl, rfl⟩⟩

/-- Reading a point after a store: the record as given where nothing changed, else counted and stamped (R55). -/
theorem storePoint_point_self (p : Nat) (x : Point) (cal : W64) (d : Dev) :
    (Unchanged (d.point p) x → (storePoint p x cal d).point p = x) ∧
      (¬Unchanged (d.point p) x → (storePoint p x cal d).point p = { x with
        changeCnt := (d.point p).changeCnt + 1, tstamp := cal, mirPending := x.mirPending || x.mirrored }) := by
  obtain ⟨y, alarms, subs, e, hy⟩ := storePoint_eq p x cal d
  have h : (storePoint p x cal d).point p = y := by
    rw [e]
    exact tget_tset_self ..
  rwa [h]

/-- A stored record that holds the count and the stamp of the one before counts and stamps as R55 says. -/
theorem Stamped.store {p : Nat} {x : Point} {d : Dev} (cal : W64)
    (hcnt : x.changeCnt = (d.point p).changeCnt) (hts : x.tstamp = (d.point p).tstamp) :
    Stamped cal (d.point p) ((storePoint p x cal d).point p) := by
  obtain ⟨hsame, hdiff⟩ := storePoint_point_self p x cal d
  by_cases h : Unchanged (d.point p) x
  · rw [hsame h]
    exact ⟨absurd h, fun _ => ⟨hcnt, hts⟩⟩
  · rw [hdiff h]
    exact ⟨fun _ => ⟨rfl, rfl⟩, fun h' => absurd h' h⟩

theorem produce_stamped (p : Nat) (v : W64) (q : BitVec 2) (det : BitVec 8) (cal : W64) (d : Dev) :
    Stamped cal (d.point p) ((produce p v q det cal d).point p) := by
  unfold produce
  dsimp only
  split
  · exact .refl ..
  · split
    · exact .store cal rfl rfl
    · exact .store cal rfl rfl

theorem produceQ_stamped (p : Nat) (q : BitVec 2) (det : BitVec 8) (cal : W64) (d : Dev) :
    Stamped cal (d.point p) ((produceQ p q det cal d).point p) := by
  unfold produceQ
  dsimp only
  split
  · exact .refl ..
  · exact .store cal rfl rfl

/-- A point whose source word names another producer takes nothing (R65). -/
theorem produceAs_other {kind index p : Nat} {d : Dev} (h : d.produces kind index p = false) (v : W64) (q : BitVec 2)
    (det : BitVec 8) (cal : W64) : produceAs kind index p v q det cal d = d :=
  if_neg (ne_true_of_eq_false h)

theorem produceAs_stamped (kind index p : Nat) (v : W64) (q : BitVec 2) (det : BitVec 8) (cal : W64) (d : Dev) :
    Stamped cal (d.point p) ((produceAs kind index p v q det cal d).point p) := by
  unfold produceAs
  split
  · exact produce_stamped ..
  · exact .refl ..

/-- A claim stores INITIAL, or the record as it is where a substitution is in force (R63, R72). -/
theorem claimPoint_stamped (kind index p : Nat) (d : Dev) :
    Stamped d.cal (d.point p) ((claimPoint kind index p d).point p) := by
  unfold claimPoint
  dsimp only
  split
  · exact .store _ rfl rfl
  · exact .store _ rfl rfl

theorem releasePoint_stamped (p : Nat) (d : Dev) : Stamped d.cal (d.point p) ((releasePoint p d).point p) := by
  unfold releasePoint
  dsimp only
  split
  · exact .refl ..
  · exact .store _ rfl rfl

/-- A producer that a point no longer names removes nothing from it (R64). -/
theorem releaseAs_other {kind index p : Nat} {d : Dev} (h : d.produces kind index p = false) :
    releaseAs kind index p d = d :=
  if_neg (ne_true_of_eq_false h)

theorem releaseAs_stamped (kind index p : Nat) (d : Dev) :
    Stamped d.cal (d.point p) ((releaseAs kind index p d).point p) := by
  unfold releaseAs
  split
  · exact releasePoint_stamped ..
  · exact .refl ..

/-- A host write is a change like any other, under a substitution too (R65, R72). -/
theorem pointWriteOne_stamped (part p : Nat) (e : PointElem) (d : Dev) :
    Stamped d.cal (d.point p) ((pointWriteOne part p e d).point p) := by
  unfold pointWriteOne
  dsimp only
  split
  · exact .store _ rfl rfl
  · exact .store _ rfl rfl

/-- The record that a POINT_CONFIG element stores: its fields, wiped and released where R73, R74 and R95 say so. -/
def configured (e : ConfigElem) (x : Point) : Point :=
  let y := e.fields x
  let wiped := decide (y.ptype ≠ x.ptype ∨ y.shift ≠ x.shift) || (x.quarantined && bit e.mask 5)
  let y := if wiped then { y with value := 0, quality := 3, detail := 1 } else y
  let y := if bit e.mask 5 then { y with quarantined := false } else y
  let ends := x.override && !y.override && (x.subst || x.substForce)
  if ends then { y with subst := false, substForce := false, quality := 3, detail := 1 } else y

/-- Configuring touches neither the count nor the stamp by itself. -/
theorem configured_keeps (e : ConfigElem) (x : Point) :
    (configured e x).changeCnt = x.changeCnt ∧ (configured e x).tstamp = x.tstamp := by
  constructor
  · simp [configured, ConfigElem.fields, apply_ite Point.changeCnt]
  · simp [configured, ConfigElem.fields, apply_ite Point.tstamp]

/-- A POINT_CONFIG element stores the configured record; what it reports leaves the points (R73, R74). -/
theorem pointConfigOne_point (p q : Nat) (e : ConfigElem) (d : Dev) :
    (pointConfigOne p e d).point q = (storePoint p (configured e (d.point p)) d.cal d).point q := by
  change (if (d.point p).override ≠ (configured e (d.point p)).override then
    report _ (storePoint p (configured e (d.point p)) d.cal d)
    else storePoint p (configured e (d.point p)) d.cal d).point q = _
  split
  · exact report_point ..
  · rfl

theorem pointConfigOne_stamped (p : Nat) (e : ConfigElem) (d : Dev) :
    Stamped d.cal (d.point p) ((pointConfigOne p e d).point p) := by
  obtain ⟨hcnt, hts⟩ := configured_keeps e (d.point p)
  rw [pointConfigOne_point]
  exact .store d.cal hcnt hts

/-- Settles O11: every update ends in a store of the old count and stamp, or leaves the module as it is. -/
theorem pointChanges : Obligations.PointChanges := by
  intro d p
  exact ⟨fun v q det cal => produce_stamped p v q det cal d,
    fun q det cal => produceQ_stamped p q det cal d,
    fun kind index v q det cal =>
      ⟨produceAs_stamped kind index p v q det cal d, fun h => produceAs_other h v q det cal⟩,
    fun kind index => ⟨claimPoint_stamped kind index p d, releaseAs_stamped kind index p d, releaseAs_other⟩,
    fun part e => pointWriteOne_stamped part p e d,
    fun e => pointConfigOne_stamped p e d⟩

end Sys2Proof.Machine
end

section
/-!
The block as a whole: what a command answers, what it does outside the main domain, and the invariant that every step keeps.
Each goes through what one command can do (`exec_acts`).
-/
namespace Sys2Proof.Machine

/-- Settles O1: `step` looks at the front of the queue and at nothing else. -/
theorem stepRunsFront : Obligations.StepRunsFront := by
  refine ⟨fun s c rest h => ?_, fun s h => ?_⟩
  · unfold step
    rw [h]
  · unfold step
    rw [h]

/-- A pulse at PORST_N answers a next state and leaves the queue, but for the lengths that the manual leaves open (R603). -/
theorem porstAssert_answers {ns : Nat} (h : ns < 100 ∨ 1000 ≤ ns) (s : State) :
    ∃ t, exec (.porstAssert ns) s = .next t ∧ t.pending = s.pending := by
  change ∃ t, execPorstAssert ns s = .next t ∧ t.pending = s.pending
  unfold execPorstAssert
  split
  · exact ⟨s, rfl, rfl⟩
  · rw [if_neg (by omega)]
    exact ⟨_, rfl, rfl⟩

/-- A pulse of 100 ns to 1 µs at PORST_N stops (R603). -/
theorem porstAssert_undefined {ns : Nat} (hlo : 100 ≤ ns) (hhi : ns < 1000) (s : State) :
    exec (.porstAssert ns) s = .fault .porstPulseUndefined := by
  change execPorstAssert ns s = _
  unfold execPorstAssert
  rw [if_neg (by omega), if_pos hhi]

/-- Every command checks that it names units which exist (log entry 3). -/
theorem exec_checked (i : Instr) (s : State) : ∃ a, exec i s = checked i a := by
  cases i <;> exact ⟨_, rfl⟩

/-- A command that names a unit which does not exist stops, whatever it does (log entry 3). -/
theorem exec_ill {i : Instr} (h : i.wellFormed = false) (s : State) : exec i s = .fault .noSuchUnit := by
  obtain ⟨a, e⟩ := exec_checked i s
  exact e.trans (checked_ill h)

/-- A command that names units which exist answers a next state and leaves the queue. -/
theorem exec_answers {i : Instr} (hw : i.wellFormed = true) (hns : ∀ ns, i = .porstAssert ns → ns < 100 ∨ 1000 ≤ ns)
    (s : State) : ∃ t, exec i s = .next t ∧ t.pending = s.pending := by
  cases exec_acts i s with
  | stop h _ => exact absurd (h.symm.trans hw) nofun
  | island _ _ _ e => exact ⟨_, e, rfl⟩
  | main _ _ _ e => exact ⟨_, e, rfl⟩
  | mainR _ _ _ e => exact ⟨_, e, rfl⟩
  | mainM _ _ _ e => exact ⟨_, e, rfl⟩
  | module _ _ _ e => exact ⟨_, e, rfl⟩
  | moduleM _ _ _ e => exact ⟨_, e, rfl⟩
  | pulse ns h => subst h; exact porstAssert_answers (hns ns rfl) s

/-- Settles O2: a command stops for a missing unit or an undefined pulse, and else answers with its queue as it was. -/
theorem everyCommandAnswers : Obligations.EveryCommandAnswers := by
  intro i s
  refine ⟨fun h => exec_ill h s, ?_, fun hw hns => exec_answers hw hns s⟩
  rintro ns rfl hlo hhi
  exact porstAssert_undefined hlo hhi s

/-- An operation of the module that does nothing is silent. -/
theorem State.silent_withDev {f : Dev → Dev} {s : State} (h : f s.dev.fresh0 = s.dev.fresh0) :
    s.silent (s.withDev f) s.dev := by
  have e : s.withDev f = s.after s.dev.fresh0 := by rw [State.withDev, h, State.after]
  rw [e]
  exact State.silent_after s

/-- So is one that reads and writes the retained SRAM and does nothing. -/
theorem State.silent_withSram {f : (Nat → Byte) → Dev → Dev} {s : State}
    (h : f (Memory.read s.sram) s.dev.fresh0 = s.dev.fresh0) : s.silent (s.withSram f) s.dev := by
  have e : s.withSram f = s.after s.dev.fresh0 := by rw [State.withSram, h]; rfl
  rw [e]
  exact State.silent_after s

/-- Settles O4: an operation of the main domain is guarded by that domain (log entry 3). -/
theorem mainDomainStands : Obligations.MainDomainStands := by
  intro i s hdown hw hi hp
  have stands (f : Dev → Dev) : whenMain f s.dev.fresh0 = s.dev.fresh0 := whenMain_down hdown
  cases exec_acts i s with
  | stop h _ => exact absurd (h.symm.trans hw) nofun
  | island h => exact absurd (h.symm.trans hi) nofun
  | main _ _ f e => exact ⟨_, e, State.silent_withDev (stands f)⟩
  | mainR _ _ f e => exact ⟨_, e, State.silent_withDev (stands _)⟩
  | mainM _ _ f e => exact ⟨_, e, State.silent_withSram (stands _)⟩
  | module _ h => exact absurd (h.symm.trans hp) nofun
  | moduleM _ h => exact absurd (h.symm.trans hp) nofun
  | pulse ns h => subst h; exact absurd hp nofun

/-- An operation of the module leaves nothing to be written, and the retained SRAM and the island alone. -/
theorem State.withDev_inv {f : Dev → Dev} {s : State} (h : s.inv) : (s.withDev f).inv := ⟨h.1, rfl, h.2.2⟩

/-- One that writes the retained SRAM keeps its canonical form. -/
theorem State.withSram_inv {f : (Nat → Byte) → Dev → Dev} {s : State} (h : s.inv) : (s.withSram f).inv :=
  ⟨Memory.wf_writeAll _ _ h.1, rfl, h.2.2⟩

/-- A pulse at PORST_N keeps the invariant of the block. -/
theorem porstAssert_inv {ns : Nat} {s t : State} (h : s.inv) (hx : exec (.porstAssert ns) s = .next t) : t.inv := by
  change execPorstAssert ns s = .next t at hx
  unfold execPorstAssert at hx
  split at hx
  · exact Host.Outcome.next.inj hx ▸ h
  · split at hx
    · contradiction
    · exact Host.Outcome.next.inj hx ▸ State.withDev_inv h

/-- Every command keeps the invariant of the block. -/
theorem exec_inv {i : Instr} {s t : State} (h : s.inv) (hx : exec i s = .next t) : t.inv := by
  have next {u : State} (e : exec i s = .next u) : u = t := Host.Outcome.next.inj (e.symm.trans hx)
  cases exec_acts i s with
  | stop _ e => exact absurd (e.symm.trans hx) nofun
  | island _ f hf e => exact next e ▸ ⟨h.1, h.2.1, hf s.isl h.2.2⟩
  | main _ _ f e => exact next e ▸ State.withDev_inv h
  | mainR _ _ f e => exact next e ▸ State.withDev_inv h
  | mainM _ _ f e => exact next e ▸ State.withSram_inv h
  | module _ _ f e => exact next e ▸ State.withDev_inv h
  | moduleM _ _ f e => exact next e ▸ State.withSram_inv h
  | pulse ns hi => subst hi; exact porstAssert_inv h hx

/-- Settles O5: an idle step changes nothing, and else the command at the front keeps the invariant. -/
theorem stepKeepsInv : Obligations.StepKeepsInv := by
  intro s t h hx
  unfold step at hx
  split at hx
  · exact Host.Outcome.next.inj hx ▸ h
  · next c rest _ => exact exec_inv (s := { s with pending := rest }) h hx

/-- Settles O6: every part of the block at reset is given outright. -/
theorem resetState : Obligations.ResetState :=
  ⟨⟨rfl, rfl, rfl⟩, rfl, rfl, rfl, fun _ => ⟨rfl, rfl⟩, fun _ => rfl, fun _ => rfl⟩

end Sys2Proof.Machine
end

section
/-!
The transitions of a strand's line state (R232 to R254). Each operation moves one line and reports (`Dev.movesLine`); what
goes to the line is the cut of a copy in transmission (`lineCuts`).
-/
namespace Sys2Proof.Machine

theorem Line.moves_refl (l : Line) : l.moves l := rfl

theorem Line.moves_trans {a b c : Line} (h1 : a.moves b) (h2 : b.moves c) : a.moves c := by
  unfold Line.moves at *
  rw [h2, h1]

theorem Line.leaveOn_moves (l : Line) : l.moves l.leaveOn := by
  unfold Line.leaveOn
  split <;> rfl

theorem Line.enter_moves (l : Line) (st : LineSt) : l.moves (l.enter st) :=
  Line.moves_trans (Line.leaveOn_moves l) rfl

theorem Line.failed_moves (l : Line) (b : Nat) : l.moves (l.failed b) :=
  Line.moves_trans (Line.enter_moves l _) rfl

/-- From `d` to `d'` line `k` alone has moved, beside what goes to the strand's line and what reports write. -/
def Dev.movesLine (k : Nat) (d d' : Dev) : Prop :=
  (d.line k).moves (d'.line k) ∧ (∀ j, j ≠ k → d'.line j = d.line j) ∧ d.reportsTo d' ∧
    d' = { d with lines := d'.lines, strands := d'.strands, out := d'.out, tr := d'.tr, rcd := d'.rcd, flt := d'.flt }

theorem Dev.movesLine_refl (k : Nat) (d : Dev) : d.movesLine k d :=
  ⟨Line.moves_refl _, fun _ _ => rfl, Dev.reportsTo_refl d, rfl⟩

theorem Dev.movesLine_trans {k : Nat} {a b c : Dev} (h1 : a.movesLine k b) (h2 : b.movesLine k c) : a.movesLine k c := by
  obtain ⟨hl, ho, hr, he⟩ := h1
  obtain ⟨hl', ho', hr', he'⟩ := h2
  refine ⟨Line.moves_trans hl hl', fun j hj => (ho' j hj).trans (ho j hj), Dev.reportsTo_trans hr hr', ?_⟩
  rw [he', he]

theorem setLine_movesLine {k : Nat} {d : Dev} {l : Line} (h : (d.line k).moves l) : d.movesLine k (d.setLine k l) := by
  refine ⟨?_, fun j hj => ?_, Dev.reportsTo_of_eq rfl rfl rfl, rfl⟩
  · rwa [Dev.line_setLine, if_pos rfl]
  · rw [Dev.line_setLine, if_neg hj]

theorem report_movesLine (k : Nat) (e : Event) (d : Dev) : d.movesLine k (report e d) := by
  refine ⟨?_, fun j _ => report_line e d j, report_reportsTo e d, ?_⟩
  · rw [report_line]
    exact Line.moves_refl _
  · have h := report_reportsOnly e d
    unfold Dev.reportsOnly at h
    rw [h]

theorem lineLeaveOn_movesLine (k : Nat) (d : Dev) : d.movesLine k (lineLeaveOn k d) := by
  refine ⟨?_, fun j hj => ?_, lineLeaveOn_reportsTo k d, ?_⟩
  · rw [lineLeaveOn_line, if_pos rfl]
    exact Line.leaveOn_moves _
  · rw [lineLeaveOn_line, if_neg hj]
  · have h := lineLeaveOn_keeps k d
    generalize lineLeaveOn k d = d' at h ⊢
    cases d'; cases d
    simp only at h
    simp only [h]

theorem lineEnter_movesLine (k : Nat) (st : LineSt) (d : Dev) : d.movesLine k (lineEnter k st d) :=
  Dev.movesLine_trans (lineLeaveOn_movesLine k d) (setLine_movesLine rfl)

theorem linePrecheck_movesLine (k : Nat) (w : Bool) (d : Dev) : d.movesLine k (linePrecheck k w d) :=
  Dev.movesLine_trans (lineEnter_movesLine k _ d) (setLine_movesLine rfl)

theorem lineFailure_movesLine (k b code : Nat) (d : Dev) : d.movesLine k (lineFailure k b code d) := by
  have h (st : LineSt) (f : Line → Line) (e : Event) (hf : ∀ l : Line, l.moves (f l)) :
      d.movesLine k (report e ((lineEnter k st d).modLine k f)) :=
    Dev.movesLine_trans (Dev.movesLine_trans (lineEnter_movesLine k st d) (setLine_movesLine (hf _))) (report_movesLine ..)
  unfold lineFailure
  dsimp only
  split
  · refine Dev.movesLine_trans (h _ _ _ ?_) (report_movesLine ..)
    exact fun _ => rfl
  · refine h _ _ _ ?_
    exact fun _ => rfl

/-- What goes to the line does not depend on what else the line holds. -/
theorem lineCuts_setLine {k : Nat} {d : Dev} {l : Line} (h : l.st = (d.line k).st) :
    (lineCuts k (d.setLine k l)).strands = (lineCuts k d).strands ∧ (lineCuts k (d.setLine k l)).out = (lineCuts k d).out := by
  have hc : (cutCopy k (d.setLine k l)).strands = (cutCopy k d).strands ∧
      (cutCopy k (d.setLine k l)).out = (cutCopy k d).out := by
    unfold cutCopy
    have hs : (d.setLine k l).strand k = d.strand k := rfl
    rw [hs]
    cases (d.strand k).cycle with
    | none => exact ⟨rfl, rfl⟩
    | some cy =>
      have hn : (d.setLine k l).cycleNow cy = d.cycleNow cy := rfl
      dsimp only
      rw [hn]
      split <;> exact ⟨rfl, rfl⟩
  unfold lineCuts
  rw [Dev.line_setLine, if_pos rfl, h]
  split
  · exact hc
  · exact ⟨rfl, rfl⟩

/-- Outside ON no copy is cut. -/
theorem lineCuts_off {k : Nat} {d : Dev} (h : (d.line k).st ≠ .on) : lineCuts k d = d := if_neg h

theorem cutsCopy_of_lineCuts {s t : State} {k : Nat} (hs : t.dev.strands = (lineCuts k s.dev.fresh0).strands)
    (ho : t.dev.out = (lineCuts k s.dev.fresh0).out) : cutsCopy s k t := by
  have hst (j : Nat) : t.dev.strand j = (lineCuts k s.dev.fresh0).strand j := congrArg (tget Strand.reset · j) hs
  unfold cutsCopy Dev.copySending
  simp only [hst, ho]
  unfold lineCuts
  have hl : s.dev.fresh0.line k = s.dev.line k := rfl
  have hk : s.dev.fresh0.strand k = s.dev.strand k := rfl
  have hc (cy : Cycle) : s.dev.fresh0.cycleNow cy = s.dev.cycleNow cy := rfl
  rw [hl]
  by_cases hon : (s.dev.line k).st = .on
  · rw [if_pos hon]
    unfold cutCopy
    rw [hk]
    cases hcy : (s.dev.strand k).cycle with
    | none => simp
    | some cy =>
      dsimp only
      rw [hc]
      by_cases hlt : s.dev.cycleNow cy < cy.txEnd
      · rw [if_pos hlt]
        simp +contextual [hon, hlt, Dev.emit, Dev.strand, Dev.setStrand, tget_tset]
      · rw [if_neg hlt]
        simp [hlt]
  · rw [if_neg hon]
    simp [hon]

/-- A frame shown by one equation: beside what reports write and what goes out, the module is `b`. -/
theorem State.frame_of_eq {s : State} {a b : Dev} (hr : b.reportsTo a)
    (h : a = { b with tr := a.tr, rcd := a.rcd, flt := a.flt, wire := a.wire, out := a.out, wr := a.wr }) (hw : a.wire = []) :
    s.frame (s.after a) b := by
  refine State.frame_after hr ?_ ?_ ?_ ?_ ?_ ?_ ?_ ?_ ?_ ?_ ?_ ?_ ?_ ?_ ?_ ?_ ?_ ?_ ?_ ?_ ?_ ?_ ?_ ?_ ?_ ?_ hw <;> rw [h]

/-- A command that moves one line, seen on the whole state. -/
theorem onlyLine_after {s : State} {k : Nat} {a : Dev} (h : s.dev.fresh0.movesLine k a)
    (hs : a.strands = (lineCuts k s.dev.fresh0).strands) (ho : a.out = (lineCuts k s.dev.fresh0).out) :
    onlyLine s k false (s.after a) := by
  obtain ⟨hl, hother, hr, he⟩ := h
  refine ⟨?_, fun j hj => ?_, cutsCopy_of_lineCuts ?_ ?_, ?_⟩
  · simpa using hl
  · simpa using hother j hj
  · simpa using hs
  · simpa using ho
  · rw [(State.after_dev s a).2.2.2.2.2.2.1, (State.after_dev s a).2.2.2.2.2.2.2.1]
    exact State.frame_of_eq (Dev.reportsTo_congr hr rfl rfl rfl) (by rw [he]; rfl) (by rw [he]; rfl)

/-- A command of the running main domain that names units which exist answers. -/
theorem Runs.mainChecked {i : Instr} {s : State} {f : Dev → Dev} {p : State → Prop}
    (hx : exec i s = checked i (mainStep f s)) (hw : i.wellFormed = true) (hs : s.up)
    (hp : p (s.after (f s.dev.fresh0))) : Runs i s p := Runs.main (hx.trans (checked_wf hw)) hs hp

/-- Such a command that does nothing is silent. -/
theorem Runs.stays {i : Instr} {s : State} {f : Dev → Dev} (hx : exec i s = checked i (mainStep f s))
    (hw : i.wellFormed = true) (hs : s.up) (hf : f s.dev.fresh0 = s.dev.fresh0) : Runs i s (fun t => s.silent t s.dev) :=
  Runs.mainChecked hx hw hs (hf.symm ▸ State.silent_after s)

/-- A counted failure (R241, R243), of a line whose peak alone may have been taken before. -/
theorem lineFailed_after {s : State} {k b : Nat} {a : Dev} {l : Line} (hcnt : l.failCnt = (s.dev.line k).failCnt)
    (hflt : l.fault = (s.dev.line k).fault) (hline : a.line k = l.failed b) (hm : s.dev.fresh0.movesLine k a)
    (hs : a.strands = (lineCuts k s.dev.fresh0).strands) (ho : a.out = (lineCuts k s.dev.fresh0).out) :
    lineFailed s k b (s.after a) := by
  have hline : (s.after a).dev.line k = l.failed b := by simpa using hline
  unfold lineFailed
  rw [hline]
  refine ⟨?_, ?_, fun h => ?_, fun h => ?_, onlyLine_after hm hs ho⟩
  · simp only [Line.failed, Line.enter]
    split <;> rfl
  · simp [Line.failed, hcnt]
  · have h8 : ¬ 8 ≤ min (l.failCnt + 1) 8 := by omega
    have hn : min (l.failCnt + 1) 8 - 1 = (s.dev.line k).failCnt := by omega
    simp [Line.failed, Line.enter, h8, hn, hflt, putB]
  · have h8 : 8 ≤ min (l.failCnt + 1) 8 := by omega
    simp [Line.failed, Line.enter, h8, hflt]

/-- A transition that goes on from ON as if it left it, seen on the whole state. -/
theorem onlyLine_quiet {s : State} {k : Nat} {a : Dev} (h : s.dev.fresh0.movesLine k a)
    (hs : a.strands = s.dev.strands) (ho : a.out = []) : onlyLine s k true (s.after a) := by
  obtain ⟨hl, hother, hr, he⟩ := h
  refine ⟨by simpa using hl, fun j hj => by simpa using hother j hj, ⟨by simpa using ho, by simpa using hs⟩, ?_⟩
  rw [(State.after_dev s a).2.2.2.2.2.2.1, (State.after_dev s a).2.2.2.2.2.2.2.1]
  exact State.frame_of_eq (Dev.reportsTo_congr hr rfl rfl rfl) (by rw [he]; rfl) (by rw [he]; rfl)

/-! ### The rows, one lemma for each -/

/-- A row in the cycle of the recorder that takes its triggers moves the line that it moves by itself. -/
theorem oneCycle_movesLine {k : Nat} {f : Dev → Dev} (h : ∀ d, Dev.movesLine k d (f d)) (d : Dev) :
    d.movesLine k (oneCycle f d) := by
  have same {a b : Dev} (hr : a.reportsOnly b) (ht : a.reportsTo b) : a.movesLine k b := by
    unfold Dev.reportsOnly at hr
    refine ⟨?_, fun j _ => ?_, ht, ?_⟩
    · rw [hr]
      exact Line.moves_refl _
    · rw [hr]
      rfl
    · rw [hr]
  unfold oneCycle
  split
  · exact h d
  · have hopen : d.movesLine k { d with rcd := { d.rcd with intake := some [] } } := same rfl ⟨fun _ => rfl, rfl, rfl, rfl⟩
    exact Dev.movesLine_trans (Dev.movesLine_trans hopen (h _)) (same (recordCycle_reportsOnly _) (recordCycle_reportsTo _))

/-- The module with another recorder. -/
def Dev.recorded (d : Dev) (r : Recorder) : Dev := { d with rcd := r }

/-- What such a row makes of the lines and of what goes out, it makes of a module that may differ in its recorder. -/
theorem oneCycle_lines (f : Dev → Dev) (d : Dev) : ∃ r, (oneCycle f d).lines = (f (d.recorded r)).lines ∧
    (oneCycle f d).strands = (f (d.recorded r)).strands ∧ (oneCycle f d).out = (f (d.recorded r)).out := by
  obtain ⟨r, h⟩ := oneCycle_keeps (fun d => (d.lines, d.strands, d.out)) f d (fun _ _ _ _ => rfl)
  simp only [Prod.mk.injEq] at h
  exact ⟨r, h⟩

/-- A row that does nothing does nothing in its cycle. -/
theorem oneCycle_id {f : Dev → Dev} {d : Dev} (h : ∀ r, f (d.recorded r) = (d.recorded r)) : oneCycle f d = d := by
  unfold oneCycle
  split
  · exact h d.rcd
  · next hn =>
    change recordCycle (f (d.recorded { d.rcd with intake := some [] })) = d
    rw [h]
    have he : d.rcd.intake = none := by simpa using hn
    have : ({ d.rcd with intake := none } : Recorder) = d.rcd := by rw [← he]
    simp [recordCycle, Dev.recorded, this]

theorem lineCuts_rcd (k : Nat) (d : Dev) (r : Recorder) :
    (lineCuts k (d.recorded r)).strands = (lineCuts k d).strands ∧ (lineCuts k (d.recorded r)).out = (lineCuts k d).out := by
  have hl : Dev.line (d.recorded r) k = d.line k := rfl
  have hs : Dev.strand (d.recorded r) k = d.strand k := rfl
  have hn (cy : Cycle) : Dev.cycleNow (d.recorded r) cy = d.cycleNow cy := rfl
  unfold lineCuts cutCopy
  simp only [hl, hs, hn]
  split
  · split
    · split <;> exact ⟨rfl, rfl⟩
    · exact ⟨rfl, rfl⟩
  · exact ⟨rfl, rfl⟩

/-- The line with the peak of a trip. -/
def Line.tripped (l : Line) (mA : Int) : Line := { l with peak := maxU l.peak (satNat 16 (min mA.toNat l.fullScale)) }

theorem fastTrip_due {k : Nat} {mA : Int} {d : Dev} (hp : (d.line k).powered = true)
    (h : ((d.line k).tripMa : Int) ≤ mA) :
    fastTrip k mA d = lineFailure k 1 0x0603 (d.setLine k ((d.line k).tripped mA)) := by
  simp [fastTrip, hp, h, Line.tripped]

theorem fastTrip_not_due {k : Nat} {mA : Int} {d : Dev} (h : (d.line k).powered = false ∨ mA < ((d.line k).tripMa : Int)) :
    fastTrip k mA d = d := by
  rcases h with h | h <;> simp [fastTrip, h]

theorem Line.overDue_iff {l : Line} : l.overDue = true ↔ l.powered = true ∧ 100 ≤ l.overRun := by simp [Line.overDue]

theorem Line.backDue_iff {l : Line} : l.backDue = true ↔ l.powered = true ∧ 2 ≤ l.backRun := by simp [Line.backDue]

theorem lineOverload_due {k : Nat} {d : Dev} (h : (d.line k).overDue = true) : lineOverload k d = lineFailure k 2 0x0604 d :=
  if_pos h

theorem lineBackfeed_over {k : Nat} {d : Dev} (h : (d.line k).overDue = true) : lineBackfeed k d = lineFailure k 2 0x0604 d := by
  simp [lineBackfeed, h, lineOverload]

/-- What a back-feed notes in the line before its precheck. -/
def Line.backFed (l : Line) : Line := { l with fault := l.fault ||| putB 12 9 true, overRun := 0, backRun := 0 }

theorem lineBackfeed_back {k : Nat} {d : Dev} (ho : (d.line k).overDue = false) (hb : (d.line k).backDue = true) :
    lineBackfeed k d = report (lineEvent 0x060B true k d) (linePrecheck k (d.tb.sample == 0)
      (d.setLine k (d.line k).backFed)) := by
  simp [lineBackfeed, ho, hb, Line.backFed]

theorem lineBackfeed_not_due {k : Nat} {d : Dev} (ho : (d.line k).overDue = false) (hb : (d.line k).backDue = false) :
    lineBackfeed k d = d := by
  simp [lineBackfeed, ho, hb]

/-- An overload that is due goes before a row. -/
theorem lineRow_over {k : Nat} {row : Dev → Dev} {d : Dev} (h : (d.line k).overDue = true) :
    lineRow k row d = lineFailure k 2 0x0604 d := by
  simp [lineRow, h, lineBackfeed_over]

/-- So does a back-feed. -/
theorem lineRow_back {k : Nat} {row : Dev → Dev} {d : Dev} (hb : (d.line k).backDue = true) :
    lineRow k row d = lineBackfeed k d := by
  simp [lineRow, hb]

theorem lineRow_row {k : Nat} {row : Dev → Dev} {d : Dev} (ho : (d.line k).overDue = false) (hb : (d.line k).backDue = false) :
    lineRow k row d = row d := by
  simp [lineRow, ho, hb]

/-! ### What the rows do to the module, in any state -/

theorem lineOverload_movesLine (k : Nat) (d : Dev) : d.movesLine k (lineOverload k d) := by
  unfold lineOverload
  split
  · exact lineFailure_movesLine ..
  · exact Dev.movesLine_refl k d

theorem fastTrip_movesLine (k : Nat) (mA : Int) (d : Dev) : d.movesLine k (fastTrip k mA d) := by
  unfold fastTrip
  dsimp only
  split
  · have hm : (d.line k).moves ((d.line k).tripped mA) := rfl
    exact Dev.movesLine_trans (setLine_movesLine hm) (lineFailure_movesLine ..)
  · exact Dev.movesLine_refl k d

theorem lineBackfeed_movesLine (k : Nat) (d : Dev) : d.movesLine k (lineBackfeed k d) := by
  cases ho : (d.line k).overDue with
  | true => rw [lineBackfeed_over ho]; exact lineFailure_movesLine ..
  | false =>
    cases hb : (d.line k).backDue with
    | true =>
      have hm : (d.line k).moves (d.line k).backFed := rfl
      rw [lineBackfeed_back ho hb]
      exact Dev.movesLine_trans (Dev.movesLine_trans (setLine_movesLine hm) (linePrecheck_movesLine ..)) (report_movesLine ..)
    | false => rw [lineBackfeed_not_due ho hb]; exact Dev.movesLine_refl k d

theorem lineRow_movesLine {k : Nat} {row : Dev → Dev} (h : ∀ d, Dev.movesLine k d (row d)) (d : Dev) :
    d.movesLine k (lineRow k row d) := by
  unfold lineRow
  split
  · exact lineBackfeed_movesLine k d
  · exact h d

/-- Outside ON a state is entered without a word to the line. -/
theorem lineEnter_quiet {k : Nat} {d : Dev} (st : LineSt) (h : (d.line k).st ≠ .on) :
    (lineEnter k st d).strands = d.strands ∧ (lineEnter k st d).out = d.out := by
  obtain ⟨hs, ho⟩ := lineEnter_cuts k st d
  rw [lineCuts_off h] at hs ho
  exact ⟨hs, ho⟩

theorem linePrecheck_quiet {k : Nat} {d : Dev} (w : Bool) (h : (d.line k).st ≠ .on) :
    (linePrecheck k w d).strands = d.strands ∧ (linePrecheck k w d).out = d.out := lineEnter_quiet .precheck h

/-- A precheck that passed (R241). -/
theorem precheckPassed_due {k : Nat} {d : Dev} (hst : (d.line k).st = .precheck)
    (hrun : (if (d.line k).ovPending then 100 else 2) ≤ (d.line k).preRun) (h0 : d.tb.sample = 0) :
    precheckPassed k d = lineEnter k .inrush (d.setLine k { d.line k with ovPending := false, overRun := 0, backRun := 0 }) :=
  if_pos ⟨hst, hrun, h0⟩

theorem precheckPassed_not_due {k : Nat} {d : Dev}
    (h : (d.line k).st ≠ .precheck ∨ d.tb.sample ≠ 0 ∨ (d.line k).preRun < if (d.line k).ovPending then 100 else 2) :
    precheckPassed k d = d := by
  refine if_neg fun ⟨hst, hrun, h0⟩ => ?_
  unfold Line.preNeed at hrun
  rcases h with h | h | h
  · exact h hst
  · exact h h0
  · omega

/-- The end of INRUSH (R241, R245). -/
def inrushRow (k : Nat) (d : Dev) : Dev :=
  if (d.line k).st = .inrush ∧ (d.line k).inrushMs ≤ (d.line k).frames then
    report (lineEvent 0x0601 false k d) (lineEnter k .on d)
  else d

theorem inrushEnd_eq (k : Nat) : inrushEnd k = lineRow k (inrushRow k) := rfl

theorem inrushRow_due {k : Nat} {d : Dev} (hst : (d.line k).st = .inrush) (hfr : (d.line k).inrushMs ≤ (d.line k).frames) :
    inrushRow k d = report (lineEvent 0x0601 false k d) (lineEnter k .on d) := if_pos ⟨hst, hfr⟩

theorem inrushRow_not_due {k : Nat} {d : Dev} (h : (d.line k).st ≠ .inrush ∨ (d.line k).frames < (d.line k).inrushMs) :
    inrushRow k d = d := by
  refine if_neg fun ⟨hst, hfr⟩ => ?_
  exact h.elim (fun h => h hst) (fun h => absurd hfr (Nat.not_le.2 h))

theorem inrushRow_movesLine (k : Nat) (d : Dev) : d.movesLine k (inrushRow k d) := by
  unfold inrushRow
  split
  · exact Dev.movesLine_trans (lineEnter_movesLine ..) (report_movesLine ..)
  · exact Dev.movesLine_refl k d

/-- The end of the failure count (R241). -/
def failCntRow (k : Nat) (d : Dev) : Dev :=
  if (d.line k).st = .on ∧ 10000 ≤ (d.line k).frames then d.setLine k { d.line k with failCnt := 0 } else d

theorem failCntClear_eq (k : Nat) : failCntClear k = lineRow k (failCntRow k) := rfl

theorem failCntRow_due {k : Nat} {d : Dev} (hst : (d.line k).st = .on) (hfr : 10000 ≤ (d.line k).frames) :
    failCntRow k d = d.setLine k { d.line k with failCnt := 0 } := if_pos ⟨hst, hfr⟩

theorem failCntRow_not_due {k : Nat} {d : Dev} (h : (d.line k).st ≠ .on ∨ (d.line k).frames < 10000) :
    failCntRow k d = d := by
  refine if_neg fun ⟨hst, hfr⟩ => ?_
  exact h.elim (fun h => h hst) (fun h => absurd hfr (Nat.not_le.2 h))

theorem failCntRow_movesLine (k : Nat) (d : Dev) : d.movesLine k (failCntRow k d) := by
  unfold failCntRow
  split
  · exact setLine_movesLine rfl
  · exact Dev.movesLine_refl k d

/-- Neither an overload nor a back-feed is due. -/
theorem Line.not_due {l : Line} (h : l.powered = false ∨ (l.overRun < 100 ∧ l.backRun < 2)) :
    l.overDue = false ∧ l.backDue = false := by
  rcases h with h | ⟨h1, h2⟩
  · simp [Line.overDue, Line.backDue, h]
  · simp [Line.overDue, Line.backDue, h1, h2]

/-! ### What the rows come to on the whole state -/

/-- A row that fails line `k` for the cause `b`, in its cycle: `l` is the line with the peak of the trip. -/
theorem lineFailed_oneCycle {s : State} {k b : Nat} {f : Dev → Dev} {l : Line} (hm : ∀ d, Dev.movesLine k d (f d))
    (hcnt : l.failCnt = (s.dev.line k).failCnt) (hflt : l.fault = (s.dev.line k).fault)
    (hf : ∀ d : Dev, d.line k = s.dev.line k → (f d).line k = l.failed b ∧
      (f d).strands = (lineCuts k d).strands ∧ (f d).out = (lineCuts k d).out) :
    lineFailed s k b (s.after (oneCycle f s.dev.fresh0)) := by
  obtain ⟨r, hl, hs, ho⟩ := oneCycle_lines f s.dev.fresh0
  obtain ⟨hline, hstr, hout⟩ := hf (s.dev.fresh0.recorded r) rfl
  obtain ⟨hcs, hco⟩ := lineCuts_rcd k s.dev.fresh0 r
  refine lineFailed_after hcnt hflt ?_ (oneCycle_movesLine hm _) (hs.trans (hstr.trans hcs)) (ho.trans (hout.trans hco))
  unfold Dev.line at hline ⊢
  rw [hl, hline]

/-- A failure of the line (R241, R243). -/
theorem lineFailure_fails (k b code : Nat) (d : Dev) : (lineFailure k b code d).line k = (d.line k).failed b ∧
    (lineFailure k b code d).strands = (lineCuts k d).strands ∧ (lineFailure k b code d).out = (lineCuts k d).out := by
  refine ⟨?_, lineFailure_cuts k b code d⟩
  rw [lineFailure_line, if_pos rfl]

/-- A row that gives an overload which is due fails the line (R241). -/
theorem lineFailed_overload {s : State} {k : Nat} {f : Dev → Dev} (hm : ∀ d, Dev.movesLine k d (f d))
    (hf : ∀ d : Dev, d.line k = s.dev.line k → f d = lineFailure k 2 0x0604 d) :
    lineFailed s k 2 (s.after (oneCycle f s.dev.fresh0)) := by
  refine lineFailed_oneCycle (l := s.dev.line k) hm rfl rfl fun d hd => ?_
  rw [hf d hd, ← hd]
  exact lineFailure_fails ..

/-- A trip that is due fails the line (R242). -/
theorem lineFailed_fastTrip {s : State} {k : Nat} {mA : Int} (hp : (s.dev.line k).powered = true)
    (h : ((s.dev.line k).tripMa : Int) ≤ mA) : lineFailed s k 1 (s.after (oneCycle (fastTrip k mA) s.dev.fresh0)) := by
  refine lineFailed_oneCycle (l := (s.dev.line k).tripped mA) (fastTrip_movesLine k mA) rfl rfl fun d hd => ?_
  rw [fastTrip_due (hd ▸ hp) (hd ▸ h)]
  obtain ⟨hline, hs, ho⟩ := lineFailure_fails k 1 0x0603 (d.setLine k ((d.line k).tripped mA))
  obtain ⟨hs', ho'⟩ := lineCuts_setLine (k := k) (d := d) (l := (d.line k).tripped mA) rfl
  refine ⟨hline.trans ?_, hs.trans hs', ho.trans ho'⟩
  rw [Dev.line_setLine, if_pos rfl, hd]

/-- The line at the entry of PRECHECK (R241). -/
def Line.prechecked (l : Line) (whole : Bool) : Line :=
  { l.enter .precheck with preRun := 0, preWhole := whole, preBad := false, causes := 0, reported := [] }

/-- What a back-feed that is due makes of the line (R240, R241). -/
theorem lineBackfeed_opens {k : Nat} {d : Dev} (ho : (d.line k).overDue = false) (hb : (d.line k).backDue = true) :
    (lineBackfeed k d).line k = (d.line k).backFed.prechecked (d.tb.sample == 0) ∧
    (lineBackfeed k d).strands = (lineCuts k d).strands ∧ (lineBackfeed k d).out = (lineCuts k d).out := by
  rw [lineBackfeed_back ho hb]
  obtain ⟨hs, hout⟩ := linePrecheck_cuts k (d.tb.sample == 0) (d.setLine k (d.line k).backFed)
  obtain ⟨hs', hout'⟩ := lineCuts_setLine (k := k) (d := d) (l := (d.line k).backFed) rfl
  refine ⟨by simp [Line.prechecked], ?_, ?_⟩
  · simpa using hs.trans hs'
  · simpa using hout.trans hout'

/-- A row that gives a back-feed which is due opens the switch (R240, R241). -/
theorem lineBackfed_oneCycle {s : State} {k : Nat} {f : Dev → Dev} (hm : ∀ d, Dev.movesLine k d (f d))
    (ho : (s.dev.line k).overDue = false) (hb : (s.dev.line k).backDue = true)
    (hf : ∀ d : Dev, d.line k = s.dev.line k → f d = lineBackfeed k d) :
    lineBackfed s k (s.after (oneCycle f s.dev.fresh0)) := by
  obtain ⟨r, hl, hs, hout⟩ := oneCycle_lines f s.dev.fresh0
  obtain ⟨hcs, hco⟩ := lineCuts_rcd k s.dev.fresh0 r
  obtain ⟨hline, hstr, hou⟩ := lineBackfeed_opens (k := k) (d := s.dev.fresh0.recorded r) ho hb
  rw [hf (s.dev.fresh0.recorded r) rfl] at hl hs hout
  have hline : (s.after (oneCycle f s.dev.fresh0)).dev.line k = (s.dev.line k).backFed.prechecked (s.dev.tb.sample == 0) := by
    refine Eq.trans ?_ hline
    simp [Dev.line, hl]
  obtain ⟨hflt, hcnt, -⟩ := Line.leaveOn_keeps (s.dev.line k).backFed
  unfold lineBackfed
  rw [hline]
  exact ⟨rfl, rfl, hcnt, hflt, onlyLine_after (oneCycle_movesLine hm _) (hs.trans (hstr.trans hcs)) (hout.trans (hou.trans hco))⟩

/-- A row that neither an overload nor a back-feed goes before, where it enters a state from another than ON. -/
theorem onlyLine_oneCycle {s : State} {k : Nat} {f : Dev → Dev} (hm : ∀ d, Dev.movesLine k d (f d))
    (hs : ∀ r, (f (s.dev.fresh0.recorded r)).strands = s.dev.strands) (ho : ∀ r, (f (s.dev.fresh0.recorded r)).out = []) :
    onlyLine s k true (s.after (oneCycle f s.dev.fresh0)) := by
  obtain ⟨r, -, hs', ho'⟩ := oneCycle_lines f s.dev.fresh0
  exact onlyLine_quiet (oneCycle_movesLine hm _) (hs'.trans (hs r)) (ho'.trans (ho r))

/-- A row in its cycle reads as its line. -/
theorem oneCycle_line {s : State} {k : Nat} {f : Dev → Dev} {l : Line} (h : ∀ r, (f (s.dev.fresh0.recorded r)).line k = l) :
    (s.after (oneCycle f s.dev.fresh0)).dev.line k = l := by
  obtain ⟨r, hl, -⟩ := oneCycle_lines f s.dev.fresh0
  rw [← h r]
  simp [Dev.line, hl]

/-- A precheck that passed closes the switch (R241). -/
theorem precheckPassed_closes {s : State} {k : Nat} (hst : (s.dev.line k).st = .precheck)
    (hrun : (if (s.dev.line k).ovPending then 100 else 2) ≤ (s.dev.line k).preRun) (h0 : s.dev.tb.sample = 0) :
    let t := s.after (precheckPassed k s.dev.fresh0)
    (t.dev.line k).st = .inrush ∧ (t.dev.line k).gate = true ∧ (t.dev.line k).ovPending = false ∧ onlyLine s k true t := by
  have hm : (s.dev.line k).moves { s.dev.line k with ovPending := false, overRun := 0, backRun := 0 } := rfl
  obtain ⟨hs, ho⟩ := lineEnter_quiet (k := k)
    (d := s.dev.fresh0.setLine k { s.dev.line k with ovPending := false, overRun := 0, backRun := 0 }) .inrush (by simp [hst])
  rw [precheckPassed_due (d := s.dev.fresh0) hst hrun h0]
  exact ⟨by simp [Line.enter], by simp [Line.enter], by simp [Line.enter],
    onlyLine_quiet (Dev.movesLine_trans (setLine_movesLine hm) (lineEnter_movesLine ..)) hs ho⟩

/-- The end of INRUSH enables the transmitter (R241, R245). -/
theorem inrushEnd_enables {s : State} {k : Nat} (hst : (s.dev.line k).st = .inrush) (ho : (s.dev.line k).overRun < 100)
    (hb : (s.dev.line k).backRun < 2) (hfr : (s.dev.line k).inrushMs ≤ (s.dev.line k).frames) :
    let t := s.after (oneCycle (inrushEnd k) s.dev.fresh0)
    (t.dev.line k).st = .on ∧ (t.dev.line k).gate = true ∧ t.dev.ply.latch = s.dev.ply.latch ∧
      t.dev.transmits k = !s.dev.ply.latch ∧ onlyLine s k true t := by
  obtain ⟨hod, hbd⟩ := Line.not_due (l := s.dev.line k) (.inr ⟨ho, hb⟩)
  have hrow (r : Recorder) : inrushEnd k (s.dev.fresh0.recorded r) =
      report (lineEvent 0x0601 false k (s.dev.fresh0.recorded r)) (lineEnter k .on (s.dev.fresh0.recorded r)) :=
    (lineRow_row (d := s.dev.fresh0.recorded r) hod hbd).trans (inrushRow_due (d := s.dev.fresh0.recorded r) hst hfr)
  have hq (r : Recorder) := lineEnter_quiet (k := k) (d := s.dev.fresh0.recorded r) .on (ne_of_eq_of_ne hst nofun)
  have hm := lineRow_movesLine (inrushRow_movesLine k)
  have hline : (s.after (oneCycle (inrushEnd k) s.dev.fresh0)).dev.line k = (s.dev.line k).enter .on :=
    oneCycle_line fun r => by rw [hrow, report_line, lineEnter_line, if_pos rfl]; rfl
  have hlatch : (s.after (oneCycle (inrushEnd k) s.dev.fresh0)).dev.ply = s.dev.ply := by
    obtain ⟨-, -, -, he⟩ := oneCycle_movesLine hm s.dev.fresh0
    rw [inrushEnd_eq, (State.after_dev ..).2.2.2.2.2.2.2.2.2.2.2.2.2.2.2.2.1, he]
    rfl
  refine ⟨by rw [hline]; rfl, by rw [hline]; rfl, by rw [hlatch], by rw [Dev.transmits, hline, hlatch]; rfl, ?_⟩
  exact onlyLine_oneCycle hm (fun r => by rw [hrow]; simpa [Dev.recorded] using (hq r).1)
    (fun r => by rw [hrow]; simpa [Dev.recorded] using (hq r).2)

/-- The end of a back-off begins a precheck (R241, R243). -/
theorem retryBackoffEnd_prechecks {s : State} {k : Nat} (hst : (s.dev.line k).st = .retryWait)
    (hb : (s.dev.line k).backoff = 0) :
    let t := s.after (retryBackoffEnd k s.dev.fresh0)
    (t.dev.line k).st = .precheck ∧ (t.dev.line k).gate = false ∧ (t.dev.line k).failCnt = (s.dev.line k).failCnt ∧
      onlyLine s k true t := by
  obtain ⟨hs, ho⟩ := linePrecheck_quiet (k := k) (d := s.dev.fresh0) (s.dev.tb.sample == 0) (ne_of_eq_of_ne hst nofun)
  have he : retryBackoffEnd k s.dev.fresh0 = linePrecheck k (s.dev.tb.sample == 0) s.dev.fresh0 := if_pos ⟨hst, hb⟩
  rw [he]
  exact ⟨by simp [Line.enter], by simp [Line.enter], by simp [Line.enter],
    onlyLine_quiet (linePrecheck_movesLine ..) hs ho⟩

/-- 10,000 frames in ON clear the failure count (R241). -/
theorem failCntClear_clears {s : State} {k : Nat} (hst : (s.dev.line k).st = .on) (ho : (s.dev.line k).overRun < 100)
    (hb : (s.dev.line k).backRun < 2) (hfr : 10000 ≤ (s.dev.line k).frames) :
    let t := s.after (oneCycle (failCntClear k) s.dev.fresh0)
    t.dev.line k = { s.dev.line k with failCnt := 0 } ∧ onlyLine s k true t := by
  obtain ⟨hod, hbd⟩ := Line.not_due (l := s.dev.line k) (.inr ⟨ho, hb⟩)
  have hrow (r : Recorder) : failCntClear k (s.dev.fresh0.recorded r) =
      (s.dev.fresh0.recorded r).setLine k { s.dev.line k with failCnt := 0 } :=
    (lineRow_row (d := s.dev.fresh0.recorded r) hod hbd).trans (failCntRow_due (d := s.dev.fresh0.recorded r) hst hfr)
  refine ⟨oneCycle_line fun r => ?_, ?_⟩
  · rw [hrow, Dev.line_setLine, if_pos rfl]
  · exact onlyLine_oneCycle (lineRow_movesLine (failCntRow_movesLine k)) (fun r => by rw [hrow]; rfl) (fun r => by rw [hrow]; rfl)

/-- A row that nothing goes before, and which does nothing itself, stays. -/
theorem lineRow_stays {k : Nat} {row : Dev → Dev} {d : Dev} (h : (d.line k).overDue = false ∧ (d.line k).backDue = false)
    (hrow : ∀ r, row (d.recorded r) = d.recorded r) : oneCycle (lineRow k row) d = d :=
  oneCycle_id fun r => (lineRow_row (d := d.recorded r) h.1 h.2).trans (hrow r)

/-- Settles O7: each row takes its transition where it is due (the lemmas above), and stays where it is not. -/
theorem lineEvents : Obligations.LineEvents := by
  refine ⟨fun s k hs hk => ⟨fun mA hp h => ?_, fun mA h => ?_, fun hp h => ?_, fun h => ?_⟩,
    fun s k hs hk => ⟨fun hp ho hb => ?_, fun hst hrun h0 => ?_, fun hst ho hb hfr => ?_, fun hst hb => ?_,
      fun hst ho hb hfr => ?_, fun h => ?_, fun h => ?_, fun h h' => ?_, fun h => ?_, fun h h' => ?_⟩⟩
  all_goals have hw := decide_eq_true hk
  · exact Runs.mainChecked rfl hw hs (lineFailed_fastTrip hp h)
  · exact Runs.stays rfl hw hs (oneCycle_id fun r => fastTrip_not_due (d := s.dev.fresh0.recorded r) h)
  · have hd : (s.dev.line k).overDue = true := Line.overDue_iff.2 ⟨hp, h⟩
    refine ⟨Runs.mainChecked rfl hw hs ?_, Runs.mainChecked rfl hw hs ?_, Runs.mainChecked rfl hw hs ?_,
      Runs.mainChecked rfl hw hs ?_⟩
    · exact lineFailed_overload (lineOverload_movesLine k) fun d e => lineOverload_due (e ▸ hd)
    · exact lineFailed_overload (lineBackfeed_movesLine k) fun d e => lineBackfeed_over (e ▸ hd)
    · exact lineFailed_overload (lineRow_movesLine (inrushRow_movesLine k)) fun d e => lineRow_over (e ▸ hd)
    · exact lineFailed_overload (lineRow_movesLine (failCntRow_movesLine k)) fun d e => lineRow_over (e ▸ hd)
  · refine Runs.stays rfl hw hs (oneCycle_id fun _ => if_neg ?_)
    rw [Line.overDue_iff]
    rintro ⟨hp, h100⟩
    exact h.elim (fun h => absurd (h.symm.trans hp) nofun) (fun h => absurd h100 (Nat.not_le.2 h))
  · have ho' : (s.dev.line k).overDue = false := by simp [Line.overDue, ho]
    have hb' : (s.dev.line k).backDue = true := Line.backDue_iff.2 ⟨hp, hb⟩
    refine ⟨Runs.mainChecked rfl hw hs ?_, Runs.mainChecked rfl hw hs ?_, Runs.mainChecked rfl hw hs ?_⟩
    · exact lineBackfed_oneCycle (lineBackfeed_movesLine k) ho' hb' fun _ _ => rfl
    · exact lineBackfed_oneCycle (lineRow_movesLine (inrushRow_movesLine k)) ho' hb' fun d e => lineRow_back (e ▸ hb')
    · exact lineBackfed_oneCycle (lineRow_movesLine (failCntRow_movesLine k)) ho' hb' fun d e => lineRow_back (e ▸ hb')
  · exact Runs.mainChecked rfl hw hs (precheckPassed_closes hst hrun h0)
  · exact Runs.mainChecked rfl hw hs (inrushEnd_enables hst ho hb hfr)
  · exact Runs.mainChecked rfl hw hs (retryBackoffEnd_prechecks hst hb)
  · exact Runs.mainChecked rfl hw hs (failCntClear_clears hst ho hb hfr)
  · exact Runs.stays rfl hw hs (oneCycle_id fun r => lineBackfeed_not_due (d := s.dev.fresh0.recorded r) (Line.not_due h).1 (Line.not_due h).2)
  · exact Runs.stays rfl hw hs (precheckPassed_not_due h)
  · exact Runs.stays rfl hw hs (lineRow_stays (Line.not_due h) fun r => inrushRow_not_due (d := s.dev.fresh0.recorded r) h')
  · refine Runs.stays rfl hw hs (if_neg ?_)
    rintro ⟨hst, hb⟩
    exact h.elim (fun h => h hst) (fun h => h hb)
  · exact Runs.stays rfl hw hs (lineRow_stays (Line.not_due h) fun r => failCntRow_not_due (d := s.dev.fresh0.recorded r) h')

end Sys2Proof.Machine
end

section
/-!
Bits of images: what a bit of a combined image is.
-/
namespace Sys2Proof.Machine

@[simp] theorem bit_or {w : Nat} (x y : BitVec w) (i : Nat) : bit (x ||| y) i = (bit x i || bit y i) := BitVec.getLsbD_or

@[simp] theorem bit_and {w : Nat} (x y : BitVec w) (i : Nat) : bit (x &&& y) i = (bit x i && bit y i) := BitVec.getLsbD_and

@[simp] theorem bit_zero (w i : Nat) : bit (0#w) i = false := BitVec.getLsbD_zero

theorem bit_not {w : Nat} (x : BitVec w) {i : Nat} (h : i < w) : bit (~~~x) i = !bit x i := by
  simp [bit, h]

theorem bit_putB {w : Nat} (i : Nat) (b : Bool) {j : Nat} (h : j < w) : bit (putB w i b) j = (b && decide (j = i)) := by
  unfold putB
  cases b with
  | false => simp
  | true =>
    rw [if_pos rfl, bit, BitVec.getLsbD_shiftLeft, BitVec.getLsbD_one, Bool.eq_iff_iff]
    simp only [Bool.and_eq_true, Bool.not_eq_true', decide_eq_true_eq, decide_eq_false_iff_not, true_and]
    constructor
    · omega
    · rintro rfl
      exact ⟨⟨h, Nat.lt_irrefl j⟩, by omega, by omega⟩

end Sys2Proof.Machine
end

section
/-!
Folds over the numbers below a bound, where each step works on the object of its own number.
-/
namespace Sys2Proof.Machine

/-- A fold over the numbers below `n`, each step of which writes the object of its own number from what that object held,
while `I` stays: every object below `n` is written once, the others stay. -/
theorem foldl_range_get {σ α : Type} (get : σ → Nat → α) (f : σ → Nat → σ) (g : Nat → α → α) (I : σ → Prop)
    (hI : ∀ c k, I c → I (f c k)) (hself : ∀ c k, I c → get (f c k) k = g k (get c k))
    (hother : ∀ c k m, I c → m ≠ k → get (f c k) m = get c m) (n : Nat) {c : σ} (hc : I c) :
    I ((List.range n).foldl f c) ∧
      ∀ m, get ((List.range n).foldl f c) m = if m < n then g m (get c m) else get c m := by
  induction n with
  | zero => exact ⟨hc, fun m => by simp⟩
  | succ n ih =>
    obtain ⟨hIn, hn⟩ := ih
    rw [List.range_succ, List.foldl_append, List.foldl_cons, List.foldl_nil]
    refine ⟨hI _ _ hIn, fun m => ?_⟩
    by_cases hm : m = n
    · subst hm
      rw [hself _ _ hIn, hn]
      simp
    · rw [hother _ _ _ hIn hm, hn]
      have : m < n + 1 ↔ m < n := by omega
      simp [this]

end Sys2Proof.Machine
end

section
/-!
The two logic copies of the island: what a read of an input or an output returns after each write, and what the operations
make of one input and of one output (R440, R442, R451, R452).
-/
namespace Sys2Proof.Machine

@[simp] theorem IslCopy.inp_setInp (c : IslCopy) (k m : Nat) (v : SafeIn) :
    (c.setInp k v).inp m = if m = k then v else c.inp m := tget_tset ..

@[simp] theorem IslCopy.outp_setInp (c : IslCopy) (k j : Nat) (v : SafeIn) : (c.setInp k v).outp j = c.outp j := rfl

@[simp] theorem IslCopy.outp_setOutp (c : IslCopy) (j m : Nat) (v : SafeOut) :
    (c.setOutp j v).outp m = if m = j then v else c.outp m := tget_tset ..

@[simp] theorem IslCopy.inp_setOutp (c : IslCopy) (j k : Nat) (v : SafeOut) : (c.setOutp j v).inp k = c.inp k := rfl

@[simp] theorem Island.side_both (x : Island) (f : IslCopy → IslCopy) (b : Bool) : (x.both f).side b = f (x.side b) := by
  cases b <;> rfl

@[simp] theorem Island.side_driveOk (x : Island) (b : Bool) : x.driveOk.side b = x.side b := rfl

@[simp] theorem SafeIn.enter_st (v : SafeIn) (tick : Nat) (st : InSt) : (v.enter tick st).st = st := by
  unfold SafeIn.enter
  split
  · assumption
  · rfl

@[simp] theorem SafeIn.enter_fault (v : SafeIn) (tick : Nat) (st : InSt) : (v.enter tick st).fault = v.fault := by
  unfold SafeIn.enter
  split <;> rfl

/-- An event of the island that names units which exist answers with the island alone changed. -/
theorem Runs.islandChecked {i : Instr} {s : State} {f : Island → Island} {p : State → Prop}
    (hx : exec i s = checked i (islandStep f s)) (hw : i.wellFormed = true) (hp : p { s with isl := f s.isl }) : Runs i s p :=
  Runs.island (hx.trans (checked_wf hw)) hp

/-- An island event that does nothing leaves the block. -/
theorem Runs.islandStays {i : Instr} {s : State} {f : Island → Island} (hx : exec i s = islandStep f s) (h : f s.isl = s.isl) :
    Runs i s (fun t => t = s) := Runs.island hx (by rw [h])

end Sys2Proof.Machine
end

section
/-!
The stop path acts on the pins alone (R445, R446): a gate is as before where neither its inputs' levels nor its enable pin
have changed.
-/
namespace Sys2Proof.Machine

/-- The bit of an input that falls. -/
theorem bit_fall {p : BitVec 8} {k m : Nat} (hm : m < 8) :
    bit (p &&& ~~~(putB 8 k true)) m = (bit p m && !decide (m = k)) := by
  rw [bit_and, bit_not _ hm, bit_putB k true hm, Bool.true_and]

theorem Island.mapped_lt {x : Island} {j k : Nat} (hj : j < 4) (h : k ∈ x.mapped j) : k < 8 := by
  unfold Island.mapped at h
  split at h
  · simp only [List.mem_cons, List.not_mem_nil, or_false] at h
    omega
  · split at h <;> simp only [List.mem_cons, List.not_mem_nil, or_false] at h <;> omega
  · simp only [List.mem_cons, List.not_mem_nil, or_false] at h
    omega

/-- A gate depends on the seal, on the levels of the inputs that stop the output, on its mask window and its enable pin. -/
theorem Island.gate_congr {x y : Island} {b : Bool} {j : Nat} (hseal : y.sealVal = x.sealVal)
    (hl : ∀ k ∈ x.mapped j, y.level b k = x.level b k) (hm : (if b then y.maskB else y.maskA) = if b then x.maskB else x.maskA)
    (he : x.manual = true ∨ (if b then y.pinEnB else y.pinEnA) = if b then x.pinEnB else x.pinEnA) :
    y.gate b j = x.gate b j := by
  have hmap : y.mapped j = x.mapped j := by simp only [Island.mapped, hseal]
  have hman : y.manual = x.manual := by simp only [Island.manual, hseal]
  unfold Island.gate
  rw [hmap, hm, hman]
  congr 1
  · rw [Bool.eq_iff_iff, List.all_eq_true, List.all_eq_true]
    exact forall₂_congr fun k hk => by rw [hl k hk]
  · rcases he with he | he
    · simp [he]
    · rw [he]

/-- A gate is low where an input that stops the output is open, outside the mask window. -/
theorem Island.gate_open {x : Island} {b : Bool} {j k : Nat} (hk : k ∈ x.mapped j) (hl : x.level b k = false)
    (hm : (if b then x.maskB else x.maskA) = false) : x.gate b j = false := by
  have hall : ((x.mapped j).all fun k => x.level b k || (if b then x.maskB else x.maskA)) = false :=
    List.all_eq_false.2 ⟨k, hk, by rw [hl, hm]; decide⟩
  rw [Island.gate, hall, Bool.false_and]

/-- With an automatic start a gate is low while its enable pin is. -/
theorem Island.gate_disabled {x : Island} {b : Bool} {j : Nat} (hman : x.manual = false)
    (he : (if b then x.pinEnB else x.pinEnA) = false) : x.gate b j = false := by
  rw [Island.gate, hman, he, Bool.or_false, Bool.and_false]

theorem Island.hsPin_congr {x y : Island} {j : Nat} (hst : y.st = x.st) (hc : y.copyA = x.copyA)
    (hg : y.gate false j = x.gate false j) : y.hsPin j = x.hsPin j := by
  unfold Island.hsPin
  rw [hst, hc, hg]

theorem Island.lsPin_congr {x y : Island} {j : Nat} (hst : y.st = x.st) (hc : y.copyB = x.copyB)
    (hg : y.gate true j = x.gate true j) : y.lsPin j = x.lsPin j := by
  unfold Island.lsPin
  rw [hst, hc, hg]

theorem Island.hsPin_open {x : Island} {j : Nat} (h : x.gate false j = false) : x.hsPin j = false := by
  rw [Island.hsPin, h, Bool.and_false]

theorem Island.lsPin_open {x : Island} {j : Nat} (h : x.gate true j = false) : x.lsPin j = false := by
  rw [Island.lsPin, h, Bool.and_false]

/-- The level of a channel after a fall at channel A of an input. -/
theorem level_sinA (x : Island) (b : Bool) (k : Nat) {m : Nat} (hm : m < 8) :
    (inputFall (.sinA k) x).level b m = (x.level b m && (b || !decide (m = k))) := by
  cases b
  · simp only [Island.level, inputFall, Bool.false_eq_true, if_false, bit_fall hm, Bool.false_or]
    rw [Bool.and_right_comm]
  · simp [Island.level, inputFall]

/-- The level of a channel after a fall at channel B of an input. -/
theorem level_sinB (x : Island) (b : Bool) (k : Nat) {m : Nat} (hm : m < 8) :
    (inputFall (.sinB k) x).level b m = (x.level b m && (!b || !decide (m = k))) := by
  cases b
  · simp [Island.level, inputFall]
  · simp only [Island.level, inputFall, if_true, bit_fall hm, Bool.not_true, Bool.false_or]
    rw [Bool.and_right_comm]

/-- Settles O28: a falling pin lowers the gates of its own side alone. -/
theorem stopPathActsAtOnce : Obligations.StopPathActsAtOnce := by
  intro s j hj
  have hmap {m : Nat} (h : m ∈ s.isl.mapped j) : m < 8 := Island.mapped_lt hj h
  refine ⟨fun k hk => ?_, fun k hk => ?_, ?_, ?_⟩
  · refine Runs.islandChecked rfl (decide_eq_true hk) ⟨rfl, rfl, rfl, ?_, fun hin hmask => ?_, fun hout => ?_⟩
    · exact Island.lsPin_congr rfl rfl (Island.gate_congr rfl (fun m h => by simp [level_sinA _ _ _ (hmap h)]) rfl (.inr rfl))
    · exact Island.hsPin_open (Island.gate_open hin (by simp [level_sinA _ _ _ hk]) hmask)
    · refine Island.hsPin_congr rfl rfl (Island.gate_congr rfl (fun m h => ?_) rfl (.inr rfl))
      have hne : m ≠ k := fun e => hout (e ▸ h)
      simp [level_sinA _ _ _ (hmap h), hne]
  · refine Runs.islandChecked rfl (decide_eq_true hk) ⟨rfl, rfl, rfl, ?_, fun hin hmask => ?_, fun hout => ?_⟩
    · exact Island.hsPin_congr rfl rfl (Island.gate_congr rfl (fun m h => by simp [level_sinB _ _ _ (hmap h)]) rfl (.inr rfl))
    · exact Island.lsPin_open (Island.gate_open hin (by simp [level_sinB _ _ _ hk]) hmask)
    · refine Island.lsPin_congr rfl rfl (Island.gate_congr rfl (fun m h => ?_) rfl (.inr rfl))
      have hne : m ≠ k := fun e => hout (e ▸ h)
      simp [level_sinB _ _ _ (hmap h), hne]
  · refine Runs.islandChecked rfl rfl ⟨rfl, ?_, fun hman => ?_, fun hman => ?_⟩
    · exact Island.lsPin_congr rfl rfl (Island.gate_congr rfl (fun _ _ => rfl) rfl (.inr rfl))
    · exact Island.hsPin_open (Island.gate_disabled hman rfl)
    · exact Island.hsPin_congr rfl rfl (Island.gate_congr rfl (fun _ _ => rfl) rfl (.inl hman))
  · refine Runs.islandChecked rfl rfl ⟨rfl, ?_, fun hman => ?_, fun hman => ?_⟩
    · exact Island.hsPin_congr rfl rfl (Island.gate_congr rfl (fun _ _ => rfl) rfl (.inr rfl))
    · exact Island.lsPin_open (Island.gate_disabled hman rfl)
    · exact Island.lsPin_congr rfl rfl (Island.gate_congr rfl (fun _ _ => rfl) rfl (.inl hman))

end Sys2Proof.Machine
end
section
/-!
Test pulses and their check (R439, R440).
-/
namespace Sys2Proof.Machine

theorem testPulse_due {b : Bool} {x : Island} (h : x.pulseDue b = true) :
    testPulse b x = if b then { x with stpB := false, maskB := true, checkB := true, lastB := some x.tick }
      else { x with stpA := false, maskA := true, checkA := true, lastA := some x.tick } := by
  unfold testPulse
  rw [if_neg (by simp [h])]

theorem testPulse_not_due {b : Bool} {x : Island} (h : x.pulseDue b = false) : testPulse b x = x := by
  unfold testPulse
  rw [if_pos (by simp [h])]

theorem pulseDue_A {x : Island} : x.pulseDue false = true ↔ (x.pulsesOn = true ∧ x.st ≠ .unpowered) ∧
    (x.lastA = none ∨ ∃ n, x.lastA = some n ∧ n < x.tick ∧ (x.tick - n) % 100 = 0) := by
  unfold Island.pulseDue
  cases x.lastA <;> simp

theorem pulseDue_B {x : Island} : x.pulseDue true = true ↔ (x.pulsesOn = true ∧ x.st ≠ .unpowered) ∧
    ∃ n, x.lastA = some n ∧ (x.tick - n) % 100 = 50 ∧ x.lastB ≠ some x.tick := by
  unfold Island.pulseDue
  cases x.lastA <;> simp

/-- An input after the check of a pulse: the runs of the source under test, and the latch at the second failure in a row. -/
def SafeIn.checked (srcB stuck cross : Bool) (tick : Nat) (v : SafeIn) : SafeIn :=
  let v := if srcB then
      { v with stuckBRun := if stuck then v.stuckBRun + 1 else 0, crossBRun := if cross then v.crossBRun + 1 else 0 }
    else { v with stuckARun := if stuck then v.stuckARun + 1 else 0, crossARun := if cross then v.crossARun + 1 else 0 }
  let bits : BitVec 4 := (if 2 ≤ v.stuckARun then 2#4 else 0) ||| (if 2 ≤ v.stuckBRun then 4#4 else 0) |||
    (if 2 ≤ v.crossARun ∨ 2 ≤ v.crossBRun then 8#4 else 0)
  if bits = 0 then v else { v.enter tick .fault with fault := v.fault ||| bits }

theorem pulseCheck_eq (srcB own other wasOther : Bool) (tick k : Nat) (c : IslCopy) :
    pulseCheck srcB own other wasOther tick k c = c.setInp k ((c.inp k).checked srcB own (!other && wasOther) tick) := rfl

/-- The channel of an input that is not under test, as last sampled. -/
def SafeIn.other (srcB : Bool) (v : SafeIn) : Bool := if srcB then v.chA else v.chB

/-- The check of a pulse, input by input; the outputs stay. -/
theorem pulseChecks_at (srcB : Bool) (own other : Nat → Bool) (tick : Nat) (c : IslCopy) :
    let c' := (List.range 8).foldl (fun c k => pulseCheck srcB (own k) (other k) (if srcB then (c.inp k).chA else (c.inp k).chB) tick k c) c
    (∀ j, c'.outp j = c.outp j) ∧
      ∀ k, k < 8 → c'.inp k = (c.inp k).checked srcB (own k) (!other k && (c.inp k).other srcB) tick := by
  obtain ⟨ho, hi⟩ := foldl_range_get IslCopy.inp
    (fun c k => pulseCheck srcB (own k) (other k) (if srcB then (c.inp k).chA else (c.inp k).chB) tick k c)
    (fun k v => v.checked srcB (own k) (!other k && v.other srcB) tick) (fun c' => ∀ j, c'.outp j = c.outp j)
    (fun _ _ h => h) (fun c k _ => by rw [pulseCheck_eq, IslCopy.inp_setInp, if_pos rfl]; rfl)
    (fun c k m _ hm => by rw [pulseCheck_eq, IslCopy.inp_setInp, if_neg hm]) 8 (c := c) (fun _ => rfl)
  exact ⟨ho, fun k hk => by rw [hi k, if_pos hk]⟩

/-- A channel that fails for the second time in a row latches (R440). -/
theorem SafeIn.checked_latches {srcB stuck cross : Bool} {tick n : Nat} {v : SafeIn}
    (h : (srcB = false ∧ stuck = true ∧ 1 ≤ v.stuckARun ∧ n = 1) ∨ (srcB = true ∧ stuck = true ∧ 1 ≤ v.stuckBRun ∧ n = 2) ∨
      (srcB = false ∧ cross = true ∧ 1 ≤ v.crossARun ∧ n = 3) ∨ (srcB = true ∧ cross = true ∧ 1 ≤ v.crossBRun ∧ n = 3)) :
    (v.checked srcB stuck cross tick).st = .fault ∧ bit (v.checked srcB stuck cross tick).fault n = true := by
  have latch (w : SafeIn) (b : BitVec 4) (hb : bit b n = true) :
      (if b = 0 then w else { w.enter tick .fault with fault := w.fault ||| b }).st = .fault ∧
        bit (if b = 0 then w else { w.enter tick .fault with fault := w.fault ||| b }).fault n = true := by
    rw [if_neg (by rintro rfl; exact absurd hb (by simp))]
    exact ⟨by simp, by simp [hb]⟩
  unfold SafeIn.checked
  refine latch _ _ ?_
  rcases h with ⟨rfl, rfl, hr, rfl⟩ | ⟨rfl, rfl, hr, rfl⟩ | ⟨rfl, rfl, hr, rfl⟩ | ⟨rfl, rfl, hr, rfl⟩
  all_goals simp only [if_true, if_false, Bool.false_eq_true, bit_or]
  · rw [if_pos (by omega), show bit (2#4) 1 = true from rfl, Bool.true_or, Bool.true_or]
  · rw [if_pos (c := 2 ≤ v.stuckBRun + 1) (by omega), show bit (4#4) 2 = true from rfl, Bool.or_true, Bool.true_or]
  · rw [if_pos (c := 2 ≤ v.crossARun + 1 ∨ 2 ≤ v.crossBRun) (by omega), show bit (8#4) 3 = true from rfl, Bool.or_true]
  · rw [if_pos (c := 2 ≤ v.crossARun ∨ 2 ≤ v.crossBRun + 1) (by omega), show bit (8#4) 3 = true from rfl, Bool.or_true]

/-- A check that fails nothing clears the runs of its own source, while no run of the other source has latched (R440). -/
theorem SafeIn.checked_passes {srcB : Bool} {tick : Nat} {v : SafeIn}
    (h : if srcB then v.stuckARun < 2 ∧ v.crossARun < 2 else v.stuckBRun < 2 ∧ v.crossBRun < 2) :
    v.checked srcB false false tick =
      if srcB then { v with stuckBRun := 0, crossBRun := 0 } else { v with stuckARun := 0, crossARun := 0 } := by
  cases srcB
  · simp only [Bool.false_eq_true, if_false] at h
    have h1 : ¬2 ≤ v.stuckBRun := by omega
    have h2 : ¬2 ≤ v.crossBRun := by omega
    simp [SafeIn.checked, h1, h2]
  · simp only [if_true] at h
    have h1 : ¬2 ≤ v.stuckARun := by omega
    have h2 : ¬2 ≤ v.crossARun := by omega
    simp [SafeIn.checked, h1, h2]

/-- The check of a running pulse, copy by copy. -/
theorem testPulseCheck_running {pA pB : BitVec 8} {x : Island} {srcB : Bool} (hB : x.checkB = srcB)
    (hA : srcB = false → x.checkA = true) :
    let y := testPulseCheck pA pB x
    (y.pinA = pA ∧ y.pinB = pB ∧ y.checkA = false ∧ y.checkB = false) ∧ ∀ b : Bool,
      (∀ j, (y.side b).outp j = (x.side b).outp j) ∧
      ∀ k, k < 8 → (y.side b).inp k = ((x.side b).inp k).checked srcB
        (if srcB then bit pB k && !x.ovlB else bit pA k && !x.ovlA)
        (!(if srcB then bit pA k && !x.ovlA else bit pB k && !x.ovlB) && ((x.side b).inp k).other srcB) x.tick := by
  have hrun : ¬(!x.checkA && !x.checkB) = true := by
    subst hB
    cases h : x.checkB <;> simp_all
  unfold testPulseCheck
  rw [if_neg hrun]
  refine ⟨⟨rfl, rfl, rfl, rfl⟩, fun b => ?_⟩
  simp only [Island.side_driveOk, Island.side_both, hB]
  obtain ⟨ho, hi⟩ := pulseChecks_at srcB
    (Island.level { x with pinA := pA, pinB := pB, checkA := false, checkB := false } srcB)
    (Island.level { x with pinA := pA, pinB := pB, checkA := false, checkB := false } (!srcB)) x.tick (x.side b)
  have hside : Island.side { x with pinA := pA, pinB := pB, checkA := false, checkB := false } b = x.side b := by
    cases b <;> rfl
  rw [hside]
  refine ⟨ho, fun k hk => (hi k hk).trans ?_⟩
  cases srcB <;> simp [Island.level]

theorem testPulseCheck_idle {pA pB : BitVec 8} {x : Island} (hA : x.checkA = false) (hB : x.checkB = false) :
    testPulseCheck pA pB x = x := by simp [testPulseCheck, hA, hB]

/-- Settles O29: a pulse is due as `pulseDue_A` and `pulseDue_B` say, and its check goes input by input. -/
theorem testPulses : Obligations.TestPulses := by
  intro s
  refine ⟨fun hlive hdue => ?_, fun n hlive hn h50 hb => ?_, fun b hlive => ?_, fun n hn h => ?_, fun h => ?_,
    fun pA pB hA hB => ?_, fun pA pB hA hB => ?_, fun pA pB hB => ?_, fun pA pB hA hB => ?_, fun pA pB h => ?_,
    fun b on h => ?_, fun on h => ⟨?_, ?_⟩⟩
  · exact Runs.island rfl (by rw [testPulse_due (pulseDue_A.2 ⟨hlive, hdue⟩)]; rfl)
  · exact Runs.island rfl (by rw [testPulse_due (pulseDue_B.2 ⟨hlive, n, hn, h50, hb⟩)]; rfl)
  · refine Runs.islandStays rfl (testPulse_not_due (Bool.eq_false_iff.2 fun h => hlive ?_))
    cases b
    · exact (pulseDue_A.1 h).1
    · exact (pulseDue_B.1 h).1
  · refine Runs.islandStays rfl (testPulse_not_due (Bool.eq_false_iff.2 fun hd => ?_))
    obtain ⟨-, hnone | ⟨m, hm, hlt, hmod⟩⟩ := pulseDue_A.1 hd
    · exact absurd (hnone.symm.trans hn) nofun
    · obtain rfl := Option.some.inj (hm.symm.trans hn)
      omega
  · refine Runs.islandStays rfl (testPulse_not_due (Bool.eq_false_iff.2 fun hd => ?_))
    obtain ⟨-, m, hm, hmod, hb⟩ := pulseDue_B.1 hd
    rcases h with h | h | ⟨n, hn, h50⟩
    · exact absurd (h.symm.trans hm) nofun
    · exact hb h
    · obtain rfl := Option.some.inj (hm.symm.trans hn)
      exact h50 hmod
  · exact Runs.islandStays rfl (testPulseCheck_idle hA hB)
  · obtain ⟨⟨h1, h2, h3, h4⟩, hside⟩ := testPulseCheck_running (pA := pA) (pB := pB) hB (fun _ => hA)
    refine Runs.island rfl ⟨rfl, h1, h2, h3, h4, fun b k hk => ?_⟩
    obtain ⟨hout, hin⟩ := hside b
    dsimp only
    rw [hin k hk]
    refine ⟨fun hp ho hr => SafeIn.checked_latches (.inl ⟨rfl, ?_, hr, rfl⟩),
      fun hp hc hr => SafeIn.checked_latches (.inr (.inr (.inl ⟨rfl, ?_, hr, rfl⟩))), fun ha hb ho h2 h2' => ?_, hout⟩
    · simp [hp, ho]
    · simp [hp, SafeIn.other, hc]
    · simpa [ha, hb, ho] using SafeIn.checked_passes (srcB := false) (v := (s.isl.side b).inp k) ⟨h2, h2'⟩
  · obtain ⟨⟨h1, h2, h3, h4⟩, hside⟩ := testPulseCheck_running (pA := pA) (pB := pB) (x := s.isl) hB nofun
    refine Runs.island rfl ⟨rfl, h1, h2, h3, h4, fun b k hk => ?_⟩
    obtain ⟨hout, hin⟩ := hside b
    dsimp only
    rw [hin k hk]
    refine ⟨fun hp ho hr => SafeIn.checked_latches (.inr (.inl ⟨rfl, ?_, hr, rfl⟩)),
      fun hp hc hr => SafeIn.checked_latches (.inr (.inr (.inr ⟨rfl, ?_, hr, rfl⟩))), fun ha hb ho h2 h2' => ?_, hout⟩
    · simp [hp, ho]
    · simp [hp, SafeIn.other, hc]
    · simpa [ha, hb, ho] using SafeIn.checked_passes (srcB := true) (v := (s.isl.side b).inp k) ⟨h2, h2'⟩
  · exact Runs.islandStays rfl (by simp [maskWindowEnd, hA, hB])
  · refine Runs.island rfl ?_
    have hopen : ¬(!s.isl.maskA && !s.isl.maskB) = true := by
      rcases h with h | h <;> simp [h]
    rw [maskWindowEnd, if_neg hopen]
  · exact Runs.islandStays rfl (by simp [stpOverload, h])
  · exact Runs.island rfl (by simp [stpOverload, h])
  · exact Runs.island rfl (by simp [stpOverload, h])

end Sys2Proof.Machine
end

section
/-!
What a logic copy latches and clears (R442, R450 to R452): the operations input by input and output by output.
-/
namespace Sys2Proof.Machine

/-- A faulted input whose channels were low for its 1,000 ticks (R442). -/
theorem clearInput_due {tick k : Nat} {c : IslCopy} (h : (c.inp k).st = .fault) (hr : 1000 ≤ (c.inp k).clearRun) :
    clearInput tick k c = c.setInp k { (c.inp k).enter tick .opened with
      fault := 0, stuckARun := 0, crossARun := 0, stuckBRun := 0, crossBRun := 0 } := if_pos ⟨h, hr⟩

theorem clearOutput_due {tick j : Nat} {c : IslCopy} (h : (c.outp j).st = .fault) (hr : 1000 ≤ (c.outp j).clearRun) :
    clearOutput tick j c = c.setOutp j { (c.outp j).enter tick .off false false with fault := 0 } := if_pos ⟨h, hr⟩

theorem discLatch_due {n tick k : Nat} {c : IslCopy} (h : (c.inp k).st = .discrepant) (hn : n ≤ (c.inp k).c) :
    discLatch n tick k c = c.setInp k { (c.inp k).enter tick .fault with fault := (c.inp k).fault ||| 1#4 } :=
  if_pos (by simp [discDue, h, hn])

/-- A step of the switch test writes its output alone. -/
theorem testStep_other (tick j : Nat) (c : IslCopy) : (∀ m, m ≠ j → (testStep tick j c).outp m = c.outp m) ∧
    ∀ k, (testStep tick j c).inp k = c.inp k := by
  have set (v : SafeOut) : (∀ m, m ≠ j → (c.setOutp j v).outp m = c.outp m) ∧ ∀ k, (c.setOutp j v).inp k = c.inp k :=
    ⟨fun m hm => by rw [IslCopy.outp_setOutp, if_neg hm], fun _ => rfl⟩
  unfold testStep
  dsimp only
  split
  · split
    · exact ⟨fun _ _ => rfl, fun _ => rfl⟩
    · split <;> split <;> exact set _
  · exact ⟨fun _ _ => rfl, fun _ => rfl⟩

/-- An expired limit of an output trips it; the other outputs and the inputs stay (R451). -/
theorem brakeLatch_at (coil : Bool) (tick j : Nat) (c : IslCopy) :
    (brakeLatch coil tick j c).outp j =
      (if brakeDue coil (c.outp j) = 0 then c.outp j else (c.outp j).trip tick (brakeDue coil (c.outp j))) ∧
    (∀ m, m ≠ j → (brakeLatch coil tick j c).outp m = c.outp m) ∧ ∀ k, (brakeLatch coil tick j c).inp k = c.inp k := by
  unfold brakeLatch
  dsimp only
  split
  · exact ⟨rfl, fun _ _ => rfl, fun _ => rfl⟩
  · exact ⟨by rw [IslCopy.outp_setOutp, if_pos rfl], fun m hm => by rw [IslCopy.outp_setOutp, if_neg hm], fun _ => rfl⟩

/-- A limit that is due trips the output with its bit. -/
theorem brake_trips {coil : Bool} {v : SafeOut} {tick n : Nat} (h : bit (brakeDue coil v) n = true) :
    let w := if brakeDue coil v = 0 then v else v.trip tick (brakeDue coil v)
    w.st = .fault ∧ bit w.fault n = true ∧ w.hs = false ∧ w.ls = false := by
  have hne : brakeDue coil v ≠ 0 := by
    intro e
    rw [e] at h
    exact absurd h (by simp)
  rw [if_neg hne]
  exact ⟨rfl, by simp [SafeOut.trip, SafeOut.enter, h], rfl, rfl⟩

/-- Settles O30: each operation acts in the two copies alike, on the input or output that it names. -/
theorem islandLatches : Obligations.IslandLatches := by
  intro s b
  dsimp only
  refine ⟨fun k hk hst hn => ?_, fun j hj ht => ?_, fun j hj => ?_, fun k hk hst hr => ?_, fun j hj hst hr => ?_, fun hf hr => ?_⟩
  · refine Runs.islandChecked rfl (decide_eq_true hk) ?_
    simp only [discrepancyTimeout, Island.side_driveOk, Island.side_both, discLatch_due hst hn]
    exact ⟨rfl, by simp, by simp, fun m hm => by simp [hm], fun j => rfl⟩
  · refine Runs.islandChecked rfl (decide_eq_true hj) ?_
    simp only [switchTestStep, Island.side_driveOk, Island.side_both]
    obtain ⟨hout, hin⟩ := testStep_other s.isl.tick j (s.isl.side b)
    have ht' : ¬((s.isl.side b).outp j).ticks < 20 := Nat.not_lt.2 ht
    refine ⟨rfl, hout, hin, fun hs h => ?_, fun hs h => ?_, fun hs h => ?_, fun hs h => ?_, fun hs h => ?_, fun hs h => ?_⟩
    all_goals simp [testStep, hs, ht', h, SafeOut.trip, SafeOut.enter]
  · refine Runs.islandChecked rfl (decide_eq_true hj) ?_
    simp only [brakeTimeout, Island.side_driveOk, Island.side_both]
    obtain ⟨hself, hout, hin⟩ := brakeLatch_at s.isl.coilCheck s.isl.tick j (s.isl.side b)
    rw [hself]
    refine ⟨rfl, hout, hin, fun hs h h' => ?_, fun hs h => ?_, fun hs h h' => ?_, fun hs h h' h'' => ?_, fun hs h h' => ?_,
      fun hs h h' h'' => ?_, fun hs h h' => ?_, fun hs h h' h'' => ?_, fun hs h => ?_, fun hs => ?_⟩
    · exact brake_trips (by simp [brakeDue, hs, Nat.not_lt.2 h, h', bit])
    · exact brake_trips (by simp [brakeDue, hs, h, bit])
    · exact brake_trips (by simp [brakeDue, hs, h, h', bit])
    · exact brake_trips (by simp [brakeDue, hs, h, h', h'', iOff, bit])
    · simp [brakeDue, hs, h, h']
    · exact brake_trips (by simp [brakeDue, hs, Nat.not_le.2 h, h', h'', bit])
    · simp [brakeDue, hs, Nat.not_le.2 h, Nat.not_le.2 h']
    · exact brake_trips (by simp [brakeDue, hs, Nat.not_lt.2 h, h', h'', iOn, bit])
    · simp [brakeDue, hs, h]
    · simp [brakeDue, hs]
  · refine Runs.islandChecked rfl (decide_eq_true hk) ?_
    simp only [faultCleared, Island.side_driveOk, Island.side_both, clearInput_due hst hr]
    exact ⟨rfl, by simp, by simp, fun m hm => by simp [hm]⟩
  · refine Runs.islandChecked rfl (decide_eq_true hj) ?_
    simp only [faultCleared, Island.side_driveOk, Island.side_both, clearOutput_due hst hr]
    exact ⟨rfl, by simp [SafeOut.enter], by simp, fun m hm => by simp [hm]⟩
  · refine Runs.islandChecked rfl rfl ?_
    simp only [faultCleared, Island.side_driveOk, Island.side_both]
    exact ⟨rfl, if_pos ⟨hf, hr⟩⟩

end Sys2Proof.Machine
end

section
/-!
How the island starts, fails and stays failed (R438, R454, R455, R617).
-/
namespace Sys2Proof.Machine

theorem Island.trip_st (x : Island) (cause : BitVec 8) : (x.trip cause).st = .fault ∧ (x.trip cause).cause = cause := ⟨rfl, rfl⟩

/-- The entries of a table that a write leaves satisfy what they did and what is written. -/
theorem all_tset {α : Type} [DecidableEq α] {p : Nat × α → Bool} {d : α} {t : Tbl α} {k : Nat} {v : α} (hp : p (k, v) = true)
    (h : t.all p = true) : (tset d t k v).all p = true := by
  unfold tset
  split
  · exact all_terase _ _ _ h
  · exact all_tput _ _ _ _ hp h

/-- At the entry of READY no fault is latched in a copy (R454, R455). -/
theorem atReady_healthy (x : Island) (c : IslCopy) : (IslCopy.atReady x c).healthy = true := by
  have ins (ks : List Nat) (n : IslCopy) (hn : n.healthy = true) (v : Nat → SafeIn) (hv : ∀ k, (v k).fault = 0) :
      (ks.foldl (fun n k => n.setInp k (v k)) n).healthy = true := by
    induction ks generalizing n with
    | nil => exact hn
    | cons k ks ih =>
      refine ih _ ?_
      simp only [IslCopy.healthy, IslCopy.setInp, Bool.and_eq_true] at hn ⊢
      exact ⟨⟨hn.1.1, all_tset (by simp [hv]) hn.1.2⟩, hn.2⟩
  have outs (ks : List Nat) (n : IslCopy) (hn : n.healthy = true) (v : Nat → SafeOut) (hv : ∀ k, (v k).fault = 0) :
      (ks.foldl (fun n k => n.setOutp k (v k)) n).healthy = true := by
    induction ks generalizing n with
    | nil => exact hn
    | cons k ks ih =>
      refine ih _ ?_
      simp only [IslCopy.healthy, IslCopy.setOutp, Bool.and_eq_true] at hn ⊢
      exact ⟨hn.1, all_tset (by simp [hv]) hn.2⟩
  exact outs _ _ (ins _ _ rfl _ (fun _ => rfl)) _ (fun _ => rfl)

/-- Inputs and outputs at the entry of READY (R454). -/
theorem atReady_at (x : Island) (c : IslCopy) :
    (∀ k, k < 8 → (IslCopy.atReady x c).inp k = (c.inp k).fromLevels (if x.maskA then (c.inp k).chA else x.level false k)
      (if x.maskB then (c.inp k).chB else x.level true k)) ∧
    ∀ j, ((IslCopy.atReady x c).outp j).hs = false ∧ ((IslCopy.atReady x c).outp j).ls = false := by
  obtain ⟨hrest, hin⟩ := foldl_range_get IslCopy.inp
    (fun n k => n.setInp k ((c.inp k).fromLevels (if x.maskA then (c.inp k).chA else x.level false k)
      (if x.maskB then (c.inp k).chB else x.level true k)))
    (fun k _ => (c.inp k).fromLevels (if x.maskA then (c.inp k).chA else x.level false k)
      (if x.maskB then (c.inp k).chB else x.level true k))
    (fun n => ∀ j, n.outp j = SafeOut.reset) (fun _ _ h => h) (fun _ _ _ => by simp) (fun _ _ _ _ hm => by simp [hm]) 8
    (c := { IslCopy.reset with enA := x.pinEnA, enB := x.pinEnB }) (fun _ => rfl)
  unfold IslCopy.atReady
  dsimp only
  generalize (List.range 8).foldl _ _ = n at hrest hin ⊢
  obtain ⟨hkeep, hout⟩ := foldl_range_get IslCopy.outp (fun n j => n.setOutp j (c.outp j).fromPins) (fun j _ => (c.outp j).fromPins)
    (fun n' => ∀ k, n'.inp k = n.inp k) (fun _ _ h => h) (fun _ _ _ => by simp) (fun _ _ _ _ hm => by simp [hm]) 4
    (c := n) (fun _ => rfl)
  refine ⟨fun k hk => ?_, fun j => ?_⟩
  · rw [hkeep, hin, if_pos hk]
  · rw [hout]
    split
    · exact ⟨rfl, rfl⟩
    · rw [hrest]
      exact ⟨rfl, rfl⟩

theorem selfTestEnd_passed {x : Island} (hst : x.st = .init) (ht : x.tick ≤ 500) (hs : sealReserved x.sealVal = false)
    (hlo : 3000 ≤ x.vdd) (hhi : x.vdd ≤ 3600) :
    selfTestEnd true x = (({ x with st := .ready } : Island).both (IslCopy.atReady x)).driveOk := by
  have hv : supplyBad x.vdd = false := by simp [supplyBad, hlo, hhi]
  simp [selfTestEnd, hst, Nat.not_lt.2 ht, Island.both, hs, hv]

/-- Outside READY the pins of the switches are low. -/
theorem Island.pins_low {x : Island} (h : x.st ≠ .ready) (j : Nat) : x.hsPin j = false ∧ x.lsPin j = false := by
  have hr : (x.st == .ready) = false := by simpa using h
  simp [Island.hsPin, Island.lsPin, hr]

theorem selfTestEnd_failed {x : Island} (hst : x.st = .init) : selfTestEnd false x = x.trip 7 := by simp [selfTestEnd, hst]

/-- A re-read of the seal pins in READY, every 1,000 ticks (R438). -/
theorem sealReread_ready {up down : BitVec 8} {x : Island} (hst : x.st = .ready) (h0 : x.tick ≠ 0) (h1000 : x.tick % 1000 = 0) :
    let now := (up &&& down) ||| (up &&& ~~~down &&& Config.sealRead x.tick)
    let y : Island := { x with sealNow := now, sealFloat := up &&& ~~~down }
    sealReread up down x = if up &&& ~~~down ≠ 0 then y.trip 2 else if now ≠ x.sealVal then y.trip 1
      else if sealReserved now then y.trip 3 else y := by
  unfold sealReread
  rw [if_neg (by simp [hst, h0, h1000])]
  exact if_neg (by simp [hst])

theorem oscFault_ready {x : Island} (hst : x.st = .ready) : oscFault x = x.trip 4 := if_pos hst

/-- A tick leaves a failed island failed. -/
theorem islandTick_failed {i : TickIn} {x : Island} (hf : x.st = .fault) :
    (islandTick i x).st = .fault ∧ (islandTick i x).cause = x.cause := by
  have hst (x : Island) (f : IslCopy → IslCopy) : (x.both f).st = x.st ∧ (x.both f).cause = x.cause := ⟨rfl, rfl⟩
  simp [islandTick, hf, Island.latch, hst, Island.driveOk]

/-- An event other than a change of its supply keeps a failed island failed (R454). -/
theorem island_stays_failed {i : Instr} {s t : State} (hi : i.isIsland = true) (hv : ∀ mv v, i ≠ .safeVddChange mv v)
    (hx : exec i s = .next t) (hf : s.isl.st = .fault) : t.isl.st = .fault ∧ t.isl.cause = s.isl.cause := by
  have stays {f : Island → Island} (e : exec i s = checked i (islandStep f s)) (h : (f s.isl).st = .fault ∧ (f s.isl).cause = s.isl.cause) :
      t.isl.st = .fault ∧ t.isl.cause = s.isl.cause := by
    cases hw : i.wellFormed with
    | false => exact absurd ((e.trans (checked_ill hw)).symm.trans hx) nofun
    | true =>
      obtain rfl := Host.Outcome.next.inj ((e.trans (checked_wf hw)).symm.trans hx)
      exact h
  cases i
  case islandTick x => exact stays rfl (islandTick_failed hf)
  case safetyInputFall p => exact stays rfl (by cases p <;> exact ⟨hf, rfl⟩)
  case discrepancyTimeout k => exact stays rfl ⟨hf, rfl⟩
  case testPulse b =>
    refine stays (f := testPulse b) rfl ?_
    unfold testPulse
    split
    · exact ⟨hf, rfl⟩
    · split <;> exact ⟨hf, rfl⟩
  case testPulseCheck a b =>
    refine stays (f := testPulseCheck a b) rfl ?_
    unfold testPulseCheck
    split <;> exact ⟨hf, rfl⟩
  case sealReread a b =>
    refine stays (f := sealReread a b) rfl ?_
    have hr : s.isl.st ≠ .ready := ne_of_eq_of_ne hf nofun
    unfold sealReread
    split
    · exact ⟨hf, rfl⟩
    · exact (if_pos hr).symm ▸ ⟨hf, rfl⟩
  case stpOverload a b =>
    refine stays (f := stpOverload a b) rfl ?_
    unfold stpOverload
    split
    · exact ⟨hf, rfl⟩
    · split <;> exact ⟨hf, rfl⟩
  case switchTestStep j => exact stays rfl ⟨hf, rfl⟩
  case brakeTimeout j => exact stays rfl ⟨hf, rfl⟩
  case safetyFaultCleared u => exact stays rfl (by cases u <;> exact ⟨hf, rfl⟩)
  case safeVddChange mv v => exact absurd rfl (hv mv v)
  case islandSelfTestEnd p => exact stays (f := selfTestEnd p) rfl (by simp [selfTestEnd, hf])
  case islandOscFault => exact stays (f := oscFault) rfl (by simp [oscFault, hf])
  case maskWindowEnd a b =>
    refine stays (f := maskWindowEnd a b) rfl ?_
    unfold maskWindowEnd
    split <;> exact ⟨hf, rfl⟩
  all_goals contradiction

/-- Settles O31: the events that start or fail the island, each in the state in which it acts. -/
theorem islandStates : Obligations.IslandStates := by
  intro s
  refine ⟨fun mv v => ?_, fun hst ht hs hlo hhi => ?_, fun hst => ?_, fun hst => ?_, fun up down hst h0 h1000 => ?_,
    fun i t hi hv hx hf => island_stays_failed hi hv hx hf⟩
  · refine Runs.island rfl ⟨rfl, fun h => ?_, fun h h1 h2 => ?_, fun h h1 => ?_, fun h h1 h2 => ?_, fun h h1 h2 => ?_⟩
    · rw [safeVddChange, if_pos h]
    · rw [safeVddChange, if_neg (by omega), if_pos h, if_pos h2]
    · rw [safeVddChange, if_neg (by omega), if_pos h, if_neg (by omega)]
      exact ⟨rfl, rfl, rfl⟩
    · have hbad : supplyBad mv = true := decide_eq_true h2
      simp [safeVddChange, Nat.not_lt.2 h1, h, hbad, Island.trip_st]
    · have hok : supplyBad mv = false := decide_eq_false (by omega)
      simp [safeVddChange, show ¬mv < 2800 by omega, h, hok]
  · have hat (b : Bool) := atReady_at s.isl (s.isl.side b)
    refine Runs.island rfl ?_
    simp only [selfTestEnd_passed hst ht hs hlo hhi]
    refine ⟨rfl, rfl, fun h => ?_, ?_, ?_, fun j => ?_, fun b k hk ha hb => ?_⟩
    · simp only [Island.driveOk, Island.both, h]
    · simp [Island.driveOk, Island.both, atReady_healthy]
    · simp [Island.driveOk, Island.both, atReady_healthy]
    · have hA := ((hat false).2 j).1
      have hB := ((hat true).2 j).2
      simp only [Island.side, Bool.false_eq_true, if_false, if_true] at hA hB
      simp [Island.hsPin, Island.lsPin, Island.driveOk, Island.both, hA, hB]
    · have hside : Island.side { s.isl with st := .ready } b = s.isl.side b := by cases b <;> rfl
      rw [Island.side_driveOk, Island.side_both, hside, (hat b).1 k hk, ha, hb]
      exact ⟨rfl, rfl, rfl⟩
  · refine Runs.island rfl ?_
    simp only [selfTestEnd_failed hst]
    exact ⟨rfl, rfl, rfl⟩
  · refine Runs.island rfl ?_
    simp only [oscFault_ready hst]
    exact ⟨rfl, rfl, rfl, rfl, rfl, fun j => Island.pins_low (show IslSt.fault ≠ .ready from nofun) j⟩
  · have hjudge := sealReread_ready (up := up) (down := down) hst h0 h1000
    refine Runs.island rfl ⟨rfl, fun hfl => ?_, fun hfl hne => ?_, fun hfl heq hres => ?_⟩
    · rw [hjudge, if_pos hfl]
      exact ⟨rfl, rfl⟩
    · rw [hjudge, if_neg (not_not.2 hfl), if_pos (by simpa [hfl] using hne)]
      exact ⟨rfl, rfl⟩
    · simp [hjudge, hfl, heq, hres]

end Sys2Proof.Machine
end

section
/-!
The work of one island tick (R434). The statement ranges over every tick operand; a tick that does not carry the coil
currents of exactly four outputs names no unit and stops (`Instr.wellFormed`).
-/
namespace Sys2Proof.Machine

/-- A tick without the readings of its four coil currents. -/
def tickWithoutCoils : TickIn := ⟨0, 0, false, false, 0, []⟩

/-- Refutes O27: with no coil currents among its operands a tick stops with `noSuchUnit`, on the island at reset, where the
statement asks for an answer. -/
theorem not_islandTickWork : ¬ Obligations.IslandTickWork := by
  unfold Obligations.IslandTickWork
  intro h
  obtain ⟨t, hx, -⟩ := (h State.reset tickWithoutCoils rfl).1 rfl
  have hstop : exec (.islandTick tickWithoutCoils) State.reset = .fault .noSuchUnit := exec_ill rfl State.reset
  exact absurd (hstop.symm.trans hx) nofun

end Sys2Proof.Machine
end

section
/-!
What the operations of the point store write (R55 to R98): the points that they name, alarms and subscriptions, and what
reports write (`Dev.stores`).
-/
namespace Sys2Proof.Machine

/-- From `d` to `d'` no point but those of `P` has changed, and beside points, alarms, subscriptions and what reports write
nothing. -/
def Dev.stores (P : Nat → Prop) (d d' : Dev) : Prop :=
  (∀ q, ¬ P q → d'.point q = d.point q) ∧ d.reportsTo d' ∧
    d' = { d with
      ps := { d.ps with points := d'.ps.points, alarms := d'.ps.alarms, subs := d'.ps.subs }
      tr := d'.tr, rcd := d'.rcd, flt := d'.flt }

theorem Dev.stores_refl (P : Nat → Prop) (d : Dev) : d.stores P d := ⟨fun _ _ => rfl, Dev.reportsTo_refl d, rfl⟩

theorem Dev.stores_trans {P : Nat → Prop} {a b c : Dev} (h1 : a.stores P b) (h2 : b.stores P c) : a.stores P c := by
  obtain ⟨hp, hr, he⟩ := h1
  obtain ⟨hp', hr', he'⟩ := h2
  refine ⟨fun q hq => (hp' q hq).trans (hp q hq), Dev.reportsTo_trans hr hr', ?_⟩
  rw [he', he]

theorem Dev.stores_mono {P Q : Nat → Prop} {d d' : Dev} (h : d.stores P d') (hPQ : ∀ q, P q → Q q) : d.stores Q d' := by
  obtain ⟨hp, hr, he⟩ := h
  exact ⟨fun q hq => hp q fun hP => hq (hPQ q hP), hr, he⟩

theorem foldl_stores {α : Type} {P : Nat → Prop} {f : Dev → α → Dev} (h : ∀ d x, Dev.stores P d (f d x)) (xs : List α) (d : Dev) :
    d.stores P (xs.foldl f d) := by
  induction xs generalizing d with
  | nil => exact Dev.stores_refl P d
  | cons x xs ih => exact Dev.stores_trans (h d x) (ih _)

theorem report_stores (P : Nat → Prop) (e : Event) (d : Dev) : d.stores P (report e d) := by
  refine ⟨fun q _ => report_point e d q, report_reportsTo e d, ?_⟩
  have h := report_reportsOnly e d
  unfold Dev.reportsOnly at h
  rw [h]

/-- A record as a store leaves it: counted and stamped where VALUE, QUALITY or DETAIL changes (R55). -/
def Point.stored (old x : Point) (cal : W64) : Point :=
  if x.value = old.value ∧ x.quality = old.quality ∧ x.detail = old.detail then x
  else { x with changeCnt := old.changeCnt + 1, tstamp := cal, mirPending := x.mirPending || x.mirrored }

theorem Point.stored_keeps (old x : Point) (cal : W64) : (old.stored x cal).value = x.value ∧
    (old.stored x cal).quality = x.quality ∧ (old.stored x cal).detail = x.detail ∧
    (old.stored x cal).owner = x.owner ∧ (old.stored x cal).srcKind = x.srcKind ∧
    (old.stored x cal).srcIndex = x.srcIndex ∧ (old.stored x cal).subst = x.subst ∧
    (old.stored x cal).substForce = x.substForce ∧ (old.stored x cal).quarantined = x.quarantined ∧
    (old.stored x cal).ptype = x.ptype ∧ (old.stored x cal).share = x.share ∧ (old.stored x cal).alarmRef = x.alarmRef ∧
    (old.stored x cal).override = x.override ∧ (old.stored x cal).mirrored = x.mirrored := by
  unfold Point.stored
  split <;> simp

theorem storePoint_point_eq (p q : Nat) (x : Point) (cal : W64) (d : Dev) :
    (storePoint p x cal d).point q = if q = p then (d.point p).stored x cal else d.point q := by
  by_cases h : q = p
  · rw [if_pos h, h]
    obtain ⟨hsame, hdiff⟩ := storePoint_point_self p x cal d
    unfold Point.stored
    split
    · next hu => exact hsame hu
    · next hu => exact hdiff hu
  · rw [if_neg h, storePoint_point p q x cal d h]

theorem storePoint_stores (p : Nat) (x : Point) (cal : W64) (d : Dev) : d.stores (· = p) (storePoint p x cal d) := by
  refine ⟨fun q hq => storePoint_point p q x cal d hq, ?_⟩
  obtain ⟨y, al, su, e, -⟩ := storePoint_eq p x cal d
  rw [e]
  exact ⟨Dev.reportsTo_of_eq rfl rfl rfl, rfl⟩

theorem produce_stores (p : Nat) (v : W64) (q : BitVec 2) (det : BitVec 8) (cal : W64) (d : Dev) :
    d.stores (· = p) (produce p v q det cal d) := by
  unfold produce
  dsimp only
  split
  · exact Dev.stores_refl _ d
  · split
    · exact storePoint_stores ..
    · exact storePoint_stores ..

theorem produceQ_stores (p : Nat) (q : BitVec 2) (det : BitVec 8) (cal : W64) (d : Dev) :
    d.stores (· = p) (produceQ p q det cal d) := by
  unfold produceQ
  dsimp only
  split
  · exact Dev.stores_refl _ d
  · exact storePoint_stores ..

theorem produceAs_stores (kind index p : Nat) (v : W64) (q : BitVec 2) (det : BitVec 8) (cal : W64) (d : Dev) :
    d.stores (· = p) (produceAs kind index p v q det cal d) := by
  unfold produceAs
  split
  · exact produce_stores ..
  · exact Dev.stores_refl _ d

theorem produceQAs_stores (kind index p : Nat) (q : BitVec 2) (det : BitVec 8) (cal : W64) (d : Dev) :
    d.stores (· = p) (produceQAs kind index p q det cal d) := by
  unfold produceQAs
  split
  · exact produceQ_stores ..
  · exact Dev.stores_refl _ d

theorem claimPoint_stores (kind index p : Nat) (d : Dev) : d.stores (· = p) (claimPoint kind index p d) :=
  storePoint_stores ..

theorem releasePoint_stores (p : Nat) (d : Dev) : d.stores (· = p) (releasePoint p d) := by
  unfold releasePoint
  dsimp only
  split
  · exact Dev.stores_refl _ d
  · exact storePoint_stores ..

theorem releaseAs_stores (kind index p : Nat) (d : Dev) : d.stores (· = p) (releaseAs kind index p d) := by
  unfold releaseAs
  split
  · exact releasePoint_stores ..
  · exact Dev.stores_refl _ d

theorem pointWriteOne_stores (part p : Nat) (e : PointElem) (d : Dev) : d.stores (· = p) (pointWriteOne part p e d) := by
  unfold pointWriteOne
  dsimp only
  split
  · exact storePoint_stores ..
  · exact storePoint_stores ..

theorem pointConfigOne_stores (p : Nat) (e : ConfigElem) (d : Dev) : d.stores (· = p) (pointConfigOne p e d) := by
  change d.stores _ (if (d.point p).override ≠ (configured e (d.point p)).override then
    report _ (storePoint p (configured e (d.point p)) d.cal d)
    else storePoint p (configured e (d.point p)) d.cal d)
  split
  · exact Dev.stores_trans (storePoint_stores ..) (report_stores ..)
  · exact storePoint_stores ..

/-- Does the source word of a record name a producer (R62). -/
def Point.producedBy (x : Point) (kind index : Nat) : Bool :=
  x.srcKind == BitVec.ofNat 4 kind && x.srcIndex == BitVec.ofNat 28 index

/-- A record after a change of quality alone by the producer with this source word (R65, R95, R98). -/
def Point.tookQ (x : Point) (kind index : Nat) (q : BitVec 2) (det : BitVec 8) (cal : W64) : Point :=
  if x.producedBy kind index then
    if x.subst || x.quarantined then x else x.stored { x with quality := q, detail := det } cal
  else x

theorem produceQAs_point (kind index p k : Nat) (q : BitVec 2) (det : BitVec 8) (cal : W64) (d : Dev) :
    (produceQAs kind index p q det cal d).point k =
      if k = p then (d.point p).tookQ kind index q det cal else d.point k := by
  unfold produceQAs produceQ Point.tookQ
  change (if (d.point p).producedBy kind index then _ else _ : Dev).point k = _
  dsimp only
  split
  · split
    · split
      · next h => rw [h]
      · rfl
    · exact storePoint_point_eq ..
  · split
    · next h => rw [h]
    · rfl

/-- A quality that its producer sets stands in the point (R98). -/
theorem Point.tookQ_holds {x : Point} {kind index : Nat} {q : BitVec 2} {det : BitVec 8} {cal : W64}
    (hs : x.subst = false) (hq : x.quarantined = false) (h : x.producedBy kind index = true) :
    (x.tookQ kind index q det cal).quality = q ∧ (x.tookQ kind index q det cal).detail = det := by
  unfold Point.tookQ
  rw [if_pos h, if_neg (by simp [hs, hq])]
  obtain ⟨-, h2, h3, -⟩ := Point.stored_keeps x { x with quality := q, detail := det } cal
  exact ⟨h2, h3⟩

end Sys2Proof.Machine
end

section
/-!
The loss of the island link (R458).
-/
namespace Sys2Proof.Machine

/-- What changes beside what reports write is the point store. -/
theorem Dev.stores_dev {P : Nat → Prop} {d d' : Dev} (h : d.stores P d') :
    d' = { d with ps := d'.ps, tr := d'.tr, rcd := d'.rcd, flt := d'.flt } := by
  obtain ⟨-, -, he⟩ := h
  exact he.trans (congrArg (fun x => ({ d with ps := x, tr := d'.tr, rcd := d'.rcd, flt := d'.flt } : Dev))
    (congrArg Dev.ps he).symm)

/-- An equation of modules, with what goes out left open. -/
theorem Dev.eq_but_out {a d : Dev} (h : a = d) : a = { d with wire := a.wire, out := a.out, wr := a.wr } := by
  subst h
  rfl

/-- One mapped diagnostic point turns BAD with the link. -/
def linkPoint (d : Dev) (i : Nat) : Dev := produceQAs 6 i (d.diag.ptBase.toNat + i) 2 0x08 d.tb.cal0 d

/-- All of them do. -/
def linkPoints (d : Dev) : Dev := (List.range 14).foldl linkPoint d

/-- The module with LINK_OK clear. -/
def Dev.linkDown (d : Dev) : Dev := { d with diag := { d.diag with linkOk := false } }

theorem islandLinkLost_due {d : Dev} (h : d.diag.linkOk = true) (hs : 3 ≤ d.diag.stale) :
    ∃ e, islandLinkLost d = report e (if d.diag.en then linkPoints d.linkDown else d.linkDown) := by
  unfold islandLinkLost
  rw [if_pos (by simp [h, hs])]
  exact ⟨_, rfl⟩

theorem islandLinkLost_not_due {d : Dev} (h : d.diag.linkOk = false ∨ d.diag.stale < 3) : islandLinkLost d = d := by
  unfold islandLinkLost
  rcases h with h | h <;> simp [h]

theorem linkPoints_stores (d : Dev) : d.stores (fun _ => True) (linkPoints d) :=
  foldl_stores (fun _ _ => Dev.stores_mono (produceQAs_stores ..) (fun _ _ => trivial)) _ d

/-- Each mapped point takes the quality that its producer sets. -/
theorem linkPoints_point (d : Dev) {i : Nat} (hi : i < 14) : (linkPoints d).point (d.diag.ptBase.toNat + i) =
    (d.point (d.diag.ptBase.toNat + i)).tookQ 6 i 2 0x08 d.tb.cal0 := by
  obtain ⟨-, h⟩ := foldl_range_get (fun c i => c.point (d.diag.ptBase.toNat + i)) linkPoint
    (fun i x => x.tookQ 6 i 2 0x08 d.tb.cal0) (fun c => c.diag = d.diag ∧ c.tb = d.tb)
    (fun c k hc => by
      obtain ⟨-, -, he⟩ := produceQAs_stores 6 k (c.diag.ptBase.toNat + k) 2 0x08 c.tb.cal0 c
      unfold linkPoint
      rw [he]
      exact hc)
    (fun c k hc => by rw [linkPoint, produceQAs_point, hc.1, hc.2, if_pos rfl])
    (fun c k m hc hm => by rw [linkPoint, produceQAs_point, hc.1, if_neg (by omega)]) 14 (c := d) ⟨rfl, rfl⟩
  exact (h i).trans (if_pos hi)

/-- Before LINK_OK is reported, the diagnostic points stand in the point store alone. -/
theorem linkLost_stores (b : Bool) (e : Event) (d : Dev) :
    d.stores (fun _ => True) (report e (if b then linkPoints d else d)) := by
  refine Dev.stores_trans ?_ (report_stores _ e _)
  split
  · exact linkPoints_stores d
  · exact Dev.stores_refl _ d

/-- Settles O32: the points take the quality of their producer one by one. -/
theorem islandLink : Obligations.IslandLink := by
  intro s hs
  refine ⟨fun hok h3 => ?_, fun h => Runs.stays rfl rfl hs (islandLinkLost_not_due h)⟩
  refine Runs.mainChecked rfl rfl hs ?_
  obtain ⟨e, he⟩ := islandLinkLost_due (d := s.dev.fresh0) hok h3
  have hst := linkLost_stores s.dev.diag.en e s.dev.fresh0.linkDown
  have hoff (h : s.dev.diag.en = false) : (islandLinkLost s.dev.fresh0).ps = s.dev.ps := by
    simp [he, h, Dev.linkDown]
  have hon (h : s.dev.diag.en = true) {i : Nat} (hi : i < 14) :
      (islandLinkLost s.dev.fresh0).point (s.dev.diag.ptBase.toNat + i) =
        (s.dev.point (s.dev.diag.ptBase.toNat + i)).tookQ 6 i 2 0x08 s.dev.tb.cal0 := by
    rw [he, report_point, if_pos (by simp [h])]
    exact linkPoints_point s.dev.fresh0.linkDown hi
  rw [show islandLinkLost s.dev.fresh0 = _ from he] at hoff hon ⊢
  change s.dev.fresh0.linkDown.stores _ (report e (if s.dev.fresh0.diag.en then _ else _)) at hst
  generalize report e _ = a at hst hoff hon ⊢
  have hd := Dev.stores_dev hst
  obtain ⟨-, hr, -⟩ := hst
  simp only [State.after_dev, State.after_objects]
  refine ⟨congrArg Dev.diag hd, rfl, hoff, fun hen i hi hsub hq hp => ?_, ?_⟩
  · rw [hon hen hi]
    exact Point.tookQ_holds hsub hq hp
  · exact State.frame_of_eq (Dev.reportsTo_congr hr rfl rfl rfl) (Dev.eq_but_out hd) (congrArg Dev.wire hd)

end Sys2Proof.Machine
end

section
/-!
Memory errors of the point store and the expiry of an alarm delay (R85, R94 to R98).
-/
namespace Sys2Proof.Machine

/-! ### The rights to read (R93) -/

/-- One subscription is revoked, or restored. -/
def rightsStep (d : Dev) (e : Nat) : Dev :=
  let s := d.sub e
  let h := d.subHolder e
  let ok := match h with
    | some part => d.canRead part s.point.toNat
    | none => false
  if !ok && !s.revoked then
    report { ev 0x0206 false e s.point.toNat with dests := match h with
      | some part => if part = 0 then [0] else [0, part]
      | none => [0] } (d.setSub e { s with revoked := true, pending := false })
  else if ok && s.revoked then d.setSub e { s with revoked := false, pending := true }
  else d

theorem rightsChanged_eq (d : Dev) :
    rightsChanged d = ((d.ps.subs.filter (fun s => s.2.en)).map (·.1)).foldl rightsStep d := rfl

/-- From `d` to `d'` subscriptions alone have changed, and of them no point and no EN. -/
def Dev.rightsOnly (d d' : Dev) : Prop :=
  (∀ e, (d'.sub e).en = (d.sub e).en ∧ (d'.sub e).point = (d.sub e).point) ∧
    d'.ps = { d.ps with subs := d'.ps.subs }

theorem Dev.rightsOnly_refl (d : Dev) : d.rightsOnly d := ⟨fun _ => ⟨rfl, rfl⟩, rfl⟩

theorem Dev.rightsOnly_trans {a b c : Dev} (h1 : a.rightsOnly b) (h2 : b.rightsOnly c) : a.rightsOnly c := by
  obtain ⟨hs, hp⟩ := h1
  obtain ⟨hs', hp'⟩ := h2
  refine ⟨fun e => ⟨(hs' e).1.trans (hs e).1, (hs' e).2.trans (hs e).2⟩, ?_⟩
  rw [hp', hp]

/-- The rights of the entries' partitions do not move with the entries' own state. -/
theorem Dev.rightsOnly_readable {d d' : Dev} (h : d.rightsOnly d') (e : Nat) : d'.subReadable e = d.subReadable e := by
  obtain ⟨hs, hp⟩ := h
  have hholder : d'.subHolder e = d.subHolder e := by unfold Dev.subHolder; rw [hp]
  have hread (part p : Nat) : d'.canRead part p = d.canRead part p := by
    unfold Dev.canRead Dev.point Dev.shareMask
    rw [hp]
  unfold Dev.subReadable
  rw [hholder, (hs e).2]
  split
  · exact hread ..
  · rfl

theorem rightsStep_cases (d : Dev) (e : Nat) :
    (∃ ev y, rightsStep d e = report ev (d.setSub e y) ∧ y = { d.sub e with revoked := true, pending := false } ∧
      d.subReadable e = false) ∨
    (∃ y, rightsStep d e = d.setSub e y ∧ y = { d.sub e with revoked := false, pending := true } ∧
      d.subReadable e = true) ∨
    (rightsStep d e = d ∧ (d.sub e).revoked = !d.subReadable e) := by
  have hr : rightsStep d e = if !d.subReadable e && !(d.sub e).revoked then
      report { ev 0x0206 false e (d.sub e).point.toNat with dests := match d.subHolder e with
        | some part => if part = 0 then [0] else [0, part]
        | none => [0] } (d.setSub e { d.sub e with revoked := true, pending := false })
      else if d.subReadable e && (d.sub e).revoked then d.setSub e { d.sub e with revoked := false, pending := true } else d := by
    unfold rightsStep Dev.subReadable
    cases d.subHolder e <;> rfl
  rw [hr]
  cases hok : d.subReadable e <;> cases hrv : (d.sub e).revoked
  · exact .inl ⟨_, _, rfl, rfl, rfl⟩
  · exact .inr (.inr ⟨rfl, rfl⟩)
  · exact .inr (.inr ⟨rfl, rfl⟩)
  · exact .inr (.inl ⟨_, rfl, rfl, rfl⟩)

theorem setSub_rightsOnly {d : Dev} {e : Nat} {y : Sub} (hen : y.en = (d.sub e).en) (hp : y.point = (d.sub e).point) :
    d.rightsOnly (d.setSub e y) := by
  refine ⟨fun j => ?_, rfl⟩
  rw [Dev.sub_setSub]
  split
  · next h => rw [h]; exact ⟨hen, hp⟩
  · exact ⟨rfl, rfl⟩

theorem report_rightsOnly (e : Event) (d : Dev) : d.rightsOnly (report e d) := by
  refine ⟨fun j => by rw [report_sub]; exact ⟨rfl, rfl⟩, ?_⟩
  rw [(report_keeps e d).2.1]

theorem rightsStep_rightsOnly (d : Dev) (e : Nat) : d.rightsOnly (rightsStep d e) := by
  rcases rightsStep_cases d e with ⟨ev, y, h, hy, -⟩ | ⟨y, h, hy, -⟩ | ⟨h, -⟩
  · rw [h]
    exact Dev.rightsOnly_trans (setSub_rightsOnly (by rw [hy]) (by rw [hy])) (report_rightsOnly ..)
  · rw [h]
    exact setSub_rightsOnly (by rw [hy]) (by rw [hy])
  · rw [h]
    exact Dev.rightsOnly_refl d

/-- The step of an entry settles it, and leaves the other entries. -/
theorem rightsStep_sub (d : Dev) (e : Nat) : ((rightsStep d e).sub e).revoked = !d.subReadable e ∧
    ∀ j, j ≠ e → (rightsStep d e).sub j = d.sub j := by
  rcases rightsStep_cases d e with ⟨ev, y, h, hy, hok⟩ | ⟨y, h, hy, hok⟩ | ⟨h, hok⟩
  · rw [h, hok, hy]
    simp +contextual
  · rw [h, hok, hy]
    simp +contextual
  · rw [h]
    exact ⟨hok, fun _ _ => rfl⟩

theorem rightsStep_stores (d : Dev) (e : Nat) : d.stores (fun _ => False) (rightsStep d e) := by
  have hset (y : Sub) : d.stores (fun _ => False) (d.setSub e y) := ⟨fun _ _ => rfl, Dev.reportsTo_of_eq rfl rfl rfl, rfl⟩
  rcases rightsStep_cases d e with ⟨ev, y, h, -⟩ | ⟨y, h, -⟩ | ⟨h, -⟩
  · rw [h]
    exact Dev.stores_trans (hset y) (report_stores ..)
  · rw [h]
    exact hset y
  · rw [h]
    exact Dev.stores_refl _ d

theorem rightsChanged_stores (d : Dev) : d.stores (fun _ => False) (rightsChanged d) :=
  foldl_stores rightsStep_stores _ d

/-- Every entry of the keys is settled by the steps, and an entry that was settled before stays so. -/
theorem foldl_rightsStep_settles (ks : List Nat) (d : Dev) : d.rightsOnly (ks.foldl rightsStep d) ∧
    ∀ e, (e ∈ ks ∨ (d.sub e).revoked = !d.subReadable e) →
      ((ks.foldl rightsStep d).sub e).revoked = !d.subReadable e := by
  induction ks generalizing d with
  | nil => exact ⟨Dev.rightsOnly_refl d, fun e h => h.resolve_left (List.not_mem_nil)⟩
  | cons k ks ih =>
    obtain ⟨hro, hset⟩ := ih (rightsStep d k)
    obtain ⟨hself, hother⟩ := rightsStep_sub d k
    have hread := Dev.rightsOnly_readable (rightsStep_rightsOnly d k)
    refine ⟨Dev.rightsOnly_trans (rightsStep_rightsOnly d k) hro, fun e he => ?_⟩
    rw [List.foldl_cons, ← hread e]
    refine hset e ?_
    by_cases hek : e = k
    · subst hek
      exact .inr (hself.trans (by rw [hread]))
    · rcases he with he | he
      · exact .inl (List.mem_of_ne_of_mem hek he)
      · exact .inr (by rw [hother e hek, hread, he])

/-- An entry that is not its table's default stands in the table. -/
theorem mem_of_tget {α : Type} {d : α} {t : Tbl α} {k : Nat} (h : tget d t k ≠ d) : (k, tget d t k) ∈ t := by
  induction t with
  | nil => exact absurd rfl h
  | cons e t ih =>
    obtain ⟨k', v⟩ := e
    unfold tget at h ⊢
    split at h
    · next hk => rw [if_pos hk, hk]; exact List.mem_cons_self
    · next hk => rw [if_neg hk]; exact List.mem_cons_of_mem _ (ih h)

/-- After a change of rights every enabled subscription is revoked exactly while its partition may not read (R93). -/
theorem rightsChanged_settled (d : Dev) : (rightsChanged d).rightsSettled := by
  intro e hen
  obtain ⟨hro, hset⟩ := foldl_rightsStep_settles ((d.ps.subs.filter (fun s => s.2.en)).map (·.1)) d
  rw [← rightsChanged_eq] at hro hset
  rw [Dev.rightsOnly_readable hro]
  rw [(hro.1 e).1] at hen
  refine hset e (.inl ?_)
  have hmem : (e, d.sub e) ∈ d.ps.subs := mem_of_tget (d := Sub.reset) fun h => by
    have : (d.sub e).en = Sub.reset.en := congrArg Sub.en h
    exact absurd (hen.symm.trans this) nofun
  exact List.mem_map.mpr ⟨(e, d.sub e), List.mem_filter.mpr ⟨hmem, hen⟩, rfl⟩

/-! ### Memory errors (R94, R95, R97) -/

/-- What changes in the pair state first is no concern of the point store. -/
theorem Dev.stores_ply {P : Nat → Prop} {a b : Dev} (h : a.stores P b) (p : Ply) :
    ({ a with ply := p } : Dev).stores P { b with ply := p } := by
  obtain ⟨hp, hr, he⟩ := h
  exact ⟨hp, hr, congrArg (fun x => ({ x with ply := p } : Dev)) he⟩

/-- The registers of the point store stay. -/
theorem Dev.stores_regs {P : Nat → Prop} {a b : Dev} (h : a.stores P b) :
    b.ps.shareMask = a.ps.shareMask ∧ b.ps.subRange = a.ps.subRange ∧ b.ps.eccCnt = a.ps.eccCnt ∧
      b.ps.eccLast = a.ps.eccLast ∧ b.ply = a.ply ∧ b.wire = a.wire ∧ b.out = a.out := by
  obtain ⟨-, -, he⟩ := h
  rw [he]
  exact ⟨rfl, rfl, rfl, rfl, rfl, rfl, rfl⟩

/-- After an error is counted, the point store and reports alone go on. -/
theorem pointErrorNoted_after {s : State} {table index : Nat} {ply : Ply} {P : Nat → Prop} {a : Dev}
    (h : ({ pointEcc table index s.dev.fresh0 with ply := ply } : Dev).stores P a) :
    pointErrorNoted s table index ply (s.after a) := by
  obtain ⟨-, -, hc, hl, -, hw, -⟩ := Dev.stores_regs h
  obtain ⟨-, hr, he⟩ := h
  unfold pointErrorNoted
  simp only [State.after_dev]
  refine ⟨hc, hl, ?_⟩
  refine State.frame_of_eq (Dev.reportsTo_congr hr rfl rfl rfl) ?_ hw
  rw [hc, hl]
  exact Dev.eq_but_out he

theorem setPoint_stores (p : Nat) (x : Point) (d : Dev) : d.stores (· = p) (d.setPoint p x) := by
  refine ⟨fun q hq => ?_, Dev.reportsTo_of_eq rfl rfl rfl, rfl⟩
  rw [Dev.point_setPoint, if_neg hq]

theorem setAlarm_stores (P : Nat → Prop) (e : Nat) (x : Alarm) (d : Dev) : d.stores P (d.setAlarm e x) :=
  ⟨fun _ _ => rfl, Dev.reportsTo_of_eq rfl rfl rfl, rfl⟩

theorem setSub_stores (P : Nat → Prop) (e : Nat) (x : Sub) (d : Dev) : d.stores P (d.setSub e x) :=
  ⟨fun _ _ => rfl, Dev.reportsTo_of_eq rfl rfl rfl, rfl⟩

theorem pointMemory_stores (p : Nat) (d : Dev) : (pointEcc 0 p d).stores (· = p) (pointMemory p d) :=
  Dev.stores_trans (report_stores ..) (storePoint_stores ..)

theorem pointMemory_runs {s : State} (hs : s.up) {p : Nat} (hp : p < 131072) : Runs (.pointMemory p) s (fun t =>
    (t.dev.point p).value = 0 ∧ (t.dev.point p).tstamp = s.dev.cal ∧ (t.dev.point p).quality = 2 ∧
      (t.dev.point p).detail = 0x0C ∧ (t.dev.point p).owner = (s.dev.point p).owner ∧
      (∀ q, q ≠ p → t.dev.point q = s.dev.point q) ∧ pointErrorNoted s 0 p s.dev.ply t) := by
  refine Runs.mainChecked rfl (decide_eq_true hp) hs ?_
  have hst := pointMemory_stores p s.dev.fresh0
  have hnote := pointErrorNoted_after (s := s) (ply := s.dev.ply) hst
  have hpoint : (pointMemory p s.dev.fresh0).point p = (s.dev.point p).stored
      { s.dev.point p with value := 0, quality := 2, detail := 0x0C, tstamp := s.dev.cal } s.dev.cal := by
    unfold pointMemory
    rw [storePoint_point_eq, if_pos rfl, report_point]
    rfl
  have hts (x y : Point) (c : W64) (h : y.tstamp = c) : (x.stored y c).tstamp = c := by
    unfold Point.stored
    split
    · exact h
    · rfl
  obtain ⟨hv, hq, hd, ho, -⟩ := Point.stored_keeps (s.dev.point p)
    { s.dev.point p with value := 0, quality := 2, detail := 0x0C, tstamp := s.dev.cal } s.dev.cal
  simp only [State.after_objects, hpoint]
  exact ⟨hv, hts _ _ _ rfl, hq, hd, ho, hst.1, hnote⟩

theorem pointChanged_stores (p : Nat) (old : Point) (d : Dev) : d.stores (fun _ => False) (pointChanged p old d) := by
  obtain ⟨al, su, e⟩ := pointChanged_eq p old d
  rw [e]
  exact ⟨fun _ _ => rfl, Dev.reportsTo_of_eq rfl rfl rfl, rfl⟩

/-- The pair state with digest areas marked (R530). -/
def Ply.marked (areas : List Nat) (p : Ply) : Ply := { p with digestDue := areas.foldl (fun t a =>
  if (tget none t a).isSome then t else tset none t a (some 0)) p.digestDue }

theorem digestMark_eq (areas : List Nat) (d : Dev) : digestMark areas d = { d with ply := d.ply.marked areas } := rfl

theorem rightsSettled_of_ps {d d' : Dev} (h : d'.ps = d.ps) (hs : d.rightsSettled) : d'.rightsSettled := by
  have hsub (e : Nat) : d'.sub e = d.sub e := by unfold Dev.sub; rw [h]
  have hread := Dev.rightsOnly_readable (d := d) (d' := d') ⟨fun e => by rw [hsub]; exact ⟨rfl, rfl⟩, by rw [h]⟩
  intro e
  rw [hsub, hread]
  exact hs e

/-- A quarantined record. -/
def Point.quarantine : Point := { Point.reset with quality := 2, detail := 0x0C, quarantined := true }

/-- The record of a quarantined point is written, before alarms, subscriptions and rights act on it. -/
def pointQuarantined (p : Nat) (d : Dev) : Dev :=
  digestMark [5] ((report { ev 0x0202 true p 0 with dests := [0] } (pointEcc 0 p d)).setPoint p Point.quarantine)

theorem Dev.point_congr {d d' : Dev} (h : d'.ps.points = d.ps.points) (k : Nat) : d'.point k = d.point k := by
  unfold Dev.point
  rw [h]

theorem digestMark_point (areas : List Nat) (d : Dev) (k : Nat) : (digestMark areas d).point k = d.point k := rfl

theorem pointQuarantined_point (p : Nat) (d : Dev) : (pointQuarantined p d).point p = Point.quarantine := by
  unfold pointQuarantined
  rw [digestMark_point, Dev.point_setPoint, if_pos rfl]

theorem pointQuarantine_stores (p : Nat) (d : Dev) :
    (pointQuarantined p d).stores (fun _ => False) (pointQuarantine p d) := by
  change (pointQuarantined p d).stores _ (rightsChanged (if _ then pointQuarantined p d else
    pointChanged p (d.point p) (pointQuarantined p d)))
  refine Dev.stores_trans ?_ (rightsChanged_stores _)
  split
  · exact Dev.stores_refl _ _
  · exact pointChanged_stores ..

theorem pointQuarantined_stores (p : Nat) (d : Dev) :
    ({ pointEcc 0 p d with ply := d.ply.marked [5] } : Dev).stores (· = p) (pointQuarantined p d) := by
  have h : (pointEcc 0 p d).stores (· = p)
      ((report { ev 0x0202 true p 0 with dests := [0] } (pointEcc 0 p d)).setPoint p Point.quarantine) :=
    Dev.stores_trans (report_stores ..) (setPoint_stores ..)
  have hst := Dev.stores_ply h (d.ply.marked [5])
  have hply : ((report { ev 0x0202 true p 0 with dests := [0] } (pointEcc 0 p d)).setPoint p Point.quarantine).ply = d.ply :=
    (Dev.stores_regs h).2.2.2.2.1
  unfold pointQuarantined
  rw [digestMark_eq, hply]
  exact hst

theorem pointQuarantined_runs {s : State} (hs : s.up) {p : Nat} (hp : p < 131072) : Runs (.pointQuarantined p) s (fun t =>
    t.dev.point p = { Point.reset with quality := 2, detail := 0x0C, quarantined := true } ∧
      (∀ q, q ≠ p → t.dev.point q = s.dev.point q) ∧ t.dev.rightsSettled ∧
      pointErrorNoted s 0 p { s.dev.ply with digestDue := t.dev.ply.digestDue } t) := by
  refine Runs.mainChecked rfl (decide_eq_true hp) hs ?_
  have hq := pointQuarantine_stores p s.dev.fresh0
  have hst := Dev.stores_trans (pointQuarantined_stores p s.dev.fresh0) (Dev.stores_mono hq fun _ => False.elim)
  have hply : (pointQuarantine p s.dev.fresh0).ply = s.dev.ply.marked [5] := (Dev.stores_regs hst).2.2.2.2.1
  refine ⟨?_, fun q hne => ?_, ?_, ?_⟩
  · rw [(State.after_objects s _ p).1, hq.1 p id]
    exact pointQuarantined_point ..
  · rw [(State.after_objects s _ q).1]
    exact (hst.1 q hne).trans (Dev.point_congr rfl q)
  · have hset : (pointQuarantine p s.dev.fresh0).rightsSettled := rightsChanged_settled _
    exact rightsSettled_of_ps (State.after_dev s _).2.1 hset
  · simp only [State.after_dev]
    rw [hply]
    exact pointErrorNoted_after (ply := s.dev.ply.marked [5]) hst

/-- A disabled alarm entry, its levels in NORMAL. -/
def Alarm.disabled (a : Alarm) : Alarm := { a with levelEn := 0, qEn := false, levels := [] }

theorem alarmMemory_eq (e : Nat) (d : Dev) :
    alarmMemory e d = report (ev 0x0203 true e 0) ((pointEcc 1 e d).setAlarm e (d.alarm e).disabled) := rfl

theorem alarmMemory_runs {s : State} (hs : s.up) {e : Nat} (he : e < 16384) : Runs (.alarmMemory e) s (fun t =>
    t.dev.alarm e = { s.dev.alarm e with levelEn := 0, qEn := false, levels := [] } ∧
      (∀ l, (t.dev.alarm e).level l = .normal) ∧ (∀ q, q ≠ e → t.dev.alarm q = s.dev.alarm q) ∧
      t.dev.ps.points = s.dev.ps.points ∧ pointErrorNoted s 1 e s.dev.ply t) := by
  refine Runs.mainChecked rfl (decide_eq_true he) hs ?_
  have hst : (pointEcc 1 e s.dev.fresh0).stores (fun _ => False) (alarmMemory e s.dev.fresh0) :=
    Dev.stores_trans (setAlarm_stores ..) (report_stores ..)
  have hget (q : Nat) : (alarmMemory e s.dev.fresh0).alarm q = if q = e then (s.dev.alarm e).disabled else s.dev.alarm q := by
    rw [alarmMemory_eq, report_alarm, Dev.alarm_setAlarm]
    rfl
  have hps : (alarmMemory e s.dev.fresh0).ps.points = s.dev.ps.points := by
    rw [alarmMemory_eq, (report_keeps _ _).2.1]
    rfl
  have hnote := pointErrorNoted_after (ply := s.dev.ply) hst
  simp only [State.after_objects, State.after_dev, hget, if_true]
  exact ⟨rfl, fun _ => rfl, fun q hq => if_neg hq, hps, hnote⟩

/-- A disabled subscription entry. -/
def Sub.disabled (x : Sub) : Sub := { x with en := false, pending := false }

theorem subMemory_eq (e : Nat) (d : Dev) :
    ∃ v, subMemory e d = report v ((pointEcc 2 e d).setSub e (d.sub e).disabled) := ⟨_, rfl⟩

theorem subMemory_runs {s : State} (hs : s.up) {e : Nat} (he : e < 16384) : Runs (.subMemory e) s (fun t =>
    t.dev.sub e = { s.dev.sub e with en := false, pending := false } ∧ (∀ q, q ≠ e → t.dev.sub q = s.dev.sub q) ∧
      t.dev.ps.points = s.dev.ps.points ∧ pointErrorNoted s 2 e s.dev.ply t) := by
  refine Runs.mainChecked rfl (decide_eq_true he) hs ?_
  obtain ⟨v, hv⟩ := subMemory_eq e s.dev.fresh0
  have hst : (pointEcc 2 e s.dev.fresh0).stores (fun _ => False) (subMemory e s.dev.fresh0) := by
    rw [hv]
    exact Dev.stores_trans (setSub_stores ..) (report_stores ..)
  have hget (q : Nat) : (subMemory e s.dev.fresh0).sub q = if q = e then (s.dev.sub e).disabled else s.dev.sub q := by
    rw [hv, report_sub, Dev.sub_setSub]
    rfl
  have hps : (subMemory e s.dev.fresh0).ps.points = s.dev.ps.points := by
    rw [hv, (report_keeps _ _).2.1]
    rfl
  have hnote := pointErrorNoted_after (ply := s.dev.ply) hst
  simp only [State.after_objects, State.after_dev, hget, if_true]
  exact ⟨rfl, fun q hq => if_neg hq, hps, hnote⟩

/-! ### The delay of a level (R84, R85) -/

/-- What a level's own step leaves of the other levels. -/
theorem Alarm.level_set (a : Alarm) (l m : Nat) (s : LevelState) :
    ({ a with levels := tset .normal a.levels l s } : Alarm).level m = if m = l then s else a.level m := tget_tset ..

theorem delayExpiry_waits {e l : Nat} {d : Dev}
    (h : (∃ n, (d.alarm e).level l = .delaying n ∧ 1 < n) ∨ ∀ m, (d.alarm e).level l ≠ .delaying m) :
    delayExpiry e l d = d := by
  unfold delayExpiry
  rcases h with ⟨n, h, hn⟩ | h
  · rw [h]
    exact if_neg (by omega)
  · split
    · next n hn => exact absurd hn (h n)
    · rfl

theorem delayExpiry_due {e l n : Nat} {d : Dev} (h : (d.alarm e).level l = .delaying n) (hn : n ≤ 1) :
    delayExpiry e l d = d.setAlarm e (delayStep (d.alarmQuality e) l (d.alarm e)) := by
  unfold delayExpiry
  rw [h]
  exact if_pos hn

theorem delayStep_enters {q : BitVec 2} {l n : Nat} {a : Alarm} (h : a.level l = .delaying n) (hn : n ≤ 1) (h2 : q ≠ 2)
    (h3 : q ≠ 3) : delayStep q l a = a.move l .active true true := by
  unfold delayStep
  rw [h]
  exact if_pos ⟨hn, h2, h3⟩

theorem delayStep_waits {q : BitVec 2} {l n : Nat} {a : Alarm} (h : a.level l = .delaying n) (hn : n ≤ 1)
    (hq : q = 2 ∨ q = 3) : delayStep q l a = { a with levels := tset .normal a.levels l (.delaying 0) } := by
  unfold delayStep
  rw [h]
  have h0 : n - 1 = 0 := by omega
  rw [← h0]
  exact if_neg fun ⟨_, h2, h3⟩ => hq.elim h2 h3

theorem delayExpiry_enters {e l n : Nat} {d : Dev} (h : (d.alarm e).level l = .delaying n) (hn : n ≤ 1)
    (h2 : d.alarmQuality e ≠ 2) (h3 : d.alarmQuality e ≠ 3) :
    delayExpiry e l d = d.setAlarm e ((d.alarm e).move l .active true true) := by
  rw [delayExpiry_due h hn, delayStep_enters h hn h2 h3]

theorem delayExpiry_holds {e l n : Nat} {d : Dev} (h : (d.alarm e).level l = .delaying n) (hn : n ≤ 1)
    (hq : d.alarmQuality e = 2 ∨ d.alarmQuality e = 3) : delayExpiry e l d =
      d.setAlarm e { d.alarm e with levels := tset .normal (d.alarm e).levels l (.delaying 0) } := by
  rw [delayExpiry_due h hn, delayStep_waits h hn hq]

/-- A level that moves sets its own UNACKED bit, and no other (R85). -/
theorem Alarm.move_unacked (a : Alarm) (l : Nat) (s : LevelState) (c : Bool) {m : Nat} (hm : m < 4) :
    bit (a.move l s true c).unacked m = (bit a.unacked m || decide (m = l)) := by
  unfold Alarm.move mergeBits
  simp only [bit_or, bit_and, bit_not _ hm, bit_putB l true hm]
  cases bit a.unacked m <;> cases decide (m = l) <;> rfl

/-- Silence shown by one equation: nothing goes out, and the module is `b`. -/
theorem State.silent_of_eq {s : State} {a b : Dev} (h : a = { b with wire := [], out := [], wr := a.wr }) :
    s.silent (s.after a) b := by
  have ho : a.out = [] := congrArg Dev.out h
  unfold State.silent State.after
  rw [depart_none ho, h]

/-- Writing an alarm entry is silent, and leaves the others. -/
theorem silent_setAlarm (s : State) (e : Nat) (a : Alarm) :
    let t := s.after (s.dev.fresh0.setAlarm e a)
    t.dev.alarm e = a ∧ (∀ q, q ≠ e → t.dev.alarm q = s.dev.alarm q) ∧
      s.silent t { s.dev with ps := { s.dev.ps with alarms := t.dev.ps.alarms } } := by
  refine ⟨?_, fun q hq => ?_, ?_⟩
  · rw [(State.after_objects ..).2.1, Dev.alarm_setAlarm, if_pos rfl]
  · rw [(State.after_objects ..).2.1, Dev.alarm_setAlarm, if_neg hq]
    rfl
  · rw [(State.after_dev ..).2.1]
    exact State.silent_of_eq rfl

/-- Settles O9, one lemma for each item that fails. -/
theorem pointStoreEvents : Obligations.PointStoreEvents := by
  refine ⟨fun s hs => ⟨fun p => pointMemory_runs hs, fun p => pointQuarantined_runs hs, fun e => alarmMemory_runs hs,
    fun e => subMemory_runs hs⟩, fun s e l n hs he hl => ?_⟩
  have hw : (Instr.alarmDelayExpiry e l).wellFormed = true := decide_eq_true ⟨he, hl⟩
  refine ⟨fun h hn h2 h3 => ?_, fun h hn hq => ?_, fun h => ?_⟩
  · refine Runs.mainChecked rfl hw hs ?_
    rw [delayExpiry_enters (d := s.dev.fresh0) h hn h2 h3]
    obtain ⟨hself, hother, hsil⟩ := silent_setAlarm s e ((s.dev.fresh0.alarm e).move l .active true true)
    rw [hself]
    refine ⟨?_, ?_, rfl, rfl, fun m hm => ?_, fun m hm hne => ?_, hother, hsil⟩
    · exact (Alarm.level_set ..).trans (if_pos rfl)
    · simp [Alarm.move_unacked, hl]
    · exact (Alarm.level_set ..).trans (if_neg hm)
    · simp [Alarm.move_unacked, hm, hne]
  · refine Runs.mainChecked rfl hw hs ?_
    rw [delayExpiry_holds (d := s.dev.fresh0) h hn hq]
    obtain ⟨hself, hother, hsil⟩ := silent_setAlarm s e { s.dev.fresh0.alarm e with
      levels := tset .normal (s.dev.fresh0.alarm e).levels l (.delaying 0) }
    rw [hself]
    exact ⟨(Alarm.level_set ..).trans (if_pos rfl), rfl, fun m hm => (Alarm.level_set ..).trans (if_neg hm), hother, hsil⟩
  · refine Runs.stays rfl hw hs (delayExpiry_waits ?_)
    exact h.imp (fun h => ⟨n, h⟩) id

end Sys2Proof.Machine
end

section
/-!
The third clause of O10 says that a write of one subscription entry leaves every other one. A change of rights goes through
the table of the subscriptions and acts on every enabled item that is listed; a state may list a number twice, and then acts
on the entry of that number although the entry itself is not enabled.
-/
namespace Sys2Proof.Machine

/-- A running module in which partition 5 owns point 131071 and holds subscription entry 16383. It lists entry 1 twice: first
the entry itself, which is not enabled, then an enabled item. -/
def twiceListed : State := { State.reset with dev := { Dev.reset with
  pwr := { Dev.reset.pwr with main := .running }
  ps := { Dev.reset.ps with
    points := [(131071, { Point.reset with owner := 5 })]
    subs := [(1, Sub.reset), (1, { Sub.reset with en := true })]
    subRange := [(5, 0x00013FFF)] } } }

/-- An image of entry 16383: enabled, on a change of value, of point 131071. -/
def subscribed : BitVec 256 := putB 256 25 true ||| putB 256 21 true ||| put 256 0 131071#17

theorem twiceListed_up : twiceListed.up := by decide +kernel

theorem twiceListed_admits : writeAdmitted (writeCmd ((twiceListed.dev.subHolder 16383).getD 0) 0x09 0x03 16383 32
    subscribed.toNat) twiceListed := by decide +kernel

/-- None of its entries is enabled. -/
theorem twiceListed_sub (e : Nat) : twiceListed.dev.sub e = Sub.reset := by
  by_cases h : e = 1
  · rw [h]
    rfl
  · change (if 1 = e then Sub.reset else if 1 = e then { Sub.reset with en := true } else Sub.reset) = Sub.reset
    rw [if_neg (Ne.symm h), if_neg (Ne.symm h)]

/-- The write revokes entry 1. -/
theorem twiceListed_revoked :
    ((twiceListed.after (subEnable 16383 subscribed twiceListed.dev.fresh0)).dev.sub 1).revoked = true := by decide +kernel

/-- Refutes O10: the write of entry 16383 revokes entry 1, which is not enabled, since an enabled item of its number is
listed behind it. -/
theorem not_sharingAndSubscriptions : ¬ Obligations.SharingAndSubscriptions := by
  intro h
  have hset : twiceListed.dev.rightsSettled := fun e he => by
    rw [twiceListed_sub] at he
    exact absurd he nofun
  obtain ⟨t, ht, -, -, -, hother, -⟩ := h.2 twiceListed 16383 subscribed twiceListed_up (by omega) hset twiceListed_admits
  have hx : exec (.subEnable 16383 subscribed) twiceListed =
      .next (twiceListed.after (subEnable 16383 subscribed twiceListed.dev.fresh0)) :=
    mainStep_up (subEnable 16383 subscribed) twiceListed twiceListed_up
  obtain rfl : twiceListed.after _ = t := Host.Outcome.next.inj (hx.symm.trans ht)
  have := congrArg Sub.revoked (hother 1 (by omega))
  rw [twiceListed_revoked, twiceListed_sub] at this
  exact absurd this nofun

end Sys2Proof.Machine
end

section
/-!
How a command ends (R107, R113, R119, R120): what `finish` makes of the slots, of the channel's completions, and that it
leaves the rest of the module alone (`Dev.endsOn`).
-/
namespace Sys2Proof.Machine

/-! ### Slots -/

/-- The slot of a channel and tag in a list of slots. -/
def slotIn (ch tag : Nat) (xs : List Cmd) : Option Cmd := xs.find? (fun c => decide (c.ch = ch ∧ c.tag = tag))

theorem Dev.slot_eq (d : Dev) (ch tag : Nat) : d.slot ch tag = slotIn ch tag d.cp.slots := rfl

theorem slotIn_names {ch tag : Nat} {xs : List Cmd} {c : Cmd} (h : slotIn ch tag xs = some c) :
    c.ch = ch ∧ c.tag = tag ∧ c ∈ xs := by
  unfold slotIn at h
  have hp := List.find?_some h
  obtain ⟨h1, h2⟩ := of_decide_eq_true hp
  exact ⟨h1, h2, List.mem_of_find?_eq_some h⟩

/-- A map that keeps channels and tags maps what a slot holds. -/
theorem slotIn_map {f : Cmd → Cmd} (hf : ∀ c, (f c).ch = c.ch ∧ (f c).tag = c.tag) (ch tag : Nat) (xs : List Cmd) :
    slotIn ch tag (xs.map f) = (slotIn ch tag xs).map f := by
  unfold slotIn
  rw [List.find?_map]
  congr 2
  funext c
  simp [(hf c).1, (hf c).2]

theorem Dev.slot_setSlot (d : Dev) (x : Cmd) (ch tag : Nat) : (d.setSlot x).slot ch tag =
    if x.ch = ch ∧ x.tag = tag then (d.slot ch tag).map (fun _ => x) else d.slot ch tag := by
  rw [Dev.slot_eq, Dev.slot_eq, Dev.setSlot, slotIn_map (fun c => by split <;> simp_all)]
  split
  · next h =>
    cases hs : slotIn ch tag d.cp.slots with
    | none => rfl
    | some c =>
      obtain ⟨h1, h2, -⟩ := slotIn_names hs
      simp [h1, h2, h.1, h.2]
  · next h =>
    cases hs : slotIn ch tag d.cp.slots with
    | none => rfl
    | some c =>
      obtain ⟨h1, h2, -⟩ := slotIn_names hs
      simp only [Option.map_some]
      rw [if_neg (by rintro ⟨h3, h4⟩; exact h ⟨h3 ▸ h1, h4 ▸ h2⟩)]

theorem Dev.slot_freeSlot (d : Dev) (ch tag : Nat) : (d.freeSlot ch tag).slot ch tag = none := by
  rw [Dev.slot_eq, Dev.freeSlot, slotIn, List.find?_eq_none]
  intro x hx
  have := (List.mem_filter.mp hx).2
  rw [Bool.not_eq_true'] at this
  exact ne_true_of_eq_false this

theorem Dev.slot_freeSlot_other (d : Dev) {ch tag ch' tag' : Nat} (h : ¬ (ch' = ch ∧ tag' = tag)) :
    (d.freeSlot ch tag).slot ch' tag' = d.slot ch' tag' := by
  rw [Dev.slot_eq, Dev.slot_eq, Dev.freeSlot, slotIn, slotIn, List.find?_filter]
  congr 1
  funext x
  by_cases hx : x.ch = ch' ∧ x.tag = tag'
  · have : ¬ (x.ch = ch ∧ x.tag = tag) := fun hc => h ⟨hx.1 ▸ hc.1, hx.2 ▸ hc.2⟩
    rw [decide_eq_false this, decide_eq_true hx]
    rfl
  · simp [hx]

/-- A command but for the end of its last wait. -/
def Cmd.butReady (c c' : Cmd) : Prop := c' = { c with ready := c'.ready }

theorem Cmd.butReady_refl (c : Cmd) : c.butReady c := rfl

theorem Cmd.butReady_keeps {c c' : Cmd} (h : c.butReady c') :
    c'.ch = c.ch ∧ c'.tag = c.tag ∧ c'.stage = c.stage ∧ c'.seq = c.seq ∧ c'.isBarrier = c.isBarrier := by
  unfold Cmd.butReady at h
  rw [h]
  exact ⟨rfl, rfl, rfl, rfl, rfl⟩

/-- What `pollReady` makes of one command. -/
def Dev.polled (d : Dev) (ch : Nat) (c : Cmd) : Cmd :=
  if c.ch = ch ∧ c.stage = .waiting ∧ c.ready = none ∧ !d.blocked c then { c with ready := some d.tb.ran } else c

theorem pollReady_slots (ch : Nat) (d : Dev) : (pollReady ch d).cp.slots = d.cp.slots.map (d.polled ch) := rfl

theorem Dev.polled_butReady (d : Dev) (ch : Nat) (c : Cmd) : c.butReady (d.polled ch c) := by
  unfold Dev.polled
  split <;> rfl

theorem slot_pollReady (ch0 : Nat) (d : Dev) (ch tag : Nat) :
    (pollReady ch0 d).slot ch tag = (d.slot ch tag).map (d.polled ch0) := by
  rw [Dev.slot_eq, pollReady_slots, slotIn_map (fun c => ?_), ← Dev.slot_eq]
  obtain ⟨h1, h2, -⟩ := Cmd.butReady_keeps (d.polled_butReady ch0 c)
  exact ⟨h1, h2⟩

/-! ### What the end of a command changes -/

/-- From `d` to `d'` commands of channel `ch` end: the command processor, the completions of that channel, and what
reports write. -/
def Dev.endsOn (ch : Nat) (d d' : Dev) : Prop :=
  d' = { d with cp := d'.cp, tr := d'.tr, rcd := d'.rcd, flt := d'.flt } ∧ d.tr.butReports d'.tr ∧
    (∀ j, j ≠ ch → (d.chan j).butDrops (d'.chan j)) ∧ (d.chan ch).butCompletions (d'.chan ch) ∧
    d'.rcd = { d.rcd with
      recs := d'.rcd.recs, snaps := d'.rcd.snaps, stored := d'.rcd.stored, snapNext := d'.rcd.snapNext
      next := d'.rcd.next, copied := d'.rcd.copied, copyLost := d'.rcd.copyLost, mergeCnt := d'.rcd.mergeCnt
      intake := d'.rcd.intake } ∧
    d'.flt = { d.flt with sum := d'.flt.sum, first := d'.flt.first }

theorem Channel.butCompletions_refl (c : Channel) : c.butCompletions c := rfl

theorem Channel.butCompletions_trans {a b c : Channel} (h1 : a.butCompletions b) (h2 : b.butCompletions c) :
    a.butCompletions c := by
  unfold Channel.butCompletions Channel.butDrops at *
  rw [h2, h1]

theorem Channel.butCompletions_of_butDrops {a b : Channel} (h : a.butDrops b) : a.butCompletions b := by
  unfold Channel.butCompletions Channel.butDrops at *
  rw [h]

theorem Dev.endsOn_refl (ch : Nat) (d : Dev) : d.endsOn ch d := ⟨rfl, rfl, fun _ _ => rfl, rfl, rfl, rfl⟩

theorem Dev.endsOn_trans {ch : Nat} {a b c : Dev} (h1 : a.endsOn ch b) (h2 : b.endsOn ch c) : a.endsOn ch c := by
  obtain ⟨p1, p2, p3, p4, p5, p6⟩ := h1
  obtain ⟨q1, q2, q3, q4, q5, q6⟩ := h2
  refine ⟨?_, ?_, fun j hj => Channel.butDrops_trans (p3 j hj) (q3 j hj), Channel.butCompletions_trans p4 q4, ?_, ?_⟩
  · rw [q1, p1]
  · unfold Transport.butReports at *
    rw [q2, p2]
  · rw [q5, p5]
  · rw [q6, p6]

/-- A report ends nothing. -/
theorem Dev.endsOn_of_reports {ch : Nat} {d d' : Dev} (ho : d.reportsOnly d') (ht : d.reportsTo d') : d.endsOn ch d' := by
  obtain ⟨h1, h2, h3, h4⟩ := ht
  refine ⟨?_, h2, fun j _ => h1 j, Channel.butCompletions_of_butDrops (h1 ch), h3, h4⟩
  unfold Dev.reportsOnly at ho
  rw [ho]

theorem report_endsOn (ch : Nat) (e : Event) (d : Dev) : d.endsOn ch (report e d) :=
  Dev.endsOn_of_reports (report_reportsOnly e d) (report_reportsTo e d)

/-- The end of a command that passes its checks: the same, without a report. -/
def Dev.completesOn (ch : Nat) (d d' : Dev) : Prop :=
  d' = { d with cp := d'.cp, tr := { d.tr with chans := d'.tr.chans } } ∧ (∀ j, j ≠ ch → d'.chan j = d.chan j) ∧
    (d.chan ch).butCompletions (d'.chan ch)

theorem Dev.completesOn_refl (ch : Nat) (d : Dev) : d.completesOn ch d := ⟨rfl, fun _ _ => rfl, rfl⟩

theorem Dev.completesOn_trans {ch : Nat} {a b c : Dev} (h1 : a.completesOn ch b) (h2 : b.completesOn ch c) :
    a.completesOn ch c := by
  obtain ⟨p1, p2, p3⟩ := h1
  obtain ⟨q1, q2, q3⟩ := h2
  refine ⟨?_, fun j hj => (q2 j hj).trans (p2 j hj), Channel.butCompletions_trans p3 q3⟩
  rw [q1, p1]

theorem Dev.endsOn_of_completesOn {ch : Nat} {d d' : Dev} (h : d.completesOn ch d') : d.endsOn ch d' := by
  obtain ⟨h1, h2, h3⟩ := h
  refine ⟨?_, ?_, fun j hj => ?_, h3, ?_, ?_⟩
  · rw [h1]
  · unfold Transport.butReports
    rw [h1]
  · rw [h2 j hj]
    exact Channel.butDrops_refl _
  · rw [h1]
  · rw [h1]

theorem modChan_completesOn {ch : Nat} {f : Channel → Channel} {d : Dev} (h : (d.chan ch).butCompletions (f (d.chan ch))) :
    d.completesOn ch (d.modChan ch f) := by
  refine ⟨rfl, fun j hj => ?_, ?_⟩
  · rw [Dev.chan_modChan, if_neg hj]
  · rwa [Dev.chan_modChan, if_pos rfl]

/-- A change of the command processor alone. -/
theorem cp_completesOn (ch : Nat) (d : Dev) (x : CmdState) : d.completesOn ch { d with cp := x } :=
  ⟨rfl, fun _ _ => rfl, rfl⟩

theorem noteStatus_completesOn (ch : Nat) (b : Option W64) (st : Nat) (d : Dev) : d.completesOn ch (noteStatus ch b st d) := by
  unfold noteStatus
  split
  · exact modChan_completesOn rfl
  · split
    · exact modChan_completesOn rfl
    · exact Dev.completesOn_refl ch d

theorem noteStatus_cp (ch : Nat) (b : Option W64) (st : Nat) (d : Dev) : (noteStatus ch b st d).cp = d.cp := by
  unfold noteStatus
  split
  · rfl
  · split <;> rfl

theorem pushCompletion_completesOn (ch : Nat) (x : Completion) (d : Dev) : d.completesOn ch (pushCompletion ch x d) := by
  refine modChan_completesOn ?_
  split <;> rfl

theorem lifecycleRefused_ok {op : Nat} {d : Dev} : lifecycleRefused op 0 d = d :=
  if_neg (by rintro ⟨-, h | h⟩ <;> exact absurd h (by decide))

theorem lifecycleRefused_endsOn (ch op st : Nat) (d : Dev) : d.endsOn ch (lifecycleRefused op st d) := by
  unfold lifecycleRefused
  split
  · exact report_endsOn ..
  · exact Dev.endsOn_refl ch d

theorem lifecycleRefused_cp (op st : Nat) (d : Dev) : (lifecycleRefused op st d).cp = d.cp := by
  unfold lifecycleRefused
  split
  · exact (report_keeps ..).2.2.1
  · rfl

/-! ### One command -/

/-- The queues of phase F without a command that ends. -/
def Dev.unqueued (d : Dev) (c : Cmd) (ch tag status : Nat) : Dev := { d with cp := { d.cp with
  phaseF := d.cp.phaseF.filter (fun x => x != (ch, tag))
  late := d.cp.late.filter (fun x => x != (ch, tag))
  recheck := d.cp.recheck || (c.stage == .admitted && c.isConfig && status != 0) } }

/-- The module when a command that ends has noted its status. -/
def Dev.noted (d : Dev) (c : Cmd) (ch tag status : Nat) : Dev :=
  lifecycleRefused c.opcode status (noteStatus ch (if c.isBarrier then some c.seq else none) status
    (d.unqueued c ch tag status))

theorem finishOne_some {ch tag : Nat} {c : Cmd} {d : Dev} (h : d.slot ch tag = some c) (status fi : Nat) (reply : List Byte) :
    finishOne ch tag status fi reply d = pollReady ch
      (if c.n && status == 0 then (d.noted c ch tag status).freeSlot ch tag
      else pushCompletion ch (completionOf ((d.noted c ch tag status).setSlot { c with stage := .finished }) c.hdr c.seq status
        fi reply true) ((d.noted c ch tag status).setSlot { c with stage := .finished })) := by
  unfold finishOne
  rw [h]
  rfl

theorem Dev.noted_endsOn (d : Dev) (c : Cmd) (ch tag status : Nat) : d.endsOn ch (d.noted c ch tag status) :=
  Dev.endsOn_trans (Dev.endsOn_of_completesOn (Dev.completesOn_trans (cp_completesOn ch d _) (noteStatus_completesOn ..)))
    (lifecycleRefused_endsOn ..)

theorem Dev.noted_completesOn (d : Dev) (c : Cmd) (ch tag : Nat) : d.completesOn ch (d.noted c ch tag 0) := by
  unfold Dev.noted
  rw [lifecycleRefused_ok]
  exact Dev.completesOn_trans (cp_completesOn ch d _) (noteStatus_completesOn ..)

theorem Dev.noted_slots (d : Dev) (c : Cmd) (ch tag status : Nat) : (d.noted c ch tag status).cp.slots = d.cp.slots := by
  unfold Dev.noted
  rw [lifecycleRefused_cp, noteStatus_cp]
  rfl

theorem finishOne_completesOn_of {ch tag status fi : Nat} {reply : List Byte} {c : Cmd} {d : Dev} {R : Dev → Dev → Prop}
    (ht : ∀ a b c, R a b → Dev.completesOn ch b c → R a c) (hn : R d (d.noted c ch tag status)) (h : d.slot ch tag = some c) :
    R d (finishOne ch tag status fi reply d) := by
  rw [finishOne_some h]
  refine ht _ _ _ ?_ (cp_completesOn ch _ _)
  split
  · exact ht _ _ _ hn (cp_completesOn ch _ _)
  · exact ht _ _ _ hn (Dev.completesOn_trans (cp_completesOn ch _ _) (pushCompletion_completesOn ..))

/-- A command that ends changes its channel's completions alone, beside what it reports. -/
theorem finishOne_endsOn (ch tag status fi : Nat) (reply : List Byte) (d : Dev) :
    d.endsOn ch (finishOne ch tag status fi reply d) := by
  cases h : d.slot ch tag with
  | none =>
    unfold finishOne
    rw [h]
    exact Dev.endsOn_refl ch d
  | some c =>
    exact finishOne_completesOn_of (fun a b c hab hbc => Dev.endsOn_trans hab (Dev.endsOn_of_completesOn hbc))
      (d.noted_endsOn c ch tag status) h

/-- With OK it reports nothing. -/
theorem finishOne_completesOn (ch tag fi : Nat) (reply : List Byte) (d : Dev) :
    d.completesOn ch (finishOne ch tag 0 fi reply d) := by
  cases h : d.slot ch tag with
  | none =>
    unfold finishOne
    rw [h]
    exact Dev.completesOn_refl ch d
  | some c =>
    exact finishOne_completesOn_of (fun a b c hab hbc => Dev.completesOn_trans hab hbc) (d.noted_completesOn c ch tag) h

/-! ### What the channel and the slots hold then -/

/-- A channel after a command with a status, of which `b` is SEQ of a full barrier (R119, R120). -/
def Channel.statusNoted (c : Channel) (b : Option W64) (status : Nat) : Channel :=
  if status ≠ 0 then { c with fenceFault := true }
  else match b with
    | some s => { c with fenceFault := match c.faultAfter with
        | some a => c.fenceFault && decide (s ≤ a)
        | none => false }
    | none => c

theorem noteStatus_chan (ch : Nat) (b : Option W64) (status : Nat) (d : Dev) :
    (noteStatus ch b status d).chan ch = (d.chan ch).statusNoted b status := by
  unfold noteStatus Channel.statusNoted
  split
  · rw [Dev.chan_modChan, if_pos rfl]
  · split
    · exact (Dev.chan_modChan ..).trans (if_pos rfl)
    · rfl

/-- A channel with one COMPLETION record more (R113, R183). -/
def Channel.pushed (c : Channel) (x : Completion) : Channel :=
  if c.backlog.isEmpty && decide (c.txq.length < 288) then { c with txq := c.txq ++ [.completion x] }
  else { c with backlog := c.backlog ++ [x] }

theorem pushCompletion_chan (ch : Nat) (x : Completion) (d : Dev) :
    (pushCompletion ch x d).chan ch = (d.chan ch).pushed x := by
  unfold pushCompletion Channel.pushed
  rw [Dev.chan_modChan, if_pos rfl]

theorem Channel.pushed_holds (c : Channel) (x y : Completion) : (c.pushed x).holds y ↔ c.holds y ∨ y = x := by
  unfold Channel.pushed Channel.holds
  split
  · simp [or_right_comm]
  · simp [or_assoc]

theorem Channel.pushed_fenceFault (c : Channel) (x : Completion) : (c.pushed x).fenceFault = c.fenceFault := by
  unfold Channel.pushed
  split <;> rfl

theorem Channel.butDrops_keeps {a b : Channel} (h : a.butDrops b) :
    b.txq = a.txq ∧ b.backlog = a.backlog ∧ b.fenceFault = a.fenceFault ∧ b.faultAfter = a.faultAfter := by
  unfold Channel.butDrops at h
  rw [h]
  exact ⟨rfl, rfl, rfl, rfl⟩

theorem Dev.noted_chan (d : Dev) (c : Cmd) (ch tag status : Nat) :
    ((d.chan ch).statusNoted (if c.isBarrier then some c.seq else none) status).butDrops ((d.noted c ch tag status).chan ch) := by
  have h : (noteStatus ch (if c.isBarrier then some c.seq else none) status (d.unqueued c ch tag status)).chan ch =
      (d.chan ch).statusNoted (if c.isBarrier then some c.seq else none) status := noteStatus_chan ..
  unfold Dev.noted lifecycleRefused
  rw [← h]
  generalize noteStatus ch _ status _ = e
  split
  · exact (report_reportsTo _ _).1 ch
  · exact Channel.butDrops_refl _

/-- The channel after the end of a command: its status noted, and its COMPLETION record in the queue but for N and OK. -/
theorem finishOne_chan {ch tag : Nat} {c : Cmd} {d : Dev} (h : d.slot ch tag = some c) (status fi : Nat)
    (reply : List Byte) :
    ∃ y x, ((d.chan ch).statusNoted (if c.isBarrier then some c.seq else none) status).butDrops y ∧
      (finishOne ch tag status fi reply d).chan ch = (if c.n && status == 0 then y else y.pushed x) ∧
      x.status = BitVec.ofNat 8 status ∧ x.failIndex = BitVec.ofNat 32 fi ∧ x.tag = fld c.hdr 16 8 ∧
      x.opcode = fld c.hdr 24 8 ∧ x.seq = c.seq ∧ x.holdsSlot = true := by
  refine ⟨_, completionOf ((d.noted c ch tag status).setSlot { c with stage := .finished }) c.hdr c.seq status fi reply true,
    d.noted_chan c ch tag status, ?_, rfl, rfl, rfl, rfl, rfl, rfl⟩
  rw [finishOne_some h]
  cases hn : c.n && status == 0 with
  | true => rfl
  | false =>
    rw [if_neg (by simp), if_neg (by simp)]
    exact pushCompletion_chan ..

/-- The slots after the end of a command, before it is noted which waits have ended. -/
theorem finishOne_slots {ch tag : Nat} {c : Cmd} {d : Dev} (h : d.slot ch tag = some c) (status fi : Nat)
    (reply : List Byte) :
    ∃ e : Dev, (finishOne ch tag status fi reply d).cp.slots =
      (if c.n && status == 0 then d.freeSlot ch tag else d.setSlot { c with stage := .finished }).cp.slots.map (e.polled ch) := by
  rw [finishOne_some h]
  cases c.n && status == 0 with
  | true =>
    have hs : ((d.noted c ch tag status).freeSlot ch tag).cp.slots = (d.freeSlot ch tag).cp.slots := by
      unfold Dev.freeSlot
      dsimp only
      rw [Dev.noted_slots]
    exact ⟨(d.noted c ch tag status).freeSlot ch tag, by rw [if_pos rfl, if_pos rfl, pollReady_slots, hs]⟩
  | false =>
    have hs (x : Completion) : (pushCompletion ch x ((d.noted c ch tag status).setSlot { c with stage := .finished })).cp.slots =
        (d.setSlot { c with stage := .finished }).cp.slots := by
      unfold pushCompletion Dev.setSlot
      rw [(Dev.modChan_keeps ..).2.2.1]
      dsimp only
      rw [Dev.noted_slots]
    refine ⟨pushCompletion ch (completionOf ((d.noted c ch tag status).setSlot { c with stage := .finished }) c.hdr c.seq
      status fi reply true) ((d.noted c ch tag status).setSlot { c with stage := .finished }), ?_⟩
    rw [if_neg (by simp), if_neg (by simp), pollReady_slots, hs]

theorem finishOne_slot_eq {ch tag : Nat} {c : Cmd} {d : Dev} (h : d.slot ch tag = some c) (status fi : Nat)
    (reply : List Byte) (ch' tag' : Nat) :
    ∃ e : Dev, (finishOne ch tag status fi reply d).slot ch' tag' =
      ((if c.n && status == 0 then d.freeSlot ch tag else d.setSlot { c with stage := .finished }).slot ch' tag').map
        (e.polled ch) := by
  obtain ⟨e, he⟩ := finishOne_slots h status fi reply
  refine ⟨e, ?_⟩
  rw [Dev.slot_eq, he, slotIn_map (fun c => ?_), ← Dev.slot_eq]
  obtain ⟨h1, h2, -⟩ := Cmd.butReady_keeps (e.polled_butReady ch c)
  exact ⟨h1, h2⟩

/-- Its own slot is free, with N and OK, or finished. -/
theorem finishOne_slot {ch tag : Nat} {c : Cmd} {d : Dev} (h : d.slot ch tag = some c) (status fi : Nat)
    (reply : List Byte) :
    ((finishOne ch tag status fi reply d).slot ch tag).map (·.stage) =
      if c.n && status == 0 then none else some .finished := by
  obtain ⟨hch, htag, -⟩ := slotIn_names h
  obtain ⟨e, he⟩ := finishOne_slot_eq h status fi reply ch tag
  rw [he]
  split
  · rw [Dev.slot_freeSlot]
    rfl
  · rw [Dev.slot_setSlot, if_pos ⟨hch, htag⟩, h]
    have hp := (Cmd.butReady_keeps (e.polled_butReady ch { c with stage := .finished })).2.2.1
    exact congrArg some hp

/-- The other slots are kept, but for the end of a wait. -/
theorem finishOne_slot_other {ch tag ch' tag' : Nat} {d : Dev} (hne : ¬ (ch' = ch ∧ tag' = tag)) (status fi : Nat)
    (reply : List Byte) : ∃ e : Dev, (finishOne ch tag status fi reply d).slot ch' tag' =
      (d.slot ch' tag').map (e.polled ch) ∨ (finishOne ch tag status fi reply d) = d := by
  cases h : d.slot ch tag with
  | none =>
    refine ⟨d, .inr ?_⟩
    unfold finishOne
    rw [h]
  | some c =>
    obtain ⟨hch, htag, -⟩ := slotIn_names h
    obtain ⟨e, he⟩ := finishOne_slot_eq h status fi reply ch' tag'
    refine ⟨e, .inl ?_⟩
    rw [he]
    split
    · rw [Dev.slot_freeSlot_other d hne]
    · rw [Dev.slot_setSlot, if_neg (by rintro ⟨h1, h2⟩; exact hne ⟨h1 ▸ hch, h2 ▸ htag⟩)]

/-! ### What a barrier holds back (R120) -/

theorem Dev.mem_inFlight {d : Dev} {ch : Nat} {x : Cmd} : x ∈ d.inFlight ch ↔ x ∈ d.cp.slots ∧ x.ch = ch := by
  simp [Dev.inFlight]

/-- A command in flight after another one has ended was in flight before, or is the one that has ended. -/
theorem mem_inFlight_finishOne {ch tag : Nat} {c : Cmd} {d : Dev} (h : d.slot ch tag = some c) {status fi : Nat}
    {reply : List Byte} {x : Cmd} (hx : x ∈ (finishOne ch tag status fi reply d).inFlight ch) :
    (x.tag = tag ∧ x.stage = .finished) ∨ ∃ y ∈ d.inFlight ch, y.tag ≠ tag ∧ y.butReady x := by
  obtain ⟨hch, htag, -⟩ := slotIn_names h
  obtain ⟨e, he⟩ := finishOne_slots h status fi reply
  rw [Dev.mem_inFlight, he, List.mem_map] at hx
  obtain ⟨⟨z, hz, rfl⟩, hxch⟩ := hx
  have hb := e.polled_butReady ch z
  obtain ⟨k1, k2, k3, -⟩ := Cmd.butReady_keeps hb
  have hzch := k1.symm.trans hxch
  split at hz
  · obtain ⟨hm, hp⟩ := List.mem_filter.mp hz
    refine .inr ⟨z, Dev.mem_inFlight.mpr ⟨hm, hzch⟩, ?_, hb⟩
    intro ht
    simp [hzch, ht] at hp
  · obtain ⟨w, hw, rfl⟩ := List.mem_map.mp hz
    split at hb
    · next hsame =>
      rw [if_pos hsame] at k2 k3 ⊢
      exact .inl ⟨k2.trans htag, k3⟩
    · next hsame =>
      rw [if_neg hsame] at hzch ⊢
      exact .inr ⟨w, Dev.mem_inFlight.mpr ⟨hw, hzch⟩, fun ht => hsame ⟨hzch.trans hch.symm, ht.trans htag.symm⟩, hb⟩

/-- A command in flight with another tag stays. -/
theorem inFlight_finishOne_other {ch tag : Nat} {c : Cmd} {d : Dev} (h : d.slot ch tag = some c) (status fi : Nat)
    (reply : List Byte) {y : Cmd} (hy : y ∈ d.inFlight ch) (hne : y.tag ≠ tag) :
    ∃ x ∈ (finishOne ch tag status fi reply d).inFlight ch, y.butReady x := by
  obtain ⟨hch, htag, -⟩ := slotIn_names h
  obtain ⟨e, he⟩ := finishOne_slots h status fi reply
  obtain ⟨hmem, hych⟩ := Dev.mem_inFlight.mp hy
  have hb := e.polled_butReady ch y
  refine ⟨e.polled ch y, Dev.mem_inFlight.mpr ⟨?_, (Cmd.butReady_keeps hb).1.trans hych⟩, hb⟩
  rw [he]
  refine List.mem_map_of_mem ?_
  split
  · refine List.mem_filter.mpr ⟨hmem, ?_⟩
    simp [hne]
  · refine List.mem_map.mpr ⟨y, hmem, if_neg ?_⟩
    rintro ⟨-, h2⟩
    exact hne (h2.trans htag)

/-- What a barrier with another tag holds back, it holds back still when a command has ended. -/
theorem endedHeld_finishOne {ch tag : Nat} {tags : List Nat} {d : Dev} (hmem : tag ∈ tags) (hh : d.endedHeld ch tags)
    (status fi : Nat) (reply : List Byte) : (finishOne ch tag status fi reply d).endedHeld ch tags := by
  cases h : d.slot ch tag with
  | none =>
    unfold finishOne
    rw [h]
    exact hh
  | some c =>
    intro e he hst
    rcases mem_inFlight_finishOne h he with ⟨-, hf⟩ | ⟨y, hy, -, hb⟩
    · rw [hf] at hst
      exact absurd hst nofun
    · obtain ⟨-, -, k3, k4, -⟩ := Cmd.butReady_keeps hb
      obtain ⟨b, hbm, hbar, hns, hlt, htags⟩ := hh y hy (k3 ▸ hst)
      obtain ⟨b', hb', hbb⟩ := inFlight_finishOne_other h status fi reply hbm (fun ht => htags (ht ▸ hmem))
      obtain ⟨-, b2, b3, b4, b5⟩ := Cmd.butReady_keeps hbb
      exact ⟨b', hb', b5.trans hbar, fun hf => hns (b3.symm.trans hf), by rw [b4, k4]; exact hlt, fun ht => htags (b2 ▸ ht)⟩

/-- A command whose status is settled, and which no barrier holds back (R120). -/
def Dev.endsNow (d : Dev) (c : Cmd) : Option (Cmd × Nat) := match c.stage with
  | .ended s => if d.behindBarrier c then none else some (c, s)
  | _ => none

theorem releaseEnded_none {ch n : Nat} {d : Dev} (h : (d.inFlight ch).findSome? d.endsNow = none) :
    releaseEnded ch (n + 1) d = d := by
  change (match (d.inFlight ch).findSome? d.endsNow with
    | some (c, s) => releaseEnded ch n (finishOne ch c.tag s 0 [] d)
    | none => d) = d
  rw [h]

theorem releaseEnded_some {ch n s : Nat} {c : Cmd} {d : Dev} (h : (d.inFlight ch).findSome? d.endsNow = some (c, s)) :
    releaseEnded ch (n + 1) d = releaseEnded ch n (finishOne ch c.tag s 0 [] d) := by
  change (match (d.inFlight ch).findSome? d.endsNow with
    | some (c, s) => releaseEnded ch n (finishOne ch c.tag s 0 [] d)
    | none => d) = _
  rw [h]

/-- While every command that has its status stands behind a barrier, none is released. -/
theorem releaseEnded_held {ch : Nat} {tags : List Nat} {d : Dev} (hh : d.endedHeld ch tags) (n : Nat) :
    releaseEnded ch n d = d := by
  cases n with
  | zero => rfl
  | succ n =>
    refine releaseEnded_none (List.findSome?_eq_none_iff.mpr fun c hc => ?_)
    unfold Dev.endsNow
    split
    · next s hs =>
      obtain ⟨b, hb, hbar, hns, hlt, -⟩ := hh c hc (by rw [hs]; rfl)
      obtain ⟨-, hch⟩ := Dev.mem_inFlight.mp hc
      refine if_pos ?_
      unfold Dev.behindBarrier
      rw [List.any_eq_true]
      exact ⟨b, hch.symm ▸ hb, by simp [hbar, hns, hlt]⟩
    · rfl

/-- Then a command that ends, ends alone. -/
theorem finish_alone {ch tag : Nat} {tags : List Nat} {d : Dev} (hmem : tag ∈ tags) (hh : d.endedHeld ch tags)
    (status fi : Nat) (reply : List Byte) : finish ch tag status fi reply d = finishOne ch tag status fi reply d :=
  releaseEnded_held (endedHeld_finishOne hmem hh status fi reply) 32

end Sys2Proof.Machine
end

section
/-!
The execution of one command (R111, R122): from its slot to its effect and its end.
-/
namespace Sys2Proof.Machine

/-! ### The way to the effect -/

/-- A command alone that nothing holds is run. -/
theorem execCommand_alone {wants : Cmd → Bool} {c : Cmd} {d : Dev} (hslot : d.slot c.ch c.tag = some c)
    (hw : wants c = true) (hst : c.stage = .waiting) (hb : d.blocked c = false) (hl : c.pastLimit d = false) (ha : c.a = false)
    (ram : Nat → Byte) : execCommand wants c.ch c.tag ram d = runMembers ram [c] d := by
  have hm : d.members c = [c] := by
    unfold Dev.members
    rw [if_neg (by simp [ha])]
  unfold execCommand
  rw [hslot]
  dsimp only
  rw [if_neg (by simp [hw, hst, hb]), hm, if_neg (by simp [hl])]

/-- The checks of a command alone. -/
theorem checkMembers_alone (inF : Bool) (c : Cmd) (d : Dev) :
    checkMembers inF [c] d = ([(c, (checkMember inF [] c d).1)], (checkMember inF [] c d).2) := rfl

theorem inPhaseF_alone (c : Cmd) : inPhaseF [c] = (c.isConfig || c.t) := by simp [inPhaseF]

/-- A command that is no configuration command opens no channel. -/
theorem openStillOk_of_isConfig {c : Cmd} (h : c.isConfig = false) (d : Dev) : openStillOk c d = true := by
  have : c.opcode ≠ 0x0D := fun ho => by
    unfold Cmd.isConfig at h
    rw [ho] at h
    exact absurd h (by decide)
  simp [openStillOk, this]

/-- A command alone that is applied: its effect, its end, and a restart that it asks for. -/
theorem applyMembers_alone {c : Cmd} (h : c.isConfig = false) (ram : Nat → Byte) (d : Dev) :
    applyMembers ram [c] d = restartDue c (memberEnd c (memberEffect ram c d)) := by
  unfold applyMembers openChecks membersEffect
  cases hr : c.isRead <;> simp [openStillOk_of_isConfig h, h, hr]

theorem checkMember_passes {c : Cmd} {d : Dev} (hc : c.isConfig = false) (h : checkAll c false d = none) :
    checkMember false [] c d = lifecycleCheck c d := by
  unfold checkMember phaseFTest
  rw [h]
  simp [hc]

/-- A command alone that is applied on execution and passes its checks. -/
theorem runMembers_alone {c : Cmd} {d : Dev} (hc : c.isConfig = false) (ht : c.t = false) (h : checkAll c false d = none)
    (hl : (lifecycleCheck c d).1 = none) (ram : Nat → Byte) :
    runMembers ram [c] d = restartDue c (memberEnd c (memberEffect ram c (lifecycleCheck c d).2)) := by
  have hin : inPhaseF [c] = false := by rw [inPhaseF_alone, hc, ht]; rfl
  unfold runMembers
  rw [hin, checkMembers_alone, checkMember_passes hc h, hl, ← applyMembers_alone hc]
  rfl

theorem lifecycleCheck_other {c : Cmd} (h : c.opcode ≠ 0x38) (d : Dev) : lifecycleCheck c d = (none, d) := if_neg h

theorem restartDue_other {c : Cmd} (h1 : c.opcode ≠ 0x38) (h2 : c.opcode ≠ 0x3F) (d : Dev) : restartDue c d = d :=
  if_pos ⟨h1, h2⟩

/-- What a command's slot, its channel and the other commands must be for its effect to be applied and its end to be its own. -/
def Cmd.applies (c : Cmd) (d : Dev) : Prop :=
  d.slot c.ch c.tag = some c ∧ c.stage ≠ .replying ∧ d.endedHeld c.ch [c.tag]

theorem Cmd.applies_congr {c : Cmd} {d e : Dev} (h : c.applies d) (hs : e.cp.slots = d.cp.slots) : c.applies e := by
  obtain ⟨h1, h2, h3⟩ := h
  have hf : e.inFlight c.ch = d.inFlight c.ch := by unfold Dev.inFlight; rw [hs]
  refine ⟨?_, h2, ?_⟩
  · rw [Dev.slot_eq, hs]
    exact h1
  · unfold Dev.endedHeld
    rw [hf]
    exact h3

theorem memberEnd_applies {c : Cmd} {d : Dev} (h : c.applies d) :
    memberEnd c d = finishOne c.ch c.tag stOk 0 [] d := by
  obtain ⟨h1, h2, h3⟩ := h
  unfold memberEnd
  rw [h1]
  dsimp only
  rw [if_neg h2, finish_alone (List.mem_singleton.mpr rfl) h3]

/-- A command that is runnable runs its effect and ends. -/
theorem Cmd.runnable_exec {c : Cmd} {s : State} {wants : Cmd → Bool} (h : c.runnable s) (hw : wants c = true)
    (h38 : c.opcode ≠ 0x38) (ram : Nat → Byte) : execCommand wants c.ch c.tag ram s.dev.fresh0 =
      restartDue c (memberEnd c (memberEffect ram c s.dev.fresh0)) := by
  obtain ⟨⟨-, -, hslot, hst, hb, hl, ha, -⟩, ht, hc, hck⟩ := h
  rw [execCommand_alone (d := s.dev.fresh0) hslot hw hst hb hl ha, runMembers_alone hc ht hck] <;>
    rw [lifecycleCheck_other h38]

theorem Cmd.runnable_applies {c : Cmd} {s : State} (h : c.runnable s) : c.applies s.dev.fresh0 := by
  obtain ⟨⟨-, -, hslot, hst, -, -, -, hh⟩, -⟩ := h
  exact ⟨hslot, by rw [hst]; exact nofun, hh⟩

/-! ### The end -/

/-- The module with another command processor. -/
def Dev.withCp (d : Dev) (x : CmdState) : Dev := { d with cp := x }

/-- A command that has ended, seen on the state after it. -/
theorem Cmd.ends_of_finishOne {c : Cmd} {s t : State} {e : Dev} {status fi : Nat} (h : e.slot c.ch c.tag = some c)
    (hch : (s.dev.chan c.ch).butDrops (e.chan c.ch))
    (hslots : t.dev.cp.slots = (finishOne c.ch c.tag status fi [] e).cp.slots)
    (hchan : t.dev.chan c.ch = (finishOne c.ch c.tag status fi [] e).chan c.ch) :
    c.ends status s t ∧ (c.n = false ∨ status ≠ 0 → ∃ x, (t.dev.chan c.ch).holds x ∧ x.seq = c.seq ∧
      x.failIndex = BitVec.ofNat 32 fi) := by
  obtain ⟨y, x, hy, hc, hxs, hxf, hxt, hxo, hxq, hxh⟩ := finishOne_chan h status fi []
  have hslot : (t.dev.slot c.ch c.tag).map (·.stage) = if c.n && status == 0 then none else some .finished := by
    rw [Dev.slot_eq, hslots]
    exact finishOne_slot h status fi []
  have hbut : (s.dev.chan c.ch).butCompletions (t.dev.chan c.ch) := by
    rw [hchan]
    exact Channel.butCompletions_trans (Channel.butCompletions_of_butDrops hch) (finishOne_endsOn ..).2.2.2.1
  have hrec (hn : c.n = false ∨ status ≠ 0) : (t.dev.chan c.ch).holds x := by
    rw [hchan, hc, if_neg (by rcases hn with hn | hn <;> simp [hn])]
    exact (Channel.pushed_holds y x x).mpr (.inr rfl)
  refine ⟨⟨fun hn h0 => ?_, fun hn => ⟨?_, x, hrec hn, hxs, hxt, hxo, hxq, hxh⟩, fun h0 => ?_, hbut⟩,
    fun hn => ⟨x, hrec hn, hxq, hxf⟩⟩
  · obtain ⟨d1, d2, -, -⟩ := Channel.butDrops_keeps hch
    obtain ⟨y1, y2, -, -⟩ := Channel.butDrops_keeps hy
    subst h0
    rw [hchan, hc, if_pos (by simp [hn])]
    rw [if_pos (by simp [hn])] at hslot
    have hnoted (b : Option W64) (z : Channel) : (z.statusNoted b 0).txq = z.txq ∧ (z.statusNoted b 0).backlog = z.backlog := by
      unfold Channel.statusNoted
      rw [if_neg (by simp)]
      split <;> exact ⟨rfl, rfl⟩
    exact ⟨Option.map_eq_none_iff.mp hslot, y1.trans ((hnoted ..).1.trans d1), y2.trans ((hnoted ..).2.trans d2)⟩
  · rw [hslot, if_neg (by rcases hn with hn | hn <;> simp [hn])]
  · obtain ⟨-, -, y3, -⟩ := Channel.butDrops_keeps hy
    have hf : y.fenceFault = true := by
      rw [y3]
      unfold Channel.statusNoted
      rw [if_pos h0]
    rw [hchan, hc]
    split
    · exact hf
    · rw [Channel.pushed_fenceFault, hf]

/-- What a command leaves when it has ended on its channel, seen on the whole state: beside its command processor the module
is `b`. -/
theorem State.frameCh_of_endsOn {s : State} {ch : Nat} {a b e : Dev} (ha : e.endsOn ch a)
    (he : e = { b with cp := e.cp, tr := e.tr, rcd := e.rcd, flt := e.flt, wire := [], out := e.out, wr := e.wr })
    (hr : b.reportsTo e) (hb : b.tr = s.dev.tr) (x : CmdState) :
    s.frameCh (s.after (a.withCp x)) ch { b with cp := x } := by
  obtain ⟨p1, p2, p3, p4, p5, p6⟩ := ha
  obtain ⟨q1, q2, q3, q4⟩ := hr
  have htr : (s.after (a.withCp x)).dev.tr = a.tr := (State.after_dev ..).2.2.2.1
  have hbut : b.tr.butReports a.tr := by
    unfold Transport.butReports at *
    rw [p2, q2]
  have hchan (j : Nat) : s.dev.chan j = b.chan j := by
    unfold Dev.chan
    rw [hb]
  have hae : a = { b with cp := a.cp, tr := a.tr, rcd := a.rcd, flt := a.flt, wire := [], out := a.out, wr := a.wr } := by
    rw [p1, he]
  refine ⟨?_, ?_, fun j hj => ?_⟩
  · rw [htr]
    refine State.frame_of_eq (b := { b with cp := x, tr := a.tr }) ⟨fun _ => rfl, rfl, ?_, ?_⟩ ?_ ?_
    · change a.rcd = _
      rw [p5, q3]
      rfl
    · change a.flt = _
      rw [p6, q4]
      rfl
    · unfold Dev.withCp
      rw [hae]
    · change a.wire = _
      rw [hae]
  · rw [htr]
    exact hbut
  · rw [(State.after_objects ..).2.2.2.1, hchan j]
    exact Channel.butDrops_trans (q1 j) (p3 j hj)

/-- A command whose effect has been applied completes, and leaves what its effect leaves. -/
theorem Cmd.completes_of {c : Cmd} {s : State} {b e : Dev} {x : CmdState} (happ : c.applies e)
    (he : e = { b with cp := e.cp, tr := e.tr, rcd := e.rcd, flt := e.flt, wire := [], out := e.out, wr := e.wr })
    (hr : b.reportsTo e) (hb : b.tr = s.dev.tr) (hx : x.slots = (memberEnd c e).cp.slots) :
    c.completes s (s.after ((memberEnd c e).withCp x)) ∧
      s.frameCh (s.after ((memberEnd c e).withCp x)) c.ch { b with cp := x } := by
  rw [memberEnd_applies happ] at hx ⊢
  have hchan (j : Nat) : b.chan j = s.dev.chan j := by
    unfold Dev.chan
    rw [hb]
  have hslots : (s.after ((finishOne c.ch c.tag 0 0 [] e).withCp x)).dev.cp.slots = (finishOne c.ch c.tag 0 0 [] e).cp.slots := by
    rw [(State.after_dev ..).2.2.1]
    exact hx
  have hown : (s.after ((finishOne c.ch c.tag 0 0 [] e).withCp x)).dev.chan c.ch =
      (finishOne c.ch c.tag 0 0 [] e).chan c.ch := by
    rw [(State.after_objects ..).2.2.2.1]
    rfl
  exact ⟨(Cmd.ends_of_finishOne happ.1 (hchan c.ch ▸ hr.1 c.ch) hslots hown).1,
    State.frameCh_of_endsOn (finishOne_endsOn ..) he hr hb x⟩

/-- Beside its end a command's effect stands. -/
theorem memberEnd_effect {c : Cmd} {e : Dev} (happ : c.applies e) :
    e.completesOn c.ch (memberEnd c e) := by
  rw [memberEnd_applies happ]
  exact finishOne_completesOn ..

end Sys2Proof.Machine
end

section
/-!
NOP and the reads (R120, R138 to R140, R150 to R153).
-/
namespace Sys2Proof.Machine

/-! ### NOP -/

theorem memberEffect_nop {c : Cmd} (h : c.opcode = 0) (ram : Nat → Byte) (d : Dev) : memberEffect ram c d = d := by
  have hr : c.isRead = false := by
    unfold Cmd.isRead
    rw [h]
    rfl
  unfold memberEffect operationEffect configEffect
  rw [hr, h]
  rfl

/-- As a full barrier a NOP clears the failures before it, and else none (R120). -/
theorem Channel.statusNoted_barrier (z : Channel) (c : Cmd) (h : c.opcode = 0) :
    (z.statusNoted (if c.isBarrier then some c.seq else none) 0).fenceFault = (z.fenceFault &&
      (!c.f || (match z.faultAfter with
        | some a => decide (c.seq ≤ a)
        | none => false))) := by
  unfold Channel.statusNoted Cmd.isBarrier
  rw [h]
  cases c.f with
  | false => simp
  | true =>
    cases z.faultAfter with
    | none => simp
    | some a => simp

/-- A NOP ends as such (R120). -/
theorem nopDone_of {c : Cmd} {s : State} {x y : CmdState} (hop : c.opcode = 0) (happ : c.applies (s.dev.fresh0.withCp y))
    (hx : x.slots = (memberEnd c (s.dev.fresh0.withCp y)).cp.slots) :
    nopDone c s (s.after ((memberEnd c (s.dev.fresh0.withCp y)).withCp x)) := by
  obtain ⟨hdone, hframe⟩ := Cmd.completes_of (b := s.dev) happ rfl (Dev.reportsTo_of_eq rfl rfl rfl) rfl hx
  refine ⟨hdone, ?_, ?_⟩
  · obtain ⟨z, r, hz, hc, -⟩ := finishOne_chan happ.1 0 0 []
    rw [(State.after_objects ..).2.2.2.1]
    change ((memberEnd c (s.dev.fresh0.withCp y)).chan c.ch).fenceFault = _
    rw [memberEnd_applies happ, stOk, hc]
    refine Eq.trans ?_ ((Channel.butDrops_keeps hz).2.2.1.trans (Channel.statusNoted_barrier _ c hop))
    split
    · rfl
    · exact Channel.pushed_fenceFault ..
  · rw [(State.after_dev ..).2.2.1]
    exact hframe

/-- A runnable command runs where its effect and its end have the property. -/
theorem Cmd.runnable_runs {c : Cmd} {s : State} {i : Instr} {wants : Cmd → Bool} {p : State → Prop} (hs : s.up)
    (h : c.runnable s) (hx : exec i s = checked i (mainStepR (execCommand wants c.ch c.tag) s))
    (hi : i.wellFormed = decide (c.ch ≤ 64 ∧ c.tag < 128)) (hw : wants c = true) (h38 : c.opcode ≠ 0x38)
    (hp : p (s.after (restartDue c (memberEnd c (memberEffect (Memory.read s.sram) c s.dev.fresh0))))) : Runs i s p := by
  refine Runs.mainR (hx.trans (checked_wf (hi.trans (decide_eq_true ⟨h.1.1, h.1.2.1⟩)))) hs ?_
  rw [Cmd.runnable_exec h hw h38]
  exact hp

/-- One that asks for no restart. -/
theorem Cmd.runnable_runs_plain {c : Cmd} {s : State} {i : Instr} {wants : Cmd → Bool} {p : State → Prop} (hs : s.up)
    (h : c.runnable s) (hx : exec i s = checked i (mainStepR (execCommand wants c.ch c.tag) s))
    (hi : i.wellFormed = decide (c.ch ≤ 64 ∧ c.tag < 128)) (hw : wants c = true) (h38 : c.opcode ≠ 0x38)
    (h3f : c.opcode ≠ 0x3F)
    (hp : ∀ e, e = memberEnd c (memberEffect (Memory.read s.sram) c (s.dev.fresh0.withCp s.dev.cp)) →
      p (s.after (e.withCp e.cp))) : Runs i s p := by
  refine Cmd.runnable_runs hs h hx hi hw h38 ?_
  rw [restartDue_other h38 h3f]
  exact hp _ rfl

/-! ### Reads -/

/-- The request that carries a reply (R140). -/
def Cmd.replyReq (c : Cmd) (z : Channel) (bytes : List Byte) : Req :=
  ⟨z.nextPsn, z.nextPsn + BitVec.ofNat 24 (max 1 ((bytes.length + z.mtu - 1) / z.mtu) - 1), .reply c.tag c.seq,
    z.replyBase + BitVec.ofNat 64 c.replyOffset, z.replyRkey, bytes, none⟩

/-- The module with a reply under way. -/
def Dev.replying (d : Dev) (c : Cmd) (taken : List Reg) (bytes : List Byte) : Dev :=
  sendWrite c.ch (.reply c.tag c.seq) ((d.chan c.ch).replyBase + BitVec.ofNat 64 c.replyOffset) (d.chan c.ch).replyRkey bytes
    none (d.setSlot { c.goesOn d with taken := taken })

theorem startReply_eq (ram : Nat → Byte) (c : Cmd) (d : Dev) : ∃ taken, startReply ram c d =
    if d.linkUpFor (d.chan c.ch) then d.replying c taken (replyBytes ram d.projected c d)
    else linkWaitReport c.ch (d.replying c taken (replyBytes ram d.projected c d)) := ⟨_, rfl⟩

theorem Dev.replying_chan (d : Dev) (c : Cmd) (taken : List Reg) (bytes : List Byte) (j : Nat) :
    (d.replying c taken bytes).chan j = if j = c.ch then { d.chan c.ch with
      nextPsn := (d.chan c.ch).nextPsn + BitVec.ofNat 24 (max 1 ((bytes.length + (d.chan c.ch).mtu - 1) / (d.chan c.ch).mtu))
      unacked := (d.chan c.ch).unacked ++ [c.replyReq (d.chan c.ch) bytes] } else d.chan j :=
  (Dev.chan_setChan (d.setSlot { c.goesOn d with taken := taken }) c.ch j _)

/-- What a link that is down adds: the channel notes it, and it is reported. -/
theorem linkWaitReport_cases (ch : Nat) (d : Dev) : linkWaitReport ch d = d ∨
    ∃ e, linkWaitReport ch d = report e (d.modChan ch (fun c => { c with linkWait := true })) := by
  unfold linkWaitReport
  dsimp only
  split
  · exact .inr ⟨_, rfl⟩
  · exact .inl rfl

/-- From `d` to `d'` the queue pair of channel `ch` has changed, and reports have been made. -/
def Dev.sendsOn (ch : Nat) (d d' : Dev) : Prop :=
  d' = { d with tr := d'.tr, rcd := d'.rcd, flt := d'.flt } ∧ d.tr.butReports d'.tr ∧
    (∀ j, j ≠ ch → (d.chan j).butDrops (d'.chan j)) ∧
    ({ d.chan ch with linkWait := (d'.chan ch).linkWait }).butDrops (d'.chan ch) ∧
    d'.rcd = { d.rcd with
      recs := d'.rcd.recs, snaps := d'.rcd.snaps, stored := d'.rcd.stored, snapNext := d'.rcd.snapNext
      next := d'.rcd.next, copied := d'.rcd.copied, copyLost := d'.rcd.copyLost, mergeCnt := d'.rcd.mergeCnt
      intake := d'.rcd.intake } ∧
    d'.flt = { d.flt with sum := d'.flt.sum, first := d'.flt.first }

theorem linkWaitReport_sendsOn (ch : Nat) (d : Dev) : d.sendsOn ch (linkWaitReport ch d) := by
  rcases linkWaitReport_cases ch d with h | ⟨e, h⟩
  · rw [h]
    exact ⟨rfl, rfl, fun _ _ => rfl, rfl, rfl, rfl⟩
  · rw [h]
    obtain ⟨h1, h2, h3, h4⟩ := report_reportsTo e (d.modChan ch (fun c => { c with linkWait := true }))
    refine ⟨?_, h2, fun j hj => ?_, ?_, h3, h4⟩
    · have ho := report_reportsOnly e (d.modChan ch (fun c => { c with linkWait := true }))
      unfold Dev.reportsOnly at ho
      rw [ho]
      rfl
    · have hjj := h1 j
      rwa [Dev.chan_modChan, if_neg hj] at hjj
    · have hc := h1 ch
      rw [Dev.chan_modChan, if_pos rfl] at hc
      generalize (report e _).chan ch = z at hc
      unfold Channel.butDrops at hc ⊢
      rw [hc]

theorem startReply_sendsOn (ram : Nat → Byte) (c : Cmd) (d : Dev) : ∃ taken,
    (d.replying c taken (replyBytes ram d.projected c d)).sendsOn c.ch (startReply ram c d) ∧
      (d.linkUpFor (d.chan c.ch) = true → startReply ram c d = d.replying c taken (replyBytes ram d.projected c d)) := by
  obtain ⟨taken, h⟩ := startReply_eq ram c d
  refine ⟨taken, ?_, fun hl => by rw [h, if_pos hl]⟩
  rw [h]
  split
  · exact ⟨rfl, rfl, fun _ _ => rfl, rfl, rfl, rfl⟩
  · exact linkWaitReport_sendsOn ..

theorem Dev.replying_slot {d : Dev} {c : Cmd} (h : d.slot c.ch c.tag = some c) (taken : List Reg) (bytes : List Byte) :
    ((d.replying c taken bytes).slot c.ch c.tag).map (·.stage) = some .replying := by
  change ((d.setSlot { c.goesOn d with taken := taken }).slot c.ch c.tag).map (·.stage) = _
  rw [Dev.slot_setSlot, if_pos ⟨rfl, rfl⟩, h]
  rfl

theorem memberEnd_replying {c : Cmd} {d : Dev} (h : (d.slot c.ch c.tag).map (·.stage) = some .replying) :
    memberEnd c d = d := by
  unfold memberEnd
  cases hs : d.slot c.ch c.tag with
  | none => rfl
  | some z =>
    rw [hs] at h
    exact if_pos (Option.some.inj h)

/-- What a command of one channel leaves, shown by one equation and by what it does to the queues. -/
theorem State.frameCh_mk {s : State} {ch : Nat} {a b : Dev} (x : CmdState)
    (h : a = { b with cp := a.cp, tr := a.tr, rcd := a.rcd, flt := a.flt, wire := [], out := a.out, wr := a.wr })
    (hb : b.tr = s.dev.tr) (ht : b.tr.butReports a.tr) (hc : ∀ j, j ≠ ch → (b.chan j).butDrops (a.chan j))
    (hr : a.rcd = { b.rcd with
      recs := a.rcd.recs, snaps := a.rcd.snaps, stored := a.rcd.stored, snapNext := a.rcd.snapNext
      next := a.rcd.next, copied := a.rcd.copied, copyLost := a.rcd.copyLost, mergeCnt := a.rcd.mergeCnt
      intake := a.rcd.intake })
    (hf : a.flt = { b.flt with sum := a.flt.sum, first := a.flt.first }) :
    s.frameCh (s.after (a.withCp x)) ch { b with cp := x } := by
  have htr : (s.after (a.withCp x)).dev.tr = a.tr := (State.after_dev ..).2.2.2.1
  have hchan (j : Nat) : s.dev.chan j = b.chan j := by
    unfold Dev.chan
    rw [hb]
  refine ⟨?_, ?_, fun j hj => ?_⟩
  · rw [htr]
    refine State.frame_of_eq (b := { b with cp := x, tr := a.tr }) ⟨fun _ => rfl, rfl, hr, hf⟩ ?_ ?_
    · unfold Dev.withCp
      rw [h]
    · change a.wire = _
      rw [h]
  · rw [htr]
    exact ht
  · rw [(State.after_objects ..).2.2.2.1, hchan j]
    exact hc j hj

/-- A read's effect: its command waits for the acknowledgement of its reply, which has gone to the reply area (R138, R140,
R198). -/
theorem replies_of_sendsOn {c : Cmd} {s : State} {x y : CmdState} {taken : List Reg} {bytes : List Byte} {e : Dev}
    (hslot : (s.dev.fresh0.withCp y).slot c.ch c.tag = some c)
    (h : ((s.dev.fresh0.withCp y).replying c taken bytes).sendsOn c.ch e)
    (hl : s.dev.linkUpFor (s.dev.chan c.ch) = true → e = (s.dev.fresh0.withCp y).replying c taken bytes)
    (hx : x.slots = e.cp.slots) :
    c.replies bytes s (s.after (e.withCp x)) ∧ s.frameCh (s.after (e.withCp x)) c.ch { s.dev with cp := x } := by
  obtain ⟨h1, h2, h3, h4, h5, h6⟩ := h
  have hchan (j : Nat) : (s.after (e.withCp x)).dev.chan j = e.chan j := (State.after_objects ..).2.2.2.1
  have hout : (s.after (e.withCp x)).dev.out = [.rdma c.ch (c.replyReq (s.dev.chan c.ch) bytes)] := by
    simp only [State.after_dev]
    change e.out = _
    rw [h1]
    rfl
  have hself := (s.dev.fresh0.withCp y).replying_chan c taken bytes c.ch
  rw [if_pos rfl] at hself
  rw [hself] at h4
  refine ⟨⟨?_, c.replyReq (s.dev.chan c.ch) bytes, hout, ?_, rfl, rfl, rfl, rfl, rfl, ?_, fun hup => ?_⟩,
    State.frameCh_mk (b := s.dev) x ?_ rfl h2 (fun j hj => ?_) h5 h6⟩
  · have hst := Dev.replying_slot hslot taken bytes
    rw [Dev.slot_eq, (State.after_dev ..).2.2.1]
    change (slotIn c.ch c.tag x.slots).map _ = _
    rw [hx, h1]
    exact hst
  · rw [hchan]
    exact congrArg Channel.unacked h4
  · rw [hchan]
    generalize e.chan c.ch = z at h4 ⊢
    unfold Channel.butDrops at h4 ⊢
    rw [h4]
    rfl
  · rw [hchan, hl hup, hself]
    rfl
  · rw [h1]
    rfl
  · have hj' := h3 j hj
    rwa [(s.dev.fresh0.withCp y).replying_chan c taken bytes j, if_neg hj] at hj'

/-- A read replies (R138, R140). -/
theorem readDone_of {c : Cmd} {s : State} {x y : CmdState} (ram : Nat → Byte) (happ : c.applies (s.dev.fresh0.withCp y))
    (hr : c.isRead = true) (hx : x.slots = (memberEnd c (memberEffect ram c (s.dev.fresh0.withCp y))).cp.slots) :
    let t := s.after ((memberEnd c (memberEffect ram c (s.dev.fresh0.withCp y))).withCp x)
    c.replies (replyBytes ram (s.dev.fresh0.withCp y).projected c (s.dev.fresh0.withCp y)) s t ∧
      s.frameCh t c.ch { s.dev with cp := t.dev.cp } := by
  have he : memberEffect ram c (s.dev.fresh0.withCp y) = startReply ram c (s.dev.fresh0.withCp y) := if_pos hr
  rw [he] at hx ⊢
  obtain ⟨taken, hsend, hl⟩ := startReply_sendsOn ram c (s.dev.fresh0.withCp y)
  have hend : memberEnd c (startReply ram c (s.dev.fresh0.withCp y)) = startReply ram c (s.dev.fresh0.withCp y) := by
    refine memberEnd_replying ?_
    rw [Dev.slot_eq, hsend.1]
    exact Dev.replying_slot happ.1 taken (replyBytes ram (s.dev.fresh0.withCp y).projected c (s.dev.fresh0.withCp y))
  rw [hend] at hx ⊢
  have h := replies_of_sendsOn happ.1 hsend hl hx
  dsimp only
  rw [(State.after_dev ..).2.2.1]
  exact h

theorem pointsRead_of {c : Cmd} {s : State} {x y : CmdState} (ram : Nat → Byte) (happ : c.applies (s.dev.fresh0.withCp y))
    (hop : c.opcode = 0x01) (hx : x.slots = (memberEnd c (memberEffect ram c (s.dev.fresh0.withCp y))).cp.slots) :
    pointsRead c s (s.after ((memberEnd c (memberEffect ram c (s.dev.fresh0.withCp y))).withCp x)) := by
  have h := readDone_of ram happ (by unfold Cmd.isRead; rw [hop]; rfl) hx
  unfold replyBytes at h
  rw [hop] at h
  exact h

theorem entriesRead_of {c : Cmd} {s : State} {x y : CmdState} (happ : c.applies (s.dev.fresh0.withCp y))
    (hop : c.opcode = 0x08)
    (hx : x.slots = (memberEnd c (memberEffect (Memory.read s.sram) c (s.dev.fresh0.withCp y))).cp.slots) :
    entriesRead c (s.dev.fresh0.withCp y) s
      (s.after ((memberEnd c (memberEffect (Memory.read s.sram) c (s.dev.fresh0.withCp y))).withCp x)) := by
  have h := readDone_of (Memory.read s.sram) happ (by unfold Cmd.isRead; rw [hop]; rfl) hx
  unfold replyBytes at h
  rw [hop] at h
  exact h

theorem registersRead_of {c : Cmd} {s : State} {x y : CmdState} (ram : Nat → Byte)
    (happ : c.applies (s.dev.fresh0.withCp y)) (hop : c.opcode = 0x0C)
    (hx : x.slots = (memberEnd c (memberEffect ram c (s.dev.fresh0.withCp y))).cp.slots) :
    registersRead c (s.dev.fresh0.withCp y) s
      (s.after ((memberEnd c (memberEffect ram c (s.dev.fresh0.withCp y))).withCp x)) := by
  have h := readDone_of ram happ (by unfold Cmd.isRead; rw [hop]; rfl) hx
  unfold replyBytes at h
  rw [hop] at h
  exact h

theorem nop_runs {s : State} {c : Cmd} (hs : s.up) (h : c.runnable s) (hop : c.opcode = 0) :
    Runs (.nop c.ch c.tag) s (nopDone c s) := by
  refine Cmd.runnable_runs_plain hs h rfl rfl (by simp [cmdNop, hop]) (by rw [hop]; decide) (by rw [hop]; decide) ?_
  rintro e rfl
  rw [memberEffect_nop hop]
  exact nopDone_of hop (Cmd.applies_congr (Cmd.runnable_applies h) rfl) rfl

theorem reads_run {s : State} {c : Cmd} (hs : s.up) (h : c.runnable s) :
    (c.opcode = 0x01 → Runs (.pointRead c.ch c.tag) s (pointsRead c s)) ∧
      (c.opcode = 0x08 → Runs (.readEntry c.ch c.tag) s (entriesRead c s.dev.fresh0 s)) ∧
      (c.opcode = 0x0C → Runs (.readReg c.ch c.tag) s (registersRead c s.dev.fresh0 s)) := by
  have happ : c.applies (s.dev.fresh0.withCp s.dev.cp) := Cmd.runnable_applies h
  refine ⟨fun hop => ?_, fun hop => ?_, fun hop => ?_⟩
  · refine Cmd.runnable_runs_plain hs h rfl rfl (by simp [cmdOp, hop]) (by rw [hop]; decide) (by rw [hop]; decide) ?_
    rintro e rfl
    exact pointsRead_of _ happ hop rfl
  · refine Cmd.runnable_runs_plain hs h rfl rfl (by simp [cmdOp, hop]) (by rw [hop]; decide) (by rw [hop]; decide) ?_
    rintro e rfl
    exact entriesRead_of happ hop rfl
  · refine Cmd.runnable_runs_plain hs h rfl rfl (by simp [cmdOp, hop]) (by rw [hop]; decide) (by rw [hop]; decide) ?_
    rintro e rfl
    exact registersRead_of _ happ hop rfl

/-! ### What a full barrier has held back (R120) -/

/-- Command `e`, which has its status, still waits, and no barrier holds it back. -/
def Cmd.pendingOn (e : Cmd) (ch : Nat) (d : Dev) : Prop :=
  (∃ z, d.slot ch e.tag = some z) ∧ (∀ z ∈ d.inFlight ch, z.tag = e.tag → e.butReady z) ∧
    ∀ b ∈ d.inFlight ch, b.isBarrier = true → b.stage ≠ .finished → ¬ b.seq < e.seq

/-- Command `e` has completed with a status that is no success. -/
def Cmd.releasedOn (e : Cmd) (ch st : Nat) (d : Dev) : Prop :=
  (d.slot ch e.tag).map (·.stage) = some .finished ∧
    (∃ x, (d.chan ch).holds x ∧ x.seq = e.seq ∧ x.status = BitVec.ofNat 8 st) ∧ (d.chan ch).fenceFault = true

/-- The tags of the commands that have their status without their execution. -/
def Dev.endedTags (d : Dev) (ch : Nat) : Finset Nat := (((d.inFlight ch).filter (fun x => x.stage.isEnded)).map (·.tag)).toFinset

theorem Dev.mem_endedTags {d : Dev} {ch k : Nat} :
    k ∈ d.endedTags ch ↔ ∃ x ∈ d.inFlight ch, x.stage.isEnded = true ∧ x.tag = k := by
  simp [Dev.endedTags, and_assoc]

theorem Dev.slot_of_mem {d : Dev} {ch : Nat} {x : Cmd} (h : x ∈ d.inFlight ch) : ∃ z, d.slot ch x.tag = some z := by
  obtain ⟨hm, hch⟩ := Dev.mem_inFlight.mp h
  have : (d.slot ch x.tag).isSome := by
    unfold Dev.slot
    rw [List.find?_isSome]
    exact ⟨x, hm, decide_eq_true ⟨hch, rfl⟩⟩
  exact Option.isSome_iff_exists.mp this

theorem Dev.mem_of_slot {d : Dev} {ch tag : Nat} {z : Cmd} (h : d.slot ch tag = some z) :
    z ∈ d.inFlight ch ∧ z.tag = tag := by
  obtain ⟨h1, h2, h3⟩ := slotIn_names h
  exact ⟨Dev.mem_inFlight.mpr ⟨h3, h1⟩, h2⟩

/-- A failure keeps FENCE_FAULT set, and what waits in the queues. -/
theorem finishOne_failed {ch tag st : Nat} {c : Cmd} {d : Dev} (h : d.slot ch tag = some c) (hst : st ≠ 0) :
    ((finishOne ch tag st 0 [] d).chan ch).fenceFault = true ∧
      (∀ x, (d.chan ch).holds x → ((finishOne ch tag st 0 [] d).chan ch).holds x) ∧
      ∃ x, ((finishOne ch tag st 0 [] d).chan ch).holds x ∧ x.seq = c.seq ∧ x.status = BitVec.ofNat 8 st := by
  obtain ⟨y, x, hy, hc, hxs, -, -, -, hxq, -⟩ := finishOne_chan h st 0 []
  obtain ⟨h1, h2, h3, -⟩ := Channel.butDrops_keeps hy
  unfold Channel.statusNoted at h1 h2 h3
  rw [if_pos hst] at h1 h2 h3
  rw [hc, if_neg (by simp [hst])]
  refine ⟨by rw [Channel.pushed_fenceFault, h3], fun z hz => (Channel.pushed_holds y x z).mpr (.inl ?_), x,
    (Channel.pushed_holds y x x).mpr (.inr rfl), hxq, hxs⟩
  unfold Channel.holds at hz ⊢
  rwa [h1, h2]

/-- A completed command stays completed while others fail. -/
theorem Cmd.releasedOn_finishOne {e : Cmd} {ch st tag st' : Nat} {d : Dev} (h : e.releasedOn ch st d) (hst : st' ≠ 0) :
    e.releasedOn ch st (finishOne ch tag st' 0 [] d) := by
  obtain ⟨hs, ⟨x, hx, hxs⟩, hf⟩ := h
  cases hc : d.slot ch tag with
  | none =>
    unfold finishOne
    rw [hc]
    exact ⟨hs, ⟨x, hx, hxs⟩, hf⟩
  | some c =>
    obtain ⟨hf', hold, -⟩ := finishOne_failed hc hst
    refine ⟨?_, ⟨x, hold x hx, hxs⟩, hf'⟩
    by_cases ht : e.tag = tag
    · subst ht
      rw [finishOne_slot hc, if_neg (by simp [hst])]
    · obtain ⟨w, hw⟩ := finishOne_slot_other (ch := ch) (ch' := ch) (d := d) (fun hh => ht hh.2) st' 0 []
      rcases hw with hw | hw
      · rw [hw, Option.map_map]
        rw [← hs]
        congr 1
        funext z
        exact (Cmd.butReady_keeps (w.polled_butReady ch z)).2.2.1
      · rw [hw]
        exact hs

/-- No command has succeeded without its execution. -/
def Dev.noneEndedOk (d : Dev) (ch : Nat) : Prop := ∀ x ∈ d.inFlight ch, x.stage ≠ .ended 0

theorem noneEndedOk_finishOne {ch tag st : Nat} {d : Dev} (h : d.noneEndedOk ch) :
    (finishOne ch tag st 0 [] d).noneEndedOk ch := by
  cases hc : d.slot ch tag with
  | none =>
    unfold finishOne
    rw [hc]
    exact h
  | some c =>
    intro x hx
    rcases mem_inFlight_finishOne hc hx with ⟨-, hf⟩ | ⟨y, hy, -, hb⟩
    · rw [hf]
      exact nofun
    · rw [(Cmd.butReady_keeps hb).2.2.1]
      exact h y hy

theorem endsNow_some {d : Dev} {x k : Cmd} {s : Nat} (h : d.endsNow x = some (k, s)) : k = x ∧ x.stage = .ended s := by
  unfold Dev.endsNow at h
  split at h
  · next s' hs =>
    split at h
    · exact absurd h nofun
    · obtain ⟨rfl, rfl⟩ := Prod.mk.inj (Option.some.inj h)
      exact ⟨rfl, hs⟩
  · exact absurd h nofun

/-- The end of a command that has its status takes it from those that wait so. -/
theorem endedTags_finishOne {ch st : Nat} {k : Cmd} {d : Dev} (hk : k ∈ d.inFlight ch) (hst : k.stage.isEnded = true) :
    ((finishOne ch k.tag st 0 [] d).endedTags ch).card < (d.endedTags ch).card := by
  obtain ⟨c, hc⟩ := Dev.slot_of_mem hk
  refine Finset.card_lt_card (Finset.ssubset_iff_subset_ne.mpr ⟨fun j hj => ?_, fun he => ?_⟩)
  · obtain ⟨x, hx, hend, rfl⟩ := Dev.mem_endedTags.mp hj
    rcases mem_inFlight_finishOne hc hx with ⟨-, hf⟩ | ⟨y, hy, -, hb⟩
    · rw [hf] at hend
      exact absurd hend nofun
    · obtain ⟨-, h2, h3, -⟩ := Cmd.butReady_keeps hb
      exact Dev.mem_endedTags.mpr ⟨y, hy, h3 ▸ hend, h2.symm⟩
  · have hmem : k.tag ∈ (finishOne ch k.tag st 0 [] d).endedTags ch := he ▸ Dev.mem_endedTags.mpr ⟨k, hk, hst, rfl⟩
    obtain ⟨x, hx, hend, ht⟩ := Dev.mem_endedTags.mp hmem
    rcases mem_inFlight_finishOne hc hx with ⟨-, hf⟩ | ⟨y, -, hne, hb⟩
    · rw [hf] at hend
      exact absurd hend nofun
    · exact hne ((Cmd.butReady_keeps hb).2.1.symm.trans ht)

theorem Cmd.pendingOn_finishOne {e : Cmd} {ch tag st : Nat} {d : Dev} (h : e.pendingOn ch d) (ht : tag ≠ e.tag) :
    e.pendingOn ch (finishOne ch tag st 0 [] d) := by
  cases hc : d.slot ch tag with
  | none =>
    unfold finishOne
    rw [hc]
    exact h
  | some c =>
    obtain ⟨⟨z, hz⟩, hu, hb⟩ := h
    obtain ⟨hzm, hzt⟩ := Dev.mem_of_slot hz
    refine ⟨?_, fun x hx hxt => ?_, fun x hx hbar hns => ?_⟩
    · obtain ⟨x, hx, hxb⟩ := inFlight_finishOne_other hc st 0 [] hzm (fun hh => ht (hh.symm.trans hzt))
      have := Dev.slot_of_mem hx
      rwa [(Cmd.butReady_keeps hxb).2.1, hzt] at this
    · rcases mem_inFlight_finishOne hc hx with ⟨hxt', -⟩ | ⟨y, hy, -, hyb⟩
      · exact absurd (hxt'.symm.trans hxt) ht
      · have hey := hu y hy ((Cmd.butReady_keeps hyb).2.1.symm.trans hxt)
        unfold Cmd.butReady at *
        rw [hyb, hey]
    · rcases mem_inFlight_finishOne hc hx with ⟨-, hf⟩ | ⟨y, hy, -, hyb⟩
      · exact absurd hf hns
      · obtain ⟨-, -, h3, h4, h5⟩ := Cmd.butReady_keeps hyb
        rw [h4]
        exact hb y hy (h5.symm.trans hbar) (fun hh => hns (h3.trans hh))

/-- A command that waits with its status, behind no barrier, ends now. -/
theorem Cmd.pendingOn_endsNow {e : Cmd} {ch st : Nat} {d : Dev} (h : e.pendingOn ch d) (hst : e.stage = .ended st) :
    ∃ k s, (d.inFlight ch).findSome? d.endsNow = some (k, s) ∧ k ∈ d.inFlight ch ∧ k.stage = .ended s := by
  obtain ⟨⟨z, hz⟩, hu, hb⟩ := h
  obtain ⟨hzm, hzt⟩ := Dev.mem_of_slot hz
  obtain ⟨hzch, -, hzst, hzseq, -⟩ := Cmd.butReady_keeps (hu z hzm hzt)
  have hnow : d.endsNow z = some (z, st) := by
    unfold Dev.endsNow
    rw [hzst, hst]
    refine if_neg ?_
    unfold Dev.behindBarrier
    rw [List.any_eq_true]
    rintro ⟨b, hbm, hbb⟩
    rw [(Dev.mem_inFlight.mp hzm).2] at hbm
    simp only [Bool.and_eq_true, decide_eq_true_eq, bne_iff_ne] at hbb
    obtain ⟨⟨hbar, hns⟩, hlt⟩ := hbb
    rw [hzseq] at hlt
    exact hb b hbm hbar hns hlt
  cases hf : (d.inFlight ch).findSome? d.endsNow with
  | none => exact absurd ((List.findSome?_eq_none_iff.mp hf z hzm).symm.trans hnow) nofun
  | some p =>
    obtain ⟨k, s⟩ := p
    obtain ⟨l1, x, l2, hl, hx, -⟩ := List.findSome?_eq_some_iff.mp hf
    obtain ⟨rfl, hs⟩ := endsNow_some hx
    exact ⟨k, s, rfl, by rw [hl]; simp, hs⟩

/-- What has completed stays so while the rest is released. -/
theorem releaseEnded_keeps {e : Cmd} {ch st : Nat} (n : Nat) {d : Dev} (h : e.releasedOn ch st d) (hok : d.noneEndedOk ch) :
    e.releasedOn ch st (releaseEnded ch n d) := by
  induction n generalizing d with
  | zero => exact h
  | succ n ih =>
    cases hf : (d.inFlight ch).findSome? d.endsNow with
    | none =>
      rw [releaseEnded_none hf]
      exact h
    | some p =>
      obtain ⟨k, s⟩ := p
      obtain ⟨l1, x, l2, hl, hx, -⟩ := List.findSome?_eq_some_iff.mp hf
      obtain ⟨rfl, hs⟩ := endsNow_some hx
      have hs0 : s ≠ 0 := fun h0 => hok k (by rw [hl]; simp) (h0 ▸ hs)
      rw [releaseEnded_some hf]
      exact ih (Cmd.releasedOn_finishOne h hs0) (noneEndedOk_finishOne hok)

/-- A command that no barrier holds back any more completes with the status it has. -/
theorem releaseEnded_releases {e : Cmd} {ch st : Nat} (hst : e.stage = .ended st) (n : Nat) {d : Dev}
    (hn : (d.endedTags ch).card ≤ n) (h : e.pendingOn ch d) (hok : d.noneEndedOk ch) :
    e.releasedOn ch st (releaseEnded ch n d) := by
  induction n generalizing d with
  | zero =>
    obtain ⟨k, s, -, hk, hs⟩ := Cmd.pendingOn_endsNow h hst
    have hmem : k.tag ∈ d.endedTags ch := Dev.mem_endedTags.mpr ⟨k, hk, by rw [hs]; rfl, rfl⟩
    rw [Finset.card_eq_zero.mp (Nat.le_zero.mp hn)] at hmem
    exact absurd hmem (Finset.notMem_empty _)
  | succ n ih =>
    obtain ⟨k, s, hf, hk, hs⟩ := Cmd.pendingOn_endsNow h hst
    have hs0 : s ≠ 0 := fun h0 => hok k hk (h0 ▸ hs)
    rw [releaseEnded_some hf]
    by_cases ht : k.tag = e.tag
    · refine releaseEnded_keeps n ?_ (noneEndedOk_finishOne hok)
      obtain ⟨⟨z, hz⟩, hu, -⟩ := h
      obtain ⟨hzm, hzt⟩ := Dev.mem_of_slot hz
      have hks : s = st := by
        have hke := (Cmd.butReady_keeps (hu k hk ht)).2.2.1
        rw [hs, hst] at hke
        exact CmdStage.ended.inj hke
      obtain ⟨hff, -, x, hx, hxq, hxs⟩ := finishOne_failed hz hs0
      rw [ht]
      refine ⟨?_, ⟨x, hx, hxq.trans (Cmd.butReady_keeps (hu z hzm hzt)).2.2.2.1, hks ▸ hxs⟩, hff⟩
      rw [finishOne_slot hz, if_neg (by simp [hs0])]
    · have hlt := endedTags_finishOne (st := s) hk (by rw [hs]; rfl)
      exact ih (by omega) (Cmd.pendingOn_finishOne h ht) (noneEndedOk_finishOne hok)

/-- With a full barrier what waits behind it alone completes, with the status it has (R120). -/
theorem barrier_releases {s : State} {c e : Cmd} {st : Nat} (hs : s.up) (hch : c.ch ≤ 64) (htag : c.tag < 128)
    (hslot : s.dev.slot c.ch c.tag = some c) (hw : c.stage = .waiting) (hb : s.dev.blocked c = false)
    (hl : c.pastLimit s.dev = false) (ha : c.a = false) (ht : c.t = false) (hck : checkAll c false s.dev.fresh0 = none)
    (hop : c.opcode = 0) (hnd : ((s.dev.inFlight c.ch).map (·.tag)).Nodup) (hlen : (s.dev.inFlight c.ch).length ≤ 32)
    (he : e ∈ s.dev.inFlight c.ch) (hest : e.stage = .ended st) (hok : ∀ x ∈ s.dev.inFlight c.ch, x.stage ≠ .ended 0)
    (hbar : ∀ b ∈ s.dev.inFlight c.ch, b.isBarrier = true → b.stage ≠ .finished → b.seq < e.seq → b.tag = c.tag) :
    Runs (.nop c.ch c.tag) s (fun t => (t.dev.slot e.ch e.tag).map (·.stage) = some .finished ∧
      (∃ x, (t.dev.chan c.ch).holds x ∧ x.seq = e.seq ∧ x.status = BitVec.ofNat 8 st) ∧
      (t.dev.chan c.ch).fenceFault = true) := by
  have hcfg : c.isConfig = false := by
    unfold Cmd.isConfig
    rw [hop]
    rfl
  have h38 : c.opcode ≠ 0x38 := by rw [hop]; decide
  have h3f : c.opcode ≠ 0x3F := by rw [hop]; decide
  have hsame {x y : Cmd} (hx : x ∈ s.dev.inFlight c.ch) (hy : y ∈ s.dev.inFlight c.ch) (hxy : x.tag = y.tag) : x = y :=
    List.inj_on_of_nodup_map hnd hx hy hxy
  have hcm : c ∈ s.dev.inFlight c.ch := (Dev.mem_of_slot hslot).1
  have hne : e.tag ≠ c.tag := fun hh => by
    rw [hsame he hcm hh, hw] at hest
    exact absurd hest nofun
  have hslot0 : s.dev.fresh0.slot c.ch c.tag = some c := hslot
  have hok0 : s.dev.fresh0.noneEndedOk c.ch := hok
  have hpend : e.pendingOn c.ch (finishOne c.ch c.tag 0 0 [] s.dev.fresh0) := by
    refine ⟨?_, fun z hz hzt => ?_, fun b hb' hbb hns hlt => ?_⟩
    · obtain ⟨x, hx, hxb⟩ := inFlight_finishOne_other hslot0 0 0 [] he hne
      have hslotx := Dev.slot_of_mem hx
      rwa [(Cmd.butReady_keeps hxb).2.1] at hslotx
    · rcases mem_inFlight_finishOne hslot0 hz with ⟨hzt', -⟩ | ⟨y, hy, -, hyb⟩
      · exact absurd (hzt.symm.trans hzt') hne
      · rwa [hsame he hy (hzt.symm.trans (Cmd.butReady_keeps hyb).2.1)]
    · rcases mem_inFlight_finishOne hslot0 hb' with ⟨-, hf⟩ | ⟨y, hy, hyne, hyb⟩
      · exact hns hf
      · obtain ⟨-, -, h3, h4, h5⟩ := Cmd.butReady_keeps hyb
        rw [h4] at hlt
        exact hyne (hbar y hy (h5.symm.trans hbb) (fun hh => hns (h3.trans hh)) hlt)
  have hcard : ((finishOne c.ch c.tag 0 0 [] s.dev.fresh0).endedTags c.ch).card ≤ 32 := by
    refine (Finset.card_le_card (t := ((s.dev.inFlight c.ch).map (·.tag)).toFinset) fun j hj => ?_).trans
      ((List.toFinset_card_le _).trans (by simpa using hlen))
    obtain ⟨x, hx, hend, rfl⟩ := Dev.mem_endedTags.mp hj
    rcases mem_inFlight_finishOne hslot0 hx with ⟨-, hf⟩ | ⟨y, hy, -, hyb⟩
    · rw [hf] at hend
      exact absurd hend nofun
    · rw [(Cmd.butReady_keeps hyb).2.1]
      exact List.mem_toFinset.mpr (List.mem_map_of_mem hy)
  have hdone := releaseEnded_releases hest 32 hcard hpend (noneEndedOk_finishOne hok0)
  refine Runs.mainR (checked_wf (decide_eq_true ⟨hch, htag⟩)) hs ?_
  rw [execCommand_alone hslot0 (by simp [cmdNop, hop]) hw hb hl ha, runMembers_alone hcfg ht hck, lifecycleCheck_other h38,
    restartDue_other h38 h3f, memberEffect_nop hop]
  · have hend : memberEnd c s.dev.fresh0 = finish c.ch c.tag stOk 0 [] s.dev.fresh0 := by
      unfold memberEnd
      rw [hslot0]
      dsimp only
      rw [if_neg (by rw [hw]; exact nofun)]
    rw [hend, (State.after_objects ..).2.2.2.1, Dev.slot_eq, (State.after_dev ..).2.2.1, (Dev.mem_inFlight.mp he).2]
    exact hdone
  · rw [lifecycleCheck_other h38]

/-- Settles O12: a NOP and the reads as one command alone, and a full barrier by what it releases. -/
theorem nopAndReads : Obligations.NopAndReads :=
  ⟨fun _ _ hs h hop => nop_runs hs h hop, fun _ _ hs h => reads_run hs h,
    fun _ _ _ _ hs hch htag hslot hw hb hl ha ht hck hop _ hnd hlen he hest _ hok hbar =>
      barrier_releases hs hch htag hslot hw hb hl ha ht hck hop hnd hlen he hest hok hbar⟩

end Sys2Proof.Machine
end

section
/-!
POINT_WRITE and ALARM_ACK (R57, R65, R72, R85, R150).
-/
namespace Sys2Proof.Machine

/-! ### POINT_WRITE -/

/-- A record after one element of a POINT_WRITE (R65, R72). -/
def Point.written (x : Point) (part : Nat) (e : PointElem) (cal : W64) : Point :=
  if part = 0 ∧ (x.srcKind ≠ 0 ∨ x.owner ≠ 0) then
    x.stored { x with
      value := canonical x.ptype.toNat e.value, quality := 1, detail := 0x10, subst := x.subst || x.srcKind != 0
      substForce := true, mirProduced := false } cal
  else x.stored { x with
      value := canonical x.ptype.toNat e.value, quality := e.quality, detail := e.detail, substForce := false
      mirProduced := false } cal

theorem pointWriteOne_point (part p q : Nat) (e : PointElem) (d : Dev) : (pointWriteOne part p e d).point q =
    if q = p then (d.point p).written part e d.cal else d.point q := by
  unfold pointWriteOne Point.written
  dsimp only
  split
  · exact storePoint_point_eq ..
  · exact storePoint_point_eq ..

/-- What a written record holds (R57, R65, R72). -/
theorem Point.written_holds (x : Point) (part : Nat) (e : PointElem) (cal : W64) :
    let y := x.written part e cal
    let subst := part = 0 ∧ (x.srcKind ≠ 0 ∨ x.owner ≠ 0)
    y.value = canonical x.ptype.toNat e.value ∧
      (subst → y.quality = 1 ∧ y.detail = 0x10 ∧ y.substForce = true ∧ y.subst = (x.subst || x.srcKind != 0)) ∧
      (¬ subst → y.quality = e.quality ∧ y.detail = e.detail ∧ y.substForce = false ∧ y.subst = x.subst) ∧
      y.owner = x.owner ∧ y.srcKind = x.srcKind := by
  unfold Point.written
  dsimp only
  split
  · next h =>
    obtain ⟨h1, h2, h3, h4, h5, -, h7, h8, -⟩ := Point.stored_keeps x { x with
      value := canonical x.ptype.toNat e.value, quality := 1, detail := 0x10, subst := x.subst || x.srcKind != 0
      substForce := true, mirProduced := false } cal
    exact ⟨h1, fun _ => ⟨h2, h3, h8, h7⟩, fun hn => absurd h hn, h4, h5⟩
  · next h =>
    obtain ⟨h1, h2, h3, h4, h5, -, h7, h8, -⟩ := Point.stored_keeps x { x with
      value := canonical x.ptype.toNat e.value, quality := e.quality, detail := e.detail, substForce := false
      mirProduced := false } cal
    exact ⟨h1, fun hs => absurd hs h, fun _ => ⟨h2, h3, h8, h7⟩, h4, h5⟩

/-- The elements of a POINT_WRITE. -/
def Cmd.writePoints (c : Cmd) (d : Dev) : Dev :=
  (List.range c.count).foldl (fun d i => pointWriteOne c.part (c.index + i) (c.pointElem i).1 d) d

theorem foldl_stores_mem {α : Type} {P : Nat → Prop} {f : Dev → α → Dev} (xs : List α)
    (h : ∀ d, ∀ x ∈ xs, Dev.stores P d (f d x)) (d : Dev) : d.stores P (xs.foldl f d) := by
  induction xs generalizing d with
  | nil => exact Dev.stores_refl P d
  | cons x xs ih =>
    exact Dev.stores_trans (h d x List.mem_cons_self) (ih (fun d y hy => h d y (List.mem_cons_of_mem x hy)) _)

/-- The objects that a command names from its INDEX on. -/
def Cmd.namesAt (c : Cmd) (p : Nat) : Prop := ∃ i < c.count, p = c.index + i

theorem Cmd.writePoints_stores (c : Cmd) (d : Dev) : d.stores c.namesAt (c.writePoints d) :=
  foldl_stores_mem _ (fun _ i hi => Dev.stores_mono (pointWriteOne_stores ..) fun _ hq => ⟨i, List.mem_range.mp hi, hq⟩) d

theorem Dev.cal_of_stores {P : Nat → Prop} {a b : Dev} (h : a.stores P b) : b.cal = a.cal := by
  obtain ⟨-, -, he⟩ := h
  unfold Dev.cal
  rw [he]

/-- Each named point takes its element. -/
theorem Cmd.writePoints_point (c : Cmd) (d : Dev) {i : Nat} (hi : i < c.count) : (c.writePoints d).point (c.index + i) =
    (d.point (c.index + i)).written c.part (c.pointElem i).1 d.cal := by
  obtain ⟨-, h⟩ := foldl_range_get (fun d i => Dev.point d (c.index + i))
    (fun d i => pointWriteOne c.part (c.index + i) (c.pointElem i).1 d)
    (fun i x => x.written c.part (c.pointElem i).1 d.cal) (fun e => e.cal = d.cal)
    (fun e k he => (Dev.cal_of_stores (pointWriteOne_stores ..)).trans he)
    (fun e k he => by rw [pointWriteOne_point, if_pos rfl, he])
    (fun e k m _ hm => by rw [pointWriteOne_point, if_neg (by omega)]) c.count (c := d) rfl
  exact (h i).trans (if_pos hi)

/-- The effect of a command that is neither a read nor a TIME_SET. -/
theorem memberEffect_operation {c : Cmd} (hr : (opRow c.opcode).all (fun r => r.kind != .read) = true) (h13 : c.opcode ≠ 0x13)
    (ram : Nat → Byte) (d : Dev) : memberEffect ram c d = operationEffect c d := by
  have hread : c.isRead = false := by
    unfold Cmd.isRead
    cases ho : opRow c.opcode with
    | none => rfl
    | some r =>
      rw [ho] at hr
      simpa using hr
  unfold memberEffect
  rw [hread]
  exact if_neg h13

theorem operationEffect_pointWrite {c : Cmd} (h : c.opcode = 0x02) (d : Dev) :
    ∃ areas, operationEffect c d = digestMark areas (c.writePoints d) := by
  have he : operationEffect c d = if ((List.range c.count).map (fun i => c.index + i)).any (fun p => (d.point p).digested)
      then digestMark [5] (c.writePoints d) else c.writePoints d := by
    unfold operationEffect
    rw [h]
    rfl
  rw [he]
  split
  · exact ⟨[5], rfl⟩
  · exact ⟨[], rfl⟩

theorem Dev.stores_cp {P : Nat → Prop} {a b : Dev} (h : a.stores P b) : b.cp = a.cp := by
  obtain ⟨-, -, he⟩ := h
  rw [he]

/-- What a completed command leaves of its effect, seen on the state after it. -/
theorem State.after_memberEnd {c : Cmd} {s : State} {e : Dev} {x : CmdState} (happ : c.applies e) :
    let t := s.after ((memberEnd c e).withCp x)
    t.dev.cp = x ∧ t.dev.ps = e.ps ∧ t.dev.ply = e.ply ∧ t.dev.lines = e.lines ∧ t.dev.strands = e.strands ∧
      t.dev.cl = e.cl ∧ t.dev.upd = e.upd ∧ t.dev.flash = e.flash ∧ t.dev.bk = e.bk := by
  have h := (memberEnd_effect happ).1
  simp only [State.after_dev]
  unfold Dev.withCp
  rw [h]
  exact ⟨rfl, rfl, rfl, rfl, rfl, rfl, rfl, rfl, rfl⟩

/-- The points are written, and the command completes. -/
theorem pointsWritten_of {c : Cmd} {s : State} {x y : CmdState} (ram : Nat → Byte)
    (happ : c.applies (s.dev.fresh0.withCp y)) (hop : c.opcode = 0x02)
    (hx : x.slots = (memberEnd c (memberEffect ram c (s.dev.fresh0.withCp y))).cp.slots) :
    pointsWritten c s (s.after ((memberEnd c (memberEffect ram c (s.dev.fresh0.withCp y))).withCp x)) := by
  obtain ⟨areas, he⟩ := operationEffect_pointWrite hop (s.dev.fresh0.withCp y)
  rw [memberEffect_operation (by rw [hop]; rfl) (by rw [hop]; decide), he] at hx ⊢
  have hst := c.writePoints_stores (s.dev.fresh0.withCp y)
  have hpoint := fun i hi => c.writePoints_point (s.dev.fresh0.withCp y) (i := i) hi
  generalize c.writePoints (s.dev.fresh0.withCp y) = e at hst hpoint hx ⊢
  have hcp : (digestMark areas e).cp.slots = (s.dev.fresh0.withCp y).cp.slots := by
    change e.cp.slots = _
    rw [Dev.stores_cp hst]
  have happ' := Cmd.applies_congr happ hcp
  obtain ⟨hother, hr, hd⟩ := hst
  obtain ⟨hcpx, hps, hply, -⟩ := State.after_memberEnd (s := s) (x := x) happ'
  have hpt (q : Nat) : (s.after ((memberEnd c (digestMark areas e)).withCp x)).dev.point q = e.point q := by
    unfold Dev.point
    rw [hps]
    rfl
  obtain ⟨hdone, hframe⟩ := Cmd.completes_of (s := s) (x := x) (b := { s.dev with
      ps := { s.dev.ps with points := e.ps.points, alarms := e.ps.alarms, subs := e.ps.subs }
      ply := { s.dev.ply with digestDue := (digestMark areas e).ply.digestDue } }) happ'
    (by unfold digestMark Dev.modPly; dsimp only; rw [hd]; rfl) (Dev.reportsTo_congr hr rfl rfl rfl) rfl hx
  refine ⟨hdone, fun i hi => ?_, fun p hp => ?_, ?_⟩
  · dsimp only
    rw [hpt, hpoint i hi]
    exact Point.written_holds ..
  · rw [hpt]
    exact hother p fun ⟨i, hi, h⟩ => hp i hi h
  · rw [hcpx, hps, hply]
    exact hframe

/-! ### ALARM_ACK -/

/-- The acknowledgement of one level (R85). -/
def Alarm.ackLevel (mask : BitVec 4) (a : Alarm) (l : Nat) : Alarm :=
  if bit mask l && bit a.unacked l then
    match a.level l with
    | .clearWait => a.move l .normal false true
    | s => a.move l s false false
  else a

theorem alarmAckBits_eq (mask : BitVec 4) (q : Bool) (a : Alarm) : alarmAckBits mask q a =
    (let b := [0, 1, 2, 3].foldl (Alarm.ackLevel mask) a
    if q && b.qUnacked then { b with qUnacked := false, marked := true } else b) := rfl

/-- A level that moves and is acknowledged. -/
theorem Alarm.move_clears (a : Alarm) (l : Nat) (s : LevelState) (c : Bool) {m : Nat} (hm : m < 4) :
    bit (a.move l s false c).unacked m = (bit a.unacked m && !decide (m = l)) := by
  unfold Alarm.move mergeBits
  simp only [bit_or, bit_and, bit_not _ hm, bit_putB l true hm, bit_putB l false hm]
  cases bit a.unacked m <;> cases decide (m = l) <;> rfl

theorem Alarm.move_level (a : Alarm) (l m : Nat) (s : LevelState) (u c : Bool) :
    (a.move l s u c).level m = if m = l then s else a.level m := tget_tset ..

/-- An acknowledged level: its UNACKED bit is clear, and from CLEAR_WAIT it is NORMAL (R85). -/
theorem Alarm.ackLevel_holds (mask : BitVec 4) (a : Alarm) (l : Nat) {m : Nat} (hm : m < 4) :
    bit (a.ackLevel mask l).unacked m = (bit a.unacked m && !(decide (m = l) && bit mask m)) ∧
      (a.ackLevel mask l).level m = (if m = l ∧ bit mask m = true ∧ bit a.unacked m = true ∧ a.level m = .clearWait then .normal
        else a.level m) ∧
      (a.ackLevel mask l).qUnacked = a.qUnacked := by
  by_cases hc : (bit mask l && bit a.unacked l) = true
  · obtain ⟨hmask, hun⟩ := Bool.and_eq_true_iff.mp hc
    have hmove : ∃ s c, a.ackLevel mask l = a.move l s false c ∧
        s = if a.level l = .clearWait then .normal else a.level l := by
      unfold Alarm.ackLevel
      rw [if_pos hc]
      split
      · next h => exact ⟨_, _, rfl, by rw [if_pos h]⟩
      · next h => exact ⟨_, _, rfl, by rw [if_neg h]⟩
    obtain ⟨s, c, he, hs⟩ := hmove
    rw [he, Alarm.move_clears a l s c hm, Alarm.move_level, hs]
    refine ⟨?_, ?_, rfl⟩
    · by_cases hml : m = l
      · subst hml
        simp [hmask]
      · simp [hml]
    · by_cases hml : m = l
      · subst hml
        simp [hmask, hun]
      · simp [hml]
  · have he : a.ackLevel mask l = a := if_neg hc
    rw [he]
    refine ⟨?_, ?_, rfl⟩
    · by_cases hml : m = l
      · subst hml
        cases h1 : bit mask m <;> cases h2 : bit a.unacked m <;> simp [h1, h2] at hc ⊢
      · simp [hml]
    · rw [if_neg]
      rintro ⟨rfl, h1, h2, -⟩
      exact hc (by rw [h1, h2]; rfl)

/-- So are all levels of a list. -/
theorem Alarm.ackLevels_hold (mask : BitVec 4) (ls : List Nat) (a : Alarm) {m : Nat} (hm : m < 4) :
    bit (ls.foldl (Alarm.ackLevel mask) a).unacked m = (bit a.unacked m && !(decide (m ∈ ls) && bit mask m)) ∧
      (ls.foldl (Alarm.ackLevel mask) a).level m =
        (if m ∈ ls ∧ bit mask m = true ∧ bit a.unacked m = true ∧ a.level m = .clearWait then .normal else a.level m) ∧
      (ls.foldl (Alarm.ackLevel mask) a).qUnacked = a.qUnacked := by
  induction ls generalizing a with
  | nil => simp
  | cons l ls ih =>
    obtain ⟨h1, h2, h3⟩ := ih (a.ackLevel mask l)
    obtain ⟨k1, k2, k3⟩ := a.ackLevel_holds mask l hm
    rw [List.foldl_cons, h1, h2, h3, k1, k2, k3]
    refine ⟨?_, ?_, rfl⟩
    · by_cases hml : m = l <;> cases bit mask m <;> cases bit a.unacked m <;> simp [hml]
    · by_cases hml : m = l
      · subst hml
        cases bit mask m <;> cases bit a.unacked m <;> simp
      · simp [hml]

/-- What an acknowledgement by mask leaves of an entry (R85). -/
theorem alarmAckBits_holds (mask : BitVec 4) (q : Bool) (a : Alarm) :
    (∀ l, l < 4 → bit (alarmAckBits mask q a).unacked l = (bit a.unacked l && !bit mask l)) ∧
      (∀ l, l < 4 → (alarmAckBits mask q a).level l =
        if bit mask l && bit a.unacked l && a.level l == .clearWait then .normal else a.level l) ∧
      (alarmAckBits mask q a).qUnacked = (a.qUnacked && !q) := by
  have hall {l : Nat} (hl : l < 4) : l ∈ [0, 1, 2, 3] := by
    simp only [List.mem_cons, List.not_mem_nil, or_false]
    omega
  have hq := (a.ackLevels_hold mask [0, 1, 2, 3] (m := 0) (by omega)).2.2
  have hkeep : ∃ b, b = [0, 1, 2, 3].foldl (Alarm.ackLevel mask) a ∧ (alarmAckBits mask q a).unacked = b.unacked ∧
      (alarmAckBits mask q a).levels = b.levels ∧ (alarmAckBits mask q a).qUnacked = (b.qUnacked && !q) := by
    refine ⟨_, rfl, ?_⟩
    rw [alarmAckBits_eq]
    dsimp only
    split
    · next h =>
      obtain ⟨h1, h2⟩ := Bool.and_eq_true_iff.mp h
      exact ⟨rfl, rfl, by rw [h1]; simp⟩
    · next h =>
      refine ⟨rfl, rfl, ?_⟩
      cases q with
      | false => simp
      | true => simpa using h
  obtain ⟨b, hb, hu, hlv, hqu⟩ := hkeep
  refine ⟨fun l hl => ?_, fun l hl => ?_, by rw [hqu, hb, hq]⟩
  · rw [hu, hb, (a.ackLevels_hold mask [0, 1, 2, 3] hl).1]
    simp [hall hl]
  · have : (alarmAckBits mask q a).level l = b.level l := by unfold Alarm.level; rw [hlv]
    rw [this, hb, (a.ackLevels_hold mask [0, 1, 2, 3] hl).2.1]
    simp [hall hl, and_assoc]

/-- The entries of an ALARM_ACK. -/
def Cmd.ackAlarms (c : Cmd) (d : Dev) : Dev := (List.range c.count).foldl (fun d i =>
  d.setAlarm (c.index + i) (alarmAckBits (fld (c.ackElem i) 0 4) (bit (c.ackElem i) 4) (d.alarm (c.index + i)))) d

theorem operationEffect_alarmAck {c : Cmd} (h : c.opcode = 0x04) (d : Dev) : operationEffect c d = c.ackAlarms d := by
  unfold operationEffect
  rw [h]
  rfl

/-- Alarm entries alone change. -/
theorem Cmd.ackAlarms_eq (c : Cmd) (d : Dev) :
    c.ackAlarms d = { d with ps := { d.ps with alarms := (c.ackAlarms d).ps.alarms } } := by
  unfold Cmd.ackAlarms
  generalize List.range c.count = ks
  induction ks generalizing d with
  | nil => rfl
  | cons k ks ih =>
    rw [List.foldl_cons, ih]
    rfl

/-- Each named entry is acknowledged. -/
theorem Cmd.ackAlarms_alarm (c : Cmd) (d : Dev) :
    (∀ i, i < c.count → (c.ackAlarms d).alarm (c.index + i) =
      alarmAckBits (fld (c.ackElem i) 0 4) (bit (c.ackElem i) 4) (d.alarm (c.index + i))) ∧
    ∀ e, (∀ i < c.count, e ≠ c.index + i) → (c.ackAlarms d).alarm e = d.alarm e := by
  obtain ⟨-, h⟩ := foldl_range_get (fun d i => Dev.alarm d (c.index + i)) (fun d i =>
      d.setAlarm (c.index + i) (alarmAckBits (fld (c.ackElem i) 0 4) (bit (c.ackElem i) 4) (d.alarm (c.index + i))))
    (fun i a => alarmAckBits (fld (c.ackElem i) 0 4) (bit (c.ackElem i) 4) a) (fun _ => True) (fun _ _ h => h)
    (fun e k _ => by rw [Dev.alarm_setAlarm, if_pos rfl])
    (fun e k m _ hm => by rw [Dev.alarm_setAlarm, if_neg (by omega)]) c.count (c := d) trivial
  refine ⟨fun i hi => (h i).trans (if_pos hi), fun e he => ?_⟩
  have hmem : ∀ i ∈ List.range c.count, e ≠ c.index + i := fun i hi => he i (List.mem_range.mp hi)
  clear h he
  unfold Cmd.ackAlarms
  generalize List.range c.count = ks at hmem
  induction ks generalizing d with
  | nil => rfl
  | cons k ks ih =>
    rw [List.foldl_cons, ih _ (fun i hi => hmem i (List.mem_cons_of_mem _ hi)), Dev.alarm_setAlarm,
      if_neg (hmem k List.mem_cons_self)]

/-- The alarms are acknowledged, and the command completes. -/
theorem alarmsAcked_of {c : Cmd} {s : State} {x y : CmdState} (ram : Nat → Byte)
    (happ : c.applies (s.dev.fresh0.withCp y)) (hop : c.opcode = 0x04)
    (hx : x.slots = (memberEnd c (memberEffect ram c (s.dev.fresh0.withCp y))).cp.slots) :
    alarmsAcked c s (s.after ((memberEnd c (memberEffect ram c (s.dev.fresh0.withCp y))).withCp x)) := by
  rw [memberEffect_operation (by rw [hop]; rfl) (by rw [hop]; decide), operationEffect_alarmAck hop] at hx ⊢
  have hd := c.ackAlarms_eq (s.dev.fresh0.withCp y)
  obtain ⟨hself, hother⟩ := c.ackAlarms_alarm (s.dev.fresh0.withCp y)
  generalize c.ackAlarms (s.dev.fresh0.withCp y) = e at hd hself hother hx ⊢
  have happ' : c.applies e := Cmd.applies_congr happ (by rw [hd])
  obtain ⟨hcpx, hps, -⟩ := State.after_memberEnd (s := s) (x := x) happ'
  have hal (q : Nat) : (s.after ((memberEnd c e).withCp x)).dev.alarm q = e.alarm q := by
    unfold Dev.alarm
    rw [hps]
  obtain ⟨hdone, hframe⟩ := Cmd.completes_of (s := s) (x := x)
    (b := { s.dev with ps := { s.dev.ps with alarms := e.ps.alarms } }) happ' (by rw [hd]; rfl)
    (Dev.reportsTo_of_eq (by rw [hd]; rfl) (by rw [hd]; rfl) (by rw [hd]; rfl)) rfl hx
  refine ⟨hdone, fun i hi => ?_, fun p hp => ?_, ?_⟩
  · dsimp only
    rw [hal, hself i hi]
    obtain ⟨h1, h2, h3⟩ := alarmAckBits_holds (fld (c.ackElem i) 0 4) (bit (c.ackElem i) 4) (s.dev.alarm (c.index + i))
    have hbit {l : Nat} (hl : l < 4) : bit (fld (c.ackElem i) 0 4) l = bit (c.ackElem i) l := by
      simp [fld, bit, hl]
    exact ⟨fun l hl => by rw [← hbit hl]; exact h1 l hl, fun l hl => by rw [← hbit hl]; exact h2 l hl, h3⟩
  · rw [hal]
    exact hother p hp
  · rw [hcpx, hps]
    exact hframe

/-- Settles O13: both as one command alone. -/
theorem pointAndAlarmCommands : Obligations.PointAndAlarmCommands := by
  intro s c hs h
  have happ : c.applies (s.dev.fresh0.withCp s.dev.cp) := Cmd.runnable_applies h
  refine ⟨fun hop => ?_, fun hop => ?_⟩
  · refine Cmd.runnable_runs_plain hs h rfl rfl (by simp [cmdOp, hop]) (by rw [hop]; decide) (by rw [hop]; decide) ?_
    rintro e rfl
    exact pointsWritten_of _ happ hop rfl
  · refine Cmd.runnable_runs_plain hs h rfl rfl (by simp [cmdOp, hop]) (by rw [hop]; decide) (by rw [hop]; decide) ?_
    rintro e rfl
    exact alarmsAcked_of _ happ hop rfl

end Sys2Proof.Machine
end

section
/-!
STRAND_LINE (R155, R241, R244, R245).
-/
namespace Sys2Proof.Machine

/-- From `d` to `d'` lines have moved and copies were cut, beside what reports write. -/
def Dev.movesLines (d d' : Dev) : Prop := d.reportsTo d' ∧
  d' = { d with lines := d'.lines, strands := d'.strands, out := d'.out, tr := d'.tr, rcd := d'.rcd, flt := d'.flt }

theorem Dev.movesLines_refl (d : Dev) : d.movesLines d := ⟨Dev.reportsTo_refl d, rfl⟩

theorem Dev.movesLines_trans {a b c : Dev} (h1 : a.movesLines b) (h2 : b.movesLines c) : a.movesLines c := by
  obtain ⟨hr, he⟩ := h1
  obtain ⟨hr', he'⟩ := h2
  exact ⟨Dev.reportsTo_trans hr hr', by rw [he', he]⟩

theorem Dev.movesLines_of_movesLine {k : Nat} {d d' : Dev} (h : d.movesLine k d') : d.movesLines d' := ⟨h.2.2.1, h.2.2.2⟩

theorem foldl_movesLines {α : Type} {f : Dev → α → Dev} (h : ∀ d x, Dev.movesLines d (f d x)) (xs : List α) (d : Dev) :
    d.movesLines (xs.foldl f d) := by
  induction xs generalizing d with
  | nil => exact Dev.movesLines_refl d
  | cons x xs ih => exact Dev.movesLines_trans (h d x) (ih _)

/-- So it is of a row in the cycle of the recorder. -/
theorem oneCycle_movesLines {f : Dev → Dev} (h : ∀ d, Dev.movesLines d (f d)) (d : Dev) : d.movesLines (oneCycle f d) := by
  have same {a b : Dev} (hr : a.reportsOnly b) (ht : a.reportsTo b) : a.movesLines b := by
    unfold Dev.reportsOnly at hr
    exact ⟨ht, by rw [hr]⟩
  unfold oneCycle
  split
  · exact h d
  · have hopen : d.movesLines { d with rcd := { d.rcd with intake := some [] } } := same rfl ⟨fun _ => rfl, rfl, rfl, rfl⟩
    exact Dev.movesLines_trans (Dev.movesLines_trans hopen (h _))
      (same (recordCycle_reportsOnly _) (recordCycle_reportsTo _))

/-! ### One strand -/

/-- The line with its failures forgotten. -/
def Line.cleared (l : Line) : Line := { l with failCnt := 0 }

/-- The line without a run of samples that is out of bounds. -/
def Line.calm (l : Line) : Line := { l with overRun := 0, backRun := 0 }

theorem strandLine_off_off {k : Nat} {d : Dev} (h : (d.line k).st = .off) : strandLine k 0 d = d := if_pos h

theorem strandLine_off {k : Nat} {d : Dev} (h : (d.line k).st ≠ .off) : strandLine k 0 d =
    report (lineEvent 0x0602 false k d) ((lineEnter k .off (d.setLine k (d.line k).cleared)).modLine k
      Line.calm) := if_neg h

/-- The states from which ON (`a` = 1) and RESET_LATCH start a strand again. -/
def LineSt.starts (a : Nat) (st : LineSt) : Bool := if a = 1 then st == .off else st == .off || st == .retryWait || st == .latched

theorem strandLine_start {k a : Nat} {d : Dev} (ha : a ≠ 0) (h : (d.line k).st.starts a = true) :
    strandLine k a d = linePrecheck k false (d.setLine k (d.line k).cleared) := by
  unfold LineSt.starts at h
  match a, ha with
  | 1, _ => exact if_pos (by simpa using h)
  | a + 2, _ => exact if_pos (by simpa [or_assoc] using h)

theorem strandLine_stays {k a : Nat} {d : Dev} (ha : a ≠ 0) (h : ¬ (d.line k).st.starts a = true) : strandLine k a d = d := by
  unfold LineSt.starts at h
  match a, ha with
  | 1, _ => exact if_neg (by simpa using h)
  | a + 2, _ => exact if_neg (by simpa [and_assoc] using h)

theorem modLine_movesLine {k : Nat} {f : Line → Line} {d : Dev} (h : ∀ l : Line, l.moves (f l)) :
    d.movesLine k (d.modLine k f) := setLine_movesLine (h _)

theorem strandLine_movesLine (k a : Nat) (d : Dev) : d.movesLine k (strandLine k a d) := by
  have hclear : d.movesLine k (d.setLine k (d.line k).cleared) := setLine_movesLine rfl
  by_cases ha : a = 0
  · subst ha
    by_cases h : (d.line k).st = .off
    · rw [strandLine_off_off h]
      exact Dev.movesLine_refl k d
    · rw [strandLine_off h]
      exact Dev.movesLine_trans (Dev.movesLine_trans (Dev.movesLine_trans hclear (lineEnter_movesLine ..))
        (modLine_movesLine (f := Line.calm) fun _ => rfl)) (report_movesLine ..)
  · by_cases h : (d.line k).st.starts a = true
    · rw [strandLine_start ha h]
      exact Dev.movesLine_trans hclear (linePrecheck_movesLine ..)
    · rw [strandLine_stays ha h]
      exact Dev.movesLine_refl k d

/-- What a STRAND_LINE makes of a line. -/
def Line.switched (a : Nat) (l : Line) : Line :=
  if a = 0 then if l.st = .off then l else (l.cleared.enter .off).calm
  else if l.st.starts a then
    { l.cleared.enter .precheck with preRun := 0, preWhole := false, preBad := false, causes := 0, reported := [] }
  else l

/-- A strand whose copy in transmission is cut (R245). -/
def Strand.cut (now : Cycle → Nat) (s : Strand) : Strand := { s with
  cycle := s.cycle.map (fun cy => if now cy < cy.txEnd then { cy with txEnd := 0 } else cy) }

theorem cutCopy_strand (k j : Nat) (d : Dev) :
    (cutCopy k d).strand j = if j = k then (d.strand k).cut d.cycleNow else d.strand j := by
  unfold cutCopy Strand.cut
  cases hcy : (d.strand k).cycle with
  | none =>
    dsimp only
    split
    · next hj => rw [hj, Option.map_none, ← hcy]
    · rfl
  | some cy =>
    simp only [Option.map_some]
    split
    · exact tget_tset ..
    · split
      · next hj => rw [hj, ← hcy]
      · rfl

theorem lineCuts_strand (k j : Nat) (d : Dev) : (lineCuts k d).strand j =
    if j = k ∧ (d.line k).st = .on then (d.strand k).cut d.cycleNow else d.strand j := by
  unfold lineCuts
  by_cases hon : (d.line k).st = .on
  · rw [if_pos hon]
    rw [cutCopy_strand]
    simp [hon]
  · simp [hon]

theorem strandLine_line (k a : Nat) (d : Dev) : (strandLine k a d).line k = (d.line k).switched a := by
  unfold Line.switched
  by_cases ha : a = 0
  · subst ha
    by_cases h : (d.line k).st = .off
    · rw [strandLine_off_off h, if_pos rfl, if_pos h]
    · rw [strandLine_off h, if_pos rfl, if_neg h]
      simp
  · rw [if_neg ha]
    by_cases h : (d.line k).st.starts a = true
    · rw [strandLine_start ha h, if_pos h]
      simp
    · rw [strandLine_stays ha h, if_neg h]

/-- Only OFF cuts a copy, and only of a strand in ON (R245). -/
theorem strandLine_strands (k a : Nat) (d : Dev) : (strandLine k a d).strands =
    if a = 0 then (lineCuts k d).strands else d.strands := by
  have hclear : (d.setLine k (d.line k).cleared).strands = d.strands := rfl
  by_cases ha : a = 0
  · subst ha
    rw [if_pos rfl]
    by_cases h : (d.line k).st = .off
    · rw [strandLine_off_off h, lineCuts_off (by rw [h]; decide)]
    · rw [strandLine_off h]
      have := (lineEnter_cuts k .off (d.setLine k (d.line k).cleared)).1
      rw [(lineCuts_setLine (k := k) (d := d) (l := (d.line k).cleared) rfl).1] at this
      simpa using this
  · rw [if_neg ha]
    by_cases h : (d.line k).st.starts a = true
    · rw [strandLine_start ha h]
      refine (linePrecheck_quiet false ?_).1
      rw [Dev.line_setLine, if_pos rfl]
      unfold LineSt.starts at h
      change (d.line k).st ≠ _
      intro hon
      rw [hon] at h
      split at h <;> simp at h
    · rw [strandLine_stays ha h]

theorem strandLine_strand (k a j : Nat) (d : Dev) : (strandLine k a d).strand j =
    if j = k ∧ a = 0 ∧ (d.line k).st = .on then (d.strand k).cut d.cycleNow else d.strand j := by
  have h : (strandLine k a d).strand j = tget Strand.reset (strandLine k a d).strands j := rfl
  rw [h, strandLine_strands]
  by_cases ha : a = 0
  · rw [if_pos ha]
    refine (lineCuts_strand k j d).trans ?_
    simp [ha]
  · rw [if_neg ha, if_neg (by simp [ha])]
    rfl

/-! ### The strands that the command names -/

/-- What a STRAND_LINE does to the strands that it names. -/
def Cmd.switchLines (c : Cmd) (d : Dev) : Dev :=
  ((List.range c.count).map (fun i => c.index + i)).foldl (fun d k => strandLine k (c.word 0).toNat d) d

theorem Cmd.switchLines_eq (c : Cmd) (d : Dev) : c.switchLines d =
    (List.range c.count).foldl (fun d i => strandLine (c.index + i) (c.word 0).toNat d) d := List.foldl_map

theorem Cmd.switchLines_movesLines (c : Cmd) (d : Dev) : d.movesLines (c.switchLines d) :=
  foldl_movesLines (fun _ _ => Dev.movesLines_of_movesLine (strandLine_movesLine ..)) _ d

theorem Cmd.switchLines_named (c : Cmd) (d : Dev) {i : Nat} (hi : i < c.count) :
    (c.switchLines d).line (c.index + i) = (d.line (c.index + i)).switched (c.word 0).toNat ∧
      (c.switchLines d).strand (c.index + i) = if (c.word 0).toNat = 0 ∧ (d.line (c.index + i)).st = .on then
        (d.strand (c.index + i)).cut d.cycleNow else d.strand (c.index + i) := by
  obtain ⟨-, h⟩ := foldl_range_get (fun d i => (Dev.line d (c.index + i), Dev.strand d (c.index + i)))
    (fun d i => strandLine (c.index + i) (c.word 0).toNat d)
    (fun _ x => (x.1.switched (c.word 0).toNat,
      if (c.word 0).toNat = 0 ∧ x.1.st = .on then x.2.cut d.cycleNow else x.2)) (fun e => e.cycleNow = d.cycleNow)
    (fun e k he => by
      refine Eq.trans ?_ he
      obtain ⟨-, hd⟩ := Dev.movesLines_of_movesLine (strandLine_movesLine (c.index + k) (c.word 0).toNat e)
      unfold Dev.cycleNow
      rw [hd]
      rfl)
    (fun e k he => by
      dsimp only
      rw [strandLine_line, strandLine_strand, he]
      simp)
    (fun e k m _ hm => by
      rw [(strandLine_movesLine ..).2.1 _ (by omega), strandLine_strand, if_neg (by omega)]) c.count (c := d) rfl
  have hi' := (h i).trans (if_pos hi)
  rw [← Cmd.switchLines_eq] at hi'
  exact Prod.mk.inj hi'

theorem Cmd.switchLines_other (c : Cmd) (d : Dev) {k : Nat} (hk : ¬ ∃ i < c.count, k = c.index + i) :
    (c.switchLines d).line k = d.line k ∧ (c.switchLines d).strand k = d.strand k := by
  rw [Cmd.switchLines_eq]
  have hmem : ∀ i ∈ List.range c.count, k ≠ c.index + i := fun i hi he => hk ⟨i, List.mem_range.mp hi, he⟩
  clear hk
  generalize List.range c.count = is at hmem
  induction is generalizing d with
  | nil => exact ⟨rfl, rfl⟩
  | cons i is ih =>
    have hne := hmem i List.mem_cons_self
    obtain ⟨h1, h2⟩ := ih (strandLine (c.index + i) (c.word 0).toNat d) (fun j hj => hmem j (List.mem_cons_of_mem _ hj))
    rw [List.foldl_cons, h1, h2, (strandLine_movesLine ..).2.1 _ hne, strandLine_strand, if_neg (by simp [hne])]
    exact ⟨rfl, rfl⟩

/-- Only OFF touches the strands. -/
theorem Cmd.switchLines_quiet (c : Cmd) (d : Dev) (ha : (c.word 0).toNat ≠ 0) : (c.switchLines d).strands = d.strands := by
  rw [Cmd.switchLines_eq]
  generalize List.range c.count = is
  induction is generalizing d with
  | nil => rfl
  | cons i is ih => rw [List.foldl_cons, ih, strandLine_strands, if_neg ha]

/-- A notice to the twin goes out, and nothing else. -/
theorem relayLine_out (ks : List Nat) (a : Nat) (d : Dev) : ∃ out, relayLine ks a d = { d with out := out } := by
  unfold relayLine plyNotice plySend Dev.emit
  split
  · dsimp only
    split
    · exact ⟨d.out, rfl⟩
    · exact ⟨_, rfl⟩
  · exact ⟨d.out, rfl⟩

theorem operationEffect_strandLine {c : Cmd} (h : c.opcode = 0x11) (d : Dev) : operationEffect c d =
    relayLine ((List.range c.count).map (fun i => c.index + i)) (c.word 0).toNat (oneCycle c.switchLines d) := by
  unfold operationEffect
  rw [h]
  rfl

/-- The effect of a STRAND_LINE: its strands move as from the module with some recorder, and word goes to the twin. -/
theorem operationEffect_strandLine_moves {c : Cmd} (h : c.opcode = 0x11) (d : Dev) :
    d.movesLines (operationEffect c d) ∧ ∃ r, (operationEffect c d).lines = (c.switchLines (d.recorded r)).lines ∧
      (operationEffect c d).strands = (c.switchLines (d.recorded r)).strands := by
  rw [operationEffect_strandLine h]
  obtain ⟨out, ho⟩ := relayLine_out ((List.range c.count).map (fun i => c.index + i)) (c.word 0).toNat
    (oneCycle c.switchLines d)
  obtain ⟨r, h1, h2, -⟩ := oneCycle_lines c.switchLines d
  obtain ⟨hr, he⟩ := oneCycle_movesLines c.switchLines_movesLines d
  rw [ho]
  exact ⟨⟨Dev.reportsTo_congr hr rfl rfl rfl, by rw [he]⟩, r, h1, h2⟩

/-- With the keep bits 0 the action is the whole word. -/
theorem Cmd.action_word {c : Cmd} (hop : c.opcode = 0x11) (h : checkPayload c = none) :
    (c.word 0).toNat = (fld (c.word 0) 0 2).toNat := by
  have hk : (c.word 0 >>> 2) = 0 := by
    unfold checkPayload at h
    rw [if_neg (c := c.opcode = 0x12 ∧ _) (by rw [hop]; simp)] at h
    have hk : checkKeep c = none := by
      split at h
      · exact absurd h (by simp)
      · exact h
    unfold checkKeep at hk
    rw [hop] at hk
    simpa using hk
  have hlt : (c.word 0).toNat < 4 := by
    have := congrArg BitVec.toNat hk
    rw [BitVec.toNat_ushiftRight, Nat.shiftRight_eq_div_pow] at this
    have h0 : (0 : BitVec 32).toNat = 0 := rfl
    rw [h0] at this
    omega
  simp only [fld, BitVec.extractLsb'_toNat, Nat.shiftRight_zero]
  omega

/-- The strands are switched, and the command completes. -/
theorem linesSwitched_of {c : Cmd} {s : State} {x y : CmdState} (ram : Nat → Byte)
    (happ : c.applies (s.dev.fresh0.withCp y)) (hop : c.opcode = 0x11) (hpay : checkPayload c = none)
    (hx : x.slots = (memberEnd c (memberEffect ram c (s.dev.fresh0.withCp y))).cp.slots) :
    linesSwitched c s (s.after ((memberEnd c (memberEffect ram c (s.dev.fresh0.withCp y))).withCp x)) := by
  rw [memberEffect_operation (by rw [hop]; rfl) (by rw [hop]; decide)] at hx ⊢
  obtain ⟨⟨hr, hd⟩, r, hlines, hstrands⟩ := operationEffect_strandLine_moves hop (s.dev.fresh0.withCp y)
  generalize operationEffect c (s.dev.fresh0.withCp y) = e at hr hd hlines hstrands hx ⊢
  have happ' : c.applies e := Cmd.applies_congr happ (by rw [hd])
  obtain ⟨hcpx, -, -, hln, hst, -⟩ := State.after_memberEnd (s := s) (x := x) happ'
  obtain ⟨hdone, hframe⟩ := Cmd.completes_of (s := s) (x := x)
    (b := { s.dev with lines := e.lines, strands := e.strands }) happ' (by rw [hd]; rfl)
    (Dev.reportsTo_congr hr rfl rfl rfl) rfl hx
  have hnamed := fun {i} hi => c.switchLines_named ((s.dev.fresh0.withCp y).recorded r) (i := i) hi
  have hother := fun {k} hk => c.switchLines_other ((s.dev.fresh0.withCp y).recorded r) (k := k) hk
  have hquiet := c.switchLines_quiet ((s.dev.fresh0.withCp y).recorded r)
  generalize s.after ((memberEnd c e).withCp x) = t at hcpx hln hst hdone hframe ⊢
  rw [hlines] at hln
  rw [hstrands] at hst
  have hl (k : Nat) : t.dev.line k = (c.switchLines ((s.dev.fresh0.withCp y).recorded r)).line k := by
    unfold Dev.line
    rw [hln]
  have hs (k : Nat) : t.dev.strand k = (c.switchLines ((s.dev.fresh0.withCp y).recorded r)).strand k := by
    unfold Dev.strand
    rw [hst]
  rw [← hst] at hquiet
  have hact := c.action_word hop hpay
  unfold linesSwitched
  dsimp only
  refine ⟨hdone, fun k hk => (hl k).trans (hother hk).1, fun k hk => (hs k).trans (hother hk).2, fun k => ?_, ?_, ?_, ?_, ?_⟩
  · rw [hs]
    by_cases hk : ∃ i < c.count, k = c.index + i
    · obtain ⟨i, hi, rfl⟩ := hk
      rw [(hnamed hi).2]
      split <;> rfl
    · rw [(hother hk).2]
      rfl
  · rw [hcpx, hln, hst, ← hlines, ← hstrands]
    exact hframe
  · rintro ha k ⟨i, hi, rfl⟩
    have h0 : (c.word 0).toNat = 0 := by rw [hact, ha]; rfl
    rw [hl, hs, (hnamed hi).1, (hnamed hi).2, h0]
    change ((s.dev.line _).switched 0).st = _ ∧ (_ → ((s.dev.line _).switched 0).gate = _ ∧ ((s.dev.line _).switched 0).failCnt = _) ∧ _
    unfold Line.switched
    rw [if_pos rfl]
    refine ⟨?_, fun h => ?_, fun cy hon hcy => ?_⟩
    · split
      · assumption
      · rfl
    · rw [if_neg h]
      exact ⟨rfl, by simp [Line.calm, Line.enter, Line.cleared]⟩
    · rw [if_pos ⟨rfl, hon⟩]
      change ((s.dev.strand _).cut s.dev.cycleNow).cycle = _
      unfold Strand.cut
      rw [hcy]
      rfl
  · intro ha
    have h1 : (c.word 0).toNat = 1 := by rw [hact, ha]; rfl
    refine ⟨hquiet (by omega), ?_⟩
    rintro k ⟨i, hi, rfl⟩
    rw [hl, (hnamed hi).1, h1]
    change (_ → ((s.dev.line _).switched 1).st = _ ∧ ((s.dev.line _).switched 1).failCnt = _) ∧
      (_ → (s.dev.line _).switched 1 = _)
    unfold Line.switched LineSt.starts
    simp +contextual [Line.enter, Line.cleared]
  · intro ha
    have h2 : (c.word 0).toNat = 2 := by rw [hact, ha]; rfl
    refine ⟨hquiet (by omega), ?_⟩
    rintro k ⟨i, hi, rfl⟩
    rw [hl, (hnamed hi).1, h2]
    change (_ → ((s.dev.line _).switched 2).st = _ ∧ ((s.dev.line _).switched 2).failCnt = _) ∧
      (_ → (s.dev.line _).switched 2 = _)
    unfold Line.switched LineSt.starts
    refine ⟨fun h => ?_, fun h => ?_⟩
    · rcases h with h | h | h <;> simp [Line.enter, Line.cleared, h]
    · rcases h with h | h | h <;> simp [h]

/-- Checks 9 to 16 pass one by one. -/
theorem checkAll_none {c : Cmd} {inF : Bool} {d : Dev} (h : checkAll c inF d = none) :
    checkOpcode c d = none ∧ checkIndex c d = none ∧ checkPayload c = none ∧ checkRights c d = none := by
  unfold checkAll at h
  simp only [Option.or_eq_none_iff] at h
  exact ⟨h.1.1.2, h.1.2, h.2.1, h.2.2⟩

/-- Settles O14: each action as one command alone. -/
theorem strandLineCommands : Obligations.StrandLineCommands := by
  intro s c hs h hop
  have happ : c.applies (s.dev.fresh0.withCp s.dev.cp) := Cmd.runnable_applies h
  obtain ⟨-, -, hpay, -⟩ := checkAll_none h.2.2.2
  have hact := c.action_word hop hpay
  have run {i : Instr} {a : Nat} (ha : (fld (c.word 0) 0 2).toNat = a)
      (hx : exec i s = checked i (mainStepR (execCommand (cmdLine a) c.ch c.tag) s))
      (hi : i.wellFormed = decide (c.ch ≤ 64 ∧ c.tag < 128)) : Runs i s (linesSwitched c s) := by
    refine Cmd.runnable_runs_plain hs h hx hi (by simp [cmdLine, hop, ← hact, ← ha]) (by rw [hop]; decide)
      (by rw [hop]; decide) ?_
    rintro e rfl
    exact linesSwitched_of _ happ hop hpay rfl
  exact ⟨fun ha => run (by rw [ha]; rfl) rfl rfl, fun ha => run (by rw [ha]; rfl) rfl rfl,
    fun ha => run (by rw [ha]; rfl) rfl rfl⟩

end Sys2Proof.Machine
end

section
/-!
O19 says that a WRITE_REG of FAULT_SUM leaves the bits that it does not name, where every subscription stands as its rights
are. The change of rights that ends the write goes through the table of the subscriptions and acts on every enabled item
that is listed (as in the refutation of O10): a state may list a number twice, and then the write reports a revocation,
whose record overwrites one that the recorder has not copied, which is a fault of its own (R472).
-/
namespace Sys2Proof.Machine

/-- A WRITE_REG that clears bit 1 of FAULT_SUM, on channel 0. -/
def clearFault : Cmd := { writeCmd 0 0x0D 0xF0 0x0044 4 2 with stage := .waiting }

/-- A running module in which that command waits. Subscription entry 1, of partition 5, is listed twice: first the entry
itself, which is not enabled, then an enabled item. The recorder selects the events of the point store, is full, and its
oldest record is not yet copied. -/
def fullRecorder : State := { State.reset with dev := { Dev.reset with
  pwr := { Dev.reset.pwr with main := .running }
  ps := { Dev.reset.ps with subs := [(1, Sub.reset), (1, { Sub.reset with en := true })] }
  rcd := { Dev.reset.rcd with cfg := 0x20, stored := 32768, next := 32768, copied := 0 }
  cp := { Dev.reset.cp with slots := [clearFault] } } }

theorem fullRecorder_up : fullRecorder.up := by decide +kernel

theorem clearFault_waits : clearFault.waitsAlone fullRecorder := by decide +kernel

theorem clearFault_admissible : clearFault.admissible fullRecorder :=
  ⟨.inl (by decide +kernel), by decide +kernel, fun _ => by decide +kernel, by decide +kernel, by decide +kernel⟩

/-- None of its entries is enabled. -/
theorem fullRecorder_sub (e : Nat) : fullRecorder.dev.sub e = Sub.reset := by
  by_cases h : e = 1
  · rw [h]
    rfl
  · change (if 1 = e then Sub.reset else if 1 = e then { Sub.reset with en := true } else Sub.reset) = Sub.reset
    rw [if_neg (Ne.symm h), if_neg (Ne.symm h)]

/-- The state in which the command is queued. -/
def faultQueued : State := fullRecorder.after (execCommand (fun c => c.opcode == 0x0D) 0 0
  (Memory.read fullRecorder.sram) fullRecorder.dev.fresh0)

/-- Phase F sets bit 12 of FAULT_SUM. -/
theorem faultQueued_overwrites : bit (regRead faultQueued.phaseF.dev.projected 0x0044 faultQueued.phaseF.dev) 12 = true ∧
    bit (regRead faultQueued.dev.projected 0x0044 faultQueued.dev) 12 = false := by decide +kernel

/-- Refutes O19: a write of FAULT_SUM that clears bit 1 leaves bit 12 set, which was clear. -/
theorem not_configurationCommands : ¬ Obligations.ConfigurationCommands := by
  intro h
  obtain ⟨t, ht, hq, hrun⟩ := h fullRecorder clearFault (.writeReg 0 0) fullRecorder_up clearFault_waits (by
    unfold Cmd.executedBy
    decide +kernel) clearFault_admissible
  have hx : exec (.writeReg 0 0) fullRecorder = .next faultQueued :=
    mainStep_up (execCommand (fun c => c.opcode == 0x0D) 0 0 (Memory.read fullRecorder.sram)) fullRecorder fullRecorder_up
  obtain rfl : faultQueued = t := Host.Outcome.next.inj (hx.symm.trans ht)
  obtain ⟨hcfg, -⟩ := hrun (by decide +kernel) (by decide +kernel) (by decide +kernel) (by decide +kernel) (by decide +kernel)
  obtain ⟨-, -, hreg⟩ := hcfg (by decide +kernel) (fun _ => by decide +kernel)
  obtain ⟨-, hw1c, -⟩ := hreg (by decide +kernel) (by decide +kernel)
  have hsettled : faultQueued.dev.rightsSettled := fun e he => by
    obtain ⟨-, -, -, hsil⟩ := hq
    unfold State.silent at hsil
    have hps : faultQueued.dev.sub e = fullRecorder.dev.sub e := by rw [hsil]; rfl
    rw [hps, fullRecorder_sub] at he
    exact absurd he nofun
  have hbit := congrArg (bit · 12) (hw1c hsettled)
  simp only [bit_and] at hbit
  have hidx : clearFault.index = 0x0044 := by decide +kernel
  rw [hidx, faultQueued_overwrites.1, faultQueued_overwrites.2] at hbit
  exact absurd hbit (by decide +kernel)

end Sys2Proof.Machine
end

section
/-!
O20 says that each member of a group that passes ends with OK, but for a read, a TIME_SET and a restart. The members of a
group are those of its commands that are waiting, admitted or replying; a state may hold a NOP that is replying, and such a
member is left as it is.
-/
namespace Sys2Proof.Machine

/-- A NOP of channel 0 in a group of two, with its position as its tag and its SEQ. -/
def nopMember (pos : Nat) (stage : CmdStage) : Cmd where
  ch := 0
  hdr := put 256 128 (BitVec.ofNat 64 pos) ||| put 256 120 2#8 ||| put 256 112 (BitVec.ofNat 8 pos) |||
    put 256 16 (BitVec.ofNat 8 pos) ||| putB 256 12 true
  payload := []
  stage := stage
  arrived := 0
  ready := none
  taken := []

/-- A group of which the first member waits and the second is replying. -/
def halfReplying : State := { State.reset with dev := { Dev.reset with
  cp := { Dev.reset.cp with slots := [nopMember 0 .waiting, nopMember 1 .replying] } } }

theorem halfReplying_members : halfReplying.dev.members (nopMember 0 .waiting) =
    [nopMember 0 .waiting, nopMember 1 .replying] := by decide +kernel

theorem halfReplying_passes : checkMembers false [nopMember 0 .waiting, nopMember 1 .replying] halfReplying.dev =
    ([(nopMember 0 .waiting, none), (nopMember 1 .replying, none)], halfReplying.dev) := by rfl

/-- The second member stays. -/
theorem halfReplying_stays : ((execCommand (fun _ => true) 0 0 (Memory.read halfReplying.sram) halfReplying.dev).slot 0 1).map
    (·.stage) = some .replying := by decide +kernel

/-- Refutes O20: the second member of a group that passes, a NOP, does not end. -/
theorem not_failuresHaveNoEffect : ¬ Obligations.FailuresHaveNoEffect := by
  intro h
  obtain ⟨-, -, -, hgroup⟩ := h
  have hrun := hgroup halfReplying (nopMember 0 .waiting) (fun _ => true) (by decide +kernel) rfl (by decide +kernel) rfl
    (by rw [halfReplying_members]; decide +kernel) (by rw [halfReplying_members]; decide +kernel)
    (by rw [halfReplying_members]; decide +kernel) (by rw [halfReplying_members]; decide +kernel)
    (by rw [halfReplying_members]; decide +kernel) (by rw [halfReplying_members]; decide +kernel)
    (by rw [halfReplying_members]; exact halfReplying_passes)
  obtain ⟨-, hends⟩ := hrun
  have hmem : nopMember 1 .replying ∈ halfReplying.dev.members (nopMember 0 .waiting) := by
    rw [halfReplying_members]
    exact List.mem_cons_of_mem _ List.mem_cons_self
  have hfin := (hends _ hmem (by decide +kernel) (by decide +kernel)).2 (by decide +kernel)
  exact absurd (halfReplying_stays.symm.trans hfin) (by decide)

end Sys2Proof.Machine
end

section
/-!
HART_SEND and TIME_SET (R156, R157, R492).
-/
namespace Sys2Proof.Machine

theorem operationEffect_hartSend {c : Cmd} (h : c.opcode = 0x12) (d : Dev) :
    operationEffect c d = hartSend c.index (c.payload.take (12 + c.hartLen)) d := by
  unfold operationEffect
  rw [h]
  rfl

theorem Dev.cloop_hartSend (k j : Nat) (req : List Byte) (d : Dev) : (hartSend k req d).cloop j =
    if j = k then { d.cloop k with req := req, mbState := .pending } else d.cloop j := tget_tset ..

/-- The request waits in its mailbox, and the command completes. -/
theorem requestPosted_of {c : Cmd} {s : State} {x y : CmdState} (ram : Nat → Byte)
    (happ : c.applies (s.dev.fresh0.withCp y)) (hop : c.opcode = 0x12)
    (hx : x.slots = (memberEnd c (memberEffect ram c (s.dev.fresh0.withCp y))).cp.slots) :
    requestPosted c s (s.after ((memberEnd c (memberEffect ram c (s.dev.fresh0.withCp y))).withCp x)) := by
  rw [memberEffect_operation (by rw [hop]; rfl) (by rw [hop]; decide), operationEffect_hartSend hop] at hx ⊢
  have hloop (j : Nat) := Dev.cloop_hartSend c.index j (c.payload.take (12 + c.hartLen)) (s.dev.fresh0.withCp y)
  have hd : hartSend c.index (c.payload.take (12 + c.hartLen)) (s.dev.fresh0.withCp y) = { s.dev.fresh0.withCp y with
    cl := (hartSend c.index (c.payload.take (12 + c.hartLen)) (s.dev.fresh0.withCp y)).cl } := rfl
  generalize hartSend c.index (c.payload.take (12 + c.hartLen)) (s.dev.fresh0.withCp y) = e at hloop hd hx ⊢
  have happ' : c.applies e := Cmd.applies_congr happ (by rw [hd])
  obtain ⟨hcpx, -, -, -, -, hcl, -⟩ := State.after_memberEnd (s := s) (x := x) happ'
  obtain ⟨hdone, hframe⟩ := Cmd.completes_of (s := s) (x := x) (b := { s.dev with cl := e.cl }) happ'
    (by rw [hd]; rfl) (Dev.reportsTo_of_eq (by rw [hd]; rfl) (by rw [hd]; rfl) (by rw [hd]; rfl)) rfl hx
  generalize s.after ((memberEnd c e).withCp x) = t at hcpx hcl hdone hframe ⊢
  have hk (j : Nat) : t.dev.cloop j = e.cloop j := by
    unfold Dev.cloop
    rw [hcl]
  refine ⟨hdone, ?_, fun k hk' => ?_, ?_⟩
  · rw [hk, hloop, if_pos rfl]
    rfl
  · rw [hk, hloop, if_neg hk']
    rfl
  · rw [hcpx, hcl]
    exact hframe

/-- The effect of a TIME_SET: its time waits, and its command with it. -/
theorem memberEffect_timeSet {c : Cmd} (h : c.opcode = 0x13) (ram : Nat → Byte) (d : Dev) : memberEffect ram c d =
    (timeSetExec c.ch c.tag c.seq (c.timeMode == 1) c.calTime d).setSlot
      (c.goesOn (timeSetExec c.ch c.tag c.seq (c.timeMode == 1) c.calTime d)) := by
  have hr : c.isRead = false := by
    unfold Cmd.isRead
    rw [h]
    rfl
  have he : operationEffect c d = timeSetExec c.ch c.tag c.seq (c.timeMode == 1) c.calTime d := by
    unfold operationEffect
    rw [h]
    rfl
  unfold memberEffect
  rw [hr, he]
  exact if_pos h

/-- The time waits for the next RTC count, and the command with it. -/
theorem timeAccepted_of {c : Cmd} {s : State} {x y : CmdState} (ram : Nat → Byte)
    (happ : c.applies (s.dev.fresh0.withCp y)) (hop : c.opcode = 0x13)
    (hx : x.slots = (memberEnd c (memberEffect ram c (s.dev.fresh0.withCp y))).cp.slots) :
    timeAccepted c s (s.after ((memberEnd c (memberEffect ram c (s.dev.fresh0.withCp y))).withCp x)) := by
  rw [memberEffect_timeSet hop] at hx ⊢
  have hslot : (((timeSetExec c.ch c.tag c.seq (c.timeMode == 1) c.calTime (s.dev.fresh0.withCp y)).setSlot
      (c.goesOn (timeSetExec c.ch c.tag c.seq (c.timeMode == 1) c.calTime (s.dev.fresh0.withCp y)))).slot c.ch c.tag).map
      (·.stage) = some .replying := by
    have hown : (timeSetExec c.ch c.tag c.seq (c.timeMode == 1) c.calTime (s.dev.fresh0.withCp y)).slot c.ch c.tag = some c :=
      happ.1
    rw [Dev.slot_setSlot, if_pos ⟨rfl, rfl⟩, hown]
    rfl
  rw [memberEnd_replying hslot] at hx ⊢
  have hd : (timeSetExec c.ch c.tag c.seq (c.timeMode == 1) c.calTime (s.dev.fresh0.withCp y)).setSlot
      (c.goesOn (timeSetExec c.ch c.tag c.seq (c.timeMode == 1) c.calTime (s.dev.fresh0.withCp y))) =
    { s.dev.fresh0 with
      cp := ((timeSetExec c.ch c.tag c.seq (c.timeMode == 1) c.calTime (s.dev.fresh0.withCp y)).setSlot
        (c.goesOn (timeSetExec c.ch c.tag c.seq (c.timeMode == 1) c.calTime (s.dev.fresh0.withCp y)))).cp
      bk := { s.dev.bk with
        timeSet := s.dev.bk.timeSet ++ [⟨c.ch, c.tag, c.seq, c.timeMode == 1, c.calTime, false⟩] } } := rfl
  generalize (timeSetExec c.ch c.tag c.seq (c.timeMode == 1) c.calTime (s.dev.fresh0.withCp y)).setSlot
      (c.goesOn (timeSetExec c.ch c.tag c.seq (c.timeMode == 1) c.calTime (s.dev.fresh0.withCp y))) = e at hd hslot hx ⊢
  obtain ⟨-, -, hcp, -, -, -, -, -, -, -, -, -, -, -, -, -, -, -, -, -, -, -, hbk, -⟩ := State.after_dev s (e.withCp x)
  refine ⟨?_, ?_, ?_⟩
  · rw [Dev.slot_eq, hcp]
    change (slotIn c.ch c.tag x.slots).map _ = _
    rw [hx]
    exact hslot
  · rw [hbk]
    change e.bk = _
    rw [hd]
  · rw [hcp, hbk]
    refine State.silent_of_eq ?_
    unfold Dev.withCp
    rw [hd]
    rfl

/-- Settles O15: each as one command alone. -/
theorem mailboxAndTimeCommands : Obligations.MailboxAndTimeCommands := by
  intro s c hs h
  have happ : c.applies (s.dev.fresh0.withCp s.dev.cp) := Cmd.runnable_applies h
  refine ⟨fun hop => ?_, fun hop hm => ?_, fun hop hm => ?_⟩
  · refine Cmd.runnable_runs_plain hs h rfl rfl (by simp [cmdOp, hop]) (by rw [hop]; decide) (by rw [hop]; decide) ?_
    rintro e rfl
    exact requestPosted_of _ happ hop rfl
  · refine Cmd.runnable_runs_plain hs h rfl rfl (by simp [cmdTime, hop, hm]) (by rw [hop]; decide) (by rw [hop]; decide) ?_
    rintro e rfl
    exact timeAccepted_of _ happ hop rfl
  · refine Cmd.runnable_runs_plain hs h rfl rfl (by simp [cmdTime, hop, hm]) (by rw [hop]; decide) (by rw [hop]; decide) ?_
    rintro e rfl
    exact timeAccepted_of _ happ hop rfl

end Sys2Proof.Machine
end

section
/-!
PLY_CONTROL (R158, R520, R534, R539).
-/
namespace Sys2Proof.Machine

/-- From `d` to `d'` the ply unit and strands have changed, beside what reports write and what goes out. -/
def Dev.movesPly (d d' : Dev) : Prop := d.reportsTo d' ∧ d' = { d with
  ply := d'.ply, lines := d'.lines, strands := d'.strands, out := d'.out, tr := d'.tr, rcd := d'.rcd, flt := d'.flt }

theorem Dev.movesPly_refl (d : Dev) : d.movesPly d := ⟨Dev.reportsTo_refl d, rfl⟩

theorem Dev.movesPly_trans {a b c : Dev} (h1 : a.movesPly b) (h2 : b.movesPly c) : a.movesPly c := by
  obtain ⟨hr, he⟩ := h1
  obtain ⟨hr', he'⟩ := h2
  exact ⟨Dev.reportsTo_trans hr hr', by rw [he', he]⟩

theorem Dev.movesPly_of_movesLines {d d' : Dev} (h : d.movesLines d') : d.movesPly d' := by
  obtain ⟨hr, he⟩ := h
  exact ⟨hr, by rw [he]⟩

theorem Dev.movesLines_of_reports {d d' : Dev} (ho : d.reportsOnly d') (ht : d.reportsTo d') : d.movesLines d' := by
  unfold Dev.reportsOnly at ho
  exact ⟨ht, by rw [ho]⟩

theorem report_movesLines (e : Event) (d : Dev) : d.movesLines (report e d) :=
  Dev.movesLines_of_reports (report_reportsOnly ..) (report_reportsTo ..)

theorem modPly_movesPly (f : Ply → Ply) (d : Dev) : d.movesPly (d.modPly f) := ⟨Dev.reportsTo_of_eq rfl rfl rfl, rfl⟩

theorem plyNotice_movesLines (code arg : Nat) (d : Dev) : d.movesLines (plyNotice code arg d) := by
  unfold plyNotice plySend Dev.emit
  dsimp only
  split
  · exact Dev.movesLines_refl d
  · exact ⟨Dev.reportsTo_of_eq rfl rfl rfl, rfl⟩

theorem plyReport_movesLines (code : Nat) (f : Bool) (data : Nat) (d : Dev) : d.movesLines (plyReport code f data d) :=
  report_movesLines ..

theorem Dev.ply_of_movesLines {d d' : Dev} (h : d.movesLines d') : d'.ply = d.ply := by rw [h.2]

theorem plyNotice_lines (code arg : Nat) (d : Dev) :
    (plyNotice code arg d).lines = d.lines ∧ (plyNotice code arg d).strands = d.strands := by
  unfold plyNotice plySend Dev.emit
  dsimp only
  split <;> exact ⟨rfl, rfl⟩

theorem plyReport_lines (code : Nat) (f : Bool) (data : Nat) (d : Dev) :
    (plyReport code f data d).lines = d.lines ∧ (plyReport code f data d).strands = d.strands := by
  have h := report_reportsOnly (plyEv code f data d) d
  unfold Dev.reportsOnly at h
  unfold plyReport
  rw [h]
  exact ⟨rfl, rfl⟩

theorem modPly_lines (f : Ply → Ply) (d : Dev) : (d.modPly f).lines = d.lines ∧ (d.modPly f).strands = d.strands := ⟨rfl, rfl⟩

theorem modPly_ply (f : Ply → Ply) (d : Dev) : (d.modPly f).ply = f d.ply := rfl

theorem Dev.strand_recorded (d : Dev) (r : Recorder) (k : Nat) : (d.recorded r).strand k = d.strand k := rfl

/-! ### UNPAIR -/

/-- Every strand is switched off. -/
def linesOff (d : Dev) : Dev := (List.range 16).foldl (fun d k => strandLine k 0 d) d

theorem linesOff_movesLines (d : Dev) : d.movesLines (linesOff d) :=
  foldl_movesLines (fun _ _ => Dev.movesLines_of_movesLine (strandLine_movesLine ..)) _ d

theorem Line.switched_off (l : Line) : (l.switched 0).st = .off := by
  unfold Line.switched
  rw [if_pos rfl]
  split
  · assumption
  · rfl

theorem linesOff_line (d : Dev) {k : Nat} (hk : k < 16) : ((linesOff d).line k).st = .off := by
  obtain ⟨-, h⟩ := foldl_range_get Dev.line (fun d k => strandLine k 0 d) (fun _ l => l.switched 0) (fun _ => True)
    (fun _ _ h => h) (fun e k _ => strandLine_line k 0 e)
    (fun e k m _ hm => (strandLine_movesLine k 0 e).2.1 m hm) 16 (c := d) trivial
  unfold linesOff
  rw [h k, if_pos hk]
  exact Line.switched_off _

theorem linesOff_strand (d : Dev) (k : Nat) :
    (linesOff d).strand k = { d.strand k with cycle := ((linesOff d).strand k).cycle } := by
  unfold linesOff
  generalize List.range 16 = ks
  induction ks generalizing d with
  | nil => rfl
  | cons j ks ih =>
    rw [List.foldl_cons, ih, strandLine_strand]
    split
    · next h =>
      obtain ⟨rfl, -⟩ := h
      rfl
    · rfl

/-- The ply unit in SOLO after UNPAIR (R520). -/
def Ply.unpaired (p : Ply) : Ply := { p with
  pairId := 0, twinState := .none, joinStep := 0, cutIn := none, sweep := none, giveupSeen := false, firstCopy := none
  lossRun := 0, lossCyc := [], conflict := false, by519 := false }

/-- The ply unit in a new role (R520). -/
def Ply.entered (p : Ply) (r : Role) (frame : W64) : Ply := { p with
  role := r, roleFrame := frame, roleCnt := p.roleCnt + 1, yieldAt := none, yieldAck := false, yieldTwin := false
  mismatchRun := 0, selfRun := [], suspectRun := [], suspectTold := [] }

theorem setRole_eq (r : Role) (cause : Nat) (d : Dev) : setRole r cause d =
    plyReport 0x0E03 false (d.ply.role.code + 16 * r.code + 256 * cause) (d.modPly (·.entered r d.tb.frame)) := rfl

theorem setRole_movesPly (r : Role) (cause : Nat) (d : Dev) : d.movesPly (setRole r cause d) := by
  rw [setRole_eq]
  exact Dev.movesPly_trans (modPly_movesPly ..) (Dev.movesPly_of_movesLines (plyReport_movesLines ..))

theorem setRole_ply (r : Role) (cause : Nat) (d : Dev) : (setRole r cause d).ply = d.ply.entered r d.tb.frame := by
  rw [setRole_eq, Dev.ply_of_movesLines (plyReport_movesLines ..)]
  rfl

theorem setRole_lines (r : Role) (cause : Nat) (d : Dev) :
    (setRole r cause d).lines = d.lines ∧ (setRole r cause d).strands = d.strands := by
  rw [setRole_eq]
  exact plyReport_lines ..

/-- The pair is left: the twin is told, and the module is SOLO. -/
def leavePair (d : Dev) : Dev := (setRole .solo 4 (plyReport 0x0E12 false 0 (plyNotice 5 0 d))).modPly Ply.unpaired

theorem unpair_serving {d : Dev} (h1 : d.ply.role ≠ .dead) (h2 : d.ply.role ≠ .solo) :
    unpair d = if d.ply.role = .leading then leavePair d else oneCycle linesOff (leavePair d) := by
  unfold unpair
  split
  · next h => exact absurd h h1
  · next h => exact absurd h h2
  · rfl

theorem unpair_dead {d : Dev} (h : d.ply.role = .dead) : unpair d = d.modPly (fun p => { p with pairId := 0 }) := by
  unfold unpair
  rw [h]

theorem leavePair_movesPly (d : Dev) : d.movesPly (leavePair d) :=
  Dev.movesPly_trans (Dev.movesPly_trans (Dev.movesPly_of_movesLines
    (Dev.movesLines_trans (plyNotice_movesLines ..) (plyReport_movesLines ..))) (setRole_movesPly ..)) (modPly_movesPly ..)

theorem leavePair_ply (d : Dev) : (leavePair d).ply.pairId = 0 ∧ (leavePair d).ply.role = .solo ∧
    (leavePair d).ply.twinState = .none := by
  unfold leavePair
  rw [modPly_ply, setRole_ply]
  exact ⟨rfl, rfl, rfl⟩

theorem leavePair_lines (d : Dev) : (leavePair d).lines = d.lines ∧ (leavePair d).strands = d.strands := by
  obtain ⟨h1, h2⟩ := setRole_lines .solo 4 (plyReport 0x0E12 false 0 (plyNotice 5 0 d))
  obtain ⟨h3, h4⟩ := plyReport_lines 0x0E12 false 0 (plyNotice 5 0 d)
  obtain ⟨h5, h6⟩ := plyNotice_lines 5 0 d
  unfold leavePair
  rw [(modPly_lines ..).1, (modPly_lines ..).2]
  exact ⟨h1.trans (h3.trans h5), h2.trans (h4.trans h6)⟩

/-- What UNPAIR leaves (R520). -/
theorem unpair_holds {d : Dev} (hs : d.ply.role ≠ .solo) :
    d.movesPly (unpair d) ∧ (unpair d).ply.pairId = 0 ∧ (d.ply.role = .dead → (unpair d).ply.role = .dead) ∧
      (d.ply.role ≠ .dead → (unpair d).ply.role = .solo ∧ (unpair d).ply.twinState = .none) ∧
      (d.ply.role = .leading ∨ d.ply.role = .dead → (unpair d).lines = d.lines ∧ (unpair d).strands = d.strands) ∧
      (d.ply.role = .trailing ∨ d.ply.role = .joining → ∀ k < 16, ((unpair d).line k).st = .off) ∧
      ∀ k, (unpair d).strand k = { d.strand k with cycle := ((unpair d).strand k).cycle } := by
  by_cases hd : d.ply.role = .dead
  · rw [unpair_dead hd]
    refine ⟨modPly_movesPly .., rfl, fun _ => hd, fun h => absurd hd h, fun _ => ⟨rfl, rfl⟩, fun h => ?_, fun _ => rfl⟩
    rw [hd] at h
    exact absurd h (by decide)
  · obtain ⟨hp, hr, ht⟩ := leavePair_ply d
    obtain ⟨hl, hst⟩ := leavePair_lines d
    have hsk (k : Nat) : (leavePair d).strand k = d.strand k := by
      unfold Dev.strand
      rw [hst]
    rw [unpair_serving hd hs]
    by_cases hlead : d.ply.role = .leading
    · rw [if_pos hlead]
      refine ⟨leavePair_movesPly d, hp, fun h => absurd h hd, fun _ => ⟨hr, ht⟩, fun _ => ⟨hl, hst⟩, fun h => ?_, fun k => ?_⟩
      · rw [hlead] at h
        exact absurd h (by decide)
      · rw [hsk]
    · rw [if_neg hlead]
      have hmoves := oneCycle_movesLines linesOff_movesLines (leavePair d)
      have hply := Dev.ply_of_movesLines hmoves
      obtain ⟨x, hx1, hx2, -⟩ := oneCycle_lines linesOff (leavePair d)
      rw [hply]
      refine ⟨Dev.movesPly_trans (leavePair_movesPly d) (Dev.movesPly_of_movesLines hmoves), hp, fun h => absurd h hd,
        fun _ => ⟨hr, ht⟩, fun h => ?_, fun _ k hk => ?_, fun k => ?_⟩
      · rcases h with h | h
        · exact absurd h hlead
        · exact absurd h hd
      · have hline : (oneCycle linesOff (leavePair d)).line k = (linesOff ((leavePair d).recorded x)).line k := by
          unfold Dev.line
          rw [hx1]
        rw [hline]
        exact linesOff_line _ hk
      · have hstr : (oneCycle linesOff (leavePair d)).strand k = (linesOff ((leavePair d).recorded x)).strand k := by
          unfold Dev.strand
          rw [hx2]
        rw [hstr]
        have hcut := linesOff_strand ((leavePair d).recorded x) k
        rw [Dev.strand_recorded, hsk] at hcut
        exact hcut

/-! ### The four actions -/

theorem operationEffect_ply {c : Cmd} (h : c.opcode = 0x20) (d : Dev) : operationEffect c d = plyControl c d := by
  unfold operationEffect
  rw [h]
  rfl

theorem plyControl_eq {c : Cmd} (d : Dev) : plyControl c d =
    if c.plyAction = 1 then pair (c.word 1) d else if c.plyAction = 2 then unpair d
    else if c.plyAction = 3 then yieldStart d else retry d := by
  unfold plyControl
  split
  · next h => rw [h]; rfl
  · next h => rw [h]; rfl
  · next h => rw [h]; rfl
  · next h1 h2 h3 => rw [if_neg h1, if_neg h2, if_neg h3]

theorem yieldStart_movesPly (d : Dev) : d.movesPly (yieldStart d) :=
  Dev.movesPly_trans (Dev.movesPly_of_movesLines (plyNotice_movesLines ..)) (modPly_movesPly ..)

/-- Where no strand has moved, a change of the ply unit is that alone. -/
theorem Dev.eq_of_movesPly {d d' : Dev} (h : d.movesPly d') (hl : d'.lines = d.lines) (hs : d'.strands = d.strands) :
    d' = { d with ply := d'.ply, out := d'.out, tr := d'.tr, rcd := d'.rcd, flt := d'.flt } := by
  have he := h.2
  rw [hl, hs] at he
  exact he

/-- A PLY_CONTROL is carried out, and the command completes. -/
theorem pairControlled_of {c : Cmd} {s : State} {x y : CmdState} (ram : Nat → Byte)
    (happ : c.applies (s.dev.fresh0.withCp y)) (hop : c.opcode = 0x20) (hok : c.plyAction = 2 → s.dev.ply.role ≠ .solo)
    (hx : x.slots = (memberEnd c (memberEffect ram c (s.dev.fresh0.withCp y))).cp.slots) :
    pairControlled c s (s.after ((memberEnd c (memberEffect ram c (s.dev.fresh0.withCp y))).withCp x)) := by
  rw [memberEffect_operation (by rw [hop]; rfl) (by rw [hop]; decide), operationEffect_ply hop] at hx ⊢
  have hmoves : (s.dev.fresh0.withCp y).movesPly (plyControl c (s.dev.fresh0.withCp y)) := by
    rw [plyControl_eq]
    split
    · exact modPly_movesPly ..
    · split
      · next h => exact (unpair_holds (d := s.dev.fresh0.withCp y) (hok h)).1
      · split
        · exact yieldStart_movesPly _
        · exact modPly_movesPly ..
  have hpair (h : c.plyAction = 1) : plyControl c (s.dev.fresh0.withCp y) = pair (c.word 1) (s.dev.fresh0.withCp y) := by
    rw [plyControl_eq, if_pos h]
  have hunpair (h : c.plyAction = 2) : plyControl c (s.dev.fresh0.withCp y) = unpair (s.dev.fresh0.withCp y) := by
    rw [plyControl_eq, if_neg (by omega), if_pos h]
  have hyield (h : c.plyAction = 3) : plyControl c (s.dev.fresh0.withCp y) = yieldStart (s.dev.fresh0.withCp y) := by
    rw [plyControl_eq, if_neg (by omega), if_neg (by omega), if_pos h]
  have hretry (h : c.plyAction = 4) : plyControl c (s.dev.fresh0.withCp y) = retry (s.dev.fresh0.withCp y) := by
    rw [plyControl_eq, if_neg (by omega), if_neg (by omega), if_neg (by omega)]
  generalize plyControl c (s.dev.fresh0.withCp y) = e at hmoves hpair hunpair hyield hretry hx ⊢
  obtain ⟨hr, hd⟩ := id hmoves
  have happ' : c.applies e := Cmd.applies_congr happ (by rw [hd])
  obtain ⟨hcpx, -, hply, hln, hst, -⟩ := State.after_memberEnd (s := s) (x := x) happ'
  obtain ⟨hdone, hframe⟩ := Cmd.completes_of (s := s) (x := x)
    (b := { s.dev with ply := e.ply, lines := e.lines, strands := e.strands }) happ' (by rw [hd]; rfl)
    (Dev.reportsTo_congr hr rfl rfl rfl) rfl hx
  have hquiet (hl : e.lines = s.dev.lines) (hs' : e.strands = s.dev.strands) :
      s.frameCh (s.after ((memberEnd c e).withCp x)) c.ch { s.dev with cp := x, ply := e.ply } := by
    rw [hl, hs'] at hframe
    exact hframe
  generalize s.after ((memberEnd c e).withCp x) = t at hcpx hply hln hst hdone hframe hquiet ⊢
  have hl (k : Nat) : t.dev.line k = e.line k := by
    unfold Dev.line
    rw [hln]
  have hs' (k : Nat) : t.dev.strand k = e.strand k := by
    unfold Dev.strand
    rw [hst]
  unfold pairControlled
  rw [hply, hcpx, hln, hst]
  refine ⟨hdone, fun h => ?_, fun h => ?_, fun h => ?_, fun h => ?_⟩
  · have he := hpair h
    exact ⟨by rw [he]; rfl, hquiet (by rw [he]; rfl) (by rw [he]; rfl)⟩
  · obtain ⟨-, h1, h2, h3, h4, h5, h6⟩ := unpair_holds (d := s.dev.fresh0.withCp y) (hok h)
    rw [← hunpair h] at h1 h2 h3 h4 h5 h6
    exact ⟨h1, h2, h3, h4, fun hr k hk => by rw [hl]; exact h5 hr k hk, fun k => by rw [hs']; exact h6 k, hframe⟩
  · have he := hyield h
    obtain ⟨n1, n2⟩ := plyNotice_lines 4 ((BitVec.ofNat 64 ((s.dev.tb.frame.toNat + 16 + 7) / 8 * 8)).toNat % 2 ^ 56)
      (s.dev.fresh0.withCp y)
    refine ⟨?_, hquiet (by rw [he]; exact n1) (by rw [he]; exact n2)⟩
    have hp := Dev.ply_of_movesLines (plyNotice_movesLines 4
      ((BitVec.ofNat 64 ((s.dev.tb.frame.toNat + 16 + 7) / 8 * 8)).toNat % 2 ^ 56) (s.dev.fresh0.withCp y))
    rw [he]
    unfold yieldStart Dev.modPly
    dsimp only
    rw [show (s.dev.fresh0.withCp y).tb = s.dev.tb from rfl, hp]
    rfl
  · have he := hretry h
    exact ⟨by rw [he]; rfl, hquiet (by rw [he]; rfl) (by rw [he]; rfl)⟩

/-- Check 16 lets no UNPAIR of a SOLO module pass (R158). -/
theorem Cmd.unpair_role {c : Cmd} {d : Dev} (hop : c.opcode = 0x20) (h : checkRights c d = none) (ha : c.plyAction = 2) :
    d.ply.role ≠ .solo := by
  intro hrole
  unfold checkRights at h
  rw [hop] at h
  have hfalse : plyActionOk c.plyAction d = false := by
    rw [ha]
    unfold plyActionOk
    rw [hrole]
    rfl
  dsimp only at h
  rw [hfalse] at h
  exact absurd h (by simp)

/-- Settles O16: each action as one command alone. -/
theorem plyControlCommands : Obligations.PlyControlCommands := by
  intro s c hs h hop
  have happ : c.applies (s.dev.fresh0.withCp s.dev.cp) := Cmd.runnable_applies h
  obtain ⟨-, -, -, hrights⟩ := checkAll_none h.2.2.2
  have run {i : Instr} {a : Nat} (hx : exec i s = checked i (mainStepR (execCommand (cmdPly a) c.ch c.tag) s))
      (hi : i.wellFormed = decide (c.ch ≤ 64 ∧ c.tag < 128)) (ha : cmdPly a c = true) : Runs i s (pairControlled c s) := by
    refine Cmd.runnable_runs_plain hs h hx hi ha (by rw [hop]; decide) (by rw [hop]; decide) ?_
    rintro e rfl
    exact pairControlled_of _ happ hop (Cmd.unpair_role (d := s.dev.fresh0) hop hrights) rfl
  exact ⟨fun ha => run (a := 1) rfl rfl (by simp [cmdPly, hop, ha]),
    fun ha => run (a := 2) rfl rfl (by simp [cmdPly, hop, ha]),
    fun ha => run (a := 3) rfl rfl (by simp [cmdPly, hop, ha]),
    fun ha => run (a := 4) rfl rfl (by simp [cmdPly, hop, ha])⟩

end Sys2Proof.Machine
end

section
/-!
UPDATE_BEGIN, UPDATE_DATA and UPDATE_END (R159, R160, R591).
-/
namespace Sys2Proof.Machine

theorem operationEffect_updateBegin {c : Cmd} (h : c.opcode = 0x30) (d : Dev) :
    operationEffect c d = updateBegin (c.word 0).toNat d := by
  unfold operationEffect
  rw [h]
  rfl

theorem operationEffect_updateData {c : Cmd} (h : c.opcode = 0x31) (d : Dev) :
    operationEffect c d = updateData c.index c.payload d := by
  unfold operationEffect
  rw [h]
  rfl

theorem operationEffect_updateEnd {c : Cmd} (h : c.opcode = 0x32) (d : Dev) : operationEffect c d = updateEnd d := by
  unfold operationEffect
  rw [h]
  rfl

/-- A piece put among pieces of which none answers a search is what the search finds. -/
theorem find_stageInsert {off : Nat} {bs : List Byte} {p : Nat × List Byte → Bool} (hp : p (off, bs) = true)
    (xs : List (Nat × List Byte)) (h : ∀ x ∈ xs, p x = false) : (stageInsert off bs xs).find? p = some (off, bs) := by
  induction xs with
  | nil => simp [stageInsert, hp]
  | cons x xs ih =>
    have hx : p (x.1, x.2) = false := h x List.mem_cons_self
    unfold stageInsert
    split
    · rw [List.find?_cons_of_pos hp]
    · rw [List.find?_cons_of_neg (by simp [hx])]
      exact ih (fun y hy => h y (List.mem_cons_of_mem _ hy))

/-- A new piece is read back where no older piece lies across it (R160). -/
theorem stageAt_stageInsert {off : Nat} {bs : List Byte} {xs : List (Nat × List Byte)}
    (h : xs.any (fun x => decide (x.1 < off + bs.length ∧ off < x.1 + x.2.length)) = false) {i : Nat} (hi : i < bs.length) :
    stageAt (stageInsert off bs xs) (off + i) = bs[i]? := by
  have hfree : ∀ x ∈ xs, decide (x.1 ≤ off + i ∧ off + i < x.1 + x.2.length) = false := fun x hx => by
    have := List.any_eq_false.mp h x hx
    simp only [decide_eq_true_eq, decide_eq_false_iff_not] at this ⊢
    omega
  unfold stageAt
  rw [find_stageInsert (by simp only [decide_eq_true_eq]; omega) xs hfree]
  simp [hi]

/-- A runnable command without a restart completes with its effect, which leaves `b` of the module. -/
theorem Cmd.runnable_completes {c : Cmd} {s : State} {e b : Dev} (h : c.runnable s) (hs : e.cp.slots = s.dev.cp.slots)
    (he : e = { b with cp := e.cp, tr := e.tr, rcd := e.rcd, flt := e.flt, wire := [], out := e.out, wr := e.wr })
    (hr : b.reportsTo e) (hb : b.tr = s.dev.tr) :
    c.completes s (s.after (memberEnd c e)) ∧
      s.frameCh (s.after (memberEnd c e)) c.ch { b with cp := (s.after (memberEnd c e)).dev.cp } := by
  have happ : c.applies e := Cmd.applies_congr (Cmd.runnable_applies h) hs
  obtain ⟨hdone, hframe⟩ := Cmd.completes_of (s := s) (x := (memberEnd c e).cp) happ he hr hb rfl
  rw [(State.after_dev ..).2.2.1]
  exact ⟨hdone, hframe⟩

/-- Settles O17: each as one command alone. -/
theorem updateCommands : Obligations.UpdateCommands := by
  intro s c hs h
  obtain ⟨-, -, -, hrights⟩ := checkAll_none h.2.2.2
  have run {i : Instr} {op : Nat} {f : Dev → Dev} (hop : c.opcode = op)
      (hx : exec i s = checked i (mainStepR (execCommand (cmdOp op) c.ch c.tag) s))
      (hi : i.wellFormed = decide (c.ch ≤ 64 ∧ c.tag < 128)) (hrow : (opRow op).all (fun r => r.kind != .read) = true)
      (h1 : op ≠ 0x13) (h2 : op ≠ 0x38) (h3 : op ≠ 0x3F) (hf : operationEffect c s.dev.fresh0 = f s.dev.fresh0)
      (hp : updateAdvanced c s (s.after (memberEnd c (f s.dev.fresh0)))) : Runs i s (updateAdvanced c s) := by
    subst hop
    refine Cmd.runnable_runs_plain hs h hx hi (by simp [cmdOp]) h2 h3 ?_
    rintro e rfl
    rw [memberEffect_operation hrow h1]
    change updateAdvanced c s (s.after ((memberEnd c (operationEffect c s.dev.fresh0)).withCp
      (memberEnd c (operationEffect c s.dev.fresh0)).cp))
    rw [hf]
    exact hp
  refine ⟨fun hop => ?_, fun hop => ?_, fun hop => ?_⟩
  · refine run hop rfl rfl rfl (by decide) (by decide) (by decide) (operationEffect_updateBegin hop _) ?_
    have hd : updateBegin (c.word 0).toNat s.dev.fresh0 = { s.dev.fresh0 with
      upd := { s.dev.upd with stagedVersion := 0, written := 0, st := .erasing }
      flash := { s.dev.flash with staging := [], stagingLen := (c.word 0).toNat, marker := false } } := rfl
    generalize updateBegin (c.word 0).toNat s.dev.fresh0 = e at hd ⊢
    obtain ⟨hdone, hframe⟩ := Cmd.runnable_completes (b := { s.dev with upd := e.upd, flash := e.flash }) h (e := e)
      (by rw [hd]; rfl) (by rw [hd]; rfl) (Dev.reportsTo_of_eq (by rw [hd]; rfl) (by rw [hd]; rfl) (by rw [hd]; rfl)) rfl
    obtain ⟨-, -, -, -, -, -, hupd, hfl, -⟩ := State.after_memberEnd (c := c) (s := s) (e := e) (x := (memberEnd c e).cp)
      (Cmd.applies_congr (Cmd.runnable_applies h) (by rw [hd]))
    change (s.after (memberEnd c e)).dev.upd = _ at hupd
    change (s.after (memberEnd c e)).dev.flash = _ at hfl
    refine ⟨hdone, fun _ => ?_, fun ho => ?_, fun ho => ?_⟩
    · rw [hupd, hfl]
      exact ⟨by rw [hd], by rw [hd], by rw [hd], hframe⟩
    · exact absurd (hop.symm.trans ho) (by decide)
    · exact absurd (hop.symm.trans ho) (by decide)
  · refine run hop rfl rfl rfl (by decide) (by decide) (by decide) (operationEffect_updateData hop _) ?_
    have hd : updateData c.index c.payload s.dev.fresh0 = { s.dev.fresh0 with
      upd := { s.dev.upd with written := s.dev.upd.written + BitVec.ofNat 32 c.payload.length }
      flash := { s.dev.flash with staging := stageInsert c.index c.payload s.dev.flash.staging } } := rfl
    have hfree : updateDataOk c.index c.payload.length s.dev.fresh0 = true := by
      unfold checkRights at hrights
      rw [hop] at hrights
      by_contra hn
      exact absurd hrights (by simp [hn])
    generalize updateData c.index c.payload s.dev.fresh0 = e at hd ⊢
    obtain ⟨hdone, hframe⟩ := Cmd.runnable_completes
      (b := { s.dev with upd := e.upd, flash := { s.dev.flash with staging := e.flash.staging } }) h (e := e)
      (by rw [hd]; rfl) (by rw [hd]; rfl) (Dev.reportsTo_of_eq (by rw [hd]; rfl) (by rw [hd]; rfl) (by rw [hd]; rfl)) rfl
    obtain ⟨-, -, -, -, -, -, hupd, hfl, -⟩ := State.after_memberEnd (c := c) (s := s) (e := e) (x := (memberEnd c e).cp)
      (Cmd.applies_congr (Cmd.runnable_applies h) (by rw [hd]))
    change (s.after (memberEnd c e)).dev.upd = _ at hupd
    change (s.after (memberEnd c e)).dev.flash = _ at hfl
    refine ⟨hdone, fun ho => ?_, fun _ => ?_, fun ho => ?_⟩
    · exact absurd (hop.symm.trans ho) (by decide)
    · rw [hupd, hfl]
      refine ⟨by rw [hd], fun i hi => ?_, hframe⟩
      rw [hd]
      refine stageAt_stageInsert ?_ hi
      unfold updateDataOk at hfree
      simp only [Bool.and_eq_true, Bool.not_eq_true'] at hfree
      exact hfree.2
    · exact absurd (hop.symm.trans ho) (by decide)
  · refine run hop rfl rfl rfl (by decide) (by decide) (by decide) (operationEffect_updateEnd hop _) ?_
    have hd : updateEnd s.dev.fresh0 = { s.dev.fresh0 with upd := { s.dev.upd with st := .verifying } } := rfl
    generalize updateEnd s.dev.fresh0 = e at hd ⊢
    obtain ⟨hdone, hframe⟩ := Cmd.runnable_completes (b := { s.dev with upd := e.upd }) h (e := e)
      (by rw [hd]; rfl) (by rw [hd]; rfl) (Dev.reportsTo_of_eq (by rw [hd]; rfl) (by rw [hd]; rfl) (by rw [hd]; rfl)) rfl
    obtain ⟨-, -, -, -, -, -, hupd, -⟩ := State.after_memberEnd (c := c) (s := s) (e := e) (x := (memberEnd c e).cp)
      (Cmd.applies_congr (Cmd.runnable_applies h) (by rw [hd]))
    change (s.after (memberEnd c e)).dev.upd = _ at hupd
    refine ⟨hdone, fun ho => ?_, fun ho => ?_, fun _ => ?_⟩
    · exact absurd (hop.symm.trans ho) (by decide)
    · exact absurd (hop.symm.trans ho) (by decide)
    · rw [hupd]
      exact ⟨by rw [hd], hframe⟩

end Sys2Proof.Machine
end

section
/-!
LIFECYCLE_SET and DEVICE_RESTART (R131, R161, R162, R565, R566, R591).
-/
namespace Sys2Proof.Machine

/-- From `d` to `d'` the command processor and the transport have changed, beside what reports write. -/
def Dev.discards (d d' : Dev) : Prop := Dev.reportsTo { d with cp := d'.cp, tr := d'.tr } d' ∧
  d' = { d with cp := d'.cp, tr := d'.tr, rcd := d'.rcd, flt := d'.flt }

theorem Dev.discards_refl (d : Dev) : d.discards d := ⟨Dev.reportsTo_refl d, rfl⟩

theorem Dev.discards_trans {a b c : Dev} (h1 : a.discards b) (h2 : b.discards c) : a.discards c := by
  obtain ⟨⟨-, -, hr, hf⟩, he⟩ := h1
  obtain ⟨⟨-, -, hr', hf'⟩, he'⟩ := h2
  refine ⟨⟨fun _ => rfl, rfl, ?_, ?_⟩, by rw [he', he]⟩
  · dsimp only at hr hr' ⊢
    rw [hr', hr]
  · dsimp only at hf hf' ⊢
    rw [hf', hf]

theorem Dev.discards_of_endsOn {ch : Nat} {d d' : Dev} (h : d.endsOn ch d') : d.discards d' := by
  obtain ⟨he, -, -, -, hr, hf⟩ := h
  exact ⟨⟨fun _ => rfl, rfl, hr, hf⟩, he⟩

theorem modChan_discards (ch : Nat) (f : Channel → Channel) (d : Dev) : d.discards (d.modChan ch f) :=
  ⟨⟨fun _ => rfl, rfl, rfl, rfl⟩, rfl⟩

theorem cp_discards (d : Dev) (x : CmdState) : d.discards { d with cp := x } := ⟨⟨fun _ => rfl, rfl, rfl, rfl⟩, rfl⟩

theorem report_discards (e : Event) (d : Dev) : d.discards (report e d) := Dev.discards_of_endsOn (report_endsOn 0 e d)

theorem discardCommands_discards (ch : Nat) (d : Dev) : d.discards (discardCommands ch d) := by
  unfold discardCommands
  dsimp only
  have h (x : CmdState) (f : Channel → Channel) : d.discards (Dev.modChan { d with cp := x } ch f) :=
    Dev.discards_trans (cp_discards d x) (modChan_discards ..)
  split
  · exact h _ _
  · exact Dev.discards_trans (h _ _) (report_discards ..)

theorem foldl_discards {α : Type} {f : Dev → α → Dev} (h : ∀ d x, Dev.discards d (f d x)) (xs : List α) (d : Dev) :
    d.discards (xs.foldl f d) := by
  induction xs generalizing d with
  | nil => exact Dev.discards_refl d
  | cons x xs ih => exact Dev.discards_trans (h d x) (ih _)

/-- Every command is discarded, and none is accepted (R131, R162). -/
theorem discardOthers_holds (c : Cmd) (d : Dev) :
    d.discards (discardOthers c d) ∧ (discardOthers c d).cp.closing = true ∧ (discardOthers c d).cp.phaseF = [] := by
  refine ⟨?_, rfl, rfl⟩
  unfold discardOthers
  refine Dev.discards_trans (foldl_discards (fun e ch => ?_) (List.range 65) d) (cp_discards _ _)
  split
  · exact Dev.discards_refl e
  · exact discardCommands_discards ch e

/-- The module with another update unit. -/
def Dev.withUpd (d : Dev) (u : Update) : Dev := { d with upd := u }

theorem updateAbandon_eq (d : Dev) : updateAbandon d = d.withUpd (updateAbandon d).upd := by
  unfold updateAbandon
  split <;> rfl

/-- What a restart begins from a module in which its command has ended. -/
theorem restartBegins_of {c : Cmd} {s : State} {d0 d : Dev} {fuses : Fuses} {r : RestartKind}
    (h0 : d0 = { s.dev.fresh0 with fuses := d0.fuses }) (hd : d0.discards d) (u : Update) :
    restartBegins s (s.after { (discardOthers c d).withUpd u with
      fuses := fuses, pwr := { s.dev.pwr with restart := some r } }) fuses r := by
  obtain ⟨hdis, hclose, hf⟩ := discardOthers_holds c d
  obtain ⟨⟨-, -, hr, hfl⟩, he⟩ := Dev.discards_trans hd hdis
  generalize discardOthers c d = e at he hclose hf hr hfl ⊢
  refine ⟨?_, ?_, ?_, ?_⟩
  · rw [(State.after_dev ..).2.2.1]
    exact hclose
  · rw [(State.after_dev ..).2.2.1]
    exact hf
  · simp only [State.after_dev]
  · simp only [State.after_dev]
    refine State.frame_of_eq ⟨fun _ => rfl, rfl, ?_, ?_⟩ ?_ ?_
    · rw [h0] at hr
      exact hr
    · rw [h0] at hfl
      exact hfl
    · unfold Dev.withUpd
      rw [he, h0]
      rfl
    · unfold Dev.withUpd
      rw [he, h0]
      rfl

/-- The fuses once a restart command has been carried out at once (R566). -/
def Cmd.burns (c : Cmd) (f : Fuses) : Fuses := if c.opcode = 0x38 then { f with partly := some c.target } else f

/-- The restart that a command asks for (R162, R566). -/
def Cmd.restartKind (c : Cmd) : RestartKind :=
  if c.opcode = 0x38 then .lifecycle else .device (fld (c.word 0) 0 2).toNat

theorem restartEffect_eq {c : Cmd} (h : c.opcode = 0x38 ∨ c.opcode = 0x3F) (d : Dev) : restartEffect c d =
    { (discardOthers c d).withUpd (updateAbandon (discardOthers c d)).upd with
      fuses := c.burns (updateAbandon (discardOthers c d)).fuses
      pwr := { (updateAbandon (discardOthers c d)).pwr with restart := some c.restartKind } } := by
  rw [← updateAbandon_eq]
  unfold restartEffect Cmd.burns Cmd.restartKind
  rcases h with h | h <;> rw [h] <;> rfl

theorem memberEffect_restart {c : Cmd} (h : c.opcode = 0x38 ∨ c.opcode = 0x3F) (ram : Nat → Byte) (d : Dev) :
    memberEffect ram c d = d := by
  rw [memberEffect_operation (by rcases h with h | h <;> rw [h] <;> rfl) (by rcases h with h | h <;> rw [h] <;> decide)]
  unfold operationEffect configEffect
  rcases h with h | h <;> rw [h] <;> rfl

/-- The end of a command asks for no restart, and takes none back. -/
theorem finishOne_restarts (ch tag status fi : Nat) (reply : List Byte) (d : Dev) :
    (finishOne ch tag status fi reply d).cp.restarts = d.cp.restarts ∧
      (finishOne ch tag status fi reply d).cp.closing = d.cp.closing := by
  cases h : d.slot ch tag with
  | none =>
    unfold finishOne
    rw [h]
    exact ⟨rfl, rfl⟩
  | some c =>
    have hn : (d.noted c ch tag status).cp = (d.unqueued c ch tag status).cp := by
      unfold Dev.noted
      rw [lifecycleRefused_cp, noteStatus_cp]
    have hpush (x : Completion) (e : Dev) : (pushCompletion ch x e).cp = e.cp := (Dev.modChan_keeps ..).2.2.1
    rw [finishOne_some h]
    unfold pollReady
    dsimp only
    split
    · unfold Dev.freeSlot
      dsimp only
      rw [hn]
      exact ⟨rfl, rfl⟩
    · rw [hpush]
      unfold Dev.setSlot
      dsimp only
      rw [hn]
      exact ⟨rfl, rfl⟩

/-- A restart command that passes its checks, from a module of which the fuses alone may differ. -/
theorem restartTaken_of {c : Cmd} {s : State} {d : Dev} (hop : c.opcode = 0x38 ∨ c.opcode = 0x3F)
    (hd : d = { s.dev.fresh0 with fuses := d.fuses }) (happ : c.applies d) :
    restartTaken c d.fuses (c.burns d.fuses) c.restartKind s (s.after (restartDue c (memberEnd c d))) := by
  have hne : ¬ (c.opcode ≠ 0x38 ∧ c.opcode ≠ 0x3F) := by
    rintro ⟨h1, h2⟩
    exact hop.elim h1 h2
  have hends := memberEnd_effect happ
  unfold restartDue
  rw [if_neg hne]
  refine ⟨fun hn => ?_, fun hn => ?_⟩
  · rw [hn, if_neg (by decide)]
    have hcp : (memberEnd c d).cp.restarts = s.dev.cp.restarts ∧ (memberEnd c d).cp.closing = s.dev.cp.closing := by
      rw [memberEnd_applies happ]
      have := finishOne_restarts c.ch c.tag stOk 0 [] d
      rw [hd] at this ⊢
      exact this
    obtain ⟨hdone, hframe⟩ := Cmd.completes_of (s := s) (b := { s.dev with fuses := d.fuses })
      (x := { (memberEnd c d).cp with restarts := (memberEnd c d).cp.restarts ++ [c] }) happ (by rw [hd]; rfl)
      (Dev.reportsTo_of_eq (by rw [hd]; rfl) (by rw [hd]; rfl) (by rw [hd]; rfl)) rfl rfl
    refine ⟨hdone, ?_, ?_, ?_⟩
    · simp only [State.after_dev]
      rw [hcp.1]
    · simp only [State.after_dev]
      exact hcp.2
    · rw [(State.after_dev ..).2.2.1]
      exact hframe
  · rw [hn, if_pos rfl, restartEffect_eq hop]
    have hkeep : (updateAbandon (discardOthers c (memberEnd c d))).fuses = d.fuses ∧
        (updateAbandon (discardOthers c (memberEnd c d))).pwr = s.dev.pwr := by
      have he := (Dev.discards_trans (Dev.discards_of_endsOn (Dev.endsOn_of_completesOn hends))
        (discardOthers_holds c (memberEnd c d)).1).2
      rw [updateAbandon_eq]
      unfold Dev.withUpd
      rw [he, hd]
      exact ⟨rfl, rfl⟩
    rw [hkeep.1, hkeep.2]
    exact restartBegins_of hd (Dev.discards_of_endsOn (Dev.endsOn_of_completesOn hends)) _

/-- A LIFECYCLE_SET that is refused ends with its status (R565, R566). -/
theorem lifecycleRefused_ends {c : Cmd} {s : State} {st : Nat} (h : c.waitsAlone s) (d : Dev)
    (hd : d = { s.dev.fresh0 with fuses := d.fuses }) :
    c.ends st s (s.after (finish c.ch c.tag st 0 [] d)) ∧
      s.frameCh (s.after (finish c.ch c.tag st 0 [] d)) c.ch
        { s.dev with cp := (s.after (finish c.ch c.tag st 0 [] d)).dev.cp, fuses := d.fuses } := by
  obtain ⟨-, -, hslot, -, -, -, -, hheld⟩ := h
  have hslots : d.cp.slots = s.dev.cp.slots := by rw [hd]; rfl
  have hown : d.slot c.ch c.tag = some c := by
    rw [Dev.slot_eq, hslots]
    exact hslot
  have hheld' : d.endedHeld c.ch [c.tag] := by
    have hf : d.inFlight c.ch = s.dev.inFlight c.ch := by unfold Dev.inFlight; rw [hslots]
    unfold Dev.endedHeld
    rw [hf]
    exact hheld
  rw [finish_alone (List.mem_singleton.mpr rfl) hheld']
  refine ⟨(Cmd.ends_of_finishOne (fi := 0) hown ?_ ?_ ?_).1, ?_⟩
  · have : d.chan c.ch = s.dev.chan c.ch := by unfold Dev.chan; rw [hd]; rfl
    rw [this]
    rfl
  · rw [(State.after_dev ..).2.2.1]
  · rw [(State.after_objects ..).2.2.2.1]
  · rw [(State.after_dev ..).2.2.1]
    exact State.frameCh_of_endsOn (b := { s.dev with fuses := d.fuses }) (finishOne_endsOn ..) (by rw [hd]; rfl)
      (Dev.reportsTo_of_eq (by rw [hd]; rfl) (by rw [hd]; rfl) (by rw [hd]; rfl)) rfl _

/-- A restart command past check 16, with its status. -/
theorem execCommand_restart {c : Cmd} {s : State} (h : c.runnable s) (hop : c.opcode = 0x38 ∨ c.opcode = 0x3F) (ram : Nat → Byte) :
    execCommand (cmdOp c.opcode) c.ch c.tag ram s.dev.fresh0 =
      (match (lifecycleCheck c s.dev.fresh0).1 with
        | none => restartDue c (memberEnd c (lifecycleCheck c s.dev.fresh0).2)
        | some r => finish c.ch c.tag r.1 r.2 [] (lifecycleCheck c s.dev.fresh0).2) := by
  obtain ⟨⟨-, -, hslot, hst, hb, hl, ha, -⟩, ht, hc, hck⟩ := h
  rw [execCommand_alone (d := s.dev.fresh0) hslot (by simp [cmdOp]) hst hb hl ha]
  cases hlc : (lifecycleCheck c s.dev.fresh0).1 with
  | none => rw [runMembers_alone hc ht hck hlc, memberEffect_restart hop]
  | some r =>
    have hin : inPhaseF [c] = false := by rw [inPhaseF_alone, hc, ht]; rfl
    unfold runMembers
    rw [hin, checkMembers_alone, checkMember_passes hc hck, hlc]
    rfl

/-- Settles O18: a restart command alone, by what its life-cycle check says. -/
theorem restartCommands : Obligations.RestartCommands := by
  intro s c hs h
  have hwf : decide (c.ch ≤ 64 ∧ c.tag < 128) = true := decide_eq_true ⟨h.1.1, h.1.2.1⟩
  have hnonce : lifecycleNonce s.dev.fresh0 = { s.dev.fresh0 with fuses := (lifecycleNonce s.dev.fresh0).fuses } := rfl
  have hf : (lifecycleNonce s.dev.fresh0).fuses = { s.dev.fuses with nonce := s.dev.fuses.nonce + 1 } := rfl
  refine ⟨fun hop hst => ?_, fun hop hst => ?_, fun hop => ?_⟩
  · have hlc : lifecycleCheck c s.dev.fresh0 = (none, lifecycleNonce s.dev.fresh0) := by
      unfold lifecycleCheck
      rw [if_pos hop, hst]
      rfl
    refine Runs.mainR (f := execCommand (cmdOp 0x38) c.ch c.tag) (checked_wf (i := .lifecycleSet c.ch c.tag) hwf) hs ?_
    rw [← hop, execCommand_restart h (.inl hop), hlc]
    have hr := restartTaken_of (s := s) (.inl hop) hnonce
      (Cmd.applies_congr (d := s.dev.fresh0) (Cmd.runnable_applies h) rfl)
    unfold Cmd.burns Cmd.restartKind at hr
    rw [if_pos hop, if_pos hop, hf] at hr
    exact hr
  · have hlc : lifecycleCheck c s.dev.fresh0 =
        (some (lifecycleStatus c.target c.auth s.dev.fresh0, 0), lifecycleNonce s.dev.fresh0) := by
      unfold lifecycleCheck
      rw [if_pos hop]
      dsimp only
      rw [if_neg hst]
    refine Runs.mainR (f := execCommand (cmdOp 0x38) c.ch c.tag) (checked_wf (i := .lifecycleSet c.ch c.tag) hwf) hs ?_
    rw [← hop, execCommand_restart h (.inl hop), hlc]
    exact lifecycleRefused_ends h.1 (lifecycleNonce s.dev.fresh0) hnonce
  · have hlc : lifecycleCheck c s.dev.fresh0 = (none, s.dev.fresh0) := lifecycleCheck_other (by rw [hop]; decide) _
    refine Runs.mainR (f := execCommand (cmdOp 0x3F) c.ch c.tag) (checked_wf (i := .deviceRestart c.ch c.tag) hwf) hs ?_
    rw [← hop, execCommand_restart h (.inr hop), hlc]
    have hr := restartTaken_of (s := s) (d := s.dev.fresh0) (.inr hop) rfl (Cmd.runnable_applies h)
    unfold Cmd.burns Cmd.restartKind at hr
    rw [if_neg (by rw [hop]; decide), if_neg (by rw [hop]; decide)] at hr
    exact hr

end Sys2Proof.Machine
end

section
/-!
O26 says that a restart which waited for its COMPLETION record leaves no command in a slot. A restart discards the commands of
channels 0 to 64; a state may hold a slot of a channel that does not exist, and that one stays.
-/
namespace Sys2Proof.Machine

/-- A DEVICE_RESTART of a channel that has ended in its slot. -/
def endedRestart (ch : Nat) : Cmd := { writeCmd ch 0x3F 0 0 0 0 with stage := .finished }

/-- Its COMPLETION record. -/
def restartRecord : Completion where
  tag := 0
  opcode := 0x3F
  seq := 0
  status := 0
  failIndex := 0
  reply := []
  frame := 0
  cal := 0
  calUnset := true
  holdsSlot := true

/-- A running module that waits for the COMPLETION record of a DEVICE_RESTART of channel 0, which is open, with its link up
and room in its ring; a slot is listed for channel 65. -/
def restartWaits : State := { State.reset with dev := { Dev.reset with
  pwr := { Dev.reset.pwr with main := .running }
  ports := [(0, { Port.reset with link := true })]
  tr := { Dev.reset.tr with
    chans := [(0, { Channel.reset with cfg := put 1024 5 6#5, st := .opened, txq := [.completion restartRecord] })] }
  cp := { Dev.reset.cp with slots := [endedRestart 0, endedRestart 65], restarts := [endedRestart 0] } } }

theorem restartWaits_up : restartWaits.up := by decide +kernel

/-- The slot of channel 65 stays. -/
theorem restartWaits_keeps : ((restartWaits.after (completionRow 0 restartWaits.dev.fresh0)).dev.cp.slots).length = 1 := by
  decide +kernel

/-- Refutes O26: the restart of a module that holds a slot of channel 65 leaves that slot. -/
theorem not_recordsToTheHost : ¬ Obligations.RecordsToTheHost := by
  intro h
  obtain ⟨-, -, -, hcompletion, -⟩ := h.1 restartWaits 0 restartWaits_up (by decide) (by decide +kernel) (by decide +kernel)
    (by decide +kernel) (by decide +kernel)
  obtain ⟨-, hrestart⟩ := hcompletion restartRecord [] rfl (by decide +kernel) (by decide +kernel)
  obtain ⟨t, ht, -, -, hslots, -⟩ := hrestart (endedRestart 0) (endedRestart 0) rfl (by decide +kernel) (by decide +kernel)
    (by decide +kernel) rfl (by decide +kernel) rfl
  have hx : exec (.completion 0) restartWaits = .next (restartWaits.after (completionRow 0 restartWaits.dev.fresh0)) :=
    mainStep_up (completionRow 0) restartWaits restartWaits_up
  obtain rfl : restartWaits.after _ = t := Host.Outcome.next.inj (hx.symm.trans ht)
  have hlen := restartWaits_keeps
  rw [hslots] at hlen
  exact absurd hlen (by decide)

end Sys2Proof.Machine
end

section
/-!
What an operation of one channel leaves alone (`Dev.serves`), and how a channel stops (R131, R173, R174).
-/
namespace Sys2Proof.Machine

/-- The recorder but for what reports write. -/
def Recorder.butRecords (a b : Recorder) : Prop := b = { a with
  recs := b.recs, snaps := b.snaps, stored := b.stored, snapNext := b.snapNext
  next := b.next, copied := b.copied, copyLost := b.copyLost, mergeCnt := b.mergeCnt, intake := b.intake }

theorem Recorder.butRecords_trans {a b c : Recorder} (h1 : a.butRecords b) (h2 : b.butRecords c) : a.butRecords c := by
  unfold Recorder.butRecords at *
  rw [h2, h1]

/-- The fault registers but for FAULT_SUM and FAULT_FIRST. -/
def FaultRegs.butNoted (a b : FaultRegs) : Prop := b = { a with sum := b.sum, first := b.first }

theorem FaultRegs.butNoted_trans {a b c : FaultRegs} (h1 : a.butNoted b) (h2 : b.butNoted c) : a.butNoted c := by
  unfold FaultRegs.butNoted at *
  rw [h2, h1]

theorem Transport.butReports_trans {a b c : Transport} (h1 : a.butReports b) (h2 : b.butReports c) : a.butReports c := by
  unfold Transport.butReports at *
  rw [h2, h1]

/-- From `d` to `d'` channel `ch`, the command processor and the queues of the ports have changed, beside what reports write
and what goes out. -/
def Dev.serves (ch : Nat) (d d' : Dev) : Prop :=
  d' = { d with cp := d'.cp, tr := d'.tr, rcd := d'.rcd, flt := d'.flt, eg := d'.eg, out := d'.out } ∧
    d.tr.butReports d'.tr ∧ (∀ j, j ≠ ch → (d.chan j).butDrops (d'.chan j)) ∧ d.rcd.butRecords d'.rcd ∧ d.flt.butNoted d'.flt

theorem Dev.serves_refl (ch : Nat) (d : Dev) : d.serves ch d := ⟨rfl, rfl, fun _ _ => rfl, rfl, rfl⟩

theorem Dev.serves_trans {ch : Nat} {a b c : Dev} (h1 : a.serves ch b) (h2 : b.serves ch c) : a.serves ch c := by
  obtain ⟨he, ht, hc, hr, hf⟩ := h1
  obtain ⟨he', ht', hc', hr', hf'⟩ := h2
  exact ⟨by rw [he', he], Transport.butReports_trans ht ht', fun j hj => Channel.butDrops_trans (hc j hj) (hc' j hj),
    Recorder.butRecords_trans hr hr', FaultRegs.butNoted_trans hf hf'⟩

theorem Dev.serves_of_endsOn {ch : Nat} {d d' : Dev} (h : d.endsOn ch d') : d.serves ch d' := by
  obtain ⟨he, ht, hc, -, hr, hf⟩ := h
  exact ⟨by rw [he], ht, hc, hr, hf⟩

theorem report_serves (ch : Nat) (e : Event) (d : Dev) : d.serves ch (report e d) := Dev.serves_of_endsOn (report_endsOn ch e d)

theorem modChan_serves (ch : Nat) (f : Channel → Channel) (d : Dev) : d.serves ch (d.modChan ch f) :=
  ⟨rfl, rfl, fun j hj => by rw [Dev.chan_modChan, if_neg hj]; rfl, rfl, rfl⟩

theorem setChan_serves (ch : Nat) (x : Channel) (d : Dev) : d.serves ch (d.setChan ch x) :=
  ⟨rfl, rfl, fun j hj => by rw [Dev.chan_setChan, if_neg hj]; rfl, rfl, rfl⟩

theorem cp_serves (ch : Nat) (x : CmdState) (d : Dev) : d.serves ch (d.withCp x) := ⟨rfl, rfl, fun _ _ => rfl, rfl, rfl⟩

theorem emit_serves (ch : Nat) (m : OutMsg) (d : Dev) : d.serves ch (d.emit m) := ⟨rfl, rfl, fun _ _ => rfl, rfl, rfl⟩

theorem dropEgress_serves (ch : Nat) (d : Dev) : d.serves ch (dropEgress ch d) := ⟨rfl, rfl, fun _ _ => rfl, rfl, rfl⟩

/-- What such an operation leaves, seen on the whole state. -/
theorem State.frameCh_of_serves {s : State} {ch : Nat} {a : Dev} (h : s.dev.fresh0.serves ch a) :
    s.frameCh (s.after a) ch { s.dev with cp := (s.after a).dev.cp, eg := a.eg } := by
  obtain ⟨he, ht, hc, hr, hf⟩ := h
  rw [(State.after_dev ..).2.2.1]
  exact State.frameCh_mk (b := { s.dev with eg := a.eg }) a.cp (by rw [he]; rfl) rfl ht hc hr hf

/-- Where the queues of the ports stand. -/
theorem State.frameCh_of_serves_eg {s : State} {ch : Nat} {a : Dev} (h : s.dev.fresh0.serves ch a) (hg : a.eg = s.dev.eg) :
    s.frameCh (s.after a) ch { s.dev with cp := (s.after a).dev.cp } := by
  have := State.frameCh_of_serves h
  rw [hg] at this
  exact this

/-- Where the commands stand as well. -/
theorem State.frameCh_of_serves_cp {s : State} {ch : Nat} {a : Dev} (h : s.dev.fresh0.serves ch a) (hg : a.eg = s.dev.eg)
    (hc : a.cp = s.dev.cp) : s.frameCh (s.after a) ch s.dev := by
  have := State.frameCh_of_serves_eg h hg
  rw [(State.after_dev ..).2.2.1, hc] at this
  exact this

/-! ### The end of a channel -/

theorem report_butDrops (e : Event) (d : Dev) (j : Nat) : (d.chan j).butDrops ((report e d).chan j) := (report_reportsTo e d).1 j

theorem report_same (e : Event) (d : Dev) :
    (report e d).cp = d.cp ∧ (report e d).eg = d.eg ∧ (report e d).out = d.out := by
  have h := report_reportsOnly e d
  unfold Dev.reportsOnly at h
  rw [h]
  exact ⟨rfl, rfl, rfl⟩

/-- The channel without its group. -/
def Channel.groupless (c : Channel) : Channel := { c with group := none, broken := none }

/-- The commands without those of a channel; `cfg` says whether one of them was a configuration change. -/
def CmdState.without (ch : Nat) (cfg : Bool) (cp : CmdState) : CmdState := { cp with
  slots := cp.slots.filter (fun c => c.ch != ch), phaseF := cp.phaseF.filter (fun x => x.1 != ch)
  late := cp.late.filter (fun x => x.1 != ch), recheck := cp.recheck || cfg }

/-- The report of `n` discarded commands. -/
def discardReport (ch n : Nat) : Event :=
  { ev 0x0305 false ch 0 with count := n, dests := [0, 64].filter (· != ch) }

theorem discardCommands_eq (ch : Nat) (d : Dev) : ∃ x : CmdState, x.slots = d.cp.slots.filter (fun c => c.ch != ch) ∧
    ∃ e : Event, discardCommands ch d = (d.withCp x).modChan ch Channel.groupless ∨
      discardCommands ch d = report e ((d.withCp x).modChan ch Channel.groupless) := by
  refine ⟨d.cp.without ch ((d.inFlight ch).any (fun c => c.stage == .admitted && c.isConfig)), rfl,
    discardReport ch ((d.inFlight ch).filter (fun c => c.stage != .replying && c.stage != .finished)).length, ?_⟩
  unfold discardCommands
  dsimp only
  split
  · exact .inl rfl
  · exact .inr rfl

/-- What discarding the commands of a channel leaves (R131). -/
theorem discardCommands_holds (ch : Nat) (d : Dev) :
    d.serves ch (discardCommands ch d) ∧ (d.chan ch).groupless.butDrops ((discardCommands ch d).chan ch) ∧
      (discardCommands ch d).cp.slots = d.cp.slots.filter (fun c => c.ch != ch) ∧
      (discardCommands ch d).eg = d.eg ∧ (discardCommands ch d).out = d.out := by
  have hbase (x : CmdState) : d.serves ch ((d.withCp x).modChan ch Channel.groupless) ∧
      (d.chan ch).groupless.butDrops (((d.withCp x).modChan ch Channel.groupless).chan ch) := by
    refine ⟨Dev.serves_trans (cp_serves ch x d) (modChan_serves ..), ?_⟩
    rw [Dev.chan_modChan, if_pos rfl]
    rfl
  obtain ⟨x, hx, e, he⟩ := discardCommands_eq ch d
  obtain ⟨h1, h2⟩ := hbase x
  rcases he with he | he
  · rw [he]
    exact ⟨h1, h2, hx, rfl, rfl⟩
  · rw [he]
    obtain ⟨r1, r2, r3⟩ := report_same e ((d.withCp x).modChan ch Channel.groupless)
    refine ⟨Dev.serves_trans h1 (report_serves ..), Channel.butDrops_trans h2 (report_butDrops ..), ?_, r2, r3⟩
    rw [r1]
    exact hx

/-- The queues of a channel that stops. -/
def Channel.halted (st : ChState) (err : BitVec 8) (c : Channel) : Channel := { c with
  st := st, errCode := err, txq := [], backlog := [], drops := Drops.none, unacked := [], ackedPkts := 0, rnrWait := false }

/-- An OPEN channel stops, with a report. -/
def stopChannel (ch : Nat) (st : ChState) (err : BitVec 8) (e : Event) (d : Dev) : Dev :=
  report e ((dropEgress ch (discardCommands ch d)).modChan ch (Channel.halted st err))

theorem errorChannel_opened {ch : Nat} {d : Dev} (h : (d.chan ch).st = .opened) (code : Nat) :
    ∃ e, errorChannel ch code d = stopChannel ch .error (BitVec.ofNat 8 code) e d := by
  unfold errorChannel
  rw [if_neg (by rw [h]; decide)]
  exact ⟨_, rfl⟩

theorem closeChannel_opened {ch : Nat} {d : Dev} (h : (d.chan ch).st = .opened) :
    ∃ e, closeChannel ch d = stopChannel ch .closed (d.chan ch).errCode e d := by
  have herr : ((discardCommands ch d).chan ch).errCode = (d.chan ch).errCode := by
    rw [(discardCommands_holds ch d).2.1]
    rfl
  have hmod : (dropEgress ch (discardCommands ch d)).modChan ch (Channel.halted .closed (d.chan ch).errCode) =
      (dropEgress ch (discardCommands ch d)).modChan ch (fun c => { c with
        st := .closed, txq := [], backlog := [], drops := Drops.none, unacked := [], ackedPkts := 0, rnrWait := false }) := by
    rw [← herr]
    rfl
  unfold closeChannel stopChannel
  rw [h, hmod]
  exact ⟨_, rfl⟩

theorem Channel.halted_butDrops {a b : Channel} (h : a.butDrops b) (st : ChState) (err : BitVec 8) :
    (a.halted st err).butDrops (b.halted st err) := by
  unfold Channel.butDrops at *
  unfold Channel.halted
  rw [h]

/-- What a stopped channel leaves, from a module of which something may already have gone out. -/
theorem stopChannel_holds (ch : Nat) (st : ChState) (err : BitVec 8) (e : Event) (d : Dev) :
    d.serves ch (stopChannel ch st err e d) ∧ (d.chan ch).stopped st err ((stopChannel ch st err e d).chan ch) ∧
      (stopChannel ch st err e d).cp.slots = d.cp.slots.filter (fun c => c.ch != ch) ∧
      (stopChannel ch st err e d).eg = (dropEgress ch d).eg ∧ (stopChannel ch st err e d).out = d.out := by
  obtain ⟨h1, h2, h3, h4, h5⟩ := discardCommands_holds ch d
  have hchan : ((dropEgress ch (discardCommands ch d)).modChan ch (Channel.halted st err)).chan ch =
      ((discardCommands ch d).chan ch).halted st err := by
    rw [Dev.chan_modChan, if_pos rfl]
    rfl
  have heg : ((dropEgress ch (discardCommands ch d)).modChan ch (Channel.halted st err)).eg = (dropEgress ch d).eg := by
    change (dropEgress ch (discardCommands ch d)).eg = _
    unfold dropEgress
    rw [h4]
  obtain ⟨r1, r2, r3⟩ := report_same e ((dropEgress ch (discardCommands ch d)).modChan ch (Channel.halted st err))
  unfold stopChannel
  refine ⟨Dev.serves_trans (Dev.serves_trans (Dev.serves_trans h1 (dropEgress_serves ..)) (modChan_serves ..))
    (report_serves ..), ?_, ?_, ?_, ?_⟩
  · refine Channel.butDrops_trans ?_ (report_butDrops ..)
    rw [hchan]
    exact Channel.halted_butDrops h2 st err
  · rw [r1]
    exact h3
  · rw [r2, heg]
  · rw [r3]
    exact h5

/-- A channel that stops, seen on the whole state; `out` may have gone out before. -/
theorem channelStops_after {s : State} {ch : Nat} {st : ChState} {err : BitVec 8} {e : Event} {d : Dev} {out : List OutMsg}
    (hd : d = { s.dev.fresh0 with out := out }) :
    channelStops s ch st err out (s.after (stopChannel ch st err e d)) := by
  obtain ⟨h1, h2, h3, h4, h5⟩ := stopChannel_holds ch st err e d
  have hslots : (s.after (stopChannel ch st err e d)).dev.cp.slots = s.dev.cp.slots.filter (fun c => c.ch != ch) := by
    rw [(State.after_dev ..).2.2.1, h3, hd]
    rfl
  refine ⟨?_, ?_, fun x hx => ?_, fun x hx hne => ?_, ?_, ?_⟩
  · rw [(State.after_objects ..).2.2.2.1]
    have hc : d.chan ch = s.dev.chan ch := by unfold Dev.chan; rw [hd]; rfl
    rw [← hc]
    exact h2
  · unfold Dev.inFlight
    rw [hslots, List.filter_filter]
    simp
  · rw [hslots] at hx
    exact (List.mem_filter.mp hx).1
  · rw [hslots]
    exact List.mem_filter.mpr ⟨hx, by simpa using hne⟩
  · simp only [State.after_dev]
    rw [h5, hd]
  · have h0 : s.dev.fresh0.serves ch d := by rw [hd]; exact ⟨rfl, rfl, fun _ _ => rfl, rfl, rfl⟩
    have hframe := State.frameCh_of_serves (Dev.serves_trans h0 h1)
    have heg : (dropEgress ch d).eg = (dropEgress ch s.dev).eg := by unfold dropEgress; rw [hd]; rfl
    rw [h4, heg] at hframe
    exact hframe

/-! ### CHANNEL_OPEN and CHANNEL_CLOSE -/

/-- A channel that opens (R173). -/
def Channel.started (c : Channel) : Channel := { Channel.reset with
  cfg := c.cfg, st := .opened, nextSeq := c.startSeq, pubSeq := c.startSeq, consSeq := c.startSeq
  ackedSeq := c.startSeq, openGen := c.openGen + 1, errCode := c.errCode, expPsn := c.modPsn
  nextPsn := c.hostPsn }

/-- A change of one channel and its report, seen on the whole state. -/
theorem channelChanged_after {s : State} {ch : Nat} (f : Channel → Channel) (e : Event) :
    let t := s.after (report e (s.dev.fresh0.modChan ch f))
    (f (s.dev.chan ch)).butDrops (t.dev.chan ch) ∧ t.dev.out = [] ∧ s.frameCh t ch s.dev := by
  obtain ⟨r1, r2, r3⟩ := report_same e (s.dev.fresh0.modChan ch f)
  refine ⟨?_, ?_, State.frameCh_of_serves_cp (Dev.serves_trans (modChan_serves ..) (report_serves ..)) r2 r1⟩
  · rw [(State.after_objects ..).2.2.2.1]
    have h := report_butDrops e (s.dev.fresh0.modChan ch f) ch
    rw [Dev.chan_modChan, if_pos rfl] at h
    exact h
  · simp only [State.after_dev]
    exact r3

/-- Settles O23: by the state of the channel. -/
theorem channelOpensAndCloses : Obligations.ChannelOpensAndCloses := by
  intro s ch hs hch
  have hwf : decide (ch < 64) = true := decide_eq_true hch
  dsimp only
  refine ⟨fun hst hok => ?_, fun h => ?_, fun hst => ?_, fun hst => ?_, fun hst => ?_⟩
  · have hopen : channelOpen ch s.dev.fresh0 = openChannel ch s.dev.fresh0 := if_pos ⟨hch, hst, hok⟩
    refine Runs.mainChecked (f := channelOpen ch) (i := .channelOpen ch) rfl hwf hs ?_
    rw [hopen]
    exact channelChanged_after Channel.started _
  · refine Runs.stays (f := channelOpen ch) (i := .channelOpen ch) rfl hwf hs (if_neg ?_)
    rintro ⟨-, hst, hok⟩
    rcases h with h | h
    · exact h hst
    · exact absurd (h.symm.trans hok) nofun
  · refine Runs.mainChecked (f := channelClose ch) (i := .channelClose ch) rfl hwf hs ?_
    have hclose : channelClose ch s.dev.fresh0 = closeChannel ch s.dev.fresh0 := if_pos hch
    obtain ⟨e, he⟩ := closeChannel_opened (ch := ch) (d := s.dev.fresh0) hst
    rw [hclose, he]
    exact channelStops_after rfl
  · refine Runs.mainChecked (f := channelClose ch) (i := .channelClose ch) rfl hwf hs ?_
    have hclose : channelClose ch s.dev.fresh0 = closeChannel ch s.dev.fresh0 := if_pos hch
    have hst' : (s.dev.fresh0.chan ch).st = .error := hst
    rw [hclose]
    unfold closeChannel
    rw [hst']
    exact channelChanged_after (fun c => { c with st := .closed }) _
  · refine Runs.stays (f := channelClose ch) (i := .channelClose ch) rfl hwf hs ?_
    have hclose : channelClose ch s.dev.fresh0 = closeChannel ch s.dev.fresh0 := if_pos hch
    have hst' : (s.dev.fresh0.chan ch).st = .closed := hst
    rw [hclose]
    unfold closeChannel
    rw [hst']

end Sys2Proof.Machine
end

section
/-!
Frames that a port does not take (R203, R204), and how a channel sends again or fails (R165, R174, R196, R197).
-/
namespace Sys2Proof.Machine

/-! ### Received frames -/

/-- A dropped frame, seen on the whole state. -/
theorem frameDropped_after (s : State) (p : Nat) : frameDropped s p (s.after (rxDropped p s.dev.fresh0)) := by
  refine ⟨?_, ?_, fun j hj => ?_⟩
  · refine State.silent_of_eq ?_
    rw [(State.after_dev ..).2.2.2.2.1]
    rfl
  · rw [(State.after_objects ..).2.2.2.2.1]
    exact (Dev.port_modPort ..).trans (if_pos rfl)
  · rw [(State.after_objects ..).2.2.2.2.1]
    exact (Dev.port_modPort ..).trans (if_neg hj)

theorem rxArrive_dropped {p : Nat} {h : FrameHead} (f : Dev → Dev) {d : Dev} (hk : ¬ (d.port p).rxOk h = true) :
    rxArrive p h f d = rxDropped p d := by
  unfold rxArrive
  rw [Bool.eq_false_iff.mpr hk]
  rfl

theorem rxArrive_left {p : Nat} {h : FrameHead} (f : Dev → Dev) {d : Dev} (hk : (d.port p).rxOk h = true)
    (ht : (d.port p).takes p h = false) : rxArrive p h f d = d := by
  unfold rxArrive
  rw [hk, ht]
  rfl

theorem rxArrive_taken {p : Nat} {h : FrameHead} (f : Dev → Dev) {d : Dev} (hk : (d.port p).rxOk h = true)
    (ht : (d.port p).takes p h = true) : rxArrive p h f d = f d := by
  unfold rxArrive
  rw [hk, ht]
  rfl

/-- The port of a channel takes an acknowledgement of its host: it carries the port's own VLAN. -/
theorem Dev.takes_ackHead (d : Dev) (ch : Nat) :
    (d.port (d.chan ch).portNo).takes (d.chan ch).portNo (d.ackHead ch) = true := by
  have hp : (d.chan ch).portNo < 2 := by unfold Channel.portNo; split <;> decide
  unfold Port.takes Dev.ackHead
  simp [hp]

/-! ### Sending again -/

/-- What the outstanding requests look like when they go out again (R165). -/
def Channel.again (ch : Nat) (c : Channel) : List OutMsg :=
  match c.unacked with
  | [] => []
  | r :: rest => (if c.ackedPkts = 0 then .rdma ch r else .rdmaPart ch r c.ackedPkts) :: rest.map (fun q => .rdma ch q)

/-- Messages that go out. -/
def Dev.emits (d : Dev) (l : List OutMsg) : Dev := { d with out := d.out ++ l }

theorem emits_serves (ch : Nat) (l : List OutMsg) (d : Dev) : d.serves ch (d.emits l) := ⟨rfl, rfl, fun _ _ => rfl, rfl, rfl⟩

theorem foldl_emit {α : Type} (g : α → OutMsg) (l : List α) (d : Dev) :
    l.foldl (fun d r => d.emit (g r)) d = d.emits (l.map g) := by
  induction l generalizing d with
  | nil => simp [Dev.emits]
  | cons r rest ih =>
    rw [List.foldl_cons, ih]
    simp [Dev.emits, Dev.emit]

theorem resend_eq {ch : Nat} {d : Dev} (hlink : d.linkUpFor (d.chan ch) = true) :
    resend ch d = d.emits ((d.chan ch).again ch) := by
  unfold resend Channel.again
  dsimp only
  rw [if_pos hlink]
  cases (d.chan ch).unacked with
  | nil => simp [Dev.emits]
  | cons r rest =>
    dsimp only
    rw [foldl_emit]
    simp [Dev.emits, Dev.emit]

/-- A channel that is changed and sends again, seen on the whole state; `c` has the link of the channel. -/
theorem resend_after {s : State} {ch : Nat} {c : Channel} (hlink : s.dev.linkUpFor c = true) :
    let t := s.after (resend ch (s.dev.fresh0.setChan ch c))
    t.dev.chan ch = c ∧ t.dev.out = c.again ch ∧ s.frameCh t ch s.dev := by
  have hc : (s.dev.fresh0.setChan ch c).chan ch = c := (Dev.chan_setChan ..).trans (if_pos rfl)
  have hr : resend ch (s.dev.fresh0.setChan ch c) = (s.dev.fresh0.setChan ch c).emits (c.again ch) := by
    rw [resend_eq (by rw [hc]; exact hlink), hc]
  rw [hr]
  refine ⟨?_, ?_, State.frameCh_of_serves_cp
    (Dev.serves_trans (setChan_serves ch c s.dev.fresh0) (emits_serves ..)) rfl rfl⟩
  · rw [(State.after_objects ..).2.2.2.1]
    exact hc
  · simp only [State.after_dev]
    rfl

/-- A channel that sends again as it stands, seen on the whole state. -/
theorem resend_after_same {s : State} {ch : Nat} (hlink : s.dev.linkUpFor (s.dev.chan ch) = true) :
    let t := s.after (resend ch s.dev.fresh0)
    t.dev.chan ch = s.dev.chan ch ∧ t.dev.out = (s.dev.chan ch).again ch ∧ s.frameCh t ch s.dev := by
  have hr : resend ch s.dev.fresh0 = s.dev.fresh0.emits ((s.dev.chan ch).again ch) := resend_eq hlink
  rw [hr]
  refine ⟨?_, ?_, State.frameCh_of_serves_cp (emits_serves ch _ s.dev.fresh0) rfl rfl⟩
  · rw [(State.after_objects ..).2.2.2.1]
    rfl
  · simp only [State.after_dev]
    rfl

/-! ### Failures -/

/-- An OPEN channel fails, seen on the whole state; `out` may have gone out before. -/
theorem errorChannel_after {s : State} {ch : Nat} {d : Dev} {out : List OutMsg} (hd : d = { s.dev.fresh0 with out := out })
    (hst : (s.dev.chan ch).st = .opened) (code : Nat) :
    channelStops s ch .error (BitVec.ofNat 8 code) out (s.after (errorChannel ch code d)) := by
  obtain ⟨e, he⟩ := errorChannel_opened (ch := ch) (d := d) (by rw [hd]; exact hst) code
  rw [he]
  exact channelStops_after hd

/-- The packet before the first one that is unacknowledged acknowledges nothing. -/
theorem hostAck_before {ch : Nat} {d : Dev} {r : Req} {rest : List Req} (h : (d.chan ch).unacked = r :: rest) :
    hostAck ch (r.psn - 1) d = d := by
  have hdone : (r.psn - 1 - r.psn).toNat = 2 ^ 24 - 1 := by
    have : r.psn - 1 - r.psn = BitVec.allOnes 24 := by rw [BitVec.sub_sub, BitVec.add_comm, ← BitVec.sub_sub, BitVec.sub_self]; decide
    rw [this]
    decide
  unfold hostAck
  dsimp only
  rw [h]
  dsimp only
  rw [hdone, if_pos (.inr (by decide))]

/-- A NAK of the oldest request does what its kind says. -/
theorem hostNak_oldest {ch : Nat} {d : Dev} {r : Req} {rest : List Req} (hst : (d.chan ch).st = .opened)
    (h : (d.chan ch).unacked = r :: rest) (kind : NakKind) :
    hostNak ch r.psn kind d = match kind with
      | .remoteAccess => errorChannel ch 3 d
      | .remoteOp => errorChannel ch 4 d
      | .sequence => resend ch d
      | .rnr => if (d.chan ch).rnrTries < (d.chan ch).rnrRetry
          then d.setChan ch { d.chan ch with rnrTries := (d.chan ch).rnrTries + 1, rnrWait := true }
          else errorChannel ch 2 d := by
  unfold hostNak
  cases kind <;>
  · dsimp only
    rw [if_neg (by rw [hst, h]; simp), hostAck_before h]

/-- A NAK in a frame that fits. -/
theorem hostNakFrame_fits {s : State} {ch : Nat} {psn : BitVec 24} {kind : NakKind}
    (h : (s.dev.port (s.dev.chan ch).portNo).rxOk (s.dev.ackHead ch) = true) :
    hostNakFrame ch psn kind s.dev.fresh0 = hostNak ch psn kind s.dev.fresh0 :=
  rxArrive_taken _ h (Dev.takes_ackHead s.dev ch)

/-- Settles O25: by the event. -/
theorem transportErrors : Obligations.TransportErrors := by
  intro s ch r rest head hs hch hst hun hlink
  have hwf : decide (ch ≤ 64) = true := decide_eq_true hch
  have hst' : (s.dev.fresh0.chan ch).st = .opened := hst
  have hun' : (s.dev.fresh0.chan ch).unacked = r :: rest := hun
  have hagain : (s.dev.chan ch).again ch = (if (s.dev.chan ch).ackedPkts = 0 then .rdma ch r
      else .rdmaPart ch r (s.dev.chan ch).ackedPkts) :: rest.map (fun q => .rdma ch q) := by
    unfold Channel.again
    rw [hun]
  have hfail (code : Nat) : channelFailed s ch code (s.after (errorChannel ch code s.dev.fresh0)) :=
    errorChannel_after rfl hst code
  dsimp only
  refine ⟨fun hk kind => ?_, fun hk => ?_, fun hw => ?_, fun hw => ?_, fun hu hlt => ?_, fun hu hle => ?_, fun hu => ?_,
    fun hk ht => ?_, fun hk ht => ?_, fun hk => ?_⟩
  · refine Runs.mainChecked (f := hostNakFrame ch r.psn kind) (i := .hostNak ch r.psn kind) rfl hwf hs ?_
    rw [show hostNakFrame ch r.psn kind s.dev.fresh0 = rxDropped (s.dev.chan ch).portNo s.dev.fresh0 from rxArrive_dropped _ hk]
    exact frameDropped_after s _
  · have hnak (kind : NakKind) {p : State → Prop} (hp : p (s.after (hostNak ch r.psn kind s.dev.fresh0))) :
        Runs (.hostNak ch r.psn kind) s p := by
      refine Runs.mainChecked (f := hostNakFrame ch r.psn kind) (i := .hostNak ch r.psn kind) rfl hwf hs ?_
      rw [hostNakFrame_fits hk]
      exact hp
    refine ⟨hnak _ ?_, hnak _ ?_, hnak _ ?_, fun hlt => hnak _ ?_, fun hle => hnak _ ?_⟩ <;>
      rw [hostNak_oldest hst' hun']
    · exact hfail 3
    · exact hfail 4
    · obtain ⟨h1, h2, h3⟩ := resend_after_same hlink
      exact ⟨h1, h2.trans hagain, h3⟩
    · dsimp only
      rw [if_pos (show (s.dev.fresh0.chan ch).rnrTries < (s.dev.fresh0.chan ch).rnrRetry from hlt)]
      refine ⟨?_, ?_, State.frameCh_of_serves_cp (setChan_serves ch _ s.dev.fresh0) rfl rfl⟩
      · rw [(State.after_objects ..).2.2.2.1]
        exact (Dev.chan_setChan ..).trans (if_pos rfl)
      · simp only [State.after_dev]
        rfl
    · dsimp only
      rw [if_neg (show ¬ (s.dev.fresh0.chan ch).rnrTries < (s.dev.fresh0.chan ch).rnrRetry from Nat.not_lt.mpr hle)]
      exact hfail 2
  · refine Runs.mainChecked (f := rnrRetry ch) (i := .rnrRetry ch) rfl hwf hs ?_
    have he : rnrRetry ch s.dev.fresh0 =
        resend ch (s.dev.fresh0.setChan ch { s.dev.chan ch with rnrWait := false }) := if_pos ⟨hst, hw⟩
    rw [he]
    obtain ⟨h1, h2, h3⟩ := resend_after (s := s) (ch := ch) (c := { s.dev.chan ch with rnrWait := false }) hlink
    exact ⟨h1, h2.trans hagain, h3⟩
  · refine Runs.stays (f := rnrRetry ch) (i := .rnrRetry ch) rfl hwf hs (if_neg ?_)
    rintro ⟨-, hw'⟩
    exact absurd (hw.symm.trans hw') nofun
  · refine Runs.mainChecked (f := retransmit ch) (i := .retransmitTimeout ch) rfl hwf hs ?_
    have he : retransmit ch s.dev.fresh0 =
        resend ch (s.dev.fresh0.setChan ch { s.dev.chan ch with retries := (s.dev.chan ch).retries + 1 }) :=
      (if_neg (by simp [hst, hun, show s.dev.fresh0.unsent ch = false from hu])).trans (if_pos hlt)
    rw [he]
    obtain ⟨h1, h2, h3⟩ := resend_after (s := s) (ch := ch)
      (c := { s.dev.chan ch with retries := (s.dev.chan ch).retries + 1 }) hlink
    exact ⟨h1, h2.trans hagain, h3⟩
  · refine Runs.mainChecked (f := retransmit ch) (i := .retransmitTimeout ch) rfl hwf hs ?_
    have he : retransmit ch s.dev.fresh0 = errorChannel ch 1 s.dev.fresh0 :=
      (if_neg (by simp [hst, hun, show s.dev.fresh0.unsent ch = false from hu])).trans (if_neg (Nat.not_lt.mpr hle))
    rw [he]
    exact hfail 1
  · exact Runs.stays (f := retransmit ch) (i := .retransmitTimeout ch) rfl hwf hs (if_pos (.inr (.inr hu)))
  · refine Runs.mainChecked (f := invalidRequest ⟨ch, head⟩) (i := .invalidRequest ⟨ch, head⟩) rfl hwf hs ?_
    have hl : s.dev.fresh0.linkUpFor (s.dev.chan ch) = true := hlink
    have he : invalidRequest ⟨ch, head⟩ s.dev.fresh0 =
        errorChannel ch 5 (s.dev.fresh0.emit (.nak ch (s.dev.chan ch).expPsn 1)) :=
      (rxArrive_taken (d := s.dev.fresh0) (invalidAnswer ch) hk ht).trans (if_neg (by simp [hst, hl]))
    rw [he]
    exact errorChannel_after rfl hst 5
  · exact Runs.stays (f := invalidRequest ⟨ch, head⟩) (i := .invalidRequest ⟨ch, head⟩) rfl hwf hs (rxArrive_left _ hk ht)
  · refine Runs.mainChecked (f := invalidRequest ⟨ch, head⟩) (i := .invalidRequest ⟨ch, head⟩) rfl hwf hs ?_
    rw [show invalidRequest ⟨ch, head⟩ s.dev.fresh0 = rxDropped (s.dev.chan ch).portNo s.dev.fresh0 from
      rxArrive_dropped _ (Bool.eq_false_iff.mp hk)]
    exact frameDropped_after s _

end Sys2Proof.Machine
end

section
/-!
O36 says that a measurement changes the timebase, the waiting measurement and the trim window alone. In a module that joins it
also notes that the step of its joining that waits for network time has passed (R531).
-/
namespace Sys2Proof.Machine

/-- A measurement with no offset. -/
def exactMeas : Meas := ⟨0, none, 0⟩

/-- A running module that joins its twin, with a measurement that waits. -/
def measuredJoining : State := { State.reset with dev := { Dev.reset with
  pwr := { Dev.reset.pwr with main := .running }
  ply := { Dev.reset.ply with role := .joining }
  net := { Dev.reset.net with meas := some exactMeas } } }

theorem measuredJoining_up : measuredJoining.up := by decide +kernel

theorem measuredJoining_times :
    (measuredJoining.after (timebaseMeasurement measuredJoining.dev.fresh0)).dev.ply.timed = true := by decide +kernel

/-- Refutes O36: the measurement that a joining module takes changes what it holds of its joining. -/
theorem not_timebaseStates : ¬ Obligations.TimebaseStates := by
  intro h
  obtain ⟨-, -, hmeas, -⟩ := h measuredJoining measuredJoining_up
  obtain ⟨t, ht, ⟨⟨heq, -⟩, -⟩, -⟩ := hmeas exactMeas rfl
  have hx : exec .timebaseMeasurement measuredJoining =
      .next (measuredJoining.after (timebaseMeasurement measuredJoining.dev.fresh0)) :=
    mainStep_up timebaseMeasurement measuredJoining measuredJoining_up
  obtain rfl : measuredJoining.after _ = t := Host.Outcome.next.inj (hx.symm.trans ht)
  have hply := congrArg (fun t : State => t.dev.ply.timed) heq
  exact absurd (measuredJoining_times.symm.trans hply) (by decide)

end Sys2Proof.Machine
end

section
/-!
Resets and supplies: what the main domain loses when it is put into reset, the pins that reset it, and the supplies and wake
causes of the backup domain.
-/
namespace Sys2Proof.Machine

/-- A module in reset has lost the main domain, whatever its supplies and its backup domain hold beside the calendar. -/
theorem mainLost_after {s : State} {d : Dev} {p : Power} {b : Backup} (hm : p.main = .reset)
    (hf : d.fuses = s.dev.fuses) (hl : d.flash = s.dev.flash) (hc : b.cnt = s.dev.bk.cnt)
    (ha : b.alarms = s.dev.bk.alarms) (hv : b.valid = s.dev.bk.valid) :
    mainLost s (s.after { d.inReset with pwr := p, bk := b }) := by
  simp only [mainLost, State.after_dev, hm, hc, ha, hv, true_and]
  exact ⟨hf, hl, rfl, rfl, rfl, rfl, rfl, rfl, rfl, rfl, rfl, rfl, rfl, rfl, rfl, rfl⟩

/-- An event of the backup domain that writes its own registers alone is silent. -/
theorem silent_backup (s : State) (b : Backup) : s.silent (s.after { s.dev.fresh0 with bk := b }) { s.dev with bk := b } :=
  State.silent_of_eq rfl

/-- An event that the module sees in any power state and that writes the registers of the backup domain alone. -/
theorem Runs.backup {i : Instr} {s : State} {f : Dev → Dev} {b : Backup} (hx : exec i s = moduleStep f s)
    (hf : f s.dev.fresh0 = { s.dev.fresh0 with bk := b }) : Runs i s (fun t => s.silent t { s.dev with bk := b }) :=
  Runs.module hx (hf ▸ silent_backup s b)

/-- An event that the module sees in any power state and that does nothing. -/
theorem Runs.rests {i : Instr} {s : State} {f : Dev → Dev} (hx : exec i s = moduleStep f s)
    (hf : f s.dev.fresh0 = s.dev.fresh0) : Runs i s (fun t => s.silent t s.dev) :=
  Runs.module hx (hf.symm ▸ State.silent_after s)

/-! ### VMAIN, wake causes and shutdown (R483 to R488, R505, R506) -/

/-- WAKE_N raises PWR_HOLD, and names the next start where VMAIN is gone (R505, R507). -/
theorem wake_low {d : Dev} (h : d.bk.pwrHold = false) :
    wake 1 0 d = { d with bk := if d.bk.onVmain then { d.bk with pwrHold := true }
      else { d.bk with pwrHold := true, nextCause := some 1 } } := by
  unfold wake
  rw [if_neg (by simp [h])]
  split
  · rfl
  · simp [Dev.modBk]

/-- With PWR_HOLD high a wake cause does nothing (R505). -/
theorem wake_high (c : BitVec 8) (a : BitVec 3) {d : Dev} (h : d.bk.pwrHold = true) : wake c a d = d := if_pos h

theorem vmainFail_on {d : Dev} (h : d.bk.onVmain = true) :
    vmainFail d = { d.inReset with
      pwr := { d.inReset.pwr with marker := false }
      bk := { d.inReset.bk with
        onVmain := false, lockout := true, offCal := calOf d.bk.cnt, switchCnt := d.bk.switchCnt + 1
        shut := if d.bk.shut = .wait then .wait else .idle, nextCause := some 0 } } := by
  unfold vmainFail
  rw [if_neg (by simp [h])]
  rfl

theorem vmainFail_off {d : Dev} (h : d.bk.onVmain = false) : vmainFail d = d := if_pos (by simp [h])

theorem shutdownFailed_on {d : Dev} (h : d.bk.shut = .off) (hv : d.bk.onVmain = true) :
    shutdownFailed d = { d.inReset with
      pwr := d.inReset.pwr
      bk := { d.inReset.bk with shut := .idle, pwrHold := true, nextCause := some 3 } } := if_pos ⟨h, hv⟩

/-- Settles O52: each event writes the backup domain; the two that end the supply of the main domain put it into reset. -/
theorem powerEvents : Obligations.PowerEvents := by
  intro s b only restarted
  refine ⟨fun h => ?_, fun h => ?_, ?_, ?_, ?_, ?_, fun he hp => ?_, fun h => ?_, fun hs => ?_, fun h => ?_, fun h => ?_,
    fun h hv => ?_, fun h => ?_⟩
  · refine Runs.module (f := vmainFail) (by rfl) ?_
    rw [vmainFail_on (d := s.dev.fresh0) h]
    exact ⟨⟨mainLost_after rfl rfl rfl rfl rfl rfl, rfl, (State.after_dev ..).2.2.2.2.2.2.2.2.2.2.2.2.2.2.2.2.2.2.2.2.2.2.1⟩,
      by simp⟩
  · exact Runs.rests (f := vmainFail) rfl (vmainFail_off (d := s.dev.fresh0) h)
  · exact Runs.backup (f := vmainRestore) rfl rfl
  · exact Runs.backup (f := retentionLoss) rfl rfl
  · exact Runs.backup (f := wakePin .rises) rfl rfl
  · exact Runs.backup (f := wakePin .falls) rfl rfl
  · refine Runs.backup (f := wakePin .held) rfl ?_
    exact (if_pos ⟨rfl, he⟩).trans (wake_low hp)
  · refine Runs.backup (f := wakePin .held) rfl ?_
    rcases h with h | h
    · exact if_neg (fun x => Bool.false_ne_true (h.symm.trans x.2))
    · exact (ite_eq_right_iff.mpr fun _ => wake_high 1 0 h)
  · exact Runs.main (f := rlAck) rfl hs (silent_backup s _)
  · exact Runs.backup (f := pwrHoldRelease) rfl (if_pos h)
  · exact Runs.rests (f := pwrHoldRelease) rfl (if_neg h)
  · refine Runs.module (f := shutdownFailed) (by rfl) ?_
    rw [shutdownFailed_on (d := s.dev.fresh0) h hv]
    exact ⟨mainLost_after rfl rfl rfl rfl rfl rfl, rfl, (State.after_dev ..).2.2.2.2.2.2.2.2.2.2.2.2.2.2.2.2.2.2.2.2.2.2.1⟩
  · refine Runs.rests (f := shutdownFailed) rfl (if_neg ?_)
    rintro ⟨h1, h2⟩
    rcases h with h | h
    · exact h h1
    · exact absurd (h.symm.trans h2) nofun

/-! ### Resets of the main domain (R162, R603, R605) -/

/-- A save leaves all but the metering, the flags of its copies and the bytes to be written (R395). -/
theorem saveCopy_eq (kind : Nat) (recs : List Byte) (frame cal : W64) (tag : Reg) (d : Dev) :
    saveCopy kind recs frame cal tag d = { d with
      wr := (saveCopy kind recs frame cal tag d).wr
      mt := { d.mt with
        saveSeq := d.mt.saveSeq + 1, newest := some d.mt.target, saveCnt := d.mt.saveCnt + 1, saveDue := none }
      bk := { d.bk with badA := d.bk.badA && d.mt.target, badB := d.bk.badB && !d.mt.target } } := by
  simp only [saveCopy, saveBegin, Dev.store]

/-- A tail leaves all but its flag and the bytes to be written (R474). -/
theorem tailStore_eq (t : TailCap) (d : Dev) :
    tailStore t d = { d with wr := (tailStore t d).wr, bk := { d.bk with badTail := false } } := by
  simp only [tailStore, Dev.store]

theorem restartReset_due {d : Dev} {k : RestartKind} (hk : d.pwr.restart = some k) (hw : d.restartWaits = false) :
    ∃ e : Dev, e.fuses = d.fuses ∧ e.flash = d.flash ∧
      (e.bk.cnt = d.bk.cnt ∧ e.bk.alarms = d.bk.alarms ∧ e.bk.valid = d.bk.valid) ∧
      restartReset d = { e.inReset with
        pwr := { e.inReset.pwr with marker := k == RestartKind.device 1 }, bk := e.inReset.bk } := by
  unfold restartReset
  rw [hk]
  dsimp only
  rw [if_neg (by simp [hw])]
  have hsave (d : Dev) : (tailRestart (restartSave d)).fuses = d.fuses ∧ (tailRestart (restartSave d)).flash = d.flash ∧
      (tailRestart (restartSave d)).bk.cnt = d.bk.cnt ∧ (tailRestart (restartSave d)).bk.alarms = d.bk.alarms ∧
      (tailRestart (restartSave d)).bk.valid = d.bk.valid := by
    rw [tailRestart, tailStore_eq, restartSave, saveCopy_eq]
    exact ⟨rfl, rfl, rfl, rfl, rfl⟩
  obtain ⟨hf, hl, hc, ha, hv⟩ := hsave (if d.sec.session = true then sessionRecord 2 false d else d)
  have hrec : (if d.sec.session = true then sessionRecord 2 false d else d).fuses = d.fuses ∧
      (if d.sec.session = true then sessionRecord 2 false d else d).flash = d.flash ∧
      (if d.sec.session = true then sessionRecord 2 false d else d).bk = d.bk := by
    split <;> simp [sessionRecord]
  obtain ⟨rf, rl, rb⟩ := hrec
  rw [rb] at hc ha hv
  exact ⟨_, hf.trans rf, hl.trans rl, ⟨hc, ha, hv⟩, rfl⟩

theorem restartReset_waits {d : Dev} (h : d.pwr.restart = none ∨ d.restartWaits = true) : restartReset d = d := by
  unfold restartReset
  rcases h with h | h
  · rw [h]
  · split
    · rfl
    · exact if_pos h

/-- A frame for the PHY takes no place in a port (R229). -/
theorem silent_mdio (s : State) (p : Power) (b : Bool) :
    s.after { s.dev.fresh0 with pwr := p, out := if b then [.mdio s.dev.net.mdio] else [] } =
      { s with dev := { s.dev with
        pwr := p, out := if b then [.mdio s.dev.net.mdio] else [], wire := [], wr := [] } } := by
  have hout (d : Dev) (h : d.out = if b then [.mdio s.dev.net.mdio] else []) : depart d = d := by
    unfold depart
    rw [h]
    cases b <;> simp [Dev.framesOf, Dev.directFrames]
  rw [State.after, hout _ rfl]
  rfl

/-- Settles O41: a pulse of 1 µs and a restart that is due put the main domain into reset. -/
theorem mainResets : Obligations.MainResets := by
  intro s
  refine ⟨fun ns h => ?_, fun ns h => ?_, fun k hs hk hw => ?_, fun hs h => ?_, fun hm hr => ?_, fun h => ?_⟩
  · exact ⟨s, if_pos h, rfl⟩
  · refine Runs.module (f := porstAssert) ?_ ⟨?_, ?_, rfl⟩
    · change execPorstAssert ns s = _
      rw [execPorstAssert, if_neg (by omega), if_neg (by omega)]
    · exact mainLost_after (d := s.dev.fresh0) rfl rfl rfl rfl rfl rfl
    · exact congrArg Power.porst (State.after_dev ..).2.2.2.2.2.2.2.2.2.2.2.2.2.2.2.2.2.2.2.2.2.2.2.2.2.1
  · obtain ⟨e, hf, hl, ⟨hc, ha, hv⟩, he⟩ := restartReset_due (d := s.dev.fresh0) hk hw
    refine Runs.mainM (f := fun _ => restartReset) rfl hs ?_
    have hd : (s.withSram fun _ => restartReset).dev = (s.after { e.inReset with
        pwr := { e.inReset.pwr with marker := k == RestartKind.device 1 }, bk := e.inReset.bk }).dev := by
      rw [← he]
      rfl
    refine ⟨?_, ?_⟩
    · have := mainLost_after (s := s) (d := e) (p := { e.inReset.pwr with marker := k == RestartKind.device 1 })
        (b := e.inReset.bk) rfl hf hl hc ha hv
      unfold mainLost at this ⊢
      rw [hd]
      exact this
    · rw [hd]
      simp
  · exact Runs.mainM (f := fun _ => restartReset) rfl hs (State.silent_withSram (restartReset_waits h))
  · refine Runs.module (f := resetOutRelease) rfl ?_
    have he : resetOutRelease s.dev.fresh0 = { s.dev.fresh0 with
        pwr := { s.dev.pwr with rstOut := false }, out := if s.dev.net.mdioBusy then [.mdio s.dev.net.mdio] else [] } := by
      refine (if_neg (by simp [hm, hr])).trans ?_
      unfold mdioDrive
      cases hb : s.dev.net.mdioBusy <;> simp [Dev.modPwr, Dev.fresh0, Dev.emit, hb]
    rw [he]
    exact silent_mdio s _ _
  · exact Runs.rests (f := resetOutRelease) rfl (if_pos h)

end Sys2Proof.Machine
end

section
/-!
The update unit and recovery mode: the ends of an erase and of a verification, and the five requests of the boot ROM.
-/
namespace Sys2Proof.Machine

/-- A command whose last act is a report: beside what the report writes, the module is as it was before it. -/
theorem frame_report (s : State) (e : Event) (b : Dev) : s.frame (s.after (report e b.fresh0)) b := by
  have hr : b.reportsTo (report e b.fresh0) := Dev.reportsTo_congr (report_reportsTo e b.fresh0) rfl rfl rfl
  have he : b.fresh0.reportsOnly (report e b.fresh0) := report_reportsOnly e b.fresh0
  have hw : (report e b.fresh0).wire = [] := by simp
  generalize report e b.fresh0 = a at hr he hw
  refine State.frame_of_eq hr ?_ hw
  rw [show a = _ from he]
  rfl

/-! ### The staging slot (R589, R591) -/

/-- What a frame says of the parts that reports leave alone. -/
theorem State.frame_keeps {s t : State} {d : Dev} (h : s.frame t d) :
    t.dev.tb = d.tb ∧ t.dev.ps = d.ps ∧ t.dev.cp = d.cp ∧ t.dev.ports = d.ports ∧ t.dev.net = d.net ∧
      t.dev.lines = d.lines ∧ t.dev.strands = d.strands ∧ t.dev.nodes = d.nodes ∧ t.dev.lg = d.lg ∧ t.dev.lp = d.lp ∧
      t.dev.mt = d.mt ∧ t.dev.cl = d.cl ∧ t.dev.diag = d.diag ∧ t.dev.ply = d.ply ∧ t.dev.sec = d.sec ∧
      t.dev.upd = d.upd ∧ t.dev.rcv = d.rcv ∧ t.dev.th = d.th ∧ t.dev.bk = d.bk ∧ t.dev.fuses = d.fuses ∧
      t.dev.flash = d.flash ∧ t.dev.pwr = d.pwr ∧ t.dev.fresh = d.fresh := by
  obtain ⟨h, -, -⟩ := h
  rw [h]
  exact ⟨rfl, rfl, rfl, rfl, rfl, rfl, rfl, rfl, rfl, rfl, rfl, rfl, rfl, rfl, rfl, rfl, rfl, rfl, rfl, rfl, rfl, rfl, rfl⟩

/-- A command of the running main domain that does nothing is silent. -/
theorem Runs.mainStays {i : Instr} {s : State} {f : Dev → Dev} (hx : exec i s = mainStep f s) (hs : s.up)
    (hf : f s.dev.fresh0 = s.dev.fresh0) : Runs i s (fun t => s.silent t s.dev) :=
  Runs.main hx hs (hf.symm ▸ State.silent_after s)

/-- A report after a new state of the update unit. -/
theorem upd_report (s : State) (e : Event) (u : Update) :
    let t := s.after (report e (s.dev.withUpd u).fresh0)
    t.dev.upd = u ∧ s.frame t { s.dev with upd := t.dev.upd } := by
  have hu : (s.after (report e (s.dev.withUpd u).fresh0)).dev.upd = u := by simp [Dev.withUpd]
  have hf := frame_report s e (s.dev.withUpd u)
  generalize s.after (report e (s.dev.withUpd u).fresh0) = t at hu hf
  refine ⟨hu, ?_⟩
  rw [hu]
  exact hf

theorem updateReject_eq (n : Nat) (d : Dev) : updateReject n d.fresh0 = report (ev 0x0F12 true 0 n)
    (d.withUpd { d.upd with st := .rejected, reason := BitVec.ofNat 8 n }).fresh0 := rfl

theorem updateErased_eq {d : Dev} (h : d.upd.st = .erasing) (b : Bool) :
    updateErased b d.fresh0 = if b then report (ev 0x0F10 false 0 0) (d.withUpd { d.upd with st := .opened }).fresh0
      else updateReject 10 d.fresh0 := by
  have h : d.fresh0.upd.st = .erasing := h
  rw [updateErased, if_neg (not_not.mpr h)]
  rfl

/-- A verified container is marked for the next boot (R591). -/
def Dev.staged (d : Dev) : Dev :=
  { d with
    flash := { d.flash with marker := true }
    upd := { d.upd with st := .staged, stagedVersion := (Image.bytes d.flash.staged).version } }

theorem updateVerified_eq {d : Dev} (h : d.upd.st = .verifying) (e : Bool) :
    updateVerified e d.fresh0 =
      if (if e then 10 else containerCheck d.flash.staged false d.fresh0) ≠ 0 then
        updateReject (if e then 10 else containerCheck d.flash.staged false d.fresh0) d.fresh0
      else report (ev 0x0F11 false 0 (Image.bytes d.flash.staged).version.toNat) d.staged.fresh0 := by
  have h : d.fresh0.upd.st = .verifying := h
  rw [updateVerified, if_neg (not_not.mpr h)]
  rfl

/-- Settles O40: the erase and the verification end once, with the state and the reason that the checks give. -/
theorem updateEnds : Obligations.UpdateEnds := by
  intro s hs r rejected
  refine ⟨fun h => ?_, fun h => ?_, fun b h => ?_, fun e h => ?_, fun e h => ?_⟩
  · refine Runs.main (f := updateErased true) rfl hs ?_
    rw [updateErased_eq h]
    exact upd_report s _ _
  · refine Runs.main (f := updateErased false) rfl hs ?_
    rw [updateErased_eq h]
    exact upd_report s _ _
  · exact Runs.mainStays (f := updateErased b) rfl hs (if_pos h)
  · refine Runs.main (f := updateVerified e) rfl hs ?_
    rw [updateVerified_eq h]
    refine ⟨fun hr => ?_, fun hr => ?_⟩
    · rw [if_pos hr]
      exact upd_report s _ _
    · rw [if_neg (not_not.mpr hr)]
      have hf := frame_report s (ev 0x0F11 false 0 (Image.bytes s.dev.flash.staged).version.toNat) s.dev.staged
      generalize s.after (report _ s.dev.staged.fresh0) = t at hf ⊢
      obtain ⟨-, -, -, -, -, -, -, -, -, -, -, -, -, -, -, hu, -, -, -, -, hl, -⟩ := State.frame_keeps hf
      refine ⟨hu, hl, ?_⟩
      rw [hu, hl]
      exact hf
  · exact Runs.mainStays (f := updateVerified e) rfl hs (if_pos h)

/-! ### Recovery requests (R598 to R600) -/

/-- A datagram that is no such request to this module does nothing (R598, R599). -/
theorem recServe_ignored {op : Nat} {m : RecoveryIn} {act : Recovery → List Byte → Dev → Nat × List Byte × Dev} {d : Dev}
    {r : Recovery} (h : d.rcv = some r) (ha : recAccepts op m r d = false) : recServe op m act d = d := by
  unfold recServe
  rw [h]
  exact if_pos (by simp [ha])

/-- A repeated SEQ is answered alike (R599). -/
theorem recServe_repeated {op : Nat} {m : RecoveryIn} {act : Recovery → List Byte → Dev → Nat × List Byte × Dev} {d : Dev}
    {r : Recovery} {body : List Byte} (h : d.rcv = some r) (ha : recAccepts op m r d = true)
    (hl : r.last = some (fld (recHead m) 16 16, body)) : recServe op m act d = recSend m body d := by
  unfold recServe
  rw [h]
  refine (if_neg (by simp [ha])).trans ?_
  dsimp only
  rw [hl]
  exact if_pos rfl

/-- A new request is executed, and its reply kept (R599, R600). -/
theorem recServe_new {op : Nat} {m : RecoveryIn} {act : Recovery → List Byte → Dev → Nat × List Byte × Dev} {d e : Dev}
    {r r' : Recovery} {st : Nat} {bs : List Byte} (h : d.rcv = some r) (ha : recAccepts op m r d = true)
    (hn : ∀ b, r.last ≠ some (fld (recHead m) 16 16, b)) (hlc : d.fuses.lifecycle ≠ 4 ∨ op = 1)
    (hact : act r (m.body.drop 16) d = (st, bs, e)) (he : e.rcv = some r') :
    recServe op m act d = recSend m (recReply m st bs d)
      { e with rcv := some { r' with last := some (fld (recHead m) 16 16, recReply m st bs d) } } := by
  have hrun : recServe.run op m act d r (fld (recHead m) 16 16) = recSend m (recReply m st bs d)
      { e with rcv := some { r' with last := some (fld (recHead m) 16 16, recReply m st bs d) } } := by
    unfold recServe.run
    rw [if_neg (by rintro ⟨h1, h2⟩; rcases hlc with h | h <;> contradiction), hact]
    dsimp only
    rw [he]
    rfl
  unfold recServe
  rw [h]
  refine (if_neg (by simp [ha])).trans ?_
  dsimp only
  split
  · next x b hx =>
    rw [if_neg (fun hx' => hn b (hx.trans (by rw [hx'])))]
    exact hrun
  · exact hrun

/-- A request is accepted with RESET_OUT_N high only (R605). -/
theorem recAccepts_out {op : Nat} {m : RecoveryIn} {r : Recovery} {d : Dev} (h : recAccepts op m r d = true) :
    d.pwr.rstOut = false := by
  simp only [recAccepts, Bool.and_eq_true, Bool.not_eq_true'] at h
  exact h.1.1.1.1.1.2

/-- A reply goes to the wire at once, past the queues of the ports (R598). -/
theorem recSend_after {s : State} {m : RecoveryIn} {body : List Byte} {e : Dev} (hw : e.wire = []) (ho : e.out = [])
    (hr : e.pwr.rstOut = false) : ∃ (src : BitVec 32) (f : EthFrame), f.dst = m.mac ∧ f.src = e.portMac 0 ∧
      s.after (recSend m body e) = { s with dev := { e with out := [.udp m.mac m.ip m.port src body], wire := [(0, f)], wr := [] } } := by
  let src := if m.dstMac = BitVec.allOnes 48 ∨ m.dstIp = BitVec.allOnes 32 then 0 else m.dstIp
  have hx : ∃ f : EthFrame, f.dst = m.mac ∧ f.src = e.portMac 0 ∧
      (recSend m body e).directFrames (.udp m.mac m.ip m.port src body) = [(0, f)] := ⟨_, rfl, rfl, rfl⟩
  obtain ⟨f, hd, hs, hf⟩ := hx
  refine ⟨src, f, hd, hs, ?_⟩
  have hout : (recSend m body e).out = [.udp m.mac m.ip m.port src body] := by
    show e.out ++ _ = _
    rw [ho]
    rfl
  have hrst : (recSend m body e).pwr.rstOut = false := hr
  have hwire : (recSend m body e).wire = [] := hw
  have he : recSend m body e = { e with out := (recSend m body e).out } := rfl
  generalize recSend m body e = g at hf hout hrst hwire he
  have hdep : depart g = { g with wire := [(0, f)] } := by
    unfold depart
    rw [hout, hrst]
    simp [hf, hwire, Dev.framesOf]
  rw [State.after, hdep, he, hout]

/-- What a new request leaves: its reply, kept and sent, beside the flash and the update unit (R599, R600). -/
def recAnswered (s t : State) (m : RecoveryIn) (st : Nat) (bs : List Byte) (r' : Recovery) : Prop :=
  (t = { s with dev := { s.dev with
      rcv := t.dev.rcv, flash := t.dev.flash, upd := t.dev.upd, wire := t.dev.wire, out := t.dev.out, wr := [] } }) ∧
    t.dev.rcv = some { r' with last := some (fld (recHead m) 16 16, recReply m st bs s.dev.fresh0) } ∧
    (∃ src, t.dev.out = [.udp m.mac m.ip m.port src (recReply m st bs s.dev.fresh0)]) ∧
    ∃ f : EthFrame, t.dev.wire = [(0, f)] ∧ f.dst = m.mac ∧ f.src = s.dev.fresh0.portMac 0

/-- The module with what a recovery request may write (R600). -/
def Dev.recovered (d : Dev) (r : Recovery) (fl : Flash) (u : Update) : Dev := { d with rcv := some r, flash := fl, upd := u }

/-- A new request is answered. -/
theorem Runs.recovery {i : Instr} {s : State} {op : Nat} {m : RecoveryIn} {r r' : Recovery} {st : Nat} {bs : List Byte}
    {fl : Flash} {u : Update} {act : Recovery → List Byte → Dev → Nat × List Byte × Dev}
    (hx : exec i s = moduleStep (recServe op m act) s) (h : s.dev.rcv = some r)
    (ha : recAccepts op m r s.dev.fresh0 = true) (hn : ∀ b, r.last ≠ some (fld (recHead m) 16 16, b))
    (hlc : s.dev.fuses.lifecycle ≠ 4 ∨ op = 1)
    (hact : act r (m.body.drop 16) s.dev.fresh0 = (st, bs, s.dev.fresh0.recovered r' fl u)) :
    Runs i s (fun t => recAnswered s t m st bs r' ∧ t.dev.flash = fl ∧ t.dev.upd = u) := by
  refine Runs.module hx ?_
  rw [recServe_new (d := s.dev.fresh0) h ha hn hlc hact rfl]
  obtain ⟨src, f, hd, hs, ht⟩ := recSend_after (s := s) (m := m) (body := recReply m st bs s.dev.fresh0)
    (e := s.dev.fresh0.recovered { r' with last := some (fld (recHead m) 16 16, recReply m st bs s.dev.fresh0) } fl u)
    rfl rfl (recAccepts_out ha)
  have ht : s.after (recSend m (recReply m st bs s.dev.fresh0) { s.dev.fresh0.recovered r' fl u with
      rcv := some { r' with last := some (fld (recHead m) 16 16, recReply m st bs s.dev.fresh0) } }) = _ := ht
  rw [ht]
  exact ⟨⟨rfl, rfl, ⟨src, rfl⟩, f, rfl, hd, hs⟩, rfl, rfl⟩

/-- A repeated request is answered alike and does nothing else (R599). -/
theorem Runs.recoveryRepeated {i : Instr} {s : State} {op : Nat} {m : RecoveryIn} {r : Recovery} {f : Dev → Dev}
    {body : List Byte} (hx : exec i s = moduleStep f s) (hf : f s.dev.fresh0 = recSend m body s.dev.fresh0)
    (ha : recAccepts op m r s.dev.fresh0 = true) :
    Runs i s (fun t => (∃ src, t.dev.out = [.udp m.mac m.ip m.port src body]) ∧
      t = { s with dev := { s.dev with wire := t.dev.wire, out := t.dev.out, wr := [] } }) := by
  refine Runs.module hx ?_
  obtain ⟨src, g, -, -, ht⟩ := recSend_after (s := s) (m := m) (body := body) (e := s.dev.fresh0) rfl rfl (recAccepts_out ha)
  rw [hf, ht]
  exact ⟨⟨src, rfl⟩, rfl⟩

/-! ### The five requests (R600) -/

/-- What BEGIN, DATA, END and IDENT do. -/
theorem recBegin_act {m : RecoveryIn} {len : Nat} (hb : m.body.drop 16 = leBytes 4 len) (hlo : 260 ≤ len)
    (hhi : len ≤ 25165824) (h4 : len % 4 = 0) : (m.body.drop 16).length = 4 ∧ leNat ((m.body.drop 16).take 4) = len := by
  have hl : (leBytes 4 len).length = 4 := by simp
  rw [hb, List.take_of_length_le (le_of_eq hl), leNat_leBytes]
  exact ⟨hl, Nat.mod_eq_of_lt (by omega)⟩

/-- A request that is not accepted does nothing, also BOOT (R598). -/
theorem recBoot_ignored {m : RecoveryIn} {d : Dev} {r : Recovery} (h : d.rcv = some r) (ha : recAccepts 5 m r d = false) :
    recBoot m d = d := by
  unfold recBoot
  rw [h]
  simp only [Option.any_some, ha, Bool.false_and, Bool.false_eq_true, if_false]
  exact recServe_ignored h ha

/-- A repeated BOOT is answered again only (R599). -/
theorem recBoot_repeated {m : RecoveryIn} {d : Dev} {r : Recovery} {body : List Byte} (h : d.rcv = some r)
    (ha : recAccepts 5 m r d = true) (hl : r.last = some (fld (recHead m) 16 16, body)) :
    recBoot m d = recSend m body d := by
  unfold recBoot
  rw [h]
  simp only [Option.any_some, hl, BEq.rfl, Bool.not_true, Bool.and_false, Bool.false_and, Bool.false_eq_true, if_false]
  exact recServe_repeated h ha hl

/-- A new BOOT puts the main domain into reset, once its reply is out (R600). -/
theorem recBoot_new {m : RecoveryIn} {d : Dev} {r : Recovery} (h : d.rcv = some r) (ha : recAccepts 5 m r d = true)
    (hn : ∀ b, r.last ≠ some (fld (recHead m) 16 16, b)) (hlc : d.fuses.lifecycle ≠ 4) (ho : d.out = []) :
    ∃ (e : Dev) (src : BitVec 32), e.fuses = d.fuses ∧ e.flash = d.flash ∧ e.bk = d.bk ∧
      recBoot m d = { e.inReset with out := [.udp m.mac m.ip m.port src (recReply m rvOk [] d)] } := by
  have hlast : r.last.any (fun l => l.1 == fld (recHead m) 16 16) = false := by
    cases hr : r.last with
    | none => rfl
    | some l =>
      simp only [Option.any_some, beq_eq_false_iff_ne]
      intro hl
      exact hn l.2 (hr.trans (by rw [← hl]))
  have hserve := recServe_new (act := fun _ _ d => (rvOk, [], d)) h ha hn (.inl hlc) rfl h
  refine ⟨depart (recServe 5 m (fun _ _ d => (rvOk, [], d)) d),
    if m.dstMac = BitVec.allOnes 48 ∨ m.dstIp = BitVec.allOnes 32 then 0 else m.dstIp, ?_, ?_, ?_, ?_⟩
  · rw [hserve]
    simp [recSend, Dev.emit]
  · rw [hserve]
    simp [recSend, Dev.emit]
  · rw [hserve]
    simp [recSend, Dev.emit]
  · unfold recBoot
    rw [h]
    simp only [Option.any_some, ha, hlast, hlc, Bool.not_false, Bool.and_true, ne_eq, not_false_eq_true, decide_true, if_true]
    have hout : (depart (recServe 5 m (fun _ _ d => (rvOk, [], d)) d)).out = [.udp m.mac m.ip m.port
        (if m.dstMac = BitVec.allOnes 48 ∨ m.dstIp = BitVec.allOnes 32 then 0 else m.dstIp) (recReply m rvOk [] d)] := by
      rw [hserve]
      simp [recSend, Dev.emit, ho]
    rw [hout]

/-- What a request that is no new one does, seen on the state (R598, R599). -/
theorem recovery_not_new {i : Instr} {s : State} {op : Nat} {m : RecoveryIn} {r : Recovery} {f : Dev → Dev}
    (hx : exec i s = moduleStep f s) (hign : recAccepts op m r s.dev.fresh0 = false → f s.dev.fresh0 = s.dev.fresh0)
    (hrep : ∀ body, recAccepts op m r s.dev.fresh0 = true → r.last = some (fld (recHead m) 16 16, body) →
      f s.dev.fresh0 = recSend m body s.dev.fresh0) :
    (recAccepts op m r s.dev.fresh0 = false → Runs i s (fun t => s.silent t s.dev)) ∧
      (∀ body, recAccepts op m r s.dev.fresh0 = true → r.last = some (fld (recHead m) 16 16, body) → Runs i s (fun t =>
        (∃ src, t.dev.out = [.udp m.mac m.ip m.port src body]) ∧
          t = { s with dev := { s.dev with wire := t.dev.wire, out := t.dev.out, wr := [] } })) :=
  ⟨fun h => Runs.rests hx (hign h), fun body ha hl => Runs.recoveryRepeated hx (hrep body ha hl) ha⟩

/-- The piece of a DATA request where nothing has been written is inserted (R600). -/
theorem recData_free {bs : List Byte} {st : List (Nat × List Byte)} {off : Nat} (h4 : 4 ≤ bs.length)
    (hfree : ∀ i, i < bs.length → stageAt st (off + i) = none) :
    ((((List.range bs.length).map (fun i => stageAt st (off + i))).zip bs).any
        (fun x => x.1.isSome && x.1 != some x.2) = false) ∧
      ((List.range bs.length).map (fun i => stageAt st (off + i))).all (·.isSome) = false := by
  have hnone : ∀ x ∈ (List.range bs.length).map (fun i => stageAt st (off + i)), x = none := by
    intro x hx
    obtain ⟨i, hi, rfl⟩ := List.mem_map.mp hx
    exact hfree i (List.mem_range.mp hi)
  refine ⟨List.any_eq_false.mpr fun x hx => ?_, List.all_eq_false.mpr ⟨none, ?_, by simp⟩⟩
  · rw [hnone x.1 (List.of_mem_zip hx).1]
    simp
  · exact List.mem_map.mpr ⟨0, List.mem_range.mpr (by omega), hfree 0 (by omega)⟩

/-- Settles O44: what is no such request is ignored, a repeated one answered alike, a new one does what R600 says. -/
theorem recoveryRequests : Obligations.RecoveryRequests := by
  intro s r m hr d seq new alive answered only
  have hr : d.rcv = some r := hr
  have hrec (fl : Flash) (u : Update) : { d with flash := fl, upd := u } = d.recovered r fl u := by
    unfold Dev.recovered
    rw [← hr]
  have hsame : d.recovered r s.dev.flash s.dev.upd = d := (hrec _ _).symm
  refine ⟨?_, ?_, fun h => ?_, fun len h hlc hb hlo hhi h4 he => ?_, fun len h hlc hlen hers => ?_, fun h hlc hlen hfull => ?_,
    fun h hlc => ?_, ?_⟩
  · refine Runs.module (f := recoverySearch) rfl (State.silent_of_eq ?_)
    unfold recoverySearch
    rw [show s.dev.fresh0.rcv = some r from hr]
    rfl
  · refine Runs.module (f := recoveryErased) rfl (State.silent_of_eq ?_)
    unfold recoveryErased
    rw [show s.dev.fresh0.rcv = some r from hr]
    rfl
  · obtain ⟨t, hx, ⟨ho, ha⟩, hf, hu⟩ := Runs.recovery (i := .recoveryIdent m) (r' := r) (fl := s.dev.flash) (u := s.dev.upd)
      rfl hr h.1 h.2 (.inr rfl) (by rw [hsame])
    exact ⟨t, hx, ho, hf, hu, ha⟩
  · obtain ⟨hl, hle⟩ := recBegin_act hb hlo hhi h4
    obtain ⟨t, hx, ⟨ho, ha⟩, hf, -⟩ := Runs.recovery (i := .recoveryBegin m)
      (r' := { r with len := some len, erasing := true })
      (fl := { s.dev.flash with staging := [], stagingLen := len, marker := false })
      (u := { s.dev.upd with stagedVersion := 0, written := 0 }) rfl hr h.1 h.2 (.inl hlc) (by
        dsimp only
        rw [hle, if_neg (by omega), if_neg (by simp [he])]
        rfl)
    exact ⟨t, hx, ho, hf, ha⟩
  · intro off bs h1 h2 h3 he hfree
    obtain ⟨hover, hall⟩ := recData_free h1 hfree
    obtain ⟨t, hx, ⟨ho, ha⟩, hf, -⟩ := Runs.recovery (i := .recoveryData m) (r' := r)
      (fl := { s.dev.flash with staging := stageInsert off bs s.dev.flash.staging })
      (u := { s.dev.upd with written := s.dev.upd.written + BitVec.ofNat 32 bs.length }) rfl hr h.1 h.2 (.inl hlc) (by
        dsimp only
        rw [hlen]
        dsimp only
        refine (if_neg (by simp [hers])).trans ((if_neg ?_).trans ((if_neg (ne_true_of_eq_false hover)).trans
          ((if_neg (ne_true_of_eq_false hall)).trans ((if_neg (by simp [he])).trans ?_))))
        · change ¬(bs.length < 4 ∨ bs.length % 4 ≠ 0 ∨ len < off + bs.length)
          omega
        · rw [← hrec]
          rfl)
    refine ⟨t, hx, ho, ha, ?_, fun i hi => ?_⟩
    · rw [hf]
    · rw [hf]
      have hnone := hfree i hi
      simp only [stageAt, Option.map_eq_none_iff, List.find?_eq_none] at hnone
      unfold stageAt
      rw [find_stageInsert (by simp only [decide_eq_true_eq]; omega) _ (fun x hx => by simpa using hnone x hx)]
      simp [hi]
  · have hrej : r.len ≠ none := by simpa [Option.isSome_iff_ne_none] using hlen
    have hcond : ¬ (r.len = none ∨ d.flash.stagingFull = false) := by
      rintro (h | h)
      · exact hrej h
      · exact Bool.false_ne_true (h.symm.trans hfull)
    by_cases hk : (if m.flashErr then 10 else containerCheck s.dev.flash.staged true d) = 0
    · obtain ⟨t, hx, ⟨ho, ha⟩, hf, -⟩ := Runs.recovery (i := .recoveryEnd m) (r' := r) (st := rvOk) (bs := [])
        (fl := { s.dev.flash with active := .bytes s.dev.flash.staged }) (u := s.dev.upd) rfl hr h.1 h.2 (.inl hlc) (by
          dsimp only
          rw [if_neg hcond]
          refine (if_neg (not_not.mpr hk)).trans ?_
          rw [← hrec]
          rfl)
      exact ⟨t, hx, ho, fun hne => absurd hk hne, fun _ => ⟨hf, ha⟩⟩
    · obtain ⟨t, hx, ⟨ho, ha⟩, hf, -⟩ := Runs.recovery (i := .recoveryEnd m) (r' := r) (st := rvRejected)
        (bs := [BitVec.ofNat 8 (if m.flashErr then 10 else containerCheck s.dev.flash.staged true d)])
        (fl := s.dev.flash) (u := s.dev.upd) rfl hr h.1 h.2 (.inl hlc) (by
          dsimp only
          rw [if_neg hcond, hsame]
          exact if_pos hk)
      exact ⟨t, hx, ho, fun _ => ⟨hf, ha⟩, fun h0 => absurd h0 hk⟩
  · obtain ⟨e, src, hf, hl, hbk, he⟩ := recBoot_new (d := d) hr h.1 h.2 hlc rfl
    refine Runs.module (f := recBoot m) rfl ?_
    rw [he]
    refine ⟨mainLost_after (d := { e with out := [.udp m.mac m.ip m.port src (recReply m rvOk [] d)] }) (p := e.inReset.pwr)
      (b := e.inReset.bk) rfl hf hl ?_ ?_ ?_, ?_, src, ?_⟩
    · exact (congrArg Backup.cnt hbk : e.bk.cnt = d.bk.cnt)
    · exact (congrArg Backup.alarms hbk : e.bk.alarms = d.bk.alarms)
    · exact (congrArg Backup.valid hbk : e.bk.valid = d.bk.valid)
    · simp only [State.after_dev]
      rfl
    · simp only [State.after_dev]
  · intro op i hi
    simp only [List.mem_cons, List.not_mem_nil, or_false, Prod.mk.injEq] at hi
    rcases hi with ⟨rfl, rfl⟩ | ⟨rfl, rfl⟩ | ⟨rfl, rfl⟩ | ⟨rfl, rfl⟩ | ⟨rfl, rfl⟩
    · exact recovery_not_new (f := recIdent m) rfl (recServe_ignored hr) (fun _ => recServe_repeated hr)
    · exact recovery_not_new (f := recBegin m) rfl (recServe_ignored hr) (fun _ => recServe_repeated hr)
    · exact recovery_not_new (f := recData m) rfl (recServe_ignored hr) (fun _ => recServe_repeated hr)
    · exact recovery_not_new (f := recEnd m) rfl (recServe_ignored hr) (fun _ => recServe_repeated hr)
    · exact recovery_not_new (f := recBoot m) rfl (recBoot_ignored hr) (fun _ => recBoot_repeated hr)

end Sys2Proof.Machine
end

section
/-!
The current loops: conditions, HART transactions, and a damaged channel entry.
-/
namespace Sys2Proof.Machine

/-! ### One channel alone -/

/-- Beside channel `k`, which is `x` now, what reports write and what goes out, nothing has changed. -/
def Dev.onCloop (d : Dev) (k : Nat) (x : CLoop) (a : Dev) : Prop :=
  a.cloop k = x ∧ (∀ j, j ≠ k → a.cloop j = d.cloop j) ∧ d.reportsTo a ∧
    a = { d with cl := a.cl, tr := a.tr, rcd := a.rcd, flt := a.flt, out := a.out, wire := [], wr := a.wr }

theorem setCloop_onCloop (d : Dev) (k : Nat) (x : CLoop) : d.onCloop k x (d.fresh0.setCloop k x) := by
  refine ⟨?_, fun j hj => ?_, Dev.reportsTo_of_eq rfl rfl rfl, rfl⟩
  · rw [Dev.cloop_setCloop, if_pos rfl]
  · rw [Dev.cloop_setCloop, if_neg hj]
    rfl

theorem Dev.onCloop_set {d a : Dev} {k : Nat} {x : CLoop} (h : d.onCloop k x a) (y : CLoop) :
    d.onCloop k y (a.setCloop k y) := by
  obtain ⟨-, hother, hr, he⟩ := h
  refine ⟨?_, fun j hj => ?_, Dev.reportsTo_trans hr (Dev.reportsTo_of_eq rfl rfl rfl), ?_⟩
  · rw [Dev.cloop_setCloop, if_pos rfl]
  · rw [Dev.cloop_setCloop, if_neg hj]
    exact hother j hj
  · exact congrArg (fun z : Dev => z.setCloop k y) he |>.trans (by rw [Dev.setCloop, Dev.setCloop])

theorem Dev.onCloop_said {d a b : Dev} {k : Nat} {x : CLoop} (h : d.onCloop k x a) (hr : a.reportsTo b)
    (ho : a.reportsOnly b) : d.onCloop k x b := by
  obtain ⟨hk, hother, hr', he⟩ := h
  have hcl : b.cl = a.cl := by rw [show b = _ from ho]
  have hc (j : Nat) : b.cloop j = a.cloop j := by unfold Dev.cloop; rw [hcl]
  refine ⟨(hc k).trans hk, fun j hj => (hc j).trans (hother j hj), Dev.reportsTo_trans hr' hr, ?_⟩
  rw [show b = _ from ho, he]

theorem report_onCloop {d a : Dev} {k : Nat} {x : CLoop} (h : d.onCloop k x a) (e : Event) : d.onCloop k x (report e a) :=
  Dev.onCloop_said h (report_reportsTo e a) (report_reportsOnly e a)

theorem reportAll_onCloop {d a : Dev} {k : Nat} {x : CLoop} (h : d.onCloop k x a) (es : List Event) :
    d.onCloop k x (reportAll es a) := Dev.onCloop_said h (reportAll_reportsTo es a) (reportAll_reportsOnly es a)

theorem emit_onCloop {d a : Dev} {k : Nat} {x : CLoop} (h : d.onCloop k x a) (m : OutMsg) : d.onCloop k x (a.emit m) := by
  obtain ⟨hk, hother, hr, he⟩ := h
  refine ⟨hk, hother, Dev.reportsTo_trans hr (Dev.reportsTo_of_eq rfl rfl rfl), ?_⟩
  rw [he]
  rfl

/-- A command that changes one channel, seen on the state after it. -/
theorem onCloop_after {s : State} {k : Nat} {x : CLoop} {a : Dev} (h : s.dev.onCloop k x a) :
    ((∀ j, j ≠ k → (s.after a).dev.cloop j = s.dev.cloop j) ∧
      s.frame (s.after a) { s.dev with cl := (s.after a).dev.cl }) ∧ (s.after a).dev.cloop k = x := by
  obtain ⟨hk, hother, hr, he⟩ := h
  have ht : (s.after a).dev.cl = a.cl := (State.after_dev ..).2.2.2.2.2.2.2.2.2.2.2.2.1
  have hc (j : Nat) : (s.after a).dev.cloop j = a.cloop j := by unfold Dev.cloop; rw [ht]
  refine ⟨⟨fun j hj => (hc j).trans (hother j hj), ?_⟩, (hc k).trans hk⟩
  rw [ht]
  refine State.frame_of_eq (b := { s.dev with cl := a.cl }) (Dev.reportsTo_congr hr rfl rfl rfl) ?_ (by rw [he])
  rw [he]

/-- A command that writes one channel and says nothing is silent. -/
theorem silent_cloop (s : State) (k : Nat) (x : CLoop) :
    s.silent (s.after (s.dev.fresh0.setCloop k x)) { s.dev with cl := (s.after (s.dev.fresh0.setCloop k x)).dev.cl } := by
  rw [(State.after_dev ..).2.2.2.2.2.2.2.2.2.2.2.2.1]
  exact State.silent_of_eq rfl

/-! ### Transactions (R422 to R425) -/

/-- A channel with a request sent: counted, and in the output role modulating its demand (R422). -/
def CLoop.sent (c : CLoop) : CLoop :=
  { c with txCnt := c.txCnt + 1, tone := if c.role = 2 then c.hartFrame.map (fun f => ⟨f.bits, 0, 0⟩) else none }

/-- A transaction under way has a frame, with the channel's preambles and swing; that of a poll is command 3 (R422, R423). -/
theorem hartFrame_of_trans {c : CLoop} (h : c.trans ≠ none) : ∃ f, c.hartFrame = some f ∧ f.preambles = c.preambles ∧
    f.swing = (if c.role = 2 then some 500 else none) ∧
    ∀ a, c.trans = some (.poll a) → f.long = false ∧ f.addr = BitVec.ofNat 40 a ∧ f.cmd = 3 ∧ f.data = [] := by
  unfold CLoop.hartFrame
  cases ht : c.trans with
  | none => exact absurd ht h
  | some x =>
    cases x with
    | mailbox => exact ⟨_, rfl, rfl, rfl, nofun⟩
    | poll b =>
      refine ⟨_, rfl, rfl, rfl, ?_⟩
      rintro a ⟨⟩
      exact ⟨rfl, rfl, rfl, rfl⟩

/-- A request of a transaction under way goes out once (R422). -/
theorem hartTransmit_after {s : State} {k : Nat} {c : CLoop} (h : c.trans ≠ none) :
    let t := s.after (hartTransmit k (s.dev.fresh0.setCloop k c))
    (((∀ j, j ≠ k → t.dev.cloop j = s.dev.cloop j) ∧ s.frame t { s.dev with cl := t.dev.cl }) ∧
        t.dev.cloop k = { c with txCnt := c.txCnt + 1, tone := (t.dev.cloop k).tone }) ∧
      ∃ f, (t.dev.cloop k).hartFrame = some f ∧ t.dev.out = [.hart k f] ∧ f.preambles = c.preambles ∧
        f.swing = (if c.role = 2 then some 500 else none) ∧
        (t.dev.cloop k).tone = (if c.role = 2 then some ⟨f.bits, 0, 0⟩ else none) ∧
        ∀ a, (t.dev.cloop k).trans = some (.poll a) → f.long = false ∧ f.addr = BitVec.ofNat 40 a ∧ f.cmd = 3 ∧ f.data = [] := by
  obtain ⟨f, hf, hp, hs, hpoll⟩ := hartFrame_of_trans h
  have he : hartTransmit k (s.dev.fresh0.setCloop k c) =
      ((s.dev.fresh0.setCloop k c).setCloop k c.sent).emit (.hart k f) := by
    unfold hartTransmit
    rw [Dev.cloop_setCloop, if_pos rfl]
    dsimp only
    rw [hf]
    unfold CLoop.sent
    rw [hf]
  intro t
  have hon := onCloop_after (emit_onCloop (Dev.onCloop_set (setCloop_onCloop s.dev k c) c.sent) (.hart k f))
  have ht : t = s.after (((s.dev.fresh0.setCloop k c).setCloop k c.sent).emit (.hart k f)) := congrArg s.after he
  have hout : t.dev.out = [.hart k f] := by
    rw [ht]
    simp [Dev.emit]
  rw [← ht] at hon
  refine ⟨⟨hon.1, by rw [hon.2]; rfl⟩, f, ?_, hout, hp, hs, ?_, ?_⟩
  · rw [hon.2]
    exact hf
  · rw [hon.2]
    unfold CLoop.sent
    rw [hf]
    rfl
  · rw [hon.2]
    exact hpoll

/-- The condition that the runs give replaces another one (R417). -/
theorem clCondition_changes {k : Nat} {d : Dev} (h : (d.cloop k).condDue ≠ (d.cloop k).cond) :
    ∃ es, clCondition k d = reportAll es (d.setCloop k { d.cloop k with
      cond := (d.cloop k).condDue, clFlag := (d.cloop k).flagOf (d.cloop k).condDue
      drvOff := (d.cloop k).drvOff || ((d.cloop k).condDue == .reversed && (d.cloop k).role == 2)
      drv := if (d.cloop k).condDue = .reversed ∧ (d.cloop k).role = 2 then 0 else (d.cloop k).drv }) := by
  unfold clCondition
  dsimp only
  rw [if_neg h]
  simp only [Bool.and_eq_true, beq_iff_eq]
  exact ⟨_, rfl⟩

/-- A transaction begins with the waiting mailbox request, or else with the next address of the poll (R423, R424). -/
theorem hartStart_mailbox {k : Nat} {d : Dev} (hin : (d.cloop k).inHart = true) (ht : (d.cloop k).trans = none)
    (hm : (d.cloop k).mbState = .pending) : hartStart k d =
      hartTransmit k (d.setCloop k { d.cloop k with mbState := .busy, trans := some .mailbox, retries := 0 }) :=
  (if_neg (by simp [hin, ht])).trans (if_pos hm)

theorem hartStart_poll {k a : Nat} {d : Dev} (hin : (d.cloop k).inHart = true) (ht : (d.cloop k).trans = none)
    (hm : (d.cloop k).mbState ≠ .pending) (hn : (d.cloop k).nextPoll = some a) : hartStart k d =
      hartTransmit k (d.setCloop k { d.cloop k with trans := some (.poll a), lastPoll := a, retries := 0 }) := by
  refine (if_neg (by simp [hin, ht])).trans ((if_neg hm).trans ?_)
  rw [hn]

theorem hartStart_idle {k : Nat} {d : Dev} (h : (d.cloop k).inHart = false ∨ (d.cloop k).trans ≠ none ∨
    ((d.cloop k).mbState ≠ .pending ∧ (d.cloop k).nextPoll = none)) : hartStart k d = d := by
  by_cases hgo : (!(d.cloop k).inHart || (d.cloop k).trans.isSome) = true
  · exact if_pos hgo
  · simp only [Bool.or_eq_true, Bool.not_eq_true', not_or, Bool.not_eq_false, Bool.not_eq_true, Option.isSome_eq_false_iff,
      Option.isNone_iff_eq_none] at hgo
    rcases h with h | h | ⟨hm, hn⟩
    · exact absurd (h.symm.trans hgo.1) nofun
    · exact absurd hgo.2 h
    · refine (if_neg (by simp [hgo.1, hgo.2])).trans ((if_neg hm).trans ?_)
      rw [hn]

/-- The reply to the mailbox request (R424). -/
theorem hartReply_mailbox {k : Nat} {d : Dev} (ht : (d.cloop k).trans = some .mailbox) (cmd resp devst : Nat)
    (bytes : List Byte) : ∃ e, hartReply k cmd resp devst bytes d = report e (d.setCloop k { d.cloop k with
      trans := none, mbState := .done, mbCmd := BitVec.ofNat 16 cmd, mbResp := BitVec.ofNat 8 resp
      mbDevst := BitVec.ofNat 8 devst, mbLen := BitVec.ofNat 8 bytes.length
      mbTrunc := decide (160 < bytes.length), mbData := bytes.take 160, mbSeq := (d.cloop k).mbSeq + 1 }) := by
  unfold hartReply
  dsimp only
  rw [ht]
  exact ⟨_, rfl⟩

/-- A poll takes a reply of command 3 with its nine data bytes only (R425). -/
theorem hartReply_stray {k a : Nat} {d : Dev} (ht : (d.cloop k).trans = some (.poll a)) {cmd : Nat} {bytes : List Byte}
    (h : cmd ≠ 3 ∨ bytes.length < 9) (resp devst : Nat) : hartReply k cmd resp devst bytes d = d := by
  unfold hartReply
  dsimp only
  rw [ht]
  exact if_pos h

theorem hartReply_poll {k a : Nat} {d : Dev} (ht : (d.cloop k).trans = some (.poll a)) {bytes : List Byte}
    (h : 9 ≤ bytes.length) (resp devst : Nat) : ∃ es, hartReply k 3 resp devst bytes d = reportAll es (d.setCloop k
      { d.cloop k with
        trans := none, missed := tset 0 (d.cloop k).missed a 0
        hartDue := (d.cloop k).hartDue ++ [(a, some (BitVec.ofNat 64 (beNat (slice bytes 5 4))),
          if devst / 128 % 2 = 1 then 2 else 0, if devst / 128 % 2 = 1 then 0x81 else 0, d.cal)] }) := by
  unfold hartReply
  dsimp only
  rw [ht]
  dsimp only
  rw [if_neg (by omega)]
  simp only [beq_iff_eq]
  split
  · exact ⟨[ev 0x0A0A false k a], rfl⟩
  · exact ⟨[], rfl⟩

theorem hartReply_idle {k : Nat} {d : Dev} (ht : (d.cloop k).trans = none) (cmd resp devst : Nat) (bytes : List Byte) :
    hartReply k cmd resp devst bytes d = d := by
  unfold hartReply
  dsimp only
  rw [ht]

/-- A request is sent again while retries are left (R422). -/
theorem hartRetry_again {k : Nat} {d : Dev} (ht : (d.cloop k).trans ≠ none) (hr : (d.cloop k).retries < (d.cloop k).hretry) :
    hartRetry k d = hartTransmit k (d.setCloop k { d.cloop k with
      retries := (d.cloop k).retries + 1, errCnt := (d.cloop k).errCnt + 1 }) :=
  if_pos (by simp [hr, Option.isSome_iff_ne_none, ht])

theorem hartRetry_idle {k : Nat} {d : Dev} (h : (d.cloop k).trans = none ∨ (d.cloop k).hretry ≤ (d.cloop k).retries) :
    hartRetry k d = d := by
  refine if_neg ?_
  rcases h with h | h <;> simp [h]

/-- After the retries a transaction ends without a reply (R424, R425). -/
theorem hartNoReply_mailbox {k : Nat} {d : Dev} (ht : (d.cloop k).trans = some .mailbox)
    (hr : (d.cloop k).hretry ≤ (d.cloop k).retries) (bad : Bool) : ∃ e, hartNoReply k bad d = report e (d.setCloop k
      { d.cloop k with
        trans := none, errCnt := (d.cloop k).errCnt + 1, mbState := if bad then .badFrame else .noReply }) := by
  unfold hartNoReply
  dsimp only
  rw [if_neg (by simpa using hr), ht]
  exact ⟨_, rfl⟩

theorem hartNoReply_poll {k a : Nat} {d : Dev} (ht : (d.cloop k).trans = some (.poll a))
    (hr : (d.cloop k).hretry ≤ (d.cloop k).retries) (bad : Bool) :
    ∃ es, hartNoReply k bad d = reportAll es (d.setCloop k { d.cloop k with
        trans := none, errCnt := (d.cloop k).errCnt + 1
        missed := tset 0 (d.cloop k).missed a (min (tget 0 (d.cloop k).missed a + 1) 255)
        hartDue := (d.cloop k).hartDue ++ [(a, none,
          if (d.cloop k).hlost ≤ min (tget 0 (d.cloop k).missed a + 1) 255 then 2 else 1,
          if (d.cloop k).hlost ≤ min (tget 0 (d.cloop k).missed a + 1) 255 then 0x08 else 0x07, d.cal)] }) := by
  unfold hartNoReply
  dsimp only
  rw [if_neg (by simpa using hr), ht]
  simp only [decide_eq_true_eq]
  split
  · exact ⟨[ev 0x0A09 true k a], rfl⟩
  · exact ⟨[], rfl⟩

theorem hartNoReply_idle {k : Nat} {d : Dev} (h : (d.cloop k).trans = none ∨ (d.cloop k).retries < (d.cloop k).hretry)
    (bad : Bool) : hartNoReply k bad d = d := by
  by_cases hr : (d.cloop k).retries < (d.cloop k).hretry
  · exact if_pos (decide_eq_true hr)
  · refine (if_neg (by simpa using hr)).trans ?_
    rw [h.resolve_right hr]

/-! ### A damaged entry (R428) -/

/-- What every step of a fold makes of its own object reaches every object that the fold names. -/
theorem foldl_reaches {α : Type} {f : Dev → α → Dev} {key : α → Nat} {Pre Good : Point → Prop}
    (hst : ∀ d x, Dev.stores (· = key x) d (f d x))
    (hmark : ∀ d x, Pre (d.point (key x)) → Pre ((f d x).point (key x)) ∧ Good ((f d x).point (key x)))
    (xs : List α) (d : Dev) {p : Nat} (hp : Pre (d.point p)) :
    p ∈ xs.map key ∨ Good (d.point p) → Good ((xs.foldl f d).point p) := by
  induction xs generalizing d with
  | nil => exact fun h => h.resolve_left nofun
  | cons x xs ih =>
    intro h
    by_cases hx : p = key x
    · subst hx
      exact ih (f d x) (hmark d x hp).1 (.inr (hmark d x hp).2)
    · have hstay := (hst d x).1 p hx
      refine ih (f d x) (by rwa [hstay]) ?_
      rw [hstay]
      rcases h with h | h
      · exact .inl ((List.mem_cons.mp h).resolve_left hx)
      · exact .inr h

/-- A point that its producer may write takes the quality that the producer sets (R98). -/
theorem produceQ_marks {p : Nat} {q : BitVec 2} {det : BitVec 8} {cal : W64} {d : Dev}
    (h : (d.point p).quarantined = false ∧ (d.point p).subst = false) :
    (((produceQ p q det cal d).point p).quarantined = false ∧ ((produceQ p q det cal d).point p).subst = false) ∧
      ((produceQ p q det cal d).point p).quality = q ∧ ((produceQ p q det cal d).point p).detail = det := by
  have he : (produceQ p q det cal d).point p =
      (d.point p).stored { d.point p with quality := q, detail := det } cal := by
    unfold produceQ
    dsimp only
    rw [if_neg (by simp [h]), storePoint_point_eq, if_pos rfl]
  obtain ⟨-, hq, hd, -, -, -, hs, -, hr, -⟩ := Point.stored_keeps (d.point p) { d.point p with quality := q, detail := det } cal
  rw [he]
  exact ⟨⟨hr.trans h.1, hs.trans h.2⟩, hq, hd⟩

/-- Points whose producer is damaged turn BAD with MEMORY, each at its own moment. -/
theorem foldl_produceQ_bad (ps : List Nat) (d : Dev) {p : Nat} (hp : p ∈ ps) (hq : (d.point p).quarantined = false)
    (hs : (d.point p).subst = false) :
    ((ps.foldl (fun d p => produceQ p 2 0x0C d.cal d) d).point p).quality = 2 ∧
      ((ps.foldl (fun d p => produceQ p 2 0x0C d.cal d) d).point p).detail = 0x0C :=
  foldl_reaches (key := id) (Pre := fun x => x.quarantined = false ∧ x.subst = false)
    (Good := fun x => x.quality = 2 ∧ x.detail = 0x0C) (fun _ _ => produceQ_stores ..) (fun _ _ => produceQ_marks) ps d
    ⟨hq, hs⟩ (.inl (by simpa using hp))

/-- A counted memory error stands on both sides of a report. -/
theorem countUncorr_reportsTo {a b : Dev} (h : a.reportsTo b) : (countUncorr a).reportsTo (countUncorr b) := by
  obtain ⟨hc, ht, hr, hf⟩ := h
  refine ⟨hc, ht, hr, ?_⟩
  unfold countUncorr
  dsimp only
  rw [hf]

/-- The entry of a damaged channel (R428). -/
def CLoop.damaged (c : CLoop) : CLoop :=
  { c with
    cfg := c.cfg &&& ~~~(putB 2048 0 true), drvOff := true, drv := 0, trans := none, tone := none, memBad := true
    clFlag := false
    hartDue := [] }

/-- The points of a damaged channel. -/
def clBad (k : Nat) (d : Dev) : Dev := (d.clPoints k).foldl (fun d p => produceQ p 2 0x0C d.cal d) d

theorem clBad_stores (k : Nat) (d : Dev) : d.stores (fun _ => True) (clBad k d) :=
  foldl_stores (fun _ _ => Dev.stores_mono (produceQ_stores ..) (fun _ _ => trivial)) _ d

theorem clMemory_eq (k : Nat) (d : Dev) :
    clMemory k d = report (ev 0x0A0B true k 0) (countUncorr ((clBad k d).setCloop k (d.cloop k).damaged)) := rfl

/-- What a damaged unit leaves of the module `s` held: the count, and what `e`, a module whose points alone have changed,
holds with its own unit changed (`g`). -/
theorem memory_after {s : State} {P : Nat → Prop} {e g a : Dev} {ev : Event} (hst : s.dev.fresh0.stores P e)
    (htr : g.tr = e.tr) (hrcd : g.rcd = e.rcd) (hflt : g.flt = e.flt) (ha : a = report ev (countUncorr g)) :
    a.flt.eccUncorr = satAdd s.dev.flt.eccUncorr 1 ∧
      ({ s.dev with flt := { s.dev.flt with eccUncorr := a.flt.eccUncorr } } : Dev).reportsTo a ∧
      a = { g with tr := a.tr, rcd := a.rcd, flt := a.flt } := by
  obtain ⟨-, hr, -⟩ := hst
  have hsay : (countUncorr s.dev.fresh0).reportsTo a := by
    rw [ha]
    refine Dev.reportsTo_trans (countUncorr_reportsTo (Dev.reportsTo_trans hr ?_)) (report_reportsTo _ _)
    exact Dev.reportsTo_of_eq htr hrcd hflt
  have hcnt : a.flt.eccUncorr = satAdd s.dev.flt.eccUncorr 1 := by
    rw [congrArg FaultRegs.eccUncorr hsay.2.2.2]
    rfl
  have honly : (countUncorr g).reportsOnly a := ha ▸ report_reportsOnly ev (countUncorr g)
  refine ⟨hcnt, ?_, honly⟩
  rw [hcnt]
  exact Dev.reportsTo_congr hsay rfl rfl rfl

/-- A damaged entry, seen on the state after it. -/
theorem clMemory_after (s : State) (k : Nat) :
    let t := s.after (clMemory k s.dev.fresh0)
    t.dev.cloop k = (s.dev.cloop k).damaged ∧ (∀ j, j ≠ k → t.dev.cloop j = s.dev.cloop j) ∧
      t.dev.flt.eccUncorr = satAdd s.dev.flt.eccUncorr 1 ∧
      (∀ p ∈ s.dev.clPoints k, (s.dev.point p).quarantined = false → (s.dev.point p).subst = false →
        (t.dev.point p).quality = 2 ∧ (t.dev.point p).detail = 0x0C) ∧
      s.frame t { s.dev with
        cl := t.dev.cl, flt := { s.dev.flt with eccUncorr := t.dev.flt.eccUncorr }
        ps := { s.dev.ps with points := t.dev.ps.points, alarms := t.dev.ps.alarms, subs := t.dev.ps.subs } } := by
  have hst := clBad_stores k s.dev.fresh0
  have hbad (p : Nat) (hp : p ∈ s.dev.clPoints k) (hq : (s.dev.point p).quarantined = false)
      (hs : (s.dev.point p).subst = false) : ((clBad k s.dev.fresh0).point p).quality = 2 ∧
      ((clBad k s.dev.fresh0).point p).detail = 0x0C := foldl_produceQ_bad (s.dev.clPoints k) s.dev.fresh0 hp hq hs
  intro t
  obtain ⟨hcnt, hsay, honly⟩ := memory_after (g := (clBad k s.dev.fresh0).setCloop k (s.dev.cloop k).damaged) hst rfl rfl rfl
    (clMemory_eq k s.dev.fresh0)
  obtain ⟨-, -, he⟩ := hst
  have ht : t = s.after (clMemory k s.dev.fresh0) := rfl
  generalize clMemory k s.dev.fresh0 = a at hcnt hsay honly ht
  generalize clBad k s.dev.fresh0 = e at he hbad honly
  have hk (j : Nat) : t.dev.cloop j = (e.setCloop k (s.dev.cloop k).damaged).cloop j := by
    have hcl : a.cl = (e.setCloop k (s.dev.cloop k).damaged).cl := by rw [honly]
    have htc : t.dev.cl = (e.setCloop k (s.dev.cloop k).damaged).cl := by
      rw [ht, (State.after_dev ..).2.2.2.2.2.2.2.2.2.2.2.2.1, hcl]
    exact congrArg (fun x => tget CLoop.reset x j) htc
  have hps : t.dev.ps = e.ps := by
    rw [ht, (State.after_dev ..).2.1, honly]
    rfl
  have hother (j : Nat) : e.cloop j = s.dev.cloop j := by rw [he]; rfl
  have hflt : t.dev.flt = a.flt := by rw [ht]; simp
  refine ⟨?_, fun j hj => ?_, ?_, fun p hp hq hs => ?_, ?_⟩
  · rw [hk k, Dev.cloop_setCloop, if_pos rfl]
  · rw [hk j, Dev.cloop_setCloop, if_neg hj, hother]
  · rw [hflt, hcnt]
  · have hpt : t.dev.point p = e.point p := by
      unfold Dev.point
      rw [hps]
    rw [hpt]
    exact hbad p hp hq hs
  · have hcl : t.dev.cl = a.cl := by rw [ht]; simp
    rw [hcl, hps, hflt, ht]
    refine State.frame_of_eq (Dev.reportsTo_congr hsay rfl rfl rfl) ?_ ?_
    · rw [honly, he]
      rfl
    · rw [honly, he]
      rfl

/-- Settles O49: what each event makes of its channel. -/
theorem currentLoopEvents : Obligations.CurrentLoopEvents := by
  intro s k hs hk c only sends
  have hwf : decide (k < 8) = true := decide_eq_true hk
  refine ⟨fun h => ?_, fun h => ?_, fun hin htr hmb => ?_, fun a hin htr hmb hnext => ?_, fun h => ?_,
    fun cmd resp devst bytes hwf => ⟨fun htr => ?_, fun a htr h => ?_, fun a htr hcmd hlen => ?_, fun htr => ?_⟩,
    fun htr hret => ?_, fun h => ?_, fun bad => ⟨fun htr hret => ?_, fun a htr hret => ?_, fun h => ?_⟩, fun h => ?_,
    fun h => ?_, ?_⟩
  · exact Runs.stays (f := clCondition k) rfl hwf hs (if_pos h)
  · refine Runs.mainChecked (f := clCondition k) rfl hwf hs ?_
    obtain ⟨es, he⟩ := clCondition_changes (d := s.dev.fresh0) h
    rw [he]
    exact onCloop_after (reportAll_onCloop (setCloop_onCloop s.dev k _) _)
  · refine Runs.mainChecked (f := hartStart k) rfl hwf hs ?_
    rw [hartStart_mailbox (d := s.dev.fresh0) hin htr hmb]
    obtain ⟨⟨ho, hc⟩, hf⟩ := hartTransmit_after (s := s) (k := k)
      (c := { c with mbState := .busy, trans := some .mailbox, retries := 0 }) nofun
    exact ⟨ho, hc, hf⟩
  · refine Runs.mainChecked (f := hartStart k) rfl hwf hs ?_
    rw [hartStart_poll (d := s.dev.fresh0) hin htr hmb hnext]
    obtain ⟨⟨ho, hc⟩, hf⟩ := hartTransmit_after (s := s) (k := k)
      (c := { c with trans := some (.poll a), lastPoll := a, retries := 0 }) nofun
    exact ⟨ho, hc, hf⟩
  · exact Runs.stays (f := hartStart k) rfl hwf hs (hartStart_idle h)
  · refine Runs.mainChecked (f := hartReply k cmd resp devst bytes) rfl hwf hs ?_
    obtain ⟨e, he⟩ := hartReply_mailbox (d := s.dev.fresh0) htr cmd resp devst bytes
    rw [he]
    exact onCloop_after (report_onCloop (setCloop_onCloop s.dev k _) _)
  · exact Runs.stays (f := hartReply k cmd resp devst bytes) rfl hwf hs (hartReply_stray (d := s.dev.fresh0) htr h resp devst)
  · refine Runs.mainChecked (f := hartReply k cmd resp devst bytes) rfl hwf hs ?_
    subst hcmd
    obtain ⟨es, he⟩ := hartReply_poll (d := s.dev.fresh0) htr hlen resp devst
    rw [he]
    obtain ⟨ho, hc⟩ := onCloop_after (reportAll_onCloop (setCloop_onCloop s.dev k _) es)
    generalize s.after (reportAll es _) = t at ho hc ⊢
    have hm : (t.dev.cloop k).missed = tset 0 c.missed a 0 := congrArg CLoop.missed hc
    refine ⟨ho, ?_, fun b hb => ?_, ?_⟩
    · rw [hm]
      exact tget_tset_self ..
    · rw [hm]
      exact tget_tset_other _ _ _ hb
    · rw [hm]
      exact hc
  · exact Runs.stays (f := hartReply k cmd resp devst bytes) rfl hwf hs (hartReply_idle (d := s.dev.fresh0) htr ..)
  · refine Runs.mainChecked (f := hartRetry k) rfl hwf hs ?_
    rw [hartRetry_again (d := s.dev.fresh0) htr hret]
    obtain ⟨⟨ho, hc⟩, hf⟩ := hartTransmit_after (s := s) (k := k)
      (c := { c with retries := c.retries + 1, errCnt := c.errCnt + 1 }) htr
    exact ⟨ho, hc, hf⟩
  · exact Runs.stays (f := hartRetry k) rfl hwf hs (hartRetry_idle h)
  · refine Runs.mainChecked (f := hartNoReply k bad) rfl hwf hs ?_
    obtain ⟨e, he⟩ := hartNoReply_mailbox (d := s.dev.fresh0) htr hret bad
    rw [he]
    exact onCloop_after (report_onCloop (setCloop_onCloop s.dev k _) _)
  · refine Runs.mainChecked (f := hartNoReply k bad) rfl hwf hs ?_
    obtain ⟨es, he⟩ := hartNoReply_poll (d := s.dev.fresh0) htr hret bad
    rw [he]
    obtain ⟨ho, hc⟩ := onCloop_after (reportAll_onCloop (setCloop_onCloop s.dev k _) es)
    generalize s.after (reportAll es _) = t at ho hc ⊢
    have hm : (t.dev.cloop k).missed = tset 0 c.missed a (min (tget 0 c.missed a + 1) 255) := congrArg CLoop.missed hc
    refine ⟨ho, ?_, fun b hb => ?_, ?_⟩
    · rw [hm]
      exact tget_tset_self ..
    · rw [hm]
      exact tget_tset_other _ _ _ hb
    · rw [hm]
      exact hc
  · exact Runs.stays (f := hartNoReply k bad) rfl hwf hs (hartNoReply_idle (d := s.dev.fresh0) h bad)
  · refine Runs.mainChecked (f := hartBurst k) rfl hwf hs ?_
    have he : hartBurst k s.dev.fresh0 = s.dev.fresh0.setCloop k { c with errCnt := c.errCnt + 1 } := if_pos h
    obtain ⟨ho, hc⟩ := onCloop_after (setCloop_onCloop s.dev k { c with errCnt := c.errCnt + 1 })
    rw [he]
    exact ⟨hc, silent_cloop s k _, ho⟩
  · exact Runs.stays (f := hartBurst k) rfl hwf hs (if_neg (by simpa using h))
  · refine Runs.mainChecked (f := clMemory k) rfl hwf hs ?_
    exact clMemory_after s k

end Sys2Proof.Machine
end

section
/-!
A write that the manual lists as a step of its own: the fields of its command, and its effect where it meets the checks.
-/
namespace Sys2Proof.Machine

/-! ### Fields of an image -/

theorem fld_or {w : Nat} (x y : BitVec w) (lo n : Nat) : fld (x ||| y) lo n = fld x lo n ||| fld y lo n := by
  unfold fld
  rw [BitVec.extractLsb'_or]

theorem fld_put_self {w lo n : Nat} (v : BitVec n) (h : lo + n ≤ w) : fld (put w lo v) lo n = v := by
  apply BitVec.eq_of_getLsbD_eq
  intro i hi
  simp [fld, put, show lo + i < w by omega, hi]

theorem fld_put_apart {w lo lo' m : Nat} (v : BitVec m) (n : Nat) (h : lo' + m ≤ lo ∨ lo + n ≤ lo') :
    fld (put w lo' v) lo n = 0#n := by
  apply BitVec.eq_of_getLsbD_eq
  intro i hi
  simp only [fld, put, BitVec.getLsbD_extractLsb', BitVec.getLsbD_shiftLeft, BitVec.getLsbD_setWidth, BitVec.getLsbD_zero]
  rcases h with h | h
  · rw [BitVec.getLsbD_of_ge v _ (by omega)]
    simp
  · simp [show lo + i < lo' by omega]

theorem fld_setWidth {w n lo k : Nat} (x : BitVec w) (h : lo + k ≤ n) : fld (x.setWidth n) lo k = fld x lo k := by
  apply BitVec.eq_of_getLsbD_eq
  intro i hi
  simp [fld, show lo + i < n by omega]

@[simp] theorem fld_all {w : Nat} (x : BitVec w) : fld x 0 w = x := by
  apply BitVec.eq_of_getLsbD_eq
  intro i hi
  simp [fld, hi]

/-- The command of a write: its opcode, space, index and count. -/
theorem writeCmd_fields {ch op sp index size value : Nat} (hop : op < 256) (hsp : sp < 256) (hi : index < 2 ^ 32) :
    (writeCmd ch op sp index size value).opcode = op ∧ (writeCmd ch op sp index size value).space = sp ∧
      (writeCmd ch op sp index size value).index = index ∧ (writeCmd ch op sp index size value).count = 1 := by
  unfold Cmd.opcode Cmd.space Cmd.index Cmd.count writeCmd
  simp (disch := omega) only [fld_or, fld_put_apart, fld_put_self, BitVec.or_zero, BitVec.zero_or, BitVec.toNat_ofNat]
  exact ⟨Nat.mod_eq_of_lt hop, Nat.mod_eq_of_lt hsp, Nat.mod_eq_of_lt hi, trivial⟩

/-! ### The write of one entry (R148) -/

/-- A whole image, as the payload of a write spells it. -/
theorem entryCmd_entry {sp index size w : Nat} (img : BitVec w) (hw : 8 * size = w)
    (hs : (entryCmd sp index size img.toNat).entrySize = size) :
    (entryCmd sp index size img.toNat).entry 0 = img.setWidth 2048 := by
  have hpay : slice (leBytes size img.toNat) 0 size = leBytes size img.toNat := by
    have hl : (leBytes size img.toNat).length = size := by simp
    unfold slice
    rw [List.drop_zero, List.take_of_length_le (le_of_eq hl)]
    simp
  unfold Cmd.entry Cmd.image
  rw [hs]
  show leBits 2048 (slice (leBytes size img.toNat) (size * 0) size) = _
  rw [Nat.mul_zero, hpay]
  unfold leBits
  rw [leNat_leBytes]
  apply BitVec.eq_of_toNat_eq
  have hlt : img.toNat < 256 ^ size := by
    rw [show (256 : Nat) = 2 ^ 8 from rfl, ← Nat.pow_mul, hw]
    exact img.isLt
  rw [Nat.mod_eq_of_lt hlt]
  rw [BitVec.toNat_ofNat, BitVec.toNat_setWidth]

/-- The effect of a write of one entry: its image is applied. -/
theorem entryCmd_effect {sp index size w : Nat} {r : SpaceRow} (img : BitVec w) (hr : spaceRow sp = some r)
    (hs : r.size = size) (hsp : 1 < sp ∧ sp < 0xF0) (hi : index < 2 ^ 32) (hw : 8 * size = w) (d : Dev) :
    configEffect (entryCmd sp index size img.toNat) d = entryWrite sp index (img.setWidth 2048) d := by
  obtain ⟨hop, hspace, hindex, hcount⟩ := writeCmd_fields (ch := 0) (op := 0x09) (sp := sp) (index := index) (size := size)
    (value := img.toNat) (by omega) (by omega) hi
  have hspace : (entryCmd sp index size img.toNat).space = sp := hspace
  have hindex : (entryCmd sp index size img.toNat).index = index := hindex
  have hcount : (entryCmd sp index size img.toNat).count = 1 := hcount
  have hop : (entryCmd sp index size img.toNat).opcode = 0x09 := hop
  have hsize : (entryCmd sp index size img.toNat).entrySize = size := by
    unfold Cmd.entrySize
    rw [hspace, if_neg (by omega), if_neg (by omega), hr, ← hs]
    rfl
  have horder : (entryCmd sp index size img.toNat).entryOrder = [0] := by
    unfold Cmd.entryOrder
    rw [hcount]
    split
    · cases hb : bit ((entryCmd sp index size img.toNat).entry 0) 108 <;> simp [List.range_succ, hb]
    · rfl
  unfold configEffect
  rw [hop, horder]
  simp only [List.foldl_cons, List.foldl_nil, hspace, hindex, Nat.add_zero, entryCmd_entry img hw hsize]

/-- A write that meets its checks takes effect, and every subscription follows its rights (R93, R144). -/
theorem directWrite_admitted {c : Cmd} {s : State} (h : writeAdmitted c s) :
    directWrite c s.dev.fresh0 = rightsChanged (configEffect c s.dev.fresh0) := by
  obtain ⟨hi, hp, hs, ha⟩ := h
  unfold directWrite
  rw [hi, hp, hs, ha]
  rfl

/-- A write that marks its digest areas, and nothing of the rights of a subscription, seen from before it. -/
theorem digestMark_keeps (areas : List Nat) (d : Dev) :
    digestMark areas d = { d with ply := { d.ply with digestDue := (digestMark areas d).ply.digestDue } } := rfl

end Sys2Proof.Machine
end

section
/-!
The alarms of the calendar and the end of a trim window.
-/
namespace Sys2Proof.Machine

/-! ### A firing (R499) -/

/-- Periods that a firing has missed. -/
def CalAlarm.misses (a : CalAlarm) (late : Bool) (now : W64) : Nat :=
  if a.period.toNat * 4294967296 = 0 ∨ late = false then 0 else (now - a.goal).toNat / (a.period.toNat * 4294967296)

/-- An alarm entry after its firing. -/
def CalAlarm.afterFiring (a : CalAlarm) (late : Bool) (now : W64) : CalAlarm :=
  { a with
    target := a.target + BitVec.ofNat 64
      (if a.period.toNat * 4294967296 = 0 then 0 else (a.misses late now + 1) * (a.period.toNat * 4294967296))
    missed := satAdd a.missed (a.misses late now), fireCnt := a.fireCnt + 1, late := late, due := none
    st := if a.period = 0 then .fired else .armed }

theorem CalAlarm.advance_eq (a : CalAlarm) (late : Bool) (now : W64) :
    a.advance late now = ((a.afterFiring late now).target, a.misses late now) := by
  unfold CalAlarm.advance CalAlarm.afterFiring CalAlarm.misses
  by_cases hp : a.period.toNat * 4294967296 = 0
  · simp [hp]
  · cases late <;> simp [hp]

/-- The backup domain with a fired entry, and PWR_HOLD where the alarm wakes the module (R500, R505, R507). -/
def Backup.fires (b : Backup) (k : Nat) (a : CalAlarm) : Backup :=
  if (b.alarm k).wakeEn = true ∧ b.pwrHold = false then
    if b.onVmain then { b.setAlarm k a with pwrHold := true }
    else { b.setAlarm k a with pwrHold := true, nextCause := some 2, wakeAlarm := BitVec.ofNat 3 k }
  else b.setAlarm k a

/-- The module with another state of its backup domain. -/
def Dev.withBk (d : Dev) (b : Backup) : Dev := { d with bk := b }

/-- A firing is reported, or noted while the main domain does not run (R500). -/
def alarmTold (r : AlarmReport) (d : Dev) : Dev :=
  if d.isMain then report (alarmEvent r false) d else d.modBk (fun b => { b with fired := b.fired ++ [r] })

/-- The wake of a firing is part of what it leaves in the backup domain. -/
theorem wake_fires (k : Nat) (a : CalAlarm) (d : Dev) :
    (if (d.bk.alarm k).wakeEn = true then wake 2 (BitVec.ofNat 3 k) (d.modBk fun b => b.setAlarm k a)
      else d.modBk fun b => b.setAlarm k a) = d.withBk (d.bk.fires k a) := by
  unfold Backup.fires wake Dev.modBk Dev.withBk Backup.setAlarm
  by_cases hw : (d.bk.alarm k).wakeEn = true
  · by_cases hp : d.bk.pwrHold = true
    · simp [hw, hp]
    · by_cases hv : d.bk.onVmain = true
      · simp [hw, hp, hv]
      · simp [hw, hp, hv]
  · simp [hw]

/-- A due alarm fires (R499). -/
theorem alarmFire_due {k : Nat} {late : Bool} {d : Dev} (h : (d.bk.alarm k).due = some late) :
    alarmFire k d = alarmTold ⟨k, d.cal, late, (d.bk.alarm k).misses late d.cal⟩
      (d.withBk (d.bk.fires k ((d.bk.alarm k).afterFiring late d.cal))) := by
  unfold alarmFire
  dsimp only
  rw [h]
  dsimp only
  rw [CalAlarm.advance_eq]
  exact congrArg (alarmTold _) (wake_fires k _ d)

theorem alarmFire_idle {k : Nat} {d : Dev} (h : (d.bk.alarm k).due = none) : alarmFire k d = d := by
  unfold alarmFire
  dsimp only
  rw [h]

theorem Backup.alarm_setAlarm (b : Backup) (k j : Nat) (a : CalAlarm) :
    (b.setAlarm k a).alarm j = if j = k then a else b.alarm j := tget_tset ..

/-- What a firing changes beside its entry. -/
theorem Backup.fires_cases (b : Backup) (k : Nat) (a : CalAlarm) :
    (b.fires k a).alarms = (b.setAlarm k a).alarms ∧ (b.fires k a).fired = b.fired ∧
      ((b.alarm k).wakeEn = true → b.pwrHold = false → b.onVmain = true →
        b.fires k a = { b with alarms := (b.fires k a).alarms, pwrHold := true }) ∧
      ((b.alarm k).wakeEn = true → b.pwrHold = false → b.onVmain = false →
        b.fires k a = { b with
          alarms := (b.fires k a).alarms, pwrHold := true, nextCause := some 2, wakeAlarm := BitVec.ofNat 3 k }) ∧
      (¬((b.alarm k).wakeEn = true ∧ b.pwrHold = false) → b.fires k a = { b with alarms := (b.fires k a).alarms }) := by
  unfold Backup.fires
  by_cases hw : (b.alarm k).wakeEn = true ∧ b.pwrHold = false
  · rw [if_pos hw]
    by_cases hv : b.onVmain = true
    · rw [if_pos hv]
      exact ⟨rfl, rfl, fun _ _ _ => rfl, fun _ _ h => absurd (h.symm.trans hv) nofun, fun h => absurd hw h⟩
    · rw [if_neg hv]
      exact ⟨rfl, rfl, fun _ _ h => absurd h hv, fun _ _ _ => rfl, fun h => absurd hw h⟩
  · rw [if_neg hw]
    exact ⟨rfl, rfl, fun h1 h2 => absurd ⟨h1, h2⟩ hw, fun h1 h2 => absurd ⟨h1, h2⟩ hw, fun _ => rfl⟩

/-- A firing touches its own entry alone. -/
theorem Backup.fires_alarm (b : Backup) (k j : Nat) (a : CalAlarm) :
    (b.fires k a).alarm j = if j = k then a else b.alarm j := by
  rw [← Backup.alarm_setAlarm]
  exact congrArg (fun x => tget CalAlarm.reset x j) (b.fires_cases k a).1

/-- A new state of the backup domain, with what the calendar reports. -/
def bkOnly (s t : State) (b : Backup) : Prop := t.dev.bk = b ∧ s.frame t { s.dev with bk := b, fresh := t.dev.fresh }

theorem bk_report (s : State) (e : Event) (b : Backup) (n : Nat) :
    bkOnly s (s.after (report e ({ s.dev with bk := b, fresh := n } : Dev).fresh0)) b := by
  have hf := frame_report s e ({ s.dev with bk := b, fresh := n } : Dev)
  have hn : (s.after (report e ({ s.dev with bk := b, fresh := n } : Dev).fresh0)).dev.fresh = n := by simp
  have hb : (s.after (report e ({ s.dev with bk := b, fresh := n } : Dev).fresh0)).dev.bk = b := by simp
  refine ⟨hb, ?_⟩
  rw [hn]
  exact hf

theorem bk_quiet (s : State) (b : Backup) (n : Nat) :
    bkOnly s (s.after ({ s.dev with bk := b, fresh := n } : Dev).fresh0) b := by
  have hb : (s.after ({ s.dev with bk := b, fresh := n } : Dev).fresh0).dev.bk = b := by simp
  have hn : (s.after ({ s.dev with bk := b, fresh := n } : Dev).fresh0).dev.fresh = n := by simp
  refine ⟨hb, ?_⟩
  rw [hn]
  exact State.frame_of_eq (b := { s.dev with bk := b, fresh := n }) (Dev.reportsTo_of_eq rfl rfl rfl) rfl rfl

/-- A report or a note of a firing, seen on the state after it. -/
theorem alarmTold_after (s : State) (r : AlarmReport) (b : Backup) :
    bkOnly s (s.after (alarmTold r (s.dev.fresh0.withBk b))) { b with
      fired := if s.dev.isMain then b.fired else b.fired ++ [r] } := by
  by_cases hm : s.dev.isMain = true
  · rw [if_pos hm]
    have he : alarmTold r (s.dev.fresh0.withBk b) = report (alarmEvent r false) (s.dev.fresh0.withBk b) := if_pos hm
    rw [he]
    exact bk_report s _ b s.dev.fresh
  · rw [if_neg hm]
    have he : alarmTold r (s.dev.fresh0.withBk b) = (s.dev.fresh0.withBk b).modBk (fun b => { b with fired := b.fired ++ [r] }) :=
      if_neg hm
    rw [he]
    exact bk_quiet s _ s.dev.fresh

/-- A firing, seen on the state after it. -/
theorem alarmFire_after {s : State} {k : Nat} {late : Bool} (h : (s.dev.bk.alarm k).due = some late) :
    bkOnly s (s.after (alarmFire k s.dev.fresh0))
      { s.dev.bk.fires k ((s.dev.bk.alarm k).afterFiring late s.dev.cal) with
        fired := if s.dev.isMain then s.dev.bk.fired
          else s.dev.bk.fired ++ [⟨k, s.dev.cal, late, (s.dev.bk.alarm k).misses late s.dev.cal⟩] } := by
  have hcal : s.dev.fresh0.cal = s.dev.cal := rfl
  have hbk : s.dev.fresh0.bk = s.dev.bk := rfl
  rw [alarmFire_due (d := s.dev.fresh0) h, hcal, hbk]
  generalize (s.dev.bk.alarm k).afterFiring late s.dev.cal = a
  rw [← (s.dev.bk.fires_cases k a).2.1]
  exact alarmTold_after s _ _

/-! ### The trim window (R502) -/

/-- A mean is one of its two roundings, and uses at most a free value (R11). -/
theorem meanOpen_rounds (sum : Int) (n : Nat) (d : Dev) :
    roundsTo sum n (meanOpen sum n d).1 ∧ ∃ m, (meanOpen sum n d).2 = { d with fresh := m } := by
  unfold meanOpen
  split
  · next h =>
    subst h
    exact ⟨.inl (by simp), d.fresh, rfl⟩
  · split
    · exact ⟨.inl rfl, d.fresh, rfl⟩
    · next h =>
      refine ⟨?_, d.fresh + 1, rfl⟩
      dsimp only
      split
      · exact .inr ⟨h, rfl⟩
      · exact .inl (by simp)

theorem trimEnd_running {d : Dev} (h : d.bk.win = none ∨ ∃ w, d.bk.win = some w ∧ w.ended = false) : trimEnd d = d := by
  unfold trimEnd
  rcases h with h | ⟨w, h, hw⟩
  · rw [h]
  · rw [h]
    exact if_pos (by simp [hw])

/-- The backup domain with a rejected window, or with TRIM_PPB corrected (R502). -/
def Backup.trimRejected (b : Backup) (err : Int) : Backup :=
  { b with win := none, lastErr := err, rejectCnt := b.rejectCnt + 1 }
def Backup.trimmed (b : Backup) (w : TrimWin) (err q : Int) : Backup :=
  { b with
    win := none, lastErr := err, trimPpb := clampInt (-200000) 200000 (b.trimPpb - q)
    lastMeas := calOf b.cnt, srcUsed := BitVec.ofNat 2 w.src }

theorem trimEnd_ended {d : Dev} {w : TrimWin} (h : d.bk.win = some w) (hw : w.ended = true) :
    ∃ (e : Event) (err : Int) (n : Nat),
      roundsTo (w.err (if d.nom d.trimSet then 60 else 50)).1 (w.err (if d.nom d.trimSet then 60 else 50)).2 err ∧
      ((50000 < err.natAbs ∧ trimEnd d = report e { d with bk := d.bk.trimRejected err, fresh := n }) ∨
        (err.natAbs ≤ 50000 ∧ ∃ q : Int, (w.src = 1 → q = err) ∧ (w.src ≠ 1 → roundsTo err 4 q) ∧
          trimEnd d = report e { d with bk := d.bk.trimmed w err q, fresh := n })) := by
  unfold trimEnd
  rw [h]
  simp only [hw, Bool.not_true, Bool.false_eq_true, if_false]
  obtain ⟨hround, m, hm⟩ := meanOpen_rounds (w.err (if d.nom d.trimSet then 60 else 50)).1
    (w.err (if d.nom d.trimSet then 60 else 50)).2 d
  generalize meanOpen (w.err (if d.nom d.trimSet then 60 else 50)).1 (w.err (if d.nom d.trimSet then 60 else 50)).2 d = r
    at hround hm
  obtain ⟨err, d1⟩ := r
  dsimp only at hround hm ⊢
  subst hm
  by_cases hbig : 50000 < err.natAbs
  · rw [if_pos hbig]
    exact ⟨_, err, m, hround, .inl ⟨hbig, rfl⟩⟩
  · rw [if_neg hbig]
    by_cases h1 : w.src = 1
    · rw [if_pos h1]
      exact ⟨_, err, m, hround, .inr ⟨by omega, err, fun _ => rfl, fun hne => absurd h1 hne, rfl⟩⟩
    · rw [if_neg h1]
      obtain ⟨hq, m', hm'⟩ := meanOpen_rounds err 4
        (Dev.modBk { d with fresh := m } fun b => { b with win := none, lastErr := err })
      generalize meanOpen err 4 (Dev.modBk { d with fresh := m } fun b => { b with win := none, lastErr := err }) = r at hq hm'
      obtain ⟨q, d2⟩ := r
      dsimp only at hq hm' ⊢
      subst hm'
      exact ⟨_, err, m', hround, .inr ⟨by omega, q, fun h => absurd h h1, fun _ => hq, rfl⟩⟩

/-! ### A written entry (R499, R508) -/

/-- The backup domain with a written entry. -/
def Backup.alarmWritten (b : Backup) (k : Nat) (img : BitVec 256) : Backup :=
  b.setAlarm k { b.alarm k with
    target := fld img 192 64, period := fld img 160 32, wakeEn := bit img 4, en := bit img 3
    st := if bit img 3 then .armed else .idle, due := none }

theorem alarmWrite_eq (k : Nat) (img : BitVec 256) (d : Dev) :
    alarmWrite k img d = (alarmFire k d).withBk ((alarmFire k d).bk.alarmWritten k img) := rfl

/-- An admitted write of an alarm entry. -/
theorem alarmEnWrite_eq {s : State} {k : Nat} {img : BitVec 256} (hk : k < 8)
    (h : writeAdmitted (entryCmd 0x80 (k + 1) 32 img.toNat) s) :
    alarmEnWrite k img s.dev.fresh0 = rightsChanged (alarmWrite k img s.dev.fresh0) := by
  have hentry : entryWrite 0x80 (k + 1) (img.setWidth 2048) s.dev.fresh0 = alarmWrite k img s.dev.fresh0 := by
    unfold entryWrite
    have hfld : fld (img.setWidth 2048) 0 256 = img := (fld_setWidth img (by omega)).trans (fld_all img)
    rw [hfld]
    unfold backupEntryWrite
    rw [if_neg (by omega), if_pos (by omega), Nat.add_sub_cancel]
    rfl
  rw [← hentry, ← entryCmd_effect img rfl rfl (by omega) (by omega) rfl]
  exact directWrite_admitted h

/-- The rights of subscriptions that a write leaves: beside them and what reports write, nothing changes (R93). -/
theorem rightsChanged_only (d : Dev) : d.reportsTo (rightsChanged d) ∧ rightsChanged d = { d with
    ps := { d.ps with subs := (rightsChanged d).ps.subs }
    tr := (rightsChanged d).tr, rcd := (rightsChanged d).rcd, flt := (rightsChanged d).flt } := by
  have hst := rightsChanged_stores d
  obtain ⟨hro, -⟩ := foldl_rightsStep_settles ((d.ps.subs.filter (fun s => s.2.en)).map (·.1)) d
  rw [← rightsChanged_eq] at hro
  obtain ⟨-, hps⟩ := hro
  generalize rightsChanged d = a at hst hps
  refine ⟨hst.2.1, (Dev.stores_dev hst).trans ?_⟩
  rw [← hps]

/-- A write whose rights are settled, seen on the state after it. -/
theorem frame_rights {s : State} {a b : Dev} (hr : b.reportsTo a)
    (h : a = { b with tr := a.tr, rcd := a.rcd, flt := a.flt, wire := [], out := a.out, wr := a.wr }) :
    s.frame (s.after (rightsChanged a)) { b with ps := { b.ps with subs := (s.after (rightsChanged a)).dev.ps.subs } } := by
  obtain ⟨hrep, he⟩ := rightsChanged_only a
  have hsub : (s.after (rightsChanged a)).dev.ps.subs = (rightsChanged a).ps.subs := by simp
  rw [hsub]
  generalize rightsChanged a = c at hrep he
  have hps : a.ps = b.ps := by rw [h]
  have hw : a.wire = [] := by rw [h]
  refine State.frame_of_eq (Dev.reportsTo_congr (Dev.reportsTo_trans hr hrep) rfl rfl rfl) ?_ ?_
  · rw [he, h]
  · rw [he]
    exact hw

/-- A firing, due or not, changes its own entry and what it reports. -/
theorem alarmFire_only (k : Nat) (d : Dev) :
    (d.withBk (alarmFire k d).bk).reportsTo (alarmFire k d) ∧
      alarmFire k d = { d with
        bk := (alarmFire k d).bk, tr := (alarmFire k d).tr, rcd := (alarmFire k d).rcd, flt := (alarmFire k d).flt } ∧
      ∀ j, j ≠ k → (alarmFire k d).bk.alarm j = d.bk.alarm j := by
  cases hdue : (d.bk.alarm k).due with
  | none =>
    rw [alarmFire_idle hdue]
    exact ⟨Dev.reportsTo_of_eq rfl rfl rfl, rfl, fun _ _ => rfl⟩
  | some late =>
    rw [alarmFire_due hdue]
    have hfires (j : Nat) (hj : j ≠ k) :
        (d.bk.fires k ((d.bk.alarm k).afterFiring late d.cal)).alarm j = d.bk.alarm j :=
      (d.bk.fires_alarm k j _).trans (if_neg hj)
    generalize d.bk.fires k ((d.bk.alarm k).afterFiring late d.cal) = b at hfires
    generalize (⟨k, d.cal, late, (d.bk.alarm k).misses late d.cal⟩ : AlarmReport) = r
    unfold alarmTold
    split
    · have hb : (report (alarmEvent r false) (d.withBk b)).bk = b := by simp [Dev.withBk]
      have hr := report_reportsTo (alarmEvent r false) (d.withBk b)
      have ho : (d.withBk b).reportsOnly _ := report_reportsOnly (alarmEvent r false) (d.withBk b)
      rw [hb]
      generalize report (alarmEvent r false) (d.withBk b) = a at hr ho
      exact ⟨hr, ho, hfires⟩
    · exact ⟨Dev.reportsTo_of_eq rfl rfl rfl, rfl, hfires⟩

/-- Settles O51: what a firing, a written entry and the end of a window make of the calendar. -/
theorem calendarAlarms : Obligations.CalendarAlarms := by
  intro s b only
  refine ⟨fun k hk => ?_, fun k img hs hk hadm => ?_, fun h => ?_, fun w hw hended => ?_⟩
  · intro a p passed
    have hwf : decide (k < 8) = true := decide_eq_true hk
    refine ⟨fun h => Runs.rests (f := alarmFire k) (checked_wf hwf) (alarmFire_idle h), fun late h => ?_⟩
    refine Runs.module (f := alarmFire k) (checked_wf hwf) ?_
    intro missed wakes
    have hon := alarmFire_after (s := s) h
    obtain ⟨halarms, hfired, hmain, hoff, hsleeps⟩ := b.fires_cases k (a.afterFiring late s.dev.cal)
    have halarm (j : Nat) : (s.after (alarmFire k s.dev.fresh0)).dev.bk.alarm j =
        if j = k then a.afterFiring late s.dev.cal else b.alarm j := by
      rw [hon.1]
      exact b.fires_alarm k j _
    have hal : (s.after (alarmFire k s.dev.fresh0)).dev.bk.alarms =
        (b.fires k (a.afterFiring late s.dev.cal)).alarms := by rw [hon.1]
    have hfd : (s.after (alarmFire k s.dev.fresh0)).dev.bk.fired = if s.dev.isMain then b.fired
        else b.fired ++ [⟨k, s.dev.cal, late, missed⟩] := by
      rw [hon.1]
      rfl
    refine ⟨fun j hj => (halarm j).trans (if_neg hj), (halarm k).trans (if_pos rfl), fun hw hv => ?_, fun hw hv => ?_,
      fun hw => ?_, hfd⟩
    · rw [hal, hfd]
      rw [hmain hw.1 hw.2 hv] at hon
      exact hon
    · rw [hal, hfd]
      rw [hoff hw.1 hw.2 hv] at hon
      exact hon
    · rw [hal, hfd]
      rw [hsleeps hw] at hon
      exact hon
  · have hwf : decide (k < 8) = true := decide_eq_true hk
    have hu : exec (.alarmFired k) s = .next (s.after (alarmFire k s.dev.fresh0)) := checked_wf hwf
    refine ⟨_, hu, Runs.mainChecked (f := alarmEnWrite k img) rfl hwf hs ?_⟩
    rw [alarmEnWrite_eq hk hadm, alarmWrite_eq]
    obtain ⟨hrep, heq, hother⟩ := alarmFire_only k s.dev.fresh0
    have hubk : (s.after (alarmFire k s.dev.fresh0)).dev.bk = (alarmFire k s.dev.fresh0).bk := by simp
    rw [hubk]
    generalize alarmFire k s.dev.fresh0 = e at hrep heq hother
    have hf := frame_rights (s := s) (a := e.withBk (e.bk.alarmWritten k img))
      (b := s.dev.withBk (e.bk.alarmWritten k img)) (Dev.reportsTo_congr hrep rfl rfl rfl) (by rw [heq]; rfl)
    generalize s.after (rightsChanged (e.withBk (e.bk.alarmWritten k img))) = t at hf
    obtain ⟨-, -, -, -, -, -, -, -, -, -, -, -, -, hply, -, -, -, -, hbk, -⟩ := State.frame_keeps hf
    have hbk : t.dev.bk = e.bk.alarmWritten k img := hbk
    have hply : t.dev.ply = s.dev.ply := hply
    have halarm (j : Nat) : t.dev.bk.alarm j = _ := (congrArg (Backup.alarm · j) hbk).trans (Backup.alarm_setAlarm ..)
    refine ⟨(halarm k).trans (if_pos rfl), fun j hj => ((halarm j).trans (if_neg hj)).trans (hother j hj), ?_⟩
    rw [hply, congrArg Backup.alarms hbk]
    exact hf
  · exact Runs.rests (f := trimEnd) rfl (trimEnd_running (d := s.dev.fresh0) h)
  · refine Runs.module (f := trimEnd) rfl ?_
    obtain ⟨e, err, n, hround, hcase⟩ := trimEnd_ended (d := s.dev.fresh0) hw hended
    refine ⟨err, hround, fun hbig => ?_, fun hsmall => ?_⟩
    · rcases hcase with ⟨-, he⟩ | ⟨h, -⟩
      · rw [he]
        exact bk_report s e (b.trimRejected err) n
      · omega
    · rcases hcase with ⟨h, -⟩ | ⟨-, q, h1, h2, he⟩
      · omega
      · refine ⟨q, h1, h2, ?_⟩
        rw [he]
        exact bk_report s e (b.trimmed w err q) n

end Sys2Proof.Machine
end

section
/-!
Commands that end with INTERNAL; the supply-fail warning and its end; a scrub pass.
-/
namespace Sys2Proof.Machine

/-! ### A command ends with INTERNAL (R129, R130) -/

/-- The end of a command whose execution has begun, while no command ends with it. -/
theorem internalEnd_alone {ch tag : Nat} {c : Cmd} {d : Dev} (h : d.slot ch tag = some c) (hh : d.endedHeld ch [tag]) :
    internalEnd ch tag d = finishOne ch tag stInternal 0 [] (d.withBk (c.endsTimeSet d.bk)) := by
  obtain ⟨h1, h2, -⟩ := slotIn_names h
  unfold internalEnd
  rw [h]
  subst h1
  subst h2
  exact finish_alone (d := d.withBk (c.endsTimeSet d.bk)) (List.mem_singleton_self _) hh _ _ _

theorem internalEnd_endsOn {ch tag : Nat} {c : Cmd} {d : Dev} (h : d.slot ch tag = some c) (hh : d.endedHeld ch [tag]) :
    (d.withBk (c.endsTimeSet d.bk)).endsOn ch (internalEnd ch tag d) := by
  rw [internalEnd_alone h hh]
  exact finishOne_endsOn ..

/-- A command that has ended stays so in what reports write. -/
theorem Cmd.ends_butDrops {c : Cmd} {s t t' : State} {st : Nat} (h : c.ends st s t) (hs : t'.dev.cp.slots = t.dev.cp.slots)
    (hc : (t.dev.chan c.ch).butDrops (t'.dev.chan c.ch)) : c.ends st s t' := by
  obtain ⟨hok, hrec, hfault, hbut⟩ := h
  obtain ⟨h1, h2, h3, -⟩ := Channel.butDrops_keeps hc
  have hslot : t'.dev.slot c.ch c.tag = t.dev.slot c.ch c.tag := by rw [Dev.slot_eq, hs, ← Dev.slot_eq]
  have hholds (x : Completion) (hx : (t.dev.chan c.ch).holds x) : (t'.dev.chan c.ch).holds x := by
    unfold Channel.holds at *
    rwa [h1, h2]
  refine ⟨fun hn h0 => ?_, fun hn => ?_, fun h0 => h3.trans (hfault h0), ?_⟩
  · obtain ⟨g1, g2, g3⟩ := hok hn h0
    exact ⟨hslot.trans g1, h1.trans g2, h2.trans g3⟩
  · obtain ⟨g1, x, g2, g3⟩ := hrec hn
    exact ⟨hslot ▸ g1, x, hholds x g2, g3⟩
  · exact Channel.butCompletions_trans hbut (Channel.butCompletions_of_butDrops hc)

/-- A command that ends with INTERNAL, seen on the state after it: `e` is the module before its end, which differs from `b` in
what reports write alone. -/
theorem internalEnd_after {s : State} {c : Cmd} {e b : Dev} (h : e.slot c.ch c.tag = some c) (hh : e.endedHeld c.ch [c.tag])
    (he : e = { b with cp := e.cp, tr := e.tr, rcd := e.rcd, flt := e.flt, wire := [], out := [], wr := e.wr })
    (hr : b.reportsTo e) (hb : b.tr = s.dev.tr) :
    let t := s.after (internalEnd c.ch c.tag e)
    c.ends stInternal s t ∧ t.dev.out = [] ∧
      s.frameCh t c.ch { b with cp := t.dev.cp, bk := c.endsTimeSet b.bk } := by
  have hbk : e.bk = b.bk := by rw [he]
  have hout : e.out = [] := by rw [he]
  have halone := internalEnd_alone h hh
  have hends := internalEnd_endsOn h hh
  have hslot : (e.withBk (c.endsTimeSet e.bk)).slot c.ch c.tag = some c := h
  have hdrop : (s.dev.chan c.ch).butDrops ((e.withBk (c.endsTimeSet e.bk)).chan c.ch) := by
    have := hr.1 c.ch
    unfold Dev.chan at this ⊢
    rw [hb] at this
    exact this
  intro t
  have hcp : t.dev.cp = (internalEnd c.ch c.tag e).cp := (State.after_dev ..).2.2.1
  have ht : t.dev.out = (internalEnd c.ch c.tag e).out := by simp [t]
  refine ⟨(Cmd.ends_of_finishOne (fi := 0) hslot hdrop ?_ ?_).1, ?_, ?_⟩
  · rw [hcp, halone]
  · rw [(State.after_objects ..).2.2.2.1, halone]
  · rw [ht, hends.1]
    exact hout
  · rw [hcp, ← hbk]
    have hf := State.frameCh_of_endsOn (s := s) (b := b.withBk (c.endsTimeSet e.bk)) hends
      (by
        rw [he]
        rfl)
      (Dev.reportsTo_congr hr rfl rfl rfl) hb (internalEnd c.ch c.tag e).cp
    exact hf

/-- The end of a command writes its slot and what waits for phase F, and no count. -/
theorem finishOne_cp (ch tag status fi : Nat) (reply : List Byte) (d : Dev) :
    (finishOne ch tag status fi reply d).cp = { d.cp with
      slots := (finishOne ch tag status fi reply d).cp.slots, phaseF := (finishOne ch tag status fi reply d).cp.phaseF
      late := (finishOne ch tag status fi reply d).cp.late, recheck := (finishOne ch tag status fi reply d).cp.recheck } := by
  cases h : d.slot ch tag with
  | none =>
    unfold finishOne
    rw [h]
  | some c =>
    have hn : (d.noted c ch tag status).cp = (d.unqueued c ch tag status).cp := by
      unfold Dev.noted
      rw [lifecycleRefused_cp, noteStatus_cp]
    have hpush (x : Completion) (e : Dev) : (pushCompletion ch x e).cp = e.cp := (Dev.modChan_keeps ..).2.2.1
    rw [finishOne_some h]
    unfold pollReady
    dsimp only
    split
    · unfold Dev.freeSlot
      dsimp only
      rw [hn]
      rfl
    · rw [hpush]
      unfold Dev.setSlot
      dsimp only
      rw [hn]
      rfl

/-- A command at its completion limit: counted and reported (R129). -/
theorem limitReport_after {s : State} {c : Cmd} {e b : Dev} (h : e.slot c.ch c.tag = some c) (hh : e.endedHeld c.ch [c.tag])
    (he : e = { b with cp := e.cp, tr := e.tr, rcd := e.rcd, flt := e.flt, wire := [], out := [], wr := e.wr })
    (hr : b.reportsTo e) (hb : b.tr = s.dev.tr) :
    let t := s.after (limitReport c.ch c.tag e)
    c.ends stInternal s t ∧ t.dev.cp.limitCnt = satAdd e.cp.limitCnt 1 ∧ t.dev.out = [] ∧
      s.frameCh t c.ch { b with cp := t.dev.cp, bk := c.endsTimeSet b.bk } := by
  let e1 : Dev := e.withCp { e.cp with limitCnt := satAdd e.cp.limitCnt 1 }
  have h1 : e1.slot c.ch c.tag = some c := h
  have hh1 : e1.endedHeld c.ch [c.tag] := hh
  have hr1 : b.reportsTo e1 := hr
  have he1 : e1 = { b with
      cp := e1.cp, tr := e1.tr, rcd := e1.rcd, flt := e1.flt, wire := [], out := [], wr := e1.wr } := by
    have := congrArg (fun x : Dev => x.withCp { e.cp with limitCnt := satAdd e.cp.limitCnt 1 }) he
    exact this
  obtain ⟨hends, hout, -⟩ := internalEnd_after (s := s) h1 hh1 he1 hr1 hb
  have hbk : e1.bk = b.bk := by rw [he1]
  have hon := internalEnd_endsOn h1 hh1
  have hlim : (internalEnd c.ch c.tag e1).cp.limitCnt = satAdd e.cp.limitCnt 1 := by
    rw [internalEnd_alone h1 hh1, finishOne_cp]
    rfl
  have hrun : limitReport c.ch c.tag e = report { ev 0x0303 true c.ch 0 with dests := destsCh c.ch } (internalEnd c.ch c.tag e1) :=
    rfl
  have houte : (internalEnd c.ch c.tag e1).out = [] := by
    rw [hon.1]
    show e1.out = []
    rw [he1]
  have hrep := report_endsOn c.ch { ev 0x0303 true c.ch 0 with dests := destsCh c.ch } (internalEnd c.ch c.tag e1)
  have hsame := report_same { ev 0x0303 true c.ch 0 with dests := destsCh c.ch } (internalEnd c.ch c.tag e1)
  have hdrops := report_butDrops { ev 0x0303 true c.ch 0 with dests := destsCh c.ch } (internalEnd c.ch c.tag e1) c.ch
  intro t
  have ht : t = s.after (report { ev 0x0303 true c.ch 0 with dests := destsCh c.ch } (internalEnd c.ch c.tag e1)) :=
    congrArg s.after hrun
  generalize internalEnd c.ch c.tag e1 = f at *
  generalize report { ev 0x0303 true c.ch 0 with dests := destsCh c.ch } f = g at *
  obtain ⟨hcp, heg, hgout⟩ := hsame
  have htcp : t.dev.cp = g.cp := by rw [ht]; simp
  refine ⟨Cmd.ends_butDrops hends ?_ ?_, ?_, ?_, ?_⟩
  · rw [htcp, hcp]
    simp
  · rw [ht, (State.after_objects ..).2.2.2.1, (State.after_objects ..).2.2.2.1]
    exact hdrops
  · rw [htcp, hcp, hlim]
  · rw [ht]
    simp [hgout, houte]
  · rw [htcp, ← hbk, ht]
    have hf := State.frameCh_of_endsOn (s := s) (b := b.withBk (c.endsTimeSet e1.bk)) (Dev.endsOn_trans hon hrep)
      (by
        rw [he1]
        rfl)
      (Dev.reportsTo_congr hr1 rfl rfl rfl) hb g.cp
    exact hf

/-! ### Zeros in the retained SRAM (R395, R474) -/

theorem Memory.writeAll_append (m : Memory) (a b : List (Nat × Byte)) : m.writeAll (a ++ b) = (m.writeAll a).writeAll b :=
  List.foldl_append ..

/-- The four bytes of a mark that says that what follows is not valid. -/
def zeroMark : List Byte := [0, 0, 0, 0]

theorem Memory.read_zeroMark (m : Memory) {base a : Nat} (hb : base + 4 ≤ Memory.size) (h1 : base ≤ a) (h2 : a < base + 4) :
    (m.writeAll (placeBytes base zeroMark)).read a = 0 := by
  have h := Memory.read_placed m base zeroMark hb (a - base) (by simp [zeroMark]; omega)
  rw [show base + (a - base) = a by omega] at h
  rw [h]
  have hi : a - base = 0 ∨ a - base = 1 ∨ a - base = 2 ∨ a - base = 3 := by omega
  simp only [zeroMark]
  rcases hi with h | h | h | h <;> simp [h]

theorem Memory.read_zeroMark_other (m : Memory) {base a : Nat} (h : a < base ∨ base + 4 ≤ a) :
    (m.writeAll (placeBytes base zeroMark)).read a = m.read a := Memory.read_placed_other m base zeroMark a h

/-! ### The supply-fail warning (R474, R476, R560, R620) -/

/-- A NOTICE goes out or not, and changes nothing else. -/
theorem plyNotice_out (code arg : Nat) (d : Dev) : ∃ o, plyNotice code arg d = { d with out := o } := by
  unfold plyNotice plySend
  dsimp only
  split
  · exact ⟨d.out, rfl⟩
  · exact ⟨_, rfl⟩

/-- The module with another state of its supplies. -/
def Dev.withPwr (d : Dev) (p : Power) : Dev := { d with pwr := p }

/-- The metering unit with the records that the warning has captured (R396). -/
def Dev.snapped (d : Dev) : Meter :=
  { d.mt with saveDue := none, snapDue := some (saveRecords d, d.cal, d.tb.frame, d.siteTag) }

/-- What the warning leaves, beside what it reports and what goes out. -/
theorem supplyWarn_leaves (d : Dev) (h : d.pwr.warn = false) :
    (supplyWarn d).pwr = { d.pwr with warn := true } ∧ (supplyWarn d).rcd.tail.isSome = true ∧
      (supplyWarn d).mt = d.snapped ∧
      (supplyWarn d).wr = d.wr ++ placeBytes (copyBase d.mt.target) zeroMark ++ placeBytes 0x4000 zeroMark ∧
      (supplyWarn d).ply = d.ply ∧ (supplyWarn d).ps = d.ps ∧ (supplyWarn d).lines = d.lines ∧
      (supplyWarn d).lp = d.lp ∧ (supplyWarn d).lg = d.lg ∧ (supplyWarn d).bk = d.bk := by
  have hw : supplyWarn d = plyNotice 1 0 (tailWarning (snapshotCapture (d.modPwr (fun p => { p with warn := true })))) :=
    if_neg (by simp [h])
  obtain ⟨o, ho⟩ := plyNotice_out 1 0 (tailWarning (snapshotCapture (d.modPwr (fun p => { p with warn := true }))))
  rw [hw, ho]
  refine ⟨?_, rfl, ?_, ?_, ?_, ?_, ?_, ?_, ?_, ?_⟩
  · simp [tailWarning, tailClear, Dev.store, snapshotCapture, saveBegin, Dev.modPwr]
  · simp only [tailWarning, tailClear, Dev.store, snapshotCapture, report_keeps]
    rfl
  · simp only [tailWarning, tailClear, Dev.store, snapshotCapture, saveBegin, report_keeps]
    rfl
  all_goals simp [tailWarning, tailClear, Dev.store, snapshotCapture, saveBegin, Dev.modPwr]

/-- A report leaves a captured tail alone. -/
theorem report_tail (e : Event) (d : Dev) : (report e d).rcd.tail = d.rcd.tail :=
  (congrArg Recorder.tail (report_reportsTo e d).2.2.1 :)

theorem tailCleared_tail (d : Dev) : (tailCleared d).rcd.tail = none := by
  unfold tailCleared tailClear
  generalize hx : Dev.mk .. = x
  have hn : x.rcd.tail = none := by rw [← hx]
  exact (report_tail _ x).trans hn

theorem tailCleared_leaves (d : Dev) : (tailCleared d).pwr = d.pwr ∧
    (tailCleared d).wr = d.wr ++ placeBytes 0x4000 zeroMark ∧ (tailCleared d).mt = d.mt ∧ (tailCleared d).ps = d.ps ∧
    (tailCleared d).bk = d.bk := by
  simp [tailCleared, tailClear, Dev.store, zeroMark, tailBase]

theorem withPwr_leaves (d : Dev) (p : Power) : (d.withPwr p).pwr = p ∧ (d.withPwr p).wr = d.wr ∧ (d.withPwr p).mt = d.mt ∧
    (d.withPwr p).ps = d.ps ∧ (d.withPwr p).bk = d.bk := ⟨rfl, rfl, rfl, rfl, rfl⟩

theorem supplyClear_warned {d : Dev} (hm : d.isMain = true) (h : d.pwr.warn = true) :
    supplyClear d = plyNotice 2 0 (tailCleared (d.withPwr { d.pwr with sense := false, warn := false })) := by
  have hm : (d.modPwr fun p => { p with sense := false }).isMain = true := hm
  have h : (d.modPwr fun p => { p with sense := false }).pwr.warn = true := h
  unfold supplyClear
  dsimp only
  rw [hm, h]
  rfl

/-- What the end of a warning leaves, beside what it reports and what goes out. -/
theorem supplyClear_leaves (d : Dev) (hm : d.isMain = true) (h : d.pwr.warn = true) :
    (supplyClear d).pwr = { d.pwr with sense := false, warn := false } ∧ (supplyClear d).rcd.tail = none ∧
      (supplyClear d).wr = d.wr ++ placeBytes 0x4000 zeroMark ∧ (supplyClear d).mt = d.mt ∧ (supplyClear d).ps = d.ps ∧
      (supplyClear d).bk = d.bk := by
  obtain ⟨p1, p2, p3, p4, p5⟩ := withPwr_leaves d { d.pwr with sense := false, warn := false }
  have hw := supplyClear_warned hm h
  generalize d.withPwr { d.pwr with sense := false, warn := false } = b at hw p1 p2 p3 p4 p5
  have ht := tailCleared_tail b
  obtain ⟨h1, h2, h3, h4, h5⟩ := tailCleared_leaves b
  obtain ⟨o, ho⟩ := plyNotice_out 2 0 (tailCleared b)
  have hw := hw.trans ho
  generalize tailCleared b = c at hw ht h1 h2 h3 h4 h5
  rw [hw]
  dsimp only
  rw [h1, h2, h3, h4, h5, p1, p2, p3, p4, p5]
  exact ⟨rfl, ht, rfl, rfl, rfl, rfl⟩

/-- An operation that may write the retained SRAM and only names another module state. -/
theorem silent_withSram_of {s : State} {f : (Nat → Byte) → Dev → Dev} {a b : Dev}
    (h : f (Memory.read s.sram) s.dev.fresh0 = a) (hb : a = { b with wire := [], out := [], wr := a.wr }) (hw : a.wr = []) :
    s.silent (s.withSram f) b := by
  have e : s.withSram f = s.after a := by
    rw [State.withSram, h, hw]
    rfl
  rw [e]
  exact State.silent_of_eq hb

/-! ### A scrub pass (R638) -/

/-- The counts of a scrub pass. -/
def Dev.scrubbed (d : Dev) (x : ScrubIn) : Dev :=
  { d with flt := { d.flt with
    scrubPass := d.flt.scrubPass + 1
    eccCorr := satAdd d.flt.eccCorr x.corrected
    eccUncorr := satAdd d.flt.eccUncorr (x.commands.length + x.downlinks.length + x.others) } }

/-- A strand whose downlink buffer of node `a` is in failsafe (R283). -/
def Dev.failsafeBuffer (d : Dev) (k a : Nat) : Strand :=
  let c := (d.node (nodeKey k a)).cfg
  { d.strand k with
    downlink := tput (d.strand k).downlink a
      (Downlink.mk (maskOf 32 [(nodeIn c, nodeOut c)]) (((d.strand k).buffer a c).values.map Config.maskedWord)) }

theorem failsafeBuffer_mask (d : Dev) (k a : Nat) (c : BitVec 256) : ((d.failsafeBuffer k a).buffer a c).fsMask =
    maskOf 32 [(nodeIn (d.node (nodeKey k a)).cfg, nodeOut (d.node (nodeKey k a)).cfg)] :=
  congrArg Downlink.fsMask (tget_tput_self ..)

theorem failsafeBuffer_other (d : Dev) (k a : Nat) {b : Nat} (h : b ≠ a) (x : BitVec 256) :
    (d.failsafeBuffer k a).buffer b x = (d.strand k).buffer b x := tget_tput_other _ _ _ h

/-- Settles O43: the warning captures and marks, its end clears, and a scrub pass counts. -/
theorem supplyWarnings : Obligations.SupplyWarnings := by
  intro s
  refine ⟨fun hs hw => ?_, fun h => ?_, fun hs hw => ?_, fun h => ?_, fun hs n m => ?_, fun hs k a hk hen => ?_,
    fun hs ch tag c hch htag hslot hstage hheld => ?_⟩
  · have he : exec .supplyFailWarning s = .next (s.withSram (fun _ => supplyFail)) := rfl
    refine ⟨_, he, ?_⟩
    have hf : supplyFail s.dev.fresh0 = supplyWarn (s.dev.fresh0.modPwr (fun p => { p with sense := true })) := if_pos hs
    obtain ⟨h1, h2, h3, h4, h5, h6, h7, h8, h9, h10⟩ :=
      supplyWarn_leaves (s.dev.fresh0.modPwr (fun p => { p with sense := true })) hw
    let base := if s.dev.mt.newest = some false then 0x2000 else 0
    have hbase : copyBase s.dev.mt.target = base := by
      unfold copyBase Meter.target
      cases hn : s.dev.mt.newest with
      | none => simp [base, hn]
      | some x => cases x <;> simp [base, hn]
    have hb : base + 4 ≤ 0x4000 := by
      simp only [base]
      split <;> omega
    have hsram : (s.withSram (fun _ => supplyFail)).sram =
        (s.sram.writeAll (placeBytes base zeroMark)).writeAll (placeBytes 0x4000 zeroMark) := by
      rw [State.withSram_sram, hf, h4, ← Memory.writeAll_append, ← hbase]
      rfl
    show _ ∧ _ ∧ _ ∧ (∀ a, base ≤ a → _) ∧ _ ∧ (∀ a, (a < base ∨ base + 4 ≤ a) → _) ∧ _
    rw [hsram]
    simp only [State.withSram_dev, depart_keeps, hf]
    refine ⟨h1, h2, h3, fun a h1 h2 => ?_, fun a h1 h2 => ?_, fun a h1 h2 => ?_, h5, h6, h7, h8, h9, h10, rfl⟩
    · rw [Memory.read_zeroMark_other _ (by omega)]
      exact Memory.read_zeroMark _ (by simp only [Memory.size]; omega) h1 h2
    · exact Memory.read_zeroMark _ (by simp only [Memory.size]; omega) h1 h2
    · rw [Memory.read_zeroMark_other _ (by omega), Memory.read_zeroMark_other _ (by omega)]
  · have hf : supplyFail s.dev.fresh0 = s.dev.fresh0.withPwr { s.dev.pwr with sense := true } := by
      unfold supplyFail
      refine ite_eq_right_iff.2 fun hm => ?_
      have hm' : s.dev.isMain = true := hm
      have hw : s.dev.pwr.warn = true := h.resolve_left (by simp [hm'])
      exact if_pos hw
    exact ⟨_, rfl, silent_withSram_of (s := s) (f := fun _ => supplyFail) hf rfl rfl⟩
  · obtain ⟨h1, h2, h3, h4, h5, h6⟩ := supplyClear_leaves s.dev.fresh0 hs hw
    refine ⟨_, (rfl : exec .supplyCleared s = .next (s.withSram (fun _ => supplyClear))), ?_⟩
    have hsram : (s.withSram (fun _ => supplyClear)).sram = s.sram.writeAll (placeBytes 0x4000 zeroMark) := by
      rw [State.withSram_sram, h3]
      rfl
    show _ ∧ _ ∧ (∀ a, _ → _ → Memory.read (s.withSram (fun _ => supplyClear)).sram a = 0) ∧ _
    rw [hsram]
    simp only [State.withSram_dev, depart_keeps]
    exact ⟨h1, h2, fun a h1 h2 => Memory.read_zeroMark _ (by simp only [Memory.size]; omega) h1 h2,
      fun a h => Memory.read_zeroMark_other _ h, h4, h5, h6, rfl⟩
  · have hf : supplyClear s.dev.fresh0 = s.dev.fresh0.withPwr { s.dev.pwr with sense := false } := by
      refine if_neg fun hc => ?_
      obtain ⟨hm, hw⟩ := Bool.and_eq_true_iff.1 hc
      have hm' : s.dev.isMain = true := hm
      have hw' : s.dev.pwr.warn = true := hw
      exact h.elim (fun h => by simp [hm'] at h) (fun h => by simp [hw'] at h)
    exact ⟨_, rfl, silent_withSram_of (s := s) (f := fun _ => supplyClear) hf rfl rfl⟩
  · refine Runs.main (f := scrubPass ⟨n, [], [], m⟩) rfl hs ?_
    refine State.silent_of_eq ?_
    simp [scrubPass, Dev.fresh0]
  · refine Runs.main (f := scrubPass ⟨0, [], [(k, a)], 0⟩) rfl hs ?_
    have he : scrubPass ⟨0, [], [(k, a)], 0⟩ s.dev.fresh0 =
        (s.dev.fresh0.scrubbed ⟨0, [], [(k, a)], 0⟩).setStrand k (s.dev.failsafeBuffer k a) := by
      show (if k < 16 then downlinkMemory k a (s.dev.fresh0.scrubbed ⟨0, [], [(k, a)], 0⟩) else _) = _
      rw [if_pos hk]
      exact if_neg (by rw [show nodeEn ((s.dev.fresh0.scrubbed ⟨0, [], [(k, a)], 0⟩).node (nodeKey k a)).cfg = true from hen]; decide)
    have ht : (s.after ((s.dev.fresh0.scrubbed ⟨0, [], [(k, a)], 0⟩).setStrand k (s.dev.failsafeBuffer k a))).dev.strands =
        tset Strand.reset s.dev.strands k (s.dev.failsafeBuffer k a) := by
      simp only [State.after_dev]
      rfl
    rw [he]
    simp only [Dev.strand, ht, tget_tset_self]
    refine ⟨failsafeBuffer_mask .., fun b x hb => failsafeBuffer_other _ _ _ hb x, fun j hj => tget_tset_other _ _ _ hj, ?_⟩
    exact State.silent_of_eq rfl
  · obtain ⟨hc, ht, -⟩ := slotIn_names hslot
    subst hc
    subst ht
    refine Runs.main (f := scrubPass ⟨0, [(c.ch, c.tag)], [], 0⟩) rfl hs ?_
    have he : scrubPass ⟨0, [(c.ch, c.tag)], [], 0⟩ s.dev.fresh0 =
        internalEnd c.ch c.tag (s.dev.fresh0.scrubbed ⟨0, [(c.ch, c.tag)], [], 0⟩) := by
      show commandMemory c.ch c.tag (s.dev.fresh0.scrubbed ⟨0, [(c.ch, c.tag)], [], 0⟩) = _
      unfold commandMemory
      have hs' : (s.dev.fresh0.scrubbed ⟨0, [(c.ch, c.tag)], [], 0⟩).slot c.ch c.tag = some c := hslot
      rw [hs']
      dsimp only
      rw [hstage]
    rw [he]
    exact internalEnd_after (s := s) (b := s.dev.scrubbed ⟨0, [(c.ch, c.tag)], [], 0⟩) hslot hheld rfl
      (Dev.reportsTo_of_eq rfl rfl rfl) rfl

end Sys2Proof.Machine
end

section
/-!
Yield, digests and health (R520, R530, R539 to R542).
-/
namespace Sys2Proof.Machine

/-- From `d` to `d'` the ply unit alone has changed, beside what reports write and what goes out. -/
def Dev.onlyPly (d d' : Dev) : Prop :=
  d.reportsTo d' ∧ d' = { d with ply := d'.ply, out := d'.out, tr := d'.tr, rcd := d'.rcd, flt := d'.flt }

theorem Dev.onlyPly_refl (d : Dev) : d.onlyPly d := ⟨Dev.reportsTo_refl d, rfl⟩

theorem Dev.onlyPly_trans {a b c : Dev} (h1 : a.onlyPly b) (h2 : b.onlyPly c) : a.onlyPly c := by
  obtain ⟨hr, he⟩ := h1
  obtain ⟨hr', he'⟩ := h2
  exact ⟨Dev.reportsTo_trans hr hr', by rw [he', he]⟩

theorem modPly_onlyPly (f : Ply → Ply) (d : Dev) : d.onlyPly (d.modPly f) := ⟨Dev.reportsTo_of_eq rfl rfl rfl, rfl⟩

theorem plyReport_onlyPly (code : Nat) (f : Bool) (data : Nat) (d : Dev) : d.onlyPly (plyReport code f data d) := by
  have h := report_reportsOnly (plyEv code f data d) d
  unfold Dev.reportsOnly at h
  exact ⟨report_reportsTo .., by unfold plyReport; rw [h]⟩

theorem plyNotice_onlyPly (code arg : Nat) (d : Dev) : d.onlyPly (plyNotice code arg d) := by
  obtain ⟨o, ho⟩ := plyNotice_out code arg d
  rw [ho]
  exact ⟨Dev.reportsTo_of_eq rfl rfl rfl, rfl⟩

theorem setRole_onlyPly (r : Role) (cause : Nat) (d : Dev) : d.onlyPly (setRole r cause d) := by
  rw [setRole_eq]
  exact Dev.onlyPly_trans (modPly_onlyPly ..) (plyReport_onlyPly ..)

theorem plyNotice_ply (code arg : Nat) (d : Dev) : (plyNotice code arg d).ply = d.ply :=
  Dev.ply_of_movesLines (plyNotice_movesLines ..)

theorem plyReport_ply (code : Nat) (f : Bool) (data : Nat) (d : Dev) : (plyReport code f data d).ply = d.ply :=
  Dev.ply_of_movesLines (plyReport_movesLines ..)

/-- The state after such a change. -/
theorem onlyPly_after {s : State} {a : Dev} {q : Ply} (h : s.dev.fresh0.onlyPly a) (hq : a.ply = q) :
    (s.after a).dev.ply = q ∧ s.frame (s.after a) { s.dev with ply := q } := by
  subst hq
  obtain ⟨hr, he⟩ := h
  have hw : a.wire = [] := by rw [he]; rfl
  have hf : s.frame (s.after a) { s.dev with ply := a.ply } :=
    State.frame_of_eq (b := { s.dev with ply := a.ply }) (Dev.reportsTo_congr hr rfl rfl rfl) (by rw [he]; rfl) hw
  exact ⟨(State.frame_keeps hf).2.2.2.2.2.2.2.2.2.2.2.2.2.1, hf⟩

/-- A main-domain command that changes the ply unit alone. -/
theorem Runs.onlyPly {i : Instr} {s : State} {f : Dev → Dev} {q : Ply} (hx : exec i s = checked i (mainStep f s))
    (hwf : i.wellFormed = true) (hs : s.up) (h : s.dev.fresh0.onlyPly (f s.dev.fresh0)) (hq : (f s.dev.fresh0).ply = q) :
    Runs i s (fun t => t.dev.ply = q ∧ s.frame t { s.dev with ply := q }) :=
  Runs.mainChecked hx hwf hs (onlyPly_after h hq)

/-! ### YIELD_SWAP (R520, R539) -/

theorem yieldSwap_idle {d : Dev} (h : d.yieldDue = false ∨ (d.ply.role ≠ .leading ∧ d.ply.role ≠ .trailing) ∨
    (d.ply.role = .leading ∧ d.ply.yieldAck = false) ∨ (d.ply.role = .trailing ∧ d.ply.yieldTwin = false)) :
    yieldSwap d = d := by
  unfold yieldSwap
  rcases h with h | ⟨h1, h2⟩ | ⟨h1, h2⟩ | ⟨h1, h2⟩
  · rw [h]
    rfl
  · refine ite_eq_left_iff.2 fun _ => ?_
    split
    · next h => exact absurd h h1
    · next h => exact absurd h h2
    · rfl
  · rw [h1, h2]
    simp
  · rw [h1, h2]
    simp

theorem yieldSwap_leading {d : Dev} (hd : d.yieldDue = true) (hr : d.ply.role = .leading) (ha : d.ply.yieldAck = true) :
    yieldSwap d = (setRole .trailing 6 d).modPly (fun p => { p with sweep := none }) := by
  unfold yieldSwap
  rw [hd, hr, ha]
  rfl

theorem yieldSwap_trailing {d : Dev} (hd : d.yieldDue = true) (hr : d.ply.role = .trailing) (ha : d.ply.yieldTwin = true) :
    yieldSwap d = setRole .leading 6 d := by
  unfold yieldSwap
  rw [hd, hr, ha]
  rfl

theorem yieldDue_of {d : Dev} {y : W64} (h : d.ply.yieldAt = some y) : d.yieldDue = decide (y ≤ d.tb.frame) := by
  unfold Dev.yieldDue
  rw [h]

/-! ### YIELD_CANCELLED, SELF_YIELD (R539, R540) -/

theorem yieldCancelled_due {d : Dev} {y : W64} (h : d.ply.yieldAt = some y)
    (hc : d.ply.role = .leading ∧ d.ply.yieldAck = false ∧ y.toNat ≤ d.tb.frame.toNat + 4) :
    yieldCancelled d = plyReport 0x0E13 true 0 (d.modPly (fun p => { p with yieldAt := none })) := by
  unfold yieldCancelled
  rw [h]
  exact if_pos hc

theorem yieldCancelled_idle {d : Dev} (h : ∀ y, d.ply.yieldAt = some y →
    ¬(d.ply.role = .leading ∧ d.ply.yieldAck = false ∧ y.toNat ≤ d.tb.frame.toNat + 4)) : yieldCancelled d = d := by
  unfold yieldCancelled
  split
  · next y hy => exact if_neg (h y hy)
  · rfl

theorem yieldStart_onlyPly (d : Dev) : d.onlyPly (yieldStart d) :=
  Dev.onlyPly_trans (plyNotice_onlyPly ..) (modPly_onlyPly ..)

theorem yieldStart_ply (d : Dev) : (yieldStart d).ply = { d.ply with
    yieldAt := some (BitVec.ofNat 64 ((d.tb.frame.toNat + 23) / 8 * 8)), yieldAck := false, yieldTwin := false } := by
  unfold yieldStart
  dsimp only
  rw [modPly_ply, plyNotice_ply]

theorem plyReport_tb (code : Nat) (f : Bool) (data : Nat) (d : Dev) : (plyReport code f data d).tb = d.tb := by
  rw [(plyReport_onlyPly code f data d).2]

/-! ### Digests and health (R530, R542) -/

/-- The ply unit with the digest of one area computed anew (R530). -/
def Ply.digested (p : Ply) (a : Nat) (x : BitVec 32) : Ply :=
  { p with digest := tset 0 p.digest a x, digestDue := terase p.digestDue a }

/-- The module with another state of its ply unit. -/
def Dev.withPly (d : Dev) (p : Ply) : Dev := { d with ply := p }

/-- An event that only sets the ply unit anew. -/
theorem silent_ply (s : State) (q : Ply) :
    (s.after (s.dev.fresh0.withPly q)).dev.ply = q ∧ s.silent (s.after (s.dev.fresh0.withPly q)) { s.dev with ply := q } :=
  ⟨by simp only [State.after_dev]; rfl, State.silent_of_eq rfl⟩

theorem digestNow_eq (a : Nat) (d : Dev) : digestNow a d = d.withPly (d.ply.digested a (crc32 (digestBytes a d))) := rfl

theorem foldl_tset_other {α : Type} [DecidableEq α] (x v : α) (as : List Nat) {a : Nat} (h : a ∉ as) (t : Tbl α) :
    tget x (as.foldl (fun t a => tset x t a v) t) a = tget x t a := by
  induction as generalizing t with
  | nil => rfl
  | cons b as ih =>
    obtain ⟨h1, h2⟩ := not_or.1 (fun hc => h (List.mem_cons.2 hc))
    rw [List.foldl_cons, ih h2, tget_tset_other _ _ _ h1]

theorem foldl_tset_mem {α : Type} [DecidableEq α] (x v : α) (as : List Nat) {a : Nat} (h : a ∈ as) (t : Tbl α) :
    tget x (as.foldl (fun t a => tset x t a v) t) a = v := by
  induction as generalizing t with
  | nil => exact absurd h (List.not_mem_nil)
  | cons b as ih =>
    by_cases hm : a ∈ as
    · exact ih hm _
    · obtain rfl : a = b := (List.mem_cons.1 h).resolve_right hm
      rw [List.foldl_cons, foldl_tset_other _ _ _ hm, tget_tset_self]

/-- The areas whose digests have differed for 1,000 frames (R530). -/
def Ply.mismatches (p : Ply) : List Nat := (List.range 6).filter (fun a => tget 0 p.neqRun a = 1000)

/-- Their counts once the mismatch is told. -/
def Ply.neqTold (p : Ply) : Tbl Nat := p.mismatches.foldl (fun t a => tset 0 t a 1001) p.neqRun

/-- Settles O59: each event alone changes the ply unit, or nothing. -/
theorem yieldAndDigests : Obligations.YieldAndDigests := by
  intro s hs
  refine ⟨fun y hy hdue hr ha => ?_, fun y hy hdue hr ha => ?_, fun h => ?_, fun y hy hr ha hd => ?_, fun h => ?_, ⟨?_, ?_⟩,
    fun a ha => ⟨fun hd => ?_, fun hd => ?_⟩, ⟨fun hp hd => ?_, fun h => ?_⟩, fun hp hf hst => ?_, fun h => ?_⟩
  · have he := yieldSwap_leading (d := s.dev.fresh0) ((yieldDue_of hy).trans (decide_eq_true hdue)) hr ha
    refine Runs.onlyPly (f := yieldSwap) rfl rfl hs ?_ ?_ <;> rw [he]
    · exact Dev.onlyPly_trans (setRole_onlyPly ..) (modPly_onlyPly ..)
    · rw [modPly_ply, setRole_ply]
      rfl
  · have he := yieldSwap_trailing (d := s.dev.fresh0) ((yieldDue_of hy).trans (decide_eq_true hdue)) hr ha
    refine Runs.onlyPly (f := yieldSwap) rfl rfl hs ?_ ?_ <;> rw [he]
    · exact setRole_onlyPly ..
    · rw [setRole_ply]
      rfl
  · refine Runs.stays (f := yieldSwap) rfl rfl hs (yieldSwap_idle ?_)
    rcases h with h | ⟨y, hy, hlt⟩ | h | h | h
    · left
      unfold Dev.yieldDue
      rw [show s.dev.fresh0.ply.yieldAt = none from h]
    · exact .inl ((yieldDue_of (d := s.dev.fresh0) hy).trans (decide_eq_false (BitVec.not_le.2 hlt)))
    · exact .inr (.inl h)
    · exact .inr (.inr (.inl h))
    · exact .inr (.inr (.inr h))
  · have he := yieldCancelled_due (d := s.dev.fresh0) hy ⟨hr, ha, hd⟩
    refine Runs.onlyPly (f := yieldCancelled) rfl rfl hs ?_ ?_ <;> rw [he]
    · exact Dev.onlyPly_trans (modPly_onlyPly ..) (plyReport_onlyPly ..)
    · rw [plyReport_ply]
      rfl
  · refine Runs.stays (f := yieldCancelled) rfl rfl hs (yieldCancelled_idle fun y hy ⟨h1, h2, h3⟩ => ?_)
    have hy' : s.dev.ply.yieldAt = some y := hy
    rcases h with h | h | h | ⟨z, hz, hlt⟩
    · rw [hy'] at h
      exact absurd h (by simp)
    · exact h h1
    · exact absurd (h.symm.trans h2) (by decide)
    · obtain rfl : y = z := Option.some.inj (hy'.symm.trans hz)
      exact absurd h3 (Nat.not_le.2 hlt)
  · rintro ⟨h1, h2, k, hk, hn⟩
    have he : selfYield s.dev.fresh0 = yieldStart (plyReport 0x0E0E false 0 s.dev.fresh0) :=
      if_pos ⟨h1, h2, List.any_eq_true.2 ⟨k, hk, decide_eq_true hn⟩⟩
    refine Runs.onlyPly (f := selfYield) rfl rfl hs ?_ ?_ <;> rw [he]
    · exact Dev.onlyPly_trans (plyReport_onlyPly ..) (yieldStart_onlyPly _)
    · rw [yieldStart_ply, plyReport_ply, plyReport_tb]
      rfl
  · intro h
    refine Runs.stays (f := selfYield) rfl rfl hs (if_neg fun ⟨h1, h2, h3⟩ => h ⟨h1, h2, ?_⟩)
    obtain ⟨k, hk, hn⟩ := List.any_eq_true.1 h3
    exact ⟨k, hk, of_decide_eq_true hn⟩
  · have he : digestRecompute a s.dev.fresh0 = _ := (if_pos hd).trans (digestNow_eq ..)
    refine Runs.mainChecked (f := digestRecompute a) rfl (decide_eq_true ha) hs ?_
    rw [he]
    obtain ⟨hp, hsil⟩ := silent_ply s (s.dev.fresh0.ply.digested a (crc32 (digestBytes a s.dev.fresh0)))
    have hb : digestBytes a s.dev.fresh0 = digestBytes a s.dev := rfl
    generalize s.after _ = t at hp hsil ⊢
    rw [hp]
    exact ⟨(tget_tset_self ..).trans (by rw [hb]), fun b hb => tget_tset_other _ _ _ hb, tget_terase_self .., hsil⟩
  · refine Runs.stays (f := digestRecompute a) rfl (decide_eq_true ha) hs (if_neg ?_)
    rw [show tget none s.dev.fresh0.ply.digestDue a = none from hd]
    simp
  · obtain ⟨a0, ha0, h0⟩ := hd
    have hmem (a : Nat) : a ∈ s.dev.ply.mismatches ↔ a < 6 ∧ tget 0 s.dev.ply.neqRun a = 1000 := by
      simp [Ply.mismatches]
    have he : digestMismatch s.dev.fresh0 = plyReport 0x0E14 true (63 - s.dev.ply.digestEq.toNat)
        (s.dev.fresh0.modPly (fun p => { p with neqRun := s.dev.ply.neqTold })) :=
      if_pos ⟨hp, List.ne_nil_of_mem ((hmem a0).2 ⟨ha0, h0⟩)⟩
    refine Runs.mainChecked (f := digestMismatch) rfl rfl hs ?_
    rw [he]
    obtain ⟨hq, hfr⟩ := onlyPly_after (s := s)
      (Dev.onlyPly_trans (modPly_onlyPly (fun p => { p with neqRun := s.dev.ply.neqTold }) s.dev.fresh0)
        (plyReport_onlyPly 0x0E14 true (63 - s.dev.ply.digestEq.toNat) _)) (plyReport_ply ..)
    generalize s.after _ = t at hq hfr ⊢
    refine ⟨fun a => ?_, by rw [hq]; rfl, by rw [hq]; exact hfr⟩
    rw [hq]
    exact ⟨fun h => foldl_tset_mem _ _ _ ((hmem a).2 h) _, fun h => foldl_tset_other _ _ _ (fun hc => h ((hmem a).1 hc)) _⟩
  · refine Runs.stays (f := digestMismatch) rfl rfl hs (if_neg fun ⟨h1, h2⟩ => ?_)
    rcases h with h | h
    · exact absurd (h.symm.trans h1) (by decide)
    · obtain ⟨a, ha⟩ := List.exists_mem_of_ne_nil _ h2
      exact h a (by simpa using ha)
  · have he : health s.dev.fresh0 = (plyReport 0x0E10 false (healthData s.dev.fresh0).toNat s.dev.fresh0).modPly
        (fun p => { p with healthAge := 0, health := ⟨0, 0, 0, 0, 0⟩ }) := if_pos ⟨hp, hf, hst⟩
    refine Runs.onlyPly (f := health) rfl rfl hs ?_ ?_ <;> rw [he]
    · exact Dev.onlyPly_trans (plyReport_onlyPly ..) (modPly_onlyPly ..)
    · rw [modPly_ply, plyReport_ply]
      rfl
  · refine Runs.stays (f := health) rfl rfl hs (if_neg fun ⟨h1, h2, h3⟩ => ?_)
    rcases h with h | h | h
    · exact h1 h
    · exact absurd h2 (Nat.not_le.2 h)
    · exact absurd (h.symm.trans h3) (by decide)

end Sys2Proof.Machine
end

section
/-!
Links, PORT_MODE, address answers, dropped frames and gates of a port (R198, R201 to R207, R230, R606).
-/
namespace Sys2Proof.Machine

/-! ### Records that a report drops (R195) -/

theorem satAdd_ne_zero {w : Nat} (x : BitVec w) (h : x ≠ 0) (n : Nat) : satAdd x n ≠ 0 := by
  have hx : x.toNat ≠ 0 := fun h0 => h (BitVec.eq_of_toNat_eq (by simpa using h0))
  have hlt := x.isLt
  intro hc
  have hn : (satAdd x n).toNat = 0 := by rw [hc]; simp
  unfold satAdd at hn
  split at hn
  · rw [BitVec.toNat_ofNat, Nat.mod_eq_of_lt (by assumption)] at hn
    omega
  · rw [BitVec.toNat_allOnes] at hn
    omega

/-- Has a channel dropped a record that it has not told of yet. -/
def Dev.dropped (ch : Nat) (d : Dev) : Prop := (d.chan ch).drops.total ≠ 0

theorem countDrop_dropped {ch : Nat} {d : Dev} (h : d.dropped ch) (c : Nat) (r : BitVec 8) (b : Bool) :
    (countDrop c r b d).dropped ch := by
  unfold Dev.dropped countDrop
  rw [Dev.chan_modChan]
  split
  · next hc =>
    rw [← hc]
    exact satAdd_ne_zero _ h 1
  · exact h

theorem Dev.dropped_of_chan {ch : Nat} {d e : Dev} (h : d.dropped ch) (hc : e.chan ch = d.chan ch) : e.dropped ch := by
  unfold Dev.dropped
  rw [hc]
  exact h

theorem enqueue_cases (c : Nat) (r : AttnRec) (d : Dev) :
    (enqueue c r d).1.tr.chans = d.tr.chans ∨ (enqueue c r d).1 = countDrop c r.rtype false d := by
  unfold enqueue
  split
  · exact .inl rfl
  · split
    · exact .inl rfl
    · exact .inr rfl

theorem enqueue_dropped {ch : Nat} {d : Dev} (h : d.dropped ch) (c : Nat) (r : AttnRec) : (enqueue c r d).1.dropped ch := by
  rcases enqueue_cases c r d with hc | hc
  · refine Dev.dropped_of_chan h ?_
    unfold Dev.chan
    rw [hc]
  · rw [hc]
    exact countDrop_dropped h c r.rtype false

theorem capture_tr (x : RecIn) (d : Dev) : (capture x d).1.tr = d.tr := by
  unfold capture
  split
  · by_cases h : d.rcd.merges x = true
    · simp only [captureNow, h, if_true]
    · simp only [captureNow, h, if_false, Bool.false_eq_true]
  · rfl

theorem noteFault_tr (e : Event) (d : Dev) : (noteFault e d).tr = d.tr := by
  unfold noteFault
  split <;> rfl

theorem Dev.dropped_of_tr {ch : Nat} {d e : Dev} (h : d.dropped ch) (ht : e.tr = d.tr) : e.dropped ch := by
  refine Dev.dropped_of_chan h ?_
  unfold Dev.chan
  rw [ht]

theorem reportRaw_dropped {ch : Nat} {d : Dev} (h : d.dropped ch) (e : Event) : (reportRaw e d).1.dropped ch := by
  have fold (g : AttnRec) (xs : List Nat) : ∀ a : Dev × List Limited, a.1.dropped ch → ((xs.foldl (fun a ch =>
      let r := enqueue ch g a.1
      (r.1, if r.2 then a.2 ++ [ev0404 ch] else a.2)) a).1).dropped ch := by
    induction xs with
    | nil => exact fun _ h => h
    | cons x xs ih => exact fun a h => ih _ (enqueue_dropped h x g)
  have hn : (noteFault e d).dropped ch := Dev.dropped_of_tr h (noteFault_tr e d)
  unfold reportRaw
  dsimp only
  split
  · exact fold _ _ _ (Dev.dropped_of_tr hn (capture_tr ..))
  · exact fold _ _ _ hn

theorem foldl_dropped {α : Type} {ch : Nat} (f : Dev → α → Dev) (hf : ∀ d x, d.dropped ch → (f d x).dropped ch) :
    ∀ (xs : List α) (d : Dev), d.dropped ch → (xs.foldl f d).dropped ch
  | [], _, h => h
  | x :: xs, d, h => foldl_dropped f hf xs _ (hf d x h)

theorem limitedFuel_dropped {ch : Nat} (n : Nat) : ∀ (x : Limited) (d : Dev), d.dropped ch → (limitedFuel n x d).dropped ch := by
  induction n with
  | zero =>
    intro x d h
    unfold limitedFuel
    split <;> exact h
  | succ n ih =>
    intro x d h
    unfold limitedFuel
    split
    · exact h
    · exact foldl_dropped _ (fun d y hd => ih y d hd) _ _
        (reportRaw_dropped (d := rateStart x d) h { x.e with count := x.qty })

theorem report_dropped {ch : Nat} {d : Dev} (h : d.dropped ch) (e : Event) : (report e d).dropped ch :=
  foldl_dropped _ (fun d y hd => limitedFuel_dropped 80 y d hd) _ _ (reportRaw_dropped h e)

/-! ### Channels that wait for a link (R198) -/

/-- Has a channel data to send. -/
def Channel.toSend (c : Channel) : Prop := c.txq ≠ [] ∨ c.unacked ≠ [] ∨ c.drops.total ≠ 0

/-- The loss of a link of the channels `cs`: one that is open and has data to send waits; of the others, and of all else,
nothing changes but what reports write. -/
def Dev.linkLoss (cs : List Nat) (d d' : Dev) : Prop :=
  d' = { d with tr := d'.tr, rcd := d'.rcd, flt := d'.flt } ∧ d.tr.butReports d'.tr ∧
    d'.rcd = { d.rcd with
      recs := d'.rcd.recs, snaps := d'.rcd.snaps, stored := d'.rcd.stored, snapNext := d'.rcd.snapNext
      next := d'.rcd.next, copied := d'.rcd.copied, copyLost := d'.rcd.copyLost, mergeCnt := d'.rcd.mergeCnt
      intake := d'.rcd.intake } ∧
    d'.flt = { d.flt with sum := d'.flt.sum, first := d'.flt.first } ∧
    ∀ ch, ∃ w, ({ d.chan ch with linkWait := w }).butDrops (d'.chan ch) ∧ (ch ∉ cs → w = (d.chan ch).linkWait) ∧
      ((d.chan ch).linkWait = true → w = true) ∧ (d.dropped ch → d'.dropped ch) ∧
      (ch ∈ cs → (d.chan ch).st = .opened → (d.chan ch).toSend → w = true)

theorem Dev.linkLoss_append {as bs : List Nat} {a b c : Dev} (h1 : a.linkLoss as b) (h2 : b.linkLoss bs c) :
    a.linkLoss (as ++ bs) c := by
  obtain ⟨he, ht, hr, hf, hc⟩ := h1
  obtain ⟨he', ht', hr', hf', hc'⟩ := h2
  refine ⟨by rw [he', he], Transport.butReports_trans ht ht', by rw [hr', hr], by rw [hf', hf], fun ch => ?_⟩
  obtain ⟨w, h, ho, hm, hd, hw⟩ := hc ch
  obtain ⟨w', h', ho', hm', hd', hw'⟩ := hc' ch
  have hst : (b.chan ch).st = (a.chan ch).st := by rw [h]
  have hlw : (b.chan ch).linkWait = w := by rw [h]
  have hsend (hs : (a.chan ch).toSend) : (b.chan ch).toSend := by
    rcases hs with hs | hs | hs
    · exact .inl (by rw [h]; exact hs)
    · exact .inr (.inl (by rw [h]; exact hs))
    · exact .inr (.inr (hd hs))
  refine ⟨w', ?_, fun hn => ?_, fun hl => ?_, fun hdr => hd' (hd hdr), fun hin hopen hs => ?_⟩
  · unfold Channel.butDrops at h h' ⊢
    rw [h', h]
  · obtain ⟨hna, hnb⟩ := not_or.1 (fun hc => hn (List.mem_append.2 hc))
    rw [ho' hnb, hlw, ho hna]
  · exact hm' (hlw.trans (hm hl))
  · rcases List.mem_append.1 hin with hi | hi
    · exact hm' (hlw.trans (hw hi hopen hs))
    · exact hw' hi (hst.trans hopen) (hsend hs)

theorem report_linkLoss (e : Event) (d : Dev) : d.linkLoss [] (report e d) := by
  obtain ⟨h1, h2, h3, h4⟩ := report_reportsTo e d
  exact ⟨report_reportsOnly e d, h2, h3, h4, fun ch => ⟨_, h1 ch, fun _ => rfl, id, fun h => report_dropped h e,
    fun h => absurd h List.not_mem_nil⟩⟩

theorem modChan_linkLoss (ch : Nat) (d : Dev) : d.linkLoss [ch] (d.modChan ch (fun c => { c with linkWait := true })) := by
  refine ⟨rfl, rfl, rfl, rfl, fun j => ?_⟩
  unfold Dev.dropped
  rw [Dev.chan_modChan]
  by_cases hj : j = ch
  · subst hj
    rw [if_pos rfl]
    exact ⟨true, rfl, fun hn => absurd (List.mem_singleton.2 rfl) hn, fun _ => rfl, id, fun _ _ _ => rfl⟩
  · rw [if_neg hj]
    exact ⟨_, rfl, fun _ => rfl, id, id, fun hm => absurd (List.mem_singleton.1 hm) hj⟩

theorem linkWaitReport_linkLoss (ch : Nat) (d : Dev) : d.linkLoss [ch] (linkWaitReport ch d) := by
  by_cases h : (d.chan ch).st = .opened ∧ (d.chan ch).linkWait = false ∧
      ((d.chan ch).txq ≠ [] ∨ (d.chan ch).unacked ≠ [] ∨ (d.chan ch).drops.total ≠ 0)
  · rw [show linkWaitReport ch d = report _ _ from if_pos h]
    exact Dev.linkLoss_append (modChan_linkLoss ch d) (report_linkLoss _ _)
  · rw [show linkWaitReport ch d = d from if_neg h]
    refine ⟨rfl, rfl, rfl, rfl, fun j => ⟨_, rfl, fun _ => rfl, id, id, fun hm hopen hs => ?_⟩⟩
    obtain rfl := List.mem_singleton.1 hm
    by_contra hw
    exact h ⟨hopen, Bool.eq_false_iff.2 hw, hs⟩

theorem foldl_linkLoss (cs : List Nat) (d : Dev) : d.linkLoss cs (cs.foldl (fun d c => linkWaitReport c d) d) := by
  induction cs generalizing d with
  | nil =>
    exact ⟨rfl, rfl, rfl, rfl, fun ch => ⟨_, rfl, fun _ => rfl, id, id, fun h => absurd h List.not_mem_nil⟩⟩
  | cons c cs ih => exact Dev.linkLoss_append (linkWaitReport_linkLoss c d) (ih _)

/-! ### A port alone -/

/-- From `d` to `d'` the ports alone have changed, beside what reports write and what goes out. -/
def Dev.onlyPorts (d d' : Dev) : Prop :=
  d.reportsTo d' ∧ d' = { d with ports := d'.ports, out := d'.out, tr := d'.tr, rcd := d'.rcd, flt := d'.flt }

theorem Dev.onlyPorts_refl (d : Dev) : d.onlyPorts d := ⟨Dev.reportsTo_refl d, rfl⟩

theorem Dev.onlyPorts_trans {a b c : Dev} (h1 : a.onlyPorts b) (h2 : b.onlyPorts c) : a.onlyPorts c := by
  obtain ⟨hr, he⟩ := h1
  obtain ⟨hr', he'⟩ := h2
  exact ⟨Dev.reportsTo_trans hr hr', by rw [he', he]⟩

theorem setPort_onlyPorts (p : Nat) (x : Port) (d : Dev) : d.onlyPorts (d.setPort p x) :=
  ⟨Dev.reportsTo_of_eq rfl rfl rfl, rfl⟩

theorem report_onlyPorts (e : Event) (d : Dev) : d.onlyPorts (report e d) := by
  have h := report_reportsOnly e d
  unfold Dev.reportsOnly at h
  exact ⟨report_reportsTo .., by rw [h]⟩

theorem emit_onlyPorts (m : OutMsg) (d : Dev) : d.onlyPorts (d.emit m) := ⟨Dev.reportsTo_of_eq rfl rfl rfl, rfl⟩

/-- The state after such a change. -/
theorem onlyPorts_after {s : State} {a : Dev} (h : s.dev.fresh0.onlyPorts a) :
    (∀ q, (s.after a).dev.port q = a.port q) ∧ (s.after a).dev.out = a.out ∧
      s.frame (s.after a) { s.dev with ports := (s.after a).dev.ports } := by
  obtain ⟨hr, he⟩ := h
  have hp : (s.after a).dev.ports = a.ports := by simp only [State.after_dev]
  have hw : a.wire = [] := by rw [he]; rfl
  refine ⟨fun q => by simp only [State.after_objects], by simp, ?_⟩
  rw [hp]
  exact State.frame_of_eq (Dev.reportsTo_congr hr rfl rfl rfl) (by rw [he]; rfl) hw

/-- The state after one port takes new contents, without a report. -/
theorem setPort_silent (s : State) (p : Nat) (x : Port) :
    let t := s.after (s.dev.fresh0.setPort p x)
    s.silent t { s.dev with ports := t.dev.ports } ∧ (∀ q, q ≠ p → t.dev.port q = s.dev.port q) ∧ t.dev.port p = x := by
  have hp : (s.after (s.dev.fresh0.setPort p x)).dev.ports = (s.dev.fresh0.setPort p x).ports := by simp only [State.after_dev]
  have hq (q : Nat) : (s.after (s.dev.fresh0.setPort p x)).dev.port q = if q = p then x else s.dev.port q := by
    simp only [State.after_objects]
    exact Dev.port_setPort ..
  refine ⟨?_, fun q h => (hq q).trans (if_neg h), (hq p).trans (if_pos rfl)⟩
  dsimp only
  rw [hp]
  exact State.silent_of_eq rfl

/-! ### Links and their search (R201, R606) -/

/-- A link that comes up or goes down while the main domain runs (R230). -/
theorem Runs.linkUp {s : State} {p n : Nat} {q : State → Prop} (hs : s.up) (hp : p < 3)
    (hq : q (s.after (Machine.linkUp p n s.dev.fresh0))) : Runs (.linkUp p n) s q := by
  have he : portLink p (some n) s.dev.fresh0 = Machine.linkUp p n s.dev.fresh0 := if_pos hs
  refine ⟨s.after (portLink p (some n) s.dev.fresh0), checked_wf (i := .linkUp p n) (decide_eq_true hp), ?_⟩
  rw [he]
  exact hq

theorem Runs.linkDown {s : State} {p : Nat} {q : State → Prop} (hs : s.up) (hp : p < 3)
    (hq : q (s.after (Machine.linkDown p s.dev.fresh0))) : Runs (.linkDown p) s q := by
  have he : portLink p none s.dev.fresh0 = Machine.linkDown p s.dev.fresh0 := if_pos hs
  refine ⟨s.after (portLink p none s.dev.fresh0), checked_wf (i := .linkDown p) (decide_eq_true hp), ?_⟩
  rw [he]
  exact hq

/-- A port whose link has come up (R201, R606). -/
def Port.linked (x : Port) : Port := { x with
  link := true, sync := true, speed := if x.modeNow = 3 then 2 else 1, search := none
  mode := if x.search.isSome then (x.mode &&& ~~~3#32) ||| BitVec.ofNat 32 x.modeNow else x.mode }

/-- A port whose link is lost (R226). -/
def Port.unlinked (x : Port) : Port := { x with link := false, sync := false, speed := 0, pdelay := 0xFFFFFFFF }

/-- The channels of a riser port, none of the ply port. -/
def Dev.ownChans (d : Dev) (p : Nat) : List Nat := if p < 2 then d.portChans p else []

theorem Dev.mem_ownChans {d : Dev} {p ch : Nat} : ch ∈ d.ownChans p ↔ p < 2 ∧ ch < 65 ∧ (d.chan ch).portNo = p := by
  unfold Dev.ownChans
  split
  · next h => simp [Dev.portChans, h]
  · next h => simp [h]

/-- The channels of a list have their link. -/
def linkBack (cs : List Nat) (d : Dev) : Dev := cs.foldl (fun d c => d.modChan c (fun c => { c with linkWait := false })) d

theorem linkBack_chan (cs : List Nat) (d : Dev) (ch : Nat) :
    (linkBack cs d).chan ch = if ch ∈ cs then { d.chan ch with linkWait := false } else d.chan ch := by
  unfold linkBack
  induction cs generalizing d with
  | nil => rfl
  | cons c cs ih =>
    rw [List.foldl_cons, ih, Dev.chan_modChan]
    by_cases h : ch ∈ cs
    · rw [if_pos h, if_pos (List.mem_cons_of_mem _ h)]
      split
      · next hc => rw [hc]
      · rfl
    · rw [if_neg h]
      by_cases hc : ch = c
      · rw [if_pos hc, if_pos (by rw [hc]; exact List.mem_cons_self), hc]
      · rw [if_neg hc, if_neg (fun hm => (List.mem_cons.1 hm).elim hc h)]

theorem linkBack_eq (cs : List Nat) (d : Dev) : linkBack cs d = { d with tr := (linkBack cs d).tr } ∧
    d.tr.butReports (linkBack cs d).tr := by
  unfold linkBack
  induction cs generalizing d with
  | nil => exact ⟨rfl, rfl⟩
  | cons c cs ih =>
    obtain ⟨h1, h2⟩ := ih (d.modChan c (fun c => { c with linkWait := false }))
    refine ⟨?_, Transport.butReports_trans (b := (d.modChan c (fun c => { c with linkWait := false })).tr) rfl h2⟩
    rw [List.foldl_cons, h1]
    rfl

theorem linkUp_eq {p mbit : Nat} {d : Dev} (hl : (d.port p).link = false) (hm : (d.port p).modeNow ≠ 0)
    (hr : (d.port p).modeNow = 1 → mbit = 1000) : ∃ e, linkUp p mbit d =
      report e (linkBack (d.ownChans p) (d.setPort p (d.port p).linked)) := by
  unfold linkUp
  dsimp only
  rw [if_neg (by simp [hl, hm]), if_neg (by simpa using hr)]
  refine ⟨_, congrArg (report _) ?_⟩
  have hspeed : BitVec.ofNat 2 (if (d.port p).modeNow = 3 then 2 else 1) = if (d.port p).modeNow = 3 then 2 else 1 := by
    split <;> rfl
  rw [hspeed]
  rfl

theorem Dev.ownChans_of_reports {d e : Dev} (h : d.reportsTo e) (p : Nat) : e.ownChans p = d.ownChans p := by
  have hno (c : Nat) : (e.chan c).portNo = (d.chan c).portNo := by
    rw [h.1 c]
    rfl
  unfold Dev.ownChans Dev.portChans
  rw [show (fun c => (e.chan c).portNo == p) = (fun c => (d.chan c).portNo == p) from funext fun c => by rw [hno]]

theorem linkDown_fold {p : Nat} {d : Dev} (hl : (d.port p).link = true) : linkDown p d =
    ((report (portEv 0x0502 true p 0) (d.setPort p (d.port p).unlinked)).ownChans p).foldl (fun d c => linkWaitReport c d)
      (report (portEv 0x0502 true p 0) (d.setPort p (d.port p).unlinked)) :=
  if_neg (by simp [hl])

theorem linkDown_linkLoss {p : Nat} {d : Dev} (hl : (d.port p).link = true) :
    (d.setPort p (d.port p).unlinked).linkLoss (d.ownChans p) (linkDown p d) := by
  rw [linkDown_fold hl, Dev.ownChans_of_reports (report_reportsTo ..)]
  exact Dev.linkLoss_append (as := []) (report_linkLoss ..) (foldl_linkLoss ..)

/-! ### The frames of a port that start (R207 to R214) -/

/-- Port `p` serves its queue, its own settings may change, and reports are made: the frames that start leave its queue. -/
def Dev.portServes (p : Nat) (d d' : Dev) : Prop :=
  d.reportsTo d' ∧
    d' = { d with ports := d'.ports, eg := d'.eg, wire := d'.wire, tr := d'.tr, rcd := d'.rcd, flt := d'.flt } ∧
    (∀ q, q ≠ p → d'.port q = d.port q ∧ d'.egress q = d.egress q) ∧
    (d'.egress p).queue.Sublist (d.egress p).queue ∧
    ∃ w, d'.wire = d.wire ++ w ∧ (d'.egress p).queue.length + w.length = (d.egress p).queue.length ∧
      ∀ f ∈ w, f.1 = p ∧ ∃ x ∈ (d.egress p).queue, ∃ n, f.2 = x.sealed n

theorem Dev.portServes_refl (p : Nat) (d : Dev) : d.portServes p d :=
  ⟨Dev.reportsTo_refl d, rfl, fun _ _ => ⟨rfl, rfl⟩, List.Sublist.refl _, [], by simp, rfl, fun _ h => absurd h List.not_mem_nil⟩

theorem Dev.portServes_trans {p : Nat} {a b c : Dev} (h1 : a.portServes p b) (h2 : b.portServes p c) : a.portServes p c := by
  obtain ⟨hr, he, ho, hq, w, hw, hl, hf⟩ := h1
  obtain ⟨hr', he', ho', hq', w', hw', hl', hf'⟩ := h2
  refine ⟨Dev.reportsTo_trans hr hr', by rw [he', he], fun q h => ⟨(ho' q h).1.trans (ho q h).1, (ho' q h).2.trans (ho q h).2⟩,
    hq'.trans hq, w ++ w', by rw [hw', hw, List.append_assoc], by rw [List.length_append]; omega, fun f hm => ?_⟩
  rcases List.mem_append.1 hm with h | h
  · exact hf f h
  · obtain ⟨h1, x, hx, n, h2⟩ := hf' f h
    exact ⟨h1, x, hq.subset hx, n, h2⟩

theorem setPort_portServes (p : Nat) (x : Port) (d : Dev) : d.portServes p (d.setPort p x) :=
  ⟨Dev.reportsTo_of_eq rfl rfl rfl, rfl, fun q h => ⟨(Dev.port_setPort ..).trans (if_neg h), rfl⟩, List.Sublist.refl _, [],
    by simp [Dev.setPort], rfl, fun _ h => absurd h List.not_mem_nil⟩

theorem report_portServes (p : Nat) (e : Event) (d : Dev) : d.portServes p (report e d) := by
  have h := report_reportsOnly e d
  unfold Dev.reportsOnly at h
  have hp (q : Nat) : (report e d).port q = d.port q := by simp
  have hg : (report e d).eg = d.eg := by rw [h]
  have he (q : Nat) : (report e d).egress q = d.egress q := by
    unfold Dev.egress
    rw [hg]
  refine ⟨report_reportsTo .., by rw [h], fun q _ => ⟨hp q, he q⟩, by rw [he], [], ?_, by rw [he]; rfl,
    fun _ h => absurd h List.not_mem_nil⟩
  rw [List.append_nil, h]

/-- The egress side of a port moves on in time, or takes back frames that it hands out. -/
theorem setEgress_portServes {p : Nat} {e : Egress} {d : Dev} (h : e.queue = (d.egress p).queue) :
    d.portServes p (d.setEgress p e) := by
  have hq : ((d.setEgress p e).egress p).queue = (d.egress p).queue := by
    rw [Dev.egress_setEgress, if_pos rfl, h]
  exact ⟨Dev.reportsTo_of_eq rfl rfl rfl, rfl, fun q hn => ⟨rfl, (Dev.egress_setEgress ..).trans (if_neg hn)⟩, by rw [hq],
    [], by simp [Dev.setEgress], by rw [hq]; rfl, fun _ h => absurd h List.not_mem_nil⟩

theorem startFrame_portServes {p t : Nat} {x : EgItem} {d : Dev} (h : x ∈ (d.egress p).queue) :
    d.portServes p (startFrame p t x d) := by
  have hq : ((startFrame p t x d).egress p).queue = (d.egress p).queue.eraseP (fun y => y == x) := by
    unfold startFrame
    exact congrArg Egress.queue ((Dev.egress_setEgress ..).trans (if_pos rfl))
  refine ⟨Dev.reportsTo_of_eq rfl rfl rfl, rfl, fun q hn => ⟨rfl, (Dev.egress_setEgress ..).trans (if_neg hn)⟩, ?_,
    [(p, x.sealed (if x.isPly then (d.egress p).plySeq + 1 else (d.egress p).plySeq))], rfl, ?_, fun f hf => ?_⟩
  · rw [hq]
    exact List.eraseP_sublist
  · rw [hq, List.length_eraseP_of_mem (p := fun y => y == x) h (beq_self_eq_true x)]
    have := List.length_pos_of_mem h
    simp only [List.length_singleton]
    omega
  · obtain rfl := List.mem_singleton.1 hf
    exact ⟨rfl, x, h, _, rfl⟩

theorem oldest_mem {d : Dev} {p c : Nat} {x : EgItem} (h : d.oldest p c = some x) : x ∈ (d.egress p).queue := by
  obtain ⟨r, -, hr⟩ := List.exists_of_findSome?_eq_some h
  exact List.mem_of_find?_eq_some hr

/-- The frame that starts is the next one of its class, and may start (R208, R214). -/
theorem pick_oldest {d : Dev} {p t : Nat} {x : EgItem} (h : d.pick p t = some x) :
    ∃ c, c < 8 ∧ d.oldest p c = some x ∧ d.canStart p c x.len t = true := by
  obtain ⟨c, hc, hx⟩ := List.exists_of_findSome?_eq_some h
  refine ⟨c, by simp only [List.mem_cons, List.not_mem_nil, or_false] at hc; omega, ?_⟩
  split at hx
  · next y hy =>
    split at hx
    · next hs =>
      obtain rfl := Option.some.inj hx
      exact ⟨hy, hs⟩
    · exact absurd hx nofun
  · exact absurd hx nofun

theorem serveFrames_portServes (p stop n : Nat) (d : Dev) : d.portServes p (serveFrames p stop n d) := by
  induction n generalizing d with
  | zero => exact Dev.portServes_refl p d
  | succ n ih =>
    unfold serveFrames
    dsimp only
    split
    · exact Dev.portServes_refl p d
    · split
      · exact Dev.portServes_refl p d
      · next x hx =>
        obtain ⟨c, -, hc, -⟩ := pick_oldest hx
        exact Dev.portServes_trans (startFrame_portServes (oldest_mem hc)) (ih _)

theorem foldl_portServes {α : Type} {p : Nat} {f : Dev → α → Dev} (h : ∀ (d : Dev) x, d.portServes p (f d x)) (xs : List α) (d : Dev) :
    d.portServes p (xs.foldl f d) := by
  induction xs generalizing d with
  | nil => exact Dev.portServes_refl p d
  | cons x xs ih => exact Dev.portServes_trans (h d x) (ih _)

theorem servePort_portServes (p stop : Nat) (d : Dev) : d.portServes p (servePort p stop d) := by
  unfold servePort
  dsimp only
  split
  · exact setEgress_portServes rfl
  · refine foldl_portServes (fun (e : Dev) t => ?_) _ d
    exact Dev.portServes_trans (serveFrames_portServes p t (e.egress p).queue.length e) (setEgress_portServes rfl)

theorem startFrame_ports (p t : Nat) (x : EgItem) (d : Dev) : (startFrame p t x d).ports = d.ports := rfl

theorem serveFrames_ports (p stop n : Nat) (d : Dev) : (serveFrames p stop n d).ports = d.ports := by
  induction n generalizing d with
  | zero => rfl
  | succ n ih =>
    unfold serveFrames
    dsimp only
    split
    · rfl
    · split
      · rfl
      · rw [ih, startFrame_ports]

/-- Serving the queue of a port leaves the settings of every port. -/
theorem servePort_ports (p stop : Nat) (d : Dev) : (servePort p stop d).ports = d.ports := by
  unfold servePort
  dsimp only
  split
  · rfl
  · next hn =>
    clear hn
    generalize d.startTimes p (d.egress p).now stop ++ [stop] = ts
    induction ts generalizing d with
    | nil => rfl
    | cons t ts ih =>
      rw [List.foldl_cons, ih]
      exact serveFrames_ports ..

theorem servePort_port (p stop : Nat) (d : Dev) (q : Nat) : (servePort p stop d).port q = d.port q := by
  unfold Dev.port
  rw [servePort_ports]

/-- The state after a port has served its queue. -/
theorem portServes_after {s : State} {p : Nat} {a : Dev} (h : s.dev.fresh0.portServes p a) :
    (∀ q, q ≠ p → (s.after a).dev.port q = s.dev.port q) ∧ (s.after a).dev.port p = a.port p ∧
      (s.after a).dev.egress p = a.egress p ∧
      serves s (s.after a) p { s.dev with ports := (s.after a).dev.ports } := by
  obtain ⟨hr, he, ho, hq, w, hw, hl, hf⟩ := h
  have hout : a.out = [] := by rw [he]; rfl
  have hd : (s.after a).dev = { a with wr := [] } := by
    unfold State.after
    rw [depart_none hout]
  have hwire : a.wire = w := hw
  have hp : (s.after a).dev.ports = a.ports := by rw [hd]
  have hg (q : Nat) : (s.after a).dev.egress q = a.egress q := by rw [hd]; rfl
  refine ⟨fun q hn => ?_, by rw [hd]; rfl, hg p, ?_, ?_, fun q hn => ?_, by rw [hg]; exact hq, ?_, ?_⟩
  · rw [hd]
    exact (ho q hn).1
  · unfold State.after
    rw [depart_none hout]
    dsimp only
    rw [he]
    rfl
  · rw [hp, hd]
    exact Dev.reportsTo_congr hr rfl rfl rfl
  · rw [hg]
    exact (ho q hn).2
  · rw [hg, hd]
    show (a.egress p).queue.length + a.wire.length = _
    rw [hwire]
    exact hl
  · rw [hd]
    show ∀ f ∈ a.wire, _
    rw [hwire]
    exact hf

/-! ### The write of one register (R151) -/

/-- The effect of a write of one register below the descriptors. -/
theorem regCmd_effect {off : Nat} (v : Reg) (ho : off < 0x1000) (d : Dev) :
    configEffect (regCmd off v) d = (regDef off).put v d := by
  obtain ⟨hop, -, hindex, hcount⟩ := writeCmd_fields (ch := 0) (op := 0x0D) (sp := 0xF0) (index := off) (size := 4)
    (value := v.toNat) (by omega) (by omega) (by omega)
  have hop : (regCmd off v).opcode = 0x0D := hop
  have hindex : (regCmd off v).index = off := hindex
  have hcount : (regCmd off v).count = 1 := hcount
  have hword : (regCmd off v).word 0 = v := by
    have hpay : slice (leBytes 4 v.toNat) 0 4 = leBytes 4 v.toNat := by
      unfold slice
      rw [List.drop_zero, List.take_of_length_le (le_of_eq (by simp))]
      simp
    show leBits 32 (slice (leBytes 4 v.toNat) (4 * 0) 4) = v
    rw [Nat.mul_zero, hpay]
    rw [leBits_leBytes 32 4 _ rfl, BitVec.ofNat_toNat, BitVec.setWidth_eq]
  have hwords : (regCmd off v).regWords = [(off, v)] := by
    unfold Cmd.regWords
    rw [hcount]
    simp [List.range_succ, hindex, hword]
  have hdesc : descChans [(off, v)] = [] := by
    unfold descChans
    rw [List.filter_eq_nil_iff]
    intro c _
    simp only [List.any_cons, List.any_nil, Bool.or_false, decide_eq_true_eq]
    omega
  unfold configEffect
  rw [hop]
  show regsWrite (regCmd off v).regWords d = _
  rw [hwords]
  unfold regsWrite
  rw [hdesc]
  rfl

theorem regWrite_admitted {off : Nat} {v : Reg} {s : State} (h : writeAdmitted (regCmd off v) s) (ho : off < 0x1000) :
    directWrite (regCmd off v) s.dev.fresh0 = rightsChanged ((regDef off).put v s.dev.fresh0) := by
  rw [directWrite_admitted h, regCmd_effect v ho]

/-! ### The events of a port -/

theorem linkUp_idle {p mbit : Nat} {d : Dev} (h : (d.port p).link = true ∨ (d.port p).modeNow = 0) : linkUp p mbit d = d :=
  if_pos (by simpa using h)

/-- SGMII at a rate other than 1000 Mbit/s is no link (R606). -/
theorem linkUp_slow {p mbit : Nat} {d : Dev} (hl : (d.port p).link = false) (hm : (d.port p).modeNow = 1) (hr : mbit ≠ 1000) :
    linkUp p mbit d = report (portEv 0x0502 true p 3) d := by
  unfold linkUp
  dsimp only
  rw [if_neg (by simp [hl, hm]), if_pos (by simp [hm, hr])]

theorem linkUp_after {s : State} {p mbit : Nat} (hl : (s.dev.port p).link = false) (hm : (s.dev.port p).modeNow ≠ 0)
    (hr : (s.dev.port p).modeNow = 1 → mbit = 1000) :
    let t := s.after (linkUp p mbit s.dev.fresh0)
    ((∀ q, q ≠ p → t.dev.port q = s.dev.port q) ∧ t.dev.tr.consRejCnt = s.dev.tr.consRejCnt ∧
        s.frame t { s.dev with ports := t.dev.ports, tr := t.dev.tr }) ∧ t.dev.port p = (s.dev.port p).linked ∧
      ∀ ch, (ch ∈ s.dev.ownChans p → ({ s.dev.chan ch with linkWait := false }).butDrops (t.dev.chan ch)) ∧
        (ch ∉ s.dev.ownChans p → (s.dev.chan ch).butDrops (t.dev.chan ch)) := by
  obtain ⟨e, he⟩ := linkUp_eq (d := s.dev.fresh0) hl hm hr
  obtain ⟨hb, hbt⟩ := linkBack_eq (s.dev.ownChans p) (s.dev.fresh0.setPort p (s.dev.port p).linked)
  have hchan := linkBack_chan (s.dev.ownChans p) (s.dev.fresh0.setPort p (s.dev.port p).linked)
  have he : linkUp p mbit s.dev.fresh0 =
      report e (linkBack (s.dev.ownChans p) (s.dev.fresh0.setPort p (s.dev.port p).linked)) := he
  intro t
  have ht : t = s.after (report e (linkBack (s.dev.ownChans p) (s.dev.fresh0.setPort p (s.dev.port p).linked))) :=
    congrArg s.after he
  generalize linkBack (s.dev.ownChans p) (s.dev.fresh0.setPort p (s.dev.port p).linked) = b at hb hbt hchan ht
  obtain ⟨h1, h2, h3, h4⟩ := report_reportsTo e b
  have ho : report e b = { b with tr := (report e b).tr, rcd := (report e b).rcd, flt := (report e b).flt } :=
    report_reportsOnly e b
  have hports : t.dev.ports = (s.dev.setPort p (s.dev.port p).linked).ports := by
    rw [ht]
    simp only [State.after_dev, report_keeps]
    rw [hb]
    rfl
  have hport (q : Nat) : t.dev.port q = if q = p then (s.dev.port p).linked else s.dev.port q := by
    have hq : t.dev.port q = (s.dev.setPort p (s.dev.port p).linked).port q := by
      unfold Dev.port at hports ⊢
      rw [hports]
    exact hq.trans (Dev.port_setPort ..)
  have htr : t.dev.tr = (report e b).tr := by
    rw [ht]
    simp only [State.after_dev]
  have hch (ch : Nat) : t.dev.chan ch = (report e b).chan ch := by
    unfold Dev.chan
    rw [htr]
  refine ⟨⟨fun q hq => (hport q).trans (if_neg hq), ?_, ?_⟩, (hport p).trans (if_pos rfl), fun ch => ⟨fun hin => ?_, fun hin => ?_⟩⟩
  · rw [htr]
    have hx := congrArg Transport.consRejCnt (Transport.butReports_trans hbt h2)
    exact hx
  · rw [hports, htr, ht]
    refine State.frame_of_eq ⟨fun _ => rfl, rfl, ?_, ?_⟩ ?_ ?_
    · exact h3.trans (by rw [hb]; rfl)
    · exact h4.trans (by rw [hb]; rfl)
    · rw [ho, hb]
      rfl
    · rw [ho, hb]
      rfl
  · rw [hch]
    have hx := h1 ch
    rw [hchan, if_pos hin] at hx
    exact hx
  · rw [hch]
    have hx := h1 ch
    rw [hchan, if_neg hin] at hx
    exact hx

/-- A state whose channels have lost their link as `linkLoss` says. -/
theorem linkLoss_waits {cs : List Nat} {d a : Dev} {s t : State} (h : d.linkLoss cs a) (hd : ∀ ch, d.chan ch = s.dev.chan ch)
    (ht : ∀ ch, (a.chan ch).butDrops (t.dev.chan ch)) :
    (∀ ch, ∃ w, ({ s.dev.chan ch with linkWait := w }).butDrops (t.dev.chan ch) ∧
        (ch ∉ cs → w = (s.dev.chan ch).linkWait) ∧ ((s.dev.chan ch).linkWait = true → w = true)) ∧
      ∀ ch, ch ∈ cs → (s.dev.chan ch).st = .opened → (s.dev.chan ch).toSend → (t.dev.chan ch).linkWait = true := by
  obtain ⟨-, -, -, -, hc⟩ := h
  refine ⟨fun ch => ?_, fun ch hin hopen hs => ?_⟩
  · obtain ⟨w, h1, h2, h3, -, -⟩ := hc ch
    rw [hd] at h1 h2 h3
    exact ⟨w, Channel.butDrops_trans h1 (ht ch), h2, h3⟩
  · obtain ⟨w, h1, -, -, -, h5⟩ := hc ch
    rw [hd] at h1 h5
    have hb := Channel.butDrops_trans h1 (ht ch)
    rw [hb]
    exact h5 hin hopen hs

/-- The state after a link is lost (R198, R226). -/
theorem linkDown_after {s : State} {p : Nat} (hl : (s.dev.port p).link = true) :
    let t := s.after (linkDown p s.dev.fresh0)
    (∀ q, t.dev.port q = if q = p then (s.dev.port p).unlinked else s.dev.port q) ∧
      t.dev.tr.consRejCnt = s.dev.tr.consRejCnt ∧ s.frame t { s.dev with ports := t.dev.ports, tr := t.dev.tr } ∧
      (∀ ch, ∃ w, ({ s.dev.chan ch with linkWait := w }).butDrops (t.dev.chan ch) ∧
        (ch ∉ s.dev.ownChans p → w = (s.dev.chan ch).linkWait) ∧ ((s.dev.chan ch).linkWait = true → w = true)) ∧
      ∀ ch, ch ∈ s.dev.ownChans p → (s.dev.chan ch).st = .opened → (s.dev.chan ch).toSend →
        (t.dev.chan ch).linkWait = true := by
  have h : (s.dev.fresh0.setPort p (s.dev.port p).unlinked).linkLoss (s.dev.ownChans p) (linkDown p s.dev.fresh0) :=
    linkDown_linkLoss (d := s.dev.fresh0) hl
  intro t
  have hch (ch : Nat) : t.dev.chan ch = (linkDown p s.dev.fresh0).chan ch := by
    simp only [t, State.after_objects]
  have hw := linkLoss_waits (s := s) (t := t) h (fun _ => rfl) (fun ch => by rw [hch]; rfl)
  obtain ⟨he, ht, hr, hf, -⟩ := h
  have hports : t.dev.ports = (s.dev.setPort p (s.dev.port p).unlinked).ports := by
    simp only [t, State.after_dev]
    rw [he]
    rfl
  have htr : t.dev.tr = (linkDown p s.dev.fresh0).tr := by simp only [t, State.after_dev]
  refine ⟨fun q => ?_, ?_, ?_, hw⟩
  · have hq : t.dev.port q = (s.dev.setPort p (s.dev.port p).unlinked).port q := by
      unfold Dev.port at hports ⊢
      rw [hports]
    exact hq.trans (Dev.port_setPort ..)
  · rw [htr, ht]
    rfl
  · rw [hports, htr]
    refine State.frame_of_eq ⟨fun _ => rfl, rfl, hr, hf⟩ ?_ ?_
    · rw [he]
      rfl
    · rw [he]
      rfl

theorem regDef_portMode {p : Nat} (hp : p < 3) (v : Reg) (d : Dev) :
    (regDef (0x0700 + 0x40 * p + 0x3C)).put v d = portModeWrite p v d := by
  have h : p = 0 ∨ p = 1 ∨ p = 2 := by omega
  rcases h with rfl | rfl | rfl <;> rfl

/-- A frame that leaves the transport open. -/
theorem State.frame_ownTr {s t : State} {d : Dev} (h : s.frame t d) : s.frame t { d with tr := t.dev.tr } := by
  obtain ⟨he, ⟨-, -, hr, hf⟩, hd⟩ := h
  exact ⟨he, ⟨fun _ => rfl, rfl, hr, hf⟩, hd⟩

/-- The state after a write that has changed ports, and made reports; the subscriptions' rights follow (R93). -/
theorem portsWritten_after {s : State} {a : Dev}
    (he : a = { s.dev.fresh0 with ports := a.ports, tr := a.tr, rcd := a.rcd, flt := a.flt })
    (hr : ({ s.dev with tr := a.tr } : Dev).reportsTo a) :
    let t := s.after (rightsChanged a)
    (∀ q, t.dev.port q = a.port q) ∧ (∀ ch, (a.chan ch).butDrops (t.dev.chan ch)) ∧
      s.frame t { s.dev with
        ports := t.dev.ports, tr := t.dev.tr, ps := { s.dev.ps with subs := t.dev.ps.subs }
        ply := { s.dev.ply with digestDue := t.dev.ply.digestDue } } := by
  intro t
  have hf := frame_rights (s := s) (a := a) (b := { s.dev with ports := a.ports, tr := a.tr })
    (Dev.reportsTo_congr hr rfl rfl rfl) (by rw [he]; rfl)
  obtain ⟨hrep, -⟩ := rightsChanged_only a
  have hch (ch : Nat) : t.dev.chan ch = (rightsChanged a).chan ch := by simp only [t, State.after_objects]
  obtain ⟨-, -, -, hports, -, -, -, -, -, -, -, -, -, hply, -⟩ := State.frame_keeps hf
  have hports : t.dev.ports = a.ports := hports
  have hply : t.dev.ply = s.dev.ply := hply
  refine ⟨fun q => ?_, fun ch => ?_, ?_⟩
  · unfold Dev.port
    rw [hports]
  · rw [hch]
    exact hrep.1 ch
  · rw [hports, hply]
    exact State.frame_ownTr hf

theorem portModeWrite_drops {p : Nat} {v : Reg} {d : Dev} (h : (d.port p).link = true ∧ fld v 0 2 ≠ fld (d.port p).mode 0 2) :
    portModeWrite p v d = (linkDown p d).modPort p (fun x => { x with mode := v &&& 7, search := none }) := by
  unfold portModeWrite
  dsimp only
  rw [if_pos h]

theorem portModeWrite_stays {p : Nat} {v : Reg} {d : Dev} (h : ¬((d.port p).link = true ∧ fld v 0 2 ≠ fld (d.port p).mode 0 2)) :
    portModeWrite p v d = d.setPort p { d.port p with mode := v &&& 7, search := none } := by
  unfold portModeWrite
  dsimp only
  rw [if_neg h]
  rfl

/-! ### Received frames (R203 to R205) -/

theorem Port.rxOk_iff {x : Port} {h : FrameHead} :
    x.rxOk h = true ↔ 64 ≤ h.len ∧ h.len ≤ 4352 ∧ h.fcsOk = true ∧ x.fill + h.len ≤ 65536 := by
  unfold Port.rxOk
  rw [Bool.and_eq_true, Bool.and_eq_true, decide_eq_true_eq, decide_eq_true_eq]
  tauto

theorem rxArrive_nothing {p : Nat} {h : FrameHead} {d : Dev} (hok : (d.port p).rxOk h = true) : rxArrive p h id d = d := by
  cases ht : (d.port p).takes p h
  · exact rxArrive_left _ hok ht
  · exact rxArrive_taken _ hok ht

/-- One message handed out. -/
theorem emit_after (s : State) (m : OutMsg) :
    s.frame (s.after (s.dev.fresh0.emit m)) s.dev ∧ (s.after (s.dev.fresh0.emit m)).dev.out = [m] :=
  ⟨State.frame_of_eq (Dev.reportsTo_of_eq rfl rfl rfl) rfl rfl, by simp [Dev.emit, Dev.fresh0]⟩

theorem arpAnswer_own {p : Nat} {target sender : Reg} {mac : BitVec 48} {d : Dev} (hp : p < 2) (hs : d.maySend p = true)
    (ht : target = (d.port p).ip4) (hz : (d.port p).ip4 ≠ 0) : arpAnswer p (.arp target sender mac) d =
      d.emit (.eth p mac 0x8100 (beBytes 2 (d.port p).vid.toNat ++ beBytes 2 0x0806 ++ [0, 1, 8, 0, 6, 4, 0, 2] ++
        beBytes 6 (d.portMac p).toNat ++ beBytes 4 (d.port p).ip4.toNat ++ beBytes 6 mac.toNat ++ beBytes 4 sender.toNat)) := by
  unfold arpAnswer
  dsimp only
  rw [if_neg (by simp [hs, hp]), if_neg (fun hc => hc.elim (fun h => h ht) hz)]

theorem arpAnswer_neighbour {p : Nat} {target sender : BitVec 128} {mac : BitVec 48} {d : Dev} (hp : p < 2)
    (hs : d.maySend p = true) (ht : target = (d.port p).ip6Bits) (hz : (d.port p).ip6Bits ≠ 0) :
    ∃ sum : List Byte, sum.length = 2 ∧ arpAnswer p (.neighbour target sender mac) d =
      d.emit (.eth p mac 0x8100 (beBytes 2 (d.port p).vid.toNat ++ beBytes 2 0x86DD ++
        [0x60, 0, 0, 0, 0, 32, 58, 255] ++ beBytes 16 (d.port p).ip6Bits.toNat ++ beBytes 16 sender.toNat ++
        [136, 0] ++ sum ++ [0x60, 0, 0, 0] ++ beBytes 16 (d.port p).ip6Bits.toNat ++ [2, 1] ++
        beBytes 6 (d.portMac p).toNat)) := by
  unfold arpAnswer
  dsimp only
  rw [if_neg (by simp [hs, hp]), if_neg (fun hc => hc.elim (fun h => h ht) hz)]
  generalize 65535 - onesSum _ = n
  refine ⟨beBytes 2 n, by simp [beBytes], ?_⟩
  simp only [List.append_assoc]
  rfl

theorem arpAnswer_arp_idle {p : Nat} {target sender : Reg} {mac : BitVec 48} {d : Dev}
    (h : d.maySend p = false ∨ target ≠ (d.port p).ip4 ∨ (d.port p).ip4 = 0) : arpAnswer p (.arp target sender mac) d = d := by
  unfold arpAnswer
  dsimp only
  rcases h with h | h
  · rw [if_pos (by simp [h])]
  · rw [if_pos h]
    split <;> rfl

theorem arpAnswer_neighbour_idle {p : Nat} {target sender : BitVec 128} {mac : BitVec 48} {d : Dev}
    (h : d.maySend p = false ∨ target ≠ (d.port p).ip6Bits ∨ (d.port p).ip6Bits = 0) :
    arpAnswer p (.neighbour target sender mac) d = d := by
  unfold arpAnswer
  dsimp only
  rcases h with h | h
  · rw [if_pos (by simp [h])]
  · rw [if_pos h]
    split <;> rfl

/-- Settles O54. -/
theorem portEvents : Obligations.PortEvents := by
  intro s p hs hp
  have hwf : decide (p < 3) = true := decide_eq_true hp
  have hown (ch : Nat) : (p < 2 ∧ ch < 65 ∧ (s.dev.chan ch).portNo = p) ↔ ch ∈ s.dev.ownChans p := Dev.mem_ownChans.symm
  refine ⟨fun mbit => ⟨fun h => ?_, fun hl hm hr => ?_, fun hl hm hr => ?_⟩, fun hl => ?_, fun hl => ?_, fun h => ?_,
    fun h => ?_, fun hp2 => ⟨fun i age hx ha hl => ?_, fun h => ?_⟩, fun v hadm => ?_, fun hp2 h hok htk => ?_, fun h => ?_,
    fun hen hidx hend => ?_, fun h => ?_⟩
  · refine Runs.linkUp hs hp ?_
    rw [linkUp_idle (d := s.dev.fresh0) h]
    exact State.silent_of_eq rfl
  · refine Runs.linkUp hs hp ?_
    rw [linkUp_slow (d := s.dev.fresh0) hl hm hr]
    exact frame_report s _ s.dev
  · refine Runs.linkUp hs hp ?_
    obtain ⟨h1, h2, h3⟩ := linkUp_after hl hm hr
    exact ⟨h1, h2, fun ch => ⟨fun h => (h3 ch).1 ((hown ch).1 h), fun h => (h3 ch).2 (fun hc => h ((hown ch).2 hc))⟩⟩
  · refine Runs.linkDown hs hp ?_
    rw [show linkDown p s.dev.fresh0 = s.dev.fresh0 from if_pos (by rw [show (s.dev.fresh0.port p).link = false from hl]; rfl)]
    exact State.silent_of_eq rfl
  · refine Runs.linkDown hs hp ?_
    obtain ⟨h1, h2, h3, h4, h5⟩ := linkDown_after hl
    refine ⟨⟨fun q hq => (h1 q).trans (if_neg hq), h2, h3⟩, (h1 p).trans (if_pos rfl), fun ch => ?_, fun ch hin => h5 ch ((hown ch).1 hin)⟩
    obtain ⟨w, h6, h7, h8⟩ := h4 ch
    exact ⟨w, h6, fun hn => h7 (fun hc => hn ((hown ch).2 hc)), h8⟩
  · have he : pcsSyncLost p s.dev.fresh0 = report (portEv 0x0503 true p 0)
        (s.dev.fresh0.setPort p { s.dev.port p with sync := false }) := if_pos h
    refine Runs.mainChecked (f := pcsSyncLost p) rfl hwf hs ?_
    rw [he]
    obtain ⟨h1, -, h3⟩ := onlyPorts_after (s := s) (Dev.onlyPorts_trans
      (setPort_onlyPorts p { s.dev.port p with sync := false } s.dev.fresh0) (report_onlyPorts (portEv 0x0503 true p 0) _))
    have hport (q : Nat) := (h1 q).trans ((by simp :
      (report (portEv 0x0503 true p 0) (s.dev.fresh0.setPort p { s.dev.port p with sync := false })).port q =
        if q = p then { s.dev.port p with sync := false } else s.dev.port q))
    exact ⟨⟨fun q hq => (hport q).trans (if_neg hq), h3⟩, (hport p).trans (if_pos rfl)⟩
  · refine Runs.stays (f := pcsSyncLost p) rfl hwf hs (if_neg ?_)
    rw [show (s.dev.fresh0.port p).sync = false from h]
    decide
  · have he : linkSearchStep p s.dev.fresh0 = s.dev.fresh0.setPort p { s.dev.port p with search := some ((i + 1) % 3, 0) } := by
      unfold linkSearchStep
      dsimp only
      rw [show (s.dev.fresh0.port p).search = some (i, age) from hx]
      exact if_pos ⟨ha, hl⟩
    refine Runs.mainChecked (f := linkSearchStep p) rfl (decide_eq_true hp2) hs ?_
    rw [he]
    obtain ⟨h1, -, h3⟩ := onlyPorts_after (s := s)
      (setPort_onlyPorts p { s.dev.port p with search := some ((i + 1) % 3, 0) } s.dev.fresh0)
    exact ⟨⟨fun q hq => (h1 q).trans ((Dev.port_setPort ..).trans (if_neg hq)), h3⟩,
      (h1 p).trans ((Dev.port_setPort ..).trans (if_pos rfl))⟩
  · refine Runs.stays (f := linkSearchStep p) rfl (decide_eq_true hp2) hs ?_
    unfold linkSearchStep
    dsimp only
    rw [show s.dev.fresh0.port p = s.dev.port p from rfl]
    rcases h with h | h | ⟨i, age, hx, ha⟩
    · rw [h]
    · split
      · exact if_neg (by rw [h]; simp)
      · rfl
    · rw [hx]
      exact if_neg (fun hc => absurd hc.1 (Nat.not_le.2 ha))
  · refine Runs.mainChecked (f := portModeSet p v) rfl hwf hs ?_
    have he : portModeSet p v s.dev.fresh0 = rightsChanged (portModeWrite p v s.dev.fresh0) := by
      rw [← regDef_portMode hp]
      exact regWrite_admitted hadm (by omega)
    rw [he]
    by_cases hd : (s.dev.port p).link = true ∧ fld v 0 2 ≠ fld (s.dev.port p).mode 0 2
    · have hloss : (s.dev.fresh0.setPort p (s.dev.port p).unlinked).linkLoss (s.dev.ownChans p) (linkDown p s.dev.fresh0) :=
        linkDown_linkLoss (d := s.dev.fresh0) hd.1
      rw [portModeWrite_drops (d := s.dev.fresh0) hd]
      have hport (q : Nat) : (linkDown p s.dev.fresh0).port q = if q = p then (s.dev.port p).unlinked else s.dev.port q := by
        have hx := congrArg (fun d => Dev.port d q) hloss.1
        exact hx.trans (Dev.port_setPort ..)
      obtain ⟨h1, h2, h3⟩ := portsWritten_after (s := s)
        (a := (linkDown p s.dev.fresh0).modPort p (fun x => { x with mode := v &&& 7, search := none }))
        (by rw [hloss.1]; rfl) ⟨fun _ => rfl, rfl, hloss.2.2.1, hloss.2.2.2.1⟩
      have hport' (q : Nat) := (h1 q).trans (Dev.port_modPort ..)
      obtain ⟨w1, w2⟩ := linkLoss_waits (s := s) hloss (fun _ => rfl) h2
      refine ⟨fun q hq => ?_, fun _ => ⟨⟨fun ch => ?_, fun ch hin => w2 ch ((hown ch).1 hin)⟩, ?_⟩, fun hn => absurd hd hn, h3⟩
      · rw [hport', if_neg hq, hport, if_neg hq]
      · obtain ⟨w, h6, h7, h8⟩ := w1 ch
        exact ⟨w, h6, fun hn => h7 (fun hc => hn ((hown ch).2 hc)), h8⟩
      · rw [hport', if_pos rfl, hport, if_pos rfl]
        rfl
    · rw [portModeWrite_stays (d := s.dev.fresh0) hd]
      obtain ⟨h1, h2, h3⟩ := portsWritten_after (s := s)
        (a := s.dev.fresh0.setPort p { s.dev.port p with mode := v &&& 7, search := none }) rfl (Dev.reportsTo_of_eq rfl rfl rfl)
      have hport (q : Nat) := (h1 q).trans (Dev.port_setPort ..)
      exact ⟨fun q hq => (hport q).trans (if_neg hq), fun hc => absurd hc hd,
        fun _ => ⟨(hport p).trans (if_pos rfl), h2⟩, h3⟩
  · have hwf2 : decide (p < 2) = true := decide_eq_true hp2
    have htaken (a : ArpIn) : arpRequest p ⟨h, a⟩ s.dev.fresh0 = arpAnswer p a s.dev.fresh0 :=
      rxArrive_taken (d := s.dev.fresh0) _ hok htk
    refine ⟨fun target sender mac hsend ht hz => ?_, fun target sender mac hsend ht hz => ?_, fun target sender mac hn => ?_,
      fun target sender mac hn => ?_⟩
    · refine Runs.mainChecked (f := arpRequest p ⟨h, .arp target sender mac⟩) rfl hwf2 hs ?_
      rw [htaken, arpAnswer_own (d := s.dev.fresh0) hp2 hsend ht hz]
      exact emit_after s _
    · refine Runs.mainChecked (f := arpRequest p ⟨h, .neighbour target sender mac⟩) rfl hwf2 hs ?_
      obtain ⟨sum, hlen, he⟩ := arpAnswer_neighbour (d := s.dev.fresh0) (sender := sender) (mac := mac) hp2 hsend ht hz
      rw [htaken, he]
      obtain ⟨h1, h2⟩ := emit_after s _
      exact ⟨h1, sum, h2, hlen⟩
    · exact Runs.stays (f := arpRequest p ⟨h, .arp target sender mac⟩) rfl hwf2 hs
        ((htaken _).trans (arpAnswer_arp_idle (d := s.dev.fresh0) hn))
    · exact Runs.stays (f := arpRequest p ⟨h, .neighbour target sender mac⟩) rfl hwf2 hs
        ((htaken _).trans (arpAnswer_neighbour_idle (d := s.dev.fresh0) hn))
  · refine ⟨fun hg => ?_, fun hg => ?_⟩
    · have hbad : ¬ (s.dev.fresh0.port p).rxOk h = true := fun hc => hg (Port.rxOk_iff.1 hc)
      obtain ⟨h1, h2, h3⟩ := frameDropped_after s p
      refine ⟨Runs.mainChecked (f := rxFrame ⟨p, h⟩) rfl hwf hs ?_,
        fun hp2 a => Runs.mainChecked (f := arpRequest p ⟨h, a⟩) rfl (decide_eq_true hp2) hs ?_⟩
      · rw [show rxFrame ⟨p, h⟩ s.dev.fresh0 = rxDropped p s.dev.fresh0 from rxArrive_dropped _ hbad]
        exact ⟨h1, h3, h2⟩
      · rw [show arpRequest p ⟨h, a⟩ s.dev.fresh0 = rxDropped p s.dev.fresh0 from rxArrive_dropped _ hbad]
        exact ⟨h1, h3, h2⟩
    · have hok : (s.dev.fresh0.port p).rxOk h = true := Port.rxOk_iff.2 hg
      refine ⟨Runs.stays (f := rxFrame ⟨p, h⟩) rfl hwf hs ?_, fun prio vid htag hv hp2 a =>
        Runs.stays (f := arpRequest p ⟨h, a⟩) rfl (decide_eq_true hp2) hs ?_⟩
      · exact rxArrive_nothing hok
      · refine rxArrive_left _ hok ?_
        unfold Port.takes
        rw [htag]
        simp [hp2]
        exact hv
  · have he : gateExpiry p s.dev.fresh0 = servePort p (10 * ((s.dev.port p).gateEnd (s.dev.port p).gateIdx - s.dev.tb.sample * 15625) + 1)
        (s.dev.fresh0.setPort p { s.dev.port p with gateIdx := (s.dev.port p).gateIdx + 1 }) :=
      if_pos (by
        rw [Bool.and_eq_true, Bool.and_eq_true, decide_eq_true_eq, decide_eq_true_eq]
        exact ⟨⟨hen, hidx⟩, hend⟩)
    refine Runs.mainChecked (f := gateExpiry p) rfl hwf hs ?_
    rw [he]
    obtain ⟨h1, h2, -, h4⟩ := portServes_after (s := s) (Dev.portServes_trans
      (setPort_portServes p { s.dev.port p with gateIdx := (s.dev.port p).gateIdx + 1 } s.dev.fresh0)
      (servePort_portServes p (10 * ((s.dev.port p).gateEnd (s.dev.port p).gateIdx - s.dev.tb.sample * 15625) + 1) _))
    refine ⟨h1, h4, h2.trans ?_⟩
    rw [servePort_port]
    exact (Dev.port_setPort ..).trans (if_pos rfl)
  · refine Runs.stays (f := gateExpiry p) rfl hwf hs (if_neg fun hc => ?_)
    rw [Bool.and_eq_true, Bool.and_eq_true, decide_eq_true_eq, decide_eq_true_eq] at hc
    obtain ⟨⟨h1, h2⟩, h3⟩ := hc
    rcases h with h | h | h
    · exact absurd (h.symm.trans h1) (by decide)
    · exact absurd h2 (Nat.not_lt.2 h)
    · exact absurd h3 (Nat.not_lt.2 h)

end Sys2Proof.Machine
end

section
/-!
Pause of a port, its watchdog and the module's own pause (R203, R207, R208, R211 to R217, R605).
-/
namespace Sys2Proof.Machine

/-! ### The pause timers of a port (R212, R213) -/

theorem tput_ne_nil {α : Type} (t : Tbl α) (k : Nat) (v : α) : tput t k v ≠ [] := by
  cases t with
  | nil => simp [tput]
  | cons e t =>
    unfold tput
    split
    · simp
    · split <;> simp

theorem mem_tkeys_terase {α : Type} (t : Tbl α) (k b : Nat) : b ∈ tkeys (terase t k) ↔ b ∈ tkeys t ∧ b ≠ k := by
  induction t with
  | nil => simp [terase, tkeys]
  | cons e t ih =>
    obtain ⟨j, v⟩ := e
    unfold tkeys at ih ⊢
    unfold terase
    split
    · next h =>
      subst h
      rw [ih]
      simp only [List.map_cons, List.mem_cons]
      tauto
    · next h =>
      simp only [List.map_cons, List.mem_cons, ih]
      constructor
      · rintro (rfl | h')
        · exact ⟨.inl rfl, h⟩
        · exact ⟨.inr h'.1, h'.2⟩
      · rintro ⟨h' | h', hn⟩
        · exact .inl h'
        · exact .inr ⟨h', hn⟩

theorem tkeys_eq_nil {α : Type} {t : Tbl α} : tkeys t = [] ↔ t = [] := List.map_eq_nil_iff

/-- One class of a pause frame: its timer is set, or ends. -/
def pauseClass (span : Nat → Nat) (quantum at_ : Nat) (t : Tbl Nat) (c : Nat × Nat) : Tbl Nat :=
  if c.2 = 0 then terase t c.1 else tput t c.1 (at_ + span (c.2 * quantum))

/-- The timers after a pause frame, class by class. -/
theorem pauseClasses_tget (span : Nat → Nat) (quantum at_ : Nat) (g : Nat → Nat) (cs : List Nat) (t : Tbl Nat) (c : Nat) :
    tget 0 ((cs.map (fun c => (c, g c))).foldl (pauseClass span quantum at_) t) c =
      if c ∈ cs then (if g c = 0 then 0 else at_ + span (g c * quantum)) else tget 0 t c := by
  induction cs generalizing t with
  | nil => rfl
  | cons k cs ih =>
    rw [List.map_cons, List.foldl_cons, ih]
    by_cases hc : c ∈ cs
    · rw [if_pos hc, if_pos (List.mem_cons_of_mem _ hc)]
    · rw [if_neg hc]
      by_cases hk : c = k
      · subst hk
        rw [if_pos List.mem_cons_self]
        unfold pauseClass
        split
        · exact tget_terase_self ..
        · exact tget_tput_self ..
      · rw [if_neg (fun hm => (List.mem_cons.1 hm).elim hk hc)]
        unfold pauseClass
        split
        · exact tget_terase_other _ _ hk
        · exact tget_tput_other _ _ _ hk

/-- Zero quanta for every class that runs end every timer. -/
theorem pauseClasses_zero (span : Nat → Nat) (quantum at_ : Nat) (cs : List Nat) (t : Tbl Nat) (h : ∀ b ∈ tkeys t, b ∈ cs) :
    (cs.map (fun c => (c, 0))).foldl (pauseClass span quantum at_) t = [] := by
  induction cs generalizing t with
  | nil => exact tkeys_eq_nil.1 (List.eq_nil_iff_forall_not_mem.2 (fun b hb => absurd (h b hb) List.not_mem_nil))
  | cons k cs ih =>
    rw [List.map_cons, List.foldl_cons]
    refine ih _ fun b hb => ?_
    obtain ⟨h1, h2⟩ := (mem_tkeys_terase t k b).1 hb
    exact (List.mem_cons.1 (h b h1)).resolve_left h2

/-- A pause of some quanta leaves a timer. -/
theorem pauseClasses_ne_nil (span : Nat → Nat) (quantum at_ : Nat) {q : Nat} (hq : 0 < q) (t : Tbl Nat) (n : Nat) :
    ((List.range (n + 1)).map (fun c => (c, q))).foldl (pauseClass span quantum at_) t ≠ [] := by
  rw [List.range_succ, List.map_append, List.foldl_append]
  unfold pauseClass
  simp only [List.map_cons, List.map_nil, List.foldl_cons, List.foldl_nil]
  rw [if_neg (by omega)]
  exact tput_ne_nil _ _ _

/-- What a pause frame may change of a port. -/
def Port.butTimers (x y : Port) : Prop := y = { x with
  paused := y.paused, heldSince := y.heldSince, heldNow := y.heldNow, heldRest := y.heldRest, pauseTimeCnt := y.pauseTimeCnt }

theorem Port.endHold_butTimers (x : Port) (u : Nat) : x.butTimers (x.endHold u) := by
  unfold Port.endHold
  split <;> rfl

theorem Port.endHold_paused (x : Port) (u : Nat) : (x.endHold u).paused = [] := by
  unfold Port.endHold
  split <;> rfl

theorem Port.endHold_held {x : Port} {u h : Nat} (hs : x.heldSince = some h) :
    (x.endHold u).heldSince = none ∧ (x.endHold u).heldNow = x.heldNow + (u - h) := by
  unfold Port.endHold
  rw [hs]
  exact ⟨rfl, rfl⟩

theorem Port.endHold_since (x : Port) (u : Nat) : (x.endHold u).heldSince = none := by
  unfold Port.endHold
  split
  · next h => exact h
  · rfl

theorem Port.applyPause_eq (x : Port) (span : Nat → Nat) (cs : List (Nat × Nat)) (at_ hold : Nat) :
    x.applyPause span cs at_ hold =
      if cs.foldl (pauseClass span x.quantum at_) x.paused = [] then x.endHold at_
      else { x with
        paused := cs.foldl (pauseClass span x.quantum at_) x.paused
        heldSince := some (x.heldSince.getD (max at_ hold)) } := rfl

theorem Port.applyPause_butTimers (x : Port) (span : Nat → Nat) (cs : List (Nat × Nat)) (at_ hold : Nat) :
    x.butTimers (x.applyPause span cs at_ hold) := by
  rw [Port.applyPause_eq]
  split
  · exact Port.endHold_butTimers x at_
  · rfl

theorem Port.applyPause_paused (x : Port) (span : Nat → Nat) (cs : List (Nat × Nat)) (at_ hold : Nat) :
    (x.applyPause span cs at_ hold).paused = cs.foldl (pauseClass span x.quantum at_) x.paused := by
  rw [Port.applyPause_eq]
  split
  · next h => rw [Port.endHold_paused, h]
  · rfl

/-! ### PAUSE_FRAME_RECEIVE (R203, R211 to R213) -/

/-- The frame of a pause frame. -/
def pauseHead : FrameHead := ⟨none, 0x8808, 64, true⟩

theorem pauseReceive_full {p : Nat} {f : PauseFrame} {ns hold : Nat} {d : Dev} (h : 65472 < (d.port p).fill) :
    pauseReceive p f ns hold d = rxDropped p d := by
  refine rxArrive_dropped _ fun hc => ?_
  obtain ⟨-, -, -, h4⟩ := Port.rxOk_iff.1 hc
  simp only at h4
  omega

/-- A port that has counted a pause frame. -/
def Port.counted (x : Port) : Port := { x with pauseRxCnt := satAdd x.pauseRxCnt 1 }

/-- A port after an accepted pause frame. -/
def Port.pausedBy (x : Port) (span : Nat → Nat) (f : PauseFrame) (at_ hold : Nat) : Port :=
  if x.holdoff then x.counted
  else
    match f with
    | .pause q =>
      if x.fcMode = 1 then x.counted.applyPause span ((List.range 8).map (fun c => (c, min q 65535))) at_ hold else x.counted
    | .pfc m qs =>
      if x.fcMode = 2 then
        x.counted.applyPause span (((List.range 8).filter (fun c => bit (m &&& x.pfcMask) c)).map
          (fun c => (c, min (qs.getD c 0) 65535))) at_ hold
      else x.counted

theorem pauseTaken_eq (p : Nat) (f : PauseFrame) (ns hold : Nat) (d : Dev) :
    pauseTaken p f ns hold d = (servePort p (5 * ns) d).setPort p ((d.port p).pausedBy d.tenths f (5 * ns)
      (max (5 * hold) ((servePort p (5 * ns) d).egress p).busy)) := by
  have ht : (servePort p (5 * ns) d).tenths = d.tenths := by
    unfold Dev.tenths
    rw [(servePort_portServes p (5 * ns) d).2.1]
  have hp := servePort_port p (5 * ns) d p
  unfold pauseTaken
  dsimp only
  rw [hp, ht]
  unfold Port.pausedBy
  by_cases h : (d.port p).holdoff = true
  · rw [if_pos h]
    exact congrArg _ (if_pos h).symm
  · rw [if_neg h, if_neg h]
    cases f with
    | pause q =>
      by_cases hm : (d.port p).fcMode = 1
      · exact (if_pos hm).trans (congrArg _ (if_pos hm).symm)
      · exact (if_neg hm).trans (congrArg _ (if_neg hm).symm)
    | pfc m qs =>
      by_cases hm : (d.port p).fcMode = 2
      · exact (if_pos hm).trans (congrArg _ (if_pos hm).symm)
      · exact (if_neg hm).trans (congrArg _ (if_neg hm).symm)

/-- The state after a pause frame that the port takes: the port is paused by it, and its queue is served up to then. -/
theorem pauseReceive_after {s : State} {p : Nat} {f : PauseFrame} {ns hold : Nat} {q : State → Prop} (hs : s.up) (hp : p < 3)
    (hf : (s.dev.port p).fill ≤ 65472)
    (hq : ∀ t : State, (∀ q, q ≠ p → t.dev.port q = s.dev.port q) → serves s t p { s.dev with ports := t.dev.ports } →
      t.dev.port p = (s.dev.port p).pausedBy s.dev.tenths f (5 * ns) (max (5 * hold) (t.dev.egress p).busy) → q t) :
    Runs (.pauseFrameReceive p f ns hold) s q := by
  have hok : (s.dev.fresh0.port p).rxOk pauseHead = true := Port.rxOk_iff.2 ⟨by decide, by decide, rfl, by
    show (s.dev.port p).fill + 64 ≤ 65536
    omega⟩
  have he : pauseReceive p f ns hold s.dev.fresh0 = pauseTaken p f ns hold s.dev.fresh0 := rxArrive_taken _ hok rfl
  refine Runs.mainChecked (f := pauseReceive p f ns hold) rfl (decide_eq_true hp) hs ?_
  rw [he, pauseTaken_eq]
  obtain ⟨h1, h2, h3, h4⟩ := portServes_after (s := s) (Dev.portServes_trans (servePort_portServes p (5 * ns) s.dev.fresh0)
    (setPort_portServes p ((s.dev.fresh0.port p).pausedBy s.dev.fresh0.tenths f (5 * ns)
      (max (5 * hold) ((servePort p (5 * ns) s.dev.fresh0).egress p).busy)) _))
  refine hq _ h1 h4 (h2.trans ?_)
  rw [h3]
  exact (Dev.port_setPort ..).trans (if_pos rfl)

/-! ### PAUSE_TIMER_EXPIRY, PAUSE_WATCHDOG, PAUSE_RESUMED (R212, R217) -/

/-- A port with one timer less. -/
def Port.timerEnded (x : Port) (c : Nat) : Port :=
  if terase x.paused c = [] then x.endHold (tget 0 x.paused c) else { x with paused := terase x.paused c }

theorem Port.timerEnded_paused (x : Port) (c : Nat) : (x.timerEnded c).paused = terase x.paused c := by
  unfold Port.timerEnded
  split
  · next h => rw [Port.endHold_paused, h]
  · rfl

theorem Port.timerEnded_butTimers (x : Port) (c : Nat) : x.butTimers (x.timerEnded c) := by
  unfold Port.timerEnded
  split
  · exact Port.endHold_butTimers ..
  · rfl

theorem pauseExpiry_due {p c : Nat} {d : Dev} (h : c ∈ tkeys (d.port p).paused ∧ tget 0 (d.port p).paused c ≤ sampleUnits) :
    pauseExpiry p c d = servePort p (tget 0 (d.port p).paused c + 1)
      ((servePort p (tget 0 (d.port p).paused c) d).setPort p ((d.port p).timerEnded c)) := if_pos h

/-- A port that serves its queue up to a moment, takes other settings, and goes on. -/
theorem servedThen_after {s : State} {p : Nat} {a : Dev} (x : Port) (u : Nat)
    (h : ((servePort p u s.dev.fresh0).setPort p x).portServes p a) (hp : a.port p = x) :
    (∀ q, q ≠ p → (s.after a).dev.port q = s.dev.port q) ∧ (s.after a).dev.port p = x ∧
      serves s (s.after a) p { s.dev with ports := (s.after a).dev.ports } := by
  obtain ⟨h1, h2, -, h4⟩ := portServes_after (s := s) (Dev.portServes_trans (Dev.portServes_trans
    (servePort_portServes p u s.dev.fresh0) (setPort_portServes p x _)) h)
  exact ⟨h1, h2.trans hp, h4⟩

/-- The time that a port is still held within this sample. -/
def Port.heldMore (x : Port) : Nat :=
  match x.heldSince with
  | none => 0
  | some h => min (maxList (x.paused.map (·.2))) sampleUnits - h

/-- A port whose hold has ended, without pause for HOLDOFF_MS (R217). -/
def Port.heldOff (x : Port) : Port := { x with holdoff := true, holdoffLeft := 32 * x.holdoffMs + 1 }

/-- A port whose watchdog ends every hold (R217). -/
def Port.watched (x : Port) : Port := (x.endHold (x.heldSince.getD 0 + (x.limitMs * 5000000 - x.heldSum))).heldOff

theorem Port.watched_butTimers (x : Port) : x.heldOff.butTimers x.watched := by
  have h := Port.endHold_butTimers x (x.heldSince.getD 0 + (x.limitMs * 5000000 - x.heldSum))
  unfold Port.watched
  unfold Port.butTimers at h ⊢
  rw [h]
  rfl

theorem pauseWatchdog_due {p : Nat} {d : Dev} (h : ¬((d.port p).limitMs = 0 ∨ (d.port p).holdoff = true ∨
    (d.port p).heldSum + (d.port p).heldMore ≤ (d.port p).limitMs * 5000000)) : ∃ e, pauseWatchdog p d =
      report e ((servePort p ((d.port p).heldSince.getD 0 + ((d.port p).limitMs * 5000000 - (d.port p).heldSum)) d).setPort p
        (d.port p).watched) := by
  refine ⟨portEv 0x0504 true p (max ((d.port p).limitMs * 5000000) (d.port p).heldSum / 5000), ?_⟩
  unfold pauseWatchdog
  unfold Port.watched
  unfold Port.heldMore at h
  cases hs : (d.port p).heldSince <;> (simp only [hs] at h ⊢; rw [if_neg h]; rfl)

/-! ### The module's own pause (R215, R216, R605) -/

/-- May the module pause the partner of a port (R215, R605). -/
def Dev.pausesPartner (d : Dev) (p : Nat) : Prop :=
  ((d.port p).fcMode = 1 ∨ ((d.port p).fcMode = 2 ∧ p < 2)) ∧ d.pwr.rstOut = false

theorem Dev.pauseMode_iff {d : Dev} {p : Nat} : d.pauseMode p = true ↔ d.pausesPartner p := by
  unfold Dev.pauseMode Dev.pausesPartner
  simp

/-- The module has sent pause, or may not: its port is `y` but for the count and the time of what it sent. -/
def pauseSent (s : State) (p quanta : Nat) (y : Port) (t : State) : Prop :=
  ((∀ q, q ≠ p → t.dev.port q = s.dev.port q) ∧ s.frame t { s.dev with ports := t.dev.ports }) ∧
    (s.dev.pausesPartner p →
      t.dev.out = [.pause p (if (s.dev.port p).fcMode = 2 then putB 8 (s.dev.port p).pcp true else 0xFF) quanta] ∧
      t.dev.wire = [(p, ⟨pauseMac, s.dev.portMac p, none,
        .pause (if (s.dev.port p).fcMode = 2 then putB 8 (s.dev.port p).pcp true else 0xFF) quanta⟩)] ∧
      t.dev.port p = { y with pauseTxCnt := satAdd (s.dev.port p).pauseTxCnt 1, sincePause := 0 }) ∧
    (¬s.dev.pausesPartner p → t.dev.out = [] ∧ t.dev.port p = y)

/-- What a module hands out as pause passes the queues by, and starts at once (R211). -/
theorem pauseOut_wire {s : State} {a : Dev} {p quanta : Nat} {cs : BitVec 8} (h : s.dev.fresh0.onlyPorts a)
    (ho : a.out = [.pause p cs quanta]) (hr : s.dev.pwr.rstOut = false) :
    (s.after a).dev.wire = [(p, ⟨pauseMac, s.dev.portMac p, none, .pause cs quanta⟩)] := by
  obtain ⟨-, he⟩ := h
  have hw : a.wire = [] := by rw [he]; rfl
  have hp : a.pwr.rstOut = false := by rw [he]; exact hr
  have hm : a.portMac p = s.dev.portMac p := by unfold Dev.portMac; rw [he]; rfl
  unfold State.after depart
  simp [ho, hp, hw, hm, Dev.framesOf, Dev.directFrames]

/-- The pause that the module sends to the partner of a port (R211, R215). -/
def Dev.pauseOut (d : Dev) (p quanta : Nat) : OutMsg :=
  .pause p (if (d.port p).fcMode = 2 then putB 8 (d.port p).pcp true else 0xFF) quanta

/-- A port that has sent pause. -/
def Port.pauser (x y : Port) : Port := { y with pauseTxCnt := satAdd x.pauseTxCnt 1, sincePause := 0 }

theorem pauseSent_of {s : State} {p quanta : Nat} {y : Port} {a : Dev} (h : s.dev.fresh0.onlyPorts a)
    (ho : ∀ q, q ≠ p → a.port q = s.dev.port q)
    (hy : s.dev.pausesPartner p → a.out = [s.dev.pauseOut p quanta] ∧ a.port p = (s.dev.port p).pauser y)
    (hn : ¬s.dev.pausesPartner p → a.out = [] ∧ a.port p = y) : pauseSent s p quanta y (s.after a) := by
  obtain ⟨h1, h2, h3⟩ := onlyPorts_after h
  refine ⟨⟨fun q hq => (h1 q).trans (ho q hq), h3⟩, fun hp => ?_, fun hp => ?_⟩
  · obtain ⟨hout, hport⟩ := hy hp
    exact ⟨h2.trans hout, pauseOut_wire h hout hp.2, (h1 p).trans hport⟩
  · obtain ⟨hout, hport⟩ := hn hp
    exact ⟨h2.trans hout, (h1 p).trans hport⟩

/-- What sending pause does to the module: seen from a port whose settings have become `y`. -/
theorem ownPauseSend_facts {d e : Dev} {p : Nat} {y : Port} (quanta : Nat) (h : d.onlyPorts e) (ho : e.out = [])
    (hy : e.port p = y) (hc : y.cfg = (d.port p).cfg) (ht : y.pauseTxCnt = (d.port p).pauseTxCnt) :
    d.onlyPorts (ownPauseSend p quanta e) ∧ (∀ q, q ≠ p → (ownPauseSend p quanta e).port q = e.port q) ∧
      (d.pausesPartner p → (ownPauseSend p quanta e).out = [d.pauseOut p quanta] ∧
        (ownPauseSend p quanta e).port p = (d.port p).pauser y) ∧
      (¬d.pausesPartner p → (ownPauseSend p quanta e).out = [] ∧ (ownPauseSend p quanta e).port p = y) := by
  have hfc : (e.port p).fcMode = (d.port p).fcMode := by unfold Port.fcMode; rw [hy, hc]
  have hpcp : (e.port p).pcp = (d.port p).pcp := by unfold Port.pcp; rw [hy, hc]
  have hpw : e.pwr = d.pwr := by rw [h.2]
  have hmode : e.pausesPartner p ↔ d.pausesPartner p := by unfold Dev.pausesPartner; rw [hfc, hpw]
  by_cases hp : d.pausesPartner p
  · have he : ownPauseSend p quanta e =
        (e.setPort p { e.port p with pauseTxCnt := satAdd (e.port p).pauseTxCnt 1, sincePause := 0 }).emit
          (e.pauseOut p quanta) := if_neg (by simp [Dev.pauseMode_iff.2 (hmode.2 hp)])
    rw [he]
    refine ⟨Dev.onlyPorts_trans h (Dev.onlyPorts_trans (setPort_onlyPorts ..) (emit_onlyPorts ..)),
      fun q hq => (Dev.port_setPort ..).trans (if_neg hq), fun _ => ⟨?_, ?_⟩, fun hn => absurd hp hn⟩
    · show e.out ++ [e.pauseOut p quanta] = _
      rw [ho]
      unfold Dev.pauseOut
      rw [hfc, hpcp]
      rfl
    · refine (Dev.port_setPort ..).trans ((if_pos rfl).trans ?_)
      rw [hy, ht]
      rfl
  · have he : ownPauseSend p quanta e = e :=
      if_pos (by simpa using fun hc => hp (hmode.1 (Dev.pauseMode_iff.1 hc)))
    rw [he]
    exact ⟨h, fun _ _ => rfl, fun hc => absurd hc hp, fun _ => ⟨ho, hy⟩⟩

/-- Sending pause from a port whose settings become `y`. -/
theorem ownPauseSend_after {s : State} {p quanta : Nat} {y : Port} (hc : y.cfg = (s.dev.port p).cfg)
    (ht : y.pauseTxCnt = (s.dev.port p).pauseTxCnt) {e : Dev} (h : s.dev.fresh0.onlyPorts e) (ho : e.out = [])
    (hq : ∀ q, e.port q = if q = p then y else s.dev.port q) : pauseSent s p quanta y (s.after (ownPauseSend p quanta e)) := by
  obtain ⟨h1, h2, h3, h4⟩ := ownPauseSend_facts (d := s.dev.fresh0) quanta h ho ((hq p).trans (if_pos rfl)) hc ht
  exact pauseSent_of h1 (fun q hn => (h2 q hn).trans ((hq q).trans (if_neg hn))) h3 h4

/-- A port whose settings change, and the pause of the module starts where it may (R215). -/
theorem ownPauseStart_eq {p : Nat} {e : Dev} : ownPauseStart p e =
    if e.pauseMode p = true ∧ 49152 ≤ (e.port p).fill ∧ (e.port p).ownPause = none ∧ (e.port p).suppress = 0 then
      ownPauseSend p 65535 (e.setPort p { e.port p with ownPause := some 0 })
    else e := rfl

theorem setPort_twice (d : Dev) (p : Nat) (x y : Port) (q : Nat) :
    ((d.setPort p x).setPort p y).port q = if q = p then y else d.port q := by
  rw [Dev.port_setPort, Dev.port_setPort]
  split <;> rfl

theorem pausesPartner_setPort {d : Dev} {p : Nat} {x : Port} (hc : x.cfg = (d.port p).cfg) :
    (d.setPort p x).pausesPartner p ↔ d.pausesPartner p := by
  unfold Dev.pausesPartner Port.fcMode
  rw [Dev.port_setPort, if_pos rfl, hc]
  rfl

/-- The start of pause where the settings of the port have just become `x`. -/
theorem ownPauseStart_yes {p : Nat} {x : Port} {d : Dev} (hc : x.cfg = (d.port p).cfg)
    (h : d.pausesPartner p ∧ 49152 ≤ x.fill ∧ x.ownPause = none ∧ x.suppress = 0) : ownPauseStart p (d.setPort p x) =
      ownPauseSend p 65535 ((d.setPort p x).setPort p { x with ownPause := some 0 }) := by
  have hx : (d.setPort p x).port p = x := (Dev.port_setPort ..).trans (if_pos rfl)
  rw [ownPauseStart_eq, hx]
  exact if_pos ⟨Dev.pauseMode_iff.2 ((pausesPartner_setPort hc).2 h.1), h.2⟩

theorem ownPauseStart_no {p : Nat} {x : Port} {d : Dev} (hc : x.cfg = (d.port p).cfg)
    (h : ¬(d.pausesPartner p ∧ 49152 ≤ x.fill ∧ x.ownPause = none ∧ x.suppress = 0)) :
    ownPauseStart p (d.setPort p x) = d.setPort p x := by
  have hx : (d.setPort p x).port p = x := (Dev.port_setPort ..).trans (if_pos rfl)
  rw [ownPauseStart_eq, hx]
  refine if_neg fun hn => h ?_
  obtain ⟨h1, h2⟩ := hn
  exact ⟨(pausesPartner_setPort hc).1 (Dev.pauseMode_iff.1 h1), h2⟩

theorem rxBuffer_starts {p fill : Nat} {d : Dev} (h : ¬(fill ≤ 16384 ∧ (d.port p).ownPause.isSome = true)) :
    rxBuffer p fill d = ownPauseStart p (d.setPort p { d.port p with fill := fill }) := by
  have hx : (d.setPort p { d.port p with fill := fill }).port p = { d.port p with fill := fill } :=
    (Dev.port_setPort ..).trans (if_pos rfl)
  refine if_neg ?_
  show ¬(fill ≤ 16384 ∧ ((d.setPort p { d.port p with fill := fill }).port p).ownPause.isSome = true)
  rw [hx]
  exact h

theorem rxBuffer_ends {p fill : Nat} {d : Dev} (h1 : fill ≤ 16384) (h2 : (d.port p).ownPause.isSome = true) :
    rxBuffer p fill d = ownPauseSend p 0 ((d.setPort p { d.port p with fill := fill }).setPort p
      { d.port p with fill := fill, ownPause := none }) := by
  have hx : (d.setPort p { d.port p with fill := fill }).port p = { d.port p with fill := fill } :=
    (Dev.port_setPort ..).trans (if_pos rfl)
  have he : rxBuffer p fill d = ownPauseSend p 0 ((d.setPort p { d.port p with fill := fill }).setPort p
      { (d.setPort p { d.port p with fill := fill }).port p with ownPause := none }) := by
    refine if_pos ?_
    show fill ≤ 16384 ∧ ((d.setPort p { d.port p with fill := fill }).port p).ownPause.isSome = true
    rw [hx]
    exact ⟨h1, h2⟩
  rw [he, hx]

theorem rxPauseLimit_full {p n : Nat} {d : Dev} (hn : (d.port p).ownPause = some n) (h : 320 ≤ n)
    (hf : 49152 ≤ (d.port p).fill) : rxPauseLimit p d =
      report (portEv 0x0506 true p 0) ((ownPauseSend p 0 (d.setPort p { d.port p with ownPause := none })).modPort p
        (fun x => { x with suppress := 3201 })) := by
  unfold rxPauseLimit
  dsimp only
  rw [hn]
  exact (if_neg (Nat.not_lt.2 h)).trans (if_pos hf)

theorem rxPauseLimit_drained {p n : Nat} {d : Dev} (hn : (d.port p).ownPause = some n) (h : 320 ≤ n)
    (hf : (d.port p).fill < 49152) : rxPauseLimit p d = ownPauseSend p 0 (d.setPort p { d.port p with ownPause := none }) := by
  unfold rxPauseLimit
  dsimp only
  rw [hn]
  exact (if_neg (Nat.not_lt.2 h)).trans (if_neg (Nat.not_le.2 hf))

theorem suppressionEnd_due {p : Nat} {d : Dev} (h : (d.port p).suppress ≤ 1) :
    suppressionEnd p d = ownPauseStart p (d.setPort p { d.port p with suppress := 0 }) := if_pos h

/-- The settings of a port change, without a report. -/
theorem portSet_after (s : State) (p : Nat) (x : Port) :
    let t := s.after (s.dev.fresh0.setPort p x)
    ((∀ q, q ≠ p → t.dev.port q = s.dev.port q) ∧ s.frame t { s.dev with ports := t.dev.ports }) ∧ t.dev.out = [] ∧
      t.dev.port p = x := by
  obtain ⟨h1, h2, h3⟩ := onlyPorts_after (s := s) (setPort_onlyPorts p x s.dev.fresh0)
  exact ⟨⟨fun q hq => (h1 q).trans ((Dev.port_setPort ..).trans (if_neg hq)), h3⟩, h2,
    (h1 p).trans ((Dev.port_setPort ..).trans (if_pos rfl))⟩

theorem modPort_onlyPorts (p : Nat) (f : Port → Port) (d : Dev) : d.onlyPorts (d.modPort p f) :=
  ⟨Dev.reportsTo_of_eq rfl rfl rfl, rfl⟩

/-- The end of the module's own pause after 10 ms with a full buffer: 100 ms without it follow (R216). -/
theorem rxPauseLimit_sent (s : State) (p : Nat) :
    pauseSent s p 0 { s.dev.port p with ownPause := none, suppress := 3201 } (s.after (report (portEv 0x0506 true p 0)
      ((ownPauseSend p 0 (s.dev.fresh0.setPort p { s.dev.port p with ownPause := none })).modPort p
        (fun x => { x with suppress := 3201 })))) := by
  obtain ⟨f1, f2, f3, f4⟩ := ownPauseSend_facts (d := s.dev.fresh0) (p := p) (y := { s.dev.port p with ownPause := none }) 0
    (setPort_onlyPorts p { s.dev.port p with ownPause := none } s.dev.fresh0) rfl
    ((Dev.port_setPort ..).trans (if_pos rfl)) rfl rfl
  have hother (q : Nat) (hq : q ≠ p) := (f2 q hq).trans ((Dev.port_setPort ..).trans (if_neg hq))
  generalize ownPauseSend p 0 (s.dev.fresh0.setPort p { s.dev.port p with ownPause := none }) = e at f1 f3 f4 hother ⊢
  have hport (q : Nat) : (report (portEv 0x0506 true p 0) (e.modPort p (fun x => { x with suppress := 3201 }))).port q =
      if q = p then { e.port p with suppress := 3201 } else e.port q := (report_port ..).trans (Dev.port_modPort ..)
  have hout : (report (portEv 0x0506 true p 0) (e.modPort p (fun x => { x with suppress := 3201 }))).out = e.out := by simp
  refine pauseSent_of (Dev.onlyPorts_trans f1 (Dev.onlyPorts_trans (modPort_onlyPorts p _ e) (report_onlyPorts ..)))
    (fun q hq => ?_) (fun hp => ?_) (fun hp => ?_)
  · rw [hport, if_neg hq, hother q hq]
    rfl
  · obtain ⟨h3, h4⟩ := f3 hp
    rw [hport, if_pos rfl, h4, hout]
    exact ⟨h3, rfl⟩
  · obtain ⟨h3, h4⟩ := f4 hp
    rw [hport, if_pos rfl, h4, hout]
    exact ⟨h3, rfl⟩

/-! ### Which frame starts (R208, R214, R515) -/

theorem oldest_first {d : Dev} {p c : Nat} {x : EgItem} (h : d.oldest p c = some x) :
    (d.egress p).queue.find? (fun z => z.cls == c && z.rank == x.rank) = some x ∧ x.cls = c ∧
      ∀ z ∈ (d.egress p).queue, z.cls = c → x.rank ≤ z.rank := by
  obtain ⟨l, r, l', hl, hr, hn⟩ := List.findSome?_eq_some_iff.1 h
  obtain ⟨h1, -⟩ := List.find?_eq_some_iff_append.1 hr
  obtain ⟨hcls, hrank⟩ := Bool.and_eq_true_iff.1 h1
  obtain rfl := eq_of_beq hrank
  refine ⟨hr, eq_of_beq hcls, fun z hz hzc => ?_⟩
  by_contra hlt
  have hmem : z.rank ∈ [0, 1, 2, 3, 4] := by
    have hx : x.rank ∈ [0, 1, 2, 3, 4] := hl ▸ by simp
    simp only [List.mem_cons, List.not_mem_nil, or_false] at hx ⊢
    omega
  have hsorted : List.Pairwise (· < ·) [0, 1, 2, 3, 4] := by decide
  rw [hl] at hmem hsorted
  obtain ⟨-, hp, -⟩ := List.pairwise_append.1 hsorted
  rcases List.mem_append.1 hmem with hm | hm
  · have := List.find?_eq_none.1 (hn _ hm) z hz
    simp [hzc] at this
  · rcases List.mem_cons.1 hm with hm | hm
    · omega
    · have := (List.pairwise_cons.1 hp).1 _ hm
      omega

/-- When a class may start a frame (R207, R208, R212). -/
theorem canStart_iff {d : Dev} {p c len t : Nat} : d.canStart p c len t = true ↔
    (c ∈ tkeys (d.port p).paused → tget 0 (d.port p).paused c ≤ t) ∧
      ∃ e, gateClose c (d.tb.sample * sampleUnits + t) (d.port p).spans = some e ∧
        d.tb.sample * sampleUnits + t + d.tenths ((d.port p).wireTime len) ≤ e := by
  unfold Dev.canStart
  dsimp only
  rw [Bool.and_eq_true]
  refine and_congr ?_ ?_
  · rw [← Bool.decide_and, Bool.not_eq_true', decide_eq_false_iff_not]
    constructor
    · exact fun h hk => Nat.not_lt.1 (fun hlt => h ⟨hk, hlt⟩)
    · exact fun h hc => absurd hc.2 (Nat.not_lt.2 (h hc.1))
  · cases gateClose c (d.tb.sample * sampleUnits + t) (d.port p).spans with
    | none => simp
    | some e => simp

/-- No class above that of the frame that starts may start its next one (R208, R214). -/
theorem pick_highest {d : Dev} {p t c : Nat} {x z : EgItem} (h : d.pick p t = some x) (hlt : x.cls < c) (hc : c < 8)
    (ho : d.oldest p c = some z) : d.canStart p c z.len t = false := by
  obtain ⟨l, k, l', hl, hk, hn⟩ := List.findSome?_eq_some_iff.1 h
  have hkx : k = x.cls := by
    split at hk
    · next y hy =>
      split at hk
      · obtain rfl := Option.some.inj hk
        exact (oldest_first hy).2.1.symm
      · exact absurd hk nofun
    · exact absurd hk nofun
  have hmem : c ∈ [7, 6, 5, 4, 3, 2, 1, 0] := by
    simp only [List.mem_cons, List.not_mem_nil, or_false]
    omega
  have hsorted : List.Pairwise (· > ·) [7, 6, 5, 4, 3, 2, 1, 0] := by decide
  rw [hl] at hmem hsorted
  obtain ⟨-, hp, -⟩ := List.pairwise_append.1 hsorted
  rcases List.mem_append.1 hmem with hm | hm
  · have := hn _ hm
    rw [ho] at this
    by_contra hs
    rw [Bool.not_eq_false] at hs
    simp [hs] at this
  · rcases List.mem_cons.1 hm with hm | hm
    · omega
    · have := (List.pairwise_cons.1 hp).1 _ hm
      omega

/-- Settles O55. -/
theorem pauseEvents : Obligations.PauseEvents := by
  intro s p hs hp
  have hwf : decide (p < 3) = true := decide_eq_true hp
  refine ⟨fun f ns hold hf => ?_, fun f ns hold hf => ⟨fun hh => ?_, fun q hh hq hm => ?_, fun m qs hh hq hm => ?_,
    fun q hh hq hm h0 h1 => ?_, fun h hh hq hm hk hs' => ?_, fun m qs hh hq hm => ?_⟩, fun c hc => ⟨fun hk he => ?_, fun h => ?_⟩,
    ⟨fun h1 h2 h3 => ?_, fun h => ?_⟩, fun h1 h2 => ?_, fun h => ?_, fun fill hfill => ⟨fun h1 h2 => ?_, fun h => ?_, fun h1 h2 => ?_⟩,
    ⟨fun h => ?_, fun h => ?_⟩, fun n hn => ⟨fun h1 h2 => ?_, fun h1 h2 => ?_, fun h => ?_⟩, fun h => ?_,
    ⟨fun h1 h2 => ?_, fun h1 h2 => ?_, fun h => ?_⟩, fun moment y h => ?_⟩
  · refine Runs.mainChecked (f := pauseReceive p f ns hold) rfl hwf hs ?_
    rw [pauseReceive_full (d := s.dev.fresh0) hf]
    obtain ⟨h1, h2, h3⟩ := frameDropped_after s p
    exact ⟨h1, h3, h2⟩
  · refine pauseReceive_after hs hp hf fun t h1 h2 h3 => ⟨⟨h1, h2⟩, h3.trans (if_pos hh)⟩
  · refine pauseReceive_after hs hp hf fun t h1 h2 h3 => ⟨⟨h1, h2⟩, h3.trans ?_⟩
    subst hq
    exact (if_neg (by rw [hh]; decide)).trans (if_neg hm)
  · refine pauseReceive_after hs hp hf fun t h1 h2 h3 => ⟨⟨h1, h2⟩, h3.trans ?_⟩
    subst hq
    exact (if_neg (by rw [hh]; decide)).trans (if_neg hm)
  · refine pauseReceive_after hs hp hf fun t h1 h2 h3 => ?_
    subst hq
    have hx := h3.trans ((if_neg (by rw [hh]; decide)).trans (if_pos hm))
    rw [Nat.min_eq_left (by omega)] at hx
    have hpz := Port.applyPause_paused (s.dev.port p).counted s.dev.tenths ((List.range 8).map (fun c => (c, q))) (5 * ns)
      (max (5 * hold) (t.dev.egress p).busy)
    have hne : ((List.range 8).map (fun c => (c, q))).foldl (pauseClass s.dev.tenths (s.dev.port p).counted.quantum (5 * ns))
        (s.dev.port p).counted.paused ≠ [] := pauseClasses_ne_nil _ _ _ h0 _ 7
    refine ⟨⟨h1, h2⟩, ?_, fun c hc => ?_, ?_⟩
    · have hb := Port.applyPause_butTimers (s.dev.port p).counted s.dev.tenths ((List.range 8).map (fun c => (c, q)))
        (5 * ns) (max (5 * hold) (t.dev.egress p).busy)
      rw [← hx] at hb
      exact hb
    · rw [hx, hpz, pauseClasses_tget _ _ _ (fun _ => q), if_pos (List.mem_range.2 hc), if_neg (by omega)]
      rfl
    · rw [hx, Port.applyPause_eq, if_neg hne]
      rfl
  · refine pauseReceive_after hs hp hf fun t h1 h2 h3 => ?_
    subst hq
    have hx := h3.trans ((if_neg (by rw [hh]; decide)).trans (if_pos hm))
    have hz : ((List.range 8).map (fun c => (c, min 0 65535))).foldl
        (pauseClass s.dev.tenths (s.dev.port p).counted.quantum (5 * ns)) (s.dev.port p).counted.paused = [] := by
      refine pauseClasses_zero _ _ _ _ _ fun b hb => ?_
      obtain ⟨e, he, rfl⟩ := List.mem_map.1 hb
      exact List.mem_range.2 (hk e he)
    rw [Port.applyPause_eq, if_pos hz] at hx
    obtain ⟨h4, h5⟩ := Port.endHold_held (x := (s.dev.port p).counted) (u := 5 * ns) hs'
    have hb := Port.endHold_butTimers (s.dev.port p).counted (5 * ns)
    rw [← hx] at h4 h5 hb
    exact ⟨⟨h1, h2⟩, hb, by rw [hx]; exact Port.endHold_paused .., h4, h5⟩
  · refine pauseReceive_after hs hp hf fun t h1 h2 h3 => ?_
    subst hq
    have hx := h3.trans ((if_neg (by rw [hh]; decide)).trans (if_pos hm))
    refine ⟨⟨h1, h2⟩, ?_, fun c hc => ?_⟩
    · have hb := Port.applyPause_butTimers (s.dev.port p).counted s.dev.tenths
        (((List.range 8).filter (fun c => bit (m &&& (s.dev.port p).pfcMask) c)).map (fun c => (c, min (qs.getD c 0) 65535)))
        (5 * ns) (max (5 * hold) (t.dev.egress p).busy)
      rw [← hx] at hb
      exact hb
    · rw [hx, Port.applyPause_paused, pauseClasses_tget _ _ _ (fun c => min (qs.getD c 0) 65535)]
      have hmem : c ∈ (List.range 8).filter (fun c => bit (m &&& (s.dev.port p).pfcMask) c) ↔
          bit (m &&& (s.dev.port p).pfcMask) c = true := by simp [hc]
      by_cases hbit : bit (m &&& (s.dev.port p).pfcMask) c = true
      · rw [if_pos (hmem.2 hbit), if_pos hbit]
        by_cases hz : qs.getD c 0 = 0
        · rw [if_pos (by rw [hz]; rfl), if_pos hz]
        · rw [if_neg (by omega), if_neg hz]
          rfl
      · rw [if_neg (fun h => hbit (hmem.1 h)), if_neg hbit]
        rfl
  · have he' : pauseExpiry p c s.dev.fresh0 = servePort p (tget 0 (s.dev.port p).paused c + 1)
        ((servePort p (tget 0 (s.dev.port p).paused c) s.dev.fresh0).setPort p ((s.dev.port p).timerEnded c)) :=
      pauseExpiry_due (d := s.dev.fresh0) ⟨hk, he⟩
    refine Runs.mainChecked (f := pauseExpiry p c) rfl (decide_eq_true ⟨hp, hc⟩) hs ?_
    rw [he']
    obtain ⟨h1, h2, h3⟩ := servedThen_after (s := s) ((s.dev.port p).timerEnded c) (tget 0 (s.dev.port p).paused c)
      (servePort_portServes p (tget 0 (s.dev.port p).paused c + 1) _)
      ((servePort_port ..).trans ((Dev.port_setPort ..).trans (if_pos rfl)))
    generalize s.after _ = t at h1 h2 h3 ⊢
    refine ⟨⟨h1, h3⟩, ?_, ?_, fun b hb => ?_, fun b hb hbc => ?_, fun hall => ?_⟩
    · show (s.dev.port p).butTimers (t.dev.port p)
      rw [h2]
      exact Port.timerEnded_butTimers ..
    · rw [h2, Port.timerEnded_paused]
      exact tget_terase_self ..
    · rw [h2, Port.timerEnded_paused]
      exact tget_terase_other _ _ hb
    · have hne : terase (s.dev.port p).paused c ≠ [] := fun h0 => by
        have := (mem_tkeys_terase (s.dev.port p).paused c b).2 ⟨hb, hbc⟩
        rw [h0] at this
        exact absurd this List.not_mem_nil
      rw [h2]
      unfold Port.timerEnded
      rw [if_neg hne]
    · have hz : terase (s.dev.port p).paused c = [] := tkeys_eq_nil.1 (List.eq_nil_iff_forall_not_mem.2 fun b hb => by
        obtain ⟨h4, h5⟩ := (mem_tkeys_terase ..).1 hb
        exact h5 (hall b h4))
      rw [h2]
      unfold Port.timerEnded
      rw [if_pos hz]
      exact ⟨Port.endHold_paused .., fun h hh => Port.endHold_held hh⟩
  · refine Runs.stays (f := pauseExpiry p c) rfl (decide_eq_true ⟨hp, hc⟩) hs (if_neg fun ⟨h1, h2⟩ => ?_)
    rcases h with h | h
    · exact h h1
    · exact absurd h2 (Nat.not_le.2 h)
  · obtain ⟨e, he⟩ := pauseWatchdog_due (d := s.dev.fresh0) (p := p) (by
      rintro (h | h | h)
      · exact h1 h
      · exact absurd (h2.symm.trans h) (by decide)
      · exact absurd h (Nat.not_le.2 h3))
    refine Runs.mainChecked (f := pauseWatchdog p) rfl hwf hs ?_
    rw [he]
    obtain ⟨h4, h5, h6⟩ := servedThen_after (s := s) (s.dev.port p).watched
      ((s.dev.port p).heldSince.getD 0 + ((s.dev.port p).limitMs * 5000000 - (s.dev.port p).heldSum))
      (report_portServes p e _) ((report_port ..).trans ((Dev.port_setPort ..).trans (if_pos rfl)))
    refine ⟨⟨h4, h6⟩, ?_, ?_, ?_, fun hsome => ?_⟩
    · have hb := Port.watched_butTimers (s.dev.port p)
      rw [← h5] at hb
      exact hb
    · exact (congrArg Port.paused h5).trans (Port.endHold_paused ..)
    · exact (congrArg Port.heldSince h5).trans (Port.endHold_since ..)
    · obtain ⟨h, hh⟩ := Option.isSome_iff_exists.1 hsome
      refine (congrArg Port.heldNow h5).trans ((Port.endHold_held hh).2.trans ?_)
      rw [hh, Option.getD_some, Nat.add_sub_cancel_left]
  · refine Runs.stays (f := pauseWatchdog p) rfl hwf hs (if_pos ?_)
    exact h
  · have he : pauseResumed p s.dev.fresh0 = report (portEv 0x0505 false p 0) (s.dev.fresh0.setPort p { s.dev.port p with
        holdoff := false, holdoffLeft := 0, heldNow := 0, heldPast := [] }) := if_pos ⟨h1, h2⟩
    refine Runs.mainChecked (f := pauseResumed p) rfl hwf hs ?_
    rw [he]
    obtain ⟨h3, -, h5⟩ := onlyPorts_after (s := s) (Dev.onlyPorts_trans (setPort_onlyPorts p { s.dev.port p with
      holdoff := false, holdoffLeft := 0, heldNow := 0, heldPast := [] } s.dev.fresh0)
      (report_onlyPorts (portEv 0x0505 false p 0) _))
    have hport (q : Nat) := (h3 q).trans ((report_port ..).trans (Dev.port_setPort ..))
    exact ⟨⟨fun q hq => (hport q).trans (if_neg hq), h5⟩, (hport p).trans (if_pos rfl)⟩
  · refine Runs.stays (f := pauseResumed p) rfl hwf hs (if_neg fun ⟨h1, h2⟩ => ?_)
    rcases h with h | h
    · exact absurd (h.symm.trans h1) (by decide)
    · exact absurd h2 (Nat.not_le.2 h)
  · refine Runs.mainChecked (f := rxBuffer p fill) rfl (decide_eq_true ⟨hp, hfill⟩) hs ?_
    rw [rxBuffer_ends (d := s.dev.fresh0) h1 h2]
    exact ownPauseSend_after (y := { s.dev.port p with fill := fill, ownPause := none }) rfl rfl
      (Dev.onlyPorts_trans (setPort_onlyPorts p _ _) (setPort_onlyPorts p _ _)) rfl (setPort_twice s.dev.fresh0 p _ _)
  · obtain ⟨h1, h2, h3, h4⟩ := h
    refine Runs.mainChecked (f := rxBuffer p fill) rfl (decide_eq_true ⟨hp, hfill⟩) hs ?_
    have hn : ¬(fill ≤ 16384 ∧ (s.dev.fresh0.port p).ownPause.isSome = true) := fun hc => by omega
    rw [(rxBuffer_starts (d := s.dev.fresh0) hn).trans
      (ownPauseStart_yes (d := s.dev.fresh0) (x := { s.dev.port p with fill := fill }) rfl ⟨h1, h2, h3, h4⟩)]
    exact ownPauseSend_after (y := { s.dev.port p with fill := fill, ownPause := some 0 }) rfl rfl
      (Dev.onlyPorts_trans (setPort_onlyPorts p _ _) (setPort_onlyPorts p _ _)) rfl (setPort_twice s.dev.fresh0 p _ _)
  · refine Runs.mainChecked (f := rxBuffer p fill) rfl (decide_eq_true ⟨hp, hfill⟩) hs ?_
    have hn : ¬(fill ≤ 16384 ∧ (s.dev.fresh0.port p).ownPause.isSome = true) := fun ⟨h3, h4⟩ => h2.elim (fun h => by omega)
      (fun h => by rw [show (s.dev.fresh0.port p).ownPause = none from h] at h4; exact absurd h4 (by decide))
    rw [(rxBuffer_starts (d := s.dev.fresh0) hn).trans
      (ownPauseStart_no (d := s.dev.fresh0) (x := { s.dev.port p with fill := fill }) rfl h1)]
    exact portSet_after s p _
  · have he : ownPauseRepeat p s.dev.fresh0 = ownPauseSend p 65535 s.dev.fresh0 := if_pos h
    refine Runs.mainChecked (f := ownPauseRepeat p) rfl hwf hs ?_
    rw [he]
    exact ownPauseSend_after (y := s.dev.port p) rfl rfl (Dev.onlyPorts_refl _) rfl
      (fun q => by by_cases hq : q = p <;> simp [hq])
  · exact Runs.stays (f := ownPauseRepeat p) rfl hwf hs (if_neg h)
  · refine Runs.mainChecked (f := rxPauseLimit p) rfl hwf hs ?_
    rw [rxPauseLimit_full (d := s.dev.fresh0) hn h1 h2]
    exact rxPauseLimit_sent s p
  · refine Runs.mainChecked (f := rxPauseLimit p) rfl hwf hs ?_
    rw [rxPauseLimit_drained (d := s.dev.fresh0) hn h1 h2]
    exact ownPauseSend_after (y := { s.dev.port p with ownPause := none }) rfl rfl (setPort_onlyPorts p _ _) rfl
      (fun q => Dev.port_setPort ..)
  · refine Runs.stays (f := rxPauseLimit p) rfl hwf hs ?_
    unfold rxPauseLimit
    dsimp only
    rw [show (s.dev.fresh0.port p).ownPause = some n from hn]
    exact if_pos h
  · refine Runs.stays (f := rxPauseLimit p) rfl hwf hs ?_
    unfold rxPauseLimit
    dsimp only
    rw [show (s.dev.fresh0.port p).ownPause = none from h]
  · obtain ⟨h3, h4, h5⟩ := h2
    refine Runs.mainChecked (f := suppressionEnd p) rfl hwf hs ?_
    rw [(suppressionEnd_due (d := s.dev.fresh0) h1).trans
      (ownPauseStart_yes (d := s.dev.fresh0) (x := { s.dev.port p with suppress := 0 }) rfl ⟨h3, h4, h5, rfl⟩)]
    exact ownPauseSend_after (y := { s.dev.port p with suppress := 0, ownPause := some 0 }) rfl rfl
      (Dev.onlyPorts_trans (setPort_onlyPorts p _ _) (setPort_onlyPorts p _ _)) rfl (setPort_twice s.dev.fresh0 p _ _)
  · refine Runs.mainChecked (f := suppressionEnd p) rfl hwf hs ?_
    rw [(suppressionEnd_due (d := s.dev.fresh0) h1).trans
      (ownPauseStart_no (d := s.dev.fresh0) (x := { s.dev.port p with suppress := 0 }) rfl (fun hc => h2 ⟨hc.1, hc.2.1, hc.2.2.1⟩))]
    exact portSet_after s p _
  · exact Runs.stays (f := suppressionEnd p) rfl hwf hs (if_neg (Nat.not_le.2 h))
  · obtain ⟨c, hc, ho, hst⟩ := pick_oldest h
    obtain ⟨h1, h2, h3⟩ := oldest_first ho
    subst h2
    refine ⟨h1, hc, h3, fun hk => ?_, ?_, fun c' z hlt hc' ho' => ?_⟩
    · exact (canStart_iff.1 hst).1 hk
    · exact (canStart_iff.1 hst).2
    · exact pick_highest h hlt hc' ho'

end Sys2Proof.Machine
end

section
/-!
PTP, the 1 PPS pins and MDIO (R203, R220 to R225, R228, R229).
-/
namespace Sys2Proof.Machine

/-! ### What the events of network time change -/

/-- From `d` to `d'` network time, ports and the step of UTC_OFFSET have changed, beside what reports write, what goes out and
the choices taken. -/
def Dev.onlyTime (d d' : Dev) : Prop := d.reportsTo d' ∧ d' = { d with
  net := d'.net, ports := d'.ports, bk := d'.bk, fresh := d'.fresh, out := d'.out, tr := d'.tr, rcd := d'.rcd, flt := d'.flt }

theorem Dev.onlyTime_refl (d : Dev) : d.onlyTime d := ⟨Dev.reportsTo_refl d, rfl⟩

theorem Dev.onlyTime_trans {a b c : Dev} (h1 : a.onlyTime b) (h2 : b.onlyTime c) : a.onlyTime c := by
  obtain ⟨hr, he⟩ := h1
  obtain ⟨hr', he'⟩ := h2
  exact ⟨Dev.reportsTo_trans hr hr', by rw [he', he]⟩

theorem report_onlyTime (e : Event) (d : Dev) : d.onlyTime (report e d) := by
  have h := report_reportsOnly e d
  unfold Dev.reportsOnly at h
  exact ⟨report_reportsTo .., by rw [h]⟩

/-- The module with another state of its network time. -/
def Dev.withNet (d : Dev) (n : NetTime) : Dev := { d with net := n }

theorem withNet_onlyTime (d : Dev) (n : NetTime) : d.onlyTime (d.withNet n) := ⟨Dev.reportsTo_of_eq rfl rfl rfl, rfl⟩

theorem modPort_onlyTime (p : Nat) (f : Port → Port) (d : Dev) : d.onlyTime (d.modPort p f) :=
  ⟨Dev.reportsTo_of_eq rfl rfl rfl, rfl⟩

/-- The state after such an event. -/
theorem onlyTime_after {s : State} {a : Dev} (h : s.dev.fresh0.onlyTime a) :
    let t := s.after a
    t.dev.net = a.net ∧ t.dev.bk = a.bk ∧ (∀ q, t.dev.port q = a.port q) ∧ t.dev.out = a.out ∧
      s.frame t { s.dev with net := t.dev.net, ports := t.dev.ports, bk := t.dev.bk, fresh := t.dev.fresh } := by
  obtain ⟨hr, he⟩ := h
  have hw : a.wire = [] := by rw [he]; rfl
  have hn : (s.after a).dev.net = a.net := by simp only [State.after_dev]
  have hp : (s.after a).dev.ports = a.ports := by simp only [State.after_dev]
  have hb : (s.after a).dev.bk = a.bk := by simp only [State.after_dev]
  have hf : (s.after a).dev.fresh = a.fresh := by simp only [State.after_dev]
  refine ⟨hn, hb, fun q => by simp only [State.after_objects], by simp, ?_⟩
  dsimp only
  rw [hn, hp, hb, hf]
  exact State.frame_of_eq (Dev.reportsTo_congr hr rfl rfl rfl) (by rw [he]; rfl) hw

/-- The state after an event of network time alone. -/
theorem onlyNet_after {s : State} {a : Dev} (h : s.dev.fresh0.onlyTime a) (hp : a.ports = s.dev.ports) (hb : a.bk = s.dev.bk) :
    (s.after a).dev.net = a.net ∧
      s.frame (s.after a) { s.dev with net := (s.after a).dev.net, fresh := (s.after a).dev.fresh } := by
  obtain ⟨h1, h2, -, -, h5⟩ := onlyTime_after h
  have h3 : (s.after a).dev.ports = a.ports := by simp only [State.after_dev]
  dsimp only at h5
  rw [h2, h3, hp, hb] at h5
  exact ⟨h1, h5⟩

/-- The state after a silent event of ports and network time. -/
theorem silent_portsNet {s : State} {a : Dev} (h : a = { s.dev.fresh0 with ports := a.ports, net := a.net }) :
    (∀ q, (s.after a).dev.port q = a.port q) ∧
      s.silent (s.after a) { s.dev with ports := (s.after a).dev.ports, net := a.net } := by
  have hp : (s.after a).dev.ports = a.ports := by simp only [State.after_dev]
  refine ⟨fun q => by simp only [State.after_objects], ?_⟩
  rw [hp]
  refine State.silent_of_eq ?_
  rw [h]
  rfl

/-! ### Dropped frames (R203) -/

theorem satAdd_satAdd {w : Nat} (x : BitVec w) (a b : Nat) : satAdd (satAdd x a) b = satAdd x (a + b) := by
  have hx := x.isLt
  apply BitVec.eq_of_toNat_eq
  unfold satAdd
  by_cases h1 : x.toNat + a < 2 ^ w
  · rw [if_pos h1]
    simp only [BitVec.toNat_ofNat, Nat.mod_eq_of_lt h1, Nat.add_assoc]
  · rw [if_neg h1, if_neg (show ¬x.toNat + (a + b) < 2 ^ w by omega)]
    rw [BitVec.toNat_allOnes]
    have hpos : 0 < 2 ^ w := Nat.two_pow_pos w
    split
    · next h =>
      rw [BitVec.toNat_ofNat, Nat.mod_eq_of_lt h]
      omega
    · rw [BitVec.toNat_allOnes]

theorem Port.rxOk_congr {x y : Port} (h : x.fill = y.fill) (f : FrameHead) : x.rxOk f = y.rxOk f := by
  unfold Port.rxOk
  rw [h]

/-- A port that has dropped `k` frames. -/
def Port.dropping (x : Port) (k : Nat) : Port := { x with rxDropCnt := satAdd x.rxDropCnt k }

theorem rxDropped_port (p : Nat) (d : Dev) (q : Nat) :
    (rxDropped p d).port q = if q = p then (d.port p).dropping 1 else d.port q := Dev.port_modPort ..

theorem ptpHead_takes {p : Nat} {x : Port} {h : FrameHead} (hh : ptpHead h = true) : x.takes p h = true := by
  unfold ptpHead at hh
  obtain ⟨h1, h2⟩ := Bool.and_eq_true_iff.1 hh
  unfold Port.takes
  rw [eq_of_beq h1, h2]
  rfl

/-! ### Sync (R222, R223) -/

/-- Does the module take a Sync: of the grandmaster in force, at the slave port (R222). -/
def Dev.hearsSync (d : Dev) (x : SyncIn) : Prop :=
  d.ptpOn x.port = true ∧ x.domain = d.net.domain ∧ d.net.slavePort.toNat = x.port + 1 ∧ d.net.gmPresent = true ∧ x.gm = d.net.gm

/-- Does a Sync with its Follow_Up measure (R222, R223). -/
def Dev.usesSync (d : Dev) (x : SyncIn) : Prop :=
  x.syncSeq = x.followSeq ∧ (d.port x.port).pdelay.toNat ≤ 800 ∧ -5 ≤ x.logInterval ∧ x.logInterval ≤ 0 ∧
    d.plyTime = false ∧ d.net.pps = false

theorem Dev.hearsSync_iff (d : Dev) (x : SyncIn) : d.hearsSync x ↔
    (!d.ptpOn x.port || x.domain != d.net.domain || d.net.slavePort.toNat != x.port + 1 || !d.net.gmPresent ||
      x.gm != d.net.gm) = false := by
  simp [Dev.hearsSync, and_assoc]

theorem Dev.usesSync_iff (d : Dev) (x : SyncIn) : ¬d.usesSync x ↔ x.syncSeq ≠ x.followSeq ∨ 800 < (d.port x.port).pdelay.toNat ∨
    x.logInterval < -5 ∨ 0 < x.logInterval ∨ d.plyTime = true ∨ d.net.pps = true := by
  unfold Dev.usesSync
  simp only [not_and_or, not_le, Bool.not_eq_false, ne_eq]

theorem syncTaken_unheard {x : SyncIn} {d : Dev} (follows : Bool) (h : ¬d.hearsSync x) : syncTaken follows x d = d :=
  if_pos (Bool.eq_true_of_not_eq_false fun hf => h ((Dev.hearsSync_iff d x).2 hf))

/-- The first two measurements after a change of the grandmaster count for nothing (R222). -/
theorem syncTaken_void {x : SyncIn} {d : Dev} (follows : Bool) (h : d.hearsSync x) (hd : d.net.discard ≠ 0) :
    syncTaken follows x d = d.withNet { d.net with discard := d.net.discard - 1 } := by
  unfold syncTaken
  dsimp only
  rw [if_neg (by rw [(Dev.hearsSync_iff d x).1 h]; decide), if_pos hd]
  rfl

theorem syncTaken_unused {x : SyncIn} {d : Dev} {follows : Bool} (h : d.hearsSync x) (hd : d.net.discard = 0)
    (hu : follows = false ∨ ¬d.usesSync x) : syncTaken follows x d = d := by
  unfold syncTaken
  dsimp only
  rw [if_neg (by rw [(Dev.hearsSync_iff d x).1 h]; decide), if_neg (fun hn => hn hd)]
  rw [Dev.usesSync_iff] at hu
  exact if_pos hu

/-- Network time less the time of this module, at a Sync (R223). -/
def Dev.syncOffset (d : Dev) (x : SyncIn) : Int := x.origin + (d.port x.port).pdelay.toNat - (x.rx - (d.port x.port).ingress)

/-- Network time with the measurement of one Sync. -/
def NetTime.measured (n : NetTime) (m : Int × Int) (ran : Nat) (tick : BitVec 32) : NetTime :=
  { n with meas := some ⟨m.1, some (BitVec.ofNat 64 (m.2.toNat + 1)), ran⟩, lastNet := some (m.2.toNat, tick) }

theorem syncTaken_measures {x : SyncIn} {d : Dev} (h : d.hearsSync x) (hd : d.net.discard = 0) (hu : d.usesSync x) :
    syncTaken true x d = (nearestMs (d.syncOffset x) d).2.withNet
      (d.net.measured (nearestMs (d.syncOffset x) d).1 d.tb.ran d.lg.tick) := by
  unfold syncTaken
  dsimp only
  rw [if_neg (by rw [(Dev.hearsSync_iff d x).1 h]; decide), if_neg (fun hn => hn hd), if_neg]
  · rfl
  · rw [← Dev.usesSync_iff]
    exact fun hn => hn.elim (fun h => Bool.noConfusion h) fun h => h hu

/-- The offset from the nearest whole ms (R223). -/
theorem nearestMs_holds (t : Int) (d : Dev) :
    t = (nearestMs t d).1.2 * 1000000 + (nearestMs t d).1.1 ∧ -500000 ≤ (nearestMs t d).1.1 ∧ (nearestMs t d).1.1 ≤ 500000 ∧
      ∃ m, (nearestMs t d).2 = { d with fresh := m } := by
  have hd := Int.emod_add_mul_ediv t 1000000
  have h0 := Int.emod_nonneg t (show (1000000 : Int) ≠ 0 by decide)
  have h1 := Int.emod_lt_of_pos t (show (0 : Int) < 1000000 by decide)
  unfold nearestMs
  dsimp only
  split
  · exact ⟨by dsimp only; omega, by dsimp only; omega, by dsimp only; omega, d.fresh, rfl⟩
  · split
    · exact ⟨by dsimp only; omega, by dsimp only; omega, by dsimp only; omega, d.fresh, rfl⟩
    · refine ⟨?_, ?_, ?_, (freeBit d).2.fresh, rfl⟩
      all_goals
        dsimp only
        split <;> dsimp only <;> omega

/-- One or two frames of a Sync have been dropped, and network time stands at `n` (R203). -/
def syncDrops (s : State) (p k : Nat) (n : NetTime) (t : State) : Prop :=
  s.silent t { s.dev with ports := t.dev.ports, net := n } ∧ (∀ q, q ≠ p → t.dev.port q = s.dev.port q) ∧
    t.dev.port p = { s.dev.port p with rxDropCnt := satAdd (s.dev.port p).rxDropCnt k }

theorem syncDrops_after {s : State} {p k : Nat} {n : NetTime} {a : Dev} (h : a = { s.dev.fresh0 with ports := a.ports, net := n })
    (hp : ∀ q, a.port q = if q = p then (s.dev.port p).dropping k else s.dev.port q) : syncDrops s p k n (s.after a) := by
  have hn : a.net = n := congrArg Dev.net h
  obtain ⟨hq, hs⟩ := silent_portsNet (s := s) (a := a) (by rw [hn]; exact h)
  rw [hn] at hs
  exact ⟨hs, fun q hne => (hq q).trans ((hp q).trans (if_neg hne)), (hq p).trans ((hp p).trans (if_pos rfl))⟩

theorem ptpSync_heads {x : SyncIn} {d : Dev} (h : ptpHead x.head = true ∧ ptpHead x.followHead = true) :
    ptpSync x d = rxArrive x.port x.followHead id (rxArrive x.port x.head (syncTaken (d.hears x.port x.followHead) x) d) := by
  unfold ptpSync
  rw [h.1, h.2]
  rfl

theorem ptpSync_noPtp {x : SyncIn} {d : Dev} (h : ¬(ptpHead x.head = true ∧ ptpHead x.followHead = true)) : ptpSync x d = d := by
  unfold ptpSync
  rw [if_pos]
  cases h1 : ptpHead x.head <;> cases h2 : ptpHead x.followHead <;> simp_all

/-- The Sync dropped, its Follow_Up not. -/
theorem ptpSync_firstDropped {x : SyncIn} {d : Dev} (h : ptpHead x.head = true ∧ ptpHead x.followHead = true)
    (h1 : (d.port x.port).rxOk x.head = false) (h2 : (d.port x.port).rxOk x.followHead = true) :
    ptpSync x d = rxDropped x.port d := by
  rw [ptpSync_heads h, rxArrive_dropped (h := x.head) _ (by rw [h1]; decide)]
  refine rxArrive_nothing ?_
  rw [rxDropped_port, if_pos rfl, ← h2]
  exact Port.rxOk_congr rfl _

theorem ptpSync_bothDropped {x : SyncIn} {d : Dev} (h : ptpHead x.head = true ∧ ptpHead x.followHead = true)
    (h1 : (d.port x.port).rxOk x.head = false) (h2 : (d.port x.port).rxOk x.followHead = false) :
    ptpSync x d = rxDropped x.port (rxDropped x.port d) := by
  rw [ptpSync_heads h, rxArrive_dropped (h := x.head) _ (by rw [h1]; decide)]
  refine rxArrive_dropped _ ?_
  rw [rxDropped_port, if_pos rfl, Port.rxOk_congr (x := (d.port x.port).dropping 1) (y := d.port x.port) rfl, h2]
  decide

theorem syncTaken_ports (follows : Bool) (x : SyncIn) (d : Dev) (q : Nat) : (syncTaken follows x d).port q = d.port q := by
  unfold syncTaken
  dsimp only
  split
  · rfl
  · split
    · rfl
    · split
      · rfl
      · obtain ⟨-, -, -, m, hm⟩ := nearestMs_holds (x.origin + (d.port x.port).pdelay.toNat - (x.rx - (d.port x.port).ingress)) d
        rw [hm]
        rfl

/-- The Follow_Up alone dropped: a Sync can still void a measurement. -/
theorem ptpSync_followDropped {x : SyncIn} {d : Dev} (h : ptpHead x.head = true ∧ ptpHead x.followHead = true)
    (h1 : (d.port x.port).rxOk x.head = true) (h2 : (d.port x.port).rxOk x.followHead = false) :
    ptpSync x d = rxDropped x.port (syncTaken false x d) := by
  rw [ptpSync_heads h, rxArrive_taken _ h1 (ptpHead_takes h.1)]
  have hh : d.hears x.port x.followHead = false := by unfold Dev.hears; rw [h2]; rfl
  rw [hh]
  refine rxArrive_dropped _ ?_
  rw [syncTaken_ports, h2]
  decide

theorem ptpSync_arrives {x : SyncIn} {d : Dev} (h : ptpHead x.head = true ∧ ptpHead x.followHead = true)
    (h1 : (d.port x.port).rxOk x.head = true) (h2 : (d.port x.port).rxOk x.followHead = true) :
    ptpSync x d = syncTaken true x d := by
  rw [ptpSync_heads h, rxArrive_taken _ h1 (ptpHead_takes h.1)]
  have hh : d.hears x.port x.followHead = true := by unfold Dev.hears; rw [h2, ptpHead_takes h.2]; rfl
  rw [hh]
  refine rxArrive_nothing ?_
  rw [syncTaken_ports, h2]

/-! ### Best master selection (R222) -/

/-- Network time after another selection of the master. -/
def NetTime.follows (n : NetTime) (best : BitVec 2) : Option Master → NetTime
  | none => { n with slavePort := best, gmPresent := false }
  | some m => { n with
      slavePort := best, gmPresent := true, gm := m.gm, utcOffset := m.utcOffset, utcValid := m.utcValid
      discard := if !n.gmPresent || m.gm != n.gm then 2 else n.discard }

theorem utcChanged_onlyTime (x : Int) (d : Dev) : d.onlyTime (utcChanged x d) := by
  unfold utcChanged
  split
  · exact ⟨Dev.reportsTo_of_eq rfl rfl rfl, rfl⟩
  · exact Dev.onlyTime_refl _

/-- A report under a condition changes nothing of network time. -/
theorem told_keeps (c : Bool) (e : Event) (d : Dev) :
    d.onlyTime (if c then report e d else d) ∧ (if c then report e d else d).net = d.net ∧
      (if c then report e d else d).ports = d.ports ∧ (if c then report e d else d).bk = d.bk := by
  cases c
  · exact ⟨Dev.onlyTime_refl d, rfl, rfl, rfl⟩
  · exact ⟨report_onlyTime e d, (report_keeps e d).2.2.2.2.1, by simp, by simp⟩

/-- The owed step of UTC_OFFSET after a change of the grandmaster's offset (R497). -/
def Backup.utcMoved (b : Backup) (delta : Int) : Backup :=
  if delta = 0 then b
  else if b.calSrc then { b with utcStep := some ((b.utcStep.map (·.1)).getD 0 + delta, b.cnt) } else b

theorem utcChanged_bk (delta : Int) (d : Dev) :
    (if delta = 0 then d else utcChanged delta d).bk = d.bk.utcMoved delta := by
  unfold Backup.utcMoved utcChanged
  split
  · rfl
  · split <;> rfl

theorem utcMoved_onlyTime (delta : Int) (d : Dev) : d.onlyTime (if delta = 0 then d else utcChanged delta d) := by
  split
  · exact Dev.onlyTime_refl d
  · exact utcChanged_onlyTime delta d

theorem utcMoved_net (delta : Int) (d : Dev) :
    (if delta = 0 then d else utcChanged delta d).net = d.net ∧ (if delta = 0 then d else utcChanged delta d).ports = d.ports := by
  unfold utcChanged
  split
  · exact ⟨rfl, rfl⟩
  · split <;> exact ⟨rfl, rfl⟩

/-- The master that selection takes. -/
def Dev.bestMaster (d : Dev) : Option Master := if d.bestPort = 0 then none else (d.port (d.bestPort.toNat - 1)).master

theorem Dev.port_of_ports {d d' : Dev} (h : d'.ports = d.ports) (q : Nat) : d'.port q = d.port q := by
  unfold Dev.port
  rw [h]

/-- Network time with a grandmaster in force. -/
def NetTime.led (n : NetTime) (m : Master) : NetTime := { n with
  gmPresent := true, gm := m.gm, utcOffset := m.utcOffset, utcValid := m.utcValid
  discard := if !n.gmPresent || m.gm != n.gm then 2 else n.discard }

/-- A master taken: network time is led by it, its change is reported, and a new offset owes a step. -/
theorem masterTaken_holds (e : Event) (m : Master) (d : Dev) :
    let d1 := d.withNet (d.net.led m)
    let d2 := if !d.net.gmPresent || m.gm != d.net.gm then report e d1 else d1
    let delta : Int := (m.utcOffset.toNat : Int) - d.net.utcOffset.toNat
    let d3 := if delta = 0 then d2 else utcChanged delta d2
    d.onlyTime d3 ∧ d3.net = d.net.led m ∧ d3.ports = d.ports ∧ d3.bk = d.bk.utcMoved delta := by
  intro d1 d2 delta d3
  obtain ⟨o2, n2, p2, b2⟩ := told_keeps (!d.net.gmPresent || m.gm != d.net.gm) e d1
  obtain ⟨n3, p3⟩ := utcMoved_net delta d2
  refine ⟨Dev.onlyTime_trans (Dev.onlyTime_trans (withNet_onlyTime d _) o2) (utcMoved_onlyTime delta d2), n3.trans n2,
    p3.trans p2, (utcChanged_bk delta d2).trans ?_⟩
  exact congrArg (fun b => Backup.utcMoved b delta) b2

/-- What a selection changes: network time, and the step of UTC_OFFSET that a new offset owes. -/
theorem selectMaster_holds (d : Dev) :
    d.onlyTime (selectMaster d) ∧ (selectMaster d).net = d.net.follows d.bestPort d.bestMaster ∧
      (selectMaster d).ports = d.ports ∧
      (selectMaster d).bk = d.bk.utcMoved ((d.bestMaster.map
        fun m => (m.utcOffset.toNat : Int) - d.net.utcOffset.toNat).getD 0) := by
  obtain ⟨t1, n1, p1, b1⟩ := told_keeps (d.bestPort != d.net.slavePort)
    (portEv 0x0507 false (d.bestPort.toNat - 1) d.bestPort.toNat) (d.withNet { d.net with slavePort := d.bestPort })
  have o1 := Dev.onlyTime_trans (withNet_onlyTime d _) t1
  unfold selectMaster
  dsimp only
  unfold Dev.withNet at n1 p1 b1 o1
  generalize (if (d.bestPort != d.net.slavePort) = true then _ else _ : Dev) = d1 at n1 p1 b1 o1 ⊢
  have hm : (if d.bestPort = 0 then none else (d1.port (d.bestPort.toNat - 1)).master) = d.bestMaster := by
    unfold Dev.bestMaster
    rw [Dev.port_of_ports (d := d) p1]
  rw [hm]
  cases hb : d.bestMaster with
  | none =>
    dsimp only
    refine ⟨Dev.onlyTime_trans o1 (withNet_onlyTime d1 _), ?_, p1, ?_⟩
    · rw [n1]
      rfl
    · rw [b1]
      rfl
  | some m =>
    obtain ⟨o2, n2, p2, b2⟩ := masterTaken_holds (portEv 0x0508 false (d.bestPort.toNat - 1) m.gm.toNat) m d1
    unfold Dev.withNet NetTime.led at n2 p2 b2 o2
    refine ⟨Dev.onlyTime_trans o1 o2, n2.trans ?_, p2.trans p1, b2.trans ?_⟩
    · rw [n1]
      rfl
    · rw [b1, n1]
      rfl

theorem Dev.bestPort_of_ports {d d' : Dev} (h : d'.ports = d.ports) : d'.bestPort = d.bestPort := by
  unfold Dev.bestPort
  rw [Dev.port_of_ports h, Dev.port_of_ports h]

theorem NetTime.follows_some (n : NetTime) (best : BitVec 2) (m : Master) : n.follows best (some m) = { n with
    slavePort := best, gmPresent := true, gm := m.gm, utcOffset := m.utcOffset, utcValid := m.utcValid
    discard := if n.gmPresent = false ∨ m.gm ≠ n.gm then 2 else n.discard } := by
  unfold NetTime.follows
  dsimp only
  congr 1
  simp

/-- The state after a selection of the master (R222, R223, R497). -/
def masterSelected (s t : State) : Prop :=
  (t.dev.bestPort = 0 → t.dev.net = { s.dev.net with slavePort := 0, gmPresent := false } ∧ t.dev.bk = s.dev.bk) ∧
    (∀ m, t.dev.bestPort ≠ 0 → (t.dev.port (t.dev.bestPort.toNat - 1)).master = some m →
      t.dev.net = s.dev.net.follows t.dev.bestPort (some m) ∧
        t.dev.bk = s.dev.bk.utcMoved ((m.utcOffset.toNat : Int) - s.dev.net.utcOffset.toNat)) ∧
    s.frame t { s.dev with net := t.dev.net, ports := t.dev.ports, bk := { s.dev.bk with utcStep := t.dev.bk.utcStep } }

theorem Backup.utcMoved_zero (b : Backup) : b.utcMoved 0 = b := if_pos rfl

theorem Backup.utcMoved_only (b : Backup) (delta : Int) : b.utcMoved delta = { b with utcStep := (b.utcMoved delta).utcStep } := by
  unfold Backup.utcMoved
  split
  · rfl
  · split <;> rfl

theorem selectMaster_fresh (d : Dev) : (selectMaster d).fresh = d.fresh := by
  have told (c : Bool) (e : Event) (d : Dev) : (if c then report e d else d).fresh = d.fresh := by cases c <;> simp
  have moved (x : Int) (d : Dev) : (if x = 0 then d else utcChanged x d).fresh = d.fresh := by
    unfold utcChanged
    split
    · rfl
    · split <;> rfl
  unfold selectMaster
  dsimp only
  split
  · exact told ..
  · exact (moved ..).trans ((told ..).trans (told ..))

theorem masterSelected_after (s : State) (p : Nat) (f : Port → Port) :
    let t := s.after (selectMaster (s.dev.fresh0.modPort p f))
    masterSelected s t ∧ ∀ q, t.dev.port q = if q = p then f (s.dev.port p) else s.dev.port q := by
  have hsel := selectMaster_holds (s.dev.fresh0.modPort p f)
  have hfr := selectMaster_fresh (s.dev.fresh0.modPort p f)
  generalize selectMaster (s.dev.fresh0.modPort p f) = a at hsel hfr ⊢
  obtain ⟨ho, hn, hp, hb⟩ := hsel
  obtain ⟨tn, tb, tp, -, tf⟩ := onlyTime_after (s := s) (a := a) (Dev.onlyTime_trans (modPort_onlyTime p f _) ho)
  have tports : (s.after a).dev.ports = (s.dev.fresh0.modPort p f).ports := by rw [← hp]; simp
  have tfr : (s.after a).dev.fresh = s.dev.fresh := by
    have : (s.after a).dev.fresh = a.fresh := by simp
    exact this.trans hfr
  have hbest := Dev.bestPort_of_ports tports
  have hmast : (s.dev.fresh0.modPort p f).bestMaster =
      if (s.after a).dev.bestPort = 0 then none else ((s.after a).dev.port ((s.after a).dev.bestPort.toNat - 1)).master := by
    unfold Dev.bestMaster
    rw [hbest, Dev.port_of_ports tports]
  rw [hmast, ← hbest] at hn
  rw [hmast] at hb
  rw [← tn] at hn
  rw [← tb] at hb
  rw [tfr] at tf
  have hq : ∀ q, (s.after a).dev.port q = if q = p then f (s.dev.port p) else s.dev.port q := fun q =>
    (Dev.port_of_ports tports q).trans (Dev.port_modPort ..)
  dsimp only
  generalize s.after a = t at *
  refine ⟨⟨fun h0 => ?_, fun m h0 hm => ?_, ?_⟩, hq⟩
  · rw [if_pos h0] at hn hb
    exact ⟨hn.trans (by rw [h0]; rfl), hb.trans (Backup.utcMoved_zero _)⟩
  · rw [if_neg h0, hm] at hn hb
    exact ⟨hn, hb⟩
  · have hbk : t.dev.bk = { s.dev.bk with utcStep := t.dev.bk.utcStep } := by
      rw [hb]
      exact Backup.utcMoved_only ..
    rw [← hbk]
    exact tf

/-- Does an edge of TIME_PPS_IN come 1 s after the last valid one, where there was one (R224). -/
def NetTime.onTime (n : NetTime) (now : Nat) : Bool := match n.ppsLast with
  | none => true
  | some l => decide (l + 999000000 ≤ now ∧ now ≤ l + 1001000000)

/-- Network time after a good edge (R224). -/
def Dev.ppsTaken (d : Dev) (ns : Nat) : NetTime := { d.net with
  ppsInOk := true, ppsLast := some (d.tb.ran * 1000000 + ns), ppsDue := true
  ppsFrame := some (if 500000 < ns then d.tb.nextFrame else d.tb.frame)
  meas := if d.plyTime then d.net.meas
    else some ⟨if 500000 < ns then 1000000 - (ns : Int) else -(ns : Int), none, d.tb.ran⟩ }

theorem ppsEdge_eq {d : Dev} (ns high : Nat) (h : d.net.pps = true) : ppsEdge ns high d =
    if high < 1000 ∨ d.net.onTime (d.tb.ran * 1000000 + ns) = false then
      report (portEv 0x0509 true 0 0) (d.withNet { d.net with
        ppsInOk := false, ppsDue := d.net.ppsDue && !d.net.onTime (d.tb.ran * 1000000 + ns) })
    else d.withNet (d.ppsTaken ns) := by
  unfold ppsEdge Dev.ppsTaken
  rw [if_neg (by rw [h]; decide)]
  simp only [decide_eq_true_eq]
  rfl

/-- Network time with a management frame begun (R229). -/
def NetTime.mdioRuns (n : NetTime) (v : Reg) : NetTime := { n with mdio := v &&& 0x7FFCFFFF, mdioBusy := true }

/-- The module with other messages handed out. -/
def Dev.withOut (d : Dev) (o : List OutMsg) : Dev := { d with out := o }

theorem mdioStart_eq (v : Reg) (d : Dev) : mdioStart v d =
    (d.withNet (d.net.mdioRuns v)).withOut (if d.pwr.rstOut then d.out else d.out ++ [.mdio (v &&& 0x7FFCFFFF)]) := by
  unfold mdioStart mdioDrive
  dsimp only
  cases h : d.pwr.rstOut <;> rfl

/-- Network time with a management frame ended (R229). -/
def NetTime.mdioEnds (n : NetTime) (answer : Option (BitVec 16)) : NetTime :=
  let data : BitVec 16 := if fld n.mdio 28 2 = 2#2 then answer.getD 0xFFFF else fld n.mdio 0 16
  { n with mdioBusy := false, mdio := (n.mdio &&& 0xFFFF0000) ||| put 32 0 data }

theorem mdioComplete_eq {answer : Option (BitVec 16)} {d : Dev} (hb : d.net.mdioBusy = true) (hr : d.pwr.rstOut = false) :
    mdioComplete answer d =
      if (fld d.net.mdio 28 2 == 2#2) && answer.isNone then report (portEv 0x050A true 0 0) (d.withNet (d.net.mdioEnds answer))
      else d.withNet (d.net.mdioEnds answer) := by
  unfold mdioComplete
  dsimp only
  rw [if_neg (by rw [hb, hr]; decide)]
  simp only [beq_iff_eq]
  rfl

/-- A port with a measured link delay. -/
def Port.measured (x : Port) (q : Int) : Port := { x with pdelay := satNat 32 q.toNat }

/-! ### The events -/

section
variable {s : State} (hs : s.up)
include hs

theorem Runs.syncDropped {x : SyncIn} {k : Nat} {n : NetTime} (hw : (Instr.ptpSync x).wellFormed = true)
    (ha : ptpSync x s.dev.fresh0 = { s.dev.fresh0 with ports := (ptpSync x s.dev.fresh0).ports, net := n })
    (hp : ∀ q, (ptpSync x s.dev.fresh0).port q = if q = x.port then (s.dev.port x.port).dropping k else s.dev.port q) :
    Runs (.ptpSync x) s (syncDrops s x.port k n) :=
  Runs.mainChecked (f := ptpSync x) (i := .ptpSync x) rfl hw hs (syncDrops_after ha hp)

theorem ptpSync_drops {x : SyncIn} (hw : (Instr.ptpSync x).wellFormed = true)
    (hh : ptpHead x.head = true ∧ ptpHead x.followHead = true) :
    ((s.dev.port x.port).rxOk x.head = false → (s.dev.port x.port).rxOk x.followHead = true →
      Runs (.ptpSync x) s (syncDrops s x.port 1 s.dev.net)) ∧
    ((s.dev.port x.port).rxOk x.head = false → (s.dev.port x.port).rxOk x.followHead = false →
      Runs (.ptpSync x) s (syncDrops s x.port 2 s.dev.net)) ∧
    ((s.dev.port x.port).rxOk x.head = true → (s.dev.port x.port).rxOk x.followHead = false →
      (s.dev.hearsSync x ∧ s.dev.net.discard ≠ 0 →
        Runs (.ptpSync x) s (syncDrops s x.port 1 { s.dev.net with discard := s.dev.net.discard - 1 })) ∧
      (¬(s.dev.hearsSync x ∧ s.dev.net.discard ≠ 0) → Runs (.ptpSync x) s (syncDrops s x.port 1 s.dev.net))) := by
  refine ⟨fun h1 h2 => ?_, fun h1 h2 => ?_, fun h1 h2 => ⟨fun hd => ?_, fun hd => ?_⟩⟩
  · have he := ptpSync_firstDropped (d := s.dev.fresh0) hh h1 h2
    exact Runs.syncDropped hs hw (by rw [he]; rfl) fun q => (congrArg (Dev.port · q) he).trans (rxDropped_port ..)
  · have he := ptpSync_bothDropped (d := s.dev.fresh0) hh h1 h2
    refine Runs.syncDropped hs hw (by rw [he]; rfl) fun q => (congrArg (Dev.port · q) he).trans ?_
    rw [rxDropped_port, rxDropped_port, rxDropped_port, if_pos rfl]
    split
    · unfold Port.dropping
      dsimp only
      rw [satAdd_satAdd]
      rfl
    · rfl
  · have he := ptpSync_followDropped (d := s.dev.fresh0) hh h1 h2
    rw [syncTaken_void (d := s.dev.fresh0) false hd.1 hd.2] at he
    exact Runs.syncDropped hs hw (by rw [he]; rfl) fun q => (congrArg (Dev.port · q) he).trans (rxDropped_port ..)
  · have he := ptpSync_followDropped (d := s.dev.fresh0) hh h1 h2
    have hst : syncTaken false x s.dev.fresh0 = s.dev.fresh0 := by
      by_cases hu : s.dev.hearsSync x
      · exact syncTaken_unused (d := s.dev.fresh0) hu (Decidable.of_not_not fun hn => hd ⟨hu, hn⟩) (.inl rfl)
      · exact syncTaken_unheard (d := s.dev.fresh0) false hu
    rw [hst] at he
    exact Runs.syncDropped hs hw (by rw [he]; rfl) fun q => (congrArg (Dev.port · q) he).trans (rxDropped_port ..)

theorem ptpSync_runs {x : SyncIn} (hw : (Instr.ptpSync x).wellFormed = true)
    (hh : ptpHead x.head = true ∧ ptpHead x.followHead = true)
    (h1 : (s.dev.port x.port).rxOk x.head = true) (h2 : (s.dev.port x.port).rxOk x.followHead = true) :
    (¬s.dev.hearsSync x → Runs (.ptpSync x) s (fun t => s.silent t s.dev)) ∧
    (s.dev.hearsSync x → s.dev.net.discard ≠ 0 → Runs (.ptpSync x) s (fun t =>
      s.silent t { s.dev with net := { s.dev.net with discard := s.dev.net.discard - 1 } })) ∧
    (s.dev.hearsSync x → s.dev.net.discard = 0 → ¬s.dev.usesSync x → Runs (.ptpSync x) s (fun t => s.silent t s.dev)) ∧
    (s.dev.hearsSync x → s.dev.net.discard = 0 → s.dev.usesSync x → Runs (.ptpSync x) s (fun t => ∃ ms off : Int,
      s.dev.syncOffset x = ms * 1000000 + off ∧ -500000 ≤ off ∧ off ≤ 500000 ∧
      t.dev.net = s.dev.net.measured (off, ms) s.dev.tb.ran s.dev.lg.tick ∧
      s.frame t { s.dev with net := t.dev.net, fresh := t.dev.fresh })) := by
  have he := ptpSync_arrives (d := s.dev.fresh0) hh h1 h2
  refine ⟨fun hn => ?_, fun hn hd => ?_, fun hn hd hu => ?_, fun hn hd hu => ?_⟩
  · exact Runs.stays (f := ptpSync x) rfl hw hs (he.trans (syncTaken_unheard (d := s.dev.fresh0) true hn))
  · refine Runs.mainChecked (f := ptpSync x) rfl hw hs ?_
    rw [he, syncTaken_void (d := s.dev.fresh0) true hn hd]
    exact State.silent_of_eq rfl
  · exact Runs.stays (f := ptpSync x) rfl hw hs (he.trans (syncTaken_unused (d := s.dev.fresh0) hn hd (.inr hu)))
  · refine Runs.mainChecked (f := ptpSync x) rfl hw hs ?_
    rw [he, syncTaken_measures (d := s.dev.fresh0) hn hd hu]
    obtain ⟨hsum, hlo, hhi, m, hm⟩ := nearestMs_holds (s.dev.fresh0.syncOffset x) s.dev.fresh0
    generalize nearestMs (s.dev.fresh0.syncOffset x) s.dev.fresh0 = r at hsum hlo hhi hm ⊢
    obtain ⟨hnet, hf⟩ := onlyNet_after (s := s) (a := r.2.withNet (s.dev.fresh0.net.measured r.1 s.dev.fresh0.tb.ran s.dev.fresh0.lg.tick))
      (by rw [hm]; exact ⟨Dev.reportsTo_of_eq rfl rfl rfl, rfl⟩) (by rw [hm]; rfl) (by rw [hm]; rfl)
    exact ⟨r.1.2, r.1.1, hsum, hlo, hhi, hnet, hf⟩

theorem ptpAnnounce_runs {a : AnnounceIn} (hw : (Instr.ptpAnnounce a).wellFormed = true) :
    let heard := s.dev.ptpOn a.port = true ∧ a.domain = s.dev.net.domain
    (ptpHead a.head = false ∨ ((s.dev.port a.port).rxOk a.head = true ∧ ¬heard) →
      Runs (.ptpAnnounce a) s (fun t => s.silent t s.dev)) ∧
    (ptpHead a.head = true → (s.dev.port a.port).rxOk a.head = false → Runs (.ptpAnnounce a) s (syncDrops s a.port 1 s.dev.net)) ∧
    (ptpHead a.head = true → (s.dev.port a.port).rxOk a.head = true → heard → Runs (.ptpAnnounce a) s (fun t =>
      masterSelected s t ∧ ∀ q, t.dev.port q = if q = a.port then
        { s.dev.port a.port with master := some ⟨a.rank, a.gm, a.utcOffset, a.utcValid, a.interval, 0⟩ } else s.dev.port q)) := by
  have hpt (hh : ptpHead a.head = true) : ptpAnnounce a s.dev.fresh0 = rxArrive a.port a.head (announceTaken a) s.dev.fresh0 :=
    if_pos hh
  refine ⟨fun h => ?_, fun hh hk => ?_, fun hh hk hn => ?_⟩
  · refine Runs.stays (f := ptpAnnounce a) rfl hw hs ?_
    cases hh : ptpHead a.head
    · exact if_neg (by rw [hh]; decide)
    · obtain ⟨hk, hn⟩ := h.resolve_left (by rw [hh]; decide)
      rw [hpt hh, rxArrive_taken _ (d := s.dev.fresh0) hk (ptpHead_takes hh)]
      refine if_pos ?_
      have hn : ¬((s.dev.fresh0).ptpOn a.port = true ∧ a.domain = (s.dev.fresh0).net.domain) := hn
      by_contra hc
      exact hn (by simpa using hc)
  · refine Runs.mainChecked (f := ptpAnnounce a) rfl hw hs ?_
    rw [hpt hh, rxArrive_dropped _ (d := s.dev.fresh0) (show ¬(s.dev.port a.port).rxOk a.head = true by rw [hk]; decide)]
    exact syncDrops_after rfl fun q => rxDropped_port ..
  · refine Runs.mainChecked (f := ptpAnnounce a) rfl hw hs ?_
    have hn : (s.dev.fresh0).ptpOn a.port = true ∧ a.domain = (s.dev.fresh0).net.domain := hn
    rw [hpt hh, rxArrive_taken _ (d := s.dev.fresh0) hk (ptpHead_takes hh), announceTaken, if_neg (by simp [hn.1, hn.2])]
    exact masterSelected_after s a.port _

theorem announceTimeout_runs {p : Nat} (hw : (Instr.announceTimeout p).wellFormed = true) :
    (((s.dev.port p).master = none ∨ ∃ m, (s.dev.port p).master = some m ∧ m.age < 3 * m.interval) →
      Runs (.announceTimeout p) s (fun t => s.silent t s.dev)) ∧
    (∀ m, (s.dev.port p).master = some m → 3 * m.interval ≤ m.age → Runs (.announceTimeout p) s (fun t =>
      masterSelected s t ∧ ∀ q, t.dev.port q = if q = p then { s.dev.port p with master := none } else s.dev.port q)) := by
  have he {m : Master} (hm : (s.dev.port p).master = some m) : announceTimeout p s.dev.fresh0 =
      if 3 * m.interval ≤ m.age then selectMaster (s.dev.fresh0.modPort p (fun x => { x with master := none }))
      else s.dev.fresh0 := by
    unfold announceTimeout
    rw [show (s.dev.fresh0.port p).master = some m from hm]
  refine ⟨fun h => Runs.stays (f := announceTimeout p) rfl hw hs ?_, fun m hm ha => ?_⟩
  · obtain hm | ⟨m, hm, ha⟩ := h
    · unfold announceTimeout
      rw [show (s.dev.fresh0.port p).master = none from hm]
    · exact (he hm).trans (if_neg (Nat.not_le_of_lt ha))
  · refine Runs.mainChecked (f := announceTimeout p) rfl hw hs ?_
    rw [(he hm).trans (if_pos ha)]
    exact masterSelected_after s p _

theorem pdelaySend_runs {p : Nat} (hw : (Instr.pdelayReqSend p).wellFormed = true) :
    let x := s.dev.port p
    let due := s.dev.maySend p = true ∧ (s.dev.ptpOn p = true ∨ p = 2) ∧ 1000 ≤ x.pdelayAge
    (due → Runs (.pdelayReqSend p) s (fun t => t.dev.out = [.pdelayReq p (x.pdelaySeq + 1)] ∧
      (∀ q, q ≠ p → t.dev.port q = s.dev.port q) ∧
      t.dev.port p = { x with pdelayAge := 0, pdelaySeq := x.pdelaySeq + 1 } ∧ s.frame t { s.dev with ports := t.dev.ports })) ∧
    (¬due → Runs (.pdelayReqSend p) s (fun t => s.silent t s.dev)) := by
  intro x due
  have hc : due ↔ (s.dev.fresh0.maySend p && (s.dev.fresh0.ptpOn p || p == 2) && decide (1000 ≤ (s.dev.fresh0.port p).pdelayAge)) = true := by
    simp only [Bool.and_eq_true, Bool.or_eq_true, beq_iff_eq, decide_eq_true_eq, and_assoc]
    exact Iff.rfl
  refine ⟨fun h => ?_, fun h => Runs.stays (f := pdelaySend p) rfl hw hs (if_neg (mt hc.2 h))⟩
  refine Runs.mainChecked (f := pdelaySend p) rfl hw hs ?_
  rw [show pdelaySend p s.dev.fresh0 = _ from if_pos (hc.1 h)]
  refine ⟨by simp [Dev.emit, Dev.fresh0]; rfl, fun q hq => ?_, ?_, State.frame_of_eq (Dev.reportsTo_of_eq rfl rfl rfl) ?_ rfl⟩
  · rw [(State.after_objects ..).2.2.2.2.1]
    exact (Dev.port_setPort ..).trans (if_neg hq)
  · rw [(State.after_objects ..).2.2.2.2.1]
    exact (Dev.port_setPort ..).trans (if_pos rfl)
  · simp only [State.after_dev]
    rfl

omit hs in
theorem pdelayTaken_out {p : Nat} {m : PdelayIn} (h : ¬(s.dev.maySend p = true ∧ (s.dev.ptpOn p = true ∨ p = 2))) :
    pdelayTaken p m s.dev.fresh0 = s.dev.fresh0 := by
  refine if_pos ?_
  have h : ¬(s.dev.fresh0.maySend p = true ∧ (s.dev.fresh0.ptpOn p = true ∨ p = 2)) := h
  by_contra hc
  refine h ?_
  simpa [or_iff_not_imp_left] using hc

theorem pdelayMessage_runs {p : Nat} (hp : p < 3) :
    let x := s.dev.port p
    let runs := s.dev.maySend p = true ∧ (s.dev.ptpOn p = true ∨ p = 2)
    (65464 < x.fill → ∀ y, Runs (.pdelayMessage p y) s (syncDrops s p 1 s.dev.net)) ∧
    (x.fill ≤ 65464 →
      (∀ seq t2 t3, runs → Runs (.pdelayMessage p (.request seq t2 t3)) s (fun t =>
        t.dev.out = [.pdelayResp p seq (t2 - x.ingress) (t3 + x.egress)] ∧ s.frame t s.dev)) ∧
      (∀ t1 t2 t3 t4 : Int, runs → Runs (.pdelayMessage p (.response x.pdelaySeq t1 t2 t3 t4)) s (fun t => ∃ q : Int,
        roundsTo ((t4 - x.ingress) - (t1 + x.egress) - (t3 - t2)) 2 q ∧ (∀ j, j ≠ p → t.dev.port j = s.dev.port j) ∧
        t.dev.port p = { x with pdelay := satNat 32 q.toNat } ∧
        s.silent t { s.dev with ports := t.dev.ports, fresh := t.dev.fresh })) ∧
      (∀ seq t1 t2 t3 t4, seq ≠ x.pdelaySeq →
        Runs (.pdelayMessage p (.response seq t1 t2 t3 t4)) s (fun t => s.silent t s.dev)) ∧
      (∀ y, ¬runs → Runs (.pdelayMessage p y) s (fun t => s.silent t s.dev))) := by
  intro x runs
  have hw (y : PdelayIn) : (Instr.pdelayMessage p y).wellFormed = true := decide_eq_true hp
  have hok : (s.dev.fresh0.port p).rxOk ⟨none, 0x88F7, 72, true⟩ = decide (x.fill ≤ 65464) := by
    rw [Bool.eq_iff_iff, Port.rxOk_iff, decide_eq_true_iff]
    exact ⟨fun h => by have h4 : x.fill + 72 ≤ 65536 := h.2.2.2; omega,
      fun h => ⟨by decide, by decide, rfl, show x.fill + 72 ≤ 65536 by omega⟩⟩
  have hrun : runs → (!s.dev.fresh0.maySend p || !(s.dev.fresh0.ptpOn p || p == 2)) = false := by
    intro h
    have h : s.dev.fresh0.maySend p = true ∧ (s.dev.fresh0.ptpOn p = true ∨ p = 2) := h
    obtain ⟨h1, h2⟩ := h
    rw [h1]
    simpa [or_iff_not_imp_left] using h2
  refine ⟨fun hf y => ?_, fun hf => ?_⟩
  · refine Runs.mainChecked (f := pdelayMessage p y) rfl (hw y) hs ?_
    have he : pdelayMessage p y s.dev.fresh0 = rxDropped p s.dev.fresh0 := rxArrive_dropped _ (by rw [hok]; simp; omega)
    rw [he]
    exact syncDrops_after rfl fun q => rxDropped_port ..
  · have he (y : PdelayIn) : pdelayMessage p y s.dev.fresh0 = pdelayTaken p y s.dev.fresh0 :=
      rxArrive_taken _ (by rw [hok]; exact decide_eq_true hf) (ptpHead_takes (by decide))
    refine ⟨fun seq t2 t3 hr => ?_, fun t1 t2 t3 t4 hr => ?_, fun seq t1 t2 t3 t4 hne => ?_, fun y hr => ?_⟩
    · refine Runs.mainChecked (f := pdelayMessage p _) rfl (hw _) hs ?_
      have ht : pdelayTaken p (.request seq t2 t3) s.dev.fresh0 =
          s.dev.fresh0.emit (.pdelayResp p seq (t2 - x.ingress) (t3 + x.egress)) := if_neg (by rw [hrun hr]; decide)
      rw [he, ht]
      exact (emit_after ..).symm
    · refine Runs.mainChecked (f := pdelayMessage p _) rfl (hw _) hs ?_
      obtain ⟨hq, m, hm⟩ := meanOpen_rounds ((t4 - x.ingress) - (t1 + x.egress) - (t3 - t2)) 2 s.dev.fresh0
      have ht : pdelayTaken p (.response x.pdelaySeq t1 t2 t3 t4) s.dev.fresh0 =
          (meanOpen ((t4 - x.ingress) - (t1 + x.egress) - (t3 - t2)) 2 s.dev.fresh0).2.setPort p
            (x.measured (meanOpen ((t4 - x.ingress) - (t1 + x.egress) - (t3 - t2)) 2 s.dev.fresh0).1) :=
        (if_neg (by rw [hrun hr]; decide)).trans (if_neg (not_not_intro rfl))
      rw [he, ht]
      generalize meanOpen ((t4 - x.ingress) - (t1 + x.egress) - (t3 - t2)) 2 s.dev.fresh0 = r at hq hm ⊢
      refine ⟨r.1, hq, fun j hj => ?_, ?_, State.silent_of_eq ?_⟩
      · rw [(State.after_objects ..).2.2.2.2.1, hm]
        exact (Dev.port_setPort ..).trans (if_neg hj)
      · rw [(State.after_objects ..).2.2.2.2.1, hm]
        exact (Dev.port_setPort ..).trans (if_pos rfl)
      · simp only [State.after_dev]
        rw [hm]
        rfl
    · refine Runs.stays (f := pdelayMessage p _) rfl (hw _) hs ((he _).trans ?_)
      unfold pdelayTaken
      dsimp only
      split
      · rfl
      · exact if_pos hne
    · exact Runs.stays (f := pdelayMessage p y) rfl (hw y) hs ((he y).trans (pdelayTaken_out hr))

/-- An event that changes network time alone, and what it reports. -/
theorem Runs.netTold {i : Instr} {f : Dev → Dev} {n : NetTime} {e : Event} (hx : exec i s = mainStep f s)
    (hf : f s.dev.fresh0 = report e (s.dev.fresh0.withNet n)) :
    Runs i s (fun t => t.dev.net = n ∧ s.frame t { s.dev with net := t.dev.net, fresh := t.dev.fresh }) := by
  refine Runs.main hx hs ?_
  rw [hf]
  obtain ⟨hn, h⟩ := onlyNet_after (s := s) (a := report e (s.dev.fresh0.withNet n))
    (Dev.onlyTime_trans (withNet_onlyTime _ n) (report_onlyTime ..)) (by simp [Dev.withNet, Dev.fresh0]) (by simp [Dev.withNet, Dev.fresh0])
  exact ⟨hn.trans (report_keeps ..).2.2.2.2.1, h⟩

theorem Runs.netSet {i : Instr} {f : Dev → Dev} {n : NetTime} (hx : exec i s = mainStep f s)
    (hf : f s.dev.fresh0 = s.dev.fresh0.withNet n) :
    Runs i s (fun t => t.dev.net = n ∧ s.frame t { s.dev with net := t.dev.net, fresh := t.dev.fresh }) := by
  refine Runs.main hx hs ?_
  rw [hf]
  exact onlyNet_after (s := s) (a := s.dev.fresh0.withNet n) (withNet_onlyTime _ n) rfl rfl

theorem ppsEdge_runs (ns high : Nat) :
    let n := s.dev.net
    let onTime := n.onTime (s.dev.tb.ran * 1000000 + ns)
    let only (t : State) : Prop := s.frame t { s.dev with net := t.dev.net, fresh := t.dev.fresh }
    (n.pps = false → Runs (.timePpsInEdge ns high) s (fun t => s.silent t s.dev)) ∧
    (n.pps = true → (high < 1000 ∨ onTime = false) → Runs (.timePpsInEdge ns high) s (fun t =>
      t.dev.net = { n with ppsInOk := false, ppsDue := n.ppsDue && !onTime } ∧ only t)) ∧
    (n.pps = true → 1000 ≤ high → onTime = true → Runs (.timePpsInEdge ns high) s (fun t =>
      t.dev.net = s.dev.ppsTaken ns ∧ only t)) := by
  intro n onTime only
  refine ⟨fun h => ?_, fun h hb => ?_, fun h hb ho => ?_⟩
  · refine Runs.mainStays (f := ppsEdge ns high) rfl hs (if_pos ?_)
    rw [show s.dev.fresh0.net.pps = false from h]
    rfl
  · exact Runs.netTold hs (f := ppsEdge ns high) rfl ((ppsEdge_eq (d := s.dev.fresh0) ns high h).trans (if_pos hb))
  · refine Runs.netSet hs (f := ppsEdge ns high) rfl ((ppsEdge_eq (d := s.dev.fresh0) ns high h).trans (if_neg ?_))
    rintro (hl | hf)
    · exact absurd hb (Nat.not_le_of_lt hl)
    · exact Bool.noConfusion (ho.symm.trans hf)

theorem ppsFault_runs :
    let n := s.dev.net
    let missing := n.pps = true ∧ n.ppsDue = true ∧
      ∃ l, n.ppsLast = some l ∧ l + 1001000000 < s.dev.tb.ran * 1000000 + (s.dev.tb.sample + 1) * 31250
    (missing → Runs .ppsInFault s (fun t => t.dev.net = { n with ppsInOk := false, ppsDue := false } ∧
      s.frame t { s.dev with net := t.dev.net, fresh := t.dev.fresh })) ∧
    (¬missing → Runs .ppsInFault s (fun t => s.silent t s.dev)) := by
  intro n missing
  refine ⟨fun h => ?_, fun h => Runs.mainStays (f := ppsFault) rfl hs ?_⟩
  · obtain ⟨h1, h2, l, hl, ht⟩ := h
    refine Runs.netTold hs (f := ppsFault) (n := { n with ppsInOk := false, ppsDue := false }) (e := portEv 0x0509 true 0 0) rfl ?_
    unfold ppsFault
    rw [show s.dev.fresh0.net.ppsLast = some l from hl]
    refine if_pos ?_
    rw [Bool.and_eq_true, Bool.and_eq_true]
    exact ⟨⟨h1, h2⟩, decide_eq_true ht⟩
  · unfold ppsFault
    cases hl : s.dev.fresh0.net.ppsLast with
    | none => rfl
    | some l =>
      refine if_neg fun hc => h ?_
      rw [Bool.and_eq_true, Bool.and_eq_true, decide_eq_true_iff] at hc
      exact ⟨hc.1.1, hc.1.2, l, hl, hc.2⟩

theorem ppsPulseEnd_runs :
    (s.dev.net.ppsOut = some 0 → Runs .ppsOutPulseEnd s (fun t =>
      s.silent t { s.dev with net := { s.dev.net with ppsOut := none } })) ∧
    (s.dev.net.ppsOut ≠ some 0 → Runs .ppsOutPulseEnd s (fun t => s.silent t s.dev)) := by
  refine ⟨fun h => ?_, fun h => Runs.mainStays (f := ppsPulseEnd) rfl hs (if_neg h)⟩
  refine Runs.main (f := ppsPulseEnd) rfl hs ?_
  rw [show ppsPulseEnd s.dev.fresh0 = s.dev.fresh0.withNet { s.dev.net with ppsOut := none } from if_pos h]
  exact State.silent_of_eq rfl

theorem phyMdioCmd_runs {v : Reg} (h : writeAdmitted (regCmd 0x0B10 v) s) : Runs (.phyMdioCmd v) s (fun t =>
    t.dev.net = s.dev.net.mdioRuns v ∧
      t.dev.out = (if s.dev.pwr.rstOut then [] else [.mdio (v &&& 0x7FFCFFFF)]) ∧
      s.frame t { s.dev with
        net := t.dev.net, ps := { s.dev.ps with subs := t.dev.ps.subs }
        ply := { s.dev.ply with digestDue := t.dev.ply.digestDue } }) := by
  refine Runs.main (f := phyMdioCmd v) rfl hs ?_
  have he : phyMdioCmd v s.dev.fresh0 = rightsChanged (mdioStart v s.dev.fresh0) := regWrite_admitted h (by decide)
  have hst := mdioStart_eq v s.dev.fresh0
  rw [he]
  generalize mdioStart v s.dev.fresh0 = b at hst ⊢
  have hf := frame_rights (s := s) (a := b) (b := s.dev.withNet (s.dev.net.mdioRuns v))
    (by rw [hst]; exact Dev.reportsTo_of_eq rfl rfl rfl) (by rw [hst]; rfl)
  have ho : (rightsChanged b).out = b.out := by rw [(rightsChanged_only b).2]
  have hb : b.out = if s.dev.pwr.rstOut then [] else [.mdio (v &&& 0x7FFCFFFF)] := by rw [hst]; rfl
  generalize rightsChanged b = a at hf ho ⊢
  obtain ⟨-, -, -, -, hnet, -, -, -, -, -, -, -, -, hply, -⟩ := State.frame_keeps hf
  have hnet : (s.after a).dev.net = s.dev.net.mdioRuns v := hnet
  have hply : (s.after a).dev.ply = s.dev.ply := hply
  have hout : (s.after a).dev.out = a.out := by simp
  refine ⟨hnet, (hout.trans ho).trans hb, ?_⟩
  rw [hnet, hply]
  exact hf

theorem mdioComplete_runs (answer : Option (BitVec 16)) :
    (s.dev.net.mdioBusy = true → s.dev.pwr.rstOut = false → Runs (.mdioComplete answer) s (fun t =>
      t.dev.net = s.dev.net.mdioEnds answer ∧ s.frame t { s.dev with net := t.dev.net, fresh := t.dev.fresh })) ∧
    ((s.dev.net.mdioBusy = false ∨ s.dev.pwr.rstOut = true) → Runs (.mdioComplete answer) s (fun t => s.silent t s.dev)) := by
  refine ⟨fun hb hr => ?_, fun h => Runs.mainStays (f := mdioComplete answer) rfl hs (if_pos ?_)⟩
  · have he := mdioComplete_eq (answer := answer) (d := s.dev.fresh0) hb hr
    split at he
    · exact Runs.netTold hs (f := mdioComplete answer) rfl he
    · exact Runs.netSet hs (f := mdioComplete answer) rfl he
  · obtain h | h := h
    · rw [show s.dev.fresh0.net.mdioBusy = false from h]
      rfl
    · rw [show s.dev.fresh0.pwr.rstOut = true from h, Bool.or_true]

end

theorem Runs.mono {i : Instr} {s : State} {p q : State → Prop} (h : Runs i s p) (hpq : ∀ t, p t → q t) : Runs i s q := by
  obtain ⟨t, ht, hp⟩ := h
  exact ⟨t, ht, hpq t hp⟩

theorem masterSelected_selected {s t : State} (h : masterSelected s t) : 
    let best := t.dev.bestPort
    let n := s.dev.net
    (best = 0 → t.dev.net = { n with slavePort := 0, gmPresent := false } ∧ t.dev.bk = s.dev.bk) ∧
      (∀ m, best ≠ 0 → (t.dev.port (best.toNat - 1)).master = some m →
        t.dev.net = { n with
          slavePort := best, gmPresent := true, gm := m.gm, utcOffset := m.utcOffset, utcValid := m.utcValid
          discard := if n.gmPresent = false ∨ m.gm ≠ n.gm then 2 else n.discard } ∧
        (m.utcOffset = n.utcOffset ∨ s.dev.bk.calSrc = false → t.dev.bk = s.dev.bk) ∧
        (m.utcOffset ≠ n.utcOffset → s.dev.bk.calSrc = true → t.dev.bk = { s.dev.bk with
          utcStep := some ((s.dev.bk.utcStep.map (·.1)).getD 0 + ((m.utcOffset.toNat : Int) - n.utcOffset.toNat), s.dev.bk.cnt) })) ∧
      s.frame t { s.dev with net := t.dev.net, ports := t.dev.ports, bk := { s.dev.bk with utcStep := t.dev.bk.utcStep } } := by
  obtain ⟨h0, hm, hf⟩ := h
  refine ⟨h0, fun m hb hp => ?_, hf⟩
  obtain ⟨hn, hbk⟩ := hm m hb hp
  refine ⟨hn.trans (NetTime.follows_some ..), fun hz => hbk.trans ?_, fun hz hc => hbk.trans ?_⟩
  · unfold Backup.utcMoved
    obtain hz | hz := hz
    · rw [if_pos (by rw [hz]; omega)]
    · rw [hz]
      split <;> rfl
  · unfold Backup.utcMoved
    rw [if_neg fun he => hz (BitVec.eq_of_toNat_eq (by omega)), if_pos hc]

/-- What the obligation says of one port beside another: the rule over all ports at once. -/
theorem port_split {s t : State} {p : Nat} {x : Port} (h : ∀ q, t.dev.port q = if q = p then x else s.dev.port q) :
    (∀ q, q ≠ p → t.dev.port q = s.dev.port q) ∧ t.dev.port p = x :=
  ⟨fun q hq => (h q).trans (if_neg hq), (h p).trans (if_pos rfl)⟩

/-- Settles O56. -/
theorem networkTimeEvents : Obligations.NetworkTimeEvents := by
  intro s hs d n only still selected others
  refine ⟨?_, ?_, ?_, ?_, ?_⟩
  · intro x hp
    have hw : (Instr.ptpSync x).wellFormed = true := decide_eq_true hp
    refine ⟨fun h => Runs.stays (f := ptpSync x) rfl hw hs (ptpSync_noPtp h), fun h => (ptpSync_drops hs hw h).1,
      fun h => (ptpSync_drops hs hw h).2.1, fun h h1 h2 => ?_, fun h h1 h2 => ptpSync_runs hs hw h h1 h2⟩
    exact iteInduction (motive := fun net => Runs (.ptpSync x) s (syncDrops s x.port 1 net))
      ((ptpSync_drops hs hw h).2.2 h1 h2).1 ((ptpSync_drops hs hw h).2.2 h1 h2).2
  · intro a hp
    obtain ⟨h1, h2, h3⟩ := ptpAnnounce_runs hs (a := a) (decide_eq_true hp)
    refine ⟨h1, fun hh hk => h2 hh hk, fun hh hk hn => (h3 hh hk hn).mono fun t ht => ?_⟩
    exact ⟨masterSelected_selected ht.1, port_split ht.2⟩
  · intro p hp
    obtain ⟨h1, h2⟩ := announceTimeout_runs hs (p := p) (decide_eq_true hp)
    refine ⟨h1, fun m hm ha => (h2 m hm ha).mono fun t ht => ⟨masterSelected_selected ht.1, port_split ht.2⟩,
      pdelaySend_runs hs (decide_eq_true hp), (pdelayMessage_runs hs hp).1, (pdelayMessage_runs hs hp).2⟩
  · intro ns high
    obtain ⟨h1, h2, h3⟩ := ppsEdge_runs hs ns high
    exact ⟨h1, h2, fun h hb ho => (h3 h hb ho).mono fun t ht => ht.symm⟩
  · obtain ⟨h1, h2⟩ := ppsPulseEnd_runs hs
    exact ⟨ppsFault_runs hs, h1, h2, fun v hv => phyMdioCmd_runs hs hv,
      fun answer hb hr => ((mdioComplete_runs hs answer).1 hb hr).mono fun t ht => ht.symm,
      fun answer h => (mdioComplete_runs hs answer).2 h⟩

end Sys2Proof.Machine
end

section
/-!
Units that keep their own table and write points: nodes (O39). What they leave beside their table: points, alarms,
subscriptions, the digests that are due, the count of uncorrectable errors and what reports write (`Dev.marks`).
-/
namespace Sys2Proof.Machine

/-! ### What a unit writes beside its own table -/

/-- The module with another count of uncorrectable errors. -/
def Dev.withUncorr (d : Dev) (n : BitVec 32) : Dev := { d with flt := { d.flt with eccUncorr := n } }

/-- From `d` to `d'` points, alarms, subscriptions, due digests, the count of uncorrectable errors and what reports write have
changed. -/
def Dev.marks (d d' : Dev) : Prop := (d.withUncorr d'.flt.eccUncorr).reportsTo d' ∧ d' = { d with
  ps := { d.ps with points := d'.ps.points, alarms := d'.ps.alarms, subs := d'.ps.subs }
  ply := { d.ply with digestDue := d'.ply.digestDue }
  tr := d'.tr, rcd := d'.rcd, flt := d'.flt }

theorem Dev.withUncorr_reportsTo {a b : Dev} (h : a.reportsTo b) (n : BitVec 32) :
    (a.withUncorr n).reportsTo (b.withUncorr n) := by
  obtain ⟨hc, ht, hr, hf⟩ := h
  refine ⟨hc, ht, hr, ?_⟩
  unfold Dev.withUncorr
  dsimp only
  rw [hf]

theorem Dev.marks_refl (d : Dev) : d.marks d := ⟨Dev.reportsTo_refl d, rfl⟩

theorem Dev.marks_trans {a b c : Dev} (h1 : a.marks b) (h2 : b.marks c) : a.marks c := by
  obtain ⟨hr, he⟩ := h1
  obtain ⟨hr', he'⟩ := h2
  exact ⟨Dev.reportsTo_trans (Dev.withUncorr_reportsTo hr c.flt.eccUncorr) hr', by rw [he', he]⟩

theorem Dev.marks_of_reportsTo {a b : Dev} (hr : a.reportsTo b) (he : b = { a with
    ps := { a.ps with points := b.ps.points, alarms := b.ps.alarms, subs := b.ps.subs }
    tr := b.tr, rcd := b.rcd, flt := b.flt }) : a.marks b := by
  have hu : a.withUncorr b.flt.eccUncorr = a := by
    have h := congrArg FaultRegs.eccUncorr hr.2.2.2
    unfold Dev.withUncorr
    rw [h]
  refine ⟨by rw [hu]; exact hr, ?_⟩
  have hp : b.ply = a.ply := by rw [he]
  rw [hp]
  exact he

theorem Dev.marks_of_stores {P : Nat → Prop} {a b : Dev} (h : a.stores P b) : a.marks b :=
  Dev.marks_of_reportsTo h.2.1 h.2.2

theorem report_marks (e : Event) (d : Dev) : d.marks (report e d) := Dev.marks_of_stores (report_stores (fun _ => True) e d)

theorem rightsChanged_marks (d : Dev) : d.marks (rightsChanged d) := Dev.marks_of_stores (rightsChanged_stores d)

theorem countUncorr_marks (d : Dev) : d.marks (countUncorr d) := ⟨Dev.reportsTo_of_eq rfl rfl rfl, rfl⟩

theorem digestMark_marks (areas : List Nat) (d : Dev) : d.marks (digestMark areas d) := ⟨Dev.reportsTo_of_eq rfl rfl rfl, rfl⟩

theorem foldl_marks {α : Type} {f : Dev → α → Dev} (h : ∀ d x, Dev.marks d (f d x)) (xs : List α) (d : Dev) :
    d.marks (xs.foldl f d) := by
  induction xs generalizing d with
  | nil => exact Dev.marks_refl d
  | cons x xs ih => exact Dev.marks_trans (h d x) (ih _)

/-- What such a step leaves. -/
theorem Dev.marks_keeps {a b : Dev} (h : a.marks b) : b.lg = a.lg ∧ b.lp = a.lp ∧ b.cl = a.cl ∧ b.nodes = a.nodes ∧
    b.strands = a.strands ∧ b.out = a.out ∧ b.tb = a.tb ∧ b.net = a.net ∧ b.bk = a.bk ∧ b.mt = a.mt ∧ b.wire = a.wire ∧
    b.fresh = a.fresh := by
  rw [h.2]
  exact ⟨rfl, rfl, rfl, rfl, rfl, rfl, rfl, rfl, rfl, rfl, rfl, rfl⟩

/-- The state after a unit has changed its own table, of the module `b`, and marked the rest. -/
theorem marks_after {s : State} {a b : Dev} (h : b.marks a) (hw : b.wire = []) :
    let t := s.after a
    s.frame t { b with
      flt := { b.flt with eccUncorr := t.dev.flt.eccUncorr }
      ps := { b.ps with points := t.dev.ps.points, alarms := t.dev.ps.alarms, subs := t.dev.ps.subs }
      ply := { b.ply with digestDue := t.dev.ply.digestDue } } := by
  obtain ⟨hr, he⟩ := h
  have hflt : (s.after a).dev.flt = a.flt := by simp
  have hps : (s.after a).dev.ps = a.ps := by simp
  have hply : (s.after a).dev.ply = a.ply := by simp
  dsimp only
  rw [hflt, hps, hply]
  refine State.frame_of_eq (Dev.reportsTo_congr hr rfl rfl rfl) ?_ ?_
  · rw [he]
  · rw [he]
    exact hw

/-- The count of uncorrectable errors after a report of it. -/
theorem Dev.reportsTo_uncorr {a b : Dev} (h : a.reportsTo b) : b.flt.eccUncorr = a.flt.eccUncorr := by
  obtain ⟨-, -, -, hf⟩ := h
  rw [hf]

/-! ### Nodes -/

/-- The module with another table of nodes. -/
def Dev.withNodes (d : Dev) (x : Tbl Node) : Dev := { d with nodes := x }

/-- From `d` to `d'` nodes have changed, and what a unit marks. -/
def Dev.onlyNodes (d d' : Dev) : Prop := (d.withNodes d'.nodes).marks d'

theorem Dev.onlyNodes_of_marks {a b : Dev} (h : a.marks b) : a.onlyNodes b := by
  unfold Dev.onlyNodes
  rw [(Dev.marks_keeps h).2.2.2.1]
  exact h

theorem Dev.marks_withNodes {a b : Dev} (h : a.marks b) (x : Tbl Node) : (a.withNodes x).marks (b.withNodes x) := by
  obtain ⟨hr, he⟩ := h
  exact ⟨Dev.reportsTo_congr (Dev.reportsTo_trans hr (Dev.reportsTo_of_eq rfl rfl rfl)) rfl rfl rfl, by rw [he]; rfl⟩

theorem Dev.onlyNodes_trans {a b c : Dev} (h1 : a.onlyNodes b) (h2 : b.onlyNodes c) : a.onlyNodes c :=
  Dev.marks_trans (Dev.marks_withNodes h1 c.nodes) h2

theorem setNode_onlyNodes (e : Nat) (x : Node) (d : Dev) : d.onlyNodes (d.setNode e x) := Dev.marks_refl _

/-- The state after a step of nodes. -/
theorem onlyNodes_after {s : State} {a : Dev} (h : s.dev.fresh0.onlyNodes a) :
    let t := s.after a
    s.frame t { s.dev with
      nodes := t.dev.nodes, flt := { s.dev.flt with eccUncorr := t.dev.flt.eccUncorr }
      ps := { s.dev.ps with points := t.dev.ps.points, alarms := t.dev.ps.alarms, subs := t.dev.ps.subs }
      ply := { s.dev.ply with digestDue := t.dev.ply.digestDue } } := by
  have hn : (s.after a).dev.nodes = a.nodes := by simp
  dsimp only
  rw [hn]
  exact marks_after (b := s.dev.fresh0.withNodes a.nodes) h rfl

/-- The image of an entry with its enable bit written. -/
theorem bit_enable {w : Nat} (x : BitVec w) {i : Nat} (hi : i < w) (on : Bool) :
    bit (x &&& ~~~(putB w i true) ||| putB w i on) i = on := by
  rw [bit_or, bit_and, bit_not _ hi, bit_putB _ _ hi, bit_putB _ _ hi]
  simp

/-- A write of one entry that meets its checks. -/
theorem entryWrite_admitted {sp index size w : Nat} {r : SpaceRow} (img : BitVec w) (hr : spaceRow sp = some r)
    (hz : r.size = size) (hsp : 1 < sp ∧ sp < 0xF0) (hi : index < 2 ^ 32) (hw : 8 * size = w) {s : State}
    (h : writeAdmitted (entryCmd sp index size img.toNat) s) :
    directWrite (entryCmd sp index size img.toNat) s.dev.fresh0 =
      rightsChanged (entryWrite sp index (img.setWidth 2048) s.dev.fresh0) := by
  rw [directWrite_admitted h, entryCmd_effect img hr hz hsp hi hw]

theorem nodeKey_apart {k a : Nat} (hk : k < 16) (ha : a ≤ 254) : nodeKey k a < 2 ^ 32 := by
  unfold nodeKey
  omega

/-- The image that a write of a narrower entry carries. -/
theorem fld_image {w : Nat} (x : BitVec w) (h : w ≤ 2048) : fld (x.setWidth 2048) 0 w = x :=
  (fld_setWidth x (by omega)).trans (fld_all x)

theorem entryWrite_node (key : Nat) (c : BitVec 256) (d : Dev) :
    entryWrite 0x11 key (c.setWidth 2048) d = digestMark (digestAreas 0x11) (nodeEntryWrite key c d) := by
  have h : entryWrite 0x11 key (c.setWidth 2048) d =
      digestMark (digestAreas 0x11) (nodeEntryWrite key (fld (c.setWidth 2048) 0 256) d) := rfl
  rw [h, fld_image c (by omega)]

theorem nodeEnWrite_admitted {s : State} {k a : Nat} {on : Bool} {c : BitVec 256} (hk : k < 16) (ha : a ≤ 254)
    (hc : c = (s.dev.node (nodeKey k a)).cfg &&& ~~~(putB 256 38 true) ||| putB 256 38 on)
    (h : writeAdmitted (entryCmd 0x11 (nodeKey k a) 32 c.toNat) s) : nodeEnWrite k a on s.dev.fresh0 =
      rightsChanged (digestMark (digestAreas 0x11) (nodeEntryWrite (nodeKey k a) c s.dev.fresh0)) := by
  have he : nodeEnWrite k a on s.dev.fresh0 = directWrite (entryCmd 0x11 (nodeKey k a) 32 c.toNat) s.dev.fresh0 := by
    rw [hc]
    rfl
  have hrow : ∃ r, spaceRow 0x11 = some r ∧ r.size = 32 := ⟨_, rfl, rfl⟩
  obtain ⟨r, hr, hz⟩ := hrow
  rw [he, entryWrite_admitted c hr hz (by decide) (nodeKey_apart hk ha) rfl h, entryWrite_node]

/-! ### Folds over points of their own -/

/-- Steps that each change one point of their own: every named point is changed once, from what it held. -/
theorem foldl_points {α : Type} {f : Dev → α → Dev} {key : α → Nat} {g : W64 → α → Point → Point}
    (hst : ∀ d x, Dev.stores (· = key x) d (f d x)) (hval : ∀ d x, (f d x).point (key x) = g d.cal x (d.point (key x)))
    (xs : List α) (hnd : (xs.map key).Nodup) (d : Dev) :
    (∀ x ∈ xs, (xs.foldl f d).point (key x) = g d.cal x (d.point (key x))) ∧
      ∀ p, p ∉ xs.map key → (xs.foldl f d).point p = d.point p := by
  induction xs generalizing d with
  | nil => exact ⟨nofun, fun _ _ => rfl⟩
  | cons x xs ih =>
    rw [List.map_cons, List.nodup_cons] at hnd
    obtain ⟨h1, h2⟩ := ih hnd.2 (f d x)
    have hcal : (f d x).cal = d.cal := Dev.cal_of_stores (hst d x)
    rw [List.foldl_cons]
    refine ⟨fun y hy => ?_, fun p hp => ?_⟩
    · obtain rfl | hy := List.mem_cons.1 hy
      · rw [h2 _ hnd.1, hval]
      · have hne : key y ≠ key x := fun he => hnd.1 (he ▸ List.mem_map_of_mem hy)
        rw [h1 y hy, hcal, (hst d x).1 _ hne]
    · rw [List.map_cons, List.mem_cons, not_or] at hp
      rw [h2 p hp.2, (hst d x).1 p hp.1]

theorem nodup_base (base n : Nat) : ((List.range n).map (base + ·)).Nodup :=
  List.Nodup.map (fun _ _ h => Nat.add_left_cancel h) List.nodup_range

/-! ### EN of a node (R278, R288) -/

/-- A record claimed by a producer (R59, R63, R72). -/
def Point.claimed (x : Point) (kind index : Nat) (cal : W64) : Point :=
  let y := { x with srcKind := BitVec.ofNat 4 kind, srcIndex := BitVec.ofNat 28 index, subst := x.substForce }
  x.stored (if x.substForce then y else { y with quality := 3, detail := 1 }) cal

theorem claimPoint_claimed (kind index p : Nat) (d : Dev) :
    (claimPoint kind index p d).point p = (d.point p).claimed kind index d.cal := by
  unfold claimPoint
  dsimp only
  rw [storePoint_point_eq, if_pos rfl]
  rfl

theorem Point.claimed_holds (x : Point) (kind index : Nat) (cal : W64) :
    (x.claimed kind index cal).srcKind = BitVec.ofNat 4 kind ∧ (x.claimed kind index cal).srcIndex = BitVec.ofNat 28 index ∧
      (x.claimed kind index cal).subst = x.substForce ∧
      (x.substForce = false → (x.claimed kind index cal).quality = 3 ∧ (x.claimed kind index cal).detail = 1) ∧
      (x.substForce = true → (x.claimed kind index cal).value = x.value ∧ (x.claimed kind index cal).quality = x.quality ∧
        (x.claimed kind index cal).detail = x.detail) := by
  unfold Point.claimed
  dsimp only
  by_cases hf : x.substForce = true
  · rw [if_pos hf]
    obtain ⟨hv, hq, hd, -, hk, hi, hs, -⟩ := Point.stored_keeps x
      { x with srcKind := BitVec.ofNat 4 kind, srcIndex := BitVec.ofNat 28 index, subst := x.substForce } cal
    exact ⟨hk, hi, hs, fun h => Bool.noConfusion (h.symm.trans hf), fun _ => ⟨hv, hq, hd⟩⟩
  · rw [if_neg hf]
    obtain ⟨hv, hq, hd, -, hk, hi, hs, -⟩ := Point.stored_keeps x { x with
      srcKind := BitVec.ofNat 4 kind, srcIndex := BitVec.ofNat 28 index, subst := x.substForce, quality := 3, detail := 1 } cal
    exact ⟨hk, hi, hs, fun _ => ⟨hq, hd⟩, fun h => absurd h hf⟩

/-- A record given up by its producer (R64). -/
def Point.released (x : Point) (cal : W64) : Point :=
  if x.quarantined then x
  else x.stored { x with
    srcKind := 0, srcIndex := 0, subst := false, substForce := false, quality := 3, detail := 1 } cal

theorem releasePoint_released (p : Nat) (d : Dev) : (releasePoint p d).point p = (d.point p).released d.cal := by
  unfold releasePoint Point.released
  dsimp only
  split
  · rfl
  · rw [storePoint_point_eq, if_pos rfl]

theorem Point.released_holds {x : Point} (h : x.quarantined = false) (cal : W64) :
    (x.released cal).srcKind = 0 ∧ (x.released cal).quality = 3 := by
  unfold Point.released
  rw [if_neg (by rw [h]; decide)]
  obtain ⟨-, hq, -, -, hk, -⟩ := Point.stored_keeps x { x with
    srcKind := 0, srcIndex := 0, subst := false, substForce := false, quality := 3, detail := 1 } cal
  exact ⟨hk, hq⟩

theorem releaseAs_released (kind index p : Nat) (d : Dev) : (releaseAs kind index p d).point p =
    if (d.point p).producedBy kind index then (d.point p).released d.cal else d.point p := by
  unfold releaseAs
  change (if (d.point p).producedBy kind index then _ else _ : Dev).point p = _
  split
  · exact releasePoint_released ..
  · rfl

/-- The module with a node to be identified under a new entry. -/
def Dev.nodeFound (d : Dev) (key : Nat) (c : BitVec 256) : Dev :=
  d.setNode key { d.node key with cfg := c, st := .identifying, miss := 0 }

/-- The inputs of a node claimed for it. -/
def claimInputs (key : Nat) (c : BitVec 256) (d : Dev) : Dev :=
  (List.range (nodeIn c)).foldl (fun d i => claimPoint 1 (nodeSource key i) (nodeInBase c + i) d) d

/-- A node switched on: it is to be identified and claims its inputs. -/
theorem nodeEntryWrite_on {key : Nat} {c : BitVec 256} {d : Dev} (h : nodeEn (d.node key).cfg = false)
    (hc : nodeEn (c &&& nodeMask) = true) :
    nodeEntryWrite key c d = claimInputs key (c &&& nodeMask) (d.nodeFound key (c &&& nodeMask)) := by
  unfold nodeEntryWrite claimInputs Dev.nodeFound
  dsimp only
  rw [h, if_neg (by decide), if_pos hc]

theorem claimInputs_marks (key : Nat) (c : BitVec 256) (d : Dev) : d.marks (claimInputs key c d) :=
  foldl_marks (fun _ _ => Dev.marks_of_stores (claimPoint_stores ..)) _ d

theorem claimInputs_point (key : Nat) (c : BitVec 256) (d : Dev) : ∀ i < nodeIn c,
    (claimInputs key c d).point (nodeInBase c + i) = (d.point (nodeInBase c + i)).claimed 1 (nodeSource key i) d.cal := fun i hi =>
  (foldl_points (f := fun d i => claimPoint 1 (nodeSource key i) (nodeInBase c + i) d)
    (key := (nodeInBase c + ·)) (g := fun cal i x => x.claimed 1 (nodeSource key i) cal)
    (fun _ _ => claimPoint_stores ..) (fun _ _ => claimPoint_claimed ..) (List.range (nodeIn c)) (nodup_base ..) d).1 i
    (List.mem_range.2 hi)

/-- The module with a node switched off and its entry written. -/
def Dev.nodeOff (d : Dev) (key : Nat) (c : BitVec 256) : Dev :=
  (nodeDisable key d).setNode key { (nodeDisable key d).node key with cfg := c }

theorem nodeEntryWrite_off {key : Nat} {c : BitVec 256} {d : Dev} (h : nodeEn (d.node key).cfg = true) (hc : nodeEn (c &&& nodeMask) = false) :
    nodeEntryWrite key c d = d.nodeOff key (c &&& nodeMask) := by
  unfold nodeEntryWrite Dev.nodeOff
  dsimp only
  rw [h, if_pos rfl, hc, if_neg (by decide)]

theorem nodeDisable_onlyNodes (key : Nat) (d : Dev) : d.onlyNodes (nodeDisable key d) := by
  unfold nodeDisable
  dsimp only
  exact Dev.onlyNodes_trans (Dev.onlyNodes_of_marks (foldl_marks (fun _ _ => Dev.marks_of_stores (releaseAs_stores ..)) _ d))
    (setNode_onlyNodes ..)

theorem nodeEn_masked {x : BitVec 256} {on : Bool} :
    nodeEn ((x &&& ~~~(putB 256 38 true) ||| putB 256 38 on) &&& nodeMask) = on := by
  unfold nodeEn
  rw [bit_and, bit_enable x (by omega)]
  have h : bit nodeMask 38 = true := by decide
  rw [h, Bool.and_true]

/-- The entry of a node that polls no more. -/
def Node.disabled (n : Node) : Node := { n with cfg := n.cfg &&& ~~~(putB 256 38 true), st := .disabled }

theorem nodeDisable_node (key : Nat) (d : Dev) (q : Nat) :
    (nodeDisable key d).node q = if q = key then (d.node key).disabled else d.node q := by
  unfold nodeDisable
  dsimp only
  rw [Dev.node_setNode]
  split
  · rfl
  · have hm : d.marks _ := foldl_marks (f := fun x i => releaseAs 1 (nodeSource key i) (nodeInBase (d.node key).cfg + i) x)
      (fun _ _ => Dev.marks_of_stores (releaseAs_stores ..)) (List.range (nodeIn (d.node key).cfg)) d
    exact congrArg (fun x => tget Node.reset x q) (Dev.marks_keeps hm).2.2.2.1

theorem nodeDisable_points (key : Nat) (d : Dev) : ∀ i < nodeIn (d.node key).cfg,
    (nodeDisable key d).point (nodeInBase (d.node key).cfg + i) =
      if (d.point (nodeInBase (d.node key).cfg + i)).producedBy 1 (nodeSource key i) then
        (d.point (nodeInBase (d.node key).cfg + i)).released d.cal
      else d.point (nodeInBase (d.node key).cfg + i) := by
  intro i hi
  exact (foldl_points (f := fun x i => releaseAs 1 (nodeSource key i) (nodeInBase (d.node key).cfg + i) x)
    (key := (nodeInBase (d.node key).cfg + ·))
    (g := fun cal i x => if x.producedBy 1 (nodeSource key i) then x.released cal else x)
    (fun _ _ => releaseAs_stores ..) (fun _ _ => releaseAs_released ..) (List.range (nodeIn (d.node key).cfg))
    (nodup_base ..) d).1 i (List.mem_range.2 hi)

theorem nodeDisable_uncorr (key : Nat) (d : Dev) : (nodeDisable key d).flt.eccUncorr = d.flt.eccUncorr :=
  Dev.reportsTo_uncorr (foldl_stores (P := fun _ => True)
    (f := fun x i => releaseAs 1 (nodeSource key i) (nodeInBase (d.node key).cfg + i) x)
    (fun _ _ => Dev.stores_mono (releaseAs_stores ..) (fun _ _ => trivial)) (List.range (nodeIn (d.node key).cfg)) d).2.1

theorem nodeEn_disabled (n : Node) : nodeEn n.disabled.cfg = false := by
  unfold nodeEn Node.disabled
  rw [bit_and, bit_not _ (by omega), bit_putB _ _ (by omega)]
  simp

/-- A node that its damaged entry switches off, where it was on. -/
theorem nodeDisabled_holds (key : Nat) (d : Dev) :
    let b := if nodeEn (d.node key).cfg then nodeDisable key d else d
    d.onlyNodes b ∧ (∀ q, b.node q = if q = key ∧ nodeEn (d.node key).cfg = true then (d.node key).disabled else d.node q) ∧
      b.flt.eccUncorr = d.flt.eccUncorr := by
  cases hen : nodeEn (d.node key).cfg
  · exact ⟨Dev.onlyNodes_of_marks (Dev.marks_refl d), fun q => (if_neg fun h => Bool.noConfusion h.2).symm, rfl⟩
  · refine ⟨nodeDisable_onlyNodes key d, fun q => (nodeDisable_node key d q).trans ?_, nodeDisable_uncorr key d⟩
    exact if_congr (by simp) rfl rfl

/-- The state after a write of a node entry: the node's own table, from `b`, and what was marked since. -/
theorem nodesWritten_after {s : State} {areas : List Nat} {b c : Dev} (hb : s.dev.fresh0.onlyNodes b) (hm : b.marks c) :
    let t := s.after (rightsChanged (digestMark areas c))
    (∀ q, t.dev.node q = b.node q) ∧ (∀ p, t.dev.point p = c.point p) ∧
      s.frame t { s.dev with
        nodes := t.dev.nodes, flt := { s.dev.flt with eccUncorr := t.dev.flt.eccUncorr }
        ps := { s.dev.ps with points := t.dev.ps.points, alarms := t.dev.ps.alarms, subs := t.dev.ps.subs }
        ply := { s.dev.ply with digestDue := t.dev.ply.digestDue } } := by
  have hall := Dev.marks_trans hm (Dev.marks_trans (digestMark_marks areas c) (rightsChanged_marks _))
  have hp (p : Nat) : (rightsChanged (digestMark areas c)).point p = c.point p :=
    ((rightsChanged_stores _).1 p not_false).trans (digestMark_point ..)
  generalize rightsChanged (digestMark areas c) = a at hall hp ⊢
  refine ⟨fun q => ?_, fun p => ?_, onlyNodes_after (Dev.onlyNodes_trans hb (Dev.onlyNodes_of_marks hall))⟩
  · have hn : (s.after a).dev.nodes = a.nodes := by simp
    unfold Dev.node
    rw [hn, (Dev.marks_keeps hall).2.2.2.1]
  · simp only [State.after_objects]
    exact hp p

theorem nodeOff_node (key : Nat) (c : BitVec 256) (d : Dev) (q : Nat) : (d.nodeOff key c).node q =
    if q = key then { d.node key with cfg := c, st := .disabled } else d.node q := by
  unfold Dev.nodeOff
  rw [Dev.node_setNode]
  split
  · rw [nodeDisable_node, if_pos rfl]
    rfl
  · next h => rw [nodeDisable_node, if_neg h]

theorem nodeOff_after (s : State) (key : Nat) (c : BitVec 256) :
    let t := s.after (rightsChanged (digestMark (digestAreas 0x11) (s.dev.fresh0.nodeOff key c)))
    (∀ q, t.dev.node q = if q = key then { s.dev.node key with cfg := c, st := .disabled } else s.dev.node q) ∧
      (∀ i < nodeIn (s.dev.node key).cfg,
        let p := nodeInBase (s.dev.node key).cfg + i
        t.dev.point p = if (s.dev.point p).producedBy 1 (nodeSource key i) then (s.dev.point p).released s.dev.cal
          else s.dev.point p) ∧
      s.frame t { s.dev with
        nodes := t.dev.nodes, flt := { s.dev.flt with eccUncorr := t.dev.flt.eccUncorr }
        ps := { s.dev.ps with points := t.dev.ps.points, alarms := t.dev.ps.alarms, subs := t.dev.ps.subs }
        ply := { s.dev.ply with digestDue := t.dev.ply.digestDue } } := by
  have hb : s.dev.fresh0.onlyNodes (s.dev.fresh0.nodeOff key c) :=
    Dev.onlyNodes_trans (nodeDisable_onlyNodes key _) (setNode_onlyNodes ..)
  have hnode (q : Nat) : (s.dev.fresh0.nodeOff key c).node q =
    if q = key then { s.dev.node key with cfg := c, st := .disabled } else s.dev.node q := nodeOff_node key c s.dev.fresh0 q
  have hpt : ∀ i < nodeIn (s.dev.node key).cfg, (s.dev.fresh0.nodeOff key c).point (nodeInBase (s.dev.node key).cfg + i) = _ :=
    nodeDisable_points key s.dev.fresh0
  generalize s.dev.fresh0.nodeOff key c = b at hb hnode hpt ⊢
  obtain ⟨hn, hp, hf⟩ := nodesWritten_after (areas := digestAreas 0x11) hb (Dev.marks_refl b)
  exact ⟨fun q => (hn q).trans (hnode q), fun i hi => (hp _).trans (hpt i hi), hf⟩

theorem nodeOn_after (s : State) (key : Nat) (c : BitVec 256) :
    let t := s.after (rightsChanged (digestMark (digestAreas 0x11) (claimInputs key c (s.dev.fresh0.nodeFound key c))))
    (∀ q, t.dev.node q = if q = key then { s.dev.node key with cfg := c, st := .identifying, miss := 0 } else s.dev.node q) ∧
      (∀ i < nodeIn c, t.dev.point (nodeInBase c + i) =
        (s.dev.point (nodeInBase c + i)).claimed 1 (nodeSource key i) s.dev.cal) ∧
      s.frame t { s.dev with
        nodes := t.dev.nodes, flt := { s.dev.flt with eccUncorr := t.dev.flt.eccUncorr }
        ps := { s.dev.ps with points := t.dev.ps.points, alarms := t.dev.ps.alarms, subs := t.dev.ps.subs }
        ply := { s.dev.ply with digestDue := t.dev.ply.digestDue } } := by
  have hb : s.dev.fresh0.onlyNodes (s.dev.fresh0.nodeFound key c) := setNode_onlyNodes ..
  have hnode (q : Nat) : (s.dev.fresh0.nodeFound key c).node q =
    if q = key then { s.dev.node key with cfg := c, st := .identifying, miss := 0 } else s.dev.node q := Dev.node_setNode ..
  have hpt (p : Nat) : (s.dev.fresh0.nodeFound key c).point p = s.dev.point p := rfl
  have hcal : (s.dev.fresh0.nodeFound key c).cal = s.dev.cal := rfl
  generalize s.dev.fresh0.nodeFound key c = b at hb hnode hpt hcal ⊢
  have hclaim := claimInputs_point key c b
  obtain ⟨hn, hp, hf⟩ := nodesWritten_after (areas := digestAreas 0x11) hb (claimInputs_marks key c b)
  refine ⟨fun q => (hn q).trans (hnode q), fun i hi => ?_, hf⟩
  rw [hp, hclaim i hi, hpt, hcal]

section
variable {s : State} {k a : Nat} (hs : s.up) (hk : k < 16) (ha : a ≤ 254)
include hs hk ha

/-- A node switched on, seen on the state after it. -/
theorem nodeEnWrite_on (hw : (Instr.nodeEnWrite k a true).wellFormed = true) {c : BitVec 256}
    (hc : c = (s.dev.node (nodeKey k a)).cfg &&& ~~~(putB 256 38 true) ||| putB 256 38 true)
    (hen : nodeEn (s.dev.node (nodeKey k a)).cfg = false) (h : writeAdmitted (entryCmd 0x11 (nodeKey k a) 32 c.toNat) s) :
    Runs (.nodeEnWrite k a true) s (fun t =>
      (∀ q, t.dev.node q = if q = nodeKey k a then
        { s.dev.node (nodeKey k a) with cfg := c &&& nodeMask, st := .identifying, miss := 0 } else s.dev.node q) ∧
      (∀ i < nodeIn (c &&& nodeMask), t.dev.point (nodeInBase (c &&& nodeMask) + i) =
        (s.dev.point (nodeInBase (c &&& nodeMask) + i)).claimed 1 (nodeSource (nodeKey k a) i) s.dev.cal) ∧
      s.frame t { s.dev with
        nodes := t.dev.nodes, flt := { s.dev.flt with eccUncorr := t.dev.flt.eccUncorr }
        ps := { s.dev.ps with points := t.dev.ps.points, alarms := t.dev.ps.alarms, subs := t.dev.ps.subs }
        ply := { s.dev.ply with digestDue := t.dev.ply.digestDue } }) := by
  refine Runs.mainChecked (f := nodeEnWrite k a true) rfl hw hs ?_
  rw [nodeEnWrite_admitted hk ha hc h, nodeEntryWrite_on (d := s.dev.fresh0) hen (by rw [hc]; exact nodeEn_masked)]
  exact nodeOn_after s (nodeKey k a) (c &&& nodeMask)

/-- A node switched off, seen on the state after it. -/
theorem nodeEnWrite_off (hw : (Instr.nodeEnWrite k a false).wellFormed = true) {c : BitVec 256}
    (hc : c = (s.dev.node (nodeKey k a)).cfg &&& ~~~(putB 256 38 true) ||| putB 256 38 false)
    (hen : nodeEn (s.dev.node (nodeKey k a)).cfg = true) (h : writeAdmitted (entryCmd 0x11 (nodeKey k a) 32 c.toNat) s) :
    Runs (.nodeEnWrite k a false) s (fun t =>
      (∀ q, t.dev.node q = if q = nodeKey k a then
        { s.dev.node (nodeKey k a) with cfg := c &&& nodeMask, st := .disabled } else s.dev.node q) ∧
      (∀ i < nodeIn (s.dev.node (nodeKey k a)).cfg,
        let p := nodeInBase (s.dev.node (nodeKey k a)).cfg + i
        t.dev.point p = if (s.dev.point p).producedBy 1 (nodeSource (nodeKey k a) i) then (s.dev.point p).released s.dev.cal
          else s.dev.point p) ∧
      s.frame t { s.dev with
        nodes := t.dev.nodes, flt := { s.dev.flt with eccUncorr := t.dev.flt.eccUncorr }
        ps := { s.dev.ps with points := t.dev.ps.points, alarms := t.dev.ps.alarms, subs := t.dev.ps.subs }
        ply := { s.dev.ply with digestDue := t.dev.ply.digestDue } }) := by
  refine Runs.mainChecked (f := nodeEnWrite k a false) rfl hw hs ?_
  rw [nodeEnWrite_admitted hk ha hc h, nodeEntryWrite_off (d := s.dev.fresh0) hen (by rw [hc]; exact nodeEn_masked)]
  exact nodeOff_after s (nodeKey k a) (c &&& nodeMask)

omit hk ha in
/-- A damaged node entry, seen on the state after it. -/
theorem nodeMemory_after (hw : (Instr.nodeMemory k a).wellFormed = true) :
    Runs (.nodeMemory k a) s (fun t =>
      (∀ q, t.dev.node q = if q = nodeKey k a ∧ nodeEn (s.dev.node (nodeKey k a)).cfg = true then
        (s.dev.node (nodeKey k a)).disabled else s.dev.node q) ∧
      t.dev.flt.eccUncorr = satAdd s.dev.flt.eccUncorr 1 ∧
      s.frame t { s.dev with
        nodes := t.dev.nodes, flt := { s.dev.flt with eccUncorr := t.dev.flt.eccUncorr }
        ps := { s.dev.ps with points := t.dev.ps.points, alarms := t.dev.ps.alarms, subs := t.dev.ps.subs }
        ply := { s.dev.ply with digestDue := t.dev.ply.digestDue } }) := by
  refine Runs.mainChecked (f := nodeMemory (nodeKey k a)) rfl hw hs ?_
  obtain ⟨hb, hnode, hecc⟩ := nodeDisabled_holds (nodeKey k a) s.dev.fresh0
  have he : nodeMemory (nodeKey k a) s.dev.fresh0 = report (nodeEvent 0x0619 true (nodeKey k a) 0)
    (countUncorr (if nodeEn (s.dev.fresh0.node (nodeKey k a)).cfg then nodeDisable (nodeKey k a) s.dev.fresh0 else s.dev.fresh0)) := rfl
  rw [he]
  generalize (if nodeEn (s.dev.fresh0.node (nodeKey k a)).cfg then _ else _ : Dev) = b at hb hnode hecc ⊢
  have hm := Dev.marks_trans (countUncorr_marks b) (report_marks (nodeEvent 0x0619 true (nodeKey k a) 0) (countUncorr b))
  have hcnt := Dev.reportsTo_uncorr (report_reportsTo (nodeEvent 0x0619 true (nodeKey k a) 0) (countUncorr b))
  generalize report _ (countUncorr b) = a at hm hcnt ⊢
  refine ⟨fun q => ?_, ?_, onlyNodes_after (Dev.onlyNodes_trans hb (Dev.onlyNodes_of_marks hm))⟩
  · have hn : (s.after a).dev.nodes = a.nodes := by simp
    refine Eq.trans ?_ (hnode q)
    unfold Dev.node
    rw [hn, (Dev.marks_keeps hm).2.2.2.1]
  · have hf : (s.after a).dev.flt = a.flt := by simp
    rw [hf, hcnt]
    exact congrArg (fun x => satAdd x 1) hecc

end

/-- Settles O39. -/
theorem nodeEntries : Obligations.NodeEntries := by
  intro s k a hs hk h1 ha key n cfg only
  have hw (on : Bool) : (Instr.nodeEnWrite k a on).wellFormed = true := decide_eq_true ⟨hk, h1, ha⟩
  refine ⟨fun hen h => ?_, fun hen h => ?_, ?_⟩
  · refine (nodeEnWrite_on hs hk ha (hw true) rfl hen h).mono fun t ⟨hn, hp, hf⟩ => ?_
    refine ⟨⟨fun q hq => (hn q).trans (if_neg hq), hf⟩, (hn key).trans (if_pos rfl), fun i hi => ?_⟩
    dsimp only
    rw [hp i hi]
    exact Point.claimed_holds ..
  · refine (nodeEnWrite_off hs hk ha (hw false) rfl hen h).mono fun t ⟨hn, hp, hf⟩ => ?_
    refine ⟨⟨fun q hq => (hn q).trans (if_neg hq), hf⟩, (hn key).trans (if_pos rfl), fun i hi => ⟨fun hpr hq => ?_, fun hpr => ?_⟩⟩
    · rw [(hp i hi).trans (if_pos hpr)]
      exact Point.released_holds hq _
    · exact (hp i hi).trans (if_neg (by rw [show (s.dev.point _).producedBy 1 _ = false from hpr]; decide))
  · refine (nodeMemory_after hs (decide_eq_true ⟨hk, h1, ha⟩)).mono fun t ⟨hn, hc, hf⟩ => ?_
    refine ⟨⟨fun q hq => (hn q).trans (if_neg fun h => hq h.1), hf⟩, hc, ?_, fun hen => ?_, fun hen => ?_⟩
    · rw [hn]
      split
      · exact nodeEn_disabled _
      · next h => exact Bool.eq_false_iff.2 fun he => h ⟨rfl, he⟩
    · rw [(hn key).trans (if_pos ⟨rfl, hen⟩)]
      rfl
    · exact (hn key).trans (if_neg fun h => Bool.noConfusion (hen.symm.trans h.2))

end Sys2Proof.Machine
end

section
/-!
EN and MODE of a loop, following error, damaged record (R348, R351, R354, R356).
-/
namespace Sys2Proof.Machine

/-! ### Fields under a mask -/

theorem bit_maskOf {w lo n i : Nat} (hi : i < w) : bit (maskOf w [(lo, n)]) i = decide (lo ≤ i ∧ i < lo + n) := by
  unfold maskOf bit
  simp only [List.foldl_cons, List.foldl_nil, BitVec.zero_or, BitVec.getLsbD_shiftLeft, BitVec.getLsbD_setWidth,
    BitVec.getLsbD_allOnes]
  by_cases h : i < lo
  · simp [hi, h]
  · have h2 : (i - lo < n) ↔ i < lo + n := by omega
    have h3 : i - lo < w := by omega
    simp [hi, h, h2, h3, Nat.not_lt.1 h]

theorem bit_put {w lo n i : Nat} (v : BitVec n) (hi : i < w) : bit (put w lo v) i = (decide (lo ≤ i) && bit v (i - lo)) := by
  unfold put bit
  simp only [BitVec.getLsbD_shiftLeft, BitVec.getLsbD_setWidth]
  by_cases h : i < lo
  · simp [hi, h, Nat.not_le_of_lt h]
  · have h3 : i - lo < w := by omega
    simp [hi, h, h3, Nat.not_lt.1 h]

theorem bit_merge {w : Nat} (mask old new : BitVec w) {i : Nat} (hi : i < w) :
    bit (mergeBits mask old new) i = if bit mask i then bit new i else bit old i := by
  unfold mergeBits
  rw [bit_or, bit_and, bit_and, bit_not _ hi]
  cases bit mask i <;> simp

/-- A field is the bits at its place. -/
theorem fld_ext {w n : Nat} {x y : BitVec w} {lo : Nat} (h : ∀ i < n, bit x (lo + i) = bit y (lo + i)) :
    fld x lo n = fld y lo n := by
  apply BitVec.eq_of_getLsbD_eq
  intro i hi
  simp only [fld, BitVec.getLsbD_extractLsb', hi, decide_true, Bool.true_and]
  exact h i hi

/-- A field that a write replaces. -/
theorem fld_merge_self {w lo n : Nat} (x : BitVec w) (v : BitVec n) (h : lo + n ≤ w) :
    fld (mergeBits (maskOf w [(lo, n)]) x (put w lo v)) lo n = v := by
  rw [← fld_put_self (w := w) (lo := lo) v h]
  refine fld_ext fun i hi => ?_
  rw [bit_merge _ _ _ (by omega), bit_maskOf (by omega), fld_put_self v h]
  simp [hi]

theorem bit_merge_other {w lo n i : Nat} (x : BitVec w) (v : BitVec n) (hi : i < w) (h : i < lo ∨ lo + n ≤ i) :
    bit (mergeBits (maskOf w [(lo, n)]) x (put w lo v)) i = bit x i := by
  rw [bit_merge _ _ _ hi, bit_maskOf hi, if_neg]
  simp only [decide_eq_true_eq]
  omega

theorem fld_merge_other {w lo n lo' n' : Nat} (x : BitVec w) (v : BitVec n) (hw : lo' + n' ≤ w)
    (h : lo' + n' ≤ lo ∨ lo + n ≤ lo') : fld (mergeBits (maskOf w [(lo, n)]) x (put w lo v)) lo' n' = fld x lo' n' :=
  fld_ext fun i hi => bit_merge_other x v (by omega) (by omega)

/-- A field within the mask of what a write takes. -/
theorem fld_masked {w lo n lo' n' : Nat} (x : BitVec w) (hw : lo + n ≤ w) (h : lo ≤ lo' ∧ lo' + n' ≤ lo + n) :
    fld (x &&& maskOf w [(lo, n)]) lo' n' = fld x lo' n' :=
  fld_ext fun i hi => by
    rw [bit_and, bit_maskOf (by omega)]
    simp only [show lo ≤ lo' + i ∧ lo' + i < lo + n by omega, decide_true, Bool.and_true, true_and]

theorem bit_masked {w lo n i : Nat} (x : BitVec w) (hw : lo + n ≤ w) (h : lo ≤ i ∧ i < lo + n) :
    bit (x &&& maskOf w [(lo, n)]) i = bit x i := by
  rw [bit_and, bit_maskOf (by omega)]
  simp [h]

/-! ### What a loop's step leaves -/

/-- The module with other loops and current loops. -/
def Dev.withLoops (d : Dev) (x : LoopEngine) (y : Tbl CLoop) : Dev := { d with lp := x, cl := y }

/-- From `d` to `d'` loops and current loops have changed, and what a unit marks. -/
def Dev.onlyLoops (d d' : Dev) : Prop := (d.withLoops d'.lp d'.cl).marks d'

theorem Dev.onlyLoops_of_marks {a b : Dev} (h : a.marks b) : a.onlyLoops b := by
  unfold Dev.onlyLoops
  obtain ⟨-, hlp, hcl, -⟩ := Dev.marks_keeps h
  rw [hlp, hcl]
  exact h

theorem Dev.marks_withLoops {a b : Dev} (h : a.marks b) (x : LoopEngine) (y : Tbl CLoop) :
    (a.withLoops x y).marks (b.withLoops x y) := by
  obtain ⟨hr, he⟩ := h
  exact ⟨Dev.reportsTo_congr (Dev.reportsTo_trans hr (Dev.reportsTo_of_eq rfl rfl rfl)) rfl rfl rfl, by rw [he]; rfl⟩

theorem Dev.onlyLoops_refl (d : Dev) : d.onlyLoops d := Dev.onlyLoops_of_marks (Dev.marks_refl d)

theorem Dev.onlyLoops_trans {a b c : Dev} (h1 : a.onlyLoops b) (h2 : b.onlyLoops c) : a.onlyLoops c :=
  Dev.marks_trans (Dev.marks_withLoops h1 c.lp c.cl) h2

theorem Dev.setLoop_cl (d : Dev) (j : Nat) (x : Loop) : (d.setLoop j x).cl = d.cl := by simp
theorem Dev.setLoop_ps (d : Dev) (j : Nat) (x : Loop) : (d.setLoop j x).ps = d.ps := by simp
theorem Dev.setLoop_flt (d : Dev) (j : Nat) (x : Loop) : (d.setLoop j x).flt = d.flt := by simp

theorem Dev.point_setLoop (d : Dev) (j : Nat) (x : Loop) (p : Nat) : (d.setLoop j x).point p = d.point p := by
  unfold Dev.point
  rw [Dev.setLoop_ps]

theorem setLoop_onlyLoops (j : Nat) (x : Loop) (d : Dev) : d.onlyLoops (d.setLoop j x) := Dev.marks_refl _

theorem setCloop_onlyLoops (k : Nat) (x : CLoop) (d : Dev) : d.onlyLoops (d.setCloop k x) := Dev.marks_refl _

/-- The state after a step of loops. -/
theorem onlyLoops_after {s : State} {a : Dev} (h : s.dev.fresh0.onlyLoops a) :
    let t := s.after a
    s.frame t { s.dev with
      lp := t.dev.lp, cl := t.dev.cl, flt := { s.dev.flt with eccUncorr := t.dev.flt.eccUncorr }
      ps := { s.dev.ps with points := t.dev.ps.points, alarms := t.dev.ps.alarms, subs := t.dev.ps.subs }
      ply := { s.dev.ply with digestDue := t.dev.ply.digestDue } } := by
  have hn : (s.after a).dev.lp = a.lp := by simp
  have hc : (s.after a).dev.cl = a.cl := by simp
  dsimp only
  rw [hn, hc]
  exact marks_after (b := s.dev.fresh0.withLoops a.lp a.cl) h rfl

/-! ### Reports of a loop (R361) -/

/-- The following errors counted with one event more (R354). -/
def LoopEv.countFe (e : LoopEv) (n : BitVec 32) : BitVec 32 := if e.code = 0x0804 then satAdd n 1 else n

theorem loopReport_holds (j : Nat) (e : LoopEv) (d : Dev) : d.onlyLoops (loopReport j e d) ∧
    (loopReport j e d).lp.loops = d.lp.loops ∧ (loopReport j e d).cl = d.cl ∧ (loopReport j e d).ps = d.ps ∧
    (loopReport j e d).lp.feCnt = e.countFe d.lp.feCnt ∧ (loopReport j e d).flt.eccUncorr = d.flt.eccUncorr := by
  have hfe : e.countFe d.lp.feCnt = if e.code = 0x0804 then satAdd d.lp.feCnt 1 else d.lp.feCnt := rfl
  rw [hfe]
  unfold loopReport
  dsimp only
  generalize hb : Dev.mk .. = b
  have h1 : d.onlyLoops b := by
    rw [← hb]
    exact Dev.marks_refl _
  have hlp : b.lp.loops = d.lp.loops ∧ b.cl = d.cl ∧ b.ps = d.ps ∧
      b.lp.feCnt = (if e.code = 0x0804 then satAdd d.lp.feCnt 1 else d.lp.feCnt) ∧ b.flt.eccUncorr = d.flt.eccUncorr := by
    rw [← hb]
    exact ⟨rfl, rfl, rfl, rfl, rfl⟩
  obtain ⟨p1, p2, p3, p4, p5⟩ := hlp
  rw [← p1, ← p2, ← p3, ← p4, ← p5]
  split
  · have hr := reportLimited_reportsTo j 1 (ev e.code (loopCodeFault e.code) j e.data) b
    have ho := reportLimited_reportsOnly j 1 (ev e.code (loopCodeFault e.code) j e.data) b
    unfold Dev.reportsOnly at ho
    generalize reportLimited j 1 (ev e.code (loopCodeFault e.code) j e.data) b = c at hr ho ⊢
    have hm : b.marks c := Dev.marks_of_reportsTo hr (by rw [ho])
    refine ⟨Dev.onlyLoops_trans h1 (Dev.onlyLoops_of_marks hm), ?_, ?_, ?_, ?_, Dev.reportsTo_uncorr hr⟩ <;> rw [ho]
  · have hr := report_reportsTo (ev e.code (loopCodeFault e.code) j e.data) b
    refine ⟨Dev.onlyLoops_trans h1 (Dev.onlyLoops_of_marks (report_marks ..)), ?_, ?_, ?_, ?_, Dev.reportsTo_uncorr hr⟩ <;> simp

theorem loopReports_holds (j : Nat) (es : List LoopEv) (d : Dev) :
    let d' := es.foldl (fun d e => loopReport j e d) d
    d.onlyLoops d' ∧ d'.lp.loops = d.lp.loops ∧ d'.cl = d.cl ∧ d'.ps = d.ps ∧
      d'.lp.feCnt = es.foldl (fun n e => e.countFe n) d.lp.feCnt ∧ d'.flt.eccUncorr = d.flt.eccUncorr := by
  induction es generalizing d with
  | nil => exact ⟨Dev.onlyLoops_refl d, rfl, rfl, rfl, rfl, rfl⟩
  | cons e es ih =>
    obtain ⟨h1, h2, h3, h4, h5, h6⟩ := loopReport_holds j e d
    obtain ⟨i1, i2, i3, i4, i5, i6⟩ := ih (loopReport j e d)
    refine ⟨Dev.onlyLoops_trans h1 i1, i2.trans h2, i3.trans h3, i4.trans h4, i5.trans ?_, i6.trans h6⟩
    rw [h5]
    rfl

theorem Dev.loop_of_loops {d d' : Dev} (h : d'.lp.loops = d.lp.loops) (m : Nat) : d'.loop m = d.loop m := by
  unfold Dev.loop
  rw [h]

/-- A loop stored and its events reported, seen on the state after it. -/
theorem loopPut_after (s : State) (j : Nat) (r : Loop × List LoopEv) :
    let t := s.after (loopPut j r s.dev.fresh0)
    (∀ m, t.dev.loop m = if m = j then r.1 else s.dev.loop m) ∧ t.dev.ps = s.dev.ps ∧ t.dev.cl = s.dev.cl ∧
      t.dev.lp.feCnt = r.2.foldl (fun n e => e.countFe n) s.dev.lp.feCnt ∧ s.frame t { s.dev with
        lp := t.dev.lp, cl := t.dev.cl, flt := { s.dev.flt with eccUncorr := t.dev.flt.eccUncorr }
        ps := { s.dev.ps with points := t.dev.ps.points, alarms := t.dev.ps.alarms, subs := t.dev.ps.subs }
        ply := { s.dev.ply with digestDue := t.dev.ply.digestDue } } := by
  obtain ⟨h1, h2, h3, h4, h5, -⟩ := loopReports_holds j r.2 (s.dev.fresh0.setLoop j r.1)
  have he : loopPut j r s.dev.fresh0 = r.2.foldl (fun d e => loopReport j e d) (s.dev.fresh0.setLoop j r.1) := rfl
  rw [he]
  generalize r.2.foldl (fun d e => loopReport j e d) (s.dev.fresh0.setLoop j r.1) = a at h1 h2 h3 h4 h5 ⊢
  have hlp : (s.after a).dev.lp = a.lp := by simp
  have hps : (s.after a).dev.ps = a.ps := by simp
  have hcl : (s.after a).dev.cl = a.cl := by simp
  refine ⟨fun m => ?_, hps.trans h4, hcl.trans h3, ?_, onlyLoops_after (Dev.onlyLoops_trans (setLoop_onlyLoops ..) h1)⟩
  · exact (Dev.loop_of_loops (d := s.dev.fresh0.setLoop j r.1) (by rw [hlp]; exact h2) m).trans (Dev.loop_setLoop ..)
  · rw [hlp]
    exact h5

/-! ### The following error (R354) -/

/-- The loop after the reaction to a following error, and what it counts. -/
theorem loopFeReact_holds (l : Loop) (pv : Int) (n : BitVec 32) :
    let r := loopFeReact l pv
    r.1.feActive = true ∧ r.1.feTmr = (if l.feAction = 1 then 0 else BitVec.ofNat 16 l.feTime) ∧ r.1.outLast = l.outLast ∧
      r.2.foldl (fun n e => e.countFe n) n = satAdd n 1 ∧
      (l.feAction = 1 → r.1.st = .manual ∧ r.1.mode = 0 ∧ r.1.uf 672 32 = l.outLast.toNat) ∧
      (l.feAction = 2 → r.1.st = .faulted ∧ r.1.lastFault = 1) ∧
      (l.feAction ≠ 1 → l.feAction ≠ 2 → r.1.st = l.st) := by
  have hact : ({ l with feTmr := BitVec.ofNat 16 l.feTime, feActive := true } : Loop).feAction = l.feAction := rfl
  unfold loopFeReact
  dsimp only
  rw [hact]
  split
  · next h =>
    refine ⟨rfl, (if_pos h).symm, rfl, rfl, fun _ => ⟨rfl, ?_, ?_⟩, fun h2 => ?_, fun h1 => absurd h h1⟩
    · unfold Loop.mode Loop.uf Loop.setCfg
      dsimp only
      rw [fld_merge_other _ _ (by omega) (by omega), fld_merge_self _ _ (by omega)]
      rfl
    · unfold Loop.uf Loop.setCfg
      dsimp only
      rw [fld_merge_self _ _ (by omega)]
    · omega
  · next h =>
    exact ⟨rfl, (if_neg (by omega)).symm, rfl, rfl, fun h1 => by omega, fun _ => ⟨rfl, rfl⟩, fun _ h2 => absurd h h2⟩
  · next h1 h2 =>
    exact ⟨rfl, (if_neg h1).symm, rfl, rfl, fun h => absurd h h1, fun h => absurd h h2, fun _ _ => rfl⟩

/-! ### A damaged record (R96, R348, R356, R415) -/

/-- The points that a source word names, all BAD with one detail. -/
theorem foldl_produceQ_all (det : BitVec 8) (ps : List Nat) (d : Dev) {p : Nat} (hp : p ∈ ps)
    (hq : (d.point p).quarantined = false) (hs : (d.point p).subst = false) :
    ((ps.foldl (fun d p => produceQ p 2 det d.cal d) d).point p).quality = 2 ∧
      ((ps.foldl (fun d p => produceQ p 2 det d.cal d) d).point p).detail = det :=
  foldl_reaches (key := id) (Pre := fun x => x.quarantined = false ∧ x.subst = false)
    (Good := fun x => x.quality = 2 ∧ x.detail = det) (fun _ _ => produceQ_stores ..) (fun _ _ => produceQ_marks) ps d
    ⟨hq, hs⟩ (.inl (by simpa using hp))

/-- Points given up by their producer. -/
theorem foldl_releasePoint (ps : List Nat) (d : Dev) {p : Nat} (hp : p ∈ ps) (hq : (d.point p).quarantined = false) :
    ((ps.foldl (fun d p => releasePoint p d) d).point p).srcKind = 0 ∧
      ((ps.foldl (fun d p => releasePoint p d) d).point p).quality = 3 :=
  foldl_reaches (key := id) (Pre := fun x => x.quarantined = false) (Good := fun x => x.srcKind = 0 ∧ x.quality = 3)
    (fun _ _ => releasePoint_stores ..)
    (fun d p h => by
      have h : (d.point p).quarantined = false := h
      rw [id, releasePoint_released]
      refine ⟨?_, Point.released_holds h _⟩
      unfold Point.released
      rw [if_neg (by rw [h]; decide)]
      exact (Point.stored_keeps ..).2.2.2.2.2.2.2.2.1.trans h) ps d hq (.inl (by simpa using hp))

/-- A channel that a BAD source drives: at its failsafe, or at its last value where that holds (R415). -/
def CLoop.sourceBad (c : CLoop) : CLoop :=
  if !c.isOutput then c else if c.fsHold && c.spEver then { c with clamped := false }
  else { c with spAct := BitVec.ofNat 32 c.fsUa, clamped := false }

theorem clSetpoint_bad (k : Nat) (v : Int) (d : Dev) : (∀ c, (clSetpoint k v 2 d).cloop c =
      if c = k then (d.cloop k).sourceBad else d.cloop c) ∧ d.onlyLoops (clSetpoint k v 2 d) ∧
    (clSetpoint k v 2 d).ps = d.ps ∧ (clSetpoint k v 2 d).flt = d.flt ∧ (clSetpoint k v 2 d).lp = d.lp := by
  unfold clSetpoint CLoop.sourceBad
  dsimp only
  have hu : qUsable 2 = false := rfl
  rw [hu]
  split
  · refine ⟨fun c => ?_, Dev.onlyLoops_refl d, rfl, rfl, rfl⟩
    split
    · next h => rw [h]
    · rfl
  · rw [if_neg (by decide)]
    split
    · exact ⟨fun c => Dev.cloop_setCloop .., setCloop_onlyLoops .., rfl, rfl, rfl⟩
    · exact ⟨fun c => Dev.cloop_setCloop .., setCloop_onlyLoops .., rfl, rfl, rfl⟩

/-- The failsafe of a channel that a damaged loop drove, where it drove one. -/
def driveLost (ch : Option Nat) (v : Int) (d : Dev) : Dev :=
  match ch with
  | some c => clSetpoint c v 2 d
  | none => d

theorem driveLost_holds (ch : Option Nat) (v : Int) (d : Dev) :
    (∀ c, (driveLost ch v d).cloop c = if ch = some c then (d.cloop c).sourceBad else d.cloop c) ∧ d.onlyLoops (driveLost ch v d) ∧
    (driveLost ch v d).ps = d.ps ∧ (driveLost ch v d).flt = d.flt ∧ (driveLost ch v d).lp = d.lp := by
  unfold driveLost
  cases ch with
  | none => exact ⟨fun c => (if_neg nofun).symm, Dev.onlyLoops_refl d, rfl, rfl, rfl⟩
  | some k =>
    obtain ⟨h1, h2⟩ := clSetpoint_bad k v d
    refine ⟨fun c => (h1 c).trans ?_, h2⟩
    by_cases h : c = k
    · rw [if_pos h, if_pos (by rw [h]), h]
    · rw [if_neg h, if_neg fun hc => h (Option.some.inj hc).symm]

/-- The record of a damaged loop. -/
def Loop.damaged (l : Loop) (ch : Option Nat) : Loop := { l with
  cfg := loopCfgReset ||| putB 1024 220 true, st := .faulted, lastFault := 3, out := none, lostCl := ch }

/-- A damaged loop's points. -/
def loopBad (j : Nat) (d : Dev) : Dev := (d.loopPoints j).foldl (fun d p => produceQ p 2 0x0E d.cal d) (countUncorr d)

theorem loopMemory_eq {j : Nat} {d : Dev} {l : Loop} {ch : Option Nat} (hl : d.loop j = l) (h : l.st ≠ .disabled)
    (hch : ch = if isFast j then l.drives else none) : loopMemory j d =
      loopPut j (l.damaged ch, [⟨0x0806, 0, false⟩, ⟨0x0807, 3, false⟩]) (driveLost ch l.outLast.toInt (loopBad j d)) := by
  subst hl
  unfold loopMemory loopPut Loop.damaged loopBad
  dsimp only
  rw [if_neg h]
  simp only [List.foldl_cons, List.foldl_nil]
  rw [← hch]
  unfold driveLost
  cases ch <;> rfl

theorem loopBad_marks (j : Nat) (d : Dev) : d.marks (loopBad j d) :=
  Dev.marks_trans (countUncorr_marks d) (foldl_marks (fun _ _ => Dev.marks_of_stores (produceQ_stores ..)) _ _)

theorem loopBad_uncorr (j : Nat) (d : Dev) : (loopBad j d).flt.eccUncorr = satAdd d.flt.eccUncorr 1 :=
  Dev.reportsTo_uncorr (foldl_stores (P := fun _ => True) (f := fun d p => produceQ p 2 0x0E d.cal d)
    (fun _ _ => Dev.stores_mono (produceQ_stores ..) (fun _ _ => trivial)) (d.loopPoints j) (countUncorr d)).2.1

/-- A damaged loop, seen on the state after it. -/
theorem loopMemory_after (s : State) {j : Nat} (h : (s.dev.loop j).st ≠ .disabled) :
    let t := s.after (loopMemory j s.dev.fresh0)
    let ch := if isFast j then (s.dev.loop j).drives else none
    (∀ m, t.dev.loop m = if m = j then (s.dev.loop j).damaged ch else s.dev.loop m) ∧
      (∀ c, t.dev.cloop c = if ch = some c then (s.dev.cloop c).sourceBad else s.dev.cloop c) ∧
      t.dev.flt.eccUncorr = satAdd s.dev.flt.eccUncorr 1 ∧
      (∀ p ∈ s.dev.loopPoints j, (s.dev.point p).quarantined = false → (s.dev.point p).subst = false →
        (t.dev.point p).quality = 2 ∧ (t.dev.point p).detail = 0x0E) ∧ s.frame t { s.dev with
        lp := t.dev.lp, cl := t.dev.cl, flt := { s.dev.flt with eccUncorr := t.dev.flt.eccUncorr }
        ps := { s.dev.ps with points := t.dev.ps.points, alarms := t.dev.ps.alarms, subs := t.dev.ps.subs }
        ply := { s.dev.ply with digestDue := t.dev.ply.digestDue } } := by
  intro t ch
  have ht : t = s.after (loopMemory j s.dev.fresh0) := rfl
  rw [loopMemory_eq (d := s.dev.fresh0) (l := s.dev.loop j) (ch := ch) rfl h rfl] at ht
  have hbad (p : Nat) (hp : p ∈ s.dev.loopPoints j) (hq : (s.dev.point p).quarantined = false)
      (hs : (s.dev.point p).subst = false) : ((loopBad j s.dev.fresh0).point p).quality = 2 ∧
      ((loopBad j s.dev.fresh0).point p).detail = 0x0E :=
    foldl_produceQ_all 0x0E (s.dev.loopPoints j) (countUncorr s.dev.fresh0) hp hq hs
  have hm := loopBad_marks j s.dev.fresh0
  have hu := loopBad_uncorr j s.dev.fresh0
  generalize loopBad j s.dev.fresh0 = b at hbad hm hu ht
  obtain ⟨hcl, ho, hps, hflt, hlp⟩ := driveLost_holds ch (s.dev.loop j).outLast.toInt b
  generalize driveLost ch (s.dev.loop j).outLast.toInt b = c at hcl ho hps hflt hlp ht
  obtain ⟨r1, r2, r3, r4, -, r6⟩ := loopReports_holds j [⟨0x0806, 0, false⟩, ⟨0x0807, 3, false⟩]
    (c.setLoop j ((s.dev.loop j).damaged ch))
  have he : loopPut j ((s.dev.loop j).damaged ch, [⟨0x0806, 0, false⟩, ⟨0x0807, 3, false⟩]) c =
    [⟨0x0806, 0, false⟩, ⟨0x0807, 3, false⟩].foldl (fun d e => loopReport j e d) (c.setLoop j ((s.dev.loop j).damaged ch)) := rfl
  rw [he] at ht
  generalize [⟨0x0806, 0, false⟩, ⟨0x0807, 3, false⟩].foldl (fun d e => loopReport j e d) (c.setLoop j ((s.dev.loop j).damaged ch)) = a
    at r1 r2 r3 r4 r6 ht
  have hall : s.dev.fresh0.onlyLoops a := Dev.onlyLoops_trans (Dev.onlyLoops_of_marks hm) (Dev.onlyLoops_trans ho
    (Dev.onlyLoops_trans (setLoop_onlyLoops ..) r1))
  obtain ⟨-, mlp, mcl, -⟩ := Dev.marks_keeps hm
  have tlp : t.dev.lp = a.lp := by rw [ht]; simp
  have tps : t.dev.ps = a.ps := by rw [ht]; simp
  have tcl : t.dev.cl = a.cl := by rw [ht]; simp
  have tflt : t.dev.flt = a.flt := by rw [ht]; simp
  refine ⟨fun m => ?_, fun k => ?_, ?_, fun p hp hq hs => ?_, ?_⟩
  · refine (Dev.loop_of_loops (d := c.setLoop j ((s.dev.loop j).damaged ch)) (by rw [tlp]; exact r2) m).trans
      ((Dev.loop_setLoop ..).trans ?_)
    refine if_congr Iff.rfl rfl ?_
    exact Dev.loop_of_loops (d := s.dev) (by rw [hlp, mlp]; rfl) m
  · have hac : a.cl = c.cl := by rw [r3, Dev.setLoop_cl]
    have h1 : t.dev.cloop k = c.cloop k := congrArg (fun x => tget CLoop.reset x k) (tcl.trans hac)
    have h2 : b.cloop k = s.dev.cloop k := congrArg (fun x => tget CLoop.reset x k) mcl
    rw [h1, hcl, h2]
  · rw [tflt, r6, Dev.setLoop_flt]
    exact (congrArg FaultRegs.eccUncorr hflt).trans hu
  · have h1 : t.dev.point p = b.point p := by
      unfold Dev.point
      rw [tps, r4, Dev.setLoop_ps]
      exact congrArg (fun x => tget Point.reset x.points p) hps
    rw [h1]
    exact hbad p hp hq hs
  · rw [ht]
    exact onlyLoops_after hall

/-! ### EN and MODE (R348, R351) -/

theorem entryWrite_loop (j : Nat) (c : BitVec 1024) (d : Dev) :
    entryWrite 0x30 j (c.setWidth 2048) d = digestMark (digestAreas 0x30) (loopEntryWrite j c d) := by
  have h : entryWrite 0x30 j (c.setWidth 2048) d =
      digestMark (digestAreas 0x30) (loopEntryWrite j (fld (c.setWidth 2048) 0 1024) d) := rfl
  rw [h, fld_image c (by omega)]

theorem loopWrite_admitted {s : State} {j : Nat} {c : BitVec 1024} (hj : j < 2112)
    (h : writeAdmitted (entryCmd 0x30 j 128 c.toNat) s) : directWrite (entryCmd 0x30 j 128 c.toNat) s.dev.fresh0 =
      rightsChanged (digestMark (digestAreas 0x30) (loopEntryWrite j c s.dev.fresh0)) := by
  have hrow : ∃ r, spaceRow 0x30 = some r ∧ r.size = 128 := ⟨_, rfl, rfl⟩
  obtain ⟨r, hr, hz⟩ := hrow
  rw [entryWrite_admitted c hr hz (by decide) (by omega) rfl h, entryWrite_loop]

/-- The state after a write of a loop record: the loops of `b`, and what was marked since. -/
theorem loopsWritten_after {s : State} {areas : List Nat} {b c : Dev} (hb : s.dev.fresh0.onlyLoops b) (hm : b.marks c) :
    let t := s.after (rightsChanged (digestMark areas c))
    (∀ q, t.dev.loop q = b.loop q) ∧ (∀ p, t.dev.point p = c.point p) ∧ s.frame t { s.dev with
      lp := t.dev.lp, cl := t.dev.cl, flt := { s.dev.flt with eccUncorr := t.dev.flt.eccUncorr }
      ps := { s.dev.ps with points := t.dev.ps.points, alarms := t.dev.ps.alarms, subs := t.dev.ps.subs }
      ply := { s.dev.ply with digestDue := t.dev.ply.digestDue } } := by
  have hall := Dev.marks_trans hm (Dev.marks_trans (digestMark_marks areas c) (rightsChanged_marks _))
  have hp (p : Nat) : (rightsChanged (digestMark areas c)).point p = c.point p :=
    ((rightsChanged_stores _).1 p not_false).trans (digestMark_point ..)
  generalize rightsChanged (digestMark areas c) = a at hall hp ⊢
  refine ⟨fun q => ?_, fun p => ?_, onlyLoops_after (Dev.onlyLoops_trans hb (Dev.onlyLoops_of_marks hall))⟩
  · have hn : (s.after a).dev.lp = a.lp := by simp
    unfold Dev.loop
    rw [hn, (Dev.marks_keeps hall).2.1]
  · simp only [State.after_objects]
    exact hp p

theorem bit_loopMask {c : BitVec 1024} {i : Nat} (h : 220 ≤ i ∧ i < 736) : bit (c &&& loopMask) i = bit c i :=
  bit_masked c (by omega) h

theorem fld_loopMask {c : BitVec 1024} {lo n : Nat} (h : 220 ≤ lo ∧ lo + n ≤ 736) : fld (c &&& loopMask) lo n = fld c lo n :=
  fld_masked c (by omega) h

theorem loopEntryWrite_on {j : Nat} {c : BitVec 1024} {d : Dev} (h : (d.loop j).en = false) (hc : bit c 220 = true) :
    loopEntryWrite j c d = claimPoint 3 j { Loop.reset with cfg := c &&& loopMask }.outPt
      (d.setLoop j { Loop.reset with cfg := c &&& loopMask, st := .init }) := by
  unfold loopEntryWrite
  dsimp only
  rw [if_pos ((bit_loopMask (by omega)).trans hc), if_neg (by rw [h]; decide)]

theorem loopEntryWrite_off {j : Nat} {c : BitVec 1024} {d : Dev} (hc : bit c 220 = false) : loopEntryWrite j c d =
    ((d.loopPoints j).foldl (fun d p => releasePoint p d) d).setLoop j { Loop.reset with cfg := c &&& loopMask } := by
  unfold loopEntryWrite
  dsimp only
  rw [if_neg (by rw [bit_loopMask (by omega), hc]; decide)]

/-- An enabled loop with another entry, before the effect of a change of MODE. -/
def Loop.rewritten (l : Loop) (c : BitVec 1024) : Loop :=
  { l with cfg := c &&& loopMask, backCalc := l.backCalc || (((c &&& loopMask) ^^^ l.cfg) &&& loopRetune) != 0 }

theorem loopEntryWrite_kept {j : Nat} {c : BitVec 1024} {d : Dev} (h : (d.loop j).en = true) (hc : bit c 220 = true) :
    loopEntryWrite j c d = d.setLoop j (loopModeWritten (d.loop j) ((d.loop j).rewritten c)) := by
  unfold loopEntryWrite
  dsimp only
  rw [if_pos ((bit_loopMask (by omega)).trans hc), if_pos h]
  rfl

/-- A loop put into MANUAL: bumpless, MAN_OUT takes the last output (R351). -/
theorem loopModeWritten_manual {l n : Loop} (hm : l.mode = 1) (hn : n.mode = 0) (ho : n.manOut = l.manOut)
    (hst : n.st = .auto ∨ n.st = .hold) : loopModeWritten l n =
      { n.setCfg 672 32 l.outLast with st := .manual, holdCnt := 0, feTmr := 0 } := by
  unfold loopModeWritten
  dsimp only
  rw [if_pos ⟨hm, hn⟩, if_pos ho]
  exact if_pos hst

/-- A loop put into AUTO: it computes back from its output (R351). -/
theorem loopModeWritten_auto {l n : Loop} (hm : l.mode = 0) (hn : n.mode = 1) (hst : n.st = .manual) :
    loopModeWritten l n = { n with st := .auto, backCalc := true } := by
  unfold loopModeWritten
  rw [if_neg (by omega), if_pos ⟨hm, hn, hst⟩]

/-- A loop rewritten with another MODE alone. -/
theorem Loop.rewritten_mode (l : Loop) (v : BitVec 2) : (l.rewritten (l.setCfg 225 2 v).cfg).mode = v.toNat ∧
    (l.rewritten (l.setCfg 225 2 v).cfg).manOut = l.manOut ∧ bit (l.setCfg 225 2 v).cfg 220 = l.en := by
  unfold Loop.rewritten Loop.mode Loop.manOut Loop.uf Loop.sf Loop.setCfg Loop.en Loop.bf
  dsimp only
  rw [fld_loopMask (by omega), fld_loopMask (by omega), fld_merge_self _ _ (by omega), fld_merge_other _ _ (by omega) (by omega),
    bit_merge_other _ _ (by omega) (by omega)]
  exact ⟨rfl, rfl, rfl⟩

section
variable {s : State} {j : Nat} (hs : s.up) (hj : j < 2112)
include hs hj

theorem loopEnWrite_on {c : BitVec 1024} (hc : c = (s.dev.loop j).cfg &&& ~~~(putB 1024 220 true) ||| putB 1024 220 true)
    (hen : (s.dev.loop j).en = false) (h : writeAdmitted (entryCmd 0x30 j 128 c.toNat) s) :
    Runs (.loopEnWrite j true) s (fun t =>
      (∀ m, t.dev.loop m = if m = j then { Loop.reset with cfg := c &&& loopMask, st := .init } else s.dev.loop m) ∧
      (t.dev.point { Loop.reset with cfg := c &&& loopMask }.outPt).srcKind = 3 ∧
      (t.dev.point { Loop.reset with cfg := c &&& loopMask }.outPt).srcIndex = BitVec.ofNat 28 j ∧ s.frame t { s.dev with
        lp := t.dev.lp, cl := t.dev.cl, flt := { s.dev.flt with eccUncorr := t.dev.flt.eccUncorr }
        ps := { s.dev.ps with points := t.dev.ps.points, alarms := t.dev.ps.alarms, subs := t.dev.ps.subs }
        ply := { s.dev.ply with digestDue := t.dev.ply.digestDue } }) := by
  refine Runs.mainChecked (f := loopEnWrite j true) rfl (decide_eq_true hj) hs ?_
  have he : loopEnWrite j true s.dev.fresh0 = directWrite (entryCmd 0x30 j 128 c.toNat) s.dev.fresh0 := by
    rw [hc]
    rfl
  rw [he, loopWrite_admitted hj h, loopEntryWrite_on (d := s.dev.fresh0) hen (by rw [hc]; exact bit_enable _ (by omega) _)]
  have hb := setLoop_onlyLoops j { Loop.reset with cfg := c &&& loopMask, st := .init } s.dev.fresh0
  have hl (m : Nat) := Dev.loop_setLoop s.dev.fresh0 j m { Loop.reset with cfg := c &&& loopMask, st := .init }
  generalize s.dev.fresh0.setLoop j _ = b at hb hl ⊢
  generalize { Loop.reset with cfg := c &&& loopMask }.outPt = p
  obtain ⟨h1, h2, h3⟩ := loopsWritten_after (areas := digestAreas 0x30) hb (Dev.marks_of_stores (claimPoint_stores 3 j p b))
  refine ⟨fun m => (h1 m).trans (hl m), ?_, ?_, h3⟩
  · rw [h2, claimPoint_claimed]
    exact (Point.claimed_holds ..).1
  · rw [h2, claimPoint_claimed]
    exact (Point.claimed_holds ..).2.1

theorem loopEnWrite_off {c : BitVec 1024} (hc : c = (s.dev.loop j).cfg &&& ~~~(putB 1024 220 true) ||| putB 1024 220 false)
    (h : writeAdmitted (entryCmd 0x30 j 128 c.toNat) s) :
    Runs (.loopEnWrite j false) s (fun t =>
      (∀ m, t.dev.loop m = if m = j then { Loop.reset with cfg := c &&& loopMask } else s.dev.loop m) ∧
      (∀ p ∈ s.dev.loopPoints j, (s.dev.point p).quarantined = false →
        (t.dev.point p).srcKind = 0 ∧ (t.dev.point p).quality = 3) ∧ s.frame t { s.dev with
        lp := t.dev.lp, cl := t.dev.cl, flt := { s.dev.flt with eccUncorr := t.dev.flt.eccUncorr }
        ps := { s.dev.ps with points := t.dev.ps.points, alarms := t.dev.ps.alarms, subs := t.dev.ps.subs }
        ply := { s.dev.ply with digestDue := t.dev.ply.digestDue } }) := by
  refine Runs.mainChecked (f := loopEnWrite j false) rfl (decide_eq_true hj) hs ?_
  have he : loopEnWrite j false s.dev.fresh0 = directWrite (entryCmd 0x30 j 128 c.toNat) s.dev.fresh0 := by
    rw [hc]
    rfl
  rw [he, loopWrite_admitted hj h, loopEntryWrite_off (by rw [hc]; exact bit_enable _ (by omega) _)]
  have hrel : ∀ p ∈ s.dev.loopPoints j, (s.dev.point p).quarantined = false →
      (((s.dev.fresh0.loopPoints j).foldl (fun d p => releasePoint p d) s.dev.fresh0).point p).srcKind = 0 ∧
      (((s.dev.fresh0.loopPoints j).foldl (fun d p => releasePoint p d) s.dev.fresh0).point p).quality = 3 :=
    fun p hp hq => foldl_releasePoint (s.dev.loopPoints j) s.dev.fresh0 hp hq
  have hm : s.dev.fresh0.marks ((s.dev.fresh0.loopPoints j).foldl (fun d p => releasePoint p d) s.dev.fresh0) :=
    foldl_marks (fun _ _ => Dev.marks_of_stores (releasePoint_stores ..)) _ _
  generalize (s.dev.fresh0.loopPoints j).foldl (fun d p => releasePoint p d) s.dev.fresh0 = e at hrel hm ⊢
  obtain ⟨h1, h2, h3⟩ := loopsWritten_after (areas := digestAreas 0x30) (Dev.onlyLoops_trans (Dev.onlyLoops_of_marks hm)
    (setLoop_onlyLoops j { Loop.reset with cfg := c &&& loopMask } e)) (Dev.marks_refl _)
  refine ⟨fun m => (h1 m).trans ((Dev.loop_setLoop ..).trans (if_congr Iff.rfl rfl ?_)), fun p hp hq => ?_, h3⟩
  · exact congrArg (fun x => tget Loop.reset x.loops m) (Dev.marks_keeps hm).2.1
  · rw [h2, Dev.point_setLoop]
    exact hrel p hp hq

theorem loopModeWrite_written (b : Bool) (hen : (s.dev.loop j).en = true)
    (h : writeAdmitted (entryCmd 0x30 j 128 ((s.dev.loop j).setCfg 225 2 (if b then 1 else 0)).cfg.toNat) s) :
    Runs (.loopModeWrite j b) s (fun t =>
      (∀ m, t.dev.loop m = if m = j then loopModeWritten (s.dev.loop j)
        ((s.dev.loop j).rewritten ((s.dev.loop j).setCfg 225 2 (if b then 1 else 0)).cfg) else s.dev.loop m) ∧ s.frame t { s.dev with
        lp := t.dev.lp, cl := t.dev.cl, flt := { s.dev.flt with eccUncorr := t.dev.flt.eccUncorr }
        ps := { s.dev.ps with points := t.dev.ps.points, alarms := t.dev.ps.alarms, subs := t.dev.ps.subs }
        ply := { s.dev.ply with digestDue := t.dev.ply.digestDue } }) := by
  refine Runs.mainChecked (f := loopModeWrite j b) rfl (decide_eq_true hj) hs ?_
  have hbit := ((s.dev.loop j).rewritten_mode (if b then 1 else 0)).2.2.trans hen
  have he : loopModeWrite j b s.dev.fresh0 =
    directWrite (entryCmd 0x30 j 128 ((s.dev.loop j).setCfg 225 2 (if b then 1 else 0)).cfg.toNat) s.dev.fresh0 := rfl
  generalize ((s.dev.loop j).setCfg 225 2 (if b then 1 else 0)).cfg = c at hbit he h ⊢
  rw [he, loopWrite_admitted hj h, loopEntryWrite_kept (d := s.dev.fresh0) hen hbit]
  obtain ⟨h1, -, h3⟩ := loopsWritten_after (areas := digestAreas 0x30)
    (setLoop_onlyLoops j (loopModeWritten (s.dev.loop j) ((s.dev.loop j).rewritten c)) s.dev.fresh0) (Dev.marks_refl _)
  exact ⟨fun m => (h1 m).trans (Dev.loop_setLoop ..), h3⟩

end

/-- The record of a loop that does not run, with its fields reset. -/
def Loop.emptied (l : Loop) : Loop := { l with cfg := loopCfgReset }

/-- A damaged record of a loop that does not run, seen on the state after it. -/
theorem loopMemory_disabled (s : State) {j : Nat} (h : (s.dev.loop j).st = .disabled) :
    let t := s.after (loopMemory j s.dev.fresh0)
    t.dev.loop j = (s.dev.loop j).emptied ∧ (∀ m, m ≠ j → t.dev.loop m = s.dev.loop m) ∧ s.silent t { s.dev with
      lp := { s.dev.lp with loops := t.dev.lp.loops }
      flt := { s.dev.flt with eccUncorr := satAdd s.dev.flt.eccUncorr 1 } } := by
  have he : loopMemory j s.dev.fresh0 = (countUncorr s.dev.fresh0).setLoop j (s.dev.loop j).emptied := if_pos h
  rw [he]
  generalize (s.dev.loop j).emptied = x
  have hl (m : Nat) : (s.after ((countUncorr s.dev.fresh0).setLoop j x)).dev.loop m = if m = j then x else s.dev.loop m := by
    simp only [State.after_objects]
    exact Dev.loop_setLoop ..
  have hlp : (s.after ((countUncorr s.dev.fresh0).setLoop j x)).dev.lp = ((countUncorr s.dev.fresh0).setLoop j x).lp := by
    simp only [State.after_dev]
  refine ⟨(hl j).trans (if_pos rfl), fun m hm => (hl m).trans (if_neg hm), ?_⟩
  rw [hlp]
  unfold Dev.setLoop countUncorr
  generalize tset Loop.reset _ j x = y
  exact State.silent_of_eq rfl

/-- Settles O46. -/
theorem loopEvents : Obligations.LoopEvents := by
  intro s j hs hj l cfg mode only
  have hw : decide (j < 2112) = true := decide_eq_true hj
  refine ⟨fun hen h => ?_, fun hen h => ?_, fun hen hm hst h => ?_, fun hen hm hst h => ?_, fun h1 h2 h3 h4 h5 => ?_,
    fun h => ?_, fun h => ?_, fun h => ?_⟩
  · refine (loopEnWrite_on hs hj rfl hen h).mono fun t ⟨hl, hk, hi, hf⟩ => ?_
    have hself := (hl j).trans (if_pos rfl)
    refine ⟨⟨fun m hm => (hl m).trans (if_neg hm), hf⟩, hself, ?_, ?_⟩
    · rw [hself]
      exact hk
    · rw [hself]
      exact hi
  · refine (loopEnWrite_off hs hj rfl h).mono fun t ⟨hl, hp, hf⟩ => ?_
    exact ⟨⟨fun m hm => (hl m).trans (if_neg hm), hf⟩, (hl j).trans (if_pos rfl), hp⟩
  · refine (loopModeWrite_written hs hj false hen h).mono fun t ⟨hl, hf⟩ => ?_
    obtain ⟨hmode, hout, -⟩ := l.rewritten_mode 0
    have hself : t.dev.loop j = _ := (hl j).trans ((if_pos rfl).trans (loopModeWritten_manual hm hmode hout hst))
    refine ⟨⟨fun m hm => (hl m).trans (if_neg hm), hf⟩, ?_⟩
    rw [hself]
    refine ⟨rfl, ?_, ?_, rfl⟩
    · refine Eq.trans ?_ hmode
      unfold Loop.mode Loop.uf Loop.setCfg
      exact congrArg BitVec.toNat (fld_merge_other _ _ (by omega) (by omega))
    · unfold Loop.uf Loop.setCfg
      exact congrArg BitVec.toNat (fld_merge_self _ _ (by omega))
  · refine (loopModeWrite_written hs hj true hen h).mono fun t ⟨hl, hf⟩ => ?_
    obtain ⟨hmode, hout, -⟩ := l.rewritten_mode 1
    have hself : t.dev.loop j = _ := (hl j).trans ((if_pos rfl).trans (loopModeWritten_auto hm hmode hst))
    refine ⟨⟨fun m hm => (hl m).trans (if_neg hm), hf⟩, ?_⟩
    rw [hself]
    exact ⟨rfl, hmode, rfl, rfl⟩
  · refine Runs.mainChecked (f := loopFollowing j) rfl hw hs ?_
    have he : loopFollowing j s.dev.fresh0 = loopPut j (loopFeReact l l.pvPrev.toInt) s.dev.fresh0 := if_pos ⟨h1, h2, h3, h4, h5⟩
    rw [he]
    obtain ⟨hl, hps, hcl, hfe, hf⟩ := loopPut_after s j (loopFeReact l l.pvPrev.toInt)
    obtain ⟨r1, r2, r3, r4, r5, r6, r7⟩ := loopFeReact_holds l l.pvPrev.toInt s.dev.lp.feCnt
    have hself := (hl j).trans (if_pos rfl)
    rw [hself]
    exact ⟨⟨fun m hm => (hl m).trans (if_neg hm), hf⟩, hps, hcl, r1, r2, r3, hfe.trans r4, r5, r6, fun a1 a2 => (r7 a1 a2).trans h1⟩
  · refine Runs.stays (f := loopFollowing j) rfl hw hs (if_neg ?_)
    rintro ⟨h1, h2, h3, h4, h5⟩
    rcases h with h | h | h | h | h
    · exact h h1
    · exact Bool.noConfusion (h2.symm.trans h)
    · exact h3 h
    · exact absurd h4 (Nat.not_le_of_lt h)
    · exact Bool.noConfusion (h5.symm.trans h)
  · refine Runs.mainChecked (f := loopMemory j) rfl hw hs ?_
    obtain ⟨hl, hc, he, hp, hf⟩ := loopMemory_after s h
    exact ⟨⟨fun m hm => (hl m).trans (if_neg hm), hf⟩, ⟨(hl j).trans (if_pos rfl), fun c hn => (hc c).trans (if_neg hn),
      fun c hn => (hc c).trans (if_pos hn)⟩, he, hp⟩
  · refine Runs.mainChecked (f := loopMemory j) rfl hw hs ?_
    exact loopMemory_disabled s h

end Sys2Proof.Machine
end

section
/-!
EN of a task, errors in tasks and banks, and the fault that phase D brings (R315 to R317, R327 to R329).
-/
namespace Sys2Proof.Machine

/-! ### What a task's step leaves -/

/-- The module with another logic sequencer. -/
def Dev.withLg (d : Dev) (x : Logic) : Dev := { d with lg := x }

/-- From `d` to `d'` the logic sequencer has changed, and what a unit marks. -/
def Dev.onlyTasks (d d' : Dev) : Prop := (d.withLg d'.lg).marks d'

theorem Dev.onlyTasks_of_marks {a b : Dev} (h : a.marks b) : a.onlyTasks b := by
  unfold Dev.onlyTasks
  rw [(Dev.marks_keeps h).1]
  exact h

theorem Dev.marks_withLg {a b : Dev} (h : a.marks b) (x : Logic) : (a.withLg x).marks (b.withLg x) := by
  obtain ⟨hr, he⟩ := h
  exact ⟨Dev.reportsTo_congr (Dev.reportsTo_trans hr (Dev.reportsTo_of_eq rfl rfl rfl)) rfl rfl rfl, by rw [he]; rfl⟩

theorem Dev.onlyTasks_refl (d : Dev) : d.onlyTasks d := Dev.onlyTasks_of_marks (Dev.marks_refl d)

theorem Dev.onlyTasks_trans {a b c : Dev} (h1 : a.onlyTasks b) (h2 : b.onlyTasks c) : a.onlyTasks c :=
  Dev.marks_trans (Dev.marks_withLg h1 c.lg) h2

theorem withLg_onlyTasks (d : Dev) (x : Logic) : d.onlyTasks (d.withLg x) := Dev.marks_refl _

/-- The state after a step of tasks. -/
theorem onlyTasks_after {s : State} {a : Dev} (h : s.dev.fresh0.onlyTasks a) :
    let t := s.after a
    s.frame t { s.dev with
      lg := t.dev.lg, flt := { s.dev.flt with eccUncorr := t.dev.flt.eccUncorr }
      ps := { s.dev.ps with points := t.dev.ps.points, alarms := t.dev.ps.alarms, subs := t.dev.ps.subs }
      ply := { s.dev.ply with digestDue := t.dev.ply.digestDue } } := by
  have hn : (s.after a).dev.lg = a.lg := by simp
  dsimp only
  rw [hn]
  exact marks_after (b := s.dev.fresh0.withLg a.lg) h rfl

/-- From `d` to `d'` task `n` has become `k`; the other tasks, the banks with their marks and the tick stay. -/
def Dev.setsTask (n : Nat) (k : Task) (d d' : Dev) : Prop := d.onlyTasks d' ∧ (∀ m, d'.task m = if m = n then k else d.task m) ∧
  d'.lg.banks = d.lg.banks ∧ d'.lg.tick = d.lg.tick ∧ d'.lg.marked = d.lg.marked

theorem Dev.setsTask_trans {n : Nat} {k k' : Task} {a b c : Dev} (h1 : a.setsTask n k b) (h2 : b.setsTask n k' c) :
    a.setsTask n k' c := by
  obtain ⟨o1, t1, b1, c1, m1⟩ := h1
  obtain ⟨o2, t2, b2, c2, m2⟩ := h2
  refine ⟨Dev.onlyTasks_trans o1 o2, fun m => (t2 m).trans ?_, b2.trans b1, c2.trans c1, m2.trans m1⟩
  split
  · rfl
  · next h => rw [t1, if_neg h]

/-- A step that leaves the sequencer. -/
theorem Dev.setsTask_of_marks {a b : Dev} (h : a.marks b) (n : Nat) : a.setsTask n (a.task n) b := by
  have hlg := (Dev.marks_keeps h).1
  refine ⟨Dev.onlyTasks_of_marks h, fun m => ?_, by rw [hlg], by rw [hlg], by rw [hlg]⟩
  have ht : b.task m = a.task m := congrArg (fun x : Logic => tget Task.reset x.tasks m) hlg
  rw [ht]
  split
  · next hm => rw [hm]
  · rfl

theorem Dev.setsTask_marks {n : Nat} {k : Task} {a b c : Dev} (h1 : a.setsTask n k b) (h2 : b.marks c) : a.setsTask n k c := by
  have h := Dev.setsTask_trans h1 (Dev.setsTask_of_marks h2 n)
  rwa [(h1.2.1 n).trans (if_pos rfl)] at h

theorem setTask_setsTask (n : Nat) (k : Task) (d : Dev) : d.setsTask n k (d.setTask n k) :=
  ⟨Dev.marks_refl _, fun _ => Dev.task_setTask .., rfl, rfl, rfl⟩

theorem modTask_setsTask (n : Nat) (f : Task → Task) (d : Dev) : d.setsTask n (f (d.task n)) (d.modTask n f) := setTask_setsTask ..

theorem Dev.point_modTask (n : Nat) (f : Task → Task) (d : Dev) (p : Nat) : (d.modTask n f).point p = d.point p := by
  unfold Dev.point
  rw [show (d.modTask n f).ps = d.ps by simp]

/-- LIVE cleared in state records (R317): the records alone change. -/
theorem clearLive_eq (iids : List Nat) (d : Dev) : ∃ x, clearLive iids d = d.withLg { d.lg with states := x } := by
  induction iids generalizing d with
  | nil => exact ⟨d.lg.states, rfl⟩
  | cons i is ih =>
    obtain ⟨x, hx⟩ := ih (d.setSrec i { d.srec i with live := false })
    exact ⟨x, hx⟩

theorem clearLive_setsTask (iids : List Nat) (d : Dev) (n : Nat) : d.setsTask n (d.task n) (clearLive iids d) := by
  obtain ⟨x, hx⟩ := clearLive_eq iids d
  rw [hx]
  refine ⟨withLg_onlyTasks .., fun m => ?_, rfl, rfl, rfl⟩
  split
  · next h => rw [h]; rfl
  · rfl

theorem clearLive_keeps (iids : List Nat) (d : Dev) : (clearLive iids d).ps = d.ps ∧ (clearLive iids d).flt = d.flt := by
  obtain ⟨x, hx⟩ := clearLive_eq iids d
  rw [hx]
  exact ⟨rfl, rfl⟩

/-! ### EN of a task (R315, R317) -/

/-- A task that starts. -/
def Task.started (k : Task) (cost : BitVec 32) (outs ins : BitVec 18) : Task := { k with
  st := .running, consec := 0, peakCyc := 0, scan := none, mark := none, memDue := none, failPts := none
  cost := cost, outPts := outs, inPts := ins }

/-- The outputs of a program claimed for its task. -/
def claimOutputs (t : Nat) (prog : List (Nat × BEntry)) (d : Dev) : Dev :=
  prog.foldl (fun d e => e.2.outs.foldl (fun d o => claimPoint 2 (taskSource t e.2.iid o.2) o.1 d) d) d

theorem claimOutputs_marks (t : Nat) (prog : List (Nat × BEntry)) (d : Dev) : d.marks (claimOutputs t prog d) :=
  foldl_marks (fun _ _ => foldl_marks (fun _ _ => Dev.marks_of_stores (claimPoint_stores ..)) _ _) _ _

theorem taskStart_setsTask (t : Nat) (d : Dev) : ∃ cost outs ins, d.setsTask t ((d.task t).started cost outs ins) (taskStart t d) := by
  refine ⟨BitVec.ofNat 32 (progCost (d.program t (d.task t).bank) ((d.task t).count (d.task t).bank)),
    BitVec.ofNat 18 (progOuts (d.program t (d.task t).bank)).length, BitVec.ofNat 18 (progIns (d.program t (d.task t).bank)).length, ?_⟩
  have h1 := clearLive_setsTask (progIids (d.program t (d.task t).bank)) d t
  have h2 := Dev.setsTask_trans h1 (setTask_setsTask t ((d.task t).started
    (BitVec.ofNat 32 (progCost (d.program t (d.task t).bank) ((d.task t).count (d.task t).bank)))
    (BitVec.ofNat 18 (progOuts (d.program t (d.task t).bank)).length)
    (BitVec.ofNat 18 (progIns (d.program t (d.task t).bank)).length)) _)
  exact Dev.setsTask_marks (Dev.setsTask_marks h2 (claimOutputs_marks t (d.program t (d.task t).bank) _)) (report_marks ..)

/-- A task that stops. -/
def Task.stopped (k : Task) : Task := { k with
  st := .disabled, pend := false, pendCost := 0, pendOut := 0, cost := 0, outPts := 0, inPts := 0
  scan := none, mark := none, dropPts := [], memDue := none, armPts := [], failPts := none }

/-- What a task produces given up. -/
def releaseOutputs (t : Nat) (d : Dev) : Dev := (d.taskPoints t).foldl (fun d p => releasePoint p d) d

theorem taskStop_eq {t : Nat} {d : Dev} (h : (d.task t).st ≠ .disabled) : taskStop t d =
    (releaseOutputs t (clearLive (progIids (d.program t (d.task t).bank)) d)).modTask t Task.stopped := if_neg h

theorem taskStop_holds {t : Nat} {d : Dev} (h : (d.task t).st ≠ .disabled) : d.setsTask t (d.task t).stopped (taskStop t d) ∧
    ∀ p ∈ d.taskPoints t, (d.point p).quarantined = false →
      ((taskStop t d).point p).srcKind = 0 ∧ ((taskStop t d).point p).quality = 3 := by
  have h1 := clearLive_setsTask (progIids (d.program t (d.task t).bank)) d t
  obtain ⟨hps, -⟩ := clearLive_keeps (progIids (d.program t (d.task t).bank)) d
  rw [taskStop_eq h]
  generalize clearLive (progIids (d.program t (d.task t).bank)) d = b at h1 hps ⊢
  have hm : b.marks (releaseOutputs t b) := foldl_marks (fun _ _ => Dev.marks_of_stores (releasePoint_stores ..)) _ _
  have h2 := Dev.setsTask_marks h1 hm
  have htask := (h2.2.1 t).trans (if_pos rfl)
  refine ⟨?_, fun p hp hq => ?_⟩
  · have h3 := Dev.setsTask_trans h2 (modTask_setsTask t Task.stopped (releaseOutputs t b))
    rwa [htask] at h3
  · have hp : p ∈ b.taskPoints t := by
      unfold Dev.taskPoints
      rw [hps]
      exact hp
    have hq : (b.point p).quarantined = false := by
      unfold Dev.point
      rw [hps]
      exact hq
    exact foldl_releasePoint (b.taskPoints t) b hp hq

theorem entryWrite_task (n : Nat) (c : BitVec 512) (d : Dev) :
    entryWrite 0x21 n (c.setWidth 2048) d = digestMark (digestAreas 0x21) (taskWrite n c d) := by
  have h : entryWrite 0x21 n (c.setWidth 2048) d =
      digestMark (digestAreas 0x21) (taskWrite n (fld (c.setWidth 2048) 0 512) d) := rfl
  rw [h, fld_image c (by omega)]

theorem taskEnWrite_admitted {s : State} {n : Nat} {on : Bool} {c : BitVec 512} (hn : n < 8)
    (hc : c = (s.dev.task n).cfg &&& ~~~(putB 512 108 true) ||| putB 512 108 on)
    (h : writeAdmitted (entryCmd 0x21 n 64 c.toNat) s) : taskEnWrite n on s.dev.fresh0 =
      rightsChanged (digestMark (digestAreas 0x21) (taskWrite n c s.dev.fresh0)) := by
  have he : taskEnWrite n on s.dev.fresh0 = directWrite (entryCmd 0x21 n 64 c.toNat) s.dev.fresh0 := by
    rw [hc]
    rfl
  have hrow : ∃ r, spaceRow 0x21 = some r ∧ r.size = 64 := ⟨_, rfl, rfl⟩
  obtain ⟨r, hr, hz⟩ := hrow
  rw [he, entryWrite_admitted c hr hz (by decide) (by omega) rfl h, entryWrite_task]

/-- A task with another entry. -/
def Task.withCfg (k : Task) (c : BitVec 512) : Task := { k with cfg := c }

theorem taskWrite_on {n : Nat} {c : BitVec 512} {d : Dev} (hc : bit c 108 = true) (h : (d.task n).st = .disabled) :
    taskWrite n c d = taskStart n (d.modTask n (·.withCfg (c &&& taskMask))) := by
  have ht : (d.modTask n (·.withCfg (c &&& taskMask))).task n = (d.task n).withCfg (c &&& taskMask) :=
    (Dev.task_modTask ..).trans (if_pos rfl)
  have hst : ((d.modTask n (·.withCfg (c &&& taskMask))).task n).st = .disabled := by
    rw [ht]
    exact h
  unfold taskWrite
  dsimp only
  rw [if_pos hc, hc]
  exact if_pos (by rw [Bool.true_and]; exact beq_iff_eq.2 hst)

theorem taskWrite_off {n : Nat} {c : BitVec 512} {d : Dev} (hc : bit c 108 = false) :
    taskWrite n c d = (taskStop n d).modTask n (·.withCfg (c &&& taskMask)) := by
  unfold taskWrite
  dsimp only
  rw [hc]
  rfl

/-- The state after a write of a task entry. -/
theorem tasksWritten_after {s : State} {areas : List Nat} {n : Nat} {k : Task} {b : Dev} (hb : s.dev.fresh0.setsTask n k b) :
    let t := s.after (rightsChanged (digestMark areas b))
    (∀ m, t.dev.task m = if m = n then k else s.dev.task m) ∧ t.dev.lg.banks = s.dev.lg.banks ∧ t.dev.lg.tick = s.dev.lg.tick ∧
      (∀ p, t.dev.point p = b.point p) ∧ s.frame t { s.dev with
        lg := t.dev.lg, flt := { s.dev.flt with eccUncorr := t.dev.flt.eccUncorr }
        ps := { s.dev.ps with points := t.dev.ps.points, alarms := t.dev.ps.alarms, subs := t.dev.ps.subs }
        ply := { s.dev.ply with digestDue := t.dev.ply.digestDue } } := by
  have hall := Dev.setsTask_marks hb (Dev.marks_trans (digestMark_marks areas b) (rightsChanged_marks _))
  have hp (p : Nat) : (rightsChanged (digestMark areas b)).point p = b.point p :=
    ((rightsChanged_stores _).1 p not_false).trans (digestMark_point ..)
  generalize rightsChanged (digestMark areas b) = a at hall hp ⊢
  obtain ⟨ho, ht, hbanks, htick, -⟩ := hall
  have hlg : (s.after a).dev.lg = a.lg := by simp
  refine ⟨fun m => ?_, by rw [hlg]; exact hbanks, by rw [hlg]; exact htick, fun p => ?_, onlyTasks_after ho⟩
  · exact (congrArg (fun x : Logic => tget Task.reset x.tasks m) hlg).trans (ht m)
  · simp only [State.after_objects]
    exact hp p

section
variable {s : State} {n : Nat} (hs : s.up) (hn : n < 8)
include hs hn

theorem taskEnWrite_on {c : BitVec 512} (hc : c = (s.dev.task n).cfg &&& ~~~(putB 512 108 true) ||| putB 512 108 true)
    (hst : (s.dev.task n).st = .disabled) (h : writeAdmitted (entryCmd 0x21 n 64 c.toNat) s) :
    Runs (.taskEnWrite n true) s (fun t => ∃ cost outs ins,
      (∀ m, t.dev.task m = if m = n then ((s.dev.task n).withCfg (c &&& taskMask)).started cost outs ins else s.dev.task m) ∧
      t.dev.lg.banks = s.dev.lg.banks ∧ t.dev.lg.tick = s.dev.lg.tick ∧ s.frame t { s.dev with
        lg := t.dev.lg, flt := { s.dev.flt with eccUncorr := t.dev.flt.eccUncorr }
        ps := { s.dev.ps with points := t.dev.ps.points, alarms := t.dev.ps.alarms, subs := t.dev.ps.subs }
        ply := { s.dev.ply with digestDue := t.dev.ply.digestDue } }) := by
  refine Runs.mainChecked (f := taskEnWrite n true) rfl (decide_eq_true hn) hs ?_
  have hbit : bit c 108 = true := by rw [hc]; exact bit_enable _ (by omega) _
  rw [taskEnWrite_admitted hn hc h, taskWrite_on (d := s.dev.fresh0) hbit hst]
  have h1 := modTask_setsTask n (·.withCfg (c &&& taskMask)) s.dev.fresh0
  obtain ⟨cost, outs, ins, h2⟩ := taskStart_setsTask n (s.dev.fresh0.modTask n (·.withCfg (c &&& taskMask)))
  rw [(h1.2.1 n).trans (if_pos rfl)] at h2
  obtain ⟨ht, hb, hk, -, hf⟩ := tasksWritten_after (areas := digestAreas 0x21) (Dev.setsTask_trans h1 h2)
  exact ⟨cost, outs, ins, ht, hb, hk, hf⟩

theorem taskEnWrite_off {c : BitVec 512} (hc : c = (s.dev.task n).cfg &&& ~~~(putB 512 108 true) ||| putB 512 108 false)
    (hst : (s.dev.task n).st ≠ .disabled) (h : writeAdmitted (entryCmd 0x21 n 64 c.toNat) s) :
    Runs (.taskEnWrite n false) s (fun t =>
      (∀ m, t.dev.task m = if m = n then (s.dev.task n).stopped.withCfg (c &&& taskMask) else s.dev.task m) ∧
      t.dev.lg.banks = s.dev.lg.banks ∧ t.dev.lg.tick = s.dev.lg.tick ∧
      (∀ p ∈ s.dev.taskPoints n, (s.dev.point p).quarantined = false →
        (t.dev.point p).srcKind = 0 ∧ (t.dev.point p).quality = 3) ∧ s.frame t { s.dev with
        lg := t.dev.lg, flt := { s.dev.flt with eccUncorr := t.dev.flt.eccUncorr }
        ps := { s.dev.ps with points := t.dev.ps.points, alarms := t.dev.ps.alarms, subs := t.dev.ps.subs }
        ply := { s.dev.ply with digestDue := t.dev.ply.digestDue } }) := by
  refine Runs.mainChecked (f := taskEnWrite n false) rfl (decide_eq_true hn) hs ?_
  have hbit : bit c 108 = false := by rw [hc]; exact bit_enable _ (by omega) _
  rw [taskEnWrite_admitted hn hc h, taskWrite_off hbit]
  obtain ⟨h1, hp⟩ := taskStop_holds (d := s.dev.fresh0) hst
  generalize taskStop n s.dev.fresh0 = b at h1 hp ⊢
  have h2 := Dev.setsTask_trans h1 (modTask_setsTask n (·.withCfg (c &&& taskMask)) b)
  rw [(h1.2.1 n).trans (if_pos rfl)] at h2
  obtain ⟨ht, hb, hk, hpt, hf⟩ := tasksWritten_after (areas := digestAreas 0x21) h2
  refine ⟨ht, hb, hk, fun p hm hq => ?_, hf⟩
  have hbp : (b.modTask n (·.withCfg (c &&& taskMask))).point p = b.point p := Dev.point_modTask ..
  rw [hpt, hbp]
  exact hp p hm hq

end

/-! ### A task enters FAULTED (R315, R317) -/

/-- A task in FAULTED. -/
def Task.failed (k : Task) (why : BitVec 8) : Task :=
  { k with st := .faulted, lastFault := why, scan := none, mark := some .fault, memDue := none }

theorem taskFault_holds (t : Nat) (why : BitVec 8) (d : Dev) : d.setsTask t ((d.task t).failed why) (taskFault t why d) ∧
    (taskFault t why d).ps = d.ps ∧ (taskFault t why d).flt.eccUncorr = d.flt.eccUncorr := by
  have h1 := Dev.setsTask_marks (clearLive_setsTask (progIids (d.program t (d.task t).bank)) d t) (digestMark_marks [3] _)
  obtain ⟨hps, hflt⟩ := clearLive_keeps (progIids (d.program t (d.task t).bank)) d
  have hps1 : (digestMark [3] (clearLive (progIids (d.program t (d.task t).bank)) d)).ps = d.ps := hps
  have hflt1 : (digestMark [3] (clearLive (progIids (d.program t (d.task t).bank)) d)).flt = d.flt := hflt
  have he : taskFault t why d = report (ev 0x0704 true t 0)
    ((digestMark [3] (clearLive (progIids (d.program t (d.task t).bank)) d)).setTask t ((d.task t).failed why)) := rfl
  rw [he]
  generalize digestMark [3] (clearLive (progIids (d.program t (d.task t).bank)) d) = b at h1 hps1 hflt1 ⊢
  refine ⟨Dev.setsTask_marks (Dev.setsTask_trans h1 (setTask_setsTask ..)) (report_marks ..), ?_, ?_⟩
  · simpa using hps1
  · rw [Dev.reportsTo_uncorr (report_reportsTo ..)]
    simpa using congrArg FaultRegs.eccUncorr hflt1

/-- The entry of a task that fails, counted. -/
def Task.counted (k : Task) : Task := { k with faultCnt := k.faultCnt + 1 }

theorem taskMemFault_setsTask (t pos iid : Nat) (d : Dev) :
    d.setsTask t ((d.task t).counted.failed 3) (taskMemFault t pos iid d) := by
  have h1 := Dev.setsTask_marks (modTask_setsTask t Task.counted d)
    (report_marks (ev 0x0703 true t (pos + 2 ^ 32 * iid)) (d.modTask t Task.counted))
  have h2 := (taskFault_holds t 3 (report (ev 0x0703 true t (pos + 2 ^ 32 * iid)) (d.modTask t Task.counted))).1
  rw [(h1.2.1 t).trans (if_pos rfl)] at h2
  exact Dev.setsTask_trans h1 h2

/-! ### Phase D of one task -/

/-- Phase D of a task whose fault, where the scrub found one, has taken effect: its image, its quality change and the points
of the old program. -/
def taskDeliver (t : Nat) (d : Dev) : Dev :=
  let k := d.task t
  let d := match k.scan with
    | some (.done img) => img.foldl (fun d v =>
        if d.imageHas t v.point then produce v.point v.value v.quality v.detail k.relCal d else d) d
    | _ => d
  let d := match k.mark with
    | none => d
    | some m =>
      let q : BitVec 2 × BitVec 8 := if m = .fault then (2, 0x0D) else (1, 0x07)
      (match k.failPts with
        | some ps => ps.filter (fun p => d.taskOwns t p)
        | none => d.imagePoints t).foldl (fun d p => produceQ p q.1 q.2 d.tb.cal0 d) d
  let d := k.dropPts.foldl (fun d p => if d.taskOwns t p then releasePoint p d else d) d
  exchangeEnd t (d.modTask t (fun k => { k with
    scan := match k.scan with
      | some (.done _) => none
      | x => x
    mark := none
    failPts := none
    dropPts := [] }))

/-- A task with the fault that the scrub found in effect. -/
def taskDue (t : Nat) (d : Dev) : Dev :=
  match (d.task t).memDue with
  | some x => taskMemFault t x.1 x.2 d
  | none => d

theorem taskCommit_eq (t : Nat) (d : Dev) : taskCommit t d = taskDeliver t (taskDue t d) := rfl

theorem taskCommit_due {t : Nat} {d : Dev} {x : Nat × Nat} (h : (d.task t).memDue = some x) :
    taskCommit t d = taskDeliver t (taskMemFault t x.1 x.2 d) := by
  have hd : taskDue t d = taskMemFault t x.1 x.2 d := by
    unfold taskDue
    rw [h]
  rw [taskCommit_eq, hd]

theorem taskCommit_plain {t : Nat} {d : Dev} (h : (d.task t).memDue = none) : taskCommit t d = taskDeliver t d := by
  have hd : taskDue t d = d := by
    unfold taskDue
    rw [h]
  rw [taskCommit_eq, hd]

/-- The points whose quality a failed task changes. -/
def Dev.failedPoints (d : Dev) (t : Nat) : List Nat :=
  match (d.task t).failPts with
  | some ps => ps.filter (fun p => d.taskOwns t p)
  | none => d.imagePoints t

/-- The points of a failed task, BAD (R316). -/
def failPoints (ps : List Nat) (d : Dev) : Dev := ps.foldl (fun d p => produceQ p 2 0x0D d.tb.cal0 d) d

/-- The points that the old program alone produced, given up (R320). -/
def dropPoints (t : Nat) (ps : List Nat) (d : Dev) : Dev := ps.foldl (fun d p => if d.taskOwns t p then releasePoint p d else d) d

/-- A task after its phase D. -/
def Task.delivered (k : Task) : Task := { k with
    scan := match k.scan with
      | some (.done _) => none
      | x => x
    mark := none
    failPts := none
    dropPts := [] }

theorem taskDeliver_failed {t : Nat} {d : Dev} (hs : (d.task t).scan = none) (hm : (d.task t).mark = some .fault) :
    taskDeliver t d = exchangeEnd t
      ((dropPoints t (d.task t).dropPts (failPoints (d.failedPoints t) d)).modTask t Task.delivered) := by
  unfold taskDeliver failPoints Dev.failedPoints
  dsimp only
  rw [hs, hm]
  rfl

theorem failPoints_marks (ps : List Nat) (d : Dev) : d.marks (failPoints ps d) :=
  foldl_marks (fun _ _ => Dev.marks_of_stores (produceQ_stores ..)) _ _

theorem dropOne_stores (t p : Nat) (d : Dev) : d.stores (· = p) (if d.taskOwns t p then releasePoint p d else d) := by
  split
  · exact releasePoint_stores ..
  · exact Dev.stores_refl _ d

theorem dropPoints_marks (t : Nat) (ps : List Nat) (d : Dev) : d.marks (dropPoints t ps d) :=
  foldl_marks (fun _ _ => Dev.marks_of_stores (dropOne_stores ..)) _ _

theorem dropPoints_other (t : Nat) (ps : List Nat) (d : Dev) {p : Nat} (hp : p ∉ ps) : (dropPoints t ps d).point p = d.point p :=
  (foldl_stores_mem (P := (· ∈ ps)) ps (fun _ _ hx => Dev.stores_mono (dropOne_stores ..) fun _ hq => hq ▸ hx) d).1 p hp

/-- The end of an exchange: its task forgets it, and records and reports alone follow (R319). -/
theorem exchangeEnd_holds (t : Nat) (d : Dev) : (∃ g, d.setsTask t { d.task t with gone := g } (exchangeEnd t d)) ∧
    ∀ p, (exchangeEnd t d).point p = d.point p := by
  unfold exchangeEnd
  split
  · exact ⟨⟨(d.task t).gone, Dev.setsTask_of_marks (Dev.marks_refl d) t⟩, fun _ => rfl⟩
  · next ids data _ =>
    have h1 := modTask_setsTask t (fun k => { k with gone := none }) d
    have h2 := clearLive_setsTask ids (d.modTask t (fun k => { k with gone := none })) t
    rw [(h1.2.1 t).trans (if_pos rfl)] at h2
    obtain ⟨hps, -⟩ := clearLive_keeps ids (d.modTask t (fun k => { k with gone := none }))
    refine ⟨⟨none, Dev.setsTask_marks (Dev.setsTask_trans h1 h2) (report_marks ..)⟩, fun p => ?_⟩
    refine (report_point ..).trans (Eq.trans ?_ (Dev.point_modTask t (fun k => { k with gone := none }) d p))
    exact congrArg (fun x => tget Point.reset x.points p) hps

/-- Phase D of a failed task: it stays so, and its points turn BAD. -/
theorem taskDeliver_holds {t : Nat} {d : Dev} (hs : (d.task t).scan = none) (hm : (d.task t).mark = some .fault) :
    (∃ g, d.setsTask t { (d.task t).delivered with gone := g } (taskDeliver t d)) ∧
      ∀ p, p ∉ (d.task t).dropPts → (taskDeliver t d).point p = (failPoints (d.failedPoints t) d).point p := by
  rw [taskDeliver_failed hs hm]
  have h1 := Dev.setsTask_of_marks (Dev.marks_trans (failPoints_marks (d.failedPoints t) d)
    (dropPoints_marks t (d.task t).dropPts (failPoints (d.failedPoints t) d))) t
  have hdrop (p : Nat) (hp : p ∉ (d.task t).dropPts) := dropPoints_other t _ (failPoints (d.failedPoints t) d) hp
  generalize dropPoints t (d.task t).dropPts (failPoints (d.failedPoints t) d) = b at h1 hdrop ⊢
  have h2 := modTask_setsTask t Task.delivered b
  rw [(h1.2.1 t).trans (if_pos rfl)] at h2
  obtain ⟨⟨g, h3⟩, hpt⟩ := exchangeEnd_holds t (b.modTask t Task.delivered)
  rw [(h2.2.1 t).trans (if_pos rfl)] at h3
  exact ⟨⟨g, Dev.setsTask_trans h1 (Dev.setsTask_trans h2 h3)⟩,
    fun p hp => (hpt p).trans ((Dev.point_modTask ..).trans (hdrop p hp))⟩

/-- A producer's change of quality holds the value. -/
theorem produceQ_holds {p : Nat} {q : BitVec 2} {det : BitVec 8} {cal : W64} {d : Dev} {v : W64}
    (h : (d.point p).quarantined = false ∧ (d.point p).subst = false ∧ (d.point p).value = v) :
    (((produceQ p q det cal d).point p).quarantined = false ∧ ((produceQ p q det cal d).point p).subst = false ∧
      ((produceQ p q det cal d).point p).value = v) ∧
      ((produceQ p q det cal d).point p).quality = q ∧ ((produceQ p q det cal d).point p).detail = det ∧
      ((produceQ p q det cal d).point p).value = v := by
  have he : (produceQ p q det cal d).point p = (d.point p).stored { d.point p with quality := q, detail := det } cal := by
    unfold produceQ
    dsimp only
    rw [if_neg (by simp [h]), storePoint_point_eq, if_pos rfl]
  obtain ⟨hv, hq, hd, -, -, -, hs, -, hr, -⟩ := Point.stored_keeps (d.point p) { d.point p with quality := q, detail := det } cal
  rw [he]
  exact ⟨⟨hr.trans h.1, hs.trans h.2.1, hv.trans h.2.2⟩, hq, hd, hv.trans h.2.2⟩

theorem failPoints_point (ps : List Nat) (d : Dev) {p : Nat} (hp : p ∈ ps) (hq : (d.point p).quarantined = false)
    (hs : (d.point p).subst = false) : ((failPoints ps d).point p).quality = 2 ∧ ((failPoints ps d).point p).detail = 0x0D ∧
      ((failPoints ps d).point p).value = (d.point p).value :=
  foldl_reaches (key := id) (Pre := fun x => x.quarantined = false ∧ x.subst = false ∧ x.value = (d.point p).value)
    (Good := fun x => x.quality = 2 ∧ x.detail = 0x0D ∧ x.value = (d.point p).value)
    (fun _ _ => produceQ_stores ..) (fun _ _ => produceQ_holds) ps d ⟨hq, hs, rfl⟩ (.inl (by simpa using hp))

/-! ### Memory errors (R327 to R329, R638) -/

/-- From `d` to `d'` an entry at `i` has been marked, and counted where it was not marked before. -/
def Dev.marksEntry (i : Nat) (d d' : Dev) : Prop := d.onlyTasks d' ∧ (∀ m, d'.task m = d.task m) ∧ d'.lg.banks = d.lg.banks ∧
  d'.lg.tick = d.lg.tick ∧ (∀ q, tget false d'.lg.marked q = if q = i then true else tget false d.lg.marked q) ∧
  d'.ps = d.ps ∧ d'.flt.eccUncorr = if tget false d.lg.marked i then d.flt.eccUncorr else satAdd d.flt.eccUncorr 1

/-- The module with an entry marked. -/
def Dev.marking (i : Nat) (d : Dev) : Dev := d.withLg { d.lg with marked := tset false d.lg.marked i true }

theorem countMarked_marksEntry {i : Nat} {d : Dev} (h : tget false d.lg.marked i = false) :
    d.marksEntry i (countUncorr (d.marking i)) := by
  refine ⟨Dev.onlyTasks_trans (withLg_onlyTasks ..) (Dev.onlyTasks_of_marks (countUncorr_marks _)), fun _ => rfl, rfl, rfl,
    fun q => show tget false (tset false d.lg.marked i true) q = _ from tget_tset .., rfl, ?_⟩
  rw [if_neg (by rw [h]; decide)]
  rfl

theorem taskMark_marksEntry (t pos : Nat) (d : Dev) : d.marksEntry (bankIndex (d.task t).bank pos) (taskMark t pos d) := by
  unfold taskMark
  dsimp only
  split
  · next h =>
    refine ⟨Dev.onlyTasks_refl d, fun _ => rfl, rfl, rfl, fun q => ?_, rfl, (if_pos h).symm⟩
    split
    · next hq => rw [hq, h]
    · rfl
  · next h => exact countMarked_marksEntry (Bool.eq_false_iff.2 h)

/-- A task with a failing word that waits for phase D. -/
def Task.due (k : Task) (pos iid : Nat) : Task := { k with memDue := some (k.memDue.getD (pos, iid)) }

/-- A task with its first failing word of the frame. -/
def Task.found (k : Task) (pos iid : Nat) : Task := { k with memDue := some (pos, iid) }

theorem taskMemory_first {t pos iid : Nat} {d : Dev} (h : (d.task t).st = .running) (hd : (d.task t).memDue = none) :
    taskMemory t pos iid d = (taskMark t pos d).modTask t (·.found pos iid) := by
  unfold taskMemory
  dsimp only
  rw [if_neg (not_not_intro h), hd]
  rfl

theorem taskMemory_again {t pos iid : Nat} {d : Dev} {x : Nat × Nat} (h : (d.task t).st = .running)
    (hd : (d.task t).memDue = some x) : taskMemory t pos iid d = taskMark t pos d := by
  unfold taskMemory
  dsimp only
  rw [if_neg (not_not_intro h), hd]
  rfl

theorem Task.due_again {k : Task} {x : Nat × Nat} (h : k.memDue = some x) (pos iid : Nat) : k.due pos iid = k := by
  unfold Task.due
  rw [h, Option.getD_some, ← h]

theorem Task.due_first {k : Task} (h : k.memDue = none) (pos iid : Nat) : k.due pos iid = k.found pos iid := by
  unfold Task.due Task.found
  rw [h]
  rfl

theorem Dev.modTask_ps (d : Dev) (t : Nat) (f : Task → Task) : (d.modTask t f).ps = d.ps := by simp
theorem Dev.modTask_flt (d : Dev) (t : Nat) (f : Task → Task) : (d.modTask t f).flt = d.flt := by simp

theorem taskMemory_holds {t pos iid : Nat} {d : Dev} (h : (d.task t).st = .running) :
    let d' := taskMemory t pos iid d
    d.onlyTasks d' ∧ (∀ m, d'.task m = if m = t then (d.task t).due pos iid else d.task m) ∧ d'.lg.banks = d.lg.banks ∧
      d'.lg.tick = d.lg.tick ∧
      (∀ q, tget false d'.lg.marked q = if q = bankIndex (d.task t).bank pos then true else tget false d.lg.marked q) ∧
      d'.ps = d.ps ∧ d'.flt.eccUncorr = if tget false d.lg.marked (bankIndex (d.task t).bank pos) then d.flt.eccUncorr
        else satAdd d.flt.eccUncorr 1 := by
  obtain ⟨ho, ht, hb, hk, hm, hp, he⟩ := taskMark_marksEntry t pos d
  dsimp only
  cases hd : (d.task t).memDue with
  | some x =>
    rw [taskMemory_again h hd, Task.due_again hd]
    refine ⟨ho, fun m => (ht m).trans ?_, hb, hk, hm, hp, he⟩
    split
    · next hmt => rw [hmt]
    · rfl
  | none =>
    rw [taskMemory_first h hd, Task.due_first hd]
    generalize taskMark t pos d = b at ho ht hb hk hm hp he ⊢
    obtain ⟨s1, s2, s3, s4, s5⟩ := modTask_setsTask t (·.found pos iid) b
    refine ⟨Dev.onlyTasks_trans ho s1, fun m => (s2 m).trans ?_, s3.trans hb, s4.trans hk, ?_, ?_, ?_⟩
    · rw [ht, ht]
    · rw [s5]
      exact hm
    · rw [Dev.modTask_ps]
      exact hp
    · rw [Dev.modTask_flt]
      exact he

/-! ### The events -/

/-- The state after a step of tasks, part by part. -/
theorem tasks_after {s : State} {a : Dev} (h : s.dev.fresh0.onlyTasks a) :
    let t := s.after a
    (∀ m, t.dev.task m = a.task m) ∧ t.dev.lg = a.lg ∧ t.dev.ps = a.ps ∧ t.dev.flt = a.flt ∧ s.frame t { s.dev with
      lg := t.dev.lg, flt := { s.dev.flt with eccUncorr := t.dev.flt.eccUncorr }
      ps := { s.dev.ps with points := t.dev.ps.points, alarms := t.dev.ps.alarms, subs := t.dev.ps.subs }
      ply := { s.dev.ply with digestDue := t.dev.ply.digestDue } } :=
  ⟨fun m => by simp only [State.after_objects], by simp only [State.after_dev], by simp only [State.after_dev],
    by simp only [State.after_dev], onlyTasks_after h⟩

/-- What a task's fault makes of it in phase D, whatever module it is found in. -/
theorem taskCommit_memDue {t : Nat} {d : Dev} {pos iid : Nat} (h : (d.task t).memDue = some (pos, iid)) :
    let e := taskCommit t d
    (e.task t).st = .faulted ∧ (e.task t).lastFault = 3 ∧ (e.task t).faultCnt = (d.task t).faultCnt + 1 ∧
      (e.task t).scan = none ∧ (e.task t).memDue = none ∧ (∀ m, m ≠ t → e.task m = d.task m) ∧ e.lg.marked = d.lg.marked := by
  have h1 := taskMemFault_setsTask t pos iid d
  dsimp only
  rw [taskCommit_due h]
  dsimp only
  generalize taskMemFault t pos iid d = b at h1 ⊢
  have ht := (h1.2.1 t).trans (if_pos rfl)
  obtain ⟨⟨g, h2⟩, -⟩ := taskDeliver_holds (t := t) (d := b) (by rw [ht]; rfl) (by rw [ht]; rfl)
  rw [ht] at h2
  obtain ⟨-, h4, -, -, h5⟩ := Dev.setsTask_trans h1 h2
  generalize taskDeliver t b = c at h4 h5 ⊢
  have hself := (h4 t).trans (if_pos rfl)
  rw [hself]
  exact ⟨rfl, rfl, rfl, rfl, rfl, fun m hm => (h4 m).trans (if_neg hm), h5⟩

/-- A task whose entry has taken its reset values, but for EN. -/
def Task.emptied (k : Task) (old : BitVec 512) (pts : List Nat) : Task := { k with
  cfg := (Task.reset.cfg &&& ~~~(putB 512 108 true)) ||| (old &&& putB 512 108 true), failPts := some pts }

/-- The entry of a damaged task (R329). -/
def Task.damaged (k : Task) (pts : List Nat) : Task := (k.counted.failed 3).emptied k.cfg pts

theorem taskEntryMemory_eq (t : Nat) (d : Dev) : taskEntryMemory t d =
    (taskFault t 3 (report (ev 0x0703 true t 0) (countUncorr (d.setTask t (d.task t).counted)))).modTask t
      (·.emptied (d.task t).cfg ((d.task t).failPts.getD (d.imagePoints t))) := by
  unfold taskEntryMemory Task.emptied Task.counted
  dsimp only

theorem taskEntryMemory_holds (t : Nat) (d : Dev) :
    d.setsTask t ((d.task t).damaged ((d.task t).failPts.getD (d.imagePoints t))) (taskEntryMemory t d) ∧
      (taskEntryMemory t d).ps = d.ps ∧ (taskEntryMemory t d).flt.eccUncorr = satAdd d.flt.eccUncorr 1 := by
  rw [taskEntryMemory_eq]
  generalize (d.task t).failPts.getD (d.imagePoints t) = pts
  unfold Task.damaged
  generalize (d.task t).cfg = old
  have h1 := Dev.setsTask_marks (setTask_setsTask t (d.task t).counted d) (Dev.marks_trans (countUncorr_marks _)
    (report_marks (ev 0x0703 true t 0) (countUncorr (d.setTask t (d.task t).counted))))
  have hps : (report (ev 0x0703 true t 0) (countUncorr (d.setTask t (d.task t).counted))).ps = d.ps := by simp [countUncorr]
  have hec : (report (ev 0x0703 true t 0) (countUncorr (d.setTask t (d.task t).counted))).flt.eccUncorr =
      satAdd d.flt.eccUncorr 1 := by
    rw [Dev.reportsTo_uncorr (report_reportsTo ..)]
    simp [countUncorr]
  generalize report (ev 0x0703 true t 0) (countUncorr (d.setTask t (d.task t).counted)) = b at h1 hps hec ⊢
  obtain ⟨h2, h3, h4⟩ := taskFault_holds t 3 b
  rw [(h1.2.1 t).trans (if_pos rfl)] at h2
  have h5 := Dev.setsTask_trans h1 h2
  generalize taskFault t 3 b = c at h3 h4 h5 ⊢
  have h6 := modTask_setsTask t (·.emptied old pts) c
  rw [(h5.2.1 t).trans (if_pos rfl)] at h6
  refine ⟨Dev.setsTask_trans h5 h6, ?_, ?_⟩
  · rw [Dev.modTask_ps]
    exact h3.trans hps
  · rw [Dev.modTask_flt]
    exact h4.trans hec

theorem bankMemory_found {i : Nat} {d : Dev} (h : tget false d.lg.marked i = false)
    (hrun : ∀ m < 8, (d.task m).st = .running → (d.task m).bank = i / 131072 → (d.task m).holds (i / 131072) (i % 131072) = false) :
    bankMemory i d = report (ev 0x0708 true i 0) (countUncorr (d.marking i)) := by
  refine if_neg ?_
  rw [h, Bool.false_or, List.any_eq_true]
  rintro ⟨m, hm, hc⟩
  rw [Bool.and_eq_true, Bool.and_eq_true, beq_iff_eq, beq_iff_eq] at hc
  obtain ⟨⟨h1, h2⟩, h3⟩ := hc
  exact Bool.noConfusion ((hrun m (List.mem_range.1 hm) h1 h2).symm.trans h3)

theorem bankMemory_known {i : Nat} {d : Dev} (h : tget false d.lg.marked i = true ∨ ∃ m < 8, (d.task m).st = .running ∧
    (d.task m).bank = i / 131072 ∧ (d.task m).holds (i / 131072) (i % 131072) = true) : bankMemory i d = d := by
  refine if_pos ?_
  obtain h | ⟨m, hm, h1, h2, h3⟩ := h
  · rw [h, Bool.true_or]
  · rw [Bool.or_eq_true, List.any_eq_true]
    refine .inr ⟨m, List.mem_range.2 hm, ?_⟩
    rw [Bool.and_eq_true, Bool.and_eq_true, beq_iff_eq, beq_iff_eq]
    exact ⟨⟨h1, h2⟩, h3⟩

/-- Settles O45. -/
theorem taskEvents : Obligations.TaskEvents := by
  intro s n hs hn k cfg only
  refine ⟨fun hst h => ?_, fun hst h => ?_, fun pos iid hw hst => ?_, fun pos iid hw hst => ?_, ?_, fun i hi hrun hm => ?_,
    fun i hi h => ?_⟩
  · refine (taskEnWrite_on hs hn rfl hst h).mono fun t ⟨cost, outs, ins, ht, hb, hk, hf⟩ => ?_
    have hself := (ht n).trans (if_pos rfl)
    refine ⟨⟨fun m hm => (ht m).trans (if_neg hm), hb, hk, hf⟩, ?_⟩
    rw [hself]
    exact ⟨rfl, rfl, rfl, rfl, rfl, rfl⟩
  · refine (taskEnWrite_off hs hn rfl hst h).mono fun t ⟨ht, hb, hk, hp, hf⟩ => ?_
    have hself := (ht n).trans (if_pos rfl)
    refine ⟨⟨fun m hm => (ht m).trans (if_neg hm), hb, hk, hf⟩, ?_⟩
    rw [hself]
    exact ⟨rfl, rfl, rfl, rfl, hp⟩
  · refine Runs.mainChecked (f := taskMemory n pos iid) rfl hw hs ?_
    obtain ⟨ho, ht, hb, hk, hm, hp, he⟩ := taskMemory_holds (d := s.dev.fresh0) (pos := pos) (iid := iid) hst
    obtain ⟨tt, tlg, tps, tflt, hf⟩ := tasks_after ho
    generalize s.after (taskMemory n pos iid s.dev.fresh0) = t at tt tlg tps tflt hf ⊢
    have htask (m : Nat) := (tt m).trans (ht m)
    have hself : t.dev.task n = k.due pos iid := (htask n).trans (if_pos rfl)
    have hmark (q : Nat) : tget false t.dev.lg.marked q = _ := (congrArg (fun x : Logic => tget false x.marked q) tlg).trans (hm q)
    refine ⟨⟨fun m hne => (htask m).trans (if_neg hne), (congrArg Logic.banks tlg).trans hb, (congrArg Logic.tick tlg).trans hk, hf⟩,
      hself, tps.trans hp, hmark, (congrArg FaultRegs.eccUncorr tflt).trans he, fun hd => ?_⟩
    have hdue : (t.dev.task n).memDue = some (pos, iid) := by rw [hself, Task.due_first hd]; rfl
    obtain ⟨c1, c2, c3, c4, c5, c6, c7⟩ := taskCommit_memDue hdue
    refine ⟨c1, c2, c3.trans (by rw [hself]; rfl), c4, c5, fun m hne => (c6 m hne).trans ((htask m).trans (if_neg hne)), ?_⟩
    rw [c7]
    exact (hmark _).trans (if_pos rfl)
  · exact Runs.stays (f := taskMemory n pos iid) rfl hw hs (if_pos hst)
  · refine Runs.mainChecked (f := taskEntryMemory n) rfl (decide_eq_true hn) hs ?_
    obtain ⟨⟨ho, ht, hb, hk, -⟩, hp, he⟩ := taskEntryMemory_holds n s.dev.fresh0
    obtain ⟨tt, tlg, tps, tflt, hf⟩ := tasks_after ho
    generalize s.after (taskEntryMemory n s.dev.fresh0) = t at tt tlg tps tflt hf ⊢
    have htask (m : Nat) := (tt m).trans (ht m)
    have hself : t.dev.task n = k.damaged (k.failPts.getD (s.dev.imagePoints n)) := (htask n).trans (if_pos rfl)
    refine ⟨⟨fun m hne => (htask m).trans (if_neg hne), (congrArg Logic.banks tlg).trans hb, (congrArg Logic.tick tlg).trans hk, hf⟩,
      by rw [hself]; rfl, by rw [hself]; rfl, by rw [hself]; rfl, tps.trans hp, by rw [hself]; rfl,
      (congrArg FaultRegs.eccUncorr tflt).trans he, fun hfp p hpm hdrop hsub hq => ?_⟩
    have hpl : p ∈ t.dev.failedPoints n := by
      have hpts : k.failPts.getD (s.dev.imagePoints n) = s.dev.imagePoints n := by rw [hfp]; rfl
      have howns : s.dev.taskOwns n p = true := (Bool.and_eq_true_iff.1 (List.mem_filter.1 hpm).2).1
      unfold Dev.failedPoints
      rw [hself, hpts]
      refine List.mem_filter.2 ⟨hpm, ?_⟩
      rw [← howns]
      unfold Dev.taskOwns Dev.point
      rw [tps.trans hp]
      rfl
    have hpt : t.dev.point p = s.dev.point p := by
      unfold Dev.point
      rw [tps.trans hp]
      rfl
    obtain ⟨-, hcommit⟩ := taskDeliver_holds (t := n) (d := t.dev) (by rw [hself]; rfl) (by rw [hself]; rfl)
    dsimp only
    rw [taskCommit_plain (by rw [hself]; rfl), hcommit p (by rw [hself]; exact hdrop), ← hpt]
    exact failPoints_point _ _ hpl (by rw [hpt]; exact hq) (by rw [hpt]; exact hsub)
  · refine Runs.mainChecked (f := bankMemory i) rfl (decide_eq_true hi) hs ?_
    obtain ⟨ho, ht, hb, hk, hmk, hp, he⟩ := countMarked_marksEntry (d := s.dev.fresh0) hm
    rw [bankMemory_found (d := s.dev.fresh0) hm hrun]
    generalize countUncorr (s.dev.fresh0.marking i) = b at ho ht hb hk hmk hp he ⊢
    have hrm := report_marks (ev 0x0708 true i 0) b
    obtain ⟨tt, tlg, tps, tflt, hf⟩ := tasks_after (Dev.onlyTasks_trans ho (Dev.onlyTasks_of_marks hrm))
    have hlg : (report (ev 0x0708 true i 0) b).lg = b.lg := (Dev.marks_keeps hrm).1
    have hps : (report (ev 0x0708 true i 0) b).ps = b.ps := by simp
    have hec := Dev.reportsTo_uncorr (report_reportsTo (ev 0x0708 true i 0) b)
    generalize report (ev 0x0708 true i 0) b = a at tt tlg tps tflt hf hlg hps hec ⊢
    have htask (m : Nat) : (s.after a).dev.task m = s.dev.task m :=
      (tt m).trans ((congrArg (fun x : Logic => tget Task.reset x.tasks m) hlg).trans (ht m))
    have hl := tlg.trans hlg
    refine ⟨⟨fun m _ => htask m, (congrArg Logic.banks hl).trans hb, (congrArg Logic.tick hl).trans hk, hf⟩, htask n,
      (tps.trans hps).trans hp, fun q => (congrArg (fun x : Logic => tget false x.marked q) hl).trans (hmk q), ?_⟩
    refine ((congrArg FaultRegs.eccUncorr tflt).trans hec).trans (he.trans (if_neg ?_))
    rw [show tget false s.dev.fresh0.lg.marked i = false from hm]
    decide
  · exact Runs.stays (f := bankMemory i) rfl (decide_eq_true hi) hs (bankMemory_known (d := s.dev.fresh0) h)

end Sys2Proof.Machine
end

section
/-!
The session handshake, enrolment and the ends of a session (R572, R576 to R582, R585).
-/
namespace Sys2Proof.Machine

/-! ### What goes out (R578) -/

/-- A handshake message of one kind of body, sent or not sent at a port. -/
def hsSends (s : State) (port : Nat) (mac : BitVec 48) (body : List Byte → Prop) (t : State) : Prop :=
  (s.dev.maySend port = true → ∃ head b : List Byte, head.length = 16 ∧ body b ∧ t.dev.out =
    [.eth port mac 0x8100 (beBytes 2 (s.dev.port port).vid.toNat ++ beBytes 2 0x88B6 ++ head ++ b)]) ∧
  (s.dev.maySend port = false → t.dev.out = [])

theorem hsSend_eq (port : Nat) (mac : BitVec 48) (id : Reg) (msg : Nat) (body : List Byte) (d : Dev) :
    ∃ head : List Byte, head.length = 16 ∧ hsSend port mac id msg body d = d.withOut (if d.maySend port then
      d.out ++ [.eth port mac 0x8100 (beBytes 2 (d.port port).vid.toNat ++ beBytes 2 0x88B6 ++ head ++ body)] else d.out) := by
  unfold hsSend
  dsimp only
  split
  · exact ⟨_, by simp, rfl⟩
  · exact ⟨List.replicate 16 0, by simp, rfl⟩

/-- A message sent, seen on the state after it. -/
theorem hsSends_of {s : State} {port : Nat} {mac : BitVec 48} {id : Reg} {msg : Nat} {b : List Byte} {body : List Byte → Prop}
    {d a : Dev} (hbody : body b) (hd : d.out = []) (hm : d.maySend port = s.dev.maySend port)
    (hv : (d.port port).vid = (s.dev.port port).vid) (ha : a.out = (hsSend port mac id msg b d).out) :
    hsSends s port mac body (s.after a) := by
  obtain ⟨head, hlen, he⟩ := hsSend_eq port mac id msg b d
  have hout : (s.after a).dev.out = if d.maySend port then
      d.out ++ [.eth port mac 0x8100 (beBytes 2 (d.port port).vid.toNat ++ beBytes 2 0x88B6 ++ head ++ b)] else d.out := by
    have h : (s.after a).dev.out = a.out := by simp
    rw [h, ha, he]
    rfl
  rw [hm, hd, hv, List.nil_append] at hout
  refine ⟨fun h => ⟨head, b, hlen, hbody, hout.trans (if_pos h)⟩, fun h => hout.trans (if_neg (by rw [h]; decide))⟩

/-! ### What the security unit changes -/

/-- The module with another security unit. -/
def Dev.withSec (d : Dev) (x : Sec) : Dev := { d with sec := x }

/-- From `d` to `d'` the security unit has changed, beside what reports write, what goes out and the choices taken. -/
def Dev.onlySec (d d' : Dev) : Prop := d.reportsTo d' ∧ d' = { d with
  sec := d'.sec, fresh := d'.fresh, out := d'.out, tr := d'.tr, rcd := d'.rcd, flt := d'.flt }

theorem Dev.onlySec_trans {a b c : Dev} (h1 : a.onlySec b) (h2 : b.onlySec c) : a.onlySec c := by
  obtain ⟨hr, he⟩ := h1
  obtain ⟨hr', he'⟩ := h2
  exact ⟨Dev.reportsTo_trans hr hr', by rw [he', he]⟩

theorem report_onlySec (e : Event) (d : Dev) : d.onlySec (report e d) := by
  have h := report_reportsOnly e d
  unfold Dev.reportsOnly at h
  exact ⟨report_reportsTo .., by rw [h]⟩

theorem withSec_onlySec (d : Dev) (x : Sec) : d.onlySec (d.withSec x) := ⟨Dev.reportsTo_of_eq rfl rfl rfl, rfl⟩

theorem hsSend_onlySec (port : Nat) (mac : BitVec 48) (id : Reg) (msg : Nat) (body : List Byte) (d : Dev) :
    d.onlySec (hsSend port mac id msg body d) := by
  obtain ⟨_, -, he⟩ := hsSend_eq port mac id msg body d
  rw [he]
  exact ⟨Dev.reportsTo_of_eq rfl rfl rfl, rfl⟩

/-- The state after such an event. -/
theorem onlySec_after {s : State} {a : Dev} (h : s.dev.fresh0.onlySec a) :
    (s.after a).dev.sec = a.sec ∧ s.frame (s.after a) { s.dev with sec := a.sec, fresh := a.fresh } := by
  obtain ⟨hr, he⟩ := h
  refine ⟨by simp, State.frame_of_eq (Dev.reportsTo_congr hr rfl rfl rfl) (by rw [he]; rfl) (by rw [he]; rfl)⟩

/-! ### Refusals (R580, R581) -/

/-- The security unit after a refusal with a reason. -/
def Sec.refused (k : Sec) (hs : Option Handshake) (r : Nat) (sample : Nat) : Sec := { k with
  hs := hs, failCnt := k.failCnt + 1, lastReason := BitVec.ofNat 8 r, badSig := if r = 3 then some (0, sample) else k.badSig }

/-- A refusal: RESULT with its reason, and the counts. -/
def hsRefused (s : State) (port : Nat) (mac : BitVec 48) (hs : Option Handshake) (r : Nat) (t : State) : Prop :=
  hsSends s port mac (fun b => b = [BitVec.ofNat 8 r, 0, 0, 0]) t ∧ t.dev.sec = s.dev.sec.refused hs r s.dev.tb.sample ∧
    s.frame t { s.dev with sec := s.dev.sec.refused hs r s.dev.tb.sample }

theorem hsRefuse_after (s : State) (port : Nat) (mac : BitVec 48) (id : Reg) (hs : Option Handshake) (r : Nat) :
    hsRefused s port mac hs r (s.after (hsRefuse port mac id r (s.dev.fresh0.withSec { s.dev.sec with hs := hs }))) := by
  obtain ⟨head, -, hsend⟩ := hsSend_eq port mac id 5 [BitVec.ofNat 8 r, 0, 0, 0] (s.dev.fresh0.withSec { s.dev.sec with hs := hs })
  have he : hsRefuse port mac id r (s.dev.fresh0.withSec { s.dev.sec with hs := hs }) = report (ev 0x0F03 true 0 r)
      ((hsSend port mac id 5 [BitVec.ofNat 8 r, 0, 0, 0] (s.dev.fresh0.withSec { s.dev.sec with hs := hs })).withSec
        (s.dev.sec.refused hs r s.dev.tb.sample)) := by
    unfold hsRefuse hsResult
    rw [hsend]
    rfl
  have hout : (hsRefuse port mac id r (s.dev.fresh0.withSec { s.dev.sec with hs := hs })).out =
      (hsSend port mac id 5 [BitVec.ofNat 8 r, 0, 0, 0] (s.dev.fresh0.withSec { s.dev.sec with hs := hs })).out := by
    rw [he]
    simp [Dev.withSec]
  have hsec : (hsRefuse port mac id r (s.dev.fresh0.withSec { s.dev.sec with hs := hs })).sec =
      s.dev.sec.refused hs r s.dev.tb.sample := by
    rw [he]
    simp [Dev.withSec]
  have hfresh : (hsRefuse port mac id r (s.dev.fresh0.withSec { s.dev.sec with hs := hs })).fresh = s.dev.fresh := by
    rw [he, hsend]
    simp [Dev.withSec, Dev.withOut, Dev.fresh0]
  have honly : s.dev.fresh0.onlySec (hsRefuse port mac id r (s.dev.fresh0.withSec { s.dev.sec with hs := hs })) := by
    rw [he]
    exact Dev.onlySec_trans (withSec_onlySec ..) (Dev.onlySec_trans (hsSend_onlySec ..)
      (Dev.onlySec_trans (withSec_onlySec ..) (report_onlySec ..)))
  generalize hsRefuse port mac id r (s.dev.fresh0.withSec { s.dev.sec with hs := hs }) = a at hout hsec hfresh honly ⊢
  obtain ⟨h1, h2⟩ := onlySec_after honly
  rw [hsec] at h1 h2
  rw [hfresh] at h2
  refine ⟨hsSends_of (d := s.dev.fresh0.withSec { s.dev.sec with hs := hs }) rfl rfl rfl rfl hout, h1, h2⟩

/-! ### Frames of the handshake (R203, R204, R578) -/

theorem hsArrive_dropped {f : HsIn} (act : Dev → Dev) {d : Dev} (h : (d.port f.port).rxOk f.head = false) :
    hsArrive f act d = rxDropped f.port d := rxArrive_dropped _ (by rw [h]; decide)

/-- A frame with another tag, or of another kind, is no handshake message. -/
theorem hsArrive_other {f : HsIn} (act : Dev → Dev) {d : Dev} (hok : (d.port f.port).rxOk f.head = true)
    (h : (∀ prio, f.head.tag ≠ some (prio, (d.port f.port).vid)) ∨ f.head.etherType ≠ 0x88B6) :
    hsArrive f act d = d := by
  unfold hsArrive
  cases ht : (d.port f.port).takes f.port f.head
  · exact rxArrive_left _ hok ht
  · rw [rxArrive_taken _ hok ht]
    refine if_neg fun he => ?_
    refine h.elim (fun h => ?_) fun h => h he
    unfold Port.takes at ht
    cases htag : f.head.tag with
    | some t =>
      rw [htag] at ht
      have hv : t.2 = (d.port f.port).vid := eq_of_beq (Bool.and_eq_true_iff.1 ht).2
      exact h t.1 (by rw [htag, ← hv])
    | none =>
      rw [htag, he] at ht
      simp at ht

theorem hsArrive_taken {f : HsIn} (act : Dev → Dev) {d : Dev} (hok : (d.port f.port).rxOk f.head = true)
    (ht : (d.port f.port).takes f.port f.head = true) (he : f.head.etherType = 0x88B6) : hsArrive f act d = act d := by
  unfold hsArrive
  rw [rxArrive_taken _ hok ht]
  exact if_pos he

/-- The four messages are frames. -/
theorem hs_exec {f : HsIn} {i : Instr} (hi : i ∈ [Instr.hostHello f, .hostFinish f, .enroll f, .sessionEnd f]) (s : State) :
    ∃ act, exec i s = checked i (mainStep (hsArrive f act) s) ∧ i.wellFormed = decide (f.port < 2) := by
  simp only [List.mem_cons, List.not_mem_nil, or_false] at hi
  rcases hi with rfl | rfl | rfl | rfl
  · exact ⟨hostHello f, rfl, rfl⟩
  · exact ⟨hostFinish f, rfl, rfl⟩
  · exact ⟨enroll f, rfl, rfl⟩
  · exact ⟨sessionEnd f, rfl, rfl⟩

/-- A command that takes a frame of the handshake. -/
theorem Runs.hsTaken {i : Instr} {f : HsIn} {act : Dev → Dev} {s : State} {p : State → Prop}
    (hx : exec i s = checked i (mainStep (hsArrive f act) s)) (hw : i.wellFormed = true) (hs : s.up)
    (hok : (s.dev.port f.port).rxOk f.head = true) (ht : (s.dev.port f.port).takes f.port f.head = true)
    (he : f.head.etherType = 0x88B6) (hp : p (s.after (act s.dev.fresh0))) : Runs i s p := by
  refine Runs.mainChecked (f := hsArrive f act) hx hw hs ?_
  rw [hsArrive_taken act (d := s.dev.fresh0) hok ht he]
  exact hp

/-! ### HOST_HELLO (R580) -/

/-- Is HOST_HELLO answered with BUSY. -/
def Dev.hsBusy (d : Dev) : Bool := d.sec.session || d.sec.hs.isSome || d.signing

theorem Dev.hsBusy_iff (d : Dev) : d.hsBusy = true ↔ d.sec.session = true ∨ d.sec.hs.isSome = true ∨
    ∃ b, d.sec.badSig = some b ∧ ¬32000 + b.2 < 32 * b.1 + d.tb.sample := by
  have hs : d.signing = true ↔ ∃ b, d.sec.badSig = some b ∧ ¬32000 + b.2 < 32 * b.1 + d.tb.sample := by
    unfold Dev.signing Dev.over1s
    cases d.sec.badSig with
    | none => simp
    | some b => simp
  unfold Dev.hsBusy
  rw [Bool.or_eq_true, Bool.or_eq_true, hs, or_assoc]

theorem hostHello_none {f : HsIn} {d : Dev} (h : hsParse 1 84 f d = none) : hostHello f d = d := by
  unfold hostHello
  rw [h]

theorem hostHello_busy {f : HsIn} {d : Dev} {id : Reg} {body : List Byte} (h : hsParse 1 84 f d = some (id, body))
    (hb : d.hsBusy = true) : hostHello f d = hsRefuse f.port f.mac id 1 d := by
  unfold hostHello
  rw [h]
  exact if_pos hb

section
variable {f : HsIn} {d : Dev} {id : Reg} {body : List Byte} (h : hsParse 1 84 f d = some (id, body)) (hb : ¬d.hsBusy = true)
include h hb

theorem hostHello_blank (hl : d.fuses.lifecycle = 0 ∨ 4 ≤ d.fuses.lifecycle) :
    hostHello f d = hsRefuse f.port f.mac id 8 d := by
  unfold hostHello
  rw [h]
  exact (if_neg hb).trans (if_pos hl)

theorem hostHello_noKey (hl : ¬(d.fuses.lifecycle = 0 ∨ 4 ≤ d.fuses.lifecycle)) (hk : d.helloKey (body.headD 0).toNat = none) :
    hostHello f d = hsRefuse f.port f.mac id 2 d := by
  unfold hostHello
  rw [h]
  exact (if_neg hb).trans ((if_neg hl).trans (if_pos hk))

theorem hostHello_noEntropy (hl : ¬(d.fuses.lifecycle = 0 ∨ 4 ≤ d.fuses.lifecycle)) (hk : d.helloKey (body.headD 0).toNat ≠ none)
    (he : d.sec.entropyFail = true) : hostHello f d = hsRefuse f.port f.mac id 7 d := by
  unfold hostHello
  rw [h]
  exact (if_neg hb).trans ((if_neg hl).trans ((if_neg hk).trans (if_pos he)))

theorem hostHello_noPoint (hl : ¬(d.fuses.lifecycle = 0 ∨ 4 ≤ d.fuses.lifecycle)) (hk : d.helloKey (body.headD 0).toNat ≠ none)
    (he : d.sec.entropyFail = false) (hq : p256Point (body.drop 20) = none) : hostHello f d = hsRefuse f.port f.mac id 5 d := by
  unfold hostHello
  rw [h]
  refine (if_neg hb).trans ((if_neg hl).trans ((if_neg hk).trans ((if_neg (by rw [he]; decide)).trans ?_)))
  rw [hq]

end

theorem p256Bytes_length (q : Option (Nat × Nat)) : (p256Bytes q).length = 64 := by
  cases q <;> simp [p256Bytes]

theorem ecdsaSign_length (d k : Nat) (digest : List Byte) : (ecdsaSign d k digest).length = 64 := by
  unfold ecdsaSign
  split <;> simp

theorem freeBytes_length (n : Nat) (d : Dev) : (freeBytes n d).1.length = n := by simp [freeBytes]

/-- The module after it has used free numbers up to `n`. -/
def Dev.withFresh (d : Dev) (n : Nat) : Dev := { d with fresh := n }

/-- HOST_HELLO taken: MOD_HELLO, and a handshake that waits for HOST_FINISH (R580). -/
theorem hostHello_good {f : HsIn} {d : Dev} {id : Reg} {body : List Byte} {q : Nat × Nat}
    (h : hsParse 1 84 f d = some (id, body)) (hb : ¬d.hsBusy = true)
    (hl : ¬(d.fuses.lifecycle = 0 ∨ 4 ≤ d.fuses.lifecycle)) (hk : d.helloKey (body.headD 0).toNat ≠ none)
    (he : d.sec.entropyFail = false) (hq : p256Point (body.drop 20) = some q) : ∃ n tr z b, b.length = 148 ∧
      hostHello f d = hsSend f.port f.mac id 2 b ((d.withFresh n).withSec
        { d.sec with hs := some ⟨id, (body.headD 0).toNat, tr, z, f.mac, f.port, 0, d.tb.sample⟩ }) := by
  let nm := freeBytes 16 d
  let e := freeBytes 32 nm.2
  let k := freeBytes 32 e.2
  let x := scalarOf (beNat e.1)
  let qm := p256Bytes (p256Mul x (some p256G))
  let t := sha256 (body ++ d.serialBytes ++ nm.1 ++ qm)
  refine ⟨d.fresh + 16 + 32 + 32, t, (p256Bytes (p256Mul x (some q))).take 32,
    nm.1 ++ qm ++ ecdsaSign d.deviceScalar (scalarOf (beNat k.1)) t ++ [BitVec.ofNat 8 d.fuses.lifecycle, 0, 0, 0], ?_, ?_⟩
  · simp only [List.length_append, ecdsaSign_length, List.length_cons, List.length_nil, nm, qm, p256Bytes_length, freeBytes_length]
  · unfold hostHello
    rw [h]
    refine (if_neg hb).trans ((if_neg hl).trans ((if_neg hk).trans ((if_neg (by rw [he]; decide)).trans ?_)))
    rw [hq]
    rfl

/-- A handshake that begins, seen on the state after it. -/
theorem hello_after (s : State) (port : Nat) (mac : BitVec 48) (id : Reg) {b : List Byte} (hb : b.length = 148) (n : Nat) (x : Sec) :
    let t := s.after (hsSend port mac id 2 b ((s.dev.fresh0.withFresh n).withSec x))
    t.dev.sec = x ∧ hsSends s port mac (fun b => b.length = 148) t ∧
      s.frame t { s.dev with sec := t.dev.sec, fresh := t.dev.fresh } := by
  obtain ⟨head, -, he⟩ := hsSend_eq port mac id 2 b ((s.dev.fresh0.withFresh n).withSec x)
  have hsec : (hsSend port mac id 2 b ((s.dev.fresh0.withFresh n).withSec x)).sec = x := by rw [he]; rfl
  have honly : s.dev.fresh0.onlySec (hsSend port mac id 2 b ((s.dev.fresh0.withFresh n).withSec x)) := by
    rw [he]
    exact ⟨Dev.reportsTo_of_eq rfl rfl rfl, rfl⟩
  have hsends : hsSends s port mac (fun b => b.length = 148)
      (s.after (hsSend port mac id 2 b ((s.dev.fresh0.withFresh n).withSec x))) :=
    hsSends_of (d := (s.dev.fresh0.withFresh n).withSec x) hb rfl rfl rfl rfl
  generalize hsSend port mac id 2 b ((s.dev.fresh0.withFresh n).withSec x) = a at hsec honly hsends ⊢
  obtain ⟨h1, h2⟩ := onlySec_after honly
  have hf : (s.after a).dev.fresh = a.fresh := by simp
  dsimp only
  refine ⟨h1.trans hsec, hsends, ?_⟩
  rw [h1, hf]
  exact h2

/-! ### The pending handshake and the ends of a session (R580, R582, R585) -/

theorem hostFinish_none {f : HsIn} {d : Dev} (h : hsParse 3 208 f d = none) : hostFinish f d = d := by
  unfold hostFinish
  rw [h]

theorem hostFinish_noHello {f : HsIn} {d : Dev} {id : Reg} {body : List Byte} (h : hsParse 3 208 f d = some (id, body))
    (hh : d.sec.hs = none) : hostFinish f d = hsRefuse f.port f.mac id 5 d := by
  unfold hostFinish
  rw [h]
  dsimp only
  rw [hh]

section
variable {f : HsIn} {d : Dev} {id : Reg} {body : List Byte} {x : Handshake} (h : hsParse 3 208 f d = some (id, body))
  (hh : d.sec.hs = some x)
include h hh

theorem hostFinish_stray (hid : id ≠ x.hsId) : hostFinish f d = hsFail f.port f.mac id 5 d := by
  unfold hostFinish
  rw [h]
  dsimp only
  rw [hh]
  exact if_pos hid

theorem hostFinish_late (hid : id = x.hsId) (ho : d.over1s x.age x.sample = true) :
    hostFinish f d = hsFail f.port f.mac id 4 d := by
  unfold hostFinish
  rw [h]
  dsimp only
  rw [hh]
  exact (if_neg (not_not_intro hid)).trans (if_pos ho)

/-- Channel 64 as HOST_FINISH describes it. -/
def Dev.finishChannel (d : Dev) (body : List Byte) : Channel :=
  { d.chan 64 with cfg := leBits 1024 (body.take 128) &&& descMask, openGen := 0 }

theorem hostFinish_badSig (hid : id = x.hsId) (ho : d.over1s x.age x.sample = false)
    (hv : ecdsaVerify ((d.helloKey x.slot).getD []) (sha256 (x.t ++ body.take 144)) (body.drop 144) = false) :
    hostFinish f d = hsFail f.port f.mac id 3 d := by
  unfold hostFinish
  rw [h]
  dsimp only
  rw [hh]
  exact (if_neg (not_not_intro hid)).trans ((if_neg (by rw [ho]; decide)).trans (if_pos (by rw [hv]; rfl)))

/-- A good HOST_FINISH: refused for its channel or its address, or the session is made. -/
theorem hostFinish_good (hid : id = x.hsId) (ho : d.over1s x.age x.sample = false)
    (hv : ecdsaVerify ((d.helloKey x.slot).getD []) (sha256 (x.t ++ body.take 144)) (body.drop 144) = true) :
    hostFinish f d = hsFail f.port f.mac id 6 d ∨ ∃ d1, portAddress (d.finishChannel body) ((body.drop 128).take 16) d = some d1 ∧
      hostFinish f d = establish f x (sha256 (x.t ++ body.take 144)) (d1.setChan 64 (d.finishChannel body)) := by
  unfold hostFinish
  rw [h]
  dsimp only
  rw [hh]
  dsimp only
  rw [if_neg (not_not_intro hid), if_neg (by rw [ho]; decide), if_neg (by rw [hv]; decide)]
  split
  · exact .inl rfl
  · next d1 hp =>
    split
    · exact .inr ⟨d1, hp, rfl⟩
    · exact .inl rfl

end

/-! ### Channels that close together (R572, R582) -/

/-- From `d` to `d'` channels, the command processor, the security unit, ports and their queues have changed, beside what
reports write and what goes out. -/
def Dev.closes (d d' : Dev) : Prop := d' = { d with
    cp := d'.cp, tr := d'.tr, rcd := d'.rcd, flt := d'.flt, eg := d'.eg, out := d'.out, sec := d'.sec, ports := d'.ports } ∧
  d.rcd.butRecords d'.rcd ∧ d.flt.butNoted d'.flt

theorem Dev.closes_refl (d : Dev) : d.closes d := ⟨rfl, rfl, rfl⟩

theorem Dev.closes_trans {a b c : Dev} (h1 : a.closes b) (h2 : b.closes c) : a.closes c := by
  obtain ⟨he, hr, hf⟩ := h1
  obtain ⟨he', hr', hf'⟩ := h2
  exact ⟨by rw [he', he], Recorder.butRecords_trans hr hr', FaultRegs.butNoted_trans hf hf'⟩

theorem Dev.closes_of_serves {ch : Nat} {a b : Dev} (h : a.serves ch b) : a.closes b := by
  obtain ⟨he, -, -, hr, hf⟩ := h
  exact ⟨by rw [he], hr, hf⟩

/-- The state after such an operation. -/
theorem closes_after {s : State} {a : Dev} (h : s.dev.fresh0.closes a) :
    let t := s.after a
    s.frame t { s.dev with tr := t.dev.tr, cp := t.dev.cp, sec := t.dev.sec, ports := t.dev.ports, eg := a.eg } := by
  obtain ⟨he, hr, hf⟩ := h
  have hc : (s.after a).dev.cp = a.cp := by simp
  have hs : (s.after a).dev.sec = a.sec := by simp
  have hp : (s.after a).dev.ports = a.ports := by simp
  have hfr : s.frame (s.after a) { s.dev with tr := a.tr, cp := a.cp, sec := a.sec, ports := a.ports, eg := a.eg } :=
    State.frame_of_eq ⟨fun _ => rfl, rfl, hr, hf⟩ (by rw [he]; rfl) (by rw [he]; rfl)
  dsimp only
  rw [hc, hs, hp]
  exact State.frame_ownTr hfr

theorem dropEgress_congr {ch : Nat} {a b : Dev} (h : a.eg = b.eg) : (dropEgress ch a).eg = (dropEgress ch b).eg := by
  unfold dropEgress
  rw [h]

/-- A channel that closes (R173): it is closed, the other channels keep their states. -/
theorem closeChannel_holds (ch : Nat) (d : Dev) : d.closes (closeChannel ch d) ∧
    (∀ j, ((closeChannel ch d).chan j).st = if j = ch then .closed else (d.chan j).st) ∧
    (closeChannel ch d).eg = (if (d.chan ch).st == .opened then (dropEgress ch d).eg else d.eg) ∧
    (closeChannel ch d).out = d.out ∧ (closeChannel ch d).sec = d.sec ∧ (closeChannel ch d).ports = d.ports := by
  cases hst : (d.chan ch).st with
  | closed =>
    have he : closeChannel ch d = d := by
      unfold closeChannel
      rw [hst]
    rw [he]
    refine ⟨Dev.closes_refl d, fun j => ?_, rfl, rfl, rfl, rfl⟩
    split
    · next h => rw [h, hst]
    · rfl
  | error =>
    have he : ∃ e, closeChannel ch d = report e (d.modChan ch (fun c => { c with st := .closed })) := by
      unfold closeChannel
      rw [hst]
      exact ⟨_, rfl⟩
    obtain ⟨e, he⟩ := he
    obtain ⟨r1, r2, r3⟩ := report_same e (d.modChan ch (fun c => { c with st := .closed }))
    rw [he]
    refine ⟨Dev.closes_of_serves (Dev.serves_trans (modChan_serves ..) (report_serves ch ..)), fun j => ?_, r2, r3, by simp, by simp⟩
    have hb := report_butDrops e (d.modChan ch (fun c => { c with st := .closed })) j
    rw [congrArg Channel.st hb, Dev.chan_modChan]
    split <;> rfl
  | opened =>
    obtain ⟨e, he⟩ := closeChannel_opened hst
    obtain ⟨h1, h2, -, h4, h5⟩ := stopChannel_holds ch .closed (d.chan ch).errCode e d
    rw [he]
    generalize stopChannel ch .closed (d.chan ch).errCode e d = b at h1 h2 h4 h5 ⊢
    have hcl := Dev.closes_of_serves h1
    obtain ⟨heq, -, hother, -, -⟩ := h1
    refine ⟨hcl, fun j => ?_, h4, h5, by rw [heq], by rw [heq]⟩
    split
    · next h =>
      rw [h, congrArg Channel.st h2]
    · next h =>
      rw [congrArg Channel.st (hother j h)]

/-- The first `n` channels closed. -/
def closeAll (n : Nat) (d : Dev) : Dev := (List.range n).foldl (fun d c => closeChannel c d) d

/-- The queues of the ports without the packets of those of the first `n` channels that are open. -/
def Dev.dropsOf (d : Dev) (n : Nat) : Dev :=
  ((List.range n).filter (fun c => (d.chan c).st == .opened)).foldl (fun d c => dropEgress c d) d

theorem Dev.dropsOf_succ (d : Dev) (n : Nat) : d.dropsOf (n + 1) =
    if (d.chan n).st == .opened then dropEgress n (d.dropsOf n) else d.dropsOf n := by
  unfold Dev.dropsOf
  rw [List.range_succ, List.filter_append, List.foldl_append]
  cases h : (d.chan n).st == .opened <;> simp [h]

theorem closeAll_holds (n : Nat) (d : Dev) : d.closes (closeAll n d) ∧
    (∀ j, ((closeAll n d).chan j).st = if j < n then .closed else (d.chan j).st) ∧
    (closeAll n d).eg = (d.dropsOf n).eg ∧ (closeAll n d).out = d.out ∧ (closeAll n d).sec = d.sec ∧
    (closeAll n d).ports = d.ports := by
  induction n with
  | zero => exact ⟨Dev.closes_refl d, fun j => (if_neg (Nat.not_lt_zero j)).symm, rfl, rfl, rfl, rfl⟩
  | succ n ih =>
    obtain ⟨i1, i2, i3, i4, i5, i6⟩ := ih
    have he : closeAll (n + 1) d = closeChannel n (closeAll n d) := by
      unfold closeAll
      rw [List.range_succ, List.foldl_append]
      rfl
    rw [he, Dev.dropsOf_succ]
    obtain ⟨h1, h2, h3, h4, h5, h6⟩ := closeChannel_holds n (closeAll n d)
    refine ⟨Dev.closes_trans i1 h1, fun j => (h2 j).trans ?_, h3.trans ?_, h4.trans i4, h5.trans i5, h6.trans i6⟩
    · rw [i2]
      split
      · next h => rw [if_pos (by omega)]
      · next h => exact if_congr (by omega) rfl rfl
    · rw [i2, if_neg (Nat.lt_irrefl n)]
      split
      · exact dropEgress_congr i3
      · exact i3

theorem modChan_closes (ch : Nat) (f : Channel → Channel) (d : Dev) : d.closes (d.modChan ch f) :=
  Dev.closes_of_serves (modChan_serves ch f d)

theorem report_closes (e : Event) (d : Dev) : d.closes (report e d) := Dev.closes_of_serves (report_serves 0 e d)

theorem withSec_closes (d : Dev) (x : Sec) : d.closes (d.withSec x) := ⟨rfl, rfl, rfl⟩

theorem report_chan_st (e : Event) (d : Dev) (j : Nat) : ((report e d).chan j).st = (d.chan j).st := by
  have h := report_butDrops e d j
  rw [congrArg Channel.st h]

/-! ### The session that is made (R173, R572, R580) -/

/-- Channels whose OPEN_GEN starts again. -/
def clearGens (l : Tbl Channel) (d : Dev) : Dev := l.foldl (fun d c => d.modChan c.1 (fun c => { c with openGen := 0 })) d

theorem clearGens_holds (l : Tbl Channel) (d : Dev) : d.closes (clearGens l d) ∧
    (∀ j, ((clearGens l d).chan j).st = (d.chan j).st) ∧ (clearGens l d).eg = d.eg ∧ (clearGens l d).out = d.out ∧
    (clearGens l d).sec = d.sec ∧ (clearGens l d).ports = d.ports := by
  induction l generalizing d with
  | nil => exact ⟨Dev.closes_refl d, fun _ => rfl, rfl, rfl, rfl, rfl⟩
  | cons c cs ih =>
    obtain ⟨h1, h2, h3, h4, h5, h6⟩ := ih (d.modChan c.1 (fun c => { c with openGen := 0 }))
    refine ⟨Dev.closes_trans (modChan_closes ..) h1, fun j => (h2 j).trans ?_, h3, h4, h5, h6⟩
    rw [Dev.chan_modChan]
    split
    · next h => rw [h]
    · rfl

theorem openChannel_holds (ch : Nat) (d : Dev) : d.closes (openChannel ch d) ∧
    (∀ j, ((openChannel ch d).chan j).st = if j = ch then .opened else (d.chan j).st) ∧
    (openChannel ch d).eg = d.eg ∧ (openChannel ch d).out = d.out ∧ (openChannel ch d).sec = d.sec ∧
    (openChannel ch d).ports = d.ports := by
  obtain ⟨e, he⟩ : ∃ e, openChannel ch d = report e (d.modChan ch Channel.started) := ⟨_, rfl⟩
  obtain ⟨-, r2, r3⟩ := report_same e (d.modChan ch Channel.started)
  rw [he]
  refine ⟨Dev.closes_trans (modChan_closes ..) (report_closes ..), fun j => ?_, r2, r3, by simp, by simp⟩
  rw [report_chan_st, Dev.chan_modChan]
  split <;> rfl

theorem gmac_sixteen (k : BitVec 256) (iv aad : List Byte) : (gmac k iv aad).length = 16 := by
  unfold gmac gcmTag
  simp

/-- A port takes the address that HOST_FINISH gives it. -/
theorem portAddress_holds {c : Channel} {a : List Byte} {d d1 : Dev} (h : portAddress c a d = some d1) :
    ∃ g : Port → Port, d1 = d.modPort c.portNo g ∧ ∀ x, (g x).vid = x.vid ∧ (g x).link = x.link := by
  unfold portAddress at h
  split at h
  · exact ⟨_, (Option.some.inj h).symm, fun _ => ⟨rfl, rfl⟩⟩
  · split at h
    · exact ⟨_, (Option.some.inj h).symm, fun _ => ⟨rfl, rfl⟩⟩
    · exact absurd h nofun

/-- The security unit with a new session. -/
def Sec.begun (x : Sec) (h : Handshake) (t2 : List Byte) : Sec := { x with
  sessionCnt := x.sessionCnt + 1, hsId := h.hsId, sessionSlot := if h.slot < 4 then BitVec.ofNat 4 h.slot else 15
  keyKind := 4, key := sessionKey h.z t2, session := true, hs := none, idle := 0, ending := none }

/-- A session is made (R580). -/
theorem establish_holds (f : HsIn) (h : Handshake) (t2 : List Byte) (d : Dev) : ∃ e : Dev, ∃ b : List Byte, b.length = 16 ∧
    d.closes (establish f h t2 d) ∧ (establish f h t2 d).sec = d.sec.begun h t2 ∧
    (∀ j, ((establish f h t2 d).chan j).st = if j = 64 then .opened else if j < 64 then .closed else (d.chan j).st) ∧
    (establish f h t2 d).eg = (d.dropsOf 64).eg ∧ e.out = d.out ∧ e.ports = d.ports ∧ e.pwr = d.pwr ∧
    (establish f h t2 d).out = (hsSend f.port f.mac h.hsId 4 b e).out := by
  obtain ⟨a1, a2, a3, a4, a5, a6⟩ := closeAll_holds 64 d
  obtain ⟨b1, b2, b3, b4, b5, b6⟩ := clearGens_holds (closeAll 64 d).tr.chans (closeAll 64 d)
  generalize hb : clearGens (closeAll 64 d).tr.chans (closeAll 64 d) = m at b1 b2 b3 b4 b5 b6
  obtain ⟨c1, c2, c3, c4, c5, c6⟩ := openChannel_holds 64 (m.withSec (m.sec.begun h t2))
  generalize ho : openChannel 64 (m.withSec (m.sec.begun h t2)) = e at c1 c2 c3 c4 c5 c6
  let b := gmac (sessionKey h.z t2) [0, 0, 0, 0, 0, 0, 0, 0, 64, 3, 0, 0] t2
  obtain ⟨ev, he⟩ : ∃ ev, establish f h t2 d = report ev (hsSend f.port f.mac h.hsId 4 b e) := by
    rw [← ho, ← hb]
    unfold establish clearGens closeAll
    exact ⟨_, Eq.refl (report _ _)⟩
  have hclose : d.closes e := Dev.closes_trans a1 (Dev.closes_trans b1 (Dev.closes_trans (withSec_closes ..) c1))
  obtain ⟨head, -, hsend⟩ := hsSend_eq f.port f.mac h.hsId 4 b e
  have hs : e.closes (hsSend f.port f.mac h.hsId 4 b e) := by rw [hsend]; exact ⟨rfl, rfl, rfl⟩
  obtain ⟨r1, r2, r3⟩ := report_same ev (hsSend f.port f.mac h.hsId 4 b e)
  have hsec : e.sec = d.sec.begun h t2 := c5.trans (congrArg (fun x : Sec => x.begun h t2) (b5.trans a5))
  have hpwr : e.pwr = d.pwr := by rw [hclose.1]
  rw [he]
  refine ⟨e, b, gmac_sixteen .., Dev.closes_trans hclose (Dev.closes_trans hs (report_closes ..)), ?_, fun j => ?_,
    ?_, c4.trans (b4.trans a4), c6.trans (b6.trans a6), hpwr, r3⟩
  · rw [hsend]
    simpa [Dev.withOut] using hsec
  · rw [report_chan_st, hsend]
    refine (c2 j).trans (if_congr Iff.rfl rfl ((b2 j).trans (a2 j)))
  · rw [r2, hsend]
    exact c3.trans (b3.trans a3)

end Sys2Proof.Machine
end

section
/-!
The messages of the handshake, settled (R572, R576 to R582, R585).
-/
namespace Sys2Proof.Machine

/-! ### Messages that end without a session -/

theorem hsRefuse_same (s : State) (port : Nat) (mac : BitVec 48) (id : Reg) (r : Nat) :
    hsRefused s port mac s.dev.sec.hs r (s.after (hsRefuse port mac id r s.dev.fresh0)) :=
  hsRefuse_after s port mac id s.dev.sec.hs r

theorem hsFail_after (s : State) (port : Nat) (mac : BitVec 48) (id : Reg) (r : Nat) :
    hsRefused s port mac none r (s.after (hsFail port mac id r s.dev.fresh0)) :=
  hsRefuse_after s port mac id none r

theorem hsBusy_none {d : Dev} (h : ¬d.hsBusy = true) : d.sec.hs = none := by
  cases hh : d.sec.hs with
  | none => rfl
  | some x => exact absurd (by unfold Dev.hsBusy; rw [hh]; simp) h

theorem Dev.over1s_iff (d : Dev) (age at0 : Nat) : d.over1s age at0 = true ↔ 32000 + at0 < 32 * age + d.tb.sample := by
  unfold Dev.over1s
  exact decide_eq_true_iff

theorem Dev.over1s_false {d : Dev} {age at0 : Nat} (h : ¬32000 + at0 < 32 * age + d.tb.sample) : d.over1s age at0 = false :=
  Bool.eq_false_iff.2 fun hc => h ((d.over1s_iff age at0).1 hc)

/-! ### HOST_FINISH (R580) -/

theorem Dev.dropsOf_congr {a b : Dev} (he : a.eg = b.eg) (n : Nat) (hc : ∀ j, j < n → (a.chan j).st = (b.chan j).st) :
    (a.dropsOf n).eg = (b.dropsOf n).eg := by
  induction n with
  | zero => exact he
  | succ n ih =>
    have hi := ih fun j hj => hc j (by omega)
    rw [Dev.dropsOf_succ, Dev.dropsOf_succ, hc n (by omega)]
    split
    · exact dropEgress_congr hi
    · exact hi

/-- The session that a good HOST_FINISH makes, seen on the state after it. -/
def sessionMade (s : State) (f : HsIn) (id : Reg) (t : State) : Prop :=
  t.dev.sec.session = true ∧ t.dev.sec.hs = none ∧ t.dev.sec.hsId = id ∧ t.dev.sec.keyKind = 4 ∧
    t.dev.sec.sessionCnt = s.dev.sec.sessionCnt + 1 ∧ t.dev.sec.failCnt = s.dev.sec.failCnt ∧
    (t.dev.chan 64).st = .opened ∧ (∀ ch, ch < 64 → (t.dev.chan ch).st = .closed) ∧
    hsSends s f.port f.mac (fun b => b.length = 16) t ∧
    s.frame t { s.dev with
      tr := t.dev.tr, cp := t.dev.cp, sec := t.dev.sec, ports := t.dev.ports, eg := (s.dev.dropsOf 64).eg }

theorem establish_after {s : State} (f : HsIn) {h : Handshake} (t2 : List Byte) {d : Dev} {p : Nat} {g : Port → Port} {c : Channel}
    (hd : d = (s.dev.fresh0.modPort p g).setChan 64 c) (hg : ∀ x, (g x).vid = x.vid ∧ (g x).link = x.link) :
    sessionMade s f h.hsId (s.after (establish f h t2 d)) := by
  obtain ⟨e, b, hb, h1, hsec, hst, heg, hout, hports, hpwr, hsent⟩ := establish_holds f h t2 d
  have hcl : s.dev.fresh0.closes d := by
    rw [hd]
    exact Dev.closes_trans (b := s.dev.fresh0.modPort p g) ⟨rfl, rfl, rfl⟩ (Dev.closes_of_serves (setChan_serves ..))
  have hdsec : d.sec = s.dev.sec := by rw [hd]; rfl
  have hdout : d.out = [] := by rw [hd]; rfl
  have hdpwr : d.pwr = s.dev.pwr := by rw [hd]; rfl
  have hdeg : d.eg = s.dev.eg := by rw [hd]; rfl
  have hdst : ∀ j, j < 64 → (d.chan j).st = (s.dev.chan j).st := fun j hj => by
    rw [hd, Dev.chan_setChan, if_neg (by omega)]
    rfl
  have hport : ∀ q, (e.port q).vid = (s.dev.port q).vid ∧ (e.port q).link = (s.dev.port q).link := fun q => by
    have hq : e.port q = (s.dev.fresh0.modPort p g).port q := by
      rw [Dev.port_of_ports hports, hd]
      rfl
    rw [hq, Dev.port_modPort]
    split
    · next hpq => rw [hpq]; exact hg _
    · exact ⟨rfl, rfl⟩
  have hmay : e.maySend f.port = s.dev.maySend f.port := by
    unfold Dev.maySend
    rw [(hport f.port).2, hpwr, hdpwr]
  have hfr := closes_after (Dev.closes_trans hcl h1)
  have hsends : hsSends s f.port f.mac (fun b => b.length = 16) (s.after (establish f h t2 d)) :=
    hsSends_of hb (hout.trans hdout) hmay (hport f.port).1 hsent
  have hs : (s.after (establish f h t2 d)).dev.sec = s.dev.sec.begun h t2 := by
    have h0 : (s.after (establish f h t2 d)).dev.sec = (establish f h t2 d).sec := by simp
    rw [h0, hsec, hdsec]
  have hc : ∀ j, ((s.after (establish f h t2 d)).dev.chan j) = (establish f h t2 d).chan j := fun j => by simp
  generalize establish f h t2 d = a at hst heg hfr hsends hs hc
  rw [heg, Dev.dropsOf_congr hdeg 64 hdst] at hfr
  generalize s.after a = t at hfr hsends hs hc
  have hk : ∀ {α : Type} (fn : Sec → α), fn t.dev.sec = fn (s.dev.sec.begun h t2) := fun fn => congrArg fn hs
  refine ⟨hk Sec.session, hk Sec.hs, hk Sec.hsId, hk Sec.keyKind, hk Sec.sessionCnt, hk Sec.failCnt, ?_, fun j hj => ?_, hsends, hfr⟩
  · rw [hc, hst, if_pos rfl]
  · rw [hc, hst, if_neg (by omega), if_pos hj]

/-- HOST_FINISH with a good signature in time (R580). -/
theorem hostFinish_after {s : State} {f : HsIn} {id : Reg} {body : List Byte} {h : Handshake}
    (hp : hsParse 3 208 f s.dev = some (id, body)) (hh : s.dev.sec.hs = some h) (hid : id = h.hsId)
    (ho : s.dev.over1s h.age h.sample = false) :
    let good := ecdsaVerify ((s.dev.helloKey h.slot).getD []) (sha256 (h.t ++ body.take 144)) (body.drop 144)
    let t := s.after (hostFinish f s.dev.fresh0)
    (good = false → hsRefused s f.port f.mac none 3 t) ∧
      (good = true → hsRefused s f.port f.mac none 6 t ∨ sessionMade s f id t) := by
  intro good t
  refine ⟨fun hg => ?_, fun hg => ?_⟩
  · have he := hostFinish_badSig (f := f) (d := s.dev.fresh0) hp hh hid ho hg
    change hsRefused s f.port f.mac none 3 (s.after (hostFinish f s.dev.fresh0))
    rw [he]
    exact hsFail_after ..
  · obtain he | ⟨d1, ha, he⟩ := hostFinish_good (f := f) (d := s.dev.fresh0) hp hh hid ho hg
    · left
      change hsRefused s f.port f.mac none 6 (s.after (hostFinish f s.dev.fresh0))
      rw [he]
      exact hsFail_after ..
    · right
      obtain ⟨g, hd1, hgs⟩ := portAddress_holds ha
      change sessionMade s f id (s.after (hostFinish f s.dev.fresh0))
      rw [he, hd1, hid]
      exact establish_after f _ rfl hgs

/-! ### ENROLL (R577) -/

theorem enroll_none {f : HsIn} {d : Dev} (h : hsParse 7 132 f d = none) : enroll f d = d := by
  unfold enroll
  rw [h]

/-- The key that an ENROLL writes. -/
def enrollKey (body : List Byte) : List Byte := if leNat ((body.drop 4).take 64) = 0 then [] else (body.drop 4).take 64

/-- The first key of a module may be enrolled without a signature. -/
def Dev.firstEnroll (d : Dev) (body : List Byte) : Bool :=
  d.fuses.lifecycle == 1 && d.enrolled == [] && (body.headD 0).toNat == 0 && decide (leNat (body.drop 68) = 0)

/-- The key of another slot signed an ENROLL. -/
def Dev.enrollSigned (d : Dev) (body : List Byte) : Bool := d.enrolled.any (fun k => k != (body.headD 0).toNat &&
  ecdsaVerify (d.slotKey k) (sha256 (d.enrollBytes (body.headD 0) ((body.drop 4).take 64))) (body.drop 68))

/-- The module with another owner key. -/
def Dev.enrolling (d : Dev) (slot : Nat) (key : List Byte) : Dev := { d with flash := { d.flash with
  slots := tset [] d.flash.slots slot key, enrollCnt := d.flash.enrollCnt + 1 } }

section
variable {f : HsIn} {d : Dev} {id : Reg} {body : List Byte} (h : hsParse 7 132 f d = some (id, body))
include h

theorem enroll_blank (hl : d.fuses.lifecycle = 0 ∨ 4 ≤ d.fuses.lifecycle) : enroll f d = hsRefuse f.port f.mac id 8 d := by
  unfold enroll
  rw [h]
  exact if_pos hl

variable (hl : ¬(d.fuses.lifecycle = 0 ∨ 4 ≤ d.fuses.lifecycle))
include hl

theorem enroll_noSlot (hs : d.fuses.lifecycle = 3 ∨ 3 < (body.headD 0).toNat) : enroll f d = hsRefuse f.port f.mac id 2 d := by
  unfold enroll
  rw [h]
  exact (if_neg hl).trans (if_pos hs)

variable (hs : ¬(d.fuses.lifecycle = 3 ∨ 3 < (body.headD 0).toNat))
include hs

theorem enroll_last (hn : d.fuses.lifecycle = 2 ∧ enrollKey body = [] ∧ d.enrolled = [(body.headD 0).toNat]) :
    enroll f d = hsRefuse f.port f.mac id 8 d := by
  unfold enroll
  rw [h]
  exact (if_neg hl).trans ((if_neg hs).trans (if_pos hn))

variable (hn : ¬(d.fuses.lifecycle = 2 ∧ enrollKey body = [] ∧ d.enrolled = [(body.headD 0).toNat]))
include hn

theorem enroll_judged : enroll f d = if !d.firstEnroll body && !d.enrollSigned body then hsRefuse f.port f.mac id 3 d
    else hsResult f.port f.mac id 0 (report (ev 0x0F04 false (body.headD 0).toNat 0)
      (d.enrolling (body.headD 0).toNat (enrollKey body))) := by
  unfold enroll
  rw [h]
  exact (if_neg hl).trans ((if_neg hs).trans (if_neg hn))

end

theorem Dev.firstEnroll_iff (d : Dev) (body : List Byte) : d.firstEnroll body = true ↔
    d.fuses.lifecycle = 1 ∧ d.enrolled = [] ∧ (body.headD 0).toNat = 0 ∧ leNat (body.drop 68) = 0 := by
  unfold Dev.firstEnroll
  simp only [Bool.and_eq_true, beq_iff_eq, decide_eq_true_eq, and_assoc]

theorem Dev.enrollSigned_iff (d : Dev) (body : List Byte) : d.enrollSigned body = true ↔ ∃ j ∈ d.enrolled, j ≠ (body.headD 0).toNat ∧
    ecdsaVerify (d.slotKey j) (sha256 (d.enrollBytes (body.headD 0) ((body.drop 4).take 64))) (body.drop 68) = true := by
  unfold Dev.enrollSigned
  simp only [List.any_eq_true, Bool.and_eq_true, bne_iff_ne]

/-- A key that is enrolled, seen on the state after it (R577). -/
theorem enrolled_after (s : State) (port : Nat) (mac : BitVec 48) (id : Reg) (e : Event) (slot : Nat) (key : List Byte) :
    let t := s.after (hsResult port mac id 0 (report e (s.dev.fresh0.enrolling slot key)))
    hsSends s port mac (fun b => b = [0#8, 0, 0, 0]) t ∧ t.dev.slotKey slot = key ∧
      (∀ j, j ≠ slot → t.dev.slotKey j = s.dev.slotKey j) ∧
      t.dev.flash = { s.dev.flash with slots := t.dev.flash.slots, enrollCnt := s.dev.flash.enrollCnt + 1 } ∧
      s.frame t { s.dev with flash := t.dev.flash } := by
  have hr := report_reportsTo e (s.dev.fresh0.enrolling slot key)
  have hq := report_reportsOnly e (s.dev.fresh0.enrolling slot key)
  unfold Dev.reportsOnly at hq
  generalize report e (s.dev.fresh0.enrolling slot key) = r at hr hq
  obtain ⟨head, -, he⟩ := hsSend_eq port mac id 5 [0#8, 0, 0, 0] r
  have hout : r.out = [] := by rw [hq]; rfl
  have hmay : r.maySend port = s.dev.maySend port := by rw [hq]; rfl
  have hvid : (r.port port).vid = (s.dev.port port).vid := by rw [hq]; rfl
  have hsends : hsSends s port mac (fun b => b = [0#8, 0, 0, 0]) (s.after (hsResult port mac id 0 r)) :=
    hsSends_of (d := r) rfl hout hmay hvid rfl
  have ha : hsResult port mac id 0 r = { s.dev.fresh0.enrolling slot key with
      tr := (hsResult port mac id 0 r).tr, rcd := (hsResult port mac id 0 r).rcd, flt := (hsResult port mac id 0 r).flt
      out := (hsResult port mac id 0 r).out } := by
    change hsSend port mac id 5 [0#8, 0, 0, 0] r = { s.dev.fresh0.enrolling slot key with
      tr := (hsSend port mac id 5 [0#8, 0, 0, 0] r).tr, rcd := (hsSend port mac id 5 [0#8, 0, 0, 0] r).rcd
      flt := (hsSend port mac id 5 [0#8, 0, 0, 0] r).flt, out := (hsSend port mac id 5 [0#8, 0, 0, 0] r).out }
    rw [he, hq]
    rfl
  have hra : (s.dev.enrolling slot key).reportsTo (hsResult port mac id 0 r) :=
    Dev.reportsTo_congr (Dev.reportsTo_trans hr (hsSend_onlySec port mac id 5 [0#8, 0, 0, 0] r).1) rfl rfl rfl
  generalize hsResult port mac id 0 r = a at hsends ha hra
  have hfl : (s.after a).dev.flash = (s.dev.enrolling slot key).flash := by
    have h0 : (s.after a).dev.flash = a.flash := by simp
    rw [h0, ha]
    rfl
  have hfr : s.frame (s.after a) (s.dev.enrolling slot key) := State.frame_of_eq hra (by rw [ha]; rfl) (by rw [ha]; rfl)
  generalize s.after a = t at hsends hfl hfr
  have hkey : ∀ j, t.dev.slotKey j = if j = slot then key else s.dev.slotKey j := fun j => by
    unfold Dev.slotKey
    rw [hfl]
    exact tget_tset ..
  refine ⟨hsends, (hkey slot).trans (if_pos rfl), fun j hj => (hkey j).trans (if_neg hj), ?_, ?_⟩
  · rw [hfl]
    rfl
  · rw [hfl]
    exact hfr

/-! ### The end of a session (R582, R585) -/

/-- The security unit with a session that is to end. -/
def Sec.ends (x : Sec) (r ran : Nat) : Sec := { x with ending := some ⟨r, ran⟩ }

theorem endSession_due {r : Nat} {d : Dev} (h : d.sec.session = true ∧ d.sec.ending = none) :
    endSession r d = d.withSec (d.sec.ends r d.tb.ran) := if_pos h

theorem endSession_not {r : Nat} {d : Dev} (h : ¬(d.sec.session = true ∧ d.sec.ending = none)) : endSession r d = d := if_neg h

theorem silent_sec (s : State) (x : Sec) : s.silent (s.after (s.dev.fresh0.withSec x)) { s.dev with sec := x } :=
  State.silent_of_eq rfl

/-- The tag of an END for the session in force. -/
def Sec.endTag (x : Sec) : List Byte :=
  gmac x.key (leBytes 4 x.hsId.toNat ++ [0, 0, 0, 0, 64, 4, 0, 0]) (leBytes 4 x.hsId.toNat)

theorem sessionEnd_none {f : HsIn} {d : Dev} (h : hsParse 6 16 f d = none) : sessionEnd f d = d := by
  unfold sessionEnd
  rw [h]

theorem sessionEnd_some {f : HsIn} {d : Dev} {id : Reg} {tag : List Byte} (h : hsParse 6 16 f d = some (id, tag)) :
    sessionEnd f d = if d.sec.session = true ∧ id = d.sec.hsId ∧ tag = d.sec.endTag then endSession 0 d else d := by
  unfold sessionEnd
  rw [h]
  rfl

/-- END (R582). -/
theorem sessionEnd_after {s : State} {f : HsIn} {id : Reg} {tag : List Byte} (h : hsParse 6 16 f s.dev = some (id, tag)) :
    let valid := s.dev.sec.session = true ∧ id = s.dev.sec.hsId ∧ s.dev.sec.ending = none ∧ tag = s.dev.sec.endTag
    let t := s.after (sessionEnd f s.dev.fresh0)
    (valid → s.silent t { s.dev with sec := s.dev.sec.ends 0 s.dev.tb.ran }) ∧ (¬valid → s.silent t s.dev) := by
  have he := sessionEnd_some (d := s.dev.fresh0) h
  intro valid t
  refine ⟨fun ⟨h1, h2, h3, h4⟩ => ?_, fun hv => ?_⟩
  · have : sessionEnd f s.dev.fresh0 = s.dev.fresh0.withSec (s.dev.sec.ends 0 s.dev.tb.ran) :=
      he.trans ((if_pos ⟨h1, h2, h4⟩).trans (endSession_due ⟨h1, h3⟩))
    change s.silent (s.after (sessionEnd f s.dev.fresh0)) _
    rw [this]
    exact silent_sec ..
  · have : sessionEnd f s.dev.fresh0 = s.dev.fresh0 := he.trans <| iteInduction (motive := fun x => x = s.dev.fresh0)
      (fun ⟨h1, h2, h4⟩ => endSession_not fun h => hv ⟨h1, h2, h.2, h4⟩) fun _ => rfl
    change s.silent (s.after (sessionEnd f s.dev.fresh0)) _
    rw [this]
    exact State.silent_after s

/-- The security unit without a session. -/
def Sec.cleared (x : Sec) : Sec := { x with
  session := false, key := 0, keyKind := 0, hsId := 0, sessionSlot := 0, ending := none, idle := 0 }

theorem updateAbandon_idle (d : Dev) : updateAbandon d = d.withUpd { d.upd with st := .idle } := by
  unfold updateAbandon
  split
  · next h => rw [← h]; rfl
  · rfl

/-- A session that is cleared: every channel closed, the update abandoned (R582, R591). -/
theorem sessionClear_after (s : State) :
    let t := s.after (sessionClear s.dev.fresh0)
    t.dev.sec = s.dev.sec.cleared ∧ (∀ ch, ch < 65 → (t.dev.chan ch).st = .closed) ∧ t.dev.upd.st = .idle ∧
      s.frame t { s.dev with
        tr := t.dev.tr, cp := t.dev.cp, sec := t.dev.sec, eg := (s.dev.dropsOf 65).eg, upd := { s.dev.upd with st := .idle } } := by
  obtain ⟨⟨he, hr, hf⟩, hst, heg, hout, hsec, hports⟩ := closeAll_holds 65 s.dev.fresh0
  have hc : sessionClear s.dev.fresh0 = updateAbandon ((closeAll 65 s.dev.fresh0).withSec (closeAll 65 s.dev.fresh0).sec.cleared) := by
    unfold sessionClear closeAll
    exact Eq.refl (updateAbandon _)
  rw [hc, updateAbandon_idle]
  generalize closeAll 65 s.dev.fresh0 = a at he hr hf hst heg hout hsec hports
  have hupd : a.upd = s.dev.upd := by rw [he]; rfl
  have ht : s.frame (s.after ((a.withSec a.sec.cleared).withUpd { (a.withSec a.sec.cleared).upd with st := .idle }))
      { s.dev with tr := a.tr, cp := a.cp, sec := s.dev.sec.cleared, eg := (s.dev.dropsOf 65).eg, upd := { s.dev.upd with st := .idle } } := by
    refine State.frame_of_eq ⟨fun _ => rfl, rfl, hr, hf⟩ ?_ ?_
    · have h0 : (s.dev.fresh0.dropsOf 65).eg = (s.dev.dropsOf 65).eg :=
        Dev.dropsOf_congr (a := s.dev.fresh0) (b := s.dev) rfl 65 fun _ _ => rfl
      unfold Dev.withSec Dev.withUpd
      dsimp only
      rw [hupd, hsec]
      rw [he]
      dsimp only
      rw [heg, hports, h0]
      rfl
    · unfold Dev.withSec Dev.withUpd
      rw [he]
      rfl
  have h1 : (s.after ((a.withSec a.sec.cleared).withUpd { (a.withSec a.sec.cleared).upd with st := .idle })).dev.sec = s.dev.sec.cleared := by
    simp only [State.after_dev]
    change a.sec.cleared = _
    rw [hsec]
    rfl
  have h2 : ∀ j, ((s.after ((a.withSec a.sec.cleared).withUpd { (a.withSec a.sec.cleared).upd with st := .idle })).dev.chan j) = a.chan j :=
    fun j => by simp only [State.after_objects]; rfl
  have h3 : (s.after ((a.withSec a.sec.cleared).withUpd { (a.withSec a.sec.cleared).upd with st := .idle })).dev.upd.st = .idle := by
    simp only [State.after_dev]
    rfl
  have h4 : (s.after ((a.withSec a.sec.cleared).withUpd { (a.withSec a.sec.cleared).upd with st := .idle })).dev.cp = a.cp := by
    simp only [State.after_dev]
    rfl
  generalize s.after ((a.withSec a.sec.cleared).withUpd { (a.withSec a.sec.cleared).upd with st := .idle }) = t at ht h1 h2 h3 h4
  dsimp only
  refine ⟨h1, fun ch hch => by rw [h2, hst, if_pos hch], h3, ?_⟩
  rw [h1, h4]
  exact State.frame_ownTr ht

theorem Dev.lastPhaseE_iff (d : Dev) : d.lastPhaseE = true ↔ ∃ e, d.sec.ending = some e ∧ e.ran < d.tb.ran := by
  unfold Dev.lastPhaseE
  cases d.sec.ending with
  | none => simp
  | some e => simp

/-- A report of the security unit, seen on the state after it. -/
theorem secTold_after (s : State) (e : Event) (x : Sec) :
    let t := s.after (report e (s.dev.fresh0.withSec x))
    t.dev.sec = x ∧ s.frame t { s.dev with sec := x } := by
  have h := frame_report s e (s.dev.withSec x)
  have h0 : (s.after (report e (s.dev.withSec x).fresh0)).dev.sec = x := by simp [Dev.withSec]
  exact ⟨h0, h⟩

/-- The security unit with JTAG debug attached. -/
def Sec.debugged (x : Sec) : Sec := { x with debug := true }

/-- JTAG debug that attaches (R585). -/
theorem debugAttached_due {d : Dev} (hl : d.fuses.lifecycle = 1 ∨ d.fuses.lifecycle = 3) (hd : d.sec.debug = false) :
    ∃ e, debugAttached d = endSession 3 (report e (d.withSec d.sec.debugged)) := ⟨_, if_pos ⟨hl, hd⟩⟩

/-- Where a session runs, it is to end with the reason 3. -/
def Sec.attached (x : Sec) (ran : Nat) : Sec := { x with
  debug := true, ending := if x.session = true ∧ x.ending = none then some ⟨3, ran⟩ else x.ending }

theorem endSession_debugged {d : Dev} {x : Sec} (hs : d.sec = x.debugged) : endSession 3 d = d.withSec (x.attached d.tb.ran) := by
  by_cases hc : x.session = true ∧ x.ending = none
  · have ha : x.attached d.tb.ran = d.sec.ends 3 d.tb.ran := by
      rw [hs]
      exact congrArg (fun z => { x with debug := true, ending := z }) (if_pos hc)
    rw [ha]
    refine endSession_due ?_
    rw [hs]
    exact hc
  · have ha : x.attached d.tb.ran = d.sec := by
      rw [hs]
      exact congrArg (fun z => { x with debug := true, ending := z }) (if_neg hc)
    rw [ha]
    refine endSession_not ?_
    rw [hs]
    exact hc

theorem debugAttached_after {s : State} (hl : s.dev.fuses.lifecycle = 1 ∨ s.dev.fuses.lifecycle = 3) (hd : s.dev.sec.debug = false) :
    let t := s.after (debugAttached s.dev.fresh0)
    t.dev.sec = s.dev.sec.attached s.dev.tb.ran ∧ s.frame t { s.dev with sec := s.dev.sec.attached s.dev.tb.ran } := by
  obtain ⟨e, he⟩ := debugAttached_due (d := s.dev.fresh0) hl hd
  have hr := report_onlySec e (s.dev.fresh0.withSec s.dev.sec.debugged)
  have hq := report_reportsOnly e (s.dev.fresh0.withSec s.dev.sec.debugged)
  unfold Dev.reportsOnly at hq
  have hsec : (report e (s.dev.fresh0.withSec s.dev.sec.debugged)).sec = s.dev.sec.debugged := by rw [hq]; rfl
  have htb : (report e (s.dev.fresh0.withSec s.dev.sec.debugged)).tb = s.dev.tb := by rw [hq]; rfl
  have hfr : (report e (s.dev.fresh0.withSec s.dev.sec.debugged)).fresh = s.dev.fresh := by rw [hq]; rfl
  have he' : debugAttached s.dev.fresh0 = endSession 3 (report e (s.dev.fresh0.withSec s.dev.sec.debugged)) := he
  rw [he', endSession_debugged hsec, htb]
  generalize report e (s.dev.fresh0.withSec s.dev.sec.debugged) = r at hr hfr
  have h := onlySec_after (s := s) (Dev.onlySec_trans (withSec_onlySec ..) (Dev.onlySec_trans hr (withSec_onlySec r (s.dev.sec.attached s.dev.tb.ran))))
  have hf : (r.withSec (s.dev.sec.attached s.dev.tb.ran)).fresh = s.dev.fresh := hfr
  rw [hf] at h
  exact h

/-! ### The obligation -/

/-- A frame that the port does not take, or that is no message for this module. -/
theorem hsFrames (s : State) (f : HsIn) (i : Instr) (hs : s.up) (hp : f.port < 2)
    (hi : i ∈ [Instr.hostHello f, .hostFinish f, .enroll f, .sessionEnd f]) :
    ((s.dev.port f.port).rxOk f.head = false → Runs i s (frameDropped s f.port)) ∧
    ((s.dev.port f.port).rxOk f.head = true →
      (∀ prio, f.head.tag ≠ some (prio, (s.dev.port f.port).vid)) ∨ f.head.etherType ≠ 0x88B6 →
      Runs i s (fun t => s.silent t s.dev)) := by
  obtain ⟨act, hx, hw⟩ := hs_exec hi s
  have hwf : i.wellFormed = true := hw.trans (decide_eq_true hp)
  refine ⟨fun hok => ?_, fun hok h => ?_⟩
  · refine Runs.mainChecked (f := hsArrive f act) hx hwf hs ?_
    rw [hsArrive_dropped act (d := s.dev.fresh0) hok]
    exact frameDropped_after s f.port
  · exact Runs.stays (f := hsArrive f act) hx hwf hs (hsArrive_other act (d := s.dev.fresh0) hok h)

section
variable {s : State} {f : HsIn} (hs : s.up) (hp : f.port < 2) (hok : (s.dev.port f.port).rxOk f.head = true)
  (ht : (s.dev.port f.port).takes f.port f.head = true) (he : f.head.etherType = 0x88B6)
include hs hp hok ht he

theorem Runs.hostHello {p : State → Prop} {d : Dev} (h : Machine.hostHello f s.dev.fresh0 = d) (hd : p (s.after d)) :
    Runs (.hostHello f) s p :=
  Runs.hsTaken (act := Machine.hostHello f) rfl (decide_eq_true hp) hs hok ht he (h ▸ hd)

theorem Runs.hostFinish {p : State → Prop} {d : Dev} (h : Machine.hostFinish f s.dev.fresh0 = d) (hd : p (s.after d)) :
    Runs (.hostFinish f) s p :=
  Runs.hsTaken (act := Machine.hostFinish f) rfl (decide_eq_true hp) hs hok ht he (h ▸ hd)

theorem Runs.enroll {p : State → Prop} {d : Dev} (h : Machine.enroll f s.dev.fresh0 = d) (hd : p (s.after d)) :
    Runs (.enroll f) s p :=
  Runs.hsTaken (act := Machine.enroll f) rfl (decide_eq_true hp) hs hok ht he (h ▸ hd)

theorem Runs.sessionEnd {p : State → Prop} (hd : p (s.after (Machine.sessionEnd f s.dev.fresh0))) :
    Runs (.sessionEnd f) s p :=
  Runs.hsTaken (act := Machine.sessionEnd f) rfl (decide_eq_true hp) hs hok ht he hd

end

/-- HOST_HELLO, by the checks of R580 in their order. -/
theorem hostHello_runs {s : State} {f : HsIn} (hs : s.up) (hp : f.port < 2) (hok : (s.dev.port f.port).rxOk f.head = true)
    (ht : (s.dev.port f.port).takes f.port f.head = true) (he : f.head.etherType = 0x88B6) {id : Reg} {body : List Byte}
    (h : hsParse 1 84 f s.dev = some (id, body)) :
    let k := s.dev.sec
    let busy := s.dev.hsBusy = true
    let blank := s.dev.fuses.lifecycle = 0 ∨ 4 ≤ s.dev.fuses.lifecycle
    let slot := (body.headD 0).toNat
    (busy → Runs (.hostHello f) s (hsRefused s f.port f.mac k.hs 1)) ∧
    (¬busy → blank → Runs (.hostHello f) s (hsRefused s f.port f.mac none 8)) ∧
    (¬busy → ¬blank → s.dev.helloKey slot = none → Runs (.hostHello f) s (hsRefused s f.port f.mac none 2)) ∧
    (¬busy → ¬blank → s.dev.helloKey slot ≠ none → k.entropyFail = true →
      Runs (.hostHello f) s (hsRefused s f.port f.mac none 7)) ∧
    (¬busy → ¬blank → s.dev.helloKey slot ≠ none → k.entropyFail = false → p256Point (body.drop 20) = none →
      Runs (.hostHello f) s (hsRefused s f.port f.mac none 5)) ∧
    (∀ q, ¬busy → ¬blank → s.dev.helloKey slot ≠ none → k.entropyFail = false → p256Point (body.drop 20) = some q →
      Runs (.hostHello f) s (fun t => ∃ tr z, t.dev.sec = { k with hs := some ⟨id, slot, tr, z, f.mac, f.port, 0, s.dev.tb.sample⟩ } ∧
        hsSends s f.port f.mac (fun b => b.length = 148) t ∧
        s.frame t { s.dev with sec := t.dev.sec, fresh := t.dev.fresh })) := by
  have none_refused : ∀ r : Nat, ¬s.dev.hsBusy = true → hsRefused s f.port f.mac none r (s.after (hsRefuse f.port f.mac id r s.dev.fresh0)) :=
    fun r hb => hsBusy_none hb ▸ hsRefuse_same s f.port f.mac id r
  refine ⟨fun hb => ?_, fun hb hl => ?_, fun hb hl hk => ?_, fun hb hl hk hf => ?_, fun hb hl hk hf hq => ?_, fun q hb hl hk hf hq => ?_⟩
  · exact Runs.hostHello hs hp hok ht he (hostHello_busy (d := s.dev.fresh0) h hb) (hsRefuse_same ..)
  · exact Runs.hostHello hs hp hok ht he (hostHello_blank (d := s.dev.fresh0) h hb hl) (none_refused 8 hb)
  · exact Runs.hostHello hs hp hok ht he (hostHello_noKey (d := s.dev.fresh0) h hb hl hk) (none_refused 2 hb)
  · exact Runs.hostHello hs hp hok ht he (hostHello_noEntropy (d := s.dev.fresh0) h hb hl hk hf) (none_refused 7 hb)
  · exact Runs.hostHello hs hp hok ht he (hostHello_noPoint (d := s.dev.fresh0) h hb hl hk hf hq) (none_refused 5 hb)
  · obtain ⟨n, tr, z, b, hlen, hgood⟩ := hostHello_good (d := s.dev.fresh0) h hb hl hk hf hq
    exact Runs.hostHello hs hp hok ht he hgood ⟨tr, z, hello_after s f.port f.mac id hlen n _⟩

/-- HOST_FINISH, by the checks of R580 in their order. -/
theorem hostFinish_runs {s : State} {f : HsIn} (hs : s.up) (hp : f.port < 2) (hok : (s.dev.port f.port).rxOk f.head = true)
    (ht : (s.dev.port f.port).takes f.port f.head = true) (he : f.head.etherType = 0x88B6) {id : Reg} {body : List Byte}
    (h : hsParse 3 208 f s.dev = some (id, body)) :
    let k := s.dev.sec
    let late (x : Handshake) := 32000 + x.sample < 32 * x.age + s.dev.tb.sample
    (k.hs = none → Runs (.hostFinish f) s (hsRefused s f.port f.mac none 5)) ∧
    (∀ x, k.hs = some x → id ≠ x.hsId → Runs (.hostFinish f) s (hsRefused s f.port f.mac none 5)) ∧
    (∀ x, k.hs = some x → id = x.hsId → late x → Runs (.hostFinish f) s (hsRefused s f.port f.mac none 4)) ∧
    (∀ x, k.hs = some x → id = x.hsId → ¬late x → Runs (.hostFinish f) s (fun t =>
      let good := ecdsaVerify ((s.dev.helloKey x.slot).getD []) (sha256 (x.t ++ body.take 144)) (body.drop 144)
      (good = false → hsRefused s f.port f.mac none 3 t) ∧
        (good = true → hsRefused s f.port f.mac none 6 t ∨ sessionMade s f id t))) := by
  refine ⟨fun hh => ?_, fun x hh hid => ?_, fun x hh hid hl => ?_, fun x hh hid hl => ?_⟩
  · refine Runs.hostFinish hs hp hok ht he (hostFinish_noHello (d := s.dev.fresh0) h hh) ?_
    have := hsRefuse_same s f.port f.mac id 5
    rw [hh] at this
    exact this
  · exact Runs.hostFinish hs hp hok ht he (hostFinish_stray (d := s.dev.fresh0) h hh hid) (hsFail_after ..)
  · exact Runs.hostFinish hs hp hok ht he (hostFinish_late (d := s.dev.fresh0) h hh hid ((Dev.over1s_iff ..).2 hl)) (hsFail_after ..)
  · exact Runs.hostFinish hs hp hok ht he rfl (hostFinish_after h hh hid (Dev.over1s_false hl))

/-- HANDSHAKE_TIMEOUT (R580). -/
theorem handshakeTimeout_runs {s : State} (hs : s.up) :
    let late (x : Handshake) := 32000 + x.sample < 32 * x.age + s.dev.tb.sample
    (∀ x, s.dev.sec.hs = some x → late x → Runs .handshakeTimeout s (hsRefused s x.port x.mac none 4)) ∧
    ((s.dev.sec.hs = none ∨ ∃ x, s.dev.sec.hs = some x ∧ ¬late x) →
      Runs .handshakeTimeout s (fun t => s.silent t s.dev)) := by
  refine ⟨fun x hh hl => ?_, fun h => ?_⟩
  · have hd : handshakeTimeout s.dev.fresh0 = hsFail x.port x.mac x.hsId 4 s.dev.fresh0 := by
      unfold handshakeTimeout
      rw [show s.dev.fresh0.sec.hs = some x from hh]
      exact if_pos ((Dev.over1s_iff ..).2 hl)
    refine Runs.main (f := handshakeTimeout) rfl hs ?_
    rw [hd]
    exact hsFail_after ..
  · refine Runs.mainStays (f := handshakeTimeout) rfl hs ?_
    unfold handshakeTimeout
    rcases h with h | ⟨x, h, hl⟩
    · rw [show s.dev.fresh0.sec.hs = none from h]
    · rw [show s.dev.fresh0.sec.hs = some x from h]
      exact if_neg fun hc => hl ((Dev.over1s_iff ..).1 hc)

/-- ENROLL, by the checks of R577 in their order. -/
theorem enroll_runs {s : State} {f : HsIn} (hs : s.up) (hp : f.port < 2) (hok : (s.dev.port f.port).rxOk f.head = true)
    (ht : (s.dev.port f.port).takes f.port f.head = true) (he : f.head.etherType = 0x88B6) {id : Reg} {body : List Byte}
    (h : hsParse 7 132 f s.dev = some (id, body)) :
    let lc := s.dev.fuses.lifecycle
    let blank := lc = 0 ∨ 4 ≤ lc
    let slot := (body.headD 0).toNat
    let last := lc = 2 ∧ enrollKey body = [] ∧ s.dev.enrolled = [slot]
    let refused := hsRefused s f.port f.mac s.dev.sec.hs
    (blank → Runs (.enroll f) s (refused 8)) ∧
    (¬blank → (lc = 3 ∨ 3 < slot) → Runs (.enroll f) s (refused 2)) ∧
    (¬blank → lc ≠ 3 → slot ≤ 3 → last → Runs (.enroll f) s (refused 8)) ∧
    (¬blank → lc ≠ 3 → slot ≤ 3 → ¬last → Runs (.enroll f) s (fun t =>
      ((s.dev.firstEnroll body = true ∨ s.dev.enrollSigned body = true) → hsSends s f.port f.mac (fun b => b = [0#8, 0, 0, 0]) t ∧
        t.dev.slotKey slot = enrollKey body ∧ (∀ j, j ≠ slot → t.dev.slotKey j = s.dev.slotKey j) ∧
        t.dev.flash = { s.dev.flash with slots := t.dev.flash.slots, enrollCnt := s.dev.flash.enrollCnt + 1 } ∧
        s.frame t { s.dev with flash := t.dev.flash }) ∧
      (¬s.dev.firstEnroll body = true → ¬s.dev.enrollSigned body = true → refused 3 t))) := by
  refine ⟨fun hl => ?_, fun hl hsl => ?_, fun hl h3 hsl hn => ?_, fun hl h3 hsl hn => ?_⟩
  · exact Runs.enroll hs hp hok ht he (enroll_blank (d := s.dev.fresh0) h hl) (hsRefuse_same ..)
  · exact Runs.enroll hs hp hok ht he (enroll_noSlot (d := s.dev.fresh0) h hl hsl) (hsRefuse_same ..)
  · exact Runs.enroll hs hp hok ht he (enroll_last (d := s.dev.fresh0) h hl
      (fun hc => hc.elim h3 (Nat.not_lt.2 hsl)) hn) (hsRefuse_same ..)
  · have hj := enroll_judged (f := f) (d := s.dev.fresh0) h hl (fun hc => hc.elim h3 (Nat.not_lt.2 hsl)) hn
    by_cases hg : s.dev.firstEnroll body = true ∨ s.dev.enrollSigned body = true
    · have hc : ¬(!s.dev.firstEnroll body && !s.dev.enrollSigned body) = true := by
        rcases hg with h | h <;> rw [h] <;> simp
      refine Runs.enroll hs hp hok ht he (hj.trans (if_neg hc)) ⟨fun _ => ?_, fun h1 h2 => absurd hg (not_or.2 ⟨h1, h2⟩)⟩
      exact enrolled_after s f.port f.mac id _ (body.headD 0).toNat (enrollKey body)
    · have hc : (!s.dev.firstEnroll body && !s.dev.enrollSigned body) = true := by
        obtain ⟨h1, h2⟩ := not_or.1 hg
        rw [Bool.eq_false_iff.2 h1, Bool.eq_false_iff.2 h2]
        rfl
      exact Runs.enroll hs hp hok ht he (hj.trans (if_pos hc)) ⟨fun h => absurd h hg, fun _ _ => hsRefuse_same ..⟩

/-- How the end of a session is decided (R582). -/
theorem sessionIdle_runs {s : State} (hs : s.up) :
    let k := s.dev.sec
    (10000 ≤ k.idle → k.session = true → k.ending = none →
      Runs .sessionIdle s (fun t => s.silent t { s.dev with sec := k.ends 1 s.dev.tb.ran })) ∧
    ((k.idle < 10000 ∨ k.session = false ∨ k.ending ≠ none) → Runs .sessionIdle s (fun t => s.silent t s.dev)) := by
  refine ⟨fun h1 h2 h3 => ?_, fun h => ?_⟩
  · have hd : sessionIdle s.dev.fresh0 = s.dev.fresh0.withSec (s.dev.sec.ends 1 s.dev.tb.ran) :=
      (if_pos h1).trans (endSession_due (d := s.dev.fresh0) ⟨h2, h3⟩)
    refine Runs.main (f := sessionIdle) rfl hs ?_
    rw [hd]
    exact silent_sec ..
  · refine Runs.mainStays (f := sessionIdle) rfl hs ?_
    refine iteInduction (motive := fun x => x = s.dev.fresh0) (fun hi => endSession_not ?_) fun _ => rfl
    rintro ⟨h2, h3⟩
    rcases h with h | h | h
    · exact absurd hi (Nat.not_le.2 h)
    · exact absurd (h.symm.trans h2) nofun
    · exact h h3

/-- SESSION_CLOSE and what holds it back (R582). -/
theorem sessionClose_runs {s : State} (hs : s.up) :
    (∀ e, s.dev.sec.ending = some e → e.ran < s.dev.tb.ran → 28 ≤ s.dev.tb.sample → Runs .sessionClose s (fun t =>
      t.dev.sec = s.dev.sec.cleared ∧ (∀ ch, ch < 65 → (t.dev.chan ch).st = .closed) ∧ t.dev.upd.st = .idle ∧
        s.frame t { s.dev with
          tr := t.dev.tr, cp := t.dev.cp, sec := t.dev.sec, eg := (s.dev.dropsOf 65).eg, upd := { s.dev.upd with st := .idle } })) ∧
    ((s.dev.sec.ending = none ∨ s.dev.tb.sample < 28 ∨ ∃ e, s.dev.sec.ending = some e ∧ s.dev.tb.ran ≤ e.ran) →
      Runs .sessionClose s (fun t => s.silent t s.dev)) := by
  have hdue : (s.dev.fresh0.lastPhaseE && decide (28 ≤ s.dev.fresh0.tb.sample)) = true ↔
      (∃ e, s.dev.sec.ending = some e ∧ e.ran < s.dev.tb.ran) ∧ 28 ≤ s.dev.tb.sample := by
    rw [Bool.and_eq_true, decide_eq_true_eq]
    exact and_congr (Dev.lastPhaseE_iff s.dev.fresh0) Iff.rfl
  refine ⟨fun e h1 h2 h3 => ?_, fun h => ?_⟩
  · have hd : sessionClose s.dev.fresh0 = sessionClear s.dev.fresh0 := if_pos (hdue.2 ⟨⟨e, h1, h2⟩, h3⟩)
    refine Runs.main (f := sessionClose) rfl hs ?_
    rw [hd]
    exact sessionClear_after s
  · refine Runs.mainStays (f := sessionClose) rfl hs (if_neg fun hc => ?_)
    obtain ⟨⟨e, h1, h2⟩, h3⟩ := hdue.1 hc
    rcases h with h | h | ⟨e', h, h'⟩
    · exact absurd (h.symm.trans h1) nofun
    · omega
    · have := Option.some.inj (h.symm.trans h1)
      subst this
      omega

/-- Settles O60: by the message and its refusals in the order of the checks. -/
theorem sessionEvents : Obligations.SessionEvents := by
  refine ⟨fun s f i hs hp hi => ?_, fun s f hs hp hok ht he => ?_⟩
  · obtain ⟨h1, h2⟩ := hsFrames s f i hs hp hi
    exact ⟨fun h => (h1 h).mono fun t ⟨a, b, c⟩ => ⟨a, c, b⟩, h2⟩
  dsimp only
  obtain ⟨l1, l2⟩ := handshakeTimeout_runs hs
  obtain ⟨i1, i2⟩ := sessionIdle_runs hs
  obtain ⟨c1, c2⟩ := sessionClose_runs hs
  refine ⟨fun h => ?_, fun id body h => ?_, fun h => ?_, fun id body h => ?_, l1, l2, fun h => ?_, fun id body h => ?_,
    ⟨fun h => ?_, fun id tag h => ?_, i1, i2⟩, c1, c2, fun hl hd => ?_, fun h => ?_, ?_⟩
  · exact Runs.hostHello hs hp hok ht he (hostHello_none h) (State.silent_after s)
  · simp only [← Dev.hsBusy_iff]
    exact hostHello_runs hs hp hok ht he h
  · exact Runs.hostFinish hs hp hok ht he (hostFinish_none h) (State.silent_after s)
  · exact hostFinish_runs hs hp hok ht he h
  · exact Runs.enroll hs hp hok ht he (enroll_none h) (State.silent_after s)
  · simp only [← Dev.firstEnroll_iff, ← Dev.enrollSigned_iff]
    exact enroll_runs hs hp hok ht he h
  · refine Runs.sessionEnd hs hp hok ht he ?_
    rw [sessionEnd_none (d := s.dev.fresh0) h]
    exact State.silent_after s
  · exact Runs.sessionEnd hs hp hok ht he (sessionEnd_after h)
  · exact Runs.main (f := debugAttached) rfl hs (debugAttached_after hl hd)
  · refine Runs.mainStays (f := debugAttached) rfl hs (if_neg ?_)
    rintro ⟨h1, h2⟩
    rcases h with ⟨h3, h4⟩ | h
    · exact h1.elim h3 h4
    · exact absurd (h.symm.trans h2) nofun
  · exact Runs.main (f := entropyFault) rfl hs (secTold_after s _ { s.dev.sec with entropyFail := true })

end Sys2Proof.Machine
end

section
/-!
Replies and missed slots of a strand (R238, R259, R262, R268, R278, R282, R288).
-/
namespace Sys2Proof.Machine

/-! ### What a slot changes -/

/-- From `d` to `d'` a slot has changed the entry `key` of the node table into `n` and strand `k` into `x`, beside what
reports write. -/
def Dev.slotted (k key : Nat) (d d' : Dev) (n : Node) (x : Strand) : Prop :=
  d.reportsTo d' ∧ d' = { d with strands := d'.strands, nodes := d'.nodes, tr := d'.tr, rcd := d'.rcd, flt := d'.flt } ∧
    (∀ j, j ≠ k → d'.strand j = d.strand j) ∧ (∀ q, q ≠ key → d'.node q = d.node q) ∧ d'.strand k = x ∧ d'.node key = n

/-- A strand whose running cycle has the result of a slot. -/
def Strand.slotDone (x : Strand) (a : Nat) (r : SlotResult) : Strand :=
  { x with cycle := x.cycle.map (fun cy => { cy with results := cy.results ++ [(a, r)] }) }

theorem Dev.slotted_refl (k key : Nat) (d : Dev) : d.slotted k key d (d.node key) (d.strand k) :=
  ⟨Dev.reportsTo_of_eq rfl rfl rfl, rfl, fun _ _ => rfl, fun _ _ => rfl, rfl, rfl⟩

section
variable {k key : Nat} {d b : Dev} {n : Node} {x : Strand} (h : d.slotted k key b n x)
include h

theorem Dev.slotted.setNode (n' : Node) : d.slotted k key (b.setNode key n') n' x := by
  obtain ⟨hr, he, hs, hn, hx, -⟩ := h
  refine ⟨Dev.reportsTo_trans hr (Dev.reportsTo_of_eq rfl rfl rfl), by rw [he]; rfl, hs, fun q hq => ?_, hx, ?_⟩
  · rw [Dev.node_setNode, if_neg hq]
    exact hn q hq
  · rw [Dev.node_setNode, if_pos rfl]

theorem Dev.slotted.modStrand (f : Strand → Strand) : d.slotted k key (b.modStrand k f) n (f x) := by
  obtain ⟨hr, he, hs, hn, hx, hkey⟩ := h
  refine ⟨Dev.reportsTo_trans hr (Dev.reportsTo_of_eq rfl rfl rfl), by rw [he]; rfl, fun j hj => ?_, hn, ?_, hkey⟩
  · rw [Dev.strand_modStrand, if_neg hj]
    exact hs j hj
  · rw [Dev.strand_modStrand, if_pos rfl, hx]

theorem Dev.slotted.told {c : Dev} (hr' : b.reportsTo c) (ho : b.reportsOnly c) : d.slotted k key c n x := by
  obtain ⟨hr, he, hs, hn, hx, hkey⟩ := h
  unfold Dev.reportsOnly at ho
  have hst : ∀ j, c.strand j = b.strand j := fun j => by rw [ho]; rfl
  have hno : ∀ q, c.node q = b.node q := fun q => by rw [ho]; rfl
  exact ⟨Dev.reportsTo_trans hr hr', by rw [ho, he], fun j hj => (hst j).trans (hs j hj), fun q hq => (hno q).trans (hn q hq),
    (hst k).trans hx, (hno key).trans hkey⟩

theorem Dev.slotted.report (e : Event) : d.slotted k key (Machine.report e b) n x :=
  h.told (report_reportsTo e b) (report_reportsOnly e b)

theorem Dev.slotted.slotResult (a : Nat) (r : SlotResult) :
    d.slotted k key (Machine.slotResult k a r b) n (x.slotDone a r) := h.modStrand _

theorem Dev.slotted.node : b.node key = n := h.2.2.2.2.2

end

/-- What a slot leaves alone, seen on the state after it. -/
def slotOnly (s : State) (k key : Nat) (t : State) : Prop := (∀ q, q ≠ key → t.dev.node q = s.dev.node q) ∧
  (∀ j, j ≠ k → t.dev.strand j = s.dev.strand j) ∧ t.dev.out = [] ∧
  s.frame t { s.dev with strands := t.dev.strands, nodes := t.dev.nodes }

theorem slotted_after {s : State} {k key : Nat} {a : Dev} {n : Node} {x : Strand} (h : s.dev.fresh0.slotted k key a n x) :
    slotOnly s k key (s.after a) ∧ (s.after a).dev.node key = n ∧ (s.after a).dev.strand k = x := by
  obtain ⟨hr, he, hs, hn, hx, hkey⟩ := h
  have h1 : ∀ q, (s.after a).dev.node q = a.node q := fun q => by simp
  have h2 : ∀ q, (s.after a).dev.strand q = a.strand q := fun q => by simp
  have h3 : (s.after a).dev.out = a.out := by simp
  have h4 : (s.after a).dev.strands = a.strands := by simp
  have h5 : (s.after a).dev.nodes = a.nodes := by simp
  have ho : a.out = [] := by rw [he]; rfl
  have hfr : s.frame (s.after a) { s.dev with strands := a.strands, nodes := a.nodes } :=
    State.frame_of_eq (Dev.reportsTo_congr hr rfl rfl rfl) (by rw [he]; rfl) (by rw [he]; rfl)
  refine ⟨⟨fun q hq => (h1 q).trans (hn q hq), fun j hj => (h2 j).trans (hs j hj), h3.trans ho, ?_⟩, (h1 key).trans hkey, (h2 k).trans hx⟩
  rw [h4, h5]
  exact hfr

/-! ### What is heard (R238, R259) -/

theorem lineHears_loud {mv : Nat} (rx : LineRx) (d : Dev) (h : 150 ≤ mv) : lineHears mv rx d = (some (rxSymbols rx), d) := if_pos h

theorem lineHears_quiet {mv : Nat} (rx : LineRx) (d : Dev) (h : mv < 60) : lineHears mv rx d = (none, d) :=
  (if_neg (by omega)).trans (if_pos h)

theorem strandReply_quiet (k pos : Nat) {mv : Nat} (rx : LineRx) (d : Dev) (h : mv < 60) : strandReplyReceive k pos mv rx d = d := by
  unfold strandReplyReceive
  rw [lineHears_quiet rx d h]
  dsimp only
  split
  · next h => exact absurd h nofun
  · rfl

theorem strandReply_noSlot (k : Nat) {pos mv : Nat} (rx : LineRx) {d : Dev} {cy : Cycle} (h : 150 ≤ mv)
    (hcy : (d.strand k).cycle = some cy) (hs : slotAt (bitRate cy.scfg) cy.nodes pos = none) :
    strandReplyReceive k pos mv rx d = d := by
  unfold strandReplyReceive
  rw [lineHears_loud rx d h]
  dsimp only
  rw [hcy]
  dsimp only
  rw [hs]

/-- A strand whose running cycle has counted a reply. -/
def Strand.heardOk (x : Strand) (o : Bool × Bool) : Strand :=
  { x with cycle := x.cycle.map (fun cy => { cy with oks := cy.oks ++ [o] }) }

/-- Is a frame's body no reply that fits the slot (R259, R262). -/
def replyBad (cfg : BitVec 256) (body : List Byte) : Prop :=
  body.length < 4 ∨ fld (leBits 32 (body.take 4)) 0 4 ≠ 2 ∨ fld (leBits 32 (body.take 4)) 4 4 ≠ 1 ∨
    body.length ≠ (if bit (leBits 32 (body.take 4) : BitVec 32) 26 then 20 else 4 + 4 * nodeIn cfg + 8)

section
variable {k pos mv a : Nat} {rx : LineRx} {d : Dev} {cy : Cycle} (h : 150 ≤ mv) (hcy : (d.strand k).cycle = some cy)
  (hs : slotAt (bitRate cy.scfg) cy.nodes pos = some a) (hfree : ∀ r ∈ cy.results, r.1 ≠ a)
  (hcfg : (d.node (nodeKey k a)).cfg = tget 0 cy.nodes a)
include h hcy hs hfree hcfg

theorem strandReply_damaged (hb : frameBody (rxSymbols rx) = none ∨
    ∃ body, frameBody (rxSymbols rx) = some body ∧ replyBad (tget 0 cy.nodes a) body) :
    strandReplyReceive k pos mv rx d = d.modStrand k (fun s => { s with rxBadCnt := s.rxBadCnt + 1 }) := by
  have hopen : ¬(cy.results.any (fun r => r.1 == a) = true ∨ (d.node (nodeKey k a)).cfg ≠ tget 0 cy.nodes a) := by
    rintro (hr | hc)
    · obtain ⟨r, hr, he⟩ := List.any_eq_true.1 hr
      exact hfree r hr (eq_of_beq he)
    · exact hc hcfg
  unfold strandReplyReceive
  rw [lineHears_loud rx d h]
  dsimp only
  rw [hcy]
  dsimp only
  rw [hs]
  dsimp only
  rw [if_neg hopen]
  rcases hb with hb | ⟨body, hb, hbad⟩
  · rw [hb]
  · rw [hb]
    exact if_pos hbad

theorem strandReply_read {body : List Byte} (hb : frameBody (rxSymbols rx) = some body) (hgood : ¬replyBad (tget 0 cy.nodes a) body) :
    let hd : BitVec 32 := leBits 32 (body.take 4)
    let cfg := tget 0 cy.nodes a
    let n := d.node (nodeKey k a)
    let e := (d.setNode (nodeKey k a) { n with lSeen := bit hd 24, tSeen := bit hd 25 }).modStrand k
      (fun x => x.heardOk (bit hd 24, bit hd 25))
    strandReplyReceive k pos mv rx d = if (fld hd 8 8).toNat ≠ a then
        reportLimited k 1 (nodeEvent 0x0616 true (nodeKey k a) (fld hd 8 8).toNat)
          (d.modStrand k (fun s => { s with rxAddrCnt := s.rxAddrCnt + 1 }))
      else if bit hd 26 then identityReply k a (leBits 128 (body.drop 4)) e
      else dataReply k a (fld hd 28 3 == 3) ((chunks 4 32 ((body.drop 4).take (4 * nodeIn cfg))).map (leBits 32))
        (leBits 64 (body.drop (4 + 4 * nodeIn cfg))) e := by
  have hopen : ¬(cy.results.any (fun r => r.1 == a) = true ∨ (d.node (nodeKey k a)).cfg ≠ tget 0 cy.nodes a) := by
    rintro (hr | hc)
    · obtain ⟨r, hr, he⟩ := List.any_eq_true.1 hr
      exact hfree r hr (eq_of_beq he)
    · exact hc hcfg
  unfold strandReplyReceive
  rw [lineHears_loud rx d h]
  dsimp only
  rw [hcy]
  dsimp only
  rw [hs]
  dsimp only
  rw [if_neg hopen, hb]
  exact if_neg hgood

end

/-! ### Node states (R278) -/

/-- Does an identity reply fit a node entry. -/
abbrev identityFits (cfg : BitVec 256) (y : BitVec 128) : Prop :=
  (nodeType cfg = 0 ∨ nodeType cfg = fld y 32 32) ∧ (fld y 0 6).toNat = nodeIn cfg ∧ (fld y 8 6).toNat = nodeOut cfg



/-- A node after an identity reply. -/
def Node.identified (n : Node) (y : BitVec 128) : Node := { n with
  st := if n.st = .active then .identifying else if identityFits n.cfg y then .active else .mismatch
  miss := 0, serial := fld y 64 64, nodeFw := fld y 16 16 }

theorem identityReply_slotted {k a : Nat} {o d : Dev} {n : Node} {x : Strand} (h : o.slotted k (nodeKey k a) d n x)
    (y : BitVec 128) (hn : n.st ≠ .disabled) : ∃ r, (n.st = .identifying → identityFits n.cfg y → r = .identityOk) ∧
      o.slotted k (nodeKey k a) (identityReply k a y d) (n.identified y) (x.slotDone a r) := by
  have hok : ((nodeType n.cfg == 0 || nodeType n.cfg == fld y 32 32) && (fld y 0 6).toNat == nodeIn n.cfg &&
      (fld y 8 6).toNat == nodeOut n.cfg) = true ↔ identityFits n.cfg y := by
    rw [Bool.and_eq_true, Bool.and_eq_true, Bool.or_eq_true, beq_iff_eq, beq_iff_eq, beq_iff_eq, beq_iff_eq, and_assoc]
  have hid : ∀ st, n.identified y = { n.identified y with st := st } ↔ (n.identified y).st = st :=
    fun st => ⟨fun he => congrArg Node.st he, fun he => by rw [← he]⟩
  unfold identityReply
  dsimp only
  rw [h.node]
  cases hst : n.st with
  | active =>
    refine ⟨.other, nofun, ?_⟩
    have hi : n.identified y = { n.identified y with st := .identifying } := (hid _).2 (if_pos hst)
    rw [hi]
    exact ((h.setNode _).slotResult a _).report _
  | disabled => exact absurd hst hn
  | identifying =>
    dsimp only
    by_cases hf : identityFits n.cfg y
    · rw [if_pos (hok.2 hf)]
      have hi : n.identified y = { n.identified y with st := .active } :=
        (hid _).2 ((if_neg (by rw [hst]; decide)).trans (if_pos hf))
      rw [hi]
      exact ⟨.identityOk, fun _ _ => rfl, ((h.setNode _).slotResult a _).report _⟩
    · rw [if_neg (mt hok.1 hf), if_pos rfl]
      have hi : n.identified y = { n.identified y with st := .mismatch } :=
        (hid _).2 ((if_neg (by rw [hst]; decide)).trans (if_neg hf))
      rw [hi]
      exact ⟨.mismatch, fun _ hc => absurd hc hf, ((h.setNode _).slotResult a _).report _⟩
  | mismatch =>
    dsimp only
    by_cases hf : identityFits n.cfg y
    · rw [if_pos (hok.2 hf)]
      have hi : n.identified y = { n.identified y with st := .active } :=
        (hid _).2 ((if_neg (by rw [hst]; decide)).trans (if_pos hf))
      rw [hi]
      exact ⟨.identityOk, fun _ _ => rfl, ((h.setNode _).slotResult a _).report _⟩
    · rw [if_neg (mt hok.1 hf), if_neg (by decide)]
      have hi : n.identified y = { n.identified y with st := .mismatch } :=
        (hid _).2 ((if_neg (by rw [hst]; decide)).trans (if_neg hf))
      rw [hi]
      exact ⟨.other, fun hc => absurd hc (by decide), (h.setNode _).slotResult a _⟩

theorem dataReply_slotted {k a : Nat} {o d : Dev} {n : Node} {x : Strand} (h : o.slotted k (nodeKey k a) d n x)
    (w : Bool) (vs : List (BitVec 32)) (st : W64) :
    o.slotted k (nodeKey k a) (dataReply k a w vs st d) { n with miss := 0 }
      (x.slotDone a (if n.st = .active then .data vs st else if n.st = .disabled then .other else .status st)) := by
  have hm := h.setNode { n with miss := 0 }
  have hk := h.node
  unfold dataReply
  dsimp only
  rw [hk]
  by_cases h1 : n.st = .active
  · rw [if_pos h1, if_pos h1]
    split
    · exact (hm.slotResult a _).report _
    · exact hm.slotResult a _
  · rw [if_neg h1, if_neg h1]
    by_cases h2 : n.st = .disabled
    · rw [if_pos h2, if_pos h2]
      exact hm.slotResult a _
    · rw [if_neg h2, if_neg h2]
      exact hm.slotResult a _

/-- A missed slot. -/
theorem nodeMiss_slotted (k a lost : Nat) (d : Dev) : 
    let n := d.node (nodeKey k a)
    d.slotted k (nodeKey k a) (nodeMiss k a lost d)
      { n with miss := satAdd n.miss 1, st := if n.st = .active ∧ n.miss.toNat < lost ∧ lost ≤ (satAdd n.miss 1).toNat
        then .identifying else n.st }
      (({ d.strand k with rxMissCnt := (d.strand k).rxMissCnt + 1 } : Strand).slotDone a .miss) := by
  have hm := (((Dev.slotted_refl k (nodeKey k a) d).modStrand (fun s => { s with rxMissCnt := s.rxMissCnt + 1 })).slotResult a .miss)
  unfold nodeMiss
  dsimp only
  by_cases hr : (d.node (nodeKey k a)).miss.toNat < lost ∧ lost ≤ (satAdd (d.node (nodeKey k a)).miss 1).toNat
  · cases hst : (d.node (nodeKey k a)).st with
    | active =>
      rw [if_pos (by simp [hr]), if_pos ⟨rfl, hr⟩]
      exact (hm.setNode _).report _
    | identifying =>
      rw [if_pos (by simp [hr]), if_neg (fun h => NodeSt.noConfusion h.1)]
      exact (hm.setNode _).report _
    | disabled =>
      rw [if_neg (by simp), if_neg (fun h => NodeSt.noConfusion h.1), ← hst]
      exact hm.setNode _
    | mismatch =>
      rw [if_neg (by simp), if_neg (fun h => NodeSt.noConfusion h.1), ← hst]
      exact hm.setNode _
  · rw [if_neg (by simp only [hr, decide_false, Bool.false_and]; decide), if_neg fun h => hr h.2]
    exact hm.setNode _

/-! ### The obligation -/

/-- The counters of a strand after a slot. -/
def strandCounts (s : State) (k : Nat) (t : State) (bad addr miss : BitVec 32) : Prop := t.dev.strand k = { s.dev.strand k with
  cycle := (t.dev.strand k).cycle, rxBadCnt := (s.dev.strand k).rxBadCnt + bad
  rxAddrCnt := (s.dev.strand k).rxAddrCnt + addr, rxMissCnt := (s.dev.strand k).rxMissCnt + miss }

/-- The result of a slot in the running cycle. -/
def slotHas (k a : Nat) (cy : Cycle) (t : State) (r : SlotResult) : Prop :=
  ∃ c, (t.dev.strand k).cycle = some c ∧ c = { cy with results := cy.results ++ [(a, r)], oks := c.oks }

theorem slotHas_of {k a : Nat} {cy : Cycle} {t : State} {r : SlotResult} {x : Strand} {o : Bool × Bool} (hcy : x.cycle = some cy)
    (h : t.dev.strand k = (x.heardOk o).slotDone a r) : slotHas k a cy t r := by
  have hc : (t.dev.strand k).cycle = some { cy with oks := cy.oks ++ [o], results := cy.results ++ [(a, r)] } := by
    rw [h]
    unfold Strand.slotDone Strand.heardOk
    dsimp only
    rw [hcy]
    rfl
  exact ⟨_, hc, rfl⟩

theorem strandCounts_of_eq {s t : State} {k : Nat} {x : Strand} {bad addr miss : BitVec 32} (h : t.dev.strand k = x)
    (hb : x.rxBadCnt = (s.dev.strand k).rxBadCnt + bad) (ha : x.rxAddrCnt = (s.dev.strand k).rxAddrCnt + addr)
    (hm : x.rxMissCnt = (s.dev.strand k).rxMissCnt + miss) (hx : x = { s.dev.strand k with
      cycle := x.cycle, rxBadCnt := x.rxBadCnt, rxAddrCnt := x.rxAddrCnt, rxMissCnt := x.rxMissCnt }) :
    strandCounts s k t bad addr miss := by
  unfold strandCounts
  rw [h, ← hb, ← ha, ← hm]
  exact hx

theorem strandCounts_of {s : State} {k a : Nat} {t : State} {r : SlotResult} {o : Bool × Bool}
    (h : t.dev.strand k = ((s.dev.strand k).heardOk o).slotDone a r) : strandCounts s k t 0 0 0 :=
  strandCounts_of_eq h (BitVec.add_zero _).symm (BitVec.add_zero _).symm (BitVec.add_zero _).symm rfl

/-- A passed slot (R278). -/
theorem replySlotMiss_after {s : State} {k a : Nat} {cy : Cycle} (hcy : (s.dev.strand k).cycle = some cy)
    (hfree : ∀ r ∈ cy.results, r.1 ≠ a) (hn : (a, (s.dev.node (nodeKey k a)).cfg) ∈ cy.nodes) :
    let n := s.dev.node (nodeKey k a)
    let t := s.after (replySlotMiss k a s.dev.fresh0)
    slotOnly s k (nodeKey k a) t ∧ slotHas k a cy t .miss ∧ strandCounts s k t 0 0 1 ∧
      (t.dev.node (nodeKey k a)).miss = satAdd n.miss 1 ∧
      (t.dev.node (nodeKey k a)).st = if n.st = .active ∧ n.miss.toNat < lostMiss cy.scfg ∧
        lostMiss cy.scfg ≤ (satAdd n.miss 1).toNat then .identifying else n.st := by
  have he : replySlotMiss k a s.dev.fresh0 = nodeMiss k a (lostMiss cy.scfg) s.dev.fresh0 := by
    have hc : (s.dev.fresh0.strand k).cycle = some cy := hcy
    unfold replySlotMiss
    rw [hc]
    refine if_pos ?_
    rw [Bool.and_eq_true, List.any_eq_true]
    refine ⟨⟨_, hn, ?_⟩, ?_⟩
    · rw [Bool.and_eq_true]
      exact ⟨beq_self_eq_true _, beq_self_eq_true _⟩
    · rw [Bool.not_eq_true', Bool.eq_false_iff]
      intro hr
      obtain ⟨r, hr, he⟩ := List.any_eq_true.1 hr
      exact hfree r hr (eq_of_beq he)
  obtain ⟨h1, h2, h3⟩ := slotted_after (nodeMiss_slotted k a (lostMiss cy.scfg) s.dev.fresh0)
  dsimp only
  rw [he]
  generalize s.after (nodeMiss k a (lostMiss cy.scfg) s.dev.fresh0) = t at h1 h2 h3
  have hcyc : (t.dev.strand k).cycle = some { cy with results := cy.results ++ [(a, .miss)] } := by
    rw [h3]
    exact congrArg (Option.map _) hcy
  exact ⟨h1, ⟨_, hcyc, rfl⟩, strandCounts_of_eq h3 (BitVec.add_zero _).symm (BitVec.add_zero _).symm rfl rfl,
    congrArg Node.miss h2, congrArg Node.st h2⟩

/-- The node and the strand once a reply of the polled node is read. -/
theorem replyRead_slotted (s : State) (k a : Nat) (body : List Byte) :
    let hd : BitVec 32 := leBits 32 (body.take 4)
    s.dev.fresh0.slotted k (nodeKey k a) ((s.dev.fresh0.setNode (nodeKey k a) { s.dev.node (nodeKey k a) with
      lSeen := bit hd 24, tSeen := bit hd 25 }).modStrand k (fun x => x.heardOk (bit hd 24, bit hd 25)))
      { s.dev.node (nodeKey k a) with lSeen := bit hd 24, tSeen := bit hd 25 }
      ((s.dev.strand k).heardOk (bit hd 24, bit hd 25)) :=
  ((Dev.slotted_refl k (nodeKey k a) s.dev.fresh0).setNode _).modStrand _

theorem Dev.slotted.of_eq {k key : Nat} {d a b : Dev} {n : Node} {x : Strand} (he : a = b) (h : d.slotted k key b n x) :
    d.slotted k key a n x := he ▸ h

section
variable {s : State} {k pos mv a : Nat} {rx : LineRx} {cy : Cycle} (h : 150 ≤ mv) (hcy : (s.dev.strand k).cycle = some cy)
  (hs : slotAt (bitRate cy.scfg) cy.nodes pos = some a) (hfree : ∀ r ∈ cy.results, r.1 ≠ a)
  (hcfg : (s.dev.node (nodeKey k a)).cfg = tget 0 cy.nodes a)
include h hcy hs hfree hcfg

theorem replyDamaged_after (hb : frameBody (rxSymbols rx) = none ∨
    ∃ body, frameBody (rxSymbols rx) = some body ∧ replyBad (tget 0 cy.nodes a) body) :
    let t := s.after (strandReplyReceive k pos mv rx s.dev.fresh0)
    strandCounts s k t 1 0 0 ∧ (t.dev.strand k).cycle = some cy ∧ s.silent t { s.dev with strands := t.dev.strands } ∧
      slotOnly s k (nodeKey k a) t := by
  have he := strandReply_damaged (d := s.dev.fresh0) h hcy hs hfree hcfg hb
  dsimp only
  rw [he]
  obtain ⟨h1, -, h3⟩ := slotted_after ((Dev.slotted_refl k (nodeKey k a) s.dev.fresh0).modStrand
    (fun s => { s with rxBadCnt := s.rxBadCnt + 1 }))
  have h4 : s.silent (s.after (s.dev.fresh0.modStrand k (fun s => { s with rxBadCnt := s.rxBadCnt + 1 })))
      { s.dev with strands := (s.dev.fresh0.modStrand k (fun s => { s with rxBadCnt := s.rxBadCnt + 1 })).strands } :=
    State.silent_of_eq rfl
  have h5 : (s.after (s.dev.fresh0.modStrand k (fun s => { s with rxBadCnt := s.rxBadCnt + 1 }))).dev.strands =
      (s.dev.fresh0.modStrand k (fun s => { s with rxBadCnt := s.rxBadCnt + 1 })).strands := by simp only [State.after_dev]
  rw [← h5] at h4
  generalize s.after (s.dev.fresh0.modStrand k (fun s => { s with rxBadCnt := s.rxBadCnt + 1 })) = t at h1 h3 h4
  exact ⟨strandCounts_of_eq h3 rfl (BitVec.add_zero _).symm (BitVec.add_zero _).symm rfl,
    (congrArg Strand.cycle h3).trans hcy, h4, h1⟩

variable {body : List Byte} (hb : frameBody (rxSymbols rx) = some body) (hgood : ¬replyBad (tget 0 cy.nodes a) body)
include hb hgood

/-- A reply with another node's address. -/
theorem replyStray_after (ha : (fld (leBits 32 (body.take 4) : BitVec 32) 8 8).toNat ≠ a) :
    let t := s.after (strandReplyReceive k pos mv rx s.dev.fresh0)
    strandCounts s k t 0 1 0 ∧ (t.dev.strand k).cycle = some cy ∧ t.dev.nodes = s.dev.nodes ∧ slotOnly s k (nodeKey k a) t := by
  have he := (strandReply_read (d := s.dev.fresh0) h hcy hs hfree hcfg hb hgood).trans (if_pos ha)
  have hm := (Dev.slotted_refl k (nodeKey k a) s.dev.fresh0).modStrand (fun s => { s with rxAddrCnt := s.rxAddrCnt + 1 })
  have hnodes : (strandReplyReceive k pos mv rx s.dev.fresh0).nodes = s.dev.nodes := by
    rw [he]
    simp [Dev.modStrand, Dev.setStrand, Dev.fresh0]
  have hr := hm.told (reportLimited_reportsTo k 1 (nodeEvent 0x0616 true (nodeKey k a) (fld (leBits 32 (body.take 4) : BitVec 32) 8 8).toNat) _)
    (reportLimited_reportsOnly ..)
  rw [← he] at hr
  obtain ⟨h1, -, h3⟩ := slotted_after hr
  have h5 : (s.after (strandReplyReceive k pos mv rx s.dev.fresh0)).dev.nodes = s.dev.nodes := by
    simp only [State.after_dev]
    exact hnodes
  dsimp only
  generalize s.after (strandReplyReceive k pos mv rx s.dev.fresh0) = t at h1 h3 h5
  exact ⟨strandCounts_of_eq h3 (BitVec.add_zero _).symm rfl (BitVec.add_zero _).symm rfl,
    (congrArg Strand.cycle h3).trans hcy, h5, h1⟩

variable (ha : (fld (leBits 32 (body.take 4) : BitVec 32) 8 8).toNat = a)
include ha

/-- A data reply (R262, R282). -/
theorem replyData_after (hi : bit (leBits 32 (body.take 4) : BitVec 32) 26 = false) :
    let hd : BitVec 32 := leBits 32 (body.take 4)
    let n := s.dev.node (nodeKey k a)
    let cfg := tget 0 cy.nodes a
    let t := s.after (strandReplyReceive k pos mv rx s.dev.fresh0)
    slotOnly s k (nodeKey k a) t ∧ strandCounts s k t 0 0 0 ∧
      t.dev.node (nodeKey k a) = { n with miss := 0, lSeen := bit hd 24, tSeen := bit hd 25 } ∧
      (n.st = .disabled → slotHas k a cy t .other) ∧
      (n.st ≠ .active → n.st ≠ .disabled → slotHas k a cy t (.status (leBits 64 (body.drop (4 + 4 * nodeIn cfg))))) ∧
      (n.st = .active → slotHas k a cy t (.data ((chunks 4 32 ((body.drop 4).take (4 * nodeIn cfg))).map (leBits 32))
        (leBits 64 (body.drop (4 + 4 * nodeIn cfg))))) := by
  have he := (strandReply_read (d := s.dev.fresh0) h hcy hs hfree hcfg hb hgood).trans
    ((if_neg (not_not_intro ha)).trans (if_neg (by rw [hi]; decide)))
  have hr := replyRead_slotted s k a body
  dsimp only at hr ⊢
  obtain ⟨h1, h2, h3⟩ := slotted_after (Dev.slotted.of_eq he (dataReply_slotted hr ..))
  generalize s.after (strandReplyReceive k pos mv rx s.dev.fresh0) = t at h1 h2 h3
  have hres := slotHas_of hcy h3
  refine ⟨h1, strandCounts_of h3, h2, fun hst => ?_, fun hst hst' => ?_, fun hst => ?_⟩
  · rw [if_neg (by rw [hst]; decide), if_pos hst] at hres
    exact hres
  · rw [if_neg hst, if_neg hst'] at hres
    exact hres
  · rw [if_pos hst] at hres
    exact hres

/-- An identity reply (R262, R278). -/
theorem replyIdentity_after (hi : bit (leBits 32 (body.take 4) : BitVec 32) 26 = true)
    (hst : (s.dev.node (nodeKey k a)).st ≠ .disabled) :
    let hd : BitVec 32 := leBits 32 (body.take 4)
    let y : BitVec 128 := leBits 128 (body.drop 4)
    let n := s.dev.node (nodeKey k a)
    let t := s.after (strandReplyReceive k pos mv rx s.dev.fresh0)
    slotOnly s k (nodeKey k a) t ∧ strandCounts s k t 0 0 0 ∧
      t.dev.node (nodeKey k a) = { n with
        st := if n.st = .active then .identifying else if identityFits n.cfg y then .active else .mismatch
        miss := 0, serial := fld y 64 64, nodeFw := fld y 16 16, lSeen := bit hd 24, tSeen := bit hd 25 } ∧
      (n.st = .identifying → identityFits n.cfg y → slotHas k a cy t .identityOk) := by
  have he := (strandReply_read (d := s.dev.fresh0) h hcy hs hfree hcfg hb hgood).trans
    ((if_neg (not_not_intro ha)).trans (if_pos hi))
  have hr := replyRead_slotted s k a body
  dsimp only at hr ⊢
  obtain ⟨r, hrr, hd⟩ := identityReply_slotted hr (leBits 128 (body.drop 4)) hst
  obtain ⟨h1, h2, h3⟩ := slotted_after (Dev.slotted.of_eq he hd)
  generalize s.after (strandReplyReceive k pos mv rx s.dev.fresh0) = t at h1 h2 h3
  have hres := slotHas_of hcy h3
  refine ⟨h1, strandCounts_of h3, h2, fun h1 h2 => ?_⟩
  rw [hrr h1 h2] at hres
  exact hres

end

theorem replyBad_iff (cfg : BitVec 256) (body : List Byte) : ¬replyBad cfg body ↔
    4 ≤ body.length ∧ fld (leBits 32 (body.take 4) : BitVec 32) 0 4 = 2 ∧ fld (leBits 32 (body.take 4) : BitVec 32) 4 4 = 1 ∧
      body.length = if bit (leBits 32 (body.take 4) : BitVec 32) 26 then 20 else 4 + 4 * nodeIn cfg + 8 := by
  unfold replyBad
  rw [not_or, not_or, not_or, not_not, not_not, not_not, Nat.not_lt]

/-- Settles O38: by what is heard in which slot. -/
theorem strandReplies : Obligations.StrandReplies := by
  intro s k a cy hs hk ha1 ha2 hcy hfree
  refine ⟨fun hn => ?_, fun pos mv rx hmv => ?_, fun pos mv rx hmv hsl => ?_, fun pos mv rx hmv hsl hcfg => ⟨fun hb => ?_, fun body hb => ?_⟩⟩
  · exact Runs.mainChecked (f := replySlotMiss k a) rfl (decide_eq_true ⟨hk, ha1, ha2⟩) hs (replySlotMiss_after hcy hfree hn)
  · exact Runs.stays (f := strandReplyReceive k pos mv rx) rfl (decide_eq_true hk) hs (strandReply_quiet k pos rx s.dev.fresh0 hmv)
  · exact Runs.stays (f := strandReplyReceive k pos mv rx) rfl (decide_eq_true hk) hs
      (strandReply_noSlot k rx (d := s.dev.fresh0) hmv hcy hsl)
  · exact Runs.mainChecked (f := strandReplyReceive k pos mv rx) rfl (decide_eq_true hk) hs
      (replyDamaged_after hmv hcy hsl hfree hcfg (.inl hb))
  · dsimp only
    rw [← replyBad_iff]
    refine ⟨fun hg => ?_, fun hg ha => ?_, fun hg ha hi => ?_, fun hg ha hi hst => ?_⟩
    · exact Runs.mainChecked (f := strandReplyReceive k pos mv rx) rfl (decide_eq_true hk) hs
        (replyDamaged_after hmv hcy hsl hfree hcfg (.inr ⟨body, hb, not_not.1 hg⟩))
    · exact Runs.mainChecked (f := strandReplyReceive k pos mv rx) rfl (decide_eq_true hk) hs
        (replyStray_after hmv hcy hsl hfree hcfg hb hg ha)
    · exact Runs.mainChecked (f := strandReplyReceive k pos mv rx) rfl (decide_eq_true hk) hs
        (replyData_after hmv hcy hsl hfree hcfg hb hg ha hi)
    · exact Runs.mainChecked (f := strandReplyReceive k pos mv rx) rfl (decide_eq_true hk) hs
        (replyIdentity_after hmv hcy hsl hfree hcfg hb hg ha hi hst)

end Sys2Proof.Machine
end

section
/-!
Acknowledgements of the host (R17, R129, R140, R152, R187).
-/
namespace Sys2Proof.Machine

/-! ### What a completed read clears (R16, R17) -/

/-- A function of the module that leaves channels, slots and what goes out alone, and does not look at the channels. -/
structure Dev.Clears (g : Dev → Dev) : Prop where
  setChan : ∀ d ch c, g (d.setChan ch c) = (g d).setChan ch c
  fresh0 : ∀ d, g d.fresh0 = (g d).fresh0
  keeps : ∀ d, (g d).tr.chans = d.tr.chans ∧ (g d).cp.slots = d.cp.slots

theorem Dev.Clears.id : Dev.Clears (fun d => d) := ⟨fun _ _ _ => rfl, fun _ => rfl, fun _ => ⟨rfl, rfl⟩⟩

theorem Dev.Clears.comp {g h : Dev → Dev} (hg : Dev.Clears g) (hh : Dev.Clears h) : Dev.Clears (fun d => h (g d)) where
  setChan d ch c := by rw [hg.setChan, hh.setChan]
  fresh0 d := by rw [hg.fresh0, hh.fresh0]
  keeps d := ⟨(hh.keeps _).1.trans (hg.keeps d).1, (hh.keeps _).2.trans (hg.keeps d).2⟩

/-- A clear that writes counters and peaks only. -/
theorem Dev.Clears.of {g : Dev → Dev} (h1 : ∀ d ch c, g (d.setChan ch c) = (g d).setChan ch c) (h2 : ∀ d, g d.fresh0 = (g d).fresh0)
    (h3 : ∀ d, (g d).tr.chans = d.tr.chans) (h4 : ∀ d, (g d).cp.slots = d.cp.slots) : Dev.Clears g :=
  ⟨h1, h2, fun d => ⟨h3 d, h4 d⟩⟩

theorem regsDevice_clears (off : Nat) (v : Reg) : Dev.Clears ((regsDevice off).clear v) := by
  unfold regsDevice
  split <;> exact Dev.Clears.of (fun _ _ _ => rfl) (fun _ => rfl) (fun _ => rfl) (fun _ => rfl)

theorem regsTime_clears (off : Nat) (v : Reg) : Dev.Clears ((regsTime off).clear v) := by
  unfold regsTime
  split
  case h_8 => split_ifs <;> exact Dev.Clears.of (fun _ _ _ => rfl) (fun _ => rfl) (fun _ => rfl) (fun _ => rfl)
  all_goals exact Dev.Clears.of (fun _ _ _ => rfl) (fun _ => rfl) (fun _ => rfl) (fun _ => rfl)

theorem regsPoints_clears (off : Nat) (v : Reg) : Dev.Clears ((regsPoints off).clear v) := by
  unfold regsPoints
  split
  case h_5 => split_ifs <;> exact Dev.Clears.of (fun _ _ _ => rfl) (fun _ => rfl) (fun _ => rfl) (fun _ => rfl)
  all_goals exact Dev.Clears.of (fun _ _ _ => rfl) (fun _ => rfl) (fun _ => rfl) (fun _ => rfl)

theorem regsCmd_clears (off : Nat) (v : Reg) : Dev.Clears ((regsCmd off).clear v) := by
  unfold regsCmd
  split
  case h_8 => split_ifs <;> exact Dev.Clears.of (fun _ _ _ => rfl) (fun _ => rfl) (fun _ => rfl) (fun _ => rfl)
  all_goals exact Dev.Clears.of (fun _ _ _ => rfl) (fun _ => rfl) (fun _ => rfl) (fun _ => rfl)

theorem regsPort_clears (p o : Nat) (v : Reg) : Dev.Clears ((regsPort p o).clear v) := by
  unfold regsPort
  split
  case h_12 => split_ifs <;> exact Dev.Clears.of (fun _ _ _ => rfl) (fun _ => rfl) (fun _ => rfl) (fun _ => rfl)
  all_goals exact Dev.Clears.of (fun _ _ _ => rfl) (fun _ => rfl) (fun _ => rfl) (fun _ => rfl)

theorem regsNet_clears (off : Nat) (v : Reg) : Dev.Clears ((regsNet off).clear v) := by
  unfold regsNet
  split
  case h_4 =>
    split_ifs
    · exact regsPort_clears ..
    all_goals exact Dev.Clears.of (fun _ _ _ => rfl) (fun _ => rfl) (fun _ => rfl) (fun _ => rfl)
  all_goals exact Dev.Clears.of (fun _ _ _ => rfl) (fun _ => rfl) (fun _ => rfl) (fun _ => rfl)

theorem regsLine_clears (k o : Nat) (v : Reg) : Dev.Clears ((regsLine k o).clear v) := by
  unfold regsLine
  split <;> exact Dev.Clears.of (fun _ _ _ => rfl) (fun _ => rfl) (fun _ => rfl) (fun _ => rfl)

theorem regsLogic_clears (off : Nat) (v : Reg) : Dev.Clears ((regsLogic off).clear v) := by
  unfold regsLogic
  split
  case h_9 => split_ifs <;> exact Dev.Clears.of (fun _ _ _ => rfl) (fun _ => rfl) (fun _ => rfl) (fun _ => rfl)
  all_goals exact Dev.Clears.of (fun _ _ _ => rfl) (fun _ => rfl) (fun _ => rfl) (fun _ => rfl)

theorem regsMeter_clears (off : Nat) (v : Reg) : Dev.Clears ((regsMeter off).clear v) := by
  unfold regsMeter
  split <;> exact Dev.Clears.of (fun _ _ _ => rfl) (fun _ => rfl) (fun _ => rfl) (fun _ => rfl)

theorem regsRecorder_clears (off : Nat) (v : Reg) : Dev.Clears ((regsRecorder off).clear v) := by
  unfold regsRecorder
  split
  case h_9 => split_ifs <;> exact Dev.Clears.of (fun _ _ _ => rfl) (fun _ => rfl) (fun _ => rfl) (fun _ => rfl)
  all_goals exact Dev.Clears.of (fun _ _ _ => rfl) (fun _ => rfl) (fun _ => rfl) (fun _ => rfl)

theorem regsAdmit_clears (off : Nat) (v : Reg) : Dev.Clears ((regsAdmit off).clear v) := by
  unfold regsAdmit
  split
  case h_13 => split_ifs <;> exact Dev.Clears.of (fun _ _ _ => rfl) (fun _ => rfl) (fun _ => rfl) (fun _ => rfl)
  all_goals exact Dev.Clears.of (fun _ _ _ => rfl) (fun _ => rfl) (fun _ => rfl) (fun _ => rfl)

/-- What a read of any register clears. -/
theorem regDef_clears (off : Nat) (v : Reg) : Dev.Clears ((regDef off).clear v) := by
  unfold regDef
  split_ifs
  · exact regsDevice_clears ..
  · exact regsTime_clears ..
  · exact regsPoints_clears ..
  · exact regsCmd_clears ..
  · exact regsNet_clears ..
  · exact regsLine_clears ..
  · exact regsLogic_clears ..
  · exact Dev.Clears.id
  · exact regsMeter_clears ..
  · exact regsRecorder_clears ..
  · exact regsAdmit_clears ..

/-- The registers that a completed READ_REG clears. -/
def readClearsRegs (c : Cmd) (n : Nat) (d : Dev) : Dev :=
  (List.range n).foldl (fun d i => (regDef (c.object i)).clear (c.taken.getD i 0) d) d

theorem readClearsRegs_clears (c : Cmd) (n : Nat) : Dev.Clears (readClearsRegs c n) := by
  induction n with
  | zero => exact Dev.Clears.id
  | succ n ih =>
    have he : readClearsRegs c (n + 1) = fun d => (regDef (c.object n)).clear (c.taken.getD n 0) (readClearsRegs c n d) := by
      funext d
      unfold readClearsRegs
      rw [List.range_succ, List.foldl_append]
      rfl
    rw [he]
    exact Dev.Clears.comp ih (regDef_clears ..)

/-- What another read of the same registers keeps to clear. -/
def Cmd.leftAfter (c x : Cmd) : Cmd :=
  if x.opcode ≠ 0x0C ∨ (x.ch = c.ch ∧ x.tag = c.tag) then x
  else { x with taken := (x.taken.zip (List.range x.taken.length)).map (fun v =>
    let o := x.object v.2
    if c.index ≤ o ∧ o < c.index + 4 * c.count then (regDef o).left (c.taken.getD ((o - c.index) / 4) 0) v.1 else v.1) }

theorem readClears_eq (c : Cmd) (d : Dev) : readClears c d = if c.opcode ≠ 0x0C then d else
    (readClearsRegs c c.count d).withCp { (readClearsRegs c c.count d).cp with
      slots := (readClearsRegs c c.count d).cp.slots.map c.leftAfter } := rfl

theorem readClears_setChan (c : Cmd) (d : Dev) (ch : Nat) (x : Channel) :
    readClears c (d.setChan ch x) = (readClears c d).setChan ch x := by
  rw [readClears_eq, readClears_eq, (readClearsRegs_clears ..).setChan]
  split <;> rfl

theorem readClears_fresh0 (c : Cmd) (d : Dev) : readClears c d.fresh0 = (readClears c d).fresh0 := by
  rw [readClears_eq, readClears_eq, (readClearsRegs_clears ..).fresh0]
  split <;> rfl

theorem readClears_chans (c : Cmd) (d : Dev) : (readClears c d).tr.chans = d.tr.chans := by
  rw [readClears_eq]
  split
  · rfl
  · exact ((readClearsRegs_clears c c.count).keeps d).1

theorem readClears_chan (c : Cmd) (d : Dev) (j : Nat) : (readClears c d).chan j = d.chan j := by
  unfold Dev.chan
  rw [readClears_chans]

theorem Cmd.leftAfter_self {c x : Cmd} (h1 : x.ch = c.ch) (h2 : x.tag = c.tag) : c.leftAfter x = x := if_pos (.inr ⟨h1, h2⟩)

theorem Cmd.leftAfter_keeps (c x : Cmd) : c.leftAfter x = { x with taken := (c.leftAfter x).taken } := by
  unfold Cmd.leftAfter
  split <;> rfl

/-- The slots after a completed read: the others keep all but what they have left to clear. -/
theorem readClears_slots (c : Cmd) (d : Dev) : ∃ f : Cmd → Cmd, (∀ x, f x = { x with taken := (f x).taken }) ∧
    (∀ x, x.ch = c.ch → x.tag = c.tag → f x = x) ∧ (readClears c d).cp.slots = d.cp.slots.map f := by
  rw [readClears_eq]
  split
  · exact ⟨fun x => x, fun _ => rfl, fun _ _ _ => rfl, (List.map_id' _).symm⟩
  · exact ⟨c.leftAfter, c.leftAfter_keeps, fun x => Cmd.leftAfter_self, congrArg (List.map c.leftAfter) ((readClearsRegs_clears c c.count).keeps d).2⟩

theorem readClears_slot {c : Cmd} {d : Dev} (h : d.slot c.ch c.tag = some c) : (readClears c d).slot c.ch c.tag = some c := by
  obtain ⟨f, hf, hself, hs⟩ := readClears_slots c d
  rw [Dev.slot_eq, hs, slotIn_map (fun x => ⟨(congrArg Cmd.ch (hf x)).trans rfl, (congrArg Cmd.tag (hf x)).trans rfl⟩), ← Dev.slot_eq, h]
  exact congrArg some (hself c rfl rfl)

theorem readClears_endedHeld {c : Cmd} {d : Dev} {ch : Nat} {tags : List Nat} (h : d.endedHeld ch tags) :
    (readClears c d).endedHeld ch tags := by
  obtain ⟨f, hf, -, hs⟩ := readClears_slots c d
  have hmem : ∀ x, x ∈ (readClears c d).inFlight ch ↔ ∃ y ∈ d.inFlight ch, f y = x := fun x => by
    rw [Dev.mem_inFlight, hs, List.mem_map]
    constructor
    · rintro ⟨⟨y, hy, rfl⟩, hc⟩
      rw [hf y] at hc
      exact ⟨y, Dev.mem_inFlight.2 ⟨hy, hc⟩, rfl⟩
    · rintro ⟨y, hy, rfl⟩
      obtain ⟨h1, h2⟩ := Dev.mem_inFlight.1 hy
      exact ⟨⟨y, h1, rfl⟩, by rw [hf y]; exact h2⟩
  intro e he hst
  obtain ⟨y, hy, rfl⟩ := (hmem e).1 he
  rw [hf y] at hst
  obtain ⟨b, hb, h1, h2, h3, h4⟩ := h y hy hst
  refine ⟨f b, (hmem _).2 ⟨b, hb, rfl⟩, ?_, ?_, ?_, ?_⟩
  · rw [hf b]
    exact h1
  · rw [hf b]
    exact h2
  · rw [hf b, hf y]
    exact h3
  · rw [hf b]
    exact h4

/-! ### The oldest request leaves (R165, R187) -/

/-- A channel whose oldest request is acknowledged. -/
def Channel.ackedOldest (c : Channel) (r : Req) (rest : List Req) : Channel := { c with
  unacked := rest, ackedPkts := 0, retries := 0, rnrTries := 0
  ackedSeq := match r.kind with
    | .records up => up
    | _ => c.ackedSeq }

/-- What the acknowledgement of a request completes. -/
def ackedDoes (ch : Nat) (r : Req) (d : Dev) : Dev := match r.kind with
  | .reply tag seq => replyAcked ch tag seq r.data d
  | _ => d

theorem ackInto_next {psn : BitVec 24} {old : Nat} {rest : List Req} (h : ∀ q, rest.head? = some q → q.psn = psn + 1) :
    ackInto psn old false rest = 0 := by
  unfold ackInto
  cases rest with
  | nil => rfl
  | cons q qs =>
    have hq : (psn - q.psn).toNat = 2 ^ 24 - 1 := by
      rw [h q rfl]
      have : psn - (psn + 1) = BitVec.allOnes 24 := by
        rw [← BitVec.sub_sub, BitVec.sub_self]
        decide
      rw [this]
      decide
    dsimp only
    rw [hq, if_pos (by decide), if_neg (by decide)]

theorem hostAck_oldest {ch : Nat} {d : Dev} {r : Req} {rest : List Req} (hst : (d.chan ch).st = .opened)
    (hu : (d.chan ch).unacked = r :: rest) (hlen : (r.lastPsn - r.psn).toNat < 2 ^ 23)
    (hrest : ∀ q ∈ rest, (r.lastPsn - r.psn).toNat < (q.lastPsn - r.psn).toNat)
    (hnext : ∀ q, rest.head? = some q → q.psn = r.lastPsn + 1) :
    hostAck ch r.lastPsn d = ackedDoes ch r (d.setChan ch ((d.chan ch).ackedOldest r rest)) := by
  have hf1 : (r :: rest).filter (fun q => decide ((q.lastPsn - r.psn).toNat ≤ (r.lastPsn - r.psn).toNat)) = [r] := by
    rw [List.filter_cons_of_pos (by simp), List.filter_eq_nil_iff.2 fun q hq => ?_]
    rw [decide_eq_true_eq, Nat.not_le]
    exact hrest q hq
  have hf2 : (r :: rest).filter (fun q => !decide ((q.lastPsn - r.psn).toNat ≤ (r.lastPsn - r.psn).toNat)) = rest := by
    rw [List.filter_cons_of_neg (by simp), List.filter_eq_self.2 fun q hq => ?_]
    rw [Bool.not_eq_true', decide_eq_false_iff_not, Nat.not_le]
    exact hrest q hq
  unfold hostAck
  dsimp only
  rw [hu]
  dsimp only
  rw [if_neg (not_or.2 ⟨not_not_intro hst, Nat.not_le.2 hlen⟩), hf1, hf2]
  have ha : ackInto r.lastPsn (d.chan ch).ackedPkts ([r] == []) rest = 0 := ackInto_next hnext
  rw [ha]
  rfl

/-! ### The reply's command completes (R129, R140) -/

theorem replyAcked_other {ch tag : Nat} {seq : W64} {reply : List Byte} {d : Dev}
    (h : ∀ x, d.slot ch tag = some x → x.stage = .replying → x.seq ≠ seq) : replyAcked ch tag seq reply d = d := by
  unfold replyAcked
  cases hs : d.slot ch tag with
  | none => rfl
  | some x =>
    refine if_pos ?_
    by_cases hx : x.stage = .replying
    · exact .inr (h x hs hx)
    · exact .inl hx

theorem replyAcked_late {x : Cmd} {reply : List Byte} {d : Dev} (h : d.slot x.ch x.tag = some x) (hst : x.stage = .replying)
    (hl : x.pastLimit d = true) : replyAcked x.ch x.tag x.seq reply d = limitReport x.ch x.tag d := by
  unfold replyAcked
  rw [h]
  exact (if_neg (not_or.2 ⟨not_not_intro hst, not_not_intro rfl⟩)).trans (if_pos hl)

theorem replyAcked_done {x : Cmd} {reply : List Byte} {d : Dev} (h : d.slot x.ch x.tag = some x) (hst : x.stage = .replying)
    (hl : x.pastLimit d = false) (hh : d.endedHeld x.ch [x.tag]) :
    replyAcked x.ch x.tag x.seq reply d = finishOne x.ch x.tag stOk 0 reply (readClears x d) := by
  unfold replyAcked
  rw [h]
  refine (if_neg (not_or.2 ⟨not_not_intro hst, not_not_intro rfl⟩)).trans ((if_neg (by rw [hl]; decide)).trans ?_)
  exact finish_alone (List.mem_singleton_self _) (readClears_endedHeld hh) _ _ _

/-- The reply of a command that ends goes with its COMPLETION record. -/
theorem finishOne_reply {ch tag : Nat} {c : Cmd} {d : Dev} (h : d.slot ch tag = some c) (hn : c.n = false) (fi : Nat)
    (reply : List Byte) : ∃ y, ((finishOne ch tag stOk fi reply d).chan ch).holds y ∧ y.status = 0 ∧ y.tag = fld c.hdr 16 8 ∧
      y.seq = c.seq ∧ y.reply = reply := by
  refine ⟨completionOf ((d.noted c ch tag stOk).setSlot { c with stage := .finished }) c.hdr c.seq stOk fi reply true, ?_,
    rfl, rfl, rfl, rfl⟩
  rw [finishOne_some h, if_neg (by rw [hn]; decide)]
  have hp := pushCompletion_chan ch (completionOf ((d.noted c ch tag stOk).setSlot { c with stage := .finished }) c.hdr c.seq stOk fi reply true)
    ((d.noted c ch tag stOk).setSlot { c with stage := .finished })
  have hk : ∀ e : Dev, (pollReady ch e).chan ch = e.chan ch := fun e => rfl
  rw [hk, hp]
  unfold Channel.pushed Channel.holds
  split
  · exact .inl (List.mem_append_right _ (List.mem_singleton_self _))
  · exact .inr (List.mem_append_right _ (List.mem_singleton_self _))

/-! ### The frame of a channel, from another state of it -/

theorem State.frameCh_rebase {s s' t : State} {ch : Nat} {b b' : Dev} (hs : s' = { s with dev := s'.dev })
    (hch : ∀ j, j ≠ ch → s'.dev.chan j = s.dev.chan j) (hb : b' = { b with tr := b'.tr }) (ht : b.tr.butReports b'.tr)
    (h : s'.frameCh t ch b') : s.frameCh t ch b := by
  obtain ⟨hf, htr, hc⟩ := h
  have he : ({ b' with tr := t.dev.tr } : Dev) = { b with tr := t.dev.tr } := by rw [hb]
  rw [he] at hf
  refine ⟨⟨?_, hf.2⟩, Transport.butReports_trans ht htr, fun j hj => hch j hj ▸ hc j hj⟩
  have h1 := hf.1
  rw [hs] at h1
  exact h1

/-- The state with another value of one channel. -/
def State.atChan (s : State) (ch : Nat) (c : Channel) : State := { s with dev := s.dev.setChan ch c }

/-- A completed reply, seen on the state after it. -/
theorem replyDone_after {s : State} {x : Cmd} {reply : List Byte} (c : Channel) (h : s.dev.slot x.ch x.tag = some x) :
    let t := s.after (finishOne x.ch x.tag stOk 0 reply (readClears x (s.dev.fresh0.setChan x.ch c)))
    (x.n = true → t.dev.slot x.ch x.tag = none ∧ (t.dev.chan x.ch).txq = c.txq ∧ (t.dev.chan x.ch).backlog = c.backlog) ∧
      (x.n = false → (t.dev.slot x.ch x.tag).map (·.stage) = some .finished ∧
        ∃ y, (t.dev.chan x.ch).holds y ∧ y.status = 0 ∧ y.tag = fld x.hdr 16 8 ∧ y.seq = x.seq ∧ y.reply = reply) ∧
      c.butCompletions (t.dev.chan x.ch) ∧ t.dev.out = [] ∧
      s.frameCh t x.ch { readClears x s.dev with cp := t.dev.cp } := by
  have he : readClears x (s.dev.fresh0.setChan x.ch c) = (readClears x (s.dev.setChan x.ch c)).fresh0 := by
    rw [← readClears_fresh0]
    rfl
  have hslot : (readClears x (s.dev.setChan x.ch c)).fresh0.slot x.ch x.tag = some x :=
    readClears_slot (d := s.dev.setChan x.ch c) h
  have hchan : ∀ j, (readClears x (s.dev.setChan x.ch c)).fresh0.chan j = if j = x.ch then c else s.dev.chan j := fun j =>
    (readClears_chan x (s.dev.setChan x.ch c) j).trans (Dev.chan_setChan ..)
  have hset : readClears x (s.dev.setChan x.ch c) = (readClears x s.dev).setChan x.ch c := readClears_setChan ..
  rw [he]
  generalize hd : (readClears x (s.dev.setChan x.ch c)).fresh0 = d at hslot hchan
  have hends := finishOne_endsOn x.ch x.tag stOk 0 reply d
  have hfin := finishOne_slot hslot stOk 0 reply
  obtain ⟨y, z, hy, hz, -⟩ := finishOne_chan hslot stOk 0 reply
  have hrep := fun hn => finishOne_reply hslot hn 0 reply
  generalize finishOne x.ch x.tag stOk 0 reply d = a at hends hfin hz hrep
  have hs1 : (s.after a).dev.slot x.ch x.tag = a.slot x.ch x.tag := by
    rw [Dev.slot_eq, (State.after_dev ..).2.2.1, ← Dev.slot_eq]
  have hc1 : (s.after a).dev.chan x.ch = a.chan x.ch := by rw [(State.after_objects ..).2.2.2.1]
  have ho1 : (s.after a).dev.out = a.out := by simp
  have hcp : (s.after a).dev.cp = a.cp := by rw [(State.after_dev ..).2.2.1]
  have hown : d.chan x.ch = c := (hchan x.ch).trans (if_pos rfl)
  dsimp only
  rw [hs1, hc1, ho1]
  refine ⟨fun hn => ?_, fun hn => ⟨?_, hrep hn⟩, ?_, ?_, ?_⟩
  · rw [if_pos (by rw [hn]; rfl)] at hfin hz
    obtain ⟨h1, h2, -⟩ := Channel.butDrops_keeps hy
    rw [hz, h1, h2, hown]
    refine ⟨Option.map_eq_none_iff.1 hfin, ?_, ?_⟩
    · unfold Channel.statusNoted
      rw [if_neg (by decide)]
      split <;> rfl
    · unfold Channel.statusNoted
      rw [if_neg (by decide)]
      split <;> rfl
  · rw [if_neg (by rw [hn]; decide)] at hfin
    exact hfin
  · have h := hends.2.2.2.1
    rw [hown] at h
    exact h
  · rw [hends.1, ← hd]
    rfl
  · rw [hcp]
    have hr : (readClears x (s.dev.setChan x.ch c)).reportsTo d := by
      rw [← hd]
      exact Dev.reportsTo_of_eq rfl rfl rfl
    let s' : State := { s with dev := readClears x (s.dev.setChan x.ch c) }
    have hf := State.frameCh_of_endsOn (s := s') (b := readClears x (s.dev.setChan x.ch c)) hends (by rw [← hd]; rfl) hr rfl a.cp
    refine State.frameCh_rebase (s' := s') rfl (fun j hj => ?_) ?_ ?_ hf
    · exact (hchan j).trans (if_neg hj) |> fun h => by rw [← h, ← hd]; rfl
    · rw [hset]
      rfl
    · show (readClears x s.dev).tr.butReports (readClears x (s.dev.setChan x.ch c)).tr
      rw [hset]
      rfl

/-- A reply that comes past its command's completion limit, seen on the state after it. -/
theorem replyLate_after {s : State} {x : Cmd} (c : Channel) (h : s.dev.slot x.ch x.tag = some x) (hh : s.dev.endedHeld x.ch [x.tag]) :
    let t := s.after (limitReport x.ch x.tag (s.dev.fresh0.setChan x.ch c))
    (t.dev.slot x.ch x.tag).map (·.stage) = some .finished ∧ t.dev.cp.limitCnt = satAdd s.dev.cp.limitCnt 1 ∧
      (∃ y, (t.dev.chan x.ch).holds y ∧ y.status = BitVec.ofNat 8 stInternal ∧ y.tag = fld x.hdr 16 8 ∧ y.seq = x.seq) ∧
      c.butCompletions (t.dev.chan x.ch) ∧ t.dev.out = [] ∧
      s.frameCh t x.ch { s.dev with cp := t.dev.cp, bk := x.endsTimeSet s.dev.bk } := by
  let s' : State := s.atChan x.ch c
  have hown : s'.dev.chan x.ch = c := (Dev.chan_setChan ..).trans (if_pos rfl)
  obtain ⟨⟨-, hends, -, hbut⟩, hlim, hout, hfr⟩ := limitReport_after (s := s') (c := x) (e := s.dev.fresh0.setChan x.ch c)
    (b := s.dev.setChan x.ch c) h hh rfl (Dev.reportsTo_of_eq rfl rfl rfl) rfl
  obtain ⟨h1, y, hy, hys, hyt, -, hyq, -⟩ := hends (.inr (by decide))
  rw [hown] at hbut
  refine ⟨h1, hlim, ⟨y, hy, hys, hyt, hyq⟩, hbut, hout, ?_⟩
  refine State.frameCh_rebase (s' := s') ?_ ?_ ?_ ?_ hfr
  · rfl
  · exact fun j hj => (Dev.chan_setChan ..).trans (if_neg hj)
  · rfl
  · rfl

/-! ### The obligation -/

/-- An acknowledgement in a frame that fits, of the oldest request alone. -/
theorem hostAckFrame_fits {s : State} {ch : Nat} {r : Req} {rest : List Req}
    (h : (s.dev.port (s.dev.chan ch).portNo).rxOk (s.dev.ackHead ch) = true) (hst : (s.dev.chan ch).st = .opened)
    (hu : (s.dev.chan ch).unacked = r :: rest) (hlen : (r.lastPsn - r.psn).toNat < 2 ^ 23)
    (hrest : ∀ q ∈ rest, (r.lastPsn - r.psn).toNat < (q.lastPsn - r.psn).toNat)
    (hnext : ∀ q, rest.head? = some q → q.psn = r.lastPsn + 1) :
    hostAckFrame ch r.lastPsn s.dev.fresh0 =
      ackedDoes ch r (s.dev.fresh0.setChan ch ((s.dev.chan ch).ackedOldest r rest)) :=
  (rxArrive_taken (hostAck ch r.lastPsn) (d := s.dev.fresh0) h (Dev.takes_ackHead s.dev.fresh0 ch)).trans
    (hostAck_oldest (d := s.dev.fresh0) hst hu hlen hrest hnext)

/-- Settles O24: by what the oldest request carried. -/
theorem hostAcknowledges : Obligations.HostAcknowledges := by
  intro s ch r rest hs hch hst hu hlen hrest hnext
  have hwf : (Instr.hostAck ch r.lastPsn).wellFormed = true := decide_eq_true hch
  have hrun := fun hfit => hostAckFrame_fits (s := s) hfit hst hu hlen hrest hnext
  refine ⟨fun hfit => ?_, fun hfit hno => ?_, fun hfit tag seq x hk hown hl => ?_, fun hfit tag seq x hk hown hl => ?_⟩
  · refine Runs.mainChecked (f := hostAckFrame ch r.lastPsn) rfl hwf hs ?_
    have hd : hostAckFrame ch r.lastPsn s.dev.fresh0 = rxDropped (s.dev.chan ch).portNo s.dev.fresh0 :=
      rxArrive_dropped (d := s.dev.fresh0) _ hfit
    rw [hd]
    exact frameDropped_after ..
  · refine Runs.mainChecked (f := hostAckFrame ch r.lastPsn) rfl hwf hs ?_
    have hd : ackedDoes ch r (s.dev.fresh0.setChan ch ((s.dev.chan ch).ackedOldest r rest)) =
        s.dev.fresh0.setChan ch ((s.dev.chan ch).ackedOldest r rest) := by
      unfold ackedDoes
      cases hk : r.kind with
      | reply tag seq => exact replyAcked_other (hno tag seq hk)
      | _ => rfl
    rw [hrun hfit, hd]
    have hsv := setChan_serves ch ((s.dev.chan ch).ackedOldest r rest) s.dev.fresh0
    refine ⟨?_, ?_, State.frameCh_of_serves_cp hsv rfl rfl⟩
    · rw [(State.after_objects ..).2.2.2.1, Dev.chan_setChan, if_pos rfl]
      rfl
    · simp only [State.after_dev]
      rfl
  · obtain ⟨hslot, hstage, rfl, rfl, rfl, hheld⟩ := hown
    refine Runs.mainChecked (f := hostAckFrame x.ch r.lastPsn) rfl hwf hs ?_
    have hd : ackedDoes x.ch r (s.dev.fresh0.setChan x.ch ((s.dev.chan x.ch).ackedOldest r rest)) =
        finishOne x.ch x.tag stOk 0 r.data (readClears x (s.dev.fresh0.setChan x.ch ((s.dev.chan x.ch).ackedOldest r rest))) := by
      unfold ackedDoes
      rw [hk]
      exact replyAcked_done (d := s.dev.fresh0.setChan x.ch ((s.dev.chan x.ch).ackedOldest r rest)) hslot hstage hl hheld
    rw [hrun hfit, hd]
    exact replyDone_after ((s.dev.chan x.ch).ackedOldest r rest) hslot
  · obtain ⟨hslot, hstage, rfl, rfl, rfl, hheld⟩ := hown
    refine Runs.mainChecked (f := hostAckFrame x.ch r.lastPsn) rfl hwf hs ?_
    have hd : ackedDoes x.ch r (s.dev.fresh0.setChan x.ch ((s.dev.chan x.ch).ackedOldest r rest)) =
        limitReport x.ch x.tag (s.dev.fresh0.setChan x.ch ((s.dev.chan x.ch).ackedOldest r rest)) := by
      unfold ackedDoes
      rw [hk]
      exact replyAcked_late (d := s.dev.fresh0.setChan x.ch ((s.dev.chan x.ch).ackedOldest r rest)) hslot hstage hl
    rw [hrun hfit, hd]
    exact replyLate_after ((s.dev.chan x.ch).ackedOldest r rest) hslot hheld

end Sys2Proof.Machine
end

section
/-!
Metering saves in the retained SRAM, and what an error in an accumulator restores (R395 to R397, R405).
-/
namespace Sys2Proof.Machine

/-! ### A save copy as written (R395, R405) -/

/-- The image of a copy's header. -/
def saveImage (fmt : BitVec 16) (kind : Nat) (frame cal seq : W64) (tag : Reg) : BitVec 480 :=
  put 480 448 tag ||| put 480 384 cal ||| put 480 320 frame ||| put 480 256 seq ||| put 480 208 (BitVec.ofNat 8 kind) |||
    put 480 192 fmt ||| put 480 0 0x4D455452#32

theorem saveHeader_eq (fmt : BitVec 16) (kind : Nat) (frame cal seq : W64) (tag : Reg) :
    saveHeader fmt kind frame cal seq tag = leBytes 60 (saveImage fmt kind frame cal seq tag).toNat := rfl

theorem leBits_wider (w n x : Nat) : leBits w (leBytes n x) = BitVec.ofNat w (x % 256 ^ n) := by
  unfold leBits
  rw [leNat_leBytes]

/-- A field of a header reads from its image. -/
theorem fld_saveHeader (fmt : BitVec 16) (kind : Nat) (frame cal seq : W64) (tag : Reg) {lo n : Nat} (h : lo + n ≤ 480) :
    fld (leBits 512 (saveHeader fmt kind frame cal seq tag)) lo n = fld (saveImage fmt kind frame cal seq tag) lo n := by
  have hx : (saveImage fmt kind frame cal seq tag).toNat < 256 ^ 60 := by
    have h256 : 256 = 2 ^ 8 := rfl
    rw [h256, ← Nat.pow_mul]
    exact (saveImage fmt kind frame cal seq tag).isLt
  rw [saveHeader_eq, leBits_wider, Nat.mod_eq_of_lt hx, BitVec.ofNat_toNat]
  exact fld_setWidth (n := 512) (lo := lo) (k := n) (saveImage fmt kind frame cal seq tag) (by omega)

theorem saveImage_fields (fmt : BitVec 16) (kind : Nat) (frame cal seq : W64) (tag : Reg) :
    let h := saveImage fmt kind frame cal seq tag
    fld h 0 32 = 0x4D455452#32 ∧ fld h 192 16 = fmt ∧ fld h 208 8 = BitVec.ofNat 8 kind ∧ fld h 256 64 = seq ∧
      fld h 320 64 = frame ∧ fld h 384 64 = cal ∧ fld h 448 32 = tag := by
  dsimp only
  unfold saveImage
  simp only [fld_or]
  refine ⟨?_, ?_, ?_, ?_, ?_, ?_, ?_⟩
  · rw [fld_put_apart _ 32 (by omega), fld_put_apart _ 32 (by omega), fld_put_apart _ 32 (by omega), fld_put_apart _ 32 (by omega),
      fld_put_apart _ 32 (by omega), fld_put_apart _ 32 (by omega), fld_put_self _ (by omega)]
    simp
  · rw [fld_put_apart _ 16 (by omega), fld_put_apart _ 16 (by omega), fld_put_apart _ 16 (by omega), fld_put_apart _ 16 (by omega),
      fld_put_apart _ 16 (by omega), fld_put_self _ (by omega), fld_put_apart _ 16 (by omega)]
    simp
  · rw [fld_put_apart _ 8 (by omega), fld_put_apart _ 8 (by omega), fld_put_apart _ 8 (by omega), fld_put_apart _ 8 (by omega),
      fld_put_self _ (by omega), fld_put_apart _ 8 (by omega), fld_put_apart _ 8 (by omega)]
    simp
  · rw [fld_put_apart _ 64 (by omega), fld_put_apart _ 64 (by omega), fld_put_apart _ 64 (by omega), fld_put_self _ (by omega),
      fld_put_apart _ 64 (by omega), fld_put_apart _ 64 (by omega), fld_put_apart _ 64 (by omega)]
    simp
  · rw [fld_put_apart _ 64 (by omega), fld_put_apart _ 64 (by omega), fld_put_self _ (by omega), fld_put_apart _ 64 (by omega),
      fld_put_apart _ 64 (by omega), fld_put_apart _ 64 (by omega), fld_put_apart _ 64 (by omega)]
    simp
  · rw [fld_put_apart _ 64 (by omega), fld_put_self _ (by omega), fld_put_apart _ 64 (by omega), fld_put_apart _ 64 (by omega),
      fld_put_apart _ 64 (by omega), fld_put_apart _ 64 (by omega), fld_put_apart _ 64 (by omega)]
    simp
  · rw [fld_put_self _ (by omega), fld_put_apart _ 32 (by omega), fld_put_apart _ 32 (by omega), fld_put_apart _ 32 (by omega),
      fld_put_apart _ 32 (by omega), fld_put_apart _ 32 (by omega), fld_put_apart _ 32 (by omega)]
    simp

theorem saveHeader_length (fmt : BitVec 16) (kind : Nat) (frame cal seq : W64) (tag : Reg) :
    (saveHeader fmt kind frame cal seq tag).length = 60 := by rw [saveHeader_eq, leBytes_length]

/-- A field of whole bytes in the middle of an image. -/
theorem leBits_middle {w a n : Nat} (bs : List Byte) (h : 8 * a + 8 * n ≤ w) (hl : a + n ≤ bs.length) :
    leBits (8 * n) ((bs.drop a).take n) = fld (leBits w bs) (8 * a) (8 * n) := by
  have hsplit : bs = (bs.take a ++ (bs.drop a).take n) ++ bs.drop (a + n) := by
    rw [List.append_assoc, ← List.drop_drop, List.take_append_drop, List.take_append_drop]
  have hta : (bs.take a).length = a := by rw [List.length_take]; omega
  have htn : ((bs.drop a).take n).length = n := by rw [List.length_take, List.length_drop]; omega
  have h1 := fld_leBits_tail w n (bs.take a) ((bs.drop a).take n) (by rw [hta]; exact h) htn
  rw [hta] at h1
  rw [← h1]
  conv_rhs => rw [hsplit]
  exact (fld_leBits_append w _ _ _ _ (by rw [List.length_append, hta, htn]; omega)).symm

/-- The bytes of a copy. -/
def copyBytes (fmt : BitVec 16) (kind : Nat) (frame cal seq : W64) (tag : Reg) (recs : List Byte) : List Byte :=
  saveHeader fmt kind frame cal seq tag ++ leBytes 4 (crc32 (saveHeader fmt kind frame cal seq tag ++ recs)).toNat ++ recs

theorem copyBase_le (b : Bool) : copyBase b ≤ 0x2000 := by
  unfold copyBase
  split <;> omega

section
variable (m : Memory) (b : Bool) (fmt : BitVec 16) {kind : Nat} (frame cal seq : W64) (tag : Reg) {recs : List Byte}
  (hr : recs.length = 8064)
include hr

theorem copyBytes_length : (copyBytes fmt kind frame cal seq tag recs).length = 8128 := by
  unfold copyBytes
  rw [List.length_append, List.length_append, saveHeader_length, leBytes_length, hr]

/-- A copy that is written reads back as valid, with its fields (R395). -/
theorem readCopy_copyBytes (hk : kind < 256) :
    readCopy fmt (Memory.read (m.writeAll (placeBytes (copyBase b) (copyBytes fmt kind frame cal seq tag recs)))) b =
      some (seq, kind, cal, tag, recs) := by
  obtain ⟨f1, f2, f3, f4, -, f6, f7⟩ := saveImage_fields fmt kind frame cal seq tag
  have hf := fun {lo n : Nat} (h : lo + n ≤ 480) => fld_saveHeader fmt kind frame cal seq tag h
  have h := readCopy_written fmt m b (saveHeader fmt kind frame cal seq tag) recs (saveHeader_length ..) hr
    ((hf (by omega)).trans f1) ((hf (by omega)).trans f2)
  rw [hf (by omega), hf (by omega), hf (by omega), hf (by omega), f3, f4, f6, f7, BitVec.toNat_ofNat, Nat.mod_eq_of_lt hk] at h
  exact h

/-- Its FRAME. -/
theorem copyFrame_copyBytes : leBits 64 ((List.range 8).map (fun i =>
    (m.writeAll (placeBytes (copyBase b) (copyBytes fmt kind frame cal seq tag recs))).read (copyBase b + 40 + i))) = frame := by
  have hlen := copyBytes_length fmt (kind := kind) frame cal seq tag hr
  have hb := copyBase_le b
  have hbytes : (List.range 8).map (fun i =>
      (m.writeAll (placeBytes (copyBase b) (copyBytes fmt kind frame cal seq tag recs))).read (copyBase b + 40 + i)) =
      ((copyBytes fmt kind frame cal seq tag recs).drop 40).take 8 := by
    apply List.ext_getElem
    · simp [hlen]
    · intro i h1 h2
      have hi : i < 8 := by simpa using h1
      simp only [List.getElem_map, List.getElem_range, List.getElem_take, List.getElem_drop]
      rw [show copyBase b + 40 + i = copyBase b + (40 + i) by omega]
      exact Memory.read_placed m _ _ (by rw [hlen]; simp only [Memory.size]; omega) _ (by omega)
  rw [hbytes]
  refine (leBits_middle (w := 512) (a := 40) (n := 8) _ (by omega) (by omega)).trans ?_
  have happ := fld_leBits_append 512 320 64 (saveHeader fmt kind frame cal seq tag)
    (leBytes 4 (crc32 (saveHeader fmt kind frame cal seq tag ++ recs)).toNat ++ recs) (by rw [saveHeader_length]; omega)
  rw [← List.append_assoc] at happ
  exact happ.trans ((fld_saveHeader fmt kind frame cal seq tag (by omega)).trans (saveImage_fields fmt kind frame cal seq tag).2.2.2.2.1)

end

/-- A save writes MAGIC 0 and then its copy (R395). -/
theorem saveCopy_wr (kind : Nat) (recs : List Byte) (frame cal : W64) (tag : Reg) (d : Dev) :
    (saveCopy kind recs frame cal tag d).wr = d.wr ++ placeBytes (copyBase d.mt.target) zeroMark ++
      placeBytes (copyBase d.mt.target) (copyBytes (d.format 1) kind frame cal (d.mt.saveSeq + 1) tag recs) := rfl

/-- A save whose copy stands in the retained SRAM, on top of bytes that earlier writes of the command left. -/
theorem savedCopy_reads (m : Memory) {kind : Nat} {recs : List Byte} (frame cal : W64) (tag : Reg) (d : Dev)
    (hr : recs.length = 8064) (hk : kind < 256) (hw : d.wr = []) :
    let b := d.mt.target
    let ram := Memory.read (m.writeAll (saveCopy kind recs frame cal tag d).wr)
    readCopy (d.format 1) ram b = some (d.mt.saveSeq + 1, kind, cal, tag, recs) ∧
      leBits 64 ((List.range 8).map (fun i => ram (copyBase b + 40 + i))) = frame ∧
      ∀ a, (a < copyBase b ∨ copyBase b + 8128 ≤ a) → ram a = m.read a := by
  have hlen := copyBytes_length (d.format 1) (kind := kind) frame cal (d.mt.saveSeq + 1) tag hr
  dsimp only
  rw [saveCopy_wr, hw, List.nil_append, Memory.writeAll_append]
  refine ⟨readCopy_copyBytes _ _ _ _ _ _ _ hr hk, copyFrame_copyBytes _ _ _ _ _ _ _ hr, fun a ha => ?_⟩
  rw [Memory.read_placed_other _ _ _ _ (by rw [hlen]; exact ha), Memory.read_zeroMark_other _ (by omega)]

/-- The copy that a save writes, as the metering unit knows it. -/
theorem Meter.target_eq (x : Meter) : x.target = (x.newest == some false) := by
  unfold Meter.target
  cases x.newest with
  | none => rfl
  | some b => cases b <;> rfl

theorem copyBase_target (x : Meter) : copyBase x.target = if x.newest == some false then 0x2000 else 0 := by
  rw [Meter.target_eq]
  rfl

/-! ### The state after a save -/

/-- A copy that stands in the retained SRAM, with the metering unit that knows it. -/
def copySaved (s t : State) (kind : Nat) (cal frame : W64) (tag : Reg) (recs : List Byte) : Prop :=
  let b : Bool := s.dev.mt.newest == some false
  let base := if b then 0x2000 else 0
  readCopy (s.dev.format 1) (Memory.read t.sram) b = some (s.dev.mt.saveSeq + 1, kind, cal, tag, recs) ∧
    leBits 64 ((List.range 8).map (fun i => Memory.read t.sram (base + 40 + i))) = frame ∧
    (∀ a, (a < base ∨ base + 8128 ≤ a) → Memory.read t.sram a = Memory.read s.sram a) ∧
    t.dev.mt.newest = some b ∧ t.dev.mt.saveSeq = s.dev.mt.saveSeq + 1 ∧ t.dev.mt.saveCnt = s.dev.mt.saveCnt + 1 ∧
    t.dev.mt.saveDue = none

theorem copySaved_of {s t : State} {kind : Nat} {recs : List Byte} {frame cal : W64} {tag : Reg} (hr : recs.length = 8064)
    (hk : kind < 256) (hsram : t.sram = s.sram.writeAll (saveCopy kind recs frame cal tag s.dev.fresh0).wr)
    (h1 : t.dev.mt.newest = some s.dev.mt.target) (h2 : t.dev.mt.saveSeq = s.dev.mt.saveSeq + 1)
    (h3 : t.dev.mt.saveCnt = s.dev.mt.saveCnt + 1) (h4 : t.dev.mt.saveDue = none) : copySaved s t kind cal frame tag recs := by
  obtain ⟨r1, r2, r3⟩ := savedCopy_reads s.sram frame cal tag s.dev.fresh0 hr hk rfl
  rw [← hsram] at r1 r2 r3
  have ht : s.dev.fresh0.mt.target = s.dev.mt.target := rfl
  rw [ht, Meter.target_eq] at r1
  rw [ht, copyBase_target] at r2 r3
  rw [Meter.target_eq] at h1
  exact ⟨r1, r2, r3, h1, h2, h3, h4⟩

/-- The state with other bytes in the retained SRAM. -/
def State.withRam (s : State) (m : Memory) : State := { s with sram := m }

theorem withSram_eq (s : State) (f : (Nat → Byte) → Dev → Dev) : s.withSram f =
    (s.withRam (s.sram.writeAll (f (Memory.read s.sram) s.dev.fresh0).wr)).after (f (Memory.read s.sram) s.dev.fresh0) := rfl

/-! ### METER_PERIODIC_SAVE (R396) -/

/-- The metering unit once a periodic save has begun. -/
def Dev.saving (d : Dev) : Meter :=
  { d.mt with savedAt := some d.tb.frame, saveDue := some (saveRecords d, d.tb.frame, d.cal, d.siteTag) }

/-- The module with another metering unit and bytes to be written. -/
def Dev.withMt (d : Dev) (x : Meter) (w : List (Nat × Byte)) : Dev := { d with mt := x, wr := w }

theorem periodicSave_due {d : Dev} (h : d.tb.frame.toNat % 1000 = 0 ∧ d.tb.sample = 0 ∧ d.mt.savedAt ≠ some d.tb.frame ∧
    d.mt.snapDue = none) : periodicSave d = d.withMt d.saving (d.wr ++ placeBytes (copyBase d.mt.target) zeroMark) := if_pos h

theorem saveBegins_after (s : State) (x : Meter) :
    let w := placeBytes (copyBase s.dev.mt.target) zeroMark
    let t := (s.withRam (s.sram.writeAll w)).after (s.dev.fresh0.withMt x w)
    let base := if s.dev.mt.newest == some false then 0x2000 else 0
    ((∀ a, base ≤ a → a < base + 4 → Memory.read t.sram a = 0) ∧
      ∀ a, (a < base ∨ base + 4 ≤ a) → Memory.read t.sram a = Memory.read s.sram a) ∧
      (s.withRam t.sram).silent t { s.dev with mt := x } := by
  have hb := copyBase_le s.dev.mt.target
  have hsram : ∀ a : Dev, ((s.withRam (s.sram.writeAll (placeBytes (copyBase s.dev.mt.target) zeroMark))).after a).sram =
      s.sram.writeAll (placeBytes (copyBase s.dev.mt.target) zeroMark) := fun _ => rfl
  dsimp only
  rw [hsram, ← copyBase_target]
  exact ⟨⟨fun a h1 h2 => Memory.read_zeroMark _ (by simp only [Memory.size]; omega) h1 h2, fun a h => Memory.read_zeroMark_other _ h⟩,
    State.silent_of_eq rfl⟩

/-! ### Saves that complete (R396) -/

theorem saveSample_waits {d : Dev} {recs : List Byte} {frame cal : W64} {tag : Reg} (h : d.mt.saveDue = some (recs, frame, cal, tag))
    (hw : d.tb.sample < 3 ∧ d.tb.frame = frame) : saveSample d = d := by
  unfold saveSample
  rw [h]
  exact if_pos hw

theorem saveSample_due {d : Dev} {recs : List Byte} {frame cal : W64} {tag : Reg} (h : d.mt.saveDue = some (recs, frame, cal, tag))
    (hw : ¬(d.tb.sample < 3 ∧ d.tb.frame = frame)) : saveSample d = saveCopy 1 recs frame cal tag d := by
  unfold saveSample
  rw [h]
  exact if_neg hw

/-- The metering unit once a snapshot is complete. -/
def Meter.snapDone (x : Meter) (us : Nat) : Meter := { x with snapDue := none, snapUs := satNat 16 us }

theorem snapshotComplete_due {us : Nat} {d : Dev} {recs : List Byte} {frame cal : W64} {tag : Reg}
    (h : d.mt.snapDue = some (recs, cal, frame, tag)) : ∃ e, snapshotComplete us d =
      report e ((saveCopy 2 recs frame cal tag d).withMt ((saveCopy 2 recs frame cal tag d).mt.snapDone us)
        (saveCopy 2 recs frame cal tag d).wr) := by
  unfold snapshotComplete
  rw [h]
  exact ⟨_, rfl⟩

/-- The metering unit with a completed snapshot. -/
def Meter.snapSaved (x : Meter) (us : Nat) : Meter := { x with
  saveSeq := x.saveSeq + 1, newest := some x.target, saveCnt := x.saveCnt + 1, saveDue := none, snapDue := none, snapUs := satNat 16 us }

/-- The backup domain with a copy that is no longer known to be damaged. -/
def Backup.copied (x : Backup) (b : Bool) : Backup := { x with badA := x.badA && b, badB := x.badB && !b }

/-- A snapshot that completes, seen on the state after it. -/
theorem snapshot_after {s : State} {us : Nat} {recs : List Byte} {frame cal : W64} {tag : Reg} (hr : recs.length = 8064)
    (h : s.dev.mt.snapDue = some (recs, cal, frame, tag)) :
    let t := s.withSram (fun _ => snapshotComplete us)
    copySaved s t 2 cal frame tag recs ∧ t.dev.mt = s.dev.mt.snapSaved us ∧
      (s.withRam t.sram).frame t { s.dev with mt := s.dev.mt.snapSaved us, bk := s.dev.bk.copied s.dev.mt.target } := by
  obtain ⟨e, he⟩ := snapshotComplete_due (us := us) (d := s.dev.fresh0) h
  have hsc := saveCopy_eq 2 recs frame cal tag s.dev.fresh0
  have hcopy := fun (t : State) => copySaved_of (s := s) (t := t) (kind := 2) (frame := frame) (cal := cal) (tag := tag) hr (by decide)
  have hw := withSram_eq s (fun _ => snapshotComplete us)
  dsimp only at hw ⊢
  rw [hw, he]
  generalize saveCopy 2 recs frame cal tag s.dev.fresh0 = g at hsc hcopy ⊢
  have ha : g.withMt (g.mt.snapDone us) g.wr =
      { s.dev.fresh0 with wr := g.wr, mt := s.dev.mt.snapSaved us, bk := s.dev.bk.copied s.dev.mt.target } := by
    unfold Dev.withMt
    rw [hsc]
    rfl
  have hrep := report_reportsTo e (g.withMt (g.mt.snapDone us) g.wr)
  have honly := report_reportsOnly e (g.withMt (g.mt.snapDone us) g.wr)
  unfold Dev.reportsOnly at honly
  rw [ha] at hrep honly ⊢
  generalize report e _ = r at hrep honly ⊢
  have hwr : r.wr = g.wr := by rw [honly]
  have hmt : ((s.withRam (s.sram.writeAll r.wr)).after r).dev.mt = s.dev.mt.snapSaved us := by
    have h0 : ((s.withRam (s.sram.writeAll r.wr)).after r).dev.mt = r.mt := by simp
    rw [h0, honly]
  refine ⟨hcopy _ ?_ ?_ ?_ ?_ ?_, hmt, ?_⟩
  · rw [hwr]
    rfl
  · exact congrArg Meter.newest hmt
  · exact congrArg Meter.saveSeq hmt
  · exact congrArg Meter.saveCnt hmt
  · exact congrArg Meter.saveDue hmt
  · exact State.frame_of_eq (Dev.reportsTo_congr hrep rfl rfl rfl) (by rw [honly]; rfl) (by rw [honly]; rfl)

/-- A periodic save that completes, seen on the state after it. -/
theorem saveSample_after {s : State} {recs : List Byte} {frame cal : W64} {tag : Reg} (hr : recs.length = 8064)
    (h : s.dev.mt.saveDue = some (recs, frame, cal, tag)) (hd : ¬(s.dev.tb.sample < 3 ∧ s.dev.tb.frame = frame)) :
    copySaved s (s.withSram (fun _ => saveSample)) 1 cal frame tag recs := by
  have he := saveSample_due (d := s.dev.fresh0) h hd
  have hsc := saveCopy_eq 1 recs frame cal tag s.dev.fresh0
  have hcopy := fun (t : State) => copySaved_of (s := s) (t := t) (kind := 1) (frame := frame) (cal := cal) (tag := tag) hr (by decide)
  rw [withSram_eq, he]
  generalize saveCopy 1 recs frame cal tag s.dev.fresh0 = g at hsc hcopy ⊢
  have h0 : ((s.withRam (s.sram.writeAll g.wr)).after g).dev.mt = g.mt := by simp
  have hmt := h0.trans (congrArg Dev.mt hsc)
  exact hcopy _ rfl (congrArg Meter.newest hmt) (congrArg Meter.saveSeq hmt) (congrArg Meter.saveCnt hmt) (congrArg Meter.saveDue hmt)

/-! ### ACC_MEMORY (R397) -/

/-- The first `n` accumulators and residues of a record. -/
def accFold (v : BitVec 896) (n : Nat) (a : Acc) : Acc := (List.range n).foldl (fun a j =>
  { a with acc := tset 0 a.acc j (fld v (96 * j) 96), residue := tset 0 a.residue j (fld v (672 + 32 * j) 32) }) a

theorem accFold_holds (v : BitVec 896) (n : Nat) (a : Acc) :
    accFold v n a = { a with acc := (accFold v n a).acc, residue := (accFold v n a).residue } ∧
      ∀ j, j < n → tget 0 (accFold v n a).acc j = fld v (96 * j) 96 ∧
        tget 0 (accFold v n a).residue j = fld v (672 + 32 * j) 32 := by
  induction n with
  | zero => exact ⟨rfl, fun j hj => absurd hj (Nat.not_lt_zero j)⟩
  | succ n ih =>
    obtain ⟨h1, h2⟩ := ih
    have he : accFold v (n + 1) a = { accFold v n a with
        acc := tset 0 (accFold v n a).acc n (fld v (96 * n) 96)
        residue := tset 0 (accFold v n a).residue n (fld v (672 + 32 * n) 32) } := by
      unfold accFold
      rw [List.range_succ, List.foldl_append]
      rfl
    rw [he]
    refine ⟨?_, fun j hj => ?_⟩
    · dsimp only
      rw [h1]
    · dsimp only
      rw [tget_tset, tget_tset]
      by_cases hjn : j = n
      · rw [if_pos hjn, if_pos hjn, hjn]
        exact ⟨rfl, rfl⟩
      · rw [if_neg hjn, if_neg hjn]
        exact h2 j (by omega)

/-- An accumulator that is written after an error in it, seen on the state after its reports. -/
theorem accWritten_after {s : State} {c : Nat} {x : Acc} {a : Dev} (hr : ((countUncorr s.dev.fresh0).setAcc c x).reportsTo a)
    (ho : ((countUncorr s.dev.fresh0).setAcc c x).reportsOnly a) :
    let t := s.after a
    (∀ k, k ≠ c → t.dev.acc k = s.dev.acc k) ∧ t.dev.flt.eccUncorr = satAdd s.dev.flt.eccUncorr 1 ∧
      s.frame t { s.dev with
        mt := { s.dev.mt with accs := t.dev.mt.accs }, flt := { s.dev.flt with eccUncorr := t.dev.flt.eccUncorr } } ∧
      t.dev.acc c = x := by
  unfold Dev.reportsOnly at ho
  have hacc : ∀ k, (s.after a).dev.acc k = if k = c then x else s.dev.acc k := fun k => by
    have h0 : (s.after a).dev.acc k = a.acc k := by simp
    rw [h0, ho]
    exact Dev.acc_setAcc ..
  have hecc : (s.after a).dev.flt.eccUncorr = satAdd s.dev.flt.eccUncorr 1 := by
    have h0 : (s.after a).dev.flt = a.flt := by simp
    rw [h0, congrArg FaultRegs.eccUncorr hr.2.2.2]
    rfl
  have hmt : (s.after a).dev.mt = ((countUncorr s.dev.fresh0).setAcc c x).mt := by
    have h0 : (s.after a).dev.mt = a.mt := by simp
    rw [h0, ho]
  dsimp only
  refine ⟨fun k hk => (hacc k).trans (if_neg hk), hecc, ?_, (hacc c).trans (if_pos rfl)⟩
  rw [hecc, hmt]
  exact State.frame_of_eq (Dev.reportsTo_congr hr rfl rfl rfl) (by rw [ho]; rfl) (by rw [ho]; rfl)

/-- An accumulator whose values are gone. -/
def Acc.wiped (a : Acc) : Acc := { a with acc := [], residue := [] }

/-- An accumulator that takes the values of a saved record. -/
def Acc.recalled (a : Acc) (recs : List Byte) (c : Nat) : Acc :=
  { accFold (leBits 896 (slice recs (112 * c) 112)) 7 a with memRestored := true, lossUnsaved := true }

theorem accMemory_after (s : State) (c : Nat) :
    let ram := Memory.read s.sram
    let newest := newestCopy (s.dev.format 1) s.dev.bk.badA s.dev.bk.badB ram
    let t := s.after (accMemory ram c s.dev.fresh0)
    (∀ k, k ≠ c → t.dev.acc k = s.dev.acc k) ∧ t.dev.flt.eccUncorr = satAdd s.dev.flt.eccUncorr 1 ∧
      s.frame t { s.dev with
        mt := { s.dev.mt with accs := t.dev.mt.accs }, flt := { s.dev.flt with eccUncorr := t.dev.flt.eccUncorr } } ∧
      (∀ x, newest = some x →
        let v : BitVec 896 := leBits 896 (slice x.2.2.2.2.2 (112 * c) 112)
        t.dev.acc c = { s.dev.acc c with
          memRestored := true, lossUnsaved := true, acc := (t.dev.acc c).acc, residue := (t.dev.acc c).residue } ∧
          ∀ j, j < 7 → tget 0 (t.dev.acc c).acc j = fld v (96 * j) 96 ∧
            tget 0 (t.dev.acc c).residue j = fld v (672 + 32 * j) 32) ∧
      (newest = none → t.dev.acc c = { s.dev.acc c with acc := [], residue := [] }) := by
  intro ram newest t
  have hnew : newestCopy ((countUncorr s.dev.fresh0).format 1) (countUncorr s.dev.fresh0).bk.badA (countUncorr s.dev.fresh0).bk.badB ram =
      newest := rfl
  cases hx : newest with
  | none =>
    have he : ∃ e1 e2, accMemory ram c s.dev.fresh0 =
        report e1 (report e2 ((countUncorr s.dev.fresh0).setAcc c (s.dev.acc c).wiped)) := by
      unfold accMemory
      dsimp only
      rw [hnew, hx]
      exact ⟨_, _, rfl⟩
    obtain ⟨e1, e2, he⟩ := he
    have h := accWritten_after (s := s) (c := c) (x := (s.dev.acc c).wiped) (Dev.reportsTo_trans (report_reportsTo e2 _) (report_reportsTo e1 _))
      (Dev.reportsOnly_trans (report_reportsOnly e2 _) (report_reportsOnly e1 _))
    rw [← he] at h
    obtain ⟨h1, h2, h3, h4⟩ := h
    exact ⟨h1, h2, h3, nofun, fun _ => h4⟩
  | some x =>
    obtain ⟨b, seq, kind, cal, tag, recs⟩ := x
    have he : ∃ e, accMemory ram c s.dev.fresh0 = report e
        ((countUncorr s.dev.fresh0).setAcc c ((s.dev.acc c).recalled recs c)) := by
      unfold accMemory
      dsimp only
      rw [hnew, hx]
      exact ⟨_, rfl⟩
    obtain ⟨e, he⟩ := he
    have h := accWritten_after (s := s) (c := c) (x := (s.dev.acc c).recalled recs c) (report_reportsTo e _) (report_reportsOnly e _)
    rw [← he] at h
    obtain ⟨h1, h2, h3, h4⟩ := h
    refine ⟨h1, h2, h3, fun x hx => ?_, nofun⟩
    obtain rfl := Option.some.inj hx
    obtain ⟨f1, f2⟩ := accFold_holds (leBits 896 (slice recs (112 * c) 112)) 7 (s.dev.acc c)
    dsimp only
    have h4' : t.dev.acc c = { accFold (leBits 896 (slice recs (112 * c) 112)) 7 (s.dev.acc c) with
      memRestored := true, lossUnsaved := true } := h4
    generalize accFold (leBits 896 (slice recs (112 * c) 112)) 7 (s.dev.acc c) = y at f1 f2 h4'
    rw [h4']
    refine ⟨?_, f2⟩
    rw [f1]

/-- Settles O48: each copy reads back as it was written. -/
theorem meterSaves : Obligations.MeterSaves := by
  intro s hs
  have hexec : exec .meterPeriodicSave s = mainStepM (fun _ => periodicSave) s := rfl
  refine ⟨fun h1 h2 h3 h4 => ?_, fun h => ?_, fun recs cal frame tag h hr => ⟨fun hw => saveSample_waits h hw, fun hd => ?_⟩,
    fun us recs cal frame tag h hr => ?_, fun us h => ?_, fun c hc => ?_⟩
  · refine Runs.mainM hexec hs ?_
    have he := periodicSave_due (d := s.dev.fresh0) ⟨h1, h2, h3, h4⟩
    rw [withSram_eq, he]
    exact saveBegins_after s s.dev.saving
  · refine Runs.mainM hexec hs (State.silent_withSram (if_neg ?_))
    rintro ⟨h1, h2, h3, h4⟩
    rcases h with h | h | h | h
    · exact h h1
    · exact h h2
    · exact h3 h
    · exact h h4
  · exact ⟨_, rfl, saveSample_after hr h hd⟩
  · refine Runs.mainM (f := fun _ => snapshotComplete us) rfl hs ?_
    obtain ⟨h1, h2, h3⟩ := snapshot_after (us := us) hr h
    dsimp only at h1 h2 h3 ⊢
    generalize s.withSram (fun _ => snapshotComplete us) = t at h1 h2 h3
    refine ⟨h1, congrArg Meter.snapDue h2, congrArg Meter.snapUs h2, ?_⟩
    rw [h2, ← Meter.target_eq]
    exact h3
  · refine Runs.mainM (f := fun _ => snapshotComplete us) rfl hs (State.silent_withSram ?_)
    unfold snapshotComplete
    rw [show s.dev.fresh0.mt.snapDue = none from h]
  · have hx : exec (.accMemory c) s = checked (.accMemory c) (mainStepR (fun ram => accMemory ram c) s) := rfl
    exact Runs.mainR (hx.trans (checked_wf (decide_eq_true hc))) hs (accMemory_after s c)

end Sys2Proof.Machine
end

section
/-!
Marks and damaged records of the recorder, its retained tail, and errors in retained bytes (R465, R474 to R479, R506, R509).
-/
namespace Sys2Proof.Machine

/-! ### REC_MARK (R465) -/

/-- The module with another recorder. -/
def Dev.withRcd (d : Dev) (r : Recorder) : Dev := { d with rcd := r }

/-- The record of a mark. -/
def Dev.markRec (d : Dev) (v : Reg) : Rec := { Rec.reset with
  cal := d.cal, frame := BitVec.ofNat 32 d.tb.frame.toNat, object := v, seq := d.rcd.next, code := 0x0C05
  calUnset := !d.bk.calSet, subsystem := 12, source := 2, firstAt := d.tb.ran }

/-- The recorder with one more record. -/
def Recorder.stored1 (r : Recorder) (x : Rec) : Recorder :=
  { r with recs := tset Rec.reset r.recs (r.next.toNat % 32768) x, stored := r.stored + 1, next := r.next + 1 }

theorem recMark_room {v : Reg} {d : Dev} (h : d.rcd.stored < 32768) (hi : d.rcd.intake = none) :
    recMark v d = d.withRcd (d.rcd.stored1 (d.markRec v)) := by
  have hm : d.rcd.merges ⟨2, 0, 0x0C05, v, 12, false, false, []⟩ = false := by
    unfold Recorder.merges
    simp
  have hf : decide (d.rcd.stored = 32768) = false := decide_eq_false (by omega)
  have hc : capture ⟨2, 0, 0x0C05, v, 12, false, false, []⟩ d = (d.withRcd (d.rcd.stored1 (d.markRec v)), false) := by
    unfold capture
    rw [hi]
    dsimp only
    unfold captureNow
    dsimp only
    rw [hm, hf]
    rfl
  unfold recMark captureRep
  rw [hc]
  rfl

theorem silent_rcd (s : State) (r : Recorder) : (s.after (s.dev.fresh0.withRcd r)).dev.rcd = r ∧
    s.silent (s.after (s.dev.fresh0.withRcd r)) { s.dev with rcd := r } :=
  ⟨by simp only [State.after_dev]; rfl, State.silent_of_eq rfl⟩

theorem captureRep_after (s : State) (x : RecIn) : s.frame (s.after (captureRep x s.dev.fresh0)) s.dev := by
  have hr := captureRep_reportsTo x s.dev.fresh0
  have ho := captureRep_reportsOnly x s.dev.fresh0
  unfold Dev.reportsOnly at ho
  exact State.frame_of_eq (Dev.reportsTo_congr hr rfl rfl rfl) (by rw [ho]; rfl) (by rw [ho]; rfl)

/-! ### RECORD_MEMORY (R479) -/

/-- What stands in place of a damaged record. -/
def Rec.replaced (x : Rec) : Rec := { Rec.reset with
  seq := x.seq, code := 0x0C07, copiedRep := x.copiedRep.map (fun _ => 0), copiedAt := x.copiedAt, firstAt := x.firstAt }

/-- The module with a counted error and another recorder. -/
def Dev.recHurt (d : Dev) (r : Recorder) : Dev := (countUncorr d).withRcd r

theorem recordMemory_held {i : Nat} {d : Dev} (hi : i < 32768) (hh : d.rcd.holds (d.rcd.at_ i).seq = true)
    (hs : (d.rcd.at_ i).seq.toNat % 32768 = i) : recordMemory i d = report (ev 0x0C07 true (d.rcd.at_ i).seq.toNat 0)
      (d.recHurt { d.rcd with recs := tset Rec.reset d.rcd.recs i (d.rcd.at_ i).replaced }) := by
  unfold recordMemory
  exact (if_pos hi).trans (if_pos (by rw [Bool.and_eq_true, decide_eq_true_eq]; exact ⟨hh, hs⟩))

theorem recordMemory_free {i : Nat} {d : Dev} (hi : i < 32768)
    (h : d.rcd.holds (d.rcd.at_ i).seq = false ∨ (d.rcd.at_ i).seq.toNat % 32768 ≠ i) : recordMemory i d = countUncorr d := by
  unfold recordMemory
  refine (if_pos hi).trans (if_neg ?_)
  rw [Bool.and_eq_true, decide_eq_true_eq]
  rintro ⟨h1, h2⟩
  exact h.elim (fun h => absurd (h.symm.trans h1) nofun) fun h => h h2

theorem recordMemory_snap {i : Nat} {d : Dev} (hi : ¬i < 32768) : recordMemory i d =
    match d.rcd.recs.find? (fun x => x.2.snapEntries.contains (i - 32768)) with
    | none => countUncorr d
    | some (j, x) => d.recHurt { d.rcd with recs := tset Rec.reset d.rcd.recs j { x with snapLost := true } } := by
  unfold recordMemory
  exact if_neg hi

theorem uncorr_after (s : State) :
    s.silent (s.after (countUncorr s.dev.fresh0)) { s.dev with flt := { s.dev.flt with eccUncorr := satAdd s.dev.flt.eccUncorr 1 } } :=
  State.silent_of_eq rfl

theorem recHurt_after (s : State) (r : Recorder) : s.silent (s.after (s.dev.fresh0.recHurt r))
    { s.dev with flt := { s.dev.flt with eccUncorr := satAdd s.dev.flt.eccUncorr 1 }, rcd := r } := State.silent_of_eq rfl

/-- A damaged record that is replaced, seen on the state after it. -/
theorem recordReplaced_after (s : State) (e : Event) (l : Tbl Rec) :
    let flt : FaultRegs := { s.dev.flt with eccUncorr := satAdd s.dev.flt.eccUncorr 1 }
    let t := s.after (report e (s.dev.fresh0.recHurt { s.dev.rcd with recs := l }))
    s.frame t { s.dev with flt := flt } ∧
      t.dev.rcd = (report e { s.dev.fresh0 with flt := flt, rcd := { s.dev.rcd with recs := l } }).rcd := by
  have hr := report_reportsTo e (s.dev.fresh0.recHurt { s.dev.rcd with recs := l })
  have ho := report_reportsOnly e (s.dev.fresh0.recHurt { s.dev.rcd with recs := l })
  unfold Dev.reportsOnly at ho
  refine ⟨?_, by simp only [State.after_dev]; rfl⟩
  have hr' : ({ s.dev with flt := { s.dev.flt with eccUncorr := satAdd s.dev.flt.eccUncorr 1 } } : Dev).reportsTo
      (report e (s.dev.fresh0.recHurt { s.dev.rcd with recs := l })) :=
    Dev.reportsTo_trans (b := s.dev.fresh0.recHurt { s.dev.rcd with recs := l }) ⟨fun _ => rfl, rfl, rfl, rfl⟩ hr
  exact State.frame_of_eq hr' (by rw [ho]; rfl) (by rw [ho]; rfl)

/-! ### The retained tail (R474, R475) -/

/-- The header of a tail as an image. -/
def tailImage (fmt : BitVec 16) (first : BitVec 32) (t : TailCap) : BitVec 256 :=
  put 256 192 first ||| put 256 128 t.frame ||| put 256 64 t.cal ||| put 256 48 fmt |||
    put 256 41 (BitVec.ofNat 2 t.kind) ||| put 256 32 (BitVec.ofNat 9 t.recs.length) ||| put 256 0 0x52454354#32

theorem tailHead_eq (fmt : BitVec 16) (t : TailCap) :
    tailHead fmt t = leBytes 28 (tailImage fmt ((t.recs.map (·.seq)).headD 0) t).toNat := by
  unfold tailHead tailImage
  cases t.recs <;> rfl

theorem tailImage_fields (fmt : BitVec 16) (first : BitVec 32) (t : TailCap) :
    let h := tailImage fmt first t
    fld h 0 32 = 0x52454354#32 ∧ fld h 32 9 = BitVec.ofNat 9 t.recs.length ∧ fld h 41 2 = BitVec.ofNat 2 t.kind ∧
      fld h 48 16 = fmt ∧ fld h 192 32 = first := by
  dsimp only
  unfold tailImage
  simp only [fld_or]
  refine ⟨?_, ?_, ?_, ?_, ?_⟩
  · rw [fld_put_apart _ 32 (by omega), fld_put_apart _ 32 (by omega), fld_put_apart _ 32 (by omega), fld_put_apart _ 32 (by omega),
      fld_put_apart _ 32 (by omega), fld_put_apart _ 32 (by omega), fld_put_self _ (by omega)]
    simp
  · rw [fld_put_apart _ 9 (by omega), fld_put_apart _ 9 (by omega), fld_put_apart _ 9 (by omega), fld_put_apart _ 9 (by omega),
      fld_put_apart _ 9 (by omega), fld_put_self _ (by omega), fld_put_apart _ 9 (by omega)]
    simp
  · rw [fld_put_apart _ 2 (by omega), fld_put_apart _ 2 (by omega), fld_put_apart _ 2 (by omega), fld_put_apart _ 2 (by omega),
      fld_put_self _ (by omega), fld_put_apart _ 2 (by omega), fld_put_apart _ 2 (by omega)]
    simp
  · rw [fld_put_apart _ 16 (by omega), fld_put_apart _ 16 (by omega), fld_put_apart _ 16 (by omega), fld_put_self _ (by omega),
      fld_put_apart _ 16 (by omega), fld_put_apart _ 16 (by omega), fld_put_apart _ 16 (by omega)]
    simp
  · rw [fld_put_self _ (by omega), fld_put_apart _ 32 (by omega), fld_put_apart _ 32 (by omega), fld_put_apart _ 32 (by omega),
      fld_put_apart _ 32 (by omega), fld_put_apart _ 32 (by omega), fld_put_apart _ 32 (by omega)]
    simp

/-- A field of an image reads from the bytes that hold it. -/
theorem fld_leBytes {w n lo k : Nat} (x : BitVec w) (h : lo + k ≤ 8 * n) (hw : lo + k ≤ w) :
    fld (leBits w (leBytes n x.toNat)) lo k = fld x lo k := by
  apply BitVec.eq_of_getLsbD_eq
  intro i hi
  have h256 : 256 = 2 ^ 8 := rfl
  simp only [fld, BitVec.getLsbD_extractLsb', leBits_wider, BitVec.getLsbD_ofNat]
  rw [h256, ← Nat.pow_mul, Nat.testBit_mod_two_pow]
  simp [show lo + i < w by omega, show lo + i < 8 * n by omega, hi, BitVec.getLsbD]

theorem chunks_flatMap {α β : Type} (k : Nat) (hk : 0 < k) (f : α → List β) (xs : List α) (hf : ∀ x, (f x).length = k) :
    chunks k xs.length (xs.flatMap f) = xs.map f := by
  induction xs with
  | nil => rfl
  | cons x xs ih =>
    have hne : f x ++ xs.flatMap f ≠ [] := fun h => by
      have := congrArg List.length h
      simp only [List.length_append, List.length_nil, hf] at this
      omega
    have hstep : chunks k (xs.length + 1) (f x ++ xs.flatMap f) =
        (f x ++ xs.flatMap f).take k :: chunks k xs.length ((f x ++ xs.flatMap f).drop k) := by
      generalize f x ++ xs.flatMap f = ys at hne
      cases ys with
      | nil => exact absurd rfl hne
      | cons y ys => rfl
    rw [List.flatMap_cons, List.length_cons, hstep, List.map_cons]
    rw [List.take_left' (hf x), List.drop_left' (hf x), ih]

/-- The record bytes of a tail. -/
def TailCap.bytes (t : TailCap) : List Byte := t.recs.flatMap (fun x => leBytes 32 (x.image false).toNat)

theorem TailCap.bytes_length (t : TailCap) : t.bytes.length = 32 * t.recs.length := by
  unfold TailCap.bytes
  rw [List.length_flatMap]
  simp [Nat.mul_comm]

/-- The header of a tail with its CRC. -/
def TailCap.headBytes (t : TailCap) (fmt : BitVec 16) : List Byte :=
  tailHead fmt t ++ leBytes 4 (crc32 (tailHead fmt t ++ t.bytes)).toNat

theorem tailHead_length (fmt : BitVec 16) (t : TailCap) : (tailHead fmt t).length = 28 := by rw [tailHead_eq, leBytes_length]

theorem TailCap.headBytes_length (t : TailCap) (fmt : BitVec 16) : (t.headBytes fmt).length = 32 := by
  unfold TailCap.headBytes
  rw [List.length_append, tailHead_length, leBytes_length]

theorem tailStore_wr (t : TailCap) (d : Dev) : (tailStore t d).wr =
    d.wr ++ placeBytes (tailBase + 32) t.bytes ++ placeBytes tailBase (t.headBytes (d.format 2)) := rfl

/-- The bytes of a stored tail read as written. -/
theorem Memory.read_all (m : Memory) (base : Nat) (bs : List Byte) (h : base + bs.length ≤ Memory.size) :
    (List.range bs.length).map (fun i => (m.writeAll (placeBytes base bs)).read (base + i)) = bs := by
  apply List.ext_getElem
  · simp
  · intro i h1 h2
    simp only [List.getElem_map, List.getElem_range]
    exact Memory.read_placed m base bs h i h2

/-- The fields of a stored tail's header. -/
theorem fld_headBytes (t : TailCap) (fmt : BitVec 16) {lo k : Nat} (h : lo + k ≤ 224) :
    fld (leBits 256 (t.headBytes fmt)) lo k = fld (tailImage fmt ((t.recs.map (·.seq)).headD 0) t) lo k := by
  unfold TailCap.headBytes
  rw [fld_leBits_append _ _ _ _ _ (by rw [tailHead_length]; omega), tailHead_eq]
  exact fld_leBytes _ (by omega) (by omega)

/-- A stored tail reads back (R475). -/
theorem readTail_stored (m : Memory) (t : TailCap) (fmt : BitVec 16) (hk : t.kind < 4) (h1 : 1 ≤ t.recs.length)
    (h2 : t.recs.length ≤ 256) :
    readTail fmt (Memory.read ((m.writeAll (placeBytes (tailBase + 32) t.bytes)).writeAll (placeBytes tailBase (t.headBytes fmt)))) =
      some (t.kind, (t.recs.map (·.seq)).headD 0, t.recs.map (fun x => leBytes 32 (x.image false).toNat)) := by
  have hbl := t.bytes_length
  have hhl := t.headBytes_length fmt
  obtain ⟨f1, f2, f3, f4, f5⟩ := tailImage_fields fmt ((t.recs.map (·.seq)).headD 0) t
  have hhead : (List.range 32).map (fun i => ((m.writeAll (placeBytes (tailBase + 32) t.bytes)).writeAll
      (placeBytes tailBase (t.headBytes fmt))).read (tailBase + i)) = t.headBytes fmt := by
    have := Memory.read_all (m.writeAll (placeBytes (tailBase + 32) t.bytes)) tailBase (t.headBytes fmt)
      (by rw [hhl]; decide)
    rw [hhl] at this
    exact this
  have hrecs : (List.range (32 * t.recs.length)).map (fun i => ((m.writeAll (placeBytes (tailBase + 32) t.bytes)).writeAll
      (placeBytes tailBase (t.headBytes fmt))).read (tailBase + 32 + i)) = t.bytes := by
    have h := Memory.read_all m (tailBase + 32) t.bytes (by rw [hbl]; simp only [tailBase, Memory.size]; omega)
    rw [hbl] at h
    refine Eq.trans (List.map_congr_left fun i _ => ?_) h
    exact Memory.read_placed_other _ _ _ _ (by rw [hhl]; omega)
  have hn : (fld (leBits 256 (t.headBytes fmt)) 32 9).toNat = t.recs.length := by
    rw [fld_headBytes t fmt (by omega), f2, BitVec.toNat_ofNat]
    exact Nat.mod_eq_of_lt (by omega)
  have hcrc : fld (leBits 256 (t.headBytes fmt)) 224 32 = crc32 (tailHead fmt t ++ t.bytes) := by
    have h := fld_leBits_tail 256 4 (tailHead fmt t) (leBytes 4 (crc32 (tailHead fmt t ++ t.bytes)).toNat)
      (by rw [tailHead_length]) (leBytes_length ..)
    rw [tailHead_length] at h
    refine h.trans ?_
    rw [leBits_leBytes _ _ _ rfl, BitVec.ofNat_toNat, BitVec.setWidth_eq]
  have htake : (t.headBytes fmt).take 28 = tailHead fmt t := List.take_left' (tailHead_length fmt t)
  have hkind : (fld (leBits 256 (t.headBytes fmt)) 41 2).toNat = t.kind := by
    rw [fld_headBytes t fmt (by omega), f3, BitVec.toNat_ofNat]
    exact Nat.mod_eq_of_lt (by omega)
  have hch : chunks 32 t.recs.length t.bytes = t.recs.map (fun x => leBytes 32 (x.image false).toNat) :=
    chunks_flatMap 32 (by omega) _ _ (fun x => leBytes_length ..)
  unfold readTail
  dsimp only
  rw [hhead, hn, hrecs, htake, hcrc, hkind, hch, fld_headBytes t fmt (by omega), fld_headBytes t fmt (by omega),
    fld_headBytes t fmt (by omega), f1, f4, f5]
  exact if_pos ⟨rfl, rfl, h1, h2, rfl⟩

/-- The bytes elsewhere stand. -/
theorem readTail_other (m : Memory) (t : TailCap) (fmt : BitVec 16) {a : Nat} (h : a < 0x4000 ∨ 0x4020 + 32 * t.recs.length ≤ a) :
    ((m.writeAll (placeBytes (tailBase + 32) t.bytes)).writeAll (placeBytes tailBase (t.headBytes fmt))).read a = m.read a := by
  rw [Memory.read_placed_other _ _ _ _ (by rw [TailCap.headBytes_length]; simp only [tailBase]; omega),
    Memory.read_placed_other _ _ _ _ (by rw [TailCap.bytes_length]; simp only [tailBase]; omega)]

/-! ### TAIL_SAVE_COMPLETE and SHUTDOWN (R474, R506) -/

/-- A tail that stands in the retained SRAM. -/
def tailStands (s t : State) (kind : Nat) (recs : List Rec) : Prop :=
  readTail (s.dev.format 2) (Memory.read t.sram) =
      some (kind, (recs.map (·.seq)).headD 0, recs.map (fun x => leBytes 32 (x.image false).toNat)) ∧
    t.dev.rcd.tail = none ∧ t.dev.bk.badTail = false

theorem tailComplete_none {d : Dev} (h : d.rcd.tail = none) : tailComplete d = d := by
  unfold tailComplete
  rw [h]

/-- The recorder without a captured tail. -/
def Recorder.tailless (r : Recorder) : Recorder := { r with tail := none }

theorem tailComplete_some {d : Dev} {x : TailCap} (h : d.rcd.tail = some x) :
    tailComplete d = tailStore x (d.withRcd d.rcd.tailless) := by
  unfold tailComplete
  rw [h]
  rfl

/-- A captured tail that is stored, seen on the state after it. -/
theorem tailComplete_after {s : State} {x : TailCap} (h : s.dev.rcd.tail = some x) (hk : x.kind < 4) (h1 : 1 ≤ x.recs.length)
    (h2 : x.recs.length ≤ 256) :
    let t := s.withSram (fun _ => tailComplete)
    tailStands s t x.kind x.recs ∧
      (∀ a, (a < 0x4000 ∨ 0x4020 + 32 * x.recs.length ≤ a) → Memory.read t.sram a = Memory.read s.sram a) ∧
      (s.withRam t.sram).silent t { s.dev with
        rcd := { s.dev.rcd with tail := none }, bk := { s.dev.bk with badTail := false } } := by
  have he := tailComplete_some (d := s.dev.fresh0) h
  have hw := withSram_eq s (fun _ => tailComplete)
  have hwr := tailStore_wr x (s.dev.fresh0.withRcd s.dev.fresh0.rcd.tailless)
  have hts := tailStore_eq x (s.dev.fresh0.withRcd s.dev.fresh0.rcd.tailless)
  dsimp only at hw ⊢
  rw [hw, he]
  generalize tailStore x (s.dev.fresh0.withRcd s.dev.fresh0.rcd.tailless) = g at hwr hts
  have hsil : (s.withRam (s.sram.writeAll g.wr)).silent ((s.withRam (s.sram.writeAll g.wr)).after g)
      { s.dev with rcd := { s.dev.rcd with tail := none }, bk := { s.dev.bk with badTail := false } } :=
    State.silent_of_eq (by rw [hts]; rfl)
  have hsram : ((s.withRam (s.sram.writeAll g.wr)).after g).sram =
      (s.sram.writeAll (placeBytes (tailBase + 32) x.bytes)).writeAll (placeBytes tailBase (x.headBytes (s.dev.format 2))) := by
    change s.sram.writeAll g.wr = _
    rw [hwr, Memory.writeAll_append]
    rfl
  have hrcd : ((s.withRam (s.sram.writeAll g.wr)).after g).dev.rcd.tail = none := by
    simp only [State.after_dev]
    rw [hts]
    rfl
  have hbk : ((s.withRam (s.sram.writeAll g.wr)).after g).dev.bk.badTail = false := by
    simp only [State.after_dev]
    rw [hts]
  refine ⟨⟨?_, hrcd, hbk⟩, fun a ha => ?_, hsil⟩
  · rw [hsram]
    exact readTail_stored _ _ _ hk h1 h2
  · rw [hsram]
    exact readTail_other _ _ _ ha

theorem saveRecords_length (d : Dev) : (saveRecords d).length = 8064 := by
  unfold saveRecords
  rw [List.length_flatMap]
  have : (List.range 72).map (fun c => (saveRecord d c).length) = List.replicate 72 112 := by
    rw [List.eq_replicate_iff]
    refine ⟨by simp, fun n hn => ?_⟩
    obtain ⟨c, -, rfl⟩ := List.mem_map.1 hn
    unfold saveRecord
    exact leBytes_length ..
  rw [this]
  decide

/-- The tail that a restart captures (R474). -/
theorem tailCapture_recs (kind : Nat) (d : Dev) : (tailCapture kind d).recs.length = min 256 d.rcd.stored := by
  unfold tailCapture
  simp

/-- A copy reads from its own bytes. -/
theorem readCopy_congr {fmt : BitVec 16} {ram ram' : Nat → Byte} {b : Bool}
    (h : ∀ a, copyBase b ≤ a → a < copyBase b + 8128 → ram' a = ram a) : readCopy fmt ram' b = readCopy fmt ram b := by
  have hbytes : (List.range 8128).map (fun i => ram' (copyBase b + i)) = (List.range 8128).map (fun i => ram (copyBase b + i)) :=
    List.map_congr_left fun i hi => h _ (Nat.le_add_right ..) (Nat.add_lt_add_left (List.mem_range.1 hi) _)
  unfold readCopy
  unfold copyBase at hbytes
  dsimp only
  rw [hbytes]

/-- The tail that a restart captures from a module. -/
theorem tailRestart_eq (d : Dev) : tailRestart d = tailStore (tailCapture 2 d) (d.withRcd d.rcd.tailless) := rfl

/-- A confirmed shutdown: the copies of the restart stand in the retained SRAM, and the module waits (R506). -/
theorem shutdown_after {s : State} (h : 1 ≤ s.dev.rcd.stored) :
    let t := s.withSram (fun _ => shutdown)
    let b : Bool := s.dev.mt.newest == some false
    let base := if b then 0x2000 else 0
    let n := min 256 s.dev.rcd.stored
    readCopy (s.dev.format 1) (Memory.read t.sram) b =
        some (s.dev.mt.saveSeq + 1, 3, s.dev.cal, fld s.dev.mt.engine 480 32, saveRecords s.dev) ∧
      tailStands s t 2 ((List.range n).map (fun i => s.dev.rcd.at_ ((s.dev.rcd.next - BitVec.ofNat 32 (n - i)).toNat % 32768))) ∧
      (∀ a, (a < base ∨ base + 8128 ≤ a) → (a < 0x4000 ∨ 0x4020 + 32 * n ≤ a) →
        Memory.read t.sram a = Memory.read s.sram a) ∧
      (s.withRam t.sram).silent t { s.dev with
        rcd := { s.dev.rcd with tail := none }
        bk := { s.dev.bk with
          badTail := false, shut := .wait, badA := s.dev.bk.badA && b, badB := s.dev.bk.badB && !b }
        mt := { s.dev.mt with
          newest := some b, saveSeq := s.dev.mt.saveSeq + 1, saveCnt := s.dev.mt.saveCnt + 1
          saveDue := none } } := by
  have hr := saveRecords_length s.dev.fresh0
  have hsc := saveCopy_eq 3 (saveRecords s.dev.fresh0) s.dev.fresh0.tb.frame s.dev.fresh0.cal s.dev.fresh0.siteTag s.dev.fresh0
  obtain ⟨k1, -, k3⟩ := savedCopy_reads s.sram s.dev.fresh0.tb.frame s.dev.fresh0.cal s.dev.fresh0.siteTag s.dev.fresh0
    (kind := 3) hr (by decide) rfl
  have hrun : shutdown s.dev.fresh0 = (tailRestart (restartSave s.dev.fresh0)).modBk (fun b => { b with shut := .wait }) := rfl
  have hsave : restartSave s.dev.fresh0 =
      saveCopy 3 (saveRecords s.dev.fresh0) s.dev.fresh0.tb.frame s.dev.fresh0.cal s.dev.fresh0.siteTag s.dev.fresh0 := rfl
  rw [← hsave] at hsc k1 k3
  have hw := withSram_eq s (fun _ => shutdown)
  dsimp only at hw ⊢
  rw [hw, hrun, tailRestart_eq]
  generalize restartSave s.dev.fresh0 = g at hsc k1 k3
  have htail : (tailCapture 2 g).recs = (List.range (min 256 s.dev.rcd.stored)).map
      (fun i => s.dev.rcd.at_ ((s.dev.rcd.next - BitVec.ofNat 32 (min 256 s.dev.rcd.stored - i)).toNat % 32768)) := by
    rw [hsc]
    rfl
  have hkind : (tailCapture 2 g).kind = 2 := rfl
  have hlen : (tailCapture 2 g).recs.length = min 256 s.dev.rcd.stored := by rw [htail]; simp
  have hfmt : (g.withRcd g.rcd.tailless).format 2 = s.dev.format 2 := by rw [hsc]; rfl
  generalize tailCapture 2 g = x at htail hkind hlen
  have hwr := tailStore_wr x (g.withRcd g.rcd.tailless)
  have hts := tailStore_eq x (g.withRcd g.rcd.tailless)
  rw [hfmt] at hwr
  generalize tailStore x (g.withRcd g.rcd.tailless) = f at hwr hts
  have hram : s.sram.writeAll (f.modBk (fun b => { b with shut := .wait })).wr =
      ((s.sram.writeAll g.wr).writeAll (placeBytes (tailBase + 32) x.bytes)).writeAll
        (placeBytes tailBase (x.headBytes (s.dev.format 2))) := by
    change s.sram.writeAll f.wr = _
    rw [hwr, Memory.writeAll_append, Memory.writeAll_append]
    rfl
  rw [hram]
  have hall : f.modBk (fun b => { b with shut := .wait }) = { s.dev.fresh0 with
      wr := f.wr
      rcd := { s.dev.rcd with tail := none }
      bk := { s.dev.bk with
        badTail := false, shut := .wait, badA := s.dev.bk.badA && s.dev.mt.target, badB := s.dev.bk.badB && !s.dev.mt.target }
      mt := { s.dev.mt with
        newest := some s.dev.mt.target, saveSeq := s.dev.mt.saveSeq + 1, saveCnt := s.dev.mt.saveCnt + 1
        saveDue := none } } := by
    unfold Dev.modBk
    rw [hts]
    unfold Dev.withRcd
    rw [hsc]
    rfl
  generalize f.modBk (fun b => { b with shut := .wait }) = e at hall hram
  have hsram : ∀ m : Memory, ((s.withRam m).after e).sram = m := fun _ => rfl
  rw [hsram, ← Meter.target_eq]
  have hbase : (if s.dev.mt.target = true then 0x2000 else 0) = copyBase s.dev.mt.target := rfl
  have hb := copyBase_le s.dev.mt.target
  have ht : s.dev.fresh0.mt.target = s.dev.mt.target := rfl
  rw [ht] at k1 k3
  refine ⟨?_, ⟨?_, ?_, ?_⟩, fun a h1 h2 => ?_, ?_⟩
  · refine (readCopy_congr fun a h1 h2 => readTail_other _ _ _ (Or.inl ?_)).trans k1
    omega
  · rw [hsram, ← htail, ← hkind]
    exact readTail_stored _ _ _ (by rw [hkind]; decide) (by omega) (by omega)
  · simp only [State.after_dev]
    rw [hall]
  · simp only [State.after_dev]
    rw [hall]
  · rw [hbase] at h1
    rw [readTail_other _ _ _ (by rw [hlen]; exact h2)]
    exact k3 a h1
  · exact State.silent_of_eq (by rw [hall]; rfl)

/-! ### RETAINED_MEMORY (R395, R409, R479, R509) -/

/-- Is a save writing the copy in which an error is found. -/
def Dev.savingIn (d : Dev) (c : Bool) : Prop :=
  (d.mt.saveDue.isSome = true ∨ d.mt.snapDue.isSome = true) ∧ c = (d.mt.newest == some false)

theorem saveFail_cases (c : Bool) (d : Dev) : (¬d.savingIn c → saveFail c d = d) ∧
    (d.savingIn c → ∃ e, saveFail c d = report e d) := by
  have hiff : ((d.mt.saveDue.isSome || d.mt.snapDue.isSome) && d.mt.target == c) = true ↔ d.savingIn c := by
    unfold Dev.savingIn
    rw [Bool.and_eq_true, Bool.or_eq_true, beq_iff_eq, Meter.target_eq]
    exact and_congr Iff.rfl eq_comm
  exact ⟨fun h => if_neg (mt hiff.1 h), fun h => ⟨_, if_pos (hiff.2 h)⟩⟩

/-- The module with another state of the backup domain and of the metering unit. -/
def Dev.copyBad (d : Dev) (b : Backup) (x : Meter) : Dev := { d with bk := b, mt := x }

/-- A damaged copy, seen on the state after it: reported where a save writes it. -/
theorem copyBad_after {s : State} (c : Bool) (b : Backup) (x : Meter) :
    let flt : FaultRegs := { s.dev.flt with eccUncorr := satAdd s.dev.flt.eccUncorr 1 }
    let t := s.after ((saveFail c (countUncorr s.dev.fresh0)).copyBad b x)
    (¬s.dev.savingIn c → s.silent t { s.dev with bk := b, mt := x, flt := flt }) ∧
      (s.dev.savingIn c → s.frame t { s.dev with bk := b, mt := x, flt := flt }) := by
  obtain ⟨h1, h2⟩ := saveFail_cases c (countUncorr s.dev.fresh0)
  refine ⟨fun h => ?_, fun h => ?_⟩
  · rw [h1 h]
    exact State.silent_of_eq rfl
  · obtain ⟨e, he⟩ := h2 h
    rw [he]
    have hr := report_reportsTo e (countUncorr s.dev.fresh0)
    have ho := report_reportsOnly e (countUncorr s.dev.fresh0)
    unfold Dev.reportsOnly at ho
    generalize report e (countUncorr s.dev.fresh0) = r at hr ho
    have hr' : ({ s.dev with bk := b, mt := x, flt := { s.dev.flt with eccUncorr := satAdd s.dev.flt.eccUncorr 1 } } : Dev).reportsTo
        (r.copyBad b x) := Dev.reportsTo_trans (b := countUncorr s.dev.fresh0) ⟨fun _ => rfl, rfl, rfl, rfl⟩
          (Dev.reportsTo_trans hr ⟨fun _ => rfl, rfl, rfl, rfl⟩)
    exact State.frame_of_eq hr' (by rw [ho]; rfl) (by rw [ho]; rfl)

/-- Zeros at a list of places read as 0, the other bytes as before. -/
theorem Memory.read_zeros (base : Nat) (l : List Nat) (m : Memory) (h : ∀ i ∈ l, base + i < Memory.size) (a : Nat) :
    (m.writeAll (l.map (fun i => (base + i, 0#8)))).read a = if ∃ i ∈ l, base + i = a then 0 else m.read a := by
  induction l generalizing m with
  | nil => exact (if_neg (by simp)).symm
  | cons i l ih =>
    have hstep : m.writeAll ((i :: l).map (fun i => (base + i, 0#8))) = (m.write (base + i) 0).writeAll (l.map (fun i => (base + i, 0#8))) := rfl
    rw [hstep, ih _ fun j hj => h j (List.mem_cons_of_mem _ hj)]
    by_cases hl : ∃ j ∈ l, base + j = a
    · obtain ⟨j, hj, hja⟩ := hl
      rw [if_pos ⟨j, hj, hja⟩, if_pos ⟨j, List.mem_cons_of_mem _ hj, hja⟩]
    · rw [if_neg hl]
      by_cases hi : base + i = a
      · rw [if_pos ⟨i, List.mem_cons_self, hi⟩, ← hi]
        exact Memory.read_write_self _ _ _ (h i List.mem_cons_self)
      · rw [Memory.read_write_other _ _ (Ne.symm hi), if_neg]
        rintro ⟨j, hj, hja⟩
        rcases List.mem_cons.1 hj with rfl | hj
        · exact hi hja
        · exact hl ⟨j, hj, hja⟩

/-- The bytes of an entry that an error sets to 0. -/
def zeroBytes (e : Nat) (mask : BitVec 32) : List (Nat × Byte) :=
  ((List.range 32).filter (fun i => bit mask i)).map (fun i => (retainedBase e + i, 0#8))

theorem Memory.read_zeroBytes {e : Nat} {mask : BitVec 32} (h1 : 16 ≤ e) (h2 : e < 2064) (m : Memory) (a : Nat) :
    (m.writeAll (zeroBytes e mask)).read a =
      if 32 * (e - 16) ≤ a ∧ a < 32 * (e - 16) + 32 ∧ bit mask (a - 32 * (e - 16)) = true then 0 else m.read a := by
  unfold zeroBytes
  rw [Memory.read_zeros _ _ _ fun i hi => ?_]
  · refine if_congr ?_ rfl rfl
    unfold retainedBase
    constructor
    · rintro ⟨i, hi, rfl⟩
      rw [List.mem_filter, List.mem_range] at hi
      refine ⟨by omega, by omega, ?_⟩
      rw [Nat.add_sub_cancel_left]
      exact hi.2
    · rintro ⟨ha, hb, hm⟩
      refine ⟨a - 32 * (e - 16), ?_, by omega⟩
      rw [List.mem_filter, List.mem_range]
      exact ⟨by omega, hm⟩
  · rw [List.mem_filter, List.mem_range] at hi
    unfold retainedBase
    simp only [Memory.size]
    omega

theorem retainedMemory_a {e : Nat} (mask : BitVec 32) (d : Dev) (h : e < 272) : retainedMemory e mask d =
    (saveFail false (countUncorr d)).copyBad { d.bk with badA := true }
      { d.mt with newest := if d.mt.newest = some false then some true else d.mt.newest } := by
  have hk : (saveFail false (countUncorr d)).bk = d.bk ∧ (saveFail false (countUncorr d)).mt = d.mt := by
    unfold saveFail
    split
    · simp [countUncorr]
    · exact ⟨rfl, rfl⟩
  unfold retainedMemory
  dsimp only
  rw [if_pos h, if_pos h, hk.1, hk.2]
  rfl

theorem retainedMemory_b {e : Nat} (mask : BitVec 32) (d : Dev) (h1 : 272 ≤ e) (h2 : e < 528) : retainedMemory e mask d =
    (saveFail true (countUncorr d)).copyBad { d.bk with badB := true }
      { d.mt with newest := if d.mt.newest = some true then some false else d.mt.newest } := by
  have hk : (saveFail true (countUncorr d)).bk = d.bk ∧ (saveFail true (countUncorr d)).mt = d.mt := by
    unfold saveFail
    split
    · simp [countUncorr]
    · exact ⟨rfl, rfl⟩
  unfold retainedMemory
  dsimp only
  rw [if_neg (Nat.not_lt.2 h1), if_neg (Nat.not_lt.2 h1), if_pos h2, if_pos h2, hk.1, hk.2]
  rfl

theorem retainedMemory_tail {e : Nat} (mask : BitVec 32) (d : Dev) (h1 : 528 ≤ e) (h2 : e < 785) :
    retainedMemory e mask d = (countUncorr d).copyBad { d.bk with badTail := true } d.mt := by
  unfold retainedMemory
  dsimp only
  simp only [if_neg (Nat.not_lt.2 (Nat.le_trans (by decide : 272 ≤ 528) h1)), if_neg (Nat.not_lt.2 h1), if_pos h2]
  rfl

/-- The module with further bytes to be written. -/
def Dev.writing (d : Dev) (w : List (Nat × Byte)) : Dev := { d with wr := d.wr ++ w }

theorem retainedMemory_free {e : Nat} (mask : BitVec 32) (d : Dev) (h : 785 ≤ e) :
    retainedMemory e mask d = report (ev 0x0D0B true e 0) ((countUncorr d).writing (zeroBytes e mask)) := by
  unfold retainedMemory
  dsimp only
  simp only [if_neg (Nat.not_lt.2 (Nat.le_trans (by decide : 272 ≤ 785) h)),
    if_neg (Nat.not_lt.2 (Nat.le_trans (by decide : 528 ≤ 785) h)), if_neg (Nat.not_lt.2 h)]
  rfl

/-- An operation that leaves nothing to be written is one that leaves the retained SRAM alone. -/
theorem withSram_dry {s : State} {f : (Nat → Byte) → Dev → Dev} {a : Dev} (h : f (Memory.read s.sram) s.dev.fresh0 = a)
    (hw : a.wr = []) : s.withSram f = s.after a := by
  rw [withSram_eq, h, hw]
  rfl

theorem saveFail_wr (c : Bool) (d : Dev) : (saveFail c d).wr = d.wr := by
  unfold saveFail
  split
  · simp
  · rfl

/-- Damaged bytes outside the copies, seen on the state after it. -/
theorem retainedFree_after {s : State} {e : Nat} {mask : BitVec 32} (h1 : 16 ≤ e) (h2 : e < 2064) (h : 785 ≤ e) :
    let t := s.withSram (fun _ => retainedMemory e mask)
    (s.withRam t.sram).frame t { s.dev with flt := { s.dev.flt with eccUncorr := satAdd s.dev.flt.eccUncorr 1 } } ∧
      ∀ a, Memory.read t.sram a = if 32 * (e - 16) ≤ a ∧ a < 32 * (e - 16) + 32 ∧ bit mask (a - 32 * (e - 16)) = true then 0
        else Memory.read s.sram a := by
  have he := retainedMemory_free mask s.dev.fresh0 h
  have hr := report_reportsTo (ev 0x0D0B true e 0) ((countUncorr s.dev.fresh0).writing (zeroBytes e mask))
  have ho := report_reportsOnly (ev 0x0D0B true e 0) ((countUncorr s.dev.fresh0).writing (zeroBytes e mask))
  unfold Dev.reportsOnly at ho
  have hw := withSram_eq s (fun _ => retainedMemory e mask)
  dsimp only at hw ⊢
  rw [hw, he]
  generalize report (ev 0x0D0B true e 0) ((countUncorr s.dev.fresh0).writing (zeroBytes e mask)) = r at hr ho
  have hwr : r.wr = zeroBytes e mask := by rw [ho]; rfl
  refine ⟨State.frame_of_eq (Dev.reportsTo_congr hr rfl rfl rfl) (by rw [ho]; rfl) (by rw [ho]; rfl), fun a => ?_⟩
  change (s.sram.writeAll r.wr).read a = _
  rw [hwr]
  exact Memory.read_zeroBytes h1 h2 _ _

/-- Settles O53: marks, damaged records, and the copies in the retained SRAM. -/
theorem recordsAndRetainedBytes : Obligations.RecordsAndRetainedBytes := by
  intro s hs
  refine ⟨fun v h hi => ?_, fun v h => ?_, fun i hi => ⟨fun hh hx => ?_, fun h => ?_⟩, fun i h1 h2 => ?_, fun h => ?_,
    fun x h hk h1 h2 => ?_, fun h => ?_, fun v hv => ?_, fun e mask h1 h2 => ?_⟩
  · refine Runs.main (f := recMark v) rfl hs ?_
    have he := recMark_room (v := v) (d := s.dev.fresh0) h hi
    rw [he]
    obtain ⟨h1, h2⟩ := silent_rcd s (s.dev.rcd.stored1 (s.dev.markRec v))
    have h1' : (s.after (s.dev.fresh0.withRcd (s.dev.fresh0.rcd.stored1 (s.dev.fresh0.markRec v)))).dev.rcd =
      s.dev.rcd.stored1 (s.dev.markRec v) := h1
    refine ⟨fun i => ?_, ?_⟩
    · rw [h1']
      exact tget_tset ..
    · rw [h1']
      exact h2
  · exact Runs.main (f := recMark v) rfl hs (captureRep_after s _)
  · refine Runs.mainChecked (f := recordMemory i) rfl (decide_eq_true (by omega)) hs ?_
    have he := recordMemory_held (d := s.dev.fresh0) hi hh hx
    rw [he]
    exact recordReplaced_after s _ _
  · refine Runs.mainChecked (f := recordMemory i) rfl (decide_eq_true (by omega)) hs ?_
    have he := recordMemory_free (d := s.dev.fresh0) hi h
    rw [he]
    exact uncorr_after s
  · refine Runs.mainChecked (f := recordMemory i) rfl (decide_eq_true (by omega)) hs ?_
    have he := recordMemory_snap (i := i) (d := s.dev.fresh0) (by omega)
    cases hf : s.dev.rcd.recs.find? (fun y => y.2.snapEntries.contains (i - 32768)) with
    | none =>
      have he' : recordMemory i s.dev.fresh0 = countUncorr s.dev.fresh0 := he.trans (by
        rw [show s.dev.fresh0.rcd.recs.find? (fun y => y.2.snapEntries.contains (i - 32768)) = none from hf])
      rw [he']
      have hrcd : (s.after (countUncorr s.dev.fresh0)).dev.rcd = s.dev.rcd := by simp only [State.after_dev]; rfl
      rw [hrcd]
      exact ⟨uncorr_after s, nofun, fun _ => rfl⟩
    | some jx =>
      obtain ⟨j, x⟩ := jx
      have he' : recordMemory i s.dev.fresh0 = s.dev.fresh0.recHurt
          { s.dev.rcd with recs := tset Rec.reset s.dev.rcd.recs j { x with snapLost := true } } := he.trans (by
        rw [show s.dev.fresh0.rcd.recs.find? (fun y => y.2.snapEntries.contains (i - 32768)) = some (j, x) from hf]
        rfl)
      rw [he']
      have hrcd' : (s.after (s.dev.fresh0.recHurt
          { s.dev.rcd with recs := tset Rec.reset s.dev.rcd.recs j { x with snapLost := true } })).dev.rcd =
          { s.dev.rcd with recs := tset Rec.reset s.dev.rcd.recs j { x with snapLost := true } } := by
        simp only [State.after_dev]
        rfl
      rw [hrcd']
      refine ⟨recHurt_after s _, fun j' x' hjx q => ?_, nofun⟩
      obtain ⟨rfl, rfl⟩ := Prod.mk.inj (Option.some.inj hjx)
      exact tget_tset ..
  · exact Runs.mainM (f := fun _ => tailComplete) rfl hs (State.silent_withSram (tailComplete_none h))
  · exact Runs.mainM (f := fun _ => tailComplete) rfl hs (tailComplete_after h hk h1 h2)
  · refine Runs.mainM (f := fun _ => shutdownConfirmed 0x0FF05E7D) rfl hs ?_
    have he : s.withSram (fun _ => shutdownConfirmed 0x0FF05E7D) = s.withSram (fun _ => shutdown) := by
      rw [withSram_eq, withSram_eq]
      rfl
    rw [he]
    exact shutdown_after h
  · exact Runs.mainM (f := fun _ => shutdownConfirmed v) rfl hs (State.silent_withSram (if_neg hv))
  · have hx : exec (.retainedMemory e mask) s =
        checked (.retainedMemory e mask) (mainStepM (fun _ => retainedMemory e mask) s) := rfl
    refine Runs.mainM (hx.trans (checked_wf (decide_eq_true ⟨h1, by omega⟩))) hs ?_
    refine ⟨fun h => ?_, fun h h' => ?_, fun h h' => ?_, fun h => retainedFree_after h1 h2 h⟩
    · rw [withSram_dry (retainedMemory_a mask s.dev.fresh0 h) (saveFail_wr ..)]
      exact copyBad_after false _ _
    · rw [withSram_dry (retainedMemory_b mask s.dev.fresh0 h h') (saveFail_wr ..)]
      exact copyBad_after true _ _
    · rw [withSram_dry (retainedMemory_tail mask s.dev.fresh0 h h') rfl]
      exact State.silent_of_eq rfl

end Sys2Proof.Machine
end

section
/-!
The calendar: its count, its steps and slews, and the alarms that they make due (R489, R492 to R499).
-/
namespace Sys2Proof.Machine

/-! ### Alarms that the calendar reaches (R499) -/

/-- Is an alarm to be marked by a count or a step. -/
abbrev CalAlarm.marks (a : CalAlarm) (late : Bool) (now : W64) : Prop :=
  a.st = .armed ∧ (a.due = none ∨ (late = true ∧ a.due = some false)) ∧ a.reached now = true

/-- The reached alarms are marked, and the other entries stay. -/
def Backup.marked (late : Bool) (now : W64) (b b' : Backup) : Prop :=
  b' = { b with alarms := b'.alarms } ∧
    ∀ k, b'.alarm k = if k < 8 ∧ (b.alarm k).marks late now then { b.alarm k with due := some late } else b.alarm k

/-- One entry of `markAlarms`. -/
def markAlarm (late : Bool) (k : Nat) (d : Dev) : Dev :=
  if (d.bk.alarm k).marks late d.cal then
    d.modBk (fun b => b.setAlarm k { d.bk.alarm k with due := some late })
  else d

theorem markAlarms_eq (late : Bool) (d : Dev) :
    markAlarms late d = (List.range 8).foldl (fun d k => markAlarm late k d) d := rfl

theorem markAlarm_bk (late : Bool) (k : Nat) (d : Dev) :
    ∃ l, markAlarm late k d = d.withBk { d.bk with alarms := l } ∧
      ∀ j, (Backup.alarm { d.bk with alarms := l } j) =
        if j = k ∧ (d.bk.alarm k).marks late d.cal then { d.bk.alarm k with due := some late } else d.bk.alarm j := by
  unfold markAlarm
  split
  · next h =>
    refine ⟨tset CalAlarm.reset d.bk.alarms k { d.bk.alarm k with due := some late }, rfl, fun j => ?_⟩
    refine (tget_tset ..).trans (if_congr ?_ rfl rfl)
    exact ⟨fun hj => ⟨hj, h⟩, fun hj => hj.1⟩
  · next h => exact ⟨d.bk.alarms, rfl, fun j => (if_neg fun hj => h hj.2).symm⟩

theorem markAlarm_fold (late : Bool) (n : Nat) (d : Dev) :
    ∃ l, (List.range n).foldl (fun d k => markAlarm late k d) d = d.withBk { d.bk with alarms := l } ∧
      ∀ j, (Backup.alarm { d.bk with alarms := l } j) =
        if j < n ∧ (d.bk.alarm j).marks late d.cal then { d.bk.alarm j with due := some late } else d.bk.alarm j := by
  induction n with
  | zero => exact ⟨d.bk.alarms, rfl, fun j => (if_neg fun h => absurd h.1 (Nat.not_lt_zero j)).symm⟩
  | succ n ih =>
    obtain ⟨l, hl, hj⟩ := ih
    rw [List.range_succ, List.foldl_append, hl]
    obtain ⟨l', hl', hj'⟩ := markAlarm_bk late n (d.withBk { d.bk with alarms := l })
    refine ⟨l', hl', fun j => (hj' j).trans ?_⟩
    have hn : (d.withBk { d.bk with alarms := l }).bk.alarm n = d.bk.alarm n :=
      (hj n).trans (if_neg fun h => absurd h.1 (Nat.lt_irrefl n))
    have hcal : (d.withBk { d.bk with alarms := l }).cal = d.cal := rfl
    rw [hn, hcal]
    by_cases hjn : j = n
    · subst hjn
      refine if_congr ⟨fun h => ⟨Nat.lt_succ_self j, h.2⟩, fun h => ⟨rfl, h.2⟩⟩ rfl hn
    · rw [if_neg fun h => hjn h.1]
      exact (hj j).trans (if_congr ⟨fun h => ⟨by omega, h.2⟩, fun h => ⟨by omega, h.2⟩⟩ rfl rfl)

/-- What a count or a forward step marks. -/
theorem markAlarms_marked (late : Bool) (d : Dev) :
    markAlarms late d = d.withBk (markAlarms late d).bk ∧ d.bk.marked late d.cal (markAlarms late d).bk := by
  rw [markAlarms_eq]
  obtain ⟨l, hl, hj⟩ := markAlarm_fold late 8 d
  rw [hl]
  exact ⟨rfl, rfl, hj⟩

/-- Where nothing was due, the marks are those of the obligation's own words. -/
theorem alarmsMarked_of {late : Bool} {now : W64} {b b' b0 : Backup} (h : b.marked late now b') (hb : b.alarms = b0.alarms)
    (hdue : ∀ k, k < 8 → (b0.alarm k).due = none) : alarmsMarked late now b0 b' := by
  intro k
  have hk : b.alarm k = b0.alarm k := congrArg (fun x => tget CalAlarm.reset x k) hb
  rw [h.2 k, hk]
  refine if_congr ⟨fun ⟨h1, h2, _, h4⟩ => ⟨h1, h2, hdue k h1, h4⟩, fun ⟨h1, h2, h3, h4⟩ => ⟨h1, h2, .inl h3, h4⟩⟩ rfl rfl

/-! ### Firings before a step (R499) -/

/-- A fold whose every step leaves the start as it is. -/
theorem foldl_idle {α β : Type} {f : β → α → β} {xs : List α} {d : β} (h : ∀ x ∈ xs, f d x = d) : xs.foldl f d = d := by
  induction xs with
  | nil => rfl
  | cons x xs ih =>
    rw [List.foldl_cons, h x List.mem_cons_self]
    exact ih fun y hy => h y (List.mem_cons_of_mem x hy)

/-- Before a step nothing fires where no alarm is due, or, before a forward step, where what is due fell due at this count. -/
theorem fireDue_idle {fwd : Bool} {d : Dev}
    (h : ∀ k, k < 8 → (d.bk.alarm k).due = none ∨ (fwd = true ∧ (d.bk.alarm k).due = some false)) : fireDue fwd d = d := by
  refine foldl_idle fun k hk => ?_
  rcases h k (List.mem_range.mp hk) with hn | ⟨hf, hs⟩
  · rw [alarmFire_idle hn]
    exact ite_self d
  · rw [hf, hs]
    exact if_pos rfl

/-! ### A step (R492, R494) -/

/-- The backup domain at a new count. -/
def Backup.stepped (b : Backup) (cnt : Nat) (setFlags : Bool) : Backup := { b with
  cnt := cnt, slewLeft := 0, slewAcc := 0, slewing := false
  calSet := b.calSet || setFlags, oscStopped := b.oscStopped && !setFlags }

/-- The alarms that a step passes, where it goes forward. -/
def marksPassed (fwd : Bool) (d : Dev) : Dev := if fwd then markAlarms true d else d

/-- A step is a report, and then the alarms that it passes. -/
theorem calStep_quiet {code cnt : Nat} {flags : Bool} {data : Nat} {d : Dev}
    (h : ∀ k, k < 8 → (d.bk.alarm k).due = none ∨ (decide (d.bk.cnt < cnt) = true ∧ (d.bk.alarm k).due = some false)) :
    ∃ e b, calStep code cnt flags data d = (report e (d.withBk (d.bk.stepped cnt flags))).withBk b ∧
      (d.bk.cnt < cnt → (d.bk.stepped cnt flags).marked true (calOf cnt) b) ∧
      (cnt ≤ d.bk.cnt → b = d.bk.stepped cnt flags) := by
  have hbk (e : Event) : (report e (d.withBk (d.bk.stepped cnt flags))).bk = d.bk.stepped cnt flags :=
    (report_keeps ..).2.2.2.2.2.2.2.2.2.2.2.2.2.2.2.2.2.2.2.1
  obtain ⟨e, he⟩ : ∃ e, calStep code cnt flags data d = marksPassed (decide (d.bk.cnt < cnt))
      (report e (d.withBk (d.bk.stepped cnt flags))) := by
    refine ⟨{ ev code false 0 data with oldCal := some d.cal }, ?_⟩
    unfold calStep
    dsimp only
    rw [fireDue_idle h]
    rfl
  rw [he]
  refine ⟨e, ?_⟩
  have hb := hbk e
  generalize report e (d.withBk (d.bk.stepped cnt flags)) = r at hb ⊢
  by_cases hc : d.bk.cnt < cnt
  · obtain ⟨hm, hb'⟩ := markAlarms_marked true r
    rw [hb] at hb'
    have hp : marksPassed (decide (d.bk.cnt < cnt)) r = markAlarms true r := if_pos (decide_eq_true hc)
    refine ⟨(markAlarms true r).bk, hp.trans hm, fun _ => ?_, fun hle => by omega⟩
    have hcal : r.cal = calOf cnt := by
      unfold Dev.cal
      rw [hb]
      rfl
    rwa [hcal] at hb'
  · have hp : marksPassed (decide (d.bk.cnt < cnt)) r = r := if_neg fun h => hc (of_decide_eq_true h)
    refine ⟨r.bk, hp, fun h => absurd h hc, fun _ => hb⟩

theorem Dev.modBk_withBk (d : Dev) (b : Backup) (g : Backup → Backup) : (d.withBk b).modBk g = d.withBk (g b) := rfl

/-- A report and a new backup domain, seen on the state after it. -/
theorem bk_told (s : State) (e : Event) (b1 b : Backup) :
    (s.after ((report e (s.dev.fresh0.withBk b1)).withBk b)).dev.bk = b ∧
      s.frame (s.after ((report e (s.dev.fresh0.withBk b1)).withBk b)) { s.dev with bk := b } := by
  refine ⟨by simp [Dev.withBk], ?_⟩
  have hr : (s.dev.withBk b).reportsTo (report e (s.dev.fresh0.withBk b1)) :=
    Dev.reportsTo_congr (report_reportsTo e (s.dev.fresh0.withBk b1)) rfl rfl rfl
  have he : (s.dev.fresh0.withBk b1).reportsOnly (report e (s.dev.fresh0.withBk b1)) := report_reportsOnly ..
  generalize report e (s.dev.fresh0.withBk b1) = a at hr he
  refine State.frame_of_eq (Dev.reportsTo_trans hr (Dev.reportsTo_of_eq rfl rfl rfl)) ?_ ?_
  · rw [show a = _ from he]
    rfl
  · rw [show a = _ from he]
    rfl

/-- A step of the calendar, seen on the state after it: `b` is the backup domain that it begins with, `g` what it writes
beside the step. -/
theorem calStep_after {s : State} {code cnt : Nat} {flags : Bool} {data : Nat} {b : Backup} {g : Backup → Backup}
    (h : ∀ k, k < 8 → (b.alarm k).due = none) (hg : ∀ x : Backup, (g x).alarms = x.alarms)
    (hgl : ∀ (x : Backup) l, g { x with alarms := l } = { g x with alarms := l }) :
    let t := s.after ((calStep code cnt flags data (s.dev.fresh0.withBk b)).modBk g)
    t.dev.bk = { g (b.stepped cnt flags) with alarms := t.dev.bk.alarms } ∧
      s.frame t { s.dev with bk := { g (b.stepped cnt flags) with alarms := t.dev.bk.alarms } } ∧
      (b.cnt < cnt → alarmsMarked true (calOf cnt) b t.dev.bk) ∧ (cnt ≤ b.cnt → t.dev.bk.alarms = b.alarms) := by
  obtain ⟨e, b', heq, hfwd, hback⟩ := calStep_quiet (code := code) (cnt := cnt) (flags := flags) (data := data)
    (d := s.dev.fresh0.withBk b) fun k hk => .inl (h k hk)
  have hb' : b' = { b.stepped cnt flags with alarms := b'.alarms } := by
    rcases Nat.lt_or_ge b.cnt cnt with hc | hc
    · exact (hfwd hc).1
    · rw [hback hc]
      rfl
  have hgb : g b' = { g (b.stepped cnt flags) with alarms := b'.alarms } := (congrArg g hb').trans (hgl ..)
  rw [heq, Dev.modBk_withBk]
  obtain ⟨ht, hframe⟩ := bk_told s e ((s.dev.fresh0.withBk b).bk.stepped cnt flags) (g b')
  intro t
  change t.dev.bk = g b' at ht
  change s.frame t _ at hframe
  generalize t = t at ht hframe ⊢
  have hal : t.dev.bk.alarms = b'.alarms := by rw [ht, hg]
  refine ⟨?_, ?_, fun hc => ?_, fun hc => ?_⟩
  · rw [hal, ← hgb]
    exact ht
  · rw [hal, ← hgb]
    exact hframe
  · have hm := alarmsMarked_of (hfwd hc) (b0 := b) rfl h
    intro k
    rw [← hm k]
    exact congrArg (fun x => tget CalAlarm.reset x k) hal
  · have hb : b'.alarms = (b.stepped cnt flags).alarms := congrArg Backup.alarms (hback hc)
    exact hal.trans hb

/-! ### The end of a slew, a stopped oscillator, network time and UTC_OFFSET (R491, R495 to R497) -/

/-- A report of the backup domain, with a frame in the words of the obligation. -/
theorem bk_reported (s : State) (e : Event) (b : Backup) :
    (s.after (report e (s.dev.withBk b).fresh0)).dev.bk = b ∧
      s.frame (s.after (report e (s.dev.withBk b).fresh0)) { s.dev with bk := b } :=
  ⟨by simp [Dev.withBk], frame_report s e (s.dev.withBk b)⟩

theorem oscStopped_runs (s : State) : Runs .oscStopped s (fun t =>
    t.dev.bk = { s.dev.bk with oscStopped := true, calSet := false, oscReport := s.dev.bk.oscReport || !s.dev.isMain } ∧
      s.frame t { s.dev with
        bk := { s.dev.bk with oscStopped := true, calSet := false, oscReport := s.dev.bk.oscReport || !s.dev.isMain } }) := by
  refine Runs.module (f := Machine.oscStopped) rfl ?_
  by_cases hm : s.dev.isMain = true
  · have he : Machine.oscStopped s.dev.fresh0 =
        report (ev 0x0D04 true 0 0) (s.dev.withBk { s.dev.bk with oscStopped := true, calSet := false }).fresh0 := if_pos hm
    rw [he, hm, Bool.not_true, Bool.or_false]
    exact bk_reported s _ _
  · have he : Machine.oscStopped s.dev.fresh0 =
        ({ s.dev.fresh0 with bk := { s.dev.bk with oscStopped := true, calSet := false, oscReport := true } } : Dev) := if_neg hm
    have hf : s.dev.isMain = false := Bool.eq_false_iff.mpr hm
    rw [he, hf, Bool.not_false, Bool.or_true]
    exact ⟨by simp, State.frame_of_eq (Dev.reportsTo_of_eq rfl rfl rfl) rfl rfl⟩

theorem slewDone_runs {s : State} (h1 : s.dev.bk.slewing = true) (h2 : s.dev.bk.slewLeft = 0) :
    Runs .calSlewDone s (fun t => t.dev.bk = { s.dev.bk with slewing := false, slewAcc := 0 } ∧
      s.frame t { s.dev with bk := { s.dev.bk with slewing := false, slewAcc := 0 } }) := by
  refine Runs.module (f := slewDone) rfl ?_
  have he : slewDone s.dev.fresh0 =
      report (ev 0x0D02 false 0 0) (s.dev.withBk { s.dev.bk with slewing := false, slewAcc := 0 }).fresh0 :=
    if_pos (by simp [h1, h2])
  rw [he]
  exact bk_reported s _ _

theorem slewDone_runs_on {d : Dev} (h : d.bk.slewing = false ∨ d.bk.slewLeft ≠ 0) : slewDone d = d :=
  if_neg (by rcases h with h | h <;> simp [h])

/-- Where a comparison with network time takes the calendar (R495). -/
def Dev.ptpGoal (d : Dev) (ptpNs : Nat) : Int :=
  (ptpNs : Int) - 1000000000 * (((d.net.utcOffset.toNat + ptpEpochSeconds : Nat) : Int) - (d.bk.utcStep.map (·.1)).getD 0)

/-- The second of the last comparison is noted. -/
def Backup.compared (b : Backup) (ptpNs : Nat) : Backup := { b with lastCompare := some (ptpNs / 1000000000) }

/-- A comparison that runs, with no alarm due before it. -/
theorem calCompare_runs {d : Dev} {ptpNs : Nat} (hup : d.isMain = true)
    (hr : d.bk.calSrc = true ∧ d.tb.tb = .locked ∧ d.net.utcValid = true ∧ d.bk.lastCompare ≠ some (ptpNs / 1000000000))
    (hdue : ∀ k, k < 8 → (d.bk.alarm k).due = none) :
    calCompare ptpNs d =
      if 327680000000 < (d.ptpGoal ptpNs * 32768 - (d.bk.cnt : Int) * 1000000000).natAbs then
        calStep 0x0D01 ((d.placeCal (calOf (d.ptpGoal ptpNs * 32768 / 1000000000).toNat)).getD
          (d.ptpGoal ptpNs * 32768 / 1000000000).toNat) true 0 (d.withBk (d.bk.compared ptpNs))
      else if (d.ptpGoal ptpNs * 32768 / 1000000000).toNat = d.bk.cnt ∧ d.bk.slewing = false then
        d.withBk (d.bk.compared ptpNs)
      else calSlew (((d.ptpGoal ptpNs * 32768 / 1000000000).toNat : Int) - (d.bk.cnt : Int))
        (d.withBk (d.bk.compared ptpNs)) := by
  obtain ⟨h1, h2, h3, h4⟩ := hr
  unfold calCompare
  dsimp only
  rw [if_neg (by simp [hup, h1, h2, h3, h4])]
  have hf : fireDue false (d.modBk fun b => { b with lastCompare := some (ptpNs / 1000000000) }) =
      d.withBk (d.bk.compared ptpNs) := fireDue_idle fun k hk => .inl (hdue k hk)
  rw [hf]
  refine if_congr Iff.rfl ?_ rfl
  have hp : (d.withBk (d.bk.compared ptpNs)).placeCal = d.placeCal := rfl
  rw [hp]
  have hg (g : Int) (x : Option Nat) (e : Dev) : (match x with
      | some c => calStep 0x0D01 c true 0 e
      | none => calStep 0x0D01 (g * 32768 / 1000000000).toNat true 0 e) =
      calStep 0x0D01 (x.getD (g * 32768 / 1000000000).toNat) true 0 e := by cases x <;> rfl
  exact hg ..

theorem Dev.ptpGoal_eq (d : Dev) (ptpNs : Nat) : d.ptpGoal ptpNs = (ptpNs : Int) - 1000000000 *
    (d.net.utcOffset.toNat + 946684800 - match d.bk.utcStep with
      | some x => x.1
      | none => 0) := by
  unfold Dev.ptpGoal ptpEpochSeconds
  cases d.bk.utcStep <;> simp

/-- A comparison that is not due does nothing (R495). -/
theorem calCompare_idle {d : Dev} {ptpNs : Nat}
    (h : ¬(d.bk.calSrc = true ∧ d.tb.tb = .locked ∧ d.net.utcValid = true ∧
      d.bk.lastCompare ≠ some (ptpNs / 1000000000))) : calCompare ptpNs d = d := by
  refine if_pos ?_
  by_contra hno
  simp only [Bool.not_eq_true, Bool.or_eq_false_iff] at hno
  obtain ⟨⟨⟨⟨-, h1⟩, h2⟩, h3⟩, h4⟩ := hno
  exact h ⟨by simpa using h1, by simpa using h2, by simpa using h3, by simpa using h4⟩

/-- A far step of network time, seen on the state after it. -/
theorem farStep_after {s : State} (cnt ptpNs : Nat) (hdue : ∀ k, k < 8 → (s.dev.bk.alarm k).due = none) :
    let t := s.after (calStep 0x0D01 cnt true 0 (s.dev.fresh0.withBk (s.dev.bk.compared ptpNs)))
    let b' : Backup := { s.dev.bk with
      lastCompare := some (ptpNs / 1000000000), cnt := cnt, calSet := true, oscStopped := false, slewing := false, slewLeft := 0
      slewAcc := 0, alarms := t.dev.bk.alarms }
    (t.dev.bk = b' ∧ s.frame t { s.dev with bk := b' }) ∧
      (s.dev.bk.cnt < cnt → alarmsMarked true (calOf cnt) s.dev.bk t.dev.bk) ∧
      (cnt ≤ s.dev.bk.cnt → t.dev.bk.alarms = s.dev.bk.alarms) := by
  obtain ⟨h1, h2, h3, h4⟩ := calStep_after (s := s) (code := 0x0D01) (cnt := cnt) (flags := true) (data := 0)
    (b := s.dev.bk.compared ptpNs) (g := id) hdue (fun _ => rfl) (fun _ _ => rfl)
  have hflags : (id ((s.dev.bk.compared ptpNs).stepped cnt true) : Backup) = { s.dev.bk with
      lastCompare := some (ptpNs / 1000000000), cnt := cnt, calSet := true, oscStopped := false, slewing := false, slewLeft := 0
      slewAcc := 0 } := by
    unfold Backup.stepped Backup.compared
    simp
  rw [hflags] at h1 h2
  exact ⟨⟨h1, h2⟩, h3, h4⟩

theorem utcOffsetStep_due {s : State} {sec : Int} {since : Nat} (hdue : ∀ k, k < 8 → (s.dev.bk.alarm k).due = none)
    (hu : s.dev.bk.utcStep = some (sec, since)) (h : since / 32768 < s.dev.bk.cnt / 32768) :
    let t := s.after (utcOffsetStep s.dev.fresh0)
    let n := ((s.dev.bk.cnt : Int) - 32768 * sec).toNat
    let b' : Backup := { s.dev.bk with utcStep := none, cnt := n, alarms := t.dev.bk.alarms }
    (t.dev.bk = b' ∧ s.frame t { s.dev with bk := b' }) ∧
      (s.dev.bk.cnt < n → alarmsMarked true (calOf n) s.dev.bk t.dev.bk) ∧
      (n ≤ s.dev.bk.cnt → t.dev.bk.alarms = s.dev.bk.alarms) := by
  have he : utcOffsetStep s.dev.fresh0 =
      (calStep 0x0D03 ((s.dev.bk.cnt : Int) - 32768 * sec).toNat false s.dev.net.utcOffset.toNat
        (s.dev.fresh0.withBk { s.dev.bk with utcStep := none })).modBk fun b => { b with
          slewLeft := s.dev.bk.slewLeft, slewAcc := s.dev.bk.slewAcc, slewing := s.dev.bk.slewing } := by
    have hd : s.dev.fresh0.utcDue = true := by
      unfold Dev.utcDue
      rw [show s.dev.fresh0.bk.utcStep = some (sec, since) from hu]
      exact decide_eq_true h
    unfold utcOffsetStep
    rw [show s.dev.fresh0.bk.utcStep = some (sec, since) from hu]
    dsimp only
    rw [hd]
    exact if_neg (by simp)
  rw [he]
  obtain ⟨h1, h2, h3, h4⟩ := calStep_after (s := s) (code := 0x0D03) (cnt := ((s.dev.bk.cnt : Int) - 32768 * sec).toNat)
    (flags := false) (data := s.dev.net.utcOffset.toNat) (b := { s.dev.bk with utcStep := none })
    (g := fun b => { b with
      slewLeft := s.dev.bk.slewLeft, slewAcc := s.dev.bk.slewAcc, slewing := s.dev.bk.slewing }) hdue
    (fun _ => rfl) (fun _ _ => rfl)
  have hflags : ({ Backup.stepped { s.dev.bk with utcStep := none } ((s.dev.bk.cnt : Int) - 32768 * sec).toNat false with
      slewLeft := s.dev.bk.slewLeft, slewAcc := s.dev.bk.slewAcc, slewing := s.dev.bk.slewing } : Backup) =
      { s.dev.bk with utcStep := none, cnt := ((s.dev.bk.cnt : Int) - 32768 * sec).toNat } := by
    unfold Backup.stepped
    simp
  rw [hflags] at h1 h2
  exact ⟨⟨h1, h2⟩, h3, h4⟩

theorem utcOffsetStep_idle {d : Dev} (h : d.bk.utcStep = none ∨
    ∃ x since, d.bk.utcStep = some (x, since) ∧ d.bk.cnt / 32768 ≤ since / 32768) : utcOffsetStep d = d := by
  unfold utcOffsetStep
  rcases h with h | ⟨x, since, h, hle⟩
  · rw [h]
  · have hd : d.utcDue = false := by
      unfold Dev.utcDue
      rw [h]
      exact decide_eq_false (by omega)
    rw [h]
    dsimp only
    rw [hd]
    rfl

/-! ### One RTC count (R489, R492, R501) -/

/-- The trim's correction of one count. -/
def Backup.trimmedBy (b : Backup) : Int :=
  if 1000000000 ≤ b.trimAcc + b.trimPpb then 1 else if b.trimAcc + b.trimPpb ≤ -1000000000 then -1 else 0

/-- The counts since a slew's last share. -/
def Backup.slewWait (b : Backup) : Nat := if b.slewing then b.slewAcc + 1 else 0

/-- A slew's share of one count. -/
def Backup.slewShare (b : Backup) : Int :=
  if b.slewing = true ∧ b.slewLeft ≠ 0 ∧ b.trimmedBy = 0 ∧ 2000 ≤ b.slewWait then (if 0 < b.slewLeft then 1 else -1) else 0

/-- The count after one RTC count. -/
def Backup.nextCnt (b : Backup) : Nat := ((b.cnt : Int) + 1 + b.trimmedBy + b.slewShare).toNat

/-- The backup domain after one RTC count, with a trim window and alarm entries. -/
def Backup.counted (b : Backup) (win : Option TrimWin) (alarms : Tbl CalAlarm) : Backup := { b with
  cnt := b.nextCnt, trimAcc := b.trimAcc + b.trimPpb - 1000000000 * b.trimmedBy, slewLeft := b.slewLeft - b.slewShare
  slewAcc := if b.slewShare = 0 then b.slewWait else b.slewWait - 2000, win := win, alarms := alarms }

theorem trimCount_eq (b : Backup) :
    trimCount b = (b.trimmedBy, b.trimAcc + b.trimPpb - 1000000000 * b.trimmedBy) := by
  unfold trimCount Backup.trimmedBy
  dsimp only
  split
  · simp
  · split
    · simp
    · simp

theorem countOnce_eq (b : Backup) : ∃ w, countOnce b = b.counted w b.alarms := by
  have hs : (if b.slewing && b.slewLeft != 0 && (trimCount b).1 == 0 &&
      decide (2000 ≤ if b.slewing then b.slewAcc + 1 else 0) then (if 0 < b.slewLeft then 1 else -1) else 0 : Int) =
      b.slewShare := by
    rw [trimCount_eq]
    unfold Backup.slewShare Backup.slewWait
    exact if_congr (by simp [and_assoc]) rfl rfl
  refine ⟨b.win.map fun w => if w.ended then w else { w with counts := ((w.counts : Int) + 1 + (trimCount b).1).toNat }, ?_⟩
  unfold countOnce
  dsimp only
  rw [hs, trimCount_eq]
  rfl

/-- Voiding a window touches it alone. -/
theorem trimVoid_eq (d : Dev) : ∃ w, trimVoid d = d.withBk { d.bk with win := w } := by
  unfold trimVoid
  have hsame : d = d.withBk { d.bk with win := d.bk.win } := rfl
  split
  · exact ⟨_, hsame⟩
  · exact iteInduction (motive := fun e => ∃ w, e = d.withBk { d.bk with win := w }) (fun _ => ⟨_, hsame⟩)
      (fun _ => ⟨none, rfl⟩)

/-- The module after one RTC count, before the TIME_SETs that apply at it. -/
theorem rtcCount_eq {d : Dev} (hu : d.bk.utcStep = none) (hdue : ∀ k, k < 8 → (d.bk.alarm k).due = none)
    (hs : d.bk.slewing = false ∨ d.bk.slewLeft ≠ 0) :
    ∃ w l, rtcCount d = d.bk.timeSet.foldl (fun d x => timeSetApply x d) (d.withBk { d.bk.counted w l with timeSet := [] }) ∧
      ∀ k, Backup.alarm (d.bk.counted w l) k = if k < 8 ∧ (d.bk.alarm k).marks false (calOf d.bk.nextCnt) then
        { d.bk.alarm k with due := some false } else d.bk.alarm k := by
  have hsettle : settleBackup d = d := by
    unfold settleBackup
    dsimp only
    rw [foldl_idle fun k hk => alarmFire_idle (hdue k (List.mem_range.mp hk)), slewDone_runs_on hs]
    exact utcOffsetStep_idle (.inl hu)
  obtain ⟨w0, hw0⟩ := trimVoid_eq d
  obtain ⟨w, hw⟩ := countOnce_eq { d.bk with win := w0 }
  obtain ⟨hm, hm'⟩ := markAlarms_marked false ((d.withBk { d.bk with win := w0 }).modBk countOnce)
  obtain ⟨hal, hk⟩ := hm'
  have hbk : ((d.withBk { d.bk with win := w0 }).modBk countOnce).bk = d.bk.counted w d.bk.alarms := hw
  rw [hbk] at hal hk
  have hcal : ((d.withBk { d.bk with win := w0 }).modBk countOnce).cal = calOf d.bk.nextCnt := by
    unfold Dev.cal
    rw [hbk]
    rfl
  rw [hcal] at hk
  have hrun : rtcCount d = (markAlarms false ((d.withBk { d.bk with win := w0 }).modBk countOnce)).bk.timeSet.foldl
      (fun d x => timeSetApply x d)
      ((markAlarms false ((d.withBk { d.bk with win := w0 }).modBk countOnce)).modBk fun b => { b with timeSet := [] }) := by
    unfold rtcCount
    dsimp only
    rw [hsettle, hw0]
  rw [hrun]
  generalize markAlarms false ((d.withBk { d.bk with win := w0 }).modBk countOnce) = m at hm hal hk ⊢
  have hdev : m = d.withBk m.bk := hm
  have hm' : m.modBk (fun b => { b with timeSet := [] }) = d.withBk { m.bk with timeSet := [] } := by
    rw [hdev]
    rfl
  rw [hm', hal]
  exact ⟨w, m.bk.alarms, rfl, fun k => hal ▸ hk k⟩

end Sys2Proof.Machine
end

section
/-!
A TIME_SET that applies at an RTC count, and the end of its command (R129, R492).
-/
namespace Sys2Proof.Machine

/-! ### How a command ends, whatever ends with it -/

/-- What `releaseEnded` and `finish` change. -/
theorem releaseEnded_endsOn (ch n : Nat) (d : Dev) : d.endsOn ch (releaseEnded ch n d) := by
  induction n generalizing d with
  | zero => exact Dev.endsOn_refl ch d
  | succ n ih =>
    cases h : (d.inFlight ch).findSome? d.endsNow with
    | none =>
      rw [releaseEnded_none h]
      exact Dev.endsOn_refl ch d
    | some x =>
      obtain ⟨c, st⟩ := x
      rw [releaseEnded_some h]
      exact Dev.endsOn_trans (finishOne_endsOn ..) (ih _)

theorem finish_endsOn (ch tag st fi : Nat) (reply : List Byte) (d : Dev) : d.endsOn ch (finish ch tag st fi reply d) :=
  Dev.endsOn_trans (finishOne_endsOn ..) (releaseEnded_endsOn ..)

/-- A completion in the queue of a channel stays there while commands end. -/
theorem finishOne_holds (ch tag st fi : Nat) (reply : List Byte) (d : Dev) {y : Completion} (h : (d.chan ch).holds y) :
    ((finishOne ch tag st fi reply d).chan ch).holds y := by
  cases hs : d.slot ch tag with
  | none =>
    unfold finishOne
    rw [hs]
    exact h
  | some c =>
    obtain ⟨y', x, hdrop, hchan, -⟩ := finishOne_chan hs st fi reply
    obtain ⟨h1, h2, -⟩ := Channel.butDrops_keeps hdrop
    have hy' : y'.holds y := by
      unfold Channel.holds
      rw [h1, h2]
      unfold Channel.statusNoted
      split
      · exact h
      · split <;> exact h
    rw [hchan]
    split
    · exact hy'
    · exact (Channel.pushed_holds ..).mpr (.inl hy')

theorem releaseEnded_holds (ch n : Nat) (d : Dev) {y : Completion} (h : (d.chan ch).holds y) :
    ((releaseEnded ch n d).chan ch).holds y := by
  induction n generalizing d with
  | zero => exact h
  | succ n ih =>
    cases hx : (d.inFlight ch).findSome? d.endsNow with
    | none => rwa [releaseEnded_none hx]
    | some x =>
      obtain ⟨c, st⟩ := x
      rw [releaseEnded_some hx]
      exact ih _ (finishOne_holds ch c.tag st 0 [] d h)

/-- No command of a tag awaits its end. -/
def Dev.tagDone (d : Dev) (ch tag : Nat) : Prop := ∀ x ∈ d.inFlight ch, x.tag = tag → x.stage = .finished

theorem finishOne_tagDone {ch tag : Nat} {c : Cmd} {d : Dev} (h : d.slot ch tag = some c) (st fi : Nat) (reply : List Byte) :
    (finishOne ch tag st fi reply d).tagDone ch tag := by
  intro x hx ht
  rcases mem_inFlight_finishOne h hx with ⟨-, hf⟩ | ⟨y, -, hne, hb⟩
  · exact hf
  · exact absurd ((Cmd.butReady_keeps hb).2.1.symm.trans ht) hne

/-- The commands that end after one with a tag leave that tag as it is. -/
theorem releaseEnded_tag {ch tag : Nat} (n : Nat) {d : Dev} (h : d.tagDone ch tag) :
    ((releaseEnded ch n d).slot ch tag).map (·.stage) = (d.slot ch tag).map (·.stage) := by
  induction n generalizing d with
  | zero => rfl
  | succ n ih =>
    cases hx : (d.inFlight ch).findSome? d.endsNow with
    | none => rw [releaseEnded_none hx]
    | some x =>
      obtain ⟨c, st⟩ := x
      rw [releaseEnded_some hx]
      obtain ⟨c', hmem, hnow⟩ := List.exists_of_findSome?_eq_some hx
      have hcc : c' = c ∧ c.stage.isEnded = true := by
        unfold Dev.endsNow at hnow
        split at hnow
        · next s hs =>
          split at hnow
          · cases hnow
          · cases hnow
            exact ⟨rfl, by rw [hs]; rfl⟩
        · cases hnow
      obtain ⟨rfl, hended⟩ := hcc
      have hne : c'.tag ≠ tag := fun ht => by
        rw [h c' hmem ht] at hended
        exact absurd hended nofun
      have hdone : (finishOne ch c'.tag st 0 [] d).tagDone ch tag := by
        intro y hy hyt
        cases hs : d.slot ch c'.tag with
        | none =>
          unfold finishOne at hy
          rw [hs] at hy
          exact h y hy hyt
        | some c0 =>
          rcases mem_inFlight_finishOne hs hy with ⟨-, hf⟩ | ⟨z, hz, -, hb⟩
          · exact hf
          · obtain ⟨-, b2, b3, -⟩ := Cmd.butReady_keeps hb
            exact b3.trans (h z hz (b2.symm.trans hyt))
      rw [ih hdone]
      obtain ⟨e, he | he⟩ := finishOne_slot_other (ch := ch) (tag := c'.tag) (ch' := ch) (tag' := tag) (d := d)
        (fun hh => hne hh.2.symm) st 0 []
      · rw [he, Option.map_map]
        congr 1
        funext z
        exact (Cmd.butReady_keeps (e.polled_butReady ch z)).2.2.1
      · rw [he]

/-- The slot of a command after its end. -/
theorem finish_slot {ch tag : Nat} {c : Cmd} {d : Dev} (h : d.slot ch tag = some c) (st fi : Nat) (reply : List Byte) :
    ((finish ch tag st fi reply d).slot ch tag).map (·.stage) = if c.n && st == 0 then none else some .finished :=
  (releaseEnded_tag 32 (finishOne_tagDone h st fi reply)).trans (finishOne_slot h st fi reply)

/-- Its COMPLETION record, where it writes one. -/
theorem finish_record {ch tag : Nat} {c : Cmd} {d : Dev} (h : d.slot ch tag = some c) {st : Nat} (hst : st ≠ 0) (fi : Nat)
    (reply : List Byte) : ∃ y, ((finish ch tag st fi reply d).chan ch).holds y ∧ y.status = BitVec.ofNat 8 st ∧ y.seq = c.seq := by
  obtain ⟨y', x, -, hchan, h1, -, -, -, hseq, -⟩ := finishOne_chan h st fi reply
  rw [if_neg (by simp [hst])] at hchan
  refine ⟨x, releaseEnded_holds ch 32 _ ?_, h1, hseq⟩
  rw [hchan]
  exact (Channel.pushed_holds ..).mpr (.inr rfl)

/-! ### The command of a TIME_SET at its RTC count (R129, R492) -/

/-- What follows the effect of a TIME_SET. -/
def timeSetEnd (x : TimeSetDue) (d : Dev) : Dev :=
  match d.slot x.ch x.tag with
  | none => d
  | some c =>
    if c.seq ≠ x.seq ∨ c.stage ≠ .replying then d
    else if c.pastLimit d then limitReport x.ch x.tag d
    else finish x.ch x.tag stOk 0 [] d

theorem timeSetApply_eq {x : TimeSetDue} {d : Dev} (hx : x.ended = false) :
    timeSetApply x d = timeSetEnd x (timeSetCal x d) := by
  have he : timeSetEffect x d = timeSetCal x d := if_pos (by simp [hx])
  unfold timeSetApply
  rw [he]
  rfl

/-- The record of a command at its limit (R129). -/
def limitEvent (ch : Nat) : Event := { ev 0x0303 true ch 0 with dests := destsCh ch }

/-- The module when a command at its limit is counted, and its TIME_SET has ended with it. -/
def Dev.limited (d : Dev) (c : Cmd) : Dev :=
  (d.withCp { d.cp with limitCnt := satAdd d.cp.limitCnt 1 }).withBk (c.endsTimeSet d.bk)

theorem limitReport_finish {ch tag : Nat} {c : Cmd} {d : Dev} (h : d.slot ch tag = some c) :
    limitReport ch tag d = report (limitEvent ch) (finish ch tag stInternal 0 [] (d.limited c)) := by
  obtain ⟨rfl, rfl, -⟩ := slotIn_names h
  have h' : (d.withCp { d.cp with limitCnt := satAdd d.cp.limitCnt 1 }).slot c.ch c.tag = some c := h
  have he : internalEnd c.ch c.tag (d.withCp { d.cp with limitCnt := satAdd d.cp.limitCnt 1 }) =
      finish c.ch c.tag stInternal 0 [] (d.limited c) := by
    unfold internalEnd
    rw [h']
    rfl
  exact congrArg (report (limitEvent c.ch)) he

theorem Dev.limited_dry {d : Dev} {c : Cmd} (h : d.bk.timeSet = []) :
    d.limited c = d.withCp { d.cp with limitCnt := satAdd d.cp.limitCnt 1 } := by
  have hb : c.endsTimeSet d.bk = d.bk := by
    unfold Cmd.endsTimeSet
    rw [h, List.map_nil, ← h]
  unfold Dev.limited
  rw [hb]
  rfl

theorem timeSetEnd_endsOn {x : TimeSetDue} {d : Dev} (hb : d.bk.timeSet = []) : d.endsOn x.ch (timeSetEnd x d) := by
  unfold timeSetEnd
  split
  · exact Dev.endsOn_refl ..
  · next c hs =>
    refine iteInduction (motive := d.endsOn x.ch) (fun _ => Dev.endsOn_refl ..) fun _ =>
      iteInduction (motive := d.endsOn x.ch) (fun _ => ?_) fun _ => finish_endsOn ..
    rw [limitReport_finish hs, Dev.limited_dry hb]
    refine Dev.endsOn_trans (Dev.endsOn_trans ?_ (finish_endsOn ..)) (report_endsOn ..)
    exact Dev.endsOn_of_completesOn (cp_completesOn ..)

/-- A TIME_SET whose command still waits completes, or ends with INTERNAL past its limit. -/
theorem timeSetEnd_ok {x : TimeSetDue} {c : Cmd} {d : Dev} (hs : d.slot x.ch x.tag = some c) (hseq : c.seq = x.seq)
    (hst : c.stage = .replying) (hl : c.pastLimit d = false) :
    ((timeSetEnd x d).slot x.ch x.tag).map (·.stage) = if c.n then none else some .finished := by
  have he : timeSetEnd x d = finish x.ch x.tag stOk 0 [] d := by
    unfold timeSetEnd
    rw [hs]
    exact (if_neg (by simp [hseq, hst])).trans (if_neg (by simp [hl]))
  rw [he, finish_slot hs]
  exact if_congr (by simp [stOk]) rfl rfl

theorem timeSetEnd_late {x : TimeSetDue} {c : Cmd} {d : Dev} (hs : d.slot x.ch x.tag = some c) (hseq : c.seq = x.seq)
    (hst : c.stage = .replying) (hl : c.pastLimit d = true) :
    ((timeSetEnd x d).slot x.ch x.tag).map (·.stage) = some .finished ∧
      ∃ y, ((timeSetEnd x d).chan x.ch).holds y ∧ y.status = BitVec.ofNat 8 stInternal ∧ y.seq = c.seq := by
  have he : timeSetEnd x d = limitReport x.ch x.tag d := by
    unfold timeSetEnd
    rw [hs]
    exact (if_neg (by simp [hseq, hst])).trans (if_pos hl)
  have hes : (d.limited c).slot x.ch x.tag = some c := hs
  rw [he, limitReport_finish hs]
  obtain ⟨hcp, -⟩ := report_same (limitEvent x.ch) (finish x.ch x.tag stInternal 0 [] (d.limited c))
  have hdrop := report_butDrops (limitEvent x.ch) (finish x.ch x.tag stInternal 0 [] (d.limited c)) x.ch
  have hslot := finish_slot hes stInternal 0 []
  rw [if_neg (by simp [stInternal])] at hslot
  obtain ⟨y, hy, hstat, hyseq⟩ := finish_record hes (st := stInternal) (by decide) 0 []
  obtain ⟨h1, h2, -⟩ := Channel.butDrops_keeps hdrop
  refine ⟨?_, y, ?_, hstat, hyseq⟩
  · rw [Dev.slot_eq, hcp, ← Dev.slot_eq]
    exact hslot
  · unfold Channel.holds
    rw [h1, h2]
    exact hy

/-! ### What a TIME_SET makes of the calendar (R492, R494) -/

/-- From `d` to `d'`: the backup domain, and what reports write. -/
def Dev.bkTold (d d' : Dev) : Prop :=
  (d.withBk d'.bk).reportsTo d' ∧ d' = { d with
    bk := d'.bk, tr := d'.tr, rcd := d'.rcd, flt := d'.flt, wire := [], out := [], wr := d'.wr }

theorem Dev.bkTold_quiet (d : Dev) (b : Backup) : d.bkTold (d.fresh0.withBk b) := ⟨Dev.reportsTo_of_eq rfl rfl rfl, rfl⟩

theorem Dev.bkTold_told (d : Dev) (e : Event) (b1 b : Backup) : d.bkTold ((report e (d.fresh0.withBk b1)).withBk b) := by
  have hr : (d.withBk b).reportsTo (report e (d.fresh0.withBk b1)) :=
    Dev.reportsTo_congr (report_reportsTo e (d.fresh0.withBk b1)) rfl rfl rfl
  have he : (d.fresh0.withBk b1).reportsOnly (report e (d.fresh0.withBk b1)) := report_reportsOnly ..
  generalize report e (d.fresh0.withBk b1) = a at hr he ⊢
  refine ⟨Dev.reportsTo_trans hr (Dev.reportsTo_of_eq rfl rfl rfl), ?_⟩
  have he' : a = _ := he
  rw [he']
  rfl

/-- A TIME_SET seen on the state after it, by its effect. -/
theorem timeSetEnd_after {s : State} {x : TimeSetDue} {d : Dev} (h : s.dev.bkTold d) (hb : d.bk.timeSet = []) :
    let t := s.after (timeSetEnd x d)
    t.dev.bk = d.bk ∧ s.frameCh t x.ch { s.dev with bk := t.dev.bk, cp := t.dev.cp } := by
  have hon := timeSetEnd_endsOn (x := x) hb
  obtain ⟨hr, he⟩ := h
  intro t
  have hbk : t.dev.bk = d.bk := by
    have h1 : t.dev.bk = (timeSetEnd x d).bk := by simp [t]
    rw [h1, hon.1]
  refine ⟨hbk, ?_⟩
  have hcp : t.dev.cp = (timeSetEnd x d).cp := (State.after_dev ..).2.2.1
  rw [hbk, hcp]
  have hout : d.out = [] := congrArg Dev.out he
  exact State.frameCh_of_endsOn (s := s) (b := s.dev.withBk d.bk) hon (by
    rw [hout]
    generalize hd : d.bk = bk at he
    exact he.trans (by rw [he]; rfl)) hr rfl (timeSetEnd x d).cp

/-- The backup domain with no TIME_SET waiting. -/
def Backup.dry (b : Backup) : Backup := { b with timeSet := [] }

/-- The count that a TIME_SET names at a count (R492). -/
def TimeSetDue.goal (x : TimeSetDue) (b : Backup) : Nat := (placeStamp (if b.calSet then some b.cnt else none) x.cal).getD b.cnt

/-- The backup domain with the slew of a TIME_SET begun. -/
def Backup.slewed (b : Backup) (goal : Nat) : Backup :=
  { b with slewLeft := (goal : Int) - (b.cnt : Int), slewAcc := 0, slewing := true }

theorem timeSetCal_slew {x : TimeSetDue} {d : Dev} (h : x.slew = true) :
    timeSetCal x d = d.withBk (d.bk.slewed (x.goal d.bk)) := if_pos h

theorem timeSetCal_step {x : TimeSetDue} {d : Dev} (h : x.slew = false) :
    timeSetCal x d = calStep 0x0D01 (x.goal d.bk) true 0 d := if_neg (by simp [h])

/-- What a TIME_SET does never touches commands and the timebase. -/
theorem alarmFire_cp (k : Nat) (d : Dev) : (alarmFire k d).cp = d.cp ∧ (alarmFire k d).tb = d.tb := by
  have h := (alarmFire_only k d).2.1
  rw [h]
  exact ⟨rfl, rfl⟩

theorem fireDue_cp (fwd : Bool) (d : Dev) : (fireDue fwd d).cp = d.cp ∧ (fireDue fwd d).tb = d.tb := by
  unfold fireDue
  refine List.foldlRecOn (motive := fun e : Dev => e.cp = d.cp ∧ e.tb = d.tb) _ _ ⟨rfl, rfl⟩ fun e he k _ => ?_
  refine iteInduction (motive := fun a : Dev => a.cp = d.cp ∧ a.tb = d.tb) (fun _ => he) fun _ => ?_
  exact ⟨(alarmFire_cp k e).1.trans he.1, (alarmFire_cp k e).2.trans he.2⟩

theorem marksPassed_cp (fwd : Bool) (d : Dev) : (marksPassed fwd d).cp = d.cp ∧ (marksPassed fwd d).tb = d.tb := by
  unfold marksPassed
  refine iteInduction (motive := fun a : Dev => a.cp = d.cp ∧ a.tb = d.tb) (fun _ => ?_) fun _ => ⟨rfl, rfl⟩
  have h := (markAlarms_marked true d).1
  generalize markAlarms true d = e at h ⊢
  rw [h]
  exact ⟨rfl, rfl⟩

theorem calStep_eq (code cnt : Nat) (flags : Bool) (data : Nat) (d : Dev) : ∃ e, calStep code cnt flags data d =
    marksPassed (decide (d.bk.cnt < cnt)) (report e ((fireDue (decide (d.bk.cnt < cnt)) d).modBk (·.stepped cnt flags))) :=
  ⟨{ ev code false 0 data with oldCal := some d.cal }, rfl⟩

theorem timeSetCal_cp (x : TimeSetDue) (d : Dev) : (timeSetCal x d).cp = d.cp ∧ (timeSetCal x d).tb = d.tb := by
  cases h : x.slew with
  | true =>
    rw [timeSetCal_slew h]
    exact ⟨rfl, rfl⟩
  | false =>
    rw [timeSetCal_step h]
    obtain ⟨e, he⟩ := calStep_eq 0x0D01 (x.goal d.bk) true 0 d
    rw [he]
    obtain ⟨h1, h2⟩ := marksPassed_cp (decide (d.bk.cnt < x.goal d.bk))
      (report e ((fireDue (decide (d.bk.cnt < x.goal d.bk)) d).modBk (·.stepped (x.goal d.bk) true)))
    obtain ⟨h3, h4⟩ := fireDue_cp (decide (d.bk.cnt < x.goal d.bk)) d
    refine ⟨h1.trans ((report_same ..).1.trans h3), h2.trans ((report_keeps ..).1.trans h4)⟩

/-- The command of a TIME_SET, seen on the state after it (R129, R492). -/
theorem timeSetApply_slot {s : State} {x : TimeSetDue} {b : Backup} (hx : x.ended = false) {c : Cmd}
    (hs : s.dev.slot x.ch x.tag = some c) (hseq : c.seq = x.seq) (hst : c.stage = .replying) :
    let t := s.after (timeSetApply x (s.dev.fresh0.withBk b))
    (c.pastLimit s.dev = false → (t.dev.slot x.ch x.tag).map (·.stage) = if c.n then none else some .finished) ∧
      (c.pastLimit s.dev = true → (t.dev.slot x.ch x.tag).map (·.stage) = some .finished ∧
        ∃ y, (t.dev.chan x.ch).holds y ∧ y.status = BitVec.ofNat 8 stInternal ∧ y.seq = c.seq) := by
  rw [timeSetApply_eq hx]
  obtain ⟨hcp, htb⟩ := timeSetCal_cp x (s.dev.fresh0.withBk b)
  generalize timeSetCal x (s.dev.fresh0.withBk b) = d at hcp htb ⊢
  have hsd : d.slot x.ch x.tag = some c := by
    rw [Dev.slot_eq, hcp]
    exact hs
  have hlim : c.pastLimit d = c.pastLimit s.dev := by
    unfold Cmd.pastLimit framesSince
    rw [htb]
    rfl
  intro t
  have hslot : t.dev.slot x.ch x.tag = (timeSetEnd x d).slot x.ch x.tag := by
    have h1 : t.dev.cp = (timeSetEnd x d).cp := (State.after_dev ..).2.2.1
    rw [Dev.slot_eq, h1, ← Dev.slot_eq]
  have hchan : t.dev.chan x.ch = (timeSetEnd x d).chan x.ch := (State.after_objects ..).2.2.2.1
  rw [hslot, hchan, ← hlim]
  exact ⟨timeSetEnd_ok hsd hseq hst, timeSetEnd_late hsd hseq hst⟩

/-! ### The count at which a TIME_SET applies -/

/-- Does an alarm fall due by counting (R499). -/
def Backup.fell (b : Backup) (k : Nat) : Bool :=
  decide (k < 8) && (b.alarm k).st == .armed && (b.alarm k).reached (calOf b.nextCnt)

theorem Backup.fell_iff (b : Backup) (k : Nat) :
    b.fell k = true ↔ k < 8 ∧ (b.alarm k).st = .armed ∧ (b.alarm k).reached (calOf b.nextCnt) = true := by
  unfold Backup.fell
  simp [and_assoc]

/-- The alarm entries after the count, where nothing was due before it. -/
def Backup.fallen (b : Backup) (l : Tbl CalAlarm) : Prop :=
  ∀ k, tget CalAlarm.reset l k = if b.fell k then { b.alarm k with due := some false } else b.alarm k

theorem Backup.fallen_of {b : Backup} {w : Option TrimWin} {l : Tbl CalAlarm} (hdue : ∀ k, k < 8 → (b.alarm k).due = none)
    (h : ∀ k, Backup.alarm (b.counted w l) k = if k < 8 ∧ (b.alarm k).marks false (calOf b.nextCnt) then
      { b.alarm k with due := some false } else b.alarm k) : b.fallen l := by
  intro k
  refine (h k).trans (if_congr ?_ rfl rfl)
  rw [b.fell_iff]
  exact ⟨fun ⟨h1, h2, _, h4⟩ => ⟨h1, h2, h4⟩, fun ⟨h1, h2, h4⟩ => ⟨h1, h2, .inl (hdue k h1), h4⟩⟩

theorem Backup.fallen_marked {b : Backup} {l : Tbl CalAlarm} (hdue : ∀ k, k < 8 → (b.alarm k).due = none) (h : b.fallen l)
    {b' : Backup} (hb : b'.alarms = l) : alarmsMarked false (calOf b.nextCnt) b b' := by
  intro k
  have hk : b'.alarm k = tget CalAlarm.reset l k := congrArg (fun x => tget CalAlarm.reset x k) hb
  rw [hk, h k]
  refine if_congr ?_ rfl rfl
  rw [b.fell_iff]
  exact ⟨fun ⟨h1, h2, h4⟩ => ⟨h1, h2, hdue k h1, h4⟩, fun ⟨h1, h2, _, h4⟩ => ⟨h1, h2, h4⟩⟩

/-- The alarm entries after a forward step at that count. -/
theorem Backup.fallen_forward {b b1 b2 : Backup} {l : Tbl CalAlarm} {goal : Nat} (hdue : ∀ k, k < 8 → (b.alarm k).due = none)
    (h : b.fallen l) (hb : b1.alarms = l) (hm : b1.marked true (calOf goal) b2) (k : Nat) :
    b2.alarm k = if k < 8 ∧ (b.alarm k).st = .armed ∧ (b.alarm k).reached (calOf goal) = true then
      { b.alarm k with due := some true }
    else if b.fell k then { b.alarm k with due := some false } else b.alarm k := by
  have hk : b1.alarm k = if b.fell k then { b.alarm k with due := some false } else b.alarm k :=
    (congrArg (fun x => tget CalAlarm.reset x k) hb).trans (h k)
  rw [hm.2 k, hk]
  by_cases hf : b.fell k = true
  · rw [if_pos hf]
    exact if_congr ⟨fun ⟨h1, h2, _, h4⟩ => ⟨h1, h2, h4⟩, fun ⟨h1, h2, h4⟩ => ⟨h1, h2, .inr ⟨rfl, rfl⟩, h4⟩⟩ rfl rfl
  · rw [if_neg hf]
    exact if_congr ⟨fun ⟨h1, h2, _, h4⟩ => ⟨h1, h2, h4⟩, fun ⟨h1, h2, h4⟩ => ⟨h1, h2, .inl (hdue k h1), h4⟩⟩ rfl rfl

/-- A step of a TIME_SET at that count: the alarms that it passes where it goes forward, and none where none fell due. -/
theorem timeSetCal_stepped {s : State} {x : TimeSetDue} {b : Backup} {w : Option TrimWin} {l : Tbl CalAlarm}
    (hx : x.slew = false) (hdue : ∀ k, k < 8 → (b.alarm k).due = none) (h : b.fallen l)
    (hgo : b.nextCnt < x.goal (b.counted w l).dry ∨ ∀ k, b.fell k = false) :
    ∃ e b', timeSetCal x (s.dev.fresh0.withBk (b.counted w l).dry) =
        (report e (s.dev.fresh0.withBk ((b.counted w l).dry.stepped (x.goal (b.counted w l).dry) true))).withBk b' ∧
      (b.nextCnt < x.goal (b.counted w l).dry →
        ((b.counted w l).dry.stepped (x.goal (b.counted w l).dry) true).marked true (calOf (x.goal (b.counted w l).dry)) b') ∧
      (x.goal (b.counted w l).dry ≤ b.nextCnt → b' = (b.counted w l).dry.stepped (x.goal (b.counted w l).dry) true) := by
  rw [timeSetCal_step hx]
  refine calStep_quiet (d := s.dev.fresh0.withBk (b.counted w l).dry) fun k hk => ?_
  have hal : (s.dev.fresh0.withBk (b.counted w l).dry).bk.alarm k = _ := h k
  rw [hal]
  rcases hgo with hgo | hgo
  · by_cases hf : b.fell k = true
    · rw [if_pos hf]
      exact .inr ⟨decide_eq_true hgo, rfl⟩
    · rw [if_neg hf]
      exact .inl (hdue k hk)
  · rw [hgo k]
    exact .inl (hdue k hk)

/-- A TIME_SET at an RTC count, seen on the state after it: what it leaves in the calendar. -/
theorem rtcSet_after {s : State} {x : TimeSetDue} {w : Option TrimWin} {l : Tbl CalAlarm} (hx : x.ended = false)
    (hdue : ∀ k, k < 8 → (s.dev.bk.alarm k).due = none) (h : s.dev.bk.fallen l) :
    let b := s.dev.bk
    let goal := x.goal (b.counted w l).dry
    let t := s.after (timeSetApply x (s.dev.fresh0.withBk (b.counted w l).dry))
    (x.slew = true → t.dev.bk = (b.counted w l).dry.slewed goal) ∧
    (x.slew = false → b.nextCnt < goal →
      ∃ l', t.dev.bk = { (b.counted w l).dry.stepped goal true with alarms := l' } ∧
        ∀ k, t.dev.bk.alarm k = if k < 8 ∧ (b.alarm k).st = .armed ∧ (b.alarm k).reached (calOf goal) = true then
          { b.alarm k with due := some true }
        else if b.fell k then { b.alarm k with due := some false } else b.alarm k) ∧
    (x.slew = false → goal ≤ b.nextCnt → (∀ k, b.fell k = false) → t.dev.bk = (b.counted w l).dry.stepped goal true ∧
      ∀ k, t.dev.bk.alarm k = b.alarm k) ∧
    (x.slew = true ∨ b.nextCnt < goal ∨ (∀ k, b.fell k = false) →
      s.frameCh t x.ch { s.dev with bk := t.dev.bk, cp := t.dev.cp }) := by
  intro b goal t
  have hend : t = s.after (timeSetEnd x (timeSetCal x (s.dev.fresh0.withBk (b.counted w l).dry))) :=
    congrArg s.after (timeSetApply_eq hx)
  have hslew (hs : x.slew = true) : t.dev.bk = (b.counted w l).dry.slewed goal ∧
      s.frameCh t x.ch { s.dev with bk := t.dev.bk, cp := t.dev.cp } := by
    have ht : t = s.after (timeSetEnd x (s.dev.fresh0.withBk ((b.counted w l).dry.slewed goal))) :=
      hend.trans (congrArg (fun d => s.after (timeSetEnd x d)) (timeSetCal_slew hs))
    rw [ht]
    exact timeSetEnd_after (s.dev.bkTold_quiet _) rfl
  have hstep (hs : x.slew = false) (hgo : b.nextCnt < goal ∨ ∀ k, b.fell k = false) :
      ∃ b', t.dev.bk = b' ∧ s.frameCh t x.ch { s.dev with bk := t.dev.bk, cp := t.dev.cp } ∧
        (b.nextCnt < goal → ((b.counted w l).dry.stepped goal true).marked true (calOf goal) b') ∧
        (goal ≤ b.nextCnt → b' = (b.counted w l).dry.stepped goal true) := by
    obtain ⟨e, b', heq, hf, hb⟩ := timeSetCal_stepped (s := s) (w := w) hs hdue h hgo
    have ht : t = s.after (timeSetEnd x ((report e (s.dev.fresh0.withBk ((b.counted w l).dry.stepped goal true))).withBk b')) :=
      hend.trans (congrArg (fun d => s.after (timeSetEnd x d)) heq)
    have hdry : b'.timeSet = [] := by
      rcases Nat.lt_or_ge b.nextCnt goal with hc | hc
      · rw [(hf hc).1]
        rfl
      · rw [hb hc]
        rfl
    obtain ⟨h1, h2⟩ := timeSetEnd_after (x := x) (s.dev.bkTold_told e ((b.counted w l).dry.stepped goal true) b') hdry
    rw [← ht] at h1 h2
    exact ⟨b', h1, h2, hf, hb⟩
  refine ⟨fun hs => (hslew hs).1, fun hs hc => ?_, fun hs hc hn => ?_, fun hany => ?_⟩
  · obtain ⟨b', hbk, -, hf, -⟩ := hstep hs (.inl hc)
    rw [hbk]
    exact ⟨b'.alarms, (hf hc).1, fun k => Backup.fallen_forward hdue h rfl (hf hc) k⟩
  · obtain ⟨b', hbk, -, -, hb⟩ := hstep hs (.inr hn)
    rw [hbk, hb hc]
    refine ⟨rfl, fun k => (h k).trans ?_⟩
    rw [hn k]
    rfl
  · cases hs : x.slew with
    | true => exact (hslew hs).2
    | false =>
      rw [hs] at hany
      obtain ⟨b', -, hframe, -⟩ := hstep hs (hany.resolve_left nofun)
      exact hframe

/-- The RTC count, with no TIME_SET waiting (R489). -/
theorem rtcCount_alone {s : State} (hu : s.dev.bk.utcStep = none) (hdue : ∀ k, k < 8 → (s.dev.bk.alarm k).due = none)
    (hs : s.dev.bk.slewing = false ∨ s.dev.bk.slewLeft ≠ 0) (hdry : s.dev.bk.timeSet = []) :
    Runs .rtcCount s (fun t => t.dev.bk = s.dev.bk.counted t.dev.bk.win t.dev.bk.alarms ∧
      s.silent t { s.dev with bk := s.dev.bk.counted t.dev.bk.win t.dev.bk.alarms } ∧
      alarmsMarked false (calOf s.dev.bk.nextCnt) s.dev.bk t.dev.bk) := by
  refine Runs.module (f := rtcCount) rfl ?_
  obtain ⟨w, l, heq, hk⟩ := rtcCount_eq (d := s.dev.fresh0) hu hdue hs
  have hfold : s.dev.fresh0.bk.timeSet = [] := hdry
  have hsame : { s.dev.bk.counted w l with timeSet := [] } = s.dev.bk.counted w l := by
    unfold Backup.counted
    rw [← hdry]
  have hrun : rtcCount s.dev.fresh0 = s.dev.fresh0.withBk (s.dev.bk.counted w l) := by
    rw [heq, hfold, List.foldl_nil]
    exact congrArg s.dev.fresh0.withBk hsame
  rw [hrun]
  have hbk : (s.after (s.dev.fresh0.withBk (s.dev.bk.counted w l))).dev.bk = s.dev.bk.counted w l := by simp [Dev.withBk]
  rw [hbk]
  exact ⟨rfl, silent_backup s _, Backup.fallen_marked hdue (Backup.fallen_of hdue hk) rfl⟩

/-- The RTC count at which one TIME_SET applies (R492). -/
theorem rtcCount_set {s : State} (hu : s.dev.bk.utcStep = none) (hdue : ∀ k, k < 8 → (s.dev.bk.alarm k).due = none)
    (hs : s.dev.bk.slewing = false ∨ s.dev.bk.slewLeft ≠ 0) {x : TimeSetDue} (hset : s.dev.bk.timeSet = [x]) :
    ∃ w l, s.dev.bk.fallen l ∧
      rtcCount s.dev.fresh0 = timeSetApply x (s.dev.fresh0.withBk (s.dev.bk.counted w l).dry) := by
  obtain ⟨w, l, heq, hk⟩ := rtcCount_eq (d := s.dev.fresh0) hu hdue hs
  refine ⟨w, l, Backup.fallen_of hdue hk, ?_⟩
  rw [heq, show s.dev.fresh0.bk.timeSet = [x] from hset]
  rfl

theorem Backup.goal_eq (b : Backup) (w : Option TrimWin) (l : Tbl CalAlarm) (x : TimeSetDue) : x.goal (b.counted w l).dry =
    (placeStamp (if b.calSet then some b.nextCnt else none) x.cal).getD b.nextCnt := rfl

theorem Backup.stepped_true (b : Backup) (cnt : Nat) : b.stepped cnt true = { b with
    cnt := cnt, slewLeft := 0, slewAcc := 0, slewing := false, calSet := true, oscStopped := false } := by
  unfold Backup.stepped
  simp

/-- What a TIME_SET leaves, said from the count that is left itself. -/
theorem Backup.slewed_counted {b t : Backup} {w : Option TrimWin} {l : Tbl CalAlarm} {goal : Nat}
    (h : t = (b.counted w l).dry.slewed goal) : t = { b.counted t.win t.alarms with
      slewLeft := (goal : Int) - (b.nextCnt : Int), slewing := true, slewAcc := 0, timeSet := [] } := by
  subst h
  rfl

theorem Backup.stepped_counted {b t : Backup} {w : Option TrimWin} {l l' : Tbl CalAlarm} {goal : Nat}
    (h : t = { (b.counted w l).dry.stepped goal true with alarms := l' }) : t = { b.counted t.win t.alarms with
      cnt := goal, calSet := true, oscStopped := false, slewing := false, slewLeft := 0, slewAcc := 0, timeSet := [] } := by
  rw [Backup.stepped_true] at h
  subst h
  rfl

/-- Settles O50: the count with its TIME_SETs, the comparisons with network time, and the other events of the calendar. -/
theorem calendarEvents : Obligations.CalendarEvents := by
  intro s b only
  refine ⟨fun hu hdue hs => ?_, oscStopped_runs s, fun h1 h2 => slewDone_runs h1 h2,
    fun h => Runs.rests (f := slewDone) rfl (slewDone_runs_on h), fun ptpNs hup => ?_, fun sec since hup hdue hu => ?_,
    fun hup hu => Runs.mainStays (f := utcOffsetStep) rfl hup (utcOffsetStep_idle (.inl hu))⟩
  · intro a trim wait slew n counted
    refine ⟨fun hdry => rtcCount_alone hu hdue hs hdry, fun x hset hx => ?_⟩
    intro goal fell stepped
    obtain ⟨w, l, hl, heq⟩ := rtcCount_set hu hdue hs hset
    refine Runs.module (f := rtcCount) rfl ?_
    rw [heq]
    obtain ⟨h1, h2, h3, h4⟩ := rtcSet_after (s := s) (w := w) hx hdue hl
    refine ⟨fun hslew => ?_, fun hslew hgo => ?_, fun hslew hgo hn => ?_, h4, fun c hc hseq hst =>
      timeSetApply_slot hx hc hseq hst⟩
    · have hbk := h1 hslew
      refine ⟨Backup.slewed_counted hbk, Backup.fallen_marked hdue hl ?_⟩
      rw [hbk]
      rfl
    · obtain ⟨l', hbk, hal⟩ := h2 hslew hgo
      exact ⟨Backup.stepped_counted hbk, hal⟩
    · obtain ⟨hbk, hal⟩ := h3 hslew hgo hn
      exact ⟨Backup.stepped_counted (l' := l) hbk, hal⟩
  · intro second owed ns goal far runs
    refine ⟨fun hno => Runs.mainStays (f := calCompare ptpNs) rfl hup (calCompare_idle hno), fun hdue => ?_⟩
    have hns : s.dev.fresh0.ptpGoal ptpNs = ns := Dev.ptpGoal_eq ..
    have hrun (hr : runs) := calCompare_runs (d := s.dev.fresh0) (ptpNs := ptpNs) hup hr hdue
    rw [hns] at hrun
    refine ⟨fun hr hnear hg hw => ?_, fun hr hnear hg => ?_, fun hr hfar => ?_⟩
    · refine Runs.main (f := calCompare ptpNs) rfl hup ?_
      rw [(hrun hr).trans ((if_neg hnear).trans (if_pos ⟨hg, hw⟩))]
      exact silent_backup s (b.compared ptpNs)
    · refine Runs.main (f := calCompare ptpNs) rfl hup ?_
      rw [(hrun hr).trans ((if_neg hnear).trans (if_neg fun hh => hg.elim (· hh.1)
        (ne_true_of_eq_false hh.2)))]
      exact silent_backup s ((b.compared ptpNs).slewed goal)
    · refine Runs.main (f := calCompare ptpNs) rfl hup ?_
      rw [(hrun hr).trans (if_pos hfar)]
      exact farStep_after _ ptpNs hdue
  · refine ⟨fun hc => ?_, fun hc => ?_⟩
    · exact Runs.main (f := utcOffsetStep) rfl hup (utcOffsetStep_due hdue hu hc)
    · exact Runs.mainStays (f := utcOffsetStep) rfl hup (utcOffsetStep_idle (.inr ⟨sec, since, hu, hc⟩))

end Sys2Proof.Machine
end

section
/-!
What the twin's frames and its loss may change: the ply unit with its roles, points, strands, tasks and loops
(R519, R520, R531 to R537).
-/
namespace Sys2Proof.Machine

/-! ### What such an event may change -/

/-- From `d` to `d'` the ply unit, points, lines, strands, tasks, loops and network time have changed, beside what reports
write and what goes out. -/
def Dev.movesTwin (d d' : Dev) : Prop := d.reportsTo d' ∧ d' = { d with
  ply := d'.ply, ps := d'.ps, lines := d'.lines, strands := d'.strands, lg := d'.lg, lp := d'.lp, net := d'.net
  out := d'.out, tr := d'.tr, rcd := d'.rcd, flt := d'.flt }

theorem Dev.movesTwin_refl (d : Dev) : d.movesTwin d := ⟨Dev.reportsTo_refl d, rfl⟩

theorem Dev.movesTwin_trans {a b c : Dev} (h1 : a.movesTwin b) (h2 : b.movesTwin c) : a.movesTwin c := by
  obtain ⟨hr, he⟩ := h1
  obtain ⟨hr', he'⟩ := h2
  exact ⟨Dev.reportsTo_trans hr hr', by rw [he', he]⟩

theorem Dev.movesTwin_of_movesPly {a b : Dev} (h : a.movesPly b) : a.movesTwin b := ⟨h.1, by rw [h.2]⟩

theorem Dev.movesTwin_of_onlyPly {a b : Dev} (h : a.onlyPly b) : a.movesTwin b := ⟨h.1, by rw [h.2]⟩

theorem foldl_movesTwin {α : Type} {f : Dev → α → Dev} (h : ∀ d x, Dev.movesTwin d (f d x)) (xs : List α) (d : Dev) :
    d.movesTwin (xs.foldl f d) := by
  induction xs generalizing d with
  | nil => exact Dev.movesTwin_refl d
  | cons x xs ih => exact Dev.movesTwin_trans (h d x) (ih _)

theorem plyFrame_after {s : State} {a : Dev} (h : s.dev.fresh0.movesTwin a) : plyFrame s (s.after a) := by
  obtain ⟨hr, he⟩ := h
  have hf : s.frame (s.after a) { s.dev with
      ply := a.ply, ps := a.ps, lines := a.lines, strands := a.strands, lg := a.lg, lp := a.lp, net := a.net } :=
    State.frame_of_eq (Dev.reportsTo_congr hr rfl rfl rfl) (by rw [he]; rfl) (by rw [he]; rfl)
  unfold plyFrame
  simp only [State.after_dev]
  exact hf

/-- The same, but for lines, network time and what goes out: points, tasks and loops, and the digests that are due. -/
def Dev.movesData (d d' : Dev) : Prop := d.reportsTo d' ∧ d' = { d with
  ply := { d.ply with digestDue := d'.ply.digestDue }, ps := d'.ps, lg := d'.lg, lp := d'.lp
  tr := d'.tr, rcd := d'.rcd, flt := d'.flt }

theorem Dev.movesData_refl (d : Dev) : d.movesData d := ⟨Dev.reportsTo_refl d, rfl⟩

theorem Dev.movesData_trans {a b c : Dev} (h1 : a.movesData b) (h2 : b.movesData c) : a.movesData c := by
  obtain ⟨hr, he⟩ := h1
  obtain ⟨hr', he'⟩ := h2
  exact ⟨Dev.reportsTo_trans hr hr', by rw [he', he]⟩

theorem Dev.movesTwin_of_movesData {a b : Dev} (h : a.movesData b) : a.movesTwin b := ⟨h.1, by rw [h.2]⟩

theorem Dev.movesData_of_stores {P : Nat → Prop} {a b : Dev} (h : a.stores P b) : a.movesData b := ⟨h.2.1, by rw [h.2.2]⟩

/-- A change of points, tasks and loops that reports nothing. -/
theorem Dev.movesData_of_eq {a b : Dev} (h : b = { a with
    ply := { a.ply with digestDue := b.ply.digestDue }, ps := b.ps, lg := b.lg, lp := b.lp }) : a.movesData b :=
  ⟨Dev.reportsTo_of_eq (by rw [h]) (by rw [h]) (by rw [h]), by rw [h]⟩

theorem foldl_movesData {α : Type} {f : Dev → α → Dev} (h : ∀ d x, Dev.movesData d (f d x)) (xs : List α) (d : Dev) :
    d.movesData (xs.foldl f d) := by
  induction xs generalizing d with
  | nil => exact Dev.movesData_refl d
  | cons x xs ih => exact Dev.movesData_trans (h d x) (ih _)

/-- What it leaves of the ply unit and of the strands. -/
theorem Dev.movesData_keeps {a b : Dev} (h : a.movesData b) :
    b.ply = { a.ply with digestDue := b.ply.digestDue } ∧ b.lines = a.lines ∧ b.tb = a.tb ∧ b.net = a.net := by
  rw [h.2]
  exact ⟨rfl, rfl, rfl, rfl⟩

/-- The ply unit and points alone. -/
def Dev.movesMirror (d d' : Dev) : Prop := d.reportsTo d' ∧ d' = { d with
  ply := d'.ply, ps := d'.ps, out := d'.out, tr := d'.tr, rcd := d'.rcd, flt := d'.flt }

theorem Dev.movesMirror_trans {a b c : Dev} (h1 : a.movesMirror b) (h2 : b.movesMirror c) : a.movesMirror c := by
  obtain ⟨hr, he⟩ := h1
  obtain ⟨hr', he'⟩ := h2
  exact ⟨Dev.reportsTo_trans hr hr', by rw [he', he]⟩

theorem Dev.movesMirror_of_onlyPly {a b : Dev} (h : a.onlyPly b) : a.movesMirror b := ⟨h.1, by rw [h.2]⟩

theorem Dev.movesMirror_of_stores {P : Nat → Prop} {a b : Dev} (h : a.stores P b) : a.movesMirror b := ⟨h.2.1, by rw [h.2.2]⟩

theorem Dev.movesTwin_of_movesMirror {a b : Dev} (h : a.movesMirror b) : a.movesTwin b := ⟨h.1, by rw [h.2]⟩

theorem movesMirror_after {s : State} {a : Dev} (h : s.dev.fresh0.movesMirror a) :
    let t := s.after a
    t.dev.ply = a.ply ∧ s.frame t { s.dev with ply := t.dev.ply, ps := t.dev.ps } := by
  obtain ⟨hr, he⟩ := h
  have hf : s.frame (s.after a) { s.dev with ply := a.ply, ps := a.ps } :=
    State.frame_of_eq (Dev.reportsTo_congr hr rfl rfl rfl) (by rw [he]; rfl) (by rw [he]; rfl)
  simp only [State.after_dev]
  exact ⟨trivial, hf⟩

/-! ### Loss of the twin (R520, R523, R537) -/

/-- The points that the loss of the twin or of its link marks. -/
def Dev.twinPoints (d : Dev) : List Nat :=
  (d.ps.points.filter (fun p => p.2.mirProduced && p.2.mirrored && p.2.srcKind == 0 && !d.lostMirror p.2)).map (·.1)

theorem mirrorQuality_eq (q : BitVec 2) (det : BitVec 8) (d : Dev) :
    mirrorQuality q det d = d.twinPoints.foldl (fun d p => produceQ p q det d.cal d) d := rfl

theorem mirrorQuality_stores (q : BitVec 2) (det : BitVec 8) (d : Dev) :
    d.stores (· ∈ d.twinPoints) (mirrorQuality q det d) :=
  foldl_stores_mem _ (fun _ _ hp => Dev.stores_mono (produceQ_stores ..) fun _ hq => hq ▸ hp) d

/-- A marked point holds its value, with the quality of the loss. -/
theorem mirrorQuality_point {q : BitVec 2} {det : BitVec 8} {d : Dev} {p : Nat} (hp : p ∈ d.twinPoints)
    (hq : (d.point p).quarantined = false) (hs : (d.point p).subst = false) :
    ((mirrorQuality q det d).point p).quality = q ∧ ((mirrorQuality q det d).point p).detail = det ∧
      ((mirrorQuality q det d).point p).value = (d.point p).value := by
  rw [mirrorQuality_eq]
  exact foldl_reaches (key := id)
    (Pre := fun x => x.quarantined = false ∧ x.subst = false ∧ x.value = (d.point p).value)
    (Good := fun x => x.quality = q ∧ x.detail = det ∧ x.value = (d.point p).value) (fun _ _ => produceQ_stores ..)
    (fun _ _ => produceQ_holds) d.twinPoints d ⟨hq, hs, rfl⟩ (.inl (by simpa using hp))

/-- The ply unit when the twin is lost, and once a trailing module has come to lead (R520, R523). -/
def Ply.lost (p : Ply) (giveup : Bool) : Ply := { p with
  lostCnt := p.lostCnt + 1, giveupSeen := giveup, twinState := .lost, sweep := none, cutIn := none
  yieldAt := none, yieldAck := false, yieldTwin := false
  joinStep := if p.role = .joining then 1 else 0, stepAge := 0, stepTold := false, timed := false
  lossRun := 0, lossCyc := [] }
def Ply.leads (p : Ply) (frame : W64) : Ply :=
  { p.entered .leading frame with joinStep := 0, cutIn := none, sweep := none, firstCopy := none }

theorem enterLeading_onlyPly (cause : Nat) (d : Dev) : d.onlyPly (enterLeading cause d) :=
  Dev.onlyPly_trans (setRole_onlyPly ..) (modPly_onlyPly ..)

theorem enterLeading_ply (cause : Nat) (d : Dev) : (enterLeading cause d).ply = d.ply.leads d.tb.frame := by
  unfold enterLeading
  rw [modPly_ply, setRole_ply]
  rfl

/-- Does a module's role serve the pair. -/
def Role.serves (r : Role) : Prop := r = .leading ∨ r = .trailing ∨ r = .joining

theorem twinGone_idle {giveup : Bool} {d : Dev} (h : ¬d.ply.role.serves ∨ d.ply.twinState = .lost) : twinGone giveup d = d := by
  unfold twinGone
  refine if_pos ?_
  rcases h with h | h
  · unfold Role.serves at h
    cases hr : d.ply.role <;> simp_all
  · simp [h]

/-- The loss before the points: the ply unit alone. -/
def twinLeft (giveup : Bool) (d : Dev) : Dev :=
  let e := plyReport (if giveup then 0x0E07 else 0x0E06) true 0 (d.modPly (·.lost giveup))
  if e.ply.role = .trailing then enterLeading 5 e else e

theorem twinGone_serving {giveup : Bool} {d : Dev} (h : d.ply.role.serves) (hl : d.ply.twinState ≠ .lost) :
    twinGone giveup d = mirrorQuality 2 0x08 (twinLeft giveup d) := by
  unfold twinGone
  refine if_neg ?_
  rcases h with h | h | h <;> simp [h, hl]

theorem twinLeft_onlyPly (giveup : Bool) (d : Dev) : d.onlyPly (twinLeft giveup d) := by
  have h := Dev.onlyPly_trans (modPly_onlyPly (·.lost giveup) d)
    (plyReport_onlyPly (if giveup then 0x0E07 else 0x0E06) true 0 (d.modPly (·.lost giveup)))
  unfold twinLeft
  dsimp only
  generalize plyReport (if giveup then 0x0E07 else 0x0E06) true 0 (d.modPly (·.lost giveup)) = e at h ⊢
  split
  · exact Dev.onlyPly_trans h (enterLeading_onlyPly ..)
  · exact h

theorem twinLeft_ply (giveup : Bool) (d : Dev) : (twinLeft giveup d).ply =
    if d.ply.role = .trailing then (d.ply.lost giveup).leads d.tb.frame else d.ply.lost giveup := by
  have hp : (plyReport (if giveup then 0x0E07 else 0x0E06) true 0 (d.modPly (·.lost giveup))).ply = d.ply.lost giveup :=
    plyReport_ply ..
  have htb : (plyReport (if giveup then 0x0E07 else 0x0E06) true 0 (d.modPly (·.lost giveup))).tb = d.tb := plyReport_tb ..
  unfold twinLeft
  dsimp only
  rw [hp]
  by_cases h : d.ply.role = .trailing
  · rw [if_pos h, if_pos (show (d.ply.lost giveup).role = .trailing from h), enterLeading_ply, hp, htb]
  · rw [if_neg h, if_neg (show (d.ply.lost giveup).role ≠ .trailing from h), hp]

/-- The loss of the twin writes the ply unit and points. -/
theorem twinGone_holds {giveup : Bool} {d : Dev} (h : d.ply.role.serves) (hl : d.ply.twinState ≠ .lost) :
    d.movesMirror (twinGone giveup d) ∧ (twinGone giveup d).ply =
      if d.ply.role = .trailing then (d.ply.lost giveup).leads d.tb.frame else d.ply.lost giveup := by
  rw [twinGone_serving h hl]
  have hst := mirrorQuality_stores 2 0x08 (twinLeft giveup d)
  refine ⟨Dev.movesMirror_trans (Dev.movesMirror_of_onlyPly (twinLeft_onlyPly ..)) (Dev.movesMirror_of_stores hst), ?_⟩
  rw [← twinLeft_ply, hst.2.2]

/-! ### The records of a cutover set, and the scan that follows it (R533, R534) -/

theorem setSrec_movesData (i : Nat) (x : SRec) (d : Dev) : d.movesData (d.setSrec i x) := Dev.movesData_of_eq rfl

theorem modLoop_movesData (j : Nat) (f : Loop → Loop) (d : Dev) : d.movesData (d.modLoop j f) := Dev.movesData_of_eq rfl

theorem setTask_movesData (t : Nat) (k : Task) (d : Dev) : d.movesData (d.setTask t k) := Dev.movesData_of_eq rfl

theorem modTask_movesData (t : Nat) (f : Task → Task) (d : Dev) : d.movesData (d.modTask t f) := Dev.movesData_of_eq rfl

theorem catchApply_movesData (d : Dev) (i : CatchItem) : d.movesData (catchApply d i) := by
  unfold catchApply
  split
  · exact setSrec_movesData ..
  · exact modLoop_movesData ..
  · dsimp only
    refine iteInduction (motive := d.movesData) (fun _ => ?_) fun _ => Dev.movesData_refl d
    exact Dev.movesData_of_stores (storePoint_stores ..)

theorem digestMark_movesData (areas : List Nat) (d : Dev) : d.movesData (digestMark areas d) := Dev.movesData_of_eq rfl

theorem exchange_movesData (t : Nat) (d : Dev) : d.movesData (exchange t d) := by
  unfold exchange
  dsimp only
  refine iteInduction (motive := d.movesData) (fun _ => Dev.movesData_refl d) fun _ => ?_
  refine Dev.movesData_trans ?_ (digestMark_movesData ..)
  exact Dev.movesData_trans (setTask_movesData ..) (foldl_movesData (fun d e => foldl_movesData (fun d o =>
    iteInduction (motive := d.movesData) (fun _ => Dev.movesData_of_eq rfl) fun _ => Dev.movesData_refl d) _ _) _ _)

theorem execEntry_movesData (e : BEntry) (a : Dev × List OutVal) : a.1.movesData (execEntry e a).1 := setSrec_movesData ..

theorem execEntries_movesData (prog : List (Nat × BEntry)) (d : Dev) (xs : List OutVal) :
    d.movesData (prog.foldl (fun a e => execEntry e.2 a) (d, xs)).1 :=
  List.foldlRecOn (motive := fun a : Dev × List OutVal => d.movesData a.1) prog _ (Dev.movesData_refl d)
    fun a ha e _ => Dev.movesData_trans ha (execEntry_movesData e.2 a)

theorem scanTask_movesData (t : Nat) (d : Dev) : d.movesData (scanTask t .whole d) := by
  unfold scanTask
  dsimp only
  refine Dev.movesData_trans ?_ (modTask_movesData ..)
  refine Dev.movesData_trans ?_ (execEntries_movesData ..)
  exact Dev.movesData_trans (exchange_movesData t d) (modTask_movesData ..)

theorem scanLane_movesData (lane : Nat) (d : Dev) : d.movesData (scanLane lane [] d) := by
  unfold scanLane
  refine List.foldlRecOn (motive := fun a : Dev × Bool => d.movesData a.1) _ _ (Dev.movesData_refl d) fun a ha t _ => ?_
  refine iteInduction (motive := fun x : Dev × Bool => d.movesData x.1) (fun _ => ?_) fun _ => ?_
  · exact Dev.movesData_trans ha (Dev.movesData_trans (exchange_movesData t a.1) (modTask_movesData ..))
  · exact Dev.movesData_trans ha (scanTask_movesData t a.1)

/-- A scan that no strobe cuts and in which no word fails. -/
theorem scanAll_movesData (d : Dev) : d.movesData (scanAll [] d) := foldl_movesData (fun d lane => scanLane_movesData lane d) _ d

/-! ### The cutover (R534) -/

/-- The strands that the leader powers are switched on. -/
def linesFollow (x : BitVec 48) (d : Dev) : Dev :=
  (List.range 16).foldl (fun d k => if fld x (3 * k) 3 ≠ 0 then strandLine k 1 d else d) d

theorem linesFollow_movesLines (x : BitVec 48) (d : Dev) : d.movesLines (linesFollow x d) :=
  foldl_movesLines (fun d _ => iteInduction (motive := d.movesLines)
    (fun _ => Dev.movesLines_of_movesLine (strandLine_movesLine ..)) fun _ => Dev.movesLines_refl d) _ d

/-- A strand that the leader does not power stays as it is. -/
theorem linesFollow_line {x : BitVec 48} {k : Nat} (hk : fld x (3 * k) 3 = 0) (d : Dev) : (linesFollow x d).line k = d.line k := by
  unfold linesFollow
  refine List.foldlRecOn (motive := fun e : Dev => e.line k = d.line k) _ _ rfl fun e he j _ => ?_
  refine iteInduction (motive := fun e : Dev => e.line k = d.line k) (fun hj => ?_) fun _ => he
  exact ((strandLine_movesLine j 1 e).2.1 k (fun hkj => hj (hkj ▸ hk))).trans he

/-- The ply unit of a module that has loaded the set of frame `c` (R520 row 3, R534). -/
def Ply.joined (p : Ply) (c : W64) : Ply := { p with
  twinState := .ok, joinStep := 0, cutIn := none, cutDone := some c, firstCopy := some (c + 2) }

/-- A complete set, in the steps of its loading. -/
def cutLoaded (x : CutIn) (d : Dev) : Dev :=
  plyReport 0x0E04 false x.frame.toNat ((setRole .trailing 3 (x.items.foldl catchApply d)).modPly (·.joined x.frame))

theorem cutLoaded_holds (x : CutIn) (d : Dev) : d.movesTwin (cutLoaded x d) ∧ (cutLoaded x d).lines = d.lines ∧
    ∃ a, (cutLoaded x d).ply = (Ply.entered { d.ply with digestDue := a } .trailing d.tb.frame).joined x.frame := by
  have hcatch : d.movesData (x.items.foldl catchApply d) := foldl_movesData catchApply_movesData _ d
  unfold cutLoaded
  generalize x.items.foldl catchApply d = e at hcatch ⊢
  obtain ⟨hply, hlines, htb, -⟩ := Dev.movesData_keeps hcatch
  have hrole := setRole_onlyPly .trailing 3 e
  have hp : (setRole .trailing 3 e).ply = Ply.entered { d.ply with digestDue := e.ply.digestDue } .trailing d.tb.frame := by
    rw [setRole_ply, htb, ← hply]
  have hl : (setRole .trailing 3 e).lines = d.lines := (setRole_lines ..).1.trans hlines
  generalize setRole .trailing 3 e = f at hrole hp hl ⊢
  refine ⟨?_, ?_, e.ply.digestDue, ?_⟩
  · exact Dev.movesTwin_trans (Dev.movesTwin_of_movesData hcatch) (Dev.movesTwin_of_onlyPly
      (Dev.onlyPly_trans (Dev.onlyPly_trans hrole (modPly_onlyPly (·.joined x.frame) f)) (plyReport_onlyPly ..)))
  · rw [(plyReport_lines ..).1]
    exact hl
  · rw [plyReport_ply, modPly_ply, hp]

/-- Is a cutover set complete, in its frame (R534). -/
def Dev.cutWhole (d : Dev) (x : CutIn) : Prop :=
  x.ended = true ∧ x.bad = false ∧ d.ply.joinStep = 6 ∧ d.tb.frame = x.frame + 1

theorem cutoverLoad_idle {d : Dev} (h : d.cutDue = false) : cutoverLoad d = d := by
  unfold cutoverLoad
  cases hc : d.ply.cutIn with
  | none => rfl
  | some x => exact if_pos (by simp [h])

theorem cutoverLoad_whole {d : Dev} {x : CutIn} (hc : d.ply.cutIn = some x) (hd : d.cutDue = true) (hw : d.cutWhole x) :
    cutoverLoad d = scanAll [] (linesFollow d.ply.twinLineState (cutLoaded x d)) := by
  obtain ⟨h1, h2, h3, h4⟩ := hw
  have hfold (y : BitVec 48) (e : Dev) (he : e.ply.twinLineState = y) :
      (List.range 16).foldl (fun d k => if fld d.ply.twinLineState (3 * k) 3 ≠ 0 then strandLine k 1 d else d) e =
        linesFollow y e := by
    unfold linesFollow
    generalize List.range 16 = ks
    induction ks generalizing e with
    | nil => rfl
    | cons k ks ih =>
      rw [List.foldl_cons, List.foldl_cons, he]
      refine ih _ ?_
      split
      · rw [Dev.ply_of_movesLines (Dev.movesLines_of_movesLine (strandLine_movesLine ..))]
        exact he
      · exact he
  unfold cutoverLoad
  rw [hc]
  dsimp only
  rw [if_neg (by simp [hd]), if_pos (by simp [h1, h2, h3, h4])]
  refine congrArg (scanAll []) (hfold _ (cutLoaded x d) ?_)
  obtain ⟨-, -, a, ha⟩ := cutLoaded_holds x d
  rw [ha]
  rfl

/-- The ply unit of a module that has discarded a set (R534). -/
def Ply.discarded (p : Ply) (c : W64) : Ply := { p with
  cutIn := none, cutDone := some c, catchupTries := p.catchupTries + 1
  refuse := if (p.catchupTries + 1).toNat = 3 ∧ p.joinStep = 6 then 5 else p.refuse }

theorem plyRefuse_holds (reason : Nat) (d : Dev) : d.onlyPly (plyRefuse reason d) ∧
    (plyRefuse reason d).ply = { d.ply with refuse := BitVec.ofNat 8 reason } := by
  unfold plyRefuse
  rw [plyReport_ply]
  exact ⟨Dev.onlyPly_trans (modPly_onlyPly ..) (plyReport_onlyPly ..), rfl⟩

theorem cutoverLoad_bad {d : Dev} {x : CutIn} (hc : d.ply.cutIn = some x) (hd : d.cutDue = true) (hw : ¬d.cutWhole x) :
    d.onlyPly (cutoverLoad d) ∧ (cutoverLoad d).ply = d.ply.discarded x.frame := by
  unfold cutoverLoad
  rw [hc]
  dsimp only
  rw [if_neg (by simp [hd]), if_neg (fun h => hw (by
    unfold Dev.cutWhole
    simpa [and_assoc] using h))]
  have hm := modPly_onlyPly (fun p => { p with cutIn := none, cutDone := some x.frame, catchupTries := p.catchupTries + 1 }) d
  have hp := modPly_ply (fun p => { p with cutIn := none, cutDone := some x.frame, catchupTries := p.catchupTries + 1 }) d
  generalize d.modPly (fun p => { p with cutIn := none, cutDone := some x.frame, catchupTries := p.catchupTries + 1 }) = e
    at hm hp ⊢
  have hcond : (e.ply.catchupTries.toNat = 3 ∧ e.ply.joinStep = 6) ↔ (d.ply.catchupTries + 1).toNat = 3 ∧ d.ply.joinStep = 6 := by
    rw [hp]
  obtain ⟨hr1, hr2⟩ := plyRefuse_holds 5 e
  unfold Ply.discarded
  by_cases h : (d.ply.catchupTries + 1).toNat = 3 ∧ d.ply.joinStep = 6
  · rw [if_pos (hcond.2 h), if_pos h, hr2, hp]
    exact ⟨Dev.onlyPly_trans hm hr1, rfl⟩
  · rw [if_neg (fun hh => h (hcond.1 hh)), if_neg h, hp]
    exact ⟨hm, rfl⟩

end Sys2Proof.Machine
end

section
/-!
Joining, the cutover and the loss of the twin (R517, R523, R529, R532 to R534, R537).
-/
namespace Sys2Proof.Machine

/-! ### CATCHUP_SEND (R532, R534) -/

theorem catchupSend_idle {d : Dev} (h : d.ply.sweep = none ∨ d.ply.latch = true ∨ d.ply.role ≠ .leading) :
    catchupSend d = d := by
  unfold catchupSend
  cases hs : d.ply.sweep with
  | none => rfl
  | some w =>
    rw [hs] at h
    exact if_pos (h.resolve_left nofun)

theorem catchupSend_frozen {d : Dev} {w : Sweep} (hs : d.ply.sweep = some w) (hf : w.frozen ≠ none) : catchupSend d = d := by
  unfold catchupSend
  rw [hs]
  dsimp only
  split
  · rfl
  · cases hw : w.frozen with
    | none => exact absurd hw hf
    | some x => rfl

/-- The items of a first pass or a dirty set that the next frame takes (R533). -/
def catchFits (xs : List CatchItem) : List CatchItem := fitItems 204 4080 xs

/-- A sweep whose first pass goes on after what a frame took. -/
def Sweep.passed (w : Sweep) (due : List CatchItem) : Sweep :=
  { w.note (catchFits due) with pos := ((due.drop (catchFits due).length).head?).map CatchItem.key }

theorem catchupSend_pass {d : Dev} {w : Sweep} {n : Nat} (hs : d.ply.sweep = some w) (hl : d.ply.latch = false)
    (hr : d.ply.role = .leading) (hf : w.frozen = none) (hp : w.pos = some n) : catchupSend d =
      (if (catchFits (d.passItems n)).isEmpty then d else catchFrame (catchFits (d.passItems n)) none false d).modPly
        (fun p => { p with sweep := some (w.passed (d.passItems n)) }) := by
  unfold catchupSend
  rw [hs]
  dsimp only
  rw [if_neg (by simp [hl, hr]), hf, hp]
  rfl

theorem catchupSend_dirty {d : Dev} {w : Sweep} (hs : d.ply.sweep = some w) (hl : d.ply.latch = false)
    (hr : d.ply.role = .leading) (hf : w.frozen = none) (hp : w.pos = none) : catchupSend d =
      if (catchFits (d.dirtyItems w)).isEmpty then d else (catchFrame (catchFits (d.dirtyItems w)) none false d).modPly
        (fun p => { p with sweep := some (w.note (catchFits (d.dirtyItems w))) }) := by
  unfold catchupSend
  rw [hs]
  dsimp only
  rw [if_neg (by simp [hl, hr]), hf, hp]
  rfl

/-- A CATCHUP frame goes out while the silence latch is not set. -/
theorem catchFrame_emits {items : List CatchItem} {cut : Option W64} {last : Bool} {d : Dev} (hl : d.ply.latch = false) :
    ∃ b, catchFrame items cut last d = d.emit (.ply b) := by
  unfold catchFrame plySend
  dsimp only
  rw [if_neg (by simp [hl])]
  exact ⟨_, rfl⟩

/-- A CATCHUP frame and the new state of the sweep, seen on the state after it. -/
theorem catchSent_after {s : State} {items : List CatchItem} {cut : Option W64} {last : Bool} {f : Ply → Ply}
    (hl : s.dev.ply.latch = false) :
    let t := s.after ((catchFrame items cut last s.dev.fresh0).modPly f)
    (∃ b, t.dev.out = [.ply b]) ∧ t.dev.ply = f s.dev.ply ∧ s.frame t { s.dev with ply := f s.dev.ply } := by
  obtain ⟨b, hb⟩ := catchFrame_emits (items := items) (cut := cut) (last := last) (d := s.dev.fresh0) hl
  rw [hb]
  obtain ⟨h1, h2⟩ := onlyPly_after (s := s) (a := (s.dev.fresh0.emit (.ply b)).modPly f)
    ⟨Dev.reportsTo_of_eq rfl rfl rfl, rfl⟩ rfl
  exact ⟨⟨b, by simp [Dev.emit, Dev.modPly, Dev.fresh0]⟩, h1, h2⟩

/-! ### CATCHUP_RESTART, JOIN_STEP_TIMEOUT (R529, R534) -/

theorem catchupRestart_due {d : Dev} {w : Sweep} (hs : d.ply.sweep = some w)
    (h : d.ply.role = .leading ∧ 60000 ≤ w.age ∧ d.ply.catchupTries.toNat < 3) : catchupRestart d =
      plyReport 0x0E05 true 0 (d.modPly fun p => { p with sweep := some ⟨[], some 0, 0, none, none⟩ }) := by
  unfold catchupRestart
  rw [hs]
  exact if_pos h

theorem catchupRestart_idle {d : Dev} (h : d.ply.sweep = none ∨ d.ply.role ≠ .leading ∨ 3 ≤ d.ply.catchupTries.toNat ∨
    ∃ w, d.ply.sweep = some w ∧ w.age < 60000) : catchupRestart d = d := by
  unfold catchupRestart
  cases hs : d.ply.sweep with
  | none => rfl
  | some w =>
    refine if_neg fun ⟨h1, h2, h3⟩ => ?_
    rcases h with h | h | h | ⟨w', hw, h⟩
    · rw [hs] at h
      exact absurd h nofun
    · exact h h1
    · omega
    · rw [hs] at hw
      obtain rfl := Option.some.inj hw
      omega

theorem joinTimeout_due {d : Dev} (hr : d.ply.role = .joining) (h2 : 2 ≤ d.ply.joinStep) (h4 : d.ply.joinStep ≤ 4)
    (ha : 1000 ≤ d.ply.stepAge) (ht : d.ply.stepTold = false) :
    joinTimeout d = plyRefuse d.ply.joinStep (d.modPly fun p => { p with stepTold := true }) := by
  have hstep : stepReason d.ply.joinStep = some d.ply.joinStep := by
    have hcase : d.ply.joinStep = 2 ∨ d.ply.joinStep = 3 ∨ d.ply.joinStep = 4 := by omega
    rcases hcase with h | h | h <;> rw [h] <;> rfl
  unfold joinTimeout
  rw [hstep]
  exact if_pos ⟨hr, ha, ht⟩

theorem joinTimeout_idle {d : Dev} (h : d.ply.role ≠ .joining ∨ d.ply.joinStep < 2 ∨ 4 < d.ply.joinStep ∨
    d.ply.stepAge < 1000 ∨ d.ply.stepTold = true) : joinTimeout d = d := by
  unfold joinTimeout
  split
  · next r hr =>
    refine if_neg fun ⟨h1, h2, h3⟩ => ?_
    have hstep : 2 ≤ d.ply.joinStep ∧ d.ply.joinStep ≤ 4 := by
      unfold stepReason at hr
      split at hr
      · next h => omega
      · next h => omega
      · next h => omega
      · exact absurd hr nofun
    rcases h with h | h | h | h | h
    · exact h h1
    · omega
    · omega
    · omega
    · exact absurd (h.symm.trans h3) nofun
  · rfl

/-! ### PLY_LINK_LOST, HB_LOST, TWIN_LOST (R517, R523, R537) -/

/-- The link is told lost, before its points are marked. -/
def linkTold (d : Dev) : Dev := plyReport 0x0E08 true 0 (d.modPly fun p => { p with linkOk := false })

theorem plyLinkLost_due {d : Dev} (h1 : d.ply.linkOk = true) (h2 : d.ply.linkDue = true) :
    plyLinkLost d = mirrorQuality 1 0x07 (linkTold d) := if_pos ⟨h1, h2⟩

theorem linkTold_onlyPly (d : Dev) : d.onlyPly (linkTold d) := Dev.onlyPly_trans (modPly_onlyPly ..) (plyReport_onlyPly ..)

theorem linkTold_ply (d : Dev) : (linkTold d).ply = { d.ply with linkOk := false } := by
  unfold linkTold
  rw [plyReport_ply]
  rfl

theorem linkTold_points (d : Dev) : (linkTold d).ps = d.ps ∧ (linkTold d).twinPoints = d.twinPoints := by
  have hps : (linkTold d).ps = d.ps := by rw [(linkTold_onlyPly d).2]
  refine ⟨hps, ?_⟩
  have hlost (x : Point) : (linkTold d).lostMirror x = d.lostMirror x := by
    unfold Dev.lostMirror
    rw [linkTold_ply]
  unfold Dev.twinPoints
  rw [hps]
  simp only [hlost]

theorem Dev.mem_twinPoints {d : Dev} {k : Nat} : k ∈ d.twinPoints ↔ ∃ x, (k, x) ∈ d.ps.points ∧ x.mirProduced = true ∧
    x.mirrored = true ∧ x.srcKind = 0 ∧ d.lostMirror x = false := by
  unfold Dev.twinPoints
  simp [and_assoc]

theorem twinLost_gone {d : Dev}
    (h1 : (if d.ply.twinWarn then 2 else d.ply.lossFr.toNat) ≤ d.ply.lossRun)
    (h2 : ∀ k ∈ d.onStrands, (if d.ply.twinWarn then 1 else 2) ≤ tget 0 d.ply.lossCyc k) : twinLost d = twinGone false d :=
  if_pos ⟨h1, List.all_eq_true.2 fun k hk => decide_eq_true (h2 k hk)⟩

theorem twinLost_idle {d : Dev} (h : ¬((if d.ply.twinWarn then 2 else d.ply.lossFr.toNat) ≤ d.ply.lossRun ∧
    (∀ k ∈ d.onStrands, (if d.ply.twinWarn then 1 else 2) ≤ tget 0 d.ply.lossCyc k) ∧ d.ply.role.serves ∧
      d.ply.twinState ≠ .lost)) : twinLost d = d := by
  unfold twinLost
  refine iteInduction (motive := (· = d)) (fun hc => ?_) fun _ => rfl
  refine twinGone_idle ?_
  by_cases hs : d.ply.role.serves
  · refine .inr (not_not.1 fun hl => h ⟨hc.1, fun k hk => ?_, hs, hl⟩)
    exact of_decide_eq_true (List.all_eq_true.1 hc.2 k hk)
  · exact .inl hs

/-! ### The obligation -/

/-- CATCHUP_SEND in the words of the obligation. -/
theorem catchupSend_runs {s : State} (hs : s.up) {w : Sweep} (hw : s.dev.ply.sweep = some w) (hl : s.dev.ply.latch = false)
    (hr : s.dev.ply.role = .leading) (hf : w.frozen = none) :
    (∀ n, w.pos = some n →
      (catchFits (s.dev.passItems n) ≠ [] → Runs .catchupSend s (fun t => (∃ b, t.dev.out = [.ply b]) ∧
        t.dev.ply = { s.dev.ply with sweep := some (w.passed (s.dev.passItems n)) } ∧
        s.frame t { s.dev with ply := { s.dev.ply with sweep := some (w.passed (s.dev.passItems n)) } })) ∧
      (s.dev.passItems n = [] → Runs .catchupSend s (fun t =>
        s.silent t { s.dev with ply := { s.dev.ply with sweep := some { w with pos := none } } }))) ∧
    (w.pos = none →
      (catchFits (s.dev.dirtyItems w) ≠ [] → Runs .catchupSend s (fun t => (∃ b, t.dev.out = [.ply b]) ∧
        t.dev.ply = { s.dev.ply with sweep := some (w.note (catchFits (s.dev.dirtyItems w))) } ∧
        s.frame t { s.dev with ply := { s.dev.ply with sweep := some (w.note (catchFits (s.dev.dirtyItems w))) } })) ∧
      (catchFits (s.dev.dirtyItems w) = [] → Runs .catchupSend s (fun t => s.silent t s.dev))) := by
  refine ⟨fun n hp => ?_, fun hp => ?_⟩
  · have he := catchupSend_pass (d := s.dev.fresh0) hw hl hr hf hp
    have hdue : s.dev.fresh0.passItems n = s.dev.passItems n := rfl
    rw [hdue] at he
    refine ⟨fun hne => Runs.mainChecked (f := catchupSend) rfl rfl hs ?_, fun hnil =>
      Runs.mainChecked (f := catchupSend) rfl rfl hs ?_⟩
    · rw [he, if_neg (by simpa using hne)]
      exact catchSent_after hl
    · rw [he, hnil]
      exact (silent_ply s { s.dev.ply with sweep := some { w with pos := none } }).2
  · have he := catchupSend_dirty (d := s.dev.fresh0) hw hl hr hf hp
    have hdue : s.dev.fresh0.dirtyItems w = s.dev.dirtyItems w := rfl
    rw [hdue] at he
    refine ⟨fun hne => Runs.mainChecked (f := catchupSend) rfl rfl hs ?_, fun hnil => Runs.stays (f := catchupSend) rfl rfl hs ?_⟩
    · rw [he, if_neg (by simpa using hne)]
      exact catchSent_after hl
    · rw [he, if_pos (by simpa using hnil)]

/-- CUTOVER_LOAD of a complete set in the words of the obligation. -/
theorem cutoverLoad_runs {s : State} (hs : s.up) {c : CutIn} (hc : s.dev.ply.cutIn = some c) (hd : s.dev.cutDue = true)
    (hw : s.dev.cutWhole c) : Runs .cutoverLoad s (fun t => plyFrame s t ∧
      t.dev.ply.role = .trailing ∧ t.dev.ply.twinState = .ok ∧ t.dev.ply.joinStep = 0 ∧ t.dev.ply.cutIn = none ∧
      t.dev.ply.cutDone = some c.frame ∧
      t.dev.ply.firstCopy = some (c.frame + 2) ∧ t.dev.ply.roleCnt = s.dev.ply.roleCnt + 1 ∧
      t.dev.ply.roleFrame = s.dev.tb.frame ∧
      ∀ k, k < 16 → fld s.dev.ply.twinLineState (3 * k) 3 = (0 : BitVec 3) → t.dev.line k = s.dev.line k) := by
  refine Runs.mainChecked (f := cutoverLoad) rfl rfl hs ?_
  rw [cutoverLoad_whole (d := s.dev.fresh0) hc hd hw]
  obtain ⟨h1, hlines, a, hply⟩ := cutLoaded_holds c s.dev.fresh0
  generalize cutLoaded c s.dev.fresh0 = e at h1 hlines hply ⊢
  have h2 := linesFollow_movesLines s.dev.fresh0.ply.twinLineState e
  have hply2 : (linesFollow s.dev.fresh0.ply.twinLineState e).ply = _ := (Dev.ply_of_movesLines h2).trans hply
  have hline (k : Nat) (hk : fld s.dev.ply.twinLineState (3 * k) 3 = (0 : BitVec 3)) :
      (linesFollow s.dev.fresh0.ply.twinLineState e).line k = s.dev.line k :=
    (linesFollow_line hk e).trans (congrArg (fun x => tget Line.reset x k) hlines)
  generalize linesFollow s.dev.fresh0.ply.twinLineState e = f at h2 hply2 hline ⊢
  have h3 := scanAll_movesData f
  obtain ⟨hply3, hlines3, -, -⟩ := Dev.movesData_keeps h3
  generalize scanAll [] f = g at h3 hply3 hlines3 ⊢
  have hall : s.dev.fresh0.movesTwin g := Dev.movesTwin_trans h1 (Dev.movesTwin_trans
    (Dev.movesTwin_of_movesPly (Dev.movesPly_of_movesLines h2)) (Dev.movesTwin_of_movesData h3))
  refine ⟨plyFrame_after hall, ?_⟩
  have ht : (s.after g).dev.ply = g.ply := by simp
  rw [ht, hply3, hply2]
  refine ⟨rfl, rfl, rfl, rfl, rfl, rfl, rfl, rfl, fun k _ hk => ?_⟩
  have hg : (s.after g).dev.line k = g.line k := by simp
  rw [hg]
  exact (congrArg (fun x => tget Line.reset x k) hlines3).trans (hline k hk)

/-- PLY_LINK_LOST in the words of the obligation (R517, R537). -/
theorem plyLinkLost_runs {s : State} (hs : s.up) (h1 : s.dev.ply.linkOk = true) (h2 : s.dev.ply.linkDue = true) :
    Runs .plyLinkLost s (fun t =>
      t.dev.ply = { s.dev.ply with linkOk := false } ∧ s.frame t { s.dev with ply := t.dev.ply, ps := t.dev.ps } ∧
        ∀ k x, (k, x) ∈ s.dev.ps.points → x = s.dev.point k → x.mirProduced = true → x.mirrored = true → x.srcKind = 0 →
          x.subst = false → x.quarantined = false →
          (s.dev.lostMirror x = false →
            (t.dev.point k).quality = 1 ∧ (t.dev.point k).detail = 0x07 ∧ (t.dev.point k).value = x.value) ∧
          ((∀ y, (k, y) ∈ s.dev.ps.points → s.dev.lostMirror y = true) → t.dev.point k = x)) := by
  refine Runs.mainChecked (f := plyLinkLost) rfl rfl hs ?_
  rw [plyLinkLost_due (d := s.dev.fresh0) h1 h2]
  have ho := linkTold_onlyPly s.dev.fresh0
  have hply := linkTold_ply s.dev.fresh0
  obtain ⟨hps, hpts⟩ := linkTold_points s.dev.fresh0
  generalize linkTold s.dev.fresh0 = e at ho hply hps hpts ⊢
  have hst := mirrorQuality_stores 1 0x07 e
  have hpoint (k : Nat) : e.point k = s.dev.point k := congrArg (fun x : PointStore => tget Point.reset x.points k) hps
  have hply' : (mirrorQuality 1 0x07 e).ply = e.ply := by rw [hst.2.2]
  obtain ⟨h3, h4⟩ := movesMirror_after (Dev.movesMirror_trans (Dev.movesMirror_of_onlyPly ho) (Dev.movesMirror_of_stores hst))
  refine ⟨h3.trans (hply'.trans hply), h4, fun k x hmem hx hp hm hk hsub hqu => ?_⟩
  have ht : (s.after (mirrorQuality 1 0x07 e)).dev.point k = (mirrorQuality 1 0x07 e).point k := by simp
  rw [ht]
  refine ⟨fun hlost => ?_, fun hall => ?_⟩
  · have hin : k ∈ e.twinPoints := by
      rw [hpts]
      exact Dev.mem_twinPoints.2 ⟨x, hmem, hp, hm, hk, hlost⟩
    have hres := mirrorQuality_point (q := 1) (det := 0x07) hin (by rw [hpoint, ← hx]; exact hqu) (by rw [hpoint, ← hx]; exact hsub)
    rw [hpoint, ← hx] at hres
    exact hres
  · refine (hst.1 k fun hin => ?_).trans ((hpoint k).trans hx.symm)
    rw [hpts] at hin
    obtain ⟨y, hy, -, -, -, hlost⟩ := Dev.mem_twinPoints.1 hin
    exact absurd ((hall y hy).symm.trans hlost) nofun

/-- TWIN_LOST in the words of the obligation (R520, R523). -/
theorem twinLost_runs {s : State} (hs : s.up)
    (h1 : (if s.dev.ply.twinWarn then 2 else s.dev.ply.lossFr.toNat) ≤ s.dev.ply.lossRun)
    (h2 : ∀ k ∈ s.dev.onStrands, (if s.dev.ply.twinWarn then 1 else 2) ≤ tget 0 s.dev.ply.lossCyc k)
    (h3 : s.dev.ply.role.serves) (h4 : s.dev.ply.twinState ≠ .lost) : Runs .twinLost s (fun t =>
      t.dev.ply.twinState = .lost ∧ t.dev.ply.lostCnt = s.dev.ply.lostCnt + 1 ∧ t.dev.ply.giveupSeen = false ∧
        t.dev.ply.sweep = none ∧ t.dev.ply.cutIn = none ∧ t.dev.ply.yieldAt = none ∧
        t.dev.ply.role = (if s.dev.ply.role = .trailing then .leading else s.dev.ply.role) ∧
        (s.dev.ply.role = .trailing →
          t.dev.ply.roleFrame = s.dev.tb.frame ∧ t.dev.ply.roleCnt = s.dev.ply.roleCnt + 1) ∧
        s.frame t { s.dev with ply := t.dev.ply, ps := t.dev.ps }) := by
  refine Runs.mainChecked (f := twinLost) rfl rfl hs ?_
  rw [twinLost_gone (d := s.dev.fresh0) h1 h2]
  obtain ⟨hm, hply⟩ := twinGone_holds (giveup := false) (d := s.dev.fresh0) h3 h4
  obtain ⟨h5, h6⟩ := movesMirror_after hm
  have ht := h5.trans hply
  generalize s.after (twinGone false s.dev.fresh0) = t at ht h6 ⊢
  by_cases hr : s.dev.ply.role = .trailing
  · have ht' : t.dev.ply = (s.dev.ply.lost false).leads s.dev.tb.frame := ht.trans (if_pos hr)
    rw [if_pos hr]
    refine ⟨?_, ?_, ?_, ?_, ?_, ?_, ?_, fun _ => ⟨?_, ?_⟩, h6⟩ <;> rw [ht'] <;> rfl
  · have ht' : t.dev.ply = s.dev.ply.lost false := ht.trans (if_neg hr)
    rw [if_neg hr]
    refine ⟨?_, ?_, ?_, ?_, ?_, ?_, ?_, fun h => absurd h hr, h6⟩ <;> rw [ht'] <;> rfl

/-- Settles O58: each event writes the ply unit; a cutover also loads records, a loss also marks points. -/
theorem joinAndLoss : Obligations.JoinAndLoss := by
  intro s hs p still only sent fits
  refine ⟨fun h => Runs.stays (f := catchupSend) rfl rfl hs (catchupSend_idle h), fun w hw hl hr => ⟨fun hf => ?_, ?_, ?_⟩,
    fun h => Runs.stays (f := cutoverLoad) rfl rfl hs (cutoverLoad_idle h), fun c hc hd => ⟨?_, fun hw => ?_⟩,
    fun w hw hr ha ht => ?_, fun h => Runs.stays (f := catchupRestart) rfl rfl hs (catchupRestart_idle h),
    fun hr h2 h4 ha ht => ?_, fun h => Runs.stays (f := joinTimeout) rfl rfl hs (joinTimeout_idle h),
    plyLinkLost_runs hs, fun h => ?_, fun h1 h2 => ?_, fun h => ?_, ?_, ?_⟩
  · exact Runs.stays (f := catchupSend) rfl rfl hs (catchupSend_frozen hw hf)
  · exact fun n hf hp => (catchupSend_runs hs hw hl hr hf).1 n hp
  · exact fun hf hp => (catchupSend_runs hs hw hl hr hf).2 hp
  · exact cutoverLoad_runs hs hc hd
  · obtain ⟨h1, h2⟩ := cutoverLoad_bad (d := s.dev.fresh0) hc hd hw
    exact Runs.onlyPly (f := cutoverLoad) rfl rfl hs h1 h2
  · have he := catchupRestart_due (d := s.dev.fresh0) hw ⟨hr, ha, ht⟩
    refine Runs.onlyPly (f := catchupRestart) rfl rfl hs ?_ ?_ <;> rw [he]
    · exact Dev.onlyPly_trans (modPly_onlyPly ..) (plyReport_onlyPly ..)
    · rw [plyReport_ply]
      rfl
  · have he := joinTimeout_due (d := s.dev.fresh0) hr h2 h4 ha ht
    obtain ⟨h5, h6⟩ := plyRefuse_holds s.dev.fresh0.ply.joinStep (s.dev.fresh0.modPly fun p => { p with stepTold := true })
    refine Runs.onlyPly (f := joinTimeout) rfl rfl hs ?_ ?_ <;> rw [he]
    · exact Dev.onlyPly_trans (modPly_onlyPly ..) h5
    · rw [h6]
      rfl
  · refine Runs.stays (f := plyLinkLost) rfl rfl hs (if_neg fun ⟨h1, h2⟩ => ?_)
    rcases h with h | h
    · exact absurd (h.symm.trans h1) nofun
    · exact absurd (h.symm.trans h2) nofun
  · have he : hbLost s.dev.fresh0 = plyReport 0x0E0A true 0 (s.dev.fresh0.modPly fun p => { p with hbOk := false }) :=
      if_pos ⟨h1, h2⟩
    refine Runs.onlyPly (f := hbLost) rfl rfl hs ?_ ?_ <;> rw [he]
    · exact Dev.onlyPly_trans (modPly_onlyPly ..) (plyReport_onlyPly ..)
    · rw [plyReport_ply]
      rfl
  · refine Runs.stays (f := hbLost) rfl rfl hs (if_neg fun ⟨h1, h2⟩ => ?_)
    rcases h with h | h
    · exact absurd (h.symm.trans h1) nofun
    · exact h h2
  · refine Runs.mainChecked (f := plyHbChange) rfl rfl hs ?_
    exact (silent_ply s { s.dev.ply with hbIn := !s.dev.ply.hbIn, hbNow := true }).2
  · intro frames cycles gone
    exact ⟨fun ⟨h1, h2, h3, h4⟩ => twinLost_runs hs h1 h2 h3 h4, fun h =>
      Runs.stays (f := twinLost) rfl rfl hs (twinLost_idle h)⟩

end Sys2Proof.Machine
end

section
/-!
The receipt of ply frames: what every accepted frame leaves, whatever its kind does (R203, R514, R517, R523, R535).
-/
namespace Sys2Proof.Machine

/-! ### What the kinds of frames leave -/

/-- What an accepted frame tells of the twin and of gaps. -/
def Ply.heard (p : Ply) := (p.rxSeq, p.linkAge, p.linkOk, p.twinSerial, p.twinRole, p.gapCnt, p.gapSeen, p.health.gaps)

/-- What the last STATUS said. -/
def Ply.said (p : Ply) := (p.twinFw, p.twinDigest, p.twinLineState, p.statusPrev, p.frameEq)

/-- A cutover set that is kept is bad. -/
def Ply.cutBad (p : Ply) : Prop := ∀ c, p.cutIn = some c → c.bad = true

/-- From `d` to `d'` a frame has acted: what it told stays, and, after a gap, a cutover set is bad. -/
def Dev.heeds (gap : Bool) (d d' : Dev) : Prop :=
  d.movesTwin d' ∧ d'.ply.heard = d.ply.heard ∧ (gap = true → d.ply.cutBad → d'.ply.cutBad)

theorem Dev.heeds_refl (gap : Bool) (d : Dev) : d.heeds gap d := ⟨Dev.movesTwin_refl d, rfl, fun _ h => h⟩

theorem Dev.heeds_trans {gap : Bool} {a b c : Dev} (h1 : a.heeds gap b) (h2 : b.heeds gap c) : a.heeds gap c := by
  obtain ⟨m1, e1, c1⟩ := h1
  obtain ⟨m2, e2, c2⟩ := h2
  exact ⟨Dev.movesTwin_trans m1 m2, e2.trans e1, fun hg h => c2 hg (c1 hg h)⟩

theorem foldl_heeds {α : Type} {gap : Bool} {f : Dev → α → Dev} (h : ∀ d x, Dev.heeds gap d (f d x)) (xs : List α) (d : Dev) :
    d.heeds gap (xs.foldl f d) := by
  induction xs generalizing d with
  | nil => exact Dev.heeds_refl gap d
  | cons x xs ih => exact Dev.heeds_trans (h d x) (ih _)

/-- A change of the role: what the last STATUS said stays too, and a cutover set stays or goes. -/
def Dev.turns (d d' : Dev) : Prop :=
  d.movesTwin d' ∧ d'.ply.heard = d.ply.heard ∧ d'.ply.said = d.ply.said ∧
    (d'.ply.cutIn = d.ply.cutIn ∨ d'.ply.cutIn = none)

theorem Dev.turns_refl (d : Dev) : d.turns d := ⟨Dev.movesTwin_refl d, rfl, rfl, .inl rfl⟩

theorem Dev.turns_trans {a b c : Dev} (h1 : a.turns b) (h2 : b.turns c) : a.turns c := by
  obtain ⟨m1, e1, s1, c1⟩ := h1
  obtain ⟨m2, e2, s2, c2⟩ := h2
  refine ⟨Dev.movesTwin_trans m1 m2, e2.trans e1, s2.trans s1, ?_⟩
  rcases c2 with h | h
  · rw [h]
    exact c1
  · exact .inr h

theorem Dev.heeds_of_turns {gap : Bool} {a b : Dev} (h : a.turns b) : a.heeds gap b := by
  obtain ⟨m, e, -, c⟩ := h
  refine ⟨m, e, fun _ hc x hx => ?_⟩
  rcases c with h | h
  · exact hc x (h ▸ hx)
  · exact absurd (h.symm.trans hx) nofun

theorem Dev.turns_of_movesData {a b : Dev} (h : a.movesData b) : a.turns b := by
  have hp := (Dev.movesData_keeps h).1
  refine ⟨Dev.movesTwin_of_movesData h, ?_, ?_, .inl ?_⟩ <;> rw [hp] <;> rfl

theorem Dev.turns_of_ply {a b : Dev} (h : a.movesTwin b) (hp : b.ply = a.ply) : a.turns b := by
  refine ⟨h, ?_, ?_, .inl ?_⟩ <;> rw [hp]

theorem modPly_turns {f : Ply → Ply} {d : Dev} (h1 : (f d.ply).heard = d.ply.heard) (h2 : (f d.ply).said = d.ply.said)
    (h3 : (f d.ply).cutIn = d.ply.cutIn ∨ (f d.ply).cutIn = none) : d.turns (d.modPly f) :=
  ⟨Dev.movesTwin_of_onlyPly (modPly_onlyPly f d), h1, h2, h3⟩

theorem plyReport_turns (code : Nat) (b : Bool) (data : Nat) (d : Dev) : d.turns (plyReport code b data d) :=
  Dev.turns_of_ply (Dev.movesTwin_of_onlyPly (plyReport_onlyPly ..)) (plyReport_ply ..)

theorem plyNotice_turns (code arg : Nat) (d : Dev) : d.turns (plyNotice code arg d) :=
  Dev.turns_of_ply (Dev.movesTwin_of_onlyPly (plyNotice_onlyPly ..)) (plyNotice_ply ..)

theorem setRole_turns (r : Role) (cause : Nat) (d : Dev) : d.turns (setRole r cause d) := by
  rw [setRole_eq]
  exact Dev.turns_trans (modPly_turns rfl rfl (.inl rfl)) (plyReport_turns ..)

theorem Ply.lost_heard (p : Ply) (giveup : Bool) (frame : W64) :
    (p.lost giveup).heard = p.heard ∧ ((p.lost giveup).leads frame).heard = p.heard ∧
      (p.lost giveup).said = p.said ∧ ((p.lost giveup).leads frame).said = p.said := ⟨rfl, rfl, rfl, rfl⟩

theorem twinGone_turns (giveup : Bool) (d : Dev) : d.turns (twinGone giveup d) := by
  by_cases h : ¬d.ply.role.serves ∨ d.ply.twinState = .lost
  · rw [twinGone_idle h]
    exact Dev.turns_refl d
  · obtain ⟨h1, h2⟩ := not_or.1 h
    obtain ⟨hm, hp⟩ := twinGone_holds (giveup := giveup) (not_not.1 h1) h2
    obtain ⟨l1, l2, l3, l4⟩ := Ply.lost_heard d.ply giveup d.tb.frame
    refine ⟨Dev.movesTwin_of_movesMirror hm, ?_, ?_, .inr ?_⟩ <;> rw [hp] <;> split
    · exact l2
    · exact l1
    · exact l4
    · exact l3
    · rfl
    · rfl

/-! ### An accepted frame (R514, R517, R523, R535) -/

/-- The ply unit when a gap shows (R514). -/
def Ply.gapped (p : Ply) (tb : W64 × Nat) : Ply := { p with
  gapCnt := p.gapCnt + 1, resweep := true, gapSeen := some tb
  cutIn := p.cutIn.map (fun c => { c with bad := true })
  health := { p.health with gaps := satAdd p.health.gaps 1 } }

/-- The steps of an accepted frame: its header noted, a gap shown, the link back, points to be mirrored again, the silence
latch of the twin. -/
def gapTold (gap : Bool) (d : Dev) : Dev :=
  if gap then plyReport 0x0E0C true 0 (d.modPly (·.gapped (d.tb.frame, d.tb.sample))) else d
def linkRegained (d : Dev) : Dev :=
  if d.ply.linkOk then d else plyReport 0x0E09 false 0 (d.modPly fun p => { p with linkOk := true })

theorem plyHeard_eq (h : BitVec 256) (d : Dev) : plyHeard h d =
    (fun e : Dev => if bit h 40 then twinGone true e else e)
      ((fun e : Dev => if bit h 43 then mirrorAll e else e)
        (linkRegained (gapTold (d.ply.gapAt h) (d.modPly (plyNoted h))))) := rfl

theorem mirrorAll_movesData (d : Dev) : d.movesData (mirrorAll d) :=
  foldl_movesData (fun _ _ => Dev.movesData_of_eq rfl) _ d

theorem linkRegained_holds (d : Dev) : d.onlyPly (linkRegained d) ∧ (linkRegained d).ply = { d.ply with linkOk := true } := by
  unfold linkRegained
  split
  · next h =>
    refine ⟨Dev.onlyPly_refl d, ?_⟩
    conv_lhs => rw [show d.ply = { d.ply with linkOk := d.ply.linkOk } from rfl, h]
  · rw [plyReport_ply]
    exact ⟨Dev.onlyPly_trans (modPly_onlyPly ..) (plyReport_onlyPly ..), rfl⟩

theorem gapTold_holds (gap : Bool) (d : Dev) : d.onlyPly (gapTold gap d) ∧
    (gapTold gap d).ply = if gap then d.ply.gapped (d.tb.frame, d.tb.sample) else d.ply := by
  unfold gapTold
  cases gap with
  | true =>
    rw [if_pos rfl, if_pos rfl, plyReport_ply]
    exact ⟨Dev.onlyPly_trans (modPly_onlyPly ..) (plyReport_onlyPly ..), rfl⟩
  | false => exact ⟨Dev.onlyPly_refl d, rfl⟩

/-- What an accepted frame tells. -/
theorem plyHeard_holds (h : BitVec 256) (d : Dev) : d.movesTwin (plyHeard h d) ∧
    (plyHeard h d).ply.heard = Ply.heard { if d.ply.gapAt h then (plyNoted h d.ply).gapped (d.tb.frame, d.tb.sample)
      else plyNoted h d.ply with linkOk := true } ∧
    (d.ply.gapAt h = true → (plyHeard h d).ply.cutBad) := by
  rw [plyHeard_eq]
  obtain ⟨h1, hp1⟩ := gapTold_holds (d.ply.gapAt h) (d.modPly (plyNoted h))
  obtain ⟨h2, hp2⟩ := linkRegained_holds (gapTold (d.ply.gapAt h) (d.modPly (plyNoted h)))
  rw [hp1] at hp2
  have h12 := Dev.onlyPly_trans (Dev.onlyPly_trans (modPly_onlyPly (plyNoted h) d) h1) h2
  generalize linkRegained (gapTold (d.ply.gapAt h) (d.modPly (plyNoted h))) = e at hp2 h12 ⊢
  have hrest : e.turns ((fun e : Dev => if bit h 40 then twinGone true e else e)
      ((fun e : Dev => if bit h 43 then mirrorAll e else e) e)) := by
    dsimp only
    refine Dev.turns_trans (b := if bit h 43 then mirrorAll e else e) ?_ ?_
    · split
      · exact Dev.turns_of_movesData (mirrorAll_movesData e)
      · exact Dev.turns_refl e
    · generalize (if bit h 43 then mirrorAll e else e) = f
      split
      · exact twinGone_turns true f
      · exact Dev.turns_refl f
  generalize (fun e : Dev => if bit h 40 then twinGone true e else e)
    ((fun e : Dev => if bit h 43 then mirrorAll e else e) e) = f at hrest ⊢
  obtain ⟨h3, h4, h5⟩ := Dev.heeds_of_turns (gap := true) hrest
  refine ⟨Dev.movesTwin_trans (Dev.movesTwin_of_onlyPly h12) h3, h4.trans (congrArg Ply.heard hp2), fun hg => h5 rfl ?_⟩
  rw [hp2, hg]
  intro c hc
  have hc' : (d.ply.cutIn.map fun c => { c with bad := true }) = some c := hc
  obtain ⟨x, -, rfl⟩ := Option.map_eq_some_iff.1 hc'
  rfl

/-- A calm frame writes what its header says alone. -/
theorem plyHeard_calm {h : BitVec 256} {d : Dev} (hc : plyCalm h d.ply) :
    d.ply.gapAt h = false ∧ plyHeard h d = d.withPly (plyNoted h d.ply) := by
  obtain ⟨h1, h2, h3, h4⟩ := hc
  have hg : d.ply.gapAt h = false := by
    unfold Ply.gapAt
    rcases h1 with h | ⟨q, h, hq⟩
    · rw [h]
    · rw [h]
      simp [hq]
  refine ⟨hg, ?_⟩
  have hl : (d.modPly (plyNoted h)).ply.linkOk = true := h2
  have hgap : gapTold false (d.modPly (plyNoted h)) = d.modPly (plyNoted h) := rfl
  have hlink : linkRegained (d.modPly (plyNoted h)) = d.modPly (plyNoted h) := if_pos hl
  rw [plyHeard_eq, hg, h3, h4, hgap, hlink]
  rfl

/-! ### The checks of R514 -/

theorem plyHead_takes (x : Port) (bytes : List Byte) : x.takes 2 (plyHead bytes) = true := by
  unfold Port.takes plyHead
  simp

theorem plyReceive_fits {kind : Nat} {bytes : List Byte} {act : Bool → BitVec 256 → List Byte → Dev → Dev} {d : Dev}
    (h : (d.port 2).rxOk (plyHead bytes) = true) : plyReceive kind bytes act d = plyTaken kind bytes act d :=
  rxArrive_taken _ h (plyHead_takes ..)

theorem plyTaken_bad {kind : Nat} {bytes : List Byte} {act : Bool → BitVec 256 → List Byte → Dev → Dev} {d : Dev}
    (h : plyParse bytes = none) : plyTaken kind bytes act d = plyBad d := by
  unfold plyTaken
  rw [h]

theorem plyTaken_other {kind : Nat} {bytes : List Byte} {act : Bool → BitVec 256 → List Byte → Dev → Dev} {d : Dev}
    {h : BitVec 256} {pl : List Byte} (hp : plyParse bytes = some (h, pl)) (hk : (fld h 16 8).toNat ≠ kind) :
    plyTaken kind bytes act d = d := by
  unfold plyTaken
  rw [hp]
  exact if_pos hk

theorem plyTaken_foreign {kind : Nat} {bytes : List Byte} {act : Bool → BitVec 256 → List Byte → Dev → Dev} {d : Dev}
    {h : BitVec 256} {pl : List Byte} (hp : plyParse bytes = some (h, pl)) (hk : (fld h 16 8).toNat = kind)
    (hc : fld h 8 8 ≠ 1 ∨ (fld h 128 32 ≠ d.ply.pairId ∧ ¬(kind = 1 ∧ d.ply.role = .solo))) :
    plyTaken kind bytes act d = plyBad d := by
  unfold plyTaken
  rw [hp]
  exact (if_neg (by simpa using hk)).trans (if_pos hc)

theorem plyTaken_accepted {kind : Nat} {bytes : List Byte} {act : Bool → BitVec 256 → List Byte → Dev → Dev} {s : State}
    {h : BitVec 256} {pl : List Byte} (ha : plyAccepted kind bytes s h pl) :
    plyTaken kind bytes act s.dev.fresh0 = act (s.dev.ply.gapAt h) h pl (plyHeard h s.dev.fresh0) := by
  obtain ⟨hp, hk, hv, hpair⟩ := ha
  unfold plyTaken
  rw [hp]
  refine (if_neg (by simpa using hk)).trans (if_neg ?_)
  rintro (h | ⟨h1, h2⟩)
  · exact h hv
  · exact hpair.elim h1 h2

/-- What every kind of frame keeps to: the five answers of its receipt. -/
theorem plyReceive_runs {i : Instr} {kind : Nat} {bytes : List Byte} {act : Bool → BitVec 256 → List Byte → Dev → Dev}
    {s : State} (hx : exec i s = mainStep (plyReceive kind bytes act) s) (hs : s.up)
    (hact : ∀ gap h pl d, Dev.heeds gap d (act gap h pl d)) :
    let p := s.dev.ply
    let fits := (s.dev.port 2).rxOk (plyHead bytes)
    (fits = false → Runs i s (fun t => s.silent t { s.dev with ports := t.dev.ports } ∧
      (∀ q, q ≠ 2 → t.dev.port q = s.dev.port q) ∧
      t.dev.port 2 = { s.dev.port 2 with rxDropCnt := satAdd (s.dev.port 2).rxDropCnt 1 })) ∧
    (fits = true → plyParse bytes = none → Runs i s (fun t =>
      s.silent t { s.dev with ply := { p with badCnt := p.badCnt + 1 } })) ∧
    (∀ h pl, fits = true → plyParse bytes = some (h, pl) → (fld h 16 8).toNat ≠ kind → Runs i s (fun t =>
      s.silent t s.dev)) ∧
    (∀ h pl, fits = true → plyParse bytes = some (h, pl) → (fld h 16 8).toNat = kind →
      (fld h 8 8 ≠ 1 ∨ (fld h 128 32 ≠ p.pairId ∧ ¬(kind = 1 ∧ p.role = .solo))) →
      Runs i s (fun t => s.silent t { s.dev with ply := { p with badCnt := p.badCnt + 1 } })) ∧
    (∀ h pl, fits = true → plyAccepted kind bytes s h pl → Runs i s (fun t => plyFrame s t ∧
      t.dev.ply.rxSeq = some (fld h 160 32) ∧ t.dev.ply.linkAge = some 0 ∧ t.dev.ply.linkOk = true ∧
      t.dev.ply.twinSerial = fld h 64 64 ∧ t.dev.ply.twinRole = fld h 24 3 ∧
      ((∃ q, p.rxSeq = some q ∧ fld h 160 32 ≠ q + 1) → t.dev.ply.gapCnt = p.gapCnt + 1 ∧
        t.dev.ply.gapSeen = some (s.dev.tb.frame, s.dev.tb.sample) ∧
        t.dev.ply.health.gaps = satAdd p.health.gaps 1 ∧ ∀ c, t.dev.ply.cutIn = some c → c.bad = true) ∧
      (plyCalm h p → t.dev.ply.gapCnt = p.gapCnt))) := by
  intro p fits
  have hbad : s.silent (s.after (plyBad s.dev.fresh0)) { s.dev with ply := { p with badCnt := p.badCnt + 1 } } :=
    (silent_ply s { p with badCnt := p.badCnt + 1 }).2
  refine ⟨fun hf => ?_, fun hf hp => ?_, fun h pl hf hp hk => ?_, fun h pl hf hp hk hc => ?_, fun h pl hf ha => ?_⟩
  · refine Runs.main hx hs ?_
    have he : plyReceive kind bytes act s.dev.fresh0 = rxDropped 2 s.dev.fresh0 :=
      rxArrive_dropped _ (by rw [show (s.dev.fresh0.port 2).rxOk (plyHead bytes) = false from hf]; exact nofun)
    rw [he]
    obtain ⟨h1, h2, h3⟩ := frameDropped_after s 2
    exact ⟨h1, h3, h2⟩
  · refine Runs.main hx hs ?_
    rw [plyReceive_fits (d := s.dev.fresh0) hf, plyTaken_bad hp]
    exact hbad
  · refine Runs.mainStays hx hs ?_
    rw [plyReceive_fits (d := s.dev.fresh0) hf, plyTaken_other hp hk]
  · refine Runs.main hx hs ?_
    rw [plyReceive_fits (d := s.dev.fresh0) hf, plyTaken_foreign (d := s.dev.fresh0) hp hk hc]
    exact hbad
  · refine Runs.main hx hs ?_
    rw [plyReceive_fits (d := s.dev.fresh0) hf, plyTaken_accepted ha]
    obtain ⟨h1, h2, h3⟩ := plyHeard_holds h s.dev.fresh0
    obtain ⟨h4, h5, h6⟩ := hact (s.dev.ply.gapAt h) h pl (plyHeard h s.dev.fresh0)
    have hheard := h5.trans h2
    have hcut (hg : s.dev.ply.gapAt h = true) := h6 hg (h3 hg)
    have hmoves := Dev.movesTwin_trans h1 h4
    generalize act (s.dev.ply.gapAt h) h pl (plyHeard h s.dev.fresh0) = e at hheard hcut hmoves ⊢
    have ht : (s.after e).dev.ply = e.ply := by simp
    refine ⟨plyFrame_after hmoves, ?_⟩
    rw [ht]
    have hg : s.dev.fresh0.ply.gapAt h = s.dev.ply.gapAt h := rfl
    rw [hg] at hheard
    unfold Ply.heard at hheard
    cases hgap : s.dev.ply.gapAt h with
    | true =>
      rw [hgap] at hheard
      simp only [Prod.mk.injEq] at hheard
      obtain ⟨e1, e2, e3, e4, e5, e6, e7, e8⟩ := hheard
      refine ⟨e1, e2, e3, e4, e5, fun _ => ⟨e6, e7, e8, hcut hgap⟩, fun hcalm => ?_⟩
      exact absurd (hgap.symm.trans (plyHeard_calm (d := s.dev) hcalm).1) nofun
    | false =>
      rw [hgap] at hheard
      simp only [Prod.mk.injEq] at hheard
      obtain ⟨e1, e2, e3, e4, e5, e6, -, -⟩ := hheard
      refine ⟨e1, e2, e3, e4, e5, fun ⟨q, hq, hne⟩ => ?_, fun _ => e6⟩
      have htrue : s.dev.ply.gapAt h = true := by
        unfold Ply.gapAt
        rw [hq]
        exact bne_iff_ne.2 hne
      exact absurd (hgap.symm.trans htrue) nofun

/-- An accepted calm frame does what its kind says, and what its header says. -/
theorem Runs.calm {i : Instr} {kind : Nat} {bytes : List Byte} {act : Bool → BitVec 256 → List Byte → Dev → Dev}
    {s : State} {P : State → Prop} {h : BitVec 256} {pl : List Byte} (hx : exec i s = mainStep (plyReceive kind bytes act) s)
    (hs : s.up) (hf : (s.dev.port 2).rxOk (plyHead bytes) = true) (ha : plyAccepted kind bytes s h pl) (hc : plyCalm h s.dev.ply)
    (hP : P (s.after (act false h pl (s.dev.fresh0.withPly (plyNoted h s.dev.ply))))) : Runs i s P := by
  refine Runs.main hx hs ?_
  obtain ⟨hg, he⟩ := plyHeard_calm (d := s.dev.fresh0) hc
  have hg' : s.dev.ply.gapAt h = false := hg
  rw [plyReceive_fits (d := s.dev.fresh0) hf, plyTaken_accepted ha, he, hg']
  exact hP

end Sys2Proof.Machine
end

section
/-!
STATUS: the measurement, what it says, and the role table (R516, R519, R520, R527 to R529).
-/
namespace Sys2Proof.Machine

/-! ### Entering a role -/

/-- The steps of `joinQuiet`: the outputs of tasks and loops, the tasks, the loops of one kind. -/
def quietPoints (d : Dev) : Dev :=
  ((d.ps.points.filter (fun p => p.2.srcKind == 2 || p.2.srcKind == 3)).map (·.1)).foldl (fun d p => produceQ p 3 1 d.cal d) d
def quietTasks (d : Dev) : Dev :=
  (List.range 8).foldl (fun d t => d.modTask t (fun k => { k with scan := none, mark := none })) d
def quietLoops (fast : Bool) (f : Loop → Loop) (d : Dev) : Dev :=
  (d.enabledLoops fast).foldl (fun d j => d.modLoop j f) d
def quietCuts (d : Dev) : Dev := { d with lp := { d.lp with fastDue := none, cutAt := none } }

theorem joinQuiet_eq (d : Dev) : joinQuiet d = quietCuts (quietLoops false (fun l => { l with out := none })
    (quietLoops true (fun l => if l.st = .faulted then l else { l with st := .init, out := none })
      (quietTasks (quietPoints d)))) := rfl

theorem quietPoints_movesData (d : Dev) : d.movesData (quietPoints d) :=
  foldl_movesData (fun _ _ => Dev.movesData_of_stores (produceQ_stores ..)) _ _

theorem quietTasks_movesData (d : Dev) : d.movesData (quietTasks d) := foldl_movesData (fun _ _ => modTask_movesData ..) _ _

theorem quietLoops_movesData (fast : Bool) (f : Loop → Loop) (d : Dev) : d.movesData (quietLoops fast f d) :=
  foldl_movesData (fun _ _ => modLoop_movesData ..) _ _

theorem quietCuts_movesData (d : Dev) : d.movesData (quietCuts d) := Dev.movesData_of_eq rfl

theorem joinQuiet_movesData (d : Dev) : d.movesData (joinQuiet d) := by
  rw [joinQuiet_eq]
  exact Dev.movesData_trans (Dev.movesData_trans (Dev.movesData_trans (Dev.movesData_trans (quietPoints_movesData d)
    (quietTasks_movesData _)) (quietLoops_movesData ..)) (quietLoops_movesData ..)) (quietCuts_movesData _)

/-- The ply unit as it begins to join (R529). -/
def Ply.joins (p : Ply) : Ply := { p with
  twinState := .joining, joinStep := 1, stepAge := 0, stepTold := false, timed := false, catchupTries := 0, resweep := true
  cutIn := none, cutDone := none, sweep := none, firstCopy := none }

/-- The module with no measurement of network time that waits. -/
def Dev.unmeasured (d : Dev) : Dev := { d with net := { d.net with meas := none } }

theorem enterJoining_eq (cause : Nat) (d : Dev) : enterJoining cause d =
    joinQuiet ((setRole .joining cause d.unmeasured).modPly Ply.joins) := rfl

theorem unmeasured_turns (d : Dev) : d.turns d.unmeasured := Dev.turns_of_ply ⟨Dev.reportsTo_of_eq rfl rfl rfl, rfl⟩ rfl

theorem joins_turns (d : Dev) : d.turns (d.modPly Ply.joins) := modPly_turns rfl rfl (.inr rfl)

theorem enterJoining_turns (cause : Nat) (d : Dev) : d.turns (enterJoining cause d) := by
  rw [enterJoining_eq]
  exact Dev.turns_trans (Dev.turns_trans (Dev.turns_trans (unmeasured_turns d) (setRole_turns ..)) (joins_turns _))
    (Dev.turns_of_movesData (joinQuiet_movesData _))

theorem enterJoining_role (cause : Nat) (d : Dev) : (enterJoining cause d).ply.role = .joining := by
  rw [enterJoining_eq]
  have h := congrArg Ply.role (setRole_ply .joining cause d.unmeasured)
  generalize setRole .joining cause d.unmeasured = e at h ⊢
  have hq := congrArg Ply.role (Dev.movesData_keeps (joinQuiet_movesData (e.modPly Ply.joins))).1
  exact hq.trans h

theorem enterLeading_turns (cause : Nat) (d : Dev) : d.turns (enterLeading cause d) := by
  unfold enterLeading
  refine Dev.turns_trans (setRole_turns .leading cause d) ?_
  generalize setRole .leading cause d = e
  exact modPly_turns rfl rfl (.inr rfl)

theorem plyRefuse_turns (reason : Nat) (d : Dev) : d.turns (plyRefuse reason d) :=
  Dev.turns_trans (modPly_turns rfl rfl (.inl rfl)) (plyReport_turns ..)

theorem plyRefuse_role (reason : Nat) (d : Dev) : (plyRefuse reason d).ply.role = d.ply.role ∧
    (plyRefuse reason d).ply.conflict = d.ply.conflict := by
  rw [(plyRefuse_holds reason d).2]
  exact ⟨rfl, rfl⟩

/-- The ply unit but for what a passed join step writes. -/
def Ply.steps (p q : Ply) : Prop := q = { p with
  joinStep := q.joinStep, stepAge := q.stepAge, stepTold := q.stepTold, twinState := q.twinState, giveupSeen := q.giveupSeen }

/-- Passing join steps writes the ply unit alone. -/
theorem joinAdvance_eq (n : Nat) (d : Dev) : joinAdvance n d = d.withPly (joinAdvance n d).ply ∧
    d.ply.steps (joinAdvance n d).ply := by
  induction n generalizing d with
  | zero => exact ⟨rfl, rfl⟩
  | succ n ih =>
    unfold joinAdvance
    split
    · obtain ⟨h1, h2⟩ := ih (d.modPly (fun p => { p with
        joinStep := p.joinStep + 1, stepAge := 0, stepTold := false
        twinState := if p.joinStep = 1 then .joining else p.twinState
        giveupSeen := if p.joinStep = 1 then false else p.giveupSeen }))
      generalize joinAdvance n _ = e at h1 h2 ⊢
      refine ⟨h1, ?_⟩
      unfold Ply.steps at h2 ⊢
      rw [h2]
      rfl
    · exact ⟨rfl, rfl⟩

theorem joinAdvance_turns (n : Nat) (d : Dev) : d.turns (joinAdvance n d) := by
  obtain ⟨h1, h2⟩ := joinAdvance_eq n d
  have hm : d.movesTwin (joinAdvance n d) := by
    rw [h1]
    exact Dev.movesTwin_of_onlyPly (modPly_onlyPly (fun _ => (joinAdvance n d).ply) d)
  unfold Ply.steps at h2
  refine ⟨hm, ?_, ?_, .inl ?_⟩ <;> rw [h2] <;> rfl

theorem joinAdvance_role (n : Nat) (d : Dev) : (joinAdvance n d).ply.role = d.ply.role := by
  have h := (joinAdvance_eq n d).2
  unfold Ply.steps at h
  rw [h]

/-! ### The role table (R519, R520) -/

theorem soloMeets_turns (h : BitVec 256) (lines : BitVec 48) (d : Dev) : d.turns (soloMeets h lines d) := by
  unfold soloMeets
  dsimp only
  split
  · split
    · exact Dev.turns_refl d
    · exact Dev.turns_trans (modPly_turns rfl rfl (.inl rfl)) (plyRefuse_turns ..)
  · generalize (if (d.lineStates != 0) = true then true else if (lines != 0) = true then false
      else decide (d.fuses.serial < fld h 64 64)) = b
    split
    · exact Dev.turns_trans (enterLeading_turns ..) (plyReport_turns ..)
    · exact enterJoining_turns ..

theorem soloMeets_role (h : BitVec 256) (lines : BitVec 48) {d : Dev} (hr : d.ply.role = .solo) :
    (d.lineStates ≠ 0 → lines ≠ 0 → (soloMeets h lines d).ply.role = .solo ∧ (soloMeets h lines d).ply.conflict = true) ∧
    (d.lineStates ≠ 0 → lines = 0 → (soloMeets h lines d).ply.role = .leading) ∧
    (d.lineStates = 0 → lines ≠ 0 → (soloMeets h lines d).ply.role = .joining) ∧
    (d.lineStates = 0 → lines = 0 →
      (soloMeets h lines d).ply.role = if d.fuses.serial < fld h 64 64 then .leading else .joining) := by
  have hlead : (plyReport 0x0E01 false (enterLeading 2 d).ply.role.code (enterLeading 2 d)).ply.role = .leading := by
    rw [plyReport_ply, enterLeading_ply]
    rfl
  unfold soloMeets
  dsimp only
  refine ⟨fun h1 h2 => ?_, fun h1 h2 => ?_, fun h1 h2 => ?_, fun h1 h2 => ?_⟩
  · rw [bne_iff_ne.2 h1, bne_iff_ne.2 h2, Bool.and_true, if_pos rfl]
    split
    · next hc => exact ⟨hr, hc⟩
    · obtain ⟨h3, h4⟩ := plyRefuse_role 1 (d.modPly fun p => { p with conflict := true })
      exact ⟨h3.trans hr, h4⟩
  · rw [bne_iff_ne.2 h1, bne_eq_false_iff_eq.2 h2, Bool.and_false, if_neg nofun, if_pos (if_pos rfl)]
    exact hlead
  · rw [bne_eq_false_iff_eq.2 h1, bne_iff_ne.2 h2, Bool.false_and, if_neg nofun, if_neg (by simp)]
    exact enterJoining_role ..
  · rw [bne_eq_false_iff_eq.2 h1, bne_eq_false_iff_eq.2 h2, Bool.false_and, if_neg nofun]
    by_cases hs : d.fuses.serial < fld h 64 64
    · rw [decide_eq_true hs, if_pos (by simp), if_pos hs]
      exact hlead
    · rw [decide_eq_false hs, if_neg (by simp), if_neg hs]
      exact enterJoining_role ..

theorem leaderServes_turns (h : BitVec 256) (d : Dev) : d.turns (leaderServes h d) := by
  unfold leaderServes
  dsimp only
  refine Dev.turns_trans (b := if d.ply.twinState = .joining then d
    else d.modPly (fun p => { p with twinState := .joining, sweep := none, catchupTries := 0, giveupSeen := false })) ?_ ?_
  · split
    · exact Dev.turns_refl d
    · exact modPly_turns rfl rfl (.inl rfl)
  · generalize (if d.ply.twinState = .joining then d
      else d.modPly (fun p => { p with twinState := .joining, sweep := none, catchupTries := 0, giveupSeen := false })) = e
    split
    · split
      · exact modPly_turns rfl rfl (.inl rfl)
      · exact Dev.turns_refl e
    · split
      · split
        · exact modPly_turns rfl rfl (.inl rfl)
        · exact Dev.turns_refl e
      · exact Dev.turns_refl e

theorem leaderServes_role (h : BitVec 256) {d : Dev} :
    (leaderServes h d).ply.role = d.ply.role ∧ (leaderServes h d).ply.twinState = .joining := by
  unfold leaderServes
  dsimp only
  have hstart : (if d.ply.twinState = .joining then d
      else d.modPly (fun p => { p with twinState := .joining, sweep := none, catchupTries := 0, giveupSeen := false })).ply.role =
        d.ply.role ∧ (if d.ply.twinState = .joining then d
      else d.modPly (fun p => { p with
        twinState := .joining, sweep := none, catchupTries := 0, giveupSeen := false })).ply.twinState = .joining := by
    split
    · next h => exact ⟨rfl, h⟩
    · exact ⟨rfl, rfl⟩
  generalize (if d.ply.twinState = .joining then d
      else d.modPly (fun p => { p with twinState := .joining, sweep := none, catchupTries := 0, giveupSeen := false })) = e
    at hstart ⊢
  split
  · split
    · exact hstart
    · exact hstart
  · split
    · split
      · exact hstart
      · exact hstart
    · exact hstart

theorem trailingFrames_turns (d : Dev) : d.turns (trailingFrames d) := by
  unfold trailingFrames
  dsimp only
  split
  · exact modPly_turns rfl rfl (.inl rfl)
  · split
    · exact Dev.turns_trans (modPly_turns rfl rfl (.inl rfl))
        (Dev.turns_trans (plyReport_turns ..) (enterJoining_turns ..))
    · exact modPly_turns rfl rfl (.inl rfl)

theorem trailingFrames_role {d : Dev} (hr : d.ply.role = .trailing) :
    (d.ply.frameEq = true → (trailingFrames d).ply.role = .trailing ∧ (trailingFrames d).ply.mismatchRun = 0) ∧
    (d.ply.frameEq = false → d.ply.mismatchRun < 2 →
      (trailingFrames d).ply.role = .trailing ∧ (trailingFrames d).ply.mismatchRun = d.ply.mismatchRun + 1) ∧
    (d.ply.frameEq = false → 2 ≤ d.ply.mismatchRun → (trailingFrames d).ply.role = .joining) := by
  unfold trailingFrames
  dsimp only
  refine ⟨fun h => ?_, fun h hm => ?_, fun h hm => ?_⟩
  · rw [if_pos h]
    exact ⟨hr, rfl⟩
  · have hn : ¬3 ≤ (d.modPly fun p => { p with mismatchRun := p.mismatchRun + 1 }).ply.mismatchRun := by
      show ¬3 ≤ d.ply.mismatchRun + 1
      omega
    rw [if_neg (by simp [h]), if_neg hn]
    exact ⟨hr, rfl⟩
  · have hn : 3 ≤ (d.modPly fun p => { p with mismatchRun := p.mismatchRun + 1 }).ply.mismatchRun := by
      show 3 ≤ d.ply.mismatchRun + 1
      omega
    rw [if_neg (by simp [h]), if_pos hn]
    exact enterJoining_role ..

theorem statusRole_turns (h : BitVec 256) (lines : BitVec 48) (d : Dev) : d.turns (statusRole h lines d) := by
  unfold statusRole
  dsimp only
  split
  · split
    · exact Dev.turns_refl d
    · split
      · exact Dev.turns_trans (enterJoining_turns ..) (joinAdvance_turns ..)
      · split
        · exact soloMeets_turns ..
        · exact Dev.turns_refl d
  · exact joinAdvance_turns ..
  · exact trailingFrames_turns d
  · split
    · split
      · exact Dev.turns_trans (plyRefuse_turns ..) (enterJoining_turns ..)
      · exact Dev.turns_refl d
    · split
      · exact leaderServes_turns ..
      · split
        · exact modPly_turns rfl rfl (.inl rfl)
        · exact Dev.turns_refl d
  · exact Dev.turns_refl d

/-- The rows of the table for a paired SOLO module. -/
theorem statusRole_solo (h : BitVec 256) (lines : BitVec 48) {d : Dev} (hr : d.ply.role = .solo) :
    ((d.ply.pairId = 0 ∨ fld h 128 32 ≠ d.ply.pairId) → statusRole h lines d = d) ∧
    (d.ply.pairId ≠ 0 → fld h 128 32 = d.ply.pairId →
      ((fld h 24 8).toNat = 2 → (statusRole h lines d).ply.role = .joining) ∧
      ((fld h 24 8).toNat ≠ 0 → (fld h 24 8).toNat ≠ 2 → statusRole h lines d = d) ∧
      ((fld h 24 8).toNat = 0 → statusRole h lines d = soloMeets h lines d)) := by
  unfold statusRole
  dsimp only
  rw [hr]
  dsimp only
  refine ⟨fun hc => if_pos hc, fun h1 h2 => ?_⟩
  have hn : ¬(d.ply.pairId = 0 ∨ fld h 128 32 ≠ d.ply.pairId) := by
    rintro (h | h)
    · exact h1 h
    · exact h h2
  rw [if_neg hn]
  refine ⟨fun h3 => ?_, fun h3 h4 => ?_, fun h3 => ?_⟩
  · rw [if_pos h3, joinAdvance_role]
    exact enterJoining_role ..
  · rw [if_neg h4, if_neg h3]
  · rw [if_neg (by omega), if_pos h3]

theorem statusRole_leading (h : BitVec 256) (lines : BitVec 48) {d : Dev} (hr : d.ply.role = .leading) :
    ((fld h 24 8).toNat = 1 →
      (statusRole h lines d).ply.role = .leading ∧ (statusRole h lines d).ply.twinState = .joining) ∧
    ((fld h 24 8).toNat = 2 →
      (statusRole h lines d).ply.role = if fld h 64 64 < d.fuses.serial then .joining else .leading) ∧
    ((fld h 24 8).toNat = 3 → (statusRole h lines d).ply.role = .leading ∧ (statusRole h lines d).ply.twinState = .ok ∧
      (statusRole h lines d).ply.sweep = none) ∧
    ((fld h 24 8).toNat = 0 ∨ 3 < (fld h 24 8).toNat → (statusRole h lines d).ply.role = .leading) := by
  unfold statusRole
  dsimp only
  rw [hr]
  dsimp only
  refine ⟨fun h1 => ?_, fun h1 => ?_, fun h1 => ?_, fun h1 => ?_⟩
  · rw [if_neg (by omega), if_pos h1]
    obtain ⟨h2, h3⟩ := leaderServes_role h (d := d)
    exact ⟨h2.trans hr, h3⟩
  · rw [if_pos h1]
    split
    · exact enterJoining_role ..
    · exact hr
  · rw [if_neg (by omega), if_neg (by omega), if_pos h1]
    exact ⟨hr, rfl, rfl⟩
  · rw [if_neg (by omega), if_neg (by omega), if_neg (by omega)]
    exact hr

theorem statusRole_other (h : BitVec 256) (lines : BitVec 48) (d : Dev) :
    (d.ply.role = .dead → statusRole h lines d = d) ∧
    (d.ply.role = .joining → (statusRole h lines d).ply.role = .joining) ∧
    (d.ply.role = .trailing → statusRole h lines d = trailingFrames d) := by
  unfold statusRole
  dsimp only
  refine ⟨fun hr => by rw [hr], fun hr => ?_, fun hr => by rw [hr]⟩
  rw [hr]
  dsimp only
  rw [joinAdvance_role]
  exact hr

/-! ### What a STATUS says (R516, R527, R539) -/

/-- The measurement of a STATUS touches network time and the stamp of the STATUS. -/
theorem statusMeasure_holds (h : BitVec 256) (txDelay rx : Nat) (d : Dev) :
    d.movesTwin (statusMeasure h txDelay rx d) ∧ (statusMeasure h txDelay rx d).lines = d.lines ∧
      (statusMeasure h txDelay rx d).ply = { d.ply with statusPrev := some (fld h 192 64, rx) } := by
  unfold statusMeasure
  dsimp only
  refine ⟨?_, ?_, ?_⟩
  · refine Dev.movesTwin_trans ?_ (Dev.movesTwin_of_onlyPly (modPly_onlyPly ..))
    split
    · split
      · exact ⟨Dev.reportsTo_of_eq rfl rfl rfl, rfl⟩
      · exact Dev.movesTwin_refl d
    · exact Dev.movesTwin_refl d
  · rw [(modPly_lines ..).1]
    split
    · split <;> rfl
    · rfl
  · rw [modPly_ply]
    split
    · split <;> rfl
    · rfl

/-- The ply unit with what a STATUS says. -/
def Ply.told (p : Ply) (x : BitVec 384) (eq ack : Bool) : Ply := { p with
  twinFw := fld x 0 32
  twinDigest := (List.range 6).foldl (fun t a => tset 0 t a (fld x (64 + 32 * a) 32)) []
  twinLineState := fld x 256 48
  frameEq := eq
  yieldAck := ack }

/-- What a STATUS does. -/
def statusAct (rx : Nat) (_ : Bool) (h : BitVec 256) (payload : List Byte) (d : Dev) : Dev :=
  let x : BitVec 384 := leBits 384 (slice payload 0 48)
  let near := if rx < 500000 then d.tb.frame else d.tb.nextFrame
  let d := statusMeasure h (fld x 32 32).toNat rx d
  statusRole h (fld x 256 48) (d.modPly (fun p => p.told x (near == fld h 192 64)
    (p.yieldAck || (bit h 44 && p.role == .leading && (match p.yieldAt with
      | some y => decide (d.tb.frame.toNat + 4 < y.toNat)
      | none => false)))))

theorem plyStatusReceive_eq (rx : Nat) (bytes : List Byte) :
    plyStatusReceive rx bytes = plyReceive 1 bytes (statusAct rx) := rfl

theorem statusAct_heeds (rx : Nat) (gap : Bool) (h : BitVec 256) (pl : List Byte) (d : Dev) :
    d.heeds gap (statusAct rx gap h pl d) := by
  unfold statusAct
  dsimp only
  obtain ⟨h1, -, h3⟩ := statusMeasure_holds h (fld (leBits 384 (slice pl 0 48)) 32 32).toNat rx d
  refine Dev.heeds_trans ?_ (Dev.heeds_of_turns (statusRole_turns ..))
  generalize statusMeasure h (fld (leBits 384 (slice pl 0 48)) 32 32).toNat rx d = e at h1 h3 ⊢
  refine ⟨Dev.movesTwin_trans h1 (Dev.movesTwin_of_onlyPly (modPly_onlyPly ..)), ?_, fun _ hc => ?_⟩
  · rw [modPly_ply, h3]
    rfl
  · rw [modPly_ply, h3]
    exact hc

theorem Ply.told_digest (x : BitVec 384) {a : Nat} (ha : a < 6) :
    tget (0 : Reg) ((List.range 6).foldl (fun t a => tset 0 t a (fld x (64 + 32 * a) 32)) []) a = fld x (64 + 32 * a) 32 := by
  obtain ⟨-, h⟩ := foldl_range_get (fun (t : Tbl Reg) a => tget 0 t a) (fun t a => tset 0 t a (fld x (64 + 32 * a) 32))
    (fun a _ => fld x (64 + 32 * a) 32) (fun _ => True) (fun _ _ h => h) (fun t k _ => by simp)
    (fun t k m _ hm => tget_tset_other _ _ _ hm) 6 (c := []) trivial
  rw [h a, if_pos ha]

end Sys2Proof.Machine
end

section
/-!
STATUS of the twin in the words of the obligation (R516, R519, R520).
-/
namespace Sys2Proof.Machine

/-- The module before the role table: what the STATUS says stands in its ply unit, and the rest of what the table reads is as
before. -/
theorem statusAct_before (rx : Nat) (h : BitVec 256) (pl : List Byte) (d : Dev) : ∃ e b,
    statusAct rx false h pl d = statusRole h (fld (leBits 384 (slice pl 0 48)) 256 48) e ∧ d.movesTwin e ∧
      e.ply = Ply.told { d.ply with statusPrev := some (fld h 192 64, rx) } (leBits 384 (slice pl 0 48))
        ((if rx < 500000 then d.tb.frame else d.tb.nextFrame) == fld h 192 64) b ∧
      e.lineStates = d.lineStates ∧ e.fuses = d.fuses := by
  obtain ⟨h1, h2, h3⟩ := statusMeasure_holds h (fld (leBits 384 (slice pl 0 48)) 32 32).toNat rx d
  unfold statusAct
  dsimp only
  generalize statusMeasure h (fld (leBits 384 (slice pl 0 48)) 32 32).toNat rx d = m at h1 h2 h3 ⊢
  rw [← h3]
  refine ⟨_, _, rfl, Dev.movesTwin_trans h1 (Dev.movesTwin_of_onlyPly (modPly_onlyPly ..)), rfl, ?_, ?_⟩
  · unfold Dev.lineStates Dev.line
    rw [(modPly_lines ..).1, h2]
  · rw [(modPly_onlyPly _ m).2, h1.2]

/-- What the role table makes of each role (R519, R520). -/
def roleTable (h : BitVec 256) (x : BitVec 384) (eq : Bool) (s : State) (q : Ply) : Prop :=
  let p := s.dev.ply
  let twin := (fld h 24 8).toNat
  (p.role = .dead → q.role = .dead) ∧ (p.role = .joining → q.role = .joining) ∧
    (p.role = .solo → (p.pairId = 0 ∨ fld h 128 32 ≠ p.pairId) → q.role = .solo) ∧
    (p.role = .solo → p.pairId ≠ 0 → fld h 128 32 = p.pairId →
      let own := s.dev.lineStates ≠ 0
      let serves := fld x 256 48 ≠ (0 : BitVec 48)
      (twin = 2 → q.role = .joining) ∧ (twin ≠ 0 → twin ≠ 2 → q.role = .solo) ∧
        (twin = 0 → own → serves → q.role = .solo ∧ q.conflict = true) ∧
        (twin = 0 → own → ¬serves → q.role = .leading) ∧ (twin = 0 → ¬own → serves → q.role = .joining) ∧
        (twin = 0 → ¬own → ¬serves →
          q.role = if s.dev.fuses.serial < fld h 64 64 then .leading else .joining)) ∧
    (p.role = .trailing →
      (eq = true → q.role = .trailing ∧ q.mismatchRun = 0) ∧
        (eq = false → p.mismatchRun < 2 → q.role = .trailing ∧ q.mismatchRun = p.mismatchRun + 1) ∧
        (eq = false → 2 ≤ p.mismatchRun → q.role = .joining)) ∧
    (p.role = .leading →
      (twin = 1 → q.role = .leading ∧ q.twinState = .joining) ∧
        (twin = 2 → q.role = if fld h 64 64 < s.dev.fuses.serial then .joining else .leading) ∧
        (twin = 3 → q.role = .leading ∧ q.twinState = .ok ∧ q.sweep = none) ∧
        (twin = 0 ∨ 3 < twin → q.role = .leading))

theorem roleTable_of {h : BitVec 256} {x : BitVec 384} {eq : Bool} {s : State} {e : Dev} {p0 : Ply} {b : Bool}
    (hp : e.ply = p0.told x eq b) (h0 : p0.role = s.dev.ply.role ∧ p0.pairId = s.dev.ply.pairId ∧
      p0.mismatchRun = s.dev.ply.mismatchRun)
    (hl : e.lineStates = s.dev.lineStates) (hf : e.fuses = s.dev.fuses) :
    roleTable h x eq s (statusRole h (fld x 256 48) e).ply := by
  obtain ⟨h1, h2, h3⟩ := h0
  have hr : e.ply.role = s.dev.ply.role := (congrArg Ply.role hp).trans h1
  have hpair : e.ply.pairId = s.dev.ply.pairId := (congrArg Ply.pairId hp).trans h2
  have hrun : e.ply.mismatchRun = s.dev.ply.mismatchRun := (congrArg Ply.mismatchRun hp).trans h3
  have heq : e.ply.frameEq = eq := congrArg Ply.frameEq hp
  obtain ⟨o1, o2, o3⟩ := statusRole_other h (fld x 256 48) e
  refine ⟨fun hd => ?_, fun hd => o2 (hr.trans hd), fun hd hc => ?_, fun hd hp1 hp2 => ?_, fun hd => ?_, fun hd => ?_⟩
  · rw [o1 (hr.trans hd)]
    exact hr.trans hd
  · rw [(statusRole_solo h (fld x 256 48) (hr.trans hd)).1 (by rwa [hpair])]
    exact hr.trans hd
  · obtain ⟨r1, r2, r3⟩ := (statusRole_solo h (fld x 256 48) (hr.trans hd)).2 (by rwa [hpair]) (by rwa [hpair])
    obtain ⟨m1, m2, m3, m4⟩ := soloMeets_role h (fld x 256 48) (hr.trans hd)
    rw [hl] at m1 m2 m3 m4
    rw [hf] at m4
    refine ⟨r1, fun t1 t2 => ?_, fun t1 => ?_, fun t1 => ?_, fun t1 => ?_, fun t1 => ?_⟩
    · rw [r2 t1 t2]
      exact hr.trans hd
    · rw [r3 t1]
      exact m1
    · rw [r3 t1]
      exact fun h1 h2 => m2 h1 (not_not.1 h2)
    · rw [r3 t1]
      exact fun h1 h2 => m3 (not_not.1 h1) h2
    · rw [r3 t1]
      exact fun h1 h2 => m4 (not_not.1 h1) (not_not.1 h2)
  · rw [o3 (hr.trans hd)]
    have ht := trailingFrames_role (hr.trans hd)
    rw [heq, hrun] at ht
    exact ht
  · have ht := statusRole_leading h (fld x 256 48) (hr.trans hd)
    rw [hf] at ht
    exact ht

/-- A STATUS of the twin. -/
theorem status_runs {s : State} {bytes : List Byte} {rx : Nat} {h : BitVec 256} {pl : List Byte} (hs : s.up)
    (hf : (s.dev.port 2).rxOk (plyHead bytes) = true) (ha : plyAccepted 1 bytes s h pl) (hc : plyCalm h s.dev.ply) :
    let x : BitVec 384 := leBits 384 (slice pl 0 48)
    let eq := (if rx < 500000 then s.dev.tb.frame else s.dev.tb.nextFrame) == fld h 192 64
    Runs (.plyStatusReceive rx bytes) s (fun t =>
      t.dev.ply.twinFw = fld x 0 32 ∧ (∀ a, a < 6 → tget 0 t.dev.ply.twinDigest a = fld x (64 + 32 * a) 32) ∧
        t.dev.ply.twinLineState = fld x 256 48 ∧ t.dev.ply.statusPrev = some (fld h 192 64, rx) ∧
        t.dev.ply.frameEq = eq ∧ roleTable h x eq s t.dev.ply) := by
  intro x eq
  refine Runs.calm (act := statusAct rx) rfl hs hf ha hc ?_
  obtain ⟨e, b, he, -, hp, hl, hfu⟩ := statusAct_before rx h pl (s.dev.fresh0.withPly (plyNoted h s.dev.ply))
  have hrole : roleTable h x eq s (statusRole h (fld x 256 48) e).ply := roleTable_of hp ⟨rfl, rfl, rfl⟩ hl hfu
  obtain ⟨-, -, hsaid, -⟩ := statusRole_turns h (fld x 256 48) e
  rw [he]
  have ht : (s.after (statusRole h (fld x 256 48) e)).dev.ply = (statusRole h (fld x 256 48) e).ply := by simp
  have hsaid' : (statusRole h (fld x 256 48) e).ply.said = _ := hsaid.trans (congrArg Ply.said hp)
  unfold Ply.said at hsaid'
  simp only [Prod.mk.injEq] at hsaid'
  obtain ⟨e1, e2, e3, e4, e5⟩ := hsaid'
  generalize s.after (statusRole h (fld x 256 48) e) = t at ht ⊢
  rw [ht]
  refine ⟨e1, fun a ha => ?_, e3, e4, e5, hrole⟩
  rw [e2]
  exact Ply.told_digest x ha

end Sys2Proof.Machine
end

section
/-!
What the other kinds of ply frames do: mirror entries, catch-up items and notices (R515, R526, R533, R534, R536).
-/
namespace Sys2Proof.Machine

/-! ### Mirror entries (R536) -/

/-- Does a point take a mirror entry. -/
def Point.mirrors (x : Point) : Prop := x.mirrored = true ∧ x.srcKind = 0 ∧ x.subst = false ∧ x.quarantined = false

/-- A point as a mirror entry writes it. -/
def Point.mirroredAs (x : Point) (e : BitVec 192) : Point := { x with
  value := canonical x.ptype.toNat (fld e 64 64), quality := fld e 54 2, detail := fld e 56 8, mirProduced := bit e 53 }

/-- The ply unit with one mirror entry more applied, or refused. -/
def Ply.mirrorApplied (p : Ply) : Ply :=
  { p with mirrorRx := p.mirrorRx + 1, health := { p.health with applied := satAdd p.health.applied 1 } }
def Ply.mirrorRefused (p : Ply) : Ply := { p with mirrorRej := p.mirrorRej + 1 }

theorem mirrorApply_taken {e : BitVec 192} {d : Dev} (h : (d.point (fld e 0 17).toNat).mirrors) : mirrorApply e d =
    (storePoint (fld e 0 17).toNat ((d.point (fld e 0 17).toNat).mirroredAs e) (fld e 128 64) d).modPly Ply.mirrorApplied := by
  obtain ⟨h1, h2, h3, h4⟩ := h
  unfold mirrorApply
  exact if_pos (by simp [h1, h2, h3, h4])

theorem mirrorApply_refused {e : BitVec 192} {d : Dev} (h : ¬(d.point (fld e 0 17).toNat).mirrors) :
    mirrorApply e d = d.modPly Ply.mirrorRefused := by
  unfold mirrorApply
  refine if_neg fun hc => h ?_
  simpa [Point.mirrors, and_assoc] using hc

theorem mirrorApply_turns (e : BitVec 192) (d : Dev) : d.turns (mirrorApply e d) := by
  by_cases h : (d.point (fld e 0 17).toNat).mirrors
  · rw [mirrorApply_taken h]
    exact Dev.turns_trans (Dev.turns_of_movesData (Dev.movesData_of_stores (storePoint_stores ..)))
      (modPly_turns rfl rfl (.inl rfl))
  · rw [mirrorApply_refused h]
    exact modPly_turns rfl rfl (.inl rfl)

/-- What a MIRROR frame does. -/
def mirrorAct (_ : Bool) (_ : BitVec 256) (payload : List Byte) (d : Dev) : Dev :=
  (chunks 24 (payload.length / 24) payload).foldl (fun d b => mirrorApply (leBits 192 b) d) d

theorem plyMirrorReceive_eq (bytes : List Byte) : plyMirrorReceive bytes = plyReceive 2 bytes mirrorAct := rfl

theorem mirrorAct_heeds (gap : Bool) (h : BitVec 256) (pl : List Byte) (d : Dev) : d.heeds gap (mirrorAct gap h pl d) :=
  foldl_heeds (fun _ _ => Dev.heeds_of_turns (mirrorApply_turns ..)) _ d

theorem mirrorAct_one {gap : Bool} {h : BitVec 256} {pl : List Byte} {d : Dev} (hl : pl.length = 24) :
    mirrorAct gap h pl d = mirrorApply (leBits 192 pl) d := by
  unfold mirrorAct
  rw [hl]
  cases pl with
  | nil => exact absurd hl nofun
  | cons b bs =>
    have ht : (b :: bs).take 24 = b :: bs := List.take_of_length_le (Nat.le_of_eq hl)
    show (chunks 24 1 (b :: bs)).foldl _ d = _
    unfold chunks
    rw [ht]
    rfl

/-! ### Catch-up items (R533, R534) -/

/-- The ply unit with a new cutover set (R534). -/
def Ply.cutBegun (p : Ply) (c : W64) (bad : Bool) : Ply := { p with
  cutIn := some ⟨c, [], bad, false⟩, catchupTries := if 3 ≤ p.catchupTries.toNat then 0 else p.catchupTries }

/-- The ply unit with a change of the cutover set that it keeps. -/
def Ply.cutMap (p : Ply) (f : CutIn → CutIn) : Ply := { p with cutIn := p.cutIn.map f }

/-- Is the set of frame `c` under way. -/
def Ply.cutSame (p : Ply) (c : W64) : Bool := match p.cutIn with
  | some x => x.frame == c
  | none => false

/-- A set whose frame has no set yet begins; one whose time is over is bad. -/
def cutOpened (cut gap : Bool) (c : W64) (d : Dev) : Dev :=
  if cut && !d.ply.cutSame c then joinAdvance 5 (d.modPly (·.cutBegun c (gap || d.cutGap c))) else d
def CutIn.overdue (x : CutIn) : CutIn := { x with bad := x.bad || !x.ended }
def cutAged (cut : Bool) (c : W64) (d : Dev) : Dev :=
  if cut && d.cutOver c then d.modPly (·.cutMap CutIn.overdue) else d

def CutIn.spoilt (x : CutIn) : CutIn := { x with bad := true }
def CutIn.holds (items : List CatchItem) (last : Bool) (x : CutIn) : CutIn :=
  { x with items := x.items ++ items, ended := x.ended || last }

/-- The items of a CATCHUP frame, applied or kept. -/
def cutFilled (cut last : Bool) (items : Option (List CatchItem)) (d : Dev) : Dev :=
  match items with
  | none => plyBad (d.modPly (fun p => { p with cutIn := if cut then p.cutIn.map CutIn.spoilt else p.cutIn }))
  | some xs => if cut then d.modPly (·.cutMap (CutIn.holds xs last)) else xs.foldl catchApply d

/-- What a CATCHUP frame does. -/
def catchupAct (gap : Bool) (_ : BitVec 256) (payload : List Byte) (d : Dev) : Dev :=
  let head : BitVec 128 := leBits 128 (slice payload 0 16)
  if d.ply.role ≠ .joining then d
  else if bit head 64 && d.ply.cutDone == some (fld head 0 64) then d
  else cutFilled (bit head 64) (bit head 65) (catchParse (fld head 66 16).toNat (payload.drop 16))
    (cutAged (bit head 64) (fld head 0 64) (cutOpened (bit head 64) gap (fld head 0 64) d))

theorem plyCatchupReceive_eq (bytes : List Byte) : plyCatchupReceive bytes = plyReceive 3 bytes catchupAct := rfl

theorem plyBad_turns (d : Dev) : d.turns (plyBad d) := modPly_turns rfl rfl (.inl rfl)

/-- A change of the cutover set that keeps a bad one bad. -/
theorem cutMap_heeds {gap : Bool} {f : CutIn → CutIn} (hf : ∀ x : CutIn, x.bad = true → (f x).bad = true) (d : Dev) :
    d.heeds gap (d.modPly (·.cutMap f)) := by
  refine ⟨Dev.movesTwin_of_onlyPly (modPly_onlyPly ..), rfl, fun _ hc c hx => ?_⟩
  obtain ⟨x, hx', rfl⟩ := Option.map_eq_some_iff.1 (show d.ply.cutIn.map f = some c from hx)
  exact hf x (hc x hx')

theorem cutOpened_heeds (cut gap : Bool) (c : W64) (d : Dev) : d.heeds gap (cutOpened cut gap c d) := by
  unfold cutOpened
  refine iteInduction (motive := d.heeds gap) (fun _ => ?_) fun _ => Dev.heeds_refl gap d
  refine Dev.heeds_trans ⟨Dev.movesTwin_of_onlyPly (modPly_onlyPly (·.cutBegun c (gap || d.cutGap c)) d), rfl, fun hg _ => ?_⟩
    (Dev.heeds_of_turns (joinAdvance_turns ..))
  intro x hx
  obtain rfl : (⟨c, [], gap || d.cutGap c, false⟩ : CutIn) = x := Option.some.inj hx
  simp [hg]

theorem cutAged_heeds (cut gap : Bool) (c : W64) (d : Dev) : d.heeds gap (cutAged cut c d) := by
  unfold cutAged
  refine iteInduction (motive := d.heeds gap) (fun _ => cutMap_heeds (fun x hx => ?_) d) fun _ => Dev.heeds_refl gap d
  simp [CutIn.overdue, hx]

theorem cutFilled_heeds (cut last gap : Bool) (items : Option (List CatchItem)) (d : Dev) :
    d.heeds gap (cutFilled cut last items d) := by
  unfold cutFilled
  cases items with
  | none =>
    refine Dev.heeds_trans ?_ (Dev.heeds_of_turns (plyBad_turns _))
    cases cut with
    | true => exact cutMap_heeds (f := CutIn.spoilt) (fun _ _ => rfl) d
    | false => exact ⟨Dev.movesTwin_of_onlyPly (modPly_onlyPly ..), rfl, fun _ hc => hc⟩
  | some xs =>
    dsimp only
    refine iteInduction (motive := d.heeds gap) (fun _ =>
      cutMap_heeds (f := CutIn.holds xs last) (fun _ hx => hx) d) fun _ => ?_
    exact Dev.heeds_of_turns (Dev.turns_of_movesData (foldl_movesData catchApply_movesData xs d))

theorem catchupAct_heeds (gap : Bool) (h : BitVec 256) (pl : List Byte) (d : Dev) : d.heeds gap (catchupAct gap h pl d) := by
  unfold catchupAct
  dsimp only
  refine iteInduction (motive := d.heeds gap) (fun _ => Dev.heeds_refl gap d) fun _ => ?_
  refine iteInduction (motive := d.heeds gap) (fun _ => Dev.heeds_refl gap d) fun _ => ?_
  exact Dev.heeds_trans (Dev.heeds_trans (cutOpened_heeds ..) (cutAged_heeds ..)) (cutFilled_heeds ..)

/-! ### Notices (R515, R522, R523, R526) -/

theorem unpaired_turns (d : Dev) : d.turns (d.modPly Ply.unpaired) := modPly_turns rfl rfl (.inr rfl)

theorem leavePair_turns (d : Dev) : d.turns (leavePair d) :=
  Dev.turns_trans (Dev.turns_trans (Dev.turns_trans (plyNotice_turns 5 0 d) (plyReport_turns ..)) (setRole_turns ..))
    (unpaired_turns _)

theorem Dev.turns_of_movesLines {a b : Dev} (h : a.movesLines b) : a.turns b :=
  Dev.turns_of_ply (Dev.movesTwin_of_movesPly (Dev.movesPly_of_movesLines h)) (Dev.ply_of_movesLines h)

theorem unpair_turns (d : Dev) : d.turns (unpair d) := by
  by_cases hd : d.ply.role = .dead
  · rw [unpair_dead hd]
    exact modPly_turns rfl rfl (.inl rfl)
  · by_cases hs : d.ply.role = .solo
    · unfold unpair
      rw [hs]
      exact Dev.turns_refl d
    · rw [unpair_serving hd hs]
      split
      · exact leavePair_turns d
      · exact Dev.turns_trans (leavePair_turns d) (Dev.turns_of_movesLines (oneCycle_movesLines linesOff_movesLines _))

/-- The strands of a mask are switched. -/
def linesNamed (m : Nat → Bool) (a : Nat) (d : Dev) : Dev :=
  ((List.range 16).filter m).foldl (fun d k => strandLine k a d) d

theorem linesNamed_movesLines (m : Nat → Bool) (a : Nat) (d : Dev) : d.movesLines (linesNamed m a d) :=
  foldl_movesLines (fun _ _ => Dev.movesLines_of_movesLine (strandLine_movesLine ..)) _ d

theorem linesNamed_line (m : Nat → Bool) (a : Nat) (d : Dev) (k : Nat) :
    (linesNamed m a d).line k = if k < 16 ∧ m k = true then (d.line k).switched a else d.line k := by
  obtain ⟨-, h⟩ := foldl_range_get Dev.line (fun d k => if m k then strandLine k a d else d)
    (fun k l => if m k then l.switched a else l) (fun _ => True) (fun _ _ h => h)
    (fun e k _ => by
      cases m k with
      | true => exact strandLine_line k a e
      | false => rfl)
    (fun e k j _ hj => by
      cases m k with
      | true => exact (strandLine_movesLine k a e).2.1 j hj
      | false => rfl) 16 (c := d) trivial
  unfold linesNamed
  rw [List.foldl_filter, h k]
  by_cases hk : k < 16
  · rw [if_pos hk]
    exact if_congr (by simp [hk]) rfl rfl
  · rw [if_neg hk, if_neg fun hh => hk hh.1]

/-- What a NOTICE does. -/
def noticeDo (x : W64) (d : Dev) : Dev :=
  match (fld x 0 8).toNat with
  | 1 => plyReport 0x0E0D true 1 (d.modPly (fun p => { p with twinWarn := true }))
  | 2 => plyReport 0x0E0D false 0 (d.modPly (fun p => { p with twinWarn := false }))
  | 3 => twinGone true d
  | 4 => if d.ply.role = .trailing ∧ d.tb.frame < (fld x 8 56).setWidth 64 then
      d.modPly (fun p => { p with yieldAt := some ((fld x 8 56).setWidth 64), yieldTwin := true, yieldAck := false })
    else d
  | 5 => unpair d
  | 6 => if d.ply.role = .trailing ∧ (fld x 24 2).toNat ≠ 3 then
      oneCycle (linesNamed (fun k => bit x (8 + k)) (fld x 24 2).toNat) d
    else d
  | 7 => twinGone true d
  | _ => d
def noticeAct (_ : Bool) (_ : BitVec 256) (payload : List Byte) (d : Dev) : Dev := noticeDo (leBits 64 (slice payload 0 8)) d

theorem plyNoticeReceive_eq (bytes : List Byte) : plyNoticeReceive bytes = plyReceive 4 bytes noticeAct := rfl

theorem noticeDo_turns (x : W64) (d : Dev) : d.turns (noticeDo x d) := by
  unfold noticeDo
  split
  · exact Dev.turns_trans (modPly_turns rfl rfl (.inl rfl)) (plyReport_turns ..)
  · exact Dev.turns_trans (modPly_turns rfl rfl (.inl rfl)) (plyReport_turns ..)
  · exact twinGone_turns ..
  · refine iteInduction (motive := d.turns) (fun _ => modPly_turns rfl rfl (.inl rfl)) fun _ => Dev.turns_refl d
  · exact unpair_turns d
  · refine iteInduction (motive := d.turns) (fun _ => Dev.turns_of_movesLines ?_) fun _ => Dev.turns_refl d
    exact oneCycle_movesLines (fun d => linesNamed_movesLines (fun k => bit x (8 + k)) (fld x 24 2).toNat d) d
  · exact twinGone_turns ..
  · exact Dev.turns_refl d

theorem noticeAct_heeds (gap : Bool) (h : BitVec 256) (pl : List Byte) (d : Dev) : d.heeds gap (noticeAct gap h pl d) :=
  Dev.heeds_of_turns (noticeDo_turns ..)

end Sys2Proof.Machine
end

section
/-!
Frames of the twin in the words of the obligation (R515, R526, R533, R534, R536).
-/
namespace Sys2Proof.Machine

/-- A point that a frame of the twin stores, seen on the state after it: `n` is what the header leaves in the ply unit, `g` what
the kind of the frame adds. -/
theorem stored_after (s : State) (n : Ply) (g : Ply → Ply) (k : Nat) (x : Point) (cal : W64) :
    let t := s.after ((storePoint k x cal (s.dev.fresh0.withPly n)).modPly g)
    t.dev.point k = (s.dev.point k).stored x cal ∧ (∀ j, j ≠ k → t.dev.point j = s.dev.point j) ∧ t.dev.ply = g n ∧
      s.frame t { s.dev with ply := g n, ps := t.dev.ps } := by
  have hst := storePoint_stores k x cal (s.dev.fresh0.withPly n)
  have hpt := storePoint_point_eq k k x cal (s.dev.fresh0.withPly n)
  rw [if_pos rfl] at hpt
  have hp : (storePoint k x cal (s.dev.fresh0.withPly n)).ply = n := by
    rw [hst.2.2]
    rfl
  have hm : s.dev.fresh0.movesMirror ((storePoint k x cal (s.dev.fresh0.withPly n)).modPly g) :=
    Dev.movesMirror_trans (Dev.movesMirror_trans (b := s.dev.fresh0.withPly n)
      ⟨Dev.reportsTo_of_eq rfl rfl rfl, rfl⟩ (Dev.movesMirror_of_stores hst))
      (Dev.movesMirror_of_onlyPly (modPly_onlyPly ..))
  generalize storePoint k x cal (s.dev.fresh0.withPly n) = a at hst hpt hp hm ⊢
  obtain ⟨h1, h2⟩ := movesMirror_after hm
  rw [modPly_ply, hp] at h1
  rw [h1] at h2
  have hpoint (j : Nat) : (s.after (a.modPly g)).dev.point j = a.point j := by
    rw [(State.after_objects ..).1]
    rfl
  refine ⟨(hpoint k).trans hpt, fun j hj => (hpoint j).trans (hst.1 j hj), h1, h2⟩

section
variable {s : State} {bytes : List Byte} {h : BitVec 256} {pl : List Byte}

/-- A MIRROR frame of one entry. -/
theorem mirror_runs (hs : s.up) (hf : (s.dev.port 2).rxOk (plyHead bytes) = true) (ha : plyAccepted 2 bytes s h pl)
    (hc : plyCalm h s.dev.ply) (hl : pl.length = 24) :
    let e : BitVec 192 := leBits 192 pl
    let k := (fld e 0 17).toNat
    let o := s.dev.point k
    (o.mirrors → Runs (.plyMirrorReceive bytes) s (fun t =>
      let n := t.dev.point k
      n.value = canonical o.ptype.toNat (fld e 64 64) ∧ n.quality = fld e 54 2 ∧ n.detail = fld e 56 8 ∧
        n.mirProduced = bit e 53 ∧ ((n.value ≠ o.value ∨ n.quality ≠ o.quality ∨ n.detail ≠ o.detail) → n.tstamp = fld e 128 64) ∧
        (∀ j, j ≠ k → t.dev.point j = s.dev.point j) ∧
        t.dev.ply = (plyNoted h s.dev.ply).mirrorApplied ∧
          s.frame t { s.dev with ply := (plyNoted h s.dev.ply).mirrorApplied, ps := t.dev.ps })) ∧
    (¬o.mirrors → Runs (.plyMirrorReceive bytes) s (fun t =>
      s.silent t { s.dev with ply := (plyNoted h s.dev.ply).mirrorRefused })) := by
  intro e k o
  refine ⟨fun ht => Runs.calm (act := mirrorAct) rfl hs hf ha hc ?_, fun ht => Runs.calm (act := mirrorAct) rfl hs hf ha hc ?_⟩
  · have he : mirrorAct false h pl (s.dev.fresh0.withPly (plyNoted h s.dev.ply)) =
        (storePoint k (o.mirroredAs e) (fld e 128 64) (s.dev.fresh0.withPly (plyNoted h s.dev.ply))).modPly Ply.mirrorApplied :=
      (mirrorAct_one hl).trans (mirrorApply_taken (d := s.dev.fresh0.withPly (plyNoted h s.dev.ply)) ht)
    rw [he]
    obtain ⟨h1, h2, h3, h4⟩ := stored_after s (plyNoted h s.dev.ply) Ply.mirrorApplied k (o.mirroredAs e) (fld e 128 64)
    generalize s.after _ = t at h1 h2 h3 h4 ⊢
    obtain ⟨v1, v2, v3, -⟩ := Point.stored_keeps o (o.mirroredAs e) (fld e 128 64)
    dsimp only
    rw [h1]
    refine ⟨v1, v2, v3, ?_, fun hne => ?_, h2, h3, h4⟩
    · unfold Point.stored
      split <;> rfl
    · have hn : ¬((o.mirroredAs e).value = o.value ∧ (o.mirroredAs e).quality = o.quality ∧
          (o.mirroredAs e).detail = o.detail) := by
        rintro ⟨n1, n2, n3⟩
        exact hne.elim (· (v1.trans n1)) fun hh => hh.elim (· (v2.trans n2)) (· (v3.trans n3))
      unfold Point.stored
      rw [if_neg hn]
  · rw [mirrorAct_one hl, mirrorApply_refused (d := s.dev.fresh0.withPly (plyNoted h s.dev.ply)) ht]
    exact (silent_ply s ((plyNoted h s.dev.ply).mirrorRefused)).2

/-! ### CATCHUP (R533, R534) -/

/-- The head of a CATCHUP frame, its items. -/
def catchHead (pl : List Byte) : BitVec 128 := leBits 128 (slice pl 0 16)
def catchItems (pl : List Byte) : Option (List CatchItem) := catchParse (fld (catchHead pl) 66 16).toNat (pl.drop 16)

theorem catchupAct_idle {gap : Bool} {d : Dev} (hr : d.ply.role ≠ .joining) : catchupAct gap h pl d = d := if_pos hr

theorem catchupAct_plain {gap : Bool} {d : Dev} (hr : d.ply.role = .joining) (hb : bit (catchHead pl) 64 = false) :
    catchupAct gap h pl d = match catchItems pl with
      | none => plyBad d
      | some xs => xs.foldl catchApply d := by
  have hb' : bit (leBits 128 (slice pl 0 16)) 64 = false := hb
  unfold catchupAct
  dsimp only
  rw [if_neg (not_not.2 hr), hb', if_neg (by simp)]
  rfl

theorem catchupAct_done {gap : Bool} {d : Dev} (hb : bit (catchHead pl) 64 = true)
    (hd : d.ply.cutDone = some (fld (catchHead pl) 0 64)) : catchupAct gap h pl d = d := by
  have hb' : bit (leBits 128 (slice pl 0 16)) 64 = true := hb
  have hd' : d.ply.cutDone = some (fld (leBits 128 (slice pl 0 16)) 0 64) := hd
  unfold catchupAct
  dsimp only
  rw [hb', hd']
  refine iteInduction (motive := (· = d)) (fun _ => rfl) fun _ => if_pos (by simp)

theorem catchupAct_cut {gap : Bool} {d : Dev} (hr : d.ply.role = .joining) (hb : bit (catchHead pl) 64 = true)
    (hd : d.ply.cutDone ≠ some (fld (catchHead pl) 0 64)) : catchupAct gap h pl d =
      cutFilled true (bit (catchHead pl) 65) (catchItems pl)
        (cutAged true (fld (catchHead pl) 0 64) (cutOpened true gap (fld (catchHead pl) 0 64) d)) := by
  have hb' : bit (leBits 128 (slice pl 0 16)) 64 = true := hb
  unfold catchupAct
  dsimp only
  have hd' : d.ply.cutDone ≠ some (fld (leBits 128 (slice pl 0 16)) 0 64) := hd
  rw [if_neg (not_not.2 hr), hb', if_neg (by simpa using hd')]
  rfl

/-- A CATCHUP frame for a module that does not join, or with items that fail, or of a set that is done. -/
theorem catchup_idle (hs : s.up) (hf : (s.dev.port 2).rxOk (plyHead bytes) = true) (ha : plyAccepted 3 bytes s h pl)
    (hc : plyCalm h s.dev.ply) :
    (s.dev.ply.role ≠ .joining → Runs (.plyCatchupReceive bytes) s (fun t =>
      s.silent t { s.dev with ply := plyNoted h s.dev.ply })) ∧
    (s.dev.ply.role = .joining → bit (catchHead pl) 64 = false → catchItems pl = none →
      Runs (.plyCatchupReceive bytes) s (fun t => s.silent t { s.dev with
        ply := { plyNoted h s.dev.ply with badCnt := s.dev.ply.badCnt + 1 } })) ∧
    (bit (catchHead pl) 64 = true → s.dev.ply.cutDone = some (fld (catchHead pl) 0 64) →
      Runs (.plyCatchupReceive bytes) s (fun t => s.silent t { s.dev with ply := plyNoted h s.dev.ply })) := by
  refine ⟨fun hr => ?_, fun hr hb hi => ?_, fun hb hd => ?_⟩
  · refine Runs.calm (act := catchupAct) rfl hs hf ha hc ?_
    rw [catchupAct_idle (d := s.dev.fresh0.withPly (plyNoted h s.dev.ply)) hr]
    exact (silent_ply s (plyNoted h s.dev.ply)).2
  · refine Runs.calm (act := catchupAct) rfl hs hf ha hc ?_
    rw [catchupAct_plain (d := s.dev.fresh0.withPly (plyNoted h s.dev.ply)) hr hb, hi]
    exact (silent_ply s { plyNoted h s.dev.ply with badCnt := s.dev.ply.badCnt + 1 }).2
  · refine Runs.calm (act := catchupAct) rfl hs hf ha hc ?_
    rw [catchupAct_done (d := s.dev.fresh0.withPly (plyNoted h s.dev.ply)) hb hd]
    exact (silent_ply s (plyNoted h s.dev.ply)).2

/-- A CATCHUP frame of one item that belongs to no set runs as that item. -/
theorem Runs.catchItem (hs : s.up) (hf : (s.dev.port 2).rxOk (plyHead bytes) = true) (ha : plyAccepted 3 bytes s h pl)
    (hc : plyCalm h s.dev.ply) (hr : s.dev.ply.role = .joining) (hb : bit (catchHead pl) 64 = false) {i : CatchItem}
    (hi : catchItems pl = some [i]) {P : State → Prop}
    (hP : P (s.after (catchApply (s.dev.fresh0.withPly (plyNoted h s.dev.ply)) i))) :
    Runs (.plyCatchupReceive bytes) s P := by
  refine Runs.calm (act := catchupAct) rfl hs hf ha hc ?_
  rw [catchupAct_plain (d := s.dev.fresh0.withPly (plyNoted h s.dev.ply)) hr hb, hi]
  exact hP

/-- A state record of the leader. -/
theorem catchRecord_after (s : State) (n : Ply) (i : Nat) (b : List Byte) :
    let t := s.after (catchApply (s.dev.fresh0.withPly n) ⟨0, i, b⟩)
    t.dev.srec i = srecOf (leBits 128 b) ∧ (∀ j, j ≠ i → t.dev.srec j = s.dev.srec j) ∧
      s.silent t { s.dev with ply := n, lg := { s.dev.lg with states := t.dev.lg.states } } := by
  have he : catchApply (s.dev.fresh0.withPly n) ⟨0, i, b⟩ = (s.dev.fresh0.withPly n).setSrec i (srecOf (leBits 128 b)) := rfl
  rw [he]
  generalize srecOf (leBits 128 b) = r
  have hlg : (s.after ((s.dev.fresh0.withPly n).setSrec i r)).dev.lg =
      { s.dev.lg with states := tset SRec.reset s.dev.lg.states i r } := by simp only [State.after_dev]; rfl
  have hsrec (j : Nat) : (s.after ((s.dev.fresh0.withPly n).setSrec i r)).dev.srec j = if j = i then r else s.dev.srec j :=
    (congrArg (fun x : Logic => tget SRec.reset x.states j) hlg).trans (tget_tset ..)
  refine ⟨(hsrec i).trans (if_pos rfl), fun j hj => (hsrec j).trans (if_neg hj), ?_⟩
  rw [hlg]
  exact State.silent_of_eq rfl

/-- A loop as an item of the leader writes it (R533). -/
def Loop.caughtUp (l : Loop) (x : BitVec 288) : Loop := { l with
  integ := fld x 224 64, outLast := fld x 192 32, pvPrev := fld x 160 32, dfilt := fld x 128 32, spUsed := fld x 96 32
  feTmr := fld x 80 16, skipConsec := fld x 72 8, st := loopStOf (fld x 69 3).toNat, awHi := bit x 68, awLo := bit x 67
  extSat := bit x 66, feActive := bit x 65, tracking := bit x 64, lastFault := fld x 56 8, execCnt := fld x 0 32 }

theorem catchLoop_after (s : State) (n : Ply) (j : Nat) (b : List Byte) :
    let t := s.after (catchApply (s.dev.fresh0.withPly n) ⟨1, j, b⟩)
    t.dev.loop j = (s.dev.loop j).caughtUp (leBits 288 b) ∧ (∀ m, m ≠ j → t.dev.loop m = s.dev.loop m) ∧
      s.silent t { s.dev with ply := n, lp := { s.dev.lp with loops := t.dev.lp.loops } } := by
  have he : catchApply (s.dev.fresh0.withPly n) ⟨1, j, b⟩ =
      (s.dev.fresh0.withPly n).setLoop j ((s.dev.loop j).caughtUp (leBits 288 b)) := rfl
  rw [he]
  generalize (s.dev.loop j).caughtUp (leBits 288 b) = l
  have hlp : (s.after ((s.dev.fresh0.withPly n).setLoop j l)).dev.lp =
      { s.dev.lp with loops := tset Loop.reset s.dev.lp.loops j l } := by simp only [State.after_dev]; rfl
  have hloop (m : Nat) : (s.after ((s.dev.fresh0.withPly n).setLoop j l)).dev.loop m = if m = j then l else s.dev.loop m :=
    (congrArg (fun x : LoopEngine => tget Loop.reset x.loops m) hlp).trans (tget_tset ..)
  refine ⟨(hloop j).trans (if_pos rfl), fun m hm => (hloop m).trans (if_neg hm), ?_⟩
  rw [hlp]
  exact State.silent_of_eq rfl

/-- Does a point take a catch-up item: a task or a frame-rate loop produces it (R62, R72, R95). -/
def Point.catches (o : Point) : Prop :=
  (o.srcKind = 2 ∨ (o.srcKind = 3 ∧ o.srcIndex.toNat < 2048)) ∧ o.subst = false ∧ o.quarantined = false

/-- A point as an item of the leader writes it. -/
def Point.caughtUp (o : Point) (b : List Byte) : Point := { o with
  value := canonical o.ptype.toNat (leBits 64 (b.take 8)), tstamp := leBits 64 ((b.drop 8).take 8), detail := b.getD 16 0
  quality := fld (b.getD 17 0) 0 2 }

theorem catchApply_point {d : Dev} {k : Nat} {b : List Byte} :
    ((d.point k).catches → catchApply d ⟨2, k, b⟩ =
      (storePoint k ((d.point k).caughtUp b) (leBits 64 ((b.drop 8).take 8)) d).modPly id) ∧
    (¬(d.point k).catches → catchApply d ⟨2, k, b⟩ = d) := by
  unfold catchApply
  dsimp only
  refine ⟨fun ⟨h1, h2, h3⟩ => ?_, fun h => if_neg fun hc => h ?_⟩
  · rw [if_pos (by rcases h1 with h | ⟨h, h'⟩ <;> simp_all)]
    rfl
  · simpa [Point.catches, and_assoc] using hc

theorem catchPoint_after {s : State} (n : Ply) {k : Nat} (b : List Byte) (hk : (s.dev.point k).catches) :
    let t := s.after (catchApply (s.dev.fresh0.withPly n) ⟨2, k, b⟩)
    (t.dev.ply = n ∧ s.frame t { s.dev with ply := n, ps := t.dev.ps }) ∧
      (t.dev.point k).value = canonical (s.dev.point k).ptype.toNat (leBits 64 (b.take 8)) ∧
      (t.dev.point k).quality = fld (b.getD 17 0) 0 2 ∧ (t.dev.point k).detail = b.getD 16 0 ∧
      (t.dev.point k).tstamp = leBits 64 ((b.drop 8).take 8) ∧ ∀ j, j ≠ k → t.dev.point j = s.dev.point j := by
  have he : catchApply (s.dev.fresh0.withPly n) ⟨2, k, b⟩ =
      (storePoint k ((s.dev.point k).caughtUp b) (leBits 64 ((b.drop 8).take 8)) (s.dev.fresh0.withPly n)).modPly id :=
    catchApply_point.1 hk
  rw [he]
  obtain ⟨h1, h2, h3, h4⟩ := stored_after s n id k ((s.dev.point k).caughtUp b) (leBits 64 ((b.drop 8).take 8))
  generalize s.after _ = t at h1 h2 h3 h4 ⊢
  obtain ⟨v1, v2, v3, -⟩ := Point.stored_keeps (s.dev.point k) ((s.dev.point k).caughtUp b) (leBits 64 ((b.drop 8).take 8))
  dsimp only
  rw [h1]
  refine ⟨⟨h3, h4⟩, v1, v2, v3, ?_, h2⟩
  unfold Point.stored
  split <;> rfl

/-! ### The cutover set (R534) -/

/-- The ply unit with the set that it keeps, and with one that a frame has spoilt. -/
def Ply.cutKept (p : Ply) (x : CutIn) : Ply := { p with cutIn := some x }
def Ply.cutSpoilt (p : Ply) (x : CutIn) : Ply := { p with cutIn := some x, badCnt := p.badCnt + 1 }
def Ply.cutRuined (p : Ply) : Ply := { p with cutIn := p.cutIn.map CutIn.spoilt, badCnt := p.badCnt + 1 }

theorem Ply.cutMap_some {p : Ply} {x : CutIn} (f : CutIn → CutIn) (hx : p.cutIn = some x) : p.cutMap f = p.cutKept (f x) := by
  unfold Ply.cutMap
  rw [hx]
  rfl

theorem cutAged_some {c : W64} {d : Dev} {x : CutIn} (hx : d.ply.cutIn = some x) : ∃ y : CutIn,
    cutAged true c d = d.withPly (d.ply.cutKept y) ∧
      y = { x with bad := x.bad || (d.cutOver c && !x.ended) } := by
  unfold cutAged
  cases hc : d.cutOver c with
  | true =>
    rw [Bool.and_true, if_pos rfl]
    exact ⟨x.overdue, congrArg d.withPly (Ply.cutMap_some CutIn.overdue hx), rfl⟩
  | false =>
    rw [Bool.and_false, if_neg nofun, Bool.false_and, Bool.or_false]
    refine ⟨x, ?_, rfl⟩
    unfold Ply.cutKept
    rw [← hx]
    rfl

theorem cutFilled_ruined (last : Bool) (d : Dev) : cutFilled true last none d = d.withPly d.ply.cutRuined := rfl

theorem cutFilled_held (last : Bool) (xs : List CatchItem) (d : Dev) :
    cutFilled true last (some xs) d = d.withPly (d.ply.cutMap (CutIn.holds xs last)) := rfl

theorem cutFilled_some {c : W64} {last : Bool} {xs : List CatchItem} {d : Dev} {x : CutIn}
    (hx : d.ply.cutIn = some x) : cutFilled true last (some xs) (cutAged true c d) = d.withPly (d.ply.cutKept
      ⟨x.frame, x.items ++ xs, x.bad || (d.cutOver c && !x.ended), x.ended || last⟩) := by
  obtain ⟨y, hy, rfl⟩ := cutAged_some (c := c) hx
  rw [hy, cutFilled_held, Ply.cutMap_some (CutIn.holds xs last) rfl]
  rfl

theorem cutFilled_none {c : W64} {last : Bool} {d : Dev} {x : CutIn} (hx : d.ply.cutIn = some x) :
    cutFilled true last none (cutAged true c d) = d.withPly (d.ply.cutSpoilt { x with bad := true }) := by
  obtain ⟨y, hy, rfl⟩ := cutAged_some (c := c) hx
  rw [hy, cutFilled_ruined]
  rfl

/-- A CATCHUP frame of the set that is under way. -/
theorem catchup_same (hs : s.up) (hf : (s.dev.port 2).rxOk (plyHead bytes) = true) (ha : plyAccepted 3 bytes s h pl)
    (hc : plyCalm h s.dev.ply) {x : CutIn} (hr : s.dev.ply.role = .joining) (hb : bit (catchHead pl) 64 = true)
    (hd : s.dev.ply.cutDone ≠ some (fld (catchHead pl) 0 64)) (hx : s.dev.ply.cutIn = some x)
    (hfr : x.frame = fld (catchHead pl) 0 64) :
    let c : W64 := fld (catchHead pl) 0 64
    (∀ xs, catchItems pl = some xs → Runs (.plyCatchupReceive bytes) s (fun t => s.silent t { s.dev with
      ply := { plyNoted h s.dev.ply with
        cutIn := some ⟨c, x.items ++ xs, x.bad || (s.dev.cutOver c && !x.ended), x.ended || bit (catchHead pl) 65⟩ } })) ∧
    (catchItems pl = none → Runs (.plyCatchupReceive bytes) s (fun t => s.silent t { s.dev with
      ply := { plyNoted h s.dev.ply with cutIn := some { x with bad := true }, badCnt := s.dev.ply.badCnt + 1 } })) := by
  intro c
  have ho : cutOpened true false c (s.dev.fresh0.withPly (plyNoted h s.dev.ply)) =
      s.dev.fresh0.withPly (plyNoted h s.dev.ply) := by
    have hsame : (s.dev.fresh0.withPly (plyNoted h s.dev.ply)).ply.cutSame c = true := by
      unfold Ply.cutSame
      rw [show (s.dev.fresh0.withPly (plyNoted h s.dev.ply)).ply.cutIn = some x from hx]
      exact beq_iff_eq.2 hfr
    unfold cutOpened
    rw [hsame]
    exact if_neg nofun
  have he := (catchupAct_cut (h := h) (gap := false) (d := s.dev.fresh0.withPly (plyNoted h s.dev.ply)) hr hb hd).trans
    (congrArg (fun e => cutFilled true (bit (catchHead pl) 65) (catchItems pl) (cutAged true c e)) ho)
  have hx' : (s.dev.fresh0.withPly (plyNoted h s.dev.ply)).ply.cutIn = some x := hx
  refine ⟨fun xs hi => Runs.calm (act := catchupAct) rfl hs hf ha hc ?_, fun hi => Runs.calm (act := catchupAct) rfl hs hf ha hc ?_⟩
  · rw [he, hi, cutFilled_some hx', hfr]
    exact (silent_ply s _).2
  · rw [he, hi, cutFilled_none hx']
    exact (silent_ply s _).2

/-- The ply unit once a new set has begun and the join steps that it passes are passed. -/
theorem cutOpened_new {c : W64} {d : Dev} (hr : d.ply.role = .joining) (hn : d.ply.cutSame c = false) :
    ∃ q : Ply, cutOpened true false c d = d.withPly q ∧ q.cutIn = some ⟨c, [], d.cutGap c, false⟩ ∧ q.badCnt = d.ply.badCnt ∧
      q.catchupTries = (if 3 ≤ d.ply.catchupTries.toNat then 0 else d.ply.catchupTries) ∧
      (d.ply.joinStep = 5 → q.joinStep = 6) := by
  have he : cutOpened true false c d = joinAdvance 5 (d.withPly (d.ply.cutBegun c (d.cutGap c))) := by
    unfold cutOpened
    rw [hn]
    exact (if_pos rfl).trans (by rw [Bool.false_or]; rfl)
  rw [he]
  obtain ⟨h1, h2⟩ := joinAdvance_eq 5 (d.withPly (d.ply.cutBegun c (d.cutGap c)))
  refine ⟨(joinAdvance 5 (d.withPly (d.ply.cutBegun c (d.cutGap c)))).ply, h1, ?_, ?_, ?_, fun h5 => ?_⟩
  · unfold Ply.steps at h2
    rw [h2]
    rfl
  · unfold Ply.steps at h2
    rw [h2]
    rfl
  · unfold Ply.steps at h2
    rw [h2]
    rfl
  · have hj : (d.withPly (d.ply.cutBegun c (d.cutGap c))).ply.joinStep = 5 := h5
    have hstop (e : Dev) (h6 : e.ply.joinStep = 6) : joinAdvance 4 e = e := by
      unfold joinAdvance
      rw [h6]
      exact if_neg fun hh => Bool.false_ne_true hh.2
    unfold joinAdvance
    rw [hj, if_pos ⟨hr, rfl⟩, hstop]
    · show (d.ply.cutBegun c (d.cutGap c)).joinStep + 1 = 6
      rw [show (d.ply.cutBegun c (d.cutGap c)).joinStep = 5 from h5]
    · show (d.ply.cutBegun c (d.cutGap c)).joinStep + 1 = 6
      rw [show (d.ply.cutBegun c (d.cutGap c)).joinStep = 5 from h5]

/-- A CATCHUP frame that begins a set. -/
theorem catchup_new (hs : s.up) (hf : (s.dev.port 2).rxOk (plyHead bytes) = true) (ha : plyAccepted 3 bytes s h pl)
    (hc : plyCalm h s.dev.ply) (hr : s.dev.ply.role = .joining) (hb : bit (catchHead pl) 64 = true)
    (hd : s.dev.ply.cutDone ≠ some (fld (catchHead pl) 0 64))
    (hx : s.dev.ply.cutIn = none ∨ ∃ x, s.dev.ply.cutIn = some x ∧ x.frame ≠ fld (catchHead pl) 0 64) :
    let c : W64 := fld (catchHead pl) 0 64
    Runs (.plyCatchupReceive bytes) s (fun t => s.silent t { s.dev with ply := t.dev.ply } ∧
      t.dev.ply.catchupTries = (if 3 ≤ s.dev.ply.catchupTries.toNat then 0 else s.dev.ply.catchupTries) ∧
      (s.dev.ply.joinStep = 5 → t.dev.ply.joinStep = 6) ∧
      (∀ xs, catchItems pl = some xs →
        t.dev.ply.cutIn = some ⟨c, xs, s.dev.cutGap c || s.dev.cutOver c, bit (catchHead pl) 65⟩) ∧
      (catchItems pl = none → t.dev.ply.cutIn = some ⟨c, [], true, false⟩ ∧ t.dev.ply.badCnt = s.dev.ply.badCnt + 1)) := by
  intro c
  have hsame : (s.dev.fresh0.withPly (plyNoted h s.dev.ply)).ply.cutSame c = false := by
    unfold Ply.cutSame
    rcases hx with hx | ⟨x, hx, hne⟩
    · rw [show (s.dev.fresh0.withPly (plyNoted h s.dev.ply)).ply.cutIn = none from hx]
    · rw [show (s.dev.fresh0.withPly (plyNoted h s.dev.ply)).ply.cutIn = some x from hx]
      exact beq_eq_false_iff_ne.2 hne
  obtain ⟨q, ho, hin, hbad, htry, hstep⟩ := cutOpened_new (d := s.dev.fresh0.withPly (plyNoted h s.dev.ply)) hr hsame
  have he := (catchupAct_cut (h := h) (gap := false) (d := s.dev.fresh0.withPly (plyNoted h s.dev.ply)) hr hb hd).trans
    (congrArg (fun e => cutFilled true (bit (catchHead pl) 65) (catchItems pl) (cutAged true c e)) ho)
  refine Runs.calm (act := catchupAct) rfl hs hf ha hc ?_
  rw [he]
  cases hi : catchItems pl with
  | none =>
    rw [cutFilled_none hin]
    obtain ⟨h1, h2⟩ := silent_ply s (q.cutSpoilt ⟨c, [], true, false⟩)
    have hs' : s.after ((s.dev.fresh0.withPly q).withPly (q.cutSpoilt ⟨c, [], true, false⟩)) =
        s.after (s.dev.fresh0.withPly (q.cutSpoilt ⟨c, [], true, false⟩)) := rfl
    generalize ht : s.after _ = t
    have ht' := ht.symm.trans hs'
    have h1' := (congrArg (fun t : State => t.dev.ply) ht').trans h1
    refine ⟨?_, (congrArg Ply.catchupTries h1').trans htry, fun h5 => (congrArg Ply.joinStep h1').trans (hstep h5), nofun,
      fun _ => ⟨congrArg Ply.cutIn h1', (congrArg Ply.badCnt h1').trans (congrArg (· + 1) hbad)⟩⟩
    rw [h1', ht']
    exact h2
  | some xs =>
    rw [cutFilled_some hin]
    obtain ⟨h1, h2⟩ := silent_ply s (q.cutKept ⟨c, xs, s.dev.cutGap c || s.dev.cutOver c, bit (catchHead pl) 65⟩)
    have hy : (⟨c, [] ++ xs, s.dev.cutGap c || (s.dev.cutOver c && !false), false || bit (catchHead pl) 65⟩ : CutIn) =
        ⟨c, xs, s.dev.cutGap c || s.dev.cutOver c, bit (catchHead pl) 65⟩ := by simp
    have hk := congrArg q.cutKept hy
    have hs' : s.after ((s.dev.fresh0.withPly q).withPly (q.cutKept
        ⟨c, [] ++ xs, s.dev.cutGap c || (s.dev.cutOver c && !false), false || bit (catchHead pl) 65⟩)) =
        s.after (s.dev.fresh0.withPly (q.cutKept ⟨c, xs, s.dev.cutGap c || s.dev.cutOver c, bit (catchHead pl) 65⟩)) := by
      rw [hk]
      rfl
    generalize ht : s.after _ = t
    have ht' := ht.symm.trans hs'
    have h1' := (congrArg (fun t : State => t.dev.ply) ht').trans h1
    refine ⟨?_, (congrArg Ply.catchupTries h1').trans htry, fun h5 => (congrArg Ply.joinStep h1').trans (hstep h5), ?_, nofun⟩
    · rw [h1', ht']
      exact h2
    · intro ys hys
      obtain rfl := Option.some.inj hys
      exact congrArg Ply.cutIn h1'

end

end Sys2Proof.Machine
end

section
/-!
Notices of the twin, and what the frames of the twin do (R515, R520, R522, R523, R526, R539).
-/
namespace Sys2Proof.Machine

section
variable {x : W64} {d : Dev}

theorem noticeDo_warned (hc : (fld x 0 8).toNat = 1) :
    noticeDo x d = plyReport 0x0E0D true 1 (d.withPly { d.ply with twinWarn := true }) := by
  unfold noticeDo
  rw [hc]
  rfl

theorem noticeDo_calmed (hc : (fld x 0 8).toNat = 2) :
    noticeDo x d = plyReport 0x0E0D false 0 (d.withPly { d.ply with twinWarn := false }) := by
  unfold noticeDo
  rw [hc]
  rfl

theorem noticeDo_gone (hc : (fld x 0 8).toNat = 3 ∨ (fld x 0 8).toNat = 7) : noticeDo x d = twinGone true d := by
  unfold noticeDo
  rcases hc with hc | hc <;> simp only [hc]

theorem noticeDo_yield (hc : (fld x 0 8).toNat = 4) (hr : d.ply.role = .trailing) (hf : d.tb.frame < (fld x 8 56).setWidth 64) :
    noticeDo x d = d.withPly { d.ply with
      yieldAt := some ((fld x 8 56).setWidth 64), yieldTwin := true, yieldAck := false } := by
  unfold noticeDo
  rw [hc]
  exact if_pos ⟨hr, hf⟩

theorem noticeDo_yield_not (hc : (fld x 0 8).toNat = 4)
    (h : d.ply.role ≠ .trailing ∨ (fld x 8 56).setWidth 64 ≤ d.tb.frame) : noticeDo x d = d := by
  unfold noticeDo
  rw [hc]
  exact if_neg fun hh => h.elim (· hh.1) fun hle => BitVec.not_lt.2 hle hh.2

theorem noticeDo_unpair (hc : (fld x 0 8).toNat = 5) : noticeDo x d = unpair d := by
  unfold noticeDo
  simp only [hc]

theorem noticeDo_lines (hc : (fld x 0 8).toNat = 6) (hr : d.ply.role = .trailing) (ha : (fld x 24 2).toNat ≠ 3) :
    noticeDo x d = oneCycle (linesNamed (fun k => bit x (8 + k)) (fld x 24 2).toNat) d := by
  unfold noticeDo
  rw [hc]
  exact if_pos ⟨hr, ha⟩

theorem noticeDo_lines_not (hc : (fld x 0 8).toNat = 6) (h : d.ply.role ≠ .trailing ∨ (fld x 24 2).toNat = 3) :
    noticeDo x d = d := by
  unfold noticeDo
  rw [hc]
  exact if_neg fun hh => h.elim (· hh.1) (hh.2 ·)

theorem noticeDo_other (hc : (fld x 0 8).toNat = 0 ∨ 7 < (fld x 0 8).toNat) : noticeDo x d = d := by
  unfold noticeDo
  split
  any_goals omega
  rfl

end

section
variable {s : State} {n : Ply} {x : W64}

/-- A notice that does nothing. -/
theorem notice_idle (he : noticeDo x (s.dev.fresh0.withPly n) = s.dev.fresh0.withPly n) :
    s.silent (s.after (noticeDo x (s.dev.fresh0.withPly n))) { s.dev with ply := n } := by
  rw [he]
  exact (silent_ply s n).2

/-- The warning of the twin, or its end. -/
theorem notice_warned {q : Ply} {code data : Nat} {f : Bool}
    (he : noticeDo x (s.dev.fresh0.withPly n) = plyReport code f data ((s.dev.fresh0.withPly n).withPly q)) :
    let t := s.after (noticeDo x (s.dev.fresh0.withPly n))
    (t.dev.ply = q ∧ s.frame t { s.dev with ply := q, ps := t.dev.ps }) ∧ t.dev.ps = s.dev.ps := by
  rw [he]
  have h : s.dev.fresh0.onlyPly (plyReport code f data ((s.dev.fresh0.withPly n).withPly q)) :=
    Dev.onlyPly_trans (modPly_onlyPly (fun _ => q) s.dev.fresh0) (plyReport_onlyPly ..)
  obtain ⟨h1, h2⟩ := onlyPly_after h (q := q) (by rw [plyReport_ply]; rfl)
  have h3 : (s.after (plyReport code f data ((s.dev.fresh0.withPly n).withPly q))).dev.ps = s.dev.ps := by
    simp only [State.after_dev]
    have he' := h.2
    generalize plyReport code f data ((s.dev.fresh0.withPly n).withPly q) = a at he' ⊢
    rw [he']
    rfl
  dsimp only
  rw [h3]
  exact ⟨⟨h1, h2⟩, rfl⟩

/-- The twin gives up, or tells that it leaves. -/
theorem notice_gone (hc : (fld x 0 8).toNat = 3 ∨ (fld x 0 8).toNat = 7) (hr : n.role.serves) (hl : n.twinState ≠ .lost) :
    let q := (s.after (noticeDo x (s.dev.fresh0.withPly n))).dev.ply
    q.twinState = .lost ∧ q.lostCnt = n.lostCnt + 1 ∧ q.giveupSeen = true ∧
      q.role = if n.role = .trailing then .leading else n.role := by
  obtain ⟨-, h⟩ := twinGone_holds (giveup := true) (d := s.dev.fresh0.withPly n) hr hl
  rw [noticeDo_gone hc]
  have he : (s.after (twinGone true (s.dev.fresh0.withPly n))).dev.ply =
      if n.role = .trailing then (n.lost true).leads s.dev.tb.frame else n.lost true := by
    simp only [State.after_dev]
    exact h
  dsimp only
  rw [he]
  split <;> exact ⟨rfl, rfl, rfl, rfl⟩

/-- The twin leaves the pair. -/
theorem notice_unpair (hc : (fld x 0 8).toNat = 5) (hr : n.role.serves) :
    let t := s.after (noticeDo x (s.dev.fresh0.withPly n))
    t.dev.ply.role = .solo ∧ t.dev.ply.pairId = 0 ∧ t.dev.ply.twinState = .none ∧
      (n.role = .leading → t.dev.lines = s.dev.lines) ∧ (n.role ≠ .leading → ∀ k, k < 16 → (t.dev.line k).st = .off) := by
  have h1 : n.role ≠ .solo := by rcases hr with h | h | h <;> rw [h] <;> decide
  have h2 : n.role ≠ .dead := by rcases hr with h | h | h <;> rw [h] <;> decide
  obtain ⟨-, hp, -, ha, hl, ho, -⟩ := unpair_holds (d := s.dev.fresh0.withPly n) h1
  obtain ⟨ha1, ha2⟩ := ha h2
  rw [noticeDo_unpair hc]
  generalize unpair (s.dev.fresh0.withPly n) = a at hp ha1 ha2 hl ho ⊢
  dsimp only
  have e1 : (s.after a).dev.ply = a.ply := by simp only [State.after_dev]
  have e2 : (s.after a).dev.lines = a.lines := by simp only [State.after_dev]
  have e3 (k : Nat) : (s.after a).dev.line k = a.line k := by
    unfold Dev.line
    rw [e2]
  rw [e1, e2]
  refine ⟨ha1, hp, ha2, fun hh => (hl (.inl hh)).1, fun hh k hk => ?_⟩
  rw [e3]
  exact ho (hr.resolve_left hh) k hk

theorem notice_unpair_alone (hc : (fld x 0 8).toNat = 5) :
    (n.role = .solo → s.silent (s.after (noticeDo x (s.dev.fresh0.withPly n))) { s.dev with ply := n }) ∧
    (n.role = .dead → s.silent (s.after (noticeDo x (s.dev.fresh0.withPly n))) { s.dev with
      ply := { n with pairId := 0 } }) := by
  refine ⟨fun hr => notice_idle ?_, fun hr => ?_⟩
  · rw [noticeDo_unpair hc]
    unfold unpair
    rw [show (s.dev.fresh0.withPly n).ply.role = .solo from hr]
  · rw [noticeDo_unpair hc, unpair_dead (d := s.dev.fresh0.withPly n) hr]
    exact (silent_ply s { n with pairId := 0 }).2

/-- The strands that a notice of the leader names are switched. -/
theorem notice_lines (hc : (fld x 0 8).toNat = 6) (hr : n.role = .trailing) (ha : fld x 24 2 ≠ 3#2) :
    let t := s.after (noticeDo x (s.dev.fresh0.withPly n))
    let picked (k : Nat) : Prop := k < 16 ∧ bit x (8 + k) = true
    (∀ k, ¬picked k → t.dev.line k = s.dev.line k) ∧ t.dev.ply = n ∧ ∀ k, picked k →
      (fld x 24 2 = 0#2 → (t.dev.line k).st = .off) ∧
      (fld x 24 2 = 1#2 → (s.dev.line k).st = .off → (t.dev.line k).st = .precheck) ∧
      (fld x 24 2 = 1#2 → (s.dev.line k).st ≠ .off → t.dev.line k = s.dev.line k) ∧
      (fld x 24 2 = 2#2 → (s.dev.line k).st = .latched → (t.dev.line k).st = .precheck) := by
  have ha' : (fld x 24 2).toNat ≠ 3 := fun h => ha (BitVec.eq_of_toNat_eq h)
  rw [noticeDo_lines (d := s.dev.fresh0.withPly n) hc hr ha']
  have hm := oneCycle_movesLines (linesNamed_movesLines (fun k => bit x (8 + k)) (fld x 24 2).toNat) (s.dev.fresh0.withPly n)
  obtain ⟨r, hl, -⟩ := oneCycle_lines (linesNamed (fun k => bit x (8 + k)) (fld x 24 2).toNat) (s.dev.fresh0.withPly n)
  have hply := Dev.ply_of_movesLines hm
  generalize oneCycle _ _ = a at hl hply ⊢
  have hline (k : Nat) : (s.after a).dev.line k =
      if k < 16 ∧ bit x (8 + k) = true then (s.dev.line k).switched (fld x 24 2).toNat else s.dev.line k := by
    refine Eq.trans ?_ (linesNamed_line (fun k => bit x (8 + k)) (fld x 24 2).toNat ((s.dev.fresh0.withPly n).recorded r) k)
    have e2 : (s.after a).dev.lines = a.lines := by simp only [State.after_dev]
    unfold Dev.line
    rw [e2, hl]
  refine ⟨fun k hk => (hline k).trans (if_neg hk), ?_, fun k hk => ?_⟩
  · have e1 : (s.after a).dev.ply = a.ply := by simp only [State.after_dev]
    exact e1.trans hply
  · rw [(hline k).trans (if_pos hk)]
    refine ⟨fun h0 => ?_, fun h1 hst => ?_, fun h1 hst => ?_, fun h2 hst => ?_⟩
    · rw [h0]
      exact Line.switched_off _
    · rw [h1]
      unfold Line.switched
      rw [hst]
      rfl
    · rw [h1]
      unfold Line.switched
      rw [if_neg (by decide), if_neg (by simpa [LineSt.starts] using hst)]
    · rw [h2]
      unfold Line.switched
      rw [hst]
      rfl

end

/-- A NOTICE of the twin. -/
theorem notice_runs {s : State} {bytes : List Byte} {h : BitVec 256} {pl : List Byte} (hs : s.up)
    (hf : (s.dev.port 2).rxOk (plyHead bytes) = true) (ha : plyAccepted 4 bytes s h pl) (hc : plyCalm h s.dev.ply) {P : State → Prop}
    (hP : P (s.after (noticeDo (leBits 64 (slice pl 0 8)) (s.dev.fresh0.withPly (plyNoted h s.dev.ply))))) :
    Runs (.plyNoticeReceive bytes) s P := Runs.calm (act := noticeAct) rfl hs hf ha hc hP

/-- Every frame of the twin. -/
theorem plyFrames_common {s : State} (bytes : List Byte) (rx : Nat) (kind : Nat) (i : Instr)
    (hi : (kind, i) ∈ [(1, Instr.plyStatusReceive rx bytes), (2, .plyMirrorReceive bytes),
        (3, .plyCatchupReceive bytes), (4, .plyNoticeReceive bytes)]) :
    ∃ act, exec i s = mainStep (plyReceive kind bytes act) s ∧ ∀ gap h pl d, Dev.heeds gap d (act gap h pl d) := by
  simp only [List.mem_cons, Prod.mk.injEq, List.not_mem_nil, or_false] at hi
  rcases hi with ⟨rfl, rfl⟩ | ⟨rfl, rfl⟩ | ⟨rfl, rfl⟩ | ⟨rfl, rfl⟩
  · exact ⟨statusAct rx, rfl, statusAct_heeds rx⟩
  · exact ⟨mirrorAct, rfl, mirrorAct_heeds⟩
  · exact ⟨catchupAct, rfl, catchupAct_heeds⟩
  · exact ⟨noticeAct, rfl, noticeAct_heeds⟩

/-- Settles O57, kind by kind of the frames of the twin. -/
theorem plyFramesReceived : Obligations.PlyFramesReceived := by
  unfold Obligations.PlyFramesReceived
  intro s bytes rx hs p silent only fits
  refine ⟨fun kind i hi => ?_, fun h pl hf ha hc => ?_, fun h pl hf ha hc hl => ?_, fun h pl hf ha hc => ?_,
    fun h pl hf ha hc => ?_⟩
  · obtain ⟨act, hx, hact⟩ := plyFrames_common bytes rx kind i hi
    exact plyReceive_runs hx hs hact
  · exact status_runs hs hf ha hc
  · exact mirror_runs hs hf ha hc hl
  · obtain ⟨h1, h2, h3⟩ := catchup_idle hs hf ha hc
    refine ⟨h1, h2, fun i b hr hb hi => ?_, fun j b hr hb hi => ?_, fun k b hr hb hi => ⟨fun ht => ?_, fun ht => ?_⟩,
      fun _ hb hd => h3 hb hd, fun x hr hb hd hx hfr => catchup_same hs hf ha hc hr hb hd hx hfr,
      fun hr hb hd hx => catchup_new hs hf ha hc hr hb hd hx⟩
    · exact Runs.catchItem hs hf ha hc hr hb hi (catchRecord_after s (plyNoted h p) i b)
    · refine Runs.catchItem hs hf ha hc hr hb hi ?_
      obtain ⟨l1, l2, l3⟩ := catchLoop_after s (plyNoted h p) j b
      dsimp only
      rw [l1]
      exact ⟨rfl, rfl, rfl, rfl, rfl, rfl, l2, l3⟩
    · exact Runs.catchItem hs hf ha hc hr hb hi (catchPoint_after (plyNoted h p) b ht)
    · refine Runs.catchItem hs hf ha hc hr hb hi ?_
      rw [(catchApply_point (d := s.dev.fresh0.withPly (plyNoted h p))).2 ht]
      exact (silent_ply s (plyNoted h p)).2
  · intro x code n serving picked
    refine notice_runs hs hf ha hc ?_
    refine ⟨fun h1 => notice_warned (noticeDo_warned h1), fun h1 => notice_warned (noticeDo_calmed h1),
      fun h1 hr hl => notice_gone h1 hr hl, fun h1 hr => notice_idle ?_, fun h1 hr hfr => ?_, fun h1 hr => notice_idle ?_,
      fun h1 hr => notice_unpair h1 hr, fun h1 hr => (notice_unpair_alone h1).1 hr, fun h1 hr => (notice_unpair_alone h1).2 hr,
      fun h1 hr ha => notice_lines h1 hr ha, fun h1 hr => notice_idle ?_, fun h1 => notice_idle (noticeDo_other h1)⟩
    · rw [noticeDo_gone h1]
      exact twinGone_idle hr
    · rw [noticeDo_yield (d := s.dev.fresh0.withPly n) h1 hr hfr]
      exact (silent_ply s _).2
    · exact noticeDo_yield_not (d := s.dev.fresh0.withPly n) h1 hr
    · exact noticeDo_lines_not (d := s.dev.fresh0.withPly n) h1 (hr.imp id (congrArg BitVec.toNat))

end Sys2Proof.Machine
end

section
/-!
O33 gives the phases B to F the boundaries out of the samples 2, 14, 20, 21 and 28. The phases begin with these samples (R22), so
with the boundaries into them: the boundary out of sample 28 finds phase F begun already and begins nothing.
-/
namespace Sys2Proof.Machine

/-- A boundary that names no reading, cuts nothing and reaches everything. -/
def plainSample : SampleIn := ⟨⟨[], [], []⟩, none, [], false, []⟩

/-- A running module in sample 28 whose phase F has not begun. -/
def inSample28 : State := { State.reset with dev := { Dev.reset with
  pwr := { Dev.reset.pwr with main := .running }, tb := { Dev.reset.tb with sample := 28 } } }

theorem inSample28_up : inSample28.up := by decide +kernel

/-- The module after the boundary. -/
def inSample29 : State := inSample28.withSram (fun _ => whenMain (sampleBoundary plainSample))

/-- The boundary into sample 29 begins no phase F. -/
theorem inSample29_idle : inSample29.dev.cp.running.isSome = false := by decide +kernel

/-- Refutes O33: the boundary out of sample 28 leaves the command processor without a running phase F. -/
theorem not_sampleBoundaries : ¬ Obligations.SampleBoundaries := by
  intro h
  obtain ⟨-, -, -, -, -, -, hf, -⟩ := h inSample28 plainSample inSample28_up
  obtain ⟨t, ht, hrun, -⟩ := hf rfl
  have hx : exec (.sampleBoundary plainSample) inSample28 = .next inSample29 := rfl
  obtain rfl : inSample29 = t := Host.Outcome.next.inj (hx.symm.trans ht)
  exact Bool.false_ne_true (inSample29_idle.symm.trans hrun)

end Sys2Proof.Machine
end

section
/-!
O34 says that phase A leaves the measured current in the point of an enabled current-loop channel. A HART reply that waits under an
address for which the 28 bits of SRC_INDEX wrap names the same producer, and its value comes after the current.
-/
namespace Sys2Proof.Machine

/-! ### The HART points of a channel that polls no address -/

theorem bitsBelow_zero (w i : Nat) : bitsBelow (0 : BitVec w) i = 0 := by
  unfold bitsBelow
  rw [List.filter_eq_nil_iff.2 fun j _ => by simp [bit], List.length_nil]

/-- One HART point takes what waits for it. -/
def hartTake (k p : Nat) (x : Nat × Option W64 × BitVec 2 × BitVec 8 × W64) (d : Dev) : Dev :=
  match x.2.1 with
  | some v => produceAs 5 (256 + 64 * k + x.1) p v x.2.2.1 x.2.2.2.1 x.2.2.2.2 d
  | none => produceQAs 5 (256 + 64 * k + x.1) p x.2.2.1 x.2.2.2.1 x.2.2.2.2 d

theorem hartCommit_eq (k : Nat) (d : Dev) : hartCommit k d =
    if !(d.cloop k).en then d.setCloop k { d.cloop k with hartDue := [] }
    else (d.cloop k).hartDue.foldl (fun e x => hartTake k ((d.cloop k).hartPoint x.1) x e)
      (d.setCloop k { d.cloop k with hartDue := [] }) := rfl

/-- The HART points of a channel without polled addresses, all at the first of its points. -/
def hartCommitFirst (k : Nat) (d : Dev) : Dev :=
  if !(d.cloop k).en then d.setCloop k { d.cloop k with hartDue := [] }
  else (d.cloop k).hartDue.foldl (fun e x => hartTake k (d.cloop k).hptBase x e) (d.setCloop k { d.cloop k with hartDue := [] })

theorem hartCommit_first {k : Nat} {d : Dev} (h : (d.cloop k).pollMask = 0) : hartCommit k d = hartCommitFirst k d := by
  have hp (a : Nat) : (d.cloop k).hartPoint a = (d.cloop k).hptBase := by
    unfold CLoop.hartPoint
    rw [h, bitsBelow_zero]
    rfl
  rw [hartCommit_eq]
  simp only [hp]
  rfl

/-! ### Phase A around the commit of channel 0 -/

/-- The quantities of channel `k` in phase A. -/
def quantsDone (k : Nat) (cal : W64) (d : Dev) : Dev :=
  let c := d.cloop k
  let x := c.condDue
  let q := clQuality c x c.sum c.n
  if !c.en || !c.ready then d else c.quantPoints.foldl (fun d p =>
    match p.1 with
    | 0 => produceAs 5 (16 * k + p.1) p.2 (c.measNa.setWidth 64) q.1 q.2 cal d
    | 1 => produceAs 5 (16 * k + p.1) p.2 ((f32Ratio (c.measNa.toInt - 4000000) 160000).setWidth 64) q.1 q.2 cal d
    | _ => produceAs 5 (16 * k + p.1) p.2 (x.code.setWidth 64) 0 0 cal d) d

theorem clCommit_eq (k : Nat) (cal : W64) (d : Dev) : clCommit k cal d = clClear k (hartCommit k (quantsDone k cal d)) := rfl

/-- Phase A up to the current loops. -/
def beforeLoops (d : Dev) : Dev :=
  let d := d.strandDue.foldl (fun d x => commitSlot x.1 x.2.1 x.2.2 d) d
  let d := (List.range 16).foldl (fun d k =>
    if (d.strand k).done.isSome then d.modStrand k (fun x => { x with done := none }) else d) d
  meterAfterA (d.meterDue.foldl (fun d x => meterWritten x.1 x.2.1 (quantCommit x.1 x.2.1 x.2.2 d)) d)

/-- Phase A after the current loops. -/
def afterLoops (d : Dev) : Dev :=
  let d := (if d.diag.en then List.range 14 else []).foldl (fun d i => safetyPoint i d) d
  noteCut .a false ((d.enabledLoops false).foldl (fun d j => loopLatch j d) d)

theorem phaseA_eq (cal : W64) (d : Dev) :
    phaseA none cal d = afterLoops ((List.range 8).foldl (fun d k => clCommit k cal d) (beforeLoops d)) := by
  unfold phaseA
  simp only [stepLimit, reached, unreached, workLeft, List.isEmpty_nil, if_true, List.foldl_nil]
  rfl

/-- Phase A with the HART points of channel 0, which polls no address, taken at the first of them. -/
def phaseAFirst (cal : W64) (d : Dev) : Dev :=
  afterLoops ([1, 2, 3, 4, 5, 6, 7].foldl (fun d k => clCommit k cal d)
    (clClear 0 (hartCommitFirst 0 (quantsDone 0 cal (beforeLoops d)))))

theorem phaseA_first {cal : W64} {d : Dev} (h : ((quantsDone 0 cal (beforeLoops d)).cloop 0).pollMask = 0) :
    phaseA none cal d = phaseAFirst cal d := by
  have hr : List.range 8 = [0, 1, 2, 3, 4, 5, 6, 7] := rfl
  rw [phaseA_eq, hr, List.foldl_cons, clCommit_eq, hartCommit_first h]
  rfl

/-! ### The frame start -/

/-- Calendar time of the frame that ends, as phase A stamps with it. -/
def endedCal (ram : Nat → Byte) (d : Dev) : W64 :=
  (noteDeferred (settleStrobes (endPhaseF ram (restartSettle (settleLimits (settleSample (restOfFrame d))))))).tb.cal0

theorem frameStart_eq (x : FrameIn) (snap : Option (List (BitVec 512))) (ram : Nat → Byte) (d : Dev) :
    frameStart x snap ram d = thermal x.temp (phaseA x.reach (endedCal ram d) (d.atFrame x snap ram)) := rfl

/-- A frame start that names no reading. -/
def plainFrame : FrameIn := ⟨⟨[], [], []⟩, none, [], 25⟩

/-- A running module in the last sample of a frame. Channel 0 measures into point 0, and a HART reply waits under the address
2^28 - 256. -/
def hartWaits : State := { State.reset with dev := ({ Dev.reset with
  pwr := { Dev.reset.pwr with main := .running }, tb := { Dev.reset.tb with sample := 31 } }.setCloop 0 { CLoop.reset with
    cfg := CLoop.reset.cfg ||| putB 2048 0 true ||| put 2048 8 1#2 ||| put 2048 13 1#3, ready := true
    hartDue := [(268435200, some 1, 0, 0, 0)] }).setPoint 0 { Point.reset with ptype := 1, srcKind := 5, srcIndex := 0 } }

/-- The module as its frame start brings it to phase A. -/
def hartWaiting : Dev := hartWaits.dev.fresh0.atFrame plainFrame hartWaits.isl.snapshot (Memory.read hartWaits.sram)

theorem hartWaits_up : hartWaits.up ∧ hartWaits.dev.tb.sample = 31 ∧ hartWaits.dev.cp.running = none := by decide +kernel

theorem hartWaiting_measures :
    (hartWaiting.cloop 0).en = true ∧ (hartWaiting.cloop 0).ready = true ∧ (0, 0) ∈ (hartWaiting.cloop 0).quantPoints ∧
      hartWaiting.produces 5 (16 * 0) 0 = true ∧ (hartWaiting.cloop 0).measNa = 0 ∧ (hartWaiting.point 0).subst = false ∧
      (hartWaiting.point 0).quarantined = false ∧ (hartWaiting.point 0).ptype = 1 ∧
      (hartWaiting.point 0).ptype ≠ 4 := by decide +kernel

theorem hartWaiting_polls : ((quantsDone 0 (endedCal (Memory.read hartWaits.sram) hartWaits.dev.fresh0)
    (beforeLoops hartWaiting)).cloop 0).pollMask = 0 := by decide +kernel

/-- The module after the frame start. -/
def hartTaken : State := hartWaits.withSram (fun ram => whenMain (frameStart plainFrame hartWaits.isl.snapshot ram))

theorem point_departed (e : Dev) (k : Nat) : ({ depart e with wr := [] } : Dev).point k = e.point k := by
  unfold Dev.point
  simp

theorem hartTaken_value : (hartTaken.dev.point 0).value = 1 := by
  have hm (ram : Nat → Byte) : whenMain (frameStart plainFrame hartWaits.isl.snapshot ram) hartWaits.dev.fresh0 =
      frameStart plainFrame hartWaits.isl.snapshot ram hartWaits.dev.fresh0 := by
    unfold whenMain
    rw [Dev.isMain_fresh0, show hartWaits.dev.isMain = true from hartWaits_up.1, if_pos rfl]
  have hp := phaseA_first hartWaiting_polls
  unfold hartWaiting at hp
  have hreach : plainFrame.reach = none := rfl
  unfold hartTaken
  rw [State.withSram_dev, point_departed, hm, frameStart_eq, hreach, hp]
  decide +kernel

/-- The measured current of a channel, where its point is not substituted nor a number of TYPE 4. -/
theorem inputsCommitted_current {d d' : Dev} (h : inputsCommitted d d') {k p : Nat} (hk : k < 8) (hen : (d.cloop k).en = true)
    (hready : (d.cloop k).ready = true) (hmem : (0, p) ∈ (d.cloop k).quantPoints) (hprod : d.produces 5 (16 * k) p = true)
    (hsubst : (d.point p).subst = false) (hquar : (d.point p).quarantined = false) (htype : (d.point p).ptype ≠ 4) :
    (d'.point p).value = canonical (d.point p).ptype.toNat ((d.cloop k).measNa.setWidth 64) := by
  obtain ⟨-, -, hloops, -⟩ := h
  have htook := hloops k hk hen hready p hmem hprod hsubst hquar
  rw [if_neg fun hc => htype hc.1] at htook
  exact htook.1

/-- Refutes O34: point 0 holds what the HART reply brought, 1, and not the measured current, 0. -/
theorem not_frameStarts : ¬ Obligations.FrameStarts := by
  intro h
  obtain ⟨hup, hsample, hrun⟩ := hartWaits_up
  obtain ⟨hcold, -⟩ := h hartWaits plainFrame hup hsample hrun
  obtain ⟨t, ht, -, -, -, -, -, -, -, -, -, -, -, -, hin⟩ := hcold (by decide)
  have hx : exec (.frameStart plainFrame) hartWaits = .next hartTaken := rfl
  obtain rfl : hartTaken = t := Host.Outcome.next.inj (hx.symm.trans ht)
  obtain ⟨hen, hready, hmem, hprod, hmeas, hsubst, hquar, htype, hnan⟩ := hartWaiting_measures
  have hv := inputsCommitted_current (hin rfl) (by decide) hen hready hmem hprod hsubst hquar hnan
  unfold hartWaiting at hmeas htype
  rw [htype, hmeas] at hv
  have hv' := hartTaken_value.symm.trans hv
  exact absurd hv' (by decide)

end Sys2Proof.Machine
end

section
/-!
The strobe at the end of a phase's window: overruns and measured cycles (R24, R49, R50, R52).
-/
namespace Sys2Proof.Machine

/-- What every run of a function does in `R`, it does in its cycle of the recorder. -/
theorem oneCycle_rel {R : Dev → Dev → Prop} (ht : ∀ a b c, R a b → R b c → R a c)
    (hr : ∀ a b, Dev.reportsOnly a b → Dev.reportsTo a b → R a b) {f : Dev → Dev} (h : ∀ d, R d (f d)) (d : Dev) :
    R d (oneCycle f d) := by
  unfold oneCycle
  split
  · exact h d
  · have hopen : R d { d with rcd := { d.rcd with intake := some [] } } := hr _ _ rfl ⟨fun _ => rfl, rfl, rfl, rfl⟩
    exact ht _ _ _ (ht _ _ _ hopen (h _)) (hr _ _ (recordCycle_reportsOnly _) (recordCycle_reportsTo _))

/-! ### Overruns (R49, R50) -/

/-- The timebase with one more overrun of a phase. -/
def Timebase.overran (t : Timebase) (p : Phase) : Timebase := { t with
  ovr := t.ovr ||| putB 6 (phaseIndex p) true
  ovrCnt := tset 0 t.ovrCnt (phaseIndex p) (satAdd (tget 0 t.ovrCnt (phaseIndex p)) 1)
  cut := t.cut.filter (fun q => q != p) }

/-- The timebase with the cycles measured in a phase. -/
def Timebase.peaked (t : Timebase) (p : Phase) (n : Nat) : Timebase :=
  { t with peak := tset 0 t.peak (phaseIndex p) (maxU (tget 0 t.peak (phaseIndex p)) (satNat 32 n)) }

theorem overrun_tb (p : Phase) (d : Dev) : (overrun p d).tb = d.tb.overran p := by
  unfold overrun
  dsimp only
  simp only [report_keeps]
  rfl

theorem overrun_lp (p : Phase) (d : Dev) : (overrun p d).lp = d.lp := by
  unfold overrun
  dsimp only
  simp only [report_keeps]
  rfl

/-- What a strobe does beside its overrun. -/
def strobeWork (p : Phase) (d : Dev) : Dev :=
  match p with
  | .b => (List.range 8).foldl (fun d t => taskStrobe t d) d
  | .c => loopsStrobe d
  | _ => d

theorem phaseStrobe_eq (p : Phase) (d : Dev) :
    phaseStrobe p d = if d.tb.cut.contains p then oneCycle (fun d => overrun p (strobeWork p d)) d else d := by
  cases p <;> rfl

theorem phaseStrobe_uncut {p : Phase} {d : Dev} (h : p ∉ d.tb.cut) : phaseStrobe p d = d := by
  rw [phaseStrobe_eq]
  exact if_neg fun hc => h (List.contains_iff_mem.1 hc)

theorem phaseStrobe_cut {p : Phase} {d : Dev} (h : p ∈ d.tb.cut) :
    phaseStrobe p d = oneCycle (fun d => overrun p (strobeWork p d)) d := by
  rw [phaseStrobe_eq]
  exact if_pos (List.contains_iff_mem.2 h)

/-- The timebase at the strobe of a phase. -/
def Timebase.struck (t : Timebase) (p : Phase) (n : Nat) : Timebase := ((if p ∈ t.cut then t.overran p else t)).peaked p n

/-- What the strobe leaves of the timebase. -/
theorem Timebase.struck_holds (t : Timebase) (p : Phase) (n : Nat) :
    let k := phaseIndex p
    let u := t.struck p n
    (p ∈ t.cut → u.ovr = t.ovr ||| putB 6 k true ∧ tget 0 u.ovrCnt k = satAdd (tget 0 t.ovrCnt k) 1 ∧ p ∉ u.cut) ∧
      (p ∉ t.cut → u.ovr = t.ovr ∧ u.ovrCnt = t.ovrCnt ∧ u.cut = t.cut) ∧
      tget 0 u.peak k = maxU (tget 0 t.peak k) (satNat 32 n) ∧
      u = { t with ovr := u.ovr, ovrCnt := u.ovrCnt, cut := u.cut, peak := u.peak } := by
  intro k u
  by_cases h : p ∈ t.cut
  · have hu : u = (t.overran p).peaked p n := by
      show t.struck p n = _
      unfold Timebase.struck
      rw [if_pos h]
    rw [hu]
    refine ⟨fun _ => ⟨rfl, tget_tset_self .., fun hc => ?_⟩, fun hc => absurd h hc, tget_tset_self .., rfl⟩
    have hm := (List.mem_filter.1 hc).2
    simp at hm
  · have hu : u = t.peaked p n := by
      show t.struck p n = _
      unfold Timebase.struck
      rw [if_neg h]
    rw [hu]
    exact ⟨fun hc => absurd hc h, fun _ => ⟨rfl, rfl, rfl⟩, tget_tset_self .., rfl⟩

/-! ### The work of the strobes (R311, R315, R355) -/

theorem taskStrobe_keeps (t : Nat) (d : Dev) : (taskStrobe t d).tb = d.tb ∧ (taskStrobe t d).wr = d.wr := by
  have hf (why : BitVec 8) (e : Dev) : (taskFault t why e).tb = e.tb ∧ (taskFault t why e).wr = e.wr := by
    obtain ⟨⟨⟨-, h⟩, -⟩, -⟩ := taskFault_holds t why e
    rw [h]
    exact ⟨rfl, rfl⟩
  unfold taskStrobe
  dsimp only
  split
  · split
    · obtain ⟨h1, h2⟩ := hf 1 _
      rw [h1, h2]
      simp
    · simp
  · split
    · obtain ⟨h1, h2⟩ := hf 2 _
      rw [h1, h2]
      simp
    · simp
  · exact ⟨rfl, rfl⟩

/-- From `d` to `d'` loops have changed, beside what reports write. -/
def Dev.executes (d d' : Dev) : Prop :=
  d.reportsTo d' ∧ d' = { d with lp := d'.lp, tr := d'.tr, rcd := d'.rcd, flt := d'.flt }

theorem Dev.executes_refl (d : Dev) : d.executes d := ⟨Dev.reportsTo_refl d, rfl⟩

theorem Dev.executes_trans {a b c : Dev} (h1 : a.executes b) (h2 : b.executes c) : a.executes c := by
  obtain ⟨hr, he⟩ := h1
  obtain ⟨hr', he'⟩ := h2
  exact ⟨Dev.reportsTo_trans hr hr', by rw [he', he]⟩

theorem Dev.executes_of_reports {a b : Dev} (h : a.reportsOnly b) (hr : a.reportsTo b) : a.executes b := by
  unfold Dev.reportsOnly at h
  exact ⟨hr, by rw [h]⟩

/-- What an execution keeps. -/
theorem Dev.executes_keeps {a b : Dev} (h : a.executes b) :
    b.tb = a.tb ∧ b.ps = a.ps ∧ b.cl = a.cl ∧ b.wr = a.wr := by
  rw [h.2]
  exact ⟨rfl, rfl, rfl, rfl⟩

theorem foldl_executes {α : Type} {f : Dev → α → Dev} (h : ∀ d x, Dev.executes d (f d x)) (xs : List α) (d : Dev) :
    d.executes (xs.foldl f d) := by
  induction xs generalizing d with
  | nil => exact Dev.executes_refl d
  | cons x xs ih => exact Dev.executes_trans (h d x) (ih _)

theorem setLp_executes (x : LoopEngine) (d : Dev) : d.executes { d with lp := x } := ⟨Dev.reportsTo_of_eq rfl rfl rfl, rfl⟩

theorem loopReport_executes (j : Nat) (e : LoopEv) (d : Dev) : d.executes (loopReport j e d) := by
  unfold loopReport
  dsimp only
  generalize hb : Dev.mk .. = b
  have hd : d.executes b := by
    rw [← hb]
    exact setLp_executes ..
  split
  · exact Dev.executes_trans hd (Dev.executes_of_reports (reportLimited_reportsOnly ..) (reportLimited_reportsTo ..))
  · exact Dev.executes_trans hd (Dev.executes_of_reports (report_reportsOnly ..) (report_reportsTo ..))

theorem loopPut_executes (j : Nat) (r : Loop × List LoopEv) (d : Dev) : d.executes (loopPut j r d) :=
  Dev.executes_trans (setLp_executes ..) (foldl_executes (fun d e => loopReport_executes j e d) r.2 _)

/-- The loop that executes takes its new record, and no other changes. -/
theorem loopPut_loop (j m : Nat) (r : Loop × List LoopEv) (d : Dev) :
    (loopPut j r d).loop m = if m = j then r.1 else d.loop m := by
  obtain ⟨-, h, -⟩ := loopReports_holds j r.2 (d.setLoop j r.1)
  exact (Dev.loop_of_loops h m).trans (Dev.loop_setLoop ..)

theorem loopMiss_executes (j : Nat) (cal : W64) (d : Dev) : d.executes (loopMiss j cal d) := loopPut_executes ..

theorem loopRun_executes (j : Nat) (cal : W64) (d : Dev) : d.executes (loopRun j cal d) := loopPut_executes ..

theorem loopsStrobe_executes (d : Dev) : d.executes (loopsStrobe d) := by
  unfold loopsStrobe
  split
  · exact Dev.executes_refl d
  · next c _ =>
    have h := foldl_executes (fun d j => loopMiss_executes j d.tb.cal0 d)
      ((d.enabledLoops false).filter (fun j => decide (c ≤ j))) d
    dsimp only
    generalize List.foldl _ d _ = a at h ⊢
    exact Dev.executes_trans h (setLp_executes ..)

/-! ### The strobe of a phase -/

/-- From `d` to `d'` the timebase and the loops have changed, beside what reports write. -/
def Dev.times (d d' : Dev) : Prop :=
  d.reportsTo d' ∧ d' = { d with tb := d'.tb, lp := d'.lp, tr := d'.tr, rcd := d'.rcd, flt := d'.flt }

theorem Dev.times_refl (d : Dev) : d.times d := ⟨Dev.reportsTo_refl d, rfl⟩

theorem Dev.times_trans (a b c : Dev) (h1 : a.times b) (h2 : b.times c) : a.times c := by
  obtain ⟨hr, he⟩ := h1
  obtain ⟨hr', he'⟩ := h2
  exact ⟨Dev.reportsTo_trans hr hr', by rw [he', he]⟩

theorem Dev.times_of_reports (a b : Dev) (h : a.reportsOnly b) (hr : a.reportsTo b) : a.times b := by
  unfold Dev.reportsOnly at h
  exact ⟨hr, by rw [h]⟩

theorem Dev.times_of_executes {a b : Dev} (h : a.executes b) : a.times b := by
  obtain ⟨hr, he⟩ := h
  exact ⟨hr, by rw [he]⟩

theorem modTb_times (f : Timebase → Timebase) (d : Dev) : d.times (d.modTb f) := ⟨Dev.reportsTo_of_eq rfl rfl rfl, rfl⟩

theorem overrun_times (p : Phase) (d : Dev) : d.times (overrun p d) :=
  Dev.times_trans _ _ _ (modTb_times (·.overran p) d)
    (Dev.times_of_reports _ _ (report_reportsOnly ..) (report_reportsTo ..))

theorem taskStrobes_keeps (ts : List Nat) (d : Dev) : (ts.foldl (fun d t => taskStrobe t d) d).tb = d.tb ∧
    (ts.foldl (fun d t => taskStrobe t d) d).wr = d.wr := by
  induction ts generalizing d with
  | nil => exact ⟨rfl, rfl⟩
  | cons t ts ih =>
    obtain ⟨h1, h2⟩ := taskStrobe_keeps t d
    obtain ⟨i1, i2⟩ := ih (taskStrobe t d)
    exact ⟨i1.trans h1, i2.trans h2⟩

theorem strobeWork_keeps (p : Phase) (d : Dev) : (strobeWork p d).tb = d.tb ∧ (strobeWork p d).wr = d.wr := by
  cases p with
  | b => exact taskStrobes_keeps _ d
  | c =>
    obtain ⟨htb, -, -, hwr⟩ := Dev.executes_keeps (loopsStrobe_executes d)
    exact ⟨htb, hwr⟩
  | a => exact ⟨rfl, rfl⟩
  | d => exact ⟨rfl, rfl⟩
  | e => exact ⟨rfl, rfl⟩
  | f => exact ⟨rfl, rfl⟩

theorem phaseStrobe_wr (p : Phase) (d : Dev) : (phaseStrobe p d).wr = d.wr := by
  by_cases h : p ∈ d.tb.cut
  · rw [phaseStrobe_cut h]
    obtain ⟨r, hr⟩ := oneCycle_keeps Dev.wr (fun d => overrun p (strobeWork p d)) d (fun _ _ _ _ => rfl)
    rw [hr]
    exact (congrArg Dev.wr (overrun_times p _).2).trans (strobeWork_keeps p _).2
  · rw [phaseStrobe_uncut h]

theorem phaseStrobe_tb (p : Phase) (d : Dev) :
    (phaseStrobe p d).tb = if p ∈ d.tb.cut then d.tb.overran p else d.tb := by
  by_cases h : p ∈ d.tb.cut
  · rw [if_pos h, phaseStrobe_cut h]
    obtain ⟨r, hr⟩ := oneCycle_keeps Dev.tb (fun d => overrun p (strobeWork p d)) d (fun _ _ _ _ => rfl)
    rw [hr, overrun_tb, (strobeWork_keeps p _).1]
  · rw [if_neg h, phaseStrobe_uncut h]

theorem notePeak_tb (p : Phase) (n : Nat) (d : Dev) : (notePeak p n (phaseStrobe p d)).tb = d.tb.struck p n := by
  have h : (notePeak p n (phaseStrobe p d)).tb = (phaseStrobe p d).tb.peaked p n := rfl
  rw [h, phaseStrobe_tb]
  rfl

/-- The strobe of a phase without tasks. -/
theorem phaseStrobe_times {p : Phase} (h : ∀ d, Dev.times d (strobeWork p d)) (d : Dev) : d.times (phaseStrobe p d) := by
  by_cases hc : p ∈ d.tb.cut
  · rw [phaseStrobe_cut hc]
    exact oneCycle_rel Dev.times_trans Dev.times_of_reports
      (fun d => Dev.times_trans _ _ _ (h d) (overrun_times p _)) d
  · rw [phaseStrobe_uncut hc]
    exact Dev.times_refl d

/-- The strobe of a phase that takes part in none of the other units. -/
theorem phaseStrobe_lp {p : Phase} (h : ∀ d, strobeWork p d = d) (d : Dev) : (phaseStrobe p d).lp = d.lp := by
  by_cases hc : p ∈ d.tb.cut
  · rw [phaseStrobe_cut hc]
    obtain ⟨r, hr⟩ := oneCycle_keeps Dev.lp (fun d => overrun p (strobeWork p d)) d (fun _ _ _ _ => rfl)
    rw [hr, h]
    exact overrun_lp p _
  · rw [phaseStrobe_uncut hc]

/-- The state after a step that moves the timebase and the loops. -/
theorem times_after {s : State} {a : Dev} (h : s.dev.fresh0.times a) :
    let t := s.after a
    t.dev.tb = a.tb ∧ t.dev.lp = a.lp ∧ s.frame t { s.dev with tb := t.dev.tb, lp := t.dev.lp } := by
  obtain ⟨hr, he⟩ := h
  have hf : s.frame (s.after a) { s.dev with tb := a.tb, lp := a.lp } :=
    State.frame_of_eq (Dev.reportsTo_congr hr rfl rfl rfl) (by rw [he]; rfl) (by rw [he]; rfl)
  have hs : (s.after a).dev.tb = a.tb ∧ (s.after a).dev.lp = a.lp := by simp only [State.after_dev, and_self]
  obtain ⟨h1, h2⟩ := hs
  intro t
  refine ⟨h1, h2, ?_⟩
  show s.frame t { s.dev with tb := (s.after a).dev.tb, lp := (s.after a).dev.lp }
  rw [h1, h2]
  exact hf

/-! ### Measured peaks (R308, R330) -/

/-- The peak of one lane or task after a list of measurements. -/
def peakOf (k : Nat) (xs : List (Nat × Nat)) (v : Reg) : Reg :=
  xs.foldl (fun v x => if x.1 = k then maxU v (satNat 32 x.2) else v) v

theorem maxU_toNat (a b : Reg) : (maxU a b).toNat = max a.toNat b.toNat := by
  unfold maxU
  split <;> omega

theorem peakOf_from (k : Nat) (xs : List (Nat × Nat)) (v : Reg) : v.toNat ≤ (peakOf k xs v).toNat ∧
    (∀ m, (k, m) ∈ xs → (satNat 32 m : Reg).toNat ≤ (peakOf k xs v).toNat) ∧
    (peakOf k xs v = v ∨ ∃ m, (k, m) ∈ xs ∧ peakOf k xs v = satNat 32 m) := by
  induction xs generalizing v with
  | nil => exact ⟨Nat.le_refl _, fun m hm => absurd hm List.not_mem_nil, Or.inl rfl⟩
  | cons x xs ih =>
    obtain ⟨h1, h2, h3⟩ := ih (if x.1 = k then maxU v (satNat 32 x.2) else v)
    change v.toNat ≤ (peakOf k xs _).toNat ∧ (∀ m, _ → _ ≤ (peakOf k xs _).toNat) ∧
      (peakOf k xs _ = v ∨ ∃ m, (k, m) ∈ x :: xs ∧ peakOf k xs _ = _)
    generalize peakOf k xs (if x.1 = k then maxU v (satNat 32 x.2) else v) = r at h1 h2 h3 ⊢
    by_cases hk : x.1 = k
    · rw [if_pos hk] at h1 h3
      rw [maxU_toNat] at h1
      refine ⟨by omega, fun m hm => ?_, ?_⟩
      · rcases List.mem_cons.1 hm with hm | hm
        · rw [← hm] at h1
          exact Nat.le_trans (Nat.le_max_right ..) h1
        · exact h2 m hm
      · rcases h3 with h3 | ⟨m, hm, h3⟩
        · rw [h3]
          unfold maxU
          split
          · exact Or.inr ⟨x.2, List.mem_cons.2 (Or.inl (by rw [← hk])), rfl⟩
          · exact Or.inl rfl
        · exact Or.inr ⟨m, List.mem_cons_of_mem _ hm, h3⟩
    · rw [if_neg hk] at h1 h3
      refine ⟨h1, fun m hm => ?_, ?_⟩
      · rcases List.mem_cons.1 hm with hm | hm
        · exact absurd (congrArg Prod.fst hm).symm hk
        · exact h2 m hm
      · rcases h3 with h3 | ⟨m, hm, h3⟩
        · exact Or.inl h3
        · exact Or.inr ⟨m, List.mem_cons_of_mem _ hm, h3⟩

/-- The lanes' peaks after a list of measurements. -/
theorem lanePeaks_holds (xs : List (Nat × Nat)) (d : Dev) :
    let d' := xs.foldl (fun d l => noteLanePeak l d) d
    d' = { d with lg := { d.lg with lanePeak := d'.lg.lanePeak } } ∧
      ∀ l < 4, tget 0 d'.lg.lanePeak l = peakOf l xs (tget 0 d.lg.lanePeak l) := by
  induction xs generalizing d with
  | nil => exact ⟨rfl, fun l _ => rfl⟩
  | cons x xs ih =>
    obtain ⟨h1, h2⟩ := ih (noteLanePeak x d)
    dsimp only [List.foldl_cons] at h1 h2 ⊢
    generalize xs.foldl (fun d l => noteLanePeak l d) (noteLanePeak x d) = r at h1 h2 ⊢
    by_cases hx : x.1 < 4
    · have he : noteLanePeak x d = { d with lg := { d.lg with
          lanePeak := tset 0 d.lg.lanePeak x.1 (maxU (tget 0 d.lg.lanePeak x.1) (satNat 32 x.2)) } } := if_pos hx
      rw [he] at h1 h2
      refine ⟨h1, fun l hl => (h2 l hl).trans (congrArg (peakOf l xs) ?_)⟩
      refine (tget_tset ..).trans ?_
      by_cases hk : l = x.1
      · rw [if_pos hk, hk]
        exact (if_pos rfl).symm
      · exact (if_neg hk).trans (if_neg (Ne.symm hk)).symm
    · have he : noteLanePeak x d = d := if_neg hx
      rw [he] at h1 h2
      refine ⟨h1, fun l hl => (h2 l hl).trans (congrArg (peakOf l xs) ?_)⟩
      exact (if_neg (by omega)).symm

/-- The tasks' peaks after a list of measurements. -/
theorem taskPeaks_holds (xs : List (Nat × Nat)) (d : Dev) :
    let d' := xs.foldl (fun d t => noteTaskPeak t d) d
    d' = { d with lg := { d.lg with tasks := d'.lg.tasks } } ∧
      (∀ j, d'.task j = { d.task j with peakCyc := (d'.task j).peakCyc }) ∧
      ∀ j < 8, (d'.task j).peakCyc = peakOf j xs (d.task j).peakCyc := by
  induction xs generalizing d with
  | nil => exact ⟨rfl, fun _ => rfl, fun j _ => rfl⟩
  | cons x xs ih =>
    obtain ⟨h1, h2, h3⟩ := ih (noteTaskPeak x d)
    dsimp only [List.foldl_cons] at h1 h2 h3 ⊢
    generalize xs.foldl (fun d t => noteTaskPeak t d) (noteTaskPeak x d) = r at h1 h2 h3 ⊢
    by_cases hx : x.1 < 8
    · have he : noteTaskPeak x d = d.modTask x.1 (fun k => { k with peakCyc := maxU k.peakCyc (satNat 32 x.2) }) := if_pos hx
      have ht (j : Nat) : (noteTaskPeak x d).task j = if j = x.1 then
          { d.task x.1 with peakCyc := maxU (d.task x.1).peakCyc (satNat 32 x.2) } else d.task j := by
        rw [he]
        exact Dev.task_setTask ..
      refine ⟨?_, fun j => (h2 j).trans ?_, fun j hj => (h3 j hj).trans (congrArg (peakOf j xs) ?_)⟩
      · rw [he] at h1
        exact h1
      · rw [ht]
        by_cases hk : j = x.1
        · rw [if_pos hk, hk]
        · rw [if_neg hk]
      · rw [ht]
        by_cases hk : j = x.1
        · rw [if_pos hk, hk]
          exact (if_pos rfl).symm
        · rw [if_neg hk]
          exact (if_neg (Ne.symm hk)).symm
    · have he : noteTaskPeak x d = d := if_neg hx
      rw [he] at h1 h2 h3
      refine ⟨h1, h2, fun j hj => (h3 j hj).trans (congrArg (peakOf j xs) ?_)⟩
      exact (if_neg (by omega)).symm

/-! ### WINDOW_END_STROBE -/

/-- The strobe with the measured cycles. -/
def strobed (x : WindowIn) (d : Dev) : Dev := notePeak x.phase x.peak (phaseStrobe x.phase d)

/-- The measured cycles of lanes and tasks, with phase B. -/
def peaksNoted (x : WindowIn) (d : Dev) : Dev :=
  x.tasks.foldl (fun d t => noteTaskPeak t d) (x.lanes.foldl (fun d l => noteLanePeak l d) d)

/-- What the strobe leaves of the timebase, as the statement says it. -/
def Timebase.strobedTo (b u : Timebase) (p : Phase) (n : Nat) : Prop :=
  let k := phaseIndex p
  (p ∈ b.cut → u.ovr = b.ovr ||| putB 6 k true ∧ tget 0 u.ovrCnt k = satAdd (tget 0 b.ovrCnt k) 1 ∧ p ∉ u.cut) ∧
    (p ∉ b.cut → u.ovr = b.ovr ∧ u.ovrCnt = b.ovrCnt ∧ u.cut = b.cut) ∧
    tget 0 u.peak k = maxU (tget 0 b.peak k) (satNat 32 n) ∧
    u = { b with ovr := u.ovr, ovrCnt := u.ovrCnt, cut := u.cut, peak := u.peak }

theorem strobed_tb (x : WindowIn) (d : Dev) : d.tb.strobedTo (strobed x d).tb x.phase x.peak := by
  have h : (strobed x d).tb = d.tb.struck x.phase x.peak := notePeak_tb ..
  rw [h]
  exact Timebase.struck_holds ..

theorem strobed_times {x : WindowIn} (h : ∀ d, Dev.times d (strobeWork x.phase d)) (d : Dev) : d.times (strobed x d) :=
  Dev.times_trans _ _ _ (phaseStrobe_times h d) (modTb_times ..)

theorem strobed_lp {x : WindowIn} (h : ∀ d, strobeWork x.phase d = d) (d : Dev) : (strobed x d).lp = d.lp :=
  phaseStrobe_lp h d

/-- The strobe of a phase but B, with nothing to apply. -/
theorem windowEnd_strobed {x : WindowIn} {ram : Nat → Byte} {d : Dev} (hd : d.tb.sample = phaseEnd x.phase)
    (hb : x.phase ≠ .b) (hf : x.phase = .f → d.cp.running = none ∧ d.lp.fastDue = none) :
    windowEndStrobe x ram d = strobed x d := by
  have he : (if x.phase = .f then endPhaseF ram (fastWrite none d) else d) = d := by
    by_cases h : x.phase = .f
    · obtain ⟨hr, hl⟩ := hf h
      have hw : fastWrite none d = d := by
        unfold fastWrite
        rw [hl]
      rw [if_pos h, hw]
      unfold endPhaseF
      rw [hr]
    · rw [if_neg h]
  unfold windowEndStrobe
  rw [if_neg (not_not.2 hd), he]
  exact if_neg hb

theorem windowEnd_b {x : WindowIn} {ram : Nat → Byte} {d : Dev} (hd : d.tb.sample = phaseEnd x.phase) (hb : x.phase = .b) :
    windowEndStrobe x ram d = peaksNoted x (strobed x d) := by
  have he : (if x.phase = .f then endPhaseF ram (fastWrite none d) else d) = d := if_neg (by rw [hb]; decide)
  unfold windowEndStrobe
  rw [if_neg (not_not.2 hd), he]
  exact if_pos hb

/-- A strobe that leaves the retained SRAM alone. -/
theorem Runs.windowEnd {x : WindowIn} {s : State} {a : Dev} {p : State → Prop} (hs : s.up)
    (h : windowEndStrobe x (Memory.read s.sram) s.dev.fresh0 = a) (hw : a.wr = []) (hp : p (s.after a)) :
    Runs (.windowEndStrobe x) s p := by
  refine Runs.mainM (f := windowEndStrobe x) rfl hs ?_
  rw [withSram_dry h hw]
  exact hp

/-- A strobe that moves the timebase and the loops. -/
theorem strobe_runs {x : WindowIn} {s : State} (hs : s.up) (hd : s.dev.tb.sample = phaseEnd x.phase) (hb : x.phase ≠ .b)
    (hf : x.phase = .f → s.dev.cp.running = none ∧ s.dev.lp.fastDue = none)
    (hw : ∀ d, Dev.times d (strobeWork x.phase d)) : Runs (.windowEndStrobe x) s (fun t =>
      s.dev.tb.strobedTo t.dev.tb x.phase x.peak ∧ ((∀ d, strobeWork x.phase d = d) → t.dev.lp = s.dev.lp) ∧
        (x.phase ∉ s.dev.tb.cut → t.dev.lp = s.dev.lp) ∧ s.frame t { s.dev with tb := t.dev.tb, lp := t.dev.lp }) := by
  have ht := strobed_times hw s.dev.fresh0
  have hl := strobed_lp (x := x) (d := s.dev.fresh0)
  have hu : x.phase ∉ s.dev.tb.cut → (strobed x s.dev.fresh0).lp = s.dev.lp := by
    intro h
    unfold strobed
    rw [phaseStrobe_uncut (d := s.dev.fresh0) h]
    rfl
  have hb' := strobed_tb x s.dev.fresh0
  have he := windowEnd_strobed (ram := Memory.read s.sram) (d := s.dev.fresh0) hd hb hf
  generalize strobed x s.dev.fresh0 = a at ht hl hu hb' he
  obtain ⟨htb, hlp, hfr⟩ := times_after ht
  refine Runs.windowEnd hs he (by rw [ht.2]; rfl) ⟨?_, fun h => hlp.trans (hl h), fun h => hlp.trans (hu h), hfr⟩
  rw [htb]
  exact hb'

/-- The phases that end with their strobe alone. -/
theorem strobe_alone {x : WindowIn} {s : State} (hs : s.up) (hd : s.dev.tb.sample = phaseEnd x.phase)
    (hp : (x.phase = .a ∨ x.phase = .d ∨ x.phase = .e) ∨ x.phase = .f ∧ s.dev.cp.running = none ∧ s.dev.lp.fastDue = none) :
    Runs (.windowEndStrobe x) s (fun t =>
      s.dev.tb.strobedTo t.dev.tb x.phase x.peak ∧ s.frame t { s.dev with tb := t.dev.tb }) := by
  have hk : x.phase ≠ .b ∧ (x.phase = .f → s.dev.cp.running = none ∧ s.dev.lp.fastDue = none) ∧
      ∀ d, strobeWork x.phase d = d := by
    rcases hp with (h | h | h) | ⟨h, hr⟩
    · rw [h]
      exact ⟨by decide, fun h => absurd h (by decide), fun _ => rfl⟩
    · rw [h]
      exact ⟨by decide, fun h => absurd h (by decide), fun _ => rfl⟩
    · rw [h]
      exact ⟨by decide, fun h => absurd h (by decide), fun _ => rfl⟩
    · rw [h]
      exact ⟨by decide, fun _ => hr, fun _ => rfl⟩
  obtain ⟨hb, hf, hw⟩ := hk
  obtain ⟨t, hx, htb, hlp, -, hfr⟩ := strobe_runs hs hd hb hf (fun d => by rw [hw]; exact Dev.times_refl d)
  refine ⟨t, hx, htb, ?_⟩
  rw [hlp hw] at hfr
  exact hfr

theorem strobe_c {x : WindowIn} {s : State} (hs : s.up) (hd : s.dev.tb.sample = phaseEnd x.phase) (hp : x.phase = .c) :
    Runs (.windowEndStrobe x) s (fun t => s.dev.tb.strobedTo t.dev.tb x.phase x.peak ∧
      (x.phase ∉ s.dev.tb.cut → t.dev.lp = s.dev.lp) ∧ s.frame t { s.dev with tb := t.dev.tb, lp := t.dev.lp }) := by
  have hw : ∀ d, Dev.times d (strobeWork x.phase d) := by
    rw [hp]
    exact fun d => Dev.times_of_executes (loopsStrobe_executes d)
  obtain ⟨t, hx, htb, -, hlp, hfr⟩ := strobe_runs hs hd (by rw [hp]; decide) (fun h => absurd (hp.symm.trans h) (by decide)) hw
  exact ⟨t, hx, htb, hlp, hfr⟩

/-- What the measured cycles leave beside the tasks' and the lanes' peaks. -/
theorem peaksNoted_holds (x : WindowIn) (d : Dev) :
    let d' := peaksNoted x d
    d' = { d with lg := { d.lg with lanePeak := d'.lg.lanePeak, tasks := d'.lg.tasks } } ∧
      (∀ l < 4, tget 0 d'.lg.lanePeak l = peakOf l x.lanes (tget 0 d.lg.lanePeak l)) ∧
      (∀ j, d'.task j = { d.task j with peakCyc := (d'.task j).peakCyc }) ∧
      ∀ j < 8, (d'.task j).peakCyc = peakOf j x.tasks (d.task j).peakCyc := by
  obtain ⟨h1, h2⟩ := lanePeaks_holds x.lanes d
  unfold peaksNoted
  generalize x.lanes.foldl (fun d l => noteLanePeak l d) d = b at h1 h2 ⊢
  obtain ⟨h3, h4, h5⟩ := taskPeaks_holds x.tasks b
  dsimp only at h1 h3 ⊢
  generalize x.tasks.foldl (fun d t => noteTaskPeak t d) b = c at h3 h4 h5 ⊢
  have hlane : c.lg.lanePeak = b.lg.lanePeak := by rw [h3]
  have htask (j : Nat) : b.task j = d.task j := by rw [h1]; rfl
  refine ⟨?_, fun l hl => ?_, fun j => ?_, fun j hj => ?_⟩
  · rw [hlane, h3, h1]
  · rw [hlane]
    exact h2 l hl
  · rw [← htask j]
    exact h4 j
  · rw [← htask j]
    exact h5 j hj

theorem strobe_b {x : WindowIn} {s : State} (hs : s.up) (hd : s.dev.tb.sample = phaseEnd x.phase) (hp : x.phase = .b) :
    Runs (.windowEndStrobe x) s (fun t => s.dev.tb.strobedTo t.dev.tb x.phase x.peak ∧ (x.phase ∉ s.dev.tb.cut →
      (∀ l < 4, tget 0 t.dev.lg.lanePeak l = peakOf l x.lanes (tget 0 s.dev.lg.lanePeak l)) ∧
      (∀ j, t.dev.task j = { s.dev.task j with peakCyc := (t.dev.task j).peakCyc }) ∧
      (∀ j < 8, (t.dev.task j).peakCyc = peakOf j x.tasks (s.dev.task j).peakCyc) ∧
      s.frame t { s.dev with tb := t.dev.tb, lg := { s.dev.lg with
        lanePeak := t.dev.lg.lanePeak, tasks := t.dev.lg.tasks } })) := by
  have he := windowEnd_b (ram := Memory.read s.sram) (d := s.dev.fresh0) hd hp
  have htb := strobed_tb x s.dev.fresh0
  have hu : x.phase ∉ s.dev.tb.cut → strobed x s.dev.fresh0 = notePeak x.phase x.peak s.dev.fresh0 := by
    intro h
    unfold strobed
    rw [phaseStrobe_uncut (d := s.dev.fresh0) h]
  have hwr : (strobed x s.dev.fresh0).wr = [] :=
    phaseStrobe_wr x.phase s.dev.fresh0
  generalize strobed x s.dev.fresh0 = b at he htb hu hwr
  obtain ⟨h1, h2, h3, h4⟩ := peaksNoted_holds x b
  generalize peaksNoted x b = a at he h1 h2 h3 h4
  have hatb : a.tb = b.tb := by rw [h1]
  have hawr : a.wr = [] := by rw [h1]; exact hwr
  refine Runs.windowEnd hs he hawr ?_
  have hd' : (s.after a).dev.tb = a.tb ∧ (s.after a).dev.lg = a.lg := by simp only [State.after_dev, and_self]
  have ht' (j : Nat) : (s.after a).dev.task j = a.task j := (State.after_objects s a j).2.2.2.2.2.2.2.2.1
  obtain ⟨htb', hlg'⟩ := hd'
  refine ⟨?_, fun h => ?_⟩
  · rw [htb', hatb]
    exact htb
  · have hb := hu h
    subst hb
    refine ⟨fun l hl => ?_, fun j => ?_, fun j hj => ?_, ?_⟩
    · rw [hlg']
      exact h2 l hl
    · rw [ht']
      exact h3 j
    · rw [ht']
      exact h4 j hj
    · rw [htb', hlg']
      refine State.frame_of_eq ?_ ?_ ?_
      · rw [h1]
        exact Dev.reportsTo_of_eq rfl rfl rfl
      · rw [h1]
        rfl
      · rw [h1]
        rfl

/-! ### The fast pipeline's outputs (R334) -/

/-- The report of the loops that cycle 1,250 skips. -/
def lateReported (late : List Nat) (d : Dev) : Dev :=
  match late.head? with
  | none => d
  | some j => reportLimited 0 1 (ev 0x080A true j late.length) d

theorem lateReported_executes (late : List Nat) (d : Dev) : d.executes (lateReported late d) := by
  unfold lateReported
  split
  · exact Dev.executes_refl d
  · exact Dev.executes_of_reports (reportLimited_reportsOnly ..) (reportLimited_reportsTo ..)

/-- The fast loops that execute or are skipped at cycle 1,250. -/
def fastRun (k : Nat) (cal : W64) (js : List Nat) (d : Dev) : Dev :=
  lateReported (js.drop k) ((js.drop k).foldl (fun d j => loopMiss j cal d) ((js.take k).foldl (fun d j => loopRun j cal d) d))

/-- Their outputs are delivered. -/
def fastCommit (js : List Nat) (d : Dev) : Dev := js.foldl (fun d j => loopCommit j d) d

/-- Nothing is latched any more. -/
def Dev.fastDone (d : Dev) : Dev := { d with lp := { d.lp with fastDue := none } }

/-- The loops whose outputs are due. -/
def Dev.fastLoops (d : Dev) (latched : List Nat) : List Nat := (d.enabledLoops true).filter (fun j => latched.contains j)

theorem fastWrite_eq {n : Option Nat} {d : Dev} {cal : W64} {latched : List Nat} (h : d.lp.fastDue = some (cal, latched)) :
    fastWrite n d = (fastCommit (d.fastLoops latched)
      (fastRun (n.getD (d.fastLoops latched).length) cal (d.fastLoops latched) d)).fastDone := by
  unfold fastWrite
  rw [h]
  rfl

theorem fastWrite_none {n : Option Nat} {d : Dev} (h : d.lp.fastDue = none) : fastWrite n d = d := by
  unfold fastWrite
  rw [h]

theorem fastRun_executes (k : Nat) (cal : W64) (js : List Nat) (d : Dev) : d.executes (fastRun k cal js d) :=
  Dev.executes_trans (Dev.executes_trans (foldl_executes (fun d j => loopRun_executes j cal d) _ d)
    (foldl_executes (fun d j => loopMiss_executes j cal d) _ _)) (lateReported_executes ..)

/-- From `d` to `d'` loops, points and current loops have changed, beside what reports write. -/
def Dev.delivers (d d' : Dev) : Prop :=
  d.reportsTo d' ∧ d' = { d with lp := d'.lp, ps := d'.ps, cl := d'.cl, tr := d'.tr, rcd := d'.rcd, flt := d'.flt }

theorem Dev.delivers_refl (d : Dev) : d.delivers d := ⟨Dev.reportsTo_refl d, rfl⟩

theorem Dev.delivers_trans {a b c : Dev} (h1 : a.delivers b) (h2 : b.delivers c) : a.delivers c := by
  obtain ⟨hr, he⟩ := h1
  obtain ⟨hr', he'⟩ := h2
  exact ⟨Dev.reportsTo_trans hr hr', by rw [he', he]⟩

theorem Dev.delivers_of_executes {a b : Dev} (h : a.executes b) : a.delivers b := by
  obtain ⟨hr, he⟩ := h
  exact ⟨hr, by rw [he]⟩

theorem Dev.delivers_of_stores {P : Nat → Prop} {a b : Dev} (h : a.stores P b) : a.delivers b := by
  obtain ⟨-, hr, he⟩ := h
  exact ⟨hr, by rw [he]⟩

theorem foldl_delivers {α : Type} {f : Dev → α → Dev} (h : ∀ d x, Dev.delivers d (f d x)) (xs : List α) (d : Dev) :
    d.delivers (xs.foldl f d) := by
  induction xs generalizing d with
  | nil => exact Dev.delivers_refl d
  | cons x xs ih => exact Dev.delivers_trans (h d x) (ih _)

theorem setCloop_delivers (k : Nat) (c : CLoop) (d : Dev) : d.delivers (d.setCloop k c) :=
  ⟨Dev.reportsTo_of_eq rfl rfl rfl, rfl⟩

theorem clSetpoint_delivers (k : Nat) (v : Int) (q : BitVec 2) (d : Dev) : d.delivers (clSetpoint k v q d) := by
  unfold clSetpoint
  dsimp only
  split
  · exact Dev.delivers_refl d
  · split
    · exact setCloop_delivers ..
    · split
      · exact setCloop_delivers ..
      · exact setCloop_delivers ..

/-- The set-point of the channel that a fast loop drives. -/
def driveFast (j : Nat) (l : Loop) (v : Int) (q : BitVec 2) (d : Dev) : Dev :=
  match (if isFast j then l.drives else none) with
  | some ch => clSetpoint ch v q d
  | none => d

/-- The point that a loop produces. -/
def deliverPoint (j : Nat) (l : Loop) (o : LoopOut) (d : Dev) : Dev :=
  if d.loopOwns j l.outPt then produce l.outPt (o.v.setWidth 64) o.q o.d o.cal d else d

theorem loopCommit_eq (j : Nat) (d : Dev) : loopCommit j d = match (d.loop j).out with
    | none => if (d.loop j).st = .init then driveFast j (d.loop j) 0 3 d else d
    | some o => driveFast j (d.loop j) o.v.toInt o.q
        (deliverPoint j (d.loop j) o (d.setLoop j { d.loop j with out := none })) := by
  unfold loopCommit
  rfl

theorem driveFast_delivers (j : Nat) (l : Loop) (v : Int) (q : BitVec 2) (d : Dev) : d.delivers (driveFast j l v q d) := by
  unfold driveFast
  split
  · exact clSetpoint_delivers ..
  · exact Dev.delivers_refl d

theorem deliverPoint_stores (j : Nat) (l : Loop) (o : LoopOut) (d : Dev) : d.stores (· = l.outPt) (deliverPoint j l o d) := by
  unfold deliverPoint
  split
  · exact produce_stores ..
  · exact Dev.stores_refl _ d

theorem loopCommit_delivers (j : Nat) (d : Dev) : d.delivers (loopCommit j d) := by
  rw [loopCommit_eq]
  split
  · split
    · exact driveFast_delivers ..
    · exact Dev.delivers_refl d
  · exact Dev.delivers_trans (Dev.delivers_of_executes (setLp_executes ..))
      (Dev.delivers_trans (Dev.delivers_of_stores (deliverPoint_stores ..)) (driveFast_delivers ..))

theorem fastWrite_delivers (n : Option Nat) (d : Dev) : d.delivers (fastWrite n d) := by
  cases h : d.lp.fastDue with
  | none =>
    rw [fastWrite_none h]
    exact Dev.delivers_refl d
  | some y =>
    rw [fastWrite_eq h]
    have hr := Dev.delivers_of_executes
      (fastRun_executes (n.getD (d.fastLoops y.2).length) y.1 (d.fastLoops y.2) d)
    generalize fastRun (n.getD (d.fastLoops y.2).length) y.1 (d.fastLoops y.2) d = a at hr ⊢
    have hc : a.delivers (fastCommit (d.fastLoops y.2) a) := foldl_delivers (fun d j => loopCommit_delivers j d) _ a
    generalize fastCommit (d.fastLoops y.2) a = b at hc ⊢
    exact Dev.delivers_trans (Dev.delivers_trans hr hc) (Dev.delivers_of_executes (setLp_executes ..))

/-- The strobe of phase F after its commands. -/
theorem strobe_f {x : WindowIn} {s : State} (hs : s.up) (hd : s.dev.tb.sample = phaseEnd x.phase) (hp : x.phase = .f) :
    Runs (.windowEndStrobe x) s (fun t =>
      (s.dev.cp.running ≠ none → t.dev.cp.late = []) ∧ t.isl = s.isl ∧ t.pending = s.pending) := by
  refine Runs.mainM (f := windowEndStrobe x) rfl hs ⟨fun hr => ?_, rfl, rfl⟩
  have he : windowEndStrobe x (Memory.read s.sram) s.dev.fresh0 =
      strobed x (endPhaseF (Memory.read s.sram) (fastWrite none s.dev.fresh0)) := by
    have hf : (if x.phase = .f then endPhaseF (Memory.read s.sram) (fastWrite none s.dev.fresh0) else s.dev.fresh0) =
      endPhaseF (Memory.read s.sram) (fastWrite none s.dev.fresh0) := if_pos hp
    unfold windowEndStrobe
    rw [hf]
    exact (if_neg (not_not.2 hd)).trans (if_neg (by rw [hp]; decide))
  have hw : (fastWrite none s.dev.fresh0).cp = s.dev.cp := by
    rw [(fastWrite_delivers none s.dev.fresh0).2]
    rfl
  have hl : (endPhaseF (Memory.read s.sram) (fastWrite none s.dev.fresh0)).cp.late = [] := by
    generalize fastWrite none s.dev.fresh0 = a at hw ⊢
    unfold endPhaseF
    split
    · next h => exact absurd (hw ▸ h) hr
    · rfl
  have hk (d : Dev) : (strobed x d).cp = d.cp := by
    have ht := strobed_times (x := x) (by rw [hp]; exact fun d => Dev.times_refl d) d
    rw [ht.2]
  rw [withSram_eq, he]
  generalize endPhaseF (Memory.read s.sram) (fastWrite none s.dev.fresh0) = a at hl ⊢
  have hc : (s.after (strobed x a)).dev.cp = (strobed x a).cp := by simp
  exact (congrArg CmdState.late (hc.trans (hk a))).trans hl

end Sys2Proof.Machine
end

section
/-!
The silence latch (R36, R245, R246, R525).
-/
namespace Sys2Proof.Machine

/-- A frame of a step that hands something out, and may change the queues of the ports. -/
theorem State.frame_sends {s : State} {a b : Dev} (hr : b.reportsTo a)
    (h : a = { b with tr := a.tr, rcd := a.rcd, flt := a.flt, eg := a.eg, wire := a.wire, out := a.out, wr := a.wr })
    (ho : a.out ≠ []) : s.frame (s.after a) b := by
  refine ⟨?_, ?_, fun hout => absurd hout ?_⟩
  · rw [State.after, depart_sendsOnly a]
    cases a; cases b
    injection h
    subst_vars
    rfl
  · rw [State.after, depart_sendsOnly a]
    exact hr
  · have h : (s.after a).dev.out = a.out := by simp
    rw [h]
    exact ho

/-- Is a copy of a strand in transmission. -/
def Dev.sendingCopy (d : Dev) (k : Nat) : Bool := match (d.strand k).cycle with
  | some cy => decide (d.cycleNow cy < cy.txEnd)
  | none => false

/-- The copies of some strands are cut. -/
def copiesCut (ks : List Nat) (d : Dev) : Dev := ks.foldl (fun d k => cutCopy k d) d

theorem cutCopy_out (k : Nat) (d : Dev) :
    (cutCopy k d).out = d.out ++ if d.sendingCopy k then [.strandCut k] else [] := by
  unfold cutCopy
  cases hcy : (d.strand k).cycle with
  | none =>
    have hs : d.sendingCopy k = false := by
      unfold Dev.sendingCopy
      rw [hcy]
    rw [hs]
    exact (List.append_nil _).symm
  | some cy =>
    have hs : d.sendingCopy k = decide (d.cycleNow cy < cy.txEnd) := by
      unfold Dev.sendingCopy
      rw [hcy]
    dsimp only
    split
    · next h =>
      rw [if_pos (hs.trans (decide_eq_true h))]
      rfl
    · next h =>
      rw [if_neg (ne_true_of_eq_false (hs.trans (decide_eq_false h)))]
      exact (List.append_nil _).symm

theorem Dev.cycleNow_congr {d d' : Dev} (h : d'.tb = d.tb) : d'.cycleNow = d.cycleNow := by
  funext cy
  unfold Dev.cycleNow framesSince
  rw [h]

theorem copiesCut_eq (ks : List Nat) (d : Dev) :
    copiesCut ks d = { d with strands := (copiesCut ks d).strands, out := (copiesCut ks d).out } := by
  induction ks generalizing d with
  | nil => rfl
  | cons k ks ih =>
    obtain ⟨st, o, he⟩ := cutCopy_eq k d
    have h := ih (cutCopy k d)
    change copiesCut ks (cutCopy k d) = { d with
      strands := (copiesCut ks (cutCopy k d)).strands, out := (copiesCut ks (cutCopy k d)).out }
    generalize copiesCut ks (cutCopy k d) = a at h ⊢
    rw [he] at h
    exact h

theorem copiesCut_strand (n m : Nat) (d : Dev) : (copiesCut (List.range n) d).strand m =
    if m < n then (d.strand m).cut d.cycleNow else d.strand m := by
  have hstep (c : Dev) (k : Nat) (hc : c.cycleNow = d.cycleNow) : (cutCopy k c).cycleNow = d.cycleNow := by
    rw [← hc]
    exact Dev.cycleNow_congr (cutCopy_keeps k c).1
  exact (foldl_range_get Dev.strand (fun d k => cutCopy k d) (fun _ x => x.cut d.cycleNow)
    (fun c => c.cycleNow = d.cycleNow) hstep
    (fun c k hc => by rw [cutCopy_strand, if_pos rfl, hc])
    (fun c k m _ hm => by rw [cutCopy_strand, if_neg hm]) n rfl).2 m

theorem copiesCut_out (n : Nat) (d : Dev) : (copiesCut (List.range n) d).out =
    d.out ++ ((List.range n).filter d.sendingCopy).map .strandCut := by
  induction n with
  | zero => exact (List.append_nil _).symm
  | succ n ih =>
    have hs : (copiesCut (List.range n) d).sendingCopy n = d.sendingCopy n := by
      have htb : (copiesCut (List.range n) d).tb = d.tb := by rw [copiesCut_eq]
      unfold Dev.sendingCopy
      rw [copiesCut_strand, if_neg (Nat.lt_irrefl n), Dev.cycleNow_congr htb]
    have hn : copiesCut (List.range (n + 1)) d = cutCopy n (copiesCut (List.range n) d) := by
      unfold copiesCut
      rw [List.range_succ, List.foldl_append]
      rfl
    rw [hn, cutCopy_out, ih, hs, List.range_succ, List.filter_append, List.map_append, List.append_assoc]
    congr 2
    rw [List.filter_singleton]
    cases d.sendingCopy n with
    | true => rfl
    | false => rfl

/-- The twin with the silence latch set. -/
def Ply.silenced (p : Ply) : Ply := { p with latch := true }

theorem latchCut_due {d : Dev} (h1 : d.ply.latch = false) (h2 : 3 ≤ d.ply.sinceStroke) : latchCut d =
    plyNotice 3 0 (dropPly (copiesCut (List.range 16) (d.modPly Ply.silenced))) := if_pos ⟨h1, h2⟩

theorem latchCut_waits {d : Dev} (h : d.ply.latch = true ∨ d.ply.sinceStroke < 3) : latchCut d = d := by
  refine if_neg fun hc => ?_
  obtain ⟨h1, h2⟩ := hc
  rcases h with h | h
  · exact Bool.false_ne_true (h1.symm.trans h)
  · omega

/-- GIVEUP goes out also under the latch. -/
theorem giveup_emits (d : Dev) : ∃ body, plyNotice 3 0 d = d.emit (.ply body) := by
  unfold plyNotice plySend
  exact ⟨_, if_neg (by simp)⟩

/-- The silence latch: what it changes and hands out. -/
theorem latchCut_holds {d : Dev} (h1 : d.ply.latch = false) (h2 : 3 ≤ d.ply.sinceStroke) :
    let a := latchCut d
    a.ply = d.ply.silenced ∧ a.lines = d.lines ∧ a.tb = d.tb ∧
      (∀ m, a.strand m = if m < 16 then (d.strand m).cut d.cycleNow else d.strand m) ∧
      (∃ body, a.out = (d.out ++ ((List.range 16).filter d.sendingCopy).map .strandCut) ++ [.ply body]) ∧
      a = { d with ply := a.ply, strands := a.strands, eg := a.eg, out := a.out } := by
  have hst := copiesCut_strand 16 (d := d.modPly Ply.silenced)
  have hout := copiesCut_out 16 (d.modPly Ply.silenced)
  have he := copiesCut_eq (List.range 16) (d.modPly Ply.silenced)
  rw [latchCut_due h1 h2]
  generalize copiesCut (List.range 16) (d.modPly Ply.silenced) = b at hst hout he ⊢
  obtain ⟨body, hn⟩ := giveup_emits (dropPly b)
  rw [hn]
  refine ⟨?_, ?_, ?_, fun m => hst m, ⟨body, congrArg (fun o : List OutMsg => o ++ [.ply body]) hout⟩, ?_⟩
  · show b.ply = _
    rw [he]
    rfl
  · show b.lines = _
    rw [he]
    rfl
  · show b.tb = _
    rw [he]
    rfl
  · rw [he]
    rfl

theorem Strand.cut_done (now : Cycle → Nat) (s : Strand) (cy : Cycle) (h : (s.cut now).cycle = some cy) :
    ¬ now cy < cy.txEnd := by
  unfold Strand.cut at h
  obtain ⟨c, -, hc⟩ := Option.map_eq_some_iff.1 h
  split at hc
  · rw [← hc]
    exact Nat.not_lt_zero _
  · next hlt =>
    rw [← hc]
    exact hlt

theorem silence_runs {s : State} (hs : s.up) (h1 : s.dev.ply.latch = false) (h2 : 3 ≤ s.dev.ply.sinceStroke) :
    Runs .silenceLatchCut s (fun t => t.dev.ply = s.dev.ply.silenced ∧ (∀ k, t.dev.transmits k = false) ∧
      (∃ body, t.dev.out = ((List.range 16).filter s.dev.sendingCopy).map .strandCut ++ [.ply body]) ∧
      (∀ k < 16, ∀ cy, (t.dev.strand k).cycle = some cy → t.dev.cycleNow cy < cy.txEnd → False) ∧
      (∀ k, t.dev.strand k = { s.dev.strand k with cycle := (t.dev.strand k).cycle }) ∧
      s.frame t { s.dev with ply := t.dev.ply, strands := t.dev.strands }) := by
  refine Runs.main (f := latchCut) rfl hs ?_
  obtain ⟨hp, hl, htb, hst, ⟨body, hout⟩, he⟩ := latchCut_holds (d := s.dev.fresh0) h1 h2
  generalize latchCut s.dev.fresh0 = a at hp hl htb hst hout he
  have hd : (s.after a).dev.ply = a.ply ∧ (s.after a).dev.tb = a.tb ∧ (s.after a).dev.strands = a.strands ∧
      (s.after a).dev.out = a.out := by simp only [State.after_dev, and_self]
  obtain ⟨dp, dt, ds, dout⟩ := hd
  have hstr (m : Nat) : (s.after a).dev.strand m =
      if m < 16 then (s.dev.strand m).cut s.dev.cycleNow else s.dev.strand m :=
    (congrArg (tget Strand.reset · m) ds).trans (hst m)
  have hnow : (s.after a).dev.cycleNow = s.dev.cycleNow := Dev.cycleNow_congr (dt.trans htb)
  have hlatch : (s.after a).dev.ply.latch = true := by
    rw [dp, hp]
    rfl
  refine ⟨dp.trans hp, fun k => ?_, ⟨body, dout.trans hout⟩, fun k hk cy hcy => ?_, fun k => ?_, ?_⟩
  · unfold Dev.transmits
    rw [hlatch]
    exact Bool.and_false _
  · rw [hstr, if_pos hk] at hcy
    rw [hnow]
    exact Strand.cut_done _ _ _ hcy
  · rw [hstr]
    split
    · rfl
    · rfl
  · rw [dp, ds]
    refine State.frame_sends (Dev.reportsTo_of_eq ?_ ?_ ?_) ?_ ?_
    · rw [he]
      rfl
    · rw [he]
      rfl
    · rw [he]
      rfl
    · rw [he]
      rfl
    · rw [hout]
      simp

theorem silence_waits {s : State} (hs : s.up) (h : s.dev.ply.latch = true ∨ s.dev.ply.sinceStroke < 3) :
    Runs .silenceLatchCut s (fun t => s.silent t s.dev) := by
  refine Runs.main (f := latchCut) rfl hs ?_
  rw [latchCut_waits (d := s.dev.fresh0) h]
  exact State.silent_after s

end Sys2Proof.Machine
end

section
/-!
FAST_LOOP_OUTPUT_WRITE (R334, R355, R414).
-/
namespace Sys2Proof.Machine

/-! ### Where a loop's output goes does not move with its execution -/

/-- The point and the channel that a loop's output goes to. -/
def Loop.targets (l : Loop) : Nat × Option Nat := (l.outPt, l.drives)

theorem Loop.targets_of_cfg {l l' : Loop} (h : l'.cfg = l.cfg) (hl : l'.lostCl = l.lostCl) : l'.targets = l.targets := by
  unfold Loop.targets Loop.outPt Loop.drives Loop.uf Loop.bf
  rw [h, hl]

/-- Fields that name no target leave them. -/
theorem Loop.targets_setCfg {l : Loop} {lo n : Nat} (v : BitVec n) (h : 225 ≤ lo ∧ lo + n ≤ 333 ∨ 350 ≤ lo) :
    (l.setCfg lo n v).targets = l.targets := by
  unfold Loop.targets Loop.outPt Loop.drives Loop.uf Loop.bf Loop.setCfg
  dsimp only
  rw [fld_merge_other _ _ (by omega) (by omega), fld_merge_other _ _ (by omega) (by omega),
    bit_merge_other _ _ (by omega) (by omega)]

theorem loopFeReact_targets (l : Loop) (pv : Int) : (loopFeReact l pv).1.targets = l.targets := by
  unfold loopFeReact
  dsimp only
  split
  · refine (Loop.targets_of_cfg rfl rfl).trans ((Loop.targets_setCfg _ (Or.inr (by omega))).trans
      ((Loop.targets_setCfg _ (Or.inl (by omega))).trans (Loop.targets_of_cfg rfl rfl)))
  · exact Loop.targets_of_cfg rfl rfl
  · exact Loop.targets_of_cfg rfl rfl

theorem loopFe_targets (l : Loop) (pv : Int) : (loopFe l pv).1.targets = l.targets := by
  unfold loopFe
  split
  · rfl
  · split
    · split
      · split
        · exact Loop.targets_of_cfg rfl rfl
        · exact loopFeReact_targets ..
      · split
        · exact Loop.targets_of_cfg rfl rfl
        · exact loopFeReact_targets ..
    · split
      · exact Loop.targets_of_cfg rfl rfl
      · exact Loop.targets_of_cfg rfl rfl

theorem loopForce_targets (l : Loop) (pv sp ff w : Int) (upd : Bool) : (loopForce l pv sp ff w upd).targets = l.targets := by
  unfold loopForce
  dsimp only
  split
  · exact Loop.targets_of_cfg rfl rfl
  · exact Loop.targets_of_cfg rfl rfl

theorem loopBody_targets (l : Loop) (x : LoopIn) : (loopBody l x).1.targets = l.targets := by
  have hf (l : Loop) (pv sp ff w : Int) (upd : Bool) : (loopForce l pv sp ff w upd).targets = l.targets :=
    loopForce_targets ..
  unfold loopBody
  dsimp only
  split
  · split
    · exact (Loop.targets_of_cfg (l := loopForce ..) rfl rfl).trans ((hf ..).trans (Loop.targets_of_cfg rfl rfl))
    · exact Loop.targets_of_cfg rfl rfl
  · split
    · exact Loop.targets_of_cfg rfl rfl
    · split
      · exact (Loop.targets_of_cfg (l := loopForce ..) rfl rfl).trans (hf ..)
      · refine (loopFe_targets ..).trans ?_
        split
        · exact Loop.targets_of_cfg rfl rfl
        · exact Loop.targets_of_cfg rfl rfl
  · split
    · exact (loopFe_targets ..).trans (Loop.targets_of_cfg rfl rfl)
    · exact Loop.targets_of_cfg rfl rfl
  · exact (Loop.targets_of_cfg (l := loopForce ..) rfl rfl).trans (hf ..)

theorem loopExec_targets (l : Loop) (x : LoopIn) (cal : W64) : (loopExec l x cal).1.targets = l.targets := by
  unfold loopExec
  dsimp only
  split
  · rfl
  · split
    · exact Loop.targets_of_cfg rfl rfl
    · have hff : (if l.bf 237 && qUsable x.snap.ff.q then { l with ffLast := x.snap.ff.v } else l).targets = l.targets := by
        split
        · exact Loop.targets_of_cfg rfl rfl
        · rfl
      generalize (if l.bf 237 && qUsable x.snap.ff.q then { l with ffLast := x.snap.ff.v } else l : Loop) = l1 at hff ⊢
      split
      · exact (Loop.targets_of_cfg rfl rfl).trans hff
      · refine (Loop.targets_of_cfg (l := (loopBody _ x).1) rfl rfl).trans ((loopBody_targets ..).trans ?_)
        exact (Loop.targets_of_cfg rfl rfl).trans hff

theorem loopSkip_targets (l : Loop) (x : LoopVal) (cal : W64) : (loopSkip l x cal).1.targets = l.targets := by
  unfold loopSkip
  dsimp only
  split
  · rfl
  · split
    · exact Loop.targets_of_cfg rfl rfl
    · exact Loop.targets_of_cfg rfl rfl

/-! ### The executions -/

/-- What became of one loop that executed or was skipped over the module `d`. -/
def Loop.executed (done : Bool) (cal : W64) (d : Dev) (l r : Loop) : Prop :=
  ∃ x : LoopIn, x.snap = l.snap ∧ x.outPt = d.loopVal l.outPt ∧
    r = if done then (loopExec l x cal).1 else (loopSkip l l.snap.pv cal).1

theorem Loop.executed_targets {done : Bool} {cal : W64} {d : Dev} {l r : Loop} (h : l.executed done cal d r) :
    r.targets = l.targets := by
  obtain ⟨x, -, -, hr⟩ := h
  rw [hr]
  split
  · exact loopExec_targets ..
  · exact loopSkip_targets ..

theorem Dev.loopVal_congr {d d' : Dev} (h : d'.ps = d.ps) (p : Nat) : d'.loopVal p = d.loopVal p := by
  unfold Dev.loopVal Dev.point
  rw [h]

/-- A run of executions that each touch one loop. -/
theorem foldl_loops_other {f : Dev → Nat → Dev} (h : ∀ (d : Dev) j m, m ≠ j → (f d j).loop m = d.loop m) {js : List Nat} {m : Nat}
    (hm : m ∉ js) (d : Dev) : (js.foldl f d).loop m = d.loop m := by
  induction js generalizing d with
  | nil => rfl
  | cons j js ih =>
    obtain ⟨h1, h2⟩ := not_or.1 (fun hc => hm (List.mem_cons.2 hc))
    exact (ih h2 _).trans (h d j m h1)

theorem foldl_loops_mem {f : Dev → Nat → Dev} {done : Bool} {cal : W64} (hf : ∀ d j, Dev.executes d (f d j))
    (ho : ∀ (d : Dev) j m, m ≠ j → (f d j).loop m = d.loop m) (hs : ∀ (d : Dev) j, (d.loop j).executed done cal d ((f d j).loop j))
    {js : List Nat} (hn : js.Nodup) {m : Nat} (hm : m ∈ js) (d : Dev) :
    (d.loop m).executed done cal d ((js.foldl f d).loop m) := by
  induction js generalizing d with
  | nil => exact absurd hm List.not_mem_nil
  | cons j js ih =>
    obtain ⟨hj, hn'⟩ := List.nodup_cons.1 hn
    rw [List.foldl_cons]
    by_cases hk : m = j
    · subst hk
      rw [foldl_loops_other ho hj]
      exact hs d m
    · have hi := ih hn' ((List.mem_cons.1 hm).resolve_left hk) (f d j)
      obtain ⟨-, hps, -⟩ := Dev.executes_keeps (hf d j)
      obtain ⟨x, hx1, hx2, hx3⟩ := hi
      rw [ho d j m hk] at hx1 hx2 hx3
      exact ⟨x, hx1, hx2.trans (Dev.loopVal_congr hps _), hx3⟩

theorem loopRun_executed (cal : W64) (d : Dev) (j : Nat) :
    (d.loop j).executed true cal d ((loopRun j cal d).loop j) :=
  ⟨_, rfl, rfl, (loopPut_loop j j _ d).trans (if_pos rfl)⟩

theorem loopMiss_executed (cal : W64) (d : Dev) (j : Nat) :
    (d.loop j).executed false cal d ((loopMiss j cal d).loop j) :=
  ⟨⟨(d.loop j).snap, d.loop 0, d.loop 0, d.loopVal (d.loop j).outPt⟩, rfl, rfl, (loopPut_loop j j _ d).trans (if_pos rfl)⟩

theorem loopRun_other (cal : W64) (d : Dev) (j m : Nat) (h : m ≠ j) : (loopRun j cal d).loop m = d.loop m :=
  (loopPut_loop j m _ d).trans (if_neg h)

theorem loopMiss_other (cal : W64) (d : Dev) (j m : Nat) (h : m ≠ j) : (loopMiss j cal d).loop m = d.loop m :=
  (loopPut_loop j m _ d).trans (if_neg h)

theorem lateReported_loop (late : List Nat) (d : Dev) (m : Nat) : (lateReported late d).loop m = d.loop m := by
  unfold lateReported
  split
  · rfl
  · exact Dev.loop_of_loops (by simp) m

theorem fastRun_other {k : Nat} {js : List Nat} {m : Nat} (hm : m ∉ js) (cal : W64) (d : Dev) :
    (fastRun k cal js d).loop m = d.loop m := by
  unfold fastRun
  rw [lateReported_loop, foldl_loops_other (loopMiss_other cal) (fun h => hm (List.mem_of_mem_drop h)),
    foldl_loops_other (loopRun_other cal) (fun h => hm (List.mem_of_mem_take h))]

/-- Of the loops latched the first `k` execute, and the others are skipped. -/
theorem fastRun_executed {k : Nat} {js : List Nat} (hn : js.Nodup) {m : Nat} (hm : m ∈ js) (cal : W64) (d : Dev) :
    (d.loop m).executed ((js.take k).contains m) cal d ((fastRun k cal js d).loop m) := by
  have hsplit : (js.take k ++ js.drop k).Nodup := by rwa [List.take_append_drop]
  obtain ⟨ht, hd, hdis⟩ := List.nodup_append.1 hsplit
  unfold fastRun
  rw [lateReported_loop]
  by_cases h : m ∈ js.take k
  · rw [foldl_loops_other (loopMiss_other cal) (fun hc => hdis m h m hc rfl), List.contains_iff_mem.2 h]
    exact foldl_loops_mem (fun d j => loopRun_executes j cal d) (loopRun_other cal) (loopRun_executed cal) ht h d
  · have hmd : m ∈ js.drop k := by
      rw [← List.take_append_drop k js] at hm
      exact (List.mem_append.1 hm).resolve_left h
    have hc : (js.take k).contains m = false := by
      rw [Bool.eq_false_iff]
      exact fun hc => h (List.contains_iff_mem.1 hc)
    rw [hc]
    have hr := foldl_executes (fun d j => loopRun_executes j cal d) (js.take k) d
    have hl := foldl_loops_other (loopRun_other cal) h d
    generalize (js.take k).foldl (fun d j => loopRun j cal d) d = b at hr hl ⊢
    obtain ⟨x, hx1, hx2, hx3⟩ :=
      foldl_loops_mem (fun d j => loopMiss_executes j cal d) (loopMiss_other cal) (loopMiss_executed cal) hd hmd b
    obtain ⟨-, hps, -⟩ := Dev.executes_keeps hr
    rw [hl] at hx1 hx2 hx3
    exact ⟨x, hx1, hx2.trans (Dev.loopVal_congr hps _), hx3⟩

/-! ### The deliveries -/

/-- A loop that has delivered its output. -/
def Loop.delivered (l : Loop) : Loop := { l with out := none }

theorem Loop.delivered_of_none {l : Loop} (h : l.out = none) : l.delivered = l := by
  unfold Loop.delivered
  rw [← h]

theorem Loop.delivered_targets (l : Loop) : l.delivered.targets = l.targets := Loop.targets_of_cfg rfl rfl

theorem produce_keeps_source (p q : Nat) (v : W64) (c : BitVec 2) (det : BitVec 8) (cal : W64) (d : Dev) :
    ((produce p v c det cal d).point q).srcKind = (d.point q).srcKind ∧
      ((produce p v c det cal d).point q).srcIndex = (d.point q).srcIndex := by
  have hst (x : Point) (h1 : x.srcKind = (d.point p).srcKind) (h2 : x.srcIndex = (d.point p).srcIndex) :
      ((storePoint p x cal d).point q).srcKind = (d.point q).srcKind ∧
        ((storePoint p x cal d).point q).srcIndex = (d.point q).srcIndex := by
    rw [storePoint_point_eq]
    obtain ⟨-, -, -, -, hk, hi, -⟩ := Point.stored_keeps (d.point p) x cal
    split
    · next h =>
      rw [hk, hi, h]
      exact ⟨h1, h2⟩
    · exact ⟨rfl, rfl⟩
  unfold produce
  dsimp only
  split
  · exact ⟨rfl, rfl⟩
  · split
    · exact hst _ rfl rfl
    · exact hst _ rfl rfl

/-- A producer's update stands in its point (R57, R58, R72). -/
theorem produce_took (p : Nat) (v : W64) (q : BitVec 2) (det : BitVec 8) (cal : W64) (d : Dev) :
    tookValue d (produce p v q det cal d) p v q det := by
  intro hs hq
  have hsq : ¬ ((d.point p).subst || (d.point p).quarantined) = true := by
    rw [hs, hq]
    decide
  unfold produce
  dsimp only
  rw [if_neg hsq]
  split
  · rw [storePoint_point_eq, if_pos rfl]
    obtain ⟨h1, h2, h3, -⟩ := Point.stored_keeps (d.point p) { d.point p with quality := 2, detail := 0x0F } cal
    exact ⟨h1, h2, h3⟩
  · rw [storePoint_point_eq, if_pos rfl]
    obtain ⟨h1, h2, h3, -⟩ := Point.stored_keeps (d.point p)
      { d.point p with value := canonical (d.point p).ptype.toNat v, quality := q, detail := det } cal
    exact ⟨h1, h2, h3⟩

theorem tookValue_congr {a a' b b' : Dev} {p : Nat} {v : W64} {q : BitVec 2} {det : BitVec 8}
    (h1 : a'.point p = a.point p) (h2 : b'.point p = b.point p) (h : tookValue a b p v q det) : tookValue a' b' p v q det := by
  unfold tookValue at h ⊢
  rw [h1, h2]
  exact h

theorem clSetpoint_keeps (k : Nat) (v : Int) (q : BitVec 2) (d : Dev) : (clSetpoint k v q d).lp = d.lp ∧
    (clSetpoint k v q d).ps = d.ps ∧ ∀ c, c ≠ k → (clSetpoint k v q d).cloop c = d.cloop c := by
  have hset (c : CLoop) : (d.setCloop k c).lp = d.lp ∧ (d.setCloop k c).ps = d.ps ∧
      ∀ m, m ≠ k → (d.setCloop k c).cloop m = d.cloop m :=
    ⟨rfl, rfl, fun m hm => (Dev.cloop_setCloop ..).trans (if_neg hm)⟩
  unfold clSetpoint
  dsimp only
  split
  · exact ⟨rfl, rfl, fun _ _ => rfl⟩
  · split
    · exact hset _
    · split
      · exact hset _
      · exact hset _

/-- A set-point in force: within its limits, or the failsafe value (R413, R415). -/
theorem clSetpoint_holds {k : Nat} {v : Int} {q : BitVec 2} {d : Dev} (h : (d.cloop k).isOutput = true) :
    let c := d.cloop k
    (qUsable q = true → (clSetpoint k v q d).cloop k = { c with
      spAct := BitVec.ofInt 32 (clampInt c.spMin c.spMax v), spEver := true, clamped := clampInt c.spMin c.spMax v != v }) ∧
    (qUsable q = false → (clSetpoint k v q d).cloop k = { c with
      spAct := if c.fsHold && c.spEver then c.spAct else BitVec.ofNat 32 c.fsUa, clamped := false }) := by
  have hset (x : CLoop) : (d.setCloop k x).cloop k = x := (Dev.cloop_setCloop ..).trans (if_pos rfl)
  unfold clSetpoint
  dsimp only
  rw [h]
  simp only [Bool.not_true, if_neg Bool.false_ne_true]
  refine ⟨fun hq => ?_, fun hq => ?_⟩
  · rw [if_pos hq, hset]
  · rw [if_neg (ne_true_of_eq_false hq)]
    split
    · rw [hset]
    · rw [hset]

theorem driveFast_keeps (j : Nat) (l : Loop) (v : Int) (q : BitVec 2) (d : Dev) : (driveFast j l v q d).lp = d.lp ∧
    (driveFast j l v q d).ps = d.ps ∧
    ∀ c, (isFast j = true → l.drives ≠ some c) → (driveFast j l v q d).cloop c = d.cloop c := by
  unfold driveFast
  split
  · next ch h =>
    obtain ⟨h1, h2, h3⟩ := clSetpoint_keeps ch v q d
    refine ⟨h1, h2, fun c hc => h3 c fun he => ?_⟩
    by_cases hj : isFast j = true
    · rw [if_pos hj] at h
      exact hc hj (he ▸ h)
    · rw [if_neg hj] at h
      exact absurd h nofun
  · exact ⟨rfl, rfl, fun _ _ => rfl⟩

theorem deliverPoint_keeps (j : Nat) (l : Loop) (o : LoopOut) (d : Dev) : (deliverPoint j l o d).lp = d.lp ∧
    (deliverPoint j l o d).cl = d.cl := by
  have h := Dev.stores_dev (deliverPoint_stores j l o d)
  rw [h]
  exact ⟨rfl, rfl⟩

theorem deliverPoint_owns (j : Nat) (l : Loop) (o : LoopOut) (d : Dev) (i p : Nat) :
    (deliverPoint j l o d).loopOwns i p = d.loopOwns i p := by
  unfold deliverPoint
  split
  · obtain ⟨h1, h2⟩ := produce_keeps_source l.outPt p (o.v.setWidth 64) o.q o.d o.cal d
    unfold Dev.loopOwns
    rw [h1, h2]
  · rfl

theorem Dev.owns_congr {d d' : Dev} (h : d'.ps = d.ps) (i p : Nat) : d'.loopOwns i p = d.loopOwns i p := by
  unfold Dev.loopOwns Dev.point
  rw [h]

theorem Dev.cloop_congr {d d' : Dev} (h : d'.cl = d.cl) (c : Nat) : d'.cloop c = d.cloop c := by
  unfold Dev.cloop
  rw [h]

theorem loopCommit_some {j : Nat} {d : Dev} {o : LoopOut} (ho : (d.loop j).out = some o) :
    loopCommit j d = driveFast j (d.loop j) o.v.toInt o.q
      (deliverPoint j (d.loop j) o (d.setLoop j (d.loop j).delivered)) := by
  rw [loopCommit_eq, ho]
  rfl

/-- A loop's own delivery: what it leaves of the loops, of the other points and of the other channels. -/
theorem loopCommit_keeps (j : Nat) (d : Dev) :
    (∀ m, (loopCommit j d).loop m = if m = j then (d.loop j).delivered else d.loop m) ∧
    (∀ i p, (loopCommit j d).loopOwns i p = d.loopOwns i p) ∧
    (∀ p, (d.loopOwns j (d.loop j).outPt = true → (d.loop j).outPt ≠ p) → (loopCommit j d).point p = d.point p) ∧
    ∀ c, (isFast j = true → (d.loop j).drives ≠ some c) → (loopCommit j d).cloop c = d.cloop c := by
  cases ho : (d.loop j).out with
  | none =>
    have hsame (m : Nat) : d.loop m = if m = j then (d.loop j).delivered else d.loop m := by
      rw [Loop.delivered_of_none ho]
      split
      · next h => rw [h]
      · rfl
    have he : loopCommit j d = if (d.loop j).st = .init then driveFast j (d.loop j) 0 3 d else d := by
      rw [loopCommit_eq, ho]
    rw [he]
    split
    · obtain ⟨h1, h2, h3⟩ := driveFast_keeps j (d.loop j) 0 3 d
      exact ⟨fun m => (Dev.loop_of_loops (congrArg LoopEngine.loops h1) m).trans (hsame m), Dev.owns_congr h2,
        fun p _ => Dev.point_congr (congrArg PointStore.points h2) p, h3⟩
    · exact ⟨hsame, fun _ _ => rfl, fun _ _ => rfl, fun _ _ => rfl⟩
  | some o =>
    rw [loopCommit_some ho]
    have hl (m : Nat) : (d.setLoop j (d.loop j).delivered).loop m = if m = j then (d.loop j).delivered else d.loop m :=
      Dev.loop_setLoop ..
    have hps : (d.setLoop j (d.loop j).delivered).ps = d.ps := Dev.setLoop_ps ..
    have hcl : (d.setLoop j (d.loop j).delivered).cl = d.cl := Dev.setLoop_cl ..
    generalize d.setLoop j (d.loop j).delivered = b at hl hps hcl ⊢
    obtain ⟨h1, h2⟩ := deliverPoint_keeps j (d.loop j) o b
    have h3 := deliverPoint_owns j (d.loop j) o b
    have h4 (p : Nat) (hp : b.loopOwns j (d.loop j).outPt = true → (d.loop j).outPt ≠ p) :
        (deliverPoint j (d.loop j) o b).point p = b.point p := by
      by_cases hc : p = (d.loop j).outPt
      · unfold deliverPoint
        rw [if_neg fun hw => hp hw hc.symm]
      · exact (deliverPoint_stores j (d.loop j) o b).1 p hc
    generalize deliverPoint j (d.loop j) o b = c at h1 h2 h3 h4 ⊢
    obtain ⟨g1, g2, g3⟩ := driveFast_keeps j (d.loop j) o.v.toInt o.q c
    refine ⟨fun m => ?_, fun i p => ?_, fun p hp => ?_, fun x hx => ?_⟩
    · rw [Dev.loop_of_loops (congrArg LoopEngine.loops (g1.trans h1)) m]
      exact hl m
    · rw [Dev.owns_congr g2, h3, Dev.owns_congr hps]
    · rw [Dev.point_congr (congrArg PointStore.points g2), h4 p (fun hw => hp ((Dev.owns_congr hps ..) ▸ hw)), Dev.point_congr (congrArg PointStore.points hps)]
    · rw [g3 x hx, Dev.cloop_congr h2, Dev.cloop_congr hcl]

/-- What a loop's delivery leaves in its point and in the channel that it drives. -/
theorem loopCommit_holds (j : Nat) (d : Dev) {o : LoopOut} (ho : (d.loop j).out = some o) :
    (d.loopOwns j (d.loop j).outPt = true →
      tookValue d (loopCommit j d) (d.loop j).outPt (o.v.setWidth 64) o.q o.d) ∧
    ∀ ch, isFast j = true → (d.loop j).drives = some ch → (d.cloop ch).isOutput = true →
      let c := d.cloop ch
      let w := clampInt c.spMin c.spMax o.v.toInt
      (qUsable o.q = true →
        (loopCommit j d).cloop ch = { c with spAct := BitVec.ofInt 32 w, spEver := true, clamped := w != o.v.toInt }) ∧
      (qUsable o.q = false → (loopCommit j d).cloop ch = { c with
        spAct := if c.fsHold && c.spEver then c.spAct else BitVec.ofNat 32 c.fsUa, clamped := false }) := by
  have hps : (d.setLoop j (d.loop j).delivered).ps = d.ps := Dev.setLoop_ps ..
  have hcl : (d.setLoop j (d.loop j).delivered).cl = d.cl := Dev.setLoop_cl ..
  rw [loopCommit_some ho]
  generalize d.setLoop j (d.loop j).delivered = b at hps hcl ⊢
  obtain ⟨-, h2⟩ := deliverPoint_keeps j (d.loop j) o b
  refine ⟨fun hw => ?_, fun ch hj hd hout => ?_⟩
  · have hp : deliverPoint j (d.loop j) o b = produce (d.loop j).outPt (o.v.setWidth 64) o.q o.d o.cal b :=
      if_pos ((Dev.owns_congr hps ..).trans hw)
    obtain ⟨-, g2, -⟩ := driveFast_keeps j (d.loop j) o.v.toInt o.q (deliverPoint j (d.loop j) o b)
    rw [hp] at g2 ⊢
    exact tookValue_congr (Dev.point_congr (congrArg PointStore.points hps) _).symm (Dev.point_congr (congrArg PointStore.points g2) _) (produce_took _ _ _ _ _ _)
  · have hc : (deliverPoint j (d.loop j) o b).cloop ch = d.cloop ch := Dev.cloop_congr (h2.trans hcl) ch
    have hdr : driveFast j (d.loop j) o.v.toInt o.q (deliverPoint j (d.loop j) o b) =
        clSetpoint ch o.v.toInt o.q (deliverPoint j (d.loop j) o b) := by
      unfold driveFast
      rw [if_pos hj, hd]
    rw [hdr]
    generalize deliverPoint j (d.loop j) o b = e at hc ⊢
    have hs := clSetpoint_holds (k := ch) (v := o.v.toInt) (q := o.q) (d := e) (by rw [hc]; exact hout)
    rw [hc] at hs
    exact hs

theorem fastCommit_loop (js : List Nat) (d : Dev) (m : Nat) :
    (fastCommit js d).loop m = if m ∈ js then (d.loop m).delivered else d.loop m := by
  induction js generalizing d with
  | nil => rw [if_neg List.not_mem_nil]; rfl
  | cons j js ih =>
    obtain ⟨hl, -⟩ := loopCommit_keeps j d
    have h := ih (loopCommit j d)
    rw [hl] at h
    refine h.trans ?_
    by_cases hm : m = j
    · rw [if_pos hm, if_pos (List.mem_cons.2 (Or.inl hm)), hm]
      split
      · rfl
      · rfl
    · rw [if_neg hm]
      by_cases hmj : m ∈ js
      · rw [if_pos hmj, if_pos (List.mem_cons_of_mem _ hmj)]
      · rw [if_neg hmj, if_neg fun hc => hmj ((List.mem_cons.1 hc).resolve_left hm)]

/-- The deliveries of loops that do not own a point, and do not drive a channel, leave both. -/
theorem fastCommit_others {js : List Nat} {d : Dev} :
    (∀ i p, (fastCommit js d).loopOwns i p = d.loopOwns i p) ∧
    (∀ p, (∀ i ∈ js, d.loopOwns i (d.loop i).targets.1 = true → (d.loop i).targets.1 ≠ p) →
      (fastCommit js d).point p = d.point p) ∧
    ∀ c, (∀ i ∈ js, isFast i = true → (d.loop i).targets.2 ≠ some c) → (fastCommit js d).cloop c = d.cloop c := by
  induction js generalizing d with
  | nil => exact ⟨fun _ _ => rfl, fun _ _ => rfl, fun _ _ => rfl⟩
  | cons j js ih =>
    obtain ⟨h1, h2, h3, h4⟩ := loopCommit_keeps j d
    obtain ⟨i1, i2, i3⟩ := ih (d := loopCommit j d)
    have ht (i : Nat) : ((loopCommit j d).loop i).targets = (d.loop i).targets := by
      rw [h1]
      split
      · next h =>
        rw [h]
        exact Loop.delivered_targets _
      · rfl
    change (∀ i p, (fastCommit js (loopCommit j d)).loopOwns i p = _) ∧
      (∀ p, _ → (fastCommit js (loopCommit j d)).point p = _) ∧
      ∀ c, _ → (fastCommit js (loopCommit j d)).cloop c = _
    refine ⟨fun i p => (i1 i p).trans (h2 i p), fun p hp => ?_, fun c hc => ?_⟩
    · refine (i2 p fun i hi => ?_).trans (h3 p (hp j List.mem_cons_self))
      rw [ht, h2]
      exact hp i (List.mem_cons_of_mem _ hi)
    · refine (i3 c fun i hi => ?_).trans (h4 c (hc j List.mem_cons_self))
      rw [ht]
      exact hc i (List.mem_cons_of_mem _ hi)

/-- Two loops that own one point are one loop (R62). -/
theorem loopOwns_unique {d : Dev} {i j p : Nat} (hi : i < 2112) (hj : j < 2112) (h1 : d.loopOwns i p = true)
    (h2 : d.loopOwns j p = true) : i = j := by
  unfold Dev.loopOwns at h1 h2
  have e1 := beq_iff_eq.1 (Bool.and_eq_true_iff.1 h1).2
  have e2 := beq_iff_eq.1 (Bool.and_eq_true_iff.1 h2).2
  have h := congrArg BitVec.toNat (e1.symm.trans e2)
  rw [BitVec.toNat_ofNat, BitVec.toNat_ofNat] at h
  omega

/-- What one loop's delivery leaves stands after all of them. -/
theorem fastCommit_holds {js : List Nat} {d : Dev} (hn : js.Nodup) (hb : ∀ i ∈ js, i < 2112) {j : Nat} (hj : j ∈ js)
    (hf : isFast j = true) {o : LoopOut} (ho : (d.loop j).out = some o) :
    (d.loopOwns j (d.loop j).outPt = true →
      tookValue d (fastCommit js d) (d.loop j).outPt (o.v.setWidth 64) o.q o.d) ∧
    ∀ ch, (d.loop j).drives = some ch → (∀ i ∈ js, (d.loop i).drives = some ch → i = j) → (d.cloop ch).isOutput = true →
      let c := d.cloop ch
      let w := clampInt c.spMin c.spMax o.v.toInt
      (qUsable o.q = true →
        (fastCommit js d).cloop ch = { c with spAct := BitVec.ofInt 32 w, spEver := true, clamped := w != o.v.toInt }) ∧
      (qUsable o.q = false → (fastCommit js d).cloop ch = { c with
        spAct := if c.fsHold && c.spEver then c.spAct else BitVec.ofNat 32 c.fsUa, clamped := false }) := by
  obtain ⟨as, bs, rfl⟩ := List.append_of_mem hj
  obtain ⟨-, hnb, hdis⟩ := List.nodup_append.1 hn
  have hja : j ∉ as := fun h => hdis j h j List.mem_cons_self rfl
  obtain ⟨hjb, -⟩ := List.nodup_cons.1 hnb
  have hmem (i : Nat) (h : i ∈ as ∨ i ∈ bs) : i ∈ as ++ j :: bs ∧ i ≠ j := by
    rcases h with h | h
    · exact ⟨List.mem_append_left _ h, fun he => hja (he ▸ h)⟩
    · exact ⟨List.mem_append_right _ (List.mem_cons_of_mem _ h), fun he => hjb (he ▸ h)⟩
  have hown (p : Nat) (hw : d.loopOwns j p = true) (i : Nat) (hi : i ∈ as ∨ i ∈ bs) :
      d.loopOwns i (d.loop i).targets.1 = true → (d.loop i).targets.1 ≠ p := by
    intro hi' he
    obtain ⟨hm, hne⟩ := hmem i hi
    rw [he] at hi'
    exact hne (loopOwns_unique (hb i hm) (hb j hj) hi' hw)
  have hdrv (ch : Nat) (hu : ∀ i ∈ as ++ j :: bs, (d.loop i).drives = some ch → i = j) (i : Nat) (hi : i ∈ as ∨ i ∈ bs) :
      (d.loop i).targets.2 ≠ some ch := by
    intro he
    obtain ⟨hm, hne⟩ := hmem i hi
    exact hne (hu i hm he)
  have hsplit : fastCommit (as ++ j :: bs) d = fastCommit bs (loopCommit j (fastCommit as d)) := List.foldl_append ..
  have hloop (m : Nat) := fastCommit_loop as d m
  obtain ⟨a1, a2, a3⟩ := fastCommit_others (js := as) (d := d)
  have htarget (m : Nat) : ((fastCommit as d).loop m).targets = (d.loop m).targets := by
    rw [hloop]
    split
    · exact Loop.delivered_targets _
    · rfl
  have hself : (fastCommit as d).loop j = d.loop j := (hloop j).trans (if_neg hja)
  rw [hsplit]
  generalize fastCommit as d = a at hself a1 a2 a3 htarget ⊢
  have hc := loopCommit_holds j a (o := o) (by rw [hself]; exact ho)
  obtain ⟨k1, k2, k3, k4⟩ := loopCommit_keeps j a
  rw [hself] at hc k1 k3 k4
  have htarget' (m : Nat) : ((loopCommit j a).loop m).targets = (d.loop m).targets := by
    rw [k1]
    split
    · next h =>
      rw [h]
      exact Loop.delivered_targets _
    · exact htarget m
  generalize loopCommit j a = b at hc k1 k2 k3 k4 htarget' ⊢
  obtain ⟨-, b2, b3⟩ := fastCommit_others (js := bs) (d := b)
  obtain ⟨hc1, hc2⟩ := hc
  refine ⟨fun hw => ?_, fun ch hd hu hout => ?_⟩
  · refine tookValue_congr ?_ ?_ (hc1 ((a1 ..).trans hw))
    · exact (a2 _ fun i hi => hown _ hw i (Or.inl hi)).symm
    · refine b2 _ fun i hi => ?_
      rw [htarget', k2, a1]
      exact hown _ hw i (Or.inr hi)
  · have hca : a.cloop ch = d.cloop ch := a3 ch fun i hi _ => hdrv ch hu i (Or.inl hi)
    have hcb : (fastCommit bs b).cloop ch = b.cloop ch := b3 ch fun i hi _ => by
      rw [htarget']
      exact hdrv ch hu i (Or.inr hi)
    have h := hc2 ch hf hd (by rw [hca]; exact hout)
    rw [hca] at h
    rw [hcb]
    exact h

/-! ### Cycle 1,250 -/

/-- The module after cycle 1,250, with the loops of `js` due, of which the first `k` execute. -/
def fastDelivery (k : Nat) (cal : W64) (js : List Nat) (d : Dev) : Dev := (fastCommit js (fastRun k cal js d)).fastDone

theorem fastDelivery_loop (k : Nat) (cal : W64) (js : List Nat) (d : Dev) (m : Nat) :
    (fastDelivery k cal js d).loop m = if m ∈ js then ((fastRun k cal js d).loop m).delivered else d.loop m := by
  refine (fastCommit_loop js (fastRun k cal js d) m).trans ?_
  split
  · rfl
  · next h => exact fastRun_other h cal d

theorem fastDelivery_delivered {k : Nat} {cal : W64} {js : List Nat} {d d' : Dev} (hn : js.Nodup) (hb : ∀ i ∈ js, i < 2112)
    (hf : ∀ i ∈ js, isFast i = true) {j : Nat} (hj : j ∈ js) (hlp : d'.lp = (fastDelivery k cal js d).lp)
    (hps : d'.ps = (fastDelivery k cal js d).ps) (hcl : d'.cl = (fastDelivery k cal js d).cl) :
    fastDelivered ((js.take k).contains j) cal js j d d' := by
  obtain ⟨x, hx1, hx2, hr⟩ := fastRun_executed (k := k) hn hj cal d
  have hloop : d'.loop j = ((fastRun k cal js d).loop j).delivered :=
    (Dev.loop_of_loops (congrArg LoopEngine.loops hlp) j).trans ((fastDelivery_loop ..).trans (if_pos hj))
  have htarget (i : Nat) (hi : i ∈ js) : ((fastRun k cal js d).loop i).targets = (d.loop i).targets :=
    Loop.executed_targets (fastRun_executed hn hi cal d)
  obtain ⟨-, eps, ecl, -⟩ := Dev.executes_keeps (fastRun_executes k cal js d)
  have hps' : d'.ps = (fastCommit js (fastRun k cal js d)).ps := hps
  have hcl' : d'.cl = (fastCommit js (fastRun k cal js d)).cl := hcl
  refine ⟨x, hx1, hx2, ?_⟩
  intro r
  have hr' : (fastRun k cal js d).loop j = r := hr
  refine ⟨hloop.trans (congrArg Loop.delivered hr'), fun o ho => ?_⟩
  have hc := fastCommit_holds (d := fastRun k cal js d) hn hb hj (hf j hj) (o := o) (by rw [hr']; exact ho)
  have hp : ((fastRun k cal js d).loop j).outPt = (d.loop j).outPt := congrArg Prod.fst (htarget j hj)
  have hdr (i : Nat) (hi : i ∈ js) : ((fastRun k cal js d).loop i).drives = (d.loop i).drives :=
    congrArg Prod.snd (htarget i hi)
  obtain ⟨h1, h2⟩ := hc
  rw [hp] at h1
  rw [hdr j hj] at h2
  refine ⟨fun hw => ?_, fun ch hd hu hout => ?_⟩
  · exact tookValue_congr (Dev.point_congr (congrArg PointStore.points eps) _).symm
      (Dev.point_congr (congrArg PointStore.points hps') _) (h1 ((Dev.owns_congr eps ..).trans hw))
  · have hca : (fastRun k cal js d).cloop ch = d.cloop ch := Dev.cloop_congr ecl ch
    have hcb : d'.cloop ch = (fastCommit js (fastRun k cal js d)).cloop ch := Dev.cloop_congr hcl' ch
    have h := h2 ch hd (fun i hi hi' => hu i hi ((hdr i hi).symm.trans hi')) (by rw [hca]; exact hout)
    rw [hca] at h
    rw [hcb]
    exact h

theorem enabledLoops_isFast {d : Dev} {j : Nat} (h : j ∈ d.enabledLoops true) : isFast j = true := by
  obtain ⟨x, hx, he⟩ := List.mem_map.1 h
  obtain ⟨-, hp⟩ := List.mem_filter.1 hx
  rw [← he]
  exact beq_iff_eq.1 (Bool.and_eq_true_iff.1 hp).2

/-- Which of the loops due have completed. -/
theorem completed_eq (n : Option Nat) (js : List Nat) {j : Nat} (hj : j ∈ js) :
    (n.all fun k => (js.take k).contains j) = (js.take (n.getD js.length)).contains j := by
  cases n with
  | some k => rfl
  | none =>
    rw [Option.getD_none, List.take_length]
    exact (List.contains_iff_mem.2 hj).symm

theorem fastWrite_runs {s : State} (hs : s.up) (n : Option Nat) {cal : W64} {latched : List Nat}
    (hd : s.dev.lp.fastDue = some (cal, latched)) : Runs (.fastLoopOutputWrite n) s (fun t =>
      let js := s.dev.fastLoops latched
      t.dev.lp.fastDue = none ∧ (∀ j ∈ js, (t.dev.loop j).out = none) ∧
      (∀ j, j ∉ js → t.dev.loop j = s.dev.loop j) ∧ t.dev.out = [] ∧
      ((s.dev.enabledLoops true).Nodup → (∀ j ∈ s.dev.enabledLoops true, j < 2112) → ∀ j ∈ js,
        fastDelivered (n.all (fun k => (js.take k).contains j)) cal js j s.dev t.dev) ∧
      s.frame t { s.dev with lp := t.dev.lp, ps := t.dev.ps, cl := t.dev.cl }) := by
  refine Runs.main (f := fastWrite n) rfl hs ?_
  intro js
  have he : fastWrite n s.dev.fresh0 = fastDelivery (n.getD js.length) cal js s.dev.fresh0 :=
    fastWrite_eq (d := s.dev.fresh0) hd
  have hl := fastDelivery_loop (n.getD js.length) cal js s.dev.fresh0
  obtain ⟨hr, ha⟩ := fastWrite_delivers n s.dev.fresh0
  have hfd : (fastDelivery (n.getD js.length) cal js s.dev.fresh0).lp.fastDue = none := rfl
  have hdel (hn : js.Nodup) (hb : ∀ i ∈ js, i < 2112) (hf : ∀ i ∈ js, isFast i = true) (j : Nat) (hj : j ∈ js) (d' : Dev) :=
    fastDelivery_delivered (k := n.getD js.length) (cal := cal) (d := s.dev.fresh0) (d' := d') hn hb hf hj
  rw [he] at hr ha ⊢
  generalize fastDelivery (n.getD js.length) cal js s.dev.fresh0 = a at hl hr ha hfd hdel ⊢
  have hk : (s.after a).dev.lp = a.lp ∧ (s.after a).dev.ps = a.ps ∧ (s.after a).dev.cl = a.cl ∧ (s.after a).dev.out = a.out := by
    simp only [State.after_dev, and_self]
  obtain ⟨klp, kps, kcl, kout⟩ := hk
  have hloop (m : Nat) : (s.after a).dev.loop m = a.loop m := Dev.loop_of_loops (congrArg LoopEngine.loops klp) m
  refine ⟨(congrArg LoopEngine.fastDue klp).trans hfd, fun j hj => ?_, fun j hj => ?_, kout.trans (by rw [ha]; rfl),
    fun hn hb j hj => ?_, ?_⟩
  · rw [hloop, hl, if_pos hj]
    rfl
  · rw [hloop, hl, if_neg hj]
    rfl
  · rw [completed_eq n js hj]
    have hsub : ∀ i ∈ js, i ∈ s.dev.enabledLoops true := fun i hi => (List.mem_filter.1 hi).1
    exact hdel (List.Nodup.filter _ hn) (fun i hi => hb i (hsub i hi)) (fun i hi => enabledLoops_isFast (hsub i hi)) j hj
      _ klp kps kcl
  · rw [klp, kps, kcl]
    exact State.frame_of_eq (Dev.reportsTo_congr hr rfl rfl rfl) (by rw [ha]; rfl) (by rw [ha]; rfl)

/-- Settles O35: a cut phase's strobe is an overrun, a finished one's the measured cycles; the silence latch cuts the copies
in transmission; the deliveries of two fast loops meet in no point, since each owns its own. -/
theorem scheduleEvents : Obligations.ScheduleEvents := by
  unfold Obligations.ScheduleEvents
  intro s hs
  refine ⟨fun x hd => ?_, fun x hd => ?_, silence_runs hs, silence_waits hs, fun n cal latched hd => fastWrite_runs hs n hd,
    fun n hd => ?_⟩
  · refine ⟨fun hp => strobe_alone hs hd (Or.inl hp), fun hp => ?_, strobe_c hs hd, fun hp => ?_⟩
    · obtain ⟨t, hx, htb, hu⟩ := strobe_b hs hd hp
      refine ⟨t, hx, htb, fun hc => ?_⟩
      obtain ⟨h1, h2, h3, h4⟩ := hu hc
      refine ⟨fun l hl => ?_, h2, fun j hj m hm => ?_, h4⟩
      · obtain ⟨p1, p2, p3⟩ := peakOf_from l x.lanes (tget 0 s.dev.lg.lanePeak l)
        rw [h1 l hl]
        exact ⟨p2, p1, p3⟩
      · obtain ⟨-, p2, -⟩ := peakOf_from j x.tasks (s.dev.task j).peakCyc
        rw [h3 j hj]
        exact p2 m hm
    · obtain ⟨t, hx, h1, h2, h3⟩ := strobe_f hs hd hp
      refine ⟨t, hx, h1, h2, h3, fun hr hf => ?_⟩
      obtain ⟨t', hx', h⟩ := strobe_alone hs hd (Or.inr ⟨hp, hr, hf⟩)
      have ht : t = t' := Host.Outcome.next.inj (hx.symm.trans hx')
      rw [ht]
      exact h
  · refine Runs.windowEnd (a := s.dev.fresh0) hs ?_ rfl (State.silent_after s)
    exact if_pos hd
  · refine Runs.main (f := fastWrite n) rfl hs ?_
    rw [fastWrite_none (d := s.dev.fresh0) hd]
    exact State.silent_after s

end Sys2Proof.Machine
end

section
/-!
METER_ZERO_CROSSING (R372 to R374): what a period and a window of a set can change.
-/
namespace Sys2Proof.Machine

/-- The channels whose entries are enabled. -/
def Dev.metersOn (d : Dev) : List Nat := (d.mt.chans.filter (fun c => c.2.en)).map (·.1)

/-- From `d` to `d'` a set has worked on its own channels: the entries of the channels in `S` and the set's state have
changed, with the pulse outputs, but no configuration. -/
def Dev.metersAny (x : Nat) (S : List Nat) (d d' : Dev) : Prop :=
  (d.reportsTo d' ∧ d' = { d with mt := d'.mt, tr := d'.tr, rcd := d'.rcd, flt := d'.flt }) ∧
    (d'.mt.engine = d.mt.engine ∧ d'.mt.harm = d.mt.harm ∧ ∀ k, k ≠ x → d'.vset k = d.vset k) ∧
    (∀ c, c ∉ S → d'.mchan c = d.mchan c ∧ d'.acc c = d.acc c) ∧ (∀ c, (d'.mchan c).cfg = (d.mchan c).cfg) ∧
    ∀ c ∈ d'.metersOn, c ∈ d.metersOn

/-- What the crossings of a set leave in it. -/
def VSet.tracked (v : VSet) : Option Nat × List Nat × Nat × Bool := (v.lastCross, v.periods, v.phase, v.sync)

/-- The same, and the set's crossings stand. -/
def Dev.meters (x : Nat) (S : List Nat) (d d' : Dev) : Prop := d.metersAny x S d' ∧ (d'.vset x).tracked = (d.vset x).tracked

section
variable {x : Nat} {S : List Nat}

theorem Dev.metersAny_refl (d : Dev) : d.metersAny x S d :=
  ⟨⟨Dev.reportsTo_refl d, rfl⟩, ⟨rfl, rfl, fun _ _ => rfl⟩, fun _ _ => ⟨rfl, rfl⟩, fun _ => rfl, fun _ h => h⟩

theorem Dev.metersAny_trans {a b c : Dev} (h1 : a.metersAny x S b) (h2 : b.metersAny x S c) : a.metersAny x S c := by
  obtain ⟨⟨r1, e1⟩, ⟨g1, m1, v1⟩, c1, f1, o1⟩ := h1
  obtain ⟨⟨r2, e2⟩, ⟨g2, m2, v2⟩, c2, f2, o2⟩ := h2
  refine ⟨⟨Dev.reportsTo_trans r1 r2, by rw [e2, e1]⟩, ⟨g2.trans g1, m2.trans m1, fun k hk => (v2 k hk).trans (v1 k hk)⟩,
    fun k hk => ?_, fun k => (f2 k).trans (f1 k), fun k hk => o1 k (o2 k hk)⟩
  exact ⟨(c2 k hk).1.trans (c1 k hk).1, (c2 k hk).2.trans (c1 k hk).2⟩

theorem Dev.meters_refl (d : Dev) : d.meters x S d := ⟨Dev.metersAny_refl d, rfl⟩

theorem Dev.meters_trans {a b c : Dev} (h1 : a.meters x S b) (h2 : b.meters x S c) : a.meters x S c :=
  ⟨Dev.metersAny_trans h1.1 h2.1, h2.2.trans h1.2⟩

theorem Dev.meters_of_reports {a b : Dev} (h : a.reportsOnly b) (hr : a.reportsTo b) : a.meters x S b := by
  unfold Dev.reportsOnly at h
  have hmt : b.mt = a.mt := by rw [h]
  refine ⟨⟨⟨hr, by rw [h]⟩, ⟨by rw [hmt], by rw [hmt], fun k _ => ?_⟩, fun c _ => ⟨?_, ?_⟩, fun c => ?_, fun c hc => ?_⟩, ?_⟩
  · unfold Dev.vset
    rw [hmt]
  · unfold Dev.mchan
    rw [hmt]
  · unfold Dev.acc
    rw [hmt]
  · unfold Dev.mchan
    rw [hmt]
  · unfold Dev.metersOn at hc ⊢
    rw [← hmt]
    exact hc
  · unfold Dev.vset
    rw [hmt]

theorem report_meters (e : Event) (d : Dev) : d.meters x S (report e d) :=
  Dev.meters_of_reports (report_reportsOnly ..) (report_reportsTo ..)

theorem reportLimited_meters (scope qty : Nat) (e : Event) (d : Dev) : d.meters x S (reportLimited scope qty e d) :=
  Dev.meters_of_reports (reportLimited_reportsOnly ..) (reportLimited_reportsTo ..)

theorem foldl_meters {α : Type} {f : Dev → α → Dev} {I : Dev → Prop} (hI : ∀ a b, I a → a.meters x S b → I b)
    {xs : List α} (h : ∀ d, I d → ∀ y ∈ xs, d.meters x S (f d y)) {d : Dev} (hd : I d) : d.meters x S (xs.foldl f d) := by
  induction xs generalizing d with
  | nil => exact Dev.meters_refl d
  | cons y ys ih =>
    have h1 := h d hd y List.mem_cons_self
    exact Dev.meters_trans h1 (ih (fun d hd y hy => h d hd y (List.mem_cons_of_mem _ hy)) (hI _ _ hd h1))

theorem mem_terase {α : Type} {t : Tbl α} {k : Nat} {e : Nat × α} (h : e ∈ terase t k) : e ∈ t := by
  induction t with
  | nil => exact h
  | cons y t ih =>
    unfold terase at h
    split at h
    · exact List.mem_cons_of_mem _ (ih h)
    · rcases List.mem_cons.1 h with h | h
      · exact List.mem_cons.2 (Or.inl h)
      · exact List.mem_cons_of_mem _ (ih h)

theorem mem_tput {α : Type} {t : Tbl α} {k : Nat} {v : α} {e : Nat × α} (h : e ∈ tput t k v) : e = (k, v) ∨ e ∈ t := by
  induction t with
  | nil => exact Or.inl (List.mem_singleton.1 h)
  | cons y t ih =>
    unfold tput at h
    split at h
    · exact List.mem_cons.1 h
    · split at h
      · exact (List.mem_cons.1 h).imp id (List.mem_cons_of_mem _)
      · rcases List.mem_cons.1 h with h | h
        · exact Or.inr (List.mem_cons.2 (Or.inl h))
        · exact (ih h).imp id (List.mem_cons_of_mem _)

theorem mem_tset {α : Type} [DecidableEq α] {d : α} {t : Tbl α} {k : Nat} {v : α} {e : Nat × α} (h : e ∈ tset d t k v) :
    e = (k, v) ∨ e ∈ t := by
  unfold tset at h
  split at h
  · exact Or.inr (mem_terase h)
  · exact mem_tput h

theorem Dev.mem_metersOn {d : Dev} {c : Nat} (h : (d.mchan c).en = true) : c ∈ d.metersOn := by
  refine List.mem_map.2 ⟨(c, d.mchan c), List.mem_filter.2 ⟨mem_of_tget (d := MChan.reset) ?_, h⟩, rfl⟩
  intro hc
  have hr : d.mchan c = MChan.reset := hc
  rw [hr] at h
  have hz : MChan.reset.en = false := bit_zero 512 0
  exact Bool.false_ne_true (hz.symm.trans h)

theorem MChan.en_of_cfg {m m' : MChan} (h : m'.cfg = m.cfg) : m'.en = m.en := by
  unfold MChan.en
  rw [h]

theorem setMchan_on {c : Nat} {m : MChan} {d : Dev} (h : m.cfg = (d.mchan c).cfg) {k : Nat}
    (hk : k ∈ (d.setMchan c m).metersOn) : k ∈ d.metersOn := by
  obtain ⟨e, he, hek⟩ := List.mem_map.1 hk
  obtain ⟨hm, hen⟩ := List.mem_filter.1 he
  rcases mem_tset hm with hm | hm
  · rw [hm] at hek hen
    rw [← hek]
    exact Dev.mem_metersOn ((MChan.en_of_cfg h).symm.trans hen)
  · exact List.mem_map.2 ⟨e, List.mem_filter.2 ⟨hm, hen⟩, hek⟩

theorem setMchan_meters {c : Nat} {m : MChan} {d : Dev} (hc : c ∈ S) (h : m.cfg = (d.mchan c).cfg) :
    d.meters x S (d.setMchan c m) := by
  refine ⟨⟨⟨Dev.reportsTo_of_eq rfl rfl rfl, rfl⟩, ⟨rfl, rfl, fun _ _ => rfl⟩, fun k hk => ⟨?_, rfl⟩, fun k => ?_,
    fun k hk => setMchan_on h hk⟩, rfl⟩
  · exact (Dev.mchan_setMchan ..).trans (if_neg fun he : k = c => hk (he ▸ hc))
  · rw [Dev.mchan_setMchan]
    split
    · next he => rw [h, he]
    · rfl

theorem setAcc_meters {c : Nat} {a : Acc} {d : Dev} (hc : c ∈ S) : d.meters x S (d.setAcc c a) :=
  ⟨⟨⟨Dev.reportsTo_of_eq rfl rfl rfl, rfl⟩, ⟨rfl, rfl, fun _ _ => rfl⟩,
    fun k hk => ⟨rfl, (Dev.acc_setAcc ..).trans (if_neg fun he : k = c => hk (he ▸ hc))⟩, fun _ => rfl, fun _ hk => hk⟩, rfl⟩

theorem setPulse_meters (k : Nat) (p : Pulse) (d : Dev) : d.meters x S (d.setPulse k p) :=
  ⟨⟨⟨Dev.reportsTo_of_eq rfl rfl rfl, rfl⟩, ⟨rfl, rfl, fun _ _ => rfl⟩, fun _ _ => ⟨rfl, rfl⟩, fun _ => rfl, fun _ hk => hk⟩, rfl⟩

theorem setVset_metersAny (v : VSet) (d : Dev) : d.metersAny x S (d.setVset x v) :=
  ⟨⟨Dev.reportsTo_of_eq rfl rfl rfl, rfl⟩, ⟨rfl, rfl, fun _ hk => (Dev.vset_setVset ..).trans (if_neg hk)⟩,
    fun _ _ => ⟨rfl, rfl⟩, fun _ => rfl, fun _ hk => hk⟩

theorem setVset_meters {v : VSet} {d : Dev} (h : v.tracked = (d.vset x).tracked) : d.meters x S (d.setVset x v) :=
  ⟨setVset_metersAny v d, by rw [Dev.vset_setVset, if_pos rfl]; exact h⟩

/-! ### Periods (R374, R383) -/

theorem duePut_meters {c : Nat} (hc : c ∈ S) (q : Nat) (v : BitVec 32) (qual : BitVec 2 × BitVec 8) (d : Dev) :
    d.meters x S (duePut c q v qual d) := by
  unfold duePut
  dsimp only
  split
  · exact setMchan_meters hc rfl
  · exact Dev.meters_refl d

theorem foldl_meters_all {α : Type} {f : Dev → α → Dev} (h : ∀ d y, Dev.meters x S d (f d y)) (ys : List α) (d : Dev) :
    d.meters x S (ys.foldl f d) :=
  foldl_meters (I := fun _ => True) (fun _ _ _ _ => trivial) (fun d _ y _ => h d y) trivial

theorem dueRms_meters {c : Nat} (hc : c ∈ S) (wnd : Bool) (d : Dev) : d.meters x S (dueRms c wnd d) := by
  unfold dueRms
  dsimp only
  split
  · exact duePut_meters hc ..
  · exact Dev.meters_trans (duePut_meters hc ..) (foldl_meters_all (fun d k => duePut_meters hc _ _ _ d) _ _)

theorem pulseAccrue_meters (c : Nat) (incs : List (Nat × Nat)) (d : Dev) : d.meters x S (pulseAccrue c incs d) := by
  refine foldl_meters_all (fun d k => ?_) _ d
  dsimp only
  split
  · split
    · exact Dev.meters_trans (setPulse_meters ..) (reportLimited_meters ..)
    · exact setPulse_meters ..
  · exact Dev.meters_refl d

theorem periodEnergy_meters {c : Nat} (hc : c ∈ S) (d : Dev) : d.meters x S (periodEnergy c d) := by
  unfold periodEnergy
  dsimp only
  split
  · exact Dev.meters_refl d
  · split
    · exact Dev.meters_trans (setAcc_meters hc) (pulseAccrue_meters ..)
    · split
      · exact setAcc_meters hc
      · exact Dev.meters_refl d

theorem chanPeriod_meters {c : Nat} (hc : c ∈ S) (len : Nat) (d : Dev) : d.meters x S (chanPeriod c len d) := by
  unfold chanPeriod
  dsimp only
  generalize hb : d.setMchan c _ = b
  have h1 : d.meters x S b := by
    rw [← hb]
    exact setMchan_meters hc rfl
  split
  · exact Dev.meters_trans h1 (Dev.meters_trans (dueRms_meters hc ..) (periodEnergy_meters hc _))
  · exact Dev.meters_trans h1 (periodEnergy_meters hc _)

/-! ### Windows (R388 to R393) -/

theorem seqWindow_meters (d : Dev) : d.meters x S (seqWindow x d) := by
  unfold seqWindow
  dsimp only
  generalize hb : d.setVset x _ = b
  have h1 : d.meters x S b := by
    rw [← hb]
    exact setVset_meters rfl
  exact iteInduction (motive := d.meters x S) (fun _ => Dev.meters_trans h1 (report_meters ..)) (fun _ => h1)

theorem VSet.tracked_counts (v : VSet) (a b : Nat) : ({ v with nRun := a, nClr := b } : VSet).tracked = v.tracked := rfl

theorem VSet.tracked_neutral (v : VSet) (b : Bool) : ({ v with neutralLost := b } : VSet).tracked = v.tracked := rfl

theorem neutralWindow_meters (d : Dev) : d.meters x S (neutralWindow x d) := by
  unfold neutralWindow
  refine iteInduction (motive := d.meters x S) (fun _ => Dev.meters_refl d) (fun _ => ?_)
  extract_lets s fs f sub v2 z ll set_ clr nRun nClr s'
  have hs : s'.tracked = (d.vset x).tracked := VSet.tracked_counts s nRun nClr
  have ht (b : Bool) : ({ s' with neutralLost := b } : VSet).tracked = (d.vset x).tracked :=
    (VSet.tracked_neutral s' b).trans hs
  clear_value s'
  refine iteInduction (motive := d.meters x S) (fun _ => Dev.meters_trans (setVset_meters (ht true)) (report_meters ..))
    (fun _ => iteInduction (motive := d.meters x S)
      (fun _ => Dev.meters_trans (setVset_meters (ht false)) (report_meters ..)) (fun _ => setVset_meters hs))

theorem sensorHold_cfg (c : Nat) (m : MChan) : (sensorHold c m).cfg = m.cfg := by
  unfold sensorHold
  split
  · rfl
  · rfl

theorem reverseWindow_meters {c : Nat} (hc : c ∈ S) (d : Dev) : d.meters x S (reverseWindow c d) := by
  unfold reverseWindow
  dsimp only
  split
  · exact Dev.meters_refl d
  · split
    · exact Dev.meters_refl d
    · exact setMchan_meters hc (sensorHold_cfg ..)

theorem dueWindow_meters {c : Nat} (hc : c ∈ S) (hz : BitVec 32) (d : Dev) : d.meters x S (dueWindow c hz d) := by
  have hput (q : Nat) (v : BitVec 32) (qual : BitVec 2 × BitVec 8) {a : Dev} (h : d.meters x S a) :
      d.meters x S (duePut c q v qual a) := Dev.meters_trans h (duePut_meters hc q v qual a)
  unfold dueWindow
  have h13 := hput 13 (dcValue (d.mchan c)) (ownQuality d c true) (hput 12 ((d.window c).group (d.mchan c).fs 1)
    (ownQuality d c true) (hput 11 ((d.window c).thd 127) (ownQuality d c true) (hput 10 ((d.window c).thd 40)
    (ownQuality d c true) (dueRms_meters hc true d))))
  dsimp only
  generalize duePut c 13 _ _ _ = a at h13 ⊢
  have h14 : d.meters x S (if isVolt c then duePut c 14 hz (ownQuality d c true) a else a) := by
    split
    · exact hput _ _ _ h13
    · exact h13
  generalize (if isVolt c then duePut c 14 hz (ownQuality d c true) a else a) = b at h14 ⊢
  split
  · exact hput _ _ _ h14
  · exact h14

/-- Every enabled channel of the set is one of `S`. -/
def Dev.setWithin (x : Nat) (S : List Nat) (d : Dev) : Prop := ∀ c ∈ d.metersOn, d.setOf c = x → c ∈ S

theorem Dev.setWithin_meters {a b : Dev} (h : a.setWithin x S) (hm : a.metersAny x S b) : b.setWithin x S := by
  obtain ⟨-, -, -, hcfg, hon⟩ := hm
  intro c hc hs
  refine h c (hon c hc) ?_
  rw [← hs]
  unfold Dev.setOf MChan.set1
  rw [hcfg]

theorem Dev.mem_setChans {d : Dev} {c : Nat} : c ∈ d.setChans x ↔ c ∈ d.metersOn ∧ d.setOf c = x := by
  have hk : c ∈ (d.mt.chans.filter (fun c => c.2.en && d.setOf c.1 == x)).map (·.1) ↔ c ∈ d.metersOn ∧ d.setOf c = x := by
    unfold Dev.metersOn
    simp only [List.mem_map, List.mem_filter, Bool.and_eq_true, beq_iff_eq]
    constructor
    · rintro ⟨e, ⟨h1, h2, h3⟩, rfl⟩
      exact ⟨⟨e, ⟨h1, h2⟩, rfl⟩, h3⟩
    · rintro ⟨⟨e, ⟨h1, h2⟩, rfl⟩, h3⟩
      exact ⟨e, ⟨h1, h2, h3⟩, rfl⟩
  rw [← hk]
  unfold Dev.setChans
  simp only [List.mem_append, List.mem_filter]
  cases isVolt c with
  | true => simp
  | false => simp

theorem Dev.setWithin_self (d : Dev) : d.setWithin x (d.setChans x) := fun _ hc hs => Dev.mem_setChans.2 ⟨hc, hs⟩

theorem Dev.setWithin_chans {d : Dev} (h : d.setWithin x S) {c : Nat} (hc : c ∈ d.setChans x) : c ∈ S :=
  h c (Dev.mem_setChans.1 hc).1 (Dev.mem_setChans.1 hc).2

theorem Dev.setWithin_volt {d : Dev} (h : d.setWithin x S) (hx : x < 2) {i : Nat} (hi : i < 3)
    (he : (d.mchan (72 + 3 * x + i)).en = true) : 72 + 3 * x + i ∈ S := by
  refine h _ (Dev.mem_metersOn he) ?_
  have hv : isVolt (72 + 3 * x + i) = true := decide_eq_true (by omega)
  unfold Dev.setOf
  rw [if_pos hv]
  omega

theorem chanWindow_meters {c : Nat} (hc : c ∈ S) (hz : BitVec 32) (ref : Int × Int) (d : Dev) :
    d.meters x S (chanWindow c hz ref d) := by
  have hset (m : MChan) (a : Dev) (h : m.cfg = (a.mchan c).cfg) : a.meters x S (a.setMchan c m) := setMchan_meters hc h
  unfold chanWindow
  dsimp only
  generalize hb : d.setMchan c { d.mchan c with lastWnd := _, wndDone := _ } = b
  have h1 : d.meters x S b := by
    rw [← hb]
    exact hset _ _ rfl
  have h2 : b.meters x S (if (d.mchan c).wndOpen = true then
      ((dueWindow c hz (reverseWindow c b)).setMchan c { (dueWindow c hz (reverseWindow c b)).mchan c with
        windows := ((dueWindow c hz (reverseWindow c b)).mchan c).windows + 1
        harmDue := some ((dueWindow c hz (reverseWindow c b)).window c, ref,
          (ownQuality (dueWindow c hz (reverseWindow c b)) c true).1,
          (ownQuality (dueWindow c hz (reverseWindow c b)) c true).2) }) else b) := by
    refine iteInduction (motive := b.meters x S) (fun _ => ?_) (fun _ => Dev.meters_refl b)
    have h := Dev.meters_trans (reverseWindow_meters (x := x) hc b) (dueWindow_meters hc hz _)
    generalize dueWindow c hz (reverseWindow c b) = e at h ⊢
    exact Dev.meters_trans h (hset _ _ rfl)
  generalize (if (d.mchan c).wndOpen = true then _ else b) = e at h2 ⊢
  exact Dev.meters_trans h1 (Dev.meters_trans h2 (hset _ _ rfl))

theorem voltageWindow_meters (hx : x < 2) {d : Dev} (hd : d.setWithin x S) : d.meters x S (voltageWindow x d) := by
  refine foldl_meters (I := fun d => d.setWithin x S) (fun a b ha hab => Dev.setWithin_meters ha hab.1)
    (fun d hd i hi => ?_) hd
  have hi3 : i < 3 := by
    simp only [List.mem_cons, List.not_mem_nil, or_false] at hi
    omega
  extract_lets c m high others lost b
  split
  · exact Dev.meters_refl d
  · next hne =>
    have hen : m.en = true := by
      cases hm : m.en with
      | true => rfl
      | false => exact absurd (by rw [hm]; rfl) hne
    have hc : c ∈ S := Dev.setWithin_volt hd hx hi3 hen
    have hb : d.meters x S b := setMchan_meters hc rfl
    exact iteInduction (motive := d.meters x S) (fun _ => Dev.meters_trans hb (report_meters ..)) (fun _ => hb)

/-- The stages of a window's end. -/
def windowChans (x : Nat) (hz : BitVec 32) (ref : Int × Int) (d : Dev) : Dev :=
  (d.setChans x).foldl (fun d c => chanWindow c hz ref d) d

/-- The sampled windows of some channels are dropped. -/
def windowsDropped (ks : List Nat) (d : Dev) : Dev := ks.foldl (fun d c => d.setMchan c { d.mchan c with win := [] }) d

/-- The set starts its next window. -/
def windowRestart (x : Nat) (hz : BitVec 32) (sync : Bool) (d : Dev) : Dev :=
  d.setVset x { d.vset x with winPer := 0, winLen := 0, winCut := false, freq := if sync then hz else 0 }

theorem windowEnd_eq (x : Nat) (d : Dev) : ∃ (hz : BitVec 32) (ref : Int × Int) (sync : Bool),
    windowEnd x d = windowRestart x hz sync (voltageWindow x (windowsDropped ((neutralWindow x (seqWindow x d)).setChans x)
      (windowChans x hz ref (neutralWindow x (seqWindow x d))))) := ⟨_, _, _, rfl⟩

theorem windowEnd_meters (hx : x < 2) {d : Dev} (hd : d.setWithin x S) : d.meters x S (windowEnd x d) := by
  obtain ⟨hz, ref, sync, he⟩ := windowEnd_eq x d
  rw [he]
  have h1 : d.meters x S (neutralWindow x (seqWindow x d)) := Dev.meters_trans (seqWindow_meters d) (neutralWindow_meters _)
  generalize neutralWindow x (seqWindow x d) = a at h1 ⊢
  have ha := Dev.setWithin_meters hd h1.1
  have hks : ∀ c ∈ a.setChans x, c ∈ S := fun c hc => Dev.setWithin_chans ha hc
  have h2 : a.meters x S (windowChans x hz ref a) :=
    foldl_meters (I := fun _ => True) (fun _ _ _ _ => trivial) (fun d _ c hc => chanWindow_meters (hks c hc) hz ref d) trivial
  generalize windowChans x hz ref a = b at h2 ⊢
  have h3 : b.meters x S (windowsDropped (a.setChans x) b) :=
    foldl_meters (I := fun _ => True) (fun _ _ _ _ => trivial) (fun d _ c hc =>
      setMchan_meters (m := { d.mchan c with win := [] }) (hks c hc) rfl) trivial
  generalize windowsDropped (a.setChans x) b = e at h3 ⊢
  have h13 := Dev.meters_trans h1 (Dev.meters_trans h2 h3)
  have h4 := voltageWindow_meters hx (Dev.setWithin_meters hd h13.1)
  generalize voltageWindow x e = f at h4 ⊢
  exact Dev.meters_trans h13 (Dev.meters_trans h4 (setVset_meters rfl))

/-- The channels of a set at the end of a period. -/
def periodChans (x len : Nat) (d : Dev) : Dev := (d.setChans x).foldl (fun d c => chanPeriod c len d) d

/-- The set at the end of a period. -/
def VSet.perEnded (v : VSet) (len : Nat) : VSet := { v with perN := 0, winPer := v.winPer + 1, winLen := v.winLen + len }

theorem periodEnd_meters (hx : x < 2) (len : Nat) {d : Dev} (hd : d.setWithin x S) : d.meters x S (periodEnd x len d) := by
  have h1 : d.meters x S (periodChans x len d) :=
    foldl_meters (I := fun _ => True) (fun _ _ _ _ => trivial)
      (fun d' _ c hc => chanPeriod_meters (Dev.setWithin_chans hd hc) len d') trivial
  have he : periodEnd x len d =
      (if ((periodChans x len d).vset x).winCut || decide ((((periodChans x len d).setVset x
          (((periodChans x len d).vset x).perEnded len)).ncyc x) ≤ ((periodChans x len d).vset x).winPer + 1) then
        windowEnd x ((periodChans x len d).setVset x (((periodChans x len d).vset x).perEnded len))
      else (periodChans x len d).setVset x (((periodChans x len d).vset x).perEnded len)) := rfl
  rw [he]
  generalize periodChans x len d = a at h1 ⊢
  have h2 : a.meters x S (a.setVset x ((a.vset x).perEnded len)) := setVset_meters rfl
  generalize a.setVset x ((a.vset x).perEnded len) = b at h2 ⊢
  have h12 := Dev.meters_trans h1 h2
  exact iteInduction (motive := d.meters x S)
    (fun _ => Dev.meters_trans h12 (windowEnd_meters hx (Dev.setWithin_meters hd h12.1))) (fun _ => h12)

/-! ### Synchronisation (R373, R374) -/

/-- A set leaves or gains synchronisation: only its own state changes, and the crossings stand. -/
theorem syncLost_holds (x : Nat) (S : List Nat) (d : Dev) : d.metersAny x S (syncLost x d) ∧
    ((syncLost x d).vset x).tracked = ((d.vset x).lastCross, (d.vset x).periods, (d.vset x).phase, false) := by
  unfold syncLost
  dsimp only
  split
  · have h := setVset_metersAny (x := x) (S := S) { d.vset x with sync := false, winCut := true, freq := 0 } d
    have hr := report_meters (x := x) (S := S) (ev 0x090A true (setObj x) 0)
      (d.setVset x { d.vset x with sync := false, winCut := true, freq := 0 })
    refine ⟨Dev.metersAny_trans h hr.1, hr.2.trans ?_⟩
    rw [Dev.vset_setVset, if_pos rfl]
    rfl
  · next hs =>
    refine ⟨Dev.metersAny_refl d, ?_⟩
    unfold VSet.tracked
    rw [Bool.eq_false_iff.2 hs]

theorem syncGained_holds (x : Nat) (S : List Nat) (d : Dev) : d.metersAny x S (syncGained x d) ∧
    ((syncGained x d).vset x).tracked = ((d.vset x).lastCross, (d.vset x).periods, (d.vset x).phase, true) := by
  unfold syncGained
  dsimp only
  split
  · next hs =>
    refine ⟨Dev.metersAny_refl d, ?_⟩
    unfold VSet.tracked
    rw [hs]
  · have h := setVset_metersAny (x := x) (S := S) { d.vset x with sync := true, winCut := true } d
    have hr := report_meters (x := x) (S := S) (ev 0x090B false (setObj x) 0)
      (d.setVset x { d.vset x with sync := true, winCut := true })
    refine ⟨Dev.metersAny_trans h hr.1, hr.2.trans ?_⟩
    rw [Dev.vset_setVset, if_pos rfl]
    rfl

/-! ### The crossing -/

/-- The time of a crossing in 1/65,536 sample. -/
def Dev.crossTime (d : Dev) (frac : Nat) : Nat := d.sampleTime * 65536 + frac % 65536

/-- The period that a crossing ends. -/
def VSet.crossLen (v : VSet) (phase t : Nat) : Option Nat := match v.lastCross with
  | some a => if phase = v.phase then some (crossElapsed a t) else none
  | none => none

/-- The last periods of a set with a crossing. -/
def VSet.crossPers (v : VSet) (phase t : Nat) : List Nat := match v.crossLen phase t with
  | some n => (n :: v.periods).take 4
  | none => v.periods

/-- The set with a crossing. -/
def VSet.crossed (v : VSet) (phase t : Nat) : VSet :=
  { v with lastCross := some t, periods := v.crossPers phase t, phase := phase }

/-- Do the last periods give synchronisation. -/
def Dev.crossGood (d : Dev) (x phase : Nat) (pers : List Nat) : Bool :=
  d.phaseOk x (phase - 1) && pers.length == 4 && pers.all (inRange (d.nom x))

/-- The length of the period that a crossing ends. -/
def VSet.endedLen (v : VSet) (phase t : Nat) : Nat :=
  if v.sync then (v.crossLen phase t).getD (65536 * v.perN) else 65536 * v.perN

theorem meterZeroCrossing_eq {x phase : Nat} (frac : Nat) {d : Dev} (h : phase = d.trackPhase x) :
    meterZeroCrossing x phase frac d =
      (let b := d.setVset x ((d.vset x).crossed phase (d.crossTime frac))
       let e := if b.crossGood x phase ((d.vset x).crossPers phase (d.crossTime frac)) then syncGained x b else syncLost x b
       if (e.vset x).sync then periodEnd x ((d.vset x).endedLen phase (d.crossTime frac)) e else e) :=
  if_neg (not_not.2 h)

theorem meterZeroCrossing_holds {x phase : Nat} (hx : x < 2) (frac : Nat) {d : Dev} (h : phase = d.trackPhase x) :
    let pers := (d.vset x).crossPers phase (d.crossTime frac)
    d.metersAny x (d.setChans x) (meterZeroCrossing x phase frac d) ∧
      ((meterZeroCrossing x phase frac d).vset x).tracked =
        (some (d.crossTime frac), pers, phase, d.crossGood x phase pers) := by
  intro pers
  rw [meterZeroCrossing_eq frac h]
  extract_lets b e
  have hb : d.metersAny x (d.setChans x) b := setVset_metersAny _ d
  have hvb : b.vset x = (d.vset x).crossed phase (d.crossTime frac) := by
    rw [Dev.vset_setVset, if_pos rfl]
  have hg : b.crossGood x phase pers = d.crossGood x phase pers := rfl
  have hee : e = if b.crossGood x phase pers then syncGained x b else syncLost x b := rfl
  clear_value e b
  have hke : b.metersAny x (d.setChans x) e ∧
      (e.vset x).tracked = (some (d.crossTime frac), pers, phase, d.crossGood x phase pers) := by
    rw [hee, ← hg]
    cases b.crossGood x phase pers with
    | true =>
      obtain ⟨h1, h2⟩ := syncGained_holds x (d.setChans x) b
      rw [if_pos rfl]
      refine ⟨h1, h2.trans ?_⟩
      rw [hvb]
      rfl
    | false =>
      obtain ⟨h1, h2⟩ := syncLost_holds x (d.setChans x) b
      rw [if_neg Bool.false_ne_true]
      refine ⟨h1, h2.trans ?_⟩
      rw [hvb]
      rfl
  obtain ⟨h1, h2⟩ := hke
  have hde := Dev.metersAny_trans hb h1
  split
  · obtain ⟨p1, p2⟩ := periodEnd_meters hx _ (Dev.setWithin_meters (Dev.setWithin_self d) hde)
    exact ⟨Dev.metersAny_trans hde p1, p2.trans h2⟩
  · exact ⟨hde, h2⟩

end

/-! ### The crossing's use for the trim (R375, R501) -/

/-- From `d` to `d'` the trim of the calendar has changed, beside what reports write. -/
def Dev.trims (d d' : Dev) : Prop := d.reportsTo d' ∧ d' = { d with
  fresh := d'.fresh, tr := d'.tr, rcd := d'.rcd, flt := d'.flt
  bk := { d.bk with
    win := d'.bk.win, trimPpb := d'.bk.trimPpb, lastErr := d'.bk.lastErr, lastMeas := d'.bk.lastMeas
    srcUsed := d'.bk.srcUsed, rejectCnt := d'.bk.rejectCnt } }

theorem Dev.trims_refl (d : Dev) : d.trims d := ⟨Dev.reportsTo_refl d, rfl⟩

theorem Dev.trims_trans {a b c : Dev} (h1 : a.trims b) (h2 : b.trims c) : a.trims c := by
  obtain ⟨r1, e1⟩ := h1
  obtain ⟨r2, e2⟩ := h2
  exact ⟨Dev.reportsTo_trans r1 r2, by rw [e2, e1]⟩

theorem report_trims (e : Event) (d : Dev) : d.trims (report e d) := by
  have h := report_reportsOnly e d
  unfold Dev.reportsOnly at h
  exact ⟨report_reportsTo .., by rw [h]⟩

theorem trimVoid_trims (d : Dev) : d.trims (trimVoid d) := by
  obtain ⟨w, hw⟩ := trimVoid_eq d
  rw [hw]
  exact ⟨Dev.reportsTo_of_eq rfl rfl rfl, rfl⟩

theorem trimEnd_trims (d : Dev) : d.trims (trimEnd d) := by
  cases hw : d.bk.win with
  | none =>
    rw [trimEnd_running (Or.inl hw)]
    exact Dev.trims_refl d
  | some w =>
    cases he : w.ended with
    | false =>
      rw [trimEnd_running (Or.inr ⟨w, hw, he⟩)]
      exact Dev.trims_refl d
    | true =>
      obtain ⟨e, err, n, -, ⟨-, h⟩ | ⟨-, q, -, -, h⟩⟩ := trimEnd_ended hw he
      · have hb : d.trims { d with bk := d.bk.trimRejected err, fresh := n } := ⟨Dev.reportsTo_of_eq rfl rfl rfl, rfl⟩
        rw [h]
        exact Dev.trims_trans hb (report_trims ..)
      · have hb : d.trims { d with bk := d.bk.trimmed w err q, fresh := n } := ⟨Dev.reportsTo_of_eq rfl rfl rfl, rfl⟩
        rw [h]
        exact Dev.trims_trans hb (report_trims ..)

theorem modBk_trims {f : Backup → Backup} (h : ∀ b, ∃ w, f b = { b with win := w }) (d : Dev) : d.trims (d.modBk f) := by
  obtain ⟨w, hw⟩ := h d.bk
  have he : d.modBk f = d.withBk { d.bk with win := w } := congrArg d.withBk hw
  rw [he]
  exact ⟨Dev.reportsTo_of_eq rfl rfl rfl, rfl⟩

theorem freeBit_trims (d : Dev) : d.trims (freeBit d).2 := ⟨Dev.reportsTo_of_eq rfl rfl rfl, rfl⟩

theorem trimCrossing_trims (x : Nat) (changed : Bool) (d : Dev) : d.trims (trimCrossing x changed d) := by
  have h1 := Dev.trims_trans (trimVoid_trims d) (trimEnd_trims _)
  unfold trimCrossing
  dsimp only
  generalize trimEnd (trimVoid d) = a at h1 ⊢
  refine iteInduction (motive := d.trims) (fun _ => h1) (fun _ => ?_)
  split
  · exact Dev.trims_trans h1 (modBk_trims (fun _ => ⟨_, rfl⟩) _)
  · have h2 : a.trims (if changed then freeBit a else (true, a)).2 := by
      cases changed with
      | true => exact freeBit_trims a
      | false => exact Dev.trims_refl a
    generalize (if changed then freeBit a else (true, a)) = r at h2 ⊢
    refine Dev.trims_trans ?_ (trimVoid_trims _)
    refine Dev.trims_trans (Dev.trims_trans h1 h2) ?_
    exact modBk_trims (fun _ => ⟨_, rfl⟩) _

/-- A crossing of a phase that the set does not track. -/
theorem crossing_idle {s : State} (hs : s.up) {x phase frac : Nat} (hwf : (Instr.meterZeroCrossing x phase frac).wellFormed = true)
    (h : phase ≠ s.dev.trackPhase x) : Runs (.meterZeroCrossing x phase frac) s (fun t =>
      (t.dev.bk.win = s.dev.bk.win ∨ t.dev.bk.win = none) ∧
        s.silent t { s.dev with bk := { s.dev.bk with win := t.dev.bk.win } }) := by
  refine Runs.mainChecked (f := meterCrossing x phase frac) (i := .meterZeroCrossing x phase frac) rfl hwf hs ?_
  have he : meterCrossing x phase frac s.dev.fresh0 = trimVoid s.dev.fresh0 := by
    have hz : meterZeroCrossing x phase frac s.dev.fresh0 = s.dev.fresh0 := if_pos h
    unfold meterCrossing
    rw [hz]
    exact if_neg (ne_true_of_eq_false (beq_eq_false_iff_ne.2 h))
  rw [he]
  have hw : (trimVoid s.dev.fresh0).bk.win = s.dev.bk.win ∨ (trimVoid s.dev.fresh0).bk.win = none := by
    unfold trimVoid
    split
    · exact Or.inl rfl
    · exact iteInduction (motive := fun e : Dev => e.bk.win = s.dev.bk.win ∨ e.bk.win = none) (fun _ => Or.inl rfl)
        (fun _ => Or.inr rfl)
  obtain ⟨w, hv⟩ := trimVoid_eq s.dev.fresh0
  rw [hv] at hw ⊢
  have hb : (s.after (s.dev.fresh0.withBk { s.dev.fresh0.bk with win := w })).dev.bk =
      { s.dev.bk with win := w } := by
    simp only [State.after_dev]
    rfl
  rw [hb]
  exact ⟨hw, State.silent_of_eq rfl⟩

/-- A crossing of the phase that the set tracks. -/
theorem crossing_tracked {s : State} (hs : s.up) {x phase frac : Nat} (hx : x < 2)
    (hwf : (Instr.meterZeroCrossing x phase frac).wellFormed = true) (h : phase = s.dev.trackPhase x) :
    let pers := (s.dev.vset x).crossPers phase (s.dev.crossTime frac)
    Runs (.meterZeroCrossing x phase frac) s (fun t =>
      s.frame t { s.dev with
        mt := t.dev.mt, fresh := t.dev.fresh, bk := { s.dev.bk with
          win := t.dev.bk.win, trimPpb := t.dev.bk.trimPpb, lastErr := t.dev.bk.lastErr
          lastMeas := t.dev.bk.lastMeas, srcUsed := t.dev.bk.srcUsed, rejectCnt := t.dev.bk.rejectCnt } } ∧
      (t.dev.vset x).tracked = (some (s.dev.crossTime frac), pers, phase, s.dev.crossGood x phase pers) ∧
      (∀ k, k ≠ x → t.dev.vset k = s.dev.vset k) ∧ t.dev.mt.engine = s.dev.mt.engine ∧ t.dev.mt.harm = s.dev.mt.harm ∧
      ∀ c, c ∉ s.dev.setChans x → t.dev.mchan c = s.dev.mchan c ∧ t.dev.acc c = s.dev.acc c) := by
  intro pers
  refine Runs.mainChecked (f := meterCrossing x phase frac) (i := .meterZeroCrossing x phase frac) rfl hwf hs ?_
  obtain ⟨⟨⟨r1, e1⟩, ⟨g1, g2, g3⟩, g4, -⟩, g5⟩ := meterZeroCrossing_holds hx frac (d := s.dev.fresh0) h
  have he : meterCrossing x phase frac s.dev.fresh0 =
      trimCrossing x ((s.dev.vset x).lastCross.isSome && (s.dev.vset x).phase != phase)
        (meterZeroCrossing x phase frac s.dev.fresh0) := if_pos (beq_iff_eq.2 h)
  rw [he]
  generalize meterZeroCrossing x phase frac s.dev.fresh0 = b at r1 e1 g1 g2 g3 g4 g5 ⊢
  obtain ⟨r2, e2⟩ := trimCrossing_trims x ((s.dev.vset x).lastCross.isSome && (s.dev.vset x).phase != phase) b
  generalize trimCrossing x ((s.dev.vset x).lastCross.isSome && (s.dev.vset x).phase != phase) b = a at r2 e2 ⊢
  have hmt : a.mt = b.mt := by rw [e2]
  have hk : (s.after a).dev.mt = a.mt ∧ (s.after a).dev.fresh = a.fresh ∧ (s.after a).dev.bk = a.bk := by
    simp only [State.after_dev, and_self]
  obtain ⟨k1, k2, k3⟩ := hk
  have hv (k : Nat) : (s.after a).dev.vset k = b.vset k := congrArg (fun m : Meter => tget VSet.reset m.sets k) (k1.trans hmt)
  have hm (k : Nat) : (s.after a).dev.mchan k = b.mchan k := congrArg (fun m : Meter => tget MChan.reset m.chans k) (k1.trans hmt)
  have ha (k : Nat) : (s.after a).dev.acc k = b.acc k := congrArg (fun m : Meter => tget Acc.reset m.accs k) (k1.trans hmt)
  refine ⟨?_, ?_, fun k hk => ?_, ?_, ?_, fun c hc => ?_⟩
  · rw [k1, k2, k3]
    exact State.frame_of_eq (Dev.reportsTo_congr (Dev.reportsTo_trans r1 r2) rfl rfl rfl) (by rw [e2, e1]; rfl)
      (by rw [e2, e1]; rfl)
  · rw [hv]
    exact g5
  · rw [hv]
    exact g3 k hk
  · rw [k1, hmt]
    exact g1
  · rw [k1, hmt]
    exact g2
  · rw [hm, ha]
    exact g4 c hc

end Sys2Proof.Machine
end

section
/-!
Sensor conditions, pulses, presets and damaged entries of metering (R387, R393, R401, R405).
-/
namespace Sys2Proof.Machine

/-- The state after an event that changes the metering engine alone, beside what reports write. -/
theorem meter_after {s : State} {a b : Dev} (hb : b = s.dev.fresh0.withMt b.mt []) (h : b.reportsOnly a)
    (hr : b.reportsTo a) : (s.after a).dev.mt = b.mt ∧ s.frame (s.after a) { s.dev with mt := b.mt } := by
  unfold Dev.reportsOnly at h
  have hmt : (s.after a).dev.mt = a.mt := by simp
  refine ⟨hmt.trans (by rw [h]), State.frame_of_eq (Dev.reportsTo_congr hr ?_ ?_ ?_) ?_ ?_⟩
  · rw [hb]
    rfl
  · rw [hb]
    rfl
  · rw [hb]
    rfl
  · rw [h, hb]
    rfl
  · rw [h, hb]
    rfl

theorem Dev.mchan_of_mt {d d' : Dev} (h : d'.mt = d.mt) (c : Nat) : d'.mchan c = d.mchan c := by
  unfold Dev.mchan
  rw [h]

theorem Dev.acc_of_mt {d d' : Dev} (h : d'.mt = d.mt) (c : Nat) : d'.acc c = d.acc c := by
  unfold Dev.acc
  rw [h]

theorem Dev.pulse_of_mt {d d' : Dev} (h : d'.mt = d.mt) (k : Nat) : d'.pulse k = d.pulse k := by
  unfold Dev.pulse
  rw [h]

theorem Dev.vset_of_mt {d d' : Dev} (h : d'.mt = d.mt) (x : Nat) : d'.vset x = d.vset x := by
  unfold Dev.vset
  rw [h]

/-! ### SENSOR_CONDITION -/

/-- A channel with another condition. -/
def MChan.withCond (m : MChan) (x : Sensor) : MChan := { m with cond := x }

theorem sensorCondition_eq {c : Nat} {d : Dev} (h : (d.mchan c).condDue (isVolt c) ≠ (d.mchan c).cond) : ∃ e,
    sensorCondition c d = report e (d.setMchan c ((d.mchan c).withCond ((d.mchan c).condDue (isVolt c)))) :=
  ⟨_, if_neg h⟩

/-- A channel changed and reported. -/
theorem mchanTold_after (s : State) (c : Nat) (m : MChan) (e : Event) :
    let t := s.after (report e (s.dev.fresh0.setMchan c m))
    s.frame t { s.dev with mt := t.dev.mt } ∧ (∀ b, b ≠ c → t.dev.mchan b = s.dev.mchan b) ∧ t.dev.mchan c = m ∧
      t.dev.mt = { s.dev.mt with chans := t.dev.mt.chans } := by
  intro t
  have hset (b : Nat) := Dev.mchan_setMchan s.dev.fresh0 c b m
  obtain ⟨h1, h2⟩ := meter_after (s := s) (b := s.dev.fresh0.setMchan c m) rfl
    (report_reportsOnly e (s.dev.fresh0.setMchan c m)) (report_reportsTo ..)
  have hm (b : Nat) : t.dev.mchan b = (s.dev.fresh0.setMchan c m).mchan b := Dev.mchan_of_mt h1 b
  have ht : t.dev.mt = (s.dev.fresh0.setMchan c m).mt := h1
  refine ⟨?_, fun b hb => (hm b).trans ((hset b).trans (if_neg hb)), (hm c).trans ((hset c).trans (if_pos rfl)), ?_⟩
  · rw [ht]
    exact h2
  · rw [ht]
    rfl

theorem sensorCondition_runs {s : State} (hs : s.up) {c : Nat} (hc : c < 78)
    (h : (s.dev.mchan c).condDue (isVolt c) ≠ (s.dev.mchan c).cond) : Runs (.sensorCondition c) s (fun t =>
      let x := (s.dev.mchan c).condDue (isVolt c)
      s.frame t { s.dev with mt := t.dev.mt } ∧ (∀ b, b ≠ c → t.dev.mchan b = s.dev.mchan b) ∧
      t.dev.mchan c = (s.dev.mchan c).withCond x ∧ t.dev.mt = { s.dev.mt with chans := t.dev.mt.chans }) := by
  refine Runs.mainChecked (f := sensorCondition c) (i := .sensorCondition c) rfl (decide_eq_true hc) hs ?_
  obtain ⟨e, he⟩ := sensorCondition_eq (d := s.dev.fresh0) h
  rw [he]
  exact mchanTold_after s c _ e

/-! ### PULSE_END -/

/-- A pulse output whose pulse has ended (R401). -/
def Pulse.ended (p : Pulse) : Pulse := { p with active := none, gap := some 0, pin := p.pol }

theorem pulseEnd_due {k n : Nat} {d : Dev} (ha : (d.pulse k).active = some n) (hw : (d.pulse k).width ≤ n) :
    pulseEnd k d = d.setPulse k (d.pulse k).ended := by
  unfold pulseEnd
  dsimp only
  rw [ha]
  exact if_pos hw

theorem pulseEnd_waits {k : Nat} {d : Dev}
    (h : (d.pulse k).active = none ∨ ∃ n, (d.pulse k).active = some n ∧ n < (d.pulse k).width) : pulseEnd k d = d := by
  unfold pulseEnd
  dsimp only
  rcases h with h | ⟨n, h, hn⟩
  · rw [h]
  · rw [h]
    exact if_neg (by omega)

/-- A pulse output changed in silence. -/
theorem pulseSet_after (s : State) (k : Nat) (p : Pulse) :
    let t := s.after (s.dev.fresh0.setPulse k p)
    t.dev.pulse k = p ∧ (∀ j, j ≠ k → t.dev.pulse j = s.dev.pulse j) ∧
      s.silent t { s.dev with mt := { s.dev.mt with pulses := t.dev.mt.pulses } } := by
  intro t
  have hset (j : Nat) := Dev.pulse_setPulse s.dev.fresh0 k j p
  have hmt : t.dev.mt = (s.dev.fresh0.setPulse k p).mt := by
    show (s.after (s.dev.fresh0.setPulse k p)).dev.mt = _
    simp
  have hp (j : Nat) := Dev.pulse_of_mt hmt j
  refine ⟨(hp k).trans ((hset k).trans (if_pos rfl)), fun j hj => (hp j).trans ((hset j).trans (if_neg hj)), ?_⟩
  rw [hmt]
  exact State.silent_of_eq rfl

theorem pulseEnd_runs {s : State} (hs : s.up) {k n : Nat} (hk : k < 8) (ha : (s.dev.pulse k).active = some n)
    (hw : (s.dev.pulse k).width ≤ n) : Runs (.pulseEnd k) s (fun t =>
      t.dev.pulse k = (s.dev.pulse k).ended ∧ (∀ j, j ≠ k → t.dev.pulse j = s.dev.pulse j) ∧
        s.silent t { s.dev with mt := { s.dev.mt with pulses := t.dev.mt.pulses } }) := by
  refine Runs.mainChecked (f := pulseEnd k) (i := .pulseEnd k) rfl (decide_eq_true hk) hs ?_
  rw [pulseEnd_due (d := s.dev.fresh0) ha hw]
  exact pulseSet_after s k _

/-! ### ACC_PRESET (R387) -/

/-- The first accumulators of a preset replaced. -/
def accMasked (mask : BitVec 7) (img : BitVec 1024) (n : Nat) (a : Acc) : Acc := (List.range n).foldl (fun a j =>
  if bit mask j then
    { a with acc := tset 0 a.acc j (fld img (96 * j) 96), residue := tset 0 a.residue j 0 }
  else a) a

theorem accMasked_holds (mask : BitVec 7) (img : BitVec 1024) (n : Nat) (a : Acc) :
    accMasked mask img n a = { a with acc := (accMasked mask img n a).acc, residue := (accMasked mask img n a).residue } ∧
      ∀ j, tget 0 (accMasked mask img n a).acc j = (if j < n ∧ bit mask j then fld img (96 * j) 96 else tget 0 a.acc j) ∧
        tget 0 (accMasked mask img n a).residue j = if j < n ∧ bit mask j then 0 else tget 0 a.residue j := by
  induction n with
  | zero => exact ⟨rfl, fun j => ⟨(if_neg (by omega)).symm, (if_neg (by omega)).symm⟩⟩
  | succ n ih =>
    obtain ⟨h1, h2⟩ := ih
    have he : accMasked mask img (n + 1) a = if bit mask n then { accMasked mask img n a with
        acc := tset 0 (accMasked mask img n a).acc n (fld img (96 * n) 96)
        residue := tset 0 (accMasked mask img n a).residue n 0 } else accMasked mask img n a := by
      unfold accMasked
      rw [List.range_succ, List.foldl_append]
      rfl
    rw [he]
    generalize accMasked mask img n a = b at h1 h2 ⊢
    split
    · next hb =>
      refine ⟨by rw [h1], fun j => ?_⟩
      dsimp only
      rw [tget_tset, tget_tset, (h2 j).1, (h2 j).2]
      by_cases hj : j = n
      · rw [if_pos hj, if_pos hj, if_pos ⟨by omega, by rw [hj]; exact hb⟩, if_pos ⟨by omega, by rw [hj]; exact hb⟩, hj]
        exact ⟨rfl, rfl⟩
      · have hlt : (j < n + 1 ∧ bit mask j = true) ↔ (j < n ∧ bit mask j = true) := by
          constructor
          · exact fun h => ⟨by omega, h.2⟩
          · exact fun h => ⟨by omega, h.2⟩
        rw [if_neg hj, if_neg hj, if_congr hlt rfl rfl, if_congr hlt rfl rfl]
        exact ⟨rfl, rfl⟩
    · next hb =>
      refine ⟨h1, fun j => ?_⟩
      have hlt : (j < n + 1 ∧ bit mask j = true) ↔ (j < n ∧ bit mask j = true) := by
        constructor
        · intro h
          refine ⟨?_, h.2⟩
          by_cases hj : j = n
          · exact absurd (hj ▸ h.2) hb
          · omega
        · exact fun h => ⟨by omega, h.2⟩
      rw [(h2 j).1, (h2 j).2, if_congr hlt rfl rfl, if_congr hlt rfl rfl]
      exact ⟨rfl, rfl⟩

/-- An accumulator entry with a preset under way. -/
def Acc.presetMark (a : Acc) : Acc := { a with preset := true }

theorem accPreset_eq {c : Nat} {mask : BitVec 7} {img : BitVec 1024} {d : Dev} (h : mask ≠ 0) :
    accPreset c mask img d = report (ev 0x0912 false c mask.toNat)
      (d.setAcc c (accMasked mask img 7 (d.acc c).presetMark)) := if_neg h

/-- An accumulator entry changed and reported. -/
theorem accTold_after (s : State) (c : Nat) (x : Acc) (e : Event) :
    let t := s.after (report e (s.dev.fresh0.setAcc c x))
    s.frame t { s.dev with mt := t.dev.mt } ∧ t.dev.mt = { s.dev.mt with accs := t.dev.mt.accs } ∧
      (∀ b, b ≠ c → t.dev.acc b = s.dev.acc b) ∧ t.dev.acc c = x := by
  intro t
  have hset (b : Nat) := Dev.acc_setAcc s.dev.fresh0 c b x
  obtain ⟨h1, h2⟩ := meter_after (s := s) (b := s.dev.fresh0.setAcc c x) rfl
    (report_reportsOnly e (s.dev.fresh0.setAcc c x)) (report_reportsTo ..)
  have ha (b : Nat) : t.dev.acc b = (s.dev.fresh0.setAcc c x).acc b := Dev.acc_of_mt h1 b
  have ht : t.dev.mt = (s.dev.fresh0.setAcc c x).mt := h1
  refine ⟨?_, ?_, fun b hb => (ha b).trans ((hset b).trans (if_neg hb)), (ha c).trans ((hset c).trans (if_pos rfl))⟩
  · rw [ht]
    exact h2
  · rw [ht]
    rfl

theorem accPreset_runs {s : State} (hs : s.up) {c : Nat} (hc : c < 72) {mask : BitVec 7} (img : BitVec 1024) (h : mask ≠ 0) :
    Runs (.accPreset c mask img) s (fun t =>
      s.frame t { s.dev with mt := t.dev.mt } ∧ t.dev.mt = { s.dev.mt with accs := t.dev.mt.accs } ∧
      (∀ b, b ≠ c → t.dev.acc b = s.dev.acc b) ∧ t.dev.acc c = accMasked mask img 7 (s.dev.acc c).presetMark) := by
  refine Runs.mainChecked (f := accPreset c mask img) (i := .accPreset c mask img) rfl (decide_eq_true hc) hs ?_
  rw [accPreset_eq (d := s.dev.fresh0) h]
  exact accTold_after s c _ _

/-! ### CHANNEL_MEMORY (R405) -/

/-- A damaged channel's entry. -/
def MChan.damaged (m : MChan) : MChan :=
  { m with cfg := m.cfg &&& ~~~(putB 512 0 true), memBad := true, due := [], harmDue := none }

/-- A damaged pulse output's entry. -/
def Pulse.damaged (p : Pulse) : Pulse :=
  { p with cfg := p.cfg &&& ~~~(putB 512 0 true), active := none, gap := none, pin := false }

/-- The points of a damaged channel. -/
def meterBad (i : Nat) (d : Dev) : Dev := (d.meterPoints i).foldl (fun d p => produceQ p 2 0x0C d.cal d) d

theorem meterBad_stores (i : Nat) (d : Dev) : d.stores (fun _ => True) (meterBad i d) :=
  foldl_stores (fun _ _ => Dev.stores_mono (produceQ_stores ..) (fun _ _ => trivial)) _ d

/-- The damaged entry itself. -/
def meterWiped (i : Nat) (d : Dev) : Dev :=
  if i < 78 then (meterBad i d).setMchan i ((meterBad i d).mchan i).damaged
  else if i < 86 then d.setPulse (i - 78) (d.pulse (i - 78)).damaged
  else d.withMt { d.mt with engine := engineReset } d.wr

theorem channelMemory_eq (i : Nat) (d : Dev) :
    channelMemory i d = report (ev 0x0913 true i 0) (meterWiped i (countUncorr d)) := rfl

theorem en_off (x : BitVec 512) : bit (x &&& ~~~(putB 512 0 true)) 0 = false := by
  rw [bit_and, bit_not _ (by omega), bit_putB _ _ (by omega)]
  simp

/-- What a damaged entry leaves, with its points `e` and the engine `g`. -/
theorem meterDamaged_after {s : State} {P : Nat → Prop} {e g : Dev} (ev : Event)
    (hst : (countUncorr s.dev.fresh0).stores P e) (hg : g = e.withMt g.mt e.wr) :
    let t := s.after (report ev g)
    t.dev.mt = g.mt ∧ t.dev.ps = e.ps ∧ t.dev.flt.eccUncorr = satAdd s.dev.flt.eccUncorr 1 ∧ s.frame t { s.dev with
      mt := t.dev.mt, flt := { s.dev.flt with eccUncorr := t.dev.flt.eccUncorr }
      ps := { s.dev.ps with points := t.dev.ps.points, alarms := t.dev.ps.alarms, subs := t.dev.ps.subs } } := by
  obtain ⟨-, hr, he⟩ := hst
  have hrg : e.reportsTo g := by
    rw [hg]
    exact Dev.reportsTo_of_eq rfl rfl rfl
  have hra := Dev.reportsTo_trans hr (Dev.reportsTo_trans hrg (report_reportsTo ev g))
  have ha := report_reportsOnly ev g
  unfold Dev.reportsOnly at ha
  generalize report ev g = a at hra ha
  intro t
  have hk : t.dev.mt = a.mt ∧ t.dev.ps = a.ps ∧ t.dev.flt = a.flt := by
    show (s.after a).dev.mt = _ ∧ (s.after a).dev.ps = _ ∧ (s.after a).dev.flt = _
    simp only [State.after_dev, and_self]
  obtain ⟨k1, k2, k3⟩ := hk
  have hcnt : a.flt.eccUncorr = satAdd s.dev.flt.eccUncorr 1 := by
    rw [congrArg FaultRegs.eccUncorr hra.2.2.2]
    rfl
  have hmt : a.mt = g.mt := by rw [ha]
  have hps : a.ps = e.ps := by rw [ha, hg]; rfl
  refine ⟨k1.trans hmt, k2.trans hps, (congrArg FaultRegs.eccUncorr k3).trans hcnt, ?_⟩
  rw [k1, k2, k3]
  refine State.frame_of_eq ?_ ?_ ?_
  · rw [hcnt]
    exact Dev.reportsTo_congr hra rfl rfl rfl
  · rw [ha, hg, he]
    rfl
  · rw [ha, hg, he]
    rfl

/-- What CHANNEL_MEMORY says of the engine after it. -/
def meterDamage (n : Nat) (s t : State) : Prop :=
  t.dev.flt.eccUncorr = satAdd s.dev.flt.eccUncorr 1 ∧ (∀ b, b ≠ n → t.dev.mchan b = s.dev.mchan b) ∧
    (∀ k, k + 78 ≠ n → t.dev.pulse k = s.dev.pulse k) ∧
    (∀ c, t.dev.acc c = s.dev.acc c) ∧ (∀ x, t.dev.vset x = s.dev.vset x) ∧
    s.frame t { s.dev with
      mt := t.dev.mt, flt := { s.dev.flt with eccUncorr := t.dev.flt.eccUncorr }
      ps := { s.dev.ps with points := t.dev.ps.points, alarms := t.dev.ps.alarms, subs := t.dev.ps.subs } }

theorem channelMemory_chan {s : State} (hs : s.up) {n : Nat} (hn : n < 78) : Runs (.channelMemory n) s (fun t =>
    meterDamage n s t ∧ t.dev.mchan n = (s.dev.mchan n).damaged ∧ t.dev.mt.engine = s.dev.mt.engine ∧
      ∀ p ∈ s.dev.meterPoints n, (s.dev.point p).quarantined = false → (s.dev.point p).subst = false →
        (t.dev.point p).quality = 2 ∧ (t.dev.point p).detail = 0x0C) := by
  refine Runs.mainChecked (f := channelMemory n) (i := .channelMemory n) rfl (decide_eq_true (by omega)) hs ?_
  have hst := meterBad_stores n (countUncorr s.dev.fresh0)
  have hbad (p : Nat) (hp : p ∈ s.dev.meterPoints n) (hq : (s.dev.point p).quarantined = false)
      (hs : (s.dev.point p).subst = false) := foldl_produceQ_bad (s.dev.meterPoints n) (countUncorr s.dev.fresh0) hp hq hs
  have he : channelMemory n s.dev.fresh0 = report (ev 0x0913 true n 0)
      ((meterBad n (countUncorr s.dev.fresh0)).setMchan n ((meterBad n (countUncorr s.dev.fresh0)).mchan n).damaged) := by
    rw [channelMemory_eq]
    unfold meterWiped
    rw [if_pos hn]
  rw [he]
  change ∀ p ∈ s.dev.meterPoints n, _ → _ → ((meterBad n (countUncorr s.dev.fresh0)).point p).quality = 2 ∧
    ((meterBad n (countUncorr s.dev.fresh0)).point p).detail = 0x0C at hbad
  generalize meterBad n (countUncorr s.dev.fresh0) = e at hst hbad ⊢
  have hemt : e.mt = s.dev.mt := by
    obtain ⟨-, -, he⟩ := hst
    rw [he]
    rfl
  obtain ⟨h1, h2, h3, h4⟩ := meterDamaged_after (ev 0x0913 true n 0) hst (g := e.setMchan n (e.mchan n).damaged) rfl
  have hm (b : Nat) := (Dev.mchan_of_mt h1 b).trans (Dev.mchan_setMchan e n b (e.mchan n).damaged)
  have hme (b : Nat) : e.mchan b = s.dev.mchan b := Dev.mchan_of_mt hemt b
  have hmt : (e.setMchan n (e.mchan n).damaged).mt =
    { s.dev.mt with chans := (e.setMchan n (e.mchan n).damaged).mt.chans } := by rw [← hemt]; rfl
  generalize s.after (report (ev 0x0913 true n 0) (e.setMchan n (e.mchan n).damaged)) = t at h1 h2 h3 h4 hm ⊢
  have ht := h1.trans hmt
  refine ⟨⟨h3, fun b hb => ?_, fun k _ => ?_, fun c => ?_, fun x => ?_, h4⟩, ?_, ?_, fun p hp hq hs => ?_⟩
  · rw [hm, if_neg hb, hme]
  · unfold Dev.pulse
    rw [ht]
  · unfold Dev.acc
    rw [ht]
  · unfold Dev.vset
    rw [ht]
  · rw [hm, if_pos rfl, hme]
  · rw [ht]
  · rw [Dev.point_congr (congrArg PointStore.points h2)]
    exact hbad p hp hq hs

/-- A damaged entry without points. -/
theorem meterWiped_after {s : State} {n : Nat} {g : Dev} (hg : g = (countUncorr s.dev.fresh0).withMt g.mt [])
    (hch : g.mt.chans = s.dev.mt.chans) (hac : g.mt.accs = s.dev.mt.accs) (hse : g.mt.sets = s.dev.mt.sets)
    (hpu : ∀ k, k + 78 ≠ n → g.pulse k = s.dev.pulse k) (ev : Event) :
    let t := s.after (report ev g)
    meterDamage n s t ∧ t.dev.mt = g.mt ∧ t.dev.ps = s.dev.ps := by
  obtain ⟨h1, h2, h3, h4⟩ := meterDamaged_after ev (Dev.stores_refl (fun _ => True) (countUncorr s.dev.fresh0)) hg
  intro t
  change t.dev.mt = g.mt at h1
  refine ⟨⟨h3, fun b _ => ?_, fun k hk => ?_, fun c => ?_, fun x => ?_, h4⟩, h1, h2⟩
  · unfold Dev.mchan
    rw [h1, hch]
  · rw [← hpu k hk]
    exact Dev.pulse_of_mt h1 k
  · unfold Dev.acc
    rw [h1, hac]
  · unfold Dev.vset
    rw [h1, hse]

theorem channelMemory_pulse {s : State} (hs : s.up) {n : Nat} (h1 : 78 ≤ n) (h2 : n < 86) : Runs (.channelMemory n) s (fun t =>
    meterDamage n s t ∧ t.dev.pulse (n - 78) = (s.dev.pulse (n - 78)).damaged ∧ t.dev.ps = s.dev.ps ∧
      t.dev.mt.engine = s.dev.mt.engine) := by
  refine Runs.mainChecked (f := channelMemory n) (i := .channelMemory n) rfl (decide_eq_true (by omega)) hs ?_
  have he : channelMemory n s.dev.fresh0 = report (ev 0x0913 true n 0)
      ((countUncorr s.dev.fresh0).setPulse (n - 78) (s.dev.pulse (n - 78)).damaged) := by
    rw [channelMemory_eq]
    unfold meterWiped
    rw [if_neg (by omega), if_pos h2]
    rfl
  rw [he]
  have hset (k : Nat) := Dev.pulse_setPulse (countUncorr s.dev.fresh0) (n - 78) k (s.dev.pulse (n - 78)).damaged
  obtain ⟨g1, g2, g3⟩ := meterWiped_after (s := s) (n := n)
    (g := (countUncorr s.dev.fresh0).setPulse (n - 78) (s.dev.pulse (n - 78)).damaged) rfl rfl rfl rfl
    (fun k hk => (hset k).trans (if_neg (by omega))) (ev 0x0913 true n 0)
  exact ⟨g1, (Dev.pulse_of_mt g2 _).trans ((hset _).trans (if_pos rfl)), g3, (congrArg Meter.engine g2).trans rfl⟩

theorem channelMemory_engine {s : State} (hs : s.up) : Runs (.channelMemory 86) s (fun t =>
    meterDamage 86 s t ∧ t.dev.mt.engine = engineReset ∧ t.dev.ps = s.dev.ps) := by
  refine Runs.mainChecked (f := channelMemory 86) (i := .channelMemory 86) rfl rfl hs ?_
  have he : channelMemory 86 s.dev.fresh0 = report (ev 0x0913 true 86 0)
      ((countUncorr s.dev.fresh0).withMt { s.dev.mt with engine := engineReset } []) := rfl
  rw [he]
  obtain ⟨g1, g2, g3⟩ := meterWiped_after (s := s) (n := 86)
    (g := (countUncorr s.dev.fresh0).withMt { s.dev.mt with engine := engineReset } []) rfl rfl rfl rfl
    (fun k _ => rfl) (ev 0x0913 true 86 0)
  exact ⟨g1, congrArg Meter.engine g2, g3⟩

/-! ### The statement -/

theorem tracked_parts {v : VSet} {c : Option Nat} {ps : List Nat} {ph : Nat} {sy : Bool} (h : v.tracked = (c, ps, ph, sy)) :
    v.lastCross = c ∧ v.phase = ph ∧ v.periods = ps ∧ v.sync = sy := by
  unfold VSet.tracked at h
  obtain ⟨h1, h2, h3, h4⟩ : v.lastCross = c ∧ v.periods = ps ∧ v.phase = ph ∧ v.sync = sy := by
    simpa only [Prod.mk.injEq] using h
  exact ⟨h1, h3, h2, h4⟩

theorem Dev.crossGood_iff {d : Dev} {x phase : Nat} {pers : List Nat} : d.crossGood x phase pers = true ↔
    d.phaseOk x (phase - 1) = true ∧ pers.length = 4 ∧ ∀ n ∈ pers, inRange (d.nom x) n = true := by
  unfold Dev.crossGood
  rw [Bool.and_eq_true, Bool.and_eq_true, beq_iff_eq, List.all_eq_true, and_assoc]

/-- Settles O47: a crossing works on the channels of its own set, which `Dev.meters` collects over all stages of a period
and a window. -/
theorem meterEvents : Obligations.MeterEvents := by
  intro s hs d only others
  refine ⟨fun x phase frac hx h1 h3 hf => ?_, fun c hc => ⟨fun h => ?_, fun h => ?_⟩, fun k hk => ⟨fun n ha hw => ?_, fun h => ?_⟩,
    fun c mask img hc => ⟨fun h => ?_, fun h => ?_⟩, fun n hn => ?_⟩
  · intro v now pers good
    have hwf : (Instr.meterZeroCrossing x phase frac).wellFormed = true := decide_eq_true ⟨hx, h1, h3, hf⟩
    refine ⟨fun h => crossing_idle hs hwf h, fun h => ?_⟩
    obtain ⟨t, hx', hfr, htr, hv, he, hh, hc⟩ := crossing_tracked hs hx hwf h
    have hnow : s.dev.crossTime frac = now := by
      show s.dev.sampleTime * 65536 + frac % 65536 = _
      rw [Nat.mod_eq_of_lt hf]
      rfl
    have hpers : (s.dev.vset x).crossPers phase (s.dev.crossTime frac) = pers := by
      rw [hnow]
      show VSet.crossPers v phase now = match v.lastCross with
        | some a => if phase = v.phase then ((now + 2 ^ 53 - a) % 2 ^ 53 :: v.periods).take 4 else v.periods
        | none => v.periods
      unfold VSet.crossPers VSet.crossLen
      cases v.lastCross with
      | none => rfl
      | some a =>
        dsimp only
        by_cases hp : phase = v.phase
        · rw [if_pos hp, if_pos hp]
          rfl
        · rw [if_neg hp, if_neg hp]
    rw [hpers, hnow] at htr
    obtain ⟨t1, t2, t3, t4⟩ := tracked_parts htr
    refine ⟨t, hx', hfr, t1, t2, t3, fun hg => t4.trans (Dev.crossGood_iff.2 hg), fun hg => ?_, hv _ (by omega), he, hh, hc⟩
    exact t4.trans (Bool.eq_false_iff.2 fun hc => hg (Dev.crossGood_iff.1 hc))
  · exact Runs.stays (f := sensorCondition c) (i := .sensorCondition c) rfl (decide_eq_true hc) hs (if_pos h)
  · obtain ⟨t, hx, hf, ho, hm, hmt⟩ := sensorCondition_runs hs hc h
    refine ⟨t, hx, hf, ho, hm, fun hw => ?_, fun hw => ?_, hmt⟩
    · rw [hm]
      exact if_pos hw
    · rw [hm]
      exact if_neg hw
  · exact pulseEnd_runs hs hk ha hw
  · exact Runs.stays (f := pulseEnd k) (i := .pulseEnd k) rfl (decide_eq_true hk) hs (pulseEnd_waits (d := s.dev.fresh0) h)
  · exact Runs.stays (f := accPreset c mask img) (i := .accPreset c mask img) rfl (decide_eq_true hc) hs (if_pos h)
  · obtain ⟨t, hx, hf, hmt, ho, ha⟩ := accPreset_runs hs hc img h
    obtain ⟨a1, a2⟩ := accMasked_holds mask img 7 (s.dev.acc c).presetMark
    refine ⟨t, hx, hf, hmt, ho, ?_, fun j hj => ?_⟩
    · rw [ha]
      exact a1
    · have hlt : (j < 7 ∧ bit mask j = true) ↔ bit mask j = true := and_iff_right hj
      rw [ha, (a2 j).1, (a2 j).2, if_congr hlt rfl rfl, if_congr hlt rfl rfl]
      exact ⟨rfl, rfl⟩
  · by_cases h78 : n < 78
    · obtain ⟨t, hx, ⟨m1, m2, m3, m4, m5, m6⟩, hm, he, hp⟩ := channelMemory_chan hs h78
      refine ⟨t, hx, m1, m2, m3, m4, m5, fun _ => ⟨?_, ?_, ?_, ?_, he, hp⟩, fun h => absurd h (by omega),
        fun h => absurd h (by omega), m6⟩
      · rw [hm]
        exact en_off _
      · rw [hm]
        rfl
      · rw [hm]
        rfl
      · rw [hm]
        rfl
    · by_cases h86 : n < 86
      · obtain ⟨t, hx, ⟨m1, m2, m3, m4, m5, m6⟩, hp, hps, he⟩ := channelMemory_pulse hs (by omega : 78 ≤ n) h86
        refine ⟨t, hx, m1, m2, m3, m4, m5, fun h => absurd h h78, fun _ _ => ⟨?_, ?_, ?_, hps, he⟩,
          fun h => absurd h (by omega), m6⟩
        · rw [hp]
          exact en_off _
        · rw [hp]
          rfl
        · rw [hp]
          rfl
      · obtain rfl : n = 86 := by omega
        obtain ⟨t, hx, ⟨m1, m2, m3, m4, m5, m6⟩, he, hps⟩ := channelMemory_engine hs
        exact ⟨t, hx, m1, m2, m3, m4, m5, fun h => absurd h (by omega), fun _ h => absurd h (by omega),
          fun _ => ⟨he, hps⟩, m6⟩

end Sys2Proof.Machine
end

section
/-!
The 16-frame limits of groups and commands (R126, R129): what becomes of a command that waits while others end around it.
-/
namespace Sys2Proof.Machine

/-! ### A tag while other commands end -/

/-- A tag of a channel is in flight, and its commands all have a property. -/
def Dev.tagged (d : Dev) (ch tag : Nat) (P : Cmd → Prop) : Prop :=
  (d.slot ch tag).isSome = true ∧ ∀ y ∈ d.inFlight ch, y.tag = tag → P y

/-- A property that the end of a wait leaves alone. -/
def Cmd.holdsReady (P : Cmd → Prop) : Prop := ∀ x y : Cmd, x.butReady y → P x → P y

theorem Dev.tagged_slot {d : Dev} {ch tag : Nat} {P : Cmd → Prop} (h : d.tagged ch tag P) : ∃ x, d.slot ch tag = some x ∧ P x := by
  obtain ⟨hs, hP⟩ := h
  obtain ⟨x, hx⟩ := Option.isSome_iff_exists.mp hs
  obtain ⟨hch, htag, hmem⟩ := slotIn_names hx
  exact ⟨x, hx, hP x (Dev.mem_inFlight.mpr ⟨hmem, hch⟩) htag⟩

theorem Dev.tagged_imp {d : Dev} {ch tag : Nat} {P Q : Cmd → Prop} (h : d.tagged ch tag P) (hPQ : ∀ x, P x → Q x) :
    d.tagged ch tag Q := ⟨h.1, fun y hy ht => hPQ y (h.2 y hy ht)⟩

theorem Dev.tagged_of_cp {d d' : Dev} {ch tag : Nat} {P : Cmd → Prop} (h : d.tagged ch tag P) (he : d'.cp.slots = d.cp.slots) :
    d'.tagged ch tag P := by
  unfold Dev.tagged Dev.slot Dev.inFlight at *
  rwa [he]

/-- A command that ends leaves the other tags. -/
theorem finishOne_tagged {ch tag tag' : Nat} {P : Cmd → Prop} {d : Dev} (hP : Cmd.holdsReady P) (h : d.tagged ch tag P)
    (hne : tag ≠ tag') (st fi : Nat) (reply : List Byte) : (finishOne ch tag' st fi reply d).tagged ch tag P := by
  obtain ⟨e, he | he⟩ := finishOne_slot_other (ch := ch) (tag := tag') (ch' := ch) (tag' := tag) (d := d) (fun hh => hne hh.2)
    st fi reply
  · refine ⟨by rw [he, Option.isSome_map]; exact h.1, fun y hy ht => ?_⟩
    cases hs : d.slot ch tag' with
    | none =>
      unfold finishOne at hy
      rw [hs] at hy
      exact h.2 y hy ht
    | some c =>
      rcases mem_inFlight_finishOne hs hy with ⟨hyt, -⟩ | ⟨z, hz, -, hb⟩
      · exact absurd (ht.symm.trans hyt) hne
      · exact hP z y hb (h.2 z hz ((Cmd.butReady_keeps hb).2.1.symm.trans ht))
  · rwa [he]

/-- Its own tag is finished then. -/
theorem finishOne_tagged_self {ch tag : Nat} {c : Cmd} {d : Dev} (h : d.slot ch tag = some c) {st : Nat} (hst : st ≠ 0) (fi : Nat)
    (reply : List Byte) : (finishOne ch tag st fi reply d).tagged ch tag (fun y => y.stage = .finished) := by
  refine ⟨?_, finishOne_tagDone h st fi reply⟩
  have := finishOne_slot h st fi reply
  rw [if_neg (by simp [hst])] at this
  exact Option.isSome_map.symm.trans (congrArg Option.isSome this)

/-- A property that outlasts the release of settled commands: what has settled has failed, and what has finished has it. -/
def Cmd.lasts (P : Cmd → Prop) : Prop := Cmd.holdsReady P ∧
  ∀ y s, P y → y.stage = .ended s → s ≠ 0 ∧ ∀ z : Cmd, z.stage = .finished → P z

theorem releaseEnded_tagged {ch tag : Nat} {P : Cmd → Prop} (hP : Cmd.lasts P) (n : Nat) {d : Dev} (h : d.tagged ch tag P) :
    (releaseEnded ch n d).tagged ch tag P := by
  induction n generalizing d with
  | zero => exact h
  | succ n ih =>
    cases hx : (d.inFlight ch).findSome? d.endsNow with
    | none => rwa [releaseEnded_none hx]
    | some x =>
      obtain ⟨c, st⟩ := x
      rw [releaseEnded_some hx]
      refine ih ?_
      by_cases ht : tag = c.tag
      · obtain ⟨c', hmem, hnow⟩ := List.exists_of_findSome?_eq_some hx
        have hc : c' = c ∧ c.stage = .ended st := by
          unfold Dev.endsNow at hnow
          split at hnow
          · next s hs =>
            split at hnow
            · cases hnow
            · cases hnow
              exact ⟨rfl, hs⟩
          · cases hnow
        obtain ⟨rfl, hended⟩ := hc
        obtain ⟨hst, hfin⟩ := hP.2 c' st (h.2 c' hmem ht.symm) hended
        obtain ⟨x, hs, -⟩ := Dev.tagged_slot h
        rw [← ht]
        exact Dev.tagged_imp (finishOne_tagged_self hs hst 0 []) hfin
      · exact finishOne_tagged hP.1 h ht st 0 []

theorem finish_tagged {ch tag tag' : Nat} {P : Cmd → Prop} {d : Dev} (hP : Cmd.lasts P) (h : d.tagged ch tag P)
    (hne : tag ≠ tag') (st fi : Nat) (reply : List Byte) : (finish ch tag' st fi reply d).tagged ch tag P :=
  releaseEnded_tagged hP 32 (finishOne_tagged hP.1 h hne st fi reply)

theorem Cmd.lasts_finished : Cmd.lasts (fun y => y.stage = .finished) := by
  refine ⟨fun x y hb hx => (Cmd.butReady_keeps hb).2.2.1.trans hx, fun y s hy hs => ?_⟩
  rw [hy] at hs
  exact absurd hs nofun

/-- A command that has ended with a status, or has it. -/
def Cmd.hasStatus (st : Nat) (y : Cmd) : Prop := y.stage = .finished ∨ y.stage = .ended st

theorem Cmd.lasts_ended {st : Nat} (hst : st ≠ 0) : Cmd.lasts (Cmd.hasStatus st) := by
  refine ⟨fun x y hb hx => ?_, fun y s hy hs => ?_⟩
  · unfold Cmd.hasStatus
    rw [(Cmd.butReady_keeps hb).2.2.1]
    exact hx
  · obtain h | h := hy
    · exact absurd (h.symm.trans hs) nofun
    · cases h.symm.trans hs
      exact ⟨hst, fun z hz => .inl hz⟩

/-- A command that waits yet, with its SEQ. -/
def Cmd.waits (m y : Cmd) : Prop := y.stage = .waiting ∧ y.seq = m.seq

theorem Cmd.lasts_waits (m : Cmd) : Cmd.lasts m.waits := by
  refine ⟨fun x y hb hx => ?_, fun y s hy hs => ?_⟩
  · obtain ⟨-, -, h3, h4, -⟩ := Cmd.butReady_keeps hb
    exact ⟨h3.trans hx.1, h4.trans hx.2⟩
  · rw [hy.1] at hs
    exact absurd hs nofun

/-! ### The commands that end without an execution -/

theorem endCommand_some {ch tag : Nat} {c : Cmd} {d : Dev} (h : d.slot ch tag = some c) (st : Nat) :
    endCommand ch tag st d = if d.behindBarrier c then d.setSlot { c with stage := .ended st } else finish ch tag st 0 [] d := by
  unfold endCommand
  rw [h]

theorem endCommand_none {ch tag : Nat} {d : Dev} (h : d.slot ch tag = none) (st : Nat) : endCommand ch tag st d = d := by
  unfold endCommand
  rw [h]

theorem endCommand_endsOn (ch tag st : Nat) (d : Dev) : d.endsOn ch (endCommand ch tag st d) := by
  cases h : d.slot ch tag with
  | none =>
    rw [endCommand_none h]
    exact Dev.endsOn_refl ch d
  | some c =>
    rw [endCommand_some h]
    split
    · exact Dev.endsOn_of_completesOn (cp_completesOn ch d _)
    · exact finish_endsOn ..

theorem endCommand_holds (ch tag st : Nat) (d : Dev) {y : Completion} (h : (d.chan ch).holds y) :
    ((endCommand ch tag st d).chan ch).holds y := by
  cases hs : d.slot ch tag with
  | none => rwa [endCommand_none hs]
  | some c =>
    rw [endCommand_some hs]
    split
    · exact h
    · exact releaseEnded_holds ch 32 _ (finishOne_holds ch tag st 0 [] d h)

/-- A command in flight after another one has taken its slot's place. -/
theorem mem_inFlight_setSlot {ch : Nat} {c y : Cmd} {d : Dev} (h : y ∈ (d.setSlot c).inFlight ch) :
    (y = c ∧ ch = c.ch) ∨ (y ∈ d.inFlight ch ∧ ¬ (ch = c.ch ∧ y.tag = c.tag)) := by
  obtain ⟨hm, hch⟩ := Dev.mem_inFlight.mp h
  obtain ⟨z, hz, he⟩ := List.mem_map.mp hm
  by_cases hsame : z.ch = c.ch ∧ z.tag = c.tag
  · rw [if_pos hsame] at he
    exact .inl ⟨he.symm, by rw [← hch, ← he]⟩
  · rw [if_neg hsame] at he
    subst he
    exact .inr ⟨Dev.mem_inFlight.mpr ⟨hz, hch⟩, fun hh => hsame ⟨hch.trans hh.1, hh.2⟩⟩

theorem endCommand_tagged {ch tag tag' : Nat} {P : Cmd → Prop} {d : Dev} (hP : Cmd.lasts P) (h : d.tagged ch tag P)
    (hne : tag ≠ tag') (st : Nat) : (endCommand ch tag' st d).tagged ch tag P := by
  cases hs : d.slot ch tag' with
  | none => rwa [endCommand_none hs]
  | some c =>
    obtain ⟨-, htag, -⟩ := slotIn_names hs
    rw [endCommand_some hs]
    split
    · refine ⟨?_, fun y hy ht => ?_⟩
      · rw [Dev.slot_setSlot, if_neg (fun hh => hne (hh.2.symm.trans htag))]
        exact h.1
      · rcases mem_inFlight_setSlot hy with ⟨rfl, -⟩ | ⟨hm, -⟩
        · exact absurd (ht.symm.trans htag) hne
        · exact h.2 y hm ht
    · exact finish_tagged hP h hne st 0 []

/-- A command that waits, ends: at once, or its status is settled behind a barrier. -/
theorem endCommand_self {ch tag : Nat} {c : Cmd} {d : Dev} (h : d.slot ch tag = some c) {st : Nat} (hst : st ≠ 0) :
    (endCommand ch tag st d).tagged ch tag (Cmd.hasStatus st) ∧
      (d.behindBarrier c = false → (endCommand ch tag st d).tagged ch tag (fun y => y.stage = .finished) ∧
        ∃ y, ((endCommand ch tag st d).chan ch).holds y ∧ y.seq = c.seq ∧ y.status = BitVec.ofNat 8 st) := by
  obtain ⟨hch, htag, -⟩ := slotIn_names h
  rw [endCommand_some h]
  have hfin : (finish ch tag st 0 [] d).tagged ch tag (fun y => y.stage = .finished) :=
    releaseEnded_tagged Cmd.lasts_finished 32 (finishOne_tagged_self h hst 0 [])
  split
  · next hb =>
    refine ⟨⟨?_, fun y hy ht => ?_⟩, fun hnb => absurd (hb.symm.trans hnb) nofun⟩
    · rw [Dev.slot_setSlot, if_pos ⟨hch, htag⟩, h]
      rfl
    · rcases mem_inFlight_setSlot hy with ⟨rfl, -⟩ | ⟨-, hno⟩
      · exact .inr rfl
      · exact absurd ⟨hch.symm, ht.trans htag.symm⟩ hno
  · refine ⟨Dev.tagged_imp hfin fun _ hf => .inl hf, fun _ => ⟨hfin, ?_⟩⟩
    obtain ⟨y, hy, hys, hyq⟩ := finish_record h hst 0 []
    exact ⟨y, hy, hyq, hys⟩

/-! ### Barriers -/

/-- No unfinished barrier of a channel is new. -/
def Dev.eases (ch : Nat) (d d' : Dev) : Prop := ∀ y ∈ d'.inFlight ch, y.stage ≠ .finished →
  ∃ x ∈ d.inFlight ch, x.stage ≠ .finished ∧ x.seq = y.seq ∧ x.isBarrier = y.isBarrier

theorem Dev.eases_refl (ch : Nat) (d : Dev) : d.eases ch d := fun y hy hst => ⟨y, hy, hst, rfl, rfl⟩

theorem Dev.eases_trans {ch : Nat} {a b c : Dev} (h1 : a.eases ch b) (h2 : b.eases ch c) : a.eases ch c := by
  intro z hz hst
  obtain ⟨y, hy, hys, hyq, hyb⟩ := h2 z hz hst
  obtain ⟨x, hx, hxs, hxq, hxb⟩ := h1 y hy hys
  exact ⟨x, hx, hxs, hxq.trans hyq, hxb.trans hyb⟩

theorem Dev.eases_behind {d d' : Dev} {m : Cmd} (h : d.eases m.ch d') (hb : d.behindBarrier m = false) :
    d'.behindBarrier m = false := by
  unfold Dev.behindBarrier at *
  rw [List.any_eq_false] at *
  intro y hy hcon
  obtain ⟨hc, hlt⟩ := Bool.and_eq_true_iff.mp hcon
  obtain ⟨hbar, hns⟩ := Bool.and_eq_true_iff.mp hc
  obtain ⟨x, hx, hxs, hxq, hxb⟩ := h y hy (bne_iff_ne.mp hns)
  exact hb x hx (by rw [hxb, hbar, hxq, hlt, bne_iff_ne.mpr hxs]; rfl)

theorem finishOne_eases (ch tag st fi : Nat) (reply : List Byte) (d : Dev) : d.eases ch (finishOne ch tag st fi reply d) := by
  cases hs : d.slot ch tag with
  | none =>
    unfold finishOne
    rw [hs]
    exact Dev.eases_refl ch d
  | some c =>
    intro y hy hst
    rcases mem_inFlight_finishOne hs hy with ⟨-, hf⟩ | ⟨x, hx, -, hb⟩
    · exact absurd hf hst
    · obtain ⟨-, -, h3, h4, h5⟩ := Cmd.butReady_keeps hb
      exact ⟨x, hx, h3 ▸ hst, h4.symm, h5.symm⟩

theorem releaseEnded_eases (ch n : Nat) (d : Dev) : d.eases ch (releaseEnded ch n d) := by
  induction n generalizing d with
  | zero => exact Dev.eases_refl ch d
  | succ n ih =>
    cases hx : (d.inFlight ch).findSome? d.endsNow with
    | none =>
      rw [releaseEnded_none hx]
      exact Dev.eases_refl ch d
    | some x =>
      obtain ⟨c, st⟩ := x
      rw [releaseEnded_some hx]
      exact Dev.eases_trans (finishOne_eases ch c.tag st 0 [] d) (ih _)

theorem endCommand_eases {ch tag : Nat} {c : Cmd} {d : Dev} (h : d.slot ch tag = some c) (hc : c.stage ≠ .finished) (st : Nat) :
    d.eases ch (endCommand ch tag st d) := by
  obtain ⟨hch, -, hmem⟩ := slotIn_names h
  rw [endCommand_some h]
  split
  · intro y hy hst
    rcases mem_inFlight_setSlot hy with ⟨rfl, -⟩ | ⟨hm, -⟩
    · exact ⟨c, Dev.mem_inFlight.mpr ⟨hmem, hch⟩, hc, rfl, rfl⟩
    · exact ⟨y, hm, hst, rfl, rfl⟩
  · exact Dev.eases_trans (finishOne_eases ch tag st 0 [] d) (releaseEnded_eases ch 32 _)

/-! ### Several commands end with one status (R125, R126) -/

theorem finishAll_cons {ch : Nat} {a : Cmd} (ha : a.ch = ch) (ms : List Cmd) (st : Nat) (d : Dev) :
    finishAll (a :: ms) st d = finishAll ms st (endCommand ch a.tag st d) := by
  rw [← ha]
  rfl

theorem finishAll_endsOn {ch : Nat} {ms : List Cmd} (hms : ∀ m ∈ ms, m.ch = ch) (st : Nat) (d : Dev) :
    d.endsOn ch (finishAll ms st d) := by
  induction ms generalizing d with
  | nil => exact Dev.endsOn_refl ch d
  | cons a ms ih =>
    rw [finishAll_cons (hms a (List.mem_cons_self ..))]
    exact Dev.endsOn_trans (endCommand_endsOn ..) (ih (fun m hm => hms m (List.mem_cons_of_mem _ hm)) _)

theorem finishAll_tagged {ch tag : Nat} {ms : List Cmd} {P : Cmd → Prop} (hP : Cmd.lasts P) (hms : ∀ m ∈ ms, m.ch = ch ∧ m.tag ≠ tag)
    (st : Nat) {d : Dev} (h : d.tagged ch tag P) : (finishAll ms st d).tagged ch tag P := by
  induction ms generalizing d with
  | nil => exact h
  | cons a ms ih =>
    obtain ⟨hch, htag⟩ := hms a (List.mem_cons_self ..)
    rw [finishAll_cons hch]
    exact ih (fun m hm => hms m (List.mem_cons_of_mem _ hm)) (endCommand_tagged hP h (Ne.symm htag) st)

theorem finishAll_holds {ch : Nat} {ms : List Cmd} (hms : ∀ m ∈ ms, m.ch = ch) (st : Nat) {d : Dev} {y : Completion}
    (h : (d.chan ch).holds y) : ((finishAll ms st d).chan ch).holds y := by
  induction ms generalizing d with
  | nil => exact h
  | cons a ms ih =>
    rw [finishAll_cons (hms a (List.mem_cons_self ..))]
    exact ih (fun m hm => hms m (List.mem_cons_of_mem _ hm)) (endCommand_holds ch a.tag st d h)

/-- How a command stands that has ended with a status without its execution: `behind`: a barrier was before it. -/
def Dev.hasEnded (d : Dev) (ch tag st : Nat) (behind : Bool) (seq : W64) : Prop :=
  d.tagged ch tag (Cmd.hasStatus st) ∧
    (behind = false → d.tagged ch tag (fun y => y.stage = .finished) ∧
      ∃ y, (d.chan ch).holds y ∧ y.seq = seq ∧ y.status = BitVec.ofNat 8 st)

theorem Dev.hasEnded_early {t : State} {d : Dev} {ch tag st : Nat} {behind : Bool} {seq : W64} (h : d.hasEnded ch tag st behind seq)
    (hs : t.dev.cp.slots = d.cp.slots) (hc : ∀ y, (d.chan ch).holds y → (t.dev.chan ch).holds y) :
    endedEarly ch tag st t behind seq := by
  obtain ⟨h1, h2⟩ := h
  refine ⟨Dev.tagged_slot (Dev.tagged_of_cp h1 hs), fun hb => ?_⟩
  obtain ⟨h3, y, hy, hq⟩ := h2 hb
  obtain ⟨x, hx, hxs⟩ := Dev.tagged_slot (Dev.tagged_of_cp h3 hs)
  exact ⟨by rw [hx]; exact congrArg some hxs, y, hc y hy, hq⟩

/-- Each of several commands that wait ends so. -/
theorem finishAll_ends {ch st : Nat} (hst : st ≠ 0) {ms : List Cmd} (hch : ∀ m ∈ ms, m.ch = ch) (hnd : (ms.map (·.tag)).Nodup)
    {d : Dev} (hw : ∀ m ∈ ms, d.tagged ch m.tag m.waits) :
    ∀ m ∈ ms, (finishAll ms st d).hasEnded ch m.tag st (d.behindBarrier m) m.seq := by
  induction ms generalizing d with
  | nil => exact fun m hm => absurd hm (List.not_mem_nil)
  | cons a ms ih =>
    rw [List.map_cons, List.nodup_cons] at hnd
    obtain ⟨hne, hnd⟩ := hnd
    have ha := hch a (List.mem_cons_self ..)
    have hch' := fun m hm => hch m (List.mem_cons_of_mem a hm)
    have hne' : ∀ m ∈ ms, m.tag ≠ a.tag := fun m hm ht => hne (ht ▸ List.mem_map_of_mem hm)
    obtain ⟨x, hx, hxw, hxq⟩ := Dev.tagged_slot (hw a (List.mem_cons_self ..))
    intro m hm
    rw [finishAll_cons ha]
    rcases List.mem_cons.mp hm with rfl | hm
    · obtain ⟨h1, h2⟩ := endCommand_self hx hst
      have hothers : ∀ y ∈ ms, y.ch = ch ∧ y.tag ≠ m.tag := fun y hy => ⟨hch' y hy, hne' y hy⟩
      refine ⟨finishAll_tagged (Cmd.lasts_ended hst) hothers st h1, fun hb => ?_⟩
      have hbx : d.behindBarrier x = false := by
        obtain ⟨hxch, -⟩ := slotIn_names hx
        unfold Dev.behindBarrier at *
        rwa [hxch, ← ha, hxq]
      obtain ⟨h3, y, hy, hyq, hys⟩ := h2 hbx
      exact ⟨finishAll_tagged Cmd.lasts_finished hothers st h3, y, finishAll_holds hch' st hy, hyq.trans hxq, hys⟩
    · have hwm := fun y hy => endCommand_tagged (Cmd.lasts_waits y) (hw y (List.mem_cons_of_mem a hy)) (hne' y hy) st
      obtain ⟨h1, h2⟩ := ih hch' hnd hwm m hm
      refine ⟨h1, fun hb => h2 (Dev.eases_behind ?_ hb)⟩
      rw [hch' m hm]
      exact endCommand_eases hx (by rw [hxw]; nofun) st

/-- A command in flight whose tag no other one has. -/
theorem Dev.tagged_of_mem {d : Dev} {ch : Nat} {m : Cmd} (hnd : ((d.inFlight ch).map (·.tag)).Nodup) (hm : m ∈ d.inFlight ch)
    (hw : m.stage = .waiting) : d.tagged ch m.tag m.waits := by
  refine ⟨?_, fun y hy ht => ?_⟩
  · unfold Dev.slot
    rw [List.find?_isSome]
    obtain ⟨h1, h2⟩ := Dev.mem_inFlight.mp hm
    exact ⟨m, h1, decide_eq_true ⟨h2, rfl⟩⟩
  · rw [List.inj_on_of_nodup_map hnd hy hm ht]
    exact ⟨hw, rfl⟩

end Sys2Proof.Machine
end

section
/-!
GROUP_ARRIVAL_TIMEOUT (R126): the open group of a channel breaks.
-/
namespace Sys2Proof.Machine

/-- A channel whose open group has broken. -/
def Channel.groupBroken (c : Channel) (g : Group) : Channel := { c with group := none, broken := some (g.id, g.size) }

/-- Is a command a member of an open group that has come. -/
def Group.member (g : Group) (c : Cmd) : Bool :=
  c.a && c.groupId == g.id && c.stage == .waiting && decide (g.firstSeq ≤ c.seq)

theorem breakGroup_some {ch : Nat} {g : Group} {d : Dev} (h : (d.chan ch).group = some g) : breakGroup ch d =
    report { ev 0x0304 true ch g.id.toNat with dests := destsCh ch }
      (finishAll ((d.inFlight ch).filter g.member) stState (d.modChan ch (fun c => c.groupBroken g))) := by
  unfold breakGroup
  rw [h]
  rfl

theorem breakGroup_none {ch : Nat} {d : Dev} (h : (d.chan ch).group = none) : breakGroup ch d = d := by
  unfold breakGroup
  rw [h]

theorem Dev.mem_members {d : Dev} {ch : Nat} {p : Cmd → Bool} {m : Cmd} (hm : m ∈ (d.inFlight ch).filter p) :
    m.ch = ch ∧ m ∈ d.inFlight ch ∧ p m = true := by
  obtain ⟨h1, h2⟩ := List.mem_filter.mp hm
  exact ⟨(Dev.mem_inFlight.mp h1).2, h1, h2⟩

theorem Group.member_iff {g : Group} {m : Cmd} : g.member m = true ↔
    m.a = true ∧ m.groupId = g.id ∧ g.firstSeq ≤ m.seq ∧ m.stage = .waiting := by
  unfold Group.member
  rw [Bool.and_eq_true, Bool.and_eq_true, Bool.and_eq_true, beq_iff_eq, beq_iff_eq, decide_eq_true_iff]
  tauto

theorem Dev.hasEnded_of {d d' : Dev} {ch tag st : Nat} {b : Bool} {q : W64} (h : d.hasEnded ch tag st b q)
    (hs : d'.cp.slots = d.cp.slots) (hc : (d.chan ch).butDrops (d'.chan ch)) : d'.hasEnded ch tag st b q := by
  obtain ⟨h1, h2⟩ := h
  obtain ⟨k1, k2, -⟩ := Channel.butDrops_keeps hc
  refine ⟨Dev.tagged_of_cp h1 hs, fun hb => ?_⟩
  obtain ⟨h3, y, hy, hq⟩ := h2 hb
  refine ⟨Dev.tagged_of_cp h3 hs, y, ?_, hq⟩
  unfold Channel.holds
  rw [k1, k2]
  exact hy

/-- The members of a group end with one status. -/
theorem membersEnd {ch st : Nat} (hst : st ≠ 0) {g : Group} {d e : Dev} (he : e.cp = d.cp)
    (hnd : ((d.inFlight ch).map (·.tag)).Nodup) :
    ∀ m ∈ d.inFlight ch, g.member m = true →
      (finishAll ((d.inFlight ch).filter g.member) st e).hasEnded ch m.tag st (d.behindBarrier m) m.seq := by
  intro m hm hg
  have hbe : e.behindBarrier m = d.behindBarrier m := by
    unfold Dev.behindBarrier Dev.inFlight
    rw [he]
  rw [← hbe]
  refine finishAll_ends hst (fun y hy => (Dev.mem_members hy).1) ?_ (fun y hy => ?_) m (List.mem_filter.mpr ⟨hm, hg⟩)
  · exact hnd.sublist (List.filter_sublist.map _)
  · obtain ⟨-, hy1, hy2⟩ := Dev.mem_members hy
    obtain ⟨-, -, -, hw⟩ := Group.member_iff.mp hy2
    exact Dev.tagged_of_cp (Dev.tagged_of_mem hnd hy1 hw) (by rw [he])

theorem breakGroup_holds {ch : Nat} {g : Group} {d : Dev} (h : (d.chan ch).group = some g) :
    (d.modChan ch (fun c => c.groupBroken g)).endsOn ch (breakGroup ch d) ∧
      (((d.inFlight ch).map (·.tag)).Nodup → ∀ m ∈ d.inFlight ch, g.member m = true →
        (breakGroup ch d).hasEnded ch m.tag stState (d.behindBarrier m) m.seq) := by
  rw [breakGroup_some h]
  refine ⟨Dev.endsOn_trans (finishAll_endsOn (fun y hy => (Dev.mem_members hy).1) ..) (report_endsOn ..), fun hnd m hm hg => ?_⟩
  refine Dev.hasEnded_of (membersEnd (st := stState) (by decide) (e := d.modChan ch (fun c => c.groupBroken g)) ?_ hnd m hm hg)
    ?_ (report_butDrops ..)
  · exact (Dev.modChan_keeps ..).2.2.1
  · rw [(report_same _ _).1]

/-- The members of a group, after their channel's group has broken. -/
theorem groupEnds_of {s t : State} {ch st : Nat} {g : Group} {d : Dev}
    (h : ∀ m ∈ s.dev.inFlight ch, g.member m = true → d.hasEnded ch m.tag st (s.dev.behindBarrier m) m.seq)
    (hs : t.dev.cp.slots = d.cp.slots) (hc : ∀ y, (d.chan ch).holds y → (t.dev.chan ch).holds y) : groupEnds s ch g st t :=
  fun m hm h1 h2 h3 h4 => Dev.hasEnded_early (h m hm (Group.member_iff.mpr ⟨h1, h2, h3, h4⟩)) hs hc

theorem groupTimeout_some {ch : Nat} {g : Group} {d : Dev} (h : (d.chan ch).group = some g) :
    groupTimeout ch d = if 16 ≤ framesSince g.since d then breakGroup ch d else d := by
  unfold groupTimeout
  rw [h]

theorem groupTimeout_none {ch : Nat} {d : Dev} (h : (d.chan ch).group = none) : groupTimeout ch d = d := by
  unfold groupTimeout
  rw [h]

theorem State.after_chan (s : State) (d : Dev) (ch : Nat) : (s.after d).dev.chan ch = d.chan ch := (State.after_objects s d ch).2.2.2.1

theorem State.after_cp (s : State) (d : Dev) : (s.after d).dev.cp = d.cp := (State.after_dev s d).2.2.1

theorem State.after_out (s : State) (d : Dev) : (s.after d).dev.out = d.out := by
  simp only [State.after_dev]

/-- What the break of a group leaves, on the whole state. -/
theorem breakGroup_after (s : State) {ch : Nat} {g : Group} (h : (s.dev.chan ch).group = some g)
    (hnd : ((s.dev.inFlight ch).map (·.tag)).Nodup) :
    let t := s.after (breakGroup ch s.dev.fresh0)
    ((s.dev.chan ch).groupBroken g).butCompletions (t.dev.chan ch) ∧ groupEnds s ch g stState t ∧ t.dev.out = [] ∧
      s.frameCh t ch { s.dev with cp := t.dev.cp } := by
  obtain ⟨hon, hends⟩ := breakGroup_holds (d := s.dev.fresh0) h
  have hserves := Dev.serves_trans (modChan_serves ch (fun c => c.groupBroken g) s.dev.fresh0) (Dev.serves_of_endsOn hon)
  have hchan : ((s.dev.chan ch).groupBroken g).butCompletions ((breakGroup ch s.dev.fresh0).chan ch) := by
    have h1 := hon.2.2.2.1
    rwa [Dev.chan_modChan, if_pos rfl] at h1
  have hout : (breakGroup ch s.dev.fresh0).out = [] := by rw [hon.1]; rfl
  have heg : (breakGroup ch s.dev.fresh0).eg = s.dev.eg := by rw [hon.1]; rfl
  generalize breakGroup ch s.dev.fresh0 = a at hends hserves hchan hout heg
  have hc := State.after_chan s a ch
  refine ⟨hc ▸ hchan, groupEnds_of (d := a) (hends hnd) ?_ (fun _ hy => hc ▸ hy), (State.after_out s a).trans hout,
    State.frameCh_of_serves_eg hserves heg⟩
  rw [State.after_cp]

/-- GROUP_ARRIVAL_TIMEOUT (R126). -/
theorem groupArrivalTimeout_late {s : State} {ch : Nat} {g : Group} (hup : s.up) (hch : ch ≤ 64) (h : (s.dev.chan ch).group = some g)
    (hlate : 16 ≤ framesSince g.since s.dev) (hnd : ((s.dev.inFlight ch).map (·.tag)).Nodup) :
    Runs (.groupArrivalTimeout ch) s (fun t => ((s.dev.chan ch).groupBroken g).butCompletions (t.dev.chan ch) ∧
      groupEnds s ch g stState t ∧ t.dev.out = [] ∧ s.frameCh t ch { s.dev with cp := t.dev.cp }) := by
  refine Runs.mainChecked (f := groupTimeout ch) rfl (decide_eq_true hch) hup ?_
  have he : groupTimeout ch s.dev.fresh0 = breakGroup ch s.dev.fresh0 :=
    (groupTimeout_some (d := s.dev.fresh0) h).trans (if_pos hlate)
  rw [he]
  exact breakGroup_after s h hnd

theorem groupArrivalTimeout_early {s : State} {ch : Nat} (hup : s.up) (hch : ch ≤ 64)
    (h : ∀ g, (s.dev.chan ch).group = some g → framesSince g.since s.dev < 16) :
    Runs (.groupArrivalTimeout ch) s (fun t => s.silent t s.dev) := by
  refine Runs.stays (f := groupTimeout ch) rfl (decide_eq_true hch) hup ?_
  cases hg : (s.dev.chan ch).group with
  | none => exact groupTimeout_none (d := s.dev.fresh0) hg
  | some g => exact (groupTimeout_some (d := s.dev.fresh0) hg).trans (if_neg (Nat.not_le.mpr (h g hg)))

end Sys2Proof.Machine
end

section
/-!
What leaves the slots of the commands alone, and keeps GATE of every strand with its line state (`Dev.spares`, R241): the state
operations, reports, the point store, and the transitions of a line.
-/
namespace Sys2Proof.Machine

/-- GATE is high exactly in INRUSH and ON. -/
def Dev.gated (d : Dev) : Prop := ∀ k, (d.line k).gate = (d.line k).powered

/-- From `d` to `d'` GATE stays with the line state. -/
def Dev.gates (d d' : Dev) : Prop := d.gated → d'.gated

/-- The slots of the commands stand as well. -/
def Dev.spares (d d' : Dev) : Prop := d'.cp.slots = d.cp.slots ∧ d.gates d'

theorem Dev.gates_refl (d : Dev) : d.gates d := id

theorem Dev.gates_trans {a b c : Dev} (h1 : a.gates b) (h2 : b.gates c) : a.gates c := fun h => h2 (h1 h)

theorem Dev.gates_of_lines {d d' : Dev} (h : d'.lines = d.lines) : d.gates d' := by
  intro hg k
  have hk : d'.line k = d.line k := congrArg (tget Line.reset · k) h
  rw [hk]
  exact hg k

theorem Dev.spares_refl (d : Dev) : d.spares d := ⟨rfl, Dev.gates_refl d⟩

theorem Dev.spares_trans {a b c : Dev} (h1 : a.spares b) (h2 : b.spares c) : a.spares c :=
  ⟨h2.1.trans h1.1, Dev.gates_trans h1.2 h2.2⟩

theorem Dev.spares_of {d d' : Dev} (hs : d'.cp.slots = d.cp.slots) (hl : d'.lines = d.lines) : d.spares d' :=
  ⟨hs, Dev.gates_of_lines hl⟩

theorem Dev.spares_of_marks {d d' : Dev} (h : d.marks d') : d.spares d' := by
  have he := h.2
  refine Dev.spares_of ?_ ?_ <;> rw [he]

theorem Dev.spares_of_stores {P : Nat → Prop} {d d' : Dev} (h : d.stores P d') : d.spares d' :=
  Dev.spares_of_marks (Dev.marks_of_stores h)

theorem Dev.spares_of_reports {d d' : Dev} (h : d.reportsOnly d') : d.spares d' := by
  unfold Dev.reportsOnly at h
  refine Dev.spares_of ?_ ?_ <;> rw [h]

theorem report_spares (e : Event) (d : Dev) : d.spares (report e d) := Dev.spares_of_reports (report_reportsOnly e d)

theorem foldl_spares {α : Type} {f : Dev → α → Dev} (h : ∀ d x, Dev.spares d (f d x)) (xs : List α) (d : Dev) :
    d.spares (xs.foldl f d) := by
  induction xs generalizing d with
  | nil => exact Dev.spares_refl d
  | cons x xs ih => exact Dev.spares_trans (h d x) (ih _)

theorem oneCycle_spares {f : Dev → Dev} (h : ∀ d, Dev.spares d (f d)) (d : Dev) : d.spares (oneCycle f d) :=
  oneCycle_rel (R := Dev.spares) (fun _ _ _ => Dev.spares_trans) (fun _ _ ho _ => Dev.spares_of_reports ho) h d

theorem foldl_gates {α : Type} {f : Dev → α → Dev} (h : ∀ d x, Dev.gates d (f d x)) (xs : List α) (d : Dev) :
    d.gates (xs.foldl f d) := by
  induction xs generalizing d with
  | nil => exact Dev.gates_refl d
  | cons x xs ih => exact Dev.gates_trans (h d x) (ih _)

/-! ### Lines (R232, R241) -/

theorem setLine_spares {k : Nat} {l : Line} {d : Dev} (h : (d.line k).gate = (d.line k).powered → l.gate = l.powered) :
    d.spares (d.setLine k l) := by
  refine ⟨rfl, fun hg j => ?_⟩
  rw [Dev.line_setLine]
  split
  · exact h (hg k)
  · exact hg j

theorem modLine_spares {k : Nat} {f : Line → Line} {d : Dev} (h : ∀ l : Line, l.gate = l.powered → (f l).gate = (f l).powered) :
    d.spares (d.modLine k f) := setLine_spares (h _)

theorem cutCopy_spares (k : Nat) (d : Dev) : d.spares (cutCopy k d) := by
  unfold cutCopy
  split
  · split
    · exact Dev.spares_of rfl rfl
    · exact Dev.spares_refl d
  · exact Dev.spares_refl d

theorem lineLeaveOn_spares (k : Nat) (d : Dev) : d.spares (lineLeaveOn k d) := by
  unfold lineLeaveOn
  dsimp only
  split
  · have h : d.spares ((cutCopy k d).setLine k { d.line k with
        uv := false, ampl := 0, amplN := 0, amplSum := 0, highRun := 0, lowRun := 0, okRun := 0 }) := by
      refine Dev.spares_trans (cutCopy_spares k d) (setLine_spares ?_)
      have hl : (cutCopy k d).line k = d.line k := by
        unfold cutCopy
        split
        · split <;> rfl
        · rfl
      rw [hl]
      exact id
    split
    · exact Dev.spares_trans h (report_spares ..)
    · exact h
  · exact Dev.spares_refl d

theorem lineEnter_spares (k : Nat) (st : LineSt) (d : Dev) : d.spares (lineEnter k st d) :=
  Dev.spares_trans (lineLeaveOn_spares k d) (modLine_spares fun _ _ => rfl)

theorem linePrecheck_spares (k : Nat) (whole : Bool) (d : Dev) : d.spares (linePrecheck k whole d) :=
  Dev.spares_trans (lineEnter_spares ..) (modLine_spares fun _ h => h)

theorem strandLine_spares (k action : Nat) (d : Dev) : d.spares (strandLine k action d) := by
  have hclear : d.spares (d.setLine k { d.line k with failCnt := 0 }) := setLine_spares id
  have hpre := Dev.spares_trans hclear (linePrecheck_spares k false _)
  unfold strandLine
  dsimp only
  split
  · refine iteInduction (motive := d.spares) (fun _ => Dev.spares_refl d) (fun _ => ?_)
    refine Dev.spares_trans hclear (Dev.spares_trans (lineEnter_spares k .off _) ?_)
    refine Dev.spares_trans (modLine_spares (f := fun l => { l with overRun := 0, backRun := 0 }) fun _ h => h) (report_spares ..)
  · exact iteInduction (motive := d.spares) (fun _ => hpre) (fun _ => Dev.spares_refl d)
  · exact iteInduction (motive := d.spares) (fun _ => hpre) (fun _ => Dev.spares_refl d)

end Sys2Proof.Machine
end

section
/-!
The writes of the object spaces (R148) leave the slots of the commands alone and keep GATE with the line state.
-/
namespace Sys2Proof.Machine

theorem releasePoint_spares (p : Nat) (d : Dev) : d.spares (releasePoint p d) := Dev.spares_of_stores (releasePoint_stores p d)

theorem claimPoint_spares (kind index p : Nat) (d : Dev) : d.spares (claimPoint kind index p d) :=
  Dev.spares_of_stores (claimPoint_stores kind index p d)

theorem releaseAs_spares (kind index p : Nat) (d : Dev) : d.spares (releaseAs kind index p d) :=
  Dev.spares_of_stores (releaseAs_stores kind index p d)

theorem produceQ_spares (p : Nat) (q : BitVec 2) (det : BitVec 8) (cal : W64) (d : Dev) : d.spares (produceQ p q det cal d) :=
  Dev.spares_of_stores (produceQ_stores ..)

theorem digestMark_spares (areas : List Nat) (d : Dev) : d.spares (digestMark areas d) := Dev.spares_of rfl rfl

theorem subWrite_spares (e : Nat) (n : Sub) (d : Dev) : d.spares (subWrite e n d) := by
  unfold subWrite
  dsimp only
  exact iteInduction (motive := d.spares) (fun _ => Dev.spares_of rfl rfl)
    (fun _ => iteInduction (fun _ => Dev.spares_of rfl rfl) (fun _ => Dev.spares_of rfl rfl))

theorem Dev.spares_of_nodes {d d' : Dev} (h : d.onlyNodes d') : d.spares d' :=
  Dev.spares_trans (b := d.withNodes d'.nodes) (Dev.spares_of rfl rfl) (Dev.spares_of_marks h)

theorem Dev.spares_of_tasks {d d' : Dev} (h : d.onlyTasks d') : d.spares d' :=
  Dev.spares_trans (b := d.withLg d'.lg) (Dev.spares_of rfl rfl) (Dev.spares_of_marks h)

theorem nodeEntryWrite_spares (key : Nat) (c : BitVec 256) (d : Dev) : d.spares (nodeEntryWrite key c d) := by
  unfold nodeEntryWrite
  refine iteInduction (motive := d.spares) (fun _ => iteInduction (fun _ => Dev.spares_refl d) fun _ => ?_)
    (fun _ => iteInduction (fun _ => ?_) fun _ => Dev.spares_of rfl rfl)
  · exact Dev.spares_of_nodes (Dev.onlyNodes_trans (nodeDisable_onlyNodes key d) (setNode_onlyNodes ..))
  · refine Dev.spares_trans (Dev.spares_of rfl rfl) (foldl_spares (fun _ _ => claimPoint_spares ..) _
      (d.setNode key { d.node key with cfg := c &&& nodeMask, st := .identifying, miss := 0 }))

theorem loopEntryWrite_spares (j : Nat) (cfg : BitVec 1024) (d : Dev) : d.spares (loopEntryWrite j cfg d) := by
  unfold loopEntryWrite
  dsimp only
  refine iteInduction (motive := d.spares) (fun _ => iteInduction (fun _ => Dev.spares_of rfl rfl) fun _ => ?_) (fun _ => ?_)
  · exact Dev.spares_trans (b := d.setLoop j { Loop.reset with cfg := cfg &&& loopMask, st := .init }) (Dev.spares_of rfl rfl)
      (claimPoint_spares ..)
  · exact Dev.spares_trans (foldl_spares (fun _ _ => releasePoint_spares ..) _ d) (Dev.spares_of rfl rfl)

/-! ### Tasks and banks -/

theorem clearLive_spares (iids : List Nat) (d : Dev) : d.spares (clearLive iids d) := Dev.spares_of_tasks (clearLive_setsTask iids d 0).1

theorem taskStart_spares (t : Nat) (d : Dev) : d.spares (taskStart t d) := by
  obtain ⟨_, _, _, h⟩ := taskStart_setsTask t d
  exact Dev.spares_of_tasks h.1

theorem taskStop_spares (t : Nat) (d : Dev) : d.spares (taskStop t d) := by
  by_cases h : (d.task t).st = .disabled
  · have he : taskStop t d = d := if_pos h
    rw [he]
    exact Dev.spares_refl d
  · exact Dev.spares_of_tasks (taskStop_holds h).1.1

theorem taskWrite_spares (t : Nat) (c : BitVec 512) (d : Dev) : d.spares (taskWrite t c d) := by
  unfold taskWrite
  dsimp only
  have h1 : d.spares (if bit c 108 then d else taskStop t d) :=
    iteInduction (motive := d.spares) (fun _ => Dev.spares_refl d) (fun _ => taskStop_spares t d)
  have h2 : d.spares ((if bit c 108 then d else taskStop t d).modTask t (fun k => { k with cfg := c &&& taskMask })) :=
    Dev.spares_trans h1 (Dev.spares_of rfl rfl)
  exact iteInduction (motive := d.spares) (fun _ => Dev.spares_trans h2 (taskStart_spares ..)) (fun _ => h2)

theorem disarm_spares (t : Nat) (d : Dev) : d.spares (disarm t d) := by
  unfold disarm
  exact Dev.spares_trans (foldl_spares (fun _ _ => releasePoint_spares ..) _ d) (Dev.spares_of rfl rfl)

theorem armTask_spares (bank t : Nat) (d : Dev) : d.spares (armTask bank t d) := by
  unfold armTask
  dsimp only
  refine iteInduction (motive := d.spares) (fun _ => ?_) (fun _ => iteInduction (fun _ => disarm_spares t d) fun _ => ?_)
  · refine Dev.spares_trans (b := if (d.task t).pend then disarm t d else d) ?_ (Dev.spares_of rfl rfl)
    exact iteInduction (motive := d.spares) (fun _ => disarm_spares t d) (fun _ => Dev.spares_refl d)
  · refine Dev.spares_trans (foldl_spares (fun _ _ => foldl_spares (fun _ _ => ?_) _ _) _ d) (Dev.spares_of rfl rfl)
    exact iteInduction (motive := Dev.spares _) (fun _ => Dev.spares_refl _) (fun _ => claimPoint_spares ..)

/-! ### Metering and current loops -/

theorem harmInitial_spares (c : Nat) (d : Dev) : d.spares (harmInitial c d) := by
  unfold harmInitial
  dsimp only
  generalize put 128 40 2#8 ||| put 128 38 3#2 ||| put 128 0 (d.mchan c).windows = e
  generalize List.range 128 = hs
  exact foldl_spares (f := fun d h => { d with mt := { d.mt with harm := tset harmReset d.mt.harm (128 * c + h) e } })
    (fun _ _ => Dev.spares_of rfl rfl) hs d

theorem mchanWrite_spares (c : Nat) (cfg : BitVec 512) (d : Dev) : d.spares (mchanWrite c cfg d) := by
  unfold mchanWrite
  refine iteInduction (motive := d.spares) (fun _ => Dev.spares_refl d) (fun _ => ?_)
  have h1 : d.spares ((d.meterPoints c).foldl (fun d p => releasePoint p d) d) :=
    foldl_spares (fun _ _ => releasePoint_spares ..) _ d
  generalize (d.meterPoints c).foldl (fun d p => releasePoint p d) d = e at h1
  extract_lets e0 m0 m e1 a e2 e3
  have h2 : d.spares e2 := Dev.spares_trans h1 (Dev.spares_of rfl rfl)
  have h3 : d.spares e3 := Dev.spares_trans h2 (harmInitial_spares ..)
  refine iteInduction (motive := d.spares) (fun _ => Dev.spares_trans h3 (foldl_spares (fun _ _ => ?_) _ _)) (fun _ => h2)
  exact Dev.spares_trans (claimPoint_spares ..) (produceQ_spares ..)

theorem meterEntryWrite_spares (i : Nat) (cfg : BitVec 512) (d : Dev) : d.spares (meterEntryWrite i cfg d) := by
  unfold meterEntryWrite pulseWrite
  refine iteInduction (motive := d.spares) (fun _ => mchanWrite_spares ..)
    (fun _ => iteInduction (fun _ => iteInduction (fun _ => Dev.spares_refl d) fun _ => Dev.spares_of rfl rfl)
      fun _ => Dev.spares_of rfl rfl)

theorem setAcc_spares (c : Nat) (a : Acc) (d : Dev) : d.spares (d.setAcc c a) := Dev.spares_of rfl rfl

theorem accPreset_spares (c : Nat) (mask : BitVec 7) (img : BitVec 1024) (d : Dev) : d.spares (accPreset c mask img d) := by
  unfold accPreset
  exact iteInduction (motive := d.spares) (fun _ => Dev.spares_refl d)
    (fun _ => Dev.spares_trans (setAcc_spares ..) (report_spares ..))

theorem accEntryWrite_spares (c : Nat) (img : BitVec 1024) (d : Dev) : d.spares (accEntryWrite c img d) := by
  unfold accEntryWrite
  exact Dev.spares_trans (setAcc_spares ..) (accPreset_spares ..)

theorem clEntryWrite_spares (k : Nat) (cfg : BitVec 2048) (d : Dev) : d.spares (clEntryWrite k cfg d) := by
  unfold clEntryWrite
  refine iteInduction (motive := d.spares) (fun _ => Dev.spares_of rfl rfl) (fun _ => ?_)
  have h1 : d.spares ((d.clPoints k).foldl (fun d p => releasePoint p d) d) :=
    foldl_spares (fun _ _ => releasePoint_spares ..) _ d
  generalize (d.clPoints k).foldl (fun d p => releasePoint p d) d = e at h1
  extract_lets e0 c e1 e2
  have h2 : d.spares e1 := Dev.spares_trans h1 (Dev.spares_of rfl rfl)
  have h3 : d.spares e2 := Dev.spares_trans h2 (foldl_spares (fun _ _ => claimPoint_spares ..) _ _)
  exact iteInduction (motive := d.spares) (fun _ => iteInduction (fun _ => h3) fun _ => Dev.spares_trans h3 (report_spares ..))
    (fun _ => h2)

/-! ### The backup domain -/

theorem wake_spares (cause : BitVec 8) (alarm : BitVec 3) (d : Dev) : d.spares (wake cause alarm d) := by
  unfold wake
  exact iteInduction (motive := d.spares) (fun _ => Dev.spares_refl d)
    (fun _ => iteInduction (fun _ => Dev.spares_of rfl rfl) fun _ => Dev.spares_of rfl rfl)

theorem alarmFire_spares (k : Nat) (d : Dev) : d.spares (alarmFire k d) := by
  have h := (alarmFire_only k d).2.1
  refine Dev.spares_of ?_ ?_ <;> rw [h]

theorem shutdown_spares (d : Dev) : d.spares (shutdown d) := by
  have h1 : d.spares (restartSave d) := by
    unfold restartSave
    rw [saveCopy_eq]
    exact Dev.spares_of rfl rfl
  have h2 : (restartSave d).spares (tailRestart (restartSave d)) := by
    rw [tailRestart_eq, tailStore_eq]
    exact Dev.spares_of rfl rfl
  exact Dev.spares_trans (Dev.spares_trans h1 h2) (Dev.spares_of rfl rfl)

theorem backupEntryWrite_spares (e : Nat) (img : BitVec 256) (d : Dev) : d.spares (backupEntryWrite e img d) := by
  unfold backupEntryWrite rlAck
  refine iteInduction (motive := d.spares) (fun _ => ?_) (fun _ => iteInduction (fun _ => ?_) (fun _ =>
    iteInduction (fun _ => Dev.spares_of rfl rfl) (fun _ => iteInduction (fun _ => ?_) (fun _ =>
      iteInduction (fun _ => Dev.spares_refl d) (fun _ => Dev.spares_of rfl rfl)))))
  · exact iteInduction (motive := d.spares) (fun _ => Dev.spares_of rfl rfl) (fun _ => Dev.spares_of rfl rfl)
  · rw [alarmWrite_eq]
    exact Dev.spares_trans (alarmFire_spares ..) (Dev.spares_of rfl rfl)
  · have h1 : d.spares (d.modBk (fun b => { b with wakePinEn := bit img 4 })) := Dev.spares_of rfl rfl
    exact iteInduction (motive := d.spares) (fun _ => Dev.spares_trans h1 (shutdown_spares _)) (fun _ => h1)

/-! ### An entry of any space -/

theorem entryWrite_spares (sp i : Nat) (x : BitVec 2048) (d : Dev) : d.spares (entryWrite sp i x d) := by
  unfold entryWrite
  refine Dev.spares_trans ?_ (digestMark_spares ..)
  split
  · exact Dev.spares_of rfl rfl
  · exact subWrite_spares ..
  · exact Dev.spares_of rfl rfl
  · exact nodeEntryWrite_spares ..
  · exact Dev.spares_of rfl rfl
  · exact taskWrite_spares ..
  · exact loopEntryWrite_spares ..
  · exact meterEntryWrite_spares ..
  · exact accEntryWrite_spares ..
  · exact clEntryWrite_spares ..
  · exact backupEntryWrite_spares ..
  · exact iteInduction (motive := d.spares) (fun _ => Dev.spares_of rfl rfl) (fun _ => Dev.spares_refl d)
  · exact Dev.spares_refl d

end Sys2Proof.Machine
end

section
/-!
The writes of the device registers (R151, R152) leave the slots of the commands alone and keep GATE with the line state, but for
a descriptor block that closes its channel, which discards the channel's commands (R131).
-/
namespace Sys2Proof.Machine

/-- A write of a register does so. -/
def RegDef.spares (r : RegDef) : Prop := ∀ v d, Dev.spares d (r.put v d)

theorem regRo_spares (keep : Reg) (read : Dev → Reg) : (regRo keep read).spares := fun _ d => Dev.spares_refl d

theorem regRc_spares (keep : Reg) (read : Dev → Reg) (clear : Reg → Dev → Dev) : (regRc keep read clear).spares :=
  fun _ d => Dev.spares_refl d

theorem regPeak_spares (mask keep : Reg) (read : Dev → Reg) (clear : Reg → Dev → Dev) : (regPeak mask keep read clear).spares :=
  fun _ d => Dev.spares_refl d

theorem regNone_spares : regNone.spares := fun _ d => Dev.spares_refl d

/-- A writable register whose write reaches neither. -/
theorem regRw_spares {keep : Reg} {read : Dev → Reg} {put : Reg → Dev → Dev} (h1 : ∀ v d, (put v d).cp.slots = d.cp.slots)
    (h2 : ∀ v d, (put v d).lines = d.lines) : (regRw keep read put).spares := fun v d => Dev.spares_of (h1 v d) (h2 v d)

theorem regsDevice_spares (off : Nat) : (regsDevice off).spares := by
  unfold regsDevice
  split <;> exact fun _ _ => Dev.spares_of rfl rfl

theorem trimVoid_spares (d : Dev) : d.spares (trimVoid d) := by
  obtain ⟨w, h⟩ := trimVoid_eq d
  rw [h]
  exact Dev.spares_of rfl rfl

theorem enterTb_spares (st : TbState) (code : Nat) (isFault : Bool) (d : Dev) : d.spares (enterTb st code isFault d) :=
  Dev.spares_trans (Dev.spares_of rfl rfl) (report_spares ..)

theorem modTb_spares (f : Timebase → Timebase) (d : Dev) : d.spares (d.modTb f) := Dev.spares_of rfl rfl

theorem alignWrite_spares (on : Bool) (d : Dev) : d.spares (alignWrite on d) := by
  unfold alignWrite
  extract_lets d1 d2
  have h1 : d.spares d1 := modTb_spares ..
  have h2 : d.spares d2 := Dev.spares_trans h1 (modTb_spares ..)
  refine iteInduction (motive := d.spares) (fun _ => h1) (fun _ => Dev.spares_trans (Dev.spares_trans h2 ?_) (trimVoid_spares _))
  exact iteInduction (motive := d2.spares) (fun _ => Dev.spares_refl d2) (fun _ => enterTb_spares ..)

theorem frameCtrlWrite_spares (v : Reg) (d : Dev) : d.spares (frameCtrlWrite v d) :=
  Dev.spares_trans (modTb_spares ..) (alignWrite_spares ..)

theorem regsTime_spares (off : Nat) : (regsTime off).spares := by
  unfold regsTime
  split
  case h_3 => exact frameCtrlWrite_spares
  case h_8 => split_ifs <;> exact fun _ _ => Dev.spares_of rfl rfl
  all_goals exact fun _ _ => Dev.spares_of rfl rfl

theorem regsPoints_spares (off : Nat) : (regsPoints off).spares := by
  unfold regsPoints
  split
  case h_5 => split_ifs <;> exact fun _ _ => Dev.spares_of rfl rfl
  all_goals exact fun _ _ => Dev.spares_of rfl rfl

theorem regsCmd_spares (off : Nat) : (regsCmd off).spares := by
  unfold regsCmd
  split
  case h_8 => split_ifs <;> exact fun _ _ => Dev.spares_of rfl rfl
  all_goals exact fun _ _ => Dev.spares_of rfl rfl

/-! ### Ports -/

theorem linkWaitReport_spares (ch : Nat) (d : Dev) : d.spares (linkWaitReport ch d) := by
  rcases linkWaitReport_cases ch d with h | ⟨e, h⟩
  · rw [h]
    exact Dev.spares_refl d
  · rw [h]
    exact Dev.spares_trans (Dev.spares_of rfl rfl) (report_spares ..)

theorem linkDown_spares (p : Nat) (d : Dev) : d.spares (linkDown p d) := by
  cases hl : (d.port p).link with
  | false =>
    have he : linkDown p d = d := if_pos (by rw [hl]; rfl)
    rw [he]
    exact Dev.spares_refl d
  | true =>
    refine Dev.spares_trans (b := d.setPort p (d.port p).unlinked) (Dev.spares_of rfl rfl) ?_
    have h := (linkDown_linkLoss hl).1
    refine Dev.spares_of ?_ ?_ <;> rw [h]

theorem portModeWrite_spares (p : Nat) (v : Reg) (d : Dev) : d.spares (portModeWrite p v d) := by
  unfold portModeWrite
  dsimp only
  refine Dev.spares_trans ?_ (Dev.spares_of rfl rfl)
  exact iteInduction (motive := d.spares) (fun _ => linkDown_spares ..) (fun _ => Dev.spares_refl d)

theorem mdioStart_spares (v : Reg) (d : Dev) : d.spares (mdioStart v d) := by
  rw [mdioStart_eq]
  exact Dev.spares_of rfl rfl

theorem regsPort_spares (p o : Nat) : (regsPort p o).spares := by
  unfold regsPort
  split
  case h_11 => exact portModeWrite_spares p
  case h_12 => split_ifs <;> exact fun _ _ => Dev.spares_of rfl rfl
  all_goals exact fun _ _ => Dev.spares_of rfl rfl

theorem regsNet_spares (off : Nat) : (regsNet off).spares := by
  unfold regsNet
  split
  case h_3 => exact mdioStart_spares
  case h_4 =>
    split_ifs
    · exact regsPort_spares _ _
    all_goals exact fun _ _ => Dev.spares_of rfl rfl
  all_goals exact fun _ _ => Dev.spares_of rfl rfl

/-! ### Lines, logic, metering, the recorder -/

theorem regsLine_spares (k o : Nat) : (regsLine k o).spares := by
  unfold regsLine
  split
  case h_1 => exact fun v d => modLine_spares (f := fun l => { l with cfg := v }) fun _ h => h
  case h_2 => exact fun v d => modLine_spares (f := fun l => { l with cfg2 := v }) fun _ h => h
  case h_4 => exact fun v d => modLine_spares (f := fun l => { l with fault := l.fault &&& ~~~(fld v 0 12) }) fun _ h => h
  all_goals exact fun _ d => Dev.spares_refl d

theorem regsLogic_spares (off : Nat) : (regsLogic off).spares := by
  unfold regsLogic
  split
  case h_9 => split_ifs <;> exact fun _ _ => Dev.spares_of rfl rfl
  all_goals exact fun _ _ => Dev.spares_of rfl rfl

theorem safeMapWrite_spares (v : Reg) (d : Dev) : d.spares (safeMapWrite v d) := by
  unfold safeMapWrite
  extract_lets base en d1 sd d2
  refine iteInduction (motive := d.spares) (fun _ => Dev.spares_refl d) (fun _ => ?_)
  have h1 : d.spares d1 := iteInduction (motive := d.spares)
    (fun _ => foldl_spares (fun _ _ => releaseAs_spares ..) _ d) (fun _ => Dev.spares_refl d)
  have h2 : d.spares d2 := Dev.spares_trans h1 (Dev.spares_of rfl rfl)
  exact iteInduction (motive := d.spares) (fun _ => Dev.spares_trans h2 (foldl_spares (fun _ _ => claimPoint_spares ..) _ _))
    (fun _ => h2)

theorem regsMeter_spares (off : Nat) : (regsMeter off).spares := by
  unfold regsMeter
  split
  case h_9 => exact safeMapWrite_spares
  all_goals exact fun _ d => Dev.spares_refl d

theorem recMark_spares (v : Reg) (d : Dev) : d.spares (recMark v d) := Dev.spares_of_reports (captureRep_reportsOnly ..)

theorem regsRecorder_spares (off : Nat) : (regsRecorder off).spares := by
  unfold regsRecorder
  split
  case h_7 => exact recMark_spares
  case h_9 => split_ifs <;> exact fun _ _ => Dev.spares_of rfl rfl
  all_goals exact fun _ _ => Dev.spares_of rfl rfl

theorem regsAdmit_spares (off : Nat) : (regsAdmit off).spares := by
  unfold regsAdmit
  split
  case h_12 =>
    exact fun v d => iteInduction (motive := Dev.spares d) (fun _ => Dev.spares_of rfl rfl) (fun _ => Dev.spares_refl d)
  case h_13 => split_ifs <;> exact fun _ _ => Dev.spares_of rfl rfl
  all_goals exact fun _ d => Dev.spares_refl d

/-- A write of any single register. -/
theorem regDef_spares (off : Nat) : (regDef off).spares := by
  unfold regDef
  split_ifs
  · exact regsDevice_spares _
  · exact regsTime_spares _
  · exact regsPoints_spares _
  · exact regsCmd_spares _
  · exact regsNet_spares _
  · exact regsLine_spares _ _
  · exact regsLogic_spares _
  · exact regRo_spares _ _
  · exact regsMeter_spares _
  · exact regsRecorder_spares _
  · exact regsAdmit_spares _

theorem regPut_spares (w : Nat × Reg) (d : Dev) : d.spares (regPut w d) := regDef_spares w.1 w.2 d

/-! ### Descriptor blocks (R170, R173) -/

theorem Dev.gates_of_serves {ch : Nat} {d d' : Dev} (h : d.serves ch d') : d.gates d' := by
  refine Dev.gates_of_lines ?_
  rw [h.1]

theorem modChan_spares (ch : Nat) (f : Channel → Channel) (d : Dev) : d.spares (d.modChan ch f) := Dev.spares_of rfl rfl

theorem openChannel_spares (ch : Nat) (d : Dev) : d.spares (openChannel ch d) := by
  unfold openChannel
  exact Dev.spares_trans (modChan_spares ..) (report_spares ..)

theorem channelOpen_spares (ch : Nat) (d : Dev) : d.spares (channelOpen ch d) := by
  unfold channelOpen
  exact iteInduction (motive := d.spares) (fun _ => openChannel_spares ..) (fun _ => Dev.spares_refl d)

theorem closeChannel_closed {ch : Nat} {d : Dev} (h : (d.chan ch).st = .closed) : closeChannel ch d = d := by
  unfold closeChannel
  rw [h]

theorem closeChannel_error {ch : Nat} {d : Dev} (h : (d.chan ch).st = .error) : d.spares (closeChannel ch d) := by
  unfold closeChannel
  rw [h]
  exact Dev.spares_trans (modChan_spares ..) (report_spares ..)

/-- A channel that closes has its own commands discarded. -/
theorem closeChannel_discards (ch : Nat) (d : Dev) : d.gates (closeChannel ch d) ∧
    ∀ j tag, j ≠ ch → (closeChannel ch d).slot j tag = d.slot j tag := by
  have hslot (e : Dev) (h : e.cp.slots = d.cp.slots.filter (fun c => c.ch != ch)) :
      ∀ j tag, j ≠ ch → e.slot j tag = d.slot j tag := by
    intro j tag hj
    unfold Dev.slot
    rw [h, List.find?_filter]
    congr 1
    funext c
    by_cases hc : c.ch = j ∧ c.tag = tag
    · simp [hc, hj]
    · simp [hc]
  cases hst : (d.chan ch).st with
  | closed =>
    rw [closeChannel_closed hst]
    exact ⟨Dev.gates_refl d, fun _ _ _ => rfl⟩
  | opened =>
    obtain ⟨e, he⟩ := closeChannel_opened hst
    rw [he]
    obtain ⟨h1, -, h3, -⟩ := stopChannel_holds ch .closed (d.chan ch).errCode e d
    exact ⟨Dev.gates_of_serves h1, hslot _ h3⟩
  | error =>
    have h := closeChannel_error hst
    exact ⟨h.2, fun j tag _ => by unfold Dev.slot; rw [h.1]⟩

theorem descWrite_discards (ch : Nat) (img : BitVec 1024) (word0 : Bool) (d : Dev) : d.gates (descWrite ch img word0 d) ∧
    ∀ j tag, (j = ch → word0 = false ∨ bit img 31 = true ∨ (d.chan ch).st = .closed) →
      (descWrite ch img word0 d).slot j tag = d.slot j tag := by
  unfold descWrite
  split
  · exact ⟨Dev.gates_refl d, fun _ _ _ => rfl⟩
  · extract_lets e
    have he : d.spares e := iteInduction (motive := d.spares) (fun _ => Dev.spares_of rfl rfl) (fun _ => Dev.spares_refl d)
    have hclosed : (d.chan ch).st = .closed → (e.chan ch).st = .closed := fun h => by
      have h' : e = d.modChan ch (fun c => { c with cfg := img &&& descMask }) := if_pos h
      rw [h', Dev.chan_modChan, if_pos rfl]
      exact h
    have hslot : ∀ e', e.spares e' → ∀ j tag, e'.slot j tag = d.slot j tag := fun e' h j tag => by
      unfold Dev.slot
      rw [h.1, he.1]
    split
    · exact ⟨he.2, fun j tag _ => hslot e (Dev.spares_refl e) j tag⟩
    · next hw =>
      split
      · exact ⟨Dev.gates_trans he.2 (channelOpen_spares ch e).2, fun j tag _ => hslot _ (channelOpen_spares ch e) j tag⟩
      · next hb =>
        unfold channelClose
        split
        · obtain ⟨h1, h2⟩ := closeChannel_discards ch e
          refine ⟨Dev.gates_trans he.2 h1, fun j tag hj => ?_⟩
          by_cases hjc : j = ch
          · rcases hj hjc with h | h | h
            · exact absurd (by rw [h]; rfl) hw
            · exact absurd h hb
            · rw [closeChannel_closed (hclosed h)]
              exact hslot e (Dev.spares_refl e) j tag
          · rw [h2 j tag hjc]
            exact hslot e (Dev.spares_refl e) j tag
        · exact ⟨he.2, fun j tag _ => hslot e (Dev.spares_refl e) j tag⟩

end Sys2Proof.Machine
end

section
/-!
The effect of a command (R150 to R160) keeps GATE with the line state, and leaves the slots of the commands alone: a WRITE_REG of one
register that passes its checks leaves its own command's slot (R170, R171).
-/
namespace Sys2Proof.Machine

theorem regsWrite_gates (ws : RegWords) (d : Dev) : d.gates (regsWrite ws d) := by
  unfold regsWrite
  exact Dev.gates_trans (foldl_spares (fun _ _ => regPut_spares ..) ws d).2
    (foldl_gates (fun _ _ => (descWrite_discards ..).1) _ _)

/-- A configuration command but WRITE_REG. -/
theorem configEffect_spares {c : Cmd} (h : c.opcode ≠ 0x0D) (d : Dev) : d.spares (configEffect c d) := by
  unfold configEffect
  split
  · exact Dev.spares_trans (foldl_spares (fun _ _ => Dev.spares_of_stores (pointConfigOne_stores ..)) _ d) (digestMark_spares ..)
  · exact foldl_spares (fun _ _ => entryWrite_spares ..) _ d
  · next he => exact absurd he h
  · exact Dev.spares_trans (foldl_spares (fun _ _ => armTask_spares ..) _ d) (digestMark_spares ..)
  · exact Dev.spares_refl d

theorem configEffect_regs {c : Cmd} (h : c.opcode = 0x0D) (d : Dev) : configEffect c d = regsWrite c.regWords d := by
  simp only [configEffect, h]

theorem configEffect_gates (c : Cmd) (d : Dev) : d.gates (configEffect c d) := by
  by_cases h : c.opcode = 0x0D
  · rw [configEffect_regs h]
    exact regsWrite_gates _ _
  · exact (configEffect_spares h d).2

theorem Dev.spares_of_onlyPly {d d' : Dev} (h : d.onlyPly d') : d.spares d' := by
  refine Dev.spares_of ?_ ?_ <;> rw [h.2]

theorem modPly_spares (f : Ply → Ply) (d : Dev) : d.spares (d.modPly f) := Dev.spares_of rfl rfl

theorem unpair_spares (d : Dev) : d.spares (unpair d) := by
  have hleave : d.spares ((setRole .solo 4 (plyReport 0x0E12 false 0 (plyNotice 5 0 d))).modPly (fun p => { p with
      pairId := 0, twinState := .none, joinStep := 0, cutIn := none, sweep := none, giveupSeen := false, firstCopy := none
      lossRun := 0, lossCyc := [], conflict := false, by519 := false })) :=
    Dev.spares_trans (Dev.spares_of_onlyPly (Dev.onlyPly_trans (Dev.onlyPly_trans (plyNotice_onlyPly ..) (plyReport_onlyPly ..))
      (setRole_onlyPly ..))) (modPly_spares ..)
  unfold unpair
  split
  · exact modPly_spares ..
  · exact Dev.spares_refl d
  · exact iteInduction (motive := d.spares) (fun _ => hleave) (fun _ => Dev.spares_trans hleave
      (oneCycle_spares (fun _ => foldl_spares (fun _ _ => strandLine_spares ..) _ _) _))

theorem plyControl_spares (c : Cmd) (d : Dev) : d.spares (plyControl c d) := by
  unfold plyControl
  split
  · exact modPly_spares ..
  · exact unpair_spares d
  · exact Dev.spares_of_onlyPly (yieldStart_onlyPly d)
  · exact modPly_spares ..

theorem relayLine_spares (ks : List Nat) (action : Nat) (d : Dev) : d.spares (relayLine ks action d) := by
  unfold relayLine
  exact iteInduction (motive := d.spares) (fun _ => Dev.spares_of_onlyPly (plyNotice_onlyPly ..)) (fun _ => Dev.spares_refl d)

theorem setAlarm_spares (e : Nat) (a : Alarm) (d : Dev) : d.spares (d.setAlarm e a) := Dev.spares_of rfl rfl

theorem operationEffect_spares {c : Cmd} (h : c.opcode ≠ 0x0D) (d : Dev) : d.spares (operationEffect c d) := by
  unfold operationEffect
  split
  · extract_lets ps d1
    have h1 : d.spares d1 := foldl_spares (fun _ _ => Dev.spares_of_stores (pointWriteOne_stores ..)) _ d
    exact iteInduction (motive := d.spares) (fun _ => Dev.spares_trans h1 (digestMark_spares ..)) (fun _ => h1)
  · exact foldl_spares (fun _ _ => setAlarm_spares ..) _ d
  · exact Dev.spares_trans (oneCycle_spares (fun _ => foldl_spares (fun _ _ => strandLine_spares ..) _ _) _) (relayLine_spares ..)
  · exact Dev.spares_of rfl rfl
  · exact Dev.spares_of rfl rfl
  · exact plyControl_spares c d
  · exact Dev.spares_of rfl rfl
  · exact Dev.spares_of rfl rfl
  · exact Dev.spares_of rfl rfl
  · exact configEffect_spares h d

theorem operationEffect_regs {c : Cmd} (h : c.opcode = 0x0D) (d : Dev) : operationEffect c d = regsWrite c.regWords d := by
  simp only [operationEffect, configEffect, h]

theorem operationEffect_gates (c : Cmd) (d : Dev) : d.gates (operationEffect c d) := by
  by_cases h : c.opcode = 0x0D
  · rw [operationEffect_regs h]
    exact regsWrite_gates _ _
  · exact (operationEffect_spares h d).2

/-! ### One register (R170, R171) -/

/-- A word touches one descriptor block at most. -/
theorem descChans_word (w : Nat × Reg) : descChans [w] = [] ∨
    descChans [w] = [(w.1 - 0x1000) / 0x80] ∧ 0x1000 ≤ w.1 ∧ w.1 < 0x3080 := by
  have hmem : ∀ j ∈ descChans [w], j = (w.1 - 0x1000) / 0x80 ∧ 0x1000 ≤ w.1 ∧ w.1 < 0x3080 := by
    intro j hj
    obtain ⟨hr, hp⟩ := List.mem_filter.mp hj
    have hj65 := List.mem_range.mp hr
    rw [List.any_cons, List.any_nil, Bool.or_false, decide_eq_true_iff] at hp
    obtain ⟨h1, h2⟩ := hp
    omega
  have hnd : (descChans [w]).Nodup := List.nodup_range.filter _
  have hrep := List.eq_replicate_of_mem (fun j hj => (hmem j hj).1)
  rw [hrep, List.nodup_replicate] at hnd
  cases hl : descChans [w] with
  | nil => exact .inl rfl
  | cons j l =>
    obtain ⟨hj, h1, h2⟩ := hmem j (by rw [hl]; exact List.mem_cons_self ..)
    rw [hl] at hnd
    have hnil : l = [] := List.length_eq_zero_iff.mp (by simpa using hnd)
    exact .inr ⟨by rw [hnil, hj], h1, h2⟩

/-- The rules of one word that leaves its carrier's own channel open (R171). -/
theorem regsState_word {carrier : Nat} {w : Nat × Reg} {d : Dev} (h : regsState carrier [w] d = none)
    (h1 : 0x1000 ≤ w.1) (h2 : w.1 < 0x3080) :
    descWordOk carrier ((w.1 - 0x1000) / 0x80) ((w.1 - 0x1000) % 0x80 / 4) (descImage ((w.1 - 0x1000) / 0x80) [w] d).1 d = true := by
  have hraw : regsRaw [w] d = d := by
    unfold regsRaw
    rw [List.foldl_cons, List.foldl_nil]
    dsimp only
    rw [if_neg (by omega), if_neg (by omega), if_neg (by omega)]
  unfold regsState at h
  rw [hraw] at h
  dsimp only at h
  rw [Option.map_eq_none_iff, List.find?_cons] at h
  split at h
  · cases h
  · next hbad =>
    rw [Bool.or_eq_false_iff, decide_eq_true ⟨h1, h2⟩, Bool.true_and, Bool.not_eq_false'] at hbad
    exact hbad.2

/-- Word 0 of a block, among one word. -/
theorem descImage_word0 {j : Nat} {w : Nat × Reg} {d : Dev} (h : (descImage j [w] d).2 = true) : w.1 = 0x1000 + 0x80 * j := by
  unfold descImage at h
  rw [List.foldl_cons, List.foldl_nil] at h
  split at h
  · simpa using h
  · cases h

/-- A channel that is not CLOSED stays open where it carries the command itself. -/
theorem descWordOk_stays {carrier j : Nat} {img : BitVec 1024} {d : Dev} (hst : (d.chan j).st ≠ .closed)
    (h : descWordOk carrier j 0 img d = true) (hj : carrier = j) : bit img 31 = true := by
  have hshuts : (!(!bit img 31)) = true := by
    unfold descWordOk at h
    dsimp only at h
    rw [if_pos hst, hj, beq_self_eq_true, beq_self_eq_true, Bool.true_and, Bool.and_true] at h
    split at h
    · exact h
    · exact (Bool.and_eq_true_iff.mp h).2
  rwa [Bool.not_not] at hshuts

/-- A WRITE_REG of one register that meets the rules leaves the slots of its own channel. -/
theorem regsWrite_word {carrier : Nat} {w : Nat × Reg} {d e : Dev} (h : regsState carrier [w] d = none)
    (he : e.cp.slots = d.cp.slots) (hc : ∀ j, e.chan j = d.chan j) (tag : Nat) :
    (regsWrite [w] e).slot carrier tag = d.slot carrier tag := by
  have hput : (regPut w e).slot carrier tag = d.slot carrier tag := by
    unfold Dev.slot
    rw [(regPut_spares w e).1, he]
  unfold regsWrite
  rw [List.foldl_cons, List.foldl_nil]
  rcases descChans_word w with hn | ⟨hn, h1, h2⟩
  · rw [hn]
    exact hput
  · rw [hn, List.foldl_cons, List.foldl_nil]
    have hid : regPut w e = e := by
      unfold regPut regDef
      rw [if_neg (by omega), if_neg (by omega), if_neg (by omega), if_neg (by omega), if_neg (by omega), if_neg (by omega),
        if_neg (by omega), if_pos h2]
      rfl
    rw [hid] at hput ⊢
    have hok := regsState_word h h1 h2
    have himg : descImage ((w.1 - 0x1000) / 0x80) [w] e = descImage ((w.1 - 0x1000) / 0x80) [w] d := by
      unfold descImage
      rw [hc]
    refine ((descWrite_discards ..).2 carrier tag fun hj => ?_).trans hput
    rw [himg, hc]
    by_cases hw : (descImage ((w.1 - 0x1000) / 0x80) [w] d).2 = true
    · have hbase := descImage_word0 hw
      by_cases hst : (d.chan ((w.1 - 0x1000) / 0x80)).st = .closed
      · exact .inr (.inr hst)
      · refine .inr (.inl ?_)
        have hi : (w.1 - 0x1000) % 0x80 / 4 = 0 := by omega
        rw [hi] at hok
        exact descWordOk_stays hst hok hj
    · exact .inl (Bool.eq_false_iff.2 hw)

/-- A single command that passes its checks leaves its own slot, whatever its effect. -/
theorem operationEffect_slot {c : Cmd} {inF : Bool} {d e : Dev} (hc : (checkMember inF [] c d).1 = none) (hcnt : c.count ≤ 1)
    (he : e.cp.slots = d.cp.slots) (hch : ∀ j, e.chan j = d.chan j) :
    (operationEffect c e).slot c.ch c.tag = d.slot c.ch c.tag := by
  by_cases h : c.opcode = 0x0D
  · have hall : checkAll c inF d = none := by
      unfold checkMember at hc
      split at hc
      · cases hc
      · next hn _ => exact hn
      · next hn _ => exact hn
    have hstate : regsState c.ch c.regWords d = none := by
      unfold checkAll at hall
      have hr := (Option.or_eq_none_iff.mp (Option.or_eq_none_iff.mp hall).2).2
      simp only [checkRights, checkSource, h, Option.map_eq_none_iff] at hr
      exact hr
    rw [operationEffect_regs h]
    have hws : c.regWords = [] ∨ ∃ w, c.regWords = [w] := by
      unfold Cmd.regWords
      obtain h0 | h1 : c.count = 0 ∨ c.count = 1 := by omega
      · rw [h0]
        exact .inl rfl
      · rw [h1]
        exact .inr ⟨_, rfl⟩
    rcases hws with hw | ⟨w, hw⟩
    · have hnil : regsWrite [] e = e := by
        unfold regsWrite descChans
        simp
      rw [hw, hnil]
      unfold Dev.slot
      rw [he]
    · rw [hw] at hstate ⊢
      exact regsWrite_word hstate he hch c.tag
  · unfold Dev.slot
    rw [(operationEffect_spares h e).1, he]

/-- What may still come of a command that ends with INTERNAL leaves its slot (R130). -/
theorem internalEffect_slot {c : Cmd} {d : Dev} (hst : c.stage ≠ .admitted) :
    (internalEffect c d).slot c.ch c.tag = d.slot c.ch c.tag := by
  unfold internalEffect
  split
  · rfl
  · next hno =>
    extract_lets passes r e
    split
    · rfl
    · next hp =>
      split
      · rfl
      · have hcnt : c.count ≤ 1 := by
          simp only [Bool.or_eq_true, decide_eq_true_eq, not_or] at hno
          omega
        have hpass : (checkMember (c.isConfig || c.t) [] c d).1 = none := by
          have hp' : passes = true := by simpa using hp
          unfold passes at hp'
          split at hp'
          · exact Option.isNone_iff_eq_none.mp hp'
          · next hs => exact absurd hs hst
          · cases hp'
        have hop : e.slot c.ch c.tag = d.slot c.ch c.tag := operationEffect_slot hpass hcnt rfl (fun _ => rfl)
        split
        · unfold Dev.slot
          rw [(Dev.spares_of_marks (rightsChanged_marks e)).1]
          exact hop
        · exact hop

end Sys2Proof.Machine
end

section
/-!
COMMAND_LIMIT (R129): a command whose 16 frames have passed ends with INTERNAL.
-/
namespace Sys2Proof.Machine

theorem commandLimit_some {ch tag : Nat} {c : Cmd} {d : Dev} (h : d.slot ch tag = some c) : commandLimit ch tag d =
    if (c.stage == .waiting || c.stage == .replying) && c.pastLimit d then limitCommand c d else d := by
  unfold commandLimit
  rw [h]

theorem commandLimit_none {ch tag : Nat} {d : Dev} (h : d.slot ch tag = none) : commandLimit ch tag d = d := by
  unfold commandLimit
  rw [h]

theorem Cmd.pastLimit_some {c : Cmd} {r : Nat} (h : c.ready = some r) (d : Dev) :
    c.pastLimit d = decide (16 ≤ framesSince r d) := by
  unfold Cmd.pastLimit
  rw [h]

/-- No effect of its own can still come of it. -/
theorem internalEffect_none {c : Cmd} (h : c.stage = .replying ∨ c.a = true ∨ c.isRead = true ∨ 1 < c.count) (d : Dev) :
    internalEffect c d = d := by
  unfold internalEffect
  split
  · rfl
  · next hno =>
    have hrep : c.stage = .replying := by
      simp only [Bool.or_eq_true, decide_eq_true_eq, not_or] at hno
      obtain ⟨⟨⟨h1, h2⟩, h3⟩, -⟩ := hno
      rcases h with h | h | h | h
      · exact h
      · exact absurd h h1
      · exact absurd h h2
      · exact absurd h h3
    rw [hrep]
    rfl

section
variable {s : State} {c : Cmd} {r : Nat} (hup : s.up) (hch : c.ch ≤ 64) (htag : c.tag < 128)
  (hslot : s.dev.slot c.ch c.tag = some c) (hr : c.ready = some r) (hst : c.stage = .waiting ∨ c.stage = .replying)
include hup hch htag hslot hr hst

omit hst in
theorem commandLimit_early (h : framesSince r s.dev < 16) : Runs (.commandLimit c.ch c.tag) s (fun t => s.silent t s.dev) := by
  refine Runs.stays (f := commandLimit c.ch c.tag) rfl (decide_eq_true ⟨hch, htag⟩) hup ?_
  have hl : c.pastLimit s.dev.fresh0 = false := (Cmd.pastLimit_some hr _).trans (decide_eq_false (Nat.not_le.mpr h))
  refine (commandLimit_some (d := s.dev.fresh0) hslot).trans (if_neg ?_)
  rw [hl, Bool.and_false]
  exact Bool.false_ne_true

/-- Past the limit it is ended. -/
theorem commandLimit_due (h : 16 ≤ framesSince r s.dev) {q : State → Prop}
    (hq : q (s.after (limitReport c.ch c.tag (internalEffect c s.dev.fresh0)))) : Runs (.commandLimit c.ch c.tag) s q := by
  refine Runs.mainChecked (f := commandLimit c.ch c.tag) rfl (decide_eq_true ⟨hch, htag⟩) hup ?_
  have hl : c.pastLimit s.dev.fresh0 = true := (Cmd.pastLimit_some hr _).trans (decide_eq_true h)
  have hs : (c.stage == .waiting || c.stage == .replying) = true := by
    rcases hst with hs | hs <;> rw [hs] <;> rfl
  have he : commandLimit c.ch c.tag s.dev.fresh0 = limitReport c.ch c.tag (internalEffect c s.dev.fresh0) :=
    (commandLimit_some (d := s.dev.fresh0) hslot).trans (if_pos (by rw [hl, hs]; rfl))
  rwa [he]

theorem commandLimit_ends (h : 16 ≤ framesSince r s.dev) (hheld : s.dev.endedHeld c.ch [c.tag])
    (hno : c.stage = .replying ∨ c.a = true ∨ c.isRead = true ∨ 1 < c.count) : Runs (.commandLimit c.ch c.tag) s (fun t =>
      c.ends stInternal s t ∧ t.dev.cp.limitCnt = satAdd s.dev.cp.limitCnt 1 ∧ t.dev.out = [] ∧
        s.frameCh t c.ch { s.dev with cp := t.dev.cp, bk := c.endsTimeSet s.dev.bk }) := by
  refine commandLimit_due hup hch htag hslot hr hst h ?_
  rw [internalEffect_none hno]
  exact limitReport_after (s := s) (c := c) (e := s.dev.fresh0) (b := s.dev) hslot hheld rfl
    (Dev.reportsTo_of_eq rfl rfl rfl) rfl

/-- Whatever its own effect, its slot is finished. -/
theorem commandLimit_finishes (h : 16 ≤ framesSince r s.dev) : Runs (.commandLimit c.ch c.tag) s (fun t =>
    (t.dev.slot c.ch c.tag).map (·.stage) = some .finished ∧ t.pending = s.pending ∧ t.isl = s.isl ∧ t.sram = s.sram) := by
  refine commandLimit_due hup hch htag hslot hr hst h ⟨?_, rfl, rfl, rfl⟩
  have hadm : c.stage ≠ .admitted := by
    rcases hst with hs | hs <;> rw [hs] <;> nofun
  have hs : (internalEffect c s.dev.fresh0).slot c.ch c.tag = some c := (internalEffect_slot hadm).trans hslot
  generalize internalEffect c s.dev.fresh0 = e at hs
  have hs' : (e.limited c).slot c.ch c.tag = some c := hs
  have hfin := finish_slot hs' stInternal 0 []
  rw [if_neg (by simp [stInternal])] at hfin
  have hsl : (s.after (limitReport c.ch c.tag e)).dev.slot c.ch c.tag = (finish c.ch c.tag stInternal 0 [] (e.limited c)).slot c.ch c.tag := by
    unfold Dev.slot
    rw [State.after_cp, limitReport_finish hs, (report_same _ _).1]
  rw [hsl]
  exact hfin

end

/-- Settles O22: the members of a group that breaks are followed through the end of one after the other, while no new barrier
stands; a command past its limit keeps its slot through whatever effect of its own may still come. -/
theorem commandTimeouts : Obligations.CommandTimeouts := by
  refine ⟨fun s ch g hup hch hg => ⟨fun hlate hnd => ?_, fun hearly => ?_⟩, fun s ch hup hch hg => ?_,
    fun s c r hup hch htag hslot hr hst => ⟨fun h hh hno => ?_, fun h => ?_, fun h => ?_⟩, fun s ch tag hup hch htag hs => ?_⟩
  · exact groupArrivalTimeout_late hup hch hg hlate hnd
  · refine groupArrivalTimeout_early hup hch fun g' hg' => ?_
    cases hg.symm.trans hg'
    exact hearly
  · exact groupArrivalTimeout_early hup hch fun g' hg' => absurd (hg.symm.trans hg') nofun
  · exact commandLimit_ends hup hch htag hslot hr hst h hh hno
  · exact commandLimit_finishes hup hch htag hslot hr hst h
  · exact commandLimit_early hup hch htag hslot hr h
  · exact Runs.stays (f := commandLimit ch tag) rfl (decide_eq_true ⟨hch, htag⟩) hup (commandLimit_none (d := s.dev.fresh0) hs)

end Sys2Proof.Machine
end

section
/-!
The start of the firmware (R593 to R606): what its steps leave of the fuses, the flash, the frame number, the lines and the
state of the main domain.
-/
namespace Sys2Proof.Machine

/-- What the first frame of the firmware leaves: the life cycle, the frame number, the lines, the flash, the state of the main
domain. -/
def Dev.bootCore (d : Dev) : Nat × W64 × Tbl Line × Flash × MainSt :=
  (d.fuses.lifecycle, d.tb.frame, d.lines, d.flash, d.pwr.main)

theorem Dev.bootCore_of {d d' : Dev} (hf : d'.fuses = d.fuses) (ht : d'.tb.frame = d.tb.frame) (hl : d'.lines = d.lines)
    (hs : d'.flash = d.flash) (hp : d'.pwr.main = d.pwr.main) : d'.bootCore = d.bootCore := by
  unfold Dev.bootCore
  rw [hf, ht, hl, hs, hp]

theorem Dev.bootCore_reports {d d' : Dev} (h : d.reportsOnly d') : d'.bootCore = d.bootCore := by
  unfold Dev.reportsOnly at h
  rw [h]
  rfl

theorem report_bootCore (e : Event) (d : Dev) : (report e d).bootCore = d.bootCore := Dev.bootCore_reports (report_reportsOnly e d)

theorem reportAll_bootCore (es : List Event) (d : Dev) : (reportAll es d).bootCore = d.bootCore :=
  Dev.bootCore_reports (reportAll_reportsOnly es d)

theorem Dev.bootCore_onlyPly {d d' : Dev} (h : d.onlyPly d') : d'.bootCore = d.bootCore := by
  rw [h.2]
  rfl

theorem Dev.bootCore_marks {d d' : Dev} (h : d.marks d') : d'.bootCore = d.bootCore := by
  rw [h.2]
  rfl

theorem modPly_bootCore (f : Ply → Ply) (d : Dev) : (d.modPly f).bootCore = d.bootCore := rfl

theorem oneCycle_bootCore {f : Dev → Dev} {g : Nat × W64 × Tbl Line × Flash × MainSt → Nat × W64 × Tbl Line × Flash × MainSt}
    (h : ∀ d, (f d).bootCore = g d.bootCore) (d : Dev) : (oneCycle f d).bootCore = g d.bootCore := by
  obtain ⟨r, hr⟩ := oneCycle_keeps Dev.bootCore f d (fun _ _ _ _ => rfl)
  rw [hr, h]
  rfl

/-! ### The records that stand, and the backup domain -/

theorem migrated_bootCore (area : Nat) (old new : BitVec 16) (d : Dev) : (migrated area old new d).bootCore = d.bootCore :=
  report_bootCore ..

theorem recorderBoot_bootCore (ram : Nat → Byte) (v : Bool) (d : Dev) : (recorderBoot ram v d).bootCore = d.bootCore := by
  unfold recorderBoot
  extract_lets lost own found src d0
  clear_value found
  rcases found with _ | ⟨kind, first, recs⟩
  · exact report_bootCore ..
  · dsimp -zeta only
    extract_lets n info table d1 d2
    have h1 : d2.bootCore = d.bootCore := report_bootCore ..
    split
    · exact h1
    · exact (migrated_bootCore ..).trans h1

theorem dirBoot_bootCore (ram : Nat → Byte) (fw : Reg) (d : Dev) : (dirBoot ram fw d).bootCore = d.bootCore := by
  unfold dirBoot
  extract_lets own
  split
  · split
    · rfl
    · exact migrated_bootCore ..
  · exact report_bootCore ..

theorem bootReports_bootCore (cleared : Bool) (ram : Nat → Byte) (d : Dev) : (bootReports cleared ram d).bootCore = d.bootCore := by
  unfold bootReports
  extract_lets d1 cause d2 d3 d4 d5
  have h1 : d1.bootCore = d.bootCore := by
    unfold d1
    split
    · exact dirBoot_bootCore ..
    · exact report_bootCore ..
  have h3 : d3.bootCore = d.bootCore := (report_bootCore ..).trans h1
  have h4 : d4.bootCore = d.bootCore := by
    unfold d4
    split
    · exact (report_bootCore ..).trans h3
    · exact h3
  have h5 : d5.bootCore = d.bootCore := by
    unfold d5
    split
    · exact (report_bootCore ..).trans h4
    · exact h4
  exact (foldl_keeps Dev.bootCore _ _ _ (fun _ _ => report_bootCore ..)).trans h5

theorem migrateSaves_bootCore (ram : Nat → Byte) (d : Dev) : (migrateSaves ram d).1.bootCore = d.bootCore := by
  unfold migrateSaves
  extract_lets own seen newest src
  clear_value newest
  rcases newest with _ | ⟨b, old, f1, frame⟩
  · rfl
  · dsimp -zeta only
    split
    · rfl
    · rcases readCopy old ram b with _ | ⟨seq, kind, cal, tag, recs⟩
      · rfl
      · dsimp -zeta only
        extract_lets recs' h ws d1
        exact (migrated_bootCore ..).trans (Dev.bootCore_of rfl rfl rfl rfl rfl)

/-- The accumulators as the records of a copy of this kind give them. -/
def Dev.accsRestored (kind : Nat) (recs : List Byte) (d : Dev) : Dev :=
  (List.range 72).foldl (fun d c => d.setAcc c (accOfRecord { Acc.reset with
    restored := true, lossHoldup := kind == 2, lossUnsaved := kind == 1 } (slice recs (112 * c) 112))) d

theorem setAcc_bootCore (c : Nat) (a : Acc) (d : Dev) : (d.setAcc c a).bootCore = d.bootCore := rfl

theorem accsRestored_bootCore (kind : Nat) (recs : List Byte) (d : Dev) : (d.accsRestored kind recs).bootCore = d.bootCore :=
  foldl_keeps Dev.bootCore _ _ d (fun _ _ => setAcc_bootCore ..)

theorem withMt_bootCore (m : Meter) (d : Dev) : (Dev.bootCore { d with mt := m }) = d.bootCore := rfl

theorem meterRestore_some {ram : Nat → Byte} {d : Dev} {b : Bool} {seq cal : W64} {tag : Reg} {kind : Nat} {recs : List Byte}
    (h : (if d.bk.valid then newestCopy (d.format 1) d.bk.badA d.bk.badB ram else none) = some (b, seq, kind, cal, tag, recs)) :
    ∃ e m, meterRestore ram d = report e { d.accsRestored kind recs with mt := m } := by
  unfold meterRestore
  extract_lets valid own bad
  rw [h]
  exact ⟨_, _, rfl⟩

theorem meterRestore_none {ram : Nat → Byte} {d : Dev}
    (h : (if d.bk.valid then newestCopy (d.format 1) d.bk.badA d.bk.badB ram else none) = none) :
    ∃ e m, meterRestore ram d = report e { d with mt := m } := by
  unfold meterRestore
  extract_lets valid own bad
  rw [h]
  exact ⟨_, _, rfl⟩

theorem meterRestore_bootCore (ram : Nat → Byte) (d : Dev) : (meterRestore ram d).bootCore = d.bootCore := by
  rcases h : (if d.bk.valid then newestCopy (d.format 1) d.bk.badA d.bk.badB ram else none) with
    _ | ⟨b, seq, kind, cal, tag, recs⟩
  · obtain ⟨e, m, he⟩ := meterRestore_none h
    rw [he, report_bootCore, withMt_bootCore]
  · obtain ⟨e, m, he⟩ := meterRestore_some h
    rw [he, report_bootCore, withMt_bootCore, accsRestored_bootCore]

theorem bootFloor_bootCore (failed : Bool) (d : Dev) : (bootFloor failed d).bootCore = d.bootCore := by
  unfold bootFloor
  extract_lets v
  split
  · rfl
  · exact report_bootCore ..

/-! ### The island's snapshot and the ply unit -/

theorem islandLinkLost_bootCore (d : Dev) : (islandLinkLost d).bootCore = d.bootCore := by
  unfold islandLinkLost
  split
  · extract_lets src d1 d2
    have h2 : d2.bootCore = d.bootCore := by
      unfold d2
      split
      · exact foldl_keeps Dev.bootCore _ _ d1 (fun _ _ => Dev.bootCore_marks (Dev.marks_of_stores (produceQAs_stores ..)))
      · rfl
    exact (report_bootCore ..).trans h2
  · rfl

theorem safetySnapshot_bootCore (snap : Option (List (BitVec 512))) (d : Dev) : (safetySnapshot snap d).bootCore = d.bootCore := by
  unfold safetySnapshot
  refine oneCycle_bootCore (g := id) (fun d => ?_) d
  exact (reportAll_bootCore ..).trans (islandLinkLost_bootCore d)

theorem plySend_bootCore (kind : Nat) (payload : List Byte) (giveup : Bool) (d : Dev) :
    (plySend kind payload giveup d).bootCore = d.bootCore := by
  unfold plySend
  extract_lets p h
  split <;> rfl

theorem plyNotice_bootCore (code arg : Nat) (d : Dev) : (plyNotice code arg d).bootCore = d.bootCore := plySend_bootCore ..

theorem cutCopy_bootCore (k : Nat) (d : Dev) : (cutCopy k d).bootCore = d.bootCore := by
  obtain ⟨strands, out, h⟩ := cutCopy_eq k d
  rw [h]
  rfl

theorem latchCut_bootCore (d : Dev) : (latchCut d).bootCore = d.bootCore := by
  by_cases h : d.ply.latch = false ∧ 3 ≤ d.ply.sinceStroke
  · obtain ⟨-, -, -, -, -, hrest⟩ := latchCut_holds h.1 h.2
    rw [hrest]
    rfl
  · rw [show latchCut d = d from if_neg h]

theorem setRole_bootCore (r : Role) (cause : Nat) (d : Dev) : (setRole r cause d).bootCore = d.bootCore :=
  Dev.bootCore_onlyPly (setRole_onlyPly ..)

theorem yieldSwap_bootCore (d : Dev) : (yieldSwap d).bootCore = d.bootCore := by
  unfold yieldSwap
  split
  · rfl
  · split
    · split
      · exact (modPly_bootCore ..).trans (setRole_bootCore ..)
      · rfl
    · split
      · exact setRole_bootCore ..
      · rfl
    · rfl

theorem yieldCancelled_bootCore (d : Dev) : (yieldCancelled d).bootCore = d.bootCore := by
  unfold yieldCancelled
  split
  · split
    · exact Dev.bootCore_onlyPly (Dev.onlyPly_trans (modPly_onlyPly ..) (plyReport_onlyPly ..))
    · rfl
  · rfl

theorem plyStatus_bootCore (d : Dev) : (plyStatus d).bootCore = d.bootCore := by
  unfold plyStatus
  split
  · rfl
  · exact plySend_bootCore ..

theorem plyFrameStart_bootCore (d : Dev) : (plyFrameStart d).bootCore = d.bootCore := by
  unfold plyFrameStart
  extract_lets d1 d2 d3 d4
  have h1 : d1.bootCore = d.bootCore := by
    unfold d1
    split
    · exact plyNotice_bootCore ..
    · exact latchCut_bootCore d
  have h2 : d2.bootCore = d.bootCore := (yieldSwap_bootCore _).trans ((yieldCancelled_bootCore _).trans h1)
  have h3 : d3.bootCore = d.bootCore := by
    unfold d3
    split
    · exact (plyNotice_bootCore ..).trans h2
    · exact h2
  have h4 : d4.bootCore = d.bootCore := (plyStatus_bootCore _).trans h3
  split
  · exact h4
  · exact h4

/-! ### Step 1: the fuse word (R566) -/

/-- The fuses once a partly blown lifecycle word is complete. -/
def Fuses.completed (f : Fuses) : Fuses := { f with lifecycle := f.partly.getD f.lifecycle, partly := none }

theorem bootFuses_eq (d : Dev) : ∃ n, bootFuses d = { d with fuses := d.fuses.completed, flash := { d.flash with noted := n } } := by
  unfold bootFuses Fuses.completed
  cases h : d.fuses.partly with
  | none =>
    refine ⟨d.flash.noted, ?_⟩
    have hf : d.fuses = { d.fuses with lifecycle := d.fuses.lifecycle, partly := none } := by rw [← h]
    rw [Option.getD_none, ← hf]
  | some t => exact ⟨_, rfl⟩

/-! ### Steps 2 to 5: recovery mode, the install, the active slot (R589, R593, R600) -/

theorem rootNo_congr {d d' : Dev} (h : d'.fuses = d.fuses) : d'.rootNo = d.rootNo := by
  unfold Dev.rootNo
  rw [h]

/-- The checks of a container look at the fuses alone. -/
theorem containerCheck_congr {d d' : Dev} (h : d'.fuses = d.fuses) (c : List Byte) (b : Bool) :
    containerCheck c b d' = containerCheck c b d := by
  have hhw (i : BitVec 2048) : contHardware i d' = contHardware i d := by unfold contHardware; rw [h]
  have hbind (i : BitVec 2048) : contBinding i d' = contBinding i d := by unfold contBinding; rw [h]
  have hfloor (i : BitVec 2048) : contFloor i d' = contFloor i d := by unfold contFloor; rw [h]
  have hser : d'.serialBytes = d.serialBytes := by unfold Dev.serialBytes; rw [h]
  have htag (r : Nat) (i : BitVec 2048) : contTag c r i d' = contTag c r i d := by unfold contTag imageKey; rw [hser]
  unfold containerCheck
  simp only [hhw, hbind, hfloor, htag, rootNo_congr h]

theorem imageCheck_factory (d : Dev) : imageCheck .factory d = 0 ↔ d.fuses.lifecycle = 1 := by
  unfold imageCheck Dev.rootNo
  dsimp only
  split <;> simp_all

/-- What the install leaves: the fuses, the supplies, the frame number, the lines, and nothing written. -/
theorem bootInstall_keeps (d : Dev) : (bootInstall d).fuses = d.fuses ∧ (bootInstall d).wr = d.wr ∧
    (bootInstall d).flash.marker = false ∧ (bootInstall d).flash.active =
      (if d.flash.marker = true ∧ containerCheck d.flash.staged true d = 0 then .bytes d.flash.staged else d.flash.active) := by
  unfold bootInstall
  by_cases hm : d.flash.marker = true
  · rw [hm]
    by_cases hc : containerCheck d.flash.staged true d = 0
    · simp [hc, bootNote, Dev.modFlash, Dev.modUpd]
    · simp [hc, bootNote, Dev.modFlash, Dev.modUpd]
  · have hm' := Bool.eq_false_iff.2 hm
    simp [hm']

theorem bootInstall_unmarked {d : Dev} (h : d.flash.marker = false) : bootInstall d = d := by
  unfold bootInstall
  rw [h]
  rfl

/-! ### Step 8 and the first frame (R487, R595, R606) -/

/-- The core without the events of the boot steps, which frame 0 has reported. -/
def coreReported (c : Nat × W64 × Tbl Line × Flash × MainSt) : Nat × W64 × Tbl Line × Flash × MainSt :=
  (c.1, c.2.1, c.2.2.1, { c.2.2.2.1 with noted := [] }, c.2.2.2.2)

theorem modPort_bootCore (p : Nat) (f : Port → Port) (d : Dev) : (d.modPort p f).bootCore = d.bootCore := rfl

theorem digestMark_bootCore (areas : List Nat) (d : Dev) : (digestMark areas d).bootCore = d.bootCore := rfl

theorem modUpd_bootCore (f : Update → Update) (d : Dev) : (d.modUpd f).bootCore = d.bootCore := rfl

/-- Frame 0 counts its tick. -/
def Dev.bootCounted (d : Dev) : Dev := { d with tb := { d.tb with cal0 := d.cal }, lg := { d.lg with tick := d.lg.tick + 1 } }

/-- Frame 0 reports what the boot steps noted, and a first-start check that failed. -/
def bootNoted (x : BootIn) (d : Dev) : Dev :=
  let d := reportAll (d.flash.noted.map (fun n => ev n.1 (n.1 == 0x0F14) 0 n.2)) (d.modFlash (fun f => { f with noted := [] }))
  match x.startFail with
  | some n => report (ev 0x0F15 true 0 (n % 256)) (d.modPly (fun p => { p with role := .dead }))
  | none => d

/-- The saves, in this firmware's format. -/
def bootSaves (ram : Nat → Byte) (cleared : Bool) (d : Dev) : Dev × (Nat → Byte) :=
  if d.bk.valid then migrateSaves ram (bootReports cleared ram d) else (bootReports cleared ram d, ram)

/-- The accumulators of the newest save. -/
def bootMeters (ram : Nat → Byte) (cleared : Bool) (d : Dev) : Dev :=
  let m := bootSaves ram cleared d
  meterRestore m.2 m.1

/-- Frame 0 reports the recovery mode before it. -/
def bootRecovered (d : Dev) : Dev := match d.rcvPast with
  | some c => report (ev 0x0F17 false 0 c) ({ d with rcvPast := none }.modUpd (fun u => { u with recovered := true }))
  | none => d

/-- Every port searches for its link. -/
def bootSearch (d : Dev) : Dev := [0, 1].foldl (fun d p => d.modPort p (fun q => { q with search := some (0, 0) })) d

/-- A container that waits for the next boot shows as staged. -/
def bootStaged (d : Dev) : Dev := if d.flash.marker then d.modUpd (fun u => { u with st := .staged }) else d

theorem bootFrame_eq (x : BootIn) (snap : Option (List (BitVec 512))) (ram : Nat → Byte) (cleared : Bool) (d : Dev) :
    bootFrame x snap ram cleared d = safetySnapshot snap (plyFrameStart (bootStaged (digestMark [0, 1, 2, 3, 4, 5]
      ((bootSearch (bootRecovered (bootFloor x.startFail.isSome (bootMeters ram cleared (bootNoted x
        (recorderBoot ram d.bootCounted.bk.valid d.bootCounted)))))).modPly (fun p => { p with sinceStroke := 1 }))))) := rfl

theorem bootNoted_bootCore (x : BootIn) (d : Dev) : (bootNoted x d).bootCore = coreReported d.bootCore := by
  unfold bootNoted
  extract_lets d1
  have h1 : d1.bootCore = coreReported d.bootCore := reportAll_bootCore ..
  clear_value d1
  split
  · exact (report_bootCore ..).trans ((modPly_bootCore ..).trans h1)
  · exact h1

theorem bootMeters_bootCore (ram : Nat → Byte) (cleared : Bool) (d : Dev) : (bootMeters ram cleared d).bootCore = d.bootCore := by
  have hm : (bootSaves ram cleared d).1.bootCore = d.bootCore := by
    unfold bootSaves
    split
    · exact (migrateSaves_bootCore ..).trans (bootReports_bootCore ..)
    · exact bootReports_bootCore ..
  exact (meterRestore_bootCore ..).trans hm

theorem bootRecovered_bootCore (d : Dev) : (bootRecovered d).bootCore = d.bootCore := by
  unfold bootRecovered
  split
  · exact (report_bootCore ..).trans ((modUpd_bootCore ..).trans (Dev.bootCore_of rfl rfl rfl rfl rfl))
  · rfl

theorem bootStaged_bootCore (d : Dev) : (bootStaged d).bootCore = d.bootCore := by
  unfold bootStaged
  split
  · exact modUpd_bootCore ..
  · rfl

theorem bootSearch_bootCore (d : Dev) : (bootSearch d).bootCore = d.bootCore :=
  foldl_keeps Dev.bootCore _ _ d (fun _ _ => modPort_bootCore ..)

/-- A timebase with the same frame number, and other tasks, are no part of the core. -/
theorem withTbLg_bootCore {t : Timebase} (g : Logic) (d : Dev) (h : t.frame = d.tb.frame) :
    Dev.bootCore { d with tb := t, lg := g } = d.bootCore := by
  unfold Dev.bootCore
  rw [h]

theorem bootCounted_bootCore (d : Dev) : d.bootCounted.bootCore = d.bootCore :=
  withTbLg_bootCore { d.lg with tick := d.lg.tick + 1 } d rfl

theorem bootFrame_bootCore (x : BootIn) (snap : Option (List (BitVec 512))) (ram : Nat → Byte) (cleared : Bool) (d : Dev) :
    (bootFrame x snap ram cleared d).bootCore = coreReported d.bootCore := by
  rw [bootFrame_eq, safetySnapshot_bootCore, plyFrameStart_bootCore, bootStaged_bootCore, digestMark_bootCore, modPly_bootCore,
    bootSearch_bootCore, bootRecovered_bootCore, bootFloor_bootCore, bootMeters_bootCore, bootNoted_bootCore,
    recorderBoot_bootCore, bootCounted_bootCore]

theorem modBk_bootCore (f : Backup → Backup) (d : Dev) : (d.modBk f).bootCore = d.bootCore := rfl

theorem store_bootCore (a : Nat) (bs : List Byte) (d : Dev) : (d.store a bs).bootCore = d.bootCore := rfl

theorem bootBackup_bootCore (ram : Nat → Byte) (d : Dev) : (bootBackup ram d).1.bootCore = d.bootCore := by
  unfold bootBackup
  extract_lets d1
  have h1 : d1.bootCore = d.bootCore := by
    unfold d1
    split
    · exact modBk_bootCore ..
    · rfl
  clear_value d1
  split
  · unfold lossBoot
    rw [modBk_bootCore, store_bootCore, store_bootCore, h1]
  · exact h1

theorem modPwr_bootCore {f : Power → Power} (d : Dev) (h : (f d.pwr).main = d.pwr.main) : (d.modPwr f).bootCore = d.bootCore := by
  unfold Dev.modPwr Dev.bootCore
  rw [h]

theorem tailClear_bootCore (d : Dev) : (tailClear d).bootCore = d.bootCore := store_bootCore ..

theorem withRcd_bootCore (r : Recorder) (d : Dev) : (Dev.bootCore { d with rcd := r }) = d.bootCore := rfl

theorem supplyWarn_bootCore (d : Dev) : (supplyWarn d).bootCore = d.bootCore := by
  unfold supplyWarn tailWarning snapshotCapture saveBegin
  split
  · rfl
  · rw [plyNotice_bootCore, tailClear_bootCore, withRcd_bootCore, report_bootCore, withMt_bootCore, store_bootCore,
      withMt_bootCore, modPwr_bootCore]
    rfl

/-- The core with the main domain running. -/
def coreRunning (c : Nat × W64 × Tbl Line × Flash × MainSt) : Nat × W64 × Tbl Line × Flash × MainSt :=
  (c.1, c.2.1, c.2.2.1, c.2.2.2.1, .running)

theorem bootStart_bootCore (x : BootIn) (snap : Option (List (BitVec 512))) (ram : Nat → Byte) (d : Dev) :
    (bootStart x snap ram d).bootCore = coreReported (coreRunning (bootReturned d).bootCore) := by
  have h1 : ((bootBackup ram (bootReturned d)).1.modPwr (fun p => { p with main := .running })).bootCore =
      coreRunning (bootReturned d).bootCore := congrArg coreRunning (bootBackup_bootCore ..)
  have h2 := (oneCycle_bootCore (bootFrame_bootCore x snap (bootBytes (bootBackup ram (bootReturned d)).2 ram)
    (bootBackup ram (bootReturned d)).2)
    ((bootBackup ram (bootReturned d)).1.modPwr (fun p => { p with main := .running }))).trans (congrArg coreReported h1)
  unfold bootStart
  extract_lets r d1 d2
  change d2.bootCore = _ at h2
  clear_value d2
  split
  · exact (supplyWarn_bootCore d2).trans h2
  · exact h2

/-! ### The decision (R593) -/

/-- Recovery mode after this entry cause, with the life cycle `lc` and no byte of the retained SRAM written. -/
def Dev.recovers (c lc : Nat) (a : Dev) : Prop :=
  a.pwr.main = .recovery ∧ a.rcv = some (Recovery.start c) ∧ a.fuses.lifecycle = lc ∧ a.fuses.partly = none ∧ a.wr = []

theorem enterRecovery_recovers {c : Nat} {d : Dev} (hp : d.fuses.partly = none) (hw : d.wr = []) :
    (enterRecovery c d).recovers c d.fuses.lifecycle := ⟨rfl, rfl, rfl, hp, hw⟩

/-- The life cycle that the boot completes. -/
def Fuses.cycle (f : Fuses) : Nat := f.partly.getD f.lifecycle

theorem bootRecovery_fuses (x : BootIn) (d : Dev) : bootRecovery x (bootFuses d) =
    if d.fuses.cycle = 4 then some 4 else if d.pwr.marker then some 0 else if x.wakeLow then some 1
    else if d.flash.marker && x.flashErr == some 4 then some 3 else none := by
  obtain ⟨n, h⟩ := bootFuses_eq d
  rw [h]
  rfl

variable {x : BootIn} {snap : Option (List (BitVec 512))} {ram : Nat → Byte} {d : Dev} {c : Nat}

theorem bootRun_recovery (hw : d.wr = []) (h : bootRecovery x (bootFuses d) = some c) :
    (bootRun x snap ram d).recovers c d.fuses.cycle := by
  obtain ⟨n, hf⟩ := bootFuses_eq d
  unfold bootRun
  extract_lets d1
  rw [h]
  change (enterRecovery c ((bootFuses d).modPwr (fun p => { p with marker := if c = 0 then false else p.marker }))).recovers
    c d.fuses.cycle
  rw [hf]
  exact ⟨rfl, rfl, rfl, rfl, hw⟩

theorem bootRun_enters (h : bootRecovery x (bootFuses d) = none) (ha : bootActive x (bootInstall (bootFuses d)) = some c) :
    bootRun x snap ram d = enterRecovery c (bootInstall (bootFuses d)) := by
  unfold bootRun
  extract_lets d1
  rw [h]
  dsimp only
  rw [ha]

theorem bootRun_active (hw : d.wr = []) (h : bootRecovery x (bootFuses d) = none)
    (ha : bootActive x (bootInstall (bootFuses d)) = some c) : (bootRun x snap ram d).recovers c d.fuses.cycle := by
  obtain ⟨n, hf⟩ := bootFuses_eq d
  obtain ⟨hfu, hwr, -, -⟩ := bootInstall_keeps (bootFuses d)
  have hc : (bootInstall (bootFuses d)).fuses.lifecycle = d.fuses.cycle := by
    rw [hfu, hf]
    rfl
  rw [bootRun_enters h ha, ← hc]
  refine enterRecovery_recovers ?_ ?_
  · rw [hfu, hf]
    rfl
  · rw [hwr, hf]
    exact hw

theorem bootRun_start (h : bootRecovery x (bootFuses d) = none) (ha : bootActive x (bootInstall (bootFuses d)) = none) :
    bootRun x snap ram d = bootStart x snap ram (bootInstall (bootFuses d)) := by
  unfold bootRun
  extract_lets d1
  rw [h]
  dsimp only
  rw [ha]

theorem bootReturned_flash (d : Dev) : (bootReturned d).flash.marker = d.flash.marker ∧
    (bootReturned d).flash.active = d.flash.active := by
  unfold bootReturned
  split <;> exact ⟨rfl, rfl⟩

theorem bootReturned_other (h : d.fuses.lifecycle ≠ 3) : bootReturned d = d := if_neg fun hc => h hc.1

/-- Whatever the active slot then decides, the install stands. -/
theorem bootRun_installed (h : bootRecovery x (bootFuses d) = none) :
    (bootRun x snap ram d).flash.marker = false ∧
      (bootRun x snap ram d).flash.active = (bootInstall (bootFuses d)).flash.active := by
  obtain ⟨-, -, hm, -⟩ := bootInstall_keeps (bootFuses d)
  rcases ha : bootActive x (bootInstall (bootFuses d)) with _ | c
  · have hc := congrArg (fun t => t.2.2.2.1) (bootStart_bootCore x snap ram (bootInstall (bootFuses d)))
    change (bootStart x snap ram (bootInstall (bootFuses d))).flash =
      { (bootReturned (bootInstall (bootFuses d))).flash with noted := [] } at hc
    obtain ⟨hmr, har⟩ := bootReturned_flash (bootInstall (bootFuses d))
    rw [bootRun_start h ha, hc]
    exact ⟨hmr.trans hm, har⟩
  · rw [bootRun_enters h ha]
    exact ⟨hm, rfl⟩

/-- What the install leaves of the active slot, by the module as it came out of reset. -/
theorem bootInstall_active (d : Dev) : (bootInstall (bootFuses d)).flash.active =
    (if d.flash.marker = true ∧ containerCheck d.flash.staged true { d with fuses := d.fuses.completed } = 0
      then .bytes d.flash.staged else d.flash.active) := by
  obtain ⟨n, hf⟩ := bootFuses_eq d
  obtain ⟨-, -, -, ha⟩ := bootInstall_keeps (bootFuses d)
  rw [ha, hf]
  exact if_congr (Iff.of_eq (congrArg (fun r => d.flash.marker = true ∧ r = 0) (containerCheck_congr rfl ..))) rfl rfl

/-- The boot of a module with the factory image and nothing to install: it runs where the manufacture root is in force (R593). -/
theorem bootRun_factory (h : bootRecovery x (bootFuses d) = none) (hm : d.flash.marker = false) (hx : x.flashErr ≠ some 5)
    (hi : d.flash.active = .factory) (hc : d.fuses.cycle = 1) :
    (bootRun x snap ram d).bootCore = (1, d.tb.frame, d.lines, { d.flash with noted := [] }, .running) := by
  obtain ⟨n, hf⟩ := bootFuses_eq d
  have hinst : bootInstall (bootFuses d) = bootFuses d := by
    rw [hf]
    exact bootInstall_unmarked hm
  have hlc : (bootFuses d).fuses.lifecycle = 1 := by
    rw [hf]
    exact hc
  have hfl : (bootFuses d).flash.active = .factory := by
    rw [hf]
    exact hi
  have ha : bootActive x (bootInstall (bootFuses d)) = none := by
    unfold bootActive
    rw [hinst, if_neg hx, hfl, if_neg (not_not.2 ((imageCheck_factory _).2 hlc))]
  rw [bootRun_start h ha, bootStart_bootCore, hinst, bootReturned_other (by omega), ← hlc, hf]
  rfl

/-- Under another root its image is rejected (R588, R593). -/
theorem bootActive_factory (hm : d.flash.marker = false) (hx : x.flashErr ≠ some 5) (hi : d.flash.active = .factory)
    (hc : d.fuses.cycle ≠ 1) : bootActive x (bootInstall (bootFuses d)) = some 2 := by
  obtain ⟨n, hf⟩ := bootFuses_eq d
  have hinst : bootInstall (bootFuses d) = bootFuses d := by
    rw [hf]
    exact bootInstall_unmarked hm
  have hfl : (bootFuses d).flash.active = .factory := by
    rw [hf]
    exact hi
  have hlc : (bootFuses d).fuses.lifecycle ≠ 1 := by
    rw [hf]
    exact hc
  unfold bootActive
  rw [hinst, if_neg hx, hfl, if_pos (mt (imageCheck_factory _).1 hlc)]

/-- A module as the boot finds it: what the reset left of the fuses, the flash, the frame number and the lines. -/
def Dev.leavesReset (d0 d : Dev) : Prop :=
  d.fuses = d0.fuses ∧ d.flash = d0.flash ∧ d.tb = d0.tb ∧ d.lines = d0.lines ∧ d.pwr.marker = d0.pwr.marker ∧ d.wr = []

end Sys2Proof.Machine
end

section
/-!
The boot decides between the firmware and recovery mode (R593 to R600).
-/
namespace Sys2Proof.Machine

/-- Recovery mode after this entry cause; the life cycle is complete, and neither the retained SRAM nor the island moves. -/
def State.recovers (s : State) (c : Nat) (t : State) : Prop :=
  t.dev.pwr.main = .recovery ∧ t.dev.rcv = some (Recovery.start c) ∧ t.dev.fuses.lifecycle = s.dev.fuses.cycle ∧
    t.dev.fuses.partly = none ∧ t.sram = s.sram ∧ t.isl = s.isl

/-- `f` boots the module `d`, which came out of reset as `s` holds it. -/
def State.bootsAs (s : State) (x : BootIn) (f : (Nat → Byte) → Dev → Dev) (d : Dev) : Prop :=
  f (Memory.read s.sram) s.dev.fresh0 = bootRun x s.isl.snapshot (Memory.read s.sram) d ∧ s.dev.leavesReset d

variable {s : State} {x : BootIn} {f : (Nat → Byte) → Dev → Dev} {d : Dev} {c : Nat}

theorem recovers_withSram (h : (f (Memory.read s.sram) s.dev.fresh0).recovers c s.dev.fuses.cycle) :
    s.recovers c (s.withSram f) := by
  obtain ⟨hm, hr, hl, hp, hw⟩ := h
  rw [withSram_dry rfl hw]
  unfold State.recovers
  simp only [State.after_dev, State.after_keeps]
  exact ⟨hm, hr, hl, hp, trivial, trivial⟩

theorem boots_recovery (hb : s.bootsAs x f d) (h : bootRecovery x (bootFuses d) = some c) : s.recovers c (s.withSram f) := by
  obtain ⟨hf, hfu, -, -, -, -, hw⟩ := hb
  refine recovers_withSram ?_
  rw [hf, ← hfu]
  exact bootRun_recovery hw h

theorem boots_active (hb : s.bootsAs x f d) (h : bootRecovery x (bootFuses d) = none)
    (ha : bootActive x (bootInstall (bootFuses d)) = some c) : s.recovers c (s.withSram f) := by
  obtain ⟨hf, hfu, -, -, -, -, hw⟩ := hb
  refine recovers_withSram ?_
  rw [hf, ← hfu]
  exact bootRun_active hw h ha

theorem bootRecovery_of (hb : s.bootsAs x f d) : bootRecovery x (bootFuses d) =
    if s.dev.fuses.cycle = 4 then some 4 else if s.dev.pwr.marker then some 0 else if x.wakeLow then some 1
    else if s.dev.flash.marker && x.flashErr == some 4 then some 3 else none := by
  obtain ⟨-, hfu, hfl, -, -, hmk, -⟩ := hb
  rw [bootRecovery_fuses, hfu, hfl, hmk]

theorem withSram_dev (s : State) (f : (Nat → Byte) → Dev → Dev) :
    (s.withSram f).dev.flash = (f (Memory.read s.sram) s.dev.fresh0).flash ∧
    (s.withSram f).dev.fuses = (f (Memory.read s.sram) s.dev.fresh0).fuses ∧
    (s.withSram f).dev.tb = (f (Memory.read s.sram) s.dev.fresh0).tb ∧
    (s.withSram f).dev.lines = (f (Memory.read s.sram) s.dev.fresh0).lines ∧
    (s.withSram f).dev.pwr = (f (Memory.read s.sram) s.dev.fresh0).pwr ∧ (s.withSram f).isl = s.isl := by
  rw [withSram_eq]
  simp only [State.after_dev, State.after_keeps, true_and]
  rfl

/-- The installed container, or the one that stood. -/
theorem boots_installed (hb : s.bootsAs x f d) (h : bootRecovery x (bootFuses d) = none) :
    (s.withSram f).dev.flash.marker = false ∧ (s.withSram f).dev.flash.active =
      (if s.dev.flash.marker = true ∧ containerCheck s.dev.flash.staged true { s.dev with fuses := s.dev.fuses.completed } = 0
        then .bytes s.dev.flash.staged else s.dev.flash.active) := by
  obtain ⟨hf, hfu, hfl, -, -, -, -⟩ := hb
  obtain ⟨hm, ha⟩ := bootRun_installed (snap := s.isl.snapshot) (ram := Memory.read s.sram) h
  rw [(withSram_dev s f).1, hf, ha, bootInstall_active, hfu, hfl]
  exact ⟨hm, if_congr (Iff.of_eq (congrArg (fun r => s.dev.flash.marker = true ∧ r = 0) (containerCheck_congr rfl ..))) rfl rfl⟩

/-- The factory image under the manufacture root starts the firmware. -/
theorem boots_factory (hb : s.bootsAs x f d) (h : bootRecovery x (bootFuses d) = none) (hm : s.dev.flash.marker = false)
    (hx : x.flashErr ≠ some 5) (hi : s.dev.flash.active = .factory) (hc : s.dev.fuses.cycle = 1) :
    (s.withSram f).dev.pwr.main = .running ∧ (s.withSram f).dev.fuses.lifecycle = 1 ∧
      (s.withSram f).dev.tb.frame = s.dev.tb.frame ∧ (s.withSram f).dev.lines = s.dev.lines ∧
      (s.withSram f).dev.flash = { s.dev.flash with noted := [] } ∧ (s.withSram f).isl = s.isl := by
  obtain ⟨hf, hfu, hfl, htb, hln, -, -⟩ := hb
  have hcore := bootRun_factory (snap := s.isl.snapshot) (ram := Memory.read s.sram) h (by rw [hfl, hm]) hx (by rw [hfl, hi])
    (by rw [hfu, hc])
  rw [← hf, htb, hln, hfl] at hcore
  obtain ⟨hfl', hfu', htb', hln', hpw', hisl'⟩ := withSram_dev s f
  rw [hfl', hfu', htb', hln', hpw', hisl']
  generalize f (Memory.read s.sram) s.dev.fresh0 = a at hcore ⊢
  simp only [Dev.bootCore, Prod.mk.injEq] at hcore
  obtain ⟨h1, h2, h3, h4, h5⟩ := hcore
  exact ⟨h5, h1, h2, h3, h4, rfl⟩

theorem leavesReset_modPwr {d0 : Dev} {f : Power → Power} (h : d0.leavesReset d) (hf : (f d.pwr).marker = d.pwr.marker) :
    d0.leavesReset (d.modPwr f) := by
  obtain ⟨h1, h2, h3, h4, h5, h6⟩ := h
  exact ⟨h1, h2, h3, h4, hf.trans h5, h6⟩

theorem leavesReset_modBk {d0 : Dev} {f : Backup → Backup} (h : d0.leavesReset d) : d0.leavesReset (d.modBk f) := h

theorem fresh0_leavesReset (d : Dev) : d.leavesReset d.fresh0 := ⟨rfl, rfl, rfl, rfl, rfl, rfl⟩

/-- MAIN_RESET_RELEASE boots the module with PORST_N high (R604, R605). -/
theorem mainRelease_boots (hm : s.dev.pwr.main = .reset) (hv : s.dev.bk.onVmain = true) (hh : s.dev.pwr.hot = false) :
    s.bootsAs x (mainRelease x s.isl.snapshot)
      ((s.dev.fresh0.modPwr (fun p => { p with porst := false })).modBk (fun b => { b with lockout := false })) :=
  ⟨if_pos ⟨hm, hv, hh⟩, leavesReset_modBk (leavesReset_modPwr (fresh0_leavesReset _) rfl)⟩

/-- So does the end of a thermal trip (R633). -/
theorem thermalRecover_boots (hm : s.dev.pwr.main = .reset) (hv : s.dev.bk.onVmain = true) (hh : s.dev.pwr.hot = true)
    (hp : s.dev.pwr.porst = false) :
    s.bootsAs x (thermalRecover x s.isl.snapshot)
      (((s.dev.fresh0.modPwr (fun p => { p with hot := false })).modPwr (fun p => { p with porst := false })).modBk
        (fun b => { b with lockout := false })) := by
  refine ⟨?_, leavesReset_modBk (leavesReset_modPwr (leavesReset_modPwr (fresh0_leavesReset _) rfl) rfl)⟩
  have hcold : thermalRecover x s.isl.snapshot (Memory.read s.sram) s.dev.fresh0 =
      mainRelease x s.isl.snapshot (Memory.read s.sram) (s.dev.fresh0.modPwr (fun p => { p with hot := false })) := by
    unfold thermalRecover
    rw [if_neg (by simp [hh])]
    exact if_neg (by simp [Dev.modPwr, hp])
  rw [hcold]
  exact if_pos ⟨hm, hv, rfl⟩

/-- Settles O42: the boot completes the fuse word, looks for a cause of recovery mode in its order, installs what is staged, and
starts the firmware where the active slot passes. -/
theorem bootDecides : Obligations.BootDecides := by
  intro s x lc recovers boots
  have hboots (f : (Nat → Byte) → Dev → Dev) (d : Dev) (hb : s.bootsAs x f d) : boots (s.withSram f) := by
    have hr := bootRecovery_of hb
    refine ⟨fun h4 => ?_, fun h4 hm => ?_, fun h4 hm hwk => ?_, fun h4 hm hwk => ?_⟩
    · exact boots_recovery hb (hr.trans (if_pos h4))
    · exact boots_recovery hb (by rw [hr, if_neg (show ¬ s.dev.fuses.cycle = 4 from h4), if_pos hm])
    · exact boots_recovery hb (by rw [hr, if_neg (show ¬ s.dev.fuses.cycle = 4 from h4), if_neg (by simp [hm]), if_pos hwk])
    · rw [if_neg (show ¬ s.dev.fuses.cycle = 4 from h4), if_neg (by simp [hm]), if_neg (by simp [hwk])] at hr
      intro flash c
      have hnone (h : flash.marker = false ∨ x.flashErr ≠ some 4) : bootRecovery x (bootFuses d) = none := by
        rw [hr, if_neg]
        simp only [Bool.and_eq_true, beq_iff_eq, not_and]
        rcases h with h | h
        · exact fun hc => absurd (h.symm.trans hc) Bool.false_ne_true
        · exact fun _ => h
      refine ⟨fun hf hx => ?_, fun hf hx => ?_, fun hf => ?_, fun hf hx => ?_, fun hf hx hi => ⟨fun h1 => ?_, fun h1 => ?_⟩⟩
      · exact boots_recovery hb (by rw [hr, if_pos (by simp [hx, show s.dev.flash.marker = true from hf])])
      · obtain ⟨h1, h2⟩ := boots_installed hb (hnone (.inr hx))
        refine ⟨h1, h2.trans (if_congr ?_ rfl rfl)⟩
        exact and_iff_right hf
      · obtain ⟨-, h2⟩ := boots_installed hb (hnone (.inl hf))
        exact h2.trans (if_neg fun hc => Bool.false_ne_true (hf.symm.trans hc.1))
      · exact boots_active hb (hnone hf) (if_pos hx)
      · obtain ⟨e1, e2, e3⟩ := boots_factory hb (hnone (.inl hf)) hf hx hi h1
        exact ⟨e1, e2.trans h1.symm, e3⟩
      · obtain ⟨-, hfu, hfl, -⟩ := id hb
        exact boots_active hb (hnone (.inl hf)) (bootActive_factory (by rw [hfl]; exact hf) hx (by rw [hfl]; exact hi)
          (by rw [hfu]; exact h1))
  refine ⟨fun hm hv hh => ⟨_, rfl, hboots _ _ (mainRelease_boots hm hv hh)⟩, fun hm => ⟨_, rfl, ?_⟩, fun hm hv => ⟨_, rfl, ?_⟩,
    fun hm hv hh hp => ⟨_, rfl, hboots _ _ (thermalRecover_boots hm hv hh hp)⟩, fun hh hp => ⟨_, rfl, ?_⟩, fun hh => ⟨_, rfl, ?_⟩⟩
  · refine State.silent_withSram ?_
    unfold mainRelease
    rw [if_neg (fun h => hm h.1)]
    exact if_neg hm
  · refine silent_withSram_of (a := s.dev.fresh0.modPwr (fun p => { p with porst := false })) ?_ rfl rfl
    unfold mainRelease
    rw [if_neg]
    · exact if_pos hm
    · rintro ⟨-, h1, h2⟩
      rcases hv with hv | hv
      · exact Bool.false_ne_true (hv.symm.trans h1)
      · exact Bool.false_ne_true (h2.symm.trans hv)
  · refine silent_withSram_of (a := s.dev.fresh0.modPwr (fun p => { p with hot := false })) ?_ rfl rfl
    unfold thermalRecover
    rw [if_neg (by simp [hh])]
    exact if_pos hp
  · refine State.silent_withSram ?_
    unfold thermalRecover
    exact if_pos (by simp [hh])

end Sys2Proof.Machine
end

section
/-!
The line code: a signal reads back as the symbols that it carries, on a line of either polarity, and a strand frame as its body
(R234, R235, R255 to R259).
-/
namespace Sys2Proof.Machine

/-! ### Levels and transitions (R234, R235) -/

theorem lineSymbols_lineLevels (before : Bool) (ss : List LineSym) : lineSymbols before (lineLevels before ss) = ss := by
  induction ss generalizing before with
  | nil => rfl
  | cons y ys ih =>
    have hsym : lineSym (Bool.xor before (Bool.xor before (symStart y)))
        (Bool.xor (Bool.xor before (symStart y)) (Bool.xor (Bool.xor before (symStart y)) (symMiddle y))) = y := by
      cases before <;> cases y <;> rfl
    simp only [lineLevels, lineSymbols]
    rw [hsym, ih]

theorem rxSymbols_lineSignal (before : Bool) (ss : List LineSym) : rxSymbols (lineSignal before ss) = ss :=
  lineSymbols_lineLevels before ss

/-- Transitions alone decide: both levels reversed carry the same symbols. -/
theorem lineSymbols_not (before : Bool) : ∀ halves : List Bool,
    lineSymbols (!before) (halves.map (!·)) = lineSymbols before halves
  | [] => rfl
  | [_] => rfl
  | a :: b :: hs => by
    simp only [List.map_cons, lineSymbols, Bool.not_bne_not]
    rw [lineSymbols_not b hs]

/-! ### Bytes as data symbols (R257) -/

/-- The symbols of one byte. -/
def byteSymbols (b : Byte) : List LineSym := (lsbBits b).map (fun x => if x then .one else .zero)

theorem dataSymbols_cons (b : Byte) (bs : List Byte) : dataSymbols (b :: bs) = byteSymbols b ++ dataSymbols bs := rfl

theorem byteSymbols_length (b : Byte) : (byteSymbols b).length = 8 := rfl

theorem byteSymbols_middle (b : Byte) : (byteSymbols b).all symMiddle = true := by
  unfold byteSymbols
  rw [List.all_map, List.all_eq_true]
  intro x _
  cases x <;> rfl

theorem dataSymbols_length (bs : List Byte) : (dataSymbols bs).length = 8 * bs.length := by
  induction bs with
  | nil => rfl
  | cons b bs ih =>
    rw [dataSymbols_cons, List.length_append, ih, byteSymbols_length, List.length_cons]
    omega

theorem dataSymbols_middle (bs : List Byte) : ∀ y ∈ dataSymbols bs, symMiddle y = true := by
  induction bs with
  | nil => intro y hy; exact absurd hy List.not_mem_nil
  | cons b bs ih =>
    intro y hy
    rw [dataSymbols_cons, List.mem_append] at hy
    rcases hy with hy | hy
    · exact List.all_eq_true.1 (byteSymbols_middle b) y hy
    · exact ih y hy

/-- The value of a bit as a data symbol spells it. -/
theorem byteSymbols_value (b : Byte) :
    BitVec.ofNat 8 ((byteSymbols b).foldr (fun y n => (if symStart y then 0 else 1) + 2 * n) 0) = b := by
  revert b
  decide

theorem wholeBytes_byte (b : Byte) (ss : List LineSym) :
    wholeBytes (byteSymbols b ++ ss) = (wholeBytes ss).map (fun bs => b :: bs) := by
  have hm := byteSymbols_middle b
  have hv := byteSymbols_value b
  simp only [byteSymbols, lsbBits, List.map_cons, List.map_nil, List.cons_append, List.nil_append] at hm hv ⊢
  rw [wholeBytes]
  rw [if_pos hm]
  exact congrArg (fun v => (wholeBytes ss).map (fun bs => v :: bs)) hv

theorem wholeBytes_dataSymbols (bs : List Byte) : wholeBytes (dataSymbols bs) = some bs := by
  induction bs with
  | nil => rfl
  | cons b bs ih => rw [dataSymbols_cons, wholeBytes_byte, ih]; rfl

/-! ### The frame check (R258) -/

theorem crc16Bit_lt {c : Nat} (b : Bool) (h : c < 65536) : crc16Bit c b < 65536 := by
  unfold crc16Bit
  dsimp only
  split
  · exact Nat.xor_lt_two_pow (n := 16) (by omega) (by omega)
  · omega

theorem crc16_lt (bs : List Byte) : crc16 bs < 65536 := by
  have hbyte (b : Byte) (c : Nat) (h : c < 65536) : (lsbBits b).foldl crc16Bit c < 65536 :=
    List.foldlRecOn (motive := fun c => c < 65536) _ _ h (fun c hc b _ => crc16Bit_lt b hc)
  exact List.foldlRecOn (motive := fun c => c < 65536) bs _ (by omega) (fun c hc b _ => hbyte b c hc)

/-! ### Strand frames (R256, R259) -/

theorem strandFrame_length (body : List Byte) : (strandFrame body).length = 48 + 8 * body.length := by
  simp only [strandFrame, List.length_append, List.length_replicate, dataSymbols_length, startDelimiter, endDelimiter,
    List.length_cons, List.length_nil, leBytes]
  omega

theorem afterStart_strandFrame (body : List Byte) : afterStart (strandFrame body) =
    some (dataSymbols (body ++ leBytes 2 (crc16 body)) ++ endDelimiter) := by
  unfold strandFrame
  generalize dataSymbols (body ++ leBytes 2 (crc16 body)) = data
  rfl

/-- What whoever hears a strand frame reads: its body. -/
theorem frameBody_strandFrame (body : List Byte) : frameBody (strandFrame body) = some body := by
  have hdata : (dataSymbols (body ++ leBytes 2 (crc16 body)) ++ endDelimiter).takeWhile symMiddle =
      dataSymbols (body ++ leBytes 2 (crc16 body)) := by
    rw [List.takeWhile_append_of_pos (dataSymbols_middle _)]
    exact List.append_nil _
  have hlen : (body ++ leBytes 2 (crc16 body)).length - 2 = body.length := by
    rw [List.length_append]
    exact Nat.add_sub_cancel _ 2
  have hcrc : leNat (leBytes 2 (crc16 body)) = crc16 body := by
    rw [leNat_leBytes]
    exact Nat.mod_eq_of_lt (crc16_lt body)
  unfold frameBody
  rw [afterStart_strandFrame]
  dsimp only
  rw [hdata, List.drop_left, if_pos (by decide), wholeBytes_dataSymbols]
  dsimp only
  rw [hlen, List.take_left, List.drop_left, hcrc, if_pos]
  simp [leBytes]

end Sys2Proof.Machine
end

section
/-!
Downlink copies of a strand and the copy of the twin (R264 to R270, R284).
-/
namespace Sys2Proof.Machine

/-! ### What the copies of strand `k` move -/

/-- From `d` to `d'` strand `k` and its line alone have moved, with the ply unit but for its role and beside what reports and
messages write. -/
def Dev.copies (k : Nat) (d d' : Dev) : Prop :=
  d.reportsTo d' ∧
    d' = { d with
      strands := d'.strands, lines := d'.lines, ply := d'.ply, fresh := d'.fresh, tr := d'.tr, rcd := d'.rcd, flt := d'.flt
      out := d'.out } ∧ d'.ply.role = d.ply.role ∧
    ∀ j, j ≠ k → d'.strand j = d.strand j ∧ d'.line j = d.line j

variable {k : Nat}

theorem Dev.copies_refl (d : Dev) : d.copies k d := ⟨Dev.reportsTo_refl _, rfl, rfl, fun _ _ => ⟨rfl, rfl⟩⟩

theorem Dev.copies_trans {a b c : Dev} (h1 : a.copies k b) (h2 : b.copies k c) : a.copies k c := by
  obtain ⟨hr1, he1, hp1, ho1⟩ := h1
  obtain ⟨hr2, he2, hp2, ho2⟩ := h2
  exact ⟨Dev.reportsTo_trans hr1 hr2, by rw [he2, he1], hp2.trans hp1,
    fun j hj => ⟨(ho2 j hj).1.trans (ho1 j hj).1, (ho2 j hj).2.trans (ho1 j hj).2⟩⟩

theorem Dev.copies_reports {d d' : Dev} (hr : d.reportsTo d') (ho : d.reportsOnly d') : d.copies k d' := by
  unfold Dev.reportsOnly at ho
  exact ⟨hr, by rw [ho], by rw [ho], fun j _ => ⟨by rw [ho]; rfl, by rw [ho]; rfl⟩⟩

theorem setStrand_copies (x : Strand) (d : Dev) : d.copies k (d.setStrand k x) :=
  ⟨Dev.reportsTo_of_eq rfl rfl rfl, rfl, rfl, fun j hj => ⟨by rw [Dev.strand_setStrand, if_neg hj], rfl⟩⟩

theorem setLine_copies (x : Line) (d : Dev) : d.copies k (d.setLine k x) :=
  ⟨Dev.reportsTo_of_eq rfl rfl rfl, rfl, rfl, fun j hj => ⟨rfl, by rw [Dev.line_setLine, if_neg hj]⟩⟩

theorem emit_copies (m : OutMsg) (d : Dev) : d.copies k (d.emit m) :=
  ⟨Dev.reportsTo_of_eq rfl rfl rfl, rfl, rfl, fun _ _ => ⟨rfl, rfl⟩⟩

theorem report_copies (e : Event) (d : Dev) : d.copies k (report e d) :=
  Dev.copies_reports (report_reportsTo e d) (report_reportsOnly e d)

theorem reportLimited_copies (scope qty : Nat) (e : Event) (d : Dev) : d.copies k (reportLimited scope qty e d) :=
  Dev.copies_reports (reportLimited_reportsTo ..) (reportLimited_reportsOnly ..)

theorem withFresh_copies (n : Nat) (d : Dev) : d.copies k { d with fresh := n } :=
  ⟨Dev.reportsTo_of_eq rfl rfl rfl, rfl, rfl, fun _ _ => ⟨rfl, rfl⟩⟩

theorem withPly_copies (p : Ply) (d : Dev) (h : p.role = d.ply.role) : d.copies k { d with ply := p } :=
  ⟨Dev.reportsTo_of_eq rfl rfl rfl, rfl, h, fun _ _ => ⟨rfl, rfl⟩⟩

/-! ### The level of a copy on its line (R250) -/

/-- From `d` to `d'` a level has been measured on line `k`. -/
def Dev.levels (k : Nat) (d d' : Dev) : Prop := d.copies k d' ∧ d'.strands = d.strands ∧ d'.out = d.out ∧ d'.ply = d.ply

theorem Dev.levels_refl (d : Dev) : d.levels k d := ⟨Dev.copies_refl d, rfl, rfl, rfl⟩

theorem Dev.levels_trans {a b c : Dev} (h1 : a.levels k b) (h2 : b.levels k c) : a.levels k c := by
  obtain ⟨hc1, hs1, ho1, hp1⟩ := h1
  obtain ⟨hc2, hs2, ho2, hp2⟩ := h2
  exact ⟨Dev.copies_trans hc1 hc2, hs2.trans hs1, ho2.trans ho1, hp2.trans hp1⟩

theorem setLine_levels (x : Line) (d : Dev) : d.levels k (d.setLine k x) := ⟨setLine_copies x d, rfl, rfl, rfl⟩

theorem report_levels (e : Event) (d : Dev) : d.levels k (report e d) := by
  refine ⟨report_copies e d, ?_, ?_, ?_⟩ <;> simp

theorem meanOpen_levels (sum : Int) (n : Nat) (d : Dev) : d.levels k (meanOpen sum n d).2 := by
  unfold meanOpen
  split
  · exact Dev.levels_refl d
  · split
    · exact Dev.levels_refl d
    · exact ⟨withFresh_copies _ d, rfl, rfl, rfl⟩

theorem lineLevel_levels (mV : Nat) (d : Dev) : d.levels k (lineLevel k mV d) := by
  unfold lineLevel
  extract_lets l sum m high low ok l2 d1
  have h1 : d.levels k d1 := Dev.levels_trans (meanOpen_levels sum 32 d) (setLine_levels ..)
  clear_value d1 l2
  split
  · exact Dev.levels_refl d
  · split
    · exact setLine_levels ..
    · split
      · exact Dev.levels_trans h1 (Dev.levels_trans (setLine_levels ..) (report_levels ..))
      · split
        · exact Dev.levels_trans h1 (Dev.levels_trans (setLine_levels ..) (report_levels ..))
        · split
          · exact Dev.levels_trans h1 (Dev.levels_trans (setLine_levels ..) (report_levels ..))
          · exact h1

/-! ### The comparison of both copies (R284) -/

/-- A strand whose copies differ. -/
def Strand.differs (g : Strand) : Strand := { g with twinDiffCnt := g.twinDiffCnt + 1 }

/-- TWIN_DIFF_CNT once the copies that exist are compared. -/
def Strand.compared (g : Strand) : Strand :=
  match g.cycle.bind (·.sent), g.cycle.bind (·.heard) with
  | some m, some h => if copiesAgree m.2 h then g else g.differs
  | _, _ => g

theorem twinCompare_spec (d : Dev) : d.copies k (twinCompare k d) ∧ (twinCompare k d).strand k = (d.strand k).compared ∧
    (twinCompare k d).out = d.out := by
  have hsame : d.copies k d ∧ d.strand k = d.strand k ∧ d.out = d.out := ⟨Dev.copies_refl d, rfl, rfl⟩
  unfold twinCompare Strand.compared
  rcases hcy : (d.strand k).cycle with _ | cy
  · exact hsame
  · rcases hs : cy.sent with _ | m
    · simpa [hs] using hsame
    · rcases hh : cy.heard with _ | h
      · simpa [hs, hh] using hsame
      · simp only [Option.bind_some, hs, hh]
        split
        · exact hsame
        · refine ⟨Dev.copies_trans (setStrand_copies _ d) (Dev.copies_trans (withPly_copies _ _ ?_) (reportLimited_copies ..)), ?_, ?_⟩
          · rfl
          · rw [reportLimited_strand]
            exact (show _ = (d.modStrand k Strand.differs).strand k from rfl).trans ((Dev.strand_modStrand ..).trans (if_pos rfl))
          · simp

theorem Strand.compared_fields (g : Strand) : g.compared.cycle = g.cycle ∧ g.compared.mseq = g.mseq ∧
    g.compared.dlSentCnt = g.dlSentCnt ∧ g.compared.twinOkCnt = g.twinOkCnt ∧ g.compared.noTwinRun = g.noTwinRun := by
  unfold Strand.compared
  split
  · split
    · exact ⟨rfl, rfl, rfl, rfl, rfl⟩
    · exact ⟨rfl, rfl, rfl, rfl, rfl⟩
  · exact ⟨rfl, rfl, rfl, rfl, rfl⟩

end Sys2Proof.Machine
end

section
/-!
The events of downlink copies: STRAND_CYCLE_START, TRAILING_COPY_SEND and TWIN_COPY_RECEIVE (R264 to R270, R284).
-/
namespace Sys2Proof.Machine

/-! ### A copy goes out (R266, R269, R270) -/

/-- A strand whose module has sent a copy in a cycle. -/
def Strand.sending (g : Strand) (cy : Cycle) (origin : Bool) (mseq : BitVec 8) (body : List Byte) : Strand :=
  { g with
    mseq := mseq, dlSentCnt := g.dlSentCnt + 1
    cycle := some { cy with
      sent := some (mseq, body)
      txEnd := bitCycles (bitRate cy.scfg) *
        ((if origin then dMax cy.nodes + guardBits (bitRate cy.scfg) else 0) + (strandFrame body).length) } }

/-- MSEQ of a copy: the next one, or for the trailing copy that of the leading copy heard (R270). -/
def Strand.copyMseq (g : Strand) (cy : Cycle) (origin : Bool) : BitVec 8 :=
  match origin, cy.heard.bind copyParse with
  | true, some h => if fld h.1 24 16 = fld cy.frame 0 16 then fld h.1 16 8 else g.mseq + 1
  | _, _ => g.mseq + 1

section
variable {k : Nat} {d : Dev} {cy : Cycle}

theorem sendCopy_stands (origin : Bool) (level : Nat) (h : d.transmits k = false) : sendCopy k origin level d = d := by
  unfold sendCopy
  extract_lets g
  rcases g.cycle with _ | cy
  · rfl
  · exact if_pos (by simp [h])

theorem sendCopy_goes {origin : Bool} (level : Nat) (hc : (d.strand k).cycle = some cy) (hs : cy.sent = none)
    (ht : d.transmits k = true) :
    let a := sendCopy k origin level d
    d.copies k a ∧ ∃ body, a.out = d.out ++ [.strand k (strandFrame body)] ∧
      a.strand k = ((d.strand k).sending cy origin ((d.strand k).copyMseq cy origin) body).compared := by
  intro a
  let body := copyBody d k cy origin ((d.strand k).copyMseq cy origin)
  let g := (d.strand k).sending cy origin ((d.strand k).copyMseq cy origin) body
  let d1 := (d.setStrand k g).emit (.strand k (strandFrame body))
  have ha : a = twinCompare k (lineLevel k level d1) := by
    unfold a sendCopy
    extract_lets x
    rw [show x.cycle = some cy from hc]
    exact if_neg (by simp [hs, ht])
  have hg : d1.strand k = g := (Dev.strand_setStrand ..).trans (if_pos rfl)
  have h1 : d.copies k d1 := Dev.copies_trans (setStrand_copies g d) (emit_copies ..)
  have ho : d1.out = d.out ++ [.strand k (strandFrame body)] := rfl
  obtain ⟨hl, hls, hlo, -⟩ := lineLevel_levels (k := k) level d1
  have hlg : (lineLevel k level d1).strand k = g := by rw [← hg, Dev.strand, hls]; rfl
  obtain ⟨ht1, ht2, ht3⟩ := twinCompare_spec (k := k) (lineLevel k level d1)
  rw [ha, ht3, hlo, ho, ht2, hlg]
  exact ⟨Dev.copies_trans h1 (Dev.copies_trans hl ht1), body, rfl, rfl⟩

end

section
variable {s : State} {k : Nat} {a : Dev}

/-- The other strands stand, with all but the ply unit, and this module keeps its role. -/
def onlyCopies (s : State) (k : Nat) (t : State) : Prop :=
  (∀ j, j ≠ k → t.dev.strand j = s.dev.strand j ∧ t.dev.line j = s.dev.line j) ∧
    s.frame t { s.dev with strands := t.dev.strands, lines := t.dev.lines, ply := t.dev.ply, fresh := t.dev.fresh } ∧
    t.dev.ply.role = s.dev.ply.role

theorem onlyCopies_after (h : s.dev.fresh0.copies k a) : onlyCopies s k (s.after a) := by
  obtain ⟨hr, he, hp, ho⟩ := h
  refine ⟨fun j hj => ?_, ?_, ?_⟩
  · simp only [State.after_objects]
    exact ho j hj
  · simp only [State.after_dev]
    exact State.frame_of_eq (Dev.reportsTo_congr hr rfl rfl rfl) (by rw [he]; rfl) (by rw [he]; rfl)
  · simp only [State.after_dev]
    exact hp

/-- What a sent copy leaves of its strand. -/
def Strand.hasSent (g x : Strand) (origin : Bool) (cy : Cycle) (body : List Byte) : Prop :=
  x.dlSentCnt = g.dlSentCnt + 1 ∧ x.cycle = some { cy with
    sent := some (x.mseq, body)
    txEnd := bitCycles (bitRate cy.scfg) *
      ((if origin then dMax cy.nodes + guardBits (bitRate cy.scfg) else 0) + (48 + 8 * body.length)) }

theorem sending_hasSent (g : Strand) (cy : Cycle) (origin : Bool) (mseq : BitVec 8) (body : List Byte) :
    g.hasSent (g.sending cy origin mseq body).compared origin cy body := by
  obtain ⟨hcy, hm, hd, -, -⟩ := Strand.compared_fields (g.sending cy origin mseq body)
  refine ⟨hd, hcy.trans ?_⟩
  rw [hm, ← strandFrame_length body]
  rfl

/-! ### STRAND_CYCLE_START (R264, R265, R269) -/

/-- A strand in a cycle. -/
def Strand.inCycle (g : Strand) (cy : Cycle) : Strand := { g with cycle := some cy }

theorem hasSent_inCycle {g x : Strand} {c cy : Cycle} {origin : Bool} {body : List Byte}
    (h : (g.inCycle c).hasSent x origin cy body) : g.hasSent x origin cy body := h

/-- The cycle that begins on a strand. -/
def Dev.cycleBegun (d : Dev) (k : Nat) : Cycle :=
  ⟨d.tb.frame, d.tb.cal0, (d.strand k).cfg, ((d.schedule k).getD []).getD
    (d.tb.frame.toNat / cycFr (bitRate (d.strand k).cfg) % max (roundCyc (d.strand k).cfg) 1) [],
    cycFr (bitRate (d.strand k).cfg), none, none, [], [], d.tb.ran, 0, d.ply.role == .trailing⟩

theorem strandCycleStart_due {d : Dev} (level : Nat) (h1 : (d.strand k).cycle = none) (h2 : d.tb.sample = 0)
    (h3 : d.tb.frame.toNat % cycFr (bitRate (d.strand k).cfg) = 0) : strandCycleStart k level d =
      if d.ply.role = .solo ∨ d.ply.role = .leading then
        sendCopy k false level (d.setStrand k ((d.strand k).inCycle (d.cycleBegun k)))
      else d.setStrand k ((d.strand k).inCycle (d.cycleBegun k)) := by
  refine if_neg ?_
  rintro (h | h | h)
  · rw [h1] at h
    exact Bool.false_ne_true h
  · exact h h2
  · exact h h3

theorem strandCycleStart_waits {d : Dev} (level : Nat) (h : (d.strand k).cycle.isSome = true ∨ d.tb.sample ≠ 0 ∨
    d.tb.frame.toNat % cycFr (bitRate (d.strand k).cfg) ≠ 0) : strandCycleStart k level d = d := if_pos h

/-- The leading copy goes out with the cycle. -/
theorem strandCycleStart_sends {d : Dev} (level : Nat) (h1 : (d.strand k).cycle = none) (h2 : d.tb.sample = 0)
    (h3 : d.tb.frame.toNat % cycFr (bitRate (d.strand k).cfg) = 0) (hr : d.ply.role = .solo ∨ d.ply.role = .leading)
    (ht : d.transmits k = true) :
    let a := strandCycleStart k level d
    d.copies k a ∧ ∃ body, a.out = d.out ++ [.strand k (strandFrame body)] ∧
      (d.strand k).hasSent (a.strand k) false (d.cycleBegun k) body ∧ (a.strand k).mseq = (d.strand k).mseq + 1 := by
  intro a
  let b := d.setStrand k ((d.strand k).inCycle (d.cycleBegun k))
  have ha : a = sendCopy k false level b := (strandCycleStart_due level h1 h2 h3).trans (if_pos hr)
  have hb : b.strand k = (d.strand k).inCycle (d.cycleBegun k) := (Dev.strand_setStrand ..).trans (if_pos rfl)
  obtain ⟨hc, body, ho, hg⟩ := sendCopy_goes (d := b) (origin := false) level (congrArg Strand.cycle hb) rfl ht
  have hm : ((d.strand k).inCycle (d.cycleBegun k)).copyMseq (d.cycleBegun k) false = (d.strand k).mseq + 1 := rfl
  rw [hb, hm] at hg
  rw [ha, hg]
  refine ⟨Dev.copies_trans (setStrand_copies _ d) hc, body, ho, ?_, ?_⟩
  · exact hasSent_inCycle (sending_hasSent ..)
  · exact (Strand.compared_fields _).2.1

/-- Without one the cycle alone begins. -/
theorem strandCycleStart_quiet {d : Dev} (level : Nat) (h1 : (d.strand k).cycle = none) (h2 : d.tb.sample = 0)
    (h3 : d.tb.frame.toNat % cycFr (bitRate (d.strand k).cfg) = 0)
    (h : d.ply.role ≠ .solo ∧ d.ply.role ≠ .leading ∨ d.transmits k = false) :
    strandCycleStart k level d = d.setStrand k ((d.strand k).inCycle (d.cycleBegun k)) := by
  rw [strandCycleStart_due level h1 h2 h3]
  split
  · next hr =>
    refine sendCopy_stands false level ?_
    rcases h with ⟨hs, hl⟩ | h
    · exact absurd hr (not_or.2 ⟨hs, hl⟩)
    · exact h
  · rfl

/-! ### TRAILING_COPY_SEND (R269, R270, R524, R534) -/

theorem trailingCopySend_due {d : Dev} {cy : Cycle} (level : Nat) (hc : (d.strand k).cycle = some cy) (ht : cy.trails = true)
    (hr : d.ply.role = .trailing ∨ d.ply.role = .leading)
    (hf : d.ply.firstCopy = none ∨ ∃ f, d.ply.firstCopy = some f ∧ f ≤ cy.frame) :
    trailingCopySend k level d = sendCopy k true level d := by
  unfold trailingCopySend
  rw [hc]
  refine if_pos ⟨hr, ?_⟩
  rcases hf with hf | ⟨f, hf, hle⟩
  · rw [hf]
    exact ht
  · rw [hf]
    exact Bool.and_eq_true_iff.2 ⟨ht, decide_eq_true hle⟩

theorem trailingCopySend_waits {d : Dev} (level : Nat) (h : (d.ply.role ≠ .trailing ∧ d.ply.role ≠ .leading) ∨
    ∀ cy, (d.strand k).cycle = some cy → cy.trails = false) : trailingCopySend k level d = d := by
  refine if_neg ?_
  rintro ⟨hr, ho⟩
  rcases h with ⟨ht, hl⟩ | h
  · exact (not_or.2 ⟨ht, hl⟩) hr
  · rcases hc : (d.strand k).cycle with _ | cy
    · rw [hc] at ho
      exact Bool.false_ne_true ho
    · rw [hc] at ho
      rcases hf : d.ply.firstCopy with _ | f
      · rw [hf] at ho
        exact Bool.false_ne_true ((h cy hc).symm.trans ho)
      · rw [hf] at ho
        exact Bool.false_ne_true ((h cy hc).symm.trans (Bool.and_eq_true_iff.1 ho).1)

/-! ### TWIN_COPY_RECEIVE (R259, R284, R523, R531) -/

/-- A strand that has heard the copy of the twin. -/
def Strand.hears (g : Strand) (cy : Cycle) (body : List Byte) (joins : Bool) : Strand :=
  { g with
    twinOkCnt := if joins then g.twinOkCnt else g.twinOkCnt + 1
    noTwinRun := 0, cycle := some { cy with heard := some body } }

/-- The ply unit with the evidence of a copy heard. -/
def Dev.evidence (d : Dev) (k : Nat) : Ply := { d.ply with heardNow := d.ply.heardNow || (d.line k).st == LineSt.on }

theorem twinCopyReceive_deaf {d : Dev} (mv : Nat) (rx : LineRx) (h : (lineHears mv rx d).1.bind frameBody = none) :
    twinCopyReceive k mv rx d = (lineHears mv rx d).2 := by
  unfold twinCopyReceive
  extract_lets g r d1
  rw [show r.1.bind frameBody = none from h]
  cases g.cycle <;> rfl

/-- The same, and nothing goes out. -/
def Dev.listens (k : Nat) (d d' : Dev) : Prop := d.copies k d' ∧ d'.out = d.out

theorem lineHears_listens (mv : Nat) (rx : LineRx) (d : Dev) : d.listens k (lineHears mv rx d).2 := by
  unfold lineHears
  split
  · exact ⟨Dev.copies_refl d, rfl⟩
  · split
    · exact ⟨Dev.copies_refl d, rfl⟩
    · exact ⟨withFresh_copies _ d, rfl⟩

/-- Whatever is heard, the strand and the ply unit alone move, and nothing goes out. -/
theorem twinCopyReceive_listens (mv : Nat) (rx : LineRx) (d : Dev) : d.listens k (twinCopyReceive k mv rx d) := by
  have h1 := lineHears_listens (k := k) mv rx d
  unfold twinCopyReceive
  extract_lets g r d1 leads joins p d2
  change d.listens k d1 at h1
  have h2 : d.listens k d2 := ⟨Dev.copies_trans h1.1 (withPly_copies _ _ rfl), h1.2⟩
  clear_value d2 d1
  split
  · split
    · exact h1
    · split
      · exact h1
      · split
        · exact h1
        · obtain ⟨hc, -, ho⟩ := twinCompare_spec (k := k) (d2.setStrand k _)
          exact ⟨Dev.copies_trans h2.1 (Dev.copies_trans (setStrand_copies _ _) hc), ho.trans h2.2⟩
  · exact h1

theorem twinCopyReceive_solo {d : Dev} {mv : Nat} (rx : LineRx) (hmv : 150 ≤ mv) (h : d.ply.role = .solo) :
    twinCopyReceive k mv rx d = d := by
  unfold twinCopyReceive
  rw [lineHears_loud rx d hmv]
  extract_lets g r d1 leads joins p d2
  have hq : (!leads && !joins && d1.ply.role != .trailing) = true := by
    unfold leads joins d1 r
    rw [h]
    rfl
  split
  · exact if_pos hq
  · rfl

/-- A LEADING module takes the first valid copy of the other slot of its cycle. -/
theorem twinCopyReceive_taken {d : Dev} {mv : Nat} {rx : LineRx} {body : List Byte} {cy : Cycle} {h : BitVec 64}
    {es : List (BitVec 16 × List Byte)} (hmv : 150 ≤ mv) (hc : (d.strand k).cycle = some cy) (hh : cy.heard = none)
    (hr : d.ply.role = .leading) (hb : frameBody (rxSymbols rx) = some body) (hp : copyParse body = some (h, es))
    (ho : bit h 8 = true) (hk : fld h 48 4 = BitVec.ofNat 4 k) : twinCopyReceive k mv rx d =
      twinCompare k ({ d with ply := d.evidence k }.setStrand k ((d.strand k).hears cy body false)) := by
  unfold twinCopyReceive
  rw [lineHears_loud rx d hmv]
  extract_lets g r d1 leads joins p d2
  have hl : leads = true := by
    unfold leads d1 r
    rw [hr]
    rfl
  have hj : joins = false := by
    unfold joins d1 r
    rw [hr]
    rfl
  rw [show g.cycle = some cy from hc, show r.1.bind frameBody = some body from hb]
  dsimp only
  rw [if_neg (by simp [hl]), hp]
  dsimp only
  rw [if_neg (by simp [hh, ho, hk, hl]), hj]
  rfl

theorem hears_compared (g : Strand) (cy : Cycle) (body : List Byte) :
    let x := (g.hears cy body false).compared
    x.cycle = some { cy with heard := some body } ∧ x.twinOkCnt = g.twinOkCnt + 1 ∧ x.noTwinRun = 0 ∧
      x.twinDiffCnt = (match cy.sent with
        | some m => if copiesAgree m.2 body then g.twinDiffCnt else g.twinDiffCnt + 1
        | none => g.twinDiffCnt) := by
  intro x
  obtain ⟨h1, -, -, h4, h5⟩ := Strand.compared_fields (g.hears cy body false)
  refine ⟨h1, h4, h5, ?_⟩
  unfold x Strand.compared Strand.hears
  dsimp only
  rcases hs : cy.sent with _ | m
  · simp
  · simp only [Option.bind_some]
    split <;> rfl

end

/-- Settles O37: a strand frame reads back as its body; a copy goes out of a cycle in its slot, and the copy of the twin is
compared once both exist. -/
theorem strandCopies : Obligations.StrandCopies := by
  refine ⟨fun before ss body => ⟨rxSymbols_lineSignal before ss, ?_, strandFrame_length body⟩, fun before halves =>
    lineSymbols_not before halves, fun s k hs hk => ?_⟩
  · rw [rxSymbols_lineSignal]
    exact frameBody_strandFrame body
  have hwf (level : Nat) : (Instr.strandCycleStart k level).wellFormed = true := decide_eq_true hk
  have hwt (level : Nat) : (Instr.trailingCopySend k level).wellFormed = true := decide_eq_true hk
  have hwr (mv : Nat) (rx : LineRx) : (Instr.twinCopyReceive k mv rx).wellFormed = true := decide_eq_true hk
  refine ⟨fun level h1 h2 h3 => ?_, fun level h => ?_, fun level cy hc hn ht hr hx hf => ?_, fun level h => ?_,
    fun mv rx body cy h es hmv hc hn hr hb hp ho hf => ?_, fun mv rx h => ?_, fun mv rx h1 h2 => ?_⟩
  · refine Runs.mainChecked (f := strandCycleStart k level) (i := .strandCycleStart k level) rfl (hwf level) hs ?_
    by_cases hq : s.dev.ply.role ≠ .solo ∧ s.dev.ply.role ≠ .leading ∨ s.dev.transmits k = false
    · have hrun := strandCycleStart_quiet (d := s.dev.fresh0) level h1 h2 h3 hq
      rw [hrun]
      refine ⟨onlyCopies_after (setStrand_copies ..), fun hr ht => ?_, fun _ => ⟨by simp only [State.after_dev]; rfl, ?_⟩⟩
      · rcases hq with ⟨hq1, hq2⟩ | hq
        · exact absurd hr (not_or.2 ⟨hq1, hq2⟩)
        · exact absurd (hq.symm.trans ht) Bool.false_ne_true
      · simp only [State.after_objects]
        exact (Dev.strand_setStrand ..).trans (if_pos rfl)
    · obtain ⟨hr, ht⟩ := not_or.1 hq
      have hr' : s.dev.ply.role = .solo ∨ s.dev.ply.role = .leading := by
        by_contra hc
        exact hr (not_or.1 hc)
      obtain ⟨hc, body, hout, ⟨hcnt, hcy⟩, hmseq⟩ :=
        strandCycleStart_sends (d := s.dev.fresh0) level h1 h2 h3 hr' (Bool.of_not_eq_false ht)
      refine ⟨onlyCopies_after hc, fun _ _ => ?_, fun h => absurd h hq⟩
      simp only [State.after_objects, State.after_dev]
      exact ⟨⟨body, hout, hcnt, hcy⟩, hmseq⟩
  · exact Runs.stays (f := strandCycleStart k level) (i := .strandCycleStart k level) rfl (hwf level) hs
      (strandCycleStart_waits (d := s.dev.fresh0) level h)
  · refine Runs.mainChecked (f := trailingCopySend k level) (i := .trailingCopySend k level) rfl (hwt level) hs ?_
    rw [trailingCopySend_due (d := s.dev.fresh0) level hc ht hr hf]
    obtain ⟨hcp, body, hout, hg⟩ := sendCopy_goes (d := s.dev.fresh0) (origin := true) level hc hn hx
    refine ⟨?_, onlyCopies_after hcp⟩
    simp only [State.after_objects, State.after_dev]
    rw [hg]
    exact ⟨body, hout, sending_hasSent ..⟩
  · exact Runs.stays (f := trailingCopySend k level) (i := .trailingCopySend k level) rfl (hwt level) hs
      (trailingCopySend_waits (d := s.dev.fresh0) level h)
  · refine Runs.mainChecked (f := twinCopyReceive k mv rx) (i := .twinCopyReceive k mv rx) rfl (hwr mv rx) hs ?_
    obtain ⟨hcp, hout⟩ := twinCopyReceive_listens (k := k) mv rx s.dev.fresh0
    have hg : (twinCopyReceive k mv rx s.dev.fresh0).strand k = ((s.dev.strand k).hears cy body false).compared := by
      rw [twinCopyReceive_taken (d := s.dev.fresh0) hmv hc hn hr hb hp ho hf, (twinCompare_spec _).2.1]
      exact congrArg Strand.compared ((Dev.strand_setStrand ..).trans (if_pos rfl))
    obtain ⟨e1, e2, e3, e4⟩ := hears_compared (s.dev.strand k) cy body
    have hst : (s.after (twinCopyReceive k mv rx s.dev.fresh0)).dev.strand k =
        (twinCopyReceive k mv rx s.dev.fresh0).strand k := by simp only [State.after_objects]
    rw [← hg, ← hst] at e1 e2 e3 e4
    exact ⟨e1, e2, e3, e4, by simp only [State.after_dev]; exact hout, onlyCopies_after hcp⟩
  · refine Runs.stays (f := twinCopyReceive k mv rx) (i := .twinCopyReceive k mv rx) rfl (hwr mv rx) hs ?_
    rcases h with h | ⟨hmv, h | h⟩
    · have hq := lineHears_quiet rx s.dev.fresh0 h
      rw [twinCopyReceive_deaf mv rx (by rw [hq]; rfl), hq]
    · exact twinCopyReceive_solo (d := s.dev.fresh0) rx hmv h
    · have hq := lineHears_loud rx s.dev.fresh0 hmv
      rw [twinCopyReceive_deaf mv rx (by rw [hq]; exact h), hq]
  · refine Runs.mainChecked (f := twinCopyReceive k mv rx) (i := .twinCopyReceive k mv rx) rfl (hwr mv rx) hs ?_
    obtain ⟨hcp, hout⟩ := twinCopyReceive_listens (k := k) mv rx s.dev.fresh0
    refine ⟨?_, onlyCopies_after hcp⟩
    simp only [State.after_dev]
    exact hout

end Sys2Proof.Machine
end

section
/-!
What a received packet of a SEND leaves of the module beside its channel, and how a command is refused (R111, R112, R120).
-/
namespace Sys2Proof.Machine

/-! ### The module beside the channel -/

/-- From `b` to `d` a packet of channel `ch` has been answered with `m`. -/
def Dev.receives (ch : Nat) (m : OutMsg) (b d : Dev) : Prop := b.serves ch d ∧ d.out = [m] ∧ d.eg = b.eg

/-- The module with another count of rejected CONS_SEQs, session state and command processor. -/
def Dev.rebased (d : Dev) (n : Reg) (sec : Sec) (cp : CmdState) : Dev :=
  { d with tr := { d.tr with consRejCnt := n }, sec := sec, cp := cp }

theorem frameCh_of_receives {s : State} {ch : Nat} {m : OutMsg} {n : Reg} {sec : Sec} {cp : CmdState} {a : Dev}
    (h : (s.dev.fresh0.rebased n sec cp).receives ch m a) : s.frameCh (s.after a) ch (s.dev.rebased n sec a.cp) := by
  obtain ⟨hs, -, he⟩ := h
  let s' : State := { s with dev := s.dev.rebased n sec cp }
  have hf := State.frameCh_of_serves_eg (s := s') hs he
  rw [State.after_cp] at hf
  exact State.frameCh_rebase (s' := s') rfl (fun j _ => rfl) rfl rfl hf

section
variable {ch : Nat} {m : OutMsg} {b d d' : Dev}

theorem Dev.receives_of (h : b.receives ch m d) (hs : d.serves ch d') (ho : d'.out = d.out) (he : d'.eg = d.eg) :
    b.receives ch m d' := ⟨Dev.serves_trans h.1 hs, ho.trans h.2.1, he.trans h.2.2⟩

theorem Dev.receives_endsOn (h : b.receives ch m d) (hon : d.endsOn ch d') : b.receives ch m d' :=
  Dev.receives_of h (Dev.serves_of_endsOn hon) (by rw [hon.1]) (by rw [hon.1])

theorem Dev.receives_modChan (h : b.receives ch m d) (f : Channel → Channel) : b.receives ch m (d.modChan ch f) :=
  Dev.receives_of h (modChan_serves ch f d) rfl rfl

theorem Dev.receives_withCp (h : b.receives ch m d) (x : CmdState) : b.receives ch m (d.withCp x) :=
  Dev.receives_of h (cp_serves ch x d) rfl rfl

theorem Dev.receives_tb (h : b.receives ch m d) : d.tb = b.tb := by
  rw [h.1.1]

theorem reportLimited_endsOn (ch scope qty : Nat) (e : Event) (d : Dev) : d.endsOn ch (reportLimited scope qty e d) :=
  Dev.endsOn_of_reports (reportLimited_reportsOnly ..) (reportLimited_reportsTo ..)

theorem reportLimited_butDrops (scope qty : Nat) (e : Event) (d : Dev) (j : Nat) :
    (d.chan j).butDrops ((reportLimited scope qty e d).chan j) := (reportLimited_reportsTo scope qty e d).1 j

end

/-! ### Channels but for refusals -/

theorem Channel.butRefusals_of_butCompletions {a b : Channel} (h : a.butCompletions b) : a.butRefusals b := by
  unfold Channel.butRefusals Channel.butCompletions Channel.butDrops at *
  rw [h]

theorem Channel.butRefusals_trans {a b c : Channel} (h1 : a.butRefusals b) (h2 : b.butRefusals c) : a.butRefusals c := by
  unfold Channel.butRefusals Channel.butCompletions Channel.butDrops at *
  rw [h2, h1]

theorem Channel.butRefusals_of_butDrops {a b : Channel} (h : a.butDrops b) : a.butRefusals b :=
  Channel.butRefusals_of_butCompletions (Channel.butCompletions_of_butDrops h)

theorem Channel.pushed_butCompletions (c : Channel) (x : Completion) : c.butCompletions (c.pushed x) := by
  unfold Channel.pushed
  split <;> rfl

theorem Channel.butDrops_holds {a b : Channel} (h : a.butDrops b) {y : Completion} (hy : a.holds y) : b.holds y := by
  obtain ⟨h1, h2, -⟩ := Channel.butDrops_keeps h
  unfold Channel.holds
  rw [h1, h2]
  exact hy

/-! ### A refused command (R111, R112, R120) -/

/-- A channel tells its host of a command that was refused with a status. -/
def Channel.tells (c : Channel) (st : Nat) (seq : W64) (hdr : BitVec 256) : Prop :=
  c.fenceFault = true ∧ ∃ y, c.holds y ∧ y.status = BitVec.ofNat 8 st ∧ y.seq = seq ∧ y.holdsSlot = false ∧ y.tag = fld hdr 16 8

theorem Channel.tells_butDrops {a b : Channel} {st : Nat} {seq : W64} {hdr : BitVec 256} (h : a.tells st seq hdr) (hb : a.butDrops b) :
    b.tells st seq hdr := by
  obtain ⟨hf, y, hy, hrest⟩ := h
  obtain ⟨-, -, h3, -⟩ := Channel.butDrops_keeps hb
  exact ⟨h3.trans hf, y, Channel.butDrops_holds hb hy, hrest⟩

/-- What the refusal of a command leaves: nothing of the command processor, and its COMPLETION record in the queue. -/
structure TurnedAway (ch st : Nat) (seq : W64) (hdr : BitVec 256) (d a : Dev) : Prop where
  ends : (d.modChan ch (fun c => { c with faultAfter := (d.barrierSeq ch).or c.faultAfter })).endsOn ch a
  cp : a.cp = d.cp
  tells : (a.chan ch).tells st seq hdr
  fault : (a.chan ch).faultAfter = (d.barrierSeq ch).or (d.chan ch).faultAfter
  but : (d.chan ch).butRefusals (a.chan ch)
  holds : ∀ y, (d.chan ch).holds y → (a.chan ch).holds y

theorem lifecycleRefused_butDrops (op st : Nat) (d : Dev) (ch : Nat) : (d.chan ch).butDrops ((lifecycleRefused op st d).chan ch) := by
  unfold lifecycleRefused
  split
  · exact report_butDrops ..
  · exact Channel.butDrops_refl _

theorem refuseCommand_turnedAway (ch : Nat) (hdr : BitVec 256) (seq : W64) {st : Nat} (hst : st ≠ 0) (d : Dev) :
    TurnedAway ch st seq hdr d (refuseCommand ch hdr seq st d) := by
  let d1 := d.modChan ch (fun c => { c with faultAfter := (d.barrierSeq ch).or c.faultAfter })
  let d2 := noteStatus ch none st d1
  let d3 := lifecycleRefused (fld hdr 24 8).toNat st d2
  let x := completionOf d hdr seq st 0 [] false
  have he : ∃ x : Completion, refuseCommand ch hdr seq st d = pushCompletion ch x d3 ∧ x.status = BitVec.ofNat 8 st ∧ x.seq = seq ∧
      x.holdsSlot = false ∧ x.tag = fld hdr 16 8 := ⟨_, rfl, rfl, rfl, rfl, rfl⟩
  obtain ⟨x, he, hx⟩ := he
  have hc1 : d1.chan ch = { d.chan ch with faultAfter := (d.barrierSeq ch).or (d.chan ch).faultAfter } :=
    (Dev.chan_modChan ..).trans (if_pos rfl)
  have hc2 : d2.chan ch = { d.chan ch with faultAfter := (d.barrierSeq ch).or (d.chan ch).faultAfter, fenceFault := true } := by
    refine (noteStatus_chan ..).trans ?_
    rw [hc1]
    exact if_pos hst
  have hb3 : (d2.chan ch).butDrops (d3.chan ch) := lifecycleRefused_butDrops ..
  obtain ⟨k1, k2, k3, k4⟩ := Channel.butDrops_keeps hb3
  have hc : (refuseCommand ch hdr seq st d).chan ch = (d3.chan ch).pushed x := by
    rw [he]
    exact pushCompletion_chan ..
  have hfa : ((d3.chan ch).pushed x).faultAfter = (d3.chan ch).faultAfter := by
    unfold Channel.pushed
    split <;> rfl
  refine ⟨?_, ?_, ⟨?_, x, ?_, hx⟩, ?_, ?_, fun y hy => ?_⟩
  · rw [he]
    exact Dev.endsOn_trans (Dev.endsOn_of_completesOn (noteStatus_completesOn ..))
      (Dev.endsOn_trans (lifecycleRefused_endsOn ..) (Dev.endsOn_of_completesOn (pushCompletion_completesOn ..)))
  · rw [he]
    have h3 : d3.cp = d2.cp := lifecycleRefused_cp ..
    have h2 : d2.cp = d1.cp := noteStatus_cp ..
    have hp : (pushCompletion ch x d3).cp = d3.cp := (Dev.modChan_keeps ..).2.2.1
    rw [hp, h3, h2]
    exact (Dev.modChan_keeps ..).2.2.1
  · rw [hc, Channel.pushed_fenceFault, k3, hc2]
  · rw [hc]
    exact (Channel.pushed_holds ..).2 (.inr rfl)
  · rw [hc, hfa, k4, hc2]
  · rw [hc]
    have h2 : (d.chan ch).butRefusals (d2.chan ch) := by
      rw [hc2]
      rfl
    exact Channel.butRefusals_trans h2 (Channel.butRefusals_trans (Channel.butRefusals_of_butDrops hb3)
      (Channel.butRefusals_of_butCompletions (Channel.pushed_butCompletions ..)))
  · rw [hc, Channel.pushed_holds]
    refine .inl (Channel.butDrops_holds hb3 ?_)
    rw [hc2]
    exact hy

/-- A report after it changes nothing of that. -/
theorem TurnedAway.told {ch st : Nat} {seq : W64} {hdr : BitVec 256} {d a : Dev} (h : TurnedAway ch st seq hdr d a) (scope qty : Nat)
    (e : Event) : TurnedAway ch st seq hdr d (reportLimited scope qty e a) := by
  have hb := reportLimited_butDrops scope qty e a ch
  obtain ⟨-, -, -, k4⟩ := Channel.butDrops_keeps hb
  refine ⟨Dev.endsOn_trans h.ends (reportLimited_endsOn ..), ?_, Channel.tells_butDrops h.tells hb, k4.trans h.fault,
    Channel.butRefusals_trans h.but (Channel.butRefusals_of_butDrops hb), fun y hy => Channel.butDrops_holds hb (h.holds y hy)⟩
  rw [← h.cp]
  simp

theorem TurnedAway.receives {ch st : Nat} {seq : W64} {hdr : BitVec 256} {b d a : Dev} {m : OutMsg} (h : TurnedAway ch st seq hdr d a)
    (hd : b.receives ch m d) : b.receives ch m a := Dev.receives_endsOn (Dev.receives_modChan hd _) h.ends

end Sys2Proof.Machine
end

section
/-!
Commands take their slots, and open groups end (R107, R123, R125, R126).
-/
namespace Sys2Proof.Machine

/-! ### A command takes a slot (R107) -/

theorem slot_takeSlot (c : Cmd) (d : Dev) (ch tag : Nat) : (takeSlot c d).slot ch tag =
    (d.slot ch tag).or (if c.ch = ch ∧ c.tag = tag then some c else none) := by
  unfold Dev.slot takeSlot
  rw [List.find?_append]
  congr 1
  rw [List.find?_singleton]
  exact if_congr decide_eq_true_iff rfl rfl

theorem slot_takeSlot_self {c : Cmd} {d : Dev} (h : d.slot c.ch c.tag = none) : (takeSlot c d).slot c.ch c.tag = some c := by
  rw [slot_takeSlot, h, if_pos ⟨rfl, rfl⟩]
  rfl

theorem inFlight_takeSlot {c : Cmd} {ch : Nat} (h : c.ch = ch) (d : Dev) : (takeSlot c d).inFlight ch = d.inFlight ch ++ [c] := by
  unfold Dev.inFlight takeSlot
  rw [List.filter_append]
  congr 1
  exact List.filter_cons_of_pos (decide_eq_true h)

theorem behindBarrier_takeSlot (c : Cmd) (d : Dev) : (takeSlot c d).behindBarrier c = d.behindBarrier c := by
  unfold Dev.behindBarrier
  rw [inFlight_takeSlot rfl, List.any_append]
  have hself : ¬ c.seq < c.seq := BitVec.lt_irrefl _
  simp [hself]

theorem takeSlot_completesOn (ch : Nat) (c : Cmd) (d : Dev) : d.completesOn ch (takeSlot c d) := cp_completesOn ch d _

theorem pollReady_completesOn (ch ch' : Nat) (d : Dev) : d.completesOn ch (pollReady ch' d) := cp_completesOn ch d _

theorem takeSlot_chan (c : Cmd) (d : Dev) (ch : Nat) : (takeSlot c d).chan ch = d.chan ch := rfl

theorem pollReady_chan (ch ch' : Nat) (d : Dev) : (pollReady ch' d).chan ch = d.chan ch := rfl

/-- The slots of other channels do not see it. -/
theorem slot_takeSlot_other {c : Cmd} {ch tag : Nat} (h : ch ≠ c.ch) (d : Dev) : (takeSlot c d).slot ch tag = d.slot ch tag := by
  rw [slot_takeSlot, if_neg (fun hc => h hc.1.symm)]
  exact Option.or_none

theorem slot_pollReady_other {ch ch' tag : Nat} (h : ch ≠ ch') (d : Dev) : (pollReady ch' d).slot ch tag = d.slot ch tag := by
  rw [slot_pollReady]
  cases hs : d.slot ch tag with
  | none => rfl
  | some x =>
    obtain ⟨hx, -⟩ := slotIn_names hs
    have hp : d.polled ch' x = x := if_neg (fun hc => h (hx.symm.trans hc.1))
    exact congrArg some hp

/-! ### A free slot stays free while other commands end -/

theorem finishOne_slot_none {ch tag : Nat} {d : Dev} (h : d.slot ch tag = none) (tag' st fi : Nat) (reply : List Byte) :
    (finishOne ch tag' st fi reply d).slot ch tag = none := by
  by_cases ht : tag = tag'
  · have he : finishOne ch tag' st fi reply d = d := by
      unfold finishOne
      rw [← ht, h]
    rw [he, h]
  · obtain ⟨e, he | he⟩ := finishOne_slot_other (ch := ch) (tag := tag') (ch' := ch) (tag' := tag) (d := d)
      (fun hc => ht hc.2) st fi reply
    · rw [he, h]
      rfl
    · rw [he, h]

theorem releaseEnded_slot_none {ch tag : Nat} (n : Nat) {d : Dev} (h : d.slot ch tag = none) :
    (releaseEnded ch n d).slot ch tag = none := by
  induction n generalizing d with
  | zero => exact h
  | succ n ih =>
    rcases hx : (d.inFlight ch).findSome? d.endsNow with _ | ⟨c, st⟩
    · rwa [releaseEnded_none hx]
    · rw [releaseEnded_some hx]
      exact ih (finishOne_slot_none h ..)

theorem endCommand_slot_none {ch tag : Nat} {d : Dev} (h : d.slot ch tag = none) (tag' st : Nat) :
    (endCommand ch tag' st d).slot ch tag = none := by
  rcases hs : d.slot ch tag' with _ | c
  · rwa [endCommand_none hs]
  · rw [endCommand_some hs]
    split
    · rw [Dev.slot_setSlot]
      split <;> simp [h]
    · exact releaseEnded_slot_none 32 (finishOne_slot_none h ..)

theorem finishAll_slot_none {ch tag : Nat} {ms : List Cmd} (hms : ∀ m ∈ ms, m.ch = ch) (st : Nat) {d : Dev}
    (h : d.slot ch tag = none) : (finishAll ms st d).slot ch tag = none := by
  induction ms generalizing d with
  | nil => exact h
  | cons a ms ih =>
    rw [finishAll_cons (hms a List.mem_cons_self)]
    exact ih (fun m hm => hms m (List.mem_cons_of_mem _ hm)) (endCommand_slot_none h ..)

theorem report_slot (e : Event) (d : Dev) (ch tag : Nat) : (report e d).slot ch tag = d.slot ch tag := by
  unfold Dev.slot
  rw [(report_same e d).1]

theorem modChan_slot (ch' : Nat) (f : Channel → Channel) (d : Dev) (ch tag : Nat) : (d.modChan ch' f).slot ch tag = d.slot ch tag := rfl

theorem breakGroup_slot_none {ch tag : Nat} {d : Dev} (h : d.slot ch tag = none) : (breakGroup ch d).slot ch tag = none := by
  rcases hg : (d.chan ch).group with _ | g
  · rwa [breakGroup_none hg]
  · rw [breakGroup_some hg, report_slot]
    exact finishAll_slot_none (fun y hy => (Dev.mem_members hy).1) _ h

/-! ### A tag whose commands have ended keeps that (R120) -/

theorem takeSlot_tagged {c : Cmd} {tag : Nat} {P : Cmd → Prop} {d : Dev} (h : d.tagged c.ch tag P) (hne : tag ≠ c.tag) :
    (takeSlot c d).tagged c.ch tag P := by
  refine ⟨?_, fun y hy ht => ?_⟩
  · rw [slot_takeSlot, if_neg (fun hc => hne hc.2.symm), Option.or_none]
    exact h.1
  · rw [inFlight_takeSlot rfl, List.mem_append, List.mem_singleton] at hy
    rcases hy with hy | rfl
    · exact h.2 y hy ht
    · exact absurd ht.symm hne

theorem pollReady_tagged {ch ch' tag : Nat} {P : Cmd → Prop} {d : Dev} (hP : Cmd.holdsReady P) (h : d.tagged ch tag P) :
    (pollReady ch' d).tagged ch tag P := by
  refine ⟨?_, fun y hy ht => ?_⟩
  · rw [slot_pollReady, Option.isSome_map]
    exact h.1
  · obtain ⟨hm, hch⟩ := Dev.mem_inFlight.mp hy
    rw [pollReady_slots] at hm
    obtain ⟨x, hx, rfl⟩ := List.mem_map.mp hm
    have hb := d.polled_butReady ch' x
    obtain ⟨h1, h2, -⟩ := Cmd.butReady_keeps hb
    exact hP x _ hb (h.2 x (Dev.mem_inFlight.mpr ⟨hx, h1.symm.trans hch⟩) (h2.symm.trans ht))

section
variable {ch tag st : Nat} {behind : Bool} {seq : W64} {d : Dev} (h : d.hasEnded ch tag st behind seq)
include h

/-- Through a step that keeps the tags' commands and the channel's completions. -/
theorem Dev.hasEnded_keep {d' : Dev} (ht : ∀ P, Cmd.lasts P → d.tagged ch tag P → d'.tagged ch tag P) (hst : st ≠ 0)
    (hh : ∀ y, (d.chan ch).holds y → (d'.chan ch).holds y) : d'.hasEnded ch tag st behind seq := by
  obtain ⟨h1, h2⟩ := h
  refine ⟨ht _ (Cmd.lasts_ended hst) h1, fun hb => ?_⟩
  obtain ⟨h3, y, hy, hq⟩ := h2 hb
  exact ⟨ht _ Cmd.lasts_finished h3, y, hh y hy, hq⟩

end

/-! ### The members of a group that have come -/

/-- Every member of the group `g` that waited in `d0` has ended with a status in `d`. -/
def Dev.membersEnded (d0 : Dev) (ch : Nat) (g : Group) (st : Nat) (d : Dev) : Prop :=
  ∀ m ∈ d0.inFlight ch, g.member m = true → d.hasEnded ch m.tag st (d0.behindBarrier m) m.seq

section
variable {d0 d d' : Dev} {ch st : Nat} {g : Group} (h : d0.membersEnded ch g st d)
include h

theorem Dev.membersEnded_slots (hs : d'.cp.slots = d.cp.slots) (hst : st ≠ 0)
    (hh : ∀ y, (d.chan ch).holds y → (d'.chan ch).holds y) : d0.membersEnded ch g st d' :=
  fun m hm hg => Dev.hasEnded_keep (h m hm hg) (fun _ _ ht => Dev.tagged_of_cp ht hs) hst hh

theorem Dev.membersEnded_takeSlot {c : Cmd} (hc : c.ch = ch) (hst : st ≠ 0) (hno : d0.slot ch c.tag = none) :
    d0.membersEnded ch g st (takeSlot c d) := by
  intro m hm hg
  have hne : m.tag ≠ c.tag := by
    intro ht
    obtain ⟨h1, h2⟩ := Dev.mem_inFlight.mp hm
    have := List.find?_eq_none.mp hno m h1
    exact this (decide_eq_true ⟨h2, ht⟩)
  subst hc
  exact Dev.hasEnded_keep (h m hm hg) (fun _ _ ht => takeSlot_tagged ht hne) hst (fun _ hy => hy)

theorem Dev.membersEnded_pollReady (hst : st ≠ 0) : d0.membersEnded ch g st (pollReady ch d) :=
  fun m hm hg => Dev.hasEnded_keep (h m hm hg) (fun _ hP ht => pollReady_tagged hP.1 ht) hst (fun _ hy => hy)

theorem Dev.membersEnded_endCommand {tag : Nat} (st' : Nat) (hst : st ≠ 0) (hno : d0.slot ch tag = none) :
    d0.membersEnded ch g st (endCommand ch tag st' d) := by
  intro m hm hg
  have hne : m.tag ≠ tag := by
    intro ht
    obtain ⟨h1, h2⟩ := Dev.mem_inFlight.mp hm
    have := List.find?_eq_none.mp hno m h1
    exact this (decide_eq_true ⟨h2, ht⟩)
  exact Dev.hasEnded_keep (h m hm hg) (fun _ hP ht => endCommand_tagged hP ht hne st') hst (fun _ hy => endCommand_holds ch tag st' d hy)

end

/-! ### The open group of a channel (R125, R126) -/

/-- A channel with another open group, and another broken one behind it. -/
def Channel.regrouped (c : Channel) (grp : Option Group) (b : Option (BitVec 8 × Nat)) : Channel := { c with group := grp, broken := b }

/-- What the end of the open group `g` with a status leaves, of its channel the value `x` but for completions. -/
structure GroupEnded (ch : Nat) (g : Group) (st : Nat) (x : Channel) (d a : Dev) : Prop where
  serves : d.serves ch a
  same : a.out = d.out ∧ a.eg = d.eg
  but : x.butCompletions (a.chan ch)
  free : ∀ tag, d.slot ch tag = none → a.slot ch tag = none
  members : ((d.inFlight ch).map (·.tag)).Nodup → d.membersEnded ch g st a

theorem GroupEnded.receives {ch st : Nat} {g : Group} {x : Channel} {b d a : Dev} {m : OutMsg} (h : GroupEnded ch g st x d a)
    (hd : b.receives ch m d) : b.receives ch m a := Dev.receives_of hd h.serves h.same.1 h.same.2

theorem breakGroup_ended {ch : Nat} {g : Group} {d : Dev} (h : (d.chan ch).group = some g) :
    GroupEnded ch g stState ((d.chan ch).regrouped none (some (g.id, g.size))) d (breakGroup ch d) := by
  obtain ⟨hon, hm⟩ := breakGroup_holds h
  obtain ⟨-, -, -, hb, -⟩ := id hon
  rw [Dev.chan_modChan, if_pos rfl] at hb
  exact ⟨Dev.serves_trans (modChan_serves ..) (Dev.serves_of_endsOn hon), ⟨by rw [hon.1]; rfl, by rw [hon.1]; rfl⟩, hb,
    fun tag ht => breakGroup_slot_none ht, hm⟩

theorem abortGroup_some {ch : Nat} {g : Group} {d : Dev} (h : (d.chan ch).group = some g) : abortGroup ch d =
    finishAll ((d.inFlight ch).filter g.member) stFenceAbort
      (d.modChan ch (fun c => { c with group := some { g with aborted := true } })) := by
  unfold abortGroup
  rw [h]
  rfl

theorem abortGroup_ended {ch : Nat} {g : Group} {d : Dev} (h : (d.chan ch).group = some g) :
    GroupEnded ch g stFenceAbort ((d.chan ch).regrouped (some { g with aborted := true }) (d.chan ch).broken) d (abortGroup ch d) := by
  have hms : ∀ y ∈ (d.inFlight ch).filter g.member, y.ch = ch := fun y hy => (Dev.mem_members hy).1
  have hon := finishAll_endsOn hms stFenceAbort (d.modChan ch (fun c => { c with group := some { g with aborted := true } }))
  obtain ⟨-, -, -, hb, -⟩ := id hon
  rw [Dev.chan_modChan, if_pos rfl] at hb
  rw [abortGroup_some h]
  exact ⟨Dev.serves_trans (modChan_serves ..) (Dev.serves_of_endsOn hon), ⟨by rw [hon.1]; rfl, by rw [hon.1]; rfl⟩, hb,
    fun tag ht => finishAll_slot_none hms _ ht, fun hnd => membersEnd (by decide) rfl hnd⟩

/-! ### A command that is no next member (R123, R126) -/

section
variable {c : Cmd} {d : Dev}

theorem acceptFresh_alone (ha : c.a = false) : acceptFresh c d = pollReady c.ch (takeSlot c d) := by
  unfold acceptFresh
  exact if_pos (by rw [ha]; rfl)

theorem Cmd.firstMember_iff : c.firstMember = true ↔ c.a = true ∧ c.groupPos = 0 ∧ 2 ≤ c.groupSize ∧ c.groupSize ≤ 16 := by
  unfold Cmd.firstMember
  rw [Bool.and_eq_true, decide_eq_true_iff]

theorem acceptFresh_first (hf : c.firstMember = true) : acceptFresh c d =
    (takeSlot c d).modChan c.ch (fun x => x.regrouped (some (c.opens false d)) none) := by
  obtain ⟨ha, hg⟩ := Cmd.firstMember_iff.1 hf
  unfold acceptFresh
  exact (if_neg (by rw [ha]; exact Bool.false_ne_true)).trans (if_pos hg)

/-- A member of no group ends with STATE. -/
theorem acceptFresh_stray (ha : c.a = true) (hf : c.firstMember = false) :
    let e := endCommand c.ch c.tag stState
      ((takeSlot c d).modChan c.ch (fun x => x.regrouped x.group (some (c.groupId, c.groupSize))))
    acceptFresh c d = e ∨ ∃ v, acceptFresh c d = report v e := by
  intro e
  have hg : ¬ (c.groupPos = 0 ∧ 2 ≤ c.groupSize ∧ c.groupSize ≤ 16) := fun hg =>
    Bool.false_ne_true (hf.symm.trans (Cmd.firstMember_iff.2 ⟨ha, hg⟩))
  have he : acceptFresh c d = if (c.groupPos != 0 && ((takeSlot c d).chan c.ch).broken == some (c.groupId, c.groupSize)) = true
      then e else report { ev 0x0304 true c.ch c.groupId.toNat with dests := destsCh c.ch } e := by
    unfold acceptFresh
    exact (if_neg (by rw [ha]; exact Bool.false_ne_true)).trans (if_neg hg)
  rw [he]
  split
  · exact .inl rfl
  · exact .inr ⟨_, rfl⟩

end

end Sys2Proof.Machine
end

section
/-!
A genuine command is judged: turned away, or accepted into a slot, with or without an open group (R107, R111, R123 to R126).
-/
namespace Sys2Proof.Machine

/-- The command of a whole message. -/
def Dev.command (ch : Nat) (hdr : BitVec 256) (msg : List Byte) (d : Dev) : Cmd :=
  ⟨ch, hdr, (msg.drop 32).take (msg.length - 48), .waiting, d.tb.frame, none, []⟩

/-- From `b` to `d` a message of channel `ch` has come, with the channel as `now`; it is not judged yet. -/
structure Arrived (ch : Nat) (m : OutMsg) (b : Dev) (now : Channel) (d : Dev) : Prop where
  receives : b.receives ch m d
  chan : now.butDrops (d.chan ch)
  cp : d.cp = b.cp

/-- The module counts a command without a free slot (R111). -/
def Dev.overBudget (st : Nat) (d : Dev) : Dev :=
  if st = stBudget then d.withCp { d.cp with budgetCnt := satAdd d.cp.budgetCnt 1 } else d

theorem Arrived.overBudget {ch : Nat} {m : OutMsg} {b d : Dev} {now : Channel} (h : Arrived ch m b now d) (st : Nat) :
    Arrived ch m (b.overBudget st) now (d.overBudget st) := by
  unfold Dev.overBudget
  split
  · obtain ⟨⟨⟨he, ht, hc, hr, hf⟩, ho, hg⟩, hch, hcp⟩ := h
    refine ⟨⟨⟨?_, ht, hc, hr, hf⟩, ho, hg⟩, hch, ?_⟩
    · rw [hcp]
      conv_lhs => rw [he]
      rfl
    · rw [hcp]
      rfl
  · exact h

/-! ### Turned away (R111) -/

theorem turnsAway_congr {d d' : Dev} (h : d'.cp = d.cp) (ch : Nat) (c : Cmd) (msg : List Byte) :
    turnsAway d' ch c msg = turnsAway d ch c msg := by
  unfold turnsAway Dev.slotFree Dev.slot Dev.inFlight
  rw [h]

theorem turnsAway_ne_zero {d : Dev} {ch st : Nat} {c : Cmd} {msg : List Byte} (h : turnsAway d ch c msg = some st) : st ≠ 0 := by
  unfold turnsAway at h
  split_ifs at h <;> cases h <;> decide

section
variable {ch : Nat} {hdr : BitVec 256} {msg : List Byte} {d : Dev}

/-- A command that is turned away is refused once it has arrived. -/
theorem acceptChecked_away {st : Nat} (h : turnsAway d ch (d.command ch hdr msg) msg = some st) :
    TurnedAway ch st (d.command ch hdr msg).seq hdr (arrivalRefused (d.command ch hdr msg) (d.overBudget st))
      (acceptChecked ch hdr msg d) := by
  have href {st : Nat} (hst : st ≠ 0) (e : Dev) := refuseCommand_turnedAway ch hdr (d.command ch hdr msg).seq hst e
  unfold turnsAway at h
  unfold acceptChecked
  split_ifs at h with h1 h2 h3 h4 h5
  · cases h
    exact (if_pos h1).symm ▸ href (by decide) _
  · cases h
    exact ((if_neg h1).trans (if_pos h2)).symm ▸ href (by decide) _
  · cases h
    exact ((if_neg h1).trans ((if_neg h2).trans (if_pos h3))).symm ▸ href (by decide) _
  · cases h
    exact ((if_neg h1).trans ((if_neg h2).trans ((if_neg h3).trans (if_pos h4)))).symm ▸ href (by decide) _
  · cases h
    exact ((if_neg h1).trans ((if_neg h2).trans ((if_neg h3).trans ((if_neg h4).trans (if_pos h5))))).symm ▸
      (href (by decide) _).told ..

theorem acceptChecked_taken (h : turnsAway d ch (d.command ch hdr msg) msg = none) :
    acceptChecked ch hdr msg d = acceptSlot (d.command ch hdr msg) d := by
  unfold turnsAway at h
  unfold acceptChecked
  split_ifs at h with h1 h2 h3 h4 h5
  exact (if_neg h1).trans ((if_neg h2).trans ((if_neg h3).trans ((if_neg h4).trans (if_neg h5))))

/-- An accepted command has a slot of its own. -/
theorem turnsAway_free {c : Cmd} (h : turnsAway d ch c msg = none) : d.slot ch c.tag = none := by
  unfold turnsAway at h
  split_ifs at h with h1 h2 h3 h4 h5
  exact Option.not_isSome_iff_eq_none.mp h4

/-- Its header is of this version. -/
theorem turnsAway_known {c : Cmd} (h : turnsAway d ch c msg = none) : (fld c.hdr 0 8 == 2#8) = true := by
  unfold turnsAway at h
  split_ifs at h with h1 h2 h3 h4 h5
  have hok : headerOk c.hdr = true := by
    rw [Bool.not_eq_true', Bool.not_eq_false] at h1
    exact h1
  unfold headerOk at hok
  simp only [Bool.and_eq_true] at hok
  obtain ⟨⟨hk, -⟩, -⟩ := hok
  exact hk

end

/-! ### Without an open group -/

/-- A refused command that would have been a first member opens its group, which fails (R125). -/
def Cmd.refusedIn (c : Cmd) (d : Dev) (x : Channel) : Channel :=
  if fld c.hdr 0 8 == 2#8 && c.firstMember then x.regrouped (some (c.opens true d)) none else x

theorem refusedFirst_eq (c : Cmd) (d : Dev) : refusedFirst c d =
    if c.firstMember then d.modChan c.ch (fun x => x.regrouped (some (c.opens true d)) none) else d :=
  if_congr Cmd.firstMember_iff.symm rfl rfl

/-- What the arrival of a refused command does where no group is open, or none is any more. -/
def arrivedAlone (c : Cmd) (d : Dev) : Dev := if fld c.hdr 0 8 == 2#8 then refusedFirst c d else d

theorem arrivedAlone_chan (c : Cmd) (d : Dev) : (arrivedAlone c d).chan c.ch = c.refusedIn d (d.chan c.ch) := by
  unfold arrivedAlone Cmd.refusedIn
  rw [refusedFirst_eq]
  by_cases hk : (fld c.hdr 0 8 == 2#8) = true
  · rw [if_pos hk, hk, Bool.true_and]
    split
    · exact (Dev.chan_modChan ..).trans (if_pos rfl)
    · rfl
  · rw [if_neg hk, if_neg (by simp [hk])]

theorem arrivedAlone_or (c : Cmd) (d : Dev) : arrivedAlone c d = d ∨ ∃ f, arrivedAlone c d = d.modChan c.ch f := by
  unfold arrivedAlone
  rw [refusedFirst_eq]
  split
  · split
    · exact .inr ⟨_, rfl⟩
    · exact .inl rfl
  · exact .inl rfl

theorem arrivedAlone_cp (c : Cmd) (d : Dev) : (arrivedAlone c d).cp = d.cp := by
  rcases arrivedAlone_or c d with h | ⟨f, h⟩ <;> rw [h]
  exact (Dev.modChan_keeps ..).2.2.1

theorem arrivedAlone_receives {m : OutMsg} {b d : Dev} {c : Cmd} (h : b.receives c.ch m d) : b.receives c.ch m (arrivedAlone c d) := by
  rcases arrivedAlone_or c d with he | ⟨f, he⟩ <;> rw [he]
  · exact h
  · exact Dev.receives_modChan h f

theorem Channel.butDrops_group {x y : Channel} (h : x.butDrops y) : y.group = x.group := by
  unfold Channel.butDrops at h
  rw [h]

theorem Channel.butDrops_regrouped {x y : Channel} (h : x.butDrops y) (grp : Option Group) (br : Option (BitVec 8 × Nat)) :
    (x.regrouped grp br).butDrops (y.regrouped grp br) := by
  unfold Channel.butDrops Channel.regrouped at *
  rw [h]

theorem Channel.butCompletions_regrouped {x y : Channel} (h : x.butCompletions y) (grp : Option Group)
    (br : Option (BitVec 8 × Nat)) : (x.regrouped grp br).butCompletions (y.regrouped grp br) := by
  unfold Channel.butCompletions Channel.butDrops Channel.regrouped at *
  rw [h]

theorem Cmd.refusedIn_butDrops {c : Cmd} {d : Dev} {x y : Channel} (h : x.butDrops y) :
    (c.refusedIn d x).butDrops (c.refusedIn d y) := by
  unfold Cmd.refusedIn
  split
  · exact Channel.butDrops_regrouped h _ _
  · exact h

theorem arrivalRefused_alone {c : Cmd} {d : Dev} (h : (d.chan c.ch).group = none) : arrivalRefused c d = arrivedAlone c d := by
  unfold arrivalRefused
  rw [h]
  rfl

section
variable {ch : Nat} {m : OutMsg} {b d : Dev} {now : Channel} {hdr : BitVec 256} {msg : List Byte}

theorem Dev.overBudget_barrierSeq (d : Dev) (st : Nat) : (d.overBudget st).barrierSeq ch = d.barrierSeq ch := by
  unfold Dev.overBudget
  split <;> rfl

theorem barrierSeq_congr {d d' : Dev} (h : d'.cp.slots = d.cp.slots) (ch : Nat) : d'.barrierSeq ch = d.barrierSeq ch := by
  unfold Dev.barrierSeq Dev.inFlight
  rw [h]

/-- A command that is turned away without an open group. -/
theorem turnedAway_alone (h : Arrived ch m b now d) (hg : now.group = none) {st : Nat}
    (ht : turnsAway b ch (d.command ch hdr msg) msg = some st) :
    let a := acceptChecked ch hdr msg d
    (b.overBudget st).receives ch m a ∧ a.cp = (b.overBudget st).cp ∧
      ((d.command ch hdr msg).refusedIn b now).butRefusals (a.chan ch) ∧
      (a.chan ch).tells st (d.command ch hdr msg).seq hdr ∧ (a.chan ch).faultAfter = (b.barrierSeq ch).or now.faultAfter := by
  intro a
  have hT := acceptChecked_away ((turnsAway_congr h.cp ..).trans ht)
  obtain ⟨hr, hc, hcp⟩ := h.overBudget st
  have hgd : ((d.overBudget st).chan (d.command ch hdr msg).ch).group = none := by
    exact (Channel.butDrops_group hc).trans hg
  rw [arrivalRefused_alone hgd] at hT
  have hopen : (d.command ch hdr msg).refusedIn (d.overBudget st) = (d.command ch hdr msg).refusedIn b := by
    have htb : (d.overBudget st).tb = b.tb := (Dev.receives_tb hr).trans (by unfold Dev.overBudget; split <;> rfl)
    unfold Cmd.refusedIn Cmd.opens
    rw [htb]
  have hchan : ((d.command ch hdr msg).refusedIn b now).butDrops ((arrivedAlone (d.command ch hdr msg) (d.overBudget st)).chan ch) := by
    rw [← hopen]
    exact (arrivedAlone_chan (d.command ch hdr msg) (d.overBudget st)) ▸ Cmd.refusedIn_butDrops hc
  have hcp2 : (arrivedAlone (d.command ch hdr msg) (d.overBudget st)).cp = (b.overBudget st).cp := (arrivedAlone_cp ..).trans hcp
  refine ⟨hT.receives (arrivedAlone_receives hr), hT.cp.trans hcp2, Channel.butRefusals_trans (Channel.butRefusals_of_butDrops hchan)
    hT.but, hT.tells, ?_⟩
  obtain ⟨-, -, -, hfa⟩ := Channel.butDrops_keeps hchan
  have hnow : ((d.command ch hdr msg).refusedIn b now).faultAfter = now.faultAfter := by
    unfold Cmd.refusedIn
    split <;> rfl
  rw [hT.fault, hfa, hnow, barrierSeq_congr (congrArg CmdState.slots hcp2), Dev.overBudget_barrierSeq]

end

end Sys2Proof.Machine
end

section
/-!
Accepted commands: in a slot, as a member of a group, or ended there (R107, R123, R125, R126).
-/
namespace Sys2Proof.Machine

/-! ### What a step of acceptance keeps -/

/-- From `d` to `a` a step of the acceptance of a command with tag `tag` on channel `ch`: what a packet has answered stays
so, and the members of a group that have ended in slots of their own stay ended. -/
structure AcceptStep (ch tag : Nat) (d a : Dev) : Prop where
  receives : ∀ b m, Dev.receives ch m b d → Dev.receives ch m b a
  members : ∀ (d0 : Dev) g st, st ≠ 0 → d0.slot ch tag = none → d0.membersEnded ch g st d → d0.membersEnded ch g st a

theorem AcceptStep.trans {ch tag : Nat} {a b c : Dev} (h1 : AcceptStep ch tag a b) (h2 : AcceptStep ch tag b c) :
    AcceptStep ch tag a c :=
  ⟨fun b m h => h2.receives b m (h1.receives b m h), fun d0 g st hst hno h => h2.members d0 g st hst hno (h1.members d0 g st hst hno h)⟩

theorem AcceptStep.refl (ch tag : Nat) (d : Dev) : AcceptStep ch tag d d := ⟨fun _ _ h => h, fun _ _ _ _ _ h => h⟩

theorem takeSlot_step (c : Cmd) (d : Dev) : AcceptStep c.ch c.tag d (takeSlot c d) :=
  ⟨fun _ _ h => Dev.receives_withCp h _, fun _ _ _ hst hno h => Dev.membersEnded_takeSlot h rfl hst hno⟩

theorem pollReady_step (ch tag : Nat) (d : Dev) : AcceptStep ch tag d (pollReady ch d) :=
  ⟨fun _ _ h => Dev.receives_withCp h _, fun _ _ _ hst _ h => Dev.membersEnded_pollReady h hst⟩

theorem endCommand_step (ch tag st : Nat) (d : Dev) : AcceptStep ch tag d (endCommand ch tag st d) :=
  ⟨fun _ _ h => Dev.receives_endsOn h (endCommand_endsOn ..), fun _ _ _ hst hno h => Dev.membersEnded_endCommand h st hst hno⟩

theorem report_step (ch tag : Nat) (e : Event) (d : Dev) : AcceptStep ch tag d (report e d) :=
  ⟨fun _ _ h => Dev.receives_endsOn h (report_endsOn ..), fun _ _ _ hst _ h => Dev.membersEnded_slots h
    (by rw [(report_same e d).1]) hst (fun _ hy => Channel.butDrops_holds (report_butDrops e d ch) hy)⟩

/-- Another open group, or another broken one, changes no completion. -/
theorem regrouped_step (ch tag : Nat) (f : Channel → Option Group) (g : Channel → Option (BitVec 8 × Nat)) (d : Dev) :
    AcceptStep ch tag d (d.modChan ch (fun x => x.regrouped (f x) (g x))) :=
  ⟨fun _ _ h => Dev.receives_modChan h _, fun _ _ _ hst _ h => Dev.membersEnded_slots h rfl hst
    (fun y hy => by rw [Dev.chan_modChan, if_pos rfl]; exact hy)⟩

/-! ### A command in a slot of its own -/

/-- From `d` to `a` the command `c` has taken a slot; its channel is `x`. -/
structure Placed (c : Cmd) (x : Channel) (d a : Dev) : Prop where
  step : AcceptStep c.ch c.tag d a
  slot : ∃ y, a.slot c.ch c.tag = some y ∧ c.butReady y
  others : ∀ ch tag, ch ≠ c.ch → a.slot ch tag = d.slot ch tag
  cp : a.cp = { d.cp with slots := a.cp.slots, poolPeak := a.cp.poolPeak }
  chan : a.chan c.ch = x

theorem takeSlot_placed {c : Cmd} {d : Dev} (h : d.slot c.ch c.tag = none) : Placed c (d.chan c.ch) d (takeSlot c d) :=
  ⟨takeSlot_step c d, ⟨c, slot_takeSlot_self h, Cmd.butReady_refl c⟩, fun _ _ hne => slot_takeSlot_other hne d, rfl, rfl⟩

section
variable {c : Cmd} {x : Channel} {d a : Dev} (h : Placed c x d a)
include h

theorem Placed.pollReady : Placed c x d (pollReady c.ch a) := by
  obtain ⟨hs, ⟨y, hy, hb⟩, ho, hcp, hc⟩ := h
  refine ⟨hs.trans (pollReady_step ..), ⟨a.polled c.ch y, ?_, ?_⟩, fun ch tag hne => (slot_pollReady_other hne a).trans (ho ch tag hne),
    ?_, hc⟩
  · rw [slot_pollReady, hy]
    rfl
  · have hp := a.polled_butReady c.ch y
    unfold Cmd.butReady at *
    rw [hp, hb]
  · have hpoll : (Machine.pollReady c.ch a).cp = { a.cp with slots := (Machine.pollReady c.ch a).cp.slots } := rfl
    rw [hpoll, hcp]

theorem Placed.regrouped (f : Channel → Option Group) (g : Channel → Option (BitVec 8 × Nat)) :
    Placed c (x.regrouped (f x) (g x)) d (a.modChan c.ch (fun x => x.regrouped (f x) (g x))) := by
  obtain ⟨hs, hsl, ho, hcp, hc⟩ := h
  refine ⟨hs.trans (regrouped_step ..), hsl, ho, hcp, ?_⟩
  rw [Dev.chan_modChan, if_pos rfl, hc]

end

/-- From `d` to `a` the command `c` has ended with a status in a slot of its own; its channel is `x` but for completions. -/
structure EndedIn (c : Cmd) (st : Nat) (x : Channel) (d a : Dev) : Prop where
  step : AcceptStep c.ch c.tag d a
  ended : a.hasEnded c.ch c.tag st (d.behindBarrier c) c.seq
  chan : x.butCompletions (a.chan c.ch)

/-- A command in its slot ends. -/
theorem endCommand_endedIn {c : Cmd} {st : Nat} (hst : st ≠ 0) {x : Channel} {d e : Dev} (hp : Placed c x d e)
    (hs : e.slot c.ch c.tag = some c) (hb : e.behindBarrier c = d.behindBarrier c) :
    EndedIn c st x d (endCommand c.ch c.tag st e) := by
  refine ⟨hp.step.trans (endCommand_step ..), hb ▸ endCommand_self hs hst, ?_⟩
  obtain ⟨-, -, -, hc, -⟩ := endCommand_endsOn c.ch c.tag st e
  rwa [hp.chan] at hc

theorem endCommand_taken {c : Cmd} {st : Nat} (hst : st ≠ 0) {d : Dev} (h : d.slot c.ch c.tag = none) :
    EndedIn c st (d.chan c.ch) d (endCommand c.ch c.tag st (takeSlot c d)) :=
  endCommand_endedIn hst (takeSlot_placed h) (slot_takeSlot_self h) (behindBarrier_takeSlot c d)

theorem endCommand_regrouped {c : Cmd} {st : Nat} (hst : st ≠ 0) {d : Dev} (h : d.slot c.ch c.tag = none)
    (f : Channel → Option Group) (g : Channel → Option (BitVec 8 × Nat)) :
    EndedIn c st ((d.chan c.ch).regrouped (f (d.chan c.ch)) (g (d.chan c.ch))) d
      (endCommand c.ch c.tag st ((takeSlot c d).modChan c.ch (fun x => x.regrouped (f x) (g x)))) :=
  endCommand_endedIn hst ((takeSlot_placed h).regrouped f g) (slot_takeSlot_self h) (behindBarrier_takeSlot c d)

theorem EndedIn.report {c : Cmd} {st : Nat} {x : Channel} {d a : Dev} (h : EndedIn c st x d a) (e : Event) :
    EndedIn c st x d (report e a) := by
  have hb := report_butDrops e a c.ch
  exact ⟨h.step.trans (report_step ..), Dev.hasEnded_of h.ended (by rw [(report_same e a).1]) hb,
    Channel.butCompletions_trans h.chan (Channel.butCompletions_of_butDrops hb)⟩

/-! ### Commands that are no next member (R123, R126) -/

/-- The group of a channel once such a command has come, and the broken one behind it. -/
def Cmd.groupOf (c : Cmd) (d : Dev) (g : Option Group) : Option Group := if c.a then some (c.opens false d) else g

def Cmd.brokenOf (c : Cmd) (br : Option (BitVec 8 × Nat)) : Option (BitVec 8 × Nat) := if c.a then none else br

theorem acceptFresh_placed {c : Cmd} {d : Dev} (h : d.slot c.ch c.tag = none) (hf : c.a = false ∨ c.firstMember = true) :
    Placed c ((d.chan c.ch).regrouped (c.groupOf d (d.chan c.ch).group) (c.brokenOf (d.chan c.ch).broken)) d (acceptFresh c d) := by
  unfold Cmd.groupOf Cmd.brokenOf
  rcases hf with ha | hf
  · rw [acceptFresh_alone ha, ha]
    exact (takeSlot_placed h).pollReady
  · obtain ⟨ha, -⟩ := Cmd.firstMember_iff.1 hf
    rw [acceptFresh_first hf, ha]
    exact (takeSlot_placed h).regrouped (fun _ => some (c.opens false d)) (fun _ => none)

theorem acceptFresh_ends {c : Cmd} {d : Dev} (h : d.slot c.ch c.tag = none) (ha : c.a = true) (hf : c.firstMember = false) :
    EndedIn c stState ((d.chan c.ch).regrouped (d.chan c.ch).group (some (c.groupId, c.groupSize))) d (acceptFresh c d) := by
  have he := endCommand_regrouped (st := stState) (by decide) h Channel.group (fun _ => some (c.groupId, c.groupSize))
  rcases acceptFresh_stray (d := d) ha hf with hs | ⟨v, hs⟩ <;> rw [hs]
  · exact he
  · exact he.report v

end Sys2Proof.Machine
end

section
/-!
Commands that come while a group is open (R123, R125, R126).
-/
namespace Sys2Proof.Machine

/-- An open group with one member more, with a failure or without; none, where it is complete then. -/
def Group.advanced (g : Group) (failed : Bool) : Option Group :=
  if g.got + 1 = g.size then none else some { g with got := g.got + 1, aborted := failed }

/-- A command is the next member of an open group, and comes in time. -/
def Group.goesOn (g : Group) (c : Cmd) (d : Dev) : Prop := g.next c = true ∧ framesSince g.since d < 16

section
variable {c : Cmd} {g : Group} {d : Dev}

theorem acceptSlot_alone (h : (d.chan c.ch).group = none) : acceptSlot c d = acceptFresh c d := by
  unfold acceptSlot
  rw [h]

theorem acceptSlot_next (h : (d.chan c.ch).group = some g) (hn : g.goesOn c d) : acceptSlot c d =
    let e := (takeSlot c d).modChan c.ch (fun x => x.regrouped (g.advanced g.aborted) x.broken)
    if g.aborted then endCommand c.ch c.tag stFenceAbort e else if g.got + 1 = g.size then pollReady c.ch e else e := by
  obtain ⟨hn, hlt⟩ := hn
  unfold acceptSlot
  rw [h]
  exact (if_neg (Nat.not_le.2 hlt)).trans (if_pos hn)

theorem acceptSlot_other (h : (d.chan c.ch).group = some g) (hn : ¬ g.goesOn c d) :
    acceptSlot c d = acceptFresh c (breakGroup c.ch d) ∨
      (c.a = true ∧ c.firstMember = false ∧ acceptSlot c d = endCommand c.ch c.tag stState (takeSlot c (breakGroup c.ch d))) := by
  unfold acceptSlot
  rw [h]
  dsimp only
  by_cases hlt : 16 ≤ framesSince g.since d
  · exact .inl (if_pos hlt)
  · have hno : ¬ g.next c = true := fun hc => hn ⟨hc, Nat.not_le.1 hlt⟩
    rw [if_neg hlt, if_neg hno]
    by_cases hp : (c.a && c.groupPos != 0) = true
    · obtain ⟨ha, hpos⟩ := Bool.and_eq_true_iff.1 hp
      refine .inr ⟨ha, Bool.eq_false_iff.2 fun hf => ?_, if_pos hp⟩
      obtain ⟨-, h0, -⟩ := Cmd.firstMember_iff.1 hf
      exact bne_iff_ne.1 hpos h0
    · exact .inl (if_neg hp)

theorem Channel.advanced_eq (g : Group) (x : Channel) (failed : Bool) :
    { x with group := if g.got + 1 = g.size then none else some { g with got := g.got + 1, aborted := failed } } =
      x.regrouped (g.advanced failed) x.broken := rfl

/-- The next member takes its slot. -/
theorem acceptSlot_member (h : (d.chan c.ch).group = some g) (hn : g.goesOn c d) (hno : d.slot c.ch c.tag = none)
    (hab : g.aborted = false) :
    Placed c ((d.chan c.ch).regrouped (g.advanced false) (d.chan c.ch).broken) d (acceptSlot c d) := by
  have hp := (takeSlot_placed hno).regrouped (fun _ => g.advanced false) Channel.broken
  rw [acceptSlot_next h hn, hab]
  dsimp only
  rw [if_neg Bool.false_ne_true]
  split
  · exact hp.pollReady
  · exact hp

/-- The next member of a group that has failed ends with FENCE_ABORT. -/
theorem acceptSlot_aborted (h : (d.chan c.ch).group = some g) (hn : g.goesOn c d) (hno : d.slot c.ch c.tag = none)
    (hab : g.aborted = true) :
    EndedIn c stFenceAbort ((d.chan c.ch).regrouped (g.advanced true) (d.chan c.ch).broken) d (acceptSlot c d) := by
  rw [acceptSlot_next h hn, hab]
  exact endCommand_regrouped (by decide) hno (fun _ => g.advanced true) Channel.broken

end

section
variable {c : Cmd} {g : Group} {d : Dev} (h : (d.chan c.ch).group = some g) (hn : ¬ g.goesOn c d)
  (hno : d.slot c.ch c.tag = none)
include h hn hno

/-- Any other command breaks the group, and is then taken by itself. -/
theorem acceptSlot_breaks (hf : c.a = false ∨ c.firstMember = true) :
    Placed c (((breakGroup c.ch d).chan c.ch).regrouped (c.groupOf (breakGroup c.ch d) ((breakGroup c.ch d).chan c.ch).group)
      (c.brokenOf ((breakGroup c.ch d).chan c.ch).broken)) (breakGroup c.ch d) (acceptSlot c d) := by
  have hfree := (breakGroup_ended h).free c.tag hno
  rcases acceptSlot_other h hn with he | ⟨ha, hf', -⟩
  · rw [he]
    exact acceptFresh_placed hfree hf
  · rcases hf with hf | hf
    · exact absurd (hf.symm.trans ha) Bool.false_ne_true
    · exact absurd (hf'.symm.trans hf) Bool.false_ne_true

/-- A stray member ends with STATE. -/
theorem acceptSlot_strays (ha : c.a = true) (hf : c.firstMember = false) : ∃ br,
    EndedIn c stState (((breakGroup c.ch d).chan c.ch).regrouped ((breakGroup c.ch d).chan c.ch).group br) (breakGroup c.ch d)
      (acceptSlot c d) := by
  have hfree := (breakGroup_ended h).free c.tag hno
  rcases acceptSlot_other h hn with he | ⟨-, -, he⟩ <;> rw [he]
  · exact ⟨_, acceptFresh_ends hfree ha hf⟩
  · exact ⟨((breakGroup c.ch d).chan c.ch).broken, endCommand_taken (by decide) hfree⟩

end

/-! ### Refused commands (R125, R126) -/

section
variable {c : Cmd} {g : Group} {d : Dev}

theorem arrivalRefused_next (h : (d.chan c.ch).group = some g) (hk : (fld c.hdr 0 8 == 2#8) = true) (hn : g.goesOn c d) :
    arrivalRefused c d = (abortGroup c.ch d).modChan c.ch (fun x => x.regrouped (g.advanced true) x.broken) := by
  obtain ⟨hn, hlt⟩ := hn
  unfold arrivalRefused
  rw [h]
  exact if_pos (by rw [hk, hn, decide_eq_true hlt]; rfl)

theorem arrivalRefused_other (h : (d.chan c.ch).group = some g) (hn : ¬ ((fld c.hdr 0 8 == 2#8) = true ∧ g.goesOn c d)) :
    arrivalRefused c d = arrivedAlone c (breakGroup c.ch d) := by
  unfold arrivalRefused
  rw [h]
  refine if_neg fun hc => hn ?_
  obtain ⟨hkn, hlt⟩ := Bool.and_eq_true_iff.1 hc
  obtain ⟨hk, hnext⟩ := Bool.and_eq_true_iff.1 hkn
  exact ⟨hk, hnext, of_decide_eq_true hlt⟩

end

end Sys2Proof.Machine
end

section
/-!
What a judged message leaves, seen on the whole state (R111, R112, R123 to R126).
-/
namespace Sys2Proof.Machine

/-- The host is told of a command that was refused; `n` is the length of its message (R111, R112, R120). -/
def State.tellsHost (s t : State) (ch n : Nat) (hdr : BitVec 256) (st : Nat) (seq : W64) : Prop :=
  (t.dev.chan ch).fenceFault = true ∧
    ((s.dev.chan ch).group = none → (t.dev.chan ch).faultAfter = (s.dev.barrierSeq ch).or (s.dev.chan ch).faultAfter) ∧
    ∃ y, (t.dev.chan ch).holds y ∧
    y.status = BitVec.ofNat 8 st ∧ y.seq = seq ∧ y.holdsSlot = false ∧ (3 ≤ n → y.tag = fld hdr 16 8)

/-- A channel that has received a whole message. -/
def Channel.received (c : Channel) (psn : BitVec 24) : Channel := { c with expPsn := psn + 1, rx := none }

/-- The same, once the message is genuine. -/
def Channel.genuine (c : Channel) (seq : W64) (cons : Reg) : Channel := { c with lastSeq := seq, consSeq := cons }

/-- What a genuine command leaves beside the slots, with the open group `grp`. -/
def State.goes (s t : State) (ch : Nat) (m : OutMsg) (psn : BitVec 24) (seq : W64) (cons n : Reg) (sec : Sec) (grp : Option Group) : Prop :=
  (t.dev.chan ch).group = grp ∧ t.dev.out = [m] ∧ (t.dev.chan ch).lastSeq = seq ∧ (t.dev.chan ch).consSeq = cons ∧
    ((s.dev.chan ch).received psn).butRefusals { t.dev.chan ch with
      lastSeq := (s.dev.chan ch).lastSeq, consSeq := (s.dev.chan ch).consSeq, group := (s.dev.chan ch).group
      broken := (s.dev.chan ch).broken } ∧
    s.frameCh t ch (s.dev.rebased n sec t.dev.cp)

section
variable {s : State} {ch k st : Nat} {m : OutMsg} {n : Reg} {sec : Sec} {cp : CmdState} {now : Channel} {d a : Dev} {seq : W64}
  {hdr hdr' : BitVec 256} {g : Group}

theorem tellsHost_after (h : (a.chan ch).tells st seq hdr') (hh : 3 ≤ k → hdr' = hdr)
    (hf : (s.dev.chan ch).group = none → (a.chan ch).faultAfter = (s.dev.barrierSeq ch).or (s.dev.chan ch).faultAfter) :
    s.tellsHost (s.after a) ch k hdr st seq := by
  obtain ⟨h1, y, hy, hs, hq, hl, ht⟩ := h
  unfold State.tellsHost
  rw [State.after_chan]
  exact ⟨h1, hf, y, hy, hs, hq, hl, fun h3 => by rw [← hh h3]; exact ht⟩

theorem goes_after {psn : BitVec 24} {cons : Reg} {grp : Option Group} {br : Option (BitVec 8 × Nat)}
    (hr : (s.dev.fresh0.rebased n sec cp).receives ch m a)
    (hb : ((((s.dev.chan ch).received psn).genuine seq cons).regrouped grp br).butRefusals (a.chan ch)) :
    s.goes (s.after a) ch m psn seq cons n sec grp := by
  have hfr := frameCh_of_receives hr
  unfold State.goes
  rw [State.after_chan, State.after_out, State.after_cp]
  generalize a.chan ch = x at hb
  unfold Channel.butRefusals Channel.butCompletions Channel.butDrops Channel.regrouped Channel.genuine Channel.received at *
  refine ⟨by rw [hb], hr.2.1, by rw [hb], by rw [hb], ?_, hfr⟩
  rw [hb]

/-! ### Messages that are no command of their own (R111, R126) -/

theorem refused_alone (h : Arrived ch m (s.dev.fresh0.rebased n sec cp) now d) (hg : now.group = none)
    (hfa : now.faultAfter = (s.dev.chan ch).faultAfter) (hsl : cp.slots = s.dev.cp.slots)
    (hT : TurnedAway ch st seq hdr' (breakGroup ch d) a) (hh : 3 ≤ k → hdr' = hdr) :
    let t := s.after a
    s.tellsHost t ch k hdr st seq ∧ now.butRefusals (t.dev.chan ch) ∧ t.dev.out = [m] ∧ s.frameCh t ch (s.dev.rebased n sec cp) := by
  rw [breakGroup_none ((Channel.butDrops_group h.chan).trans hg)] at hT
  have hr := hT.receives h.receives
  have hcp : a.cp = cp := hT.cp.trans h.cp
  obtain ⟨-, -, -, k4⟩ := Channel.butDrops_keeps h.chan
  have hbar : d.barrierSeq ch = s.dev.barrierSeq ch := barrierSeq_congr ((congrArg CmdState.slots h.cp).trans hsl) ch
  have hfr := frameCh_of_receives hr
  rw [hcp] at hfr
  intro t
  refine ⟨tellsHost_after hT.tells hh fun _ => ?_, ?_, (State.after_out ..).trans hr.2.1, hfr⟩
  · rw [hT.fault, k4, hbar, hfa]
  · rw [State.after_chan]
    exact Channel.butRefusals_trans (Channel.butRefusals_of_butDrops h.chan) hT.but

theorem membersEnded_congr {d0 d0' : Dev} (hs : d0'.cp.slots = d0.cp.slots) (h : d0.membersEnded ch g st d) :
    d0'.membersEnded ch g st d := by
  unfold Dev.membersEnded Dev.behindBarrier Dev.inFlight at *
  rwa [hs]

theorem inFlight_congr {d d' : Dev} (h : d'.cp.slots = d.cp.slots) (ch : Nat) : d'.inFlight ch = d.inFlight ch := by
  unfold Dev.inFlight
  rw [h]

/-- Members that have ended, seen on the whole state. -/
theorem groupEnds_after (h : s.dev.membersEnded ch g st a) : groupEnds s ch g st (s.after a) :=
  groupEnds_of h (by rw [State.after_cp]) (fun _ hy => by rw [State.after_chan]; exact hy)

theorem TurnedAway.members {st' : Nat} {e : Dev} (hst : st ≠ 0) (hT : TurnedAway ch st' seq hdr' e a)
    (h : s.dev.membersEnded ch g st e) : s.dev.membersEnded ch g st a :=
  Dev.membersEnded_slots h (congrArg CmdState.slots hT.cp) hst hT.holds

theorem Channel.butRefusals_group {x y : Channel} (h : x.butRefusals y) : y.group = x.group := by
  unfold Channel.butRefusals Channel.butCompletions Channel.butDrops at h
  rw [h]

theorem refused_grouped (h : Arrived ch m (s.dev.fresh0.rebased n sec cp) now d) (hg : now.group = some g)
    (hgs : (s.dev.chan ch).group = some g) (hsl : cp.slots = s.dev.cp.slots) (hnd : ((s.dev.inFlight ch).map (·.tag)).Nodup)
    (hT : TurnedAway ch st seq hdr' (breakGroup ch d) a) (hh : 3 ≤ k → hdr' = hdr) :
    let t := s.after a
    groupEnds s ch g stState t ∧ s.tellsHost t ch k hdr st seq ∧
      (now.regrouped none (some (g.id, g.size))).butRefusals (t.dev.chan ch) ∧ t.dev.out = [m] ∧
      s.frameCh t ch (s.dev.rebased n sec t.dev.cp) := by
  have hE := breakGroup_ended ((Channel.butDrops_group h.chan).trans hg)
  have hslots : d.cp.slots = s.dev.cp.slots := (congrArg CmdState.slots h.cp).trans hsl
  have hr := hT.receives (hE.receives h.receives)
  have hm := hE.members (by rw [inFlight_congr hslots]; exact hnd)
  intro t
  refine ⟨groupEnds_after (hT.members (by decide) (membersEnded_congr hslots.symm hm)), tellsHost_after hT.tells hh fun hc => ?_, ?_,
    (State.after_out ..).trans hr.2.1, ?_⟩
  · rw [hgs] at hc
    exact absurd hc nofun
  · rw [State.after_chan]
    exact Channel.butRefusals_trans (Channel.butRefusals_of_butDrops (Channel.butDrops_regrouped h.chan _ _))
      (Channel.butRefusals_trans (Channel.butRefusals_of_butCompletions hE.but) hT.but)
  · have hfr := frameCh_of_receives hr
    rwa [← State.after_cp s a] at hfr

end

end Sys2Proof.Machine
end

section
/-!
A genuine command, seen on the whole state: turned away or accepted, with or without an open group (R107, R111, R123 to R126).
-/
namespace Sys2Proof.Machine

section
variable {s : State} {ch st : Nat} {m : OutMsg} {psn : BitVec 24} {seq : W64} {cons n : Reg} {sec : Sec} {d : Dev}
  {hdr : BitVec 256} {msg : List Byte} {g : Group}
  (h : Arrived ch m (s.dev.fresh0.rebased n sec s.dev.cp) (((s.dev.chan ch).received psn).genuine seq cons) d)

theorem Dev.command_congr {d d' : Dev} (h : d'.tb = d.tb) (ch : Nat) (hdr : BitVec 256) (msg : List Byte) :
    d'.command ch hdr msg = d.command ch hdr msg := by
  unfold Dev.command
  rw [h]

/-- The command processor once a command is turned away with a status. -/
def CmdState.refused (x : CmdState) (st : Nat) : CmdState :=
  { x with budgetCnt := if st = stBudget then satAdd x.budgetCnt 1 else x.budgetCnt }

theorem rebased_overBudget (d : Dev) (n : Reg) (sec : Sec) (cp : CmdState) (st : Nat) :
    (d.rebased n sec cp).overBudget st = d.rebased n sec (cp.refused st) := by
  unfold Dev.overBudget CmdState.refused
  split <;> rfl

include h

theorem Arrived.tb : d.tb = s.dev.tb := (Dev.receives_tb h.receives).trans rfl

theorem Arrived.command (hdr : BitVec 256) (msg : List Byte) : d.command ch hdr msg = s.dev.command ch hdr msg :=
  Dev.command_congr h.tb ch hdr msg

theorem Arrived.turnsAway (msg : List Byte) : turnsAway d ch (d.command ch hdr msg) msg =
    Machine.turnsAway s.dev ch (s.dev.command ch hdr msg) msg := by
  rw [h.command]
  exact turnsAway_congr h.cp ch _ msg

theorem Arrived.group : (d.chan ch).group = (s.dev.chan ch).group :=
  (Channel.butDrops_group h.chan).trans rfl

theorem Arrived.slot (tag : Nat) : d.slot ch tag = s.dev.slot ch tag := by
  unfold Dev.slot
  rw [h.cp]
  rfl

/-! ### Without an open group -/

theorem away_alone (hg : (s.dev.chan ch).group = none)
    (ht : turnsAway s.dev ch (s.dev.command ch hdr msg) msg = some st) :
    let t := s.after (acceptChecked ch hdr msg d)
    s.tellsHost t ch msg.length hdr st (s.dev.command ch hdr msg).seq ∧
      ((s.dev.command ch hdr msg).refusedIn s.dev (((s.dev.chan ch).received psn).genuine seq cons)).butRefusals (t.dev.chan ch) ∧
      t.dev.out = [m] ∧ s.frameCh t ch (s.dev.rebased n sec (s.dev.cp.refused st)) := by
  obtain ⟨hr, hcp, hb, hT, hfa⟩ := turnedAway_alone h hg (hdr := hdr) (by rw [h.command]; exact ht)
  rw [rebased_overBudget] at hr hcp
  rw [h.command] at hb hT
  have hfr := frameCh_of_receives hr
  rw [hcp] at hfr
  refine ⟨tellsHost_after hT (fun _ => rfl) (fun _ => hfa), ?_, (State.after_out ..).trans hr.2.1, hfr⟩
  rw [State.after_chan]
  exact hb

theorem taken_alone (hg : (s.dev.chan ch).group = none) (ht : turnsAway s.dev ch (s.dev.command ch hdr msg) msg = none)
    (hf : (s.dev.command ch hdr msg).a = false ∨ (s.dev.command ch hdr msg).firstMember = true) :
    let c := s.dev.command ch hdr msg
    let t := s.after (acceptChecked ch hdr msg d)
    (∃ y, t.dev.slot ch c.tag = some y ∧ c.butReady y) ∧ (∀ b tag, b ≠ ch → t.dev.slot b tag = s.dev.slot b tag) ∧
      t.dev.cp = { s.dev.cp with slots := t.dev.cp.slots, poolPeak := t.dev.cp.poolPeak } ∧
      ((((s.dev.chan ch).received psn).genuine seq cons).regrouped (c.groupOf s.dev none)
        (c.brokenOf (s.dev.chan ch).broken)).butDrops (t.dev.chan ch) ∧
      t.dev.out = [m] ∧ s.frameCh t ch (s.dev.rebased n sec t.dev.cp) := by
  intro c t
  have hc : d.command ch hdr msg = c := h.command hdr msg
  have hrun : acceptChecked ch hdr msg d = acceptFresh c d := by
    rw [acceptChecked_taken ((h.turnsAway msg).trans ht), hc]
    exact acceptSlot_alone (c := c) (h.group.trans hg)
  have hp := acceptFresh_placed (c := c) (d := d) ((h.slot c.tag).trans (turnsAway_free ht)) hf
  have hr := hp.step.receives _ _ h.receives
  have hfr := frameCh_of_receives hr
  have hgrp : c.groupOf d (d.chan ch).group = c.groupOf s.dev none := by
    unfold Cmd.groupOf Cmd.opens
    rw [h.tb, h.group, hg]
  have hbr : (d.chan ch).broken = (s.dev.chan ch).broken := by
    have hb := h.chan
    unfold Channel.butDrops at hb
    rw [hb]
    rfl
  have hchan := hp.chan
  change (acceptFresh c d).chan ch = (d.chan ch).regrouped (c.groupOf d (d.chan ch).group) (c.brokenOf (d.chan ch).broken) at hchan
  rw [hgrp, hbr] at hchan
  have hcp := hp.cp
  rw [h.cp] at hcp
  have hslot (b tag : Nat) : t.dev.slot b tag = (acceptFresh c d).slot b tag := by
    unfold t Dev.slot
    rw [State.after_cp, hrun]
  unfold t at hslot ⊢
  rw [hrun] at hslot ⊢
  rw [State.after_chan, State.after_out, State.after_cp, hchan]
  refine ⟨?_, fun b tag hb => ?_, hcp, Channel.butDrops_regrouped h.chan _ _, hr.2.1, hfr⟩
  · rw [hslot]
    exact hp.slot
  · rw [hslot, hp.others b tag hb]
    unfold Dev.slot
    rw [h.cp]
    rfl

theorem stray_alone (hg : (s.dev.chan ch).group = none) (ht : turnsAway s.dev ch (s.dev.command ch hdr msg) msg = none)
    (ha : (s.dev.command ch hdr msg).a = true) (hf : (s.dev.command ch hdr msg).firstMember = false) :
    let c := s.dev.command ch hdr msg
    let t := s.after (acceptChecked ch hdr msg d)
    endedEarly ch c.tag stState t (s.dev.behindBarrier c) c.seq ∧
      ((((s.dev.chan ch).received psn).genuine seq cons).regrouped (s.dev.chan ch).group (some (c.groupId, c.groupSize))).butCompletions
        (t.dev.chan ch) ∧
      t.dev.out = [m] ∧ s.frameCh t ch (s.dev.rebased n sec t.dev.cp) := by
  intro c t
  have hc : d.command ch hdr msg = c := h.command hdr msg
  have hrun : acceptChecked ch hdr msg d = acceptFresh c d := by
    rw [acceptChecked_taken ((h.turnsAway msg).trans ht), hc]
    exact acceptSlot_alone (c := c) (h.group.trans hg)
  have hE := acceptFresh_ends (c := c) (d := d) ((h.slot c.tag).trans (turnsAway_free ht)) ha hf
  have hr := hE.step.receives _ _ h.receives
  have hfr := frameCh_of_receives hr
  have hbar : d.behindBarrier c = s.dev.behindBarrier c := by
    unfold Dev.behindBarrier
    rw [inFlight_congr (congrArg CmdState.slots h.cp)]
    rfl
  have hend := hE.ended
  rw [hbar] at hend
  have hchan := hE.chan
  change ((d.chan ch).regrouped (d.chan ch).group (some (c.groupId, c.groupSize))).butCompletions ((acceptFresh c d).chan ch) at hchan
  rw [h.group] at hchan
  unfold t
  rw [hrun]
  refine ⟨Dev.hasEnded_early hend (by rw [State.after_cp]) (fun y hy => by rw [State.after_chan]; exact hy), ?_,
    (State.after_out ..).trans hr.2.1, ?_⟩
  · rw [State.after_chan]
    exact Channel.butCompletions_trans (Channel.butCompletions_of_butDrops (Channel.butDrops_regrouped h.chan _ _)) hchan
  · rw [State.after_cp]
    exact hfr

end

end Sys2Proof.Machine
end

section
/-!
A genuine command while a group is open, seen on the whole state (R123, R125, R126).
-/
namespace Sys2Proof.Machine

section
variable {s : State} {ch st : Nat} {m : OutMsg} {psn : BitVec 24} {seq : W64} {cons n : Reg} {sec : Sec} {d : Dev}
  {hdr : BitVec 256} {msg : List Byte} {g : Group}
  (h : Arrived ch m (s.dev.fresh0.rebased n sec s.dev.cp) (((s.dev.chan ch).received psn).genuine seq cons) d)
  (hg : (s.dev.chan ch).group = some g)
include h

theorem Arrived.regrouped (grp : Option Group) (br : Option (BitVec 8 × Nat)) :
    ((((s.dev.chan ch).received psn).genuine seq cons).regrouped grp br).butRefusals ((d.chan ch).regrouped grp br) :=
  Channel.butRefusals_of_butDrops (Channel.butDrops_regrouped h.chan grp br)

theorem Arrived.goesOn (c : Cmd) : g.goesOn c d ↔ g.goesOn c s.dev := by
  unfold Group.goesOn framesSince
  rw [h.tb]

theorem Arrived.behindBarrier (c : Cmd) : d.behindBarrier c = s.dev.behindBarrier c := by
  unfold Dev.behindBarrier
  rw [inFlight_congr (congrArg CmdState.slots h.cp)]
  rfl

theorem Arrived.run_taken (ht : Machine.turnsAway s.dev ch (s.dev.command ch hdr msg) msg = none) :
    acceptChecked ch hdr msg d = acceptSlot (s.dev.command ch hdr msg) d := by
  rw [acceptChecked_taken ((h.turnsAway msg).trans ht), h.command]

include hg

/-- The next member of a group that has not failed. -/
theorem member_taken (ht : turnsAway s.dev ch (s.dev.command ch hdr msg) msg = none)
    (hn : g.goesOn (s.dev.command ch hdr msg) s.dev) (hab : g.aborted = false) :
    let c := s.dev.command ch hdr msg
    let t := s.after (acceptChecked ch hdr msg d)
    (∃ y, t.dev.slot ch c.tag = some y ∧ c.butReady y) ∧ s.goes t ch m psn seq cons n sec (g.advanced g.aborted) := by
  intro c t
  have hp := acceptSlot_member (c := c) (h.group.trans hg) ((h.goesOn c).2 hn) ((h.slot c.tag).trans (turnsAway_free ht)) hab
  have hchan := hp.chan
  change (acceptSlot c d).chan ch = (d.chan ch).regrouped (g.advanced false) (d.chan ch).broken at hchan
  unfold t
  rw [h.run_taken ht, hab]
  refine ⟨?_, goes_after (br := (d.chan ch).broken) (hp.step.receives _ _ h.receives) ?_⟩
  · unfold Dev.slot
    rw [State.after_cp]
    exact hp.slot
  · rw [hchan]
    exact h.regrouped _ _

/-- The next member of a failed group. -/
theorem member_aborted (ht : turnsAway s.dev ch (s.dev.command ch hdr msg) msg = none)
    (hn : g.goesOn (s.dev.command ch hdr msg) s.dev) (hab : g.aborted = true) :
    let c := s.dev.command ch hdr msg
    let t := s.after (acceptChecked ch hdr msg d)
    endedEarly ch c.tag stFenceAbort t (s.dev.behindBarrier c) c.seq ∧ s.goes t ch m psn seq cons n sec (g.advanced g.aborted) := by
  intro c t
  have hE := acceptSlot_aborted (c := c) (h.group.trans hg) ((h.goesOn c).2 hn) ((h.slot c.tag).trans (turnsAway_free ht)) hab
  have hend := hE.ended
  rw [h.behindBarrier] at hend
  unfold t
  rw [h.run_taken ht, hab]
  refine ⟨Dev.hasEnded_early hend (by rw [State.after_cp]) (fun y hy => by rw [State.after_chan]; exact hy),
    goes_after (br := (d.chan ch).broken) (hE.step.receives _ _ h.receives) ?_⟩
  exact Channel.butRefusals_trans (h.regrouped _ _) (Channel.butRefusals_of_butCompletions hE.chan)

/-- What the broken group leaves, of a module that has received a genuine command. -/
theorem Arrived.broken (hnd : ((s.dev.inFlight ch).map (·.tag)).Nodup) :
    (s.dev.fresh0.rebased n sec s.dev.cp).receives ch m (breakGroup ch d) ∧
      ((d.chan ch).regrouped none (some (g.id, g.size))).butCompletions ((breakGroup ch d).chan ch) ∧
      s.dev.membersEnded ch g stState (breakGroup ch d) := by
  have hE := breakGroup_ended (h.group.trans hg)
  have hslots : d.cp.slots = s.dev.cp.slots := congrArg CmdState.slots h.cp
  exact ⟨hE.receives h.receives, hE.but, membersEnded_congr hslots.symm (hE.members (by rw [inFlight_congr hslots]; exact hnd))⟩

/-- A command that stands alone, or begins a group, while another one is open. -/
theorem other_taken (hnd : ((s.dev.inFlight ch).map (·.tag)).Nodup)
    (ht : turnsAway s.dev ch (s.dev.command ch hdr msg) msg = none)
    (hn : ¬ g.goesOn (s.dev.command ch hdr msg) s.dev)
    (hf : (s.dev.command ch hdr msg).a = false ∨ (s.dev.command ch hdr msg).firstMember = true) :
    let c := s.dev.command ch hdr msg
    let t := s.after (acceptChecked ch hdr msg d)
    groupEnds s ch g stState t ∧ (∃ y, t.dev.slot ch c.tag = some y ∧ c.butReady y) ∧
      s.goes t ch m psn seq cons n sec (if c.a then some (c.opens false s.dev) else none) := by
  intro c t
  have hfree := turnsAway_free ht
  obtain ⟨hr, hb, hm⟩ := h.broken hg hnd
  have hp := acceptSlot_breaks (c := c) (h.group.trans hg) (fun hc => hn ((h.goesOn c).1 hc)) ((h.slot c.tag).trans hfree) hf
  have hgrp : c.groupOf (breakGroup ch d) ((breakGroup ch d).chan ch).group = if c.a then some (c.opens false s.dev) else none := by
    unfold Cmd.groupOf Cmd.opens
    rw [Dev.receives_tb hr, Channel.butRefusals_group (Channel.butRefusals_of_butCompletions hb)]
    rfl
  have hchan := hp.chan
  change (acceptSlot c d).chan ch = ((breakGroup ch d).chan ch).regrouped
    (c.groupOf (breakGroup ch d) ((breakGroup ch d).chan ch).group) (c.brokenOf ((breakGroup ch d).chan ch).broken) at hchan
  rw [hgrp] at hchan
  unfold t
  rw [h.run_taken ht]
  refine ⟨groupEnds_after (hp.step.members _ _ _ (by decide) hfree hm), ?_,
    goes_after (br := c.brokenOf ((breakGroup ch d).chan ch).broken) (hp.step.receives _ _ hr) ?_⟩
  · unfold Dev.slot
    rw [State.after_cp]
    exact hp.slot
  · rw [hchan]
    exact Channel.butRefusals_trans (h.regrouped _ _)
      (Channel.butRefusals_of_butCompletions (Channel.butCompletions_regrouped hb _ _))

/-- A stray member while a group is open. -/
theorem other_strays (hnd : ((s.dev.inFlight ch).map (·.tag)).Nodup)
    (ht : turnsAway s.dev ch (s.dev.command ch hdr msg) msg = none)
    (hn : ¬ g.goesOn (s.dev.command ch hdr msg) s.dev)
    (ha : (s.dev.command ch hdr msg).a = true) (hf : (s.dev.command ch hdr msg).firstMember = false) :
    let c := s.dev.command ch hdr msg
    let t := s.after (acceptChecked ch hdr msg d)
    groupEnds s ch g stState t ∧
      (∃ y, t.dev.slot ch c.tag = some y ∧ (y.stage = .finished ∨ y.stage = .ended stState)) ∧
      s.goes t ch m psn seq cons n sec none := by
  intro c t
  have hfree := turnsAway_free ht
  obtain ⟨hr, hb, hm⟩ := h.broken hg hnd
  obtain ⟨br, hE⟩ := acceptSlot_strays (c := c) (h.group.trans hg) (fun hc => hn ((h.goesOn c).1 hc))
    ((h.slot c.tag).trans hfree) ha hf
  have hchan := hE.chan
  change (((breakGroup ch d).chan ch).regrouped ((breakGroup ch d).chan ch).group br).butCompletions ((acceptSlot c d).chan ch) at hchan
  rw [Channel.butRefusals_group (Channel.butRefusals_of_butCompletions hb)] at hchan
  unfold t
  rw [h.run_taken ht]
  refine ⟨groupEnds_after (hE.step.members _ _ _ (by decide) hfree hm), ?_,
    goes_after (br := br) (hE.step.receives _ _ hr) ?_⟩
  · unfold Dev.slot
    rw [State.after_cp]
    exact Dev.tagged_slot hE.ended.1
  · exact Channel.butRefusals_trans (h.regrouped _ _) (Channel.butRefusals_trans
      (Channel.butRefusals_of_butCompletions (Channel.butCompletions_regrouped hb _ _))
      (Channel.butRefusals_of_butCompletions hchan))

end

end Sys2Proof.Machine
end

section
/-!
A genuine command that is turned away while a group is open (R125, R126).
-/
namespace Sys2Proof.Machine

section
variable {s : State} {ch st : Nat} {m : OutMsg} {psn : BitVec 24} {seq : W64} {cons n : Reg} {sec : Sec} {d : Dev}
  {hdr : BitVec 256} {msg : List Byte} {g : Group}
  (h : Arrived ch m (s.dev.fresh0.rebased n sec s.dev.cp) (((s.dev.chan ch).received psn).genuine seq cons) d)
  (hg : (s.dev.chan ch).group = some g) (hnd : ((s.dev.inFlight ch).map (·.tag)).Nodup)
include h

/-- The same, once the module has counted a command without a free slot. -/
theorem Arrived.counted (st : Nat) : Arrived ch m (s.dev.fresh0.rebased n sec (s.dev.cp.refused st))
    (((s.dev.chan ch).received psn).genuine seq cons) (d.overBudget st) := by
  rw [← rebased_overBudget]
  exact h.overBudget st

theorem Arrived.counted_facts (st : Nat) : (d.overBudget st).tb = s.dev.tb ∧ (d.overBudget st).cp.slots = s.dev.cp.slots ∧
    ((d.overBudget st).chan ch).group = (s.dev.chan ch).group :=
  ⟨(Dev.receives_tb (h.counted st).receives).trans rfl, (congrArg CmdState.slots (h.counted st).cp).trans rfl,
    (Channel.butDrops_group (h.counted st).chan).trans rfl⟩

/-- What the end of the group leaves then. -/
theorem Arrived.groupEnded {st' : Nat} {x : Channel} {a : Dev} (hnd : ((s.dev.inFlight ch).map (·.tag)).Nodup)
    (hE : GroupEnded ch g st' x (d.overBudget st) a) :
    (s.dev.fresh0.rebased n sec (s.dev.cp.refused st)).receives ch m a ∧ x.butCompletions (a.chan ch) ∧
      s.dev.membersEnded ch g st' a := by
  obtain ⟨-, hsl, -⟩ := h.counted_facts st
  exact ⟨hE.receives (h.counted st).receives, hE.but, membersEnded_congr hsl.symm (hE.members (by rw [inFlight_congr hsl]; exact hnd))⟩

include hg hnd

/-- The next member, turned away: the group fails with it. -/
theorem away_next (ht : turnsAway s.dev ch (s.dev.command ch hdr msg) msg = some st) (hk : (fld hdr 0 8 == 2#8) = true)
    (hn : g.goesOn (s.dev.command ch hdr msg) s.dev) :
    let c := s.dev.command ch hdr msg
    let t := s.after (acceptChecked ch hdr msg d)
    groupEnds s ch g stFenceAbort t ∧ s.tellsHost t ch msg.length hdr st c.seq ∧
      s.goes t ch m psn seq cons n sec (g.advanced true) := by
  intro c t
  obtain ⟨htb, -, hgrp⟩ := h.counted_facts st
  have hn' : g.goesOn c (d.overBudget st) := by
    unfold Group.goesOn framesSince
    rw [htb]
    exact hn
  have hT := acceptChecked_away ((h.turnsAway (hdr := hdr) msg).trans ht)
  rw [h.command, arrivalRefused_next (c := c) (hgrp.trans hg) hk hn'] at hT
  obtain ⟨hr, hb, hm⟩ := h.groupEnded hnd (abortGroup_ended (hgrp.trans hg))
  have hmod : ((abortGroup ch (d.overBudget st)).modChan ch (fun x => x.regrouped (g.advanced true) x.broken)).chan ch =
      ((abortGroup ch (d.overBudget st)).chan ch).regrouped (g.advanced true) ((abortGroup ch (d.overBudget st)).chan ch).broken :=
    (Dev.chan_modChan ..).trans (if_pos rfl)
  have hbut := hT.but
  change (((abortGroup ch (d.overBudget st)).modChan ch (fun x => x.regrouped (g.advanced true) x.broken)).chan ch).butRefusals _ at hbut
  rw [hmod] at hbut
  have hm' := (regrouped_step ch c.tag (fun _ => g.advanced true) Channel.broken (abortGroup ch (d.overBudget st))).receives _ _ hr
  refine ⟨groupEnds_after (hT.members (by decide) ?_), tellsHost_after hT.tells (fun _ => rfl) (fun hc => ?_),
    goes_after (br := ((abortGroup ch (d.overBudget st)).chan ch).broken) (hT.receives hm') ?_⟩
  · refine Dev.membersEnded_slots hm rfl (by decide) (fun y hy => ?_)
    change (((abortGroup ch (d.overBudget st)).modChan ch (fun x => x.regrouped (g.advanced true) x.broken)).chan ch).holds y
    rw [hmod]
    exact hy
  · rw [hg] at hc
    exact absurd hc nofun
  · exact Channel.butRefusals_trans (Channel.butRefusals_of_butDrops (Channel.butDrops_regrouped (h.counted st).chan _ _))
      (Channel.butRefusals_trans (Channel.butRefusals_of_butCompletions (Channel.butCompletions_regrouped hb _ _)) hbut)

/-- Any other one: the group breaks. -/
theorem away_other (ht : turnsAway s.dev ch (s.dev.command ch hdr msg) msg = some st)
    (hn : ¬ ((fld hdr 0 8 == 2#8) = true ∧ g.goesOn (s.dev.command ch hdr msg) s.dev)) :
    let c := s.dev.command ch hdr msg
    let t := s.after (acceptChecked ch hdr msg d)
    groupEnds s ch g stState t ∧ s.tellsHost t ch msg.length hdr st c.seq ∧
      s.goes t ch m psn seq cons n sec (if fld hdr 0 8 == 2#8 && c.firstMember then some (c.opens true s.dev) else none) := by
  intro c t
  obtain ⟨htb, -, hgrp⟩ := h.counted_facts st
  have hn' : ¬ ((fld c.hdr 0 8 == 2#8) = true ∧ g.goesOn c (d.overBudget st)) := by
    rintro ⟨hk, hc⟩
    refine hn ⟨hk, ?_⟩
    unfold Group.goesOn framesSince at hc ⊢
    rwa [htb] at hc
  have hT := acceptChecked_away ((h.turnsAway (hdr := hdr) msg).trans ht)
  rw [h.command, arrivalRefused_other (c := c) (hgrp.trans hg) hn'] at hT
  obtain ⟨hr, hb, hm⟩ := h.groupEnded hnd (breakGroup_ended (hgrp.trans hg))
  have hchan : (arrivedAlone c (breakGroup ch (d.overBudget st))).chan ch =
      c.refusedIn (breakGroup ch (d.overBudget st)) ((breakGroup ch (d.overBudget st)).chan ch) := arrivedAlone_chan c _
  have hbgrp := Channel.butRefusals_group (Channel.butRefusals_of_butCompletions hb)
  have hreg : ∃ br, c.refusedIn (breakGroup ch (d.overBudget st)) ((breakGroup ch (d.overBudget st)).chan ch) =
      ((breakGroup ch (d.overBudget st)).chan ch).regrouped
        (if fld hdr 0 8 == 2#8 && c.firstMember then some (c.opens true s.dev) else none) br := by
    have hop : c.opens true (breakGroup ch (d.overBudget st)) = c.opens true s.dev := by
      unfold Cmd.opens
      rw [Dev.receives_tb hr]
      rfl
    unfold Cmd.refusedIn
    rw [hop]
    split
    · next hf => exact ⟨none, congrArg (fun x => Channel.regrouped _ x none) (if_pos hf).symm⟩
    · next hf =>
      refine ⟨((breakGroup ch (d.overBudget st)).chan ch).broken, ?_⟩
      have hnone : ((breakGroup ch (d.overBudget st)).chan ch).group = none := hbgrp
      rw [show (if fld hdr 0 8 == 2#8 && c.firstMember then some (c.opens true s.dev) else none) = none from if_neg hf, ← hnone]
      rfl
  obtain ⟨br, hreg⟩ := hreg
  have hbut := hT.but
  change ((arrivedAlone c (breakGroup ch (d.overBudget st))).chan ch).butRefusals _ at hbut
  rw [hchan, hreg] at hbut
  refine ⟨groupEnds_after (hT.members (by decide) ?_), tellsHost_after hT.tells (fun _ => rfl) (fun hc => ?_),
    goes_after (br := br) (hT.receives (arrivedAlone_receives (c := c) hr)) ?_⟩
  · refine Dev.membersEnded_slots hm (congrArg CmdState.slots (arrivedAlone_cp ..)) (by decide) (fun y hy => ?_)
    change ((arrivedAlone c (breakGroup ch (d.overBudget st))).chan ch).holds y
    rw [hchan, hreg]
    exact hy
  · rw [hg] at hc
    exact absurd hc nofun
  · exact Channel.butRefusals_trans (Channel.butRefusals_of_butDrops (Channel.butDrops_regrouped (h.counted st).chan _ _))
      (Channel.butRefusals_trans (Channel.butRefusals_of_butCompletions (Channel.butCompletions_regrouped hb _ _)) hbut)

end

end Sys2Proof.Machine
end

section
/-!
COMMAND_ACCEPT: a packet of a SEND (R100, R104, R111, R112, R165, R168, R188, R203, R204).
-/
namespace Sys2Proof.Machine

/-! ### Packets -/

/-- A packet for an open channel. -/
def packetTaken (ch : Nat) (p : SendPkt) (imm : Option Reg) (d : Dev) : Dev :=
  if p.psn = (d.chan ch).expPsn then acceptPacket ch p imm d
  else if ((d.chan ch).expPsn - p.psn).toNat < 2 ^ 23 then d.emit (.ack ch ((d.chan ch).expPsn - 1))
  else d.emit (.nak ch (d.chan ch).expPsn 0)

section
variable {s : State} {ch : Nat} {head : FrameHead} {p : SendPkt} {imm : Option Reg} (hup : s.up) (hch : ch ≤ 64)
  (hlink : s.dev.linkUpFor (s.dev.chan ch) = true)
include hup hch hlink

theorem commandAccept_dropped (hk : (s.dev.port (s.dev.chan ch).portNo).rxOk head = false) :
    Runs (.commandAccept ch head p imm) s (frameDropped s (s.dev.chan ch).portNo) := by
  refine Runs.mainChecked (f := commandAccept ch head p imm) (i := .commandAccept ch head p imm) rfl (decide_eq_true hch) hup ?_
  have he : commandAccept ch head p imm s.dev.fresh0 = rxDropped (s.dev.chan ch).portNo s.dev.fresh0 :=
    (if_neg (by rw [show s.dev.fresh0.linkUpFor (s.dev.fresh0.chan ch) = true from hlink]; exact Bool.false_ne_true)).trans
      (rxArrive_dropped _ (Bool.eq_false_iff.mp hk))
  rw [he]
  exact frameDropped_after s _

theorem commandAccept_left (hk : (s.dev.port (s.dev.chan ch).portNo).rxOk head = true)
    (h : (s.dev.port (s.dev.chan ch).portNo).takes (s.dev.chan ch).portNo head = false ∨ s.dev.forChannel ch p = false) :
    Runs (.commandAccept ch head p imm) s (fun t => s.silent t s.dev) := by
  refine Runs.stays (f := commandAccept ch head p imm) (i := .commandAccept ch head p imm) rfl (decide_eq_true hch) hup ?_
  refine (if_neg (by rw [show s.dev.fresh0.linkUpFor (s.dev.fresh0.chan ch) = true from hlink]; exact Bool.false_ne_true)).trans ?_
  by_cases ht : (s.dev.port (s.dev.chan ch).portNo).takes (s.dev.chan ch).portNo head = true
  · refine (rxArrive_taken (d := s.dev.fresh0) _ hk ht).trans (if_pos ?_)
    rcases h with h | h
    · exact absurd (h.symm.trans ht) Bool.false_ne_true
    · rw [show s.dev.fresh0.forChannel ch p = false from h]
      rfl
  · exact rxArrive_left (d := s.dev.fresh0) _ hk (Bool.eq_false_iff.mpr ht)

variable (hk : (s.dev.port (s.dev.chan ch).portNo).rxOk head = true)
  (ht : (s.dev.port (s.dev.chan ch).portNo).takes (s.dev.chan ch).portNo head = true) (hfor : s.dev.forChannel ch p = true)
include hk ht hfor

/-- A packet that reaches its channel. -/
theorem commandAccept_runs {q : State → Prop} (h : q (s.after (packetTaken ch p imm s.dev.fresh0))) :
    Runs (.commandAccept ch head p imm) s q := by
  refine Runs.mainChecked (f := commandAccept ch head p imm) (i := .commandAccept ch head p imm) rfl (decide_eq_true hch) hup ?_
  have he : commandAccept ch head p imm s.dev.fresh0 = packetTaken ch p imm s.dev.fresh0 := by
    refine (if_neg (by rw [show s.dev.fresh0.linkUpFor (s.dev.fresh0.chan ch) = true from hlink]; exact Bool.false_ne_true)).trans ?_
    refine (rxArrive_taken (d := s.dev.fresh0) _ hk ht).trans (if_neg ?_)
    rw [show s.dev.fresh0.forChannel ch p = true from hfor]
    exact Bool.false_ne_true
  rwa [he]

/-- A packet out of its turn is answered alone. -/
theorem commandAccept_answered {m : OutMsg} (h : packetTaken ch p imm s.dev.fresh0 = s.dev.fresh0.emit m) :
    Runs (.commandAccept ch head p imm) s (fun t => t.dev.out = [m] ∧ t.dev.chan ch = s.dev.chan ch ∧ s.frame t s.dev) := by
  refine commandAccept_runs hup hch hlink hk ht hfor ?_
  rw [h]
  refine ⟨(State.after_out ..).trans rfl, (State.after_chan ..).trans rfl, State.frame_sends (Dev.reportsTo_of_eq rfl rfl rfl) rfl ?_⟩
  exact List.cons_ne_nil _ _

variable (hpsn : p.psn = (s.dev.chan ch).expPsn)
include hpsn

theorem commandAccept_packet {q : State → Prop} (h : q (s.after (acceptPacket ch p imm s.dev.fresh0))) :
    Runs (.commandAccept ch head p imm) s q := by
  refine commandAccept_runs hup hch hlink hk ht hfor ?_
  have he : packetTaken ch p imm s.dev.fresh0 = acceptPacket ch p imm s.dev.fresh0 := if_pos hpsn
  rwa [he]

omit hup hch hlink hk ht hfor hpsn in
/-- What goes out changes the queues of the ports. -/
theorem frameCh_sends {t : State} {b : Dev} {e : Tbl Egress} (h : s.frameCh t ch { b with eg := e }) (ho : t.dev.out ≠ []) :
    s.frameCh t ch b := by
  obtain ⟨⟨he, hr, -⟩, htr, hc⟩ := h
  exact ⟨⟨he, hr, fun hout => absurd hout ho⟩, htr, hc⟩

/-- A malformed packet ends the channel. -/
theorem commandAccept_malformed (hst : (s.dev.chan ch).st = .opened) (hok : packetOk (s.dev.chan ch) p imm = false) :
    Runs (.commandAccept ch head p imm) s (fun t => (t.dev.chan ch).st = .error ∧ (t.dev.chan ch).errCode = 5 ∧ t.dev.inFlight ch = [] ∧
      t.dev.out = [.nak ch (s.dev.chan ch).expPsn 1] ∧ s.frameCh t ch { s.dev with cp := t.dev.cp }) := by
  refine commandAccept_packet hup hch hlink hk ht hfor hpsn ?_
  have he : acceptPacket ch p imm s.dev.fresh0 = errorChannel ch 5 (s.dev.fresh0.emit (.nak ch (s.dev.chan ch).expPsn 1)) := by
    refine (if_pos ?_).trans (if_neg ?_)
    · rw [show packetOk (s.dev.fresh0.chan ch) p imm = false from hok]
      rfl
    · rintro (h | h)
      · exact h hst
      · exact Bool.false_ne_true (h.symm.trans hlink)
  rw [he]
  obtain ⟨hc, hin, -, -, hout, hfr⟩ := errorChannel_after (s := s) (ch := ch) (d := s.dev.fresh0.emit (.nak ch (s.dev.chan ch).expPsn 1))
    (out := [.nak ch (s.dev.chan ch).expPsn 1]) rfl hst 5
  unfold Channel.stopped Channel.butDrops at hc
  refine ⟨by rw [hc], by rw [hc]; rfl, hin, hout, frameCh_sends hfr ?_⟩
  rw [hout]
  exact List.cons_ne_nil _ _

/-- A part of a message is kept. -/
theorem commandAccept_part (hok : packetOk (s.dev.chan ch) p imm = true) (hform : p.form = .first ∨ p.form = .middle) :
    Runs (.commandAccept ch head p imm) s (fun t =>
      t.dev.chan ch = { s.dev.chan ch with expPsn := p.psn + 1, rx := some ((s.dev.chan ch).rx.getD [] ++ p.data) } ∧
        t.dev.out = [] ∧ s.frameCh t ch s.dev) := by
  refine commandAccept_packet hup hch hlink hk ht hfor hpsn ?_
  let x : Channel := { s.dev.chan ch with expPsn := p.psn + 1, rx := some ((s.dev.chan ch).rx.getD [] ++ p.data) }
  have he : acceptPacket ch p imm s.dev.fresh0 = s.dev.fresh0.setChan ch x := by
    unfold acceptPacket
    rw [if_neg]
    · rcases hform with hf | hf <;> rw [hf] <;> rfl
    · rw [show packetOk (s.dev.fresh0.chan ch) p imm = true from hok]
      exact Bool.false_ne_true
  rw [he]
  refine ⟨?_, (State.after_out ..).trans rfl, State.frameCh_of_serves_cp (setChan_serves ch x s.dev.fresh0) rfl rfl⟩
  rw [State.after_chan]
  exact (Dev.chan_setChan ..).trans (if_pos rfl)

/-- The module with a whole message that it has acknowledged. -/
def Dev.acknowledged (ch : Nat) (psn : BitVec 24) (d : Dev) : Dev :=
  (d.setChan ch ((d.chan ch).received psn)).emit (.ack ch psn)

/-- The last packet hands the message on. -/
theorem commandAccept_message (hok : packetOk (s.dev.chan ch) p imm = true) (hform : p.form = .last ∨ p.form = .only)
    {q : State → Prop}
    (h : q (s.after (acceptMessage ch ((s.dev.chan ch).rx.getD [] ++ p.data) imm (s.dev.fresh0.acknowledged ch p.psn)))) :
    Runs (.commandAccept ch head p imm) s q := by
  refine commandAccept_packet hup hch hlink hk ht hfor hpsn ?_
  have he : acceptPacket ch p imm s.dev.fresh0 =
      acceptMessage ch ((s.dev.chan ch).rx.getD [] ++ p.data) imm (s.dev.fresh0.acknowledged ch p.psn) := by
    unfold acceptPacket
    rw [if_neg]
    · rcases hform with hf | hf <;> rw [hf] <;> rfl
    · rw [show packetOk (s.dev.fresh0.chan ch) p imm = true from hok]
      exact Bool.false_ne_true
  rwa [he]

end

end Sys2Proof.Machine
end

section
/-!
A whole message of a SEND is judged (R100, R104, R111, R112, R188).
-/
namespace Sys2Proof.Machine

/-! ### CONS_SEQ from the immediate data (R188) -/

def Channel.goodImm (c : Channel) (v : Reg) : Bool := decide ((v - c.consSeq).toNat ≤ (c.pubSeq - c.consSeq).toNat)

/-- CONS_SEQ after a message with this immediate data. -/
def Channel.consAfter (c : Channel) (imm : Option Reg) : Reg := match imm with
  | some v => if c.goodImm v then v else c.consSeq
  | none => c.consSeq

def Channel.consRejected (c : Channel) (imm : Option Reg) : Bool := match imm with
  | some v => !c.goodImm v
  | none => false

/-- The count of rejected CONS_SEQs after such a message. -/
def Dev.consRejCnt (d : Dev) (ch : Nat) (imm : Option Reg) : Reg :=
  if (d.chan ch).consRejected imm then satAdd d.tr.consRejCnt 1 else d.tr.consRejCnt

/-- The session unit once a genuine message has come (R581). -/
def Sec.awake (x : Sec) : Sec := { x with idle := 0 }

/-- A genuine message has come on a channel. -/
def messageTaken (ch : Nat) (seq : W64) (imm : Option Reg) (d : Dev) : Dev :=
  let d := (d.modChan ch (fun c => { c with lastSeq := seq })).modSec Sec.awake
  match imm with
  | some v => consumerUpdate ch v d
  | none => d

/-! ### Checks 1 to 3 (R111) -/

section
variable {ch : Nat} {msg : List Byte} {imm : Option Reg} {d : Dev}

/-- The header of a message. -/
def msgHeader (msg : List Byte) : BitVec 256 := leBits 256 (slice msg 0 32)

/-- Is a message of a length that a command can have (R100). -/
def msgSized (msg : List Byte) : Prop := 48 ≤ msg.length ∧ msg.length ≤ 4096

/-- Is a message genuine: its code, and a SEQ above the last one (R104). -/
def msgGenuine (ch : Nat) (msg : List Byte) (d : Dev) : Prop :=
  gmac d.sec.key (leBytes 8 (fld (msgHeader msg) 128 64).toNat ++ [BitVec.ofNat 8 ch, 0, 0, 0]) (msg.take (msg.length - 16)) =
    msg.drop (msg.length - 16) ∧ (d.chan ch).lastSeq < fld (msgHeader msg) 128 64

/-- The command processor once a message was not genuine (R104). -/
def CmdState.unproven (x : CmdState) : CmdState := { x with authCnt := satAdd x.authCnt 1 }

theorem acceptMessage_closing (h : d.cp.closing = true ∨ d.sec.ending.isSome = true) : acceptMessage ch msg imm d = d := by
  refine if_pos ?_
  rcases h with h | h <;> simp [h]

variable (hc : d.cp.closing = false) (he : d.sec.ending = none)
include hc he

theorem acceptMessage_unsized (h : ¬ msgSized msg) : acceptMessage ch msg imm d =
    refuseCommand ch (if msg.length < 3 then msgHeader msg &&& 0xFF00FFFF else msgHeader msg) 0 stBadLength (breakGroup ch d) := by
  unfold acceptMessage
  rw [hc, he]
  refine (if_neg Bool.false_ne_true).trans (if_pos ?_)
  unfold msgSized at h
  omega

theorem acceptMessage_false (hs : msgSized msg) (h : ¬ msgGenuine ch msg d) : ∃ e,
    acceptMessage ch msg imm d = reportLimited ch 1 e
      (refuseCommand ch (msgHeader msg) (fld (msgHeader msg) 128 64) stAuth (breakGroup ch (d.withCp d.cp.unproven))) := by
  refine ⟨{ ev 0x0301 true ch 0 with dests := destsCh ch }, ?_⟩
  unfold acceptMessage
  rw [hc, he]
  obtain ⟨h1, h2⟩ := hs
  refine (if_neg Bool.false_ne_true).trans ((if_neg (by omega)).trans (if_pos ?_))
  rcases not_and_or.1 h with h | h
  · exact .inl h
  · exact .inr (BitVec.not_lt.1 h)

theorem acceptMessage_genuine (hs : msgSized msg) (h : msgGenuine ch msg d) : acceptMessage ch msg imm d =
    acceptChecked ch (msgHeader msg) msg (messageTaken ch (fld (msgHeader msg) 128 64) imm d) := by
  unfold acceptMessage
  rw [hc, he]
  obtain ⟨h1, h2⟩ := hs
  obtain ⟨h3, h4⟩ := h
  refine (if_neg Bool.false_ne_true).trans ((if_neg (by omega)).trans ((if_neg ?_).trans rfl))
  rintro (hm | hq)
  · exact hm h3
  · exact BitVec.not_le.2 h4 hq

end

/-! ### The module with the message -/

section
variable (s : State) (ch : Nat) (psn : BitVec 24)

theorem acknowledged_arrived : Arrived ch (.ack ch psn) (s.dev.fresh0.rebased s.dev.tr.consRejCnt s.dev.sec s.dev.cp)
    ((s.dev.chan ch).received psn) (s.dev.fresh0.acknowledged ch psn) := by
  refine ⟨⟨Dev.serves_trans (setChan_serves ch _ _) (emit_serves ch _ _), rfl, rfl⟩, ?_, rfl⟩
  have h : (s.dev.fresh0.acknowledged ch psn).chan ch = (s.dev.chan ch).received psn := (Dev.chan_setChan ..).trans (if_pos rfl)
  rw [h]
  exact Channel.butDrops_refl _

theorem unproven_arrived : Arrived ch (.ack ch psn) (s.dev.fresh0.rebased s.dev.tr.consRejCnt s.dev.sec s.dev.cp.unproven)
    ((s.dev.chan ch).received psn) ((s.dev.fresh0.acknowledged ch psn).withCp s.dev.cp.unproven) := by
  obtain ⟨-, hc, -⟩ := acknowledged_arrived s ch psn
  have hs : (s.dev.fresh0.rebased s.dev.tr.consRejCnt s.dev.sec s.dev.cp.unproven).serves ch
      ((s.dev.fresh0.acknowledged ch psn).withCp s.dev.cp.unproven) :=
    Dev.serves_trans (setChan_serves ch ((s.dev.chan ch).received psn) _) (emit_serves ch (.ack ch psn) _)
  exact ⟨⟨hs, rfl, rfl⟩, hc, rfl⟩

omit s psn in
theorem serves_rebased {d d' : Dev} (h : d.serves ch d') (n : Reg) (sec : Sec) (cp : CmdState) :
    (d.rebased n sec cp).serves ch (d'.rebased n sec cp) := by
  obtain ⟨he, ht, hc, hr, hf⟩ := h
  refine ⟨?_, ?_, hc, hr, hf⟩
  · conv_lhs => rw [he]
    rfl
  · unfold Transport.butReports at *
    change { d'.tr with consRejCnt := n } = { ({ d.tr with consRejCnt := n } : Transport) with
      chans := d'.tr.chans, evq := d'.tr.evq, evqPeak := d'.tr.evqPeak, closedCnt := d'.tr.closedCnt, rates := d'.tr.rates }
    rw [ht]

omit s ch psn in
theorem modSec_rebased (f : Sec → Sec) (d : Dev) : d.modSec f = d.rebased d.tr.consRejCnt (f d.sec) d.cp := rfl

/-- The module that has acknowledged a message, with SEQ. -/
def State.withSeq (seq : W64) : Dev := (s.dev.fresh0.acknowledged ch psn).modChan ch (fun c => { c with lastSeq := seq })

theorem withSeq_serves (seq : W64) : s.dev.fresh0.serves ch (s.withSeq ch psn seq) :=
  Dev.serves_trans (setChan_serves ch _ _) (Dev.serves_trans (emit_serves ch _ _) (modChan_serves ch _ _))

theorem withSeq_chan (seq : W64) : (s.withSeq ch psn seq).chan ch =
    ((s.dev.chan ch).received psn).genuine seq (s.dev.chan ch).consSeq := by
  have hack : (s.dev.fresh0.acknowledged ch psn).chan ch = (s.dev.chan ch).received psn := (Dev.chan_setChan ..).trans (if_pos rfl)
  refine ((Dev.chan_modChan ..).trans (if_pos rfl)).trans ?_
  rw [hack]
  rfl

/-- Whatever the count of rejected CONS_SEQs. -/
theorem withSeq_arrived (seq : W64) (n : Reg) : Arrived ch (.ack ch psn) (s.dev.fresh0.rebased n s.dev.sec.awake s.dev.cp)
    (((s.dev.chan ch).received psn).genuine seq (s.dev.chan ch).consSeq) ((s.withSeq ch psn seq).rebased n s.dev.sec.awake s.dev.cp) := by
  refine ⟨⟨serves_rebased ch (withSeq_serves s ch psn seq) n _ _, rfl, rfl⟩, ?_, rfl⟩
  have h : ((s.withSeq ch psn seq).rebased n s.dev.sec.awake s.dev.cp).chan ch = (s.withSeq ch psn seq).chan ch := rfl
  rw [h, withSeq_chan]
  exact Channel.butDrops_refl _

theorem messageTaken_eq (seq : W64) (imm : Option Reg) : messageTaken ch seq imm (s.dev.fresh0.acknowledged ch psn) =
    match imm with
    | some v => consumerUpdate ch v ((s.withSeq ch psn seq).rebased s.dev.tr.consRejCnt s.dev.sec.awake s.dev.cp)
    | none => (s.withSeq ch psn seq).rebased s.dev.tr.consRejCnt s.dev.sec.awake s.dev.cp := by
  unfold messageTaken
  rw [modSec_rebased]
  rfl

theorem consumerUpdate_good {v : Reg} {d : Dev} (h : (d.chan ch).goodImm v = true) :
    consumerUpdate ch v d = d.setChan ch { d.chan ch with consSeq := v } := if_pos (of_decide_eq_true h)

/-- The module counts a rejected CONS_SEQ. -/
def Dev.rejected (d : Dev) : Dev := { d with tr := { d.tr with consRejCnt := satAdd d.tr.consRejCnt 1 } }

theorem rebased_rejected (d : Dev) (n : Reg) (sec : Sec) (cp : CmdState) :
    (d.rebased n sec cp).rejected = d.rebased (satAdd n 1) sec cp := rfl

theorem consumerUpdate_bad {v : Reg} {d : Dev} (h : (d.chan ch).goodImm v = false) :
    ∃ e, consumerUpdate ch v d = report e d.rejected :=
  ⟨_, if_neg (of_decide_eq_false h)⟩

/-- A genuine message with its immediate data. -/
theorem messageTaken_arrived (seq : W64) (imm : Option Reg) :
    Arrived ch (.ack ch psn) (s.dev.fresh0.rebased (s.dev.consRejCnt ch imm) s.dev.sec.awake s.dev.cp)
      (((s.dev.chan ch).received psn).genuine seq ((s.dev.chan ch).consAfter imm))
      (messageTaken ch seq imm (s.dev.fresh0.acknowledged ch psn)) := by
  rw [messageTaken_eq]
  let e := (s.withSeq ch psn seq).rebased s.dev.tr.consRejCnt s.dev.sec.awake s.dev.cp
  have hplain := withSeq_arrived s ch psn seq s.dev.tr.consRejCnt
  have hce : e.chan ch = ((s.dev.chan ch).received psn).genuine seq (s.dev.chan ch).consSeq := withSeq_chan s ch psn seq
  rcases imm with _ | v
  · exact hplain
  have hgood : (e.chan ch).goodImm v = (s.dev.chan ch).goodImm v := by
    rw [hce]
    rfl
  rcases hg : (s.dev.chan ch).goodImm v with _ | _
  · obtain ⟨v', hrun⟩ := consumerUpdate_bad ch (hgood.trans hg)
    have hn : s.dev.consRejCnt ch (some v) = satAdd s.dev.tr.consRejCnt 1 := if_pos (by
      rw [show (s.dev.chan ch).consRejected (some v) = !(s.dev.chan ch).goodImm v from rfl, hg]
      rfl)
    have hcons : (s.dev.chan ch).consAfter (some v) = (s.dev.chan ch).consSeq := if_neg (by rw [hg]; exact Bool.false_ne_true)
    obtain ⟨hr, hc, hcp⟩ := withSeq_arrived s ch psn seq (satAdd s.dev.tr.consRejCnt 1)
    rw [hn, hcons]
    dsimp only
    rw [hrun, rebased_rejected]
    exact ⟨Dev.receives_endsOn hr (report_endsOn ..), Channel.butDrops_trans hc (report_butDrops ..), (report_same ..).1.trans hcp⟩
  · have hrun := consumerUpdate_good ch (hgood.trans hg)
    have hn : s.dev.consRejCnt ch (some v) = s.dev.tr.consRejCnt := if_neg (by
      rw [show (s.dev.chan ch).consRejected (some v) = !(s.dev.chan ch).goodImm v from rfl, hg]
      exact Bool.false_ne_true)
    have hcons : (s.dev.chan ch).consAfter (some v) = v := if_pos hg
    obtain ⟨hr, -, hcp⟩ := hplain
    rw [hn, hcons]
    dsimp only
    rw [hrun]
    refine ⟨Dev.receives_of hr (setChan_serves ch _ e) rfl rfl, ?_, hcp⟩
    have hch : (e.setChan ch { e.chan ch with consSeq := v }).chan ch = { e.chan ch with consSeq := v } :=
      (Dev.chan_setChan ..).trans (if_pos rfl)
    rw [hch, hce]
    exact Channel.butDrops_refl _

end

end Sys2Proof.Machine
end

section
/-!
COMMAND_ACCEPT settled: every packet of a SEND on a linked port (O21).
-/
namespace Sys2Proof.Machine

theorem forChannel_opened {d : Dev} {ch : Nat} {p : SendPkt} (h : d.forChannel ch p = true) : (d.chan ch).st = .opened := by
  unfold Dev.forChannel at h
  simp only [Bool.and_eq_true] at h
  obtain ⟨⟨⟨⟨hst, -⟩, -⟩, -⟩, -⟩ := h
  exact beq_iff_eq.1 hst

section
variable {s : State} {ch : Nat} {head : FrameHead} {p : SendPkt} {imm : Option Reg}

/-- The message of the last packet. -/
def sentMessage (p : SendPkt) (c : Channel) : List Byte := c.rx.getD [] ++ p.data

/-- Where the packet is the last one of a message, and the command processor takes it. -/
structure LastPacket (s : State) (ch : Nat) (head : FrameHead) (p : SendPkt) (imm : Option Reg) : Prop where
  runs : ∀ q : State → Prop,
    q (s.after (acceptMessage ch (sentMessage p (s.dev.chan ch)) imm (s.dev.fresh0.acknowledged ch p.psn))) →
      Runs (.commandAccept ch head p imm) s q
  closing : s.dev.cp.closing = false
  ending : s.dev.sec.ending = none

variable (hp : LastPacket s ch head p imm)
include hp

/-- A message that is no command. -/
theorem unsized_runs (hs : ¬ msgSized (sentMessage p (s.dev.chan ch))) {q : State → Prop}
    (hq : ∀ (a : Dev) (hdr' : BitVec 256), TurnedAway ch stBadLength 0 hdr' (breakGroup ch (s.dev.fresh0.acknowledged ch p.psn)) a →
      (3 ≤ (sentMessage p (s.dev.chan ch)).length → hdr' = msgHeader (sentMessage p (s.dev.chan ch))) → q (s.after a)) :
    Runs (.commandAccept ch head p imm) s q := by
  refine hp.runs q ?_
  rw [acceptMessage_unsized (d := s.dev.fresh0.acknowledged ch p.psn) hp.closing hp.ending hs]
  exact hq _ _ (refuseCommand_turnedAway ch _ 0 (by decide) _) fun h => if_neg (by omega)

/-- A message that is not genuine. -/
theorem unproven_runs (hs : msgSized (sentMessage p (s.dev.chan ch)))
    (hg : ¬ msgGenuine ch (sentMessage p (s.dev.chan ch)) (s.dev.fresh0.acknowledged ch p.psn)) {q : State → Prop}
    (hq : ∀ a : Dev, TurnedAway ch stAuth (fld (msgHeader (sentMessage p (s.dev.chan ch))) 128 64) (msgHeader (sentMessage p (s.dev.chan ch)))
      (breakGroup ch ((s.dev.fresh0.acknowledged ch p.psn).withCp s.dev.cp.unproven)) a → q (s.after a)) :
    Runs (.commandAccept ch head p imm) s q := by
  refine hp.runs q ?_
  obtain ⟨e, he⟩ := acceptMessage_false (imm := imm) (d := s.dev.fresh0.acknowledged ch p.psn) hp.closing hp.ending hs hg
  rw [he]
  exact hq _ ((refuseCommand_turnedAway ch _ _ (by decide) _).told ..)

/-- A genuine message. -/
theorem genuine_runs (hs : msgSized (sentMessage p (s.dev.chan ch)))
    (hg : msgGenuine ch (sentMessage p (s.dev.chan ch)) (s.dev.fresh0.acknowledged ch p.psn)) {q : State → Prop}
    (hq : ∀ d : Dev, Arrived ch (.ack ch p.psn) (s.dev.fresh0.rebased (s.dev.consRejCnt ch imm) s.dev.sec.awake s.dev.cp)
      (((s.dev.chan ch).received p.psn).genuine (fld (msgHeader (sentMessage p (s.dev.chan ch))) 128 64) ((s.dev.chan ch).consAfter imm)) d →
      q (s.after (acceptChecked ch (msgHeader (sentMessage p (s.dev.chan ch))) (sentMessage p (s.dev.chan ch)) d))) :
    Runs (.commandAccept ch head p imm) s q := by
  refine hp.runs q ?_
  rw [acceptMessage_genuine (d := s.dev.fresh0.acknowledged ch p.psn) hp.closing hp.ending hs hg]
  exact hq _ (messageTaken_arrived s ch p.psn _ imm)

omit hp in
theorem acknowledged_genuine {msg : List Byte} : msgGenuine ch msg (s.dev.fresh0.acknowledged ch p.psn) ↔ msgGenuine ch msg s.dev := by
  have hc : (s.dev.fresh0.acknowledged ch p.psn).chan ch = (s.dev.chan ch).received p.psn := (Dev.chan_setChan ..).trans (if_pos rfl)
  unfold msgGenuine
  rw [hc]
  rfl

/-! ### Without an open group -/

section
variable (hg : (s.dev.chan ch).group = none)
include hg

theorem unsized_alone (hs : ¬ msgSized (sentMessage p (s.dev.chan ch))) : Runs (.commandAccept ch head p imm) s (fun t =>
    s.tellsHost t ch (sentMessage p (s.dev.chan ch)).length (msgHeader (sentMessage p (s.dev.chan ch))) stBadLength 0 ∧
      ((s.dev.chan ch).received p.psn).butRefusals (t.dev.chan ch) ∧ t.dev.out = [.ack ch p.psn] ∧ s.frameCh t ch s.dev) :=
  unsized_runs hp hs fun _ _ hT hh => refused_alone (acknowledged_arrived s ch p.psn) hg rfl rfl hT hh

theorem unproven_alone (hs : msgSized (sentMessage p (s.dev.chan ch))) (hn : ¬ msgGenuine ch (sentMessage p (s.dev.chan ch)) s.dev) :
    Runs (.commandAccept ch head p imm) s (fun t =>
    s.tellsHost t ch (sentMessage p (s.dev.chan ch)).length (msgHeader (sentMessage p (s.dev.chan ch))) stAuth
        (fld (msgHeader (sentMessage p (s.dev.chan ch))) 128 64) ∧
      ((s.dev.chan ch).received p.psn).butRefusals (t.dev.chan ch) ∧ t.dev.out = [.ack ch p.psn] ∧
      s.frameCh t ch { s.dev with cp := s.dev.cp.unproven }) :=
  unproven_runs hp hs (mt acknowledged_genuine.1 hn) fun _ hT => refused_alone (unproven_arrived s ch p.psn) hg rfl rfl hT
    (fun _ => rfl)

end

/-! ### With an open group -/

section
variable {g : Group} (hg : (s.dev.chan ch).group = some g) (hnd : ((s.dev.inFlight ch).map (·.tag)).Nodup)
include hg hnd

/-- What a message that is no command leaves then: the group breaks. -/
theorem nocommand_grouped (h : ¬ msgSized (sentMessage p (s.dev.chan ch)) ∨ ¬ msgGenuine ch (sentMessage p (s.dev.chan ch)) s.dev) :
    Runs (.commandAccept ch head p imm) s (fun t => groupEnds s ch g stState t ∧
      s.tellsHost t ch (sentMessage p (s.dev.chan ch)).length (msgHeader (sentMessage p (s.dev.chan ch)))
        (if 48 ≤ (sentMessage p (s.dev.chan ch)).length ∧ (sentMessage p (s.dev.chan ch)).length ≤ 4096 then stAuth else stBadLength)
        (if 48 ≤ (sentMessage p (s.dev.chan ch)).length ∧ (sentMessage p (s.dev.chan ch)).length ≤ 4096
          then fld (msgHeader (sentMessage p (s.dev.chan ch))) 128 64 else 0) ∧
      (((s.dev.chan ch).received p.psn).regrouped none (some (g.id, g.size))).butRefusals (t.dev.chan ch) ∧
      t.dev.out = [.ack ch p.psn] ∧ s.frameCh t ch { s.dev with cp := t.dev.cp }) := by
  by_cases hs : msgSized (sentMessage p (s.dev.chan ch))
  · have hn : ¬ msgGenuine ch (sentMessage p (s.dev.chan ch)) s.dev := h.resolve_left (not_not.2 hs)
    have hs' : 48 ≤ (sentMessage p (s.dev.chan ch)).length ∧ (sentMessage p (s.dev.chan ch)).length ≤ 4096 := hs
    simp only [if_pos hs']
    exact unproven_runs hp hs (mt acknowledged_genuine.1 hn) fun _ hT => refused_grouped (unproven_arrived s ch p.psn) hg hg rfl hnd hT
      (fun _ => rfl)
  · have hs' : ¬ (48 ≤ (sentMessage p (s.dev.chan ch)).length ∧ (sentMessage p (s.dev.chan ch)).length ≤ 4096) := hs
    simp only [if_neg hs']
    exact unsized_runs hp hs fun _ _ hT hh => refused_grouped (acknowledged_arrived s ch p.psn) hg hg rfl hnd hT hh

end

end

/-- Settles O21: a packet is answered, kept or handed on; the message's command is judged against the state as it came, and what
becomes of an open group is told from the members in flight before it. -/
theorem commandAcceptance : Obligations.CommandAcceptance := by
  intro s ch head p imm hup hch hlink c x run
  refine ⟨commandAccept_dropped hup hch hlink, fun hk h => commandAccept_left hup hch hlink hk h, fun hk ht hfor => ?_⟩
  refine ⟨fun hpsn hlt => ?_, fun hpsn hle => ?_, fun hpsn hok => ?_, fun hpsn hok => ?_⟩
  · exact commandAccept_answered hup hch hlink hk ht hfor ((if_neg hpsn).trans (if_pos hlt))
  · exact commandAccept_answered hup hch hlink hk ht hfor ((if_neg hpsn).trans (if_neg (Nat.not_lt.2 hle)))
  · exact commandAccept_malformed hup hch hlink hk ht hfor hpsn (forChannel_opened hfor) hok
  intro msg hdr cmd got mac genuine goodImm rejected cons tr tells known whole sized
  have hlast (hw : whole) : LastPacket s ch head p imm :=
    ⟨fun q hq => commandAccept_message hup hch hlink hk ht hfor hpsn hok hw.1 hq, hw.2.1, hw.2.2⟩
  refine ⟨fun hform => commandAccept_part hup hch hlink hk ht hfor hpsn hok hform, fun hform hcl => ?_, fun hw hg => ?_,
    fun g hw hg hnd => ?_⟩
  · refine commandAccept_message hup hch hlink hk ht hfor hpsn hok hform ?_
    rw [acceptMessage_closing (d := s.dev.fresh0.acknowledged ch p.psn) hcl]
    obtain ⟨hr, -, -⟩ := acknowledged_arrived s ch p.psn
    refine ⟨?_, (State.after_out ..).trans rfl, frameCh_of_receives hr⟩
    rw [State.after_chan]
    exact (Dev.chan_setChan ..).trans (if_pos rfl)
  · have hp := hlast hw
    refine ⟨fun hs => unsized_alone hp hg hs, fun hs hn => unproven_alone hp hg hs hn, fun hs hgen => ?_⟩
    have hgen' := (acknowledged_genuine (p := p)).2 hgen
    refine ⟨fun st haway => ?_, fun htaken hf => ?_, fun htaken ha hf _ => ?_⟩
    · exact genuine_runs hp hs hgen' fun d hd => away_alone hd hg haway
    · refine genuine_runs hp hs hgen' fun d hd => ?_
      exact taken_alone hd hg htaken hf
    · exact genuine_runs hp hs hgen' fun d hd => stray_alone hd hg htaken ha hf
  · have hp := hlast hw
    intro next goes
    refine ⟨fun h => nocommand_grouped hp hg hnd h, fun hs hgen => ?_⟩
    have hgen' := (acknowledged_genuine (p := p)).2 hgen
    refine ⟨fun htaken hn hab => ?_, fun htaken hn hab => ?_, fun htaken hn hf => ?_, fun htaken hn ha hf => ?_,
      fun st haway hn => ?_, fun st haway hn => ?_⟩
    · exact genuine_runs hp hs hgen' fun d hd => member_taken hd hg htaken hn.2 hab
    · exact genuine_runs hp hs hgen' fun d hd => member_aborted hd hg htaken hn.2 hab
    · exact genuine_runs hp hs hgen' fun d hd => other_taken hd hg hnd htaken (fun h => hn ⟨turnsAway_known htaken, h⟩) hf
    · exact genuine_runs hp hs hgen' fun d hd => other_strays hd hg hnd htaken (fun h => hn ⟨turnsAway_known htaken, h⟩) ha hf
    · exact genuine_runs hp hs hgen' fun d hd => away_next hd hg hnd haway hn.1 hn.2
    · exact genuine_runs hp hs hgen' fun d hd => away_other hd hg hnd haway hn

end Sys2Proof.Machine
end

section
/-!
What leaves the strand lines as they stand (R241): reports, the point store, the island diagnostics and the current loops.
-/
namespace Sys2Proof.Machine

@[simp] theorem foldl_lines_eq {α : Type} {f : Dev → α → Dev} (h : ∀ d x, (f d x).lines = d.lines) (xs : List α) (d : Dev) :
    (xs.foldl f d).lines = d.lines := by
  induction xs generalizing d with
  | nil => rfl
  | cons x xs ih => exact (ih _).trans (h d x)

theorem Dev.lines_of_reports {d d' : Dev} (h : d.reportsOnly d') : d'.lines = d.lines := by
  unfold Dev.reportsOnly at h
  rw [h]

@[simp] theorem report_lines_eq (e : Event) (d : Dev) :
    (report e d).lines = d.lines :=
  Dev.lines_of_reports (report_reportsOnly e d)

@[simp] theorem oneCycle_lines_eq {f : Dev → Dev} (h : ∀ d, (f d).lines = d.lines) (d : Dev) : (oneCycle f d).lines = d.lines :=
  oneCycle_rel (R := fun a b => b.lines = a.lines) (fun _ _ _ h1 h2 => h2.trans h1)
    (fun _ _ ho _ => Dev.lines_of_reports ho) h d

theorem foldl_fst_lines_eq {α β : Type} {f : Dev × β → α → Dev × β} (h : ∀ a x, (f a x).1.lines = a.1.lines) (xs : List α)
    (a : Dev × β) : (xs.foldl f a).1.lines = a.1.lines := by
  induction xs generalizing a with
  | nil => rfl
  | cons x xs ih => exact (ih _).trans (h a x)

@[simp] theorem freeBit_lines_eq (d : Dev) : (freeBit d).2.lines = d.lines := rfl

@[simp] theorem freeBytes_lines_eq (n : Nat) (d : Dev) : (freeBytes n d).2.lines = d.lines := rfl

@[simp] theorem meanOpen_lines_eq (sum : Int) (n : Nat) (d : Dev) : (meanOpen sum n d).2.lines = d.lines := by
  unfold meanOpen
  repeat' split
  all_goals simp

@[simp] theorem setAlarm_lines_eq (d : Dev) (e : Nat) (x : Alarm) : (d.setAlarm e x).lines = d.lines := rfl

@[simp] theorem setSub_lines_eq (d : Dev) (e : Nat) (x : Sub) : (d.setSub e x).lines = d.lines := rfl

@[simp] theorem modChan_lines_eq (d : Dev) (c : Nat) (f : Channel → Channel) : (d.modChan c f).lines = d.lines := rfl

@[simp] theorem modStrand_lines_eq (d : Dev) (k : Nat) (f : Strand → Strand) : (d.modStrand k f).lines = d.lines := rfl

@[simp] theorem setNode_lines_eq (d : Dev) (e : Nat) (x : Node) : (d.setNode e x).lines = d.lines := rfl

@[simp] theorem modTask_lines_eq (d : Dev) (t : Nat) (f : Task → Task) : (d.modTask t f).lines = d.lines := rfl

@[simp] theorem modLoop_lines_eq (d : Dev) (l : Nat) (f : Loop → Loop) : (d.modLoop l f).lines = d.lines := rfl

@[simp] theorem setCloop_lines_eq (d : Dev) (k : Nat) (x : CLoop) : (d.setCloop k x).lines = d.lines := rfl

@[simp] theorem modPly_lines_eq (d : Dev) (f : Ply → Ply) : (d.modPly f).lines = d.lines := rfl

@[simp] theorem digestMark_lines_eq (areas : List Nat) (d : Dev) : (digestMark areas d).lines = d.lines := rfl

@[simp] theorem emit_lines_eq (d : Dev) (m : OutMsg) : (d.emit m).lines = d.lines := rfl

@[simp] theorem capture_lines_eq (x : RecIn) (d : Dev) :
    (capture x d).1.lines = d.lines :=
  Dev.lines_of_reports (capture_reportsOnly ..)

@[simp] theorem countDrop_lines_eq (ch : Nat) (rtype : BitVec 8) (ring : Bool) (d : Dev) :
    (countDrop ch rtype ring d).lines = d.lines :=
  rfl

@[simp] theorem enqueue_lines_eq (ch : Nat) (r : AttnRec) (d : Dev) :
    (enqueue ch r d).1.lines = d.lines :=
  Dev.lines_of_reports (enqueue_reportsOnly ..)

@[simp] theorem limitedFuel_lines_eq (n : Nat) (m : Limited) (d : Dev) :
    (limitedFuel n m d).lines = d.lines :=
  Dev.lines_of_reports (limitedFuel_reportsOnly ..)

@[simp] theorem reportLimited_lines_eq (scope qty : Nat) (e : Event) (d : Dev) :
    (reportLimited scope qty e d).lines = d.lines := by
  simp [reportLimited]

@[simp] theorem captureRep_lines_eq (x : RecIn) (d : Dev) : (captureRep x d).lines = d.lines := by
  unfold captureRep
  dsimp only
  repeat' split
  all_goals simp

@[simp] theorem dropRecord_lines_eq (ch : Nat) (rtype : BitVec 8) (ring : Bool) (d : Dev) :
    (dropRecord ch rtype ring d).lines = d.lines := by
  simp [dropRecord]

@[simp] theorem sweepRates_lines_eq (d : Dev) : (sweepRates d).lines = d.lines := by
  unfold sweepRates
  refine (foldl_lines_eq (fun d r => ?_) _ _).trans rfl
  split <;> simp

@[simp] theorem countUncorr_lines_eq (d : Dev) : (countUncorr d).lines = d.lines := rfl

@[simp] theorem pointChanged_lines_eq (p : Nat) (old : Point) (d : Dev) : (pointChanged p old d).lines = d.lines := by
  unfold pointChanged
  dsimp only
  split <;> simp

@[simp] theorem storePoint_lines_eq (p : Nat) (x : Point) (cal : W64) (d : Dev) : (storePoint p x cal d).lines = d.lines := by
  unfold storePoint
  dsimp only
  split <;> simp

@[simp] theorem produce_lines_eq (p : Nat) (v : W64) (q : BitVec 2) (det : BitVec 8) (cal : W64) (d : Dev) :
    (produce p v q det cal d).lines = d.lines := by
  unfold produce
  dsimp only
  repeat' split
  all_goals simp

@[simp] theorem produceQ_lines_eq (p : Nat) (q : BitVec 2) (det : BitVec 8) (cal : W64) (d : Dev) :
    (produceQ p q det cal d).lines = d.lines := by
  unfold produceQ
  dsimp only
  split <;> simp

@[simp] theorem produceAs_lines_eq (kind index p : Nat) (v : W64) (q : BitVec 2) (det : BitVec 8) (cal : W64) (d : Dev) :
    (produceAs kind index p v q det cal d).lines = d.lines := by
  unfold produceAs
  split <;> simp

@[simp] theorem produceQAs_lines_eq (kind index p : Nat) (q : BitVec 2) (det : BitVec 8) (cal : W64) (d : Dev) :
    (produceQAs kind index p q det cal d).lines = d.lines := by
  unfold produceQAs
  split <;> simp

@[simp] theorem releasePoint_lines_eq (p : Nat) (d : Dev) : (releasePoint p d).lines = d.lines := by
  unfold releasePoint
  dsimp only
  split <;> simp

@[simp] theorem releaseAs_lines_eq (kind index p : Nat) (d : Dev) : (releaseAs kind index p d).lines = d.lines := by
  unfold releaseAs
  split <;> simp

@[simp] theorem rightsChanged_lines_eq (d : Dev) : (rightsChanged d).lines = d.lines := by
  unfold rightsChanged
  refine foldl_lines_eq (fun d e => ?_) _ _
  dsimp only
  split
  all_goals
    split
    · exact report_lines_eq ..
    · split <;> rfl

@[simp] theorem deliver_lines_eq (ch : Nat) (r : AttnRec) (d : Dev) : (deliver ch r d).lines = d.lines := by
  unfold deliver
  dsimp only
  repeat' split
  all_goals simp

@[simp] theorem emitAlarm_lines_eq (e : Nat) (d : Dev) : (emitAlarm e d).lines = d.lines := by
  unfold emitAlarm
  split <;> simp

@[simp] theorem emitSub_lines_eq (e : Nat) (d : Dev) : (emitSub e d).lines = d.lines := by simp [emitSub]

@[simp] theorem scanEnd_lines_eq (d : Dev) : (scanEnd d).lines = d.lines := rfl

@[simp] theorem noteDeferred_lines_eq (d : Dev) : (noteDeferred d).lines = d.lines := by
  unfold noteDeferred
  split <;> simp

@[simp] theorem holdStep_lines_eq (d : Dev) : (holdStep d).lines = d.lines := by simp [holdStep]

@[simp] theorem pointEcc_lines_eq (table index : Nat) (d : Dev) : (pointEcc table index d).lines = d.lines := rfl

@[simp] theorem pointMemory_lines_eq (p : Nat) (d : Dev) : (pointMemory p d).lines = d.lines := by simp [pointMemory]

@[simp] theorem alarmMemory_lines_eq (e : Nat) (d : Dev) : (alarmMemory e d).lines = d.lines := by simp [alarmMemory]

@[simp] theorem subMemory_lines_eq (e : Nat) (d : Dev) : (subMemory e d).lines = d.lines := by simp [subMemory]

@[simp] theorem islandLinkLost_lines_eq (d : Dev) : (islandLinkLost d).lines = d.lines := by
  unfold islandLinkLost
  dsimp only
  repeat' split
  all_goals simp

@[simp] theorem safetySnapshot_lines_eq (snap : Option (List (BitVec 512))) (d : Dev) :
    (safetySnapshot snap d).lines = d.lines := by
  simp [safetySnapshot]

@[simp] theorem safetyPoint_lines_eq (i : Nat) (d : Dev) : (safetyPoint i d).lines = d.lines := by
  unfold safetyPoint
  split <;> simp

@[simp] theorem clCondition_lines_eq (k : Nat) (d : Dev) : (clCondition k d).lines = d.lines := by
  unfold clCondition
  dsimp only
  split <;> simp

@[simp] theorem clSample_lines_eq (k : Nat) (nA : Int) (d : Dev) : (clSample k nA d).lines = d.lines := rfl

@[simp] theorem clFrameEnd_lines_eq (k : Nat) (d : Dev) : (clFrameEnd k d).lines = d.lines := by simp [clFrameEnd]

@[simp] theorem hartCommit_lines_eq (k : Nat) (d : Dev) : (hartCommit k d).lines = d.lines := by
  unfold hartCommit
  dsimp only
  split
  · rfl
  · refine (foldl_lines_eq (fun d x => ?_) _ _).trans rfl
    split <;> simp

@[simp] theorem clClear_lines_eq (k : Nat) (d : Dev) : (clClear k d).lines = d.lines := rfl

@[simp] theorem clCommit_lines_eq (k : Nat) (cal : W64) (d : Dev) : (clCommit k cal d).lines = d.lines := by
  unfold clCommit
  rw [clClear_lines_eq, hartCommit_lines_eq]
  split
  · rfl
  · refine foldl_lines_eq (fun d p => ?_) _ _
    split <;> simp

@[simp] theorem clSetpoint_lines_eq (k : Nat) (v : Int) (q : BitVec 2) (d : Dev) : (clSetpoint k v q d).lines = d.lines := by
  unfold clSetpoint
  dsimp only
  repeat' split
  all_goals simp

@[simp] theorem clOutput_lines_eq (k : Nat) (d : Dev) : (clOutput k d).lines = d.lines := by
  unfold clOutput
  split <;> simp

@[simp] theorem clMemory_lines_eq (k : Nat) (d : Dev) : (clMemory k d).lines = d.lines := by simp [clMemory]

@[simp] theorem hartTransmit_lines_eq (k : Nat) (d : Dev) : (hartTransmit k d).lines = d.lines := by
  unfold hartTransmit
  dsimp only
  split <;> simp

@[simp] theorem hartReply_lines_eq (k cmd resp devst : Nat) (bytes : List Byte) (d : Dev) :
    (hartReply k cmd resp devst bytes d).lines = d.lines := by
  unfold hartReply
  dsimp only
  repeat' split
  all_goals simp

@[simp] theorem hartRetry_lines_eq (k : Nat) (d : Dev) : (hartRetry k d).lines = d.lines := by
  unfold hartRetry
  dsimp only
  split <;> simp

@[simp] theorem hartNoReply_lines_eq (k : Nat) (badFrame : Bool) (d : Dev) : (hartNoReply k badFrame d).lines = d.lines := by
  unfold hartNoReply
  dsimp only
  repeat' split
  all_goals simp

end Sys2Proof.Machine
end

section
/-!
What leaves the strand lines as they stand (R241): strands, loops and the slots of commands.
-/
namespace Sys2Proof.Machine

@[simp] theorem cutCopy_lines_eq (k : Nat) (d : Dev) : (cutCopy k d).lines = d.lines := by
  unfold cutCopy
  repeat' split
  all_goals simp

@[simp] theorem twinCompare_lines_eq (k : Nat) (d : Dev) : (twinCompare k d).lines = d.lines := by
  unfold twinCompare
  dsimp only
  repeat' split
  all_goals simp

theorem lineHears_lines_eq (mv : Nat) (rx : LineRx) (d : Dev) : (lineHears mv rx d).2.lines = d.lines := by
  unfold lineHears
  split
  · rfl
  · split <;> rfl

@[simp] theorem twinCopyReceive_lines_eq (k mv : Nat) (rx : LineRx) (d : Dev) :
    (twinCopyReceive k mv rx d).lines = d.lines := by
  unfold twinCopyReceive
  dsimp only
  split
  · split
    · exact lineHears_lines_eq ..
    · split
      · exact lineHears_lines_eq ..
      · split
        · exact lineHears_lines_eq ..
        · exact (twinCompare_lines_eq ..).trans (lineHears_lines_eq ..)
  · exact lineHears_lines_eq ..

@[simp] theorem slotResult_lines_eq (k a : Nat) (r : SlotResult) (d : Dev) : (slotResult k a r d).lines = d.lines := rfl

@[simp] theorem nodeMiss_lines_eq (k a lost : Nat) (d : Dev) : (nodeMiss k a lost d).lines = d.lines := by
  unfold nodeMiss
  dsimp only
  split <;> simp

@[simp] theorem identityReply_lines_eq (k a : Nat) (x : BitVec 128) (d : Dev) : (identityReply k a x d).lines = d.lines := by
  unfold identityReply
  dsimp only
  repeat' split
  all_goals simp

@[simp] theorem dataReply_lines_eq (k a : Nat) (watchdog : Bool) (values : List (BitVec 32)) (status : W64) (d : Dev) :
    (dataReply k a watchdog values status d).lines = d.lines := by
  unfold dataReply
  dsimp only
  repeat' split
  all_goals simp

@[simp] theorem strandReplyReceive_lines_eq (k pos mv : Nat) (rx : LineRx) (d : Dev) :
    (strandReplyReceive k pos mv rx d).lines = d.lines := by
  unfold strandReplyReceive
  extract_lets heard d1
  have h1 : d1.lines = d.lines := lineHears_lines_eq mv rx d
  have hb : ∀ f, (d1.modStrand k f).lines = d.lines := fun f => h1
  clear_value d1
  split
  · split
    · exact h1
    · dsimp only
      split
      · exact h1
      · split
        · exact hb _
        · refine iteInduction (motive := fun e : Dev => e.lines = d.lines) (fun _ => hb _) (fun _ => ?_)
          split
          · exact (reportLimited_lines_eq ..).trans (hb _)
          · split
            · exact (identityReply_lines_eq ..).trans h1
            · exact (dataReply_lines_eq ..).trans h1
  · exact h1

@[simp] theorem replySlotMiss_lines_eq (k a : Nat) (d : Dev) : (replySlotMiss k a d).lines = d.lines := by
  unfold replySlotMiss
  repeat' split
  all_goals simp

@[simp] theorem cycleEnd_lines_eq (k : Nat) (d : Dev) : (cycleEnd k d).lines = d.lines := by
  unfold cycleEnd
  dsimp only
  repeat' split
  all_goals simp

@[simp] theorem cyclesFrame_lines_eq (d : Dev) : (cyclesFrame d).lines = d.lines := by
  unfold cyclesFrame
  refine foldl_lines_eq (fun d k => ?_) _ _
  split
  · rfl
  · split <;> simp

@[simp] theorem holdInputs_lines_eq (key : Nat) (c : BitVec 256) (q : BitVec 2) (det : BitVec 8) (keep : Bool) (cal : W64)
    (d : Dev) :
    (holdInputs key c q det keep cal d).lines = d.lines := by
  unfold holdInputs
  refine foldl_lines_eq (fun d i => ?_) _ _
  dsimp only
  split <;> simp

@[simp] theorem statusCommit_lines_eq (key : Nat) (status : W64) (d : Dev) : (statusCommit key status d).lines = d.lines := by
  unfold statusCommit
  dsimp only
  split <;> simp

@[simp] theorem commitSlot_lines_eq (k : Nat) (cy : Cycle) (r : Nat × SlotResult) (d : Dev) :
    (commitSlot k cy r d).lines = d.lines := by
  have hr : ∀ (xs : List (Nat × BitVec 32)) (f : Dev → Nat × BitVec 32 → Dev) (s : W64),
      (∀ d x, (f d x).lines = d.lines) → (statusCommit (nodeKey k r.1) s (xs.foldl f d)).lines = d.lines := fun xs f s h =>
    (statusCommit_lines_eq ..).trans (foldl_lines_eq h _ _)
  unfold commitSlot
  extract_lets key n c
  split
  · rfl
  · rcases r.2 with ⟨values, status⟩ | status | _ | _ | _ | _
    · exact hr _ _ _ fun d iv => produceAs_lines_eq ..
    · exact statusCommit_lines_eq ..
    · rfl
    · exact holdInputs_lines_eq ..
    · rfl
    · dsimp only
      split
      · rfl
      · split
        · exact holdInputs_lines_eq ..
        · split
          · exact holdInputs_lines_eq ..
          · rfl

@[simp] theorem strandDownlink_lines_eq (k : Nat) (d : Dev) : (strandDownlink k d).lines = d.lines := rfl

@[simp] theorem nodeDisable_lines_eq (key : Nat) (d : Dev) : (nodeDisable key d).lines = d.lines := by simp [nodeDisable]

@[simp] theorem nodeMemory_lines_eq (key : Nat) (d : Dev) : (nodeMemory key d).lines = d.lines := by
  unfold nodeMemory
  split <;> simp

@[simp] theorem loopLatch_lines_eq (j : Nat) (d : Dev) : (loopLatch j d).lines = d.lines := rfl

@[simp] theorem loopReport_lines_eq (j : Nat) (e : LoopEv) (d : Dev) : (loopReport j e d).lines = d.lines := by
  unfold loopReport
  dsimp only
  split <;> simp

@[simp] theorem loopPut_lines_eq (j : Nat) (r : Loop × List LoopEv) (d : Dev) :
    (loopPut j r d).lines = d.lines := by
  simp [loopPut]

@[simp] theorem loopRun_lines_eq (j : Nat) (cal : W64) (d : Dev) : (loopRun j cal d).lines = d.lines := by simp [loopRun]

@[simp] theorem loopMiss_lines_eq (j : Nat) (cal : W64) (d : Dev) : (loopMiss j cal d).lines = d.lines := by simp [loopMiss]

@[simp] theorem loopCommit_lines_eq (j : Nat) (d : Dev) : (loopCommit j d).lines = d.lines := by
  unfold loopCommit
  dsimp only
  repeat' split
  all_goals simp

@[simp] theorem loopsPhaseC_lines_eq (n : Option Nat) (d : Dev) : (loopsPhaseC n d).lines = d.lines := by simp [loopsPhaseC]

@[simp] theorem loopsStrobe_lines_eq (d : Dev) : (loopsStrobe d).lines = d.lines := by
  unfold loopsStrobe
  split <;> simp

@[simp] theorem fastLatch_lines_eq (d : Dev) : (fastLatch d).lines = d.lines := by
  unfold fastLatch
  exact foldl_lines_eq (fun d j => loopLatch_lines_eq j d) _ _

@[simp] theorem fastWrite_lines_eq (n : Option Nat) (d : Dev) : (fastWrite n d).lines = d.lines := by
  unfold fastWrite
  dsimp only
  repeat' split
  all_goals simp

@[simp] theorem loopMemory_lines_eq (j : Nat) (d : Dev) : (loopMemory j d).lines = d.lines := by
  unfold loopMemory
  dsimp only
  repeat' split
  all_goals simp

@[simp] theorem setSlot_lines_eq (d : Dev) (c : Cmd) : (d.setSlot c).lines = d.lines := rfl

@[simp] theorem freeSlot_lines_eq (d : Dev) (ch tag : Nat) : (d.freeSlot ch tag).lines = d.lines := rfl

@[simp] theorem pollReady_lines_eq (ch : Nat) (d : Dev) : (pollReady ch d).lines = d.lines := rfl

@[simp] theorem pushCompletion_lines_eq (ch : Nat) (x : Completion) (d : Dev) : (pushCompletion ch x d).lines = d.lines := rfl

@[simp] theorem noteStatus_lines_eq (ch : Nat) (barrier : Option W64) (status : Nat) (d : Dev) :
    (noteStatus ch barrier status d).lines = d.lines := by
  unfold noteStatus
  repeat' split
  all_goals simp

@[simp] theorem lifecycleRefused_lines_eq (opcode status : Nat) (d : Dev) :
    (lifecycleRefused opcode status d).lines = d.lines := by
  unfold lifecycleRefused
  split <;> simp

@[simp] theorem finishOne_lines_eq (ch tag status failIndex : Nat) (reply : List Byte) (d : Dev) :
    (finishOne ch tag status failIndex reply d).lines = d.lines := by
  unfold finishOne
  dsimp only
  repeat' split
  all_goals simp

@[simp] theorem releaseEnded_lines_eq (ch : Nat) (n : Nat) (d : Dev) : (releaseEnded ch n d).lines = d.lines := by
  induction n generalizing d with
  | zero => rfl
  | succ n ih =>
    unfold releaseEnded
    split
    · rw [ih, finishOne_lines_eq]
    · rfl

@[simp] theorem finish_lines_eq (ch tag status failIndex : Nat) (reply : List Byte) (d : Dev) :
    (finish ch tag status failIndex reply d).lines = d.lines := by
  simp [finish]

@[simp] theorem endCommand_lines_eq (ch tag status : Nat) (d : Dev) : (endCommand ch tag status d).lines = d.lines := by
  unfold endCommand
  repeat' split
  all_goals simp

@[simp] theorem finishAll_lines_eq (cs : List Cmd) (status : Nat) (d : Dev) :
    (finishAll cs status d).lines = d.lines := by
  simp [finishAll]

@[simp] theorem internalEnd_lines_eq (ch tag : Nat) (d : Dev) : (internalEnd ch tag d).lines = d.lines := by
  unfold internalEnd
  split <;> simp

@[simp] theorem limitReport_lines_eq (ch tag : Nat) (d : Dev) : (limitReport ch tag d).lines = d.lines := by simp [limitReport]

@[simp] theorem discardCommands_lines_eq (ch : Nat) (d : Dev) : (discardCommands ch d).lines = d.lines := by
  unfold discardCommands
  dsimp only
  split <;> simp

@[simp] theorem abortGroup_lines_eq (ch : Nat) (d : Dev) : (abortGroup ch d).lines = d.lines := by
  unfold abortGroup
  split <;> simp

@[simp] theorem breakGroup_lines_eq (ch : Nat) (d : Dev) : (breakGroup ch d).lines = d.lines := by
  unfold breakGroup
  split <;> simp

end Sys2Proof.Machine
end

section
/-!
What leaves the strand lines as they stand (R241): metering, the recorder, the backup domain and the timebase.
-/
namespace Sys2Proof.Machine

@[simp] theorem meterSample_lines_eq (c : Nat) (raw : Int) (d : Dev) : (meterSample c raw d).lines = d.lines := rfl

@[simp] theorem sensorCondition_lines_eq (c : Nat) (d : Dev) : (sensorCondition c d).lines = d.lines := by
  unfold sensorCondition
  dsimp only
  split <;> simp

@[simp] theorem sensorFrame_lines_eq (c : Nat) (diff pP pN : Int) (d : Dev) :
    (sensorFrame c diff pP pN d).lines = d.lines :=
  rfl

@[simp] theorem duePut_lines_eq (c q : Nat) (v : BitVec 32) (qual : BitVec 2 × BitVec 8) (d : Dev) :
    (duePut c q v qual d).lines = d.lines := by
  unfold duePut
  dsimp only
  split <;> simp

@[simp] theorem dueRms_lines_eq (c : Nat) (wnd : Bool) (d : Dev) : (dueRms c wnd d).lines = d.lines := by
  unfold dueRms
  dsimp only
  split <;> simp

@[simp] theorem dueWindow_lines_eq (c : Nat) (hz : BitVec 32) (d : Dev) : (dueWindow c hz d).lines = d.lines := by
  unfold dueWindow
  repeat' split
  all_goals simp

@[simp] theorem pulseAccrue_lines_eq (c : Nat) (incs : List (Nat × Nat)) (d : Dev) :
    (pulseAccrue c incs d).lines = d.lines := by
  unfold pulseAccrue
  refine foldl_lines_eq (fun d k => ?_) _ _
  dsimp only
  split
  · split <;> simp
  · rfl

@[simp] theorem periodEnergy_lines_eq (c : Nat) (d : Dev) : (periodEnergy c d).lines = d.lines := by
  unfold periodEnergy
  dsimp only
  split
  · rfl
  · split
    · exact pulseAccrue_lines_eq ..
    · split <;> rfl

@[simp] theorem suspectMark_lines_eq (c : Nat) (d : Dev) : (suspectMark c d).lines = d.lines := by
  unfold suspectMark
  dsimp only
  repeat' split
  all_goals simp

@[simp] theorem chanPeriod_lines_eq (c len : Nat) (d : Dev) : (chanPeriod c len d).lines = d.lines := by
  unfold chanPeriod
  dsimp only
  split <;> simp

@[simp] theorem seqWindow_lines_eq (x : Nat) (d : Dev) : (seqWindow x d).lines = d.lines := by
  unfold seqWindow
  dsimp only
  repeat' split
  all_goals simp

@[simp] theorem neutralWindow_lines_eq (x : Nat) (d : Dev) : (neutralWindow x d).lines = d.lines := by
  unfold neutralWindow
  dsimp only
  repeat' split
  all_goals simp

@[simp] theorem voltageWindow_lines_eq (x : Nat) (d : Dev) : (voltageWindow x d).lines = d.lines := by
  unfold voltageWindow
  refine foldl_lines_eq (fun d i => ?_) _ _
  dsimp only
  split
  · rfl
  · split <;> simp

@[simp] theorem reverseWindow_lines_eq (c : Nat) (d : Dev) : (reverseWindow c d).lines = d.lines := by
  unfold reverseWindow
  dsimp only
  repeat' split
  all_goals simp

@[simp] theorem chanWindow_lines_eq (c : Nat) (hz : BitVec 32) (ref : Int × Int) (d : Dev) :
    (chanWindow c hz ref d).lines = d.lines := by
  unfold chanWindow
  dsimp only
  split <;> simp

@[simp] theorem windowEnd_lines_eq (x : Nat) (d : Dev) : (windowEnd x d).lines = d.lines := by
  unfold windowEnd
  dsimp only
  split <;> simp

@[simp] theorem periodEnd_lines_eq (x len : Nat) (d : Dev) : (periodEnd x len d).lines = d.lines := by
  unfold periodEnd
  dsimp only
  split <;> simp

@[simp] theorem syncLost_lines_eq (x : Nat) (d : Dev) : (syncLost x d).lines = d.lines := by
  unfold syncLost
  dsimp only
  split <;> simp

@[simp] theorem syncGained_lines_eq (x : Nat) (d : Dev) : (syncGained x d).lines = d.lines := by
  unfold syncGained
  dsimp only
  split <;> simp

@[simp] theorem meterZeroCrossing_lines_eq (x phase frac : Nat) (d : Dev) :
    (meterZeroCrossing x phase frac d).lines = d.lines := by
  unfold meterZeroCrossing
  split
  · rfl
  · extract_lets s t len pers d1 good was d2
    have h : d2.lines = d.lines := by
      dsimp only [d2]
      split <;> simp [d1]
    split
    · rw [periodEnd_lines_eq, h]
    · exact h

@[simp] theorem setSample_lines_eq (x : Nat) (d : Dev) : (setSample x d).lines = d.lines := by
  unfold setSample
  dsimp only
  repeat' split
  all_goals simp

@[simp] theorem meterSamples_lines_eq (xs : List (Nat × Int)) (d : Dev) :
    (meterSamples xs d).lines = d.lines := by
  simp [meterSamples]

@[simp] theorem quantCommit_lines_eq (c q : Nat) (x : Quant) (d : Dev) : (quantCommit c q x d).lines = d.lines := by
  unfold quantCommit
  split <;> simp

@[simp] theorem harmCommit_lines_eq (c : Nat) (d : Dev) : (harmCommit c d).lines = d.lines := by
  unfold harmCommit
  dsimp only
  split <;> simp

@[simp] theorem meterAfterA_lines_eq (d : Dev) : (meterAfterA d).lines = d.lines := by simp [meterAfterA]

@[simp] theorem meterAge_lines_eq (d : Dev) : (meterAge d).lines = d.lines := by simp [meterAge]

@[simp] theorem pulseFrame_lines_eq (k : Nat) (d : Dev) : (pulseFrame k d).lines = d.lines := by
  unfold pulseFrame
  dsimp only
  split <;> simp

@[simp] theorem pulseEnd_lines_eq (k : Nat) (d : Dev) : (pulseEnd k d).lines = d.lines := by
  unfold pulseEnd
  dsimp only
  repeat' split
  all_goals simp

@[simp] theorem accPreset_lines_eq (c : Nat) (mask : BitVec 7) (img : BitVec 1024) (d : Dev) :
    (accPreset c mask img d).lines = d.lines := by
  unfold accPreset
  split <;> simp

@[simp] theorem saveCopy_lines_eq (kind : Nat) (records : List Byte) (frame cal : W64) (tag : Reg) (d : Dev) :
    (saveCopy kind records frame cal tag d).lines = d.lines :=
  rfl

@[simp] theorem saveSample_lines_eq (d : Dev) : (saveSample d).lines = d.lines := by
  unfold saveSample
  repeat' split
  all_goals simp

@[simp] theorem restartSave_lines_eq (d : Dev) : (restartSave d).lines = d.lines := rfl

@[simp] theorem snapshotCapture_lines_eq (d : Dev) : (snapshotCapture d).lines = d.lines := rfl

@[simp] theorem accMemory_lines_eq (ram : Nat → Byte) (c : Nat) (d : Dev) : (accMemory ram c d).lines = d.lines := by
  unfold accMemory
  dsimp only
  split <;> simp

@[simp] theorem channelMemory_lines_eq (i : Nat) (d : Dev) : (channelMemory i d).lines = d.lines := by
  unfold channelMemory
  repeat' split
  all_goals simp

@[simp] theorem enqueueRep_lines_eq (ch : Nat) (x : AttnRec) (d : Dev) : (enqueueRep ch x d).lines = d.lines := by
  unfold enqueueRep
  dsimp only
  repeat' split
  all_goals simp

@[simp] theorem recMark_lines_eq (v : Reg) (d : Dev) : (recMark v d).lines = d.lines := by simp [recMark]

@[simp] theorem pointTrigger_lines_eq (t : Nat) (d : Dev) : (pointTrigger t d).lines = d.lines := by
  unfold pointTrigger
  dsimp only
  repeat' split
  all_goals simp

@[simp] theorem copyOne_lines_eq (i : Nat) (update : Bool) (d : Dev) : (copyOne i update d).lines = d.lines := by simp [copyOne]

@[simp] theorem copyLoop_lines_eq (n : Nat) (d : Dev) : (copyLoop n d).lines = d.lines := by
  induction n generalizing d with
  | zero => rfl
  | succ n ih =>
    unfold copyLoop
    dsimp only
    split
    · split <;> simp [ih]
    · split <;> simp

@[simp] theorem copyOut_lines_eq (d : Dev) : (copyOut d).lines = d.lines := by
  unfold copyOut
  repeat' split
  all_goals simp

@[simp] theorem tailStore_lines_eq (t : TailCap) (d : Dev) : (tailStore t d).lines = d.lines := rfl

@[simp] theorem tailClear_lines_eq (d : Dev) : (tailClear d).lines = d.lines := rfl

@[simp] theorem tailWarning_lines_eq (d : Dev) : (tailWarning d).lines = d.lines := by simp [tailWarning]

@[simp] theorem tailRestart_lines_eq (d : Dev) : (tailRestart d).lines = d.lines := rfl

@[simp] theorem recordMemory_lines_eq (i : Nat) (d : Dev) : (recordMemory i d).lines = d.lines := by
  unfold recordMemory
  dsimp only
  repeat' split
  all_goals simp

@[simp] theorem modBk_lines_eq (d : Dev) (f : Backup → Backup) : (d.modBk f).lines = d.lines := rfl

@[simp] theorem markAlarms_lines_eq (late : Bool) (d : Dev) : (markAlarms late d).lines = d.lines := by
  unfold markAlarms
  refine foldl_lines_eq (fun d k => ?_) _ _
  dsimp only
  split <;> simp

@[simp] theorem wake_lines_eq (cause : BitVec 8) (alarm : BitVec 3) (d : Dev) : (wake cause alarm d).lines = d.lines := by
  unfold wake
  repeat' split
  all_goals simp

@[simp] theorem alarmFire_lines_eq (k : Nat) (d : Dev) : (alarmFire k d).lines = d.lines := by
  have h := (alarmFire_only k d).2.1
  rw [h]

@[simp] theorem fireDue_lines_eq (fwd : Bool) (d : Dev) : (fireDue fwd d).lines = d.lines := by
  unfold fireDue
  refine foldl_lines_eq (fun d k => ?_) _ _
  split <;> simp

@[simp] theorem calStep_lines_eq (code : Nat) (cnt : Nat) (setFlags : Bool) (data : Nat) (d : Dev) :
    (calStep code cnt setFlags data d).lines = d.lines := by
  unfold calStep
  dsimp only
  repeat' split
  all_goals simp

@[simp] theorem calSlew_lines_eq (left : Int) (d : Dev) : (calSlew left d).lines = d.lines := rfl

@[simp] theorem slewDone_lines_eq (d : Dev) : (slewDone d).lines = d.lines := by
  unfold slewDone
  split <;> simp

@[simp] theorem timeSetCal_lines_eq (x : TimeSetDue) (d : Dev) : (timeSetCal x d).lines = d.lines := by
  unfold timeSetCal
  split <;> simp

@[simp] theorem timeSetEffect_lines_eq (x : TimeSetDue) (d : Dev) : (timeSetEffect x d).lines = d.lines := by
  unfold timeSetEffect
  dsimp only
  repeat' split
  all_goals simp

@[simp] theorem timeSetApply_lines_eq (x : TimeSetDue) (d : Dev) : (timeSetApply x d).lines = d.lines := by
  unfold timeSetApply
  dsimp only
  repeat' split
  all_goals simp

@[simp] theorem utcOffsetStep_lines_eq (d : Dev) : (utcOffsetStep d).lines = d.lines := by
  unfold utcOffsetStep
  repeat' split
  all_goals simp

@[simp] theorem utcChanged_lines_eq (delta : Int) (d : Dev) : (utcChanged delta d).lines = d.lines := by
  unfold utcChanged
  split <;> simp

@[simp] theorem trimVoid_lines_eq (d : Dev) : (trimVoid d).lines = d.lines := by
  unfold trimVoid
  split
  · rfl
  · exact iteInduction (motive := fun e : Dev => e.lines = d.lines) (fun _ => rfl) (fun _ => rfl)

@[simp] theorem trimEnd_lines_eq (d : Dev) : (trimEnd d).lines = d.lines := by
  unfold trimEnd
  dsimp only
  repeat' split
  all_goals simp

@[simp] theorem trimFrame_lines_eq (d : Dev) : (trimFrame d).lines = d.lines := by
  unfold trimFrame
  dsimp only
  repeat' split
  all_goals simp

@[simp] theorem settleBackup_lines_eq (d : Dev) : (settleBackup d).lines = d.lines := by
  unfold settleBackup
  dsimp only
  simp

@[simp] theorem rtcCount_lines_eq (d : Dev) : (rtcCount d).lines = d.lines := by
  unfold rtcCount
  dsimp only
  simp

@[simp] theorem oscStopped_lines_eq (d : Dev) : (oscStopped d).lines = d.lines := by
  unfold oscStopped
  dsimp only
  split <;> simp

@[simp] theorem vmainRestore_lines_eq (d : Dev) : (vmainRestore d).lines = d.lines := rfl

@[simp] theorem retentionLoss_lines_eq (d : Dev) : (retentionLoss d).lines = d.lines := rfl

@[simp] theorem wakePin_lines_eq (x : WakeChange) (d : Dev) : (wakePin x d).lines = d.lines := by
  unfold wakePin
  dsimp only
  split <;> simp

@[simp] theorem rlAck_lines_eq (d : Dev) : (rlAck d).lines = d.lines := rfl

@[simp] theorem shutdown_lines_eq (d : Dev) : (shutdown d).lines = d.lines := by simp [shutdown]

@[simp] theorem pwrHoldRelease_lines_eq (d : Dev) : (pwrHoldRelease d).lines = d.lines := by
  unfold pwrHoldRelease
  split <;> simp

@[simp] theorem lossBoot_lines_eq (fw : Reg) (d : Dev) : (lossBoot fw d).lines = d.lines := rfl

@[simp] theorem saveFail_lines_eq (b : Bool) (d : Dev) : (saveFail b d).lines = d.lines := by
  unfold saveFail
  split <;> simp

@[simp] theorem retainedMemory_lines_eq (e : Nat) (mask : BitVec 32) (d : Dev) : (retainedMemory e mask d).lines = d.lines := by
  unfold retainedMemory
  dsimp only
  repeat' split
  all_goals simp

@[simp] theorem modTb_lines_eq (d : Dev) (f : Timebase → Timebase) : (d.modTb f).lines = d.lines := rfl

@[simp] theorem steer_lines_eq (d : Dev) : (steer d).lines = d.lines := rfl

@[simp] theorem enterTb_lines_eq (st : TbState) (code : Nat) (isFault : Bool) (d : Dev) :
    (enterTb st code isFault d).lines = d.lines := by
  simp [enterTb]

@[simp] theorem alignWrite_lines_eq (on : Bool) (d : Dev) : (alignWrite on d).lines = d.lines := by
  unfold alignWrite
  dsimp only
  repeat' split
  all_goals simp

@[simp] theorem firstLock_lines_eq (target : Option W64) (d : Dev) : (firstLock target d).lines = d.lines := by
  unfold firstLock
  dsimp only
  repeat' split
  all_goals simp

@[simp] theorem measurement_lines_eq (m : Meas) (d : Dev) : (measurement m d).lines = d.lines := by
  unfold measurement
  dsimp only
  repeat' split
  all_goals simp

@[simp] theorem timebaseMeasurement_lines_eq (d : Dev) : (timebaseMeasurement d).lines = d.lines := by
  unfold timebaseMeasurement
  split <;> simp

@[simp] theorem timebaseTimeout_lines_eq (d : Dev) : (timebaseTimeout d).lines = d.lines := by
  unfold timebaseTimeout
  repeat' split
  all_goals simp

@[simp] theorem overrun_lines_eq (p : Phase) (d : Dev) : (overrun p d).lines = d.lines := by simp [overrun]

@[simp] theorem noteCut_lines_eq (p : Phase) (left : Bool) (d : Dev) : (noteCut p left d).lines = d.lines := by
  unfold noteCut
  split <;> simp

@[simp] theorem notePeak_lines_eq (p : Phase) (cycles : Nat) (d : Dev) : (notePeak p cycles d).lines = d.lines := rfl

end Sys2Proof.Machine
end

section
/-!
What leaves the strand lines as they stand (R241): channels, ports, network time and the logic sequencer.
-/
namespace Sys2Proof.Machine

@[simp] theorem openChannel_lines_eq (ch : Nat) (d : Dev) : (openChannel ch d).lines = d.lines := by simp [openChannel]

@[simp] theorem dropEgress_lines_eq (ch : Nat) (d : Dev) : (dropEgress ch d).lines = d.lines := rfl

@[simp] theorem closeChannel_lines_eq (ch : Nat) (d : Dev) : (closeChannel ch d).lines = d.lines := by
  unfold closeChannel
  split <;> simp

@[simp] theorem errorChannel_lines_eq (ch : Nat) (code : Nat) (d : Dev) : (errorChannel ch code d).lines = d.lines := by
  unfold errorChannel
  split <;> simp

@[simp] theorem channelOpen_lines_eq (ch : Nat) (d : Dev) : (channelOpen ch d).lines = d.lines := by
  unfold channelOpen
  dsimp only
  split <;> simp

@[simp] theorem channelClose_lines_eq (ch : Nat) (d : Dev) : (channelClose ch d).lines = d.lines := by
  unfold channelClose
  split <;> simp

@[simp] theorem sendWrite_lines_eq (ch : Nat) (kind : ReqKind) (addr : W64) (rkey : Reg) (data : List Byte) (imm : Option Reg)
    (d : Dev) :
    (sendWrite ch kind addr rkey data imm d).lines = d.lines :=
  rfl

@[simp] theorem resend_lines_eq (ch : Nat) (d : Dev) : (resend ch d).lines = d.lines := by
  unfold resend
  dsimp only
  split
  · split
    · rfl
    · exact (foldl_lines_eq (fun d r => emit_lines_eq d _) _ _).trans rfl
  · rfl

@[simp] theorem linkWaitReport_lines_eq (ch : Nat) (d : Dev) : (linkWaitReport ch d).lines = d.lines := by
  unfold linkWaitReport
  dsimp only
  split <;> simp

@[simp] theorem writeRecord_lines_eq (ch : Nat) (mk : Channel → Reg → AttnRec) (d : Dev) :
    (writeRecord ch mk d).lines = d.lines := by
  unfold writeRecord
  dsimp only
  split <;> simp

@[simp] theorem passTurn_lines_eq (ch : Nat) (d : Dev) : (passTurn ch d).lines = d.lines := rfl

@[simp] theorem recordTransmit_lines_eq (ch : Nat) (d : Dev) : (recordTransmit ch d).lines = d.lines := by
  unfold recordTransmit
  dsimp only
  repeat' split
  all_goals simp

@[simp] theorem pushRecord_lines_eq (ch : Nat) (r : AttnRec) (d : Dev) : (pushRecord ch r d).lines = d.lines := by
  unfold pushRecord
  dsimp only
  repeat' split
  all_goals simp

@[simp] theorem drainQueue_lines_eq (n : Nat) (d : Dev) : (drainQueue n d).lines = d.lines := by simp [drainQueue]

@[simp] theorem stepRecord_lines_eq (old new : W64) (d : Dev) : (stepRecord old new d).lines = d.lines := by
  unfold stepRecord
  extract_lets e0 e d1 r a
  have h1 : d1.lines = d.lines := by
    dsimp only [d1]
    split <;> simp
  have ha : a.1.lines = d1.lines := by
    refine foldl_fst_lines_eq (fun a ch => ?_) _ _
    dsimp only
    split <;> simp
  exact (foldl_lines_eq (fun d ch => pushRecord_lines_eq ch r d) _ _).trans (ha.trans h1)

@[simp] theorem producerPublish_lines_eq (ch : Nat) (d : Dev) : (producerPublish ch d).lines = d.lines := by
  unfold producerPublish
  dsimp only
  split <;> simp

@[simp] theorem rnrRetry_lines_eq (ch : Nat) (d : Dev) : (rnrRetry ch d).lines = d.lines := by
  unfold rnrRetry
  dsimp only
  repeat' split
  all_goals simp

@[simp] theorem invalidAnswer_lines_eq (ch : Nat) (d : Dev) : (invalidAnswer ch d).lines = d.lines := by
  unfold invalidAnswer
  dsimp only
  split <;> simp

@[simp] theorem consumerUpdate_lines_eq (ch : Nat) (v : Reg) (d : Dev) : (consumerUpdate ch v d).lines = d.lines := by
  unfold consumerUpdate
  dsimp only
  split <;> simp

@[simp] theorem startFrame_lines_eq (p t : Nat) (x : EgItem) (d : Dev) : (startFrame p t x d).lines = d.lines := rfl

@[simp] theorem serveFrames_lines_eq (p stop : Nat) (n : Nat) (d : Dev) : (serveFrames p stop n d).lines = d.lines := by
  induction n generalizing d with
  | zero => rfl
  | succ n ih =>
    unfold serveFrames
    dsimp only
    split
    · rfl
    · split
      · rfl
      · rw [ih, startFrame_lines_eq]

@[simp] theorem servePort_lines_eq (p stop : Nat) (d : Dev) : (servePort p stop d).lines = d.lines := by
  unfold servePort
  dsimp only
  repeat' split
  all_goals simp

@[simp] theorem egressSample_lines_eq (d : Dev) : (egressSample d).lines = d.lines := by simp [egressSample]

@[simp] theorem linkUp_lines_eq (p mbit : Nat) (d : Dev) : (linkUp p mbit d).lines = d.lines := by
  unfold linkUp
  dsimp only
  repeat' split
  all_goals simp

@[simp] theorem linkDown_lines_eq (p : Nat) (d : Dev) : (linkDown p d).lines = d.lines := by
  unfold linkDown
  dsimp only
  split <;> simp

@[simp] theorem pcsSyncLost_lines_eq (p : Nat) (d : Dev) : (pcsSyncLost p d).lines = d.lines := by
  unfold pcsSyncLost
  dsimp only
  split <;> simp

@[simp] theorem linkSearchStep_lines_eq (p : Nat) (d : Dev) : (linkSearchStep p d).lines = d.lines := by
  unfold linkSearchStep
  dsimp only
  repeat' split
  all_goals simp

@[simp] theorem arpAnswer_lines_eq (p : Nat) (a : ArpIn) (d : Dev) : (arpAnswer p a d).lines = d.lines := by
  unfold arpAnswer
  dsimp only
  repeat' split
  all_goals simp

@[simp] theorem pauseWatchdog_lines_eq (p : Nat) (d : Dev) : (pauseWatchdog p d).lines = d.lines := by
  unfold pauseWatchdog
  dsimp only
  repeat' split
  all_goals simp

@[simp] theorem pauseResumed_lines_eq (p : Nat) (d : Dev) : (pauseResumed p d).lines = d.lines := by
  unfold pauseResumed
  dsimp only
  split <;> simp

@[simp] theorem ownPauseSend_lines_eq (p quanta : Nat) (d : Dev) : (ownPauseSend p quanta d).lines = d.lines := by
  unfold ownPauseSend
  split <;> simp

@[simp] theorem ownPauseEnd_lines_eq (p : Nat) (d : Dev) : (ownPauseEnd p d).lines = d.lines := by simp [ownPauseEnd]

@[simp] theorem ownPauseRepeat_lines_eq (p : Nat) (d : Dev) : (ownPauseRepeat p d).lines = d.lines := by
  unfold ownPauseRepeat
  dsimp only
  split <;> simp

@[simp] theorem rxPauseLimit_lines_eq (p : Nat) (d : Dev) : (rxPauseLimit p d).lines = d.lines := by
  unfold rxPauseLimit
  dsimp only
  repeat' split
  all_goals simp

theorem nearestMs_lines_eq (t : Int) (d : Dev) : (nearestMs t d).2.lines = d.lines := by
  unfold nearestMs
  dsimp only
  split
  · rfl
  · split <;> rfl

@[simp] theorem syncTaken_lines_eq (follows : Bool) (s : SyncIn) (d : Dev) : (syncTaken follows s d).lines = d.lines := by
  unfold syncTaken
  dsimp only
  split
  · rfl
  · split
    · rfl
    · split
      · rfl
      · exact nearestMs_lines_eq ..

@[simp] theorem selectMaster_lines_eq (d : Dev) : (selectMaster d).lines = d.lines := by
  unfold selectMaster
  dsimp only
  repeat' split
  all_goals simp

@[simp] theorem announceTaken_lines_eq (a : AnnounceIn) (d : Dev) : (announceTaken a d).lines = d.lines := by
  unfold announceTaken
  split <;> simp

@[simp] theorem announceTimeout_lines_eq (p : Nat) (d : Dev) : (announceTimeout p d).lines = d.lines := by
  unfold announceTimeout
  repeat' split
  all_goals simp

@[simp] theorem pdelayTaken_lines_eq (p : Nat) (m : PdelayIn) (d : Dev) : (pdelayTaken p m d).lines = d.lines := by
  unfold pdelayTaken
  dsimp only
  repeat' split
  all_goals simp

@[simp] theorem ppsFrame_lines_eq (d : Dev) : (ppsFrame d).lines = d.lines := rfl

@[simp] theorem ppsSample_lines_eq (d : Dev) : (ppsSample d).lines = d.lines := rfl

@[simp] theorem mdioDrive_lines_eq (d : Dev) : (mdioDrive d).lines = d.lines := by
  unfold mdioDrive
  split <;> simp

@[simp] theorem mdioComplete_lines_eq (answer : Option (BitVec 16)) (d : Dev) : (mdioComplete answer d).lines = d.lines := by
  unfold mdioComplete
  dsimp only
  repeat' split
  all_goals simp

@[simp] theorem portsFrame_lines_eq (d : Dev) : (portsFrame d).lines = d.lines := rfl

@[simp] theorem portsSample_lines_eq (d : Dev) : (portsSample d).lines = d.lines := rfl

@[simp] theorem clearLive_lines_eq (iids : List Nat) (d : Dev) : (clearLive iids d).lines = d.lines := by simp [clearLive]

theorem execEntry_lines_eq (e : BEntry) (a : Dev × List OutVal) : (execEntry e a).1.lines = a.1.lines := rfl

theorem execEntries_lines_eq (ps : List (Nat × BEntry)) (a : Dev × List OutVal) :
    (ps.foldl (fun a e => execEntry e.2 a) a).1.lines = a.1.lines := by
  induction ps generalizing a with
  | nil => rfl
  | cons e ps ih => exact (ih (execEntry e.2 a)).trans (execEntry_lines_eq e.2 a)

@[simp] theorem exchange_lines_eq (t : Nat) (d : Dev) : (exchange t d).lines = d.lines := by
  unfold exchange
  dsimp only
  split
  · rfl
  · rw [digestMark_lines_eq]
    refine (foldl_lines_eq (fun d e => foldl_lines_eq (fun d o => ?_) _ _) _ _).trans rfl
    split <;> simp

@[simp] theorem exchangeEnd_lines_eq (t : Nat) (d : Dev) : (exchangeEnd t d).lines = d.lines := by
  unfold exchangeEnd
  split <;> simp

@[simp] theorem taskFault_lines_eq (t : Nat) (why : BitVec 8) (d : Dev) :
    (taskFault t why d).lines = d.lines := by
  simp [taskFault]

@[simp] theorem taskMark_lines_eq (t pos : Nat) (d : Dev) : (taskMark t pos d).lines = d.lines := by
  unfold taskMark
  dsimp only
  split <;> simp

@[simp] theorem taskMemFault_lines_eq (t pos iid : Nat) (d : Dev) :
    (taskMemFault t pos iid d).lines = d.lines := by
  simp [taskMemFault]

@[simp] theorem scanTask_lines_eq (t : Nat) (cut : ScanCut) (d : Dev) : (scanTask t cut d).lines = d.lines := by
  unfold scanTask
  extract_lets d1 d2 k prog upTo done
  have h1 : d2.lines = d.lines := (modTask_lines_eq ..).trans (exchange_lines_eq ..)
  have hu : ∀ n, (upTo n).1.lines = d.lines := fun n => (execEntries_lines_eq ..).trans h1
  have hd : ∀ r : Dev × List OutVal, (done r).lines = r.1.lines := fun r => modTask_lines_eq ..
  clear_value done upTo d2
  split
  · exact (hd _).trans (hu _)
  · exact (modTask_lines_eq ..).trans h1
  · split
    · exact (modTask_lines_eq ..).trans (hu _)
    · exact (hd _).trans (hu _)
  · exact (taskMemFault_lines_eq ..).trans ((taskMark_lines_eq ..).trans (hu _))

@[simp] theorem scanLane_lines_eq (lane : Nat) (cuts : List (Nat × ScanCut)) (d : Dev) :
    (scanLane lane cuts d).lines = d.lines := by
  unfold scanLane
  refine foldl_fst_lines_eq (fun a t => ?_) _ _
  dsimp only
  split <;> simp

@[simp] theorem scanAll_lines_eq (cuts : List (Nat × ScanCut)) (d : Dev) : (scanAll cuts d).lines = d.lines := by simp [scanAll]

@[simp] theorem taskStrobe_lines_eq (t : Nat) (d : Dev) : (taskStrobe t d).lines = d.lines := by
  unfold taskStrobe
  dsimp only
  repeat' split
  all_goals simp

@[simp] theorem taskCommit_lines_eq (t : Nat) (d : Dev) : (taskCommit t d).lines = d.lines := by
  unfold taskCommit
  extract_lets d1 k d2 d3 d4
  have h1 : d1.lines = d.lines := by
    dsimp only [d1]
    split <;> simp
  have h2 : d2.lines = d1.lines := by
    dsimp only [d2]
    split
    · refine foldl_lines_eq (fun d v => ?_) _ _
      split <;> simp
    · rfl
  have h3 : d3.lines = d2.lines := by
    dsimp only [d3]
    split <;> simp
  have h4 : d4.lines = d3.lines := by
    refine foldl_lines_eq (fun d p => ?_) _ _
    split <;> simp
  simp [h1, h2, h3, h4]

@[simp] theorem taskMemory_lines_eq (t pos iid : Nat) (d : Dev) : (taskMemory t pos iid d).lines = d.lines := by
  unfold taskMemory
  dsimp only
  repeat' split
  all_goals simp

@[simp] theorem bankMemory_lines_eq (i : Nat) (d : Dev) : (bankMemory i d).lines = d.lines := by
  unfold bankMemory
  split <;> simp

@[simp] theorem taskEntryMemory_lines_eq (t : Nat) (d : Dev) :
    (taskEntryMemory t d).lines = d.lines := by
  simp [taskEntryMemory]

end Sys2Proof.Machine
end

section
/-!
What leaves the strand lines as they stand (R241): the twin, sessions, updates and the boot.
-/
namespace Sys2Proof.Machine

@[simp] theorem plyReport_lines_eq (code : Nat) (isFault : Bool) (data : Nat) (d : Dev) :
    (plyReport code isFault data d).lines = d.lines := by
  simp [plyReport]

@[simp] theorem plySend_lines_eq (kind : Nat) (payload : List Byte) (giveup : Bool) (d : Dev) :
    (plySend kind payload giveup d).lines = d.lines := by
  unfold plySend
  dsimp only
  split <;> simp

@[simp] theorem plyNotice_lines_eq (code arg : Nat) (d : Dev) : (plyNotice code arg d).lines = d.lines := by simp [plyNotice]

@[simp] theorem plyStatus_lines_eq (d : Dev) : (plyStatus d).lines = d.lines := by
  unfold plyStatus
  split <;> simp

@[simp] theorem setRole_lines_eq (r : Role) (cause : Nat) (d : Dev) : (setRole r cause d).lines = d.lines := by simp [setRole]

@[simp] theorem joinQuiet_lines_eq (d : Dev) : (joinQuiet d).lines = d.lines := by simp [joinQuiet]

@[simp] theorem enterJoining_lines_eq (cause : Nat) (d : Dev) : (enterJoining cause d).lines = d.lines := by simp [enterJoining]

@[simp] theorem enterLeading_lines_eq (cause : Nat) (d : Dev) : (enterLeading cause d).lines = d.lines := by simp [enterLeading]

@[simp] theorem mirrorQuality_lines_eq (q : BitVec 2) (det : BitVec 8) (d : Dev) :
    (mirrorQuality q det d).lines = d.lines := by
  simp [mirrorQuality]

@[simp] theorem twinGone_lines_eq (giveup : Bool) (d : Dev) : (twinGone giveup d).lines = d.lines := by
  unfold twinGone
  dsimp only
  repeat' split
  all_goals simp

@[simp] theorem yieldStart_lines_eq (d : Dev) : (yieldStart d).lines = d.lines := by simp [yieldStart]

@[simp] theorem yieldSwap_lines_eq (d : Dev) : (yieldSwap d).lines = d.lines := by
  unfold yieldSwap
  split
  · rfl
  · split
    · split <;> simp
    · split <;> simp
    · rfl

@[simp] theorem yieldCancelled_lines_eq (d : Dev) : (yieldCancelled d).lines = d.lines := by
  unfold yieldCancelled
  repeat' split
  all_goals simp

@[simp] theorem selfYield_lines_eq (d : Dev) : (selfYield d).lines = d.lines := by
  unfold selfYield
  dsimp only
  split <;> simp

@[simp] theorem mirrorAll_lines_eq (d : Dev) : (mirrorAll d).lines = d.lines := by simp [mirrorAll]

@[simp] theorem plyHeard_lines_eq (h : BitVec 256) (d : Dev) : (plyHeard h d).lines = d.lines := by
  unfold plyHeard
  dsimp only
  repeat' split
  all_goals simp

@[simp] theorem plyRefuse_lines_eq (reason : Nat) (d : Dev) : (plyRefuse reason d).lines = d.lines := by simp [plyRefuse]

@[simp] theorem statusMeasure_lines_eq (h : BitVec 256) (txDelay rx : Nat) (d : Dev) :
    (statusMeasure h txDelay rx d).lines = d.lines := by
  unfold statusMeasure
  dsimp only
  repeat' split
  all_goals simp

@[simp] theorem joinAdvance_lines_eq (n : Nat) (d : Dev) : (joinAdvance n d).lines = d.lines := by
  induction n generalizing d with
  | zero => rfl
  | succ n ih =>
    unfold joinAdvance
    split
    · rw [ih, modPly_lines_eq]
    · rfl

@[simp] theorem soloMeets_lines_eq (h : BitVec 256) (lines : BitVec 48) (d : Dev) : (soloMeets h lines d).lines = d.lines := by
  unfold soloMeets
  dsimp only
  repeat' split
  all_goals simp

@[simp] theorem leaderServes_lines_eq (h : BitVec 256) (d : Dev) : (leaderServes h d).lines = d.lines := by
  unfold leaderServes
  dsimp only
  repeat' split
  all_goals simp

@[simp] theorem trailingFrames_lines_eq (d : Dev) : (trailingFrames d).lines = d.lines := by
  unfold trailingFrames
  dsimp only
  repeat' split
  all_goals simp

@[simp] theorem statusRole_lines_eq (h : BitVec 256) (lines : BitVec 48) (d : Dev) :
    (statusRole h lines d).lines = d.lines := by
  unfold statusRole
  dsimp only
  split
  · repeat' split
    all_goals simp
  · simp
  · simp
  · repeat' split
    all_goals simp
  · rfl

@[simp] theorem mirrorSend_lines_eq (n : Nat) (d : Dev) : (mirrorSend n d).lines = d.lines := by
  unfold mirrorSend
  split <;> simp

@[simp] theorem mirrorApply_lines_eq (e : BitVec 192) (d : Dev) : (mirrorApply e d).lines = d.lines := by
  unfold mirrorApply
  dsimp only
  split <;> simp

@[simp] theorem catchFrame_lines_eq (items : List CatchItem) (cut : Option W64) (last : Bool) (d : Dev) :
    (catchFrame items cut last d).lines = d.lines := by
  simp [catchFrame]

@[simp] theorem cutoverSend_lines_eq (n : Nat) (d : Dev) : (cutoverSend n d).lines = d.lines := by
  induction n generalizing d with
  | zero => rfl
  | succ n ih =>
    unfold cutoverSend
    dsimp only
    repeat' split
    all_goals simp [ih]

@[simp] theorem catchupSend_lines_eq (d : Dev) : (catchupSend d).lines = d.lines := by
  unfold catchupSend
  dsimp only
  repeat' split
  all_goals simp

@[simp] theorem cutoverFreeze_lines_eq (d : Dev) : (cutoverFreeze d).lines = d.lines := by
  unfold cutoverFreeze
  dsimp only
  repeat' split
  all_goals simp

@[simp] theorem catchupRestart_lines_eq (d : Dev) : (catchupRestart d).lines = d.lines := by
  unfold catchupRestart
  repeat' split
  all_goals simp

@[simp] theorem catchApply_lines_eq (d : Dev) (i : CatchItem) : (catchApply d i).lines = d.lines := by
  unfold catchApply
  dsimp only
  repeat' split
  all_goals simp

@[simp] theorem plyLinkLost_lines_eq (d : Dev) : (plyLinkLost d).lines = d.lines := by
  unfold plyLinkLost
  split <;> simp

@[simp] theorem hbLost_lines_eq (d : Dev) : (hbLost d).lines = d.lines := by
  unfold hbLost
  split <;> simp

@[simp] theorem twinLost_lines_eq (d : Dev) : (twinLost d).lines = d.lines := by
  unfold twinLost
  dsimp only
  repeat' split
  all_goals simp

@[simp] theorem joinTimeout_lines_eq (d : Dev) : (joinTimeout d).lines = d.lines := by
  unfold joinTimeout
  repeat' split
  all_goals simp

@[simp] theorem dropPly_lines_eq (d : Dev) : (dropPly d).lines = d.lines := rfl

@[simp] theorem latchCut_lines_eq (d : Dev) : (latchCut d).lines = d.lines := by
  unfold latchCut
  split <;> simp

@[simp] theorem health_lines_eq (d : Dev) : (health d).lines = d.lines := by
  unfold health
  split <;> simp

@[simp] theorem digestNow_lines_eq (a : Nat) (d : Dev) : (digestNow a d).lines = d.lines := rfl

@[simp] theorem digestRecompute_lines_eq (a : Nat) (d : Dev) : (digestRecompute a d).lines = d.lines := by
  unfold digestRecompute
  split <;> simp

@[simp] theorem digestMismatch_lines_eq (d : Dev) : (digestMismatch d).lines = d.lines := by
  unfold digestMismatch
  dsimp only
  split <;> simp

@[simp] theorem plyOverdue_lines_eq (d : Dev) : (plyOverdue d).lines = d.lines := by simp [plyOverdue]

@[simp] theorem plyFrameEnd_lines_eq (d : Dev) : (plyFrameEnd d).lines = d.lines := by
  unfold plyFrameEnd
  extract_lets d1 quiet due d2 eq neq d3
  have h1 : d1.lines = d.lines := by simp [d1]
  have h2 : d2.lines = d1.lines := foldl_lines_eq (fun d a => digestNow_lines_eq a d) _ _
  split <;> simp [d3, h1, h2]

@[simp] theorem plyFrameStart_lines_eq (d : Dev) : (plyFrameStart d).lines = d.lines := by
  unfold plyFrameStart
  dsimp only
  repeat' split
  all_goals simp

@[simp] theorem latchStroke_lines_eq (d : Dev) : (latchStroke d).lines = d.lines := rfl

@[simp] theorem modSec_lines_eq (d : Dev) (f : Sec → Sec) : (d.modSec f).lines = d.lines := rfl

@[simp] theorem hsSend_lines_eq (port : Nat) (mac : BitVec 48) (hsId : Reg) (msg : Nat) (body : List Byte) (d : Dev) :
    (hsSend port mac hsId msg body d).lines = d.lines := by
  unfold hsSend
  split <;> simp

@[simp] theorem hsResult_lines_eq (port : Nat) (mac : BitVec 48) (hsId : Reg) (reason : Nat) (d : Dev) :
    (hsResult port mac hsId reason d).lines = d.lines := by
  simp [hsResult]

@[simp] theorem hsRefuse_lines_eq (port : Nat) (mac : BitVec 48) (hsId : Reg) (reason : Nat) (d : Dev) :
    (hsRefuse port mac hsId reason d).lines = d.lines := by
  simp [hsRefuse]

@[simp] theorem hsFail_lines_eq (port : Nat) (mac : BitVec 48) (hsId : Reg) (reason : Nat) (d : Dev) :
    (hsFail port mac hsId reason d).lines = d.lines := by
  simp [hsFail]

@[simp] theorem hostHello_lines_eq (f : HsIn) (d : Dev) : (hostHello f d).lines = d.lines := by
  unfold hostHello
  dsimp only
  repeat' split
  all_goals simp

theorem portAddress_lines_eq {c : Channel} {a : List Byte} {d d' : Dev} (h : portAddress c a d = some d') :
    d'.lines = d.lines := by
  unfold portAddress at h
  split at h
  · obtain rfl := Option.some.inj h
    rfl
  · split at h
    · obtain rfl := Option.some.inj h
      rfl
    · cases h

@[simp] theorem establish_lines_eq (f : HsIn) (h : Handshake) (t2 : List Byte) (d : Dev) :
    (establish f h t2 d).lines = d.lines := by
  simp [establish]

@[simp] theorem hostFinish_lines_eq (f : HsIn) (d : Dev) : (hostFinish f d).lines = d.lines := by
  unfold hostFinish
  split
  · rfl
  · split
    · simp
    · extract_lets fail t2 c
      have hf : ∀ r, (fail r).lines = d.lines := fun r => hsFail_lines_eq ..
      split
      · exact hf _
      · split
        · exact hf _
        · split
          · exact hf _
          · split
            · exact hf _
            · rename_i h
              split
              · simp [portAddress_lines_eq h]
              · exact hf _

@[simp] theorem handshakeTimeout_lines_eq (d : Dev) : (handshakeTimeout d).lines = d.lines := by
  unfold handshakeTimeout
  repeat' split
  all_goals simp

@[simp] theorem enroll_lines_eq (f : HsIn) (d : Dev) : (enroll f d).lines = d.lines := by
  unfold enroll
  dsimp only
  repeat' split
  all_goals simp

@[simp] theorem endSession_lines_eq (reason : Nat) (d : Dev) : (endSession reason d).lines = d.lines := by
  unfold endSession
  split <;> simp

@[simp] theorem sessionEnd_lines_eq (f : HsIn) (d : Dev) : (sessionEnd f d).lines = d.lines := by
  unfold sessionEnd
  dsimp only
  repeat' split
  all_goals simp

@[simp] theorem sessionIdle_lines_eq (d : Dev) : (sessionIdle d).lines = d.lines := by
  unfold sessionIdle
  split <;> simp

@[simp] theorem debugAttached_lines_eq (d : Dev) : (debugAttached d).lines = d.lines := by
  unfold debugAttached
  split <;> simp

@[simp] theorem entropyFault_lines_eq (d : Dev) : (entropyFault d).lines = d.lines := by simp [entropyFault]

@[simp] theorem sessionRecord_lines_eq (reason : Nat) (rings : Bool) (d : Dev) :
    (sessionRecord reason rings d).lines = d.lines := by
  unfold sessionRecord
  dsimp only
  split
  · refine (foldl_lines_eq (fun d c => ?_) _ _).trans (report_lines_eq ..)
    split <;> simp
  · exact report_lines_eq ..

@[simp] theorem sessionPhaseE_lines_eq (d : Dev) : (sessionPhaseE d).lines = d.lines := by
  unfold sessionPhaseE
  repeat' split
  all_goals simp

@[simp] theorem updateAbandon_lines_eq (d : Dev) : (updateAbandon d).lines = d.lines := by
  unfold updateAbandon
  split <;> simp

@[simp] theorem sessionClear_lines_eq (d : Dev) : (sessionClear d).lines = d.lines := by simp [sessionClear]

@[simp] theorem sessionClose_lines_eq (d : Dev) : (sessionClose d).lines = d.lines := by
  unfold sessionClose
  split <;> simp

@[simp] theorem secFrame_lines_eq (d : Dev) : (secFrame d).lines = d.lines := by
  unfold secFrame
  dsimp only
  repeat' split
  all_goals simp

@[simp] theorem lifecycleNonce_lines_eq (d : Dev) : (lifecycleNonce d).lines = d.lines := rfl

@[simp] theorem modUpd_lines_eq (d : Dev) (f : Update → Update) : (d.modUpd f).lines = d.lines := rfl

@[simp] theorem modFlash_lines_eq (d : Dev) (f : Flash → Flash) : (d.modFlash f).lines = d.lines := rfl

@[simp] theorem modPwr_lines_eq (d : Dev) (f : Power → Power) : (d.modPwr f).lines = d.lines := rfl

@[simp] theorem updateData_lines_eq (off : Nat) (bs : List Byte) (d : Dev) : (updateData off bs d).lines = d.lines := rfl

@[simp] theorem updateReject_lines_eq (reason : Nat) (d : Dev) :
    (updateReject reason d).lines = d.lines := by
  simp [updateReject]

@[simp] theorem updateErased_lines_eq (ok : Bool) (d : Dev) : (updateErased ok d).lines = d.lines := by
  unfold updateErased
  repeat' split
  all_goals simp

@[simp] theorem updateVerified_lines_eq (flashErr : Bool) (d : Dev) : (updateVerified flashErr d).lines = d.lines := by
  unfold updateVerified
  dsimp only
  repeat' split
  all_goals simp

@[simp] theorem supplyWarn_lines_eq (d : Dev) : (supplyWarn d).lines = d.lines := by
  unfold supplyWarn
  split <;> simp

@[simp] theorem enterRecovery_lines_eq (cause : Nat) (d : Dev) : (enterRecovery cause d).lines = d.lines := rfl

@[simp] theorem bootNote_lines_eq (code data : Nat) (d : Dev) : (bootNote code data d).lines = d.lines := rfl

@[simp] theorem bootFuses_lines_eq (d : Dev) : (bootFuses d).lines = d.lines := by
  unfold bootFuses
  split <;> simp

@[simp] theorem bootInstall_lines_eq (d : Dev) : (bootInstall d).lines = d.lines := by
  unfold bootInstall
  dsimp only
  repeat' split
  all_goals simp

@[simp] theorem bootReturned_lines_eq (d : Dev) : (bootReturned d).lines = d.lines := by
  unfold bootReturned
  split <;> simp

@[simp] theorem bootBackup_lines_eq (ram : Nat → Byte) (d : Dev) : (bootBackup ram d).1.lines = d.lines := by
  unfold bootBackup
  dsimp only
  repeat' split
  all_goals simp

@[simp] theorem bootFrame_lines_eq (x : BootIn) (snap : Option (List (BitVec 512))) (ram : Nat → Byte) (cleared : Bool)
    (d : Dev) :
    (bootFrame x snap ram cleared d).lines = d.lines :=
  congrArg (fun x => x.2.2.1) (bootFrame_bootCore ..)

@[simp] theorem bootStart_lines_eq (x : BootIn) (snap : Option (List (BitVec 512))) (ram : Nat → Byte) (d : Dev) :
    (bootStart x snap ram d).lines = d.lines := by
  unfold bootStart
  dsimp only
  repeat' split
  all_goals simp

@[simp] theorem bootRun_lines_eq (x : BootIn) (snap : Option (List (BitVec 512))) (ram : Nat → Byte) (d : Dev) :
    (bootRun x snap ram d).lines = d.lines := by
  unfold bootRun
  dsimp only
  repeat' split
  all_goals simp

@[simp] theorem mainRelease_lines_eq (x : BootIn) (snap : Option (List (BitVec 512))) (ram : Nat → Byte) (d : Dev) :
    (mainRelease x snap ram d).lines = d.lines := by
  unfold mainRelease
  repeat' split
  all_goals simp

@[simp] theorem thermalRecover_lines_eq (x : BootIn) (snap : Option (List (BitVec 512))) (ram : Nat → Byte) (d : Dev) :
    (thermalRecover x snap ram d).lines = d.lines := by
  unfold thermalRecover
  dsimp only
  repeat' split
  all_goals simp

@[simp] theorem resetOutRelease_lines_eq (d : Dev) : (resetOutRelease d).lines = d.lines := by
  unfold resetOutRelease
  split <;> simp

end Sys2Proof.Machine
end

section
/-!
What leaves the strand lines as they stand (R241): commands and the phases of a frame.
-/
namespace Sys2Proof.Machine

@[simp] theorem noteRefused_lines_eq (ch index : Nat) (r : Refused) (d : Dev) : (noteRefused ch index r d).lines = d.lines := by
  unfold noteRefused
  split <;> simp

@[simp] theorem lifecycleCheck_lines_eq (c : Cmd) (d : Dev) : (lifecycleCheck c d).2.lines = d.lines := by
  unfold lifecycleCheck
  split <;> simp

@[simp] theorem endMembers_lines_eq (rs : List (Cmd × Check)) (d : Dev) :
    (endMembers rs d).lines = d.lines := by
  simp [endMembers]

@[simp] theorem discardOthers_lines_eq (c : Cmd) (d : Dev) : (discardOthers c d).lines = d.lines := by
  unfold discardOthers
  extract_lets keep d1
  have h1 : d1.lines = d.lines := by
    refine foldl_lines_eq (fun d ch => ?_) _ _
    split <;> simp
  clear_value d1
  exact h1

@[simp] theorem restartEffect_lines_eq (c : Cmd) (d : Dev) : (restartEffect c d).lines = d.lines := by
  unfold restartEffect
  dsimp only
  split <;> simp

@[simp] theorem restartDue_lines_eq (c : Cmd) (d : Dev) : (restartDue c d).lines = d.lines := by
  unfold restartDue
  repeat' split
  all_goals simp

@[simp] theorem restartSettle_lines_eq (d : Dev) : (restartSettle d).lines = d.lines := by
  unfold restartSettle
  split <;> simp

@[simp] theorem memberEnd_lines_eq (c : Cmd) (d : Dev) : (memberEnd c d).lines = d.lines := by
  unfold memberEnd
  repeat' split
  all_goals simp

@[simp] theorem beginPhaseF_lines_eq (stopped : Bool) (reach : Option Nat) (d : Dev) :
    (beginPhaseF stopped reach d).lines = d.lines :=
  rfl

@[simp] theorem refuseCommand_lines_eq (ch : Nat) (hdr : BitVec 256) (seq : W64) (status : Nat) (d : Dev) :
    (refuseCommand ch hdr seq status d).lines = d.lines := by
  simp [refuseCommand]

@[simp] theorem takeSlot_lines_eq (c : Cmd) (d : Dev) : (takeSlot c d).lines = d.lines := rfl

@[simp] theorem acceptFresh_lines_eq (c : Cmd) (d : Dev) : (acceptFresh c d).lines = d.lines := by
  unfold acceptFresh
  dsimp only
  repeat' split
  all_goals simp

@[simp] theorem acceptSlot_lines_eq (c : Cmd) (d : Dev) : (acceptSlot c d).lines = d.lines := by
  unfold acceptSlot
  dsimp only
  repeat' split
  all_goals simp

@[simp] theorem refusedFirst_lines_eq (c : Cmd) (d : Dev) : (refusedFirst c d).lines = d.lines := by
  unfold refusedFirst
  split <;> simp

@[simp] theorem arrivalRefused_lines_eq (c : Cmd) (d : Dev) : (arrivalRefused c d).lines = d.lines := by
  unfold arrivalRefused
  dsimp only
  repeat' split
  all_goals simp

@[simp] theorem acceptChecked_lines_eq (ch : Nat) (hdr : BitVec 256) (msg : List Byte) (d : Dev) :
    (acceptChecked ch hdr msg d).lines = d.lines := by
  unfold acceptChecked
  dsimp only
  repeat' split
  all_goals simp

@[simp] theorem acceptMessage_lines_eq (ch : Nat) (msg : List Byte) (imm : Option Reg) (d : Dev) :
    (acceptMessage ch msg imm d).lines = d.lines := by
  unfold acceptMessage
  dsimp only
  repeat' split
  all_goals simp

@[simp] theorem acceptPacket_lines_eq (ch : Nat) (p : SendPkt) (imm : Option Reg) (d : Dev) :
    (acceptPacket ch p imm d).lines = d.lines := by
  unfold acceptPacket
  dsimp only
  repeat' split
  all_goals simp

@[simp] theorem groupTimeout_lines_eq (ch : Nat) (d : Dev) : (groupTimeout ch d).lines = d.lines := by
  unfold groupTimeout
  repeat' split
  all_goals simp

@[simp] theorem downlinkMemory_lines_eq (k a : Nat) (d : Dev) : (downlinkMemory k a d).lines = d.lines := by
  unfold downlinkMemory
  dsimp only
  split <;> simp

@[simp] theorem meterWritten_lines_eq (c q : Nat) (d : Dev) : (meterWritten c q d).lines = d.lines := rfl

@[simp] theorem phaseA_lines_eq (reach : Option (Nat × Nat)) (cal : W64) (d : Dev) : (phaseA reach cal d).lines = d.lines := by
  unfold phaseA
  extract_lets lim s d1 d2 m d3 d4 d5 d6 p d7 l d8
  have h1 : d1.lines = d.lines := foldl_lines_eq (fun d x => commitSlot_lines_eq ..) _ _
  have h2 : d2.lines = d1.lines := by
    refine foldl_lines_eq (fun d k => ?_) _ _
    split <;> simp
  have h3 : d3.lines = d2.lines := foldl_lines_eq (fun d x => (meterWritten_lines_eq ..).trans (quantCommit_lines_eq ..)) _ _
  have h4 : d4.lines = d3.lines := by
    dsimp only [d4]
    split <;> simp
  have h5 : d5.lines = d4.lines := foldl_lines_eq (fun d k => clCommit_lines_eq ..) _ _
  have h6 : d6.lines = d5.lines := foldl_lines_eq (fun d k => clClear_lines_eq ..) _ _
  have h7 : d7.lines = d6.lines := foldl_lines_eq (fun d i => safetyPoint_lines_eq ..) _ _
  have h8 : d8.lines = d7.lines := foldl_lines_eq (fun d j => loopLatch_lines_eq ..) _ _
  simp [h1, h2, h3, h4, h5, h6, h7, h8]

@[simp] theorem phaseB_lines_eq (cuts : List (Nat × ScanCut)) (d : Dev) : (phaseB cuts d).lines = d.lines := by
  unfold phaseB
  split <;> simp

@[simp] theorem phaseC_lines_eq (reach : Option (Nat × Nat)) (d : Dev) : (phaseC reach d).lines = d.lines := by
  unfold phaseC
  split <;> simp

@[simp] theorem scanLost_lines_eq (t : Nat) (d : Dev) : (scanLost t d).lines = d.lines := by simp [scanLost]

@[simp] theorem phaseD_lines_eq (reach : Option (Nat × Nat)) (d : Dev) : (phaseD reach d).lines = d.lines := by
  unfold phaseD
  extract_lets lim tasks d1 d2 loops d3 d4 outs d5 d6
  have h1 : d1.lines = d.lines := foldl_lines_eq (fun d t => taskCommit_lines_eq ..) _ _
  have h2 : d2.lines = d1.lines := foldl_lines_eq (fun d t => scanLost_lines_eq ..) _ _
  have h3 : d3.lines = d2.lines := foldl_lines_eq (fun d j => loopCommit_lines_eq ..) _ _
  have h4 : d4.lines = d3.lines := foldl_lines_eq (fun d j => modLoop_lines_eq ..) _ _
  have h5 : d5.lines = d4.lines := foldl_lines_eq (fun d k => clOutput_lines_eq ..) _ _
  have h6 : d6.lines = d5.lines := foldl_lines_eq (fun d k => strandDownlink_lines_eq ..) _ _
  simp [h1, h2, h3, h4, h5, h6]

@[simp] theorem sweepAlarm_lines_eq (e : Nat) (d : Dev) : (sweepAlarm e d).lines = d.lines := rfl

@[simp] theorem emitNotice_lines_eq (x : Bool × Nat) (d : Dev) : (emitNotice x d).lines = d.lines := by
  unfold emitNotice
  split <;> simp

@[simp] theorem copyOutN_lines_eq (lim : Option Nat) (d : Dev) : (copyOutN lim d).lines = d.lines := by
  unfold copyOutN
  split
  · simp
  · split <;> simp

@[simp] theorem phaseE_lines_eq (reach : Option (Nat × Nat)) (d : Dev) : (phaseE reach d).lines = d.lines := by
  unfold phaseE
  extract_lets lim t d1 a d2 n d3 c d4 d5 m d6 q d7
  have h1 : d1.lines = d.lines := foldl_lines_eq (fun d t => pointTrigger_lines_eq ..) _ _
  have h2 : d2.lines = d1.lines := foldl_lines_eq (fun d t => sweepAlarm_lines_eq ..) _ _
  have h3 : d3.lines = d2.lines := (scanEnd_lines_eq _).trans (foldl_lines_eq (fun d x => emitNotice_lines_eq ..) _ _)
  simp [h1, h2, h3, d4, d5, d6, d7]

@[simp] theorem phaseF_lines_eq (stopped : Bool) (reach : Option (Nat × Nat)) (d : Dev) :
    (phaseF stopped reach d).lines = d.lines := by
  unfold phaseF
  split <;> simp

@[simp] theorem phaseStrobe_lines_eq (p : Phase) (d : Dev) : (phaseStrobe p d).lines = d.lines := by
  unfold phaseStrobe
  repeat' split
  all_goals simp

@[simp] theorem settleStrobes_lines_eq (d : Dev) : (settleStrobes d).lines = d.lines := by simp [settleStrobes]

@[simp] theorem noteLanePeak_lines_eq (x : Nat × Nat) (d : Dev) : (noteLanePeak x d).lines = d.lines := by
  unfold noteLanePeak
  split <;> simp

@[simp] theorem noteTaskPeak_lines_eq (x : Nat × Nat) (d : Dev) : (noteTaskPeak x d).lines = d.lines := by
  unfold noteTaskPeak
  split <;> simp

@[simp] theorem takeReadings_lines_eq (r : Readings) (d : Dev) : (takeReadings r d).lines = d.lines := rfl

@[simp] theorem fastSample_lines_eq (d : Dev) : (fastSample d).lines = d.lines := by
  unfold fastSample
  repeat' split
  all_goals simp

@[simp] theorem phaseAt_lines_eq (x : SampleIn) (d : Dev) : (phaseAt x d).lines = d.lines := by
  unfold phaseAt
  repeat' split
  all_goals simp

@[simp] theorem countFrame_lines_eq (d : Dev) : (countFrame d).lines = d.lines := by
  unfold countFrame
  dsimp only
  repeat' split
  all_goals simp

@[simp] theorem slowReads_lines_eq (dc : List (Nat × Int × Int × Int)) (d : Dev) : (slowReads dc d).lines = d.lines := by
  unfold slowReads
  exact (foldl_lines_eq (fun d c => sensorFrame_lines_eq ..) _ _).trans rfl

end Sys2Proof.Machine
end

section
/-!
The functions that change a strand line keep its GATE with its state (R241): the transitions, the samples and the frame of a
line, the copies that it carries, and the resets of the main domain.
-/
namespace Sys2Proof.Machine

/-- What follows leaves the lines alone. -/
theorem Dev.gates_then {a b c : Dev} (h : a.gates b) (hl : c.lines = b.lines) : a.gates c :=
  Dev.gates_trans h (Dev.gates_of_lines hl)

/-- What comes before leaves the lines alone. -/
theorem Dev.gates_after {a b c : Dev} (hl : b.lines = a.lines) (h : b.gates c) : a.gates c :=
  Dev.gates_trans (Dev.gates_of_lines hl) h

theorem setLine_gates {k : Nat} {l : Line} {d : Dev} (h : (d.line k).gate = (d.line k).powered → l.gate = l.powered) :
    d.gates (d.setLine k l) := (setLine_spares h).2

theorem modLine_gates {k : Nat} {f : Line → Line} {d : Dev} (h : ∀ l : Line, l.gate = l.powered → (f l).gate = (f l).powered) :
    d.gates (d.modLine k f) := (modLine_spares h).2

theorem oneCycle_gates {f : Dev → Dev} (h : ∀ d, Dev.gates d (f d)) (d : Dev) : d.gates (oneCycle f d) :=
  oneCycle_rel (R := Dev.gates) (fun _ _ _ => Dev.gates_trans) (fun _ _ ho _ => Dev.gates_of_lines (Dev.lines_of_reports ho)) h d

theorem line_congr {d d' : Dev} (h : d'.lines = d.lines) (k : Nat) : d'.line k = d.line k := congrArg (tget Line.reset · k) h

/-- No line of a module without its main domain has its GATE high. -/
theorem gated_of_lines_nil {d : Dev} (h : d.lines = []) : d.gated := by
  intro k
  have hk : d.line k = Line.reset := congrArg (tget Line.reset · k) h
  rw [hk]
  rfl

/-! ### The transitions of a line (R241 to R244) -/

theorem lineFailure_gates (k bitNo code : Nat) (d : Dev) : d.gates (lineFailure k bitNo code d) := by
  unfold lineFailure
  extract_lets l n last e d1 d2
  have h1 : d.gates d1 := by
    refine Dev.gates_trans (lineEnter_spares k (if last then .latched else .retryWait) d).2 ?_
    exact modLine_gates fun _ h => h
  have h2 : d.gates d2 := Dev.gates_then h1 (report_lines_eq e d1)
  clear_value d2
  split
  · exact Dev.gates_then h2 (report_lines_eq _ d2)
  · exact h2

theorem lineOvervolt_gates (k : Nat) (d : Dev) : d.gates (lineOvervolt k d) := by
  unfold lineOvervolt
  refine Dev.gates_then ?_ (report_lines_eq _ _)
  refine Dev.gates_trans ?_ (linePrecheck_spares k _ _).2
  exact modLine_gates fun _ h => h

theorem lineOverload_gates (k : Nat) (d : Dev) : d.gates (lineOverload k d) := by
  unfold lineOverload
  split
  · exact lineFailure_gates k 2 0x0604 d
  · exact Dev.gates_refl d

theorem fastTrip_gates (k : Nat) (mA : Int) (d : Dev) : d.gates (fastTrip k mA d) := by
  unfold fastTrip
  dsimp only
  split
  · refine Dev.gates_trans ?_ (lineFailure_gates k 1 0x0603 _)
    exact setLine_gates fun h => h
  · exact Dev.gates_refl d

theorem lineBackfeed_gates (k : Nat) (d : Dev) : d.gates (lineBackfeed k d) := by
  unfold lineBackfeed
  dsimp only
  split
  · exact lineOverload_gates k d
  · split
    · refine Dev.gates_then ?_ (report_lines_eq _ _)
      refine Dev.gates_trans ?_ (linePrecheck_spares k _ _).2
      exact setLine_gates fun h => h
    · exact Dev.gates_refl d

theorem precheckPassed_gates (k : Nat) (d : Dev) : d.gates (precheckPassed k d) := by
  unfold precheckPassed
  dsimp only
  split
  · refine Dev.gates_trans ?_ (lineEnter_spares k _ _).2
    exact setLine_gates fun h => h
  · exact Dev.gates_refl d

theorem lineRow_gates {k : Nat} {row : Dev → Dev} {d : Dev} (h : d.gates (row d)) : d.gates (lineRow k row d) := by
  unfold lineRow
  split
  · exact lineBackfeed_gates k d
  · exact h

theorem inrushEnd_gates (k : Nat) (d : Dev) : d.gates (inrushEnd k d) := by
  refine lineRow_gates ?_
  dsimp only
  split
  · exact Dev.gates_then (lineEnter_spares k .on d).2 (report_lines_eq _ _)
  · exact Dev.gates_refl d

theorem retryBackoffEnd_gates (k : Nat) (d : Dev) : d.gates (retryBackoffEnd k d) := by
  unfold retryBackoffEnd
  dsimp only
  split
  · exact (linePrecheck_spares k _ d).2
  · exact Dev.gates_refl d

theorem failCntClear_gates (k : Nat) (d : Dev) : d.gates (failCntClear k d) := by
  refine lineRow_gates ?_
  dsimp only
  split
  · exact setLine_gates fun h => h
  · exact Dev.gates_refl d

/-! ### The samples and the frame of a line (R232 to R240) -/

theorem lineOver_gates (k : Nat) (d : Dev) : d.gates (lineOver k d) := by
  unfold lineOver
  dsimp only
  split
  · exact lineOverload_gates k d
  · split
    · exact lineOvervolt_gates k d
    · exact Dev.gates_refl d

theorem lineSample_gates (k : Nat) (a b mA : Int) (d : Dev) : d.gates (lineSample k a b mA d) := by
  unfold lineSample
  extract_lets l0 l1 l d1
  have hl : l.gate = l0.gate ∧ l.powered = l0.powered := by
    dsimp only [l]
    split <;> exact ⟨rfl, rfl⟩
  have h1 : d.gates d1 := setLine_gates fun h => hl.1.trans (h.trans hl.2.symm)
  clear_value d1
  split
  · exact Dev.gates_trans h1 (fastTrip_gates k mA d1)
  · split
    · exact h1
    · exact Dev.gates_trans h1 (lineOver_gates k d1)

theorem lineMeans_gates (k n : Nat) (d : Dev) : d.gates (lineMeans k n d) := by
  unfold lineMeans
  extract_lets l i a b
  have hb : b.2.lines = d.lines := by simp [b, a, i]
  refine Dev.gates_after hb (setLine_gates fun h => ?_)
  rw [line_congr hb] at h
  exact h

theorem lineUndervolt_gates (k n : Nat) (d : Dev) : d.gates (lineUndervolt k n d) := by
  unfold lineUndervolt
  extract_lets l e d1
  have h1 : d.gates d1 := setLine_gates fun h => h
  clear_value d1
  split
  · split
    · exact h1
    · exact Dev.gates_then h1 (report_lines_eq e d1)
  · split
    · refine Dev.gates_then ?_ (report_lines_eq _ _)
      exact setLine_gates fun h => h
    · exact Dev.gates_refl d

theorem lineCauses_gates (k : Nat) (d : Dev) : d.gates (lineCauses k d) := by
  unfold lineCauses
  refine foldl_gates (fun d c => ?_) _ d
  extract_lets l d1
  have h1 : d.gates d1 := setLine_gates fun h => h
  clear_value d1
  split
  · split
    · exact h1
    · refine Dev.gates_then (Dev.gates_trans h1 ?_) (report_lines_eq _ _)
      exact modLine_gates fun _ h => h
  · exact Dev.gates_refl d

theorem lineFrame_gates (k n : Nat) (d : Dev) : d.gates (lineFrame k n d) := by
  unfold lineFrame
  extract_lets d1 l limit overFr backFr pre d2 d3
  have h1 : d.gates d1 := Dev.gates_trans (lineMeans_gates k n d) (lineUndervolt_gates k n _)
  have h2 : d1.gates d2 := setLine_gates fun h => h
  have h3 : d2.gates d3 := by
    dsimp only [d3]
    split
    · exact lineCauses_gates k d2
    · exact Dev.gates_refl d2
  refine Dev.gates_trans h1 (Dev.gates_trans h2 (Dev.gates_trans h3 ?_))
  refine Dev.gates_trans ?_ (lineOver_gates k _)
  exact modLine_gates fun _ h => h

theorem linesFrame_gates (n : Nat) (d : Dev) : d.gates (linesFrame n d) := foldl_gates (fun d k => lineFrame_gates k n d) _ d

/-! ### The copies of a strand (R238, R239) -/

theorem lineLevel_gates (k mV : Nat) (d : Dev) : d.gates (lineLevel k mV d) := by
  unfold lineLevel
  extract_lets l0 sum m high low ok l d1
  split
  · exact Dev.gates_refl d
  · split
    · exact setLine_gates fun h => h
    · have hm : m.2.lines = d.lines := meanOpen_lines_eq ..
      have h1 : d.gates d1 := by
        refine Dev.gates_after hm (setLine_gates fun h => ?_)
        rw [line_congr hm] at h
        exact h
      have hset : ∀ (e : Event) (x : Line), (l.gate = l.powered → x.gate = x.powered) → d.gates (report e (d1.setLine k x)) := by
        intro e x hx
        refine Dev.gates_then (Dev.gates_trans h1 (setLine_gates fun h => hx ?_)) (report_lines_eq _ _)
        have hl : d1.line k = l := (Dev.line_setLine ..).trans (if_pos rfl)
        rw [hl] at h
        exact h
      split
      · exact hset _ _ fun h => h
      · split
        · exact hset _ _ fun h => h
        · split
          · exact hset _ _ fun h => h
          · exact h1

theorem sendCopy_gates (k : Nat) (origin : Bool) (level : Nat) (d : Dev) : d.gates (sendCopy k origin level d) := by
  unfold sendCopy
  dsimp only
  split
  · exact Dev.gates_refl d
  · split
    · exact Dev.gates_refl d
    · refine Dev.gates_then ?_ (twinCompare_lines_eq _ _)
      refine Dev.gates_trans ?_ (lineLevel_gates k level _)
      exact Dev.gates_of_lines rfl

theorem strandCycleStart_gates (k level : Nat) (d : Dev) : d.gates (strandCycleStart k level d) := by
  unfold strandCycleStart
  extract_lets s br idx nodes d1
  split
  · exact Dev.gates_refl d
  · have h1 : d.gates d1 := Dev.gates_of_lines rfl
    clear_value d1
    split
    · exact Dev.gates_trans h1 (sendCopy_gates k false level d1)
    · exact h1

theorem trailingCopySend_gates (k level : Nat) (d : Dev) : d.gates (trailingCopySend k level d) := by
  unfold trailingCopySend
  extract_lets open_
  split
  · exact sendCopy_gates k true level d
  · exact Dev.gates_refl d

/-! ### The main domain in reset (R603, R607) -/

/-- Whatever it was, no GATE is high with the main domain in reset. -/
theorem gates_of_inReset {d e : Dev} (f : Dev) (h : e.lines = f.inReset.lines) : d.gates e := fun _ =>
  gated_of_lines_nil (h.trans rfl)

theorem vmainFail_gates (d : Dev) : d.gates (vmainFail d) := by
  unfold vmainFail
  dsimp only
  split
  · exact Dev.gates_refl d
  · exact gates_of_inReset d rfl

theorem restartReset_gates (d : Dev) : d.gates (restartReset d) := by
  unfold restartReset
  dsimp only
  split
  · exact Dev.gates_refl d
  · refine iteInduction (motive := d.gates) (fun _ => Dev.gates_refl d) (fun _ => ?_)
    exact gates_of_inReset _ (modPwr_lines_eq ..)

theorem shutdownFailed_gates (d : Dev) : d.gates (shutdownFailed d) := by
  unfold shutdownFailed
  split
  · exact gates_of_inReset d rfl
  · exact Dev.gates_refl d

theorem porstAssert_gates (d : Dev) : d.gates (porstAssert d) := gates_of_inReset d rfl

theorem thermal_gates (t : Int) (d : Dev) : d.gates (thermal t d) := by
  unfold thermal
  extract_lets v d1 r
  have hr : r.2.lines = d.lines := by
    dsimp only [r]
    split <;> rfl
  split
  · exact gates_of_inReset (depart r.2) rfl
  · exact Dev.gates_of_lines hr

end Sys2Proof.Machine
end

section
/-!
What a read of a register clears (R16, R17, R152) leaves GATE with the line state.
-/
namespace Sys2Proof.Machine

/-- What a read clears keeps GATE with the line state. -/
def RegDef.clearGates (r : RegDef) : Prop := ∀ v d, Dev.gates d (r.clear v d)

/-- A register whose reads clear nothing of a line. -/
theorem RegDef.clearGates_of_lines {r : RegDef} (h : ∀ v d, (r.clear v d).lines = d.lines) : r.clearGates := fun v d =>
  Dev.gates_of_lines (h v d)

theorem regsDevice_clearGates (off : Nat) : (regsDevice off).clearGates := by
  refine RegDef.clearGates_of_lines fun v d => ?_
  unfold regsDevice
  split <;> rfl

theorem regsTime_clearGates (off : Nat) : (regsTime off).clearGates := by
  refine RegDef.clearGates_of_lines fun v d => ?_
  unfold regsTime
  split
  case h_8 => split_ifs <;> rfl
  all_goals rfl

theorem regsPoints_clearGates (off : Nat) : (regsPoints off).clearGates := by
  refine RegDef.clearGates_of_lines fun v d => ?_
  unfold regsPoints
  split
  case h_5 => split_ifs <;> rfl
  all_goals rfl

theorem regsCmd_clearGates (off : Nat) : (regsCmd off).clearGates := by
  refine RegDef.clearGates_of_lines fun v d => ?_
  unfold regsCmd
  split
  case h_8 => split_ifs <;> rfl
  all_goals rfl

theorem regsPort_clear_lines (p o : Nat) (v : Reg) (d : Dev) : ((regsPort p o).clear v d).lines = d.lines := by
  unfold regsPort
  split
  case h_12 => split_ifs <;> rfl
  all_goals rfl

theorem regsNet_clearGates (off : Nat) : (regsNet off).clearGates := by
  refine RegDef.clearGates_of_lines fun v d => ?_
  unfold regsNet
  split
  case h_4 =>
    split_ifs
    · exact regsPort_clear_lines ..
    all_goals rfl
  all_goals rfl

/-- LINE_PEAK alone is cleared by a read of a line's registers. -/
theorem regsLine_clearGates (k o : Nat) : (regsLine k o).clearGates := by
  intro v d
  unfold regsLine
  split
  case h_8 => exact modLine_gates (f := fun l => { l with peak := unlessRead l.peak v }) fun _ h => h
  all_goals exact Dev.gates_refl d

theorem regsLogic_clearGates (off : Nat) : (regsLogic off).clearGates := by
  refine RegDef.clearGates_of_lines fun v d => ?_
  unfold regsLogic
  split
  case h_9 => split_ifs <;> rfl
  all_goals rfl

theorem regsMeter_clearGates (off : Nat) : (regsMeter off).clearGates := by
  refine RegDef.clearGates_of_lines fun v d => ?_
  unfold regsMeter
  split <;> rfl

theorem regsRecorder_clearGates (off : Nat) : (regsRecorder off).clearGates := by
  refine RegDef.clearGates_of_lines fun v d => ?_
  unfold regsRecorder
  split
  case h_9 => split_ifs <;> rfl
  all_goals rfl

theorem regsAdmit_clearGates (off : Nat) : (regsAdmit off).clearGates := by
  refine RegDef.clearGates_of_lines fun v d => ?_
  unfold regsAdmit
  split
  case h_13 => split_ifs <;> rfl
  all_goals rfl

theorem regDef_clearGates (off : Nat) : (regDef off).clearGates := by
  unfold regDef
  split_ifs
  · exact regsDevice_clearGates _
  · exact regsTime_clearGates _
  · exact regsPoints_clearGates _
  · exact regsCmd_clearGates _
  · exact regsNet_clearGates _
  · exact regsLine_clearGates _ _
  · exact regsLogic_clearGates _
  · exact fun _ d => Dev.gates_refl d
  · exact regsMeter_clearGates _
  · exact regsRecorder_clearGates _
  · exact regsAdmit_clearGates _

theorem readClears_gates (c : Cmd) (d : Dev) : d.gates (readClears c d) := by
  unfold readClears
  split
  · exact Dev.gates_refl d
  · extract_lets d1
    have h1 : d.gates d1 := foldl_gates (fun d i => regDef_clearGates (c.object i) _ d) _ d
    clear_value d1
    exact Dev.gates_then h1 rfl

end Sys2Proof.Machine
end

section
/-!
Frames of the twin and commands keep GATE of every strand with its line state (R241): what arrives at a port, the cutover, the
effects of commands, phase F, the limits and the acknowledgements.
-/
namespace Sys2Proof.Machine

/-! ### What arrives at a port (R203, R204) -/

theorem rxArrive_gates {p : Nat} {h : FrameHead} {f : Dev → Dev} {d : Dev} (hf : d.gates (f d)) : d.gates (rxArrive p h f d) := by
  unfold rxArrive
  split
  · exact Dev.gates_of_lines rfl
  · split
    · exact hf
    · exact Dev.gates_refl d

theorem ptpSync_gates (s : SyncIn) (d : Dev) : d.gates (ptpSync s d) := by
  unfold ptpSync
  split
  · exact Dev.gates_refl d
  · refine Dev.gates_trans (rxArrive_gates ?_) (rxArrive_gates (f := id) (Dev.gates_refl _))
    exact Dev.gates_of_lines (syncTaken_lines_eq ..)

theorem ptpAnnounce_gates (a : AnnounceIn) (d : Dev) : d.gates (ptpAnnounce a d) := by
  unfold ptpAnnounce
  split
  · exact rxArrive_gates (Dev.gates_of_lines (announceTaken_lines_eq ..))
  · exact Dev.gates_refl d

theorem pdelayMessage_gates (p : Nat) (m : PdelayIn) (d : Dev) : d.gates (pdelayMessage p m d) :=
  rxArrive_gates (Dev.gates_of_lines (pdelayTaken_lines_eq ..))

theorem arpRequest_gates (p : Nat) (a : ArpFrame) (d : Dev) : d.gates (arpRequest p a d) :=
  rxArrive_gates (Dev.gates_of_lines (arpAnswer_lines_eq ..))

theorem invalidRequest_gates (x : RequestIn) (d : Dev) : d.gates (invalidRequest x d) :=
  rxArrive_gates (Dev.gates_of_lines (invalidAnswer_lines_eq ..))

theorem commandAccept_gates (ch : Nat) (head : FrameHead) (p : SendPkt) (imm : Option Reg) (d : Dev) :
    d.gates (commandAccept ch head p imm d) := by
  unfold commandAccept
  dsimp only
  split
  · exact Dev.gates_refl d
  · refine rxArrive_gates (Dev.gates_of_lines ?_)
    repeat' split
    all_goals simp

/-! ### Frames of the twin (R513 to R534) -/

section
variable {kind : Nat} {bytes : List Byte} {act : Bool → BitVec 256 → List Byte → Dev → Dev}

/-- A frame of the twin does so where what it carries does. -/
theorem plyReceive_gates (h : ∀ g x p d, Dev.gates d (act g x p d)) (d : Dev) : d.gates (plyReceive kind bytes act d) := by
  refine rxArrive_gates ?_
  unfold plyTaken
  split
  · exact Dev.gates_of_lines rfl
  · split
    · exact Dev.gates_refl d
    · split
      · exact Dev.gates_of_lines rfl
      · exact Dev.gates_after (plyHeard_lines_eq ..) (h _ _ _ _)

end

theorem plyStatusReceive_gates (rx : Nat) (bytes : List Byte) (d : Dev) : d.gates (plyStatusReceive rx bytes d) :=
  plyReceive_gates (fun _ _ _ _ => Dev.gates_of_lines (by simp)) d

theorem plyMirrorReceive_gates (bytes : List Byte) (d : Dev) : d.gates (plyMirrorReceive bytes d) :=
  plyReceive_gates (fun _ _ _ _ => Dev.gates_of_lines (foldl_lines_eq (fun d _ => mirrorApply_lines_eq _ d) _ _)) d

theorem plyNoticeReceive_gates (bytes : List Byte) (d : Dev) : d.gates (plyNoticeReceive bytes d) := by
  refine plyReceive_gates (fun _ _ payload d => ?_) d
  dsimp only
  split
  · exact Dev.gates_of_lines (by simp)
  · exact Dev.gates_of_lines (by simp)
  · exact Dev.gates_of_lines (by simp)
  · refine Dev.gates_of_lines ?_
    split <;> simp
  · exact (unpair_spares d).2
  · split
    · exact oneCycle_gates (fun d => foldl_gates (fun d k => (strandLine_spares k _ d).2) _ d) d
    · exact Dev.gates_refl d
  · exact Dev.gates_of_lines (by simp)
  · exact Dev.gates_refl d

theorem plyCatchupReceive_gates (bytes : List Byte) (d : Dev) : d.gates (plyCatchupReceive bytes d) := by
  refine plyReceive_gates (fun gap _ payload d => Dev.gates_of_lines ?_) d
  refine iteInduction (motive := fun e : Dev => e.lines = d.lines) (fun _ => rfl) (fun _ => ?_)
  extract_lets head cut c same d1 d2
  refine iteInduction (motive := fun e : Dev => e.lines = d.lines) (fun _ => rfl) (fun _ => ?_)
  have h1 : d1.lines = d.lines := iteInduction (motive := fun e : Dev => e.lines = d.lines)
    (fun _ => (joinAdvance_lines_eq ..).trans rfl) (fun _ => rfl)
  have h2 : d2.lines = d.lines := iteInduction (motive := fun e : Dev => e.lines = d.lines) (fun _ => h1) (fun _ => h1)
  clear_value d2
  split
  · exact h2
  · split
    · exact h2
    · exact (foldl_lines_eq catchApply_lines_eq _ _).trans h2

theorem cutoverLoad_gates (d : Dev) : d.gates (cutoverLoad d) := by
  unfold cutoverLoad
  split
  · exact Dev.gates_refl d
  · split
    · exact Dev.gates_refl d
    · split
      · extract_lets d1 d2 d3 d4
        have h3 : d3.lines = d.lines :=
          (plyReport_lines_eq ..).trans ((modPly_lines_eq ..).trans ((setRole_lines_eq ..).trans
            (foldl_lines_eq catchApply_lines_eq _ d)))
        have h4 : d3.gates d4 := foldl_gates (fun d k => by
          split
          · exact (strandLine_spares k 1 d).2
          · exact Dev.gates_refl d) _ d3
        exact Dev.gates_after h3 (Dev.gates_then h4 (scanAll_lines_eq ..))
      · refine Dev.gates_of_lines ?_
        dsimp only
        split <;> simp

theorem plySettle_gates (d : Dev) : d.gates (plySettle d) := by
  unfold plySettle
  split
  · exact cutoverLoad_gates d
  · exact Dev.gates_refl d

/-! ### The effects of commands (R121 to R124) -/

theorem startReply_lines_eq (ram : Nat → Byte) (c : Cmd) (d : Dev) : (startReply ram c d).lines = d.lines := by
  unfold startReply
  extract_lets bytes ch taken x d1 d2
  have h2 : d2.lines = d.lines := (sendWrite_lines_eq ..).trans (setSlot_lines_eq ..)
  clear_value d2
  split
  · exact h2
  · exact (linkWaitReport_lines_eq ..).trans h2

theorem memberEffect_gates (ram : Nat → Byte) (c : Cmd) (d : Dev) : d.gates (memberEffect ram c d) := by
  unfold memberEffect
  split
  · exact Dev.gates_of_lines (startReply_lines_eq ..)
  · have h := operationEffect_gates c d
    dsimp only
    split
    · exact Dev.gates_then h rfl
    · exact h

theorem membersEffect_gates (ram : Nat → Byte) (ms : List Cmd) (d : Dev) : d.gates (membersEffect ram ms d) := by
  unfold membersEffect
  extract_lets d1 d2
  have h1 : d.gates d1 := foldl_gates (fun d c => memberEffect_gates ram c d) _ d
  have h2 : d1.gates d2 := by
    dsimp only [d2]
    split
    · exact Dev.gates_of_lines (rightsChanged_lines_eq d1)
    · exact Dev.gates_refl d1
  exact Dev.gates_trans h1 (Dev.gates_trans h2 (foldl_gates (fun d c => memberEffect_gates ram c d) _ d2))

theorem applyMembers_gates (ram : Nat → Byte) (ms : List Cmd) (d : Dev) : d.gates (applyMembers ram ms d) := by
  unfold applyMembers
  dsimp only
  split
  · exact Dev.gates_of_lines (endMembers_lines_eq ..)
  · refine Dev.gates_then (membersEffect_gates ram ms d) ?_
    exact (foldl_lines_eq (fun d c => restartDue_lines_eq c d) _ _).trans (foldl_lines_eq (fun d c => memberEnd_lines_eq c d) _ _)

theorem internalEffect_gates (c : Cmd) (d : Dev) : d.gates (internalEffect c d) := by
  unfold internalEffect
  refine iteInduction (motive := d.gates) (fun _ => Dev.gates_refl d) (fun _ => ?_)
  extract_lets passes r d1
  have hr : d.gates r.2 := Dev.gates_of_lines rfl
  have h1 : d.gates d1 := Dev.gates_trans hr (operationEffect_gates c r.2)
  clear_value d1
  refine iteInduction (motive := d.gates) (fun _ => Dev.gates_refl d) (fun _ => ?_)
  refine iteInduction (motive := d.gates) (fun _ => hr) (fun _ => ?_)
  exact iteInduction (motive := d.gates) (fun _ => Dev.gates_then h1 (rightsChanged_lines_eq d1)) (fun _ => h1)

theorem limitCommand_gates (c : Cmd) (d : Dev) : d.gates (limitCommand c d) :=
  Dev.gates_then (internalEffect_gates c d) (limitReport_lines_eq ..)

/-- A command that a host writes of itself, without one of its packets. -/
theorem directWrite_gates (c : Cmd) (d : Dev) : d.gates (directWrite c d) := by
  unfold directWrite
  split
  · exact Dev.gates_refl d
  · split
    · exact Dev.gates_of_lines (noteRefused_lines_eq ..)
    · exact Dev.gates_then (configEffect_gates c d) (rightsChanged_lines_eq _)

/-! ### Phase F (R147 to R150) -/

theorem phaseFItem_gates {ram : Nat → Byte} {room n : Nat} {ms : List Cmd} {d d' : Dev}
    (h : phaseFItem ram room ms d = some (n, d')) :
    d.gates d' := by
  unfold phaseFItem at h
  extract_lets _ out at h
  split at h
  · obtain ⟨rfl, rfl⟩ := Prod.mk.inj (Option.some.inj h)
    exact Dev.gates_of_lines (endMembers_lines_eq ..)
  · split at h
    · obtain ⟨rfl, rfl⟩ := Prod.mk.inj (Option.some.inj h)
      exact Dev.gates_of_lines ((endMembers_lines_eq ..).trans (noteRefused_lines_eq ..))
    · split at h
      · cases h
      · obtain ⟨rfl, rfl⟩ := Prod.mk.inj (Option.some.inj h)
        exact Dev.gates_trans (Dev.gates_of_lines (d' := out) rfl) (applyMembers_gates ram ms out)

theorem phaseFLoop_gates (ram : Nat → Byte) (n room : Nat) (d : Dev) : d.gates (phaseFLoop ram n room d).2 := by
  induction n generalizing room d with
  | zero => exact Dev.gates_refl d
  | succ n ih =>
    unfold phaseFLoop
    split
    · exact Dev.gates_of_lines rfl
    · split
      · refine Dev.gates_trans ?_ (ih _ _)
        exact Dev.gates_of_lines rfl
      · split
        · exact Dev.gates_refl d
        · next hi => exact Dev.gates_trans (phaseFItem_gates hi) (ih _ _)

theorem phaseFCommands_gates (ram : Nat → Byte) (reach : Option Nat) (d : Dev) : d.gates (phaseFCommands ram reach d) := by
  unfold phaseFCommands
  exact Dev.gates_then (phaseFLoop_gates ram _ ceilF d) (noteCut_lines_eq ..)

theorem endPhaseF_gates (ram : Nat → Byte) (d : Dev) : d.gates (endPhaseF ram d) := by
  unfold endPhaseF
  split
  · exact Dev.gates_refl d
  · next stopped reach _ =>
    extract_lets _ d1 d2
    have h2 : d1.gates d2 := by
      dsimp only [d2]
      split
      · exact Dev.gates_of_lines (noteCut_lines_eq ..)
      · exact phaseFCommands_gates ram reach d1
    have h1 : d.gates d1 := Dev.gates_of_lines rfl
    clear_value d2
    exact Dev.gates_then (Dev.gates_trans h1 h2) rfl

/-! ### Limits, errors and acknowledgements (R124, R130, R186) -/

theorem commandMemory_gates (ch tag : Nat) (d : Dev) : d.gates (commandMemory ch tag d) := by
  unfold commandMemory
  split
  · exact Dev.gates_refl d
  · split
    · exact Dev.gates_refl d
    · exact Dev.gates_of_lines (internalEnd_lines_eq ..)
    · exact Dev.gates_of_lines rfl
    · split
      · exact Dev.gates_of_lines (finishAll_lines_eq ..)
      · split
        · exact Dev.gates_of_lines (endCommand_lines_eq ..)
        · exact Dev.gates_then (internalEffect_gates _ d) (finish_lines_eq ..)

theorem scrubPass_gates (x : ScrubIn) (d : Dev) : d.gates (scrubPass x d) := by
  unfold scrubPass
  extract_lets _ d1 d2
  have h1 : d.gates d1 := Dev.gates_of_lines rfl
  have h2 : d2.lines = d1.lines := by
    refine foldl_lines_eq (fun d y => ?_) _ _
    split <;> simp
  exact Dev.gates_trans (Dev.gates_then h1 h2) (foldl_gates (fun d (y : Nat × Nat) => commandMemory_gates y.1 y.2 d) _ d2)

theorem commandLimit_gates (ch tag : Nat) (d : Dev) : d.gates (commandLimit ch tag d) := by
  unfold commandLimit
  split
  · exact Dev.gates_refl d
  · split
    · exact limitCommand_gates _ d
    · exact Dev.gates_refl d

theorem settleLimits_gates (d : Dev) : d.gates (settleLimits d) := by
  unfold settleLimits
  extract_lets d1
  have h1 : d1.lines = d.lines := foldl_lines_eq (fun d ch => groupTimeout_lines_eq ch d) _ _
  clear_value d1
  refine Dev.gates_after h1 ?_
  exact foldl_gates (fun d (c : Cmd) => commandLimit_gates c.ch c.tag d) _ _

theorem replyAcked_gates (ch tag : Nat) (seq : W64) (reply : List Byte) (d : Dev) : d.gates (replyAcked ch tag seq reply d) := by
  unfold replyAcked
  split
  · split
    · exact Dev.gates_refl d
    · split
      · exact Dev.gates_of_lines (limitReport_lines_eq ..)
      · exact Dev.gates_then (readClears_gates _ d) (finish_lines_eq ..)
  · exact Dev.gates_refl d

theorem hostAck_gates (ch : Nat) (psn : BitVec 24) (d : Dev) : d.gates (hostAck ch psn d) := by
  unfold hostAck
  dsimp only
  split
  · exact Dev.gates_refl d
  · split
    · exact Dev.gates_refl d
    · refine Dev.gates_after ?_ (foldl_gates (fun d r => ?_) _ _)
      · rfl
      · split
        · exact replyAcked_gates ch _ _ _ d
        · exact Dev.gates_refl d

theorem hostNak_gates (ch : Nat) (psn : BitVec 24) (kind : NakKind) (d : Dev) : d.gates (hostNak ch psn kind d) := by
  unfold hostNak
  dsimp only
  split
  · exact Dev.gates_refl d
  · refine Dev.gates_then (hostAck_gates ch (psn - 1) d) ?_
    split
    · simp
    · simp
    · simp
    · split <;> simp

theorem hostAckFrame_gates (ch : Nat) (psn : BitVec 24) (d : Dev) : d.gates (hostAckFrame ch psn d) :=
  rxArrive_gates (hostAck_gates ch psn d)

theorem hostNakFrame_gates (ch : Nat) (psn : BitVec 24) (kind : NakKind) (d : Dev) : d.gates (hostNakFrame ch psn kind d) :=
  rxArrive_gates (hostNak_gates ch psn kind d)

end Sys2Proof.Machine
end

section
/-!
The commands of single rows that leave the strand lines as they stand (R241).
-/
namespace Sys2Proof.Machine

@[simp] theorem pointQuarantine_lines_eq (p : Nat) (d : Dev) : (pointQuarantine p d).lines = d.lines := by
  unfold pointQuarantine
  extract_lets _ d1 old _ x d2 d3
  have h2 : d2.lines = d.lines := by simp [d2, d1]
  have h3 : d3.lines = d.lines :=
    iteInduction (motive := fun e : Dev => e.lines = d.lines) (fun _ => h2) (fun _ => (pointChanged_lines_eq ..).trans h2)
  exact (rightsChanged_lines_eq d3).trans h3

@[simp] theorem hartStart_lines_eq (k : Nat) (d : Dev) : (hartStart k d).lines = d.lines := by
  unfold hartStart
  dsimp only
  split
  · rfl
  · split
    · simp
    · split <;> simp

@[simp] theorem hartBurst_lines_eq (k : Nat) (d : Dev) : (hartBurst k d).lines = d.lines := by
  unfold hartBurst
  dsimp only
  split <;> rfl

@[simp] theorem loopFollowing_lines_eq (j : Nat) (d : Dev) : (loopFollowing j d).lines = d.lines := by
  unfold loopFollowing
  dsimp only
  split <;> simp

@[simp] theorem periodicSave_lines_eq (d : Dev) : (periodicSave d).lines = d.lines := by
  unfold periodicSave
  split <;> rfl

@[simp] theorem snapshotComplete_lines_eq (us : Nat) (d : Dev) : (snapshotComplete us d).lines = d.lines := by
  unfold snapshotComplete
  split <;> simp

@[simp] theorem tailComplete_lines_eq (d : Dev) : (tailComplete d).lines = d.lines := by
  unfold tailComplete
  split <;> simp

@[simp] theorem calCompare_lines_eq (ptpNs : Nat) (d : Dev) : (calCompare ptpNs d).lines = d.lines := by
  unfold calCompare
  extract_lets second d1 ns diff goal
  have h1 : d1.lines = d.lines := (fireDue_lines_eq ..).trans rfl
  clear_value d1
  split
  · rfl
  · split
    · split <;> simp [h1]
    · split <;> simp [h1]

@[simp] theorem trimCrossing_lines_eq (x : Nat) (changed : Bool) (d : Dev) : (trimCrossing x changed d).lines = d.lines := by
  unfold trimCrossing
  dsimp only
  split
  · simp
  · split
    · simp
    · split <;> simp

@[simp] theorem meterCrossing_lines_eq (x phase frac : Nat) (d : Dev) : (meterCrossing x phase frac d).lines = d.lines := by
  unfold meterCrossing
  dsimp only
  split <;> simp

@[simp] theorem completionWrite_lines_eq (ch : Nat) (d : Dev) : (completionWrite ch d).lines = d.lines := by
  unfold completionWrite
  dsimp only
  repeat' split
  all_goals simp

@[simp] theorem completionRow_lines_eq (ch : Nat) (d : Dev) : (completionRow ch d).lines = d.lines := by simp [completionRow]

@[simp] theorem retransmit_lines_eq (ch : Nat) (d : Dev) : (retransmit ch d).lines = d.lines := by
  unfold retransmit
  dsimp only
  split
  · rfl
  · split <;> simp

@[simp] theorem depart_lines_eq (d : Dev) : (depart d).lines = d.lines := by
  have h := depart_sendsOnly d
  unfold Dev.sendsOnly at h
  rw [h]

@[simp] theorem gateExpiry_lines_eq (p : Nat) (d : Dev) : (gateExpiry p d).lines = d.lines := by
  unfold gateExpiry
  dsimp only
  split <;> simp

@[simp] theorem pauseTaken_lines_eq (p : Nat) (f : PauseFrame) (ns hold : Nat) (d : Dev) :
    (pauseTaken p f ns hold d).lines = d.lines := by
  unfold pauseTaken
  dsimp only
  repeat' split
  all_goals simp

@[simp] theorem pauseExpiry_lines_eq (p c : Nat) (d : Dev) : (pauseExpiry p c d).lines = d.lines := by
  unfold pauseExpiry
  dsimp only
  split <;> simp

@[simp] theorem ownPauseStart_lines_eq (p : Nat) (d : Dev) : (ownPauseStart p d).lines = d.lines := by
  unfold ownPauseStart
  dsimp only
  split <;> simp

@[simp] theorem rxBuffer_lines_eq (p fill : Nat) (d : Dev) : (rxBuffer p fill d).lines = d.lines := by
  unfold rxBuffer
  dsimp only
  split <;> simp

@[simp] theorem suppressionEnd_lines_eq (p : Nat) (d : Dev) : (suppressionEnd p d).lines = d.lines := by
  unfold suppressionEnd
  dsimp only
  split <;> simp

@[simp] theorem pdelaySend_lines_eq (p : Nat) (d : Dev) : (pdelaySend p d).lines = d.lines := by
  unfold pdelaySend
  dsimp only
  split <;> rfl

@[simp] theorem ppsEdge_lines_eq (ns high : Nat) (d : Dev) : (ppsEdge ns high d).lines = d.lines := by
  unfold ppsEdge
  extract_lets
  split
  · rfl
  · exact iteInduction (motive := fun e : Dev => e.lines = d.lines) (fun _ => report_lines_eq ..) (fun _ => rfl)

@[simp] theorem ppsFault_lines_eq (d : Dev) : (ppsFault d).lines = d.lines := by
  unfold ppsFault
  split
  · rfl
  · split <;> simp

@[simp] theorem ppsPulseEnd_lines_eq (d : Dev) : (ppsPulseEnd d).lines = d.lines := by
  unfold ppsPulseEnd
  split <;> rfl

@[simp] theorem supplyFail_lines_eq (d : Dev) : (supplyFail d).lines = d.lines := by
  unfold supplyFail
  dsimp only
  split <;> simp

@[simp] theorem supplyClear_lines_eq (d : Dev) : (supplyClear d).lines = d.lines := by
  unfold supplyClear tailCleared
  dsimp only
  split <;> simp

@[simp] theorem portLink_lines_eq (p : Nat) (mbit : Option Nat) (d : Dev) : (portLink p mbit d).lines = d.lines := by
  unfold portLink
  split
  · split <;> simp
  · split <;> rfl

@[simp] theorem delayExpiry_lines_eq (e l : Nat) (d : Dev) : (delayExpiry e l d).lines = d.lines := by
  unfold delayExpiry
  split
  · split <;> rfl
  · rfl

@[simp] theorem shutdownConfirmed_lines_eq (confirm : Reg) (d : Dev) : (shutdownConfirmed confirm d).lines = d.lines := by
  unfold shutdownConfirmed
  split <;> simp

/-! ### Recovery mode (R598 to R600) -/

/-- A request of recovery mode leaves the lines where its own action does. -/
theorem recServe_lines_eq {op : Nat} {m : RecoveryIn} {act : Recovery → List Byte → Dev → Nat × List Byte × Dev}
    (h : ∀ r bs d, (act r bs d).2.2.lines = d.lines) (d : Dev) : (recServe op m act d).lines = d.lines := by
  have hrun : ∀ r seq, (recServe.run op m act d r seq).lines = d.lines := by
    intro r seq
    unfold recServe.run
    dsimp only
    split
    · rfl
    · exact h ..
  unfold recServe
  dsimp only
  split
  · rfl
  · split
    · rfl
    · split
      · split
        · rfl
        · exact hrun ..
      · exact hrun ..

@[simp] theorem recIdent_lines_eq (m : RecoveryIn) (d : Dev) : (recIdent m d).lines = d.lines :=
  recServe_lines_eq (fun _ _ _ => rfl) d

@[simp] theorem recBegin_lines_eq (m : RecoveryIn) (d : Dev) : (recBegin m d).lines = d.lines := by
  refine recServe_lines_eq (fun r bs d => ?_) d
  dsimp only
  split
  · rfl
  · split <;> rfl

@[simp] theorem recData_lines_eq (m : RecoveryIn) (d : Dev) : (recData m d).lines = d.lines := by
  refine recServe_lines_eq (fun r bs d => ?_) d
  dsimp only
  repeat' split
  all_goals simp

@[simp] theorem recEnd_lines_eq (m : RecoveryIn) (d : Dev) : (recEnd m d).lines = d.lines := by
  refine recServe_lines_eq (fun r bs d => ?_) d
  dsimp only
  split
  · rfl
  · exact iteInduction (motive := fun x : Nat × List Byte × Dev => x.2.2.lines = d.lines) (fun _ => rfl) (fun _ => rfl)

theorem recBoot_gates (m : RecoveryIn) (d : Dev) : d.gates (recBoot m d) := by
  unfold recBoot
  extract_lets served e
  split
  · exact gates_of_inReset e rfl
  · exact Dev.gates_of_lines (recServe_lines_eq (fun _ _ _ => rfl) d)

end Sys2Proof.Machine
end

section
/-!
The samples and the frames keep GATE of every strand with its line state (R241).
-/
namespace Sys2Proof.Machine

theorem sampleReads_gates (r : Readings) (d : Dev) : d.gates (sampleReads r d) := by
  unfold sampleReads
  extract_lets d1 d2 d3
  have h2 : d2.lines = d.lines :=
    (foldl_lines_eq (fun d k => clSample_lines_eq k (tget 0 d.inp.cl k) d) (List.range 8) d1).trans (takeReadings_lines_eq r d)
  have h3 : d2.gates d3 := foldl_gates (fun d k => lineSample_gates k _ _ _ d) _ d2
  clear_value d3
  exact Dev.gates_after h2 (Dev.gates_then h3 ((portsSample_lines_eq _).trans (meterSamples_lines_eq _ _)))

theorem settleSample_gates (d : Dev) : d.gates (settleSample d) := by
  unfold settleSample
  refine Dev.gates_then (b := plySettle (fastWrite none (saveSample d))) ?_ (by simp)
  exact Dev.gates_after (by simp) (plySettle_gates _)

theorem sampleBoundary_gates (x : SampleIn) (d : Dev) : d.gates (sampleBoundary x d) := by
  unfold sampleBoundary
  split
  · exact Dev.gates_refl d
  · extract_lets d1 d2
    have h0 : d.gates (x.coreFail.foldl (fun d y => commandMemory y.1 y.2 d) (settleSample d)) :=
      Dev.gates_trans (settleSample_gates d) (foldl_gates (fun d (y : Nat × Nat) => commandMemory_gates y.1 y.2 d) _ _)
    have h1 : d.gates d1 := Dev.gates_then h0 (restartSettle_lines_eq _)
    have h2 : d.gates d2 := Dev.gates_then h1 rfl
    clear_value d2
    refine Dev.gates_then (Dev.gates_trans h2 (oneCycle_gates (fun d => ?_) d2)) (phaseAt_lines_eq _ _)
    exact Dev.gates_then (sampleReads_gates x.reads d) ((fastSample_lines_eq _).trans (ppsSample_lines_eq _))

theorem restOfFrame_gates (d : Dev) : d.gates (restOfFrame d) := foldl_gates (fun d _ => sampleBoundary_gates quietSample d) _ d

theorem endFrame_gates (dc : List (Nat × Int × Int × Int)) (d : Dev) : d.gates (endFrame dc d) := by
  unfold endFrame
  extract_lets d1 d2 d3
  have h1 : d1.lines = (linesFrame 32 d).lines := foldl_lines_eq (fun d k => clFrameEnd_lines_eq k d) _ _
  have h2 : d2.lines = d1.lines := by simp [d2]
  have h3 : d3.lines = d2.lines := foldl_lines_eq (fun d k => pulseFrame_lines_eq k d) _ _
  clear_value d3
  refine Dev.gates_then (Dev.gates_then (linesFrame_gates 32 d) (h3.trans (h2.trans h1))) ?_
  simp

theorem frameStart_gates (x : FrameIn) (snap : Option (List (BitVec 512))) (ram : Nat → Byte) (d : Dev) :
    d.gates (frameStart x snap ram d) := by
  unfold frameStart
  extract_lets d1 d2 cal d3
  have h1 : d.gates d1 := by
    refine Dev.gates_then ?_ (restartSettle_lines_eq _)
    exact Dev.gates_trans (restOfFrame_gates d) (Dev.gates_trans (settleSample_gates _) (settleLimits_gates _))
  have h2 : d1.gates d2 := Dev.gates_then (endPhaseF_gates ram d1) ((noteDeferred_lines_eq _).trans (settleStrobes_lines_eq _))
  have h3 : d2.gates d3 := by
    refine oneCycle_gates (fun d => ?_) d2
    refine Dev.gates_then ?_ ((fastSample_lines_eq _).trans (plyFrameStart_lines_eq _))
    refine Dev.gates_trans ?_ (endFrame_gates x.dc _)
    exact Dev.gates_after (countFrame_lines_eq d) (sampleReads_gates x.reads _)
  clear_value d3
  refine Dev.gates_trans (Dev.gates_trans h1 (Dev.gates_trans h2 h3)) ?_
  exact Dev.gates_after ((phaseA_lines_eq ..).trans (safetySnapshot_lines_eq ..)) (thermal_gates x.temp _)

theorem windowEndStrobe_gates (x : WindowIn) (ram : Nat → Byte) (d : Dev) : d.gates (windowEndStrobe x ram d) := by
  unfold windowEndStrobe
  split
  · exact Dev.gates_refl d
  · extract_lets d1 d2
    have h1 : d.gates d1 := by
      dsimp only [d1]
      split
      · exact Dev.gates_after (fastWrite_lines_eq none d) (endPhaseF_gates ram _)
      · exact Dev.gates_refl d
    have h2 : d2.lines = d1.lines := (notePeak_lines_eq ..).trans (phaseStrobe_lines_eq ..)
    clear_value d2
    refine Dev.gates_then (Dev.gates_then h1 h2) ?_
    split
    · exact (foldl_lines_eq (fun d t => noteTaskPeak_lines_eq t d) _ _).trans
        (foldl_lines_eq (fun d l => noteLanePeak_lines_eq l d) _ _)
    · rfl

/-! ### Commands of the host (R111, R121) -/

theorem checkMember_lines_eq (inF : Bool) (prior : List Cmd) (c : Cmd) (d : Dev) :
    (checkMember inF prior c d).2.lines = d.lines := by
  unfold checkMember
  split
  · rfl
  · exact noteRefused_lines_eq ..
  · split
    · dsimp only
      split <;> simp
    · exact lifecycleCheck_lines_eq ..

theorem checkMembers_lines_eq (inF : Bool) (ms : List Cmd) (d : Dev) : (checkMembers inF ms d).2.lines = d.lines := by
  have h : ∀ a : List (Cmd × Check) × Dev, (ms.foldl (fun a c =>
      let r := checkMember inF (a.1.map (·.1)) c a.2
      (a.1 ++ [(c, r.1)], r.2)) a).2.lines = a.2.lines := by
    induction ms with
    | nil => exact fun _ => rfl
    | cons c ms ih => exact fun a => (ih _).trans (checkMember_lines_eq ..)
  exact h ([], d)

theorem queueMembers_lines_eq (ms : List Cmd) (d : Dev) : (queueMembers ms d).lines = d.lines := by
  unfold queueMembers
  extract_lets d1 xs
  have h1 : d1.lines = d.lines := foldl_lines_eq (fun d c => setSlot_lines_eq d _) _ _
  clear_value d1
  split
  · exact h1
  · exact h1

theorem runMembers_gates (ram : Nat → Byte) (ms : List Cmd) (d : Dev) : d.gates (runMembers ram ms d) := by
  unfold runMembers
  extract_lets r
  have hr : r.2.lines = d.lines := checkMembers_lines_eq ..
  clear_value r
  refine Dev.gates_after hr ?_
  split
  · exact Dev.gates_of_lines (endMembers_lines_eq ..)
  · split
    · exact Dev.gates_of_lines (queueMembers_lines_eq ..)
    · exact applyMembers_gates ram ms r.2

theorem execCommand_gates (wants : Cmd → Bool) (ch tag : Nat) (ram : Nat → Byte) (d : Dev) :
    d.gates (execCommand wants ch tag ram d) := by
  unfold execCommand
  split
  · exact Dev.gates_refl d
  · split
    · exact Dev.gates_refl d
    · split
      · exact foldl_gates (fun d m => limitCommand_gates m d) _ d
      · exact runMembers_gates ram _ d

end Sys2Proof.Machine
end

section
/-!
GATE of every strand follows its line state, whatever a step does (R241).
-/
namespace Sys2Proof.Machine

/-- An answer that keeps GATE of every strand with its line state. -/
def State.lets (s : State) (a : Answer) : Prop := ∀ t, a = .next t → s.dev.gates t.dev

theorem whenMain_gates {f : Dev → Dev} (h : ∀ d, Dev.gates d (f d)) (d : Dev) : d.gates (whenMain f d) := by
  unfold whenMain
  split
  · exact h d
  · exact Dev.gates_refl d

namespace State.lets

variable {s : State}

theorem next {t : State} (h : s.dev.gates t.dev) : s.lets (.next t) := by
  intro u hu
  obtain rfl := Host.Outcome.next.inj hu
  exact h

theorem checked {i : Instr} {a : Answer} (h : s.lets a) : s.lets (Sys2Proof.Machine.checked i a) := by
  unfold Sys2Proof.Machine.checked
  split
  · exact h
  · exact fun t ht => nomatch ht

theorem island {f : Island → Island} : s.lets (islandStep f s) := next (Dev.gates_refl _)

theorem module {f : Dev → Dev} (h : ∀ d, Dev.gates d (f d)) : s.lets (moduleStep f s) := by
  refine next (Dev.gates_trans (b := f s.dev.fresh0) ?_ (Dev.gates_of_lines (depart_lines_eq _)))
  exact Dev.gates_trans (Dev.gates_of_lines (d' := s.dev.fresh0) rfl) (h _)

theorem moduleM {f : (Nat → Byte) → Dev → Dev} (h : ∀ ram d, Dev.gates d (f ram d)) : s.lets (moduleStepM f s) := by
  refine next (Dev.gates_trans (b := f (Memory.read s.sram) s.dev.fresh0) ?_ (Dev.gates_of_lines (depart_lines_eq _)))
  exact Dev.gates_trans (Dev.gates_of_lines (d' := s.dev.fresh0) rfl) (h _ _)

theorem main {f : Dev → Dev} (h : ∀ d, Dev.gates d (f d)) : s.lets (mainStep f s) := module (whenMain_gates h)

theorem mainR {f : (Nat → Byte) → Dev → Dev} (h : ∀ ram d, Dev.gates d (f ram d)) : s.lets (mainStepR f s) :=
  module (whenMain_gates (h _))

theorem mainM {f : (Nat → Byte) → Dev → Dev} (h : ∀ ram d, Dev.gates d (f ram d)) : s.lets (mainStepM f s) :=
  moduleM fun ram => whenMain_gates (h ram)

/-! Rows that leave the lines as they stand. -/

theorem mainLines {f : Dev → Dev} (h : ∀ d, (f d).lines = d.lines) : s.lets (mainStep f s) := main fun d => Dev.gates_of_lines (h d)

theorem mainRLines {f : (Nat → Byte) → Dev → Dev} (h : ∀ ram d, (f ram d).lines = d.lines) : s.lets (mainStepR f s) :=
  mainR fun ram d => Dev.gates_of_lines (h ram d)

theorem mainMLines {f : (Nat → Byte) → Dev → Dev} (h : ∀ ram d, (f ram d).lines = d.lines) : s.lets (mainStepM f s) :=
  mainM fun ram d => Dev.gates_of_lines (h ram d)

theorem moduleLines {f : Dev → Dev} (h : ∀ d, (f d).lines = d.lines) : s.lets (moduleStep f s) :=
  module fun d => Dev.gates_of_lines (h d)

theorem moduleMLines {f : (Nat → Byte) → Dev → Dev} (h : ∀ ram d, (f ram d).lines = d.lines) : s.lets (moduleStepM f s) :=
  moduleM fun ram d => Dev.gates_of_lines (h ram d)

end State.lets

theorem hsArrive_gates {f : HsIn} {act : Dev → Dev} (h : ∀ d, (act d).lines = d.lines) (d : Dev) : d.gates (hsArrive f act d) := by
  refine rxArrive_gates (Dev.gates_of_lines ?_)
  split
  · exact h d
  · rfl

theorem porstAssert_lets (ns : Nat) (s : State) : s.lets (exec (.porstAssert ns) s) := by
  have he : exec (.porstAssert ns) s =
      if ns < 100 then .next s else if ns < 1000 then .fault .porstPulseUndefined else moduleStep porstAssert s := rfl
  rw [he]
  split
  · exact .next (Dev.gates_refl _)
  · split
    · exact fun t ht => nomatch ht
    · exact .module fun d => porstAssert_gates d

/-- Whatever the command. -/
theorem exec_lets (i : Instr) (s : State) : s.lets (exec i s) := by
  cases i
  case sampleBoundary => exact .mainM fun _ d => sampleBoundary_gates _ d
  case frameStart => exact .mainM fun _ d => frameStart_gates _ _ _ d
  case windowEndStrobe => exact .mainM fun _ d => windowEndStrobe_gates _ _ d
  case silenceLatchCut => exact .mainLines latchCut_lines_eq
  case fastLoopOutputWrite => exact .mainLines (fastWrite_lines_eq _)
  case ptpAlignEnWrite => exact .mainLines (alignWrite_lines_eq _)
  case timebaseMeasurement => exact .mainLines timebaseMeasurement_lines_eq
  case timebaseTimeout => exact .mainLines timebaseTimeout_lines_eq
  case commandAccept => exact .checked (.main fun d => commandAccept_gates _ _ _ _ d)
  case groupArrivalTimeout => exact .checked (.mainLines (groupTimeout_lines_eq _))
  case commandLimit => exact .checked (.main fun d => commandLimit_gates _ _ d)
  case completion => exact .checked (.mainLines (completionRow_lines_eq _))
  case nop => exact .checked (.mainR fun _ d => execCommand_gates _ _ _ _ d)
  case pointRead => exact .checked (.mainR fun _ d => execCommand_gates _ _ _ _ d)
  case pointWrite => exact .checked (.mainR fun _ d => execCommand_gates _ _ _ _ d)
  case pointConfig => exact .checked (.mainR fun _ d => execCommand_gates _ _ _ _ d)
  case alarmAck => exact .checked (.mainR fun _ d => execCommand_gates _ _ _ _ d)
  case alarmDelayExpiry => exact .checked (.mainLines (delayExpiry_lines_eq _ _))
  case readEntry => exact .checked (.mainR fun _ d => execCommand_gates _ _ _ _ d)
  case writeEntry => exact .checked (.mainR fun _ d => execCommand_gates _ _ _ _ d)
  case readReg => exact .checked (.mainR fun _ d => execCommand_gates _ _ _ _ d)
  case writeReg => exact .checked (.mainR fun _ d => execCommand_gates _ _ _ _ d)
  case shareMaskWrite => exact .checked (.main fun d => directWrite_gates _ d)
  case subRangeWrite => exact .checked (.main fun d => directWrite_gates _ d)
  case subEnable => exact .checked (.main fun d => directWrite_gates _ d)
  case bankExchange => exact .checked (.mainR fun _ d => execCommand_gates _ _ _ _ d)
  case taskEnWrite => exact .checked (.main fun d => directWrite_gates _ d)
  case loopEnWrite => exact .checked (.main fun d => directWrite_gates _ d)
  case loopModeWrite => exact .checked (.main fun d => directWrite_gates _ d)
  case loopFollowingError => exact .checked (.mainLines (loopFollowing_lines_eq _))
  case strandLineOff => exact .checked (.mainR fun _ d => execCommand_gates _ _ _ _ d)
  case strandLineOn => exact .checked (.mainR fun _ d => execCommand_gates _ _ _ _ d)
  case strandLineResetLatch => exact .checked (.mainR fun _ d => execCommand_gates _ _ _ _ d)
  case hartSend => exact .checked (.mainR fun _ d => execCommand_gates _ _ _ _ d)
  case timeSetStep => exact .checked (.mainR fun _ d => execCommand_gates _ _ _ _ d)
  case timeSetSlew => exact .checked (.mainR fun _ d => execCommand_gates _ _ _ _ d)
  case pair => exact .checked (.mainR fun _ d => execCommand_gates _ _ _ _ d)
  case unpair => exact .checked (.mainR fun _ d => execCommand_gates _ _ _ _ d)
  case yieldRole => exact .checked (.mainR fun _ d => execCommand_gates _ _ _ _ d)
  case retryCutover => exact .checked (.mainR fun _ d => execCommand_gates _ _ _ _ d)
  case updateBegin => exact .checked (.mainR fun _ d => execCommand_gates _ _ _ _ d)
  case updateData => exact .checked (.mainR fun _ d => execCommand_gates _ _ _ _ d)
  case updateEnd => exact .checked (.mainR fun _ d => execCommand_gates _ _ _ _ d)
  case updateErased => exact .mainLines (updateErased_lines_eq _)
  case updateVerified => exact .mainLines (updateVerified_lines_eq _)
  case lifecycleSet => exact .checked (.mainR fun _ d => execCommand_gates _ _ _ _ d)
  case deviceRestart => exact .checked (.mainR fun _ d => execCommand_gates _ _ _ _ d)
  case channelOpen => exact .checked (.mainLines (channelOpen_lines_eq _))
  case channelClose => exact .checked (.mainLines (channelClose_lines_eq _))
  case invalidRequest => exact .checked (.main fun d => invalidRequest_gates _ d)
  case hostAck => exact .checked (.main fun d => hostAckFrame_gates _ _ d)
  case hostNak => exact .checked (.main fun d => hostNakFrame_gates _ _ _ d)
  case retransmitTimeout => exact .checked (.mainLines (retransmit_lines_eq _))
  case rnrRetry => exact .checked (.mainLines (rnrRetry_lines_eq _))
  case recordTransmit => exact .checked (.mainLines (recordTransmit_lines_eq _))
  case producerPublish => exact .checked (.mainLines (producerPublish_lines_eq _))
  case linkUp => exact .checked (.moduleLines (portLink_lines_eq _ _))
  case linkDown => exact .checked (.moduleLines (portLink_lines_eq _ _))
  case pcsSyncLost => exact .checked (.mainLines (pcsSyncLost_lines_eq _))
  case linkSearchStep => exact .checked (.mainLines (linkSearchStep_lines_eq _))
  case portModeWrite => exact .checked (.main fun d => directWrite_gates _ d)
  case arpRequest => exact .checked (.main fun d => arpRequest_gates _ _ d)
  case pauseFrameReceive => exact .checked (.main fun d => rxArrive_gates (Dev.gates_of_lines (pauseTaken_lines_eq _ _ _ _ d)))
  case pauseTimerExpiry => exact .checked (.mainLines (pauseExpiry_lines_eq _ _))
  case pauseWatchdog => exact .checked (.mainLines (pauseWatchdog_lines_eq _))
  case pauseResumed => exact .checked (.mainLines (pauseResumed_lines_eq _))
  case rxBufferPause => exact .checked (.mainLines (rxBuffer_lines_eq _ _))
  case ownPauseRepeat => exact .checked (.mainLines (ownPauseRepeat_lines_eq _))
  case rxPauseLimit => exact .checked (.mainLines (rxPauseLimit_lines_eq _))
  case gateEntryExpiry => exact .checked (.mainLines (gateExpiry_lines_eq _))
  case ptpSync => exact .checked (.main fun d => ptpSync_gates _ d)
  case ptpAnnounce => exact .checked (.main fun d => ptpAnnounce_gates _ d)
  case announceTimeout => exact .checked (.mainLines (announceTimeout_lines_eq _))
  case pdelayReqSend => exact .checked (.mainLines (pdelaySend_lines_eq _))
  case pdelayMessage => exact .checked (.main fun d => pdelayMessage_gates _ _ d)
  case timePpsInEdge => exact .mainLines (ppsEdge_lines_eq _ _)
  case ppsInFault => exact .mainLines ppsFault_lines_eq
  case ppsOutPulseEnd => exact .mainLines ppsPulseEnd_lines_eq
  case phyMdioCmd => exact .main fun d => directWrite_gates _ d
  case mdioComplete => exact .mainLines (mdioComplete_lines_eq _)
  case fastTrip => exact .checked (.main (oneCycle_gates fun d => fastTrip_gates _ _ d))
  case lineOverload => exact .checked (.main (oneCycle_gates fun d => lineOverload_gates _ d))
  case lineBackfeed => exact .checked (.main (oneCycle_gates fun d => lineBackfeed_gates _ d))
  case precheckPassed => exact .checked (.main fun d => precheckPassed_gates _ d)
  case inrushEnd => exact .checked (.main (oneCycle_gates fun d => inrushEnd_gates _ d))
  case retryBackoffEnd => exact .checked (.main fun d => retryBackoffEnd_gates _ d)
  case failCntClear => exact .checked (.main (oneCycle_gates fun d => failCntClear_gates _ d))
  case strandCycleStart => exact .checked (.main fun d => strandCycleStart_gates _ _ d)
  case trailingCopySend => exact .checked (.main fun d => trailingCopySend_gates _ _ d)
  case strandReplyReceive => exact .checked (.mainLines (strandReplyReceive_lines_eq _ _ _ _))
  case replySlotMiss => exact .checked (.mainLines (replySlotMiss_lines_eq _ _))
  case twinCopyReceive => exact .checked (.mainLines (twinCopyReceive_lines_eq _ _ _))
  case nodeEnWrite => exact .checked (.main fun d => directWrite_gates _ d)
  case meterZeroCrossing => exact .checked (.mainLines (meterCrossing_lines_eq _ _ _))
  case sensorCondition => exact .checked (.mainLines (sensorCondition_lines_eq _))
  case meterPeriodicSave => exact .mainMLines fun _ => periodicSave_lines_eq
  case accPreset => exact .checked (.mainLines (accPreset_lines_eq _ _ _))
  case pulseEnd => exact .checked (.mainLines (pulseEnd_lines_eq _))
  case clCondition => exact .checked (.mainLines (clCondition_lines_eq _))
  case hartTransactionStart => exact .checked (.mainLines (hartStart_lines_eq _))
  case hartReply => exact .checked (.mainLines (hartReply_lines_eq _ _ _ _ _))
  case hartNoReply => exact .checked (.mainLines (hartNoReply_lines_eq _ _))
  case islandTick => exact .checked .island
  case safetyInputFall => exact .checked .island
  case discrepancyTimeout => exact .checked .island
  case testPulse => exact .island
  case testPulseCheck => exact .island
  case sealReread => exact .island
  case stpOverload => exact .island
  case switchTestStep => exact .checked .island
  case brakeTimeout => exact .checked .island
  case safetyFaultCleared => exact .checked .island
  case safeVddChange => exact .island
  case islandSelfTestEnd => exact .island
  case islandOscFault => exact .island
  case islandLinkLost => exact .mainLines islandLinkLost_lines_eq
  case recMark => exact .mainLines (recMark_lines_eq _)
  case supplyFailWarning => exact .moduleMLines fun _ => supplyFail_lines_eq
  case meterSnapshot => exact .mainMLines fun _ => snapshotComplete_lines_eq _
  case tailSaveComplete => exact .mainMLines fun _ => tailComplete_lines_eq
  case supplyCleared => exact .moduleMLines fun _ => supplyClear_lines_eq
  case vmainFail => exact .module fun d => vmainFail_gates d
  case vmainRestore => exact .moduleLines vmainRestore_lines_eq
  case retentionLoss => exact .moduleLines retentionLoss_lines_eq
  case rtcCount => exact .moduleLines rtcCount_lines_eq
  case alarmFired => exact .checked (.moduleLines (alarmFire_lines_eq _))
  case alarmEnWrite => exact .checked (.main fun d => directWrite_gates _ d)
  case oscStopped => exact .moduleLines oscStopped_lines_eq
  case calSlewDone => exact .moduleLines slewDone_lines_eq
  case calPtpCompare => exact .mainLines (calCompare_lines_eq _)
  case utcOffsetStep => exact .mainLines utcOffsetStep_lines_eq
  case trimWindowEnd => exact .moduleLines trimEnd_lines_eq
  case wakePin => exact .moduleLines (wakePin_lines_eq _)
  case rlAckWrite => exact .mainLines rlAck_lines_eq
  case shutdownWrite => exact .mainMLines fun _ => shutdownConfirmed_lines_eq _
  case pwrHoldRelease => exact .moduleLines pwrHoldRelease_lines_eq
  case shutdownFailed => exact .module fun d => shutdownFailed_gates d
  case porstAssert => exact porstAssert_lets _ s
  case mainResetRelease => exact .moduleMLines (mainRelease_lines_eq _ _)
  case resetOutRelease => exact .moduleLines resetOutRelease_lines_eq
  case thermalRecover => exact .moduleMLines (thermalRecover_lines_eq _ _)
  case scrubPass => exact .main fun d => scrubPass_gates _ d
  case pointMemory => exact .checked (.mainLines (pointMemory_lines_eq _))
  case pointQuarantined => exact .checked (.mainLines (pointQuarantine_lines_eq _))
  case alarmMemory => exact .checked (.mainLines (alarmMemory_lines_eq _))
  case subMemory => exact .checked (.mainLines (subMemory_lines_eq _))
  case taskMemory => exact .checked (.mainLines (taskMemory_lines_eq _ _ _))
  case bankMemory => exact .checked (.mainLines (bankMemory_lines_eq _))
  case taskEntryMemory => exact .checked (.mainLines (taskEntryMemory_lines_eq _))
  case loopMemory => exact .checked (.mainLines (loopMemory_lines_eq _))
  case nodeMemory => exact .checked (.mainLines (nodeMemory_lines_eq _))
  case accMemory => exact .checked (.mainRLines fun _ => accMemory_lines_eq _ _)
  case channelMemory => exact .checked (.mainLines (channelMemory_lines_eq _))
  case clMemory => exact .checked (.mainLines (clMemory_lines_eq _))
  case recordMemory => exact .checked (.mainLines (recordMemory_lines_eq _))
  case retainedMemory => exact .checked (.mainMLines fun _ => retainedMemory_lines_eq _ _)
  case plyStatusReceive => exact .main fun d => plyStatusReceive_gates _ _ d
  case plyMirrorReceive => exact .main fun d => plyMirrorReceive_gates _ d
  case plyCatchupReceive => exact .main fun d => plyCatchupReceive_gates _ d
  case plyNoticeReceive => exact .main fun d => plyNoticeReceive_gates _ d
  case catchupSend => exact .mainLines catchupSend_lines_eq
  case cutoverLoad => exact .main fun d => cutoverLoad_gates d
  case plyLinkLost => exact .mainLines plyLinkLost_lines_eq
  case hbLost => exact .mainLines hbLost_lines_eq
  case twinLost => exact .mainLines twinLost_lines_eq
  case joinStepTimeout => exact .mainLines joinTimeout_lines_eq
  case catchupRestart => exact .mainLines catchupRestart_lines_eq
  case yieldSwap => exact .mainLines yieldSwap_lines_eq
  case yieldCancelled => exact .mainLines yieldCancelled_lines_eq
  case selfYield => exact .mainLines selfYield_lines_eq
  case digestRecompute => exact .checked (.mainLines (digestRecompute_lines_eq _))
  case digestMismatch => exact .mainLines digestMismatch_lines_eq
  case health => exact .mainLines health_lines_eq
  case hostHello => exact .checked (.main fun d => hsArrive_gates (hostHello_lines_eq _) d)
  case hostFinish => exact .checked (.main fun d => hsArrive_gates (hostFinish_lines_eq _) d)
  case handshakeTimeout => exact .mainLines handshakeTimeout_lines_eq
  case enroll => exact .checked (.main fun d => hsArrive_gates (enroll_lines_eq _) d)
  case sessionEnd => exact .checked (.main fun d => hsArrive_gates (sessionEnd_lines_eq _) d)
  case sessionIdle => exact .mainLines sessionIdle_lines_eq
  case sessionClose => exact .mainLines sessionClose_lines_eq
  case debugAttached => exact .mainLines debugAttached_lines_eq
  case entropyFault => exact .mainLines entropyFault_lines_eq
  case recoveryLinkSearch => exact .moduleLines fun _ => rfl
  case recoveryIdent => exact .moduleLines (recIdent_lines_eq _)
  case recoveryBegin => exact .moduleLines (recBegin_lines_eq _)
  case recoveryData => exact .moduleLines (recData_lines_eq _)
  case recoveryEnd => exact .moduleLines (recEnd_lines_eq _)
  case recoveryBoot => exact .module fun d => recBoot_gates _ d
  case recoveryEraseDone => exact .moduleLines fun _ => rfl
  case restartReset => exact .mainM fun _ d => restartReset_gates d
  case hartRetry => exact .checked (.mainLines (hartRetry_lines_eq _))
  case hartBurstFrame => exact .checked (.mainLines (hartBurst_lines_eq _))
  case rxFrameDropped => exact .checked (.main fun d => rxArrive_gates (Dev.gates_refl d))
  case plyHbInChange => exact .mainLines fun _ => rfl
  case ownPauseSuppressionEnd => exact .checked (.mainLines (suppressionEnd_lines_eq _))
  case maskWindowEnd => exact .island

/-- Settles O8: every function that changes a line keeps GATE with its state, and the others leave the lines as they stand. -/
theorem lineGateFollowsState : Obligations.LineGateFollowsState := by
  intro s t hg hstep
  unfold step at hstep
  split at hstep
  · obtain rfl := Host.Outcome.next.inj hstep
    exact hg
  · next c rest _ => exact exec_lets c { s with pending := rest } t hstep hg

end Sys2Proof.Machine
end
